-- ==== Sys2Proof/Word.lean ====
section
/-! DEFINITION. The word types of the LM9612 model.  Registers are 32 bits wide (R9); memories
are byte addressed and little-endian (R8).  Quantities the manual adds, compares or saturates
are carried as `Nat` or `Int` and narrowed where the manual narrows them. -/

namespace Sys2Proof

/-- A 32-bit register or word (R9). -/
abbrev Word := BitVec 32

/-- A byte of a memory (R8). -/
abbrev Byte := BitVec 8

end Sys2Proof
end

