-- ==== Sys2Proof/Machine/Bits.lean ====
section
/-! DEFINITION. Bit fields, sign extension, byte order, rounding and saturation (R6, R7, R8).
Numbers are kept exact as `Nat` or `Int` and narrowed explicitly. -/

namespace Sys2Proof

/-- Bits `[lsb + w - 1 : lsb]` of a number. -/
def bitsAt (n lsb w : Nat) : Nat := n / 2 ^ lsb % 2 ^ w

/-- One bit of a number. -/
def bitAt (n i : Nat) : Bool := n / 2 ^ i % 2 == 1

/-- `n` with bits `[lsb + w - 1 : lsb]` replaced by the low `w` bits of `v`. -/
def putBits (n lsb w v : Nat) : Nat :=
  n - bitsAt n lsb w * 2 ^ lsb + v % 2 ^ w * 2 ^ lsb

/-- The number whose bits are those of `n` and `m` both, over `w` bits. -/
def andNat (w n m : Nat) : Nat := (BitVec.ofNat w n &&& BitVec.ofNat w m).toNat

/-- The number whose bits are those of `n` or `m`, over `w` bits. -/
def orNat (w n m : Nat) : Nat := (BitVec.ofNat w n ||| BitVec.ofNat w m).toNat

/-- The number whose bits are the exclusive or of `n` and `m`, over `w` bits. -/
def xorNat (w n m : Nat) : Nat := (BitVec.ofNat w n ^^^ BitVec.ofNat w m).toNat

/-- The two's complement value of the low `w` bits of `n` (R6). -/
def signed (w n : Nat) : Int :=
  let m := n % 2 ^ w
  if m < 2 ^ (w - 1) then (m : Int) else (m : Int) - (2 : Int) ^ w

/-- The `w`-bit two's complement code of `i`, modulo 2^w (R6). -/
def toBits (w : Nat) (i : Int) : Nat := (i % (2 : Int) ^ w).toNat

/-- Saturation to a signed `w`-bit range; applies only where the manual states it (R7). -/
def satS (w : Nat) (i : Int) : Int :=
  if i < -((2 : Int) ^ (w - 1)) then -((2 : Int) ^ (w - 1))
  else if i > (2 : Int) ^ (w - 1) - 1 then (2 : Int) ^ (w - 1) - 1 else i

/-- Saturation to an unsigned `w`-bit range (R7). -/
def satU (w : Nat) (i : Int) : Nat :=
  if i < 0 then 0 else if i > (2 : Int) ^ w - 1 then 2 ^ w - 1 else i.toNat

/-- Clamp of `i` to `lo .. hi`. -/
def clampI (lo hi i : Int) : Int := if i < lo then lo else if i > hi then hi else i

/-- Quotient of `n` by a positive `d`, rounded to nearest with ties to even (R7). -/
def rneDiv (n d : Int) : Int :=
  let q := n / d
  let r := n % d
  if 2 * r < d then q
  else if 2 * r > d then q + 1
  else if q % 2 = 0 then q else q + 1

/-- `n` divided by 2^k, rounded to nearest with ties to even (R7). -/
def rneShift (n : Int) (k : Nat) : Int := rneDiv n ((2 : Int) ^ k)

/-- Truncation toward minus infinity of `n / 2^k` (an arithmetic shift right). -/
def floorShift (n : Int) (k : Nat) : Int := n / (2 : Int) ^ k

/-- Quotient rounded toward plus infinity, for a positive divisor. -/
def ceilDiv (n d : Int) : Int := -((-n) / d)

/-- The absolute value as a natural number. -/
def absI (i : Int) : Nat := i.natAbs

/-- Number of bits set among the low `w` bits of `n`. -/
def popCount : Nat → Nat → Nat
  | 0, _ => 0
  | w + 1, n => n % 2 + popCount w (n / 2)

/-- The little-endian bytes of a number (R8). -/
def leBytes : Nat → Nat → List Nat
  | 0, _ => []
  | k + 1, n => n % 256 :: leBytes k (n / 256)

/-- The number whose little-endian bytes are given (R8). -/
def ofLeBytes : List Nat → Nat
  | [] => 0
  | b :: bs => b % 256 + 256 * ofLeBytes bs

/-- The integer square root, rounded down, by bisection over `k` bits. -/
def isqrtGo : Nat → Nat → Nat → Nat
  | 0, _, r => r
  | k + 1, n, r =>
    let c := r + 2 ^ k
    isqrtGo k n (if c * c ≤ n then c else r)

/-- The integer square root of a number below 2^128. -/
def isqrt (n : Nat) : Nat := isqrtGo 64 n 0

/-- The list `f 0, f 1, …, f (n - 1)`. -/
def tabulate {α : Type} (n : Nat) (f : Nat → α) : List α := (List.range n).map f

/-- The sum of `f 0 … f (n - 1)` as an integer. -/
def sumTo (n : Nat) (f : Nat → Int) : Int := (List.range n).foldl (fun a i => a + f i) 0

/-- Element `i` of a list, or `d` beyond its end. -/
def nth {α : Type} (d : α) : List α → Nat → α
  | [], _ => d
  | x :: _, 0 => x
  | _ :: xs, i + 1 => nth d xs i

/-- The list with element `i` replaced; unchanged when there is none. -/
def setNth {α : Type} : List α → Nat → α → List α
  | [], _, _ => []
  | _ :: xs, 0, v => v :: xs
  | x :: xs, i + 1, v => x :: setNth xs i v

/-- The first `n` elements, extended with `d` when there are fewer. -/
def padTo {α : Type} (d : α) : Nat → List α → List α
  | 0, _ => []
  | n + 1, [] => d :: padTo d n []
  | n + 1, x :: xs => x :: padTo d n xs

/-- The least element of a list by an integer key. -/
def minBy {α : Type} (key : α → Int) : List α → Option α
  | [] => none
  | x :: xs =>
    match minBy key xs with
    | none => some x
    | some y => if key y < key x then some y else some x

/-- Insert into an ascending list of integers. -/
def insertInt (x : Int) : List Int → List Int
  | [] => [x]
  | y :: ys => if x ≤ y then x :: y :: ys else y :: insertInt x ys

/-- A list of integers in ascending order. -/
def sortInts (xs : List Int) : List Int := xs.foldr insertInt []

/-- A Boolean as 0 or 1. -/
def b2n (b : Bool) : Nat := if b then 1 else 0

/-- Is `n` non-zero? -/
def isSet (n : Nat) : Bool := n != 0

/-- The lowest index below `n` that satisfies `p`. -/
def firstIdx (n : Nat) (p : Nat → Bool) : Option Nat := (List.range n).find? p

end Sys2Proof
end

