-- ==== Sys2Proof/Syntax.lean ====
section
/-! DEFINITION. The commands of the LM9612: one constructor for each row of the opcode table, with
what the environment, the host or the block's own sequencer hands over with it. -/

namespace Sys2Proof

/-- The commands and events of the block, one constructor for each row of the opcode table.
[DESIGN CHOICE, log 13] -/
inductive Instr where
  /-- REGISTER_WRITE (R9): A BAR0, scribe or DMA write to a register that has no behaviour of its own takes effect under the access code of R13, or is refused or discarded -/
  | registerWrite (addr : BitVec 26) (len : Nat) (be : BitVec 8) (data : BitVec 64)
  /-- BAR2_ACCESS (R488): A host request through BAR2 reaches DRAM, or completes with Unsupported Request or Completer Abort -/
  | bar2Access (write : Bool) (addr : BitVec 40) (bytes : List (BitVec 8)) (len : Nat) (errs : List (Nat × Nat))
  /-- ENCODER_STEP (R16): An accepted quadrature or pulse step of an encoder changes the count, and for the web master it moves the internal position by TIMELINE_RATIO -/
  | encoderStep (e : Fin 4) (a b : Bool)
  /-- SSI_TRANSFER_START (R20): Every PERIOD ticks an SSI encoder starts clocking a new absolute sample -/
  | ssiTransferStart (e : Fin 4)
  /-- SSI_SAMPLE (R21): A completed SSI transfer gives a delta that is applied as encoder steps, unless the sample is discarded -/
  | ssiSample (e : Fin 4) (raw : Nat) (parity : Bool)
  /-- INDEX_EDGE (R22): An accepted Z edge latches the position and tick and produces the index event -/
  | indexEdge (e : Fin 4) (rising : Bool)
  /-- WEB_STOPPED (R27): TIMELINE_STALL ticks pass without a step, so a stall is declared, extrapolation stops and the WEB_STOPPED event is produced -/
  | webStopped
  /-- SIM_INCREMENT (R539): With MASTER_SRC SIM, each tick while RUN is 1 adds the fixed increment formed from SIM_RATE to the position -/
  | simIncrement
  /-- RUN_START (R18): A write of RUN = 1 resumes the position, tests enabled compares, handles passed scheduler slots and re-offers frame boundaries -/
  | runStart
  /-- RUN_STOP (R18): A write of RUN = 0 holds the position and stops the scheduler, compares, trigger and frame generators -/
  | runStop
  /-- PRESET (R18): A write of TIMELINE_CTRL.PRESET while RUN is 0 loads TIMELINE_PRESET into the position -/
  | preset
  /-- CROSS_LATCH (R30): A write of XLATCH or a TL_XLATCH event captures position, tick and PTP time into the TIMELINE_XLATCH registers -/
  | crossLatch
  /-- PROBE_EDGE (R28): An accepted probe edge latches its position and tick into the probe FIFO -/
  | probeEdge (k : Fin 8) (rising : Bool)
  /-- PROBE_POP (R29): A read of PRBk_POS_LO returns and removes the oldest FIFO entry and latches its other halves -/
  | probePop (k : Fin 8)
  /-- FRAME_MARK_MISSING (R45): No sensed boundary within MAX_GAP lines, so a boundary is inserted and fault 0x7011 is recorded -/
  | frameMarkMissing (f : Fin 4)
  /-- COMPARE_FIRE (R31): The position crosses a compare target, so the unit fires its event, sets FIRED and may move its target by PERIOD -/
  | compareFire (c : Fin 64)
  /-- COMPARE_ENABLE (R32): ENABLE becoming 1, by a write or a CMP_ARM event, tests whether the target is behind and may fire late -/
  | compareEnable (c : Fin 64)
  /-- COMPARE_TARGET_WRITE (R32): A write of the TARGET pair of an enabled unit tests whether the new target is behind -/
  | compareTargetWrite (c : Fin 64) (target : BitVec 64)
  /-- MODE_CHANGE_APPLY (R430): A scheduled mode change falls due at its commit position and every unit applies the target mode and epoch -/
  | modeChangeApply
  /-- COMMIT_BOUNDARY (R107): A context's commit boundary falls due, and a pending COMMIT whose conditions hold is applied whole -/
  | commitBoundary (u : Fin 29)
  /-- FRAME_BOUNDARY (R44): A frame boundary falls due, increments FRAMEf_NUMBER and produces the frame event -/
  | frameBoundary
  /-- LINE_TRIGGER (R40): The trigger for line L falls due when the position passes L + PHASE/256 -/
  | lineTrigger
  /-- TRIGGER_ISSUE (R41): A waiting trigger is issued no sooner than MIN_GAP ticks after the previous one -/
  | triggerIssue
  /-- PROFILE_SYNC_ACTION (R178): A scheduled profile sync falls due and synchronises every enabled channel of its group -/
  | profileSyncAction
  /-- MARKER_QUEUE (R42): A write of MKm_AT_HI queues a marker firing at the written position -/
  | markerQueue (m : Fin 4) (at48 : BitVec 64)
  /-- MARKER_FIRE (R43): A marker action falls due and drives MKm active for WIDTH µs, or extends an active pulse -/
  | markerFire (m : Fin 4)
  /-- MARKER_PULSE_END (R43): WIDTH µs after the last firing, the marker pin returns to its inactive level -/
  | markerPulseEnd (m : Fin 4)
  /-- VERDICT_DEADLINE_CHECK (R249): The verdict deadline action falls due and declares late every line not yet out up to floor(p) − DIST -/
  | verdictDeadlineCheck
  /-- WAITPOS_WAKE (R317): A scribe WAITPOS action falls due and the waiting queue continues -/
  | waitposWake
  /-- STROKE_PHASE_UPDATE (R46): In each tick a running stroke recomputes its phase and target count from the source position and applied trim -/
  | strokePhaseUpdate (k : Fin 8)
  /-- STROKE_STEP (R50): A stroke whose count differs from its limited target emits one step as soon as its form's spacing allows -/
  | strokeStep (k : Fin 8)
  /-- STROKE_ENABLE (R48): A write of EN = 1 sets the origin count and position and starts the stroke -/
  | strokeEnable (k : Fin 8)
  /-- STROKE_START (R48): A write of STROKE_START, or an ST_START event, sets EN of several strokes in one tick -/
  | strokeStart (mask : BitVec 8)
  /-- STROKE_RATIO_WRITE (R49): A write of RATIO to a running stroke rebases its origin so that the phase continues without a jump -/
  | strokeRatioWrite (k : Fin 8) (ratio : BitVec 32)
  /-- TRIM_TARGET_WRITE (R55): A write of TRIM_TARGET sets the trim target, clamped to TRIM_LIMIT -/
  | trimTargetWrite (k : Fin 8) (target : BitVec 32)
  /-- TRIM_ADD (R55): A write of TRIM_ADD adds its value to the trim target, clamped to TRIM_LIMIT -/
  | trimAdd (k : Fin 8) (add : BitVec 32)
  /-- LANE_MARKER_RX (R70): A lane marker is received, maintaining block lock, deskew, NEXT_HDR and the per-period checks -/
  | laneMarkerRx (n : Fin 15) (l : Fin 5) (w : BitVec 64) (blocks : Nat) (skew : Int) (stuffed viol : Nat) (rail : Option (Fin 12)) (eyeH eyeV : BitVec 8)
  /-- FILL_ROW_RX (R72): A FILL row is received and removed before the elastic buffer after its link requests are acted on -/
  | fillRowRx (n : Fin 15) (g : Fin 2) (slot : Fin 16384) (blocks : List (BitVec 64))
  /-- LINK_REQ_ACK (R95): An ACK request frees replayable packets up to SEQ from the replay buffer -/
  | linkReqAck (n : Fin 15) (seq : BitVec 16) (id : BitVec 8)
  /-- LINK_REQ_NAK (R95): A NAK request makes the transmitter resend from SEQ + 1 with RETX set -/
  | linkReqNak (n : Fin 15) (seq : BitVec 16) (id : BitVec 8)
  /-- LINK_REQ_SPARE (R91): A SPARE request makes the transmitter move the named logical lane onto the spare at a marker row at least 1 µs later -/
  | linkReqSpare (n : Fin 15) (g : Fin 2) (lane : Fin 4) (id : BitVec 8)
  /-- LINK_REQ_RELEASE (R92): A RELEASE request returns a logical lane to its own physical lane -/
  | linkReqRelease (n : Fin 15) (g : Fin 2) (lane : Fin 4) (id : BitVec 8)
  /-- LINK_REQ_GAP (R90): A GAP request makes the transmitter grant a calibration gap at the next packet boundary -/
  | linkReqGap (n : Fin 15) (g : Fin 2) (lane : Fin 4) (id : BitVec 8)
  /-- LINK_REQ_RESERVED (R69): A reserved REQ value is ignored and counted in CNT_BAD_REQ -/
  | linkReqReserved (n : Fin 15) (req : Fin 10)
  /-- GAP_ROW_RX (R90): A GAP row starts a 400 ns calibration gap in which the named lane is calibrated -/
  | gapRowRx (n : Fin 15) (g : Fin 2) (lane : Fin 4) (slots : BitVec 16)
  /-- IDLE_ENTER_RX (R88): An IDLE_ENTER row puts the far transmitter in electrical idle while the receiver holds its state -/
  | idleEnterRx (n : Fin 15)
  /-- IDLE_EXIT (R89): A training burst and a marker row end electrical idle and packets are accepted again -/
  | idleExit (n : Fin 15)
  /-- IDLE_EXIT_SLOW (R89): Block lock has not returned 1 µs after the first burst bit, so fault 0x1031 is recorded -/
  | idleExitSlow (n : Fin 15) (l : Fin 5)
  /-- GAP_TIMEOUT (R90): No GAP row arrives within GAP_WAIT of a GAP request, so fault 0x1030 is recorded -/
  | gapTimeout (n : Fin 15)
  /-- SPARE_SWITCH (R91): At the switch marker row the receiver remaps the logical lane onto the spare and resumes at NEXT_HDR -/
  | spareSwitch (n : Fin 15) (tx : Bool)
  /-- PLANNED_SWAP (R92): A write of ZLn_SWAP.GO requests a planned SPARE or RELEASE swap that loses no data -/
  | plannedSwap (n : Fin 15)
  /-- LREF_SWITCH (R94): The selected lane reference shows no edge for 32 ns or is 1,000 ppm off, so the port switches reference and records 0x1040 -/
  | lrefSwitch (n : Fin 15)
  /-- PACKET_HEADER_RX (R76): A packet header is received and checked before the packet is delivered by type or discarded -/
  | packetHeaderRx (n : Fin 15) (g : Fin 2) (header : BitVec 64) (payload : List (BitVec 64)) (trailer : BitVec 64)
  /-- LINE_PACKET_RX (R100): An intact LINE packet delivers pixel samples for one exposure of a line to its pipe context -/
  | linePacketRx (n : Fin 12) (g : Fin 2) (clk : Nat)
  /-- LINE_TIMEOUT (R101): A line has not arrived CTX_LINE_TIMEOUT µs after its TRIG was launched and is declared lost -/
  | lineTimeout (p : Fin 13) (x : Fin 2)
  /-- TRIG_LAUNCH (R83): A TRIG packet leaves at the next free slot with DELAY set so the exposure lands at t_ref + TARGET -/
  | trigLaunch (n : Fin 12) (g : Fin 2) (phase : Fin 140)
  /-- STAT_REPLY_RX (R126): A STAT reply to a mailbox CTRL replaces the mailbox data, clears BUSY and sets DONE -/
  | statReplyRx (n : Fin 12) (g : Fin 2)
  /-- TRIG_ERROR_REPORT (R127): An unrequested TRIG_ERROR report updates the mailbox report registers and declares the matching line lost -/
  | trigErrorReport (n : Fin 12) (g : Fin 2)
  /-- CAM_FAULT_REPORT (R127): An unrequested CAM_FAULT report updates the mailbox report registers and records fault 0x2009 -/
  | camFaultReport (n : Fin 12) (g : Fin 2)
  /-- CTRL_TIMEOUT (R80): No STAT answers a CTRL within CTRL_TIMEOUT, so fault 0x1015 is recorded and the mailbox sets TIMEOUT -/
  | ctrlTimeout (n : Fin 12) (g : Fin 2)
  /-- MBOX_SEND (R126): A write of CTX_MBOX_CTRL.SEND sends one CTRL packet to the context's camera -/
  | mboxSend (p : Fin 13) (x : Fin 2)
  /-- TRAIN_GO (R82): A write of ZLn_TRAIN.GO, or a group coming up, starts launch-delay training with COUNT ECHO operations -/
  | trainGo (n : Fin 15)
  /-- TRAIN_DONE (R82): The ECHO replies of training are complete and the group's one-way delay is set -/
  | trainDone (n : Fin 15) (g : Fin 2) (replies : List (Nat × Nat))
  /-- REPLAY_TIMEOUT (R95): No ACK advances for REPLAY_TIMEOUT, so the transmitter resends from the oldest unacknowledged packet -/
  | replayTimeout (n : Fin 15)
  /-- PORT_ENABLE (R96): A write of ZLn_CTRL.EN = 1 brings the port out of idle and adapts its lanes until the group comes up -/
  | portEnable (n : Fin 15)
  /-- LINK_RESET (R96): A LINK reset clears a port's lock, packet and replay state while keeping its equaliser codes -/
  | linkReset (n : Fin 15)
  /-- RETRAIN (R96): A write of RETRAIN restarts lane adaptation from the reset codes -/
  | retrain (n : Fin 15)
  /-- LOOPBACK_WRITE (R97): A write of a non-zero LOOPBACK is accepted only in M10 DIAGNOSE -/
  | loopbackWrite (n : Fin 15) (v : BitVec 2)
  /-- IDLE_REQ_WRITE (R88): A write of IDLE_REQ puts the port's transmit lanes into or out of electrical idle -/
  | idleReqWrite (n : Fin 15) (v : Bool)
  /-- PIPE_CTRL_WRITE (R99): A write of PIPEp_CTRL puts a pipe in service for a port, unless the port is already served or the pipe is 12 -/
  | pipeCtrlWrite (p : Fin 13) (en : Bool) (port : Fin 16)
  /-- CTX_COMMIT (R105): A write of CTX_COMMIT.COMMIT records a COMMIT and starts the table image fetch -/
  | ctxCommit (p : Fin 13) (x : Fin 2)
  /-- CTX_CANCEL (R110): A write of CTX_COMMIT.CANCEL withdraws a pending COMMIT and stops its fetch -/
  | ctxCancel (p : Fin 13) (x : Fin 2)
  /-- TABLE_FETCH_DONE (R110): The 224 KiB table image fetch for a COMMIT completes and is checked -/
  | tableFetchDone (p : Fin 13) (x : Fin 2)
  /-- PIPE_LINE_START (R113): A free pipe selects the earliest-arrived line at the head of either context FIFO and starts correcting it -/
  | pipeLineStart (p : Fin 13) (clk : Nat)
  /-- PIPE_LINE_DONE (R120): The last corrected pixels of a line leave the pipe for the stitcher -/
  | pipeLineDone (p : Fin 13) (clk : Nat)
  /-- PIPE_SRAM (R129): A pipe's table memory reports a corrected error, or an uncorrectable one that retires the pipe -/
  | pipeSram (p : Fin 13) (uncorrected : Bool) (bank : Fin 3) (off : Nat)
  /-- PIPE_SPARED (R128): The ranger's handover of a retired pipe to pipe 12 completes and fault 0x2011 is recorded -/
  | pipeSpared (p : Fin 12)
  /-- SPARE_SELF_TEST (R128): Every 10 s the ranger runs the built-in self test of pipe 12 and of each quill's spare nib -/
  | spareSelfTest (quill : Option (Fin 12)) (pass : Bool)
  /-- STITCH_ENABLE (R134): A write of STITCH_CTRL.EN = 1 checks the layout and starts the stitcher only if every check passes -/
  | stitchEnable
  /-- STITCH_COMMIT (R140): A write of STITCH_COMMIT.COMMIT or CANCEL records or withdraws a stitcher COMMIT -/
  | stitchCommit (cancel : Bool)
  /-- STITCH_LINE_START (R144): Stitched line N starts formation once N − 1 has started and every camera's line N + 24 is accounted for, or is forced -/
  | stitchLineStart (clk : Nat)
  /-- STITCH_LINE_DONE (R146): The last fine pixels of a stitched line leave the stitcher for the fine path, image ring and coarse plane -/
  | stitchLineDone (clk : Nat) (taken : Option (Fin 180224))
  /-- COARSE_LINE_OUT (R152): Coarse line V leaves 64 clocks after the last pixel of fine line 4V + 3 -/
  | coarseLineOut (clk : Nat)
  /-- NOT_FORMED (R147): The position passes N + 25 with line N unformed, so the line counts as not formed and is published as unverified -/
  | notFormed
  /-- SEAM_SRAM (R153): The seam buffer reports a corrected or uncorrectable error and records fault 0x3007 -/
  | seamSram (uncorrected : Bool) (cam : Fin 24) (line : Int) (u n addr : Nat)
  /-- SEED (R157): A write of FINE_CTRL.SEED reseeds every column from the next stitched line -/
  | seed
  /-- COLUMN_SRAM (R160): The integrator memory reports an error; an uncorrectable one reseeds the column and records fault 0x3102 -/
  | columnSram (uncorrected : Bool) (column : Fin 180224)
  /-- ATTR_REQUEST (R166): The attribution unit starts a request from the scaler or the report queue, at most one every 8 clocks -/
  | attrRequest (clk : Nat)
  /-- ATTR_RESULT (R165): 48 clocks after its start, an attribution request returns the chosen bar, head, nozzle and flags -/
  | attrResult (clk : Nat)
  /-- ATTR_SWAP (R168): A write of ATTR_CTRL.SWAP makes the inactive attribution bank active between two requests -/
  | attrSwap
  /-- ATTR_COPY (R168): A write of ATTR_CTRL.COPY starts copying the active bank into the inactive one -/
  | attrCopy
  /-- ATTR_COPY_DONE (R168): The bank copy completes and BUSY clears -/
  | attrCopyDone
  /-- PROFILE_ENABLE (R175): A write of PROFILEc_CTRL.EN = 1 checks the channel and computes its DELAY, or sets CONFIG_ERR -/
  | profileEnable (c : Fin 256)
  /-- PROFILE_SYNC (R178): A write of PROFILE_SYNC or a PF_SYNC event synchronises every enabled channel of a group -/
  | profileSync (groups : BitVec 16)
  /-- PROFILE_SYNC_AT (R178): A write of PROFILE_SYNCg_AT_HI offers a scheduled sync of group g -/
  | profileSyncAt (g : Fin 16) (at64 : BitVec 64)
  /-- DET_LATCH (R180): A write of DET_LATCH closes a channel's detector window and latches its detector values -/
  | detLatch (c : Fin 256)
  /-- SENSOR_START (R183): A timer start or SN_START event drives SN_CNV and clocks a conversion out of the enabled ADCs -/
  | sensorStart (byEvent : Bool)
  /-- SENSOR_TRANSFER_DONE (R183): A sensor transfer completes and its samples are tagged and passed to SENSOR channels -/
  | sensorTransferDone (raw : List (BitVec 24))
  /-- MASTER_ENABLE (R187): A write of MASTER_CTRL.EN starts or stops the master path -/
  | masterEnable (en : Bool)
  /-- MASTER_COMMIT (R198): A write of MASTER_COMMIT records a COMMIT and starts the prediction table fetch -/
  | masterCommit (cancel : Bool)
  /-- PRED_FETCH_DONE (R198): The prediction table fetch completes, or fails with fault 0x3210 -/
  | predFetchDone
  /-- LEDGER_WR_WRITE (R190): A write of MASTER_LEDGER_WR adds ledger entries, unless it names an entry beyond DEPTH -/
  | ledgerWrWrite (v : BitVec 32)
  /-- LEDGER_CONSUME (R191): The page queue has room, so the next ledger entry is consumed, placed and offers a commit boundary -/
  | ledgerConsume
  /-- PLACEMENT_FINAL (R193): The stitcher forms line ledger start + MARK_TOL and the page's mark-based placement becomes final -/
  | placementFinal
  /-- DESCRIPTOR_READ (R195): The live plane reaches PO − FETCH_LEAD and the page descriptor is read, and reread while VALID is 0 -/
  | descriptorRead
  /-- TILE_ROW_ESTIMATE (R214): Once a tile row's last coarse line has formed and placement is final, the warp tracker estimates the row's field -/
  | tileRowEstimate
  /-- DIFFERENCE_LINE (R213): The difference unit computes ΔE and master scores of a coarse line and hands them to the scaler -/
  | differenceLine
  /-- PRED_SRAM (R223): The prediction memory reports an error; an uncorrectable one leaves predictions uncompared with fault 0x3250 -/
  | predSram (uncorrected : Bool) (node : Fin 83521)
  /-- ASSERT_READY (R224): A write of GOLDEN_CTRL.ASSERT_READY marks the stored golden repeat ready -/
  | assertReady
  /-- RELEARN (R216): A write of GOLDEN_CTRL.RELEARN clears READY and every merge count -/
  | relearn
  /-- SCALER_ENABLE (R456): A write of SCALER_CTRL.EN = 1 starts the scaler, which first emits any held coverage record -/
  | scalerEnable
  /-- SCALER_COMMIT (R253): A write of SCALER_COMMIT records or withdraws a scaler COMMIT -/
  | scalerCommit (cancel : Bool)
  /-- SEGMENT_LINE (R226): A ready line of an active plane is segmented, joining lit pixels into open components -/
  | segmentLine (master : Bool)
  /-- CLASS_TIMEOUT (R235): No classifier answer within CLASS_TIMEOUT µs, so the tally is emitted with class 63 -/
  | classTimeout
  /-- RING_RECORD_WRITE (R240): The emitter writes a queued record to each host ring that takes it and produces TALLY_WRITTEN or COVERAGE_WRITTEN -/
  | ringRecordWrite (r : Fin 4)
  /-- LOSS_SUMMARY_WRITE (R242): A ring with a free entry receives its loss summary as a TALLY_LOST coverage record -/
  | lossSummaryWrite (r : Fin 4)
  /-- SNIPPET_START (R246): Once the window's last line is formed, the scaler has its snippet channel copy the window from the image ring -/
  | snippetStart
  /-- SNIPPET_DONE (R246): The snippet channel reports completion and the held tally is emitted with SNIPPET -/
  | snippetDone
  /-- SNIPPET_LOST (R246): The snippet is overwritten, times out or meets a channel error, so the tally goes without SNIPPET and fault 0x5005 is recorded -/
  | snippetLost (reason : Fin 3)
  /-- STRIP_SEND (R250): After STRIP_ROWS lines are segmented, a sender device sends a boundary strip to its left-edge owner -/
  | stripSend
  /-- STRIP_RX (R250): A STRIP packet from the right-edge sender is received and used to join edge components -/
  | stripRx (k : Fin 3)
  /-- STRIP_LATE (R252): A strip has not arrived by line L + STRIP_TIMEOUT, so affected components are emitted with EDGE_OPEN -/
  | stripLate
  /-- TALLY_PACKET_RX (R244): A TALLY packet is received and its record placed in the emitter unchanged, or merged as a partial -/
  | tallyPacketRx (k : Fin 3)
  /-- SCALER_SRAM (R256): The open table reports an error; an uncorrectable one discards the component and publishes coverage -/
  | scalerSram (uncorrected : Bool) (label : Fin 65536)
  /-- DATAGRAM_SEND (R407): A tally datagram is sent when it holds BATCH records or BATCH_US µs after its first record -/
  | datagramSend
  /-- JOB_ENABLE (R264): A write of QUILLq_JOBj.EN = 1 checks the job and starts the INIT run of every nib -/
  | jobEnable (q : Fin 12) (j : Fin 4)
  /-- INIT_RUN_DONE (R266): The INIT runs of all the job's nibs end and the job's start line L0 is set -/
  | initRunDone (q : Fin 12) (j : Fin 4)
  /-- WINDOW_FILL (R268): A formed line is filled into a nib's stripe window row, or held in its fill buffer -/
  | windowFill (q : Fin 12) (t : Fin 17)
  /-- NIB_INVOKE (R267): A nib is invoked for line N from LINE_PC once it has retired N − 1, its windows hold the line and its output row is free -/
  | nibInvoke (q : Fin 12) (t : Fin 17)
  /-- QUEUE_INVOKE (R271): An idle nib of a QUEUE job is invoked whenever the feature queue holds an unclaimed draft -/
  | queueInvoke (q : Fin 12)
  /-- SALU (R277): Scalar ALU operation selected by func -/
  | salu (q : Fin 12) (t : Fin 17)
  /-- SADDI (R274): Adds a sign-extended immediate to a scalar register -/
  | saddi (q : Fin 12) (t : Fin 17)
  /-- SANDI (R274): ANDs a scalar register with a sign-extended immediate -/
  | sandi (q : Fin 12) (t : Fin 17)
  /-- SORI (R274): ORs a scalar register with a zero-extended immediate -/
  | sori (q : Fin 12) (t : Fin 17)
  /-- SXORI (R274): XORs a scalar register with a sign-extended immediate -/
  | sxori (q : Fin 12) (t : Fin 17)
  /-- SCMPI (R274): Compares a scalar register with a constant under a condition and writes 1 or 0 -/
  | scmpi (q : Fin 12) (t : Fin 17)
  /-- SINSL (R274): Inserts the immediate into the low half of a scalar register -/
  | sinsl (q : Fin 12) (t : Fin 17)
  /-- SINSH (R274): Inserts the immediate into the high half of a scalar register -/
  | sinsh (q : Fin 12) (t : Fin 17)
  /-- SHI (R274): Shifts or rotates a scalar register by an immediate amount -/
  | shi (q : Fin 12) (t : Fin 17)
  /-- MULSR (R277): Forms an exact signed product, shifts it right with rounding and optional saturation -/
  | mulsr (q : Fin 12) (t : Fin 17)
  /-- MULSRU (R277): Forms an exact unsigned product, shifts it right with rounding and optional saturation -/
  | mulsru (q : Fin 12) (t : Fin 17)
  /-- GETSR (R278): Reads a special register into a scalar register -/
  | getsr (q : Fin 12) (t : Fin 17)
  /-- VALU (R275): Vector ALU operation of two vectors selected by func, under mask -/
  | valu (q : Fin 12) (t : Fin 17)
  /-- VALUS (R275): Vector ALU operation of a vector and a scalar, under mask -/
  | valus (q : Fin 12) (t : Fin 17)
  /-- VMUL (R279): Multiplies two vectors lane by lane and narrows the shifted product -/
  | vmul (q : Fin 12) (t : Fin 17)
  /-- VMULS (R279): Multiplies a vector by a scalar lane by lane and narrows the shifted product -/
  | vmuls (q : Fin 12) (t : Fin 17)
  /-- VMAC (R280): Adds or subtracts lane products into a 32-bit accumulator -/
  | vmac (q : Fin 12) (t : Fin 17)
  /-- VNAR (R279): Narrows an accumulator to a 16-bit vector with shift, rounding and saturation -/
  | vnar (q : Fin 12) (t : Fin 17)
  /-- VCMP (R275): Compares two vectors lane by lane into a mask -/
  | vcmp (q : Fin 12) (t : Fin 17)
  /-- VCMPS (R275): Compares a vector with a scalar lane by lane into a mask -/
  | vcmps (q : Fin 12) (t : Fin 17)
  /-- VSEL (R275): Selects each lane from one of two vectors by mask -/
  | vsel (q : Fin 12) (t : Fin 17)
  /-- VMASK (R275): Performs the mask operation selected by func -/
  | vmask (q : Fin 12) (t : Fin 17)
  /-- VRED (R275): Reduces a vector over masked lanes into a scalar -/
  | vred (q : Fin 12) (t : Fin 17)
  /-- VPERM (R275): Moves lanes by slide or broadcast -/
  | vperm (q : Fin 12) (t : Fin 17)
  /-- VSPLAT (R275): Copies a scalar half-word into every lane -/
  | vsplat (q : Fin 12) (t : Fin 17)
  /-- VEXT (R275): Extracts one lane of a vector into a scalar register -/
  | vext (q : Fin 12) (t : Fin 17)
  /-- VGATH (R275): Gathers local-memory half-words into a vector by lane index -/
  | vgath (q : Fin 12) (t : Fin 17)
  /-- LW (R281): Loads a 32-bit word into a scalar register -/
  | lw (q : Fin 12) (t : Fin 17)
  /-- SW (R281): Stores a scalar register as a 32-bit word -/
  | sw (q : Fin 12) (t : Fin 17)
  /-- LHU (R281): Loads a half-word zero-extended into a scalar register -/
  | lhu (q : Fin 12) (t : Fin 17)
  /-- SH (R281): Stores the low half of a scalar register -/
  | sh (q : Fin 12) (t : Fin 17)
  /-- VLD (R281): Loads 128 bytes into a vector register -/
  | vld (q : Fin 12) (t : Fin 17)
  /-- VST (R281): Stores a vector register as 128 bytes -/
  | vst (q : Fin 12) (t : Fin 17)
  /-- VSTB (R281): Stores each lane clamped to an unsigned byte -/
  | vstb (q : Fin 12) (t : Fin 17)
  /-- VLDM (R281): Loads 64 bits into a mask register -/
  | vldm (q : Fin 12) (t : Fin 17)
  /-- RETIRE (R273): Ends the invocation, waits for earlier stores and drains the output row, retiring the line for the nib -/
  | retire (q : Fin 12) (t : Fin 17)
  /-- SREP (R282): Sends a streak report to the attribution unit's queue -/
  | srep (q : Fin 12) (t : Fin 17)
  /-- TEMIT (R283): Emits a kernel tally from local memory into the emitter -/
  | temit (q : Fin 12) (t : Fin 17)
  /-- TGET (R284): Claims the oldest unclaimed draft of the feature queue and returns its ticket -/
  | tget (q : Fin 12) (t : Fin 17)
  /-- TANS (R285): Answers a claimed draft with class, severity or DISCARD and frees its slot -/
  | tans (q : Fin 12) (t : Fin 17)
  /-- EVENT (R286): Produces the quill's event and records its code in EV_LAST -/
  | event (q : Fin 12) (t : Fin 17)
  /-- FENCE (R290): Waits until every earlier quill-memory store of the nib is visible -/
  | fence (q : Fin 12) (t : Fin 17)
  /-- BEQZ (R287): Branches when a scalar register is 0 -/
  | beqz (q : Fin 12) (t : Fin 17)
  /-- BNEZ (R287): Branches when a scalar register is not 0 -/
  | bnez (q : Fin 12) (t : Fin 17)
  /-- BLTZ (R287): Branches when a scalar register is below 0 -/
  | bltz (q : Fin 12) (t : Fin 17)
  /-- BGEZ (R287): Branches when a scalar register is 0 or above -/
  | bgez (q : Fin 12) (t : Fin 17)
  /-- JAL (R287): Jumps with link -/
  | jal (q : Fin 12) (t : Fin 17)
  /-- JR (R287): Jumps to the address in a scalar register -/
  | jr (q : Fin 12) (t : Fin 17)
  /-- LOOP (R287): Repeats the next instructions a counted number of times -/
  | loop (q : Fin 12) (t : Fin 17)
  /-- STOP (R287): Raises a KERNEL_STOP kernel fault with its detail -/
  | stop (q : Fin 12) (t : Fin 17)
  /-- KERNEL_TIMEOUT (R292): An invocation or INIT run reaches BUDGET cycles and the nib stops with a kernel fault -/
  | kernelTimeout (q : Fin 12) (t : Fin 17)
  /-- NIB_RESTART (R294): A write of a slot's RESTART bit restarts a STOPPED nib from INIT_PC -/
  | nibRestart (q : Fin 12) (t : Fin 17)
  /-- NIB_SRAM (R295): A nib memory reports an error; an uncorrectable one fails the nib -/
  | nibSram (q : Fin 12) (t : Fin 17) (kind : Fin 3) (mem : Fin 4) (readable : Bool)
  /-- NIB_SPARED (R296): The ranger's spare handover of a failed nib completes and its first invocation records fault 0x4020 -/
  | nibSpared (q : Fin 12)
  /-- SPARE_NOW (R297): A write of SPARE_NOW requests a planned swap of a nib to the spare -/
  | spareNow (q : Fin 12) (t : Fin 17)
  /-- PLANNED_NIB_TAKEOVER (R297): After ROWS lines the spare takes over a planned swap at the next line the old nib has not started -/
  | plannedNibTakeover (q : Fin 12)
  /-- KERNEL_LOAD_GO (R299): A write of QUILLq_LOAD.GO loads a kernel image into the masked nibs -/
  | kernelLoadGo (q : Fin 12)
  /-- KERNEL_LOAD_DONE (R300): A kernel load completes, or fails with fault 0x4010 -/
  | kernelLoadDone (q : Fin 12)
  /-- CMD_NOP (R311): Scribe command that does nothing -/
  | cmdNop (q : Fin 8)
  /-- CMD_WRITE (R312): Scribe command that writes, optionally masked, one word -/
  | cmdWrite (q : Fin 8) (host : Option (BitVec 32))
  /-- CMD_WRITEM (R312): Scribe command that writes N values to consecutive words, one per tick -/
  | cmdWritem (q : Fin 8)
  /-- CMD_READ (R314): Scribe command that copies 32 bits from a source to a destination and LAST_READ -/
  | cmdRead (q : Fin 8) (host : Option (BitVec 32))
  /-- CMD_WAITPOS (R317): Scribe command that waits for a web position through a scheduler action -/
  | cmdWaitpos (q : Fin 8)
  /-- CMD_WAITTIME (R318): Scribe command that waits until the PTP time reaches a target -/
  | cmdWaittime (q : Fin 8)
  /-- WAITTIME_REACHED (R318): The PTP time reaches a WAITTIME target and the queue continues -/
  | waittimeReached (q : Fin 8)
  /-- CMD_WAITEV (R320): Scribe command that waits for N events at its SCR_EV input -/
  | cmdWaitev (q : Fin 8)
  /-- CMD_SIGNAL (R315): Scribe command that fences and then produces an event and/or MSI-X vector -/
  | cmdSignal (q : Fin 8)
  /-- CMD_ARM (R427): Scribe command that arms a two-phase mode change at a commit position -/
  | cmdArm (q : Fin 8)
  /-- CMD_COMMIT (R322): Scribe command that records or cancels COMMITs for the contexts in its mask -/
  | cmdCommit (q : Fin 8)
  /-- CMD_MODE (R436): Scribe command that requests a mode transition without a commit position -/
  | cmdMode (q : Fin 8)
  /-- CMD_LOOP (R325): Scribe command that opens a counted or endless loop -/
  | cmdLoop (q : Fin 8)
  /-- CMD_ENDLOOP (R325): Scribe command that closes a loop pass -/
  | cmdEndloop (q : Fin 8)
  /-- CMD_JUMP (R326): Scribe command that jumps, conditionally on C -/
  | cmdJump (q : Fin 8)
  /-- CMD_CALL (R326): Scribe command that pushes a return address and jumps -/
  | cmdCall (q : Fin 8)
  /-- CMD_RET (R326): Scribe command that pops and returns -/
  | cmdRet (q : Fin 8)
  /-- CMD_FENCE (R315): Scribe command that waits until earlier writes and reads of the queue are complete -/
  | cmdFence (q : Fin 8)
  /-- CMD_RESYNC (R324): Scribe command that requests a state summary, optionally waiting for it -/
  | cmdResync (q : Fin 8)
  /-- CMD_HALT (R311): Scribe command that stops its queue in HALTED -/
  | cmdHalt (q : Fin 8)
  /-- CMD_FETCH (R309): A queue's fetch of command words completes, or faults with code 0x8006 -/
  | cmdFetch (q : Fin 8) (host : List (BitVec 64))
  /-- CMD_WAIT_TIMEOUT (R321): A wait's timeout expires, fault 0xC030 is recorded and the queue continues with C = 1 or enters ERROR -/
  | cmdWaitTimeout (q : Fin 8)
  /-- QUEUE_START (R310): A write of SCRIBE_Qq_CTRL.START starts a stopped queue at HEAD -/
  | queueStart (q : Fin 8)
  /-- QUEUE_STOP (R310): A write of STOP ends any wait and stops the queue before its next command -/
  | queueStop (q : Fin 8)
  /-- QUEUE_TAIL_WRITE (R308): A write of TAIL makes new ring words available once earlier BAR2 writes reach DRAM -/
  | queueTailWrite (q : Fin 8) (v : BitVec 32)
  /-- DMA_MOVE (R331): DMA instruction that copies LEN bytes from SRC to DST -/
  | dmaMove (c : Fin 32) (host : Option (BitVec 128)) (data : List (BitVec 8))
  /-- DMA_MOVE_COMPLETE (R332): Every write of a MOVE is complete and the MOVE completes -/
  | dmaMoveComplete (c : Fin 32)
  /-- DMA_LOOP (R334): DMA instruction that opens a loop level with strides -/
  | dmaLoop (c : Fin 32) (host : Option (BitVec 128))
  /-- DMA_ENDLOOP (R334): DMA instruction that closes a loop pass and adds the strides -/
  | dmaEndloop (c : Fin 32) (host : Option (BitVec 128))
  /-- DMA_WAIT (R335): DMA instruction that waits for N events at DMA_EVc -/
  | dmaWait (c : Fin 32) (host : Option (BitVec 128))
  /-- DMA_SIGNAL (R336): DMA instruction that optionally writes a value, then produces an event and/or MSI-X vector -/
  | dmaSignal (c : Fin 32) (host : Option (BitVec 128))
  /-- DMA_END (R336): DMA instruction that stops the channel in DONE -/
  | dmaEnd (c : Fin 32) (host : Option (BitVec 128))
  /-- DMA_WAIT_TIMEOUT (R335): A DMA WAIT times out, fault 0xC031 is recorded and the channel continues or enters ERROR -/
  | dmaWaitTimeout (c : Fin 32)
  /-- DMA_START (R337): A write of DMA_CHc_CTRL.START starts the channel's program at PROG_PC -/
  | dmaStart (c : Fin 32)
  /-- DMA_STOP (R337): A write of STOP makes the channel issue no further reads and stop after its writes -/
  | dmaStop (c : Fin 32) (got : Nat)
  /-- EVENT_ENTER (R344): Occurrences entering one channel in a router tick form an event that is hop-checked, gated and flagged -/
  | eventEnter (c : Fin 64)
  /-- EVENT_DELIVER (R346): Three ticks after its router tick an event is delivered to every enabled consumer input of its channel -/
  | eventDeliver (c : Fin 64)
  /-- EVENT_SOFT (R352): A write of EVENT_SOFT injects an occurrence of producer 252 on each named channel -/
  | eventSoft (mask : BitVec 64)
  /-- EVENT_PIN_EDGE (R348): An accepted edge on an input event pin produces an occurrence of producer 251 -/
  | eventPinEdge (n : Fin 16) (level : Bool)
  /-- EVENT_PIN_PULSE_END (R349): WIDTH ticks after delivery, a PULSE output event pin returns to inactive -/
  | eventPinPulseEnd (n : Fin 16)
  /-- DRAM_READ (R367): A DRAM read completes and each beat is decoded as CLEAN, CORRECTED, ADDRESS, UNCORRECTABLE or POISON -/
  | dramRead (addr : BitVec 42) (len : Nat) (cls : Fin 6) (errs : List (Nat × Nat))
  /-- DRAM_WRITE (R366): A DRAM write completes with its check bits, as a read-modify-write when partial -/
  | dramWrite (addr : BitVec 42) (bytes : List (BitVec 8)) (cls : Fin 6) (errs : List (Nat × Nat))
  /-- PLAY_GO (R363): A write of PLAY_GO in M9 REVIEW starts playback of ring lines -/
  | playGo
  /-- PLAY_LINE (R363): One ring line is played into the fine plane at PLAY_RATE -/
  | playLine
  /-- SCRUB_STEP (R372): The patrol reads the next DRAM line and writes back a corrected one -/
  | scrubStep (errs : List (Nat × Nat))
  /-- MIG_REQ (R378): A write of DRAMC_MIG.MIG_REQ starts a planned migration -/
  | migReq
  /-- MIGRATE_COPY_LINE (R376): The migration copy reads, corrects and writes the next source line to the target -/
  | migrateCopyLine (errs : List (Nat × Nat))
  /-- MIGRATE_DONE (R377): The copy ends and the rank map switches to the target, recording fault 0x6011 -/
  | migrateDone
  /-- DRAM_CMD_ERROR (R375): A command/address parity alert is reissued, and three within 1 µs record fault 0x6004 -/
  | dramCmdError (ch : Fin 8) (rank : Fin 4) (inFlight : List (Nat × Nat))
  /-- RANK_POWER_DOWN (R380): A rank with no command for PD_IDLE ns enters power-down -/
  | rankPowerDown (ch : Fin 8) (rank : Fin 4)
  /-- SR_ENTER (R381): A write of SR_ENTER, entry to M11 HALT with SR_AUTO, or RESET_N falling under RETAIN starts self-refresh entry -/
  | srEnter
  /-- SR_ENTRY_DONE (R381): Every rank is in self-refresh and the controller clocks stop -/
  | srEntryDone
  /-- SR_EXIT (R382): A write of SR_EXIT or a mode change restarts the controller clocks and leaves self-refresh -/
  | srExit
  /-- SR_TIMEOUT (R306): An access waits 1 ms in self-refresh and ends with an error response and fault 0x6031 -/
  | srTimeout
  /-- REFRESH_RATE_CHECK (R383): Every 32 ms each rank's refresh-rate status is read and hot ranks get a halved interval -/
  | refreshRateCheck (ch : Fin 8) (rank : Fin 4) (above85 : Bool)
  /-- SHARE_WRITE (R370): A write of DRAMC_SHARE1 checks that the shares sum to 100 -/
  | shareWrite (v : BitVec 32)
  /-- TRAIN_MRW (R384): Training helper issues a DDR5 MRW command -/
  | trainMrw (ch : Fin 8)
  /-- TRAIN_MRR (R384): Training helper issues a DDR5 MRR and places the result in TRAIN_RESULT -/
  | trainMrr (ch : Fin 8) (result : BitVec 32)
  /-- TRAIN_MPC (R384): Training helper issues a DDR5 MPC command -/
  | trainMpc (ch : Fin 8)
  /-- TRAIN_ACT (R384): Training helper issues a DDR5 ACT command -/
  | trainAct (ch : Fin 8)
  /-- TRAIN_PRE (R384): Training helper issues a DDR5 PRE command -/
  | trainPre (ch : Fin 8)
  /-- TRAIN_REF (R384): Training helper issues a DDR5 REF command -/
  | trainRef (ch : Fin 8)
  /-- TRAIN_WR (R384): Training helper writes the pattern generator's next burst -/
  | trainWr (ch : Fin 8)
  /-- TRAIN_RD (R384): Training helper reads a burst and compares it with the expected pattern -/
  | trainRd (ch : Fin 8) (reads : List (List Nat))
  /-- DRAM_INIT_DONE (R534): Training ends with every DRAM line initialised, TRAINED is set and the mode becomes M3 IDLE -/
  | dramInitDone (restored failed : List (Fin 8 × Fin 4 × Fin 80 × BitVec 8))
  /-- ETH_FRAME_RX (R388): A received Ethernet frame is accepted to the receive ring, forwarded or dropped -/
  | ethFrameRx (e : Fin 2) (frame : List (BitVec 8)) (fcsOk : Bool) (ingress : BitVec 72) (host : List (BitVec 8))
  /-- FORWARD_SEND (R400): A forwarded frame leaves the other port, with its correctionField corrected when it is a PTP event message -/
  | forwardSend (e : Fin 2)
  /-- ETH_TAIL_WRITE (R389): A write of a ring TAIL hands descriptors to the port -/
  | ethTailWrite (e : Fin 2) (tx : Bool) (v : BitVec 16)
  /-- ETH_FRAME_TX (R390): A transmit descriptor's frame is padded and sent, and its descriptor written back -/
  | ethFrameTx (e : Fin 2) (desc buffer : List (BitVec 8))
  /-- LAUNCH_TIME_REACHED (R409): A LAUNCH descriptor's launch time arrives and its frame is sent -/
  | launchTimeReached (e : Fin 2) (desc buffer : List (BitVec 8))
  /-- RING_HOLDOFF_END (R389): HOLDOFF µs after a ring message, one message is sent when HEAD has moved -/
  | ringHoldoffEnd (r : Fin 5)
  /-- ETH_LINK_DOWN (R390): A port's link goes down and fault 0x9101 is recorded -/
  | ethLinkDown (e : Fin 2)
  /-- PTP_INCR_WRITE (R395): A write of NET_PTP_INCR sets the counter rate from the next PTP tick -/
  | ptpIncrWrite (v : BitVec 32)
  /-- PTP_SET (R396): A write of NET_PTP_SET_HI loads the PTP time and records fault 0x9110 -/
  | ptpSet (v : BitVec 48)
  /-- PTP_ADJ (R396): A write of NET_PTP_ADJ adds signed ns to the PTP time and records fault 0x9110 -/
  | ptpAdj (v : BitVec 32)
  /-- TCORR_STEP (R395): Each millisecond the applied TCORR moves one unit toward its target -/
  | tcorrStep
  /-- TIME_COMPARE_FIRE (R403): A time compare's target is reached and it injects an event-router occurrence -/
  | timeCompareFire (u : Fin 8)
  /-- TIME_COMPARE_ENABLE (R404): ENABLE or a TARGET_HI write on a time compare tests whether its target is not ahead -/
  | timeCompareEnable (u : Fin 8) (target : Option (BitVec 48))
  /-- CHAIN_ENABLE (R412): A write of CHAIN_CTRL.EN makes the device a chain member with its ID -/
  | chainEnable (en : Bool)
  /-- DELAY_PROBE_SEND (R413): When a group comes up and every 1 ms, an LP port sends a delay probe -/
  | delayProbeSend (k : Fin 3)
  /-- DELAY_PROBE_RX (R413): A received delay probe is answered at once with a probe reply -/
  | delayProbeRx (k : Fin 3) (turn : BitVec 31)
  /-- PROBE_REPLY_RX (R413): A probe reply gives a one-way delay result and names the neighbour -/
  | probeReplyRx (k : Fin 3) (rtt : Nat)
  /-- POS_SEND (R414): Every POS_PERIOD ticks the root broadcasts a POS packet, and a TIME packet after every 64th -/
  | posSend (acc accTime : BitVec 32)
  /-- POS_RX (R416): A POS packet is forwarded down the tree and, from the parent, turned into a latch pair -/
  | posRx (k : Fin 3) (residence : Nat) (phi : Fin 140)
  /-- POS_LOST (R417): No POS arrives for POS_TIMEOUT µs, so position is held, fault 0x9002 recorded and open coverage published -/
  | posLost
  /-- HEARTBEAT_SEND (R419): Every HEARTBEAT µs a non-root member sends a heartbeat to the root -/
  | heartbeatSend
  /-- HEARTBEAT_RX (R419): A received heartbeat records its sender below the arriving port and refreshes membership -/
  | heartbeatRx (k : Fin 3)
  /-- LIVE_TIMEOUT (R421): An entry not refreshed for LIVE_TIMEOUT µs is removed, and at the root a lost member records 0x9004 and is covered -/
  | liveTimeout
  /-- TIME_BROADCAST_RX (R424): A TIME broadcast from the root stores CHAIN_TIME_ROOT and CHAIN_TIME_LOCAL -/
  | timeBroadcastRx (k : Fin 3) (residence : Nat)
  /-- CMD_RX (R425): A CMD packet runs its command words as one block on a queue, or is refused with fault 0x9006 -/
  | cmdRx (k : Fin 3)
  /-- SUMMARY_RX (R426): A SUMMARY packet is written to SUM_BASE + SRC_ID × 4 KiB or discarded -/
  | summaryRx (k : Fin 3)
  /-- MODE_ARM_RX (R428): A MODE ARM from the root offers the change's scheduler action and starts the member's review -/
  | modeArmRx (k : Fin 3)
  /-- MODE_ACK_SEND (R428): Once every acceptance condition holds, the member sends MODE ACK to the root -/
  | modeAckSend
  /-- MODE_ACK_RX (R429): The root records a member's ACK for the change -/
  | modeAckRx (k : Fin 3)
  /-- MODE_DECISION (R429): At C − GUARD the root makes the change irrevocable, or broadcasts CANCEL when an ACK is missing -/
  | modeDecision
  /-- MODE_CANCEL_RX (R430): A CANCEL before C withdraws the member's action; one after application records fault 0x9012 -/
  | modeCancelRx (k : Fin 3)
  /-- MODE_APPLIED_RX (R430): The root records a member's APPLIED report -/
  | modeAppliedRx (k : Fin 3)
  /-- MODE_SPLIT_RX (R431): The root records a member's MODE_SPLIT report -/
  | modeSplitRx (k : Fin 3)
  /-- APPLY_MISSING (R431): 1 ms after C the root lacks APPLIED or MODE_SPLIT from a member, so fault 0x9013 is recorded -/
  | applyMissing
  /-- HALT_REQ (R439): A write of TOP_CTRL.HALT_REQ enters M11 HALT -/
  | haltReq
  /-- HALT_ENTRY (R440): Entry to M11 HALT runs the stop sequence of open coverage, summary, self-refresh, lane idle and ALERT -/
  | haltEntry
  /-- WARM_RESET (R443): A write of TOP_CTRL.WARM_RESET resets every block except DRAMC and the ranger 8 ticks later -/
  | warmReset
  /-- WARM_TRAIN_DONE (R443): After a WARM reset the enabled groups are up, or 2 ms pass, and the mode becomes M3 IDLE -/
  | warmTrainDone
  /-- BLOCK_RESET (R444): A write of a block's BLOCK_RESET bit resets that block as a WARM reset would -/
  | blockReset (source : BitVec 8)
  /-- PIN_RESET (R442): RESET_N low for 1 µs or more resets everything except F and P fields -/
  | pinReset
  /-- RESET_N_RETAIN_FALL (R515): RESET_N falls with RETAIN set, web outputs go high-impedance and DRAM enters self-refresh before the reset -/
  | resetNRetainFall
  /-- RESET_RELEASE (R512): The reset is released, straps are sampled and the boot ROM starts in M1 BOOT -/
  | resetRelease (bootSrc hold retain : Bool) (bar2 : Fin 8) (mdDev mdRanks i2c : Fin 4)
  /-- POR (R508): Supplies come within tolerance for 2 ms, or leave it for 5 µs, applying a power-on reset -/
  | por
  /-- XO_LOSS (R511): XO_IN shows no edge for 1 µs and a POR is applied -/
  | xoLoss
  /-- FAULT_RECORD (R451): The recorder writes a detected fault into the fault log and ring, producing FAULT_RECORDED -/
  | faultRecord
  /-- FAULT_LOST (R451): A fault finds the input queue full, is not recorded and increments FAULT_LOST -/
  | faultLost
  /-- RESYNC (R460): A write of TOP_CTRL.RESYNC requests a state summary at the summary instant -/
  | resync
  /-- SUMMARY_WRITTEN (R461): A state summary is written to SUMMARY_DEST, the SUMMARY window and the chain -/
  | summaryWritten
  /-- SRAM_ROW_REMAP (R454): The ranger completes remapping a failing SRAM row to a spare row -/
  | sramRowRemap (a : Fin 16)
  /-- WEAR_EYE_SWAP (R455): EYE_H stays below EYE_MIN for 1 s with a spare ready, so the ranger requests a planned lane swap -/
  | wearEyeSwap (n : Fin 15) (l : Fin 5)
  /-- SENSOR_CONVERSION (R471): Every 250 µs each temperature sensor converts and its reading is tested -/
  | sensorConversion (done stuck comps : BitVec 24) (readings : BitVec 384)
  /-- SENSOR_ROLE (R474): Within 500 µs of a break the ranger retires the sensor and promotes a spare voter -/
  | sensorRole (u : Fin 24)
  /-- THERMAL_TRIP (R478): Comparators at 118 °C trip a region, driving THERMTRIP_N low and stopping every core clock -/
  | thermalTrip (comps : BitVec 24)
  /-- TABLE_ENABLE (R482): A write of TABLE_EN = 1 checks the temperature table, or sets TABLE_ERR -/
  | tableEnable
  /-- CAL_GO (R467): A write of THERM_CTRL.CAL_GO starts calibration runs for the named regions -/
  | calGo
  /-- CAL_MEASURE_DONE (R465): A run's 200 µs measurement ends and sets each code's target -/
  | calMeasureDone (ohms : BitVec 32) (targets : List (Nat × Int))
  /-- CAL_CODE_STEP (R465): At a boundary of its kind a calibrated code moves one step toward its target -/
  | calCodeStep (key : Fin 2048)
  /-- CAL_SLOW (R467): A run has not completed within 100 ms and fault 0xA004 is recorded -/
  | calSlow
  /-- AGEING_MEASURE (R483): Every 10 s each region's ring oscillator is measured, recording 0xA040 when AGE_WARN is first exceeded -/
  | ageingMeasure (r : Fin 8) (ppm : BitVec 32)
  /-- PERST_RISE (R489): PERST_N rises, resetting the endpoint and setting PERST_SEEN -/
  | perstRise
  /-- MSIX_REQUEST (R490): A request for an MSI-X vector sets its pending bit and sends a message when unmasked -/
  | msixRequest (v : BitVec 8)
  /-- BOOT_IMAGE_CHECK (R494): The boot ROM finishes reading a firmware image and accepts or rejects it -/
  | bootImageCheck (source : Fin 3) (image : List (BitVec 8)) (readOk dirOk : Bool)
  /-- HOST_GO (R491): A write of SEC_BOOT_CTRL.HOST_GO starts host boot by bus mastering -/
  | hostGo
  /-- BOOT_RELEASE (R496): A write of SEC_BOOT_CTRL.RELEASE ends the boot hold and moves on to M2 TRAIN -/
  | bootRelease
  /-- FW_INFO (R497): Mailbox operation that returns the running firmware's version, SVN, image ID and source -/
  | fwInfo
  /-- SELF_TEST (R497): Mailbox operation that runs the self test of a pipe, quill spare or the seam buffer -/
  | selfTest (failing : BitVec 32)
  /-- FUSE_PROGRAM (R498): Mailbox operation that blows requested bits of a fuse word and reads it back -/
  | fuseProgram (took : BitVec 32)
  /-- LOCK (R502): Mailbox operation that blows LOCK, fixing the effective permission matrix -/
  | lock
  /-- DEBUG_LOCK (R504): Mailbox operation that blows DEBUG_LOCK, disabling private test instructions -/
  | debugLock
  /-- SVN_COMMIT (R498): Mailbox operation that raises SVN_MIN to the running image's SVN -/
  | svnCommit
  /-- FLASH_UPDATE (R498): Mailbox operation that checks an image in DRAM and writes it to the non-booted flash copy -/
  | flashUpdate (verified : Bool)
  /-- MBOX_ANSWER (R497): The ranger writes the mailbox RESULT and reply, sets DONE and may request VECTOR -/
  | mboxAnswer
  /-- MBOX_TIMEOUT (R497): No mailbox answer within 60 s clears BUSY, sets TIMEOUT and records fault 0xB050 -/
  | mboxTimeout
  /-- MGMT_READ (R523): A management I²C read returns the 4-byte register selected by the pointer -/
  | mgmtRead (addr : BitVec 7)
  /-- EXTEST (R524): Public test instruction that drives boundary-scan outputs -/
  | extest (captured shifted : Nat)
  /-- IDCODE (R524): Public test instruction that returns IDCODE 0x1961_2C3F -/
  | idcode
  /-- SAMPLE_PRELOAD (R524): Public test instruction that samples and preloads the boundary register -/
  | samplePreload (captured shifted : Nat)
  /-- HIGHZ (R524): Public test instruction that places outputs in high impedance -/
  | highz
  /-- CLAMP (R524): Public test instruction that holds boundary outputs and selects bypass -/
  | clamp
  /-- BYPASS (R524): Public test instruction that selects the bypass register -/
  | bypass
  /-- RANGER_HALT (R524): Private test instruction that stops the ranger -/
  | rangerHalt
  /-- RANGER_RUN (R524): Private test instruction that resumes the ranger -/
  | rangerRun
  /-- MEM_ACCESS (R524): Private test instruction that reads or writes a device address as the ranger -/
  | memAccess (v : BitVec 78) (host : Option (BitVec 32))
  /-- MARKER_MISSING (R70): A marker period ends on a lane without a valid marker, counting toward the loss of block lock -/
  | markerMissing (n : Fin 15) (l : Fin 5)
  /-- EXTRAPOLATION (R25): In each timeline tick between latch pairs, web position is extrapolated, clamped and held monotonic, and TIMELINE_VELOCITY is updated -/
  | extrapolation
  /-- PTP_COUNTER_TICK (R394): In each PTP tick the counter adds INCR + TCORR, with a carry into the wrap count -/
  | ptpCounterTick
  /-- REGISTER_READ (R13): A BAR0, scribe or DMA read with side effects clears RC fields, latches HI of a LO/HI pair, or is refused with Unsupported Request -/
  | registerRead (addr : BitVec 26) (len : Nat) (be : BitVec 8)
  /-- ILLEGAL_INSTRUCTION (R276): A nib issues a word with a reserved opcode, func or non-zero field and stops with a kernel fault -/
  | illegalInstruction (q : Fin 12) (t : Fin 17)
  /-- CMD_ILLEGAL (R311): A queue reaches a command with a reserved opcode or bad flags and stops in ERROR with fault 0x8001 -/
  | cmdIllegal (q : Fin 8)
  /-- DMA_ILLEGAL (R330): A DMA channel fetches an instruction with a reserved opcode or non-zero bits and stops in ERROR with fault 0x8040 -/
  | dmaIllegal (c : Fin 32) (host : Option (BitVec 128))
  /-- ETH_LINK_UP (R410): An Ethernet port's link comes up and frames can be sent and received again -/
  | ethLinkUp (e : Fin 2)
  /-- PCIE_LINK_DOWN (R511): An up PCI Express link goes down while PERST_N is high, and fault 0xB040 is recorded -/
  | pcieLinkDown
  /-- PCIE_LINK_UP (R504): The PCI Express link trains up and records fault 0xB041 when below x16 or 32 GT/s -/
  | pcieLinkUp (width : Fin 32) (speed : Fin 8)
  /-- PERST_FALL (R489): PERST_N falls, putting the endpoint in reset while inspection continues and host writes and MSI-X messages are discarded -/
  | perstFall
  /-- CONFIG_REQUEST (R490): A PCI Express configuration request sets Bus Master Enable, MSI-X enable or the function mask, and an unmask sends pending messages -/
  | configRequest (bme msixEn mask : Bool)
  /-- MGMT_POINTER_WRITE (R523): A management I2C write of one pointer byte selects the register that later reads return, and further bytes are NACKed -/
  | mgmtPointerWrite (addr : BitVec 7) (bytes : List (BitVec 8))
  deriving DecidableEq, Repr

end Sys2Proof
end

