-- ==== Sys2Proof/Decode.lean ====
section
/-! DEFINITION. Decoding.  The opcode table gives its rows no bits, so no word spells a command.  The
words that the block itself decodes are here too: the instructions of a nib (R274 to R287), with their
encoder. -/

namespace Sys2Proof

/-- The command that a word spells by the opcode table's bits: the table gives no row any. -/
def decodeTableWord (_nbits _w : Nat) : Option Instr := none

/-! ### Nib instructions (R274 to R287) -/

/-- A nib instruction with its fields. Register fields are 0 to 31; a mask written is `d + 1` for
`d : Fin 7`, since m0 cannot be written; accumulator k is the pair v2k, v2k + 1 (R275). -/
inductive NibInstr where
  | salu (f : Fin 17) (d a b : Fin 32)
  | clz (d a : Fin 32)
  | saddi (d a : Fin 32) (imm : Fin 65536)
  | sandi (d a : Fin 32) (imm : Fin 65536)
  | sori (d a : Fin 32) (imm : Fin 65536)
  | sxori (d a : Fin 32) (imm : Fin 65536)
  | scmpi (c : Fin 10) (d a : Fin 32) (k : Fin 4096)
  | sinsl (d a : Fin 32) (imm : Fin 65536)
  | sinsh (d a : Fin 32) (imm : Fin 65536)
  | shi (kind : Fin 4) (d a : Fin 32) (n : Fin 32)
  | mulsr (d a b : Fin 32) (sh : Fin 64) (sat t : Bool)
  | mulsru (d a b : Fin 32) (sh : Fin 64) (sat t : Bool)
  | getsr (d : Fin 32) (n : Fin 14)
  | valu (f : Fin 19) (d a b : Fin 32) (m : Fin 8)
  | vmov (d a : Fin 32) (m : Fin 8)
  | valus (f : Fin 19) (d a b : Fin 32) (m : Fin 8)
  | vmovs (d a : Fin 32) (m : Fin 8)
  | vmul (d a b : Fin 32) (m : Fin 8) (sh : Fin 32) (u sat t : Bool)
  | vmuls (d a b : Fin 32) (m : Fin 8) (sh : Fin 32) (u sat t : Bool)
  | vmac (d : Fin 16) (a b : Fin 32) (m : Fin 8) (sub scalar u sat : Bool)
  | vnar (d : Fin 32) (k : Fin 16) (m : Fin 8) (sh : Fin 32) (u sat t : Bool)
  | vcmp (c : Fin 10) (d : Fin 7) (a b : Fin 32) (m : Fin 8)
  | vcmps (c : Fin 10) (d : Fin 7) (a b : Fin 32) (m : Fin 8)
  | vsel (d a b : Fin 32) (m : Fin 8)
  | vmaskLogic (f : Fin 4) (d : Fin 7) (a b : Fin 8)
  | vmaskNot (d : Fin 7) (a : Fin 8)
  | vmaskRead (f : Fin 4) (d : Fin 32) (a : Fin 8)
  | vmaskSet (d : Fin 7) (a b : Fin 32)
  | vred (f : Fin 8) (d a : Fin 32) (m : Fin 8)
  | vsuma (d : Fin 32) (k : Fin 16) (m : Fin 8)
  | vslide (up : Bool) (d a b : Fin 32) (m : Fin 8) (k : Fin 64)
  | vbcast (d a : Fin 32) (m : Fin 8) (k : Fin 64)
  | vsplat (d a : Fin 32) (m : Fin 8)
  | vext (d a b : Fin 32) (sext : Bool)
  | vgath (d a b : Fin 32) (m : Fin 8)
  | lw (d base : Fin 32) (off : Fin 65536)
  | sw (d base : Fin 32) (off : Fin 65536)
  | lhu (d base : Fin 32) (off : Fin 65536)
  | sh (d base : Fin 32) (off : Fin 65536)
  | vld (d base : Fin 32) (off : Fin 65536)
  | vst (d base : Fin 32) (off : Fin 65536)
  | vstb (d base : Fin 32) (off : Fin 65536)
  | vldm (d : Fin 7) (base : Fin 32) (off : Fin 65536)
  | retire
  | srep (record : Bool) (a b : Fin 32) (ink : Fin 256)
  | temit (a : Fin 32)
  | tget (d : Fin 32)
  | tans (a b : Fin 32)
  | event (code : Fin 256)
  | fence
  | beqz (a : Fin 32) (off : Fin 2097152)
  | bnez (a : Fin 32) (off : Fin 2097152)
  | bltz (a : Fin 32) (off : Fin 2097152)
  | bgez (a : Fin 32) (off : Fin 2097152)
  | jal (a : Fin 32) (off : Fin 2097152)
  | jr (a : Fin 32)
  | loop (a : Fin 32) (n : Fin 4095)
  | stop (imm : Fin 65536)
  deriving DecidableEq, Repr

/-- Bits `[lsb + w - 1 : lsb]` of a word as a bounded number. -/
def finAt (w lsb n : Nat) (h : 0 < n := by decide) : Fin n := ⟨w / 2 ^ lsb % n, Nat.mod_lt _ h⟩

/-- Format A: opcode, d, a, b, m, func (R274). -/
def fmtA (op d a b m func : Nat) : Nat :=
  func + m * 2 ^ 8 + b * 2 ^ 11 + a * 2 ^ 16 + d * 2 ^ 21 + op * 2 ^ 26

/-- Formats I and M: opcode, d, a or base, a 16-bit field (R274). -/
def fmtI (op d a imm : Nat) : Nat := imm + a * 2 ^ 16 + d * 2 ^ 21 + op * 2 ^ 26

/-- Format B: opcode, condition register, a 21-bit offset (R274). -/
def fmtB (op a imm : Nat) : Nat := imm + a * 2 ^ 21 + op * 2 ^ 26

/-- The func field of VMUL, VMULS and VNAR (R279). -/
def fnNarrow (sh : Nat) (u sat t : Bool) : Nat := sh + b2n u * 32 + b2n sat * 64 + b2n t * 128

/-- The func field of MULSR and MULSRU. -/
def fnMulsr (sh : Nat) (sat t : Bool) : Nat := sh + b2n sat * 64 + b2n t * 128

/-- The word of an instruction (R274 to R287); fields that it does not use are 0. [DEDUCED, log 78] -/
def encodeNib : NibInstr → Nat
  | .salu f d a b => fmtA 0x00 d a b 0 f
  | .clz d a => fmtA 0x00 d a 0 0 0x11
  | .saddi d a i => fmtI 0x01 d a i
  | .sandi d a i => fmtI 0x02 d a i
  | .sori d a i => fmtI 0x03 d a i
  | .sxori d a i => fmtI 0x04 d a i
  | .scmpi c d a k => fmtI 0x05 d a (k + c * 4096)
  | .sinsl d a i => fmtI 0x06 d a i
  | .sinsh d a i => fmtI 0x07 d a i
  | .shi k d a n => fmtI 0x08 d a (n + k * 32)
  | .mulsr d a b sh sat t => fmtA 0x09 d a b 0 (fnMulsr sh sat t)
  | .mulsru d a b sh sat t => fmtA 0x0A d a b 0 (fnMulsr sh sat t)
  | .getsr d n => fmtI 0x0B d 0 n
  | .valu f d a b m => fmtA 0x10 d a b m f
  | .vmov d a m => fmtA 0x10 d a 0 m 0x13
  | .valus f d a b m => fmtA 0x11 d a b m f
  | .vmovs d a m => fmtA 0x11 d a 0 m 0x13
  | .vmul d a b m sh u sat t => fmtA 0x12 d a b m (fnNarrow sh u sat t)
  | .vmuls d a b m sh u sat t => fmtA 0x13 d a b m (fnNarrow sh u sat t)
  | .vmac d a b m sub sc u sat =>
    fmtA 0x14 (2 * d) a b m (b2n sub + b2n sc * 2 + b2n u * 32 + b2n sat * 64)
  | .vnar d k m sh u sat t => fmtA 0x15 d (2 * k) 0 m (fnNarrow sh u sat t)
  | .vcmp c d a b m => fmtA 0x16 (d + 1) a b m c
  | .vcmps c d a b m => fmtA 0x17 (d + 1) a b m c
  | .vsel d a b m => fmtA 0x18 d a b m 0
  | .vmaskLogic f d a b => fmtA 0x19 (d + 1) a b 0 f
  | .vmaskNot d a => fmtA 0x19 (d + 1) a 0 0 4
  | .vmaskRead f d a => fmtA 0x19 d a 0 0 (f + 5)
  | .vmaskSet d a b => fmtA 0x19 (d + 1) a b 0 9
  | .vred f d a m => fmtA 0x1A d a 0 m f
  | .vsuma d k m => fmtA 0x1A d (2 * k) 0 m 8
  | .vslide up d a b m k => fmtA 0x1B d a b m (k + b2n up * 64)
  | .vbcast d a m k => fmtA 0x1B d a 0 m (k + 128)
  | .vsplat d a m => fmtA 0x1C d a 0 m 0
  | .vext d a b x => fmtA 0x1D d a b 0 (b2n x)
  | .vgath d a b m => fmtA 0x1E d a b m 0
  | .lw d a o => fmtI 0x20 d a o
  | .sw d a o => fmtI 0x21 d a o
  | .lhu d a o => fmtI 0x22 d a o
  | .sh d a o => fmtI 0x23 d a o
  | .vld d a o => fmtI 0x24 d a o
  | .vst d a o => fmtI 0x25 d a o
  | .vstb d a o => fmtI 0x26 d a o
  | .vldm d a o => fmtI 0x27 (d + 1) a o
  | .retire => fmtI 0x28 0 0 0
  | .srep r a b ink => fmtA 0x29 (b2n r) a b 0 ink
  | .temit a => fmtA 0x2A 0 a 0 0 0
  | .tget d => fmtA 0x2B d 0 0 0 0
  | .tans a b => fmtA 0x2C 0 a b 0 0
  | .event c => fmtI 0x2D 0 0 c
  | .fence => fmtI 0x2E 0 0 0
  | .beqz a o => fmtB 0x30 a o
  | .bnez a o => fmtB 0x31 a o
  | .bltz a o => fmtB 0x32 a o
  | .bgez a o => fmtB 0x33 a o
  | .jal a o => fmtB 0x34 a o
  | .jr a => fmtA 0x35 0 a 0 0 0
  | .loop a n => fmtI 0x36 0 a (n + 1)
  | .stop i => fmtI 0x37 0 0 i

/-- A mask register that an instruction writes: m1 to m7, upper bits of the field 0 (R274, R275). -/
def maskDest (d : Nat) : Option (Fin 7) :=
  if h : 1 ≤ d ∧ d ≤ 7 then some ⟨d - 1, by omega⟩ else none

/-- A mask register named in a 5-bit field: its upper bits are 0 (R274). -/
def maskSrc (a : Nat) : Option (Fin 8) := if h : a < 8 then some ⟨a, h⟩ else none

/-- An accumulator named by its even register (R275). -/
def accReg (a : Nat) : Option (Fin 16) := if h : a < 32 ∧ a % 2 = 0 then some ⟨a / 2, by omega⟩ else none

/-- A code below a limit. -/
def codeBelow (n c : Nat) : Option (Fin n) := if h : c < n then some ⟨c, h⟩ else none

/-- An answer that depends on a test. -/
def guardOpt {α : Type} (c : Bool) (x : α) : Option α := if c then some x else none

/-- The instruction of a word, or none when the word is illegal (R276). [DEDUCED, log 78] -/
def decodeNib (w : Nat) : Option NibInstr :=
  let op := w / 2 ^ 26 % 64
  let d : Fin 32 := finAt w 21 32
  let a : Fin 32 := finAt w 16 32
  let b : Fin 32 := finAt w 11 32
  let m : Fin 8 := finAt w 8 8
  let fn := w % 256
  let imm : Fin 65536 := finAt w 0 65536
  let o21 : Fin 2097152 := finAt w 0 2097152
  let sh6 : Fin 64 := finAt w 0 64
  let sh5 : Fin 32 := finAt w 0 32
  let f5 := bitAt w 5
  let f6 := bitAt w 6
  let f7 := bitAt w 7
  let vop (mk : Fin 19 → Fin 32 → Fin 32 → Fin 32 → Fin 8 → NibInstr) (mv : NibInstr) : Option NibInstr :=
    if fn = 0x13 then guardOpt (b.val == 0) mv else (codeBelow 19 fn).map (fun f => mk f d a b m)
  let vcm (mk : Fin 10 → Fin 7 → Fin 32 → Fin 32 → Fin 8 → NibInstr) : Option NibInstr :=
    (codeBelow 10 fn).bind (fun c => (maskDest d).map (fun e => mk c e a b m))
  match op with
  | 0x00 =>
    if m.val != 0 then none
    else if fn = 0x11 then guardOpt (b.val == 0) (.clz d a)
    else (codeBelow 17 fn).map (fun f => .salu f d a b)
  | 0x01 => some (.saddi d a imm)
  | 0x02 => some (.sandi d a imm)
  | 0x03 => some (.sori d a imm)
  | 0x04 => some (.sxori d a imm)
  | 0x05 => (codeBelow 10 (imm.val / 4096)).map (fun c => .scmpi c d a (finAt w 0 4096))
  | 0x06 => some (.sinsl d a imm)
  | 0x07 => some (.sinsh d a imm)
  | 0x08 => guardOpt (decide (imm.val < 128)) (.shi (finAt w 5 4) d a sh5)
  | 0x09 => some (.mulsr d a b sh6 f6 f7)
  | 0x0A => some (.mulsru d a b sh6 f6 f7)
  | 0x0B => if a.val != 0 then none else (codeBelow 14 imm).map (fun n => .getsr d n)
  | 0x10 => vop .valu (.vmov d a m)
  | 0x11 => vop .valus (.vmovs d a m)
  | 0x12 => some (.vmul d a b m sh5 f5 f6 f7)
  | 0x13 => some (.vmuls d a b m sh5 f5 f6 f7)
  | 0x14 =>
    if bitsAt w 2 3 != 0 || f7 then none
    else (accReg d).map (fun k => .vmac k a b m (bitAt w 0) (bitAt w 1) f5 f6)
  | 0x15 => (accReg a).map (fun k => .vnar d k m sh5 f5 f6 f7)
  | 0x16 => vcm .vcmp
  | 0x17 => vcm .vcmps
  | 0x18 => guardOpt (fn == 0) (.vsel d a b m)
  | 0x19 =>
    if m.val != 0 then none
    else if fn = 9 then (maskDest d).map (fun e => .vmaskSet e a b)
    else (maskSrc a).bind (fun x =>
      if fn = 4 then if b.val != 0 then none else (maskDest d).map (fun e => .vmaskNot e x)
      else
        match codeBelow 4 fn with
        | some f => (maskDest d).bind (fun e => (maskSrc b).map (fun y => .vmaskLogic f e x y))
        | none => (codeBelow 4 (fn - 5)).map (fun f => .vmaskRead f d x))
  | 0x1A =>
    if fn = 8 then (accReg a).map (fun k => .vsuma d k m) else (codeBelow 8 fn).map (fun f => .vred f d a m)
  | 0x1B =>
    if fn < 128 then some (.vslide f6 d a b m sh6)
    else if fn < 192 then guardOpt (b.val == 0) (.vbcast d a m sh6) else none
  | 0x1C => guardOpt (b.val == 0 && fn == 0) (.vsplat d a m)
  | 0x1D => guardOpt (m.val == 0 && decide (fn < 2)) (.vext d a b (bitAt w 0))
  | 0x1E => guardOpt (fn == 0) (.vgath d a b m)
  | 0x20 => some (.lw d a imm)
  | 0x21 => some (.sw d a imm)
  | 0x22 => some (.lhu d a imm)
  | 0x23 => some (.sh d a imm)
  | 0x24 => some (.vld d a imm)
  | 0x25 => some (.vst d a imm)
  | 0x26 => some (.vstb d a imm)
  | 0x27 => (maskDest d).map (fun e => .vldm e a imm)
  | 0x28 => guardOpt (w % 2 ^ 26 == 0) .retire
  | 0x29 => guardOpt (decide (d.val < 2) && m.val == 0) (.srep (bitAt w 21) a b (finAt w 0 256))
  | 0x2A => some (.temit a)
  | 0x2B => some (.tget d)
  | 0x2C => some (.tans a b)
  | 0x2D => some (.event (finAt w 0 256))
  | 0x2E => guardOpt (w % 2 ^ 26 == 0) .fence
  | 0x30 => some (.beqz d o21)
  | 0x31 => some (.bnez d o21)
  | 0x32 => some (.bltz d o21)
  | 0x33 => some (.bgez d o21)
  | 0x34 => some (.jal d o21)
  | 0x35 => guardOpt (d.val == 0 && b.val == 0 && m.val == 0 && fn == 0) (.jr a)
  | 0x36 =>
    if d.val != 0 || decide (4096 ≤ imm.val) then none
    else if h : 1 ≤ imm.val ∧ imm.val ≤ 4095 then some (.loop a ⟨imm.val - 1, by omega⟩) else none
  | 0x37 => some (.stop imm)
  | _ => none

end Sys2Proof
end

