-- ==== Sys2Proof/Machine/Operands.lean ====
section
/-! DEFINITION. What the nib's instructions compute on numbers (R275 to R280): scalar and vector
operations, conditions, narrowing, mask operations, reductions and lane moves. Scalars are numbers below
2^32, lanes below 2^16, masks below 2^64. -/

namespace Sys2Proof.Machine

open Sys2Proof

/-- The scalar operations of SALU, func 0x00 to 0x10. -/
def saluOp (f a b : Nat) : Nat :=
  let sa := signed 32 a
  let sb := signed 32 b
  match f with
  | 0x00 => (a + b) % 2 ^ 32
  | 0x01 => (a + (2 ^ 32 - b % 2 ^ 32)) % 2 ^ 32
  | 0x02 => andNat 32 a b
  | 0x03 => orNat 32 a b
  | 0x04 => xorNat 32 a b
  | 0x05 => a * 2 ^ (b % 32) % 2 ^ 32
  | 0x06 => a / 2 ^ (b % 32)
  | 0x07 => toBits 32 (floorShift sa (b % 32))
  | 0x08 => b2n (decide (sa < sb))
  | 0x09 => b2n (decide (a < b))
  | 0x0A => a * b % 2 ^ 32
  | 0x0B => toBits 32 (floorShift (sa * sb) 32)
  | 0x0C => a * b / 2 ^ 32
  | 0x0D => if sa ≤ sb then a else b
  | 0x0E => if sb ≤ sa then a else b
  | 0x0F => min a b
  | _ => max a b

/-- Leading zeros of a 32-bit number, 0 to 32 (SALU CLZ). -/
def clz32 (a : Nat) : Nat := (firstIdx 32 (fun i => bitAt a (31 - i))).getD 32

/-- A sign-extended immediate of `w` bits, as a number of 32 bits. -/
def sext32 (w n : Nat) : Nat := toBits 32 (signed w n)

/-- The conditions of VCMP, VCMPS and SCMPI on numbers of `w` bits. -/
def condHolds (c w a b : Nat) : Bool :=
  let sa := signed w a
  let sb := signed w b
  match c with
  | 0 => decide (a = b)
  | 1 => decide (a ≠ b)
  | 2 => decide (sa < sb)
  | 3 => decide (sa ≤ sb)
  | 4 => decide (a < b)
  | 5 => decide (a ≤ b)
  | 6 => decide (sb < sa)
  | 7 => decide (sb ≤ sa)
  | 8 => decide (b < a)
  | _ => decide (b ≤ a)

/-- Is a condition one of the unsigned ones, for which SCMPI zero-extends its constant? -/
def condUnsigned (c : Nat) : Bool := c == 4 || c == 5 || c == 8 || c == 9

/-- SCMPI's constant as a number of 32 bits. -/
def scmpiConst (c k : Nat) : Nat := if condUnsigned c then k else sext32 12 k

/-- SHI: 0 SLL, 1 SRL, 2 SRA, 3 ROR. -/
def shiOp (kind a n : Nat) : Nat :=
  match kind with
  | 0 => a * 2 ^ n % 2 ^ 32
  | 1 => a / 2 ^ n
  | 2 => toBits 32 (floorShift (signed 32 a) n)
  | _ => (a / 2 ^ n + a * 2 ^ (32 - n)) % 2 ^ 32

/-- A product shifted right: rounded to nearest even, or truncated toward minus infinity with T (R277). -/
def shiftRound (p : Int) (sh : Nat) (t : Bool) : Int := if t then floorShift p sh else rneShift p sh

/-- MULSR and MULSRU: the exact product, shifted, clamped with SAT. -/
def mulsrOp (unsigned : Bool) (a b sh : Nat) (sat t : Bool) : Nat :=
  let p : Int := if unsigned then (a * b : Nat) else signed 32 a * signed 32 b
  let r := shiftRound p sh t
  if sat then (if unsigned then satU 32 r else toBits 32 (satS 32 r)) else toBits 32 r

/-- Narrowing to a lane (R279): shifted, clamped with SAT, else the low 16 bits. -/
def narrow (p : Int) (sh : Nat) (u sat t : Bool) : Nat :=
  let r := shiftRound p sh t
  if sat then (if u then satU 16 r else toBits 16 (satS 16 r)) else toBits 16 r

/-- The exact product of two lanes: signed, or unsigned with U (R279). -/
def laneProduct (u : Bool) (a b : Nat) : Int := if u then ((a * b : Nat) : Int) else signed 16 a * signed 16 b

/-- A lane of VMAC (R280): the accumulator plus or minus the product, clamped with SAT, else modulo 2^32. -/
def macLane (acc a b : Nat) (sub u sat : Bool) : Nat :=
  let c : Int := if u then acc else signed 32 acc
  let p := laneProduct u a b
  let r := if sub then c - p else c + p
  if sat then (if u then satU 32 r else toBits 32 (satS 32 r)) else toBits 32 r

/-- The lane operations of VALU and VALUS, func 0x00 to 0x12. -/
def valuOp (f a b : Nat) : Nat :=
  let sa := signed 16 a
  let sb := signed 16 b
  let k := b % 32
  match f with
  | 0x00 => (a + b) % 2 ^ 16
  | 0x01 => (a + (2 ^ 16 - b % 2 ^ 16)) % 2 ^ 16
  | 0x02 => toBits 16 (satS 16 (sa + sb))
  | 0x03 => toBits 16 (satS 16 (sa - sb))
  | 0x04 => min (a + b) 65535
  | 0x05 => a - b
  | 0x06 => andNat 16 a b
  | 0x07 => orNat 16 a b
  | 0x08 => xorNat 16 a b
  | 0x09 => if sa ≤ sb then a else b
  | 0x0A => if sb ≤ sa then a else b
  | 0x0B => min a b
  | 0x0C => max a b
  | 0x0D => max a b - min a b
  | 0x0E => (rneDiv ((a + b : Nat) : Int) 2).toNat
  | 0x0F => if k ≤ 15 then a * 2 ^ k % 2 ^ 16 else 0
  | 0x10 => if k ≤ 15 then a / 2 ^ k else 0
  | 0x11 => toBits 16 (floorShift sa (min k 15))
  | _ => toBits 16 (rneShift sa (b % 16))

/-- A vector from a function of the lane. -/
def lanes (f : Nat → Nat) : List Nat := tabulate 64 f

/-- Lanes whose mask bit is 0 keep their old value (R275). -/
def maskMerge (mask : Nat) (old new : List Nat) : List Nat :=
  lanes (fun i => if bitAt mask i then nth 0 new i else nth 0 old i)

/-- A mask from a test of the lane. -/
def maskOf (p : Nat → Bool) : Nat := (List.range 64).foldl (fun m i => if p i then m + 2 ^ i else m) 0

/-- VMASK func 0 to 3: AND, OR, XOR, AND NOT. -/
def maskLogic (f a b : Nat) : Nat :=
  match f with
  | 0 => andNat 64 a b
  | 1 => orNat 64 a b
  | 2 => xorNat 64 a b
  | _ => andNat 64 a (2 ^ 64 - 1 - b)

/-- VMASK func 5 to 8: population, lowest lane or 64, low half, high half. -/
def maskRead (f a : Nat) : Nat :=
  match f with
  | 0 => popCount 64 a
  | 1 => (firstIdx 64 (bitAt a)).getD 64
  | 2 => a % 2 ^ 32
  | _ => a / 2 ^ 32 % 2 ^ 32

/-- The greatest and the least element of a list, or a default for an empty one. -/
def maxNat (d : Nat) : List Nat → Nat
  | [] => d
  | x :: xs => xs.foldl max x
def minNat (d : Nat) : List Nat → Nat
  | [] => d
  | x :: xs => xs.foldl min x

/-- The lanes of a vector that a mask selects, with their numbers. -/
def masked (mask : Nat) (v : List Nat) : List (Nat × Nat) :=
  ((List.range 64).filter (bitAt mask)).map (fun i => (i, nth 0 v i))

/-- VRED func 0 to 7, with the results of an empty mask. -/
def vredOp (f mask : Nat) (v : List Nat) : Nat :=
  let es := masked mask v
  let xs := es.map (·.2)
  let bias (x : Nat) : Nat := (x + 2 ^ 15) % 2 ^ 16
  let lane (x : Nat) : Nat := match es.find? (fun e => e.2 == x) with
    | some e => e.1
    | none => 64
  match f with
  | 0 => toBits 32 (xs.foldl (fun (a : Int) x => a + signed 16 x) 0)
  | 1 => xs.foldl (fun a x => a + x) 0 % 2 ^ 32
  | 2 => sext32 16 (bias (maxNat 0 (xs.map bias)))
  | 3 => sext32 16 (bias (minNat 65535 (xs.map bias)))
  | 4 => maxNat 0 xs
  | 5 => minNat 65535 xs
  | 6 => if xs.isEmpty then 64 else lane (maxNat 0 xs)
  | _ => if xs.isEmpty then 64 else lane (minNat 0 xs)

/-- VPERM SLIDEDN and SLIDEUP by k lanes. -/
def slideOp (up : Bool) (k : Nat) (a b : List Nat) : List Nat :=
  if up then lanes (fun i => if k ≤ i then nth 0 a (i - k) else nth 0 b (64 + i - k))
  else lanes (fun i => if i + k < 64 then nth 0 a (i + k) else nth 0 b (i + k - 64))

/-- The 128 bytes of a vector: lane i at offset 2i (R275). -/
def vecBytes (v : List Nat) : List Nat := (padTo 0 64 v).flatMap (leBytes 2)

/-- The vector that 128 bytes hold. -/
def vecOf (bs : List Nat) : List Nat := lanes (fun i => ofLeBytes ((bs.drop (2 * i)).take 2))

/-- The bytes of VSTB: each lane, signed, clamped to 0 to 255. -/
def clampBytes (v : List Nat) : List Nat := (padTo 0 64 v).map (fun x => satU 8 (signed 16 x))

end Sys2Proof.Machine
end

