-- ==== Sys2Proof/Config.lean ====
section
/-! DEFINITION. Values the manual leaves open: constants without a body, so that nothing can rest on
one. -/

namespace Sys2Proof

/-- A fresh value where the manual gives none, applied to a count of the values drawn so far.
[DESIGN CHOICE, log 6] -/
opaque Config.freeValue : Nat → Nat

/-- The fuse-fixed default of a calibration code (R468, R501): the manual does not say which fuse holds
which code. The argument is the code's number: 4 × THERM_CALV word plus the field in it.
[DESIGN CHOICE, log 145] -/
opaque Config.defaultCode : Nat → Nat

/-- The level that a value of the boundary register gives an output pin (R524): the order of its cells is open.
[DEDUCED, log 162] -/
opaque Config.boundaryLevel : Nat → Nat → Bool

end Sys2Proof
end

