-- ==== Sys2Proof/Machine/Store.lean ====
section
/-! DEFINITION. A sparse store: the one form in which the model holds registers, memories and
arrays of identical units.  It is a list of (key, value) pairs with keys strictly rising and no
entry equal to what an unlisted key reads as, so equal contents are equal data. -/

namespace Sys2Proof

/-- A sparse store keyed by a number. -/
abbrev Sparse (α : Type) := List (Nat × α)

/-- The listed value of a key, if any. -/
def spFind {α : Type} : Sparse α → Nat → Option α
  | [], _ => none
  | (k, v) :: m, i => if k = i then some v else spFind m i

/-- The value of a key: what is listed, else what an unlisted key reads as. -/
def spGet {α : Type} (d : Nat → α) (m : Sparse α) (i : Nat) : α := (spFind m i).getD (d i)

/-- The store with a key's entry replaced or inserted in order. -/
def spInsert {α : Type} : Sparse α → Nat → α → Sparse α
  | [], i, v => [(i, v)]
  | (k, w) :: m, i, v =>
    if i < k then (i, v) :: (k, w) :: m
    else if i = k then (i, v) :: m
    else (k, w) :: spInsert m i v

/-- The store without any entry for a key. -/
def spErase {α : Type} : Sparse α → Nat → Sparse α
  | [], _ => []
  | (k, w) :: m, i => if k = i then spErase m i else (k, w) :: spErase m i

/-- Write of a key: writing what an unlisted key reads as removes the entry. -/
def spSet {α : Type} [DecidableEq α] (d : Nat → α) (m : Sparse α) (i : Nat) (v : α) : Sparse α :=
  if v = d i then spErase m i else spInsert m i v

/-- Every key of the store is above `lo`, keys rise, and no entry holds its default. -/
def spWfFrom {α : Type} [DecidableEq α] (d : Nat → α) : Option Nat → Sparse α → Bool
  | _, [] => true
  | lo, (k, v) :: m =>
    (match lo with
      | none => true
      | some l => decide (l < k)) && decide (v ≠ d k) && spWfFrom d (some k) m

/-- The canonical form of a store. -/
def spWf {α : Type} [DecidableEq α] (d : Nat → α) (m : Sparse α) : Bool := spWfFrom d none m

/-- Write of consecutive keys from a list of values. -/
def spSetMany {α : Type} [DecidableEq α] (d : Nat → α) (m : Sparse α) (i : Nat) :
    List α → Sparse α
  | [] => m
  | v :: vs => spSetMany d (spSet d m i v) (i + 1) vs

/-- Read of `n` consecutive keys. -/
def spGetMany {α : Type} (d : Nat → α) (m : Sparse α) (i n : Nat) : List α :=
  tabulate n (fun j => spGet d m (i + j))

/-- The store with the keys of a half-open range forgotten. -/
def spClear {α : Type} (m : Sparse α) (lo hi : Nat) : Sparse α :=
  m.filter (fun e => decide (e.1 < lo) || decide (hi ≤ e.1))

/-! ### Memories: DRAM, quill memory and the local memories of nibs -/

/-- A byte-addressed memory: its cells that are not 0, addresses rising. -/
abbrev Memory := List Host.Cell

/-- The canonical form of a memory. -/
def Memory.wf (m : Memory) : Bool := spWf (fun _ => (0 : BitVec 8)) m

/-- The byte at an address; one that is not listed reads 0. -/
def Memory.byte (m : Memory) (a : Nat) : Nat := (spGet (fun _ => (0 : BitVec 8)) m a).toNat

/-- The `n` bytes from an address on. -/
def Memory.bytes (m : Memory) (a n : Nat) : List Nat := (spGetMany (fun _ => (0 : BitVec 8)) m a n).map (·.toNat)

/-- Bytes written from an address on. -/
def Memory.put (m : Memory) (a : Nat) (bs : List Nat) : Memory :=
  spSetMany (fun _ => (0 : BitVec 8)) m a (bs.map (BitVec.ofNat 8))

end Sys2Proof
end

