-- ==== Sys2Proof/Machine/Regs.lean ====
section
/-! DEFINITION. The registers of BAR0 (R9, R10, R13, R14, R528), from the register tables of the
section files.  A field is named as the manual names it, BLOCK_REGISTER_FIELD; a register with one
field carries the register's name.  Array instances are arguments, outermost first. -/

namespace Sys2Proof.Machine

/-- A register field: BAR0 byte offset of the register (LO of a pair), lowest bit and width.
A field of a LO/HI pair may be wider than 32 bits (R10). -/
structure Fld where
  off : Nat
  lsb : Nat
  w : Nat
  deriving DecidableEq, Repr

/-- Access codes (R13). -/
inductive Access where
  | rw | ro | wo | w1c | w1s | rc | sh
  deriving DecidableEq, Repr

/-- Kept codes: which resets a field survives (R14). -/
inductive Kept where
  | fused | pin | warm | none
  deriving DecidableEq, Repr

/-- One field of a register-table row: place, access, reset value (`reset + step * i` in instance
`i` of the last array dimension) and Kept code. -/
structure FieldRow where
  lsb : Nat
  w : Nat
  acc : Access
  reset : Nat
  step : Nat
  kept : Kept
  deriving DecidableEq, Repr

/-- One register-table row: offset of the first instance, array dimensions (count, stride), whether
it is a LO/HI pair, and its fields. -/
structure RegRow where
  off : Nat
  dims : List (Nat × Nat)
  pair : Bool
  fields : List FieldRow
  deriving DecidableEq, Repr

def TOP_ID : Fld := ⟨0x0, 0, 32⟩
def TOP_MODE : Fld := ⟨0x4, 0, 32⟩
def TOP_MODE_MODE : Fld := ⟨0x4, 0, 4⟩
def TOP_MODE_PREV : Fld := ⟨0x4, 4, 4⟩
def TOP_MODE_ARMED : Fld := ⟨0x4, 8, 4⟩
def TOP_MODE_STOPPING : Fld := ⟨0x4, 16, 1⟩
def TOP_EPOCH : Fld := ⟨0x8, 0, 32⟩
def TOP_CTRL : Fld := ⟨0xc, 0, 32⟩
def TOP_CTRL_WARM_RESET : Fld := ⟨0xc, 0, 1⟩
def TOP_CTRL_HALT_REQ : Fld := ⟨0xc, 1, 1⟩
def TOP_CTRL_RESYNC : Fld := ⟨0xc, 2, 1⟩
def TOP_CTRL_ALERT_OE : Fld := ⟨0xc, 3, 1⟩
def TOP_CTRL_AUTO_SUM_HALT : Fld := ⟨0xc, 4, 1⟩
def TOP_CTRL_AUTO_SUM_WARM : Fld := ⟨0xc, 5, 1⟩
def TOP_STATUS : Fld := ⟨0x10, 0, 32⟩
def TOP_STATUS_ALERT : Fld := ⟨0x10, 0, 1⟩
def TOP_STATUS_FAULT_LOST : Fld := ⟨0x10, 1, 1⟩
def TOP_STATUS_RING_DROP : Fld := ⟨0x10, 2, 1⟩
def TOP_STATUS_CFG_REJECT : Fld := ⟨0x10, 3, 1⟩
def TOP_STATUS_SUM_BUSY : Fld := ⟨0x10, 4, 1⟩
def TOP_STATUS_SUM_PENDING : Fld := ⟨0x10, 5, 1⟩
def TOP_STATUS_HELD_VALID : Fld := ⟨0x10, 6, 1⟩
def TOP_RESET_INFO : Fld := ⟨0x14, 0, 32⟩
def TOP_RESET_INFO_LAST : Fld := ⟨0x14, 0, 2⟩
def TOP_RESET_INFO_RETAINED : Fld := ⟨0x14, 2, 1⟩
def TOP_RESET_INFO_WARM_COUNT : Fld := ⟨0x14, 8, 8⟩
def TOP_RESET_INFO_PIN_COUNT : Fld := ⟨0x14, 16, 16⟩
def TOP_FAULT_POLICY : Fld := ⟨0x18, 0, 32⟩
def TOP_FAULT_POLICY_ALERT_MASK : Fld := ⟨0x18, 0, 16⟩
def TOP_FAULT_POLICY_HALT_MASK : Fld := ⟨0x18, 16, 16⟩
def TOP_FAULT_SEQ : Fld := ⟨0x1c, 0, 32⟩
def TOP_FAULT_LOG : Fld := ⟨0x20, 0, 32⟩
def TOP_FAULT_LOG_WR : Fld := ⟨0x20, 0, 8⟩
def TOP_FAULT_LOG_WRAPPED : Fld := ⟨0x20, 8, 1⟩
def TOP_FAULT_LOST : Fld := ⟨0x24, 0, 32⟩
def TOP_FAULT_RING_BASE : Fld := ⟨0x28, 0, 44⟩
def TOP_FAULT_RING : Fld := ⟨0x30, 0, 32⟩
def TOP_FAULT_RING_DEPTH : Fld := ⟨0x30, 0, 16⟩
def TOP_FAULT_RING_WR : Fld := ⟨0x30, 16, 16⟩
def TOP_FAULT_RD : Fld := ⟨0x34, 0, 16⟩
def TOP_FAULT_IRQ : Fld := ⟨0x38, 0, 32⟩
def TOP_FAULT_IRQ_VECTOR : Fld := ⟨0x38, 0, 8⟩
def TOP_FAULT_IRQ_IRQ_EN : Fld := ⟨0x38, 8, 1⟩
def TOP_FAULT_IRQ_HOLDOFF : Fld := ⟨0x38, 16, 16⟩
def TOP_FAULT_DROPPED : Fld := ⟨0x3c, 0, 32⟩
def TOP_SUMMARY_DEST : Fld := ⟨0x40, 0, 44⟩
def TOP_SUMMARY_COUNT : Fld := ⟨0x48, 0, 32⟩
def TOP_SUMMARY_AT : Fld := ⟨0x50, 0, 64⟩
def TOP_HALT_INFO : Fld := ⟨0x58, 0, 32⟩
def TOP_HALT_INFO_CAUSE : Fld := ⟨0x58, 0, 3⟩
def TOP_HALT_INFO_CLASS : Fld := ⟨0x58, 4, 4⟩
def TOP_HALT_INFO_CODE : Fld := ⟨0x58, 16, 16⟩
def TOP_HELD_FIRST : Fld := ⟨0x60, 0, 64⟩
def TOP_HELD_LAST : Fld := ⟨0x68, 0, 64⟩
def TOP_WEAR : Fld := ⟨0x70, 0, 32⟩
def TOP_WEAR_EYE_MIN : Fld := ⟨0x70, 0, 8⟩
def TOP_WEAR_NIB_CE : Fld := ⟨0x70, 8, 16⟩
def TOP_WEAR_ROW_CE : Fld := ⟨0x70, 24, 8⟩
def TOP_SPARES : Fld := ⟨0x74, 0, 32⟩
def TOP_SPARES_PIPE_SPARE : Fld := ⟨0x74, 0, 1⟩
def TOP_SPARES_QUILL_SPARES : Fld := ⟨0x74, 1, 12⟩
def TOP_SPARES_RANK_SPARES : Fld := ⟨0x74, 16, 8⟩
def TOP_SRAM_SPARE (i : Nat) : Fld := ⟨0x80 + 0x4 * i, 0, 32⟩
def TOP_SRAM_SPARE_LEFT (i : Nat) : Fld := ⟨0x80 + 0x4 * i, 0, 8⟩
def TOP_SRAM_SPARE_TOTAL (i : Nat) : Fld := ⟨0x80 + 0x4 * i, 8, 8⟩
def TOP_SRAM_SPARE_REMAPS (i : Nat) : Fld := ⟨0x80 + 0x4 * i, 16, 16⟩
def TIMELINE_CTRL : Fld := ⟨0x10000, 0, 32⟩
def TIMELINE_CTRL_RUN : Fld := ⟨0x10000, 0, 1⟩
def TIMELINE_CTRL_MASTER_SRC : Fld := ⟨0x10000, 1, 3⟩
def TIMELINE_CTRL_PRESET : Fld := ⟨0x10000, 4, 1⟩
def TIMELINE_CTRL_VLIM_EN : Fld := ⟨0x10000, 5, 1⟩
def TIMELINE_CTRL_XLATCH : Fld := ⟨0x10000, 6, 1⟩
def TIMELINE_STATUS : Fld := ⟨0x10004, 0, 32⟩
def TIMELINE_STATUS_WEB_STOPPED : Fld := ⟨0x10004, 0, 1⟩
def TIMELINE_STATUS_REVERSE : Fld := ⟨0x10004, 1, 1⟩
def TIMELINE_STATUS_CFG_REJECT : Fld := ⟨0x10004, 2, 1⟩
def TIMELINE_STATUS_MISSED_SLOT : Fld := ⟨0x10004, 3, 1⟩
def TIMELINE_STATUS_MARKER_SKIPPED : Fld := ⟨0x10004, 4, 1⟩
def TIMELINE_STATUS_SCHED_FULL : Fld := ⟨0x10004, 5, 1⟩
def TIMELINE_STATUS_VLIM_LOW : Fld := ⟨0x10004, 6, 1⟩
def TIMELINE_STATUS_VLIM_HIGH : Fld := ⟨0x10004, 7, 1⟩
def TIMELINE_STATUS_TRIG_LATE : Fld := ⟨0x10004, 8, 1⟩
def TIMELINE_TICK : Fld := ⟨0x10008, 0, 64⟩
def TIMELINE_POS : Fld := ⟨0x10010, 0, 64⟩
def TIMELINE_PRESET : Fld := ⟨0x10018, 0, 64⟩
def TIMELINE_RATIO : Fld := ⟨0x10020, 0, 32⟩
def TIMELINE_VELOCITY : Fld := ⟨0x10024, 0, 32⟩
def TIMELINE_STALL : Fld := ⟨0x10028, 0, 32⟩
def TIMELINE_NS_PER_TICK : Fld := ⟨0x1002c, 0, 32⟩
def TIMELINE_SIM_RATE : Fld := ⟨0x10030, 0, 32⟩
def TIMELINE_TRIG_CTRL : Fld := ⟨0x10034, 0, 32⟩
def TIMELINE_TRIG_CTRL_TRIG_EN : Fld := ⟨0x10034, 0, 1⟩
def TIMELINE_TRIG_CTRL_PHASE : Fld := ⟨0x10034, 8, 8⟩
def TIMELINE_TRIG_CTRL_MIN_GAP : Fld := ⟨0x10034, 16, 8⟩
def TIMELINE_TRIG_CTRL_BACKLOG : Fld := ⟨0x10034, 24, 4⟩
def TIMELINE_LAST_LINE : Fld := ⟨0x10038, 0, 64⟩
def TIMELINE_VLIM_LOW : Fld := ⟨0x10040, 0, 64⟩
def TIMELINE_VLIM_HIGH : Fld := ⟨0x10048, 0, 64⟩
def TIMELINE_XLATCH_POS : Fld := ⟨0x10050, 0, 64⟩
def TIMELINE_XLATCH_TICK : Fld := ⟨0x10058, 0, 64⟩
def TIMELINE_XLATCH_PTP_NS : Fld := ⟨0x10060, 0, 32⟩
def TIMELINE_XLATCH_PTP_WRAP : Fld := ⟨0x10064, 0, 16⟩
def TIMELINE_SCHED_STATUS : Fld := ⟨0x10070, 0, 32⟩
def TIMELINE_SCHED_STATUS_PENDING : Fld := ⟨0x10070, 0, 12⟩
def TIMELINE_SCHED_STATUS_FULL : Fld := ⟨0x10070, 12, 1⟩
def TIMELINE_SCHED_STATUS_PEAK : Fld := ⟨0x10070, 16, 12⟩
def TIMELINE_ENC_CTRL (i : Nat) : Fld := ⟨0x10100 + 0x40 * i, 0, 32⟩
def TIMELINE_ENC_CTRL_MODE (i : Nat) : Fld := ⟨0x10100 + 0x40 * i, 0, 3⟩
def TIMELINE_ENC_CTRL_DIR_INVERT (i : Nat) : Fld := ⟨0x10100 + 0x40 * i, 3, 1⟩
def TIMELINE_ENC_CTRL_FILTER (i : Nat) : Fld := ⟨0x10100 + 0x40 * i, 4, 8⟩
def TIMELINE_ENC_CTRL_INDEX_MODE (i : Nat) : Fld := ⟨0x10100 + 0x40 * i, 12, 2⟩
def TIMELINE_ENC_CTRL_INDEX_ARM (i : Nat) : Fld := ⟨0x10100 + 0x40 * i, 14, 1⟩
def TIMELINE_ENC_CTRL_Z_INVERT (i : Nat) : Fld := ⟨0x10100 + 0x40 * i, 15, 1⟩
def TIMELINE_ENC_COUNT (i : Nat) : Fld := ⟨0x10104 + 0x40 * i, 0, 32⟩
def TIMELINE_ENC_INDEX_EXPECT (i : Nat) : Fld := ⟨0x10108 + 0x40 * i, 0, 32⟩
def TIMELINE_ENC_INDEX_TOL (i : Nat) : Fld := ⟨0x1010c + 0x40 * i, 0, 16⟩
def TIMELINE_ENC_STATUS (i : Nat) : Fld := ⟨0x10110 + 0x40 * i, 0, 32⟩
def TIMELINE_ENC_STATUS_QUAD_ERROR (i : Nat) : Fld := ⟨0x10110 + 0x40 * i, 0, 1⟩
def TIMELINE_ENC_STATUS_INDEX_SLIP (i : Nat) : Fld := ⟨0x10110 + 0x40 * i, 1, 1⟩
def TIMELINE_ENC_STATUS_SSI_ERROR (i : Nat) : Fld := ⟨0x10110 + 0x40 * i, 2, 1⟩
def TIMELINE_ENC_STATUS_SSI_JUMP (i : Nat) : Fld := ⟨0x10110 + 0x40 * i, 3, 1⟩
def TIMELINE_ENC_STATUS_OVERSPEED (i : Nat) : Fld := ⟨0x10110 + 0x40 * i, 4, 1⟩
def TIMELINE_ENC_STATUS_INDEX_ARMED (i : Nat) : Fld := ⟨0x10110 + 0x40 * i, 5, 1⟩
def TIMELINE_ENC_SLIP_COUNT (i : Nat) : Fld := ⟨0x10114 + 0x40 * i, 0, 32⟩
def TIMELINE_ENC_SSI_CFG (i : Nat) : Fld := ⟨0x10118 + 0x40 * i, 0, 32⟩
def TIMELINE_ENC_SSI_CFG_BITS (i : Nat) : Fld := ⟨0x10118 + 0x40 * i, 0, 6⟩
def TIMELINE_ENC_SSI_CFG_GRAY (i : Nat) : Fld := ⟨0x10118 + 0x40 * i, 6, 1⟩
def TIMELINE_ENC_SSI_CFG_PARITY (i : Nat) : Fld := ⟨0x10118 + 0x40 * i, 7, 1⟩
def TIMELINE_ENC_SSI_CFG_DIV (i : Nat) : Fld := ⟨0x10118 + 0x40 * i, 8, 11⟩
def TIMELINE_ENC_SSI_TIMING (i : Nat) : Fld := ⟨0x1011c + 0x40 * i, 0, 32⟩
def TIMELINE_ENC_SSI_TIMING_PERIOD (i : Nat) : Fld := ⟨0x1011c + 0x40 * i, 0, 20⟩
def TIMELINE_ENC_SSI_TIMING_DELAY (i : Nat) : Fld := ⟨0x1011c + 0x40 * i, 20, 12⟩
def TIMELINE_ENC_EDGE_POS (i : Nat) : Fld := ⟨0x10120 + 0x40 * i, 0, 64⟩
def TIMELINE_ENC_EDGE_TICK (i : Nat) : Fld := ⟨0x10128 + 0x40 * i, 0, 64⟩
def TIMELINE_ENC_INDEX_POS (i : Nat) : Fld := ⟨0x10130 + 0x40 * i, 0, 64⟩
def TIMELINE_ENC_INDEX_TICK (i : Nat) : Fld := ⟨0x10138 + 0x40 * i, 0, 64⟩
def TIMELINE_FRAME_CTRL (i : Nat) : Fld := ⟨0x10200 + 0x20 * i, 0, 32⟩
def TIMELINE_FRAME_CTRL_SRC (i : Nat) : Fld := ⟨0x10200 + 0x20 * i, 0, 2⟩
def TIMELINE_FRAME_CTRL_PROBE (i : Nat) : Fld := ⟨0x10200 + 0x20 * i, 2, 3⟩
def TIMELINE_FRAME_CTRL_MISSING (i : Nat) : Fld := ⟨0x10200 + 0x20 * i, 8, 1⟩
def TIMELINE_FRAME_CTRL_EARLY (i : Nat) : Fld := ⟨0x10200 + 0x20 * i, 9, 1⟩
def TIMELINE_FRAME_LEN (i : Nat) : Fld := ⟨0x10204 + 0x20 * i, 0, 32⟩
def TIMELINE_FRAME_ORIGIN (i : Nat) : Fld := ⟨0x10208 + 0x20 * i, 0, 64⟩
def TIMELINE_FRAME_OFFSET (i : Nat) : Fld := ⟨0x10210 + 0x20 * i, 0, 32⟩
def TIMELINE_FRAME_GAPS (i : Nat) : Fld := ⟨0x10214 + 0x20 * i, 0, 32⟩
def TIMELINE_FRAME_GAPS_MIN_GAP (i : Nat) : Fld := ⟨0x10214 + 0x20 * i, 0, 16⟩
def TIMELINE_FRAME_GAPS_MAX_GAP (i : Nat) : Fld := ⟨0x10214 + 0x20 * i, 16, 16⟩
def TIMELINE_FRAME_NUMBER (i : Nat) : Fld := ⟨0x10218 + 0x20 * i, 0, 32⟩
def TIMELINE_PRB_CTRL (i : Nat) : Fld := ⟨0x10300 + 0x20 * i, 0, 32⟩
def TIMELINE_PRB_CTRL_EN (i : Nat) : Fld := ⟨0x10300 + 0x20 * i, 0, 1⟩
def TIMELINE_PRB_CTRL_EDGE (i : Nat) : Fld := ⟨0x10300 + 0x20 * i, 1, 2⟩
def TIMELINE_PRB_CTRL_FILTER (i : Nat) : Fld := ⟨0x10300 + 0x20 * i, 3, 8⟩
def TIMELINE_PRB_LOCKOUT (i : Nat) : Fld := ⟨0x10304 + 0x20 * i, 0, 32⟩
def TIMELINE_PRB_POS (i : Nat) : Fld := ⟨0x10308 + 0x20 * i, 0, 64⟩
def TIMELINE_PRB_TICK (i : Nat) : Fld := ⟨0x10310 + 0x20 * i, 0, 64⟩
def TIMELINE_PRB_EDGE (i : Nat) : Fld := ⟨0x10318 + 0x20 * i, 0, 32⟩
def TIMELINE_PRB_EDGE_RISING (i : Nat) : Fld := ⟨0x10318 + 0x20 * i, 0, 1⟩
def TIMELINE_PRB_EDGE_VALID (i : Nat) : Fld := ⟨0x10318 + 0x20 * i, 1, 1⟩
def TIMELINE_PRB_STATUS (i : Nat) : Fld := ⟨0x1031c + 0x20 * i, 0, 32⟩
def TIMELINE_PRB_STATUS_DEPTH (i : Nat) : Fld := ⟨0x1031c + 0x20 * i, 0, 5⟩
def TIMELINE_PRB_STATUS_OVERRUN (i : Nat) : Fld := ⟨0x1031c + 0x20 * i, 8, 1⟩
def TIMELINE_PRB_STATUS_LEVEL (i : Nat) : Fld := ⟨0x1031c + 0x20 * i, 9, 1⟩
def TIMELINE_PRB_STATUS_LOCKED_OUT (i : Nat) : Fld := ⟨0x1031c + 0x20 * i, 10, 1⟩
def TIMELINE_CMP_CTRL (i : Nat) : Fld := ⟨0x10400 + 0x20 * i, 0, 32⟩
def TIMELINE_CMP_CTRL_ENABLE (i : Nat) : Fld := ⟨0x10400 + 0x20 * i, 0, 1⟩
def TIMELINE_CMP_CTRL_DIR (i : Nat) : Fld := ⟨0x10400 + 0x20 * i, 1, 2⟩
def TIMELINE_CMP_CTRL_LATE_FIRE (i : Nat) : Fld := ⟨0x10400 + 0x20 * i, 3, 1⟩
def TIMELINE_CMP_CTRL_SINGLE (i : Nat) : Fld := ⟨0x10400 + 0x20 * i, 4, 1⟩
def TIMELINE_CMP_STATUS (i : Nat) : Fld := ⟨0x10404 + 0x20 * i, 0, 32⟩
def TIMELINE_CMP_STATUS_FIRED (i : Nat) : Fld := ⟨0x10404 + 0x20 * i, 0, 1⟩
def TIMELINE_CMP_STATUS_COMPARE_BEHIND (i : Nat) : Fld := ⟨0x10404 + 0x20 * i, 1, 1⟩
def TIMELINE_CMP_STATUS_COMPARE_LATE (i : Nat) : Fld := ⟨0x10404 + 0x20 * i, 2, 1⟩
def TIMELINE_CMP_STATUS_COMPARE_MULTI (i : Nat) : Fld := ⟨0x10404 + 0x20 * i, 3, 1⟩
def TIMELINE_CMP_TARGET (i : Nat) : Fld := ⟨0x10408 + 0x20 * i, 0, 64⟩
def TIMELINE_CMP_PERIOD (i : Nat) : Fld := ⟨0x10410 + 0x20 * i, 0, 32⟩
def TIMELINE_CMP_SKIPPED (i : Nat) : Fld := ⟨0x10414 + 0x20 * i, 0, 32⟩
def TIMELINE_CMP_FIRE_TICK (i : Nat) : Fld := ⟨0x10418 + 0x20 * i, 0, 64⟩
def TIMELINE_MK_CTRL (i : Nat) : Fld := ⟨0x10c00 + 0x10 * i, 0, 32⟩
def TIMELINE_MK_CTRL_OE (i : Nat) : Fld := ⟨0x10c00 + 0x10 * i, 0, 1⟩
def TIMELINE_MK_CTRL_POLARITY (i : Nat) : Fld := ⟨0x10c00 + 0x10 * i, 1, 1⟩
def TIMELINE_MK_CTRL_WIDTH (i : Nat) : Fld := ⟨0x10c00 + 0x10 * i, 16, 16⟩
def TIMELINE_MK_STATUS (i : Nat) : Fld := ⟨0x10c04 + 0x10 * i, 0, 32⟩
def TIMELINE_MK_STATUS_PENDING (i : Nat) : Fld := ⟨0x10c04 + 0x10 * i, 0, 5⟩
def TIMELINE_MK_STATUS_MK_FULL (i : Nat) : Fld := ⟨0x10c04 + 0x10 * i, 8, 1⟩
def TIMELINE_MK_STATUS_SKIPPED (i : Nat) : Fld := ⟨0x10c04 + 0x10 * i, 9, 1⟩
def TIMELINE_MK_STATUS_RETRIGGER (i : Nat) : Fld := ⟨0x10c04 + 0x10 * i, 10, 1⟩
def TIMELINE_MK_AT (i : Nat) : Fld := ⟨0x10c08 + 0x10 * i, 0, 64⟩
def STROKE_START : Fld := ⟨0x20000, 0, 8⟩
def STROKE_ST_CTRL (i : Nat) : Fld := ⟨0x20100 + 0x80 * i, 0, 32⟩
def STROKE_ST_CTRL_EN (i : Nat) : Fld := ⟨0x20100 + 0x80 * i, 0, 1⟩
def STROKE_ST_CTRL_OE (i : Nat) : Fld := ⟨0x20100 + 0x80 * i, 1, 1⟩
def STROKE_ST_CTRL_FORM (i : Nat) : Fld := ⟨0x20100 + 0x80 * i, 2, 2⟩
def STROKE_ST_CTRL_SRC (i : Nat) : Fld := ⟨0x20100 + 0x80 * i, 4, 3⟩
def STROKE_ST_CTRL_ORIGIN_SRC (i : Nat) : Fld := ⟨0x20100 + 0x80 * i, 7, 1⟩
def STROKE_ST_CTRL_STEP_POL (i : Nat) : Fld := ⟨0x20100 + 0x80 * i, 8, 1⟩
def STROKE_ST_CTRL_DIR_INVERT (i : Nat) : Fld := ⟨0x20100 + 0x80 * i, 9, 1⟩
def STROKE_ST_CTRL_HALT_HOLD (i : Nat) : Fld := ⟨0x20100 + 0x80 * i, 10, 1⟩
def STROKE_ST_CTRL_VLIM_EN (i : Nat) : Fld := ⟨0x20100 + 0x80 * i, 11, 1⟩
def STROKE_ST_CTRL_PW (i : Nat) : Fld := ⟨0x20100 + 0x80 * i, 16, 8⟩
def STROKE_ST_CTRL_DIR_SETUP (i : Nat) : Fld := ⟨0x20100 + 0x80 * i, 24, 8⟩
def STROKE_ST_STATUS (i : Nat) : Fld := ⟨0x20104 + 0x80 * i, 0, 32⟩
def STROKE_ST_STATUS_LAG (i : Nat) : Fld := ⟨0x20104 + 0x80 * i, 0, 1⟩
def STROKE_ST_STATUS_VLIM_LOW (i : Nat) : Fld := ⟨0x20104 + 0x80 * i, 1, 1⟩
def STROKE_ST_STATUS_VLIM_HIGH (i : Nat) : Fld := ⟨0x20104 + 0x80 * i, 2, 1⟩
def STROKE_ST_STATUS_TRIM_CLAMPED (i : Nat) : Fld := ⟨0x20104 + 0x80 * i, 3, 1⟩
def STROKE_ST_STATUS_CFG_REJECT (i : Nat) : Fld := ⟨0x20104 + 0x80 * i, 4, 1⟩
def STROKE_ST_STATUS_RUNNING (i : Nat) : Fld := ⟨0x20104 + 0x80 * i, 5, 1⟩
def STROKE_ST_STATUS_TRIM_SETTLED (i : Nat) : Fld := ⟨0x20104 + 0x80 * i, 6, 1⟩
def STROKE_ST_RATIO (i : Nat) : Fld := ⟨0x20108 + 0x80 * i, 0, 32⟩
def STROKE_ST_LAG_MAX (i : Nat) : Fld := ⟨0x2010c + 0x80 * i, 0, 16⟩
def STROKE_ST_ORIGIN_POS (i : Nat) : Fld := ⟨0x20110 + 0x80 * i, 0, 64⟩
def STROKE_ST_COUNT (i : Nat) : Fld := ⟨0x20118 + 0x80 * i, 0, 64⟩
def STROKE_ST_TARGET (i : Nat) : Fld := ⟨0x20120 + 0x80 * i, 0, 64⟩
def STROKE_ST_TRIM_TARGET (i : Nat) : Fld := ⟨0x20128 + 0x80 * i, 0, 32⟩
def STROKE_ST_TRIM_ADD (i : Nat) : Fld := ⟨0x2012c + 0x80 * i, 0, 32⟩
def STROKE_ST_TRIM_APPLIED (i : Nat) : Fld := ⟨0x20130 + 0x80 * i, 0, 32⟩
def STROKE_ST_SLEW (i : Nat) : Fld := ⟨0x20134 + 0x80 * i, 0, 32⟩
def STROKE_ST_TRIM_LIMIT (i : Nat) : Fld := ⟨0x20138 + 0x80 * i, 0, 32⟩
def STROKE_ST_LAG (i : Nat) : Fld := ⟨0x2013c + 0x80 * i, 0, 32⟩
def STROKE_ST_VLIM_LOW (i : Nat) : Fld := ⟨0x20140 + 0x80 * i, 0, 64⟩
def STROKE_ST_VLIM_HIGH (i : Nat) : Fld := ⟨0x20148 + 0x80 * i, 0, 64⟩
def STROKE_ST_SUPPRESSED (i : Nat) : Fld := ⟨0x20150 + 0x80 * i, 0, 32⟩
def EVENT_CTRL : Fld := ⟨0x30000, 0, 1⟩
def EVENT_STATUS : Fld := ⟨0x30004, 0, 32⟩
def EVENT_STATUS_CFG_REJECT : Fld := ⟨0x30004, 0, 1⟩
def EVENT_STATUS_ANY_LOOP : Fld := ⟨0x30004, 1, 1⟩
def EVENT_STATUS_ANY_OVERRUN : Fld := ⟨0x30004, 2, 1⟩
def EVENT_SOFT : Fld := ⟨0x30008, 0, 64⟩
def EVENT_FLAGS : Fld := ⟨0x30010, 0, 64⟩
def EVENT_LOOP : Fld := ⟨0x30018, 0, 64⟩
def EVENT_PINLVL : Fld := ⟨0x30020, 0, 16⟩
def EVENT_PROD (i : Nat) : Fld := ⟨0x30400 + 0x4 * i, 0, 32⟩
def EVENT_PROD_CHANNEL (i : Nat) : Fld := ⟨0x30400 + 0x4 * i, 0, 6⟩
def EVENT_PROD_EN (i : Nat) : Fld := ⟨0x30400 + 0x4 * i, 7, 1⟩
def EVENT_CH_CTRL (i : Nat) : Fld := ⟨0x30800 + 0x10 * i, 0, 32⟩
def EVENT_CH_CTRL_GATE (i : Nat) : Fld := ⟨0x30800 + 0x10 * i, 0, 3⟩
def EVENT_CH_CTRL_GATE_INV (i : Nat) : Fld := ⟨0x30800 + 0x10 * i, 3, 1⟩
def EVENT_CH_CTRL_GATE_SOFT (i : Nat) : Fld := ⟨0x30800 + 0x10 * i, 4, 1⟩
def EVENT_CH_CTRL_IRQ_EN (i : Nat) : Fld := ⟨0x30800 + 0x10 * i, 5, 1⟩
def EVENT_CH_CTRL_GATE_PIN (i : Nat) : Fld := ⟨0x30800 + 0x10 * i, 8, 4⟩
def EVENT_CH_CTRL_VECTOR (i : Nat) : Fld := ⟨0x30800 + 0x10 * i, 16, 8⟩
def EVENT_CH_GATE_MODES (i : Nat) : Fld := ⟨0x30804 + 0x10 * i, 0, 12⟩
def EVENT_CH_COUNT (i : Nat) : Fld := ⟨0x30808 + 0x10 * i, 0, 32⟩
def EVENT_CH_DROPPED (i : Nat) : Fld := ⟨0x3080c + 0x10 * i, 0, 32⟩
def EVENT_CH_DROPPED_GATED (i : Nat) : Fld := ⟨0x3080c + 0x10 * i, 0, 16⟩
def EVENT_CH_DROPPED_LOOPED (i : Nat) : Fld := ⟨0x3080c + 0x10 * i, 16, 16⟩
def EVENT_CONS_CFG (i : Nat) : Fld := ⟨0x31000 + 0x8 * i, 0, 32⟩
def EVENT_CONS_CFG_CHANNEL (i : Nat) : Fld := ⟨0x31000 + 0x8 * i, 0, 6⟩
def EVENT_CONS_CFG_EN (i : Nat) : Fld := ⟨0x31000 + 0x8 * i, 7, 1⟩
def EVENT_CONS_STATUS (i : Nat) : Fld := ⟨0x31004 + 0x8 * i, 0, 32⟩
def EVENT_CONS_STATUS_COINCIDENT (i : Nat) : Fld := ⟨0x31004 + 0x8 * i, 0, 1⟩
def EVENT_CONS_STATUS_OVERRUN (i : Nat) : Fld := ⟨0x31004 + 0x8 * i, 1, 1⟩
def EVENT_CONS_STATUS_OVERRUNS (i : Nat) : Fld := ⟨0x31004 + 0x8 * i, 16, 16⟩
def EVENT_PIN_CTRL (i : Nat) : Fld := ⟨0x31800 + 0x10 * i, 0, 32⟩
def EVENT_PIN_CTRL_DIR (i : Nat) : Fld := ⟨0x31800 + 0x10 * i, 0, 1⟩
def EVENT_PIN_CTRL_OE (i : Nat) : Fld := ⟨0x31800 + 0x10 * i, 1, 1⟩
def EVENT_PIN_CTRL_POLARITY (i : Nat) : Fld := ⟨0x31800 + 0x10 * i, 2, 1⟩
def EVENT_PIN_CTRL_OUT_MODE (i : Nat) : Fld := ⟨0x31800 + 0x10 * i, 3, 1⟩
def EVENT_PIN_CTRL_EDGE (i : Nat) : Fld := ⟨0x31800 + 0x10 * i, 4, 2⟩
def EVENT_PIN_CTRL_IN_EN (i : Nat) : Fld := ⟨0x31800 + 0x10 * i, 6, 1⟩
def EVENT_PIN_CTRL_FILTER (i : Nat) : Fld := ⟨0x31800 + 0x10 * i, 8, 8⟩
def EVENT_PIN_CTRL_CHANNEL (i : Nat) : Fld := ⟨0x31800 + 0x10 * i, 16, 6⟩
def EVENT_PIN_WIDTH (i : Nat) : Fld := ⟨0x31804 + 0x10 * i, 0, 16⟩
def SCRIBE_CTRL : Fld := ⟨0x40000, 0, 1⟩
def SCRIBE_STATUS : Fld := ⟨0x40004, 0, 32⟩
def SCRIBE_STATUS_CFG_REJECT : Fld := ⟨0x40004, 0, 1⟩
def SCRIBE_STATUS_COMMIT_UNSERVED : Fld := ⟨0x40004, 1, 1⟩
def SCRIBE_STATUS_RUNNING : Fld := ⟨0x40004, 8, 8⟩
def SCRIBE_STATUS_ERROR : Fld := ⟨0x40004, 16, 8⟩
def SCRIBE_ISSUED : Fld := ⟨0x40008, 0, 32⟩
def SCRIBE_Q_CTRL (i : Nat) : Fld := ⟨0x40100 + 0x40 * i, 0, 32⟩
def SCRIBE_Q_CTRL_START (i : Nat) : Fld := ⟨0x40100 + 0x40 * i, 0, 1⟩
def SCRIBE_Q_CTRL_STOP (i : Nat) : Fld := ⟨0x40100 + 0x40 * i, 1, 1⟩
def SCRIBE_Q_CTRL_PRIO (i : Nat) : Fld := ⟨0x40100 + 0x40 * i, 2, 1⟩
def SCRIBE_Q_CTRL_HALT_STOP (i : Nat) : Fld := ⟨0x40100 + 0x40 * i, 3, 1⟩
def SCRIBE_Q_STATUS (i : Nat) : Fld := ⟨0x40104 + 0x40 * i, 0, 32⟩
def SCRIBE_Q_STATUS_STATE (i : Nat) : Fld := ⟨0x40104 + 0x40 * i, 0, 3⟩
def SCRIBE_Q_STATUS_C (i : Nat) : Fld := ⟨0x40104 + 0x40 * i, 3, 1⟩
def SCRIBE_Q_STATUS_IN_RING (i : Nat) : Fld := ⟨0x40104 + 0x40 * i, 4, 1⟩
def SCRIBE_Q_STATUS_LOOPS (i : Nat) : Fld := ⟨0x40104 + 0x40 * i, 5, 3⟩
def SCRIBE_Q_STATUS_CALLS (i : Nat) : Fld := ⟨0x40104 + 0x40 * i, 8, 4⟩
def SCRIBE_Q_STATUS_WAIT_KIND (i : Nat) : Fld := ⟨0x40104 + 0x40 * i, 12, 3⟩
def SCRIBE_Q_STATUS_EV_LATCH (i : Nat) : Fld := ⟨0x40104 + 0x40 * i, 16, 1⟩
def SCRIBE_Q_STATUS_EV_OVERRUN (i : Nat) : Fld := ⟨0x40104 + 0x40 * i, 17, 1⟩
def SCRIBE_Q_STATUS_COINCIDENT (i : Nat) : Fld := ⟨0x40104 + 0x40 * i, 18, 1⟩
def SCRIBE_Q_STATUS_TIMEOUT (i : Nat) : Fld := ⟨0x40104 + 0x40 * i, 19, 1⟩
def SCRIBE_Q_STATUS_LATE (i : Nat) : Fld := ⟨0x40104 + 0x40 * i, 20, 1⟩
def SCRIBE_Q_BASE (i : Nat) : Fld := ⟨0x40108 + 0x40 * i, 0, 44⟩
def SCRIBE_Q_SIZE (i : Nat) : Fld := ⟨0x40110 + 0x40 * i, 0, 25⟩
def SCRIBE_Q_HEAD (i : Nat) : Fld := ⟨0x40114 + 0x40 * i, 0, 24⟩
def SCRIBE_Q_TAIL (i : Nat) : Fld := ⟨0x40118 + 0x40 * i, 0, 24⟩
def SCRIBE_Q_HOST_BASE (i : Nat) : Fld := ⟨0x4011c + 0x40 * i, 0, 64⟩
def SCRIBE_Q_PC (i : Nat) : Fld := ⟨0x40124 + 0x40 * i, 0, 44⟩
def SCRIBE_Q_ERR (i : Nat) : Fld := ⟨0x4012c + 0x40 * i, 0, 32⟩
def SCRIBE_Q_ERR_CODE (i : Nat) : Fld := ⟨0x4012c + 0x40 * i, 0, 16⟩
def SCRIBE_Q_ERR_COUNT (i : Nat) : Fld := ⟨0x4012c + 0x40 * i, 16, 16⟩
def SCRIBE_Q_LAST_READ (i : Nat) : Fld := ⟨0x40130 + 0x40 * i, 0, 32⟩
def SCRIBE_Q_WAIT_LEFT (i : Nat) : Fld := ⟨0x40134 + 0x40 * i, 0, 8⟩
def DMA_CTRL : Fld := ⟨0x50000, 0, 1⟩
def DMA_STATUS : Fld := ⟨0x50004, 0, 32⟩
def DMA_STATUS_CFG_REJECT : Fld := ⟨0x50004, 0, 1⟩
def DMA_STATUS_BUF_USED : Fld := ⟨0x50004, 8, 6⟩
def DMA_RD_KIB : Fld := ⟨0x50008, 0, 32⟩
def DMA_WR_KIB : Fld := ⟨0x5000c, 0, 32⟩
def DMA_RUNNING : Fld := ⟨0x50010, 0, 32⟩
def DMA_ERROR : Fld := ⟨0x50014, 0, 32⟩
def DMA_CH_CTRL (i : Nat) : Fld := ⟨0x50100 + 0x40 * i, 0, 32⟩
def DMA_CH_CTRL_START (i : Nat) : Fld := ⟨0x50100 + 0x40 * i, 0, 1⟩
def DMA_CH_CTRL_STOP (i : Nat) : Fld := ⟨0x50100 + 0x40 * i, 1, 1⟩
def DMA_CH_CTRL_MODE (i : Nat) : Fld := ⟨0x50100 + 0x40 * i, 2, 1⟩
def DMA_CH_CTRL_WEIGHT (i : Nat) : Fld := ⟨0x50100 + 0x40 * i, 4, 4⟩
def DMA_CH_CTRL_BUF (i : Nat) : Fld := ⟨0x50100 + 0x40 * i, 8, 4⟩
def DMA_CH_STATUS (i : Nat) : Fld := ⟨0x50104 + 0x40 * i, 0, 32⟩
def DMA_CH_STATUS_STATE (i : Nat) : Fld := ⟨0x50104 + 0x40 * i, 0, 3⟩
def DMA_CH_STATUS_LOOPS (i : Nat) : Fld := ⟨0x50104 + 0x40 * i, 4, 3⟩
def DMA_CH_STATUS_EV_LATCH (i : Nat) : Fld := ⟨0x50104 + 0x40 * i, 8, 1⟩
def DMA_CH_STATUS_EV_OVERRUN (i : Nat) : Fld := ⟨0x50104 + 0x40 * i, 9, 1⟩
def DMA_CH_STATUS_COINCIDENT (i : Nat) : Fld := ⟨0x50104 + 0x40 * i, 10, 1⟩
def DMA_CH_STATUS_TIMEOUT (i : Nat) : Fld := ⟨0x50104 + 0x40 * i, 11, 1⟩
def DMA_CH_STATUS_OVERLAP (i : Nat) : Fld := ⟨0x50104 + 0x40 * i, 12, 1⟩
def DMA_CH_STATUS_ERR (i : Nat) : Fld := ⟨0x50104 + 0x40 * i, 13, 1⟩
def DMA_CH_PROG_PC (i : Nat) : Fld := ⟨0x50108 + 0x40 * i, 0, 44⟩
def DMA_CH_HOST_BASE (i : Nat) : Fld := ⟨0x50110 + 0x40 * i, 0, 64⟩
def DMA_CH_ERR (i : Nat) : Fld := ⟨0x50118 + 0x40 * i, 0, 32⟩
def DMA_CH_ERR_CODE (i : Nat) : Fld := ⟨0x50118 + 0x40 * i, 0, 16⟩
def DMA_CH_ERR_COUNT (i : Nat) : Fld := ⟨0x50118 + 0x40 * i, 16, 16⟩
def DMA_CH_ERR_ADDR (i : Nat) : Fld := ⟨0x50120 + 0x40 * i, 0, 44⟩
def DMA_CH_DONE_BYTES (i : Nat) : Fld := ⟨0x50128 + 0x40 * i, 0, 32⟩
def DMA_CH_MOVES (i : Nat) : Fld := ⟨0x5012c + 0x40 * i, 0, 32⟩
def DMA_CH_WAIT_LEFT (i : Nat) : Fld := ⟨0x50130 + 0x40 * i, 0, 32⟩
def THERM_CTRL : Fld := ⟨0x60000, 0, 32⟩
def THERM_CTRL_CAL_GO : Fld := ⟨0x60000, 0, 1⟩
def THERM_CTRL_CAL_RESTORE : Fld := ⟨0x60000, 1, 1⟩
def THERM_CTRL_AUTO_CAL : Fld := ⟨0x60000, 2, 1⟩
def THERM_CTRL_TABLE_EN : Fld := ⟨0x60000, 3, 1⟩
def THERM_CTRL_CAL_REGIONS : Fld := ⟨0x60000, 8, 8⟩
def THERM_STATUS : Fld := ⟨0x60004, 0, 32⟩
def THERM_STATUS_WARNING : Fld := ⟨0x60004, 0, 8⟩
def THERM_STATUS_CRITICAL : Fld := ⟨0x60004, 8, 8⟩
def THERM_STATUS_CAL_BUSY : Fld := ⟨0x60004, 16, 1⟩
def THERM_STATUS_CAL_DEGRADED : Fld := ⟨0x60004, 17, 1⟩
def THERM_STATUS_ZQREF_ERR : Fld := ⟨0x60004, 18, 1⟩
def THERM_STATUS_CAL_RAIL : Fld := ⟨0x60004, 19, 1⟩
def THERM_STATUS_RESTORE_REJECTED : Fld := ⟨0x60004, 20, 1⟩
def THERM_STATUS_TABLE_ERR : Fld := ⟨0x60004, 21, 1⟩
def THERM_STATUS_CFG_REJECT : Fld := ⟨0x60004, 22, 1⟩
def THERM_CFG : Fld := ⟨0x60008, 0, 32⟩
def THERM_CFG_CAL_DT : Fld := ⟨0x60008, 0, 8⟩
def THERM_CFG_CAL_MAX : Fld := ⟨0x60008, 8, 8⟩
def THERM_CFG_GAP_SPACING : Fld := ⟨0x60008, 16, 16⟩
def THERM_LIMITS : Fld := ⟨0x6000c, 0, 32⟩
def THERM_LIMITS_WARN : Fld := ⟨0x6000c, 0, 8⟩
def THERM_LIMITS_CRIT : Fld := ⟨0x6000c, 8, 8⟩
def THERM_LIMITS_HYST : Fld := ⟨0x6000c, 16, 4⟩
def THERM_LIMITS_FRAME_GEN : Fld := ⟨0x6000c, 20, 2⟩
def THERM_LIMITS_XO_SRC : Fld := ⟨0x6000c, 24, 1⟩
def THERM_LIMITS_XO_REGION : Fld := ⟨0x6000c, 25, 3⟩
def THERM_LIMITS_AGREE : Fld := ⟨0x6000c, 28, 4⟩
def THERM_XO_TEMP : Fld := ⟨0x60010, 0, 16⟩
def THERM_CORR : Fld := ⟨0x60014, 0, 32⟩
def THERM_REF_TRIM : Fld := ⟨0x60018, 0, 8⟩
def THERM_AGE_WARN : Fld := ⟨0x6001c, 0, 32⟩
def THERM_REGION_TEMP (i : Nat) : Fld := ⟨0x60100 + 0x20 * i, 0, 32⟩
def THERM_REGION_TEMP_TEMP (i : Nat) : Fld := ⟨0x60100 + 0x20 * i, 0, 16⟩
def THERM_REGION_TEMP_MAX (i : Nat) : Fld := ⟨0x60100 + 0x20 * i, 16, 16⟩
def THERM_REGION_CAL_T (i : Nat) : Fld := ⟨0x60104 + 0x20 * i, 0, 16⟩
def THERM_REGION_CAL_AGE (i : Nat) : Fld := ⟨0x60108 + 0x20 * i, 0, 32⟩
def THERM_REGION_STATUS (i : Nat) : Fld := ⟨0x6010c + 0x20 * i, 0, 32⟩
def THERM_REGION_STATUS_STEPPING (i : Nat) : Fld := ⟨0x6010c + 0x20 * i, 0, 2⟩
def THERM_REGION_STATUS_SPARES (i : Nat) : Fld := ⟨0x6010c + 0x20 * i, 2, 2⟩
def THERM_REGION_STATUS_TRIP_VOTE (i : Nat) : Fld := ⟨0x6010c + 0x20 * i, 4, 1⟩
def THERM_REGION_STATUS_STEPS (i : Nat) : Fld := ⟨0x6010c + 0x20 * i, 16, 16⟩
def THERM_REGION_AGE_PPM (i : Nat) : Fld := ⟨0x60110 + 0x20 * i, 0, 32⟩
def THERM_SENSOR_READING (i : Nat) : Fld := ⟨0x60400 + 0x8 * i, 0, 16⟩
def THERM_SENSOR_STATE (i : Nat) : Fld := ⟨0x60404 + 0x8 * i, 0, 32⟩
def THERM_SENSOR_STATE_ROLE (i : Nat) : Fld := ⟨0x60404 + 0x8 * i, 0, 2⟩
def THERM_SENSOR_STATE_BROKEN (i : Nat) : Fld := ⟨0x60404 + 0x8 * i, 2, 1⟩
def THERM_SENSOR_STATE_REASON (i : Nat) : Fld := ⟨0x60404 + 0x8 * i, 4, 2⟩
def THERM_SENSOR_STATE_COMPARATOR (i : Nat) : Fld := ⟨0x60404 + 0x8 * i, 6, 1⟩
def THERM_TABLE_ENTRY0 (i : Nat) : Fld := ⟨0x60800 + 0x8 * i, 0, 32⟩
def THERM_TABLE_ENTRY0_TEMP (i : Nat) : Fld := ⟨0x60800 + 0x8 * i, 0, 16⟩
def THERM_TABLE_ENTRY0_REF_TRIM (i : Nat) : Fld := ⟨0x60800 + 0x8 * i, 16, 8⟩
def THERM_TABLE_ENTRY0_VALID (i : Nat) : Fld := ⟨0x60800 + 0x8 * i, 31, 1⟩
def THERM_TABLE_ENTRY1 (i : Nat) : Fld := ⟨0x60804 + 0x8 * i, 0, 32⟩
def SEC_BOOT_STATUS : Fld := ⟨0x70000, 0, 32⟩
def SEC_BOOT_STATUS_STATE : Fld := ⟨0x70000, 0, 3⟩
def SEC_BOOT_STATUS_SOURCE : Fld := ⟨0x70000, 3, 2⟩
def SEC_BOOT_STATUS_REASON : Fld := ⟨0x70000, 8, 4⟩
def SEC_BOOT_STATUS_FALLBACK : Fld := ⟨0x70000, 12, 1⟩
def SEC_BOOT_CTRL : Fld := ⟨0x70004, 0, 32⟩
def SEC_BOOT_CTRL_HOST_GO : Fld := ⟨0x70004, 0, 1⟩
def SEC_BOOT_CTRL_RELEASE : Fld := ⟨0x70004, 1, 1⟩
def SEC_STRAPS : Fld := ⟨0x70008, 0, 32⟩
def SEC_STRAPS_BOOT_SRC : Fld := ⟨0x70008, 0, 1⟩
def SEC_STRAPS_BOOT_HOLD : Fld := ⟨0x70008, 1, 1⟩
def SEC_STRAPS_RETAIN : Fld := ⟨0x70008, 2, 1⟩
def SEC_STRAPS_BAR2_SZ : Fld := ⟨0x70008, 3, 3⟩
def SEC_FW_INFO : Fld := ⟨0x7000c, 0, 32⟩
def SEC_FW_IMAGE : Fld := ⟨0x70010, 0, 32⟩
def SEC_FW_SVN : Fld := ⟨0x70014, 0, 32⟩
def SEC_FW_SVN_SVN : Fld := ⟨0x70014, 0, 6⟩
def SEC_FW_SVN_SVN_MIN : Fld := ⟨0x70014, 8, 6⟩
def SEC_HOST_IMAGE : Fld := ⟨0x70018, 0, 64⟩
def SEC_HOST_IMAGE_LEN : Fld := ⟨0x70020, 0, 21⟩
def SEC_LOCK_STATE : Fld := ⟨0x70024, 0, 32⟩
def SEC_LOCK_STATE_LOCK : Fld := ⟨0x70024, 0, 1⟩
def SEC_LOCK_STATE_DEBUG_LOCK : Fld := ⟨0x70024, 1, 1⟩
def SEC_LOCK_STATE_HOST_BOOT_DIS : Fld := ⟨0x70024, 2, 1⟩
def SEC_PCIE : Fld := ⟨0x70028, 0, 32⟩
def SEC_PCIE_WIDTH : Fld := ⟨0x70028, 0, 5⟩
def SEC_PCIE_SPEED : Fld := ⟨0x70028, 5, 3⟩
def SEC_PCIE_LINK_UP : Fld := ⟨0x70028, 8, 1⟩
def SEC_PCIE_BME : Fld := ⟨0x70028, 9, 1⟩
def SEC_PCIE_MSIX_EN : Fld := ⟨0x70028, 10, 1⟩
def SEC_PCIE_FUNC_MASK : Fld := ⟨0x70028, 11, 1⟩
def SEC_PCIE_PERST_SEEN : Fld := ⟨0x70028, 12, 1⟩
def SEC_PCI_ID : Fld := ⟨0x7002c, 0, 32⟩
def SEC_PCI_ID_VENDOR : Fld := ⟨0x7002c, 0, 16⟩
def SEC_PCI_ID_DEVICE : Fld := ⟨0x7002c, 16, 16⟩
def SEC_SUBSYS : Fld := ⟨0x70030, 0, 32⟩
def SEC_DENIED : Fld := ⟨0x70034, 0, 32⟩
def SEC_DENIED_INFO : Fld := ⟨0x70038, 0, 32⟩
def SEC_DENIED_INFO_REQUESTER : Fld := ⟨0x70038, 0, 3⟩
def SEC_DENIED_INFO_CLASS : Fld := ⟨0x70038, 4, 3⟩
def SEC_DENIED_INFO_WRITE : Fld := ⟨0x70038, 7, 1⟩
def SEC_DENIED_ADDR : Fld := ⟨0x70040, 0, 64⟩
def SEC_STATUS : Fld := ⟨0x70048, 0, 32⟩
def SEC_STATUS_CFG_REJECT : Fld := ⟨0x70048, 0, 1⟩
def SEC_STATUS_DENIED : Fld := ⟨0x70048, 1, 1⟩
def SEC_STATUS_MSIX_LOST : Fld := ⟨0x70048, 2, 1⟩
def SEC_MSIX_LOST : Fld := ⟨0x7004c, 0, 32⟩
def SEC_MATRIX0 : Fld := ⟨0x70050, 0, 32⟩
def SEC_MATRIX1 : Fld := ⟨0x70054, 0, 32⟩
def SEC_MATRIX2 : Fld := ⟨0x70058, 0, 32⟩
def SEC_MBOX_CMD : Fld := ⟨0x70100, 0, 32⟩
def SEC_MBOX_CMD_OP : Fld := ⟨0x70100, 0, 16⟩
def SEC_MBOX_CMD_TAG : Fld := ⟨0x70100, 16, 16⟩
def SEC_MBOX_CTRL : Fld := ⟨0x70104, 0, 32⟩
def SEC_MBOX_CTRL_GO : Fld := ⟨0x70104, 0, 1⟩
def SEC_MBOX_CTRL_BUSY : Fld := ⟨0x70104, 1, 1⟩
def SEC_MBOX_CTRL_DONE : Fld := ⟨0x70104, 2, 1⟩
def SEC_MBOX_CTRL_TIMEOUT : Fld := ⟨0x70104, 3, 1⟩
def SEC_MBOX_CTRL_RESULT : Fld := ⟨0x70104, 8, 4⟩
def SEC_MBOX_CTRL_VECTOR : Fld := ⟨0x70104, 16, 8⟩
def SEC_MBOX_CTRL_IRQ_EN : Fld := ⟨0x70104, 24, 1⟩
def SEC_MBOX_DATA (i : Nat) : Fld := ⟨0x70140 + 0x4 * i, 0, 32⟩
def SEC_FUSE (i : Nat) : Fld := ⟨0x70200 + 0x4 * i, 0, 32⟩
def SEC_MSIX_ADDR (i : Nat) : Fld := ⟨0x78000 + 0x10 * i, 0, 64⟩
def SEC_MSIX_DATA (i : Nat) : Fld := ⟨0x78008 + 0x10 * i, 0, 32⟩
def SEC_MSIX_CTRL (i : Nat) : Fld := ⟨0x7800c + 0x10 * i, 0, 1⟩
def SEC_MSIX_PBA (i : Nat) : Fld := ⟨0x79000 + 0x4 * i, 0, 32⟩
def NET_CTRL : Fld := ⟨0x80000, 0, 32⟩
def NET_CTRL_BLOCK_RESET : Fld := ⟨0x80000, 0, 1⟩
def NET_CTRL_TCORR_EN : Fld := ⟨0x80000, 1, 1⟩
def NET_STATUS : Fld := ⟨0x80004, 0, 32⟩
def NET_STATUS_CFG_REJECT : Fld := ⟨0x80004, 0, 1⟩
def NET_STATUS_DGRAM_DROP : Fld := ⟨0x80004, 1, 1⟩
def NET_STATUS_LAUNCH_LATE : Fld := ⟨0x80004, 2, 1⟩
def NET_STATUS_TC_SAT : Fld := ⟨0x80004, 3, 1⟩
def NET_PTP_INCR : Fld := ⟨0x80010, 0, 32⟩
def NET_PTP_TCORR : Fld := ⟨0x80014, 0, 32⟩
def NET_PTP_NOW : Fld := ⟨0x80018, 0, 48⟩
def NET_PTP_SET : Fld := ⟨0x80020, 0, 48⟩
def NET_PTP_ADJ : Fld := ⟨0x80028, 0, 32⟩
def NET_TALLY_CFG : Fld := ⟨0x80040, 0, 32⟩
def NET_TALLY_CFG_TALLY_PORT : Fld := ⟨0x80040, 0, 1⟩
def NET_TALLY_CFG_IPV6 : Fld := ⟨0x80040, 1, 1⟩
def NET_TALLY_CFG_BATCH : Fld := ⟨0x80040, 8, 5⟩
def NET_TALLY_CFG_BATCH_US : Fld := ⟨0x80040, 16, 8⟩
def NET_TALLY_DST_MAC : Fld := ⟨0x80048, 0, 48⟩
def NET_TALLY_DST_IP0 : Fld := ⟨0x80050, 0, 32⟩
def NET_TALLY_DST_IP1 : Fld := ⟨0x80054, 0, 32⟩
def NET_TALLY_DST_IP2 : Fld := ⟨0x80058, 0, 32⟩
def NET_TALLY_DST_IP3 : Fld := ⟨0x8005c, 0, 32⟩
def NET_TALLY_SRC_IP0 : Fld := ⟨0x80060, 0, 32⟩
def NET_TALLY_SRC_IP1 : Fld := ⟨0x80064, 0, 32⟩
def NET_TALLY_SRC_IP2 : Fld := ⟨0x80068, 0, 32⟩
def NET_TALLY_SRC_IP3 : Fld := ⟨0x8006c, 0, 32⟩
def NET_TALLY_UDP : Fld := ⟨0x80070, 0, 32⟩
def NET_TALLY_UDP_SRC_PORT : Fld := ⟨0x80070, 0, 16⟩
def NET_TALLY_UDP_DST_PORT : Fld := ⟨0x80070, 16, 16⟩
def NET_TALLY_TTL : Fld := ⟨0x80074, 0, 8⟩
def NET_TCMP_CTRL (i : Nat) : Fld := ⟨0x80100 + 0x20 * i, 0, 32⟩
def NET_TCMP_CTRL_ENABLE (i : Nat) : Fld := ⟨0x80100 + 0x20 * i, 0, 1⟩
def NET_TCMP_CTRL_LATE_FIRE (i : Nat) : Fld := ⟨0x80100 + 0x20 * i, 1, 1⟩
def NET_TCMP_CTRL_SINGLE (i : Nat) : Fld := ⟨0x80100 + 0x20 * i, 2, 1⟩
def NET_TCMP_CTRL_CHANNEL (i : Nat) : Fld := ⟨0x80100 + 0x20 * i, 8, 6⟩
def NET_TCMP_STATUS (i : Nat) : Fld := ⟨0x80104 + 0x20 * i, 0, 32⟩
def NET_TCMP_STATUS_FIRED (i : Nat) : Fld := ⟨0x80104 + 0x20 * i, 0, 1⟩
def NET_TCMP_STATUS_COMPARE_BEHIND (i : Nat) : Fld := ⟨0x80104 + 0x20 * i, 1, 1⟩
def NET_TCMP_STATUS_COMPARE_LATE (i : Nat) : Fld := ⟨0x80104 + 0x20 * i, 2, 1⟩
def NET_TCMP_STATUS_COMPARE_MULTI (i : Nat) : Fld := ⟨0x80104 + 0x20 * i, 3, 1⟩
def NET_TCMP_TARGET (i : Nat) : Fld := ⟨0x80108 + 0x20 * i, 0, 48⟩
def NET_TCMP_PERIOD (i : Nat) : Fld := ⟨0x80110 + 0x20 * i, 0, 32⟩
def NET_TCMP_SKIPPED (i : Nat) : Fld := ⟨0x80114 + 0x20 * i, 0, 32⟩
def NET_TCMP_FIRE_TIME (i : Nat) : Fld := ⟨0x80118 + 0x20 * i, 0, 48⟩
def NET_E_CTRL (i : Nat) : Fld := ⟨0x81000 + 0x1000 * i, 0, 32⟩
def NET_E_CTRL_EN (i : Nat) : Fld := ⟨0x81000 + 0x1000 * i, 0, 1⟩
def NET_E_CTRL_SPEED (i : Nat) : Fld := ⟨0x81000 + 0x1000 * i, 1, 2⟩
def NET_E_CTRL_FEC (i : Nat) : Fld := ⟨0x81000 + 0x1000 * i, 3, 2⟩
def NET_E_CTRL_PASS_EN (i : Nat) : Fld := ⟨0x81000 + 0x1000 * i, 5, 1⟩
def NET_E_CTRL_PROMISC (i : Nat) : Fld := ⟨0x81000 + 0x1000 * i, 6, 1⟩
def NET_E_CTRL_ALL_MULTI (i : Nat) : Fld := ⟨0x81000 + 0x1000 * i, 7, 1⟩
def NET_E_CTRL_TS_ALL (i : Nat) : Fld := ⟨0x81000 + 0x1000 * i, 8, 1⟩
def NET_E_CTRL_TC_EN (i : Nat) : Fld := ⟨0x81000 + 0x1000 * i, 9, 1⟩
def NET_E_CTRL_LOOPBACK (i : Nat) : Fld := ⟨0x81000 + 0x1000 * i, 10, 1⟩
def NET_E_STATUS (i : Nat) : Fld := ⟨0x81004 + 0x1000 * i, 0, 32⟩
def NET_E_STATUS_LINK (i : Nat) : Fld := ⟨0x81004 + 0x1000 * i, 0, 1⟩
def NET_E_STATUS_LINK_LOST (i : Nat) : Fld := ⟨0x81004 + 0x1000 * i, 1, 1⟩
def NET_E_STATUS_RX_DROP (i : Nat) : Fld := ⟨0x81004 + 0x1000 * i, 2, 1⟩
def NET_E_STATUS_FWD_DROP (i : Nat) : Fld := ⟨0x81004 + 0x1000 * i, 3, 1⟩
def NET_E_STATUS_RING_ERR (i : Nat) : Fld := ⟨0x81004 + 0x1000 * i, 4, 1⟩
def NET_E_MAC (i : Nat) : Fld := ⟨0x81008 + 0x1000 * i, 0, 48⟩
def NET_E_LATENCY (i : Nat) : Fld := ⟨0x81010 + 0x1000 * i, 0, 32⟩
def NET_E_LATENCY_INGRESS_LAT (i : Nat) : Fld := ⟨0x81010 + 0x1000 * i, 0, 16⟩
def NET_E_LATENCY_EGRESS_LAT (i : Nat) : Fld := ⟨0x81010 + 0x1000 * i, 16, 16⟩
def NET_E_TX_BASE (i : Nat) : Fld := ⟨0x81018 + 0x1000 * i, 0, 44⟩
def NET_E_TX_RING (i : Nat) : Fld := ⟨0x81020 + 0x1000 * i, 0, 16⟩
def NET_E_TX_HEAD (i : Nat) : Fld := ⟨0x81024 + 0x1000 * i, 0, 16⟩
def NET_E_TX_TAIL (i : Nat) : Fld := ⟨0x81028 + 0x1000 * i, 0, 16⟩
def NET_E_RX_BASE (i : Nat) : Fld := ⟨0x81030 + 0x1000 * i, 0, 44⟩
def NET_E_RX_RING (i : Nat) : Fld := ⟨0x81038 + 0x1000 * i, 0, 32⟩
def NET_E_RX_RING_DEPTH (i : Nat) : Fld := ⟨0x81038 + 0x1000 * i, 0, 16⟩
def NET_E_RX_RING_BUF (i : Nat) : Fld := ⟨0x81038 + 0x1000 * i, 16, 4⟩
def NET_E_RX_HEAD (i : Nat) : Fld := ⟨0x8103c + 0x1000 * i, 0, 16⟩
def NET_E_RX_TAIL (i : Nat) : Fld := ⟨0x81040 + 0x1000 * i, 0, 16⟩
def NET_E_IRQ (i : Nat) : Fld := ⟨0x81044 + 0x1000 * i, 0, 32⟩
def NET_E_IRQ_RX_VECTOR (i : Nat) : Fld := ⟨0x81044 + 0x1000 * i, 0, 8⟩
def NET_E_IRQ_TX_VECTOR (i : Nat) : Fld := ⟨0x81044 + 0x1000 * i, 8, 8⟩
def NET_E_IRQ_HOLDOFF (i : Nat) : Fld := ⟨0x81044 + 0x1000 * i, 16, 16⟩
def NET_E_HOST_BASE (i : Nat) : Fld := ⟨0x81048 + 0x1000 * i, 0, 64⟩
def NET_E_RX_FRAMES (i : Nat) : Fld := ⟨0x81080 + 0x1000 * i, 0, 32⟩
def NET_E_TX_FRAMES (i : Nat) : Fld := ⟨0x81084 + 0x1000 * i, 0, 32⟩
def NET_E_RX_FCS_ERR (i : Nat) : Fld := ⟨0x81088 + 0x1000 * i, 0, 32⟩
def NET_E_RX_DROPPED (i : Nat) : Fld := ⟨0x8108c + 0x1000 * i, 0, 32⟩
def NET_E_RX_TOO_LONG (i : Nat) : Fld := ⟨0x81090 + 0x1000 * i, 0, 32⟩
def NET_E_FWD_FRAMES (i : Nat) : Fld := ⟨0x81094 + 0x1000 * i, 0, 32⟩
def NET_E_FWD_DROPPED (i : Nat) : Fld := ⟨0x81098 + 0x1000 * i, 0, 32⟩
def NET_E_TC_CORRECTED (i : Nat) : Fld := ⟨0x8109c + 0x1000 * i, 0, 32⟩
def CHAIN_CTRL : Fld := ⟨0x90000, 0, 32⟩
def CHAIN_CTRL_EN : Fld := ⟨0x90000, 0, 1⟩
def CHAIN_CTRL_ROOT : Fld := ⟨0x90000, 1, 1⟩
def CHAIN_CTRL_BLOCK_RESET : Fld := ⟨0x90000, 2, 1⟩
def CHAIN_CFG : Fld := ⟨0x90004, 0, 32⟩
def CHAIN_CFG_DEVICE_ID : Fld := ⟨0x90004, 0, 12⟩
def CHAIN_CFG_ROOT_ID : Fld := ⟨0x90004, 16, 12⟩
def CHAIN_STATUS : Fld := ⟨0x90008, 0, 32⟩
def CHAIN_STATUS_POS_VALID : Fld := ⟨0x90008, 0, 1⟩
def CHAIN_STATUS_POS_LOST : Fld := ⟨0x90008, 1, 1⟩
def CHAIN_STATUS_PARENT : Fld := ⟨0x90008, 2, 2⟩
def CHAIN_STATUS_HOPS : Fld := ⟨0x90008, 4, 4⟩
def CHAIN_STATUS_DUP_ID : Fld := ⟨0x90008, 8, 1⟩
def CHAIN_STATUS_ROOT_CONFLICT : Fld := ⟨0x90008, 9, 1⟩
def CHAIN_STATUS_EPOCH_MISMATCH : Fld := ⟨0x90008, 10, 1⟩
def CHAIN_STATUS_CFG_REJECT : Fld := ⟨0x90008, 11, 1⟩
def CHAIN_TIMING : Fld := ⟨0x9000c, 0, 32⟩
def CHAIN_TIMING_POS_PERIOD : Fld := ⟨0x9000c, 0, 12⟩
def CHAIN_TIMING_POS_TIMEOUT : Fld := ⟨0x9000c, 16, 8⟩
def CHAIN_HB : Fld := ⟨0x90010, 0, 32⟩
def CHAIN_HB_HEARTBEAT : Fld := ⟨0x90010, 0, 8⟩
def CHAIN_HB_LIVE_TIMEOUT : Fld := ⟨0x90010, 8, 16⟩
def CHAIN_GUARD : Fld := ⟨0x90014, 0, 20⟩
def CHAIN_LOSS_MARGIN : Fld := ⟨0x90018, 0, 20⟩
def CHAIN_EPOCH : Fld := ⟨0x9001c, 0, 32⟩
def CHAIN_POS_OFFSET : Fld := ⟨0x90020, 0, 64⟩
def CHAIN_ARM_POS : Fld := ⟨0x90028, 0, 64⟩
def CHAIN_ARM : Fld := ⟨0x90030, 0, 32⟩
def CHAIN_ARM_TARGET : Fld := ⟨0x90030, 0, 4⟩
def CHAIN_ARM_STATE : Fld := ⟨0x90030, 4, 3⟩
def CHAIN_ARM_MISSING : Fld := ⟨0x90030, 16, 12⟩
def CHAIN_CMD_EN : Fld := ⟨0x90034, 0, 8⟩
def CHAIN_SPAN : Fld := ⟨0x90038, 0, 20⟩
def CHAIN_SPAN_W : Fld := ⟨0x9003c, 0, 18⟩
def CHAIN_TIME_ROOT : Fld := ⟨0x90040, 0, 48⟩
def CHAIN_TIME_LOCAL : Fld := ⟨0x90048, 0, 48⟩
def CHAIN_SUM_BASE : Fld := ⟨0x90050, 0, 64⟩
def CHAIN_SUM_CFG : Fld := ⟨0x90058, 0, 32⟩
def CHAIN_SUM_CFG_SUM_EN : Fld := ⟨0x90058, 0, 1⟩
def CHAIN_SUM_CFG_SUMMARY_TO : Fld := ⟨0x90058, 16, 12⟩
def CHAIN_POS_RX : Fld := ⟨0x90060, 0, 64⟩
def CHAIN_ROUTE_DROPPED : Fld := ⟨0x90068, 0, 32⟩
def CHAIN_POS_DELAY : Fld := ⟨0x9006c, 0, 32⟩
def CHAIN_LP_STATE (i : Nat) : Fld := ⟨0x90100 + 0x20 * i, 0, 32⟩
def CHAIN_LP_STATE_ROLE (i : Nat) : Fld := ⟨0x90100 + 0x20 * i, 0, 3⟩
def CHAIN_LP_STATE_NEIGHBOUR (i : Nat) : Fld := ⟨0x90100 + 0x20 * i, 16, 12⟩
def CHAIN_LP_OW (i : Nat) : Fld := ⟨0x90104 + 0x20 * i, 0, 20⟩
def CHAIN_LP_TURN (i : Nat) : Fld := ⟨0x90108 + 0x20 * i, 0, 20⟩
def CHAIN_LP_BELOW (i : Nat) : Fld := ⟨0x9010c + 0x20 * i, 0, 12⟩
def CHAIN_LP_PROBE_FAIL (i : Nat) : Fld := ⟨0x90110 + 0x20 * i, 0, 32⟩
def CHAIN_MEMBERS (i : Nat) : Fld := ⟨0x90400 + 0x4 * i, 0, 32⟩
def DRAMC_CFG : Fld := ⟨0xa0000, 0, 32⟩
def DRAMC_CFG_CHANNELS : Fld := ⟨0xa0000, 0, 1⟩
def DRAMC_CFG_RANKS : Fld := ⟨0xa0000, 1, 2⟩
def DRAMC_CFG_DEVICE : Fld := ⟨0xa0000, 3, 2⟩
def DRAMC_CFG_RATE : Fld := ⟨0xa0000, 5, 2⟩
def DRAMC_CFG_SPARE_EN : Fld := ⟨0xa0000, 7, 1⟩
def DRAMC_CFG_TYPE : Fld := ⟨0xa0000, 8, 1⟩
def DRAMC_CFG_RANK_POLICY : Fld := ⟨0xa0000, 9, 1⟩
def DRAMC_CFG_CE_WRITEBACK : Fld := ⟨0xa0000, 10, 1⟩
def DRAMC_CFG_TRAIN_QUICK : Fld := ⟨0xa0000, 11, 1⟩
def DRAMC_STATUS : Fld := ⟨0xa0004, 0, 32⟩
def DRAMC_STATUS_SR_STATE : Fld := ⟨0xa0004, 0, 2⟩
def DRAMC_STATUS_MIGRATING : Fld := ⟨0xa0004, 2, 1⟩
def DRAMC_STATUS_UE : Fld := ⟨0xa0004, 3, 1⟩
def DRAMC_STATUS_CE : Fld := ⟨0xa0004, 4, 1⟩
def DRAMC_STATUS_ADDR_ERR : Fld := ⟨0xa0004, 5, 1⟩
def DRAMC_STATUS_CMD_ERR : Fld := ⟨0xa0004, 6, 1⟩
def DRAMC_STATUS_SR_TIMEOUT : Fld := ⟨0xa0004, 7, 1⟩
def DRAMC_STATUS_NO_SPARE : Fld := ⟨0xa0004, 8, 1⟩
def DRAMC_STATUS_CFG_REJECT : Fld := ⟨0xa0004, 9, 1⟩
def DRAMC_STATUS_TRAINED : Fld := ⟨0xa0004, 10, 1⟩
def DRAMC_SIZE : Fld := ⟨0xa0008, 0, 64⟩
def DRAMC_SR : Fld := ⟨0xa0010, 0, 32⟩
def DRAMC_SR_SR_ENTER : Fld := ⟨0xa0010, 0, 1⟩
def DRAMC_SR_SR_EXIT : Fld := ⟨0xa0010, 1, 1⟩
def DRAMC_SR_SR_AUTO : Fld := ⟨0xa0010, 2, 1⟩
def DRAMC_PD : Fld := ⟨0xa0014, 0, 16⟩
def DRAMC_SHARE0 : Fld := ⟨0xa0018, 0, 32⟩
def DRAMC_SHARE0_IMAGE : Fld := ⟨0xa0018, 0, 7⟩
def DRAMC_SHARE0_MASTER : Fld := ⟨0xa0018, 8, 7⟩
def DRAMC_SHARE0_DMA : Fld := ⟨0xa0018, 16, 7⟩
def DRAMC_SHARE0_HOST : Fld := ⟨0xa0018, 24, 7⟩
def DRAMC_SHARE1 : Fld := ⟨0xa001c, 0, 32⟩
def DRAMC_SHARE1_TABLE : Fld := ⟨0xa001c, 0, 7⟩
def DRAMC_SHARE1_MAINT : Fld := ⟨0xa001c, 8, 7⟩
def DRAMC_SCRUB : Fld := ⟨0xa0020, 0, 32⟩
def DRAMC_SCRUB_SCRUB_PERIOD : Fld := ⟨0xa0020, 0, 8⟩
def DRAMC_SCRUB_SCRUB_EN : Fld := ⟨0xa0020, 8, 1⟩
def DRAMC_SCRUB_PTR : Fld := ⟨0xa0028, 0, 64⟩
def DRAMC_MIG : Fld := ⟨0xa0040, 0, 32⟩
def DRAMC_MIG_MIG_REQ : Fld := ⟨0xa0040, 0, 1⟩
def DRAMC_MIG_MIG_CH : Fld := ⟨0xa0040, 1, 3⟩
def DRAMC_MIG_MIG_RANK : Fld := ⟨0xa0040, 4, 2⟩
def DRAMC_MIG_BUSY : Fld := ⟨0xa0040, 8, 1⟩
def DRAMC_MIG_PTR : Fld := ⟨0xa0048, 0, 64⟩
def DRAMC_MIG_LOST : Fld := ⟨0xa0050, 0, 32⟩
def DRAMC_ERR_ADDR : Fld := ⟨0xa0054, 0, 64⟩
def DRAMC_ERR_INFO : Fld := ⟨0xa005c, 0, 32⟩
def DRAMC_ERR_INFO_CH : Fld := ⟨0xa005c, 0, 3⟩
def DRAMC_ERR_INFO_RANK : Fld := ⟨0xa005c, 4, 2⟩
def DRAMC_ERR_INFO_KIND : Fld := ⟨0xa005c, 8, 2⟩
def DRAMC_ERR_INFO_CLASS : Fld := ⟨0xa005c, 12, 3⟩
def DRAMC_ERR_INFO_SYNDROME : Fld := ⟨0xa005c, 16, 14⟩
def DRAMC_IMG_BASE : Fld := ⟨0xa0100, 0, 64⟩
def DRAMC_IMG_CFG : Fld := ⟨0xa0108, 0, 32⟩
def DRAMC_IMG_CFG_LINES : Fld := ⟨0xa0108, 0, 24⟩
def DRAMC_IMG_CFG_FORMAT : Fld := ⟨0xa0108, 24, 2⟩
def DRAMC_IMG_CFG_IMG_EN : Fld := ⟨0xa0108, 31, 1⟩
def DRAMC_IMG_PITCH : Fld := ⟨0xa010c, 0, 32⟩
def DRAMC_IMG_NEWEST : Fld := ⟨0xa0110, 0, 64⟩
def DRAMC_IMG_DROPPED : Fld := ⟨0xa0118, 0, 32⟩
def DRAMC_PLAY_FIRST : Fld := ⟨0xa0120, 0, 64⟩
def DRAMC_PLAY_LAST : Fld := ⟨0xa0128, 0, 64⟩
def DRAMC_PLAY_CTRL : Fld := ⟨0xa0130, 0, 32⟩
def DRAMC_PLAY_CTRL_PLAY_GO : Fld := ⟨0xa0130, 0, 1⟩
def DRAMC_PLAY_CTRL_PLAY_BUSY : Fld := ⟨0xa0130, 1, 1⟩
def DRAMC_PLAY_CTRL_PLAY_RATE : Fld := ⟨0xa0130, 8, 24⟩
def DRAMC_PLAY_UNPLAYABLE : Fld := ⟨0xa0134, 0, 32⟩
def DRAMC_CH_RANK_STATE (i : Nat) : Fld := ⟨0xa1000 + 0x1000 * i, 0, 32⟩
def DRAMC_CH_RANK_STATE_STATE0 (i : Nat) : Fld := ⟨0xa1000 + 0x1000 * i, 0, 4⟩
def DRAMC_CH_RANK_STATE_STATE1 (i : Nat) : Fld := ⟨0xa1000 + 0x1000 * i, 4, 4⟩
def DRAMC_CH_RANK_STATE_STATE2 (i : Nat) : Fld := ⟨0xa1000 + 0x1000 * i, 8, 4⟩
def DRAMC_CH_RANK_STATE_STATE3 (i : Nat) : Fld := ⟨0xa1000 + 0x1000 * i, 12, 4⟩
def DRAMC_CH_RANK_MAP (i : Nat) : Fld := ⟨0xa1004 + 0x1000 * i, 0, 32⟩
def DRAMC_CH_RANK_MAP_MAP0 (i : Nat) : Fld := ⟨0xa1004 + 0x1000 * i, 0, 2⟩
def DRAMC_CH_RANK_MAP_MAP1 (i : Nat) : Fld := ⟨0xa1004 + 0x1000 * i, 2, 2⟩
def DRAMC_CH_RANK_MAP_MAP2 (i : Nat) : Fld := ⟨0xa1004 + 0x1000 * i, 4, 2⟩
def DRAMC_CH_RANK_MAP_MAP3 (i : Nat) : Fld := ⟨0xa1004 + 0x1000 * i, 6, 2⟩
def DRAMC_CH_RETIRE (i : Nat) : Fld := ⟨0xa1008 + 0x1000 * i, 0, 4⟩
def DRAMC_CH_CE_LIMIT (i : Nat) : Fld := ⟨0xa100c + 0x1000 * i, 0, 16⟩
def DRAMC_CH_CE (i j : Nat) : Fld := ⟨0xa1010 + 0x1000 * i + 0x4 * j, 0, 32⟩
def DRAMC_CH_UE (i j : Nat) : Fld := ⟨0xa1020 + 0x1000 * i + 0x4 * j, 0, 32⟩
def DRAMC_CH_TRAIN_CMD (i : Nat) : Fld := ⟨0xa1040 + 0x1000 * i, 0, 32⟩
def DRAMC_CH_TRAIN_CMD_CMD (i : Nat) : Fld := ⟨0xa1040 + 0x1000 * i, 0, 4⟩
def DRAMC_CH_TRAIN_CMD_RANK (i : Nat) : Fld := ⟨0xa1040 + 0x1000 * i, 4, 2⟩
def DRAMC_CH_TRAIN_CMD_PATTERN (i : Nat) : Fld := ⟨0xa1040 + 0x1000 * i, 6, 2⟩
def DRAMC_CH_TRAIN_CMD_LOOPS (i : Nat) : Fld := ⟨0xa1040 + 0x1000 * i, 8, 16⟩
def DRAMC_CH_TRAIN_CMD_BUSY (i : Nat) : Fld := ⟨0xa1040 + 0x1000 * i, 30, 1⟩
def DRAMC_CH_TRAIN_CMD_GO (i : Nat) : Fld := ⟨0xa1040 + 0x1000 * i, 31, 1⟩
def DRAMC_CH_TRAIN_ADDR (i : Nat) : Fld := ⟨0xa1044 + 0x1000 * i, 0, 32⟩
def DRAMC_CH_TRAIN_RESULT (i : Nat) : Fld := ⟨0xa1048 + 0x1000 * i, 0, 32⟩
def DRAMC_CH_TRAIN_ERR0 (i : Nat) : Fld := ⟨0xa104c + 0x1000 * i, 0, 32⟩
def DRAMC_CH_TRAIN_ERR1 (i : Nat) : Fld := ⟨0xa1050 + 0x1000 * i, 0, 32⟩
def DRAMC_CH_TRAIN_ERR2 (i : Nat) : Fld := ⟨0xa1054 + 0x1000 * i, 0, 16⟩
def DRAMC_CH_TRAIN_ERRCNT (i : Nat) : Fld := ⟨0xa1058 + 0x1000 * i, 0, 32⟩
def DRAMC_CH_TRAIN_USER0 (i : Nat) : Fld := ⟨0xa105c + 0x1000 * i, 0, 32⟩
def DRAMC_CH_TRAIN_USER1 (i : Nat) : Fld := ⟨0xa1060 + 0x1000 * i, 0, 32⟩
def DRAMC_CH_TRAIN_USER2 (i : Nat) : Fld := ⟨0xa1064 + 0x1000 * i, 0, 16⟩
def DRAMC_CH_LANE (i j : Nat) : Fld := ⟨0xa1400 + 0x1000 * i + 0x4 * j, 0, 32⟩
def DRAMC_CH_LANE_WR_DLY (i j : Nat) : Fld := ⟨0xa1400 + 0x1000 * i + 0x4 * j, 0, 8⟩
def DRAMC_CH_LANE_RD_DLY (i j : Nat) : Fld := ⟨0xa1400 + 0x1000 * i + 0x4 * j, 8, 8⟩
def DRAMC_CH_LANE_VREF (i j : Nat) : Fld := ⟨0xa1400 + 0x1000 * i + 0x4 * j, 16, 7⟩
def DRAMC_CH_LANE_LEVEL (i j : Nat) : Fld := ⟨0xa1400 + 0x1000 * i + 0x4 * j, 24, 8⟩
def PROFILE_CTRL : Fld := ⟨0xc0000, 0, 1⟩
def PROFILE_SYNC : Fld := ⟨0xc0004, 0, 16⟩
def PROFILE_STATUS : Fld := ⟨0xc0008, 0, 32⟩
def PROFILE_STATUS_CFG_REJECT : Fld := ⟨0xc0008, 0, 1⟩
def PROFILE_STATUS_RING_DROP : Fld := ⟨0xc0008, 1, 1⟩
def PROFILE_SYNC_AT (i : Nat) : Fld := ⟨0xc0040 + 0x8 * i, 0, 64⟩
def PROFILE_SYNC_COUNT (i : Nat) : Fld := ⟨0xc00c0 + 0x4 * i, 0, 32⟩
def PROFILE_RING_BASE (i : Nat) : Fld := ⟨0xc0100 + 0x20 * i, 0, 64⟩
def PROFILE_RING_CFG (i : Nat) : Fld := ⟨0xc0108 + 0x20 * i, 0, 32⟩
def PROFILE_RING_CFG_DEPTH (i : Nat) : Fld := ⟨0xc0108 + 0x20 * i, 0, 16⟩
def PROFILE_RING_CFG_WR (i : Nat) : Fld := ⟨0xc0108 + 0x20 * i, 16, 16⟩
def PROFILE_RING_RD (i : Nat) : Fld := ⟨0xc010c + 0x20 * i, 0, 16⟩
def PROFILE_RING_DROPPED (i : Nat) : Fld := ⟨0xc0110 + 0x20 * i, 0, 32⟩
def PROFILE_HB_CFG (i : Nat) : Fld := ⟨0xc0200 + 0x40 * i, 0, 4⟩
def PROFILE_HB_COEF (i j : Nat) : Fld := ⟨0xc0204 + 0x40 * i + 0x4 * j, 0, 24⟩
def PROFILE_FIR_COEF (i j : Nat) : Fld := ⟨0xc1000 + 0x100 * i + 0x4 * j, 0, 24⟩
def PROFILE_CH_CTRL (i : Nat) : Fld := ⟨0xc8000 + 0x80 * i, 0, 32⟩
def PROFILE_CH_CTRL_EN (i : Nat) : Fld := ⟨0xc8000 + 0x80 * i, 0, 1⟩
def PROFILE_CH_CTRL_SRC (i : Nat) : Fld := ⟨0xc8000 + 0x80 * i, 1, 3⟩
def PROFILE_CH_CTRL_CH (i : Nat) : Fld := ⟨0xc8000 + 0x80 * i, 4, 2⟩
def PROFILE_CH_CTRL_GROUP (i : Nat) : Fld := ⟨0xc8000 + 0x80 * i, 6, 4⟩
def PROFILE_CH_CTRL_RING (i : Nat) : Fld := ⟨0xc8000 + 0x80 * i, 10, 2⟩
def PROFILE_CH_CTRL_RING_EN (i : Nat) : Fld := ⟨0xc8000 + 0x80 * i, 12, 1⟩
def PROFILE_CH_CTRL_LIMIT_EV (i : Nat) : Fld := ⟨0xc8000 + 0x80 * i, 13, 1⟩
def PROFILE_CH_CTRL_DET_SEL (i : Nat) : Fld := ⟨0xc8000 + 0x80 * i, 14, 1⟩
def PROFILE_CH_ARG0 (i : Nat) : Fld := ⟨0xc8004 + 0x80 * i, 0, 18⟩
def PROFILE_CH_ARG1 (i : Nat) : Fld := ⟨0xc8008 + 0x80 * i, 0, 18⟩
def PROFILE_CH_CIC (i : Nat) : Fld := ⟨0xc800c + 0x80 * i, 0, 32⟩
def PROFILE_CH_CIC_K (i : Nat) : Fld := ⟨0xc800c + 0x80 * i, 0, 3⟩
def PROFILE_CH_CIC_D (i : Nat) : Fld := ⟨0xc800c + 0x80 * i, 4, 13⟩
def PROFILE_CH_CIC_NORM (i : Nat) : Fld := ⟨0xc8010 + 0x80 * i, 0, 32⟩
def PROFILE_CH_CIC_NORM_NORM_M (i : Nat) : Fld := ⟨0xc8010 + 0x80 * i, 0, 24⟩
def PROFILE_CH_CIC_NORM_NORM_E (i : Nat) : Fld := ⟨0xc8010 + 0x80 * i, 24, 7⟩
def PROFILE_CH_HB (i : Nat) : Fld := ⟨0xc8014 + 0x80 * i, 0, 32⟩
def PROFILE_CH_HB_NHB (i : Nat) : Fld := ⟨0xc8014 + 0x80 * i, 0, 2⟩
def PROFILE_CH_HB_HB0 (i : Nat) : Fld := ⟨0xc8014 + 0x80 * i, 2, 2⟩
def PROFILE_CH_HB_HB1 (i : Nat) : Fld := ⟨0xc8014 + 0x80 * i, 4, 2⟩
def PROFILE_CH_HB_HB2 (i : Nat) : Fld := ⟨0xc8014 + 0x80 * i, 6, 2⟩
def PROFILE_CH_FIR (i : Nat) : Fld := ⟨0xc8018 + 0x80 * i, 0, 32⟩
def PROFILE_CH_FIR_T (i : Nat) : Fld := ⟨0xc8018 + 0x80 * i, 0, 8⟩
def PROFILE_CH_FIR_SET (i : Nat) : Fld := ⟨0xc8018 + 0x80 * i, 8, 4⟩
def PROFILE_CH_FIR_FR (i : Nat) : Fld := ⟨0xc8018 + 0x80 * i, 12, 5⟩
def PROFILE_CH_FIR_FIR_EN (i : Nat) : Fld := ⟨0xc8018 + 0x80 * i, 17, 1⟩
def PROFILE_CH_DELAY (i : Nat) : Fld := ⟨0xc801c + 0x80 * i, 0, 32⟩
def PROFILE_CH_UNSETTLED (i : Nat) : Fld := ⟨0xc8020 + 0x80 * i, 0, 16⟩
def PROFILE_CH_STATUS (i : Nat) : Fld := ⟨0xc8024 + 0x80 * i, 0, 32⟩
def PROFILE_CH_STATUS_RUNNING (i : Nat) : Fld := ⟨0xc8024 + 0x80 * i, 0, 1⟩
def PROFILE_CH_STATUS_CONFIG_ERR (i : Nat) : Fld := ⟨0xc8024 + 0x80 * i, 1, 1⟩
def PROFILE_CH_STATUS_CHECK (i : Nat) : Fld := ⟨0xc8024 + 0x80 * i, 2, 5⟩
def PROFILE_CH_STATUS_SAT (i : Nat) : Fld := ⟨0xc8024 + 0x80 * i, 7, 1⟩
def PROFILE_CH_STATUS_HOLE (i : Nat) : Fld := ⟨0xc8024 + 0x80 * i, 8, 1⟩
def PROFILE_CH_STATUS_LIMIT_HI (i : Nat) : Fld := ⟨0xc8024 + 0x80 * i, 9, 1⟩
def PROFILE_CH_STATUS_LIMIT_LO (i : Nat) : Fld := ⟨0xc8024 + 0x80 * i, 10, 1⟩
def PROFILE_CH_STATUS_SETTLED (i : Nat) : Fld := ⟨0xc8024 + 0x80 * i, 11, 1⟩
def PROFILE_CH_LAST_VALUE (i : Nat) : Fld := ⟨0xc8028 + 0x80 * i, 0, 32⟩
def PROFILE_CH_LAST_POS (i : Nat) : Fld := ⟨0xc8030 + 0x80 * i, 0, 64⟩
def PROFILE_CH_OUT_COUNT (i : Nat) : Fld := ⟨0xc8038 + 0x80 * i, 0, 32⟩
def PROFILE_CH_DET_CFG (i : Nat) : Fld := ⟨0xc803c + 0x80 * i, 0, 32⟩
def PROFILE_CH_DET_CFG_DET_WIN (i : Nat) : Fld := ⟨0xc803c + 0x80 * i, 0, 16⟩
def PROFILE_CH_DET_CFG_ATT (i : Nat) : Fld := ⟨0xc803c + 0x80 * i, 16, 4⟩
def PROFILE_CH_DET_CFG_REL (i : Nat) : Fld := ⟨0xc803c + 0x80 * i, 20, 4⟩
def PROFILE_CH_DET_CFG_DET_LATCH (i : Nat) : Fld := ⟨0xc803c + 0x80 * i, 24, 1⟩
def PROFILE_CH_LIMIT_HI (i : Nat) : Fld := ⟨0xc8040 + 0x80 * i, 0, 32⟩
def PROFILE_CH_LIMIT_LO (i : Nat) : Fld := ⟨0xc8044 + 0x80 * i, 0, 32⟩
def PROFILE_CH_DET_MAX (i : Nat) : Fld := ⟨0xc8048 + 0x80 * i, 0, 32⟩
def PROFILE_CH_DET_MIN (i : Nat) : Fld := ⟨0xc804c + 0x80 * i, 0, 32⟩
def PROFILE_CH_DET_RMS (i : Nat) : Fld := ⟨0xc8050 + 0x80 * i, 0, 32⟩
def PROFILE_CH_DET_ENV (i : Nat) : Fld := ⟨0xc8054 + 0x80 * i, 0, 32⟩
def PROFILE_CH_DET_N (i : Nat) : Fld := ⟨0xc8058 + 0x80 * i, 0, 32⟩
def PROFILE_CH_HOLES (i : Nat) : Fld := ⟨0xc805c + 0x80 * i, 0, 32⟩
def SENSOR_CTRL : Fld := ⟨0xd0000, 0, 32⟩
def SENSOR_CTRL_EN : Fld := ⟨0xd0000, 0, 1⟩
def SENSOR_CTRL_OE : Fld := ⟨0xd0000, 1, 1⟩
def SENSOR_CTRL_START_SRC : Fld := ⟨0xd0000, 2, 1⟩
def SENSOR_CTRL_FORMAT : Fld := ⟨0xd0000, 3, 1⟩
def SENSOR_CTRL_BITS : Fld := ⟨0xd0000, 4, 5⟩
def SENSOR_CTRL_BLOCK_RESET : Fld := ⟨0xd0000, 9, 1⟩
def SENSOR_CTRL_CH_EN : Fld := ⟨0xd0000, 16, 8⟩
def SENSOR_TIMING : Fld := ⟨0xd0004, 0, 32⟩
def SENSOR_TIMING_DIV : Fld := ⟨0xd0004, 0, 11⟩
def SENSOR_TIMING_CONV : Fld := ⟨0xd0004, 16, 16⟩
def SENSOR_PERIOD : Fld := ⟨0xd0008, 0, 24⟩
def SENSOR_STATUS : Fld := ⟨0xd000c, 0, 32⟩
def SENSOR_STATUS_BUSY : Fld := ⟨0xd000c, 0, 1⟩
def SENSOR_STATUS_OVERRUN : Fld := ⟨0xd000c, 1, 1⟩
def SENSOR_STATUS_CFG_REJECT : Fld := ⟨0xd000c, 2, 1⟩
def SENSOR_SKIPPED : Fld := ⟨0xd0010, 0, 32⟩
def SENSOR_SAMPLE_TICK : Fld := ⟨0xd0018, 0, 64⟩
def SENSOR_SAMPLE_POS : Fld := ⟨0xd0020, 0, 64⟩
def SENSOR_COUNT : Fld := ⟨0xd0028, 0, 32⟩
def SENSOR_CH (i : Nat) : Fld := ⟨0xd0040 + 0x4 * i, 0, 32⟩
def ZL_CTRL (i : Nat) : Fld := ⟨0x100000 + 0x10000 * i, 0, 32⟩
def ZL_CTRL_EN (i : Nat) : Fld := ⟨0x100000 + 0x10000 * i, 0, 1⟩
def ZL_CTRL_PORT_MODE (i : Nat) : Fld := ⟨0x100000 + 0x10000 * i, 1, 2⟩
def ZL_CTRL_SPARE_OWNER (i : Nat) : Fld := ⟨0x100000 + 0x10000 * i, 3, 2⟩
def ZL_CTRL_AUTO_SPARE (i : Nat) : Fld := ⟨0x100000 + 0x10000 * i, 5, 1⟩
def ZL_CTRL_SPARE_IDLE (i : Nat) : Fld := ⟨0x100000 + 0x10000 * i, 6, 1⟩
def ZL_CTRL_LREF (i : Nat) : Fld := ⟨0x100000 + 0x10000 * i, 7, 1⟩
def ZL_CTRL_AUTO_LREF (i : Nat) : Fld := ⟨0x100000 + 0x10000 * i, 8, 1⟩
def ZL_CTRL_LOOPBACK (i : Nat) : Fld := ⟨0x100000 + 0x10000 * i, 9, 2⟩
def ZL_CTRL_REPLAY_EN (i : Nat) : Fld := ⟨0x100000 + 0x10000 * i, 11, 1⟩
def ZL_CTRL_IDLE_REQ (i : Nat) : Fld := ⟨0x100000 + 0x10000 * i, 12, 1⟩
def ZL_CTRL_LINK_RESET (i : Nat) : Fld := ⟨0x100000 + 0x10000 * i, 13, 1⟩
def ZL_CTRL_RETRAIN (i : Nat) : Fld := ⟨0x100000 + 0x10000 * i, 14, 1⟩
def ZL_STATUS (i : Nat) : Fld := ⟨0x100004 + 0x10000 * i, 0, 32⟩
def ZL_STATUS_UP_A (i : Nat) : Fld := ⟨0x100004 + 0x10000 * i, 0, 1⟩
def ZL_STATUS_UP_B (i : Nat) : Fld := ⟨0x100004 + 0x10000 * i, 1, 1⟩
def ZL_STATUS_SPARE_READY (i : Nat) : Fld := ⟨0x100004 + 0x10000 * i, 2, 1⟩
def ZL_STATUS_SPARE_IN_USE (i : Nat) : Fld := ⟨0x100004 + 0x10000 * i, 3, 1⟩
def ZL_STATUS_TX_IDLE (i : Nat) : Fld := ⟨0x100004 + 0x10000 * i, 4, 1⟩
def ZL_STATUS_RX_IDLE (i : Nat) : Fld := ⟨0x100004 + 0x10000 * i, 5, 1⟩
def ZL_STATUS_LREF_ACTIVE (i : Nat) : Fld := ⟨0x100004 + 0x10000 * i, 6, 1⟩
def ZL_STATUS_TRAINED (i : Nat) : Fld := ⟨0x100004 + 0x10000 * i, 7, 1⟩
def ZL_STATUS_HCHK_ERR (i : Nat) : Fld := ⟨0x100004 + 0x10000 * i, 16, 1⟩
def ZL_STATUS_CRC_ERR (i : Nat) : Fld := ⟨0x100004 + 0x10000 * i, 17, 1⟩
def ZL_STATUS_SEQ_GAP (i : Nat) : Fld := ⟨0x100004 + 0x10000 * i, 18, 1⟩
def ZL_STATUS_TYPE_ERR (i : Nat) : Fld := ⟨0x100004 + 0x10000 * i, 19, 1⟩
def ZL_STATUS_LEN_ERR (i : Nat) : Fld := ⟨0x100004 + 0x10000 * i, 20, 1⟩
def ZL_STATUS_STUFF_ERR (i : Nat) : Fld := ⟨0x100004 + 0x10000 * i, 21, 1⟩
def ZL_STATUS_MARKER_ERR (i : Nat) : Fld := ⟨0x100004 + 0x10000 * i, 22, 1⟩
def ZL_STATUS_FILL_MISSING (i : Nat) : Fld := ⟨0x100004 + 0x10000 * i, 23, 1⟩
def ZL_STATUS_DESKEW_ERR (i : Nat) : Fld := ⟨0x100004 + 0x10000 * i, 24, 1⟩
def ZL_STATUS_CFG_REJECT (i : Nat) : Fld := ⟨0x100004 + 0x10000 * i, 25, 1⟩
def ZL_STATUS_TRIG_LATE (i : Nat) : Fld := ⟨0x100004 + 0x10000 * i, 26, 1⟩
def ZL_STATUS_REPLAY_FAIL (i : Nat) : Fld := ⟨0x100004 + 0x10000 * i, 27, 1⟩
def ZL_RX_MAP (i : Nat) : Fld := ⟨0x100008 + 0x10000 * i, 0, 20⟩
def ZL_TX_MAP (i : Nat) : Fld := ⟨0x10000c + 0x10000 * i, 0, 20⟩
def ZL_SWAP (i : Nat) : Fld := ⟨0x100010 + 0x10000 * i, 0, 32⟩
def ZL_SWAP_LANE (i : Nat) : Fld := ⟨0x100010 + 0x10000 * i, 0, 2⟩
def ZL_SWAP_GROUP (i : Nat) : Fld := ⟨0x100010 + 0x10000 * i, 2, 1⟩
def ZL_SWAP_DIR (i : Nat) : Fld := ⟨0x100010 + 0x10000 * i, 3, 1⟩
def ZL_SWAP_RELEASE (i : Nat) : Fld := ⟨0x100010 + 0x10000 * i, 4, 1⟩
def ZL_SWAP_GO (i : Nat) : Fld := ⟨0x100010 + 0x10000 * i, 31, 1⟩
def ZL_ERR_THRESH (i : Nat) : Fld := ⟨0x100014 + 0x10000 * i, 0, 16⟩
def ZL_CNT_PKT_RX (i : Nat) : Fld := ⟨0x100020 + 0x10000 * i, 0, 32⟩
def ZL_CNT_PKT_TX (i : Nat) : Fld := ⟨0x100024 + 0x10000 * i, 0, 32⟩
def ZL_CNT_CRC (i : Nat) : Fld := ⟨0x100028 + 0x10000 * i, 0, 32⟩
def ZL_CNT_HCHK (i : Nat) : Fld := ⟨0x10002c + 0x10000 * i, 0, 32⟩
def ZL_CNT_SEQ_GAP (i : Nat) : Fld := ⟨0x100030 + 0x10000 * i, 0, 32⟩
def ZL_CNT_STUFF (i : Nat) : Fld := ⟨0x100034 + 0x10000 * i, 0, 32⟩
def ZL_CNT_BAD_REQ (i : Nat) : Fld := ⟨0x100038 + 0x10000 * i, 0, 32⟩
def ZL_CNT_REPLAY (i : Nat) : Fld := ⟨0x10003c + 0x10000 * i, 0, 32⟩
def ZL_GRP_TARGET (i j : Nat) : Fld := ⟨0x100040 + 0x10000 * i + 0x10 * j, 0, 20⟩
def ZL_GRP_RTT (i j : Nat) : Fld := ⟨0x100044 + 0x10000 * i + 0x10 * j, 0, 20⟩
def ZL_GRP_TURN (i j : Nat) : Fld := ⟨0x100048 + 0x10000 * i + 0x10 * j, 0, 20⟩
def ZL_GRP_CAM_LATENCY (i j : Nat) : Fld := ⟨0x10004c + 0x10000 * i + 0x10 * j, 0, 20⟩
def ZL_TRAIN (i : Nat) : Fld := ⟨0x100060 + 0x10000 * i, 0, 32⟩
def ZL_TRAIN_GO (i : Nat) : Fld := ⟨0x100060 + 0x10000 * i, 0, 1⟩
def ZL_TRAIN_BUSY (i : Nat) : Fld := ⟨0x100060 + 0x10000 * i, 1, 1⟩
def ZL_TRAIN_FAIL (i : Nat) : Fld := ⟨0x100060 + 0x10000 * i, 2, 1⟩
def ZL_TRAIN_COUNT (i : Nat) : Fld := ⟨0x100060 + 0x10000 * i, 8, 8⟩
def ZL_TIMEOUTS (i : Nat) : Fld := ⟨0x100064 + 0x10000 * i, 0, 32⟩
def ZL_TIMEOUTS_CTRL_TIMEOUT (i : Nat) : Fld := ⟨0x100064 + 0x10000 * i, 0, 8⟩
def ZL_TIMEOUTS_GAP_WAIT (i : Nat) : Fld := ⟨0x100064 + 0x10000 * i, 8, 8⟩
def ZL_TIMEOUTS_REPLAY_TIMEOUT (i : Nat) : Fld := ⟨0x100064 + 0x10000 * i, 16, 8⟩
def ZL_REPLAY_STATUS (i : Nat) : Fld := ⟨0x100068 + 0x10000 * i, 0, 32⟩
def ZL_REPLAY_STATUS_NEXT_SEQ (i : Nat) : Fld := ⟨0x100068 + 0x10000 * i, 0, 16⟩
def ZL_REPLAY_STATUS_ACKED_SEQ (i : Nat) : Fld := ⟨0x100068 + 0x10000 * i, 16, 16⟩
def ZL_LANE_STATUS (i j : Nat) : Fld := ⟨0x100100 + 0x10000 * i + 0x40 * j, 0, 32⟩
def ZL_LANE_STATUS_LOCK (i j : Nat) : Fld := ⟨0x100100 + 0x10000 * i + 0x40 * j, 0, 1⟩
def ZL_LANE_STATUS_ALIGNED (i j : Nat) : Fld := ⟨0x100100 + 0x10000 * i + 0x40 * j, 1, 1⟩
def ZL_LANE_STATUS_LOGICAL (i j : Nat) : Fld := ⟨0x100100 + 0x10000 * i + 0x40 * j, 2, 4⟩
def ZL_LANE_STATUS_FAR_RX_READY (i j : Nat) : Fld := ⟨0x100100 + 0x10000 * i + 0x40 * j, 6, 1⟩
def ZL_LANE_STATUS_EQ_LIMIT (i j : Nat) : Fld := ⟨0x100100 + 0x10000 * i + 0x40 * j, 7, 1⟩
def ZL_LANE_STATUS_IN_GAP (i j : Nat) : Fld := ⟨0x100100 + 0x10000 * i + 0x40 * j, 8, 1⟩
def ZL_LANE_STATUS_SKEW (i j : Nat) : Fld := ⟨0x100100 + 0x10000 * i + 0x40 * j, 16, 8⟩
def ZL_LANE_CTLE (i j : Nat) : Fld := ⟨0x100104 + 0x10000 * i + 0x40 * j, 0, 5⟩
def ZL_LANE_DFE_CFG (i j : Nat) : Fld := ⟨0x100108 + 0x10000 * i + 0x40 * j, 0, 32⟩
def ZL_LANE_DFE_CFG_MU_SHIFT (i j : Nat) : Fld := ⟨0x100108 + 0x10000 * i + 0x40 * j, 0, 5⟩
def ZL_LANE_DFE_CFG_FREEZE (i j : Nat) : Fld := ⟨0x100108 + 0x10000 * i + 0x40 * j, 5, 1⟩
def ZL_LANE_DFE_T1_4 (i j : Nat) : Fld := ⟨0x10010c + 0x10000 * i + 0x40 * j, 0, 32⟩
def ZL_LANE_DFE_T5_8 (i j : Nat) : Fld := ⟨0x100110 + 0x10000 * i + 0x40 * j, 0, 32⟩
def ZL_LANE_DFE_T9_12 (i j : Nat) : Fld := ⟨0x100114 + 0x10000 * i + 0x40 * j, 0, 32⟩
def ZL_LANE_TX_FFE (i j : Nat) : Fld := ⟨0x100118 + 0x10000 * i + 0x40 * j, 0, 32⟩
def ZL_LANE_TX_FFE_PRE (i j : Nat) : Fld := ⟨0x100118 + 0x10000 * i + 0x40 * j, 0, 4⟩
def ZL_LANE_TX_FFE_POST (i j : Nat) : Fld := ⟨0x100118 + 0x10000 * i + 0x40 * j, 4, 5⟩
def ZL_LANE_TX_FFE_SWING (i j : Nat) : Fld := ⟨0x100118 + 0x10000 * i + 0x40 * j, 12, 4⟩
def ZL_LANE_EYE (i j : Nat) : Fld := ⟨0x10011c + 0x10000 * i + 0x40 * j, 0, 32⟩
def ZL_LANE_EYE_EYE_H (i j : Nat) : Fld := ⟨0x10011c + 0x10000 * i + 0x40 * j, 0, 8⟩
def ZL_LANE_EYE_EYE_V (i j : Nat) : Fld := ⟨0x10011c + 0x10000 * i + 0x40 * j, 8, 8⟩
def ZL_LANE_ERR (i j : Nat) : Fld := ⟨0x100120 + 0x10000 * i + 0x40 * j, 0, 32⟩
def ZL_LANE_ERR_STUFF_VIOL (i j : Nat) : Fld := ⟨0x100120 + 0x10000 * i + 0x40 * j, 0, 16⟩
def ZL_LANE_ERR_MARKER_BAD (i j : Nat) : Fld := ⟨0x100120 + 0x10000 * i + 0x40 * j, 16, 16⟩
def ZL_LANE_CAL_AGE (i j : Nat) : Fld := ⟨0x100124 + 0x10000 * i + 0x40 * j, 0, 32⟩
def PIPE_CTRL (i : Nat) : Fld := ⟨0x200000 + 0x10000 * i, 0, 32⟩
def PIPE_CTRL_EN (i : Nat) : Fld := ⟨0x200000 + 0x10000 * i, 0, 1⟩
def PIPE_CTRL_PORT (i : Nat) : Fld := ⟨0x200000 + 0x10000 * i, 1, 4⟩
def PIPE_CTRL_BLOCK_RESET (i : Nat) : Fld := ⟨0x200000 + 0x10000 * i, 5, 1⟩
def PIPE_STATUS (i : Nat) : Fld := ⟨0x200004 + 0x10000 * i, 0, 32⟩
def PIPE_STATUS_STATE (i : Nat) : Fld := ⟨0x200004 + 0x10000 * i, 0, 2⟩
def PIPE_STATUS_SRAM_CORR (i : Nat) : Fld := ⟨0x200004 + 0x10000 * i, 2, 1⟩
def PIPE_STATUS_SRAM_UNCORR (i : Nat) : Fld := ⟨0x200004 + 0x10000 * i, 3, 1⟩
def PIPE_STATUS_CFG_REJECT (i : Nat) : Fld := ⟨0x200004 + 0x10000 * i, 4, 1⟩
def PIPE_STATUS_SPARED_FROM (i : Nat) : Fld := ⟨0x200004 + 0x10000 * i, 8, 4⟩
def PIPE_CTX_CFG (i j : Nat) : Fld := ⟨0x200100 + 0x10000 * i + 0x200 * j, 0, 32⟩
def PIPE_CTX_CFG_PIXELS (i j : Nat) : Fld := ⟨0x200100 + 0x10000 * i + 0x200 * j, 0, 15⟩
def PIPE_CTX_CFG_DEPTH (i j : Nat) : Fld := ⟨0x200100 + 0x10000 * i + 0x200 * j, 16, 2⟩
def PIPE_CTX_CFG_HDR (i j : Nat) : Fld := ⟨0x200100 + 0x10000 * i + 0x200 * j, 18, 1⟩
def PIPE_CTX_CFG_BOUNDARY (i j : Nat) : Fld := ⟨0x200100 + 0x10000 * i + 0x200 * j, 19, 1⟩
def PIPE_CTX_CFG_FRAME_GEN (i j : Nat) : Fld := ⟨0x200100 + 0x10000 * i + 0x200 * j, 20, 2⟩
def PIPE_CTX_CFG_STATS_POINT (i j : Nat) : Fld := ⟨0x200100 + 0x10000 * i + 0x200 * j, 22, 1⟩
def PIPE_CTX_CFG_BYPASS (i j : Nat) : Fld := ⟨0x200100 + 0x10000 * i + 0x200 * j, 24, 4⟩
def PIPE_CTX_COMMIT (i j : Nat) : Fld := ⟨0x200104 + 0x10000 * i + 0x200 * j, 0, 32⟩
def PIPE_CTX_COMMIT_COMMIT (i j : Nat) : Fld := ⟨0x200104 + 0x10000 * i + 0x200 * j, 0, 1⟩
def PIPE_CTX_COMMIT_CANCEL (i j : Nat) : Fld := ⟨0x200104 + 0x10000 * i + 0x200 * j, 1, 1⟩
def PIPE_CTX_STATUS (i j : Nat) : Fld := ⟨0x200108 + 0x10000 * i + 0x200 * j, 0, 32⟩
def PIPE_CTX_STATUS_SET_VALID (i j : Nat) : Fld := ⟨0x200108 + 0x10000 * i + 0x200 * j, 0, 1⟩
def PIPE_CTX_STATUS_COMMIT_PENDING (i j : Nat) : Fld := ⟨0x200108 + 0x10000 * i + 0x200 * j, 1, 1⟩
def PIPE_CTX_STATUS_TABLE_PENDING (i j : Nat) : Fld := ⟨0x200108 + 0x10000 * i + 0x200 * j, 2, 1⟩
def PIPE_CTX_STATUS_COMMIT_CARRIED (i j : Nat) : Fld := ⟨0x200108 + 0x10000 * i + 0x200 * j, 3, 1⟩
def PIPE_CTX_STATUS_CARRY_REASON (i j : Nat) : Fld := ⟨0x200108 + 0x10000 * i + 0x200 * j, 4, 2⟩
def PIPE_CTX_STATUS_INTAKE_OVERRUN (i j : Nat) : Fld := ⟨0x200108 + 0x10000 * i + 0x200 * j, 6, 1⟩
def PIPE_CTX_STATUS_LINE_LOST (i j : Nat) : Fld := ⟨0x200108 + 0x10000 * i + 0x200 * j, 7, 1⟩
def PIPE_CTX_STATUS_LINE_STALE (i j : Nat) : Fld := ⟨0x200108 + 0x10000 * i + 0x200 * j, 8, 1⟩
def PIPE_CTX_STATUS_FORMAT_ERR (i j : Nat) : Fld := ⟨0x200108 + 0x10000 * i + 0x200 * j, 9, 1⟩
def PIPE_CTX_STATUS_EXP_MISMATCH (i j : Nat) : Fld := ⟨0x200108 + 0x10000 * i + 0x200 * j, 10, 1⟩
def PIPE_CTX_STATUS_TABLE_ERR (i j : Nat) : Fld := ⟨0x200108 + 0x10000 * i + 0x200 * j, 11, 1⟩
def PIPE_CTX_STATUS_LATE_BOUNDARY (i j : Nat) : Fld := ⟨0x200108 + 0x10000 * i + 0x200 * j, 12, 1⟩
def PIPE_CTX_STATUS_FIFO_DEPTH (i j : Nat) : Fld := ⟨0x200108 + 0x10000 * i + 0x200 * j, 13, 2⟩
def PIPE_CTX_EXPOSURE (i j : Nat) : Fld := ⟨0x20010c + 0x10000 * i + 0x200 * j, 0, 4⟩
def PIPE_CTX_HDR (i j : Nat) : Fld := ⟨0x200110 + 0x10000 * i + 0x200 * j, 0, 32⟩
def PIPE_CTX_HDR_K (i j : Nat) : Fld := ⟨0x200110 + 0x10000 * i + 0x200 * j, 0, 16⟩
def PIPE_CTX_HDR_KNEE_LO (i j : Nat) : Fld := ⟨0x200110 + 0x10000 * i + 0x200 * j, 16, 16⟩
def PIPE_CTX_HDR2 (i j : Nat) : Fld := ⟨0x200114 + 0x10000 * i + 0x200 * j, 0, 32⟩
def PIPE_CTX_HDR2_SPAN (i j : Nat) : Fld := ⟨0x200114 + 0x10000 * i + 0x200 * j, 0, 4⟩
def PIPE_CTX_HDR2_HDR_SHIFT (i j : Nat) : Fld := ⟨0x200114 + 0x10000 * i + 0x200 * j, 4, 3⟩
def PIPE_CTX_TABLE_BASE (i j : Nat) : Fld := ⟨0x200118 + 0x10000 * i + 0x200 * j, 0, 64⟩
def PIPE_CTX_MATRIX0 (i j : Nat) : Fld := ⟨0x200120 + 0x10000 * i + 0x200 * j, 0, 32⟩
def PIPE_CTX_MATRIX0_M_RR (i j : Nat) : Fld := ⟨0x200120 + 0x10000 * i + 0x200 * j, 0, 16⟩
def PIPE_CTX_MATRIX0_M_RG (i j : Nat) : Fld := ⟨0x200120 + 0x10000 * i + 0x200 * j, 16, 16⟩
def PIPE_CTX_MATRIX1 (i j : Nat) : Fld := ⟨0x200124 + 0x10000 * i + 0x200 * j, 0, 32⟩
def PIPE_CTX_MATRIX1_M_RB (i j : Nat) : Fld := ⟨0x200124 + 0x10000 * i + 0x200 * j, 0, 16⟩
def PIPE_CTX_MATRIX1_M_GR (i j : Nat) : Fld := ⟨0x200124 + 0x10000 * i + 0x200 * j, 16, 16⟩
def PIPE_CTX_MATRIX2 (i j : Nat) : Fld := ⟨0x200128 + 0x10000 * i + 0x200 * j, 0, 32⟩
def PIPE_CTX_MATRIX2_M_GG (i j : Nat) : Fld := ⟨0x200128 + 0x10000 * i + 0x200 * j, 0, 16⟩
def PIPE_CTX_MATRIX2_M_GB (i j : Nat) : Fld := ⟨0x200128 + 0x10000 * i + 0x200 * j, 16, 16⟩
def PIPE_CTX_MATRIX3 (i j : Nat) : Fld := ⟨0x20012c + 0x10000 * i + 0x200 * j, 0, 32⟩
def PIPE_CTX_MATRIX3_M_BR (i j : Nat) : Fld := ⟨0x20012c + 0x10000 * i + 0x200 * j, 0, 16⟩
def PIPE_CTX_MATRIX3_M_BG (i j : Nat) : Fld := ⟨0x20012c + 0x10000 * i + 0x200 * j, 16, 16⟩
def PIPE_CTX_MATRIX4 (i j : Nat) : Fld := ⟨0x200130 + 0x10000 * i + 0x200 * j, 0, 16⟩
def PIPE_CTX_OFFSET0 (i j : Nat) : Fld := ⟨0x200134 + 0x10000 * i + 0x200 * j, 0, 32⟩
def PIPE_CTX_OFFSET0_OFF_R (i j : Nat) : Fld := ⟨0x200134 + 0x10000 * i + 0x200 * j, 0, 16⟩
def PIPE_CTX_OFFSET0_OFF_G (i j : Nat) : Fld := ⟨0x200134 + 0x10000 * i + 0x200 * j, 16, 16⟩
def PIPE_CTX_OFFSET1 (i j : Nat) : Fld := ⟨0x200138 + 0x10000 * i + 0x200 * j, 0, 16⟩
def PIPE_CTX_STATS_ROI (i j : Nat) : Fld := ⟨0x200140 + 0x10000 * i + 0x200 * j, 0, 32⟩
def PIPE_CTX_STATS_ROI_FIRST (i j : Nat) : Fld := ⟨0x200140 + 0x10000 * i + 0x200 * j, 0, 14⟩
def PIPE_CTX_STATS_ROI_LAST (i j : Nat) : Fld := ⟨0x200140 + 0x10000 * i + 0x200 * j, 16, 14⟩
def PIPE_CTX_LINE_TIMEOUT (i j : Nat) : Fld := ⟨0x200144 + 0x10000 * i + 0x200 * j, 0, 16⟩
def PIPE_CTX_APPLIED_LINE (i j : Nat) : Fld := ⟨0x200148 + 0x10000 * i + 0x200 * j, 0, 64⟩
def PIPE_CTX_APPLIED_INFO (i j : Nat) : Fld := ⟨0x200150 + 0x10000 * i + 0x200 * j, 0, 32⟩
def PIPE_CTX_APPLIED_INFO_EXP_SET (i j : Nat) : Fld := ⟨0x200150 + 0x10000 * i + 0x200 * j, 0, 4⟩
def PIPE_CTX_APPLIED_INFO_COMMITS (i j : Nat) : Fld := ⟨0x200150 + 0x10000 * i + 0x200 * j, 16, 16⟩
def PIPE_CTX_LAST_LINE (i j : Nat) : Fld := ⟨0x200158 + 0x10000 * i + 0x200 * j, 0, 64⟩
def PIPE_CTX_LOST_LINES (i j : Nat) : Fld := ⟨0x200160 + 0x10000 * i + 0x200 * j, 0, 32⟩
def PIPE_CTX_OVERRUNS (i j : Nat) : Fld := ⟨0x200164 + 0x10000 * i + 0x200 * j, 0, 32⟩
def PIPE_CTX_STATS_BASE (i j : Nat) : Fld := ⟨0x200170 + 0x10000 * i + 0x200 * j, 0, 64⟩
def PIPE_CTX_STATS_RING (i j : Nat) : Fld := ⟨0x200178 + 0x10000 * i + 0x200 * j, 0, 32⟩
def PIPE_CTX_STATS_RING_DEPTH (i j : Nat) : Fld := ⟨0x200178 + 0x10000 * i + 0x200 * j, 0, 9⟩
def PIPE_CTX_STATS_RING_WR (i j : Nat) : Fld := ⟨0x200178 + 0x10000 * i + 0x200 * j, 16, 9⟩
def PIPE_CTX_STATS_RD (i j : Nat) : Fld := ⟨0x20017c + 0x10000 * i + 0x200 * j, 0, 9⟩
def PIPE_CTX_STATS_DROPPED (i j : Nat) : Fld := ⟨0x200180 + 0x10000 * i + 0x200 * j, 0, 32⟩
def PIPE_CTX_MBOX_CMD (i j : Nat) : Fld := ⟨0x2001c0 + 0x10000 * i + 0x200 * j, 0, 32⟩
def PIPE_CTX_MBOX_CMD_OP (i j : Nat) : Fld := ⟨0x2001c0 + 0x10000 * i + 0x200 * j, 0, 16⟩
def PIPE_CTX_MBOX_CMD_TAG (i j : Nat) : Fld := ⟨0x2001c0 + 0x10000 * i + 0x200 * j, 16, 16⟩
def PIPE_CTX_MBOX_ARG (i j : Nat) : Fld := ⟨0x2001c4 + 0x10000 * i + 0x200 * j, 0, 32⟩
def PIPE_CTX_MBOX_CTRL (i j : Nat) : Fld := ⟨0x2001c8 + 0x10000 * i + 0x200 * j, 0, 32⟩
def PIPE_CTX_MBOX_CTRL_BLOCKS (i j : Nat) : Fld := ⟨0x2001c8 + 0x10000 * i + 0x200 * j, 0, 4⟩
def PIPE_CTX_MBOX_CTRL_SEND (i j : Nat) : Fld := ⟨0x2001c8 + 0x10000 * i + 0x200 * j, 8, 1⟩
def PIPE_CTX_MBOX_CTRL_BUSY (i j : Nat) : Fld := ⟨0x2001c8 + 0x10000 * i + 0x200 * j, 9, 1⟩
def PIPE_CTX_MBOX_CTRL_DONE (i j : Nat) : Fld := ⟨0x2001c8 + 0x10000 * i + 0x200 * j, 10, 1⟩
def PIPE_CTX_MBOX_CTRL_TIMEOUT (i j : Nat) : Fld := ⟨0x2001c8 + 0x10000 * i + 0x200 * j, 11, 1⟩
def PIPE_CTX_MBOX_CTRL_RESULT (i j : Nat) : Fld := ⟨0x2001c8 + 0x10000 * i + 0x200 * j, 16, 8⟩
def PIPE_CTX_MBOX_CTRL_REPLY_BLOCKS (i j : Nat) : Fld := ⟨0x2001c8 + 0x10000 * i + 0x200 * j, 24, 4⟩
def PIPE_CTX_MBOX_REPORT_OP (i j : Nat) : Fld := ⟨0x2001cc + 0x10000 * i + 0x200 * j, 0, 16⟩
def PIPE_CTX_MBOX_REPORT_DATA (i j : Nat) : Fld := ⟨0x2001d0 + 0x10000 * i + 0x200 * j, 0, 32⟩
def PIPE_CTX_MBOX_DATA (i j k : Nat) : Fld := ⟨0x2001e0 + 0x10000 * i + 0x200 * j + 0x8 * k, 0, 64⟩
def STITCH_CTRL : Fld := ⟨0x300000, 0, 32⟩
def STITCH_CTRL_EN : Fld := ⟨0x300000, 0, 1⟩
def STITCH_CTRL_BLOCK_RESET : Fld := ⟨0x300000, 1, 1⟩
def STITCH_STATUS : Fld := ⟨0x300004, 0, 32⟩
def STITCH_STATUS_SET_VALID : Fld := ⟨0x300004, 0, 1⟩
def STITCH_STATUS_COMMIT_PENDING : Fld := ⟨0x300004, 1, 1⟩
def STITCH_STATUS_COMMIT_CARRIED : Fld := ⟨0x300004, 2, 1⟩
def STITCH_STATUS_CARRY_REASON : Fld := ⟨0x300004, 3, 2⟩
def STITCH_STATUS_GEOM_ERR : Fld := ⟨0x300004, 5, 1⟩
def STITCH_STATUS_SRAM_CORR : Fld := ⟨0x300004, 6, 1⟩
def STITCH_STATUS_SRAM_UNCORR : Fld := ⟨0x300004, 7, 1⟩
def STITCH_STATUS_CFG_REJECT : Fld := ⟨0x300004, 8, 1⟩
def STITCH_STATUS_FORMING : Fld := ⟨0x300004, 9, 1⟩
def STITCH_COMMIT : Fld := ⟨0x300008, 0, 32⟩
def STITCH_COMMIT_COMMIT : Fld := ⟨0x300008, 0, 1⟩
def STITCH_COMMIT_CANCEL : Fld := ⟨0x300008, 1, 1⟩
def STITCH_LAYOUT : Fld := ⟨0x30000c, 0, 32⟩
def STITCH_LAYOUT_WIDTH : Fld := ⟨0x30000c, 0, 18⟩
def STITCH_LAYOUT_REF_EDGE : Fld := ⟨0x30000c, 18, 1⟩
def STITCH_XBASE : Fld := ⟨0x300010, 0, 20⟩
def STITCH_CFG : Fld := ⟨0x300014, 0, 32⟩
def STITCH_CFG_BOUNDARY : Fld := ⟨0x300014, 0, 1⟩
def STITCH_CFG_FRAME_GEN : Fld := ⟨0x300014, 1, 2⟩
def STITCH_CFG_BLEND : Fld := ⟨0x300014, 3, 1⟩
def STITCH_APPLIED_LINE : Fld := ⟨0x300018, 0, 64⟩
def STITCH_FORMED_LINE : Fld := ⟨0x300020, 0, 64⟩
def STITCH_INFO : Fld := ⟨0x300028, 0, 32⟩
def STITCH_INFO_COMMITS : Fld := ⟨0x300028, 0, 16⟩
def STITCH_INFO_CHECK : Fld := ⟨0x300028, 16, 8⟩
def STITCH_INFO_CHECK_CAM : Fld := ⟨0x300028, 24, 5⟩
def STITCH_INVALID_LINES : Fld := ⟨0x30002c, 0, 32⟩
def STITCH_FORCED : Fld := ⟨0x300030, 0, 32⟩
def STITCH_CAM_CTRL (i : Nat) : Fld := ⟨0x300100 + 0x40 * i, 0, 1⟩
def STITCH_CAM_SPAN_FIRST (i : Nat) : Fld := ⟨0x300104 + 0x40 * i, 0, 18⟩
def STITCH_CAM_SPAN_LAST (i : Nat) : Fld := ⟨0x300108 + 0x40 * i, 0, 18⟩
def STITCH_CAM_C0 (i : Nat) : Fld := ⟨0x30010c + 0x40 * i, 0, 32⟩
def STITCH_CAM_C1 (i : Nat) : Fld := ⟨0x300110 + 0x40 * i, 0, 32⟩
def STITCH_CAM_C2 (i : Nat) : Fld := ⟨0x300114 + 0x40 * i, 0, 32⟩
def STITCH_CAM_C3 (i : Nat) : Fld := ⟨0x300118 + 0x40 * i, 0, 32⟩
def STITCH_CAM_OFFSET (i : Nat) : Fld := ⟨0x30011c + 0x40 * i, 0, 32⟩
def STITCH_CAM_SKEW (i : Nat) : Fld := ⟨0x300120 + 0x40 * i, 0, 32⟩
def STITCH_CAM_NORM_GAIN0 (i : Nat) : Fld := ⟨0x300124 + 0x40 * i, 0, 32⟩
def STITCH_CAM_NORM_GAIN0_NG_R (i : Nat) : Fld := ⟨0x300124 + 0x40 * i, 0, 16⟩
def STITCH_CAM_NORM_GAIN0_NG_G (i : Nat) : Fld := ⟨0x300124 + 0x40 * i, 16, 16⟩
def STITCH_CAM_NORM_GAIN1 (i : Nat) : Fld := ⟨0x300128 + 0x40 * i, 0, 16⟩
def STITCH_CAM_NORM_OFF0 (i : Nat) : Fld := ⟨0x30012c + 0x40 * i, 0, 32⟩
def STITCH_CAM_NORM_OFF0_NO_R (i : Nat) : Fld := ⟨0x30012c + 0x40 * i, 0, 16⟩
def STITCH_CAM_NORM_OFF0_NO_G (i : Nat) : Fld := ⟨0x30012c + 0x40 * i, 16, 16⟩
def STITCH_CAM_NORM_OFF1 (i : Nat) : Fld := ⟨0x300130 + 0x40 * i, 0, 16⟩
def STITCH_CAM_STATUS (i : Nat) : Fld := ⟨0x300134 + 0x40 * i, 0, 32⟩
def STITCH_CAM_STATUS_OFFSET_RANGE (i : Nat) : Fld := ⟨0x300134 + 0x40 * i, 0, 1⟩
def STITCH_CAM_STATUS_SEAM_LATE (i : Nat) : Fld := ⟨0x300134 + 0x40 * i, 1, 1⟩
def STITCH_CAM_STATUS_SEAM_OVERRUN (i : Nat) : Fld := ⟨0x300134 + 0x40 * i, 2, 1⟩
def STITCH_CAM_STATUS_SOURCE_RANGE (i : Nat) : Fld := ⟨0x300134 + 0x40 * i, 3, 1⟩
def STITCH_CAM_STATUS_STAGED (i : Nat) : Fld := ⟨0x300134 + 0x40 * i, 4, 2⟩
def STITCH_CAM_O_LO (i : Nat) : Fld := ⟨0x300138 + 0x40 * i, 0, 32⟩
def STITCH_CAM_O_HI (i : Nat) : Fld := ⟨0x30013c + 0x40 * i, 0, 32⟩
def STITCH_KERF_CAMS (i : Nat) : Fld := ⟨0x300800 + 0x20 * i, 0, 32⟩
def STITCH_KERF_CAMS_LEFT (i : Nat) : Fld := ⟨0x300800 + 0x20 * i, 0, 5⟩
def STITCH_KERF_CAMS_RIGHT (i : Nat) : Fld := ⟨0x300800 + 0x20 * i, 8, 5⟩
def STITCH_KERF_CAMS_K (i : Nat) : Fld := ⟨0x300800 + 0x20 * i, 16, 10⟩
def STITCH_KERF_MEAN_R (i : Nat) : Fld := ⟨0x300804 + 0x20 * i, 0, 32⟩
def STITCH_KERF_MEAN_R_LEFT (i : Nat) : Fld := ⟨0x300804 + 0x20 * i, 0, 16⟩
def STITCH_KERF_MEAN_R_RIGHT (i : Nat) : Fld := ⟨0x300804 + 0x20 * i, 16, 16⟩
def STITCH_KERF_MEAN_G (i : Nat) : Fld := ⟨0x300808 + 0x20 * i, 0, 32⟩
def STITCH_KERF_MEAN_G_LEFT (i : Nat) : Fld := ⟨0x300808 + 0x20 * i, 0, 16⟩
def STITCH_KERF_MEAN_G_RIGHT (i : Nat) : Fld := ⟨0x300808 + 0x20 * i, 16, 16⟩
def STITCH_KERF_MEAN_B (i : Nat) : Fld := ⟨0x30080c + 0x20 * i, 0, 32⟩
def STITCH_KERF_MEAN_B_LEFT (i : Nat) : Fld := ⟨0x30080c + 0x20 * i, 0, 16⟩
def STITCH_KERF_MEAN_B_RIGHT (i : Nat) : Fld := ⟨0x30080c + 0x20 * i, 16, 16⟩
def STITCH_KERF_FRAME (i : Nat) : Fld := ⟨0x300810 + 0x20 * i, 0, 32⟩
def STITCH_KERF_SAMPLES (i : Nat) : Fld := ⟨0x300814 + 0x20 * i, 0, 32⟩
def MASTER_CTRL : Fld := ⟨0x310000, 0, 32⟩
def MASTER_CTRL_EN : Fld := ⟨0x310000, 0, 1⟩
def MASTER_CTRL_SRC : Fld := ⟨0x310000, 1, 1⟩
def MASTER_CTRL_GAP_MODE : Fld := ⟨0x310000, 2, 1⟩
def MASTER_CTRL_ADOPT_MARK : Fld := ⟨0x310000, 3, 1⟩
def MASTER_CTRL_REG_EN : Fld := ⟨0x310000, 4, 1⟩
def MASTER_CTRL_FIELD_REC_EN : Fld := ⟨0x310000, 5, 1⟩
def MASTER_CTRL_DRIFT_EN : Fld := ⟨0x310000, 6, 1⟩
def MASTER_CTRL_BLOCK_RESET : Fld := ⟨0x310000, 7, 1⟩
def MASTER_STATUS : Fld := ⟨0x310004, 0, 32⟩
def MASTER_STATUS_SET_VALID : Fld := ⟨0x310004, 0, 1⟩
def MASTER_STATUS_COMMIT_PENDING : Fld := ⟨0x310004, 1, 1⟩
def MASTER_STATUS_TABLE_PENDING : Fld := ⟨0x310004, 2, 1⟩
def MASTER_STATUS_COMMIT_CARRIED : Fld := ⟨0x310004, 3, 1⟩
def MASTER_STATUS_CARRY_REASON : Fld := ⟨0x310004, 4, 2⟩
def MASTER_STATUS_LEDGER_LATE : Fld := ⟨0x310004, 6, 1⟩
def MASTER_STATUS_LEDGER_ORDER : Fld := ⟨0x310004, 7, 1⟩
def MASTER_STATUS_PAGE_TRUNCATED : Fld := ⟨0x310004, 8, 1⟩
def MASTER_STATUS_MARK_MISMATCH : Fld := ⟨0x310004, 9, 1⟩
def MASTER_STATUS_MARK_MISSING : Fld := ⟨0x310004, 10, 1⟩
def MASTER_STATUS_WARP_RANGE : Fld := ⟨0x310004, 11, 1⟩
def MASTER_STATUS_WARP_STEP : Fld := ⟨0x310004, 12, 1⟩
def MASTER_STATUS_RING_DROP : Fld := ⟨0x310004, 13, 1⟩
def MASTER_STATUS_SRAM_CORR : Fld := ⟨0x310004, 14, 1⟩
def MASTER_STATUS_CFG_REJECT : Fld := ⟨0x310004, 15, 1⟩
def MASTER_STATUS_QUEUED : Fld := ⟨0x310004, 16, 5⟩
def MASTER_COMMIT : Fld := ⟨0x310008, 0, 32⟩
def MASTER_COMMIT_COMMIT : Fld := ⟨0x310008, 0, 1⟩
def MASTER_COMMIT_CANCEL : Fld := ⟨0x310008, 1, 1⟩
def MASTER_CFG : Fld := ⟨0x31000c, 0, 32⟩
def MASTER_CFG_BOUNDARY : Fld := ⟨0x31000c, 0, 2⟩
def MASTER_CFG_FRAME_GEN : Fld := ⟨0x31000c, 2, 2⟩
def MASTER_CFG_TAU : Fld := ⟨0x31000c, 4, 4⟩
def MASTER_CFG_SPATIAL_EN : Fld := ⟨0x31000c, 8, 1⟩
def MASTER_CFG_MAX_STEP : Fld := ⟨0x31000c, 16, 8⟩
def MASTER_CFG_TOL_DEFAULT : Fld := ⟨0x31000c, 24, 8⟩
def MASTER_PRED_BASE : Fld := ⟨0x310010, 0, 64⟩
def MASTER_LAB0 : Fld := ⟨0x310018, 0, 32⟩
def MASTER_LAB0_M_XR : Fld := ⟨0x310018, 0, 16⟩
def MASTER_LAB0_M_XG : Fld := ⟨0x310018, 16, 16⟩
def MASTER_LAB1 : Fld := ⟨0x31001c, 0, 32⟩
def MASTER_LAB1_M_XB : Fld := ⟨0x31001c, 0, 16⟩
def MASTER_LAB1_M_YR : Fld := ⟨0x31001c, 16, 16⟩
def MASTER_LAB2 : Fld := ⟨0x310020, 0, 32⟩
def MASTER_LAB2_M_YG : Fld := ⟨0x310020, 0, 16⟩
def MASTER_LAB2_M_YB : Fld := ⟨0x310020, 16, 16⟩
def MASTER_LAB3 : Fld := ⟨0x310024, 0, 32⟩
def MASTER_LAB3_M_ZR : Fld := ⟨0x310024, 0, 16⟩
def MASTER_LAB3_M_ZG : Fld := ⟨0x310024, 16, 16⟩
def MASTER_LAB4 : Fld := ⟨0x310028, 0, 16⟩
def MASTER_WHITE0 : Fld := ⟨0x31002c, 0, 32⟩
def MASTER_WHITE0_WX : Fld := ⟨0x31002c, 0, 16⟩
def MASTER_WHITE0_WY : Fld := ⟨0x31002c, 16, 16⟩
def MASTER_WHITE1 : Fld := ⟨0x310030, 0, 16⟩
def MASTER_SPOT0 : Fld := ⟨0x310034, 0, 32⟩
def MASTER_SPOT0_A1R : Fld := ⟨0x310034, 0, 16⟩
def MASTER_SPOT0_A1G : Fld := ⟨0x310034, 16, 16⟩
def MASTER_SPOT1 : Fld := ⟨0x310038, 0, 32⟩
def MASTER_SPOT1_A1B : Fld := ⟨0x310038, 0, 16⟩
def MASTER_SPOT1_A2R : Fld := ⟨0x310038, 16, 16⟩
def MASTER_SPOT2 : Fld := ⟨0x31003c, 0, 32⟩
def MASTER_SPOT2_A2G : Fld := ⟨0x31003c, 0, 16⟩
def MASTER_SPOT2_A2B : Fld := ⟨0x31003c, 16, 16⟩
def MASTER_SUBSTRATE0 : Fld := ⟨0x310040, 0, 32⟩
def MASTER_SUBSTRATE0_R : Fld := ⟨0x310040, 0, 16⟩
def MASTER_SUBSTRATE0_G : Fld := ⟨0x310040, 16, 16⟩
def MASTER_SUBSTRATE1 : Fld := ⟨0x310044, 0, 16⟩
def MASTER_TRACK0 : Fld := ⟨0x310048, 0, 32⟩
def MASTER_TRACK0_TEX_MIN : Fld := ⟨0x310048, 0, 16⟩
def MASTER_TRACK0_SAD_MAX : Fld := ⟨0x310048, 16, 16⟩
def MASTER_TRACK1 : Fld := ⟨0x31004c, 0, 13⟩
def MASTER_APPLIED_LINE : Fld := ⟨0x310058, 0, 64⟩
def MASTER_INFO : Fld := ⟨0x310060, 0, 32⟩
def MASTER_INFO_COMMITS : Fld := ⟨0x310060, 0, 16⟩
def MASTER_INFO_LAG : Fld := ⟨0x310060, 16, 16⟩
def MASTER_DESC_BASE : Fld := ⟨0x310080, 0, 64⟩
def MASTER_LEDGER_BASE : Fld := ⟨0x310088, 0, 64⟩
def MASTER_LEDGER_RING : Fld := ⟨0x310090, 0, 32⟩
def MASTER_LEDGER_RING_DEPTH : Fld := ⟨0x310090, 0, 16⟩
def MASTER_LEDGER_RING_RD : Fld := ⟨0x310090, 16, 16⟩
def MASTER_LEDGER_WR : Fld := ⟨0x310094, 0, 16⟩
def MASTER_FETCH_LEAD : Fld := ⟨0x310098, 0, 11⟩
def MASTER_MARK : Fld := ⟨0x31009c, 0, 32⟩
def MASTER_MARK_GEN : Fld := ⟨0x31009c, 0, 2⟩
def MASTER_MARK_MARK_TOL : Fld := ⟨0x31009c, 8, 8⟩
def MASTER_MARK_MARK_WARN : Fld := ⟨0x31009c, 16, 16⟩
def MASTER_PLACE_ACC : Fld := ⟨0x3100a0, 0, 32⟩
def MASTER_MARK_LAST : Fld := ⟨0x3100a4, 0, 32⟩
def MASTER_PAGE_ID : Fld := ⟨0x3100a8, 0, 32⟩
def MASTER_PAGE_ORIGIN : Fld := ⟨0x3100b0, 0, 64⟩
def MASTER_PAGES : Fld := ⟨0x3100b8, 0, 32⟩
def MASTER_GOLDEN_BASE : Fld := ⟨0x310100, 0, 64⟩
def MASTER_GOLDEN_CFG : Fld := ⟨0x310108, 0, 32⟩
def MASTER_GOLDEN_CFG_LEN : Fld := ⟨0x310108, 0, 20⟩
def MASTER_GOLDEN_CFG_GEN : Fld := ⟨0x310108, 20, 2⟩
def MASTER_GOLDEN_LEARN : Fld := ⟨0x31010c, 0, 32⟩
def MASTER_GOLDEN_LEARN_N_LEARN : Fld := ⟨0x31010c, 0, 8⟩
def MASTER_GOLDEN_LEARN_GAIN : Fld := ⟨0x31010c, 8, 4⟩
def MASTER_GOLDEN_LEARN_DRIFT : Fld := ⟨0x31010c, 12, 4⟩
def MASTER_GOLDEN_LEARN_ACCEPT : Fld := ⟨0x31010c, 16, 8⟩
def MASTER_GOLDEN_LEARN_DRIFT_BLOCK : Fld := ⟨0x31010c, 24, 8⟩
def MASTER_GOLDEN_CTRL : Fld := ⟨0x310110, 0, 32⟩
def MASTER_GOLDEN_CTRL_READY : Fld := ⟨0x310110, 0, 1⟩
def MASTER_GOLDEN_CTRL_ASSERT_READY : Fld := ⟨0x310110, 1, 1⟩
def MASTER_GOLDEN_CTRL_RELEARN : Fld := ⟨0x310110, 2, 1⟩
def MASTER_GOLDEN_REJECTED : Fld := ⟨0x310114, 0, 32⟩
def MASTER_REG_BASE : Fld := ⟨0x310140, 0, 64⟩
def MASTER_REG_RING : Fld := ⟨0x310148, 0, 32⟩
def MASTER_REG_RING_DEPTH : Fld := ⟨0x310148, 0, 16⟩
def MASTER_REG_RING_WR : Fld := ⟨0x310148, 16, 16⟩
def MASTER_REG_RD : Fld := ⟨0x31014c, 0, 16⟩
def MASTER_REG_DROPPED : Fld := ⟨0x310150, 0, 32⟩
def MASTER_FIELD_BASE : Fld := ⟨0x310160, 0, 64⟩
def MASTER_FIELD_RING : Fld := ⟨0x310168, 0, 32⟩
def MASTER_FIELD_RING_DEPTH : Fld := ⟨0x310168, 0, 16⟩
def MASTER_FIELD_RING_WR : Fld := ⟨0x310168, 16, 16⟩
def MASTER_FIELD_RD : Fld := ⟨0x31016c, 0, 16⟩
def MASTER_FIELD_DROPPED : Fld := ⟨0x310170, 0, 32⟩
def MASTER_UNVERIFIED : Fld := ⟨0x310180, 0, 32⟩
def MASTER_RANGE_TILES : Fld := ⟨0x310184, 0, 32⟩
def MASTER_WEAK_TILES : Fld := ⟨0x310188, 0, 32⟩
def MASTER_TILE_ROW : Fld := ⟨0x310190, 0, 64⟩
def FINE_CTRL : Fld := ⟨0x320000, 0, 32⟩
def FINE_CTRL_COL_EN : Fld := ⟨0x320000, 0, 1⟩
def FINE_CTRL_SEED : Fld := ⟨0x320000, 1, 1⟩
def FINE_CTRL_RESEED_ON_SET : Fld := ⟨0x320000, 2, 1⟩
def FINE_CTRL_BLOCK_RESET : Fld := ⟨0x320000, 3, 1⟩
def FINE_CTRL_A : Fld := ⟨0x320000, 4, 4⟩
def FINE_CTRL_ATTR_EN : Fld := ⟨0x320000, 8, 1⟩
def FINE_STATUS : Fld := ⟨0x320004, 0, 32⟩
def FINE_STATUS_SRAM_CORR : Fld := ⟨0x320004, 0, 1⟩
def FINE_STATUS_SRAM_UNCORR : Fld := ⟨0x320004, 1, 1⟩
def FINE_STATUS_SNAP_DROP : Fld := ⟨0x320004, 2, 1⟩
def FINE_STATUS_ATTR_OVERRUN : Fld := ⟨0x320004, 3, 1⟩
def FINE_STATUS_NOZZLE_DROP : Fld := ⟨0x320004, 4, 1⟩
def FINE_STATUS_CFG_REJECT : Fld := ⟨0x320004, 5, 1⟩
def FINE_STATUS_ATTR_BANK : Fld := ⟨0x320004, 6, 1⟩
def FINE_STATUS_ATTR_QUEUE : Fld := ⟨0x320004, 8, 6⟩
def FINE_SEED_LINE : Fld := ⟨0x320008, 0, 64⟩
def FINE_SNAP_CFG : Fld := ⟨0x320010, 0, 24⟩
def FINE_SNAP_BASE : Fld := ⟨0x320018, 0, 64⟩
def FINE_SNAP_RING : Fld := ⟨0x320020, 0, 32⟩
def FINE_SNAP_RING_DEPTH : Fld := ⟨0x320020, 0, 8⟩
def FINE_SNAP_RING_WR : Fld := ⟨0x320020, 16, 8⟩
def FINE_SNAP_RD : Fld := ⟨0x320024, 0, 8⟩
def FINE_SNAP_STRIDE : Fld := ⟨0x320028, 0, 32⟩
def FINE_SNAP_DROPPED : Fld := ⟨0x32002c, 0, 32⟩
def FINE_ATTR_CTRL : Fld := ⟨0x320040, 0, 32⟩
def FINE_ATTR_CTRL_SWAP : Fld := ⟨0x320040, 0, 1⟩
def FINE_ATTR_CTRL_COPY : Fld := ⟨0x320040, 1, 1⟩
def FINE_ATTR_CTRL_BUSY : Fld := ⟨0x320040, 2, 1⟩
def FINE_ATTR_CTRL_RES_MAX : Fld := ⟨0x320040, 16, 16⟩
def FINE_NOZ_BASE : Fld := ⟨0x320048, 0, 64⟩
def FINE_NOZ_RING : Fld := ⟨0x320050, 0, 32⟩
def FINE_NOZ_RING_DEPTH : Fld := ⟨0x320050, 0, 16⟩
def FINE_NOZ_RING_WR : Fld := ⟨0x320050, 16, 16⟩
def FINE_NOZ_RD : Fld := ⟨0x320054, 0, 16⟩
def FINE_NOZ_DROPPED : Fld := ⟨0x320058, 0, 32⟩
def FINE_ATTR_COUNT : Fld := ⟨0x32005c, 0, 32⟩
def FINE_BAR_CFG (i : Nat) : Fld := ⟨0x320100 + 0x10 * i, 0, 32⟩
def FINE_BAR_CFG_ENABLE (i : Nat) : Fld := ⟨0x320100 + 0x10 * i, 0, 1⟩
def FINE_BAR_CFG_INK (i : Nat) : Fld := ⟨0x320100 + 0x10 * i, 1, 3⟩
def FINE_BAR_SHIFT (i : Nat) : Fld := ⟨0x320108 + 0x10 * i, 0, 32⟩
def FINE_BAR_SCALE (i : Nat) : Fld := ⟨0x32010c + 0x10 * i, 0, 24⟩
def FINE_HEAD_X0 (i j : Nat) : Fld := ⟨0x324000 + 0x400 * i + 0x10 * j, 0, 32⟩
def FINE_HEAD_PITCH (i j : Nat) : Fld := ⟨0x324004 + 0x400 * i + 0x10 * j, 0, 32⟩
def FINE_HEAD_CFG (i j : Nat) : Fld := ⟨0x324008 + 0x400 * i + 0x10 * j, 0, 32⟩
def FINE_HEAD_CFG_NOZZLES (i j : Nat) : Fld := ⟨0x324008 + 0x400 * i + 0x10 * j, 0, 13⟩
def FINE_HEAD_CFG_DIR (i j : Nat) : Fld := ⟨0x324008 + 0x400 * i + 0x10 * j, 16, 1⟩
def FINE_HEAD_CFG_ENABLE (i j : Nat) : Fld := ⟨0x324008 + 0x400 * i + 0x10 * j, 17, 1⟩
def SCALER_CTRL : Fld := ⟨0x330000, 0, 32⟩
def SCALER_CTRL_EN : Fld := ⟨0x330000, 0, 1⟩
def SCALER_CTRL_BLOCK_RESET : Fld := ⟨0x330000, 1, 1⟩
def SCALER_CTRL_CLASS_EN : Fld := ⟨0x330000, 2, 1⟩
def SCALER_CTRL_NET_EN : Fld := ⟨0x330000, 3, 1⟩
def SCALER_CTRL_CHAIN_EN : Fld := ⟨0x330000, 4, 1⟩
def SCALER_STATUS : Fld := ⟨0x330004, 0, 32⟩
def SCALER_STATUS_SET_VALID : Fld := ⟨0x330004, 0, 1⟩
def SCALER_STATUS_COMMIT_PENDING : Fld := ⟨0x330004, 1, 1⟩
def SCALER_STATUS_COMMIT_CARRIED : Fld := ⟨0x330004, 2, 1⟩
def SCALER_STATUS_CARRY_REASON : Fld := ⟨0x330004, 3, 2⟩
def SCALER_STATUS_TABLE_FULL : Fld := ⟨0x330004, 5, 1⟩
def SCALER_STATUS_VERDICT_LATE : Fld := ⟨0x330004, 6, 1⟩
def SCALER_STATUS_TALLY_LOST : Fld := ⟨0x330004, 7, 1⟩
def SCALER_STATUS_CLASS_TIMEOUT : Fld := ⟨0x330004, 8, 1⟩
def SCALER_STATUS_SNIP_LOST : Fld := ⟨0x330004, 9, 1⟩
def SCALER_STATUS_STRIP_LATE : Fld := ⟨0x330004, 10, 1⟩
def SCALER_STATUS_SRAM_CORR : Fld := ⟨0x330004, 11, 1⟩
def SCALER_STATUS_CFG_REJECT : Fld := ⟨0x330004, 12, 1⟩
def SCALER_COMMIT : Fld := ⟨0x330008, 0, 32⟩
def SCALER_COMMIT_COMMIT : Fld := ⟨0x330008, 0, 1⟩
def SCALER_COMMIT_CANCEL : Fld := ⟨0x330008, 1, 1⟩
def SCALER_CFG : Fld := ⟨0x33000c, 0, 32⟩
def SCALER_CFG_BOUNDARY : Fld := ⟨0x33000c, 0, 1⟩
def SCALER_CFG_FRAME_GEN : Fld := ⟨0x33000c, 1, 2⟩
def SCALER_CFG_PLANES : Fld := ⟨0x33000c, 3, 2⟩
def SCALER_FINE_THR : Fld := ⟨0x330010, 0, 32⟩
def SCALER_FINE_THR_LO : Fld := ⟨0x330010, 0, 8⟩
def SCALER_FINE_THR_HI : Fld := ⟨0x330010, 8, 8⟩
def SCALER_FINE_THR_MIN_AREA : Fld := ⟨0x330010, 16, 16⟩
def SCALER_MASTER_THR : Fld := ⟨0x330014, 0, 32⟩
def SCALER_MASTER_THR_LO : Fld := ⟨0x330014, 0, 8⟩
def SCALER_MASTER_THR_HI : Fld := ⟨0x330014, 8, 8⟩
def SCALER_MASTER_THR_MIN_AREA : Fld := ⟨0x330014, 16, 16⟩
def SCALER_STREAK : Fld := ⟨0x330018, 0, 32⟩
def SCALER_STREAK_STREAK_WIDTH : Fld := ⟨0x330018, 0, 12⟩
def SCALER_STREAK_STREAK_INK : Fld := ⟨0x330018, 12, 8⟩
def SCALER_STREAK_STREAK_LINES : Fld := ⟨0x330018, 20, 12⟩
def SCALER_SEVERITY : Fld := ⟨0x33001c, 0, 32⟩
def SCALER_SEVERITY_SEV_T1 : Fld := ⟨0x33001c, 0, 8⟩
def SCALER_SEVERITY_SEV_T2 : Fld := ⟨0x33001c, 8, 8⟩
def SCALER_SEVERITY_SEV_T3 : Fld := ⟨0x33001c, 16, 8⟩
def SCALER_OPEN : Fld := ⟨0x330020, 0, 16⟩
def SCALER_DEADLINE : Fld := ⟨0x330024, 0, 20⟩
def SCALER_CLASS : Fld := ⟨0x330028, 0, 32⟩
def SCALER_CLASS_CLASS_QUILL : Fld := ⟨0x330028, 0, 4⟩
def SCALER_CLASS_CLASS_TIMEOUT : Fld := ⟨0x330028, 8, 8⟩
def SCALER_SNIP : Fld := ⟨0x33002c, 0, 32⟩
def SCALER_SNIP_SNIP_W : Fld := ⟨0x33002c, 0, 7⟩
def SCALER_SNIP_SNIP_H : Fld := ⟨0x33002c, 8, 13⟩
def SCALER_SNIP_SNIP_CHAN : Fld := ⟨0x33002c, 24, 5⟩
def SCALER_SNIP_BASE : Fld := ⟨0x330030, 0, 64⟩
def SCALER_SNIP_SLOTS : Fld := ⟨0x330038, 0, 32⟩
def SCALER_SNIP_SLOTS_SLOTS : Fld := ⟨0x330038, 0, 16⟩
def SCALER_SNIP_SLOTS_SNIP_TIMEOUT : Fld := ⟨0x330038, 24, 8⟩
def SCALER_SNIP_STRIDE : Fld := ⟨0x33003c, 0, 32⟩
def SCALER_VERDICT : Fld := ⟨0x330040, 0, 64⟩
def SCALER_SEQ_NEXT : Fld := ⟨0x330048, 0, 32⟩
def SCALER_SEQ_ACK : Fld := ⟨0x33004c, 0, 32⟩
def SCALER_OPEN_COUNT : Fld := ⟨0x330050, 0, 17⟩
def SCALER_OPEN_PEAK : Fld := ⟨0x330054, 0, 17⟩
def SCALER_TALLIES : Fld := ⟨0x330058, 0, 32⟩
def SCALER_QUIET : Fld := ⟨0x33005c, 0, 32⟩
def SCALER_LOST : Fld := ⟨0x330060, 0, 32⟩
def SCALER_LATE_LINES : Fld := ⟨0x330064, 0, 32⟩
def SCALER_EDGE : Fld := ⟨0x330068, 0, 32⟩
def SCALER_EDGE_LEFT_ID : Fld := ⟨0x330068, 0, 12⟩
def SCALER_EDGE_RIGHT_ID : Fld := ⟨0x330068, 16, 12⟩
def SCALER_STRIP : Fld := ⟨0x33006c, 0, 32⟩
def SCALER_STRIP_STRIP_ROWS : Fld := ⟨0x33006c, 0, 13⟩
def SCALER_STRIP_STRIP_TIMEOUT : Fld := ⟨0x33006c, 16, 16⟩
def SCALER_NET_FILTER : Fld := ⟨0x330070, 0, 32⟩
def SCALER_NET_FILTER_FINE : Fld := ⟨0x330070, 0, 1⟩
def SCALER_NET_FILTER_MASTER : Fld := ⟨0x330070, 1, 1⟩
def SCALER_NET_FILTER_OPEN : Fld := ⟨0x330070, 2, 1⟩
def SCALER_NET_FILTER_COVERAGE : Fld := ⟨0x330070, 3, 1⟩
def SCALER_NET_FILTER_MIN_SEV : Fld := ⟨0x330070, 4, 2⟩
def SCALER_CHAIN_FILTER : Fld := ⟨0x330074, 0, 32⟩
def SCALER_CHAIN_FILTER_FINE : Fld := ⟨0x330074, 0, 1⟩
def SCALER_CHAIN_FILTER_MASTER : Fld := ⟨0x330074, 1, 1⟩
def SCALER_CHAIN_FILTER_OPEN : Fld := ⟨0x330074, 2, 1⟩
def SCALER_CHAIN_FILTER_COVERAGE : Fld := ⟨0x330074, 3, 1⟩
def SCALER_CHAIN_FILTER_MIN_SEV : Fld := ⟨0x330074, 4, 2⟩
def SCALER_COLLECT : Fld := ⟨0x330078, 0, 12⟩
def SCALER_NET_DROPPED : Fld := ⟨0x33007c, 0, 32⟩
def SCALER_NET_DROPPED_NET : Fld := ⟨0x33007c, 0, 16⟩
def SCALER_NET_DROPPED_CHAIN : Fld := ⟨0x33007c, 16, 16⟩
def SCALER_RING_BASE (i : Nat) : Fld := ⟨0x330100 + 0x20 * i, 0, 64⟩
def SCALER_RING_CFG (i : Nat) : Fld := ⟨0x330108 + 0x20 * i, 0, 32⟩
def SCALER_RING_CFG_DEPTH (i : Nat) : Fld := ⟨0x330108 + 0x20 * i, 0, 16⟩
def SCALER_RING_CFG_HOST (i : Nat) : Fld := ⟨0x330108 + 0x20 * i, 16, 1⟩
def SCALER_RING_CFG_WB_EN (i : Nat) : Fld := ⟨0x330108 + 0x20 * i, 17, 1⟩
def SCALER_RING_CFG_RESERVE (i : Nat) : Fld := ⟨0x330108 + 0x20 * i, 24, 8⟩
def SCALER_RING_FILTER (i : Nat) : Fld := ⟨0x33010c + 0x20 * i, 0, 32⟩
def SCALER_RING_FILTER_FINE (i : Nat) : Fld := ⟨0x33010c + 0x20 * i, 0, 1⟩
def SCALER_RING_FILTER_MASTER (i : Nat) : Fld := ⟨0x33010c + 0x20 * i, 1, 1⟩
def SCALER_RING_FILTER_OPEN (i : Nat) : Fld := ⟨0x33010c + 0x20 * i, 2, 1⟩
def SCALER_RING_FILTER_MIN_SEV (i : Nat) : Fld := ⟨0x33010c + 0x20 * i, 4, 2⟩
def SCALER_RING_WR (i : Nat) : Fld := ⟨0x330110 + 0x20 * i, 0, 16⟩
def SCALER_RING_RD (i : Nat) : Fld := ⟨0x330114 + 0x20 * i, 0, 16⟩
def SCALER_RING_WB_ADDR (i : Nat) : Fld := ⟨0x330118 + 0x20 * i, 0, 32⟩
def SCALER_RING_LOST (i : Nat) : Fld := ⟨0x33011c + 0x20 * i, 0, 32⟩
def QUILL_CTRL (i : Nat) : Fld := ⟨0x400000 + 0x40000 * i, 0, 32⟩
def QUILL_CTRL_BLOCK_RESET (i : Nat) : Fld := ⟨0x400000 + 0x40000 * i, 0, 1⟩
def QUILL_CTRL_SPARE_AUTO (i : Nat) : Fld := ⟨0x400000 + 0x40000 * i, 1, 1⟩
def QUILL_STATUS (i : Nat) : Fld := ⟨0x400004 + 0x40000 * i, 0, 32⟩
def QUILL_STATUS_SPARE_SLOT (i : Nat) : Fld := ⟨0x400004 + 0x40000 * i, 0, 5⟩
def QUILL_STATUS_SRAM_CORR (i : Nat) : Fld := ⟨0x400004 + 0x40000 * i, 5, 1⟩
def QUILL_STATUS_CFG_REJECT (i : Nat) : Fld := ⟨0x400004 + 0x40000 * i, 6, 1⟩
def QUILL_STATUS_LOAD_ERR (i : Nat) : Fld := ⟨0x400004 + 0x40000 * i, 7, 1⟩
def QUILL_STATUS_FQ_FULL (i : Nat) : Fld := ⟨0x400004 + 0x40000 * i, 8, 1⟩
def QUILL_LOAD_SRC (i : Nat) : Fld := ⟨0x400010 + 0x40000 * i, 0, 64⟩
def QUILL_LOAD (i : Nat) : Fld := ⟨0x400018 + 0x40000 * i, 0, 32⟩
def QUILL_LOAD_MASK (i : Nat) : Fld := ⟨0x400018 + 0x40000 * i, 0, 16⟩
def QUILL_LOAD_GO (i : Nat) : Fld := ⟨0x400018 + 0x40000 * i, 16, 1⟩
def QUILL_LOAD_BUSY (i : Nat) : Fld := ⟨0x400018 + 0x40000 * i, 17, 1⟩
def QUILL_LOAD_INFO (i : Nat) : Fld := ⟨0x40001c + 0x40000 * i, 0, 32⟩
def QUILL_QMEM_WIN (i : Nat) : Fld := ⟨0x400020 + 0x40000 * i, 0, 5⟩
def QUILL_FQ (i : Nat) : Fld := ⟨0x400024 + 0x40000 * i, 0, 32⟩
def QUILL_FQ_QUEUED (i : Nat) : Fld := ⟨0x400024 + 0x40000 * i, 0, 7⟩
def QUILL_FQ_CLAIMED (i : Nat) : Fld := ⟨0x400024 + 0x40000 * i, 8, 7⟩
def QUILL_FQ_STALE (i : Nat) : Fld := ⟨0x400024 + 0x40000 * i, 16, 16⟩
def QUILL_EV_LAST (i : Nat) : Fld := ⟨0x400028 + 0x40000 * i, 0, 32⟩
def QUILL_EV_LAST_CODE (i : Nat) : Fld := ⟨0x400028 + 0x40000 * i, 0, 8⟩
def QUILL_EV_LAST_NIB (i : Nat) : Fld := ⟨0x400028 + 0x40000 * i, 8, 4⟩
def QUILL_JOB_CTRL (i j : Nat) : Fld := ⟨0x400100 + 0x40000 * i + 0x80 * j, 0, 32⟩
def QUILL_JOB_CTRL_EN (i j : Nat) : Fld := ⟨0x400100 + 0x40000 * i + 0x80 * j, 0, 1⟩
def QUILL_JOB_CTRL_MODE (i j : Nat) : Fld := ⟨0x400100 + 0x40000 * i + 0x80 * j, 1, 1⟩
def QUILL_JOB_CTRL_PLANE (i j : Nat) : Fld := ⟨0x400100 + 0x40000 * i + 0x80 * j, 2, 1⟩
def QUILL_JOB_CTRL_OUT_EN (i j : Nat) : Fld := ⟨0x400100 + 0x40000 * i + 0x80 * j, 3, 1⟩
def QUILL_JOB_CTRL_FAULT_POLICY (i j : Nat) : Fld := ⟨0x400100 + 0x40000 * i + 0x80 * j, 4, 1⟩
def QUILL_JOB_CTRL_RUNNING (i j : Nat) : Fld := ⟨0x400100 + 0x40000 * i + 0x80 * j, 5, 1⟩
def QUILL_JOB_CTRL_CONFIG_ERR (i j : Nat) : Fld := ⟨0x400100 + 0x40000 * i + 0x80 * j, 6, 1⟩
def QUILL_JOB_CTRL_CHECK (i j : Nat) : Fld := ⟨0x400100 + 0x40000 * i + 0x80 * j, 8, 8⟩
def QUILL_JOB_NIBS (i j : Nat) : Fld := ⟨0x400104 + 0x40000 * i + 0x80 * j, 0, 16⟩
def QUILL_JOB_X0 (i j : Nat) : Fld := ⟨0x400108 + 0x40000 * i + 0x80 * j, 0, 18⟩
def QUILL_JOB_STRIPE (i j : Nat) : Fld := ⟨0x40010c + 0x40000 * i + 0x80 * j, 0, 32⟩
def QUILL_JOB_STRIPE_SW (i j : Nat) : Fld := ⟨0x40010c + 0x40000 * i + 0x80 * j, 0, 13⟩
def QUILL_JOB_STRIPE_HALO (i j : Nat) : Fld := ⟨0x40010c + 0x40000 * i + 0x80 * j, 16, 3⟩
def QUILL_JOB_INIT_PC (i j : Nat) : Fld := ⟨0x400110 + 0x40000 * i + 0x80 * j, 0, 14⟩
def QUILL_JOB_LINE_PC (i j : Nat) : Fld := ⟨0x400114 + 0x40000 * i + 0x80 * j, 0, 14⟩
def QUILL_JOB_BUDGET (i j : Nat) : Fld := ⟨0x400118 + 0x40000 * i + 0x80 * j, 0, 24⟩
def QUILL_JOB_OUT_BASE (i j : Nat) : Fld := ⟨0x40011c + 0x40000 * i + 0x80 * j, 0, 18⟩
def QUILL_JOB_WIN_CFG (i j k : Nat) : Fld := ⟨0x400120 + 0x40000 * i + 0x80 * j + 0x10 * k, 0, 32⟩
def QUILL_JOB_WIN_CFG_SRC (i j k : Nat) : Fld := ⟨0x400120 + 0x40000 * i + 0x80 * j + 0x10 * k, 0, 3⟩
def QUILL_JOB_WIN_CFG_ROWS (i j k : Nat) : Fld := ⟨0x400120 + 0x40000 * i + 0x80 * j + 0x10 * k, 8, 6⟩
def QUILL_JOB_WIN_CFG_HIST (i j k : Nat) : Fld := ⟨0x400120 + 0x40000 * i + 0x80 * j + 0x10 * k, 16, 5⟩
def QUILL_JOB_WIN_CFG_AHEAD (i j k : Nat) : Fld := ⟨0x400120 + 0x40000 * i + 0x80 * j + 0x10 * k, 24, 3⟩
def QUILL_JOB_WIN_BASE (i j k : Nat) : Fld := ⟨0x400124 + 0x40000 * i + 0x80 * j + 0x10 * k, 0, 18⟩
def QUILL_JOB_WIN_PITCH (i j k : Nat) : Fld := ⟨0x400128 + 0x40000 * i + 0x80 * j + 0x10 * k, 0, 18⟩
def QUILL_JOB_START_LINE (i j : Nat) : Fld := ⟨0x400160 + 0x40000 * i + 0x80 * j, 0, 64⟩
def QUILL_JOB_RETIRED (i j : Nat) : Fld := ⟨0x400168 + 0x40000 * i + 0x80 * j, 0, 64⟩
def QUILL_JOB_FAULTS (i j : Nat) : Fld := ⟨0x400170 + 0x40000 * i + 0x80 * j, 0, 32⟩
def QUILL_JOB_LINES_LOST (i j : Nat) : Fld := ⟨0x400174 + 0x40000 * i + 0x80 * j, 0, 32⟩
def QUILL_SLOT_STATUS (i j : Nat) : Fld := ⟨0x400400 + 0x40000 * i + 0x20 * j, 0, 32⟩
def QUILL_SLOT_STATUS_STATE (i j : Nat) : Fld := ⟨0x400400 + 0x40000 * i + 0x20 * j, 0, 3⟩
def QUILL_SLOT_STATUS_ROLE (i j : Nat) : Fld := ⟨0x400400 + 0x40000 * i + 0x20 * j, 4, 5⟩
def QUILL_SLOT_STATUS_JOB (i j : Nat) : Fld := ⟨0x400400 + 0x40000 * i + 0x20 * j, 10, 2⟩
def QUILL_SLOT_STATUS_SRAM_CORR (i j : Nat) : Fld := ⟨0x400400 + 0x40000 * i + 0x20 * j, 12, 1⟩
def QUILL_SLOT_STATUS_SRAM_UNCORR (i j : Nat) : Fld := ⟨0x400400 + 0x40000 * i + 0x20 * j, 13, 1⟩
def QUILL_SLOT_STATUS_IMAGE_VALID (i j : Nat) : Fld := ⟨0x400400 + 0x40000 * i + 0x20 * j, 14, 1⟩
def QUILL_SLOT_CTRL (i j : Nat) : Fld := ⟨0x400404 + 0x40000 * i + 0x20 * j, 0, 32⟩
def QUILL_SLOT_CTRL_RESTART (i j : Nat) : Fld := ⟨0x400404 + 0x40000 * i + 0x20 * j, 0, 1⟩
def QUILL_SLOT_CTRL_SPARE_NOW (i j : Nat) : Fld := ⟨0x400404 + 0x40000 * i + 0x20 * j, 1, 1⟩
def QUILL_SLOT_FAULT (i j : Nat) : Fld := ⟨0x400408 + 0x40000 * i + 0x20 * j, 0, 32⟩
def QUILL_SLOT_FAULT_CODE (i j : Nat) : Fld := ⟨0x400408 + 0x40000 * i + 0x20 * j, 0, 16⟩
def QUILL_SLOT_FAULT_COUNT (i j : Nat) : Fld := ⟨0x400408 + 0x40000 * i + 0x20 * j, 16, 16⟩
def QUILL_SLOT_FAULT_PC (i j : Nat) : Fld := ⟨0x40040c + 0x40000 * i + 0x20 * j, 0, 14⟩
def QUILL_SLOT_FAULT_ADDR (i j : Nat) : Fld := ⟨0x400410 + 0x40000 * i + 0x20 * j, 0, 32⟩
def QUILL_SLOT_CYCLES (i j : Nat) : Fld := ⟨0x400414 + 0x40000 * i + 0x20 * j, 0, 32⟩
def QUILL_SLOT_CYCLES_MAX (i j : Nat) : Fld := ⟨0x400418 + 0x40000 * i + 0x20 * j, 0, 32⟩
def QUILL_SLOT_CORR_COUNT (i j : Nat) : Fld := ⟨0x40041c + 0x40000 * i + 0x20 * j, 0, 32⟩

end Sys2Proof.Machine
end

