-- ==== Sys2Proof/Machine/RegTable.lean ====
section
/-! DEFINITION. The register tables of the section files as data: offsets, arrays, access codes,
reset values and Kept codes (R10, R13, R14), and the reset value of any BAR0 word. -/

namespace Sys2Proof.Machine

def rowsTop0 : List RegRow := [
  ⟨0x0, [], false, [⟨0, 32, .ro, 0x961200b0, 0, .fused⟩]⟩,
  ⟨0x4, [], false, [⟨0, 4, .ro, 1, 0, .none⟩, ⟨4, 4, .ro, 0, 0, .none⟩, ⟨8, 4, .ro, 0xf, 0, .none⟩, ⟨16, 1, .ro, 0, 0, .none⟩]⟩,
  ⟨0x8, [], false, [⟨0, 32, .ro, 0, 0, .warm⟩]⟩,
  ⟨0xc, [], false, [⟨0, 1, .wo, 0, 0, .none⟩, ⟨1, 1, .wo, 0, 0, .none⟩, ⟨2, 1, .wo, 0, 0, .none⟩, ⟨3, 1, .rw, 0, 0, .none⟩, ⟨4, 1, .rw, 1, 0, .warm⟩, ⟨5, 1, .rw, 1, 0, .warm⟩]⟩,
  ⟨0x10, [], false, [⟨0, 1, .w1c, 0, 0, .warm⟩, ⟨1, 1, .w1c, 0, 0, .warm⟩, ⟨2, 1, .w1c, 0, 0, .none⟩, ⟨3, 1, .w1c, 0, 0, .none⟩, ⟨4, 1, .ro, 0, 0, .none⟩, ⟨5, 1, .ro, 0, 0, .none⟩, ⟨6, 1, .ro, 0, 0, .warm⟩]⟩,
  ⟨0x14, [], false, [⟨0, 2, .ro, 0, 0, .warm⟩, ⟨2, 1, .ro, 0, 0, .pin⟩, ⟨8, 8, .ro, 0, 0, .warm⟩, ⟨16, 16, .ro, 0, 0, .pin⟩]⟩,
  ⟨0x18, [], false, [⟨0, 16, .rw, 0x400, 0, .warm⟩, ⟨16, 16, .rw, 0, 0, .warm⟩]⟩,
  ⟨0x1c, [], false, [⟨0, 32, .ro, 0, 0, .warm⟩]⟩,
  ⟨0x20, [], false, [⟨0, 8, .ro, 0, 0, .warm⟩, ⟨8, 1, .ro, 0, 0, .warm⟩]⟩,
  ⟨0x24, [], false, [⟨0, 32, .rc, 0, 0, .warm⟩]⟩,
  ⟨0x28, [], true, [⟨0, 44, .rw, 0, 0, .warm⟩]⟩,
  ⟨0x30, [], false, [⟨0, 16, .rw, 0, 0, .warm⟩, ⟨16, 16, .ro, 0, 0, .warm⟩]⟩,
  ⟨0x34, [], false, [⟨0, 16, .rw, 0, 0, .warm⟩]⟩,
  ⟨0x38, [], false, [⟨0, 8, .rw, 0, 0, .warm⟩, ⟨8, 1, .rw, 0, 0, .warm⟩, ⟨16, 16, .rw, 0x14, 0, .warm⟩]⟩,
  ⟨0x3c, [], false, [⟨0, 32, .rc, 0, 0, .none⟩]⟩,
  ⟨0x40, [], true, [⟨0, 44, .rw, 0, 0, .warm⟩]⟩,
  ⟨0x48, [], false, [⟨0, 32, .ro, 0, 0, .warm⟩]⟩,
  ⟨0x50, [], true, [⟨0, 64, .ro, 0, 0, .warm⟩]⟩,
  ⟨0x58, [], false, [⟨0, 3, .ro, 0, 0, .warm⟩, ⟨4, 4, .ro, 0, 0, .warm⟩, ⟨16, 16, .ro, 0, 0, .warm⟩]⟩,
  ⟨0x60, [], true, [⟨0, 64, .ro, 0, 0, .warm⟩]⟩]

def rowsTop1 : List RegRow := [
  ⟨0x68, [], true, [⟨0, 64, .ro, 0, 0, .warm⟩]⟩,
  ⟨0x70, [], false, [⟨0, 8, .rw, 0x10, 0, .warm⟩, ⟨8, 16, .rw, 0x40, 0, .warm⟩, ⟨24, 8, .rw, 8, 0, .warm⟩]⟩,
  ⟨0x74, [], false, [⟨0, 1, .ro, 1, 0, .none⟩, ⟨1, 12, .ro, 0xfff, 0, .none⟩, ⟨16, 8, .ro, 0, 0, .none⟩]⟩,
  ⟨0x80, [(1, 0x4)], false, [⟨0, 8, .ro, 0x80, 0, .warm⟩, ⟨8, 8, .ro, 0x80, 0, .fused⟩, ⟨16, 16, .ro, 0, 0, .warm⟩]⟩,
  ⟨0x84, [(1, 0x4)], false, [⟨0, 8, .ro, 0x10, 0, .warm⟩, ⟨8, 8, .ro, 0x10, 0, .fused⟩, ⟨16, 16, .ro, 0, 0, .warm⟩]⟩,
  ⟨0x88, [(1, 0x4)], false, [⟨0, 8, .ro, 0x20, 0, .warm⟩, ⟨8, 8, .ro, 0x20, 0, .fused⟩, ⟨16, 16, .ro, 0, 0, .warm⟩]⟩,
  ⟨0x8c, [(1, 0x4)], false, [⟨0, 8, .ro, 0x10, 0, .warm⟩, ⟨8, 8, .ro, 0x10, 0, .fused⟩, ⟨16, 16, .ro, 0, 0, .warm⟩]⟩,
  ⟨0x90, [(12, 0x4)], false, [⟨0, 8, .ro, 0x20, 0, .warm⟩, ⟨8, 8, .ro, 0x20, 0, .fused⟩, ⟨16, 16, .ro, 0, 0, .warm⟩]⟩]

def rowsTimeline0 : List RegRow := [
  ⟨0x10000, [], false, [⟨0, 1, .rw, 0, 0, .warm⟩, ⟨1, 3, .rw, 0, 0, .warm⟩, ⟨4, 1, .wo, 0, 0, .none⟩, ⟨5, 1, .rw, 0, 0, .warm⟩, ⟨6, 1, .wo, 0, 0, .none⟩]⟩,
  ⟨0x10004, [], false, [⟨0, 1, .ro, 1, 0, .none⟩, ⟨1, 1, .ro, 0, 0, .none⟩, ⟨2, 1, .w1c, 0, 0, .none⟩, ⟨3, 1, .w1c, 0, 0, .none⟩, ⟨4, 1, .w1c, 0, 0, .none⟩, ⟨5, 1, .w1c, 0, 0, .none⟩, ⟨6, 1, .w1c, 0, 0, .none⟩, ⟨7, 1, .w1c, 0, 0, .none⟩, ⟨8, 1, .w1c, 0, 0, .none⟩]⟩,
  ⟨0x10008, [], true, [⟨0, 64, .ro, 0, 0, .warm⟩]⟩,
  ⟨0x10010, [], true, [⟨0, 64, .ro, 0, 0, .warm⟩]⟩,
  ⟨0x10018, [], true, [⟨0, 64, .rw, 0, 0, .warm⟩]⟩,
  ⟨0x10020, [], false, [⟨0, 32, .rw, 0x1000000, 0, .warm⟩]⟩,
  ⟨0x10024, [], false, [⟨0, 32, .ro, 0, 0, .none⟩]⟩,
  ⟨0x10028, [], false, [⟨0, 32, .rw, 0x61a80, 0, .warm⟩]⟩,
  ⟨0x1002c, [], false, [⟨0, 32, .rw, 0x2800000, 0, .warm⟩]⟩,
  ⟨0x10030, [], false, [⟨0, 32, .rw, 0, 0, .warm⟩]⟩,
  ⟨0x10034, [], false, [⟨0, 1, .rw, 0, 0, .warm⟩, ⟨8, 8, .rw, 0, 0, .warm⟩, ⟨16, 8, .rw, 0x10, 0, .warm⟩, ⟨24, 4, .rw, 4, 0, .warm⟩]⟩,
  ⟨0x10038, [], true, [⟨0, 64, .ro, 0xffffffffffffffff, 0, .warm⟩]⟩,
  ⟨0x10040, [], true, [⟨0, 64, .rw, 0x8000000000000000, 0, .warm⟩]⟩,
  ⟨0x10048, [], true, [⟨0, 64, .rw, 0x7fffffffffffffff, 0, .warm⟩]⟩,
  ⟨0x10050, [], true, [⟨0, 64, .ro, 0, 0, .none⟩]⟩,
  ⟨0x10058, [], true, [⟨0, 64, .ro, 0, 0, .none⟩]⟩,
  ⟨0x10060, [], false, [⟨0, 32, .ro, 0, 0, .none⟩]⟩,
  ⟨0x10064, [], false, [⟨0, 16, .ro, 0, 0, .none⟩]⟩,
  ⟨0x10070, [], false, [⟨0, 12, .ro, 0, 0, .none⟩, ⟨12, 1, .ro, 0, 0, .none⟩, ⟨16, 12, .rc, 0, 0, .none⟩]⟩,
  ⟨0x10100, [(4, 0x40)], false, [⟨0, 3, .rw, 0, 0, .warm⟩, ⟨3, 1, .rw, 0, 0, .warm⟩, ⟨4, 8, .rw, 4, 0, .warm⟩, ⟨12, 2, .rw, 0, 0, .warm⟩, ⟨14, 1, .w1s, 0, 0, .none⟩, ⟨15, 1, .rw, 0, 0, .warm⟩]⟩]

def rowsTimeline1 : List RegRow := [
  ⟨0x10104, [(4, 0x40)], false, [⟨0, 32, .rw, 0, 0, .warm⟩]⟩,
  ⟨0x10108, [(4, 0x40)], false, [⟨0, 32, .rw, 0, 0, .warm⟩]⟩,
  ⟨0x1010c, [(4, 0x40)], false, [⟨0, 16, .rw, 0, 0, .warm⟩]⟩,
  ⟨0x10110, [(4, 0x40)], false, [⟨0, 1, .w1c, 0, 0, .none⟩, ⟨1, 1, .w1c, 0, 0, .none⟩, ⟨2, 1, .w1c, 0, 0, .none⟩, ⟨3, 1, .w1c, 0, 0, .none⟩, ⟨4, 1, .w1c, 0, 0, .none⟩, ⟨5, 1, .ro, 0, 0, .none⟩]⟩,
  ⟨0x10114, [(4, 0x40)], false, [⟨0, 32, .ro, 0, 0, .none⟩]⟩,
  ⟨0x10118, [(4, 0x40)], false, [⟨0, 6, .rw, 0x19, 0, .warm⟩, ⟨6, 1, .rw, 1, 0, .warm⟩, ⟨7, 1, .rw, 0, 0, .warm⟩, ⟨8, 11, .rw, 0xc7, 0, .warm⟩]⟩,
  ⟨0x1011c, [(4, 0x40)], false, [⟨0, 20, .rw, 0xfa0, 0, .warm⟩, ⟨20, 12, .rw, 0, 0, .warm⟩]⟩,
  ⟨0x10120, [(4, 0x40)], true, [⟨0, 64, .ro, 0, 0, .none⟩]⟩,
  ⟨0x10128, [(4, 0x40)], true, [⟨0, 64, .ro, 0, 0, .none⟩]⟩,
  ⟨0x10130, [(4, 0x40)], true, [⟨0, 64, .ro, 0, 0, .none⟩]⟩,
  ⟨0x10138, [(4, 0x40)], true, [⟨0, 64, .ro, 0, 0, .none⟩]⟩,
  ⟨0x10200, [(4, 0x20)], false, [⟨0, 2, .rw, 0, 0, .warm⟩, ⟨2, 3, .rw, 0, 0, .warm⟩, ⟨8, 1, .w1c, 0, 0, .none⟩, ⟨9, 1, .w1c, 0, 0, .none⟩]⟩,
  ⟨0x10204, [(4, 0x20)], false, [⟨0, 32, .rw, 0, 0, .warm⟩]⟩,
  ⟨0x10208, [(4, 0x20)], true, [⟨0, 64, .rw, 0, 0, .warm⟩]⟩,
  ⟨0x10210, [(4, 0x20)], false, [⟨0, 32, .rw, 0, 0, .warm⟩]⟩,
  ⟨0x10214, [(4, 0x20)], false, [⟨0, 16, .rw, 0, 0, .warm⟩, ⟨16, 16, .rw, 0, 0, .warm⟩]⟩,
  ⟨0x10218, [(4, 0x20)], false, [⟨0, 32, .rw, 0, 0, .warm⟩]⟩,
  ⟨0x10300, [(8, 0x20)], false, [⟨0, 1, .rw, 0, 0, .warm⟩, ⟨1, 2, .rw, 0, 0, .warm⟩, ⟨3, 8, .rw, 4, 0, .warm⟩]⟩,
  ⟨0x10304, [(8, 0x20)], false, [⟨0, 32, .rw, 0, 0, .warm⟩]⟩,
  ⟨0x10308, [(8, 0x20)], true, [⟨0, 64, .ro, 0, 0, .none⟩]⟩]

def rowsTimeline2 : List RegRow := [
  ⟨0x10310, [(8, 0x20)], true, [⟨0, 64, .ro, 0, 0, .none⟩]⟩,
  ⟨0x10318, [(8, 0x20)], false, [⟨0, 1, .ro, 0, 0, .none⟩, ⟨1, 1, .ro, 0, 0, .none⟩]⟩,
  ⟨0x1031c, [(8, 0x20)], false, [⟨0, 5, .ro, 0, 0, .none⟩, ⟨8, 1, .w1c, 0, 0, .none⟩, ⟨9, 1, .ro, 0, 0, .none⟩, ⟨10, 1, .w1c, 0, 0, .none⟩]⟩,
  ⟨0x10400, [(64, 0x20)], false, [⟨0, 1, .rw, 0, 0, .none⟩, ⟨1, 2, .rw, 0, 0, .none⟩, ⟨3, 1, .rw, 0, 0, .none⟩, ⟨4, 1, .rw, 0, 0, .none⟩]⟩,
  ⟨0x10404, [(64, 0x20)], false, [⟨0, 1, .w1c, 0, 0, .none⟩, ⟨1, 1, .w1c, 0, 0, .none⟩, ⟨2, 1, .w1c, 0, 0, .none⟩, ⟨3, 1, .w1c, 0, 0, .none⟩]⟩,
  ⟨0x10408, [(64, 0x20)], true, [⟨0, 64, .rw, 0, 0, .none⟩]⟩,
  ⟨0x10410, [(64, 0x20)], false, [⟨0, 32, .rw, 0, 0, .none⟩]⟩,
  ⟨0x10414, [(64, 0x20)], false, [⟨0, 32, .rc, 0, 0, .none⟩]⟩,
  ⟨0x10418, [(64, 0x20)], true, [⟨0, 64, .ro, 0, 0, .none⟩]⟩,
  ⟨0x10c00, [(4, 0x10)], false, [⟨0, 1, .rw, 0, 0, .none⟩, ⟨1, 1, .rw, 1, 0, .none⟩, ⟨16, 16, .rw, 0xa, 0, .none⟩]⟩,
  ⟨0x10c04, [(4, 0x10)], false, [⟨0, 5, .ro, 0, 0, .none⟩, ⟨8, 1, .w1c, 0, 0, .none⟩, ⟨9, 1, .w1c, 0, 0, .none⟩, ⟨10, 1, .w1c, 0, 0, .none⟩]⟩,
  ⟨0x10c08, [(4, 0x10)], true, [⟨0, 64, .wo, 0, 0, .none⟩]⟩]

def rowsStroke : List RegRow := [
  ⟨0x20000, [], false, [⟨0, 8, .w1s, 0, 0, .none⟩]⟩,
  ⟨0x20100, [(8, 0x80)], false, [⟨0, 1, .rw, 0, 0, .none⟩, ⟨1, 1, .rw, 0, 0, .none⟩, ⟨2, 2, .rw, 0, 0, .warm⟩, ⟨4, 3, .rw, 0, 0, .warm⟩, ⟨7, 1, .rw, 0, 0, .warm⟩, ⟨8, 1, .rw, 0, 0, .warm⟩, ⟨9, 1, .rw, 0, 0, .warm⟩, ⟨10, 1, .rw, 0, 0, .warm⟩, ⟨11, 1, .rw, 0, 0, .warm⟩, ⟨16, 8, .rw, 0x28, 0, .warm⟩, ⟨24, 8, .rw, 8, 0, .warm⟩]⟩,
  ⟨0x20104, [(8, 0x80)], false, [⟨0, 1, .w1c, 0, 0, .none⟩, ⟨1, 1, .w1c, 0, 0, .none⟩, ⟨2, 1, .w1c, 0, 0, .none⟩, ⟨3, 1, .w1c, 0, 0, .none⟩, ⟨4, 1, .w1c, 0, 0, .none⟩, ⟨5, 1, .ro, 0, 0, .none⟩, ⟨6, 1, .ro, 1, 0, .none⟩]⟩,
  ⟨0x20108, [(8, 0x80)], false, [⟨0, 32, .rw, 0x1000000, 0, .warm⟩]⟩,
  ⟨0x2010c, [(8, 0x80)], false, [⟨0, 16, .rw, 0x40, 0, .warm⟩]⟩,
  ⟨0x20110, [(8, 0x80)], true, [⟨0, 64, .rw, 0, 0, .warm⟩]⟩,
  ⟨0x20118, [(8, 0x80)], true, [⟨0, 64, .rw, 0, 0, .none⟩]⟩,
  ⟨0x20120, [(8, 0x80)], true, [⟨0, 64, .ro, 0, 0, .none⟩]⟩,
  ⟨0x20128, [(8, 0x80)], false, [⟨0, 32, .rw, 0, 0, .none⟩]⟩,
  ⟨0x2012c, [(8, 0x80)], false, [⟨0, 32, .wo, 0, 0, .none⟩]⟩,
  ⟨0x20130, [(8, 0x80)], false, [⟨0, 32, .ro, 0, 0, .none⟩]⟩,
  ⟨0x20134, [(8, 0x80)], false, [⟨0, 32, .rw, 0, 0, .warm⟩]⟩,
  ⟨0x20138, [(8, 0x80)], false, [⟨0, 32, .rw, 0x10000, 0, .warm⟩]⟩,
  ⟨0x2013c, [(8, 0x80)], false, [⟨0, 32, .ro, 0, 0, .none⟩]⟩,
  ⟨0x20140, [(8, 0x80)], true, [⟨0, 64, .rw, 0x8000000000000000, 0, .warm⟩]⟩,
  ⟨0x20148, [(8, 0x80)], true, [⟨0, 64, .rw, 0x7fffffffffffffff, 0, .warm⟩]⟩,
  ⟨0x20150, [(8, 0x80)], false, [⟨0, 32, .rc, 0, 0, .none⟩]⟩]

def rowsEvent : List RegRow := [
  ⟨0x30000, [], false, [⟨0, 1, .wo, 0, 0, .none⟩]⟩,
  ⟨0x30004, [], false, [⟨0, 1, .w1c, 0, 0, .none⟩, ⟨1, 1, .ro, 0, 0, .none⟩, ⟨2, 1, .ro, 0, 0, .none⟩]⟩,
  ⟨0x30008, [], true, [⟨0, 64, .wo, 0, 0, .none⟩]⟩,
  ⟨0x30010, [], true, [⟨0, 64, .w1c, 0, 0, .none⟩]⟩,
  ⟨0x30018, [], true, [⟨0, 64, .w1c, 0, 0, .none⟩]⟩,
  ⟨0x30020, [], false, [⟨0, 16, .ro, 0, 0, .none⟩]⟩,
  ⟨0x30400, [(256, 0x4)], false, [⟨0, 6, .rw, 0, 0, .warm⟩, ⟨7, 1, .rw, 0, 0, .warm⟩]⟩,
  ⟨0x30800, [(64, 0x10)], false, [⟨0, 3, .rw, 0, 0, .warm⟩, ⟨3, 1, .rw, 0, 0, .warm⟩, ⟨4, 1, .rw, 0, 0, .none⟩, ⟨5, 1, .rw, 0, 0, .warm⟩, ⟨8, 4, .rw, 0, 0, .warm⟩, ⟨16, 8, .rw, 0, 0, .warm⟩]⟩,
  ⟨0x30804, [(64, 0x10)], false, [⟨0, 12, .rw, 0xfff, 0, .warm⟩]⟩,
  ⟨0x30808, [(64, 0x10)], false, [⟨0, 32, .rc, 0, 0, .none⟩]⟩,
  ⟨0x3080c, [(64, 0x10)], false, [⟨0, 16, .rc, 0, 0, .none⟩, ⟨16, 16, .rc, 0, 0, .none⟩]⟩,
  ⟨0x31000, [(192, 0x8)], false, [⟨0, 6, .rw, 0, 0, .warm⟩, ⟨7, 1, .rw, 0, 0, .warm⟩]⟩,
  ⟨0x31004, [(192, 0x8)], false, [⟨0, 1, .w1c, 0, 0, .none⟩, ⟨1, 1, .w1c, 0, 0, .none⟩, ⟨16, 16, .rc, 0, 0, .none⟩]⟩,
  ⟨0x31800, [(16, 0x10)], false, [⟨0, 1, .rw, 0, 0, .warm⟩, ⟨1, 1, .rw, 0, 0, .none⟩, ⟨2, 1, .rw, 1, 0, .warm⟩, ⟨3, 1, .rw, 0, 0, .warm⟩, ⟨4, 2, .rw, 0, 0, .warm⟩, ⟨6, 1, .rw, 0, 0, .warm⟩, ⟨8, 8, .rw, 4, 0, .warm⟩, ⟨16, 6, .rw, 0, 0, .warm⟩]⟩,
  ⟨0x31804, [(16, 0x10)], false, [⟨0, 16, .rw, 0x28, 0, .warm⟩]⟩]

def rowsScribe : List RegRow := [
  ⟨0x40000, [], false, [⟨0, 1, .wo, 0, 0, .none⟩]⟩,
  ⟨0x40004, [], false, [⟨0, 1, .w1c, 0, 0, .none⟩, ⟨1, 1, .w1c, 0, 0, .none⟩, ⟨8, 8, .ro, 0, 0, .none⟩, ⟨16, 8, .ro, 0, 0, .none⟩]⟩,
  ⟨0x40008, [], false, [⟨0, 32, .rc, 0, 0, .none⟩]⟩,
  ⟨0x40100, [(8, 0x40)], false, [⟨0, 1, .wo, 0, 0, .none⟩, ⟨1, 1, .wo, 0, 0, .none⟩, ⟨2, 1, .rw, 0, 0, .warm⟩, ⟨3, 1, .rw, 1, 0, .warm⟩]⟩,
  ⟨0x40104, [(8, 0x40)], false, [⟨0, 3, .ro, 0, 0, .none⟩, ⟨3, 1, .ro, 0, 0, .none⟩, ⟨4, 1, .ro, 0, 0, .none⟩, ⟨5, 3, .ro, 0, 0, .none⟩, ⟨8, 4, .ro, 0, 0, .none⟩, ⟨12, 3, .ro, 0, 0, .none⟩, ⟨16, 1, .ro, 0, 0, .none⟩, ⟨17, 1, .w1c, 0, 0, .none⟩, ⟨18, 1, .w1c, 0, 0, .none⟩, ⟨19, 1, .w1c, 0, 0, .none⟩, ⟨20, 1, .w1c, 0, 0, .none⟩]⟩,
  ⟨0x40108, [(8, 0x40)], true, [⟨0, 44, .rw, 0, 0, .warm⟩]⟩,
  ⟨0x40110, [(8, 0x40)], false, [⟨0, 25, .rw, 0x1000, 0, .warm⟩]⟩,
  ⟨0x40114, [(8, 0x40)], false, [⟨0, 24, .rw, 0, 0, .warm⟩]⟩,
  ⟨0x40118, [(8, 0x40)], false, [⟨0, 24, .rw, 0, 0, .warm⟩]⟩,
  ⟨0x4011c, [(8, 0x40)], true, [⟨0, 64, .rw, 0, 0, .warm⟩]⟩,
  ⟨0x40124, [(8, 0x40)], true, [⟨0, 44, .ro, 0, 0, .none⟩]⟩,
  ⟨0x4012c, [(8, 0x40)], false, [⟨0, 16, .ro, 0, 0, .none⟩, ⟨16, 16, .ro, 0, 0, .none⟩]⟩,
  ⟨0x40130, [(8, 0x40)], false, [⟨0, 32, .ro, 0, 0, .none⟩]⟩,
  ⟨0x40134, [(8, 0x40)], false, [⟨0, 8, .ro, 0, 0, .none⟩]⟩]

def rowsDma : List RegRow := [
  ⟨0x50000, [], false, [⟨0, 1, .wo, 0, 0, .none⟩]⟩,
  ⟨0x50004, [], false, [⟨0, 1, .w1c, 0, 0, .none⟩, ⟨8, 6, .ro, 0, 0, .none⟩]⟩,
  ⟨0x50008, [], false, [⟨0, 32, .rc, 0, 0, .none⟩]⟩,
  ⟨0x5000c, [], false, [⟨0, 32, .rc, 0, 0, .none⟩]⟩,
  ⟨0x50010, [], false, [⟨0, 32, .ro, 0, 0, .none⟩]⟩,
  ⟨0x50014, [], false, [⟨0, 32, .ro, 0, 0, .none⟩]⟩,
  ⟨0x50100, [(32, 0x40)], false, [⟨0, 1, .wo, 0, 0, .none⟩, ⟨1, 1, .wo, 0, 0, .none⟩, ⟨2, 1, .rw, 0, 0, .warm⟩, ⟨4, 4, .rw, 4, 0, .warm⟩, ⟨8, 4, .rw, 4, 0, .warm⟩]⟩,
  ⟨0x50104, [(32, 0x40)], false, [⟨0, 3, .ro, 0, 0, .none⟩, ⟨4, 3, .ro, 0, 0, .none⟩, ⟨8, 1, .ro, 0, 0, .none⟩, ⟨9, 1, .w1c, 0, 0, .none⟩, ⟨10, 1, .w1c, 0, 0, .none⟩, ⟨11, 1, .w1c, 0, 0, .none⟩, ⟨12, 1, .w1c, 0, 0, .none⟩, ⟨13, 1, .w1c, 0, 0, .none⟩]⟩,
  ⟨0x50108, [(32, 0x40)], true, [⟨0, 44, .rw, 0, 0, .none⟩]⟩,
  ⟨0x50110, [(32, 0x40)], true, [⟨0, 64, .rw, 0, 0, .warm⟩]⟩,
  ⟨0x50118, [(32, 0x40)], false, [⟨0, 16, .ro, 0, 0, .none⟩, ⟨16, 16, .ro, 0, 0, .none⟩]⟩,
  ⟨0x50120, [(32, 0x40)], true, [⟨0, 44, .ro, 0, 0, .none⟩]⟩,
  ⟨0x50128, [(32, 0x40)], false, [⟨0, 32, .ro, 0, 0, .none⟩]⟩,
  ⟨0x5012c, [(32, 0x40)], false, [⟨0, 32, .rc, 0, 0, .none⟩]⟩,
  ⟨0x50130, [(32, 0x40)], false, [⟨0, 32, .ro, 0, 0, .none⟩]⟩]

def rowsTherm : List RegRow := [
  ⟨0x60000, [], false, [⟨0, 1, .wo, 0, 0, .none⟩, ⟨1, 1, .rw, 0, 0, .none⟩, ⟨2, 1, .rw, 1, 0, .warm⟩, ⟨3, 1, .rw, 0, 0, .warm⟩, ⟨8, 8, .rw, 0xff, 0, .warm⟩]⟩,
  ⟨0x60004, [], false, [⟨0, 8, .ro, 0, 0, .none⟩, ⟨8, 8, .ro, 0, 0, .none⟩, ⟨16, 1, .ro, 0, 0, .none⟩, ⟨17, 1, .ro, 0, 0, .none⟩, ⟨18, 1, .w1c, 0, 0, .none⟩, ⟨19, 1, .w1c, 0, 0, .none⟩, ⟨20, 1, .w1c, 0, 0, .none⟩, ⟨21, 1, .w1c, 0, 0, .none⟩, ⟨22, 1, .w1c, 0, 0, .none⟩]⟩,
  ⟨0x60008, [], false, [⟨0, 8, .rw, 0x80, 0, .warm⟩, ⟨8, 8, .rw, 0, 0, .warm⟩, ⟨16, 16, .rw, 0x64, 0, .warm⟩]⟩,
  ⟨0x6000c, [], false, [⟨0, 8, .rw, 0x64, 0, .warm⟩, ⟨8, 8, .rw, 0x6e, 0, .warm⟩, ⟨16, 4, .rw, 3, 0, .warm⟩, ⟨20, 2, .rw, 0, 0, .warm⟩, ⟨24, 1, .rw, 0, 0, .warm⟩, ⟨25, 3, .rw, 7, 0, .warm⟩, ⟨28, 4, .rw, 4, 0, .warm⟩]⟩,
  ⟨0x60010, [], false, [⟨0, 16, .rw, 0x190, 0, .warm⟩]⟩,
  ⟨0x60014, [], false, [⟨0, 32, .ro, 0, 0, .none⟩]⟩,
  ⟨0x60018, [], false, [⟨0, 8, .ro, 0, 0, .none⟩]⟩,
  ⟨0x6001c, [], false, [⟨0, 32, .rw, 0x4e20, 0, .warm⟩]⟩,
  ⟨0x60100, [(8, 0x20)], false, [⟨0, 16, .ro, 0, 0, .none⟩, ⟨16, 16, .rc, 0x8000, 0, .none⟩]⟩,
  ⟨0x60104, [(8, 0x20)], false, [⟨0, 16, .ro, 0, 0, .warm⟩]⟩,
  ⟨0x60108, [(8, 0x20)], false, [⟨0, 32, .ro, 0, 0, .none⟩]⟩,
  ⟨0x6010c, [(8, 0x20)], false, [⟨0, 2, .ro, 0, 0, .none⟩, ⟨2, 2, .ro, 2, 0, .warm⟩, ⟨4, 1, .ro, 0, 0, .none⟩, ⟨16, 16, .rc, 0, 0, .none⟩]⟩,
  ⟨0x60110, [(8, 0x20)], false, [⟨0, 32, .ro, 0, 0, .none⟩]⟩,
  ⟨0x60400, [(24, 0x8)], false, [⟨0, 16, .ro, 0, 0, .none⟩]⟩,
  ⟨0x60404, [(8, 0x18)], false, [⟨0, 2, .ro, 0, 0, .warm⟩, ⟨2, 1, .ro, 0, 0, .none⟩, ⟨4, 2, .ro, 0, 0, .none⟩, ⟨6, 1, .ro, 0, 0, .none⟩]⟩,
  ⟨0x6040c, [(8, 0x18)], false, [⟨0, 2, .ro, 1, 0, .warm⟩, ⟨2, 1, .ro, 0, 0, .none⟩, ⟨4, 2, .ro, 0, 0, .none⟩, ⟨6, 1, .ro, 0, 0, .none⟩]⟩,
  ⟨0x60414, [(8, 0x18)], false, [⟨0, 2, .ro, 1, 0, .warm⟩, ⟨2, 1, .ro, 0, 0, .none⟩, ⟨4, 2, .ro, 0, 0, .none⟩, ⟨6, 1, .ro, 0, 0, .none⟩]⟩,
  ⟨0x60800, [(16, 0x8)], false, [⟨0, 16, .rw, 0, 0, .warm⟩, ⟨16, 8, .rw, 0, 0, .warm⟩, ⟨31, 1, .rw, 0, 0, .warm⟩]⟩,
  ⟨0x60804, [(16, 0x8)], false, [⟨0, 32, .rw, 0, 0, .warm⟩]⟩]

def rowsSec0 : List RegRow := [
  ⟨0x70000, [], false, [⟨0, 3, .ro, 0, 0, .warm⟩, ⟨3, 2, .ro, 3, 0, .warm⟩, ⟨8, 4, .ro, 0, 0, .warm⟩, ⟨12, 1, .ro, 0, 0, .warm⟩]⟩,
  ⟨0x70004, [], false, [⟨0, 1, .wo, 0, 0, .none⟩, ⟨1, 1, .wo, 0, 0, .none⟩]⟩,
  ⟨0x70008, [], false, [⟨0, 1, .ro, 0, 0, .warm⟩, ⟨1, 1, .ro, 0, 0, .warm⟩, ⟨2, 1, .ro, 0, 0, .warm⟩, ⟨3, 3, .ro, 0, 0, .warm⟩]⟩,
  ⟨0x7000c, [], false, [⟨0, 32, .ro, 0, 0, .warm⟩]⟩,
  ⟨0x70010, [], false, [⟨0, 32, .ro, 0, 0, .warm⟩]⟩,
  ⟨0x70014, [], false, [⟨0, 6, .ro, 0, 0, .warm⟩, ⟨8, 6, .ro, 0, 0, .fused⟩]⟩,
  ⟨0x70018, [], true, [⟨0, 64, .rw, 0, 0, .none⟩]⟩,
  ⟨0x70020, [], false, [⟨0, 21, .rw, 0, 0, .none⟩]⟩,
  ⟨0x70024, [], false, [⟨0, 1, .ro, 0, 0, .fused⟩, ⟨1, 1, .ro, 0, 0, .fused⟩, ⟨2, 1, .ro, 0, 0, .fused⟩]⟩,
  ⟨0x70028, [], false, [⟨0, 5, .ro, 0, 0, .none⟩, ⟨5, 3, .ro, 0, 0, .none⟩, ⟨8, 1, .ro, 0, 0, .none⟩, ⟨9, 1, .ro, 0, 0, .none⟩, ⟨10, 1, .ro, 0, 0, .none⟩, ⟨11, 1, .ro, 0, 0, .none⟩, ⟨12, 1, .w1c, 0, 0, .none⟩]⟩,
  ⟨0x7002c, [], false, [⟨0, 16, .ro, 0, 0, .fused⟩, ⟨16, 16, .ro, 0x9612, 0, .fused⟩]⟩,
  ⟨0x70030, [], false, [⟨0, 32, .ro, 0, 0, .fused⟩]⟩,
  ⟨0x70034, [], false, [⟨0, 32, .rc, 0, 0, .none⟩]⟩,
  ⟨0x70038, [], false, [⟨0, 3, .ro, 0, 0, .none⟩, ⟨4, 3, .ro, 0, 0, .none⟩, ⟨7, 1, .ro, 0, 0, .none⟩]⟩,
  ⟨0x70040, [], true, [⟨0, 64, .ro, 0, 0, .none⟩]⟩,
  ⟨0x70048, [], false, [⟨0, 1, .w1c, 0, 0, .none⟩, ⟨1, 1, .w1c, 0, 0, .none⟩, ⟨2, 1, .w1c, 0, 0, .none⟩]⟩,
  ⟨0x7004c, [], false, [⟨0, 32, .rc, 0, 0, .none⟩]⟩,
  ⟨0x70050, [], false, [⟨0, 32, .ro, 0, 0, .warm⟩]⟩,
  ⟨0x70054, [], false, [⟨0, 32, .ro, 0, 0, .warm⟩]⟩,
  ⟨0x70058, [], false, [⟨0, 32, .ro, 0, 0, .warm⟩]⟩]

def rowsSec1 : List RegRow := [
  ⟨0x70100, [], false, [⟨0, 16, .rw, 0, 0, .none⟩, ⟨16, 16, .rw, 0, 0, .none⟩]⟩,
  ⟨0x70104, [], false, [⟨0, 1, .wo, 0, 0, .none⟩, ⟨1, 1, .ro, 0, 0, .none⟩, ⟨2, 1, .w1c, 0, 0, .none⟩, ⟨3, 1, .w1c, 0, 0, .none⟩, ⟨8, 4, .ro, 0, 0, .none⟩, ⟨16, 8, .rw, 0, 0, .warm⟩, ⟨24, 1, .rw, 0, 0, .warm⟩]⟩,
  ⟨0x70140, [(16, 0x4)], false, [⟨0, 32, .rw, 0, 0, .none⟩]⟩,
  ⟨0x70200, [(128, 0x4)], false, [⟨0, 32, .ro, 0, 0, .fused⟩]⟩,
  ⟨0x78000, [(256, 0x10)], true, [⟨0, 64, .rw, 0, 0, .none⟩]⟩,
  ⟨0x78008, [(256, 0x10)], false, [⟨0, 32, .rw, 0, 0, .none⟩]⟩,
  ⟨0x7800c, [(256, 0x10)], false, [⟨0, 1, .rw, 1, 0, .none⟩]⟩,
  ⟨0x79000, [(8, 0x4)], false, [⟨0, 32, .ro, 0, 0, .none⟩]⟩]

def rowsNet0 : List RegRow := [
  ⟨0x80000, [], false, [⟨0, 1, .wo, 0, 0, .none⟩, ⟨1, 1, .rw, 1, 0, .warm⟩]⟩,
  ⟨0x80004, [], false, [⟨0, 1, .w1c, 0, 0, .none⟩, ⟨1, 1, .w1c, 0, 0, .none⟩, ⟨2, 1, .w1c, 0, 0, .none⟩, ⟨3, 1, .w1c, 0, 0, .none⟩]⟩,
  ⟨0x80010, [], false, [⟨0, 32, .rw, 0x2000000, 0, .warm⟩]⟩,
  ⟨0x80014, [], false, [⟨0, 32, .ro, 0, 0, .none⟩]⟩,
  ⟨0x80018, [], true, [⟨0, 48, .ro, 0, 0, .warm⟩]⟩,
  ⟨0x80020, [], true, [⟨0, 48, .wo, 0, 0, .none⟩]⟩,
  ⟨0x80028, [], false, [⟨0, 32, .wo, 0, 0, .none⟩]⟩,
  ⟨0x80040, [], false, [⟨0, 1, .rw, 0, 0, .warm⟩, ⟨1, 1, .rw, 0, 0, .warm⟩, ⟨8, 5, .rw, 0x10, 0, .warm⟩, ⟨16, 8, .rw, 0x64, 0, .warm⟩]⟩,
  ⟨0x80048, [], true, [⟨0, 48, .rw, 0, 0, .warm⟩]⟩,
  ⟨0x80050, [], false, [⟨0, 32, .rw, 0, 0, .warm⟩]⟩,
  ⟨0x80054, [], false, [⟨0, 32, .rw, 0, 0, .warm⟩]⟩,
  ⟨0x80058, [], false, [⟨0, 32, .rw, 0, 0, .warm⟩]⟩,
  ⟨0x8005c, [], false, [⟨0, 32, .rw, 0, 0, .warm⟩]⟩,
  ⟨0x80060, [], false, [⟨0, 32, .rw, 0, 0, .warm⟩]⟩,
  ⟨0x80064, [], false, [⟨0, 32, .rw, 0, 0, .warm⟩]⟩,
  ⟨0x80068, [], false, [⟨0, 32, .rw, 0, 0, .warm⟩]⟩,
  ⟨0x8006c, [], false, [⟨0, 32, .rw, 0, 0, .warm⟩]⟩,
  ⟨0x80070, [], false, [⟨0, 16, .rw, 0xb9fc, 0, .warm⟩, ⟨16, 16, .rw, 0xb9fc, 0, .warm⟩]⟩,
  ⟨0x80074, [], false, [⟨0, 8, .rw, 0x40, 0, .warm⟩]⟩,
  ⟨0x80100, [(8, 0x20)], false, [⟨0, 1, .rw, 0, 0, .none⟩, ⟨1, 1, .rw, 0, 0, .none⟩, ⟨2, 1, .rw, 0, 0, .none⟩, ⟨8, 6, .rw, 0, 0, .none⟩]⟩]

def rowsNet1 : List RegRow := [
  ⟨0x80104, [(8, 0x20)], false, [⟨0, 1, .w1c, 0, 0, .none⟩, ⟨1, 1, .w1c, 0, 0, .none⟩, ⟨2, 1, .w1c, 0, 0, .none⟩, ⟨3, 1, .w1c, 0, 0, .none⟩]⟩,
  ⟨0x80108, [(8, 0x20)], true, [⟨0, 48, .rw, 0, 0, .none⟩]⟩,
  ⟨0x80110, [(8, 0x20)], false, [⟨0, 32, .rw, 0, 0, .none⟩]⟩,
  ⟨0x80114, [(8, 0x20)], false, [⟨0, 32, .rc, 0, 0, .none⟩]⟩,
  ⟨0x80118, [(8, 0x20)], true, [⟨0, 48, .ro, 0, 0, .none⟩]⟩,
  ⟨0x81000, [(2, 0x1000)], false, [⟨0, 1, .rw, 0, 0, .warm⟩, ⟨1, 2, .rw, 0, 0, .warm⟩, ⟨3, 2, .rw, 0, 0, .warm⟩, ⟨5, 1, .rw, 0, 0, .warm⟩, ⟨6, 1, .rw, 0, 0, .warm⟩, ⟨7, 1, .rw, 1, 0, .warm⟩, ⟨8, 1, .rw, 0, 0, .warm⟩, ⟨9, 1, .rw, 1, 0, .warm⟩, ⟨10, 1, .rw, 0, 0, .none⟩]⟩,
  ⟨0x81004, [(2, 0x1000)], false, [⟨0, 1, .ro, 0, 0, .none⟩, ⟨1, 1, .w1c, 0, 0, .none⟩, ⟨2, 1, .w1c, 0, 0, .none⟩, ⟨3, 1, .w1c, 0, 0, .none⟩, ⟨4, 1, .w1c, 0, 0, .none⟩]⟩,
  ⟨0x81008, [(2, 0x1000)], true, [⟨0, 48, .rw, 0, 0, .warm⟩]⟩,
  ⟨0x81010, [(2, 0x1000)], false, [⟨0, 16, .rw, 0, 0, .warm⟩, ⟨16, 16, .rw, 0, 0, .warm⟩]⟩,
  ⟨0x81018, [(2, 0x1000)], true, [⟨0, 44, .rw, 0, 0, .warm⟩]⟩,
  ⟨0x81020, [(2, 0x1000)], false, [⟨0, 16, .rw, 0, 0, .warm⟩]⟩,
  ⟨0x81024, [(2, 0x1000)], false, [⟨0, 16, .ro, 0, 0, .warm⟩]⟩,
  ⟨0x81028, [(2, 0x1000)], false, [⟨0, 16, .rw, 0, 0, .warm⟩]⟩,
  ⟨0x81030, [(2, 0x1000)], true, [⟨0, 44, .rw, 0, 0, .warm⟩]⟩,
  ⟨0x81038, [(2, 0x1000)], false, [⟨0, 16, .rw, 0, 0, .warm⟩, ⟨16, 4, .rw, 2, 0, .warm⟩]⟩,
  ⟨0x8103c, [(2, 0x1000)], false, [⟨0, 16, .ro, 0, 0, .warm⟩]⟩,
  ⟨0x81040, [(2, 0x1000)], false, [⟨0, 16, .rw, 0, 0, .warm⟩]⟩,
  ⟨0x81044, [(2, 0x1000)], false, [⟨0, 8, .rw, 0, 0, .warm⟩, ⟨8, 8, .rw, 0, 0, .warm⟩, ⟨16, 16, .rw, 0x14, 0, .warm⟩]⟩,
  ⟨0x81048, [(2, 0x1000)], true, [⟨0, 64, .rw, 0, 0, .warm⟩]⟩,
  ⟨0x81080, [(2, 0x1000)], false, [⟨0, 32, .rc, 0, 0, .none⟩]⟩]

def rowsNet2 : List RegRow := [
  ⟨0x81084, [(2, 0x1000)], false, [⟨0, 32, .rc, 0, 0, .none⟩]⟩,
  ⟨0x81088, [(2, 0x1000)], false, [⟨0, 32, .rc, 0, 0, .none⟩]⟩,
  ⟨0x8108c, [(2, 0x1000)], false, [⟨0, 32, .rc, 0, 0, .none⟩]⟩,
  ⟨0x81090, [(2, 0x1000)], false, [⟨0, 32, .rc, 0, 0, .none⟩]⟩,
  ⟨0x81094, [(2, 0x1000)], false, [⟨0, 32, .rc, 0, 0, .none⟩]⟩,
  ⟨0x81098, [(2, 0x1000)], false, [⟨0, 32, .rc, 0, 0, .none⟩]⟩,
  ⟨0x8109c, [(2, 0x1000)], false, [⟨0, 32, .rc, 0, 0, .none⟩]⟩]

def rowsChain0 : List RegRow := [
  ⟨0x90000, [], false, [⟨0, 1, .rw, 0, 0, .warm⟩, ⟨1, 1, .rw, 0, 0, .warm⟩, ⟨2, 1, .wo, 0, 0, .none⟩]⟩,
  ⟨0x90004, [], false, [⟨0, 12, .rw, 0xfff, 0, .warm⟩, ⟨16, 12, .rw, 0xfff, 0, .warm⟩]⟩,
  ⟨0x90008, [], false, [⟨0, 1, .ro, 0, 0, .none⟩, ⟨1, 1, .w1c, 0, 0, .none⟩, ⟨2, 2, .ro, 3, 0, .none⟩, ⟨4, 4, .ro, 0, 0, .none⟩, ⟨8, 1, .w1c, 0, 0, .none⟩, ⟨9, 1, .w1c, 0, 0, .none⟩, ⟨10, 1, .w1c, 0, 0, .none⟩, ⟨11, 1, .w1c, 0, 0, .none⟩]⟩,
  ⟨0x9000c, [], false, [⟨0, 12, .rw, 0x190, 0, .warm⟩, ⟨16, 8, .rw, 0x64, 0, .warm⟩]⟩,
  ⟨0x90010, [], false, [⟨0, 8, .rw, 0x32, 0, .warm⟩, ⟨8, 16, .rw, 0x1f4, 0, .warm⟩]⟩,
  ⟨0x90014, [], false, [⟨0, 20, .rw, 0x800, 0, .warm⟩]⟩,
  ⟨0x90018, [], false, [⟨0, 20, .rw, 0x400, 0, .warm⟩]⟩,
  ⟨0x9001c, [], false, [⟨0, 32, .ro, 0, 0, .warm⟩]⟩,
  ⟨0x90020, [], true, [⟨0, 64, .rw, 0, 0, .warm⟩]⟩,
  ⟨0x90028, [], true, [⟨0, 64, .ro, 0, 0, .none⟩]⟩,
  ⟨0x90030, [], false, [⟨0, 4, .ro, 0, 0, .none⟩, ⟨4, 3, .ro, 0, 0, .none⟩, ⟨16, 12, .ro, 0xfff, 0, .none⟩]⟩,
  ⟨0x90034, [], false, [⟨0, 8, .rw, 0, 0, .warm⟩]⟩,
  ⟨0x90038, [], false, [⟨0, 20, .ro, 0, 0, .none⟩]⟩,
  ⟨0x9003c, [], false, [⟨0, 18, .ro, 0, 0, .none⟩]⟩,
  ⟨0x90040, [], true, [⟨0, 48, .ro, 0, 0, .none⟩]⟩,
  ⟨0x90048, [], true, [⟨0, 48, .ro, 0, 0, .none⟩]⟩,
  ⟨0x90050, [], true, [⟨0, 64, .rw, 0, 0, .warm⟩]⟩,
  ⟨0x90058, [], false, [⟨0, 1, .rw, 0, 0, .warm⟩, ⟨16, 12, .rw, 0xfff, 0, .warm⟩]⟩,
  ⟨0x90060, [], true, [⟨0, 64, .ro, 0, 0, .none⟩]⟩,
  ⟨0x90068, [], false, [⟨0, 32, .rc, 0, 0, .none⟩]⟩]

def rowsChain1 : List RegRow := [
  ⟨0x9006c, [], false, [⟨0, 32, .ro, 0, 0, .none⟩]⟩,
  ⟨0x90100, [(3, 0x20)], false, [⟨0, 3, .ro, 0, 0, .none⟩, ⟨16, 12, .ro, 0xfff, 0, .none⟩]⟩,
  ⟨0x90104, [(3, 0x20)], false, [⟨0, 20, .ro, 0, 0, .none⟩]⟩,
  ⟨0x90108, [(3, 0x20)], false, [⟨0, 20, .ro, 0, 0, .none⟩]⟩,
  ⟨0x9010c, [(3, 0x20)], false, [⟨0, 12, .ro, 0, 0, .none⟩]⟩,
  ⟨0x90110, [(3, 0x20)], false, [⟨0, 32, .rc, 0, 0, .none⟩]⟩,
  ⟨0x90400, [(128, 0x4)], false, [⟨0, 32, .ro, 0, 0, .none⟩]⟩]

def rowsDramc0 : List RegRow := [
  ⟨0xa0000, [], false, [⟨0, 1, .rw, 1, 0, .pin⟩, ⟨1, 2, .rw, 0, 0, .pin⟩, ⟨3, 2, .rw, 1, 0, .pin⟩, ⟨5, 2, .rw, 2, 0, .pin⟩, ⟨7, 1, .rw, 0, 0, .pin⟩, ⟨8, 1, .rw, 0, 0, .pin⟩, ⟨9, 1, .rw, 0, 0, .pin⟩, ⟨10, 1, .rw, 1, 0, .pin⟩, ⟨11, 1, .rw, 0, 0, .pin⟩]⟩,
  ⟨0xa0004, [], false, [⟨0, 2, .ro, 0, 0, .warm⟩, ⟨2, 1, .ro, 0, 0, .warm⟩, ⟨3, 1, .w1c, 0, 0, .warm⟩, ⟨4, 1, .w1c, 0, 0, .warm⟩, ⟨5, 1, .w1c, 0, 0, .warm⟩, ⟨6, 1, .w1c, 0, 0, .warm⟩, ⟨7, 1, .w1c, 0, 0, .warm⟩, ⟨8, 1, .w1c, 0, 0, .warm⟩, ⟨9, 1, .w1c, 0, 0, .warm⟩, ⟨10, 1, .ro, 0, 0, .pin⟩]⟩,
  ⟨0xa0008, [], true, [⟨0, 64, .ro, 0, 0, .pin⟩]⟩,
  ⟨0xa0010, [], false, [⟨0, 1, .wo, 0, 0, .none⟩, ⟨1, 1, .wo, 0, 0, .none⟩, ⟨2, 1, .rw, 1, 0, .pin⟩]⟩,
  ⟨0xa0014, [], false, [⟨0, 16, .rw, 0x3e8, 0, .pin⟩]⟩,
  ⟨0xa0018, [], false, [⟨0, 7, .rw, 0x2d, 0, .warm⟩, ⟨8, 7, .rw, 0xa, 0, .warm⟩, ⟨16, 7, .rw, 0xa, 0, .warm⟩, ⟨24, 7, .rw, 5, 0, .warm⟩]⟩,
  ⟨0xa001c, [], false, [⟨0, 7, .rw, 5, 0, .warm⟩, ⟨8, 7, .rw, 0x19, 0, .warm⟩]⟩,
  ⟨0xa0020, [], false, [⟨0, 8, .rw, 0x18, 0, .pin⟩, ⟨8, 1, .rw, 1, 0, .pin⟩]⟩,
  ⟨0xa0028, [], true, [⟨0, 64, .ro, 0, 0, .warm⟩]⟩,
  ⟨0xa0040, [], false, [⟨0, 1, .wo, 0, 0, .none⟩, ⟨1, 3, .rw, 0, 0, .warm⟩, ⟨4, 2, .rw, 0, 0, .warm⟩, ⟨8, 1, .ro, 0, 0, .warm⟩]⟩,
  ⟨0xa0048, [], true, [⟨0, 64, .ro, 0, 0, .warm⟩]⟩,
  ⟨0xa0050, [], false, [⟨0, 32, .rc, 0, 0, .warm⟩]⟩,
  ⟨0xa0054, [], true, [⟨0, 64, .ro, 0, 0, .warm⟩]⟩,
  ⟨0xa005c, [], false, [⟨0, 3, .ro, 0, 0, .warm⟩, ⟨4, 2, .ro, 0, 0, .warm⟩, ⟨8, 2, .ro, 0, 0, .warm⟩, ⟨12, 3, .ro, 0, 0, .warm⟩, ⟨16, 14, .ro, 0, 0, .warm⟩]⟩,
  ⟨0xa0100, [], true, [⟨0, 64, .rw, 0, 0, .warm⟩]⟩,
  ⟨0xa0108, [], false, [⟨0, 24, .rw, 0, 0, .warm⟩, ⟨24, 2, .rw, 0, 0, .warm⟩, ⟨31, 1, .rw, 0, 0, .warm⟩]⟩,
  ⟨0xa010c, [], false, [⟨0, 32, .ro, 0x84080, 0, .warm⟩]⟩,
  ⟨0xa0110, [], true, [⟨0, 64, .ro, 0xffffffffffffffff, 0, .warm⟩]⟩,
  ⟨0xa0118, [], false, [⟨0, 32, .rc, 0, 0, .warm⟩]⟩,
  ⟨0xa0120, [], true, [⟨0, 64, .rw, 0, 0, .warm⟩]⟩]

def rowsDramc1 : List RegRow := [
  ⟨0xa0128, [], true, [⟨0, 64, .rw, 0, 0, .warm⟩]⟩,
  ⟨0xa0130, [], false, [⟨0, 1, .wo, 0, 0, .none⟩, ⟨1, 1, .ro, 0, 0, .warm⟩, ⟨8, 24, .rw, 0, 0, .warm⟩]⟩,
  ⟨0xa0134, [], false, [⟨0, 32, .rc, 0, 0, .warm⟩]⟩,
  ⟨0xa1000, [(8, 0x1000)], false, [⟨0, 4, .ro, 0, 0, .pin⟩, ⟨4, 4, .ro, 0, 0, .pin⟩, ⟨8, 4, .ro, 0, 0, .pin⟩, ⟨12, 4, .ro, 0, 0, .pin⟩]⟩,
  ⟨0xa1004, [(8, 0x1000)], false, [⟨0, 2, .rw, 0, 0, .pin⟩, ⟨2, 2, .rw, 1, 0, .pin⟩, ⟨4, 2, .rw, 2, 0, .pin⟩, ⟨6, 2, .rw, 3, 0, .pin⟩]⟩,
  ⟨0xa1008, [(8, 0x1000)], false, [⟨0, 4, .rw, 0, 0, .pin⟩]⟩,
  ⟨0xa100c, [(8, 0x1000)], false, [⟨0, 16, .rw, 0x400, 0, .pin⟩]⟩,
  ⟨0xa1010, [(8, 0x1000), (4, 0x4)], false, [⟨0, 32, .rc, 0, 0, .warm⟩]⟩,
  ⟨0xa1020, [(8, 0x1000), (4, 0x4)], false, [⟨0, 32, .rc, 0, 0, .warm⟩]⟩,
  ⟨0xa1040, [(8, 0x1000)], false, [⟨0, 4, .rw, 0, 0, .warm⟩, ⟨4, 2, .rw, 0, 0, .warm⟩, ⟨6, 2, .rw, 0, 0, .warm⟩, ⟨8, 16, .rw, 1, 0, .warm⟩, ⟨30, 1, .ro, 0, 0, .warm⟩, ⟨31, 1, .wo, 0, 0, .none⟩]⟩,
  ⟨0xa1044, [(8, 0x1000)], false, [⟨0, 32, .rw, 0, 0, .warm⟩]⟩,
  ⟨0xa1048, [(8, 0x1000)], false, [⟨0, 32, .ro, 0, 0, .warm⟩]⟩,
  ⟨0xa104c, [(8, 0x1000)], false, [⟨0, 32, .w1c, 0, 0, .warm⟩]⟩,
  ⟨0xa1050, [(8, 0x1000)], false, [⟨0, 32, .w1c, 0, 0, .warm⟩]⟩,
  ⟨0xa1054, [(8, 0x1000)], false, [⟨0, 16, .w1c, 0, 0, .warm⟩]⟩,
  ⟨0xa1058, [(8, 0x1000)], false, [⟨0, 32, .rc, 0, 0, .warm⟩]⟩,
  ⟨0xa105c, [(8, 0x1000)], false, [⟨0, 32, .rw, 0, 0, .warm⟩]⟩,
  ⟨0xa1060, [(8, 0x1000)], false, [⟨0, 32, .rw, 0, 0, .warm⟩]⟩,
  ⟨0xa1064, [(8, 0x1000)], false, [⟨0, 16, .rw, 0, 0, .warm⟩]⟩,
  ⟨0xa1400, [(8, 0x1000), (80, 0x4)], false, [⟨0, 8, .rw, 0, 0, .pin⟩, ⟨8, 8, .rw, 0, 0, .pin⟩, ⟨16, 7, .rw, 0x40, 0, .pin⟩, ⟨24, 8, .rw, 0, 0, .pin⟩]⟩]

def rowsProfile0 : List RegRow := [
  ⟨0xc0000, [], false, [⟨0, 1, .wo, 0, 0, .none⟩]⟩,
  ⟨0xc0004, [], false, [⟨0, 16, .wo, 0, 0, .none⟩]⟩,
  ⟨0xc0008, [], false, [⟨0, 1, .w1c, 0, 0, .none⟩, ⟨1, 1, .w1c, 0, 0, .none⟩]⟩,
  ⟨0xc0040, [(16, 0x8)], true, [⟨0, 64, .wo, 0, 0, .none⟩]⟩,
  ⟨0xc00c0, [(16, 0x4)], false, [⟨0, 32, .ro, 0, 0, .none⟩]⟩,
  ⟨0xc0100, [(4, 0x20)], true, [⟨0, 64, .rw, 0, 0, .warm⟩]⟩,
  ⟨0xc0108, [(4, 0x20)], false, [⟨0, 16, .rw, 0, 0, .warm⟩, ⟨16, 16, .ro, 0, 0, .none⟩]⟩,
  ⟨0xc010c, [(4, 0x20)], false, [⟨0, 16, .rw, 0, 0, .none⟩]⟩,
  ⟨0xc0110, [(4, 0x20)], false, [⟨0, 32, .rc, 0, 0, .none⟩]⟩,
  ⟨0xc0200, [(4, 0x40)], false, [⟨0, 4, .rw, 2, 0, .warm⟩]⟩,
  ⟨0xc0204, [(4, 0x40), (8, 0x4)], false, [⟨0, 24, .rw, 0, 0, .warm⟩]⟩,
  ⟨0xc1000, [(16, 0x100), (64, 0x4)], false, [⟨0, 24, .rw, 0, 0, .warm⟩]⟩,
  ⟨0xc8000, [(256, 0x80)], false, [⟨0, 1, .rw, 0, 0, .none⟩, ⟨1, 3, .rw, 0, 0, .warm⟩, ⟨4, 2, .rw, 0, 0, .warm⟩, ⟨6, 4, .rw, 0, 0, .warm⟩, ⟨10, 2, .rw, 0, 0, .warm⟩, ⟨12, 1, .rw, 0, 0, .warm⟩, ⟨13, 1, .rw, 0, 0, .warm⟩, ⟨14, 1, .rw, 0, 0, .warm⟩]⟩,
  ⟨0xc8004, [(256, 0x80)], false, [⟨0, 18, .rw, 0, 0, .warm⟩]⟩,
  ⟨0xc8008, [(256, 0x80)], false, [⟨0, 18, .rw, 0, 0, .warm⟩]⟩,
  ⟨0xc800c, [(256, 0x80)], false, [⟨0, 3, .rw, 1, 0, .warm⟩, ⟨4, 13, .rw, 1, 0, .warm⟩]⟩,
  ⟨0xc8010, [(256, 0x80)], false, [⟨0, 24, .rw, 0x800000, 0, .warm⟩, ⟨24, 7, .rw, 0x17, 0, .warm⟩]⟩,
  ⟨0xc8014, [(256, 0x80)], false, [⟨0, 2, .rw, 0, 0, .warm⟩, ⟨2, 2, .rw, 0, 0, .warm⟩, ⟨4, 2, .rw, 0, 0, .warm⟩, ⟨6, 2, .rw, 0, 0, .warm⟩]⟩,
  ⟨0xc8018, [(256, 0x80)], false, [⟨0, 8, .rw, 1, 0, .warm⟩, ⟨8, 4, .rw, 0, 0, .warm⟩, ⟨12, 5, .rw, 1, 0, .warm⟩, ⟨17, 1, .rw, 0, 0, .warm⟩]⟩,
  ⟨0xc801c, [(256, 0x80)], false, [⟨0, 32, .ro, 0, 0, .none⟩]⟩]

def rowsProfile1 : List RegRow := [
  ⟨0xc8020, [(256, 0x80)], false, [⟨0, 16, .ro, 0, 0, .none⟩]⟩,
  ⟨0xc8024, [(256, 0x80)], false, [⟨0, 1, .ro, 0, 0, .none⟩, ⟨1, 1, .w1c, 0, 0, .none⟩, ⟨2, 5, .ro, 0, 0, .none⟩, ⟨7, 1, .w1c, 0, 0, .none⟩, ⟨8, 1, .w1c, 0, 0, .none⟩, ⟨9, 1, .w1c, 0, 0, .none⟩, ⟨10, 1, .w1c, 0, 0, .none⟩, ⟨11, 1, .ro, 0, 0, .none⟩]⟩,
  ⟨0xc8028, [(256, 0x80)], false, [⟨0, 32, .ro, 0, 0, .none⟩]⟩,
  ⟨0xc8030, [(256, 0x80)], true, [⟨0, 64, .ro, 0, 0, .none⟩]⟩,
  ⟨0xc8038, [(256, 0x80)], false, [⟨0, 32, .ro, 0, 0, .none⟩]⟩,
  ⟨0xc803c, [(256, 0x80)], false, [⟨0, 16, .rw, 0, 0, .warm⟩, ⟨16, 4, .rw, 0, 0, .warm⟩, ⟨20, 4, .rw, 8, 0, .warm⟩, ⟨24, 1, .wo, 0, 0, .none⟩]⟩,
  ⟨0xc8040, [(256, 0x80)], false, [⟨0, 32, .rw, 0x7fffffff, 0, .warm⟩]⟩,
  ⟨0xc8044, [(256, 0x80)], false, [⟨0, 32, .rw, 0x80000000, 0, .warm⟩]⟩,
  ⟨0xc8048, [(256, 0x80)], false, [⟨0, 32, .ro, 0, 0, .none⟩]⟩,
  ⟨0xc804c, [(256, 0x80)], false, [⟨0, 32, .ro, 0, 0, .none⟩]⟩,
  ⟨0xc8050, [(256, 0x80)], false, [⟨0, 32, .ro, 0, 0, .none⟩]⟩,
  ⟨0xc8054, [(256, 0x80)], false, [⟨0, 32, .ro, 0, 0, .none⟩]⟩,
  ⟨0xc8058, [(256, 0x80)], false, [⟨0, 32, .ro, 0, 0, .none⟩]⟩,
  ⟨0xc805c, [(256, 0x80)], false, [⟨0, 32, .rc, 0, 0, .none⟩]⟩]

def rowsSensor : List RegRow := [
  ⟨0xd0000, [], false, [⟨0, 1, .rw, 0, 0, .none⟩, ⟨1, 1, .rw, 0, 0, .none⟩, ⟨2, 1, .rw, 0, 0, .warm⟩, ⟨3, 1, .rw, 0, 0, .warm⟩, ⟨4, 5, .rw, 0x10, 0, .warm⟩, ⟨9, 1, .wo, 0, 0, .none⟩, ⟨16, 8, .rw, 0, 0, .warm⟩]⟩,
  ⟨0xd0004, [], false, [⟨0, 11, .rw, 3, 0, .warm⟩, ⟨16, 16, .rw, 0x118, 0, .warm⟩]⟩,
  ⟨0xd0008, [], false, [⟨0, 24, .rw, 0, 0, .warm⟩]⟩,
  ⟨0xd000c, [], false, [⟨0, 1, .ro, 0, 0, .none⟩, ⟨1, 1, .w1c, 0, 0, .none⟩, ⟨2, 1, .w1c, 0, 0, .none⟩]⟩,
  ⟨0xd0010, [], false, [⟨0, 32, .rc, 0, 0, .none⟩]⟩,
  ⟨0xd0018, [], true, [⟨0, 64, .ro, 0, 0, .none⟩]⟩,
  ⟨0xd0020, [], true, [⟨0, 64, .ro, 0, 0, .none⟩]⟩,
  ⟨0xd0028, [], false, [⟨0, 32, .ro, 0, 0, .none⟩]⟩,
  ⟨0xd0040, [(8, 0x4)], false, [⟨0, 32, .ro, 0, 0, .none⟩]⟩]

def rowsZl0 : List RegRow := [
  ⟨0x100000, [(12, 0x10000)], false, [⟨0, 1, .rw, 0, 0, .warm⟩, ⟨1, 2, .rw, 0, 0, .warm⟩, ⟨3, 2, .rw, 0, 0, .warm⟩, ⟨5, 1, .rw, 1, 0, .warm⟩, ⟨6, 1, .rw, 0, 0, .warm⟩, ⟨7, 1, .rw, 0, 0, .warm⟩, ⟨8, 1, .rw, 1, 0, .warm⟩, ⟨9, 2, .rw, 0, 0, .none⟩, ⟨11, 1, .rw, 1, 0, .warm⟩, ⟨12, 1, .rw, 0, 0, .none⟩, ⟨13, 1, .wo, 0, 0, .none⟩, ⟨14, 1, .wo, 0, 0, .none⟩]⟩,
  ⟨0x100004, [(15, 0x10000)], false, [⟨0, 1, .ro, 0, 0, .none⟩, ⟨1, 1, .ro, 0, 0, .none⟩, ⟨2, 1, .ro, 0, 0, .none⟩, ⟨3, 1, .ro, 0, 0, .none⟩, ⟨4, 1, .ro, 1, 0, .none⟩, ⟨5, 1, .ro, 1, 0, .none⟩, ⟨6, 1, .ro, 0, 0, .none⟩, ⟨7, 1, .ro, 0, 0, .none⟩, ⟨16, 1, .w1c, 0, 0, .none⟩, ⟨17, 1, .w1c, 0, 0, .none⟩, ⟨18, 1, .w1c, 0, 0, .none⟩, ⟨19, 1, .w1c, 0, 0, .none⟩, ⟨20, 1, .w1c, 0, 0, .none⟩, ⟨21, 1, .w1c, 0, 0, .none⟩, ⟨22, 1, .w1c, 0, 0, .none⟩, ⟨23, 1, .w1c, 0, 0, .none⟩, ⟨24, 1, .w1c, 0, 0, .none⟩, ⟨25, 1, .w1c, 0, 0, .none⟩, ⟨26, 1, .w1c, 0, 0, .none⟩, ⟨27, 1, .w1c, 0, 0, .none⟩]⟩,
  ⟨0x100008, [(12, 0x10000)], false, [⟨0, 20, .ro, 0xf3210, 0, .none⟩]⟩,
  ⟨0x10000c, [(12, 0x10000)], false, [⟨0, 20, .ro, 0xf3210, 0, .none⟩]⟩,
  ⟨0x100010, [(15, 0x10000)], false, [⟨0, 2, .rw, 0, 0, .none⟩, ⟨2, 1, .rw, 0, 0, .none⟩, ⟨3, 1, .rw, 0, 0, .none⟩, ⟨4, 1, .rw, 0, 0, .none⟩, ⟨31, 1, .wo, 0, 0, .none⟩]⟩,
  ⟨0x100014, [(15, 0x10000)], false, [⟨0, 16, .rw, 0x10, 0, .warm⟩]⟩,
  ⟨0x100020, [(15, 0x10000)], false, [⟨0, 32, .rc, 0, 0, .none⟩]⟩,
  ⟨0x100024, [(15, 0x10000)], false, [⟨0, 32, .rc, 0, 0, .none⟩]⟩,
  ⟨0x100028, [(15, 0x10000)], false, [⟨0, 32, .rc, 0, 0, .none⟩]⟩,
  ⟨0x10002c, [(15, 0x10000)], false, [⟨0, 32, .rc, 0, 0, .none⟩]⟩,
  ⟨0x100030, [(15, 0x10000)], false, [⟨0, 32, .rc, 0, 0, .none⟩]⟩,
  ⟨0x100034, [(15, 0x10000)], false, [⟨0, 32, .rc, 0, 0, .none⟩]⟩,
  ⟨0x100038, [(15, 0x10000)], false, [⟨0, 32, .rc, 0, 0, .none⟩]⟩,
  ⟨0x10003c, [(15, 0x10000)], false, [⟨0, 32, .rc, 0, 0, .none⟩]⟩,
  ⟨0x100040, [(15, 0x10000), (2, 0x10)], false, [⟨0, 20, .rw, 0x6d60, 0, .warm⟩]⟩,
  ⟨0x100044, [(15, 0x10000), (2, 0x10)], false, [⟨0, 20, .ro, 0, 0, .none⟩]⟩,
  ⟨0x100048, [(15, 0x10000), (2, 0x10)], false, [⟨0, 20, .ro, 0, 0, .none⟩]⟩,
  ⟨0x10004c, [(15, 0x10000), (2, 0x10)], false, [⟨0, 20, .ro, 0, 0, .none⟩]⟩,
  ⟨0x100060, [(15, 0x10000)], false, [⟨0, 1, .wo, 0, 0, .none⟩, ⟨1, 1, .ro, 0, 0, .none⟩, ⟨2, 1, .w1c, 0, 0, .none⟩, ⟨8, 8, .rw, 0x40, 0, .warm⟩]⟩,
  ⟨0x100064, [(15, 0x10000)], false, [⟨0, 8, .rw, 0xa, 0, .warm⟩, ⟨8, 8, .rw, 0x32, 0, .warm⟩, ⟨16, 8, .rw, 0x14, 0, .warm⟩]⟩]

def rowsZl1 : List RegRow := [
  ⟨0x100068, [(15, 0x10000)], false, [⟨0, 16, .ro, 0, 0, .none⟩, ⟨16, 16, .ro, 0, 0, .none⟩]⟩,
  ⟨0x100100, [(15, 0x10000), (5, 0x40)], false, [⟨0, 1, .ro, 0, 0, .none⟩, ⟨1, 1, .ro, 0, 0, .none⟩, ⟨2, 4, .ro, 0xf, 0, .none⟩, ⟨6, 1, .ro, 0, 0, .none⟩, ⟨7, 1, .w1c, 0, 0, .none⟩, ⟨8, 1, .ro, 0, 0, .none⟩, ⟨16, 8, .ro, 0, 0, .none⟩]⟩,
  ⟨0x100104, [(15, 0x10000), (5, 0x40)], false, [⟨0, 5, .rw, 0x10, 0, .warm⟩]⟩,
  ⟨0x100108, [(15, 0x10000), (5, 0x40)], false, [⟨0, 5, .rw, 0xe, 0, .warm⟩, ⟨5, 1, .rw, 0, 0, .none⟩]⟩,
  ⟨0x10010c, [(15, 0x10000), (5, 0x40)], false, [⟨0, 32, .rw, 0, 0, .warm⟩]⟩,
  ⟨0x100110, [(15, 0x10000), (5, 0x40)], false, [⟨0, 32, .rw, 0, 0, .warm⟩]⟩,
  ⟨0x100114, [(15, 0x10000), (5, 0x40)], false, [⟨0, 32, .rw, 0, 0, .warm⟩]⟩,
  ⟨0x100118, [(15, 0x10000), (5, 0x40)], false, [⟨0, 4, .rw, 2, 0, .warm⟩, ⟨4, 5, .rw, 8, 0, .warm⟩, ⟨12, 4, .rw, 6, 0, .warm⟩]⟩,
  ⟨0x10011c, [(15, 0x10000), (5, 0x40)], false, [⟨0, 8, .ro, 0, 0, .none⟩, ⟨8, 8, .ro, 0, 0, .none⟩]⟩,
  ⟨0x100120, [(15, 0x10000), (5, 0x40)], false, [⟨0, 16, .rc, 0, 0, .none⟩, ⟨16, 16, .rc, 0, 0, .none⟩]⟩,
  ⟨0x100124, [(15, 0x10000), (5, 0x40)], false, [⟨0, 32, .ro, 0, 0, .none⟩]⟩,
  ⟨0x1c0000, [(3, 0x10000)], false, [⟨0, 1, .rw, 0, 0, .warm⟩, ⟨1, 2, .rw, 2, 0, .warm⟩, ⟨3, 2, .rw, 0, 0, .warm⟩, ⟨5, 1, .rw, 1, 0, .warm⟩, ⟨6, 1, .rw, 0, 0, .warm⟩, ⟨7, 1, .rw, 0, 0, .warm⟩, ⟨8, 1, .rw, 1, 0, .warm⟩, ⟨9, 2, .rw, 0, 0, .none⟩, ⟨11, 1, .rw, 1, 0, .warm⟩, ⟨12, 1, .rw, 0, 0, .none⟩, ⟨13, 1, .wo, 0, 0, .none⟩, ⟨14, 1, .wo, 0, 0, .none⟩]⟩,
  ⟨0x1c0008, [(3, 0x10000)], false, [⟨0, 20, .ro, 0xf10, 0, .none⟩]⟩,
  ⟨0x1c000c, [(3, 0x10000)], false, [⟨0, 20, .ro, 0xf10, 0, .none⟩]⟩]

def rowsPipe0 : List RegRow := [
  ⟨0x200000, [(12, 0x10000)], false, [⟨0, 1, .rw, 0, 0, .warm⟩, ⟨1, 4, .rw, 0, 1, .warm⟩, ⟨5, 1, .wo, 0, 0, .none⟩]⟩,
  ⟨0x200004, [(12, 0x10000)], false, [⟨0, 2, .ro, 0, 0, .warm⟩, ⟨2, 1, .w1c, 0, 0, .none⟩, ⟨3, 1, .w1c, 0, 0, .none⟩, ⟨4, 1, .w1c, 0, 0, .none⟩, ⟨8, 4, .ro, 0xf, 0, .warm⟩]⟩,
  ⟨0x200100, [(13, 0x10000), (2, 0x200)], false, [⟨0, 15, .sh, 0x4000, 0, .warm⟩, ⟨16, 2, .sh, 2, 0, .warm⟩, ⟨18, 1, .sh, 0, 0, .warm⟩, ⟨19, 1, .sh, 0, 0, .warm⟩, ⟨20, 2, .sh, 0, 0, .warm⟩, ⟨22, 1, .sh, 0, 0, .warm⟩, ⟨24, 4, .sh, 0, 0, .warm⟩]⟩,
  ⟨0x200104, [(13, 0x10000), (2, 0x200)], false, [⟨0, 1, .wo, 0, 0, .none⟩, ⟨1, 1, .wo, 0, 0, .none⟩]⟩,
  ⟨0x200108, [(13, 0x10000), (2, 0x200)], false, [⟨0, 1, .ro, 0, 0, .none⟩, ⟨1, 1, .ro, 0, 0, .none⟩, ⟨2, 1, .ro, 0, 0, .none⟩, ⟨3, 1, .w1c, 0, 0, .none⟩, ⟨4, 2, .ro, 0, 0, .none⟩, ⟨6, 1, .w1c, 0, 0, .none⟩, ⟨7, 1, .w1c, 0, 0, .none⟩, ⟨8, 1, .w1c, 0, 0, .none⟩, ⟨9, 1, .w1c, 0, 0, .none⟩, ⟨10, 1, .w1c, 0, 0, .none⟩, ⟨11, 1, .w1c, 0, 0, .none⟩, ⟨12, 1, .w1c, 0, 0, .none⟩, ⟨13, 2, .ro, 0, 0, .none⟩]⟩,
  ⟨0x20010c, [(13, 0x10000), (2, 0x200)], false, [⟨0, 4, .sh, 0, 0, .warm⟩]⟩,
  ⟨0x200110, [(13, 0x10000), (2, 0x200)], false, [⟨0, 16, .sh, 0x800, 0, .warm⟩, ⟨16, 16, .sh, 0xe000, 0, .warm⟩]⟩,
  ⟨0x200114, [(13, 0x10000), (2, 0x200)], false, [⟨0, 4, .sh, 0xc, 0, .warm⟩, ⟨4, 3, .sh, 0, 0, .warm⟩]⟩,
  ⟨0x200118, [(13, 0x10000), (2, 0x200)], true, [⟨0, 64, .sh, 0, 0, .warm⟩]⟩,
  ⟨0x200120, [(13, 0x10000), (2, 0x200)], false, [⟨0, 16, .sh, 0x1000, 0, .warm⟩, ⟨16, 16, .sh, 0, 0, .warm⟩]⟩,
  ⟨0x200124, [(13, 0x10000), (2, 0x200)], false, [⟨0, 16, .sh, 0, 0, .warm⟩, ⟨16, 16, .sh, 0, 0, .warm⟩]⟩,
  ⟨0x200128, [(13, 0x10000), (2, 0x200)], false, [⟨0, 16, .sh, 0x1000, 0, .warm⟩, ⟨16, 16, .sh, 0, 0, .warm⟩]⟩,
  ⟨0x20012c, [(13, 0x10000), (2, 0x200)], false, [⟨0, 16, .sh, 0, 0, .warm⟩, ⟨16, 16, .sh, 0, 0, .warm⟩]⟩,
  ⟨0x200130, [(13, 0x10000), (2, 0x200)], false, [⟨0, 16, .sh, 0x1000, 0, .warm⟩]⟩,
  ⟨0x200134, [(13, 0x10000), (2, 0x200)], false, [⟨0, 16, .sh, 0, 0, .warm⟩, ⟨16, 16, .sh, 0, 0, .warm⟩]⟩,
  ⟨0x200138, [(13, 0x10000), (2, 0x200)], false, [⟨0, 16, .sh, 0, 0, .warm⟩]⟩,
  ⟨0x200140, [(13, 0x10000), (2, 0x200)], false, [⟨0, 14, .sh, 0, 0, .warm⟩, ⟨16, 14, .sh, 0x3fff, 0, .warm⟩]⟩,
  ⟨0x200144, [(13, 0x10000), (2, 0x200)], false, [⟨0, 16, .rw, 0x32, 0, .warm⟩]⟩,
  ⟨0x200148, [(13, 0x10000), (2, 0x200)], true, [⟨0, 64, .ro, 0, 0, .none⟩]⟩,
  ⟨0x200150, [(13, 0x10000), (2, 0x200)], false, [⟨0, 4, .ro, 0, 0, .none⟩, ⟨16, 16, .ro, 0, 0, .none⟩]⟩]

def rowsPipe1 : List RegRow := [
  ⟨0x200158, [(13, 0x10000), (2, 0x200)], true, [⟨0, 64, .ro, 0xffffffffffffffff, 0, .warm⟩]⟩,
  ⟨0x200160, [(13, 0x10000), (2, 0x200)], false, [⟨0, 32, .rc, 0, 0, .none⟩]⟩,
  ⟨0x200164, [(13, 0x10000), (2, 0x200)], false, [⟨0, 32, .rc, 0, 0, .none⟩]⟩,
  ⟨0x200170, [(13, 0x10000), (2, 0x200)], true, [⟨0, 64, .rw, 0, 0, .warm⟩]⟩,
  ⟨0x200178, [(13, 0x10000), (2, 0x200)], false, [⟨0, 9, .rw, 0, 0, .warm⟩, ⟨16, 9, .ro, 0, 0, .none⟩]⟩,
  ⟨0x20017c, [(13, 0x10000), (2, 0x200)], false, [⟨0, 9, .rw, 0, 0, .none⟩]⟩,
  ⟨0x200180, [(13, 0x10000), (2, 0x200)], false, [⟨0, 32, .rc, 0, 0, .none⟩]⟩,
  ⟨0x2001c0, [(13, 0x10000), (2, 0x200)], false, [⟨0, 16, .rw, 0, 0, .none⟩, ⟨16, 16, .rw, 0, 0, .none⟩]⟩,
  ⟨0x2001c4, [(13, 0x10000), (2, 0x200)], false, [⟨0, 32, .rw, 0, 0, .none⟩]⟩,
  ⟨0x2001c8, [(13, 0x10000), (2, 0x200)], false, [⟨0, 4, .rw, 0, 0, .none⟩, ⟨8, 1, .wo, 0, 0, .none⟩, ⟨9, 1, .ro, 0, 0, .none⟩, ⟨10, 1, .w1c, 0, 0, .none⟩, ⟨11, 1, .w1c, 0, 0, .none⟩, ⟨16, 8, .ro, 0, 0, .none⟩, ⟨24, 4, .ro, 0, 0, .none⟩]⟩,
  ⟨0x2001cc, [(13, 0x10000), (2, 0x200)], false, [⟨0, 16, .ro, 0, 0, .none⟩]⟩,
  ⟨0x2001d0, [(13, 0x10000), (2, 0x200)], false, [⟨0, 32, .ro, 0, 0, .none⟩]⟩,
  ⟨0x2001e0, [(13, 0x10000), (2, 0x200), (8, 0x8)], true, [⟨0, 64, .rw, 0, 0, .none⟩]⟩,
  ⟨0x2c0000, [(1, 0x10000)], false, [⟨0, 1, .rw, 0, 0, .warm⟩, ⟨1, 4, .rw, 0xf, 0, .warm⟩, ⟨5, 1, .wo, 0, 0, .none⟩]⟩,
  ⟨0x2c0004, [(1, 0x10000)], false, [⟨0, 2, .ro, 3, 0, .warm⟩, ⟨2, 1, .w1c, 0, 0, .none⟩, ⟨3, 1, .w1c, 0, 0, .none⟩, ⟨4, 1, .w1c, 0, 0, .none⟩, ⟨8, 4, .ro, 0xf, 0, .warm⟩]⟩]

def rowsStitch0 : List RegRow := [
  ⟨0x300000, [], false, [⟨0, 1, .rw, 0, 0, .none⟩, ⟨1, 1, .wo, 0, 0, .none⟩]⟩,
  ⟨0x300004, [], false, [⟨0, 1, .ro, 0, 0, .none⟩, ⟨1, 1, .ro, 0, 0, .none⟩, ⟨2, 1, .w1c, 0, 0, .none⟩, ⟨3, 2, .ro, 0, 0, .none⟩, ⟨5, 1, .w1c, 0, 0, .none⟩, ⟨6, 1, .w1c, 0, 0, .none⟩, ⟨7, 1, .w1c, 0, 0, .none⟩, ⟨8, 1, .w1c, 0, 0, .none⟩, ⟨9, 1, .ro, 0, 0, .none⟩]⟩,
  ⟨0x300008, [], false, [⟨0, 1, .wo, 0, 0, .none⟩, ⟨1, 1, .wo, 0, 0, .none⟩]⟩,
  ⟨0x30000c, [], false, [⟨0, 18, .rw, 0x2c000, 0, .warm⟩, ⟨18, 1, .rw, 0, 0, .warm⟩]⟩,
  ⟨0x300010, [], false, [⟨0, 20, .rw, 0, 0, .warm⟩]⟩,
  ⟨0x300014, [], false, [⟨0, 1, .sh, 0, 0, .warm⟩, ⟨1, 2, .sh, 0, 0, .warm⟩, ⟨3, 1, .sh, 0, 0, .warm⟩]⟩,
  ⟨0x300018, [], true, [⟨0, 64, .ro, 0, 0, .none⟩]⟩,
  ⟨0x300020, [], true, [⟨0, 64, .ro, 0xffffffffffffffff, 0, .none⟩]⟩,
  ⟨0x300028, [], false, [⟨0, 16, .ro, 0, 0, .none⟩, ⟨16, 8, .ro, 0, 0, .none⟩, ⟨24, 5, .ro, 0, 0, .none⟩]⟩,
  ⟨0x30002c, [], false, [⟨0, 32, .rc, 0, 0, .none⟩]⟩,
  ⟨0x300030, [], false, [⟨0, 32, .rc, 0, 0, .none⟩]⟩,
  ⟨0x300100, [(24, 0x40)], false, [⟨0, 1, .rw, 0, 0, .warm⟩]⟩,
  ⟨0x300104, [(24, 0x40)], false, [⟨0, 18, .rw, 0, 0, .warm⟩]⟩,
  ⟨0x300108, [(24, 0x40)], false, [⟨0, 18, .rw, 0, 0, .warm⟩]⟩,
  ⟨0x30010c, [(24, 0x40)], false, [⟨0, 32, .sh, 0, 0, .warm⟩]⟩,
  ⟨0x300110, [(24, 0x40)], false, [⟨0, 32, .sh, 0x40000000, 0, .warm⟩]⟩,
  ⟨0x300114, [(24, 0x40)], false, [⟨0, 32, .sh, 0, 0, .warm⟩]⟩,
  ⟨0x300118, [(24, 0x40)], false, [⟨0, 32, .sh, 0, 0, .warm⟩]⟩,
  ⟨0x30011c, [(24, 0x40)], false, [⟨0, 32, .sh, 0, 0, .warm⟩]⟩,
  ⟨0x300120, [(24, 0x40)], false, [⟨0, 32, .sh, 0, 0, .warm⟩]⟩]

def rowsStitch1 : List RegRow := [
  ⟨0x300124, [(24, 0x40)], false, [⟨0, 16, .sh, 0x4000, 0, .warm⟩, ⟨16, 16, .sh, 0x4000, 0, .warm⟩]⟩,
  ⟨0x300128, [(24, 0x40)], false, [⟨0, 16, .sh, 0x4000, 0, .warm⟩]⟩,
  ⟨0x30012c, [(24, 0x40)], false, [⟨0, 16, .sh, 0, 0, .warm⟩, ⟨16, 16, .sh, 0, 0, .warm⟩]⟩,
  ⟨0x300130, [(24, 0x40)], false, [⟨0, 16, .sh, 0, 0, .warm⟩]⟩,
  ⟨0x300134, [(24, 0x40)], false, [⟨0, 1, .w1c, 0, 0, .none⟩, ⟨1, 1, .w1c, 0, 0, .none⟩, ⟨2, 1, .w1c, 0, 0, .none⟩, ⟨3, 1, .w1c, 0, 0, .none⟩, ⟨4, 2, .ro, 0, 0, .none⟩]⟩,
  ⟨0x300138, [(24, 0x40)], false, [⟨0, 32, .ro, 0, 0, .none⟩]⟩,
  ⟨0x30013c, [(24, 0x40)], false, [⟨0, 32, .ro, 0, 0, .none⟩]⟩,
  ⟨0x300800, [(23, 0x20)], false, [⟨0, 5, .ro, 0, 0, .none⟩, ⟨8, 5, .ro, 0, 0, .none⟩, ⟨16, 10, .ro, 0, 0, .none⟩]⟩,
  ⟨0x300804, [(23, 0x20)], false, [⟨0, 16, .ro, 0, 0, .none⟩, ⟨16, 16, .ro, 0, 0, .none⟩]⟩,
  ⟨0x300808, [(23, 0x20)], false, [⟨0, 16, .ro, 0, 0, .none⟩, ⟨16, 16, .ro, 0, 0, .none⟩]⟩,
  ⟨0x30080c, [(23, 0x20)], false, [⟨0, 16, .ro, 0, 0, .none⟩, ⟨16, 16, .ro, 0, 0, .none⟩]⟩,
  ⟨0x300810, [(23, 0x20)], false, [⟨0, 32, .ro, 0, 0, .none⟩]⟩,
  ⟨0x300814, [(23, 0x20)], false, [⟨0, 32, .ro, 0, 0, .none⟩]⟩]

def rowsMaster0 : List RegRow := [
  ⟨0x310000, [], false, [⟨0, 1, .rw, 0, 0, .none⟩, ⟨1, 1, .rw, 0, 0, .warm⟩, ⟨2, 1, .rw, 0, 0, .warm⟩, ⟨3, 1, .rw, 1, 0, .warm⟩, ⟨4, 1, .rw, 0, 0, .warm⟩, ⟨5, 1, .rw, 0, 0, .warm⟩, ⟨6, 1, .rw, 0, 0, .warm⟩, ⟨7, 1, .wo, 0, 0, .none⟩]⟩,
  ⟨0x310004, [], false, [⟨0, 1, .ro, 0, 0, .none⟩, ⟨1, 1, .ro, 0, 0, .none⟩, ⟨2, 1, .ro, 0, 0, .none⟩, ⟨3, 1, .w1c, 0, 0, .none⟩, ⟨4, 2, .ro, 0, 0, .none⟩, ⟨6, 1, .w1c, 0, 0, .none⟩, ⟨7, 1, .w1c, 0, 0, .none⟩, ⟨8, 1, .w1c, 0, 0, .none⟩, ⟨9, 1, .w1c, 0, 0, .none⟩, ⟨10, 1, .w1c, 0, 0, .none⟩, ⟨11, 1, .w1c, 0, 0, .none⟩, ⟨12, 1, .w1c, 0, 0, .none⟩, ⟨13, 1, .w1c, 0, 0, .none⟩, ⟨14, 1, .w1c, 0, 0, .none⟩, ⟨15, 1, .w1c, 0, 0, .none⟩, ⟨16, 5, .ro, 0, 0, .none⟩]⟩,
  ⟨0x310008, [], false, [⟨0, 1, .wo, 0, 0, .none⟩, ⟨1, 1, .wo, 0, 0, .none⟩]⟩,
  ⟨0x31000c, [], false, [⟨0, 2, .sh, 0, 0, .warm⟩, ⟨2, 2, .sh, 0, 0, .warm⟩, ⟨4, 4, .sh, 2, 0, .warm⟩, ⟨8, 1, .sh, 1, 0, .warm⟩, ⟨16, 8, .sh, 0x40, 0, .warm⟩, ⟨24, 8, .sh, 0x20, 0, .warm⟩]⟩,
  ⟨0x310010, [], true, [⟨0, 64, .sh, 0, 0, .warm⟩]⟩,
  ⟨0x310018, [], false, [⟨0, 16, .sh, 0x699, 0, .warm⟩, ⟨16, 16, .sh, 0x5b9, 0, .warm⟩]⟩,
  ⟨0x31001c, [], false, [⟨0, 16, .sh, 0x2e3, 0, .warm⟩, ⟨16, 16, .sh, 0x367, 0, .warm⟩]⟩,
  ⟨0x310020, [], false, [⟨0, 16, .sh, 0xb71, 0, .warm⟩, ⟨16, 16, .sh, 0x128, 0, .warm⟩]⟩,
  ⟨0x310024, [], false, [⟨0, 16, .sh, 0x4f, 0, .warm⟩, ⟨16, 16, .sh, 0x1e8, 0, .warm⟩]⟩,
  ⟨0x310028, [], false, [⟨0, 16, .sh, 0xf35, 0, .warm⟩]⟩,
  ⟨0x31002c, [], false, [⟨0, 16, .sh, 0x4355, 0, .warm⟩, ⟨16, 16, .sh, 0x4000, 0, .warm⟩]⟩,
  ⟨0x310030, [], false, [⟨0, 16, .sh, 0x3ac5, 0, .warm⟩]⟩,
  ⟨0x310034, [], false, [⟨0, 16, .sh, 0, 0, .warm⟩, ⟨16, 16, .sh, 0, 0, .warm⟩]⟩,
  ⟨0x310038, [], false, [⟨0, 16, .sh, 0, 0, .warm⟩, ⟨16, 16, .sh, 0, 0, .warm⟩]⟩,
  ⟨0x31003c, [], false, [⟨0, 16, .sh, 0, 0, .warm⟩, ⟨16, 16, .sh, 0, 0, .warm⟩]⟩,
  ⟨0x310040, [], false, [⟨0, 16, .sh, 0xffff, 0, .warm⟩, ⟨16, 16, .sh, 0xffff, 0, .warm⟩]⟩,
  ⟨0x310044, [], false, [⟨0, 16, .sh, 0xffff, 0, .warm⟩]⟩,
  ⟨0x310048, [], false, [⟨0, 16, .sh, 0x40, 0, .warm⟩, ⟨16, 16, .sh, 0x2000, 0, .warm⟩]⟩,
  ⟨0x31004c, [], false, [⟨0, 13, .sh, 0x400, 0, .warm⟩]⟩,
  ⟨0x310058, [], true, [⟨0, 64, .ro, 0, 0, .none⟩]⟩]

def rowsMaster1 : List RegRow := [
  ⟨0x310060, [], false, [⟨0, 16, .ro, 0, 0, .none⟩, ⟨16, 16, .ro, 0, 0, .none⟩]⟩,
  ⟨0x310080, [], true, [⟨0, 64, .rw, 0, 0, .warm⟩]⟩,
  ⟨0x310088, [], true, [⟨0, 64, .rw, 0, 0, .warm⟩]⟩,
  ⟨0x310090, [], false, [⟨0, 16, .rw, 0, 0, .warm⟩, ⟨16, 16, .ro, 0, 0, .none⟩]⟩,
  ⟨0x310094, [], false, [⟨0, 16, .rw, 0, 0, .none⟩]⟩,
  ⟨0x310098, [], false, [⟨0, 11, .rw, 0x100, 0, .warm⟩]⟩,
  ⟨0x31009c, [], false, [⟨0, 2, .rw, 0, 0, .warm⟩, ⟨8, 8, .rw, 0x40, 0, .warm⟩, ⟨16, 16, .rw, 8, 0, .warm⟩]⟩,
  ⟨0x3100a0, [], false, [⟨0, 32, .rw, 0, 0, .warm⟩]⟩,
  ⟨0x3100a4, [], false, [⟨0, 32, .ro, 0, 0, .none⟩]⟩,
  ⟨0x3100a8, [], false, [⟨0, 32, .ro, 0xffffffff, 0, .none⟩]⟩,
  ⟨0x3100b0, [], true, [⟨0, 64, .ro, 0, 0, .none⟩]⟩,
  ⟨0x3100b8, [], false, [⟨0, 32, .rc, 0, 0, .none⟩]⟩,
  ⟨0x310100, [], true, [⟨0, 64, .rw, 0, 0, .warm⟩]⟩,
  ⟨0x310108, [], false, [⟨0, 20, .rw, 0, 0, .warm⟩, ⟨20, 2, .rw, 0, 0, .warm⟩]⟩,
  ⟨0x31010c, [], false, [⟨0, 8, .rw, 8, 0, .warm⟩, ⟨8, 4, .rw, 4, 0, .warm⟩, ⟨12, 4, .rw, 0xa, 0, .warm⟩, ⟨16, 8, .rw, 0x20, 0, .warm⟩, ⟨24, 8, .rw, 0x10, 0, .warm⟩]⟩,
  ⟨0x310110, [], false, [⟨0, 1, .ro, 0, 0, .none⟩, ⟨1, 1, .w1s, 0, 0, .none⟩, ⟨2, 1, .wo, 0, 0, .none⟩]⟩,
  ⟨0x310114, [], false, [⟨0, 32, .rc, 0, 0, .none⟩]⟩,
  ⟨0x310140, [], true, [⟨0, 64, .rw, 0, 0, .warm⟩]⟩,
  ⟨0x310148, [], false, [⟨0, 16, .rw, 0, 0, .warm⟩, ⟨16, 16, .ro, 0, 0, .none⟩]⟩,
  ⟨0x31014c, [], false, [⟨0, 16, .rw, 0, 0, .none⟩]⟩]

def rowsMaster2 : List RegRow := [
  ⟨0x310150, [], false, [⟨0, 32, .rc, 0, 0, .none⟩]⟩,
  ⟨0x310160, [], true, [⟨0, 64, .rw, 0, 0, .warm⟩]⟩,
  ⟨0x310168, [], false, [⟨0, 16, .rw, 0, 0, .warm⟩, ⟨16, 16, .ro, 0, 0, .none⟩]⟩,
  ⟨0x31016c, [], false, [⟨0, 16, .rw, 0, 0, .none⟩]⟩,
  ⟨0x310170, [], false, [⟨0, 32, .rc, 0, 0, .none⟩]⟩,
  ⟨0x310180, [], false, [⟨0, 32, .rc, 0, 0, .none⟩]⟩,
  ⟨0x310184, [], false, [⟨0, 32, .rc, 0, 0, .none⟩]⟩,
  ⟨0x310188, [], false, [⟨0, 32, .rc, 0, 0, .none⟩]⟩,
  ⟨0x310190, [], true, [⟨0, 64, .ro, 0, 0, .none⟩]⟩]

def rowsFine0 : List RegRow := [
  ⟨0x320000, [], false, [⟨0, 1, .rw, 0, 0, .warm⟩, ⟨1, 1, .wo, 0, 0, .none⟩, ⟨2, 1, .rw, 1, 0, .warm⟩, ⟨3, 1, .wo, 0, 0, .none⟩, ⟨4, 4, .rw, 0xa, 0, .warm⟩, ⟨8, 1, .rw, 0, 0, .warm⟩]⟩,
  ⟨0x320004, [], false, [⟨0, 1, .w1c, 0, 0, .none⟩, ⟨1, 1, .w1c, 0, 0, .none⟩, ⟨2, 1, .w1c, 0, 0, .none⟩, ⟨3, 1, .w1c, 0, 0, .none⟩, ⟨4, 1, .w1c, 0, 0, .none⟩, ⟨5, 1, .w1c, 0, 0, .none⟩, ⟨6, 1, .ro, 0, 0, .warm⟩, ⟨8, 6, .ro, 0, 0, .none⟩]⟩,
  ⟨0x320008, [], true, [⟨0, 64, .ro, 0, 0, .none⟩]⟩,
  ⟨0x320010, [], false, [⟨0, 24, .rw, 0x1000, 0, .warm⟩]⟩,
  ⟨0x320018, [], true, [⟨0, 64, .rw, 0, 0, .warm⟩]⟩,
  ⟨0x320020, [], false, [⟨0, 8, .rw, 0, 0, .warm⟩, ⟨16, 8, .ro, 0, 0, .none⟩]⟩,
  ⟨0x320024, [], false, [⟨0, 8, .rw, 0, 0, .none⟩]⟩,
  ⟨0x320028, [], false, [⟨0, 32, .ro, 0x2c1000, 0, .none⟩]⟩,
  ⟨0x32002c, [], false, [⟨0, 32, .rc, 0, 0, .none⟩]⟩,
  ⟨0x320040, [], false, [⟨0, 1, .wo, 0, 0, .none⟩, ⟨1, 1, .wo, 0, 0, .none⟩, ⟨2, 1, .ro, 0, 0, .none⟩, ⟨16, 16, .rw, 0x6000, 0, .warm⟩]⟩,
  ⟨0x320048, [], true, [⟨0, 64, .rw, 0, 0, .warm⟩]⟩,
  ⟨0x320050, [], false, [⟨0, 16, .rw, 0, 0, .warm⟩, ⟨16, 16, .ro, 0, 0, .none⟩]⟩,
  ⟨0x320054, [], false, [⟨0, 16, .rw, 0, 0, .none⟩]⟩,
  ⟨0x320058, [], false, [⟨0, 32, .rc, 0, 0, .none⟩]⟩,
  ⟨0x32005c, [], false, [⟨0, 32, .rc, 0, 0, .none⟩]⟩,
  ⟨0x320100, [(16, 0x10)], false, [⟨0, 1, .rw, 0, 0, .warm⟩, ⟨1, 3, .rw, 0, 0, .warm⟩]⟩,
  ⟨0x320108, [(16, 0x10)], false, [⟨0, 32, .rw, 0, 0, .warm⟩]⟩,
  ⟨0x32010c, [(16, 0x10)], false, [⟨0, 24, .rw, 0x400000, 0, .warm⟩]⟩,
  ⟨0x324000, [(16, 0x400), (64, 0x10)], false, [⟨0, 32, .rw, 0, 0, .warm⟩]⟩,
  ⟨0x324004, [(16, 0x400), (64, 0x10)], false, [⟨0, 32, .rw, 0x10000000, 0, .warm⟩]⟩]

def rowsFine1 : List RegRow := [
  ⟨0x324008, [(16, 0x400), (64, 0x10)], false, [⟨0, 13, .rw, 0, 0, .warm⟩, ⟨16, 1, .rw, 0, 0, .warm⟩, ⟨17, 1, .rw, 0, 0, .warm⟩]⟩]

def rowsScaler0 : List RegRow := [
  ⟨0x330000, [], false, [⟨0, 1, .rw, 0, 0, .none⟩, ⟨1, 1, .wo, 0, 0, .none⟩, ⟨2, 1, .rw, 0, 0, .warm⟩, ⟨3, 1, .rw, 0, 0, .warm⟩, ⟨4, 1, .rw, 0, 0, .warm⟩]⟩,
  ⟨0x330004, [], false, [⟨0, 1, .ro, 0, 0, .none⟩, ⟨1, 1, .ro, 0, 0, .none⟩, ⟨2, 1, .w1c, 0, 0, .none⟩, ⟨3, 2, .ro, 0, 0, .none⟩, ⟨5, 1, .w1c, 0, 0, .none⟩, ⟨6, 1, .w1c, 0, 0, .none⟩, ⟨7, 1, .w1c, 0, 0, .none⟩, ⟨8, 1, .w1c, 0, 0, .none⟩, ⟨9, 1, .w1c, 0, 0, .none⟩, ⟨10, 1, .w1c, 0, 0, .none⟩, ⟨11, 1, .w1c, 0, 0, .none⟩, ⟨12, 1, .w1c, 0, 0, .none⟩]⟩,
  ⟨0x330008, [], false, [⟨0, 1, .wo, 0, 0, .none⟩, ⟨1, 1, .wo, 0, 0, .none⟩]⟩,
  ⟨0x33000c, [], false, [⟨0, 1, .sh, 0, 0, .warm⟩, ⟨1, 2, .sh, 0, 0, .warm⟩, ⟨3, 2, .sh, 3, 0, .warm⟩]⟩,
  ⟨0x330010, [], false, [⟨0, 8, .sh, 0x20, 0, .warm⟩, ⟨8, 8, .sh, 0x40, 0, .warm⟩, ⟨16, 16, .sh, 1, 0, .warm⟩]⟩,
  ⟨0x330014, [], false, [⟨0, 8, .sh, 0x18, 0, .warm⟩, ⟨8, 8, .sh, 0x20, 0, .warm⟩, ⟨16, 16, .sh, 0x10, 0, .warm⟩]⟩,
  ⟨0x330018, [], false, [⟨0, 12, .sh, 8, 0, .warm⟩, ⟨12, 8, .sh, 0, 0, .warm⟩, ⟨20, 12, .sh, 0x80, 0, .warm⟩]⟩,
  ⟨0x33001c, [], false, [⟨0, 8, .sh, 0x40, 0, .warm⟩, ⟨8, 8, .sh, 0x80, 0, .warm⟩, ⟨16, 8, .sh, 0xc0, 0, .warm⟩]⟩,
  ⟨0x330020, [], false, [⟨0, 16, .rw, 0x100, 0, .warm⟩]⟩,
  ⟨0x330024, [], false, [⟨0, 20, .rw, 0, 0, .warm⟩]⟩,
  ⟨0x330028, [], false, [⟨0, 4, .rw, 0, 0, .warm⟩, ⟨8, 8, .rw, 0x14, 0, .warm⟩]⟩,
  ⟨0x33002c, [], false, [⟨0, 7, .rw, 0, 0, .warm⟩, ⟨8, 13, .rw, 0, 0, .warm⟩, ⟨24, 5, .rw, 0x1f, 0, .warm⟩]⟩,
  ⟨0x330030, [], true, [⟨0, 64, .rw, 0, 0, .warm⟩]⟩,
  ⟨0x330038, [], false, [⟨0, 16, .rw, 0, 0, .warm⟩, ⟨24, 8, .rw, 0xc8, 0, .warm⟩]⟩,
  ⟨0x33003c, [], false, [⟨0, 32, .ro, 0x1000, 0, .none⟩]⟩,
  ⟨0x330040, [], true, [⟨0, 64, .ro, 0, 0, .none⟩]⟩,
  ⟨0x330048, [], false, [⟨0, 32, .rw, 0, 0, .warm⟩]⟩,
  ⟨0x33004c, [], false, [⟨0, 32, .ro, 0xffffffff, 0, .warm⟩]⟩,
  ⟨0x330050, [], false, [⟨0, 17, .ro, 0, 0, .none⟩]⟩,
  ⟨0x330054, [], false, [⟨0, 17, .rc, 0, 0, .none⟩]⟩]

def rowsScaler1 : List RegRow := [
  ⟨0x330058, [], false, [⟨0, 32, .rc, 0, 0, .none⟩]⟩,
  ⟨0x33005c, [], false, [⟨0, 32, .rc, 0, 0, .none⟩]⟩,
  ⟨0x330060, [], false, [⟨0, 32, .rc, 0, 0, .none⟩]⟩,
  ⟨0x330064, [], false, [⟨0, 32, .rc, 0, 0, .none⟩]⟩,
  ⟨0x330068, [], false, [⟨0, 12, .rw, 0xfff, 0, .warm⟩, ⟨16, 12, .rw, 0xfff, 0, .warm⟩]⟩,
  ⟨0x33006c, [], false, [⟨0, 13, .rw, 0x10, 0, .warm⟩, ⟨16, 16, .rw, 0x100, 0, .warm⟩]⟩,
  ⟨0x330070, [], false, [⟨0, 1, .rw, 0, 0, .warm⟩, ⟨1, 1, .rw, 0, 0, .warm⟩, ⟨2, 1, .rw, 0, 0, .warm⟩, ⟨3, 1, .rw, 0, 0, .warm⟩, ⟨4, 2, .rw, 0, 0, .warm⟩]⟩,
  ⟨0x330074, [], false, [⟨0, 1, .rw, 0, 0, .warm⟩, ⟨1, 1, .rw, 0, 0, .warm⟩, ⟨2, 1, .rw, 0, 0, .warm⟩, ⟨3, 1, .rw, 0, 0, .warm⟩, ⟨4, 2, .rw, 0, 0, .warm⟩]⟩,
  ⟨0x330078, [], false, [⟨0, 12, .rw, 0xfff, 0, .warm⟩]⟩,
  ⟨0x33007c, [], false, [⟨0, 16, .rc, 0, 0, .none⟩, ⟨16, 16, .rc, 0, 0, .none⟩]⟩,
  ⟨0x330100, [(4, 0x20)], true, [⟨0, 64, .rw, 0, 0, .warm⟩]⟩,
  ⟨0x330108, [(4, 0x20)], false, [⟨0, 16, .rw, 0, 0, .warm⟩, ⟨16, 1, .rw, 0, 0, .warm⟩, ⟨17, 1, .rw, 0, 0, .warm⟩, ⟨24, 8, .rw, 0x10, 0, .warm⟩]⟩,
  ⟨0x33010c, [(4, 0x20)], false, [⟨0, 1, .rw, 1, 0, .warm⟩, ⟨1, 1, .rw, 1, 0, .warm⟩, ⟨2, 1, .rw, 1, 0, .warm⟩, ⟨4, 2, .rw, 0, 0, .warm⟩]⟩,
  ⟨0x330110, [(4, 0x20)], false, [⟨0, 16, .ro, 0, 0, .warm⟩]⟩,
  ⟨0x330114, [(4, 0x20)], false, [⟨0, 16, .rw, 0, 0, .warm⟩]⟩,
  ⟨0x330118, [(4, 0x20)], false, [⟨0, 32, .rw, 0, 0, .warm⟩]⟩,
  ⟨0x33011c, [(4, 0x20)], false, [⟨0, 32, .rc, 0, 0, .none⟩]⟩]

def rowsQuill0 : List RegRow := [
  ⟨0x400000, [(12, 0x40000)], false, [⟨0, 1, .wo, 0, 0, .none⟩, ⟨1, 1, .rw, 1, 0, .warm⟩]⟩,
  ⟨0x400004, [(12, 0x40000)], false, [⟨0, 5, .ro, 0x10, 0, .warm⟩, ⟨5, 1, .w1c, 0, 0, .none⟩, ⟨6, 1, .w1c, 0, 0, .none⟩, ⟨7, 1, .w1c, 0, 0, .none⟩, ⟨8, 1, .w1c, 0, 0, .none⟩]⟩,
  ⟨0x400010, [(12, 0x40000)], true, [⟨0, 64, .rw, 0, 0, .warm⟩]⟩,
  ⟨0x400018, [(12, 0x40000)], false, [⟨0, 16, .rw, 0, 0, .warm⟩, ⟨16, 1, .wo, 0, 0, .none⟩, ⟨17, 1, .ro, 0, 0, .none⟩]⟩,
  ⟨0x40001c, [(12, 0x40000)], false, [⟨0, 32, .ro, 0, 0, .warm⟩]⟩,
  ⟨0x400020, [(12, 0x40000)], false, [⟨0, 5, .rw, 0, 0, .warm⟩]⟩,
  ⟨0x400024, [(12, 0x40000)], false, [⟨0, 7, .ro, 0, 0, .none⟩, ⟨8, 7, .ro, 0, 0, .none⟩, ⟨16, 16, .rc, 0, 0, .none⟩]⟩,
  ⟨0x400028, [(12, 0x40000)], false, [⟨0, 8, .ro, 0, 0, .none⟩, ⟨8, 4, .ro, 0, 0, .none⟩]⟩,
  ⟨0x400100, [(12, 0x40000), (4, 0x80)], false, [⟨0, 1, .rw, 0, 0, .none⟩, ⟨1, 1, .rw, 0, 0, .warm⟩, ⟨2, 1, .rw, 0, 0, .warm⟩, ⟨3, 1, .rw, 0, 0, .warm⟩, ⟨4, 1, .rw, 0, 0, .warm⟩, ⟨5, 1, .ro, 0, 0, .none⟩, ⟨6, 1, .w1c, 0, 0, .none⟩, ⟨8, 8, .ro, 0, 0, .none⟩]⟩,
  ⟨0x400104, [(12, 0x40000), (4, 0x80)], false, [⟨0, 16, .rw, 0, 0, .warm⟩]⟩,
  ⟨0x400108, [(12, 0x40000), (4, 0x80)], false, [⟨0, 18, .rw, 0, 0, .warm⟩]⟩,
  ⟨0x40010c, [(12, 0x40000), (4, 0x80)], false, [⟨0, 13, .rw, 0x400, 0, .warm⟩, ⟨16, 3, .rw, 1, 0, .warm⟩]⟩,
  ⟨0x400110, [(12, 0x40000), (4, 0x80)], false, [⟨0, 14, .rw, 0, 0, .warm⟩]⟩,
  ⟨0x400114, [(12, 0x40000), (4, 0x80)], false, [⟨0, 14, .rw, 0, 0, .warm⟩]⟩,
  ⟨0x400118, [(12, 0x40000), (4, 0x80)], false, [⟨0, 24, .rw, 0x100000, 0, .warm⟩]⟩,
  ⟨0x40011c, [(12, 0x40000), (4, 0x80)], false, [⟨0, 18, .rw, 0, 0, .warm⟩]⟩,
  ⟨0x400120, [(12, 0x40000), (4, 0x80), (4, 0x10)], false, [⟨0, 3, .rw, 0, 0, .warm⟩, ⟨8, 6, .rw, 1, 0, .warm⟩, ⟨16, 5, .rw, 0, 0, .warm⟩, ⟨24, 3, .rw, 0, 0, .warm⟩]⟩,
  ⟨0x400124, [(12, 0x40000), (4, 0x80), (4, 0x10)], false, [⟨0, 18, .rw, 0, 0, .warm⟩]⟩,
  ⟨0x400128, [(12, 0x40000), (4, 0x80), (4, 0x10)], false, [⟨0, 18, .ro, 0, 0, .none⟩]⟩,
  ⟨0x400160, [(12, 0x40000), (4, 0x80)], true, [⟨0, 64, .ro, 0, 0, .none⟩]⟩]

def rowsQuill1 : List RegRow := [
  ⟨0x400168, [(12, 0x40000), (4, 0x80)], true, [⟨0, 64, .ro, 0xffffffffffffffff, 0, .none⟩]⟩,
  ⟨0x400170, [(12, 0x40000), (4, 0x80)], false, [⟨0, 32, .rc, 0, 0, .none⟩]⟩,
  ⟨0x400174, [(12, 0x40000), (4, 0x80)], false, [⟨0, 32, .rc, 0, 0, .none⟩]⟩,
  ⟨0x400400, [(12, 0x40000), (16, 0x20)], false, [⟨0, 3, .ro, 1, 0, .none⟩, ⟨4, 5, .ro, 0, 1, .warm⟩, ⟨10, 2, .ro, 0, 0, .none⟩, ⟨12, 1, .w1c, 0, 0, .none⟩, ⟨13, 1, .w1c, 0, 0, .none⟩, ⟨14, 1, .ro, 0, 0, .warm⟩]⟩,
  ⟨0x400404, [(12, 0x40000), (17, 0x20)], false, [⟨0, 1, .wo, 0, 0, .none⟩, ⟨1, 1, .wo, 0, 0, .none⟩]⟩,
  ⟨0x400408, [(12, 0x40000), (17, 0x20)], false, [⟨0, 16, .ro, 0, 0, .none⟩, ⟨16, 16, .ro, 0, 0, .none⟩]⟩,
  ⟨0x40040c, [(12, 0x40000), (17, 0x20)], false, [⟨0, 14, .ro, 0, 0, .none⟩]⟩,
  ⟨0x400410, [(12, 0x40000), (17, 0x20)], false, [⟨0, 32, .ro, 0, 0, .none⟩]⟩,
  ⟨0x400414, [(12, 0x40000), (17, 0x20)], false, [⟨0, 32, .ro, 0, 0, .none⟩]⟩,
  ⟨0x400418, [(12, 0x40000), (17, 0x20)], false, [⟨0, 32, .rc, 0, 0, .none⟩]⟩,
  ⟨0x40041c, [(12, 0x40000), (17, 0x20)], false, [⟨0, 32, .rc, 0, 0, .none⟩]⟩,
  ⟨0x400600, [(12, 0x40000), (1, 0x20)], false, [⟨0, 3, .ro, 5, 0, .none⟩, ⟨4, 5, .ro, 0x10, 0, .warm⟩, ⟨10, 2, .ro, 0, 0, .none⟩, ⟨12, 1, .w1c, 0, 0, .none⟩, ⟨13, 1, .w1c, 0, 0, .none⟩, ⟨14, 1, .ro, 0, 0, .warm⟩]⟩]

/-- The register tables of the block that holds a BAR0 offset (R528); none in a gap (R529). -/
def rowsAt (off : Nat) : List RegRow :=
  if 0x0 ≤ off ∧ off < 0x10000 then rowsTop0 ++ rowsTop1
  else if 0x10000 ≤ off ∧ off < 0x20000 then rowsTimeline0 ++ rowsTimeline1 ++ rowsTimeline2
  else if 0x20000 ≤ off ∧ off < 0x30000 then rowsStroke
  else if 0x30000 ≤ off ∧ off < 0x40000 then rowsEvent
  else if 0x40000 ≤ off ∧ off < 0x50000 then rowsScribe
  else if 0x50000 ≤ off ∧ off < 0x60000 then rowsDma
  else if 0x60000 ≤ off ∧ off < 0x70000 then rowsTherm
  else if 0x70000 ≤ off ∧ off < 0x80000 then rowsSec0 ++ rowsSec1
  else if 0x80000 ≤ off ∧ off < 0x90000 then rowsNet0 ++ rowsNet1 ++ rowsNet2
  else if 0x90000 ≤ off ∧ off < 0xa0000 then rowsChain0 ++ rowsChain1
  else if 0xa0000 ≤ off ∧ off < 0xc0000 then rowsDramc0 ++ rowsDramc1
  else if 0xc0000 ≤ off ∧ off < 0xd0000 then rowsProfile0 ++ rowsProfile1
  else if 0xd0000 ≤ off ∧ off < 0xe0000 then rowsSensor
  else if 0x100000 ≤ off ∧ off < 0x1f0000 then rowsZl0 ++ rowsZl1
  else if 0x200000 ≤ off ∧ off < 0x2d0000 then rowsPipe0 ++ rowsPipe1
  else if 0x300000 ≤ off ∧ off < 0x310000 then rowsStitch0 ++ rowsStitch1
  else if 0x310000 ≤ off ∧ off < 0x320000 then rowsMaster0 ++ rowsMaster1 ++ rowsMaster2
  else if 0x320000 ≤ off ∧ off < 0x330000 then rowsFine0 ++ rowsFine1
  else if 0x330000 ≤ off ∧ off < 0x340000 then rowsScaler0 ++ rowsScaler1
  else if 0x400000 ≤ off ∧ off < 0x700000 then rowsQuill0 ++ rowsQuill1
  else []

/-- Does `rem` bytes above an array's first register name an instance and no byte inside it?
Answers the index in the last dimension. -/
def dimIdx : List (Nat × Nat) → Nat → Nat → Option Nat
  | [], last, rem => if rem = 0 then some last else none
  | (c, st) :: ds, _, rem => if rem / st < c then dimIdx ds (rem / st) (rem % st) else none

/-- Index of `off` in a register-table row; for HI of a pair the flag is true. -/
def RegRow.find (r : RegRow) (off : Nat) : Option (Nat × Bool) :=
  if off < r.off then none
  else
    match dimIdx r.dims 0 (off - r.off) with
    | some i => some (i, false)
    | none =>
      if r.pair && decide (r.off + 4 ≤ off) then (dimIdx r.dims 0 (off - r.off - 4)).map (·, true)
      else none

/-- The first row that has the register at `off`, with its index and half. -/
def findRow : List RegRow → Nat → Option (RegRow × Nat × Bool)
  | [], _ => none
  | r :: rs, off =>
    match r.find off with
    | some (i, h) => some (r, i, h)
    | none => findRow rs off

/-- The register at a BAR0 offset. -/
def regRow (off : Nat) : Option (RegRow × Nat × Bool) := findRow (rowsAt off) off

/-- The reset value of a whole register or pair, in instance `i`. -/
def RegRow.resetVal (r : RegRow) (i : Nat) : Nat :=
  r.fields.foldl (fun a f => a + (f.reset + f.step * i) % 2 ^ f.w * 2 ^ f.lsb) 0

/-- The reset value of the 32-bit word at a BAR0 offset; 0 where no register is (R11, R529).
[DESIGN CHOICE, log 1; DESIGN CHOICE, log 5; PRESUMED, log 19; DEDUCED, log 33] -/
def resetWord (off : Nat) : Word :=
  match regRow off with
  | none => 0
  | some (r, i, h) => BitVec.ofNat 32 (if h then r.resetVal i / 2 ^ 32 else r.resetVal i)

end Sys2Proof.Machine
end

