-- ==== Sys2Proof/Machine/State.lean ====
section
/-! DEFINITION. The state of the LM9612 as plain data, its reasons to stop, and the machine right
after reset.  Registers live in one sparse store keyed by BAR0 offset (their reset values are those
of Machine/RegTable.lean); everything the chapters describe beside the registers has a structure of
its own here, named after its unit.  Arrays of identical units are sparse stores keyed by instance
number: an unlisted instance holds its structure's default values, which are its reset values. -/

namespace Sys2Proof.Machine

open Sys2Proof

/-! ### Records: faults, coverage and tallies (R237, R238, R447) -/

/-- A fault as a unit reports it to the recorder (R447, R448). `pos` is 48.16. -/
structure FaultRec where
  code : Nat
  source : Nat
  seq : Nat
  epoch : Nat
  pos : Int
  ptpNs : Nat
  ptpWrap : Nat
  slots : List Nat
  tick : Nat
  deriving DecidableEq, Repr

/-- A coverage record (R238). `first` and `last` are lines; an open LAST is line 2^47 - 1. -/
structure CovRec where
  deviceId : Nat
  seq : Nat
  epoch : Nat
  first : Int
  last : Int
  left : Nat
  right : Nat
  cause : Nat
  source : Nat
  detail : Nat
  detail2 : Nat
  pageId : Nat
  merged : Bool
  ptpNs : Nat
  ptpWrap : Nat
  deriving DecidableEq, Repr

/-- A tally (R237). `ty` is TYPE, `flags` the FLAGS byte, `pos` the centroid in 48.16. -/
structure TallyRec where
  ty : Nat
  flags : Nat
  deviceId : Nat
  expSet : Nat
  seq : Nat
  epoch : Nat
  frame : Nat
  pos : Int
  xpos : Nat
  cls : Nat
  sev : Nat
  area : Nat
  top : Nat
  hm1 : Nat
  peak : Nat
  mean : Nat
  left : Nat
  right : Nat
  camMask : Nat
  word30 : Nat
  pageId : Nat
  ptpNs : Nat
  ptpWrap : Nat
  deriving DecidableEq, Repr

/-- A record in the emitter: a tally, a coverage record, or one forwarded unchanged from a chain
peer as its 64 bytes (R239, R244). -/
inductive Record where
  | tally (t : TallyRec)
  | cov (c : CovRec)
  | foreign (bytes : List Nat)
  deriving DecidableEq, Repr

/-- The level of an output pin; high-impedance while its output is disabled (R4). -/
inductive PinLevel where
  | low | high | highZ
  deriving DecidableEq, Repr

/-! ### Timeline (chapter 1) -/

/-- A latch pair of the web master (R25): internal position in 2^-40 line, tick, direction. -/
structure LatchPair where
  pos : Int
  tick : Nat
  fwd : Bool
  deriving DecidableEq, Repr

/-- Encoder e beside its registers: the accepted levels of A and B, the tick of its last step (R19),
the counts since the last index and whether one has been seen since RUN (R23, R24), the SSI
reference sample and the tick a transfer began (R20, R21), and whether ENCe_A may drive the SSI
clock (R517). -/
structure Encoder where
  levelA : Bool := false
  levelB : Bool := false
  lastStep : Option Nat := none
  since : Int := 0
  indexSeen : Bool := false
  ssiPrev : Option Nat := none
  ssiStart : Option Nat := none
  clkOe : Bool := false
  deriving DecidableEq, Repr

/-- One probe FIFO entry (R28): position in 48.16, tick, edge. -/
structure ProbeEntry where
  pos : Int
  tick : Nat
  rising : Bool
  deriving DecidableEq, Repr

/-- Probe k beside its registers (R28): its FIFO, oldest first, at most 16 entries, and the
48.16 position of the previous accepted edge. -/
structure Probe where
  fifo : List ProbeEntry := []
  prevEdge : Option Int := none
  deriving DecidableEq, Repr

/-- A unit with shadowed settings, whose commit boundary is a scheduled action (R105, R140, R197,
R253). -/
inductive CommitUnit where
  | pipe (p x : Nat)
  | stitch
  | master
  | scaler
  deriving DecidableEq, Repr

/-- A scheduled action (R36, R38). The trigger of line `first` names, once it has fallen due, also the last line
whose trigger fell due in the same tick (R40). -/
inductive Action where
  | modeDecision
  | modeChange
  | commit (u : CommitUnit) (line : Int)
  | frame (f : Nat) (line : Int)
  | trigger (first : Int) (last : Option Int)
  | profileSync (g : Nat)
  | marker (m : Nat)
  | verdict
  | waitpos (q : Nat)
  deriving DecidableEq, Repr

/-- A scheduler entry (R36): its slot in 1/256 line, its action, the tick in which it fell due,
and whether it executes late (R37). -/
structure SchedEntry where
  slot : Int
  act : Action
  due : Option Nat
  late : Bool := false
  deriving DecidableEq, Repr

/-- Frame generator f beside its registers: the line of the last boundary it placed or offered
(R45), and of the last boundary executed, with the boundary lines and frame numbers executed so far (newest
first), from which a line finds its frame (R104). -/
structure FrameGen where
  prev : Option Int := none
  offered : Option Int := none
  starts : List (Int × Nat) := []
  deriving DecidableEq, Repr

/-- Marker m beside its registers: the tick until which its pulse is active, firings counted, and
the tick of the last firing (R43). -/
structure Marker where
  activeUntil : Option Nat := none
  lastFire : Option Nat := none
  fired : Nat := 0
  deriving DecidableEq, Repr

/-- The timeline beside its registers. Positions are in 2^-40 line (R15): `pos` is the web position,
`prevPos` that of the previous tick, `latched` the newest latched position of the web master. `mark`
is the last line whose trigger has fallen due or been passed over (R40, R41). -/
structure Timeline where
  tick : Nat := 0
  pos : Int := 0
  prevPos : Int := 0
  latched : Int := 0
  pairs : List LatchPair := []
  lastMasterStep : Nat := 0
  simInc : Int := 0
  vlimLowOut : Bool := false
  vlimHighOut : Bool := false
  xlatchTick : Option Nat := none
  cmpFired : Sparse (Option Nat) := []
  encs : Sparse Encoder := []
  probes : Sparse Probe := []
  sched : List SchedEntry := []
  waiting : List Int := []
  mark : Option Int := none
  lastIssue : Option Nat := none
  frames : Sparse FrameGen := []
  markers : Sparse Marker := []
  deriving DecidableEq, Repr

/-! ### Strokes (chapter 2) -/

/-- Stroke k beside its registers (R46 to R58). Phases and positions are in 2^-40, the applied trim
in 2^-32 step. -/
structure Stroke where
  c0 : Int := 0
  p0 : Int := 0
  phase0 : Int := 0
  trim : Int := 0
  prevSrc : Int := 0
  lagOut : Bool := false
  vlimOut : Bool := false
  excess : Int := 0
  lastStep : Option Nat := none
  fwd : Bool := true
  dirAt : Option Nat := none
  quad : Nat := 0
  frozen : Option Int := none
  trimAdd : Option (Nat × Int) := none
  deriving DecidableEq, Repr

/-! ### Zhevlis link (chapter 3) -/

/-- A packet without its header and trailer checks (R73): type, flags, SEQ and 64-bit payload
blocks. -/
structure Packet where
  ty : Nat
  replay : Bool := false
  retx : Bool := false
  seq : Nat := 0
  payload : List Nat := []
  deriving DecidableEq, Repr

/-- Physical lane l of a port beside its registers: markers missing or invalid in a row, whether a
valid marker has been found since lock was lost, faults already recorded in this marker period, and
the tick until which a calibration gap lasts (R65, R70, R71, R86, R90). -/
structure ZlLane where
  bad : Nat := 0
  found : Bool := false
  stuffSeen : Bool := false
  skewSeen : Bool := false
  gapUntil : Option Nat := none
  calAt : Nat := 0
  eyeLowSince : Option Nat := none
  deriving DecidableEq, Repr

/-- A CTRL packet whose STAT reply is awaited (R80): OP, TAG and the tick it was sent. -/
structure CtrlOut where
  op : Nat
  tag : Nat
  since : Nat
  deriving DecidableEq, Repr

/-- A lane group of a port beside its registers: SEQ of the next packet sent and of the last one
counted (R75, R77), the one-way delay and whether training runs (R82), CRC errors in this marker
period (R98), whether the receiver waits for NEXT_HDR (R76), packets delivered and not yet taken,
and CTRL packets awaiting their replies. -/
structure ZlGroup where
  txSeq : Nat := 0
  rxSeq : Option Nat := none
  ow : Option Int := none
  training : Bool := false
  crcPeriod : Nat := 0
  resync : Bool := false
  rx : List Packet := []
  ctrl : List CtrlOut := []
  deriving DecidableEq, Repr

/-- A lane swap in progress (R91, R92): group, logical lane, target physical lane, planned, and the
tick of the lane fault or request. -/
structure LaneSwap where
  group : Nat
  logical : Nat
  dest : Nat
  planned : Bool
  since : Nat
  deriving DecidableEq, Repr

/-- A packet in the replay buffer and the times it has been resent (R95). -/
structure ReplayEntry where
  pkt : Packet
  sends : Nat
  deriving DecidableEq, Repr

/-- Port n beside its registers: lanes, groups, the last REQ_ID acted on and the next to send for
each request kind (R69), swaps of the receive and transmit direction, the lane and tick of its own
GAP request (R90), what the spare carries in each direction as group, logical lane and the physical
lane it replaces (R91), and the replay state of a peer port:
buffer, waiting packets, next SEQ expected, NAK sent, tick of the last advance (R95). -/
structure Zl where
  lanes : Sparse ZlLane := []
  groups : Sparse ZlGroup := []
  lastReq : Sparse (Option Nat) := []
  nextReq : Sparse Nat := []
  swapRx : Option LaneSwap := none
  swapTx : Option LaneSwap := none
  gapAsked : Option (Nat × Nat) := none
  spareRx : Option (Nat × Nat × Nat) := none
  spareTx : Option (Nat × Nat × Nat) := none
  replay : List ReplayEntry := []
  waiting : List Packet := []
  expect : Nat := 0
  nak : Bool := false
  ackAt : Nat := 0
  deriving DecidableEq, Repr

/-! ### Settings sets (R105 to R111, R537) and the camera intake (chapter 4) -/

/-- A settings set (R105, R111): the applied copies of the SH words of its unit keyed by BAR0 offset,
the memory image fetched for it, its start line, the COMMITS number it took, and whether a handover withdrew it (R128). -/
structure SettingsSet where
  words : Sparse Word
  image : Sparse Nat
  start : Int
  commits : Nat
  dead : Bool := false
  deriving DecidableEq, Repr

/-- A COMMIT that waits (R105): its tick. -/
structure PendCommit where
  tick : Nat
  deriving DecidableEq, Repr

/-- The commit state of a unit: the active and previous sets, the pending COMMITs (oldest first; the
newest one recorded before a boundary is the one it applies), the fetch in progress for a COMMIT
(its tick and base address), the newest image fetched, with its COMMIT's tick, and what the conditions of R107
gave in the last boundary tick: the tick, 0 or the reason to carry, and the image to apply. -/
structure CommitCtx where
  active : Option SettingsSet := none
  previous : Option SettingsSet := none
  pend : List PendCommit := []
  fetch : Option (Nat × Nat) := none
  image : Option (Nat × Sparse Nat) := none
  judged : Option (Nat × Nat × Sparse Nat) := none
  deriving DecidableEq, Repr

/-- A line whose TRIG is to be or has been sent and that has not arrived (R101, R127): its TRIG's
SEQ, exposure set, the tick t_ref in which its trigger action was applied, and the launch tick. -/
structure OwedLine where
  line : Int
  seq : Option Nat
  expSet : Nat
  tref : Nat
  launched : Option Nat
  deriving DecidableEq, Repr

/-- A line being received (R100): the samples of its short or single and of its long exposure. -/
structure LineAsm where
  line : Int
  short : List Nat
  long : List Nat
  mism : Bool
  deriving DecidableEq, Repr

/-- A line that has arrived (R100): raw samples and the 1.2 GHz clock of its arrival. -/
structure ArrLine where
  line : Int
  short : List Nat
  long : List Nat
  clk : Nat
  deriving DecidableEq, Repr

/-- A line in the pipe (R120): context, start clock, corrected pixels and the samples statistics
take. -/
structure WorkLine where
  ctx : Nat
  line : Int
  clk : Nat
  pixels : List (Nat × Nat × Nat)
  stat : List (Nat × Nat × Nat)
  sat : List (Bool × Bool × Bool)
  deriving DecidableEq, Repr

/-- A run of lost lines (R102). -/
structure LostRun where
  first : Int
  last : Int
  reason : Nat
  deriving DecidableEq, Repr

/-- Statistics of an open frame (R123, R124): per channel sum, sum of squares, minimum, maximum,
saturated count; histogram counts keyed by 256 c + bin; the start lines of the sets that processed
its lines. -/
structure FrameStats where
  frame : Nat
  first : Int
  processed : Nat := 0
  lost : Nat := 0
  expSet : Nat := 0
  commits : Nat := 0
  after : Bool := false
  sets : List Int := []
  sums : List Nat := [0, 0, 0]
  sumsq : List Nat := [0, 0, 0]
  mins : List Nat := [65535, 65535, 65535]
  maxs : List Nat := [0, 0, 0]
  sats : List Nat := [0, 0, 0]
  hist : Sparse Nat := []
  deriving DecidableEq, Repr

/-- Context x of pipe p beside its registers (R99 to R114, R123, R126), with the start line, frame generator and
exposure set of each set applied so far, newest first, or none from the line after a reset (R104). -/
structure PipeCtx where
  commit : CommitCtx := {}
  owed : List OwedLine := []
  asm : Option LineAsm := none
  fifo : List ArrLine := []
  run : Option LostRun := none
  stats : List FrameStats := []
  mbox : Option (Nat × Nat) := none
  newSet : Bool := false
  tags : List (Int × Option (Nat × Nat)) := []
  deriving DecidableEq, Repr

/-- Pipe p beside its registers: lines in processing, the clock from which the next line may start,
and the tick of the failure while a handover runs (R120, R128). -/
structure Pipe where
  work : List WorkLine := []
  freeAt : Nat := 0
  failedAt : Option Nat := none
  deriving DecidableEq, Repr

/-! ### Stitcher (chapter 5) -/

/-- The camera line in a slot of the seam buffer (R137, R142): the line, and per column of the span
its h value, or none where the column is invalid with the cause given. -/
structure SeamLine where
  line : Int
  cols : List (Option (Nat × Nat × Nat))
  bad : List Nat
  deriving DecidableEq, Repr

/-- A run of stitched lines with invalid pixels of a camera and cause (R150). -/
structure SeamRun where
  cam : Nat
  cause : Nat
  first : Int
  last : Int
  low : Nat
  high : Nat
  deriving DecidableEq, Repr

/-- Sums of a kerf's open frame (R151): left and right sums of each channel, and the count. -/
structure KerfAcc where
  left : List Nat := [0, 0, 0]
  right : List Nat := [0, 0, 0]
  count : Nat := 0
  deriving DecidableEq, Repr

/-- A stitched line: validity and colour of each fine pixel, with its tags (R104, R149), and what the
column integrators had taken over when it started: whether it seeds, and the time constant A (R157). -/
structure FineLine where
  line : Int
  frame : Nat
  epoch : Nat
  forced : Bool
  seed : Bool := false
  colA : Nat := 0
  pixels : List (Option (Nat × Nat × Nat))
  deriving DecidableEq, Repr

/-- The stitcher beside its registers: sets, the seam buffer and staging of each camera, lines lost to overrun,
the lowest line stored for every camera, the newest line started, the line being output, the end of the last NOT_FORMED
run and the open one, open runs of invalid pixels, lines absent by overrun, kerf sums with
the frame they belong to, the fine lines of the coarse line being gathered, coarse lines on their way out, and the newest
fine and coarse lines, from which the other units read (R140 to R153). -/
structure Stitch where
  commit : CommitCtx := {}
  seam : Sparse (List SeamLine) := []
  staging : Sparse (List SeamLine) := []
  overrun : Sparse (List Int) := []
  firstAll : Option Int := none
  started : Option Int := none
  work : List (Nat × FineLine) := []
  freeAt : Nat := 0
  unformed : Option Int := none
  notRun : Option (Int × Int) := none
  runs : List SeamRun := []
  kerf : Sparse KerfAcc := []
  kerfFrame : Option (Int × Nat) := none
  quad : List FineLine := []
  coarseOut : List (Nat × FineLine) := []
  coarse : List FineLine := []
  fine : List FineLine := []
  deriving DecidableEq, Repr

/-! ### Fine path, profile engine, sensor port (chapter 6) -/

/-- The integrator state of a column (R156): m and v of R, G, B, the count n, and whether an invalid
pixel has been seen since the seed (R159). -/
structure ColState where
  m : List Nat := [0, 0, 0]
  v : List Nat := [0, 0, 0]
  n : Nat := 0
  bad : Bool := false
  deriving DecidableEq, Repr

/-- A column snapshot in progress (R159): line S, its ring entry, frame and epoch, the next segment. -/
structure Snapshot where
  line : Int
  entry : Nat
  seg : Nat
  width : Nat
  deriving DecidableEq, Repr

/-- An attribution request (R162, R164): position x in 20.4, first line, ink mask, REC, and the scaler's
tally number it answers (none for a streak report). -/
structure AttrReq where
  x : Nat
  pos : Int
  ink : Nat
  record : Bool
  tally : Option Nat
  deriving DecidableEq, Repr

/-- The answer to a request (R165): BHN fields, the residual and the chosen nozzle's centre. -/
structure AttrAns where
  found : Bool
  bar : Nat
  head : Nat
  nozzle : Nat
  resid : Int
  xn : Nat
  cands : Nat
  ambiguous : Bool
  high : Bool
  bank : Nat
  deriving DecidableEq, Repr

/-- The fine path beside its registers. `bank` holds the active bank's words by their BAR0 offset; the
register file holds the inactive bank's (R168). `running` are requests started, with clock and answer;
`hist` is what the columns held after each of the newest lines (newest first). -/
structure Fine where
  cols : Sparse ColState := []
  seedAfter : Option Nat := none
  seedFrom : Option Int := none
  snap : Option Snapshot := none
  snaps : Nat := 0
  reports : List AttrReq := []
  asked : List AttrReq := []
  running : List (Nat × AttrReq × AttrAns) := []
  lastStart : Option Nat := none
  hist : List (Int × Sparse ColState) := []
  nozSeq : Nat := 0
  bank : Sparse Word := []
  deriving DecidableEq, Repr

/-- A detector window of a profile channel (R180). -/
structure DetWin where
  max : Option Int := none
  min : Option Int := none
  sumsq : Nat := 0
  n : Nat := 0
  env : Int := 0
  deriving DecidableEq, Repr

/-- The chain of a profile channel beside its registers (R170 to R182): integrators and combs, the
CIC phase, the delay lines of the halfband stages and of the FIR stage (newest first) with their
input counts, the previous input, the flags of the next output, and the sync line. -/
structure ProfCh where
  integ : List Int := []
  comb : List Int := []
  cicN : Nat := 0
  hb : List (List Int × Nat) := []
  fir : List Int := []
  firN : Nat := 0
  prevIn : Int := 0
  hole : Bool := false
  sat : Bool := false
  det : DetWin := {}
  hiOut : Bool := false
  loOut : Bool := false
  syncLine : Option Int := none
  syncTick : Option Nat := none
  deriving DecidableEq, Repr

/-- The profile engine: channel c at key c, and the tick of each group's last sync, plus 1 (R178). -/
structure Profile where
  chans : Sparse ProfCh := []
  synced : Sparse Nat := []
  deriving DecidableEq, Repr

/-- The sensor port (R183): the start tick and position of a transfer in progress, and the tick of
the next timer start. -/
structure Sensor where
  start : Option (Nat × Int) := none
  timer : Option Nat := none
  deriving DecidableEq, Repr

/-! ### Master path (chapter 7) -/

/-- A registration window of a page (R188). -/
structure PageWin where
  y0 : Nat
  x0 : Nat
  ww : Nat
  wh : Nat
  bar : Nat
  chan : Nat
  deriving DecidableEq, Repr

/-- A page descriptor that was read VALID (R188). -/
structure PageDesc where
  id : Nat
  w : Nat
  nsep : Nat
  tolMap : Bool
  h : Nat
  rowStride : Nat
  raster : Nat
  tolBase : Nat
  tolStride : Nat
  wins : List PageWin
  deriving DecidableEq, Repr

/-- A page of the page queue (R191 to R195). `start` is the ledger start and `entry` the entry's
START, both 48.16; `po` the page origin; `stop` the last line of a truncated page; `absent` the cause
of an absent one; `after` the first line from which a late page applies; `applied` the COMMITS number
of a set applied at its boundary; `begun` and `ended` whether lines have been and no more will be compared. -/
structure Page where
  start : Int
  entry : Int
  index : Nat
  xoff : Int
  mark : Bool
  reset : Bool
  final : Bool
  po : Int
  stop : Option Int := none
  desc : Option PageDesc := none
  absent : Option Nat := none
  after : Option Int := none
  applied : Option Nat := none
  begun : Bool := false
  ended : Bool := false
  deriving DecidableEq, Repr

/-- The field of a tile row (R206, R207): per tile D in 1/64 coarse pixel, and its weak and range bits. -/
structure TileRow where
  row : Int
  d : List (Int × Int)
  weak : List Bool
  range : List Bool
  deriving DecidableEq, Repr

/-- A pixel of the difference plane (R213): score, ΔE, page ID, whether it was compared, the cause
when not, and the warped expected value. -/
structure DiffPix where
  score : Nat
  de : Nat
  page : Nat
  cmp : Bool
  cause : Nat
  exp : Nat × Nat × Nat
  deriving DecidableEq, Repr

/-- A line of the difference plane. -/
structure DiffLine where
  line : Int
  pixels : List DiffPix
  deriving DecidableEq, Repr

/-- A run of coarse lines with pixels not compared, per cause and page (R221). -/
structure MasterRun where
  cause : Nat
  page : Nat
  first : Int
  last : Int
  low : Nat
  high : Nat
  deriving DecidableEq, Repr

/-- The master path beside its registers: sets, the page queue (oldest first, a few ended pages kept
for the taps that still read them), the last ledger start, the newest tile rows and difference
lines (newest first), the next row and line, runs not compared, prediction nodes that are
unreadable, merge counts of golden rows, the repeat recorded as short, and record sequences. -/
structure Master where
  commit : CommitCtx := {}
  pages : List Page := []
  lastStart : Option Int := none
  rows : List TileRow := []
  nextRow : Option Int := none
  nextDiff : Option Int := none
  fresh : Bool := true
  diff : List DiffLine := []
  runs : List MasterRun := []
  bad : List Nat := []
  merges : Sparse Nat := []
  shortAt : Option Int := none
  regSeq : Nat := 0
  fieldSeq : Nat := 0
  deriving DecidableEq, Repr

/-! ### Scaler and emitter (chapter 8) -/

/-- A snippet of a tally in the queue (R245, R246): first line, first column and clipped size of the
window, and the tick its copy started. -/
structure SnipJob where
  first : Int
  col : Nat
  w : Nat
  h : Nat
  since : Option Nat := none
  deriving DecidableEq, Repr

/-- An entry of the tally queue (R239 to R241): the record, its bytes when a chain peer sent it, the
rings that have still to take it as a mask, the snippet it is held for, and the lines whose verdict it
holds back while it is held. -/
structure TallyEntry where
  body : TallyRec
  raw : Option (List Nat) := none
  rings : Nat
  snip : Option SnipJob := none
  hold : Int
  deriving DecidableEq, Repr

/-- An entry of the coverage queue (R239 to R243). -/
structure CovEntry where
  body : CovRec
  raw : Option (List Nat) := none
  rings : Nat
  deriving DecidableEq, Repr

/-- The loss summary of a ring (R242): lines and columns of the lost tallies, first lost SEQ, count. -/
structure LossSum where
  first : Int
  last : Int
  left : Nat
  right : Nat
  seq : Nat
  count : Nat
  deriving DecidableEq, Repr

/-- An open component (R228 to R232), in lines and columns of its plane (0 fine, 1 master): its
open-table label; pixels; sums of line numbers, of doubled cross-web centres, of scores and of ΔE; peak;
lowest and highest column; whether it holds a hot pixel; CONT_PREV; its runs in its last line and those
found so far in the line being segmented; the multiples of OPEN_LINES reached; the fine line through
which open tallies cover it; and, for R250 to R252, whether it touches column 0, its lines with a lit
pixel in the last column, and whether partials have been merged in. -/
structure Comp where
  id : Nat
  label : Nat
  plane : Nat
  first : Int
  last : Int
  n : Nat := 0
  lines : Int := 0
  col2 : Nat := 0
  score : Nat := 0
  peak : Nat := 0
  de : Nat := 0
  low : Nat
  high : Nat
  hot : Bool := false
  contPrev : Bool := false
  runs : List (Nat × Nat) := []
  cur : List (Nat × Nat) := []
  opened : Nat := 0
  covered : Option Int := none
  touches : Bool := false
  edge : List Int := []
  deriving DecidableEq, Repr

/-- A closed component or a merger that waits across the right edge (R251): its record so far, its
plane, whether it holds a hot pixel, its lines lit in the last column, and whether it touches column 0. -/
structure EdgeComp where
  body : TallyRec
  plane : Nat
  hot : Bool
  edge : List Int
  touches : Bool
  label : Nat
  hold : Int
  deriving DecidableEq, Repr

/-- A partial record from the sender (R251): its record and label. -/
structure Partial where
  body : TallyRec
  plane : Nat
  label : Nat
  deriving DecidableEq, Repr

/-- A row of a boundary strip (R250): the labels of the sender's lit fine and coarse column 0, or a late
row (R252). -/
structure StripRow where
  line : Int
  fine : Option Nat := none
  master : Option Nat := none
  late : Bool := false
  deriving DecidableEq, Repr

/-- A tally on its way to the queue (R234, R235): its record, the first line whose verdict it holds, and
whether it awaits attribution or the classifier of a quill's slot since a tick. -/
structure Draft where
  id : Nat
  body : TallyRec
  hold : Int
  streak : Bool
  classWait : Bool := false
  quill : Nat := 0
  slot : Nat := 0
  since : Nat := 0
  deriving DecidableEq, Repr

/-- A run of lines with unlabelled runs (R230): lines and columns of the plane. -/
structure FullRun where
  first : Int
  last : Int
  low : Nat
  high : Nat
  deriving DecidableEq, Repr

/-- The scaler and emitter beside their registers: the settings sets; the two queues and their runs of
merges and losses; loss summaries; the open table, with the newest line of each plane that has been
passed and the lines passed but owed a verdict; unlabelled runs; drafts; the timeouts counted and the
run of drafts that found the feature queue full; runs of late lines; the boundary strip as sender (next
line and the labels of column 0) and as owner (rows, last line covered, closed components, partials);
datagrams (the tick of the first record, whether closed, the records) and runs of drops; the SEQ in each
entry of ring 0; and the line of the tick in which the deadline check fell due (R249). -/
structure Scaler where
  commit : CommitCtx := {}
  covQ : List CovEntry := []
  merging : Option (Nat × Nat) := none
  talQ : List TallyEntry := []
  losing : Bool := false
  loss : Sparse (Option LossSum) := []
  comps : List Comp := []
  nextId : Nat := 0
  seg : Option Int := none
  segM : Option Int := none
  holes : List (Nat × Int × Int) := []
  full : Sparse (Option FullRun) := []
  drafts : List Draft := []
  timeouts : Nat := 0
  fqRun : Option (Nat × Nat) := none
  lateRuns : List (Int × Int) := []
  stripNext : Option Int := none
  col0 : List (Nat × Int × Nat) := []
  rows : List StripRow := []
  rowsTo : Option Int := none
  closed : List EdgeComp := []
  partials : List Partial := []
  batches : List (Nat × List (List Nat)) := []
  netDrop : Bool := false
  ringSeq : Sparse Nat := []
  dueLine : Option Int := none
  deriving DecidableEq, Repr
/-! ### Quills and nibs (chapter 9) -/

/-- A slot of a feature queue (R284): generation, draft and its bytes, whether it is claimed, and its
order of arrival. -/
structure FqSlot where
  full : Bool := false
  gen : Nat := 0
  draft : Nat := 0
  bytes : List Nat := []
  claimed : Bool := false
  order : Nat := 0
  deriving DecidableEq, Repr

/-- A loop level of a nib (R287): PCs of the first and last instruction of the body, passes left. -/
structure LoopLevel where
  first : Nat
  last : Nat
  left : Nat
  deriving DecidableEq, Repr

/-- What a nib runs: an INIT run (after a restart or not), an invocation for a line, or one of a QUEUE
job (R266, R267, R271, R294). -/
inductive NibRun where
  | init (again : Bool)
  | line (n : Int)
  | queue
  deriving DecidableEq, Repr

/-- The nib in a slot (R259): code words and the length of its image, local memory, scalar, vector and
mask registers, PC and loop levels; what it runs, for which job, with the LINE and POS it reads; cycles
since the run started, the cycle from which each register (scalars 0 to 31, vectors 32 to 63, masks 64
to 71) is ready and that of the last quill-memory store (R288, R290); its EVFLAG (hop count) and the hop
count read in this invocation (R286); the line of its previous invocation and the lines not invoked
since (R278); whether RESTART is due; the next line to invoke and the newest one retired; per window,
the next line to fill; whether lines are retired on its behalf, with the run not yet published (R293);
whether it resumes at the next line formed (R294), and the ticks of its corrected errors within one
hour (R455). -/
structure Nib where
  code : Sparse Nat := []
  words : Nat := 0
  mem : Memory := []
  sreg : Sparse Nat := []
  vreg : Sparse (List Nat) := []
  mreg : Sparse Nat := []
  pc : Nat := 0
  loops : List LoopLevel := []
  run : Option NibRun := none
  job : Nat := 0
  line : Int := 0
  pos : Nat := 0
  cycle : Nat := 0
  ready : Sparse Nat := []
  store : Option Nat := none
  ev : Option Nat := none
  evRead : Option Nat := none
  prev : Option Int := none
  skipped : Nat := 0
  restart : Bool := false
  next : Option Int := none
  retired : Option Int := none
  fill : Sparse Int := []
  behalf : Bool := false
  lost : Option (Int × Int) := none
  resume : Bool := false
  ceAt : List Nat := []
  deriving DecidableEq, Repr

/-- A quill-memory store that other agents may not see yet (R290): slot, address, the bytes before. -/
structure QStore where
  slot : Nat
  addr : Nat
  old : List Nat
  deriving DecidableEq, Repr

/-- A job beside its registers (R266): whether its INIT runs go on, whether its start line is still to
come, the first line that started to form after EN, and the start line. -/
structure Job where
  init : Bool := false
  waitStart : Bool := false
  first : Option Int := none
  l0 : Option Int := none
  deriving DecidableEq, Repr

/-- A spare handover (R296, R297): failed or old slot, spare slot, logical nib, planned, the tick it
began, and whether the window rows could be copied. -/
structure Handover where
  from_ : Nat
  to_ : Nat
  logical : Nat
  planned : Bool
  since : Nat
  copied : Bool
  deriving DecidableEq, Repr

/-- Quill q beside its registers: its memory and stores on their way, feature queue, nibs by slot, jobs,
and a handover in progress. -/
structure Quill where
  mem : Memory := []
  stores : List QStore := []
  fq : Sparse FqSlot := []
  fqNext : Nat := 0
  nibs : Sparse Nib := []
  jobs : Sparse Job := []
  hand : Option Handover := none
  deriving DecidableEq, Repr

/-- An output row that a nib has drained (R272, R273): quill, job, line, first core column, scores. -/
structure ScoreRow where
  q : Nat
  j : Nat
  line : Int
  x : Nat
  scores : List Nat
  deriving DecidableEq, Repr
/-! ### Scribe and DMA (chapter 10) -/

/-- An open loop of a queue (R325): device addresses of the LOOP and of its first command, whether it
started in the ring, and the passes left (none without end). -/
structure ScLoop where
  word : Nat
  body : Nat
  ring : Bool
  left : Option Nat
  deriving DecidableEq, Repr

/-- What a queue waits for (R315 to R324): a position, a PTP time, events, a mode change, earlier
accesses, earlier accesses before a SIGNAL (EV, IRQ, channel, vector), or a summary whose instant is at
or after a tick. -/
inductive ScWait where
  | pos
  | time (t : Nat)
  | ev
  | mode
  | access
  | signal (ev irq : Bool) (channel vector : Nat)
  | resync (tick : Nat)
  deriving DecidableEq, Repr

/-- Queue q beside its registers (R308 to R327): command words prefetched from PC on; loops (innermost
first) and return addresses (newest first); what it waits for, until a
deadline, going on after a timeout or not; the hop count of the event that ended its last wait, and of
the latched event; the tick from which it may start a command; remote blocks with their ports (the first
one runs once `inBlock`); the tick from which a fetch has met DRAM in self-refresh (R306); LOOPs to be passed over
to their ENDLOOP (R325). -/
structure ScQueue where
  words : List Nat := []
  loops : List ScLoop := []
  calls : List Nat := []
  wait : Option ScWait := none
  deadline : Option Nat := none
  cont : Bool := false
  hop : Option Nat := none
  latchHop : Nat := 0
  readyAt : Nat := 0
  blocks : List (Nat × List Nat) := []
  inBlock : Bool := false
  stuck : Option Nat := none
  skip : Nat := 0
  deriving DecidableEq, Repr

/-- What a scribe access or COMMIT does when it takes effect, 6 ticks after issue (R312 to R314, R322):
a write, perhaps masked, or a READ, each with what the host answers when a word is read from host space, or COMMITs. -/
inductive PostAct where
  | write (addr data : Nat) (mask host : Option Nat)
  | read (src dst : Nat) (host : Option Nat)
  | commit (mask : Nat) (cancel : Bool)
  deriving DecidableEq, Repr

/-- A scribe write on its way: its tick, queue, requester (R425), the PC of its command, and
what it does. -/
structure Posted where
  at_ : Nat
  q : Nat
  req : Nat
  pc : Nat
  act : PostAct
  deriving DecidableEq, Repr

/-- The scribe beside its registers (R309, R312): queues, writes on their way, the tick of the last
start, the queue served last in each priority, and the consecutive ticks in which PRIO 1 queues started
while a PRIO 0 queue was ready.
`rdRem` and `wrRem` are the bytes that DMA has read and written beyond whole KiB (DMA_RD_KIB, DMA_WR_KIB). -/
structure Scribe where
  qs : Sparse ScQueue := []
  posted : List Posted := []
  started : Option Nat := none
  last0 : Nat := 7
  last1 : Nat := 7
  streak : Nat := 0
  rdRem : Nat := 0
  wrRem : Nat := 0
  deriving DecidableEq, Repr

/-- An open loop of a DMA channel (R334): the address of its first instruction, passes left, offsets
and strides. -/
structure DmaLoop where
  body : Nat
  left : Option Nat
  so : Int
  dofs : Int
  ss : Int
  ds : Int
  deriving DecidableEq, Repr

/-- A MOVE whose writes are not complete (R331, R332): its address, effective destination, whether the
destination is FIXED, its length, the bytes read, and the error that ends it, as code and address. -/
structure DmaMove where
  pc : Nat
  dst : Nat
  fixed : Bool
  len : Nat
  data : List Nat
  err : Option (Nat × Nat) := none
  deriving DecidableEq, Repr

/-- DMA channel c beside its registers (R328 to R338): open loops (innermost first), MOVEs not
complete (oldest first), whether it WAITs, until a deadline, going on after a timeout or not; hop counts as
for a queue; the tick from which an access has met DRAM in self-refresh; the PC to show when it stops; LOOPs to be passed over to their ENDLOOP. -/
structure DmaCh where
  loops : List DmaLoop := []
  moves : List DmaMove := []
  waiting : Bool := false
  deadline : Option Nat := none
  cont : Bool := false
  hop : Option Nat := none
  latchHop : Nat := 0
  stuck : Option Nat := none
  stopAt : Option Nat := none
  skip : Nat := 0
  deriving DecidableEq, Repr

/-! ### Event router (chapter 11) -/

/-- An occurrence that has not entered the router yet (R343). -/
structure Occurrence where
  producer : Nat
  channel : Nat
  hop : Nat
  tick : Nat
  deriving DecidableEq, Repr

/-- An event on its way to the consumers of its channel (R344, R346). -/
structure EventFlight where
  channel : Nat
  hop : Nat
  coincident : Bool
  deliver : Nat
  deriving DecidableEq, Repr

/-- The router beside its registers: occurrences waiting, events in flight, the ticks from and until which
PULSE outputs are active, the levels TOGGLE outputs hold, and the tick, plus 1, in which a channel's flag was last
set and last cleared by a write (R343 to R351). -/
structure Router where
  waiting : List Occurrence := []
  flight : List EventFlight := []
  pulseFrom : Sparse Nat := []
  pulseUntil : Sparse Nat := []
  toggled : Sparse Nat := []
  flagSet : Sparse Nat := []
  flagCleared : Sparse Nat := []
  deriving DecidableEq, Repr

/-! ### DRAM (chapter 12) -/

/-- A migration in progress (R376): channel, source and target physical ranks, cause and start. -/
structure Migration where
  ch : Nat
  src : Nat
  tgt : Nat
  cause : Nat
  start : Nat
  deriving DecidableEq, Repr

/-- An access that waits in self-refresh (R306): its class, address, the bytes of a write, the tick it came, the
length of a read, and whether it came through BAR2 (R488). -/
structure HeldAccess where
  cls : Nat
  addr : Nat
  bytes : List Nat
  since : Nat
  read : Option Nat := none
  bar : Bool := false
  deriving DecidableEq, Repr

/-- The DRAM controller beside its registers. `mem` holds the data bytes by DRAM address (an
unlisted byte is 0, R534); `flips` holds, by beat (address / 8), the bits of the 80-bit codeword
that differ from the encoding of that data at its own address (R365 to R368). `tgtPoison` are the
beats a migration has written to its target as poison. `held` are the accesses that
wait in self-refresh, oldest first (R306). `ueAt` and `ceAt` are the ticks of the last recorded 0x6002 of a line
and 0x6001 of a rank (R373), `ceHour` the ticks of a rank's corrected errors within one hour
(R374), `alerts` the ticks of a channel's command parity alerts (R375). `pwrDown` names ranks in
power-down, `lastCmd` the tick of a rank's last command (R380). [DESIGN CHOICE, log 105] -/
structure Dram where
  mem : Memory := []
  flips : Sparse Nat := []
  mig : Option Migration := none
  tgtPoison : Sparse Nat := []
  held : List HeldAccess := []
  ueAt : Sparse Nat := []
  ceAt : Sparse Nat := []
  ceHour : Sparse (List Nat) := []
  alerts : Sparse (List Nat) := []
  pwrDown : Sparse Nat := []
  lastCmd : Sparse Nat := []
  hot : Sparse Nat := []
  needInit : Bool := true
  genWr : Sparse Nat := []
  genRd : Sparse Nat := []
  playNext : Option Int := none
  playAt : Option Nat := none
  playRun : Option (Int × Int × Nat) := none
  imgDropRun : Bool := false
  imgOpen : Option (Int × Nat) := none
  deriving DecidableEq, Repr

/-! ### Ethernet ports and network time (chapter 13) -/

/-- A frame that waits in a forwarding buffer (R392): its bytes without FCS, and the counter value in
2^-24 ns (modulo 2^72) at its ingress. -/
structure FwdFrame where
  bytes : List Nat
  ingress : Nat
  deriving DecidableEq, Repr

/-- Ethernet port e beside its registers: frames received on it that wait to leave the other port, the
frames of the open runs of receive drops and forwarding drops, whether a ring has stopped (R411), whether
the LAUNCH descriptor at HEAD waits (R409), frames looped back inside (CTRL.LOOPBACK), and per direction
the tick until which messages hold off, and whether HEAD has moved since (R389). -/
structure NetPort where
  fwd : List FwdFrame := []
  rxRun : Nat := 0
  fwdRun : Nat := 0
  rxStop : Bool := false
  txStop : Bool := false
  launch : Bool := false
  looped : List (List Nat) := []
  rxHold : Option Nat := none
  rxMoved : Bool := false
  txHold : Option Nat := none
  txMoved : Bool := false
  deriving DecidableEq, Repr

/-- The NET block beside its registers: the PTP counter as nanoseconds, wrap count and 2^-24 fraction
(R394); a SET and an ADJ that wait for the next PTP tick (R396); the TCORR the thermal controller asks for
and the tick of the last step (R395); time compares whose target has been ahead since they last fired or
were tested (R403); ports; and the sequence of the next datagram (R407). -/
structure Net where
  ptpNs : Nat := 0
  ptpWrap : Nat := 0
  ptpFrac : Nat := 0
  setTo : Option Nat := none
  adjBy : Option Int := none
  tcorrTo : Int := 0
  tcorrAt : Nat := 0
  ahead : Sparse Nat := []
  ports : Sparse NetPort := []
  dgramSeq : Nat := 0
  deriving DecidableEq, Repr

/-! ### Chains (chapter 14) -/

/-- The newest POS of a port: its source, HOPS, ACC_DELAY + OW and arrival tick (R415, R422). -/
structure PosSeen where
  src : Nat
  hops : Nat
  delay : Nat
  tick : Nat
  deriving DecidableEq, Repr

/-- Peer port k of the chain beside its registers: newest POS, the last 16 one-way results in UI
doubled, the tick of a probe that awaits its reply, and probes unanswered in a row (R413). -/
structure ChainPort where
  pos : Option PosSeen := none
  results : List Int := []
  asked : Option Nat := none
  unanswered : Nat := 0
  deriving DecidableEq, Repr

/-- A member as heartbeats show it (R419, R421): ID, the port it lies below, the tick of its last
heartbeat, XBASE and WIDTH. -/
structure Member where
  id : Nat
  port : Nat
  tick : Nat
  xbase : Nat
  width : Nat
  deriving DecidableEq, Repr

/-- A member that has dropped out (R421): ID, XBASE, WIDTH and the next line to cover. -/
structure LostMember where
  id : Nat
  xbase : Nat
  width : Nat
  next : Int
  deriving DecidableEq, Repr

/-- A mode change armed across the chain (R427 to R431): target, new epoch, commit position (48.16),
the members of the change, and who has acknowledged, applied or split; `held` while this member's
scheduler holds the action, `acked` once it has acknowledged. -/
structure ModeArm where
  target : Nat
  epoch : Nat
  pos : Int
  members : List Nat
  acks : List Nat
  applied : List Nat
  split : List Nat
  held : Bool
  acked : Bool
  appliedAt : Option Nat
  queue : Option Nat
  deriving DecidableEq, Repr

/-- The chain beside its registers. `probeAt`, `hbAt` and `posAt` are the ticks of the next delay probes,
heartbeat and POS. `muted` after a duplicate ID (R418); `lostFrom` is the first line
not triggered when position was lost (R417). `lost` is an accepted change whose action a reset has
discarded (R431, R433). -/
structure Chain where
  ports : Sparse ChainPort := []
  members : List Member := []
  gone : List LostMember := []
  lastPos : Option Nat := none
  posSent : Nat := 0
  lostFrom : Option Int := none
  posLost : Bool := false
  arm : Option ModeArm := none
  lost : Option ModeArm := none
  muted : Bool := false
  conflicts : List Nat := []
  unreachable : List Nat := []
  mismatched : Bool := false
  probeAt : Sparse Nat := []
  hbAt : Nat := 0
  posAt : Nat := 0
  deriving DecidableEq, Repr

/-! ### Modes, faults, summaries (chapter 15) -/

/-- A change of mode as the lines see it (R435): the mode and epoch of every line from `line` on,
until a newer entry says otherwise. -/
structure ModeSpan where
  line : Int
  mode : Nat
  epoch : Nat
  deriving DecidableEq, Repr

/-- The steps of the stop sequence that remain (R440). -/
inductive StopStep where
  | quiesce | cover | summary | selfRefresh | idle | alert
  deriving DecidableEq, Repr

/-- The TOP block beside its registers: the mode history (newest first), the recorder's input queue
(R451), the fault log words, the message holdoff of the fault ring (R452), the summary shown, requests and
the summary taken with its instant (R460, R461), the stop sequence with its tick, halt line, open
record and lowest line retired on the nibs' behalf (R440), handovers that degrade (R438), the tick training began and whether a WARM reset started
it (R443), the newest record of each condition that can be open (R463), the tick from which the recorder
is free, and whether the log is full.
`resetAt` holds, for each block, one more than the tick of its last commanded reset (R531). -/
structure Top where
  hist : List ModeSpan := []
  inQ : List FaultRec := []
  log : Sparse Word := []
  ringHoldUntil : Option Nat := none
  ringMoved : Bool := false
  sumShown : Sparse Word := []
  sumReq : List (Nat × Nat) := []
  sumTaken : Option (Nat × List Nat) := none
  stop : List StopStep := []
  haltLine : Option Int := none
  openFrom : Option Int := none
  degrade : List Nat := []
  warmAt : Option Nat := none
  warmTrain : Bool := false
  openFaults : List (Nat × List Nat) := []
  haltAt : Nat := 0
  haltLow : Option Int := none
  logAt : Nat := 0
  logFull : Bool := false
  resetAt : Sparse Nat := []
  deriving DecidableEq, Repr

/-! ### Calibration and temperature (chapter 16) -/

/-- A temperature sensor beside its registers (R473): consecutive conversions whose chopper phases
returned identical codes, and the tick of its last completed conversion. -/
structure ThermSensor where
  stuck : Nat := 0
  last : Nat := 0
  deriving DecidableEq, Repr

/-- A region beside its registers: consecutive conversions at or above WARN, below WARN − HYST, at or
above CRIT and below CRIT − HYST (R476, R477), and with a disagreeing VOTER (R475); the tick of its last
measurement (R467), and whether AGE_WARN has been exceeded (R483). -/
structure ThermRegion where
  warn : Nat := 0
  cool : Nat := 0
  crit : Nat := 0
  calm : Nat := 0
  disagree : Nat := 0
  measured : Nat := 0
  aged : Bool := false
  deriving DecidableEq, Repr

/-- The calibration run in progress (R467): its region, the tick it began, the tick its measurement began,
whether it measures or steps, whether it measures again, and whether 0xA004 has been recorded. -/
structure CalRun where
  region : Nat
  since : Nat
  start : Nat
  measuring : Bool
  again : Bool
  slow : Bool
  deriving DecidableEq, Repr

/-- The thermal block beside its registers. Codes and their targets are kept by code: 4 × THERM_CALV word
plus the field in it (R470); `window` is the window as written in M1 BOOT, `written` whether it was;
`fresh` are the regions whose first run after a reset is still to come, and `noCodes` those that have no
codes yet (R468); `pend` the regions whose run waits; `stepAt` the tick of the last boundary used, by lane
group and channel (R466); `ref` the target of REF_TRIM (R480). `tripped` since a hardware trip (R478). -/
structure Therm where
  sens : Sparse ThermSensor := []
  regions : Sparse ThermRegion := []
  codes : Sparse Int := []
  targets : Sparse (Option Int) := []
  window : Sparse Word := []
  written : Bool := false
  rejected : Bool := false
  fresh : List Nat := [0, 1, 2, 3, 4, 5, 6, 7]
  noCodes : List Nat := [0, 1, 2, 3, 4, 5, 6, 7]
  pend : List Nat := [0, 1, 2, 3, 4, 5, 6, 7]
  run : Option CalRun := none
  stepAt : Sparse (Option Nat) := []
  ref : Int := 0
  tripped : Bool := false
  deriving DecidableEq, Repr

/-! ### Host interface, boot and fuses, pins and test (chapters 17 and 18) -/

/-- The SEC block beside its registers: the level of PERST_N (R489); the tick from which a requester's
refusal is recorded again (R500); the requester of the mailbox command that waits, its tick and the answer
the ranger has ready: RESULT and reply (R497); the sources the ROM has tried as a mask, and whether the
host image is awaited (R491); the straps that SEC_STRAPS does not show (R513). -/
structure Sec where
  perst : Bool := true
  deniedAt : Sparse Nat := []
  mboxReq : Nat := 0
  mboxAt : Nat := 0
  answer : Option (Nat × List Nat) := none
  tried : Nat := 0
  hostBoot : Bool := false
  mdDev : Nat := 0
  mdRanks : Nat := 0
  i2c : Nat := 0
  deriving DecidableEq, Repr

/-- The test port and the management target (R523, R524): the instruction in force (after reset IDCODE),
the boundary register as preloaded, whether the ranger is halted, the 78-bit MEM_ACCESS register, and the
management pointer. `falling` while RESET_N is low under RETAIN before the reset (R515). -/
structure Jtag where
  inst : Nat := 1
  boundary : Nat := 0
  halted : Bool := false
  mem : Nat := 0
  pointer : Nat := 0
  falling : Bool := false
  deriving DecidableEq, Repr

/-- How a request of the host through a BAR completes (R9, R13, R488): a write, a read with its bytes,
Unsupported Request, or Completer Abort. -/
inductive Completion where
  | written
  | data (v : List Nat)
  | unsupported
  | aborted
  deriving DecidableEq, Repr

/-- A DRAM access that has completed: address, the bytes read, and the first address that answered with
an error (R373). -/
structure DramReply where
  addr : Nat
  bytes : List Nat
  bad : Option Nat
  deriving DecidableEq, Repr

/-- What the block has sent to the outside, oldest first: MSI-X vectors, DRAM replies, training bursts,
packets, link requests, host memory written, Ethernet frames with their port and FCS, completions of the
host's requests, flash copies written, management replies and test data. [DESIGN CHOICE, log 12] -/
structure Outputs where
  msix : List Nat := []
  dram : List DramReply := []
  trainBurst : List (Nat × List Nat) := []
  packets : List (Nat × Nat × Packet) := []
  requests : List (Nat × Nat × Nat × Nat) := []
  host : Sparse (Option Nat) := []
  eth : List (Nat × List Nat) := []
  bar : List Completion := []
  flash : List (Nat × List Nat) := []
  mgmt : List Nat := []
  tdo : List Nat := []
  deriving DecidableEq, Repr

/-! ### The whole state -/

/-- The state of the LM9612: the queue of commands that wait (first in, first out), the registers
of BAR0 (words that differ from their reset value), the latched HI halves and staged LO halves of
64-bit pairs (R10), the shadow words overwritten of late, with their ticks (R107), and each unit.
`freeCount` is the model's own: it counts the free values drawn so far. [DESIGN CHOICE, log 1] -/
structure State where
  pending : List Instr
  regs : Sparse Word
  latchHi : Sparse (Option Word)
  stageLo : Sparse (Option Word)
  shOld : Sparse (List (Nat × Word))
  /-- the timeline (chapter 1) -/
  tl : Timeline
  /-- the strokes (chapter 2) -/
  st : Sparse Stroke
  /-- the Zhevlis ports (chapter 3) -/
  zl : Sparse Zl
  /-- context x of pipe p at key 2p + x (chapter 4) -/
  pctx : Sparse PipeCtx
  /-- the pixel pipes (chapter 4) -/
  pipes : Sparse Pipe
  /-- the stitcher (chapter 5) -/
  stitch : Stitch
  /-- the fine path (chapter 6) -/
  fine : Fine
  /-- the profile engine (chapter 6) -/
  prof : Profile
  /-- the sensor port (chapter 6) -/
  sens : Sensor
  /-- the master path (chapter 7) -/
  mas : Master
  /-- the scaler and emitter (chapter 8) -/
  scal : Scaler
  /-- quill q at key q (chapter 9) -/
  quill : Sparse Quill
  /-- the output rows drained of late, newest first (chapter 9) -/
  scores : List ScoreRow
  /-- the scribe (chapter 10) -/
  scribe : Scribe
  /-- DMA channel c at key c (chapter 10) -/
  dma : Sparse DmaCh
  /-- the event router (chapter 11) -/
  ev : Router
  /-- the DRAM controller (chapter 12) -/
  dram : Dram
  /-- Ethernet ports and network time (chapter 13) -/
  net : Net
  /-- the chain (chapter 14) -/
  chain : Chain
  /-- modes, faults, summaries (chapter 15) -/
  top : Top
  /-- calibration and temperature (chapter 16) -/
  therm : Therm
  /-- host interface, boot and fuses (chapter 17) -/
  sec : Sec
  /-- test port and management target (chapter 18) -/
  jtag : Jtag
  /-- what the block has sent to the outside -/
  out : Outputs
  freeCount : Nat
  deriving DecidableEq, Repr

/-- Why the machine stops with a fault. No command of this block does: the faults of the manual are
records that the block writes while it goes on (R447, R451). -/
inductive Fault where
  /-- Raised by no command; kept so that the type is not empty. Safe: a stop proves nothing. -/
  | none
  deriving DecidableEq, Repr

/-- Why a command is refused. -/
inductive Refusal where
  /-- A command whose meaning has not been written. Safe: a refusal proves nothing. -/
  | notModelled (mnemonic : String)
  deriving DecidableEq, Repr

/-- The machine right after reset: the release of a power-on reset, in M1 BOOT (R434, R442).  Every
register reads its reset value, no command waits, and every unit holds its reset values.
[DESIGN CHOICE, log 5] -/
def State.reset : State :=
  { pending := [], regs := [], latchHi := [], stageLo := [], shOld := []
    tl := {}
    st := []
    zl := []
    pctx := []
    pipes := []
    stitch := {}
    fine := {}
    prof := {}
    sens := {}
    mas := {}
    scal := {}
    quill := []
    scores := []
    scribe := {}
    dma := []
    ev := {}
    dram := {}
    net := {}
    chain := {}
    top := {}
    therm := {}
    sec := {}
    jtag := {}
    out := {}
    freeCount := 0 }

end Sys2Proof.Machine
end

