-- ==== Sys2Proof/Machine/Ops.lean ====
section
/-! DEFINITION. The named operations over the state that every unit shares: registers and fields,
time and position, faults, event occurrences, MSI-X requests, modes and coverage. -/

namespace Sys2Proof.Machine

open Sys2Proof

/-! ### Registers and fields (R9, R10) -/

/-- The 32-bit word held at a BAR0 offset. -/
def State.reg (s : State) (off : Nat) : Word := spGet resetWord s.regs off

/-- The state with the word at a BAR0 offset replaced. -/
def State.setReg (s : State) (off : Nat) (v : Word) : State :=
  { s with regs := spSet resetWord s.regs off v }

/-- The register or pair that holds a field, as a number. -/
def State.fieldReg (s : State) (f : Fld) : Nat :=
  if f.lsb + f.w ≤ 32 then (s.reg f.off).toNat
  else (s.reg f.off).toNat + (s.reg (f.off + 4)).toNat * 2 ^ 32

/-- The value of a field. -/
def State.rd (s : State) (f : Fld) : Nat := bitsAt (s.fieldReg f) f.lsb f.w

/-- The value of a field as a two's complement number (R6). -/
def State.rdS (s : State) (f : Fld) : Int := signed f.w (s.rd f)

/-- Is a field non-zero? -/
def State.on (s : State) (f : Fld) : Bool := s.rd f != 0

/-- The state with a field replaced; other bits of the register stay. -/
def State.wr (s : State) (f : Fld) (v : Nat) : State :=
  if f.lsb + f.w ≤ 32 then
    s.setReg f.off (BitVec.ofNat 32 (putBits (s.reg f.off).toNat f.lsb f.w v))
  else
    let n := putBits (s.fieldReg f) f.lsb f.w v
    (s.setReg f.off (BitVec.ofNat 32 n)).setReg (f.off + 4) (BitVec.ofNat 32 (n / 2 ^ 32))

/-- The state with a field set to a two's complement value (R6). -/
def State.wrS (s : State) (f : Fld) (v : Int) : State := s.wr f (toBits f.w v)

/-- The state with a one-bit flag set. -/
def State.set1 (s : State) (f : Fld) : State := s.wr f 1

/-- The state with a field advanced modulo its width. [DEDUCED, log 143] -/
def State.bump (s : State) (f : Fld) (n : Nat := 1) : State := s.wr f (s.rd f + n)

/-- The state with a field advanced, saturating at its width. -/
def State.bumpSat (s : State) (f : Fld) (n : Nat := 1) : State :=
  s.wr f (min (s.rd f + n) (2 ^ f.w - 1))

/-! ### Time, position, mode (R15, R17, R435) -/

/-- Timeline ticks in a microsecond (2.5 ns each). -/
def ticksPerUs : Nat := 400

/-- The present timeline tick. [DEDUCED, log 28] -/
def State.now (s : State) : Nat := s.tl.tick

/-- Web position in 48.16, truncated toward minus infinity (R15). -/
def State.pos16 (s : State) : Int := floorShift s.tl.pos 24

/-- The line number: the integer part of web position (R15). -/
def State.line (s : State) : Int := floorShift s.tl.pos 40

/-- A line as a 48.16 position with fraction 0. -/
def linePos (l : Int) : Int := l * 65536

/-- The mode in force (TOP_MODE.MODE). -/
def State.mode (s : State) : Nat := s.rd TOP_MODE_MODE

/-- The mode and epoch of the web at a line: those of the newest change that applies to it (R2). -/
def spanAt (dm : Nat) : List ModeSpan → Int → Nat × Nat
  | [], _ => (dm, 0)
  | h :: hs, l => if h.line ≤ l then (h.mode, h.epoch) else spanAt dm hs l

/-- The mode in force at a line's own position (R2); M1 BOOT before any change. -/
def State.modeOf (s : State) (l : Int) : Nat := (spanAt 1 s.top.hist l).1

/-- The mode epoch that applies to a line (R2). -/
def State.epochOf (s : State) (l : Int) : Nat := (spanAt 1 s.top.hist l).2

/-- M5 THREAD, M6 LEARN, M7 INSPECT and M8 INSPECT-DEGRADED: the modes whose lines coverage
accounts for (R538). -/
def inspecting (m : Nat) : Bool := decide (5 ≤ m) && decide (m ≤ 8)

/-- The line that stands for "open" in a coverage record: LAST 0x7FFF_FFFF_FFFF_0000 (R440). -/
def openLine : Int := (2 : Int) ^ 47 - 1

/-- The parts of lines `a .. b` whose own position lies in a mode that satisfies a test, from the oldest
change to the newest, neighbouring parts joined (R2). `upper` bounds the span of the entries seen so
far. -/
def modeSpans (ok : Nat → Bool) : List ModeSpan → Int → Int → Int → List (Int × Int)
  | [], _, _, _ => []
  | h :: hs, upper, a, b =>
    let older := modeSpans ok hs (min upper (h.line - 1)) a b
    let lo := max a h.line
    let hi := min b upper
    if ok h.mode && decide (lo ≤ hi) then
      match older.reverse with
      | (p, q) :: rest => if q + 1 = lo then (rest.reverse ++ [(p, hi)]) else older ++ [(lo, hi)]
      | [] => [(lo, hi)]
    else older

/-- The parts of lines `a .. b` that lie in M5 to M8 (R538). [DEDUCED, log 41] -/
def inspectedSpans (hist : List ModeSpan) (upper a b : Int) : List (Int × Int) :=
  modeSpans inspecting hist upper a b

/-! ### Faults (R447 to R451) -/

/-- A detail word of one slot (R448). [DEDUCED, log 11] -/
def slot1 (n : Nat) : List Nat := [n % 2 ^ 32]

/-- A detail word of two slots, low half first: a line, position, address, tick or time (R448). -/
def slot2 (n : Nat) : List Nat := [n % 2 ^ 32, n / 2 ^ 32 % 2 ^ 32]

/-- A signed one-slot detail word (R448). -/
def slotI (i : Int) : List Nat := slot1 (toBits 32 i)

/-- A 48.16 position as two slots (R448). -/
def slotPos (p : Int) : List Nat := slot2 (toBits 64 p)

/-- A line as two slots: 48.16 with fraction 0 (R448). [DEDUCED, log 11] -/
def slotLine (l : Int) : List Nat := slotPos (linePos l)

/-- A fault enters the recorder's queue: those of one tick stand in ascending order of SOURCE, then of CODE,
and take their SEQs in that order (R451). [DEDUCED, log 10] -/
def enterFault (f : FaultRec) : List FaultRec → List FaultRec
  | [] => [f]
  | g :: gs =>
    if g.tick = f.tick && (decide (f.source < g.source) || (f.source = g.source && decide (f.code < g.code))) then
      { f with seq := g.seq } :: enterFault { g with seq := f.seq } gs
    else g :: enterFault f gs

/-- A fault is detected: it takes a SEQ and enters the recorder's 64-entry queue, or is lost and
counted when the queue is full (R447, R451). [DEDUCED, log 2; DEDUCED, log 10] -/
def State.fault (s : State) (source code : Nat) (slots : List Nat) : State :=
  let seq := s.rd TOP_FAULT_SEQ
  let s := s.wr TOP_FAULT_SEQ (seq + 1)
  if s.top.inQ.length < 64 then
    let f : FaultRec :=
      { code := code, source := source, seq := seq, epoch := s.rd TOP_EPOCH, pos := s.pos16
        ptpNs := s.net.ptpNs, ptpWrap := s.net.ptpWrap, slots := slots, tick := s.now }
    { s with top := { s.top with inQ := enterFault f s.top.inQ } }
  else (s.bump TOP_FAULT_LOST).set1 TOP_STATUS_FAULT_LOST

/-- SOURCE numbers (R449): bits [23:16] of the BAR0 base of the block. -/
def srcTop : Nat := 0x00
def srcTimeline : Nat := 0x01
def srcStroke : Nat := 0x02
def srcEvent : Nat := 0x03
def srcScribe : Nat := 0x04
def srcDma : Nat := 0x05
def srcTherm : Nat := 0x06
def srcSec : Nat := 0x07
def srcNet : Nat := 0x08
def srcChain : Nat := 0x09
def srcDramc : Nat := 0x0A
def srcProfile : Nat := 0x0C
def srcSensor : Nat := 0x0D
def srcZl (n : Nat) : Nat := 0x10 + n
def srcPipe (p : Nat) : Nat := 0x20 + p
def srcStitch : Nat := 0x30
def srcMaster : Nat := 0x31
def srcFine : Nat := 0x32
def srcScaler : Nat := 0x33
def srcQuill (q : Nat) : Nat := 0x40 + 4 * q
def srcRanger : Nat := 0xFE

/-- A rejected write: CFG_REJECT of the block is set and fault 0x7025 recorded with the register
offset and the value (R12). [DEDUCED, log 16] -/
def State.reject (s : State) (flag : Fld) (source off v : Nat) : State :=
  (s.set1 flag).fault source 0x7025 (slot1 off ++ slot1 v)

/-! ### Event occurrences (R343) -/

/-- An occurrence of a producer that names its own channel (producers 249 to 252). [DEDUCED, log 104] -/
def State.occurOn (s : State) (producer channel hop : Nat) : State :=
  let o : Occurrence := { producer := producer, channel := channel, hop := hop, tick := s.now }
  { s with ev := { s.ev with waiting := s.ev.waiting ++ [o] } }

/-- An occurrence of a producer, on the channel EVENT_PRODp names; discarded while EN is 0. -/
def State.occur (s : State) (producer : Nat) (hop : Nat := 0) : State :=
  if s.on (EVENT_PROD_EN producer) then s.occurOn producer (s.rd (EVENT_PROD_CHANNEL producer)) hop
  else s

/-! ### MSI-X (R490) -/

/-- The pending bit of vector v. -/
def msixPba (v : Nat) : Fld := ⟨(SEC_MSIX_PBA (v / 32)).off, v % 32, 1⟩

/-- Vector v may be sent: MSI-X enabled, PERST_N high, function and vector not masked (R489, R490). -/
def State.msixOpen (s : State) (v : Nat) : Bool :=
  s.on SEC_PCIE_MSIX_EN && !s.on SEC_PCIE_FUNC_MASK && !s.on (SEC_MSIX_CTRL v)

/-- Send the message of vector v and clear its pending bit; while PERST_N is low the message is
discarded (R489). [DEDUCED, log 153] -/
def State.msixSend (s : State) (v : Nat) : State :=
  let s := s.wr (msixPba v) 0
  if s.sec.perst then { s with out := { s.out with msix := s.out.msix ++ [v] } } else s

/-- A request for an MSI-X vector (R490). -/
def State.msix (s : State) (v : Nat) : State :=
  let v := v % 256
  if !s.on SEC_PCIE_MSIX_EN then (s.set1 SEC_STATUS_MSIX_LOST).bump SEC_MSIX_LOST
  else
    let s := s.set1 (msixPba v)
    if s.msixOpen v then s.msixSend v else s

/-- Every web output is high-impedance: in reset, after a trip, under HIGHZ, and while RESET_N has fallen under RETAIN
(R4, R478, R515, R516, R524). -/
def State.webOff (s : State) : Bool := s.mode == 0 || s.therm.tripped || s.jtag.falling || s.jtag.inst == 4

/-! ### Event pins (R348, R349) -/

/-- Is output pin n at its active level (R349)? -/
def State.pinActive (s : State) (n : Nat) : Bool :=
  if s.on (EVENT_PIN_CTRL_OUT_MODE n) then spGet (fun _ => 0) s.ev.toggled n == 1
  else decide (spGet (fun _ => 0) s.ev.pulseFrom n ≤ s.now) && decide (s.now < spGet (fun _ => 0) s.ev.pulseUntil n)

/-- The level of pin n that EVENT_PINLVL shows: that of an output, else the accepted level of the input. -/
def State.pinLevel (s : State) (n : Nat) : Bool :=
  if s.on (EVENT_PIN_CTRL_DIR n) then s.pinActive n == s.on (EVENT_PIN_CTRL_POLARITY n)
  else s.on ⟨EVENT_PINLVL.off, n, 1⟩

/-! ### Free values -/

/-- The next free value of `w` bits: nothing constrains it. [DESIGN CHOICE, log 6] -/
def State.free (s : State) (w : Nat) : Nat × State :=
  ((Config.freeValue s.freeCount) % 2 ^ w, { s with freeCount := s.freeCount + 1 })

/-- The device's own DEVICE_ID in records. -/
def State.deviceId (s : State) : Nat := s.rd CHAIN_CFG_DEVICE_ID

/-- Stitched width and XBASE (R133): the span of a full-width coverage record. -/
def State.fullSpan (s : State) : Nat × Nat :=
  let xb := s.rd STITCH_XBASE
  (xb, xb + s.rd STITCH_LAYOUT_WIDTH - 1)

/-! ### Host memory (R489) -/

/-- A write of the block to a PCI Express address; discarded while PERST_N is low (R489).
[DESIGN CHOICE, log 12; DEDUCED, log 153] -/
def State.hostPut (s : State) (a : Nat) (bs : List Nat) : State :=
  if s.sec.perst then
    { s with out := { s.out with host := spSetMany (fun _ => none) s.out.host a (bs.map (fun b => some (b % 256))) } }
  else s

end Sys2Proof.Machine
end

