-- ==== Sys2Proof/Machine/Dram.lean ====
section
/-! DEFINITION. The DRAM controller: addresses, the check code, reads, writes, uncorrectable errors,
migration, scrubbing, power states and training helpers (R354 to R358, R365 to R386). -/

namespace Sys2Proof.Machine

open Sys2Proof

/-! ### Addresses (R357) -/

/-- Channels in use, and their logarithm (R355). -/
def State.nch (s : State) : Nat := if s.on DRAMC_CFG_CHANNELS then 8 else 4
def State.nchLog (s : State) : Nat := if s.on DRAMC_CFG_CHANNELS then 3 else 2

/-- Row bits R of a device type (R354). -/
def rowBits (device : Nat) : Nat := if device = 1 then 16 else 17

/-- Lines of one rank: 2^(11 + R). -/
def State.rankLineBits (s : State) : Nat := 11 + rowBits (s.rd DRAMC_CFG_DEVICE)

/-- DRAMC_SIZE (R356): CHANNELS × (RANKS − SPARE_EN) × rank size. -/
def State.dramCfgSize (s : State) : Nat :=
  s.nch * (s.rd DRAMC_CFG_RANKS + 1 - s.rd DRAMC_CFG_SPARE_EN) * 2 ^ (s.rankLineBits + 7)

/-- The place of a DRAM address (R357): channel, logical rank, line in the rank, address parity. -/
structure DramPlace where
  ch : Nat
  rank : Nat
  line : Nat
  parity : Nat
  deriving DecidableEq, Repr

/-- R357. -/
def State.place (s : State) (a : Nat) : DramPlace :=
  let l := a / 128
  let c := l / 2 ^ s.nchLog
  let n := s.rankLineBits
  { ch := xorNat 3 (l % s.nch) (bitsAt c 6 3 % s.nch)
    rank := bitsAt c n 2
    line := c % 2 ^ n
    parity := popCount n c % 2 }

/-- The DRAM address of a line of a logical rank: the inverse of R357. -/
def State.placeAddr (s : State) (ch rank line : Nat) : Nat :=
  let c := rank * 2 ^ s.rankLineBits + line
  (c * 2 ^ s.nchLog + xorNat 3 ch (bitsAt c 6 3 % s.nch)) * 128

/-- RANK_MAP of logical rank k, and STATE of physical rank k. -/
def rankMapF (ch k : Nat) : Fld := ⟨(DRAMC_CH_RANK_MAP ch).off, 2 * k, 2⟩
def rankStateF (ch k : Nat) : Fld := ⟨(DRAMC_CH_RANK_STATE ch).off, 4 * k, 4⟩

/-- Rank states. -/
def rankInService : Nat := 1
def rankSpareReady : Nat := 2
def rankMigSource : Nat := 3
def rankMigTarget : Nat := 4
def rankRetired : Nat := 5
def rankFailedTrain : Nat := 6

/-- The physical rank that serves an address. -/
def State.physRank (s : State) (a : Nat) : Nat :=
  let p := s.place a
  s.rd (rankMapF p.ch p.rank)

/-! ### The check code (R365 to R368) -/

/-- g(x) = m1(x) m3(x) = (x^7 + x^3 + 1)(x^7 + x^3 + x^2 + x + 1) (R366). -/
def bchG : Nat := 0x4377

/-- Remainder modulo g(x) of a polynomial of degree below 14 + k. -/
def polyMod : Nat → Nat → Nat
  | 0, n => n
  | k + 1, n => polyMod k (if bitAt n (14 + k) then n ^^^ (bchG * 2 ^ k) else n)

/-- The 80-bit codeword of 64 data bits at an address of parity `a` (R365, R366). -/
def encodeBeat (d a : Nat) : Nat :=
  let b := polyMod 65 ((d % 2 ^ 64 + a * 2 ^ 64) * 2 ^ 14)
  let w := d % 2 ^ 64 + b * 2 ^ 64 + a * 2 ^ 79
  w + popCount 80 w % 2 * 2 ^ 78

/-- The received polynomial: w[79] and w[63:0] above w[77:64]. -/
def beatPoly (w : Nat) : Nat := bitsAt w 64 14 + bitsAt w 0 64 * 2 ^ 14 + bitsAt w 79 1 * 2 ^ 78

/-- The BCH syndrome S (R367). -/
def syndrome (w : Nat) : Nat := polyMod 65 (beatPoly w)

/-- The codeword bit of coefficient j of the received polynomial. -/
def coefBit (j : Nat) : Nat := if j < 14 then 64 + j else if j < 78 then j - 14 else 79

/-- The syndrome of a single error in coefficient j. -/
def coefSyn (j : Nat) : Nat := polyMod 65 (2 ^ j)

/-- The single error a syndrome names. -/
def singleError (syn : Nat) : Option Nat := firstIdx 79 (fun j => coefSyn j == syn)

/-- The double error a syndrome names. [DEDUCED, log 106] -/
def doubleError (syn : Nat) : Option (Nat × Nat) :=
  (List.range 79).findSome? (fun i =>
    (firstIdx 79 (fun j => decide (i < j) && (coefSyn i ^^^ coefSyn j) == syn)).map (fun j => (i, j)))

/-- The outcomes of a read (R367, R368). -/
inductive ReadKind where
  | clean | corrected | address | uncorrectable | poison
  deriving DecidableEq, Repr

/-- The poison pattern at an address of parity `a` (R368). -/
def poisonBeat (a : Nat) : Nat := encodeBeat 0 a ^^^ 7

/-- Decode of a beat read at an address of parity `a`: the outcome, the data, the syndrome (R367).
[DEDUCED, log 106] -/
def decodeBeat (w a : Nat) : ReadKind × Nat × Nat :=
  let syn := syndrome w
  let q := popCount 80 w % 2
  let finish (k : ReadKind) (w : Nat) : ReadKind × Nat × Nat :=
    if bitsAt w 79 1 = a then (k, bitsAt w 0 64, syn) else (.address, bitsAt w 0 64, syn)
  if w = poisonBeat a then (.poison, 0, syn)
  else if syn = 0 then
    if q = 0 then finish .clean w else finish .corrected (w ^^^ 2 ^ 78)
  else if q = 1 then
    match singleError syn with
    | some j => finish .corrected (w ^^^ 2 ^ coefBit j)
    | none => (.uncorrectable, bitsAt w 0 64, syn)
  else
    match doubleError syn with
    | some (i, j) => finish .corrected (w ^^^ 2 ^ coefBit i ^^^ 2 ^ coefBit j)
    | none => (.uncorrectable, bitsAt w 0 64, syn)

/-- Is an outcome an uncorrectable result? -/
def ReadKind.bad : ReadKind → Bool
  | .clean => false
  | .corrected => false
  | _ => true

/-! ### Contents -/

/-- [DESIGN CHOICE, log 105] -/
def State.dramByte (s : State) (a : Nat) : Nat := Memory.byte s.dram.mem a

/-- The 64 data bits written to a beat. -/
def State.beatData (s : State) (b : Nat) : Nat :=
  ofLeBytes (Memory.bytes s.dram.mem (8 * b) 8)

/-- What a read of a beat returns. [DESIGN CHOICE, log 105] -/
def State.readBeat (s : State) (b : Nat) : ReadKind × Nat × Nat :=
  let f := spGet (fun _ => 0) s.dram.flips b
  let par := (s.place (8 * b)).parity
  if f = 0 then (.clean, s.beatData b, 0)
  else decodeBeat (encodeBeat (s.beatData b) par ^^^ f) par

/-- Replace the data of a beat, its codeword correct. -/
def State.putBeat (s : State) (b d : Nat) : State :=
  { s with dram := { s.dram with
      mem := Memory.put s.dram.mem (8 * b) (leBytes 8 d)
      flips := spSet (fun _ => 0) s.dram.flips b 0
      tgtPoison := spSet (fun _ => 0) s.dram.tgtPoison b 0 } }

/-- Write poison to a beat (R368). -/
def State.putPoison (s : State) (b : Nat) : State :=
  let s := s.putBeat b 0
  { s with dram := { s.dram with flips := spSet (fun _ => 0) s.dram.flips b 7 } }

/-- Is a device-space-0 range inside DRAMC_SIZE? -/
def State.dramFits (s : State) (a n : Nat) : Bool := decide (a + n ≤ s.rd DRAMC_SIZE)

/-- Requester classes in the order of R370. -/
def clsImage : Nat := 0
def clsMaster : Nat := 1
def clsDma : Nat := 2
def clsHost : Nat := 3
def clsTable : Nat := 4
def clsMaint : Nat := 5

/-! ### Migration (R374, R376 to R378) -/

/-- Ticks in a second, and in an hour. -/
def ticksPerSec : Nat := 400000000
def ticksPerHour : Nat := 3600 * ticksPerSec

/-- Start of a migration of a physical rank (R374, R378), when the channel's spare is ready and no
migration runs; without a ready spare fault 0x6013 is recorded. -/
def State.migrate (s : State) (ch src cause : Nat) : State :=
  if s.dram.mig.isSome then s
  else
    match firstIdx 4 (fun k => k != src && s.rd (rankStateF ch k) == rankSpareReady) with
    | none => (s.set1 DRAMC_STATUS_NO_SPARE).fault srcDramc 0x6013 (slot1 ch ++ slot1 src)
    | some t =>
      let s := (s.wr (rankStateF ch src) rankMigSource).wr (rankStateF ch t) rankMigTarget
      let s := (s.set1 DRAMC_STATUS_MIGRATING).set1 DRAMC_MIG_BUSY
      let s := s.wr DRAMC_MIG_PTR 0
      let s := { s with dram := { s.dram with
        mig := some ⟨ch, src, t, cause, s.now⟩, tgtPoison := [] } }
      s.fault srcDramc 0x6010 (slot1 ch ++ slot1 src ++ slot1 t ++ slot1 cause)

/-- RANK_POLICY after an uncorrectable result or a command error (R374, R375). -/
def State.rankPolicy (s : State) (ch rank cause : Nat) : State :=
  if s.on DRAMC_CFG_RANK_POLICY then s.migrate ch rank cause else s

/-! ### Results of reads (R367, R373, R374) -/

/-- A corrected read of a rank: counters, 0x6001 once a second, CE_LIMIT within one hour. [DEDUCED, log 108] -/
def State.noteCe (s : State) (ch rank a : Nat) : State :=
  let key := 4 * ch + rank
  let s := (s.set1 DRAMC_STATUS_CE).bump (DRAMC_CH_CE ch rank)
  let s :=
    match spFind s.dram.ceAt key with
    | some t => if t + ticksPerSec ≤ s.now then
        ({ s with dram := { s.dram with ceAt := spInsert s.dram.ceAt key s.now } }).fault srcDramc
          0x6001 (slot1 ch ++ slot1 rank ++ slot2 a)
      else s
    | none =>
      ({ s with dram := { s.dram with ceAt := spInsert s.dram.ceAt key s.now } }).fault srcDramc
        0x6001 (slot1 ch ++ slot1 rank ++ slot2 a)
  let hour := s.now :: (spGet (fun _ => []) s.dram.ceHour key).filter
    (fun t => decide (s.now < t + ticksPerHour))
  let lim := s.rd (DRAMC_CH_CE_LIMIT ch)
  if lim != 0 && decide (lim < hour.length) then
    let s := { s with dram := { s.dram with ceHour := spSet (fun _ => []) s.dram.ceHour key [] } }
    (s.fault srcDramc 0x6041 (slot1 ch ++ slot1 rank ++ slot1 hour.length)).migrate ch rank 2
  else { s with dram := { s.dram with ceHour := spSet (fun _ => []) s.dram.ceHour key hour } }

/-- An uncorrectable result of a read (R373): counter, error log and fault. -/
def State.noteUe (s : State) (k : ReadKind) (ch rank a cls syn : Nat) : State :=
  let s := (s.set1 DRAMC_STATUS_UE).bump (DRAMC_CH_UE ch rank)
  let s := if k = .address then s.set1 DRAMC_STATUS_ADDR_ERR else s
  let kind := match k with
    | .address => 1
    | .poison => 2
    | _ => 0
  let s := s.wr DRAMC_ERR_ADDR a
  let s := (s.wr DRAMC_ERR_INFO_CH ch).wr DRAMC_ERR_INFO_RANK rank
  let s := ((s.wr DRAMC_ERR_INFO_KIND kind).wr DRAMC_ERR_INFO_CLASS cls).wr DRAMC_ERR_INFO_SYNDROME syn
  let det := slot1 ch ++ slot1 rank ++ slot2 a ++ slot1 cls
  match k with
  | .address => s.fault srcDramc 0x6003 det
  | .poison => s.fault srcDramc 0x6005 det
  | _ =>
    let key := a / 128
    let due := match spFind s.dram.ueAt key with
      | some t => decide (t + ticksPerSec ≤ s.now)
      | none => true
    if due then
      ({ s with dram := { s.dram with ueAt := spInsert s.dram.ueAt key s.now } }).fault srcDramc
        0x6002 det
    else s

/-- The rank of a beat's read receives a command and wakes from power-down (R380). -/
def State.rankCmd (s : State) (a : Nat) : State :=
  let key := 4 * (s.place a).ch + s.physRank a
  { s with dram := { s.dram with
      lastCmd := spSet (fun _ => 0) s.dram.lastCmd key s.now
      pwrDown := spSet (fun _ => 0) s.dram.pwrDown key 0 } }

/-- The outcome of one beat of a read that is not clean: effects, and whether it failed. -/
def State.noteBeat (s : State) (b cls : Nat) : Bool × State :=
  let r := s.readBeat b
  let p := s.place (8 * b)
  let rank := s.physRank (8 * b)
  match r.1 with
  | .clean => (false, s)
  | .corrected =>
    let s := s.noteCe p.ch rank (8 * b)
    (false, if s.on DRAMC_CFG_CE_WRITEBACK then s.putBeat b r.2.1 else s)
  | .poison => (true, s.noteUe .poison p.ch rank (8 * b) cls r.2.2)
  | k => (true, (s.noteUe k p.ch rank (8 * b) cls r.2.2).rankPolicy p.ch rank 0)

/-- The beats of a range that hold a difference from their encoding. -/
def State.flippedIn (s : State) (a n : Nat) : List Nat :=
  (s.dram.flips.filter (fun e => decide (a / 8 ≤ e.1) && decide (8 * e.1 < a + n))).map (·.1)

/-- The effects of a read of a range: the first failing address, if any, and the state. -/
def State.dramTouch (s : State) (a n cls : Nat) : Option Nat × State :=
  (s.flippedIn a n).foldl (fun (r : Option Nat × State) b =>
    let t := r.2.noteBeat b cls
    (if t.1 && r.1.isNone then some (8 * b) else r.1, t.2)) (none, s.rankCmd a)

/-- The bytes a read of a range returns, with the correction of each beat. -/
def State.dramBytes (s : State) (a n : Nat) : List Nat :=
  tabulate n (fun i =>
    let x := a + i
    if spGet (fun _ => 0) s.dram.flips (x / 8) = 0 then s.dramByte x
    else bitsAt (s.readBeat (x / 8)).2.1 (8 * (x % 8)) 8)

/-- The contents of a range as a sparse store keyed from 0, with correction. -/
def State.dramSlice (s : State) (a n : Nat) : Sparse Nat :=
  let m := (s.flippedIn a n).foldl (fun m b =>
    Memory.put m (8 * b) (leBytes 8 (s.readBeat b).2.1)) s.dram.mem
  (m.filter (fun e => decide (a ≤ e.1) && decide (e.1 < a + n))).map (fun e => (e.1 - a, e.2.toNat))

/-- A read by a unit: the bytes, the first failing address, the state. -/
def State.dramRead (s : State) (a n cls : Nat) : List Nat × Option Nat × State :=
  let bs := s.dramBytes a n
  let t := s.dramTouch a n cls
  (bs, t.1, t.2)

/-! ### Writes (R366, R369) -/

/-- A beat written in part is read, corrected and written back; an uncorrectable one becomes poison
and the write fails (R369). -/
def State.partialBeat (s : State) (b cls : Nat) : Bool × State :=
  let r := s.readBeat b
  if r.1.bad then
    let p := s.place (8 * b)
    let s := s.noteUe .uncorrectable p.ch (s.physRank (8 * b)) (8 * b) cls r.2.2
    (true, s.putPoison b)
  else
    let s := if r.1 = .corrected then s.noteCe (s.place (8 * b)).ch (s.physRank (8 * b)) (8 * b) else s
    (false, s.putBeat b r.2.1)

/-- Store of bytes whose partial beats have been read: the codewords become those of the new data. -/
def State.storeBytes (s : State) (a : Nat) (bs : List Nat) (poisoned : List Nat) : State :=
  let n := bs.length
  let mem := Memory.put s.dram.mem a bs
  let s := { s with dram := { s.dram with
    mem := mem
    flips := spClear s.dram.flips (a / 8) ((a + n + 7) / 8)
    tgtPoison := spClear s.dram.tgtPoison (a / 8) ((a + n + 7) / 8) } }
  poisoned.foldl (fun s b => s.putPoison b) s

/-- A write to DRAM that is in service: the first failing address, if any, and the state. -/
def State.dramWriteNow (s : State) (a : Nat) (bs : List Nat) (cls : Nat) : Option Nat × State :=
  let n := bs.length
  if n = 0 then (none, s)
  else
    let ends := (if a % 8 = 0 && decide (8 ≤ n) then [] else [a / 8]) ++
      (if (a + n) % 8 = 0 || ((a + n) / 8 = a / 8) then [] else [(a + n) / 8])
    let r := ends.foldl (fun (r : List Nat × State) b =>
      let t := r.2.partialBeat b cls
      (if t.1 then r.1 ++ [b] else r.1, t.2)) ([], s.rankCmd a)
    (r.1.head?.map (8 * ·), r.2.storeBytes a bs r.1)

/-- Is DRAM held in self-refresh (R381)? -/
def State.inSelfRefresh (s : State) : Bool := s.rd DRAMC_STATUS_SR_STATE != 0

/-- A write by a unit: in self-refresh it waits (R306). -/
def State.dramWrite (s : State) (a : Nat) (bs : List Nat) (cls : Nat) : Option Nat × State :=
  if s.inSelfRefresh then
    (none, { s with dram := { s.dram with held := s.dram.held ++ [{ cls := cls, addr := a, bytes := bs, since := s.now }] } })
  else s.dramWriteNow a bs cls

/-- A write whose response nobody awaits. -/
def State.dramPut (s : State) (a : Nat) (bs : List Nat) (cls : Nat) : State := (s.dramWrite a bs cls).2

/-- Bits of beats of a range flip in the devices: `errs` are (beat, codeword bits). -/
def State.addFlips (s : State) (errs : List (Nat × Nat)) : State :=
  errs.foldl (fun s (e : Nat × Nat) =>
    let f := spGet (fun _ => 0) s.dram.flips e.1 ^^^ (e.2 % 2 ^ 80)
    { s with dram := { s.dram with flips := spSet (fun _ => 0) s.dram.flips e.1 f } }) s

/-! ### Migration steps (R376, R377) -/

/-- The logical rank that a physical rank of a channel serves. -/
def State.logicalOf (s : State) (ch phys : Nat) : Option Nat :=
  firstIdx (s.rd DRAMC_CFG_RANKS + 1 - s.rd DRAMC_CFG_SPARE_EN) (fun k => s.rd (rankMapF ch k) == phys)

/-- MIG_REQ (R378): a planned migration of MIG_RANK in MIG_CH. -/
def State.migReq (s : State) : State := s.migrate (s.rd DRAMC_MIG_MIG_CH) (s.rd DRAMC_MIG_MIG_RANK) 3

/-- MIGRATE_COPY_LINE (R376): the next source line is read, corrected and written to the target. -/
def execMigrateCopyLine (errs : List (Nat × Nat)) (s : State) : Host.Outcome State Fault Refusal :=
  match s.dram.mig with
  | none => .next s
  | some m =>
    let ptr := s.rd DRAMC_MIG_PTR
    if s.inSelfRefresh || decide (2 ^ s.rankLineBits ≤ ptr) then .next s
    else
      let next (s : State) := Host.Outcome.next (s.wr DRAMC_MIG_PTR (ptr + 1))
      match s.logicalOf m.ch m.src with
      | none => next s
      | some k =>
        let a := s.placeAddr m.ch k ptr
        let s := s.addFlips errs
        let r := (s.flippedIn a 128).foldl (fun (r : Bool × State) b =>
          let t := r.2.readBeat b
          match t.1 with
          | .clean => r
          | .corrected =>
            let s := r.2.noteCe m.ch m.src (8 * b)
            (r.1, if s.on DRAMC_CFG_CE_WRITEBACK then s.putBeat b t.2.1 else s)
          | _ =>
            (r.1 || t.1 != .poison, { r.2 with dram := { r.2.dram with
              tgtPoison := spSet (fun _ => 0) r.2.dram.tgtPoison b 1 } })) (false, s)
        if r.1 then next ((r.2.bump DRAMC_MIG_LOST).fault srcDramc 0x6012 (slot1 m.ch ++ slot2 a))
        else next r.2

/-! ### Scrubbing (R372) -/

/-- Is a physical rank visited by the patrol? -/
def State.scrubbed (s : State) (ch rank : Nat) : Bool :=
  decide (ch < s.nch) &&
    (let t := s.rd (rankStateF ch rank)
     decide (1 ≤ t) && decide (t ≤ 4))

/-- The next SCRUB_PTR: lines in ascending order, from 0 again after the last. -/
def State.nextScrub (s : State) (p : Nat) : Nat :=
  let ok (q : Nat) : Bool := s.scrubbed (q % 8) (q / 8 % 4)
  match firstIdx 32 (fun i => ok (p + 1 + i)) with
  | some i => if (p + 1 + i) / 32 < 2 ^ s.rankLineBits then p + 1 + i else 0
  | none => 0

/-! ### Command errors, power states (R375, R380 to R383, R306) -/

/-- RANK_POWER_DOWN (R380): no command for PD_IDLE ns. -/
def execRankPowerDown (ch : Fin 8) (rank : Fin 4) (s : State) : Host.Outcome State Fault Refusal :=
  let key := 4 * ch.val + rank.val
  let idle := s.rd DRAMC_PD
  if idle != 0 && decide (5 * spGet (fun _ => 0) s.dram.lastCmd key + 2 * idle ≤ 5 * s.now) then
    .next { s with dram := { s.dram with pwrDown := spSet (fun _ => 0) s.dram.pwrDown key 1 } }
  else .next s

/-- Modes in which self-refresh is allowed (R381). -/
def srAllowed (mode : Nat) : Bool := mode == 2 || mode == 10 || mode == 11

/-- Entry to self-refresh starts. [DEDUCED, log 114] -/
def State.srBegin (s : State) : State :=
  if s.rd DRAMC_STATUS_SR_STATE = 0 then s.wr DRAMC_STATUS_SR_STATE 1 else s

/-- A write of SR_ENTER (R381). -/
def State.srEnter (s : State) : State :=
  if srAllowed s.mode then s.srBegin
  else s.reject DRAMC_STATUS_CFG_REJECT srcDramc DRAMC_SR.off 1

def execSrEnter (s : State) : Host.Outcome State Fault Refusal := .next s.srEnter

/-- SR_ENTRY_DONE (R381): every rank is in self-refresh. -/
def execSrEntryDone (s : State) : Host.Outcome State Fault Refusal :=
  if s.rd DRAMC_STATUS_SR_STATE = 1 then .next (s.wr DRAMC_STATUS_SR_STATE 2) else .next s

/-- A waiting access is made now; a read answers its requester. [DEDUCED, log 110] -/
def State.heldNow (s : State) (h : HeldAccess) : State :=
  match h.read with
  | none => (s.dramWriteNow h.addr h.bytes h.cls).2
  | some n =>
    let r := s.dramRead h.addr n h.cls
    if h.bar then
      let c := if r.2.1.isSome then Completion.aborted else Completion.data r.1
      { r.2.2 with out := { r.2.2.out with bar := r.2.2.out.bar ++ [c] } }
    else { r.2.2 with out := { r.2.2.out with dram := r.2.2.out.dram ++ [⟨h.addr, r.1, r.2.1⟩] } }

/-- The controller leaves self-refresh: requests resume, the waiting ones first come first (R382).
[DEDUCED, log 110] -/
def State.srExit (s : State) : State :=
  if s.rd DRAMC_STATUS_SR_STATE = 0 then s
  else
    let held := s.dram.held
    let s := s.wr DRAMC_STATUS_SR_STATE 0
    let s := { s with dram := { s.dram with held := [] } }
    held.foldl (fun s h => s.heldNow h) s

def execSrExit (s : State) : Host.Outcome State Fault Refusal := .next s.srExit

/-- SR_TIMEOUT (R306, R381, R488): the oldest access that has waited 1 ms ends with an error response. -/
def execSrTimeout (s : State) : Host.Outcome State Fault Refusal :=
  match s.inSelfRefresh, s.dram.held with
  | true, h :: rest =>
    if s.now < h.since + 1000 * ticksPerUs then .next s
    else
      let s := { s with dram := { s.dram with held := rest } }
      let o := s.out
      let o := if !h.bar then { o with dram := o.dram ++ [DramReply.mk h.addr [] (some h.addr)] }
        else if h.read.isSome then { o with bar := o.bar ++ [Completion.aborted] } else o
      let s := { s with out := o }
      .next ((s.set1 DRAMC_STATUS_SR_TIMEOUT).fault srcDramc 0x6031 (slot1 h.cls ++ slot2 h.addr))
  | _, _ => .next s

/-- REFRESH_RATE_CHECK (R383): each rank's refresh-rate status is read; a hot rank's refresh
interval is halved. -/
def execRefreshRateCheck (ch : Fin 8) (rank : Fin 4) (above85 : Bool) (s : State) :
    Host.Outcome State Fault Refusal :=
  .next { s with dram := { s.dram with
    hot := spSet (fun _ => 0) s.dram.hot (4 * ch.val + rank.val) (b2n above85) } }

/-- SHARE_WRITE (R370): a write of SHARE1 is accepted when the shares sum to 100. -/
def State.shareWrite (s : State) (v : Nat) : State :=
  let sum := s.rd DRAMC_SHARE0_IMAGE + s.rd DRAMC_SHARE0_MASTER + s.rd DRAMC_SHARE0_DMA
    + s.rd DRAMC_SHARE0_HOST + bitsAt v 0 7 + bitsAt v 8 7
  if sum = 100 then (s.wr DRAMC_SHARE1_TABLE (bitsAt v 0 7)).wr DRAMC_SHARE1_MAINT (bitsAt v 8 7)
  else s.reject DRAMC_STATUS_CFG_REJECT srcDramc DRAMC_SHARE1.off v

def execShareWrite (v : BitVec 32) (s : State) : Host.Outcome State Fault Refusal :=
  .next (s.shareWrite v.toNat)

/-! ### Training helpers (R384) -/

/-- PRBS15 of a lane after `n` steps: the state, seeded with 0x7F00 OR the lane. -/
def prbs15 (lane : Nat) : Nat → Nat
  | 0 => orNat 15 0x7F00 lane
  | n + 1 =>
    let st := prbs15 lane n
    let k := (st / 2 ^ 14 + st / 2 ^ 13) % 2
    (st * 2 + k) % 2 ^ 15

/-- Beat n of a pattern generator over the 80 lanes (R384). -/
def patternBeat (pattern user n : Nat) : Nat :=
  if pattern = 0 then
    ofBits ((List.range 80).map (fun l =>
      let st := prbs15 l n
      (st / 2 ^ 14 + st / 2 ^ 13) % 2))
  else if pattern = 1 then 2 ^ (n % 80)
  else user
where
  /-- The number whose bits are given, lowest first. -/
  ofBits : List Nat → Nat
    | [] => 0
    | b :: bs => b + 2 * ofBits bs

/-- The 80-bit user pattern of a channel. -/
def State.trainUser (s : State) (ch : Nat) : Nat :=
  s.rd (DRAMC_CH_TRAIN_USER0 ch) + s.rd (DRAMC_CH_TRAIN_USER1 ch) * 2 ^ 32
    + s.rd (DRAMC_CH_TRAIN_USER2 ch) * 2 ^ 64

/-- The 16 beats from beat n of the generator of a channel. -/
def State.burst (s : State) (ch n : Nat) : List Nat :=
  tabulate 16 (fun i => patternBeat (s.rd (DRAMC_CH_TRAIN_CMD_PATTERN ch)) (s.trainUser ch) (n + i))

/-- May GO of a channel issue its command (R384)?  Otherwise the write is rejected. -/
def State.trainOpen (s : State) (ch : Nat) : Bool :=
  (s.mode == 2 || s.mode == 10) && !s.on (DRAMC_CH_TRAIN_CMD_BUSY ch)
    && s.rd (DRAMC_CH_TRAIN_CMD_PATTERN ch) != 3

/-- The helper's command of a channel, given by CMD: what each does when it may be issued. -/
def State.trainGo (s : State) (ch cmd : Nat) (act : State → State) : State :=
  if s.rd (DRAMC_CH_TRAIN_CMD_CMD ch) != cmd then s
  else if s.trainOpen ch then act s
  else s.reject DRAMC_STATUS_CFG_REJECT srcDramc (DRAMC_CH_TRAIN_CMD ch).off
    (s.rd (DRAMC_CH_TRAIN_CMD ch) + 2 ^ 31)

/-- The command goes to the devices: command, rank and TRAIN_ADDR. -/
def State.trainSend (s : State) (ch cmd : Nat) : State :=
  { s with out := { s.out with trainBurst := s.out.trainBurst ++
      [(ch, [cmd, s.rd (DRAMC_CH_TRAIN_CMD_RANK ch), s.rd (DRAMC_CH_TRAIN_ADDR ch)])] } }

/-- The next burst of the write generator goes to the devices. -/
def State.trainWrite (s : State) (ch : Nat) : State :=
  let n := spGet (fun _ => 0) s.dram.genWr ch
  let bs := s.burst ch n
  let s := s.trainSend ch 6
  { s with
    dram := { s.dram with genWr := spSet (fun _ => 0) s.dram.genWr ch (n + 16) }
    out := { s.out with trainBurst := s.out.trainBurst ++ [(ch, bs)] } }

/-- A burst read is compared with the generator's expected burst (R384). -/
def State.trainCompare (s : State) (ch : Nat) (beats : List Nat) : State :=
  let n := spGet (fun _ => 0) s.dram.genRd ch
  let diffs := (s.burst ch n).zip (padTo 0 16 beats)
  let s := { s with dram := { s.dram with genRd := spSet (fun _ => 0) s.dram.genRd ch (n + 16) } }
  diffs.foldl (fun s (d : Nat × Nat) =>
    let m := xorNat 80 d.1 d.2
    if m = 0 then s
    else
      let s := s.wr (DRAMC_CH_TRAIN_ERR0 ch) (orNat 32 (s.rd (DRAMC_CH_TRAIN_ERR0 ch)) m)
      let s := s.wr (DRAMC_CH_TRAIN_ERR1 ch) (orNat 32 (s.rd (DRAMC_CH_TRAIN_ERR1 ch)) (m / 2 ^ 32))
      let s := s.wr (DRAMC_CH_TRAIN_ERR2 ch) (orNat 16 (s.rd (DRAMC_CH_TRAIN_ERR2 ch)) (m / 2 ^ 64))
      s.bump (DRAMC_CH_TRAIN_ERRCNT ch)) (s.trainSend ch 7)

def execTrainMrw (ch : Fin 8) (s : State) : Host.Outcome State Fault Refusal :=
  .next (s.trainGo ch.val 0 (fun s => s.trainSend ch.val 0))

def execTrainMrr (ch : Fin 8) (result : BitVec 32) (s : State) : Host.Outcome State Fault Refusal :=
  .next (s.trainGo ch.val 1 (fun s =>
    (s.trainSend ch.val 1).wr (DRAMC_CH_TRAIN_RESULT ch.val) result.toNat))

def execTrainMpc (ch : Fin 8) (s : State) : Host.Outcome State Fault Refusal :=
  .next (s.trainGo ch.val 2 (fun s => s.trainSend ch.val 2))

def execTrainAct (ch : Fin 8) (s : State) : Host.Outcome State Fault Refusal :=
  .next (s.trainGo ch.val 3 (fun s => s.trainSend ch.val 3))

def execTrainPre (ch : Fin 8) (s : State) : Host.Outcome State Fault Refusal :=
  .next (s.trainGo ch.val 4 (fun s => s.trainSend ch.val 4))

def execTrainRef (ch : Fin 8) (s : State) : Host.Outcome State Fault Refusal :=
  .next (s.trainGo ch.val 5 (fun s => s.trainSend ch.val 5))

/-- A WR or RD pair is repeated LOOPS times (R384); `reads` are the bursts that come back. [DEDUCED, log 111] -/
def State.trainPairs (s : State) (ch : Nat) (reads : List (List Nat)) : State :=
  (List.range (s.rd (DRAMC_CH_TRAIN_CMD_LOOPS ch))).foldl (fun s i =>
    (s.trainWrite ch).trainCompare ch (nth [] reads i)) s

def execTrainWr (ch : Fin 8) (s : State) : Host.Outcome State Fault Refusal :=
  .next (s.trainGo ch.val 6 (fun s => s.trainWrite ch.val))

def execTrainRd (ch : Fin 8) (reads : List (List Nat)) (s : State) :
    Host.Outcome State Fault Refusal :=
  .next (s.trainGo ch.val 7 (fun s =>
    if s.rd (DRAMC_CH_TRAIN_CMD_LOOPS ch.val) = 1 then s.trainCompare ch.val (nth [] reads 0)
    else s.trainPairs ch.val reads))

end Sys2Proof.Machine
end

