-- ==== Sys2Proof/Machine/Commit.lean ====
section
/-! DEFINITION. Shadowed settings and settings sets (R105 to R111): what the pipe contexts, the
stitcher, the master path and the scaler share. -/

namespace Sys2Proof.Machine

open Sys2Proof

/-- A field read from a store of words. -/
def rdIn (m : Sparse Word) (f : Fld) : Nat :=
  if f.lsb + f.w ≤ 32 then bitsAt (spGet resetWord m f.off).toNat f.lsb f.w
  else bitsAt ((spGet resetWord m f.off).toNat + (spGet resetWord m (f.off + 4)).toNat * 2 ^ 32) f.lsb f.w

/-- A two's complement field of a store of words. -/
def rdInS (m : Sparse Word) (f : Fld) : Int := signed f.w (rdIn m f)

/-- A field of a settings set. -/
def SettingsSet.rd (t : SettingsSet) (f : Fld) : Nat := rdIn t.words f

/-- A two's complement field of a settings set. -/
def SettingsSet.rdS (t : SettingsSet) (f : Fld) : Int := rdInS t.words f

/-- A write to an SH word: the value it replaces is kept with its tick, so that a boundary can take
the shadow as it stood before its tick (R105, R107). -/
def State.setShadow (s : State) (off : Nat) (v : Word) : State :=
  let h := (s.now, s.reg off) ::
    (spGet (fun _ => []) s.shOld off).filter (fun e => decide (s.now < e.1 + 400))
  { s.setReg off v with shOld := spSet (fun _ => []) s.shOld off h }

/-- The oldest value replaced at or after a tick: what the word was before that tick. -/
def oldestSince (bt : Nat) (cur : Word) : List (Nat × Word) → Word
  | [] => cur
  | (t, v) :: h => if bt ≤ t then oldestSince bt v h else cur

/-- The shadow words of offsets `lo .. hi - 1` as they stood at the end of the tick before `bt`
(R107). [DEDUCED, log 8] -/
def State.shadowAt (s : State) (lo hi bt : Nat) : Sparse Word :=
  let now := s.regs.filter (fun e => decide (lo ≤ e.1) && decide (e.1 < hi))
  (s.shOld.filter (fun e => decide (lo ≤ e.1) && decide (e.1 < hi))).foldl (fun m e =>
    spSet resetWord m e.1 (oldestSince bt (s.reg e.1) e.2)) now

/-- The newest line whose trigger has fallen due: floor(p − PHASE / 256) (R40). -/
def State.lineDue (s : State) : Int :=
  floorShift (s.tl.pos - (s.rd TIMELINE_TRIG_CTRL_PHASE : Int) * (2 : Int) ^ 32) 40

/-- A COMMIT is recorded (R105); `base` starts a fetch of a memory image at an address (R110). -/
def CommitCtx.record (c : CommitCtx) (tick : Nat) (base : Option Nat) : CommitCtx :=
  let kept := c.pend.filter (fun p => decide (p.tick < tick) && decide (tick < p.tick + 400))
  let last := (c.pend.filter (fun p => decide (p.tick + 400 ≤ tick))).getLast?.toList
  { c with
    pend := last ++ kept ++ [⟨tick⟩]
    fetch := match base with
      | some b => some (tick, b)
      | none => c.fetch }

/-- Every pending COMMIT is withdrawn and its fetch stopped (R110). -/
def CommitCtx.cancel (c : CommitCtx) : CommitCtx := { c with pend := [], fetch := none, image := none, judged := none }

/-- A fetch fails: the COMMITs are withdrawn, except those that a boundary has already judged good (R107, R110).
[DEDUCED, log 8] -/
def CommitCtx.failFetch (c : CommitCtx) : CommitCtx :=
  match c.judged with
  | some (bt, 0, m) =>
    { c with pend := c.pend.filter (fun p => decide (p.tick < bt)), fetch := none, image := none
             judged := some (bt, 0, m) }
  | _ => c.cancel

/-- The set whose start line is the greatest at or below a line (R111). -/
def CommitCtx.setFor (c : CommitCtx) (l : Int) : Option SettingsSet :=
  match c.active with
  | none => none
  | some a =>
    if a.start ≤ l then (if a.dead then none else some a)
    else
      match c.previous with
      | some b => if b.start ≤ l && !b.dead then some b else none
      | none => none

/-- The COMMIT that a boundary of tick `bt` would apply: the newest recorded before it (R107).
[DEDUCED, log 8] -/
def CommitCtx.eligible (c : CommitCtx) (bt : Nat) : Option PendCommit :=
  (c.pend.filter (fun p => decide (p.tick < bt))).getLast?

/-- COMMITs recorded in the boundary tick or later (R108). -/
def CommitCtx.later (c : CommitCtx) (bt : Nat) : List PendCommit :=
  c.pend.filter (fun p => decide (bt ≤ p.tick))

/-- The image of a COMMIT recorded in a tick, when its fetch has completed. -/
def CommitCtx.imageOf (c : CommitCtx) (tick : Nat) : Option (Sparse Nat) :=
  match c.image with
  | some (t, m) => if t = tick then some m else none
  | none => none

/-- What is left of a unit's commit state when the COMMITs before boundary tick `bt` are gone. -/
def CommitCtx.spend (c : CommitCtx) (bt : Nat) : CommitCtx :=
  { c with
    pend := c.later bt
    judged := none
    fetch := c.fetch.filter (fun f => decide (bt ≤ f.1))
    image := c.image.filter (fun i => decide (bt ≤ i.1)) }

/-- A set is applied at a boundary of tick `bt` (R107, R109, R111). -/
def CommitCtx.apply (c : CommitCtx) (bt : Nat) (t : SettingsSet) : CommitCtx :=
  { c.spend bt with active := some t, previous := c.active }

/-! ### Lines -/

def State.frameGen (s : State) (f : Nat) : FrameGen := spGet (fun _ => {}) s.tl.frames f
def State.setFrameGen (s : State) (f : Nat) (x : FrameGen) : State :=
  { s with tl := { s.tl with frames := spSet (fun _ => {}) s.tl.frames f x } }

/-- The lowest line whose trigger has not been issued (R41, R111). -/
def State.lowestUntriggered (s : State) : Int := s.rdS TIMELINE_LAST_LINE + 1

/-- The lowest line whose trigger has not fallen due (R40). -/
def State.nextDue (s : State) : Int :=
  match s.tl.mark with
  | some m => max m (s.rdS TIMELINE_LAST_LINE) + 1
  | none => s.rdS TIMELINE_LAST_LINE + 1

/-- The high-water mark moves past lines up to `b`, which fall due no more (R40, R417, R440). -/
def State.passLines (s : State) (b : Int) : State :=
  { s with tl := { s.tl with mark := some (max b (s.nextDue - 1)) } }

/-- The first lines of triggers that have fallen due and are not yet applied (R39). -/
def State.dueLines (s : State) : List Int :=
  s.tl.sched.filterMap (fun e =>
    match e.act with
    | .trigger a (some _) => some a
    | _ => none)

/-- The frame that contains a line on a frame generator (R104): its first line and number. -/
def State.frameOf (s : State) (f : Nat) (l : Int) : Int × Nat :=
  let st := (s.frameGen f).starts
  match st.find? (fun e => decide (e.1 ≤ l)) with
  | some e => e
  | none =>
    match st.getLast? with
    | some e => (l, (e.2 + 2 ^ 32 - 1) % 2 ^ 32)
    | none => (l, s.rd (TIMELINE_FRAME_NUMBER f))

/-! ### Units with a commit boundary -/

def State.px (s : State) (p x : Nat) : PipeCtx := spGet (fun _ => {}) s.pctx (2 * p + x)
def State.setPx (s : State) (p x : Nat) (c : PipeCtx) : State :=
  { s with pctx := spSet (fun _ => {}) s.pctx (2 * p + x) c }

/-- Units by number: 2p + x is context x of pipe p, 26 the stitcher, 27 the master path, 28 the scaler. -/
def unitOf (u : Nat) : CommitUnit :=
  if u < 26 then .pipe (u / 2) (u % 2) else if u = 26 then .stitch else if u = 27 then .master else .scaler

def allUnits : List CommitUnit := (List.range 29).map unitOf

def State.unitCtx (s : State) : CommitUnit → CommitCtx
  | .pipe p x => (s.px p x).commit
  | .stitch => s.stitch.commit
  | .master => s.mas.commit
  | .scaler => s.scal.commit

/-- A field of the settings in force: those of the active set, before the first one those of the shadow.
[DEDUCED, log 9] -/
def State.inForce (s : State) (u : CommitUnit) (f : Fld) : Nat :=
  match (s.unitCtx u).active with
  | some t => t.rd f
  | none => s.rd f

/-- Where the boundaries of a unit lie (R106, R140, R197, R253): on the frame boundaries of a generator, on line
triggers, or on pages. -/
inductive BoundaryKind where
  | frame (gen : Nat)
  | line
  | page
  deriving DecidableEq, Repr

/-- [DEDUCED, log 9] -/
def State.boundaryKind (s : State) (u : CommitUnit) : BoundaryKind :=
  let pick (b g : Fld) : BoundaryKind := if s.inForce u b = 1 then .line else .frame (s.inForce u g)
  match u with
  | .pipe p x => pick (PIPE_CTX_CFG_BOUNDARY p x) (PIPE_CTX_CFG_FRAME_GEN p x)
  | .stitch => pick STITCH_CFG_BOUNDARY STITCH_CFG_FRAME_GEN
  | .master => if s.inForce u MASTER_CFG_BOUNDARY = 1 then .frame (s.inForce u MASTER_CFG_FRAME_GEN) else .page
  | .scaler => pick SCALER_CFG_BOUNDARY SCALER_CFG_FRAME_GEN

end Sys2Proof.Machine
end

