-- ==== Sys2Proof/Machine/Peer.lean ====
section
/-! DEFINITION. Packets on the Zhevlis link (R63 to R68, R73 to R75, R79), sending on camera and peer
ports with replay (R95), and the chain's tree: parents, routes and broadcasts (R412, R415, R419,
R422). -/

namespace Sys2Proof.Machine

open Sys2Proof

/-! ### Checks on the wire -/

/-- The scrambler of R64 after a marker of a logical lane: the state. -/
def scrambleSeed (lane : Nat) : Nat := 0x7FFFFFF0 + lane % 16

/-- One bit of the scrambler: the bit on the line and the new state (R64). [DESIGN CHOICE, log 161] -/
def scrambleBit (st b : Nat) : Nat × Nat :=
  let k := (st / 2 ^ 30 + st / 2 ^ 27) % 2
  ((b + k) % 2, (st * 2 + k) % 2 ^ 31)

/-- A serial stream with stuff bits (R65): after 40 identical bits the next bit is their opposite.
`prev` and `run` are the last bit sent and the length of its run. [DESIGN CHOICE, log 161] -/
def stuffBits : List Nat → Nat → Nat → List Nat
  | [], _, _ => []
  | b :: bs, prev, run =>
    let r := if b = prev then run + 1 else 1
    if r = 40 then b :: (1 - b) :: stuffBits bs (1 - b) 1
    else b :: stuffBits bs b r

/-- The lane marker of a logical and physical lane (R67). -/
def markerWord (logical phys rxReady nextHdr : Nat) : Nat :=
  let w := 0x6E2B49D3 + logical * 2 ^ 32 + phys * 2 ^ 36 + rxReady * 2 ^ 39 + nextHdr * 2 ^ 40
  w

/-- CRC-8 over bytes, polynomial 0x07, each byte most significant bit first (R68). -/
def crc8Bits : Nat → Nat → Nat
  | 0, c => c
  | k + 1, c => crc8Bits k (if bitAt c 7 then ((c * 2) % 256) ^^^ 0x07 else c * 2)

/-- R68. -/
def crc8 : Nat → List Nat → Nat
  | c, [] => c
  | c, b :: bs => crc8 (crc8Bits 8 (c ^^^ (b % 256))) bs

/-- The check of bytes 0 to 6 of a block: MCHK or HCHK (R68). -/
def blockCheck (w : Nat) : Nat := crc8 0 (leBytes 7 w)

/-- A block with its check in bits [63:56]. -/
def withCheck (w : Nat) : Nat := w % 2 ^ 56 + blockCheck w * 2 ^ 56

/-- One bit step of the reflected CRC-32 (R74). -/
def crc32Bits : Nat → Nat → Nat
  | 0, c => c
  | k + 1, c => crc32Bits k (if c % 2 = 1 then (c / 2) ^^^ 0xEDB88320 else c / 2)

/-- CRC-32 of bytes, without the final inversion. -/
def crc32Go : Nat → List Nat → Nat
  | c, [] => c
  | c, b :: bs => crc32Go (crc32Bits 8 (c ^^^ (b % 256))) bs

/-- CRC-32 as in the IEEE 802.3 frame check sequence (R74). -/
def crc32 (bs : List Nat) : Nat := crc32Go 0xFFFFFFFF bs ^^^ 0xFFFFFFFF

/-- The header block of a packet (R73). -/
def Packet.header (p : Packet) : Nat :=
  withCheck (p.ty + b2n p.replay * 2 ^ 8 + b2n p.retx * 2 ^ 9 + p.payload.length % 2 ^ 16 * 2 ^ 16
    + p.seq % 2 ^ 16 * 2 ^ 32)

/-- The CRC of a packet's header and payload blocks (R74). -/
def packetCrc (header : Nat) (payload : List Nat) : Nat :=
  crc32 ((header :: payload).flatMap (leBytes 8))

/-- The trailer block of a packet (R73). -/
def Packet.trailer (p : Packet) : Nat :=
  packetCrc p.header p.payload + p.seq % 2 ^ 16 * 2 ^ 32

/-- The blocks of a packet in order (R73). -/
def Packet.blocks (p : Packet) : List Nat := p.header :: (p.payload ++ [p.trailer])

/-! ### Packet types (R75) -/

def pkLine : Nat := 0x01
def pkTrig : Nat := 0x02
def pkCtrl : Nat := 0x03
def pkStat : Nat := 0x04
def pkPos : Nat := 0x10
def pkTime : Nat := 0x11
def pkTally : Nat := 0x12
def pkStrip : Nat := 0x13
def pkMode : Nat := 0x14
def pkCmd : Nat := 0x15
def pkSummary : Nat := 0x16

/-! ### Ports -/

def State.port (s : State) (n : Nat) : Zl := spGet (fun _ => {}) s.zl n
def State.setPort (s : State) (n : Nat) (z : Zl) : State :=
  { s with zl := spSet (fun _ => {}) s.zl n z }
def State.grp (s : State) (n g : Nat) : ZlGroup := spGet (fun _ => {}) (s.port n).groups g
def State.setGrp (s : State) (n g : Nat) (x : ZlGroup) : State :=
  let z := s.port n
  s.setPort n { z with groups := spSet (fun _ => {}) z.groups g x }
def State.lane (s : State) (n l : Nat) : ZlLane := spGet (fun _ => {}) (s.port n).lanes l
def State.setLane (s : State) (n l : Nat) (x : ZlLane) : State :=
  let z := s.port n
  s.setPort n { z with lanes := spSet (fun _ => {}) z.lanes l x }

/-- The up flag of a group. -/
def upF (n g : Nat) : Fld := if g = 0 then ZL_STATUS_UP_A n else ZL_STATUS_UP_B n

/-- Is a group up (R71)? -/
def State.groupUp (s : State) (n g : Nat) : Bool := s.on (upF n g)

/-- Groups of a port's mode (R61). -/
def State.groupsOf (s : State) (n : Nat) : List Nat :=
  if s.rd (ZL_CTRL_PORT_MODE n) = 1 then [0, 1] else [0]

/-- A packet leaves on a port and group. -/
def State.emitPacket (s : State) (n g : Nat) (p : Packet) : State :=
  let s := s.bump (ZL_CNT_PKT_TX n)
  { s with out := { s.out with packets := s.out.packets ++ [(n, g, p)] } }

/-- A packet to a camera takes the group's next SEQ (R75). Answers the SEQ. -/
def State.sendCam (s : State) (n g ty : Nat) (payload : List Nat) : Nat × State :=
  let x := s.grp n g
  let q := x.txSeq
  let s := s.setGrp n g { x with txSeq := (q + 1) % 2 ^ 16 }
  (q, s.emitPacket n g { ty := ty, seq := q, payload := payload })

/-- Bytes a packet takes in the replay buffer: its blocks. -/
def Packet.size (p : Packet) : Nat := 8 * (p.payload.length + 2)

/-- The replay buffer holds 64 KiB (R95). -/
def replayRoom (es : List ReplayEntry) (p : Packet) : Bool :=
  decide ((es.map (fun e => e.pkt.size)).sum + p.size ≤ 65536)

/-- A replay-protected packet is sent, or waits while the buffer is full (R75, R95). -/
def State.sendReplay (s : State) (n : Nat) (p : Packet) : State :=
  let z := s.port n
  if z.waiting.isEmpty && replayRoom z.replay p then
    let q := s.rd (ZL_REPLAY_STATUS_NEXT_SEQ n)
    let p := { p with replay := true, seq := q }
    let s := s.wr (ZL_REPLAY_STATUS_NEXT_SEQ n) (q + 1)
    let s := if s.on (ZL_CTRL_REPLAY_EN n) then
        let ackAt := if z.replay.isEmpty then s.now else z.ackAt
        s.setPort n { z with replay := z.replay ++ [⟨p, 0⟩], ackAt := ackAt }
      else s
    s.emitPacket n 0 p
  else s.setPort n { z with waiting := z.waiting ++ [p] }

/-- A packet to a peer: POS and TIME carry REPLAY 0 and SEQ 0 (R75). -/
def State.sendPeer (s : State) (n : Nat) (p : Packet) : State :=
  if !s.groupUp n 0 || s.chain.muted then s
  else if p.ty = pkPos || p.ty = pkTime then s.emitPacket n 0 { p with replay := false, seq := 0 }
  else s.sendReplay n p

/-- Waiting packets enter a replay buffer that has room again (R95). -/
def State.drainWaiting : Nat → Nat → State → State
  | 0, _, s => s
  | k + 1, n, s =>
    let z := s.port n
    match z.waiting with
    | [] => s
    | p :: rest =>
      if replayRoom z.replay p then
        State.drainWaiting k n ((s.setPort n { z with waiting := [] }).sendReplay n p |>
          fun s => s.setPort n { s.port n with waiting := rest })
      else s

/-! ### The chain's tree (R412 to R422) -/

/-- The peer port k is Zhevlis port 12 + k. -/
def lpPort (k : Nat) : Nat := 12 + k

def State.lp (s : State) (k : Nat) : ChainPort := spGet (fun _ => {}) s.chain.ports k
def State.setLp (s : State) (k : Nat) (x : ChainPort) : State :=
  { s with chain := { s.chain with ports := spSet (fun _ => {}) s.chain.ports k x } }

/-- Is this device a member, and is it the position root (R412)? -/
def State.member (s : State) : Bool := s.on CHAIN_CTRL_EN
def State.isRoot (s : State) : Bool := s.on CHAIN_CTRL_ROOT

/-- The ID that means all devices, and none (R412). -/
def idAll : Nat := 0xFFF

/-- Block 0 of every peer packet (R95). -/
def peerHead (src dst hops epoch : Nat) : Nat :=
  src % 2 ^ 12 + dst % 2 ^ 12 * 2 ^ 12 + hops % 16 * 2 ^ 24 + epoch % 2 ^ 32 * 2 ^ 32

def headSrc (w : Nat) : Nat := bitsAt w 0 12
def headDst (w : Nat) : Nat := bitsAt w 12 12
def headHops (w : Nat) : Nat := bitsAt w 24 4
def headEpoch (w : Nat) : Nat := bitsAt w 32 32

/-- Block 0 with HOPS one higher, saturating at 15 (R415). [DEDUCED, log 132] -/
def headNext (w : Nat) : Nat := putBits w 24 4 (min 15 (headHops w + 1))

/-- Block 0 of a packet this device originates. -/
def State.ownHead (s : State) (dst : Nat) : Nat := peerHead s.deviceId dst 0 (s.rd CHAIN_EPOCH)

/-- Port roles (CHAIN_LPk_STATE). -/
def roleDown : Nat := 0
def roleUp : Nat := 1
def roleParent : Nat := 2
def roleChild : Nat := 3
def roleStandby : Nat := 4

/-- The parent port, if any (R415). -/
def State.parent (s : State) : Option Nat :=
  let p := s.rd CHAIN_STATUS_PARENT
  if p < 3 then some p else none

/-- Order of two POS candidates (R415): fewer HOPS, then the lower ACC_DELAY + OW, then the lower
port. [DEDUCED, log 126] -/
def posBetter (a b : Nat × PosSeen) : Bool :=
  if a.2.hops = b.2.hops then
    if a.2.delay = b.2.delay then decide (a.1 ≤ b.1) else decide (a.2.delay < b.2.delay)
  else decide (a.2.hops < b.2.hops)

/-- The best of a list of candidate ports. -/
def bestPort : List (Nat × PosSeen) → Option (Nat × PosSeen)
  | [] => none
  | a :: as =>
    match bestPort as with
    | none => some a
    | some b => if posBetter a b then some a else some b

/-- Up ports whose newest POS came from ROOT_ID, with that POS, but for ports a test leaves out.
[DEDUCED, log 126] -/
def State.posCandidates (s : State) (ok : Nat → PosSeen → Bool) : List (Nat × PosSeen) :=
  (List.range 3).filterMap (fun k =>
    match (s.lp k).pos with
    | some p =>
      if s.groupUp (lpPort k) 0 && p.src == s.rd CHAIN_CFG_ROOT_ID && ok k p then some (k, p) else none
    | none => none)

/-- Devices below a port (R419). [DEDUCED, log 133] -/
def State.belowPort (s : State) (k : Nat) : List Member := s.chain.members.filter (·.port == k)

/-- The role of each port follows from its group, the parent and what lies below it (R415).
[DEDUCED, log 133] -/
def State.updRoles (s : State) : State :=
  (List.range 3).foldl (fun s k =>
    let below := (s.belowPort k).length
    let role :=
      if !s.groupUp (lpPort k) 0 then roleDown
      else if !s.member then roleUp
      else if s.parent = some k then roleParent
      else if 0 < below then roleChild else roleStandby
    (s.wr (CHAIN_LP_STATE_ROLE k) role).wr (CHAIN_LP_BELOW k) below) s

/-- The parent becomes a port, or none. -/
def State.setParent (s : State) (p : Option Nat) : State :=
  (s.wr CHAIN_STATUS_PARENT (p.getD 3)).updRoles

/-- A broadcast of this device's own, or one that came from the parent, goes out on every child port
(R415). -/
def State.sendChildren (s : State) (p : Packet) : State :=
  (List.range 3).foldl (fun s k =>
    if s.rd (CHAIN_LP_STATE_ROLE k) = roleChild then s.sendPeer (lpPort k) p else s) s

/-- A unicast packet leaves on the port below which its destination lies, or on the parent port; a
root without a route discards it (R419). -/
def State.sendTo (s : State) (dst : Nat) (p : Packet) : State :=
  match s.chain.members.find? (·.id == dst) with
  | some m => s.sendPeer (lpPort m.port) p
  | none =>
    match s.parent with
    | some k => if s.isRoot then s else s.sendPeer (lpPort k) p
    | none =>
      let s := s.bump CHAIN_ROUTE_DROPPED
      if s.chain.unreachable.contains dst then s
      else
        let s := { s with chain := { s.chain with unreachable := dst :: s.chain.unreachable } }
        s.fault srcChain 0x9005 (slot1 dst ++ slot1 p.ty)

/-- The heartbeat of this member (R419). -/
def State.heartbeat (s : State) : Packet :=
  { ty := pkTime
    payload := [s.ownHead (s.rd CHAIN_CFG_ROOT_ID),
      s.rd STITCH_XBASE + s.rd STITCH_LAYOUT_WIDTH * 2 ^ 20, 0] }

/-- CHAIN_SPAN and CHAIN_SPAN_W show what heartbeats carry (R419). -/
def State.showSpan (s : State) : State :=
  (s.wr CHAIN_SPAN (s.rd STITCH_XBASE)).wr CHAIN_SPAN_W (s.rd STITCH_LAYOUT_WIDTH)

/-- The parent port's group went down or its replay failed (R422): the best standby port whose POS is
no more than 1 ms old takes over and carries a heartbeat at once. -/
def State.parentChange (s : State) (k : Nat) : State :=
  if s.member && s.parent = some k && !s.isRoot then
    let fresh (j : Nat) (p : PosSeen) : Bool := j != k && decide (s.now ≤ p.tick + 1000 * ticksPerUs)
    match bestPort (s.posCandidates fresh) with
    | some (j, _) =>
      let s := s.setParent (some j)
      let s := s.showSpan.sendPeer (lpPort j) s.heartbeat
      s.fault srcChain 0x9001 (slot1 k ++ slot1 j)
    | none => s.setParent none
  else s

/-- A MODE packet (R95): phase, target, epoch and commit position. -/
def State.modePacket (s : State) (dst phase target epoch : Nat) (pos : Int) : Packet :=
  { ty := pkMode
    payload := [s.ownHead dst, phase + target * 16 + epoch % 2 ^ 32 * 2 ^ 32, toBits 64 pos] }

/-- A delay probe of a port is due at once: its group has come up (R413). -/
def State.probeNow (s : State) (k : Nat) : State :=
  { s with chain := { s.chain with probeAt := spSet (fun _ => 0) s.chain.probeAt k 0 } }

/-- A report to the root, unless this device is the root or no member (R428 to R432). -/
def State.reportRoot (s : State) (phase target epoch : Nat) (pos : Int) : State :=
  if s.member && !s.isRoot then
    let root := s.rd CHAIN_CFG_ROOT_ID
    s.sendTo root (s.modePacket root phase target epoch pos)
  else s

end Sys2Proof.Machine
end

