-- ==== Sys2Proof/Machine/Permit.lean ====
section
/-! DEFINITION. Requesters, region classes and the permission matrix (R499 to R502). -/

namespace Sys2Proof.Machine

open Sys2Proof

/-- Requesters (R499). -/
def reqHost : Nat := 0
def reqEth (e : Nat) : Nat := 1 + e
def reqLp (k : Nat) : Nat := 3 + k
def reqScribe : Nat := 6
def reqDma : Nat := 7
/-- The ranger is not a requester and is never refused (R499). -/
def reqRanger : Nat := 8

/-- Region classes (R499). -/
def clsConfig : Nat := 0
def clsJob : Nat := 1
def clsStatus : Nat := 2
def clsTally : Nat := 3
def clsMemory : Nat := 4
def clsSecurity : Nat := 5

/-- Matrix bit b = 12 r + 2 k + w of the fused matrix (R501). -/
def State.fusedBit (s : State) (b : Nat) : Bool := bitAt (s.rd (SEC_FUSE (16 + b / 32))) (b % 32)

/-- Does the effective matrix grant requester r class k, write w (R502)? -/
def State.permitted (s : State) (r k : Nat) (w : Bool) : Bool :=
  if r = reqRanger then true
  else if s.on SEC_LOCK_STATE_LOCK then s.fusedBit (12 * r + 2 * k + b2n w)
  else decide (k < 5) || r == reqHost

/-- What a refused access leaves (R500): flags, count, the access, and fault 0xB020 at most once in a
second for each requester. -/
def State.deny (s : State) (r k : Nat) (w : Bool) (addr : Nat) : State :=
  let s := (s.set1 SEC_STATUS_DENIED).bump SEC_DENIED
  let s := ((s.wr SEC_DENIED_INFO_REQUESTER r).wr SEC_DENIED_INFO_CLASS k).wr SEC_DENIED_INFO_WRITE (b2n w)
  let s := s.wr SEC_DENIED_ADDR addr
  if s.now < spGet (fun _ => 0) s.sec.deniedAt r then s
  else
    let s := { s with sec := { s.sec with deniedAt := spSet (fun _ => 0) s.sec.deniedAt r (s.now + 400000000) } }
    s.fault srcSec 0xB020 (slot1 r ++ slot1 k ++ slot1 (b2n w) ++ slot2 addr)

/-- A check of the matrix: whether the access may be made, and the state with what a refusal leaves. -/
def State.permit (s : State) (r k : Nat) (w : Bool) (addr : Nat) : Bool × State :=
  if s.permitted r k w then (true, s) else (false, s.deny r k w addr)

end Sys2Proof.Machine
end

