-- ==== Sys2Proof/Machine/Emit.lean ====
section
/-! DEFINITION. The emitter (R237 to R244): the bytes of records, its tally and coverage queues with their
sequence numbers, losses and merges, host rings, datagrams and chain peers; and publishing coverage
(R238, R538). -/

namespace Sys2Proof.Machine

open Sys2Proof

/-! ### Record layouts (R237, R238) -/

/-- Bytes 0x00 to 0x0F of a record. -/
def recordHead (ty flags dev expSet seq epoch frame : Nat) : List Nat :=
  leBytes 4 (ty % 256 + flags % 256 * 2 ^ 8 + dev % 2 ^ 12 * 2 ^ 16 + expSet % 16 * 2 ^ 28)
    ++ leBytes 4 seq ++ leBytes 4 epoch ++ leBytes 4 frame

/-- A record's bytes with the CRC-32 of the first 60 behind them (R237). -/
def withCrc (bs : List Nat) : List Nat := bs ++ leBytes 4 (crc32 bs)

/-- The 64 bytes of a tally (R237). -/
def TallyRec.bytes (t : TallyRec) : List Nat :=
  withCrc (recordHead t.ty t.flags t.deviceId t.expSet t.seq t.epoch t.frame
    ++ leBytes 8 (toBits 64 t.pos)
    ++ leBytes 4 (t.xpos % 2 ^ 24 + t.cls % 64 * 2 ^ 24 + t.sev % 4 * 2 ^ 30)
    ++ leBytes 4 t.area
    ++ leBytes 4 (t.top % 2 ^ 16 + t.hm1 % 2 ^ 16 * 2 ^ 16)
    ++ leBytes 4 (t.ptpWrap % 2 ^ 16 + t.peak % 256 * 2 ^ 16 + t.mean % 256 * 2 ^ 24)
    ++ leBytes 4 (t.left % 2 ^ 20 + t.camMask % 2 ^ 12 * 2 ^ 20)
    ++ leBytes 4 (t.right % 2 ^ 20 + t.camMask / 2 ^ 12 % 2 ^ 12 * 2 ^ 20)
    ++ leBytes 4 t.word30 ++ leBytes 4 t.pageId ++ leBytes 4 t.ptpNs)

/-- The tally that 64 bytes hold (R237). -/
def tallyOf (bs : List Nat) : TallyRec :=
  let w (o : Nat) : Nat := ofLeBytes ((bs.drop o).take 4)
  { ty := bitsAt (w 0) 0 8, flags := bitsAt (w 0) 8 8, deviceId := bitsAt (w 0) 16 12
    expSet := bitsAt (w 0) 28 4, seq := w 4, epoch := w 8, frame := w 12
    pos := signed 64 (w 16 + w 20 * 2 ^ 32)
    xpos := bitsAt (w 24) 0 24, cls := bitsAt (w 24) 24 6, sev := bitsAt (w 24) 30 2, area := w 28
    top := bitsAt (w 32) 0 16, hm1 := bitsAt (w 32) 16 16
    ptpWrap := bitsAt (w 36) 0 16, peak := bitsAt (w 36) 16 8, mean := bitsAt (w 36) 24 8
    left := bitsAt (w 40) 0 20, right := bitsAt (w 44) 0 20
    camMask := bitsAt (w 40) 20 12 + bitsAt (w 44) 20 12 * 2 ^ 12
    word30 := w 48, pageId := w 52, ptpNs := w 56 }

/-- The 64 bytes of a coverage record (R238). -/
def CovRec.bytes (c : CovRec) : List Nat :=
  withCrc (recordHead 0x20 (b2n c.merged) c.deviceId 0 c.seq c.epoch 0
    ++ leBytes 8 (toBits 64 (linePos c.first)) ++ leBytes 8 (toBits 64 (linePos c.last))
    ++ leBytes 4 (c.left % 2 ^ 20) ++ leBytes 4 (c.right % 2 ^ 20)
    ++ leBytes 4 (c.cause % 256 + c.source % 256 * 2 ^ 8 + c.ptpWrap % 2 ^ 16 * 2 ^ 16)
    ++ leBytes 4 c.detail ++ leBytes 4 c.detail2 ++ leBytes 4 c.pageId ++ leBytes 4 c.ptpNs)

/-- The coverage record that 64 bytes hold (R238). -/
def covOf (bs : List Nat) : CovRec :=
  let w (o : Nat) : Nat := ofLeBytes ((bs.drop o).take 4)
  { deviceId := bitsAt (w 0) 16 12, seq := w 4, epoch := w 8
    first := floorShift (signed 64 (w 16 + w 20 * 2 ^ 32)) 16
    last := floorShift (signed 64 (w 24 + w 28 * 2 ^ 32)) 16
    left := bitsAt (w 32) 0 20, right := bitsAt (w 36) 0 20
    cause := bitsAt (w 40) 0 8, source := bitsAt (w 40) 8 8, ptpWrap := bitsAt (w 40) 16 16
    detail := w 44, detail2 := w 48, pageId := w 52, merged := bitAt (w 0) 8, ptpNs := w 56 }

/-- The lines a tally covers: its first line is floor(centroid) − TOP (R237). -/
def TallyRec.firstLine (t : TallyRec) : Int := floorShift t.pos 16 - t.top
def TallyRec.lastLine (t : TallyRec) : Int := t.firstLine + t.hm1

/-- FLAGS bits of a tally (R237). -/
def flagContNext : Nat := 0
def flagContPrev : Nat := 1
def flagOpen : Nat := 2
def flagLate : Nat := 3
def flagSnippet : Nat := 4
def flagMerged : Nat := 5
def flagEdgeOpen : Nat := 6
def flagSat : Nat := 7

def TallyRec.flag (t : TallyRec) (b : Nat) : Bool := bitAt t.flags b
def TallyRec.setFlag (t : TallyRec) (b : Nat) : TallyRec := { t with flags := orNat 8 t.flags (2 ^ b) }

/-! ### Filters (R240, R244) -/

/-- Does a filter word take a tally: type, open tallies, least severity? -/
def filterTally (w : Nat) (t : TallyRec) : Bool :=
  (if t.ty = 0x11 then bitAt w 1 else bitAt w 0) && (!t.flag flagOpen || bitAt w 2)
    && decide (bitsAt w 4 2 ≤ t.sev)

/-- The mask of rings whose test holds. -/
def ringMask (p : Nat → Bool) : Nat := (List.range 4).foldl (fun m r => if p r then m + 2 ^ r else m) 0

/-- Rings that take a tally: enabled, and passed by the filter (R240). -/
def State.ringsFor (s : State) (t : TallyRec) : Nat :=
  ringMask (fun r => s.on (SCALER_RING_CFG_DEPTH r) && filterTally (s.rd (SCALER_RING_FILTER r)) t)

/-- Rings that take coverage: every enabled one (R240). -/
def State.ringsCov (s : State) : Nat := ringMask (fun r => s.on (SCALER_RING_CFG_DEPTH r))

/-! ### Datagrams and chain peers (R241, R244, R407, R408) -/

/-- The most recent datagram takes one more record, or a new one starts; four are held at most. -/
def addBatch (batch now : Nat) (bs : List Nat) (q : List (Nat × List (List Nat))) :
    Option (List (Nat × List (List Nat))) :=
  match q.reverse with
  | (t, rs) :: rest =>
    if rs.length < batch then some (rest.reverse ++ [(t, rs ++ [bs])])
    else if q.length < 4 then some (q ++ [(now, [bs])]) else none
  | [] => some [(now, [bs])]

/-- A record goes into a tally datagram, or is dropped for that destination (R241, R407, R408). -/
def State.netRecord (s : State) (bs : List Nat) : State :=
  let up := s.on (NET_E_STATUS_LINK (s.rd NET_TALLY_CFG_TALLY_PORT))
  match (if up then addBatch (s.rd NET_TALLY_CFG_BATCH) s.now bs s.scal.batches else none) with
  | some q => { s with scal := { s.scal with batches := q, netDrop := false } }
  | none =>
    let was := s.scal.netDrop
    let s := (s.bump SCALER_NET_DROPPED_NET).set1 NET_STATUS_DGRAM_DROP
    let s := { s with scal := { s.scal with netDrop := true } }
    if was then s else s.fault srcNet 0x9105 (slot1 (ofLeBytes ((bs.drop 4).take 4)))

/-- The port on which a packet to a device would leave (R419). -/
def State.routePort (s : State) (dst : Nat) : Option Nat :=
  match s.chain.members.find? (·.id == dst) with
  | some m => some m.port
  | none => if s.isRoot then none else s.parent

/-- Can a peer packet to a device leave now: its port is up and this member sends? -/
def State.canReach (s : State) (dst : Nat) : Bool :=
  s.member && !s.chain.muted && dst != s.deviceId && dst != idAll && (match s.routePort dst with
    | some k => s.groupUp (lpPort k) 0
    | none => false)

/-- The eight blocks of a 64-byte record. -/
def recordBlocks (bs : List Nat) : List Nat := tabulate 8 (fun i => ofLeBytes ((bs.drop (8 * i)).take 8))

/-- A record goes in a TALLY packet to a device (R244). -/
def State.sendRecord (s : State) (dst : Nat) (bs : List Nat) : State :=
  s.sendTo dst { ty := pkTally, payload := s.ownHead dst :: recordBlocks bs }

/-- A record goes to COLLECT_ID, or is dropped for that destination (R241, R244). -/
def State.chainRecord (s : State) (bs : List Nat) : State :=
  let dst := s.rd SCALER_COLLECT
  if s.canReach dst then s.sendRecord dst bs else s.bump SCALER_NET_DROPPED_CHAIN

/-- A record that both destinations' filters have been asked about is sent (R244). [DEDUCED, log 70] -/
def State.deliverRecord (s : State) (net chain : Bool) (bs : List Nat) : State :=
  let s := if net && s.on SCALER_CTRL_NET_EN then s.netRecord bs else s
  if chain && s.on SCALER_CTRL_CHAIN_EN then s.chainRecord bs else s

def State.deliverTally (s : State) (t : TallyRec) (bs : List Nat) : State :=
  s.deliverRecord (filterTally (s.rd SCALER_NET_FILTER) t) (filterTally (s.rd SCALER_CHAIN_FILTER) t) bs

def State.deliverCov (s : State) (bs : List Nat) : State :=
  s.deliverRecord (s.on SCALER_NET_FILTER_COVERAGE) (s.on SCALER_CHAIN_FILTER_COVERAGE) bs

/-! ### The coverage queue (R239, R240, R243) -/

/-- A queued record absorbs a later one: union of ranges and spans, the earlier CAUSE, MERGED_COV; every
ring takes the wider record (R243). [DEDUCED, log 63] -/
def mergeCov (rings : Nat) (c : CovEntry) (n : CovRec) : CovEntry :=
  { c with
    rings := rings
    body := { c.body with
      first := min c.body.first n.first
      last := max c.body.last n.last
      left := min c.body.left n.left
      right := max c.body.right n.right
      merged := true } }

/-- Merge into the newest record of the same SOURCE, else into the newest of this device's own.
[DEDUCED, log 63] -/
def mergeNewest (rings : Nat) (n : CovRec) (q : List CovEntry) : List CovEntry :=
  let r := q.reverse
  let same := r.findIdx? (fun c => c.raw.isNone && c.body.source == n.source)
  let own := r.findIdx? (fun c => c.raw.isNone)
  let i := match same with
    | some i => i
    | none => own.getD 0
  match r[i]? with
  | some c => (setNth r i (mergeCov rings c n)).reverse
  | none => q

/-- A record takes the next SEQ (R239). -/
def State.takeSeq (s : State) : Nat × State :=
  let q := s.rd SCALER_SEQ_NEXT
  (q, s.wr SCALER_SEQ_NEXT (q + 1))

/-- A run of merges ends when the coverage queue has room: fault 0x5003 with its count (R243).
[DEDUCED, log 63] -/
def State.endMerging (s : State) : State :=
  match s.scal.merging with
  | some (src, n) =>
    if s.scal.covQ.length < 1024 then
      ({ s with scal := { s.scal with merging := none } }).fault srcScaler 0x5003 (slot1 src ++ slot1 n)
    else s
  | none => s

/-- Lines that a full-width record names count as segmented (R247). [DEDUCED, log 66] -/
def dropHoles (a b : Int) (hs : List (Nat × Int × Int)) : List (Nat × Int × Int) :=
  hs.flatMap (fun h =>
    if h.2.2 < a || b < h.2.1 then [h]
    else (if h.2.1 < a then [(h.1, h.2.1, a - 1)] else [])
      ++ (if b < h.2.2 then [(h.1, b + 1, h.2.2)] else []))

/-- A coverage record enters the emitter's coverage queue: it takes its SEQ, or is merged when the
queue of 1,024 is full (R239, R243).  `front` puts it ahead of every other (R456). -/
def State.enterCov (s : State) (c : CovRec) (front : Bool) : State :=
  let w := s.fullSpan
  let s := if c.left ≤ w.1 && decide (w.2 ≤ c.right) then
      { s with scal := { s.scal with holes := dropHoles c.first c.last s.scal.holes } }
    else s
  if s.scal.covQ.length < 1024 then
    let q := s.takeSeq
    let s := q.2
    let c := { c with seq := q.1, ptpNs := s.net.ptpNs, ptpWrap := s.net.ptpWrap }
    let e : CovEntry := { body := c, rings := s.ringsCov }
    let s := if s.ringsCov = 0 then s
      else { s with scal := { s.scal with covQ := if front then e :: s.scal.covQ else s.scal.covQ ++ [e] } }
    s.deliverCov c.bytes
  else
    let n := match s.scal.merging with
      | some (src, n) => (src, n + 1)
      | none => (c.source, 1)
    { s with scal := { s.scal with covQ := mergeNewest s.ringsCov c s.scal.covQ, merging := some n } }

/-- A coverage record enters the queue behind the others. -/
def State.enqueueCov (s : State) (c : CovRec) : State := s.enterCov c false

/-- A coverage record for lines `a .. b` as one piece. -/
def State.covRec (s : State) (a b : Int) (left right cause source detail detail2 page : Nat) :
    CovRec :=
  { deviceId := s.deviceId, seq := 0, epoch := s.epochOf a, first := a, last := b, left := left
    right := right, cause := cause, source := source, detail := detail, detail2 := detail2
    pageId := page, merged := false, ptpNs := 0, ptpWrap := 0 }

/-- No page named in a record. -/
def noPage : Nat := 0xFFFFFFFF

/-- Publish coverage for lines `a .. b`: one record for each part whose own position lies in
M5 to M8 (R538). -/
def State.cover (s : State) (a b : Int) (left right cause source detail detail2 : Nat)
    (page : Nat := noPage) : State :=
  (inspectedSpans s.top.hist openLine a b).foldl
    (fun s (p : Int × Int) =>
      s.enqueueCov (s.covRec p.1 p.2 left right cause source detail detail2 page)) s

/-- Coverage across the full stitched width. -/
def State.coverFull (s : State) (a b : Int) (cause source detail detail2 : Nat) : State :=
  let w := s.fullSpan
  s.cover a b w.1 w.2 cause source detail detail2

/-! ### The tally queue (R239, R241, R242, R245) -/

/-- A loss summary takes one more lost tally (R242). -/
def addLoss (o : Option LossSum) (t : TallyRec) (seq : Nat) : LossSum :=
  match o with
  | none => ⟨t.firstLine, t.lastLine, t.left, t.right, seq, 1⟩
  | some l =>
    { l with
      first := min l.first t.firstLine, last := max l.last t.lastLine
      left := min l.left t.left, right := max l.right t.right, count := l.count + 1 }

/-- A tally finds the tally queue full (R242). -/
def State.loseTally (s : State) (t : TallyRec) (seq rings : Nat) : State :=
  let s := (s.set1 SCALER_STATUS_TALLY_LOST).bump SCALER_LOST
  let s := (List.range 4).foldl (fun s r =>
    if bitAt rings r then
      let s := s.bump (SCALER_RING_LOST r)
      { s with scal := { s.scal with
        loss := spSet (fun _ => none) s.scal.loss r (some (addLoss (spGet (fun _ => none) s.scal.loss r) t seq)) } }
    else s) s
  let was := s.scal.losing
  let s := ({ s with scal := { s.scal with losing := true } }).occur 234
  if was then s else s.fault srcScaler 0x5002 (slot1 seq ++ slot1 rings)

/-- Does a range of lines meet a run of late lines (R249)? -/
def State.isLate (s : State) (a b : Int) : Bool :=
  s.scal.lateRuns.any (fun r => decide (r.1 ≤ b) && decide (a ≤ r.2))

/-- The snippet window of a tally (R245): centred on its centroid and clipped to the stitched width.
[DEDUCED, log 71] -/
def State.snipJob (s : State) (t : TallyRec) : SnipJob :=
  let w := 64 * s.rd SCALER_SNIP_SNIP_W
  let h := s.rd SCALER_SNIP_SNIP_H
  let c := (t.xpos / 16 : Int) - s.rd STITCH_XBASE
  let c0 := max 0 (c - (w / 2 : Nat))
  let c1 := min (s.rd STITCH_LAYOUT_WIDTH : Int) (c - (w / 2 : Nat) + w)
  { first := floorShift t.pos 16 - (h / 2 : Nat), col := c0.toNat, w := (c1 - c0).toNat, h := h }

/-- Do tallies take snippets (R245)? [DEDUCED, log 71] -/
def State.snippets (s : State) : Bool :=
  s.on SCALER_SNIP_SNIP_W && s.on SCALER_SNIP_SNIP_H && s.on SCALER_SNIP_SLOTS_SLOTS

/-- A tally of this device enters the tally queue, or is lost (R239, R242). `snip` says whether it may
take a snippet, for which the queue then holds it; `hold` is the first line whose verdict it holds. -/
def State.enterTally (s : State) (t : TallyRec) (snip : Bool) (hold : Int) : State :=
  let q := s.takeSeq
  let s := q.2
  let t := { t with seq := q.1, ptpNs := s.net.ptpNs, ptpWrap := s.net.ptpWrap, deviceId := s.deviceId }
  let t := if s.isLate t.firstLine t.lastLine then t.setFlag flagLate else t
  let rings := s.ringsFor t
  if 8192 ≤ s.scal.talQ.length then s.loseTally t q.1 rings
  else
    let s := { s with scal := { s.scal with losing := false } }
    let s := s.bump SCALER_TALLIES
    if snip && s.snippets then
      let e : TallyEntry := { body := t, rings := rings, snip := some (s.snipJob t), hold := hold }
      { s with scal := { s.scal with talQ := s.scal.talQ ++ [e] } }
    else
      let e : TallyEntry := { body := t, rings := rings, hold := hold }
      let s := if rings = 0 then s else { s with scal := { s.scal with talQ := s.scal.talQ ++ [e] } }
      s.deliverTally t t.bytes

/-- A record forwarded from a chain peer enters the emitter unchanged and takes no SEQ (R244).
[DEDUCED, log 70] -/
def State.enterForeign (s : State) (bs : List Nat) : State :=
  if nth 0 bs 0 = 0x20 then
    let c := covOf bs
    if s.scal.covQ.length < 1024 then
      let s := if s.ringsCov = 0 then s
        else { s with scal := { s.scal with covQ := s.scal.covQ ++ [{ body := c, raw := some bs, rings := s.ringsCov }] } }
      s.deliverCov bs
    else
      let n := match s.scal.merging with
        | some (src, n) => (src, n + 1)
        | none => (c.source, 1)
      { s with scal := { s.scal with covQ := mergeNewest s.ringsCov c s.scal.covQ, merging := some n } }
  else
    let t := tallyOf bs
    let rings := s.ringsFor t
    if 8192 ≤ s.scal.talQ.length then s.loseTally t t.seq rings
    else
      let e : TallyEntry := { body := t, raw := some bs, rings := rings, hold := openLine }
      let s := if rings = 0 then s else { s with scal := { s.scal with talQ := s.scal.talQ ++ [e], losing := false } }
      s.deliverTally t bs

/-! ### Host rings (R240 to R242) -/

/-- Entries of ring r that the emitter may still write (R125, R240). -/
def State.ringRoom (s : State) (r : Nat) : Nat :=
  let d := s.rd (SCALER_RING_CFG_DEPTH r)
  if d = 0 then 0 else (s.rd (SCALER_RING_RD r) + 2 * d - s.rd (SCALER_RING_WR r) % d - 1) % d

/-- Bytes that channels have read count in DMA_RD_KIB, in whole KiB. -/
def State.countRead (s : State) (n : Nat) : State :=
  let t := s.scribe.rdRem + n
  let s := { s with scribe := { s.scribe with rdRem := t % 1024 } }
  s.wr DMA_RD_KIB (s.rd DMA_RD_KIB + t / 1024)

/-- Bytes that channels and the emitter have written count in DMA_WR_KIB, in whole KiB. -/
def State.countWritten (s : State) (n : Nat) : State :=
  let t := s.scribe.wrRem + n
  let s := { s with scribe := { s.scribe with wrRem := t % 1024 } }
  s.wr DMA_WR_KIB (s.rd DMA_WR_KIB + t / 1024)

/-- A write of the emitter through the DMA write engine to host or DRAM, as requester DMA (R329, R499).
[DEDUCED, log 158] -/
def State.ringPut (s : State) (r a : Nat) (bs : List Nat) : State :=
  let p := s.permit reqDma clsMemory true a
  if !p.1 then p.2
  else
    let s := p.2.countWritten bs.length
    if s.on (SCALER_RING_CFG_HOST r) then s.hostPut a bs else s.dramPut a bs clsDma

/-- One record goes to entry WR of ring r, and WR advances (R240). [DEDUCED, log 158] -/
def State.ringWrite (s : State) (r seq : Nat) (bs : List Nat) (cov : Bool) : State :=
  let wr := s.rd (SCALER_RING_WR r)
  let base := s.rd (SCALER_RING_BASE r)
  let s := s.ringPut r (base + 64 * wr) bs
  let s := if r = 0 then { s with scal := { s.scal with ringSeq := spSet (fun _ => 0) s.scal.ringSeq wr seq } } else s
  let next := (wr + 1) % s.rd (SCALER_RING_CFG_DEPTH r)
  let s := s.wr (SCALER_RING_WR r) next
  let s := if s.on (SCALER_RING_CFG_WB_EN r) then
      s.ringPut r (base / 2 ^ 32 * 2 ^ 32 + s.rd (SCALER_RING_WB_ADDR r)) (leBytes 4 next)
    else s
  s.occur (if cov then 232 else 231)

/-- The next record of ring r in each queue: coverage, and a tally behind no held one (R240, R246). -/
def State.nextCov (s : State) (r : Nat) : Option CovEntry := s.scal.covQ.find? (fun c => bitAt c.rings r)

def State.nextTally (s : State) (r : Nat) : Option TallyEntry :=
  match s.scal.talQ.find? (fun t => bitAt t.rings r) with
  | some t => if t.snip.isSome then none else some t
  | none => none

/-- Is the loss summary of ring r due ahead of a record with this SEQ (R242)? -/
def State.summaryFirst (s : State) (r seq : Nat) : Bool :=
  match spGet (fun _ => none) s.scal.loss r with
  | some l => decide ((seq + 2 ^ 32 - l.seq) % 2 ^ 32 < 2 ^ 31)
  | none => false

/-- Entries that every ring has taken leave the queues (R241). -/
def State.freeEntries (s : State) : State :=
  ({ s with scal := { s.scal with
    covQ := s.scal.covQ.filter (fun c => c.rings != 0)
    talQ := s.scal.talQ.filter (fun t => t.rings != 0 || t.snip.isSome) } }).endMerging

/-- Ring r has taken the record of its queue with a SEQ and device. -/
def dropRing (r m : Nat) : Nat := if bitAt m r then m - 2 ^ r else m

/-- RING_RECORD_WRITE (R240 to R242): the next record of ring r is written: coverage ahead of tallies, in
SEQ order within each kind, tallies only while more than RESERVE entries are free. -/
def execRingRecordWrite (r : Fin 4) (s : State) : Host.Outcome State Fault Refusal :=
  let r := r.val
  let room := s.ringRoom r
  if room = 0 then .next s
  else
    match s.nextCov r with
    | some c =>
      if s.summaryFirst r c.body.seq && c.raw.isNone then .next s
      else
        let bs := c.raw.getD c.body.bytes
        let s := { s with scal := { s.scal with covQ := s.scal.covQ.map (fun e =>
          if e = c then { e with rings := dropRing r e.rings } else e) } }
        .next ((s.ringWrite r c.body.seq bs true).freeEntries)
    | none =>
      match s.nextTally r with
      | some t =>
        if room ≤ s.rd (SCALER_RING_CFG_RESERVE r) || (s.summaryFirst r t.body.seq && t.raw.isNone) then .next s
        else
          let bs := t.raw.getD t.body.bytes
          let s := { s with scal := { s.scal with talQ := s.scal.talQ.map (fun e =>
            if e = t then { e with rings := dropRing r e.rings } else e) } }
          .next ((s.ringWrite r t.body.seq bs false).freeEntries)
      | none => .next s

/-- LOSS_SUMMARY_WRITE (R242): ring r has a free entry and takes its loss summary, which takes its own
SEQ. -/
def execLossSummaryWrite (r : Fin 4) (s : State) : Host.Outcome State Fault Refusal :=
  let r := r.val
  match spGet (fun _ => none) s.scal.loss r with
  | some l =>
    if s.ringRoom r = 0 then .next s
    else
      let q := s.takeSeq
      let s := q.2
      let c := s.covRec l.first l.last l.left l.right 0x51 4 l.seq l.count noPage
      let c := { c with seq := q.1, ptpNs := s.net.ptpNs, ptpWrap := s.net.ptpWrap }
      let s := { s with scal := { s.scal with loss := spSet (fun _ => none) s.scal.loss r none } }
      .next (s.ringWrite r q.1 c.bytes true)
  | none => .next s

/-- A write of RD of ring r: entries are freed, and ring 0 reports the newest SEQ freed (R241). -/
def State.ringRd (s : State) (r v : Nat) : State :=
  let old := s.rd (SCALER_RING_RD r)
  let s := s.wr (SCALER_RING_RD r) v
  let d := s.rd (SCALER_RING_CFG_DEPTH r)
  if r = 0 && d != 0 && v % 2 ^ 16 != old then
    s.wr SCALER_SEQ_ACK (spGet (fun _ => 0) s.scal.ringSeq ((v % 2 ^ 16 + d - 1) % d))
  else s

end Sys2Proof.Machine
end

