-- ==== Sys2Proof/Machine/Sched.lean ====
section
/-! DEFINITION. The position scheduler (R36 to R39) and the movement of web position (R16, R25 to
R27, R34, R535, R539). -/

namespace Sys2Proof.Machine

open Sys2Proof

/-- The order of an action's kind, which is also its kind number in fault records (R38). -/
def Action.kind : Action → Nat
  | .modeDecision => 1
  | .modeChange => 1
  | .commit _ _ => 2
  | .frame _ _ => 3
  | .trigger _ _ => 4
  | .profileSync _ => 5
  | .marker _ => 6
  | .verdict => 7
  | .waitpos _ => 8

/-- A slot in 1/256 line as a 48.16 position. -/
def slotPos16 (slot : Int) : Int := slot * 256

/-- A 48.16 position rounded to a slot of 1/256 line (R36). -/
def slotOf (p : Int) : Int := rneShift p 8

/-- The slot of a whole line. -/
def lineSlot (l : Int) : Int := l * 256

/-- Is a slot at or behind an internal position? -/
def slotPassed (slot pos : Int) : Bool := decide (slot * (2 : Int) ^ 32 ≤ pos)

/-- Has an entry not fallen due yet in tick `now`? -/
def SchedEntry.isOpen (e : SchedEntry) (now : Nat) : Bool :=
  match e.due with
  | none => true
  | some d => decide (now < d)

/-- Entries in use: an action that has fallen due has been sent to its units (R36, R39). [DEDUCED, log 7] -/
def State.schedUsed (s : State) : Nat := (s.tl.sched.filter (·.isOpen s.now)).length

/-- The scheduler keeps its PEAK of entries in use. -/
def State.notePeak (s : State) : State :=
  s.wr TIMELINE_SCHED_STATUS_PEAK (max (s.rd TIMELINE_SCHED_STATUS_PEAK) (min s.schedUsed 4095))

/-- The scheduler takes an entry. -/
def State.addEntry (s : State) (e : SchedEntry) : State :=
  ({ s with tl := { s.tl with sched := s.tl.sched ++ [e] } }).notePeak

/-- An action whose slot has passed: a marker action is discarded (R37). -/
def State.markerSkipped (s : State) (m : Nat) (slot : Int) : State :=
  ((s.set1 TIMELINE_STATUS_MARKER_SKIPPED).set1 (TIMELINE_MK_STATUS_SKIPPED m)).fault srcTimeline
    0x7021 (slot1 m ++ slotPos (slotPos16 slot) ++ slotPos s.pos16)

/-- An action whose slot has passed executes late (R37). -/
def State.missedSlot (s : State) (act : Action) (slot : Int) : State :=
  (s.set1 TIMELINE_STATUS_MISSED_SLOT).fault srcTimeline 0x7020
    (slot1 act.kind ++ slotPos (slotPos16 slot) ++ slotPos s.pos16)

/-- A unit offers an action at a slot (R36, R37).  Answers the state and whether the scheduler took
it.  While RUN is 0 the test for a passed slot waits for RUN_START (R18). -/
def State.offer (s : State) (act : Action) (slot : Int) : State × Bool :=
  if 2048 ≤ s.schedUsed then
    ((s.set1 TIMELINE_STATUS_SCHED_FULL).fault srcTimeline 0x7022
      (slot1 act.kind ++ slotPos (slotPos16 slot)), false)
  else if s.on TIMELINE_CTRL_RUN && slotPassed slot s.tl.pos then
    match act with
    | .marker m => (s.markerSkipped m slot, true)
    | act => ((s.missedSlot act slot).addEntry ⟨slot, act, some (s.now + 1), true⟩, true)
  else (s.addEntry ⟨slot, act, none, false⟩, true)

/-- Offer of an action, the answer dropped. -/
def State.offer' (s : State) (act : Action) (slot : Int) : State := (s.offer act slot).1

/-- Withdraw every pending entry that satisfies a test. -/
def State.withdraw (s : State) (p : Action → Bool) : State :=
  { s with tl := { s.tl with sched := s.tl.sched.filter (fun e => !p e.act) } }

/-- Withdraw the entries that satisfy a test and have not fallen due. -/
def State.withdrawOpen (s : State) (p : Action → Bool) : State :=
  { s with tl := { s.tl with sched := s.tl.sched.filter (fun e => !(p e.act && e.isOpen s.now)) } }

/-- Entries whose slot the position has reached fall due in this tick (R36). -/
def markDue (now : Nat) (pos : Int) (es : List SchedEntry) : List SchedEntry :=
  es.map (fun e =>
    match e.due with
    | some _ => e
    | none => if slotPassed e.slot pos then { e with due := some now } else e)

/-- Does entry `a` execute before entry `b`: earlier due tick, then kind, then slot (R38)? -/
def entryBefore (a b : SchedEntry) : Bool :=
  let da := a.due.getD 0
  let db := b.due.getD 0
  if da = db then
    if a.act.kind = b.act.kind then decide (a.slot ≤ b.slot) else decide (a.act.kind < b.act.kind)
  else decide (da < db)

/-- Every unit applies an action this many ticks after the tick in which it fell due (R39). [DEDUCED, log 7] -/
def applyDelay : Nat := 8

/-- The entry that is applied first, of those that fell due 8 ticks ago or more (R38, R39). [DEDUCED, log 7] -/
def firstDue (now : Nat) : List SchedEntry → Option SchedEntry
  | [] => none
  | e :: es =>
    let here := match e.due with
      | some d => decide (d + applyDelay ≤ now)
      | none => false
    match firstDue now es with
    | none => if here then some e else none
    | some f => if here && entryBefore e f then some e else some f

/-- Remove the first entry equal to `e`. -/
def dropEntry (e : SchedEntry) : List SchedEntry → List SchedEntry
  | [] => []
  | f :: fs => if f = e then fs else f :: dropEntry e fs

/-- The first action to apply, when it satisfies a test, with the entry taken off (R38, R39).
[DEDUCED, log 7] -/
def State.takeDue (s : State) (p : Action → Bool) : Option (SchedEntry × State) :=
  match firstDue s.now s.tl.sched with
  | some e =>
    if p e.act then some (e, { s with tl := { s.tl with sched := dropEntry e s.tl.sched } })
    else none
  | none => none

/-- An action that falls due in the tick in which it is offered (R45). -/
def State.dueNow (s : State) (act : Action) (slot : Int) : State :=
  if 2048 ≤ s.schedUsed then
    (s.set1 TIMELINE_STATUS_SCHED_FULL).fault srcTimeline 0x7022 (slot1 act.kind ++ slotPos (slotPos16 slot))
  else s.addEntry ⟨slot, act, some s.now, false⟩

/-! ### Commit boundaries and line triggers offer their actions (R36, R40, R106) -/

def isCommitOf (u : CommitUnit) : Action → Bool
  | .commit v _ => v == u
  | _ => false

/-- The commit boundary of a unit that is to be applied, when no action of another kind comes before it
(R38, R39). [DEDUCED, log 7] -/
def State.takeCommit (s : State) (u : CommitUnit) : Option (SchedEntry × State) :=
  match firstDue s.now (s.tl.sched.filter (fun e => isCommitOf u e.act || e.act.kind != 2)) with
  | some e =>
    if isCommitOf u e.act then some (e, { s with tl := { s.tl with sched := dropEntry e s.tl.sched } })
    else none
  | none => none

def isFrameOf (f : Nat) : Action → Bool
  | .frame g _ => g == f
  | _ => false

def isTrigger : Action → Bool
  | .trigger _ _ => true
  | _ => false

/-- The next boundary of a unit, offered and not yet due: its slot and its line (R106, R140, R253). A page
boundary comes from the ledger. [DEDUCED, log 9] -/
def State.nextBoundaryOf (s : State) (u : CommitUnit) : Option (Int × Int) :=
  let line (e : SchedEntry) : Option Int :=
    match s.boundaryKind u, e.act with
    | .frame g, .frame f l => if f = g then some l else none
    | .line, .trigger l none => some l
    | _, _ => none
  s.tl.sched.foldl (fun (a : Option (Int × Int)) e =>
    match (if e.isOpen s.now then line e else none), a with
    | some l, some b => if e.slot < b.1 then some (e.slot, l) else some b
    | some l, none => some (e.slot, l)
    | none, b => b) none

/-- A unit with a pending COMMIT has one action in the scheduler, at its next boundary; without one the COMMIT
stays pending (R36, R106). [DEDUCED, log 9] -/
def State.offerCommit (s : State) (u : CommitUnit) : State :=
  let mine := s.tl.sched.filter (fun e => isCommitOf u e.act)
  if (mine.isEmpty && (s.unitCtx u).pend.isEmpty) || s.boundaryKind u == .page then s
  else
    let want :=
      if (s.unitCtx u).pend.isEmpty || mine.any (fun e => !e.isOpen s.now) then none else s.nextBoundaryOf u
    if (mine.filter (·.isOpen s.now)).map (fun e => (e.slot, e.act))
        = (want.map (fun w => (w.1, Action.commit u w.2))).toList then s
    else
      let s := s.withdrawOpen (isCommitOf u)
      match want with
      | some w => s.offer' (.commit u w.2) w.1
      | none => s

/-- The commit actions follow the boundaries that the generators offer (R106). -/
def State.offerCommits (s : State) : State := allUnits.foldl (fun s u => s.offerCommit u) s

/-- The last line that may be triggered: below H in M11 HALT (R440). [DEDUCED, log 136] -/
def State.lastTriggered (s : State) (b : Int) : Int :=
  if s.mode = 11 then
    match s.top.haltLine with
    | some h => min b (h - 1)
    | none => b
  else b

/-- The trigger generator offers the trigger of the next line while TRIG_EN is 1, in place of one offered
before (R36, R40, R440). [DEDUCED, log 9] -/
def State.armTrigger (s : State) : State :=
  let s := s.withdrawOpen isTrigger
  let l := max 0 s.nextDue
  let s := if s.on TIMELINE_TRIG_CTRL_TRIG_EN && decide (l ≤ s.lastTriggered l) then
      s.offer' (.trigger l none) (lineSlot l + s.rd TIMELINE_TRIG_CTRL_PHASE)
    else s
  s.offerCommits

/-- An offered trigger that has fallen due and whose lines are not yet known. -/
def freshTrigger (now : Nat) (e : SchedEntry) : Bool :=
  match e.act with
  | .trigger _ none => !e.isOpen now
  | _ => false

/-- A NEXT_LINE boundary is that of a line trigger in a tick after the COMMIT's (R106). -/
def State.notThisLine (s : State) (u : CommitUnit) : State :=
  if s.boundaryKind u = .line && ((s.unitCtx u).eligible s.now).isNone then s.withdraw (isCommitOf u) else s

/-- The lines whose triggers fall due in this tick pass the high-water mark, and the next is offered (R40).
[DEDUCED, log 9] -/
def State.trigDue (s : State) : State :=
  match s.tl.sched.find? (freshTrigger s.now) with
  | some e =>
    match e.act with
    | .trigger a _ =>
      let b := max a (s.lastTriggered s.lineDue)
      let es := s.tl.sched.map (fun x => if x = e then { x with act := .trigger a (some b) } else x)
      let s := { s with tl := { s.tl with sched := es, mark := some b } }
      (allUnits.foldl (fun s u => s.notThisLine u) s).armTrigger
    | _ => s
  | none => s

/-- A frame generator offers its boundary at a line (R44). -/
def State.offerFrame (s : State) (f : Nat) (l : Int) : State :=
  ((s.setFrameGen f { s.frameGen f with offered := some l }).offer' (.frame f l) (lineSlot l)).offerCommits

/-- A GENERATED generator whose boundary falls due offers the next one, LEN lines on (R44). [DEDUCED, log 31] -/
def State.frameDue (s : State) (f : Nat) : State :=
  let len := s.rd (TIMELINE_FRAME_LEN f)
  match (s.frameGen f).offered with
  | some l =>
    if s.rd (TIMELINE_FRAME_CTRL_SRC f) = 1 && len != 0
        && s.tl.sched.any (fun e => e.act == .frame f l && !e.isOpen s.now) then s.offerFrame f (l + len)
    else s
  | none => s

/-- Entries whose slot the position has reached fall due in this tick while RUN is 1, and the generators offer
their next actions (R18, R36, R40, R44). -/
def State.fallDue (s : State) : State :=
  let s := if s.on TIMELINE_CTRL_RUN then
      { s with tl := { s.tl with sched := markDue s.now s.tl.pos s.tl.sched } }
    else s
  ((List.range 4).foldl (fun s f => s.frameDue f) s).trigDue

/-! ### Virtual limits (R34) -/

/-- One crossing of a virtual limit: flag, event and fault. -/
def State.vlimHit (s : State) (which : Nat) : State :=
  let s := s.set1 (if which = 0 then TIMELINE_STATUS_VLIM_LOW else TIMELINE_STATUS_VLIM_HIGH)
  (s.occur (80 + which)).fault srcTimeline 0x7024 (slot1 which ++ slotPos s.pos16)

/-- Test of the virtual limits after a movement (R34): once per excursion. [DEDUCED, log 164] -/
def State.testVlim (s : State) : State :=
  if s.on TIMELINE_CTRL_VLIM_EN then
    let low := decide (s.pos16 < s.rdS TIMELINE_VLIM_LOW)
    let high := decide (s.pos16 > s.rdS TIMELINE_VLIM_HIGH)
    let s1 := if low && !s.tl.vlimLowOut then s.vlimHit 0 else s
    let s2 := if high && !s.tl.vlimHighOut then s1.vlimHit 1 else s1
    { s2 with tl := { s2.tl with vlimLowOut := low, vlimHighOut := high } }
  else s

/-- Web position moves to `p`: the virtual limits are tested and entries fall due (R17, R34, R36). -/
def State.moveTo (s : State) (p : Int) : State :=
  let s := { s with tl := { s.tl with pos := p } }
  s.testVlim.fallDue

/-! ### The web master (R16, R18, R25 to R27) -/

/-- MASTER_SRC values (R18). -/
def srcChainMaster : Nat := 4
def srcSim : Nat := 5

/-- The step size of the ratio in 2^-40 line: TIMELINE_RATIO is 8.24 (R16). -/
def State.ratio40 (s : State) : Int := (s.rd TIMELINE_RATIO : Int) * 65536

/-- Does this tick complete TIMELINE_STALL ticks without a step of the web master (R27)? -/
def State.stallDue (s : State) : Bool :=
  s.rd TIMELINE_STALL != 0 && decide (s.tl.lastMasterStep + s.rd TIMELINE_STALL ≤ s.now)

/-- Does extrapolation run: two pairs in one direction with a later second tick, no stall (not in the tick
that declares one either), RUN 1 and a master other than SIM (R25, R27, R539)? -/
def State.extrapolating (s : State) : Option (LatchPair × LatchPair) :=
  if s.on TIMELINE_CTRL_RUN && !s.on TIMELINE_STATUS_WEB_STOPPED && !s.stallDue
      && s.rd TIMELINE_CTRL_MASTER_SRC != srcSim then
    match s.tl.pairs with
    | p2 :: p1 :: _ => if p1.fwd = p2.fwd && decide (p1.tick < p2.tick) then some (p1, p2) else none
    | _ => none
  else none

/-- The velocity v of R25 in units of 2^-64 line per tick; the division truncates toward 0. -/
def pairVelocity (p1 p2 : LatchPair) : Int :=
  ((p2.pos - p1.pos) * (2 : Int) ^ 24).tdiv ((p2.tick : Int) - p1.tick)

/-- The effective tick length in units of 2^-26 ns: TIMELINE_NS_PER_TICK plus the temperature
correction CORR of R481 scaled by 2.5 / 2.0. [DEDUCED, log 29] -/
def State.tickLen26 (s : State) : Int :=
  4 * (s.rd TIMELINE_NS_PER_TICK : Int) + 5 * s.rdS THERM_CORR

/-- TIMELINE_VELOCITY, signed 24.8 lines per second (R535). [DEDUCED, log 29] -/
def State.velocityCode (s : State) : Int :=
  if s.rd TIMELINE_CTRL_MASTER_SRC = srcSim then s.rdS TIMELINE_SIM_RATE
  else
    match s.extrapolating with
    | some (p1, p2) =>
      let l := s.tickLen26
      if l ≤ 0 then 0
      else satS 32 (rneDiv (pairVelocity p1 p2 * (10 : Int) ^ 9 * 256 * (2 : Int) ^ 26) ((2 : Int) ^ 64 * l))
    | none => 0

/-- TIMELINE_VELOCITY follows the state (R535). -/
def State.updVelocity (s : State) : State := s.wrS TIMELINE_VELOCITY s.velocityCode

/-- The master moved: the stall count restarts and a declared stall ends with WEB_MOVING (R27).
[DEDUCED, log 26] -/
def State.masterActive (s : State) : State :=
  let s := { s with tl := { s.tl with lastMasterStep := s.now } }
  if s.on TIMELINE_STATUS_WEB_STOPPED then (s.wr TIMELINE_STATUS_WEB_STOPPED 0).occur 83 else s

/-- A sum of positions within signed 48.40; beyond it no rule states the result, and it is a free value (R6,
R15). [DESIGN CHOICE, log 27] -/
def State.posFit (s : State) (p : Int) : Int × State :=
  if -(2 : Int) ^ 87 ≤ p ∧ p < (2 : Int) ^ 87 then (p, s)
  else
    let r := s.free 88
    (signed 88 r.1, r.2)

/-- A latch pair of the web master while RUN is 1: position, tick and direction (R25, R26).  A pair
behind the displayed position of the same direction leaves it; a reversal takes effect as latched. -/
def State.latchPair (s : State) (p : Int) (t : Nat) (fwd : Bool) : State :=
  let shown :=
    match s.tl.pairs with
    | q :: _ =>
      if q.fwd = fwd then (if fwd then max s.tl.pos p else min s.tl.pos p) else p
    | [] => p
  let reverse := match s.tl.pairs with
    | q :: _ => !q.fwd && !fwd
    | [] => false
  let s := { s with tl := { s.tl with pairs := ⟨p, t, fwd⟩ :: s.tl.pairs.take 1, latched := p } }
  let s := s.wr TIMELINE_STATUS_REVERSE (b2n reverse)
  (s.moveTo shown).updVelocity

/-- Extrapolation of one tick (R25): clamped to one step ahead and never backward within a
direction.  For SSI the clamp is the last pair's own distance, for CHAIN it is v × POS_TIMEOUT
(R416). -/
def State.extrapolate (s : State) : State :=
  match s.extrapolating with
  | none => s.updVelocity
  | some (p1, p2) =>
    let v := pairVelocity p1 p2
    let pe := p2.pos + floorShift (v * ((s.now : Int) - p2.tick)) 24
    let src := s.rd TIMELINE_CTRL_MASTER_SRC
    let r :=
      if src = srcChainMaster then
        floorShift ((v.natAbs : Int) * (s.rd CHAIN_TIMING_POS_TIMEOUT * ticksPerUs)) 24
      else if s.rd (TIMELINE_ENC_CTRL_MODE src) = 5 then ((p2.pos - p1.pos).natAbs : Int)
      else s.ratio40
    let p := s.posFit (if p2.fwd then max s.tl.pos (min pe (p2.pos + r))
      else min s.tl.pos (max pe (p2.pos - r)))
    (p.2.moveTo p.1).updVelocity

/-- The SIM increment: round_even(SIM_RATE × 2^32 / 400,000,000) in 2^-40 line (R539). -/
def State.simIncrement (s : State) : Int :=
  rneDiv (s.rdS TIMELINE_SIM_RATE * (2 : Int) ^ 32) 400000000

/-- The increment is formed again at each write of SIM_RATE and of MASTER_SRC, and REVERSE follows
the sign of SIM_RATE (R539). -/
def State.formSim (s : State) : State :=
  let s := { s with tl := { s.tl with simInc := s.simIncrement } }
  let s := if s.rd TIMELINE_CTRL_MASTER_SRC = srcSim then
      s.wr TIMELINE_STATUS_REVERSE (b2n (decide (s.rdS TIMELINE_SIM_RATE < 0)))
    else s
  s.updVelocity

end Sys2Proof.Machine
end

