-- ==== Sys2Proof/Machine/ScribeBase.lean ====
section
/-! DEFINITION. Command queues and DMA channels: their states, how they start, stop and wait, and the
event latches (R307 to R310, R319 to R321, R326, R327, R337 to R341). -/

namespace Sys2Proof.Machine

open Sys2Proof

/-! ### Command queues -/

/-- Queue states (SCRIBE_Qq_STATUS.STATE). -/
def qStopped : Nat := 0
def qRunning : Nat := 1
def qWaiting : Nat := 2
def qIdle : Nat := 3
def qError : Nat := 4
def qHalted : Nat := 5

def State.scq (s : State) (q : Nat) : ScQueue := spGet (fun _ => {}) s.scribe.qs q
def State.setScq (s : State) (q : Nat) (x : ScQueue) : State :=
  { s with scribe := { s.scribe with qs := spSet (fun _ => {}) s.scribe.qs q x } }

def State.qState (s : State) (q : Nat) : Nat := s.rd (SCRIBE_Q_STATUS_STATE q)

/-- STOPPED, ERROR or HALTED: START is taken and HEAD is writable (R310). -/
def State.qAtRest (s : State) (q : Nat) : Bool :=
  s.qState q == qStopped || s.qState q == qError || s.qState q == qHalted

/-- The state of a queue, with the summary bits of SCRIBE_STATUS. -/
def State.setQState (s : State) (q v : Nat) : State :=
  let s := s.wr (SCRIBE_Q_STATUS_STATE q) v
  let s := s.wr ⟨SCRIBE_STATUS.off, 8 + q, 1⟩ (b2n (v == qRunning || v == qWaiting || v == qIdle))
  s.wr ⟨SCRIBE_STATUS.off, 16 + q, 1⟩ (b2n (v == qError))

/-- Is a device address inside the queue's command ring (R307)? -/
def State.inRing (s : State) (q a : Nat) : Bool :=
  let b := s.rd (SCRIBE_Q_BASE q)
  decide (b ≤ a) && decide (a < b + s.rd (SCRIBE_Q_SIZE q))

/-- The device address of the word after `a`, `n` words on; ring words wrap (R307). -/
def State.wordAfter (s : State) (q a n : Nat) : Nat :=
  if s.inRing q a then
    let b := s.rd (SCRIBE_Q_BASE q)
    b + (a - b + 8 * n) % s.rd (SCRIBE_Q_SIZE q)
  else (a + 8 * n) % 2 ^ 44

/-- Ring words from a ring address up to TAIL (R308). -/
def State.ringLeft (s : State) (q a : Nat) : Nat :=
  let size := s.rd (SCRIBE_Q_SIZE q)
  (s.rd (SCRIBE_Q_TAIL q) + size - (a - s.rd (SCRIBE_Q_BASE q)) % size) % size / 8

/-- Words of the command that a first word opens (R311). -/
def cmdWords (w : Nat) : Nat :=
  match w / 2 ^ 56 with
  | 0x01 => 2
  | 0x02 => 1 + (bitsAt w 48 8 + 1) / 2
  | 0x03 => 2
  | 0x04 => 2
  | 0x05 => 2
  | 0x08 => 2
  | _ => 1

/-- The words of a queue's next command: those of a remote block first (R425), else those fetched (R309), when
all of them are there. A block's last command may lack words. [DEDUCED, log 95] -/
def State.nextCmd (s : State) (q : Nat) : Option (List Nat) :=
  let x := s.scq q
  match x.blocks with
  | (_, w :: ws) :: _ => some ((w :: ws).take (cmdWords w))
  | _ =>
    match x.words with
    | [] => none
    | w :: ws => if x.skip = 0 && cmdWords w ≤ ws.length + 1 then some ((w :: ws).take (cmdWords w)) else none

/-- The command that a queue runs is behind it: its block, or PC and the fetched words, go on. -/
def State.qPass (s : State) (q : Nat) : State :=
  let x := s.scq q
  if x.inBlock then
    match x.blocks with
    | (k, w :: ws) :: rest =>
      match (w :: ws).drop (cmdWords w) with
      | [] => s.setScq q { x with blocks := rest, inBlock := false }
      | more => s.setScq q { x with blocks := (k, more) :: rest }
    | _ => s
  else
    match x.words with
    | [] => s
    | w :: ws =>
      let s := s.setScq q { x with words := (w :: ws).drop (cmdWords w) }
      s.wr (SCRIBE_Q_PC q) (s.wordAfter q (s.rd (SCRIBE_Q_PC q)) (cmdWords w))

/-- The next command, or one of its words, lies at TAIL (R308). -/
def State.ringEmpty (s : State) (q : Nat) : Bool :=
  let pc := s.rd (SCRIBE_Q_PC q)
  if !s.inRing q pc then false
  else
    let left := s.ringLeft q pc
    match (s.scq q).words with
    | [] => left == 0
    | w :: _ => decide (left < cmdWords w)

/-- The kind of a wait as WAIT_KIND shows it. -/
def ScWait.kind : ScWait → Nat
  | .pos => 1
  | .time _ => 2
  | .ev => 3
  | .mode => 4
  | .access => 5
  | .signal _ _ _ _ => 5
  | .resync _ => 6

/-- HEAD (kept at rest, R310), IN_RING, LOOPS, CALLS and WAIT_KIND, and IDLE or RUNNING, as they follow from
the queue (R308). -/
def State.qShow (s : State) (q : Nat) : State :=
  let x := s.scq q
  let pc := s.rd (SCRIBE_Q_PC q)
  let ring := s.inRing q pc
  let s := s.wr (SCRIBE_Q_STATUS_IN_RING q) (b2n ring)
  let s := (s.wr (SCRIBE_Q_STATUS_LOOPS q) x.loops.length).wr (SCRIBE_Q_STATUS_CALLS q) x.calls.length
  let s := match x.loops.reverse.find? (fun (l : ScLoop) => l.ring) with
    | some l => if s.qAtRest q then s else s.wr (SCRIBE_Q_HEAD q) (l.word - s.rd (SCRIBE_Q_BASE q))
    | none => if ring && !s.qAtRest q then s.wr (SCRIBE_Q_HEAD q) (pc - s.rd (SCRIBE_Q_BASE q)) else s
  let s := if s.qState q = qRunning || s.qState q = qIdle then
      s.setQState q (if x.blocks.isEmpty && s.ringEmpty q then qIdle else qRunning)
    else s
  let fetching := s.qState q == qRunning && (s.nextCmd q).isNone
  s.wr (SCRIBE_Q_STATUS_WAIT_KIND q) (match x.wait with
    | some w => w.kind
    | none => if fetching then 7 else 0)

/-- The queue's wait, its deadline and scheduler entry go (R310, R321, R327). -/
def State.qDropWait (s : State) (q : Nat) : State :=
  let x := s.scq q
  let s := s.setScq q { x with wait := none, deadline := none }
  let s := s.wr (SCRIBE_Q_WAIT_LEFT q) 0
  s.withdraw (fun a => match a with
    | .waitpos k => k == q
    | _ => false)

/-- The command that waits is done and the queue goes on in the next tick; `c` is the value C takes (R317 to
R321). [DEDUCED, log 89; DEDUCED, log 91] -/
def State.qWake (s : State) (q : Nat) (c : Option Nat) (hop : Option Nat) : State :=
  let s := (s.qDropWait q).qPass q
  let x := s.scq q
  let s := s.setScq q { x with hop := hop, readyAt := s.now + 1 }
  let s := match c with
    | some v => s.wr (SCRIBE_Q_STATUS_C q) v
    | none => s
  (s.setQState q qRunning).qShow q

/-- A queue comes to rest in STOPPED, ERROR or HALTED. -/
def State.qRest (s : State) (q v : Nat) : State :=
  let s := s.qDropWait q
  let x := s.scq q
  let s := s.setScq q { x with words := [], blocks := [], inBlock := false, stuck := none }
  (s.setQState q v).qShow q

/-- A command fault (R327): the queue stops in ERROR and the fault is stored and recorded. [DEDUCED, log 89] -/
def State.qFault (s : State) (q code : Nat) (slots : List Nat) : State :=
  let s := (s.wr (SCRIBE_Q_ERR_CODE q) code).bumpSat (SCRIBE_Q_ERR_COUNT q)
  (s.qRest q qError).fault srcScribe code (slot1 q ++ slots)

/-- START (R310): the queue starts at HEAD with no loop, call or C; ignored in M0 and M1. [DEDUCED, log 17] -/
def State.qStart (s : State) (q v : Nat) : State :=
  if s.mode ≤ 1 then s
  else if !s.qAtRest q then s.reject SCRIBE_STATUS_CFG_REJECT srcScribe (SCRIBE_Q_CTRL q).off v
  else
    let x := s.scq q
    let s := s.setScq q { x with words := [], loops := [], calls := [], skip := 0, hop := none, readyAt := s.now + 1 }
    let s := s.wr (SCRIBE_Q_STATUS_C q) 0
    let s := s.wr (SCRIBE_Q_PC q) (s.rd (SCRIBE_Q_BASE q) + s.rd (SCRIBE_Q_HEAD q))
    (s.setQState q qRunning).qShow q

/-- STOP (R310): a wait ends at once, and the queue stops before its next command. [DEDUCED, log 94] -/
def State.qStop (s : State) (q : Nat) : State :=
  if s.qAtRest q then s else s.qRest q qStopped

/-- A write of TAIL makes new ring words available (R308). [DEDUCED, log 101] -/
def State.qTail (s : State) (q v : Nat) : State :=
  if v % 8 = 0 && decide (v < s.rd (SCRIBE_Q_SIZE q)) then (s.wr (SCRIBE_Q_TAIL q) v).qShow q
  else s.reject SCRIBE_STATUS_CFG_REJECT srcScribe (SCRIBE_Q_TAIL q).off v

/-- Every queue whose HALT_STOP is 1 stops on entry to M11 HALT (R340). -/
def State.haltQueues (s : State) : State :=
  (List.range 8).foldl (fun s q => if s.on (SCRIBE_Q_CTRL_HALT_STOP q) then s.qStop q else s) s

/-- A change that ARM or MODE started has been applied or cancelled: a queue that waits for it goes on
(R323). -/
def State.modeDone (s : State) (q c : Nat) : State :=
  match (s.scq q).wait with
  | some .mode => s.qWake q (some c) (s.scq q).hop
  | _ => s

/-- A summary whose instant is tick `t` has been written: RESYNCs with WAIT whose request it answers end
(R460). -/
def State.resyncDone (s : State) (t : Nat) : State :=
  (List.range 8).foldl (fun s q =>
    match (s.scq q).wait with
    | some (.resync r) => if r ≤ t then s.qWake q none (s.scq q).hop else s
    | _ => s) s

/-- A queue in WAITEV takes its latched event (R320). -/
def State.qTake (s : State) (q : Nat) : State :=
  if !s.on (SCRIBE_Q_STATUS_EV_LATCH q) then s
  else
    let s := s.wr (SCRIBE_Q_STATUS_EV_LATCH q) 0
    let left := s.rd (SCRIBE_Q_WAIT_LEFT q) - 1
    if left = 0 then s.qWake q (some 0) (some (s.scq q).latchHop)
    else s.wr (SCRIBE_Q_WAIT_LEFT q) left

/-- An event at SCR_EVq (R319, R347): latched, or lost while the latch is set. Answers whether it was
lost. -/
def State.qEvent (s : State) (q hop : Nat) (coincident : Bool) : Bool × State :=
  let s := if coincident then s.set1 (SCRIBE_Q_STATUS_COINCIDENT q) else s
  if s.on (SCRIBE_Q_STATUS_EV_LATCH q) then (true, s.set1 (SCRIBE_Q_STATUS_EV_OVERRUN q))
  else
    let s := s.set1 (SCRIBE_Q_STATUS_EV_LATCH q)
    let s := s.setScq q { s.scq q with latchHop := hop }
    (false, match (s.scq q).wait with
      | some .ev => s.qTake q
      | _ => s)

/-- A reset of the scribe (R341): queues stop, scheduler entries go, writes already issued complete. -/
def State.scribeStop (s : State) : State :=
  let s := s.withdraw (fun a => match a with
    | .waitpos _ => true
    | _ => false)
  { s with scribe := { s.scribe with
      qs := [], started := none, last0 := 7, last1 := 7, streak := 0
      posted := s.scribe.posted.filter (fun (p : Posted) => match p.act with
        | .read _ _ _ => false
        | _ => true) } }

/-! ### DMA channels -/

/-- Channel states (DMA_CHc_STATUS.STATE). -/
def dIdle : Nat := 0
def dRunning : Nat := 1
def dWaiting : Nat := 2
def dDone : Nat := 3
def dError : Nat := 4
def dStopped : Nat := 5
def dScaler : Nat := 6

def State.dch (s : State) (c : Nat) : DmaCh := spGet (fun _ => {}) s.dma c
def State.setDch (s : State) (c : Nat) (x : DmaCh) : State :=
  { s with dma := spSet (fun _ => {}) s.dma c x }

def State.dState (s : State) (c : Nat) : Nat := s.rd (DMA_CH_STATUS_STATE c)

/-- RUNNING, WAITING or in scaler mode: the channel's BUF is claimed (R329). -/
def State.dClaims (s : State) (c : Nat) : Bool :=
  s.dState c == dRunning || s.dState c == dWaiting || s.dState c == dScaler

/-- 4 KiB units of the transfer buffer that are claimed (R329). -/
def State.bufUsed (s : State) : Nat :=
  (List.range 32).foldl (fun n c => if s.dClaims c then n + s.rd (DMA_CH_CTRL_BUF c) else n) 0

/-- The state of a channel, with the summary registers. -/
def State.setDState (s : State) (c v : Nat) : State :=
  let s := s.wr (DMA_CH_STATUS_STATE c) v
  let s := s.wr ⟨DMA_RUNNING.off, c, 1⟩ (b2n (v == dRunning || v == dWaiting))
  let s := s.wr ⟨DMA_ERROR.off, c, 1⟩ (b2n (v == dError))
  s.wr DMA_STATUS_BUF_USED s.bufUsed

/-- IDLE, DONE, STOPPED or ERROR (R337, R339). -/
def State.dAtRest (s : State) (c : Nat) : Bool := !s.dClaims c

/-- A channel comes to rest. -/
def State.dRest (s : State) (c v : Nat) : State :=
  let x := s.dch c
  let s := s.setDch c { x with moves := [], waiting := false, deadline := none, stuck := none, stopAt := none }
  ((s.wr (DMA_CH_WAIT_LEFT c) 0).setDState c v)

/-- A channel error (R338): the channel stops in ERROR, and the code and address are stored. -/
def State.dFault (s : State) (c code addr : Nat) (slots : List Nat) : State :=
  let s := (s.wr (DMA_CH_ERR_CODE c) code).bumpSat (DMA_CH_ERR_COUNT c)
  let s := (s.wr (DMA_CH_ERR_ADDR c) addr).set1 (DMA_CH_STATUS_ERR c)
  (s.dRest c dError).fault srcDma code (slot1 c ++ slots)

/-- START (R329, R337): the program starts at PROG_PC with no loops open. [DEDUCED, log 102] -/
def State.dStart (s : State) (c v : Nat) : State :=
  let bad := !s.dAtRest c || s.on (DMA_CH_CTRL_MODE c)
    || decide (60 < s.bufUsed + s.rd (DMA_CH_CTRL_BUF c))
  if s.mode ≤ 1 then s
  else if bad then s.reject DMA_STATUS_CFG_REJECT srcDma (DMA_CH_CTRL c).off v
  else
    let x := s.dch c
    let s := s.setDch c { x with loops := [], moves := [], skip := 0, hop := none, stopAt := none }
    let s := s.wr (DMA_CH_STATUS_LOOPS c) 0
    s.setDState c dRunning

/-- STOP (R337): the channel reads no more; it stops once the writes of what it has read are complete.
`got` is how many bytes of the newest MOVE had been read. [DEDUCED, log 100] -/
def State.dStop (s : State) (c got v : Nat) : State :=
  let x := s.dch c
  if s.on (DMA_CH_CTRL_MODE c) then s.reject DMA_STATUS_CFG_REJECT srcDma (DMA_CH_CTRL c).off v
  else if s.dAtRest c then s
  else
    match x.moves.reverse with
    | [] => s.dRest c dStopped
    | m :: older =>
      let m' : DmaMove := { m with data := m.data.take got, err := none }
      let part := decide (m'.data.length < m.len)
      s.setDch c { x with
        moves := older.reverse ++ [m'], waiting := false, deadline := none,
        stopAt := some (if part then m.pc else s.rd (DMA_CH_PROG_PC c)) }

/-- A channel's program goes on with the instruction after the present one. -/
def State.dNext (s : State) (c : Nat) : State :=
  s.wr (DMA_CH_PROG_PC c) ((s.rd (DMA_CH_PROG_PC c) + 16) % 2 ^ 44)

/-- A WAITing channel goes on (R335). -/
def State.dWake (s : State) (c : Nat) (hop : Option Nat) : State :=
  let s := s.dNext c
  let x := s.dch c
  let s := s.setDch c { x with waiting := false, deadline := none, hop := hop }
  (s.wr (DMA_CH_WAIT_LEFT c) 0).setDState c dRunning

/-- A channel in WAIT takes its latched event (R335). -/
def State.dTake (s : State) (c : Nat) : State :=
  if !s.on (DMA_CH_STATUS_EV_LATCH c) then s
  else
    let s := s.wr (DMA_CH_STATUS_EV_LATCH c) 0
    let left := s.rd (DMA_CH_WAIT_LEFT c) - 1
    if left = 0 then s.dWake c (some (s.dch c).latchHop) else s.wr (DMA_CH_WAIT_LEFT c) left

/-- An event at DMA_EVc (R319, R335, R347). Answers whether it was lost. -/
def State.dEvent (s : State) (c hop : Nat) (coincident : Bool) : Bool × State :=
  let s := if coincident then s.set1 (DMA_CH_STATUS_COINCIDENT c) else s
  if s.on (DMA_CH_STATUS_EV_LATCH c) then (true, s.set1 (DMA_CH_STATUS_EV_OVERRUN c))
  else
    let s := s.set1 (DMA_CH_STATUS_EV_LATCH c)
    let s := s.setDch c { s.dch c with latchHop := hop }
    (false, if (s.dch c).waiting then s.dTake c else s)

/-- A reset of the DMA engines (R341): writes already issued complete with what has been read. -/
def State.dmaStop (s : State) : State := { s with dma := [] }

/-- QUEUE_START (R310): a write of START. -/
def execQueueStart (q : Fin 8) (s : State) : Host.Outcome State Fault Refusal := .next (s.qStart q.val 1)

/-- QUEUE_STOP (R310): a write of STOP. -/
def execQueueStop (q : Fin 8) (s : State) : Host.Outcome State Fault Refusal := .next (s.qStop q.val)

/-- QUEUE_TAIL_WRITE (R308): a write of TAIL. -/
def execQueueTailWrite (q : Fin 8) (v : BitVec 32) (s : State) : Host.Outcome State Fault Refusal :=
  .next (s.qTail q.val (v.toNat % 2 ^ 24))

/-- DMA_START (R337): a write of START. -/
def execDmaStart (c : Fin 32) (s : State) : Host.Outcome State Fault Refusal := .next (s.dStart c.val 1)

/-- DMA_STOP (R337): a write of STOP; `got` bytes of the newest MOVE had been read. [DEDUCED, log 100] -/
def execDmaStop (c : Fin 32) (got : Nat) (s : State) : Host.Outcome State Fault Refusal :=
  .next (s.dStop c.val got 2)

end Sys2Proof.Machine
end

