-- ==== Sys2Proof/Machine/Stroke.lean ====
section
/-! DEFINITION. The stroke generators (R46 to R60). -/

namespace Sys2Proof.Machine

open Sys2Proof

def State.stroke (s : State) (k : Nat) : Stroke := spGet (fun _ => {}) s.st k
def State.setStroke (s : State) (k : Nat) (x : Stroke) : State :=
  { s with st := spSet (fun _ => {}) s.st k x }

/-- Rejected write of a stroke register. -/
def State.strokeReject (s : State) (k off v : Nat) : State :=
  s.reject (STROKE_ST_STATUS_CFG_REJECT k) srcStroke off v

/-- The source position of this tick in 2^-40 (R47). -/
def State.strokeSrc (s : State) (k : Nat) : Int :=
  match s.rd (STROKE_ST_CTRL_SRC k) with
  | 0 => s.tl.pos
  | n => s.rdS (TIMELINE_ENC_COUNT (n - 1)) * (2 : Int) ^ 40

/-- The phase without the trim, in 2^-40 step: the product is rounded convergently (R46). -/
def phaseOf (c0 p0 p ratio : Int) : Int := c0 + rneShift ((p - p0) * ratio) 24

/-- EN becomes 1 (R48). -/
def State.strokeEnable (s : State) (k : Nat) : State :=
  if s.on (STROKE_ST_CTRL_EN k) then s
  else
    let p := s.strokeSrc k
    let p0 := if s.on (STROKE_ST_CTRL_ORIGIN_SRC k)
      then s.rdS (STROKE_ST_ORIGIN_POS k) * (2 : Int) ^ 24 else p
    let c0 := s.rdS (STROKE_ST_COUNT k) * (2 : Int) ^ 40
    let s := s.set1 (STROKE_ST_CTRL_EN k)
    let s := s.set1 (STROKE_ST_STATUS_RUNNING k)
    let s := s.wr (STROKE_ST_TRIM_APPLIED k) 0
    let s := s.wr (STROKE_ST_STATUS_TRIM_SETTLED k) (b2n (s.rd (STROKE_ST_TRIM_TARGET k) == 0))
    s.setStroke k { s.stroke k with
      c0 := c0, p0 := p0, phase0 := c0, trim := 0, prevSrc := p, lagOut := false
      vlimOut := false, excess := 0, frozen := none }

/-- EN becomes 0. -/
def State.strokeDisable (s : State) (k : Nat) : State :=
  (s.wr (STROKE_ST_CTRL_EN k) 0).wr (STROKE_ST_STATUS_RUNNING k) 0

/-- STROKE_ENABLE (R48). -/
def execStrokeEnable (k : Fin 8) (s : State) : Host.Outcome State Fault Refusal :=
  .next (s.strokeEnable k.val)

/-- EN of every stroke whose bit is 1 is set in one tick (R48). -/
def State.strokeStart (s : State) (mask : Nat) : State :=
  (List.range 8).foldl (fun s k => if bitAt mask k then s.strokeEnable k else s) s

/-- STROKE_START (R48). -/
def execStrokeStart (mask : BitVec 8) (s : State) : Host.Outcome State Fault Refusal :=
  .next (s.strokeStart mask.toNat)

/-- The slew of the applied trim in one tick (R56): the new T, in 2^-32 step. -/
def slewTrim (t target slew dist : Int) : Int :=
  let most := rneShift (slew * dist) 32
  if t ≤ target then t + min (target - t) most else t - min (t - target) most

/-- The target after the virtual count limits (R53). -/
def State.limitTarget (s : State) (k : Nat) (n : Int) : Int :=
  if s.on (STROKE_ST_CTRL_VLIM_EN k) then
    clampI (s.rdS (STROKE_ST_VLIM_LOW k)) (s.rdS (STROKE_ST_VLIM_HIGH k)) n
  else n

/-- The lag check (R52). [DEDUCED, log 32] -/
def State.strokeLag (s : State) (k : Nat) (n : Int) : State :=
  let c := s.rdS (STROKE_ST_COUNT k)
  let mx := s.rd (STROKE_ST_LAG_MAX k)
  let s := s.wrS (STROKE_ST_LAG k) (satS 32 (n - c))
  let out := mx != 0 && decide (mx < (n - c).natAbs)
  let x := s.stroke k
  let s := if out && !x.lagOut then
      ((s.set1 (STROKE_ST_STATUS_LAG k)).occur (96 + 3 * k)).fault srcStroke 0x7030
        (slot1 k ++ slotI n ++ slotI c)
    else s
  s.setStroke k { s.stroke k with lagOut := out }

/-- The virtual limits take hold, once per excursion, and steps not emitted are counted (R53). -/
def State.strokeVlim (s : State) (k : Nat) (n lim : Int) : State :=
  let x := s.stroke k
  let ex := n - lim
  let out := decide (ex ≠ 0)
  let s := if out && !x.vlimOut then
      let which := if ex < 0 then 0 else 1
      let s := s.set1 (if ex < 0 then STROKE_ST_STATUS_VLIM_LOW k else STROKE_ST_STATUS_VLIM_HIGH k)
      (s.occur (97 + 3 * k)).fault srcStroke 0x7031 (slot1 k ++ slot1 which ++ slotI n)
    else s
  let s := s.bump (STROKE_ST_SUPPRESSED k) (ex - x.excess).natAbs
  s.setStroke k { s.stroke k with vlimOut := out, excess := ex }

/-- STROKE_PHASE_UPDATE (R46, R52, R53, R56): one tick of a running stroke. -/
def execStrokePhaseUpdate (k : Fin 8) (s : State) : Host.Outcome State Fault Refusal :=
  let k := k.val
  let x := s.stroke k
  if s.on (STROKE_ST_CTRL_EN k) && x.frozen.isNone then
    let p := s.strokeSrc k
    let target := s.rdS (STROKE_ST_TRIM_TARGET k) * 65536
    let t := slewTrim x.trim target (s.rd (STROKE_ST_SLEW k)) (p - x.prevSrc).natAbs
    let ph := phaseOf x.c0 x.p0 p (s.rdS (STROKE_ST_RATIO k))
    let n := floorShift (ph + t * 256) 40
    let s := s.setStroke k { x with trim := t, phase0 := ph, prevSrc := p }
    let s := s.wrS (STROKE_ST_TRIM_APPLIED k) (floorShift t 16)
    let s := if t = target && x.trim ≠ target then
        (s.set1 (STROKE_ST_STATUS_TRIM_SETTLED k)).occur (98 + 3 * k)
      else s
    let s := s.wrS (STROKE_ST_TARGET k) n
    let s := s.strokeVlim k n (s.limitTarget k n)
    .next (s.strokeLag k n)
  else .next s

/-- STROKE_STEP (R50, R51): one step toward the limited target, as soon as the form allows. In
PULSE_DIR a reversal changes the direction pin first. -/
def execStrokeStep (k : Fin 8) (s : State) : Host.Outcome State Fault Refusal :=
  let k := k.val
  let x := s.stroke k
  let c := s.rdS (STROKE_ST_COUNT k)
  let lim := s.limitTarget k (s.rdS (STROKE_ST_TARGET k))
  if s.on (STROKE_ST_CTRL_EN k) && x.frozen.isNone && c != lim then
    let pw := s.rd (STROKE_ST_CTRL_PW k)
    let quad := s.rd (STROKE_ST_CTRL_FORM k) == 1
    let gap := if quad then pw else 2 * pw
    let spaced := match x.lastStep with
      | some t => decide (t + gap ≤ s.now)
      | none => true
    let fwd := decide (c < lim)
    if !spaced then .next s
    else if !quad && fwd != x.fwd then
      .next (s.setStroke k { x with fwd := fwd, dirAt := some s.now })
    else
      let setUp := match x.dirAt with
        | some t => quad || decide (t + s.rd (STROKE_ST_CTRL_DIR_SETUP k) ≤ s.now)
        | none => true
      if !setUp then .next s
      else
        let s := s.wrS (STROKE_ST_COUNT k) (if fwd then c + 1 else c - 1)
        let up := fwd != s.on (STROKE_ST_CTRL_DIR_INVERT k)
        .next (s.setStroke k { x with
          fwd := fwd, dirAt := none, lastStep := some s.now
          quad := (if up then x.quad + 1 else x.quad + 3) % 4 })
  else .next s

/-- A write of RATIO to stroke k (R49): a running stroke rebases its origin without a jump. -/
def State.strokeRatio (s : State) (k v : Nat) : State :=
  let s1 :=
    if s.on (STROKE_ST_CTRL_EN k) then
      let x := s.stroke k
      let p := s.strokeSrc k
      let ph := phaseOf x.c0 x.p0 p (s.rdS (STROKE_ST_RATIO k))
      s.setStroke k { x with p0 := p, c0 := ph, phase0 := ph }
    else s
  s1.wr (STROKE_ST_RATIO k) v

/-- STROKE_RATIO_WRITE (R49). -/
def execStrokeRatioWrite (k : Fin 8) (ratio : BitVec 32) (s : State) :
    Host.Outcome State Fault Refusal := .next (s.strokeRatio k.val ratio.toNat)

/-- The trim target becomes `v` (16.16), clamped to ±TRIM_LIMIT (R55). -/
def State.trimTarget (s : State) (k : Nat) (v : Int) : State :=
  let lim : Int := s.rd (STROKE_ST_TRIM_LIMIT k)
  let c := clampI (-lim) lim v
  let s := if c ≠ v then
      (s.set1 (STROKE_ST_STATUS_TRIM_CLAMPED k)).fault srcStroke 0x7032 (slot1 k ++ slotI v)
    else s
  let s := s.wrS (STROKE_ST_TRIM_TARGET k) c
  s.wr (STROKE_ST_STATUS_TRIM_SETTLED k)
    (b2n (decide ((s.stroke k).trim = s.rdS (STROKE_ST_TRIM_TARGET k) * 65536)))

/-- A write of TRIM_TARGET (R55); a TRIM_ADD of the same tick applies to the written value. -/
def State.writeTrim (s : State) (k : Nat) (v : Int) : State :=
  let x := s.stroke k
  let add := match x.trimAdd with
    | some (t, a) => if t = s.now then a else 0
    | none => 0
  s.trimTarget k (v + add)

/-- TRIM_TARGET_WRITE (R55). -/
def execTrimTargetWrite (k : Fin 8) (target : BitVec 32) (s : State) :
    Host.Outcome State Fault Refusal := .next (s.writeTrim k.val (signed 32 target.toNat))

/-- A write of TRIM_ADD (R55). -/
def State.addTrim (s : State) (k : Nat) (a : Int) : State :=
  let x := s.stroke k
  let before := match x.trimAdd with
    | some (t, b) => if t = s.now then b else 0
    | none => 0
  let s := s.setStroke k { x with trimAdd := some (s.now, before + a) }
  s.trimTarget k (s.rdS (STROKE_ST_TRIM_TARGET k) + a)

/-- TRIM_ADD (R55). -/
def execTrimAdd (k : Fin 8) (add : BitVec 32) (s : State) : Host.Outcome State Fault Refusal :=
  .next (s.addTrim k.val (signed 32 add.toNat))

/-- Entry to M11 HALT: a stroke with HALT_HOLD freezes its phase and pins (R58). -/
def State.strokesHalt (s : State) : State :=
  (List.range 8).foldl (fun s k =>
    if s.on (STROKE_ST_CTRL_EN k) && s.on (STROKE_ST_CTRL_HALT_HOLD k) then
      let x := s.stroke k
      let ph := phaseOf x.c0 x.p0 (s.strokeSrc k) (s.rdS (STROKE_ST_RATIO k))
      (s.wr (STROKE_ST_STATUS_RUNNING k) 0).setStroke k { x with frozen := some ph }
    else s) s

/-- The mode leaves M11 HALT: frozen strokes resume without a jump (R58). -/
def State.strokesResume (s : State) : State :=
  (List.range 8).foldl (fun s k =>
    let x := s.stroke k
    match x.frozen with
    | some ph =>
      let p := s.strokeSrc k
      (s.set1 (STROKE_ST_STATUS_RUNNING k)).setStroke k
        { x with frozen := none, p0 := p, c0 := ph, phase0 := ph, prevSrc := p }
    | none => s) s

/-- The levels of STk_A and STk_B (R51, R59). [DESIGN CHOICE, log 160] -/
def State.strokePins (s : State) (k : Nat) : PinLevel × PinLevel :=
  let lvl (b : Bool) : PinLevel := if b then .high else .low
  if s.webOff || !s.on (STROKE_ST_CTRL_OE k) then (.highZ, .highZ)
  else
    let x := s.stroke k
    if s.rd (STROKE_ST_CTRL_FORM k) = 1 then
      (lvl (x.quad == 1 || x.quad == 2), lvl (x.quad == 2 || x.quad == 3))
    else
      let active := match x.lastStep with
        | some t => decide (s.now < t + s.rd (STROKE_ST_CTRL_PW k))
        | none => false
      (lvl (active != s.on (STROKE_ST_CTRL_STEP_POL k)),
        lvl (x.fwd != s.on (STROKE_ST_CTRL_DIR_INVERT k)))

end Sys2Proof.Machine
end

