-- ==== Sys2Proof/Machine/Mode.lean ====
section
/-! DEFINITION. Changes of mode and what they do by themselves (R434 to R441, R456). -/

namespace Sys2Proof.Machine

open Sys2Proof

/-- The line from which a change made now applies: floor(p) + 1 (R435). -/
def State.nextLine (s : State) : Int := s.line + 1

/-- The change applies to every line from `line` on. -/
def State.pushSpan (s : State) (line : Int) (m e : Nat) : State :=
  let older := s.top.hist.filter (fun h => decide (h.line < line))
  { s with top := { s.top with hist := ⟨line, m, e⟩ :: older } }

/-- A record joins the held record (R456). -/
def State.holdCov (s : State) (c : CovRec) : State :=
  let was := s.on TOP_STATUS_HELD_VALID
  let first := linePos c.first
  let last := linePos c.last
  let s := s.wrS TOP_HELD_FIRST (if was then min (s.rdS TOP_HELD_FIRST) first else first)
  let s := s.wrS TOP_HELD_LAST (if was then max (s.rdS TOP_HELD_LAST) last else last)
  s.set1 TOP_STATUS_HELD_VALID

/-- A coverage record of mode control (R456): held while the scaler is off or a WARM reset goes on, else
queued. -/
def State.coverMode (s : State) (c : CovRec) : State :=
  if s.on SCALER_CTRL_EN && !s.top.warmTrain then s.enqueueCov c else s.holdCov c

/-- A full-width record of mode control: SOURCE 7, cause UNIT_FAILED, DETAIL all ones (R440). -/
def State.unitFailedRec (s : State) (a b : Int) : CovRec :=
  let w := s.fullSpan
  s.covRec a b w.1 w.2 0x71 7 0xFFFFFFFF 0 noPage

/-- The open run of unplayable lines is published (R364). -/
def State.playRunEnd (s : State) : State :=
  match s.dram.playRun with
  | none => s
  | some (a, b, rank) =>
    let s := { s with dram := { s.dram with playRun := none } }
    let w := s.fullSpan
    s.enqueueCov (s.covRec a b w.1 w.2 0x60 5 rank 0 noPage)

/-- Playback of ring lines stops (R363). -/
def State.stopPlay (s : State) : State :=
  let s := s.wr DRAMC_PLAY_CTRL_PLAY_BUSY 0
  State.playRunEnd { s with dram := { s.dram with playNext := none, playAt := none } }

/-- Camera ports enter electrical idle or leave it (R88, R89, R440, R441). -/
def State.idleCameras (s : State) (idle : Bool) : State :=
  (List.range 12).foldl (fun s n =>
    s.wr (ZL_STATUS_TX_IDLE n) (b2n (idle || !s.on (ZL_CTRL_EN n) || s.on (ZL_CTRL_IDLE_REQ n)))) s

/-- The lines that fell due in M11 HALT are not triggered, and the trigger generator goes on after them (R440).
[DEDUCED, log 136] -/
def State.resumeTriggers (s : State) : State :=
  (if s.on TIMELINE_TRIG_CTRL_TRIG_EN then s.passLines s.lineDue else s).armTrigger

/-- What leaving M11 HALT does (R441): DRAM and the camera ports resume and an open record closes. -/
def State.leaveHalt (s : State) : State :=
  let s := (s.strokesResume.resumeTriggers).idleCameras false
  let s := { s with top := { s.top with stop := [] } }
  let s := s.wr TOP_MODE_STOPPING 0
  match s.top.openFrom with
  | some v =>
    let s := { s with top := { s.top with openFrom := none } }
    s.coverMode (s.unitFailedRec v (max v s.line))
  | none => s

/-- What entering M11 HALT starts (R440): the stop sequence, run by HALT_ENTRY. -/
def State.enterHalt (s : State) (line : Int) : State :=
  let s := s.strokesHalt.haltQueues
  let s := s.set1 TOP_MODE_STOPPING
  ({ s with top := { s.top with
      stop := [.quiesce, .cover, .summary, .selfRefresh, .idle, .alert], haltLine := some line, haltAt := s.now
      haltLow := none } }).armTrigger

/-- The mode becomes `m` from `line` on, with epoch `e` (R435): every unit applies it. -/
def State.setMode (s : State) (m : Nat) (line : Int) (e : Nat) : State :=
  let old := s.mode
  let kept := decide (e = s.rd TOP_EPOCH)
  let s := (s.wr TOP_MODE_PREV old).wr TOP_MODE_MODE m
  let s := (s.wr TOP_EPOCH e).wr CHAIN_EPOCH e
  let s := (s.pushSpan line m e).occur 253
  let s := if old = 9 && m != 9 then s.stopPlay else s
  let s := if srAllowed m then s else s.srExit
  let s := if old = 11 && m != 11 then s.leaveHalt else s
  let s := if m = 11 && old != 11 then s.enterHalt line else s
  if kept then s.reportRoot 4 m e (linePos line) else s

/-! ### M8 INSPECT-DEGRADED (R438) -/

/-- Pipe states (PIPEp_STATUS.STATE). -/
def pipeIdle : Nat := 0
def pipeServing : Nat := 1
def pipeFailed : Nat := 2
def pipeSpareReady : Nat := 3

/-- Is a retired pipe's port served by pipe 12 (R128)? -/
def State.sparedBy12 (s : State) (p : Nat) : Bool :=
  s.rd (PIPE_STATUS_STATE 12) == pipeServing && s.rd (PIPE_STATUS_SPARED_FROM 12) == p

/-- An enabled pipe reads FAILED and nothing replaces it. -/
def State.pipeLacking (s : State) : Bool :=
  (List.range 12).any (fun p =>
    s.on (PIPE_CTRL_EN p) && s.rd (PIPE_STATUS_STATE p) == pipeFailed && !s.sparedBy12 p)

/-- Slot states (QUILLq_SLOTs_STATUS.STATE). -/
def slotOff : Nat := 0
def slotIdle : Nat := 1
def slotRunning : Nat := 2
def slotStopped : Nat := 3
def slotFailed : Nat := 4
def slotSpareReady : Nat := 5
def slotLoading : Nat := 6

/-- A nib of an enabled job reads FAILED and nothing has taken its logical number (R296, R438). -/
def State.nibLacking (s : State) : Bool :=
  (List.range 12).any (fun q => (List.range 17).any (fun t =>
    let r := s.rd (QUILL_SLOT_STATUS_ROLE q t)
    s.rd (QUILL_SLOT_STATUS_STATE q t) == slotFailed && decide (r < 16)
      && (List.range 4).any (fun j =>
        s.on (QUILL_JOB_CTRL_EN q j) && bitAt (s.rd (QUILL_JOB_NIBS q j)) r)))

/-- An enabled camera port has a group that is not up. -/
def State.groupLacking (s : State) : Bool :=
  (List.range 12).any (fun n => s.on (ZL_CTRL_EN n) && (s.groupsOf n).any (fun g => !s.groupUp n g))

/-- A handover of the spare inventory runs (R453): an unplanned lane swap, a pipe or a rank.
[DEDUCED, log 42] -/
def State.handover (s : State) : Bool :=
  s.dram.mig.isSome || s.pipes.any (fun e => e.2.failedAt.isSome)
    || s.zl.any (fun e => match e.2.swapRx with
      | some w => !w.planned
      | none => false)

/-- Does a condition of R438 hold? [DEDUCED, log 42] -/
def State.degraded (s : State) : Bool :=
  !s.top.degrade.isEmpty || s.handover || s.pipeLacking || s.nibLacking || s.groupLacking || s.chain.posLost

/-- M7 and M8 follow the conditions of R438. -/
def State.recheck (s : State) : State :=
  if s.mode = 7 && s.degraded then s.setMode 8 s.nextLine (s.rd TOP_EPOCH)
  else if s.mode = 8 && !s.degraded then s.setMode 7 s.nextLine (s.rd TOP_EPOCH)
  else s

/-- A handover begins or ends; its key is kept in the list of conditions (R438). [DEDUCED, log 42] -/
def State.beginDegrade (s : State) (key : Nat) : State :=
  ({ s with top := { s.top with degrade := key :: s.top.degrade } }).recheck

def State.endDegrade (s : State) (key : Nat) : State :=
  ({ s with top := { s.top with degrade := s.top.degrade.filter (· != key) } }).recheck

end Sys2Proof.Machine
end

