-- ==== Sys2Proof/Machine/Timeline.lean ====
section
/-! DEFINITION. The timeline's own units: encoders, SSI, probes, compares, frame generators and
markers (R15 to R35, R42 to R45, R535, R539). -/

namespace Sys2Proof.Machine

open Sys2Proof

/-! ### Access to the units' state -/

def State.enc (s : State) (e : Nat) : Encoder := spGet (fun _ => {}) s.tl.encs e
def State.setEnc (s : State) (e : Nat) (x : Encoder) : State :=
  { s with tl := { s.tl with encs := spSet (fun _ => {}) s.tl.encs e x } }
def State.probe (s : State) (k : Nat) : Probe := spGet (fun _ => {}) s.tl.probes k
def State.setProbe (s : State) (k : Nat) (x : Probe) : State :=
  { s with tl := { s.tl with probes := spSet (fun _ => {}) s.tl.probes k x } }
def State.markerSt (s : State) (m : Nat) : Marker := spGet (fun _ => {}) s.tl.markers m
def State.setMarkerSt (s : State) (m : Nat) (x : Marker) : State :=
  { s with tl := { s.tl with markers := spSet (fun _ => {}) s.tl.markers m x } }

/-- Rejected write of a timeline register. -/
def State.tlReject (s : State) (off v : Nat) : State :=
  s.reject TIMELINE_STATUS_CFG_REJECT srcTimeline off v

/-! ### Encoders (R16, R19) -/

/-- Is encoder e the web master? -/
def State.isMaster (s : State) (e : Nat) : Bool := s.rd TIMELINE_CTRL_MASTER_SRC == e

/-- EDGE_POS and EDGE_TICK of encoder e show a step's latch (R25). -/
def State.showEdge (s : State) (e : Nat) (p : Int) (t : Nat) : State :=
  (s.wrS (TIMELINE_ENC_EDGE_POS e) (floorShift p 24)).wr (TIMELINE_ENC_EDGE_TICK e) t

/-- `n` counted steps of encoder e (negative: reverse) stamped with tick `t` (R16, R25, R27): the
count changes, and for the web master while RUN is 1 the latched position moves by the ratio. -/
def State.countSteps (s : State) (e : Nat) (n : Int) (t : Nat) : State :=
  let x := s.enc e
  let s := s.setEnc e { x with since := x.since + n, lastStep := some t }
  let s := s.wrS (TIMELINE_ENC_COUNT e) (s.rdS (TIMELINE_ENC_COUNT e) + n)
  if s.isMaster e then
    let s := if n = 0 then s else s.masterActive
    if s.on TIMELINE_CTRL_RUN then
      let q := s.posFit (s.tl.latched + n * s.ratio40)
      let p := q.1
      let s := q.2
      let fwd := if n = 0 then (match s.tl.pairs with
        | q :: _ => q.fwd
        | [] => true) else decide (0 < n)
      (s.latchPair p t fwd).showEdge e p t
    else s.showEdge e s.tl.pos s.now
  else s.showEdge e s.tl.pos s.now

/-- The step that an accepted change of A or B makes in a MODE, before DIR_INVERT: +1 forward,
-1 reverse, 0 none.  Forward means that A leads B (R19, MODE encodings). [DEDUCED, log 22] -/
def quadStep (mode : Nat) (oa ob a b : Bool) : Int :=
  if oa != a && ob != b then 0
  else if oa != a then
    if mode = 2 || mode = 3 || (mode = 1 && a) then (if a != b then 1 else -1)
    else if mode = 4 && a then (if b then -1 else 1)
    else 0
  else if ob != b then
    if mode = 3 then (if b == a then 1 else -1) else 0
  else 0

/-- ENCODER_STEP (R16, R19, R27): inputs A and B of encoder e are accepted at new levels.
[DEDUCED, log 22; DEDUCED, log 23; DESIGN CHOICE, log 165] -/
def execEncoderStep (e : Fin 4) (a b : Bool) (s : State) : Host.Outcome State Fault Refusal :=
  let e := e.val
  let x := s.enc e
  let mode := s.rd (TIMELINE_ENC_CTRL_MODE e)
  let quad := decide (1 ≤ mode) && decide (mode ≤ 3)
  let s := s.setEnc e { x with levelA := a, levelB := b }
  if quad && x.levelA != a && x.levelB != b then
    .next ((s.set1 (TIMELINE_ENC_STATUS_QUAD_ERROR e)).fault srcTimeline 0x7001
      (slot1 e ++ slot2 s.now))
  else
    let d := quadStep mode x.levelA x.levelB a b
    if d = 0 then .next s
    else
      let n := if s.on (TIMELINE_ENC_CTRL_DIR_INVERT e) then -d else d
      let fast := match x.lastStep with
        | some t => decide (s.now < t + 4)
        | none => false
      if quad && fast then
        .next ((s.set1 (TIMELINE_ENC_STATUS_OVERSPEED e)).fault srcTimeline 0x7002
          (slot1 e ++ slot2 s.now))
      else .next (s.countSteps e n s.now)

/-! ### SSI (R20, R21) -/

/-- SSI_TRANSFER_START (R20): a transfer of encoder e begins with its first falling clock edge. -/
def execSsiTransferStart (e : Fin 4) (s : State) : Host.Outcome State Fault Refusal :=
  let x := s.enc e.val
  if s.rd (TIMELINE_ENC_CTRL_MODE e.val) = 5 && x.ssiStart.isNone then
    .next (s.setEnc e.val { x with ssiStart := some s.now })
  else .next s

/-- Binary value of a Gray code of `w` bits. -/
def grayToBin : Nat → Nat → Nat
  | 0, _ => 0
  | w + 1, g =>
    let hi := grayToBin w (g / 2)
    2 * hi + (hi % 2 + g % 2) % 2

/-- SSI_SAMPLE (R20, R21): the transfer completes with BITS data bits and the parity bit. [DEDUCED, log 24] -/
def execSsiSample (e : Fin 4) (raw : Nat) (parity : Bool) (s : State) :
    Host.Outcome State Fault Refusal :=
  let e := e.val
  let x := s.enc e
  match x.ssiStart with
  | none => .next s
  | some t0 =>
    let s := s.setEnc e { x with ssiStart := none }
    let n := s.rd (TIMELINE_ENC_SSI_CFG_BITS e)
    let d := raw % 2 ^ n
    if s.on (TIMELINE_ENC_SSI_CFG_PARITY e) && (popCount n d + b2n parity) % 2 == 1 then
      .next ((s.set1 (TIMELINE_ENC_STATUS_SSI_ERROR e)).fault srcTimeline 0x7003
        (slot1 e ++ slot1 d))
    else
      let v := if s.on (TIMELINE_ENC_SSI_CFG_GRAY e) then grayToBin n d else d
      let t := ((t0 : Int) + s.rdS (TIMELINE_ENC_SSI_TIMING_DELAY e)).toNat
      match x.ssiPrev with
      | none => .next (s.setEnc e { s.enc e with ssiPrev := some v })
      | some prev =>
        let delta := signed n ((v + 2 ^ n - prev % 2 ^ n) % 2 ^ n)
        if 2 ^ (n - 2) < delta.natAbs then
          .next ((s.set1 (TIMELINE_ENC_STATUS_SSI_JUMP e)).fault srcTimeline 0x7004
            (slot1 e ++ slotI delta))
        else
          let s := s.setEnc e { s.enc e with ssiPrev := some v }
          let m := if s.on (TIMELINE_ENC_CTRL_DIR_INVERT e) then -delta else delta
          .next (s.countSteps e m t)

/-! ### Index (R22 to R24) -/

/-- INDEX_EDGE (R22, R23, R24): an accepted Z edge of encoder e; `rising` is its direction.
[DEDUCED, log 25; DESIGN CHOICE, log 165] -/
def execIndexEdge (e : Fin 4) (rising : Bool) (s : State) : Host.Outcome State Fault Refusal :=
  let e := e.val
  if rising == s.on (TIMELINE_ENC_CTRL_Z_INVERT e) then .next s
  else
    let s := s.wrS (TIMELINE_ENC_INDEX_POS e) s.pos16
    let s := s.wr (TIMELINE_ENC_INDEX_TICK e) s.now
    let s := s.occur (72 + e)
    let mode := s.rd (TIMELINE_ENC_CTRL_INDEX_MODE e)
    if mode = 1 || mode = 2 then
      let x := s.enc e
      let expect := s.rd (TIMELINE_ENC_INDEX_EXPECT e)
      let seen := x.since.natAbs
      let off := ((seen : Int) - expect).natAbs
      let slip := x.indexSeen && expect != 0 && decide (s.rd (TIMELINE_ENC_INDEX_TOL e) < off)
      let s := if slip then
          ((s.set1 (TIMELINE_ENC_STATUS_INDEX_SLIP e)).wrS (TIMELINE_ENC_SLIP_COUNT e) x.since).fault
            srcTimeline 0x7005 (slot1 e ++ slotI x.since ++ slot1 expect)
        else s
      let s := s.setEnc e { x with since := 0, indexSeen := true }
      if mode = 1 then .next (s.wr (TIMELINE_ENC_COUNT e) 0)
      else if s.on (TIMELINE_ENC_STATUS_INDEX_ARMED e) then
        .next ((s.wr (TIMELINE_ENC_COUNT e) 0).wr (TIMELINE_ENC_STATUS_INDEX_ARMED e) 0)
      else .next s
    else .next s

/-! ### Stall, SIM, extrapolation -/

/-- WEB_STOPPED (R27): TIMELINE_STALL ticks have passed without a step of the web master. [DEDUCED, log 26] -/
def execWebStopped (s : State) : Host.Outcome State Fault Refusal :=
  let n := s.rd TIMELINE_STALL
  if n != 0 && !s.on TIMELINE_STATUS_WEB_STOPPED && decide (s.tl.lastMasterStep + n ≤ s.now) then
    .next ((s.set1 TIMELINE_STATUS_WEB_STOPPED).occur 82).updVelocity
  else .next s

/-- SIM_INCREMENT (R539): one tick of the SIM source while RUN is 1. -/
def execSimIncrement (s : State) : Host.Outcome State Fault Refusal :=
  if s.on TIMELINE_CTRL_RUN && s.rd TIMELINE_CTRL_MASTER_SRC == srcSim then
    let q := s.posFit (s.tl.pos + s.tl.simInc)
    let p := q.1
    let s := q.2
    let s := if s.tl.simInc = 0 then s else s.masterActive
    let s := { s with tl := { s.tl with latched := p } }
    .next (s.moveTo p).updVelocity
  else .next s

/-- EXTRAPOLATION (R25, R26, R535): the position of this tick between latch pairs. -/
def execExtrapolation (s : State) : Host.Outcome State Fault Refusal := .next s.extrapolate

/-! ### Cross-latch (R30) -/

/-- A cross-latch: position, tick and PTP time of one tick; a second in the tick is merged. -/
def State.crossLatch (s : State) : State :=
  if s.tl.xlatchTick = some s.now then s
  else
    let s := s.wrS TIMELINE_XLATCH_POS s.pos16
    let s := s.wr TIMELINE_XLATCH_TICK s.now
    let s := s.wr TIMELINE_XLATCH_PTP_NS s.net.ptpNs
    let s := s.wr TIMELINE_XLATCH_PTP_WRAP s.net.ptpWrap
    { s with tl := { s.tl with xlatchTick := some s.now } }

/-- CROSS_LATCH (R30). -/
def execCrossLatch (s : State) : Host.Outcome State Fault Refusal := .next s.crossLatch

/-! ### Compare units (R31 to R33) -/

/-- Move a periodic target past the position (R33): the new target and the firings skipped. -/
def movedTarget (dir : Nat) (target p period : Int) : Int × Nat :=
  if dir = 0 then
    let t := target + period
    if t ≤ p then
      let n := ((p - t) / period + 1)
      (t + n * period, n.toNat)
    else (t, 0)
  else
    let t := target - period
    if p ≤ t then
      let n := ((t - p) / period + 1)
      (t - n * period, n.toNat)
    else (t, 0)

/-- A compare unit fires in the present tick (R31, R33). -/
def State.compareFires (s : State) (c : Nat) : State :=
  let s := (s.occur c).set1 (TIMELINE_CMP_STATUS_FIRED c)
  let s := s.wr (TIMELINE_CMP_FIRE_TICK c) s.now
  let s := { s with tl := { s.tl with cmpFired := spSet (fun _ => none) s.tl.cmpFired c (some s.now) } }
  let period := s.rd (TIMELINE_CMP_PERIOD c)
  let dir := s.rd (TIMELINE_CMP_CTRL_DIR c)
  let s := if period != 0 && dir != 2 then
      let m := movedTarget dir (s.rdS (TIMELINE_CMP_TARGET c)) s.pos16 period
      let s := s.wrS (TIMELINE_CMP_TARGET c) m.1
      if m.2 = 0 then s
      else (s.bump (TIMELINE_CMP_SKIPPED c) m.2).set1 (TIMELINE_CMP_STATUS_COMPARE_MULTI c)
    else s
  if s.on (TIMELINE_CMP_CTRL_SINGLE c) then s.wr (TIMELINE_CMP_CTRL_ENABLE c) 0 else s

/-- Did the position cross the unit's target between the previous tick and this one (R31)? [DEDUCED, log 164] -/
def State.compareCrossed (s : State) (c : Nat) : Bool :=
  let t := s.rdS (TIMELINE_CMP_TARGET c)
  let dir := s.rd (TIMELINE_CMP_CTRL_DIR c)
  let q := floorShift s.tl.prevPos 24
  let up := decide (q < t) && decide (t ≤ s.pos16)
  let down := decide (q > t) && decide (t ≥ s.pos16)
  (dir != 1 && up) || (dir != 0 && down)

/-- COMPARE_FIRE (R31, R33). -/
def execCompareFire (c : Fin 64) (s : State) : Host.Outcome State Fault Refusal :=
  let c := c.val
  if s.on TIMELINE_CTRL_RUN && s.on (TIMELINE_CMP_CTRL_ENABLE c) && s.compareCrossed c
      && spGet (fun _ => none) s.tl.cmpFired c != some s.now then
    .next (s.compareFires c)
  else .next s

/-- The test whether an enabled unit's target is behind (R32). [DEDUCED, log 164] -/
def State.compareTest (s : State) (c : Nat) : State :=
  let t := s.rdS (TIMELINE_CMP_TARGET c)
  let dir := s.rd (TIMELINE_CMP_CTRL_DIR c)
  let behind := (dir == 0 && decide (t ≤ s.pos16)) || (dir == 1 && decide (t ≥ s.pos16))
  if behind then
    if s.on (TIMELINE_CMP_CTRL_LATE_FIRE c) then
      (s.set1 (TIMELINE_CMP_STATUS_COMPARE_LATE c)).compareFires c
    else s.set1 (TIMELINE_CMP_STATUS_COMPARE_BEHIND c)
  else s

/-- ENABLE of a compare unit becomes 1 (R32); the test waits for RUN_START while RUN is 0. -/
def State.compareEnable (s : State) (c : Nat) : State :=
  if s.on (TIMELINE_CMP_CTRL_ENABLE c) then s
  else
    let s := s.set1 (TIMELINE_CMP_CTRL_ENABLE c)
    if s.on TIMELINE_CTRL_RUN then s.compareTest c else s

/-- COMPARE_ENABLE (R32). -/
def execCompareEnable (c : Fin 64) (s : State) : Host.Outcome State Fault Refusal :=
  .next (s.compareEnable c.val)

/-- A write of the TARGET pair takes effect (R32). -/
def State.compareTarget (s : State) (c v : Nat) : State :=
  let s := s.wr (TIMELINE_CMP_TARGET c) v
  if s.on (TIMELINE_CMP_CTRL_ENABLE c) && s.on TIMELINE_CTRL_RUN then s.compareTest c else s

/-- COMPARE_TARGET_WRITE (R32). -/
def execCompareTargetWrite (c : Fin 64) (target : BitVec 64) (s : State) :
    Host.Outcome State Fault Refusal := .next (s.compareTarget c.val target.toNat)

/-! ### Frame generators (R44, R45) -/

/-- The first boundary ORIGIN + n × LEN, n ≥ 0, above a position (R44). -/
def nextGenerated (origin len pos : Int) : Int :=
  let l := floorShift pos 40
  if l < origin then origin else origin + ((l - origin) / len + 1) * len

/-- A GENERATED generator chooses its first boundary afresh (R44): the offered one is withdrawn.
[DEDUCED, log 31] -/
def State.chooseGenerated (s : State) (f : Nat) : State :=
  let s := s.withdrawOpen (isFrameOf f)
  let len := s.rd (TIMELINE_FRAME_LEN f)
  if s.rd (TIMELINE_FRAME_CTRL_SRC f) = 1 && len != 0 then
    s.offerFrame f (nextGenerated (s.rdS (TIMELINE_FRAME_ORIGIN f)) len s.tl.pos)
  else s.offerCommits

/-- A mark sensed at position `p` (48.16) places a boundary, unless it comes early (R44, R45).
[DEDUCED, log 30] -/
def State.sensedMark (s : State) (f : Nat) (p : Int) : State :=
  let l := ceilDiv (p + s.rdS (TIMELINE_FRAME_OFFSET f)) 65536
  let g := s.frameGen f
  let gap := s.rd (TIMELINE_FRAME_GAPS_MIN_GAP f)
  let early := match g.prev with
    | some q => gap != 0 && decide (l < q + gap)
    | none => false
  if early then
    (s.set1 (TIMELINE_FRAME_CTRL_EARLY f)).fault srcTimeline 0x7012 (slot1 f ++ slotLine l)
  else (s.setFrameGen f { g with prev := some l }).offerFrame f l

/-- The first half of a frame boundary at line `l`: the frame number and the event (R44). -/
def State.frameStep (s : State) (f : Nat) (l : Int) : State :=
  let s := (s.bump (TIMELINE_FRAME_NUMBER f)).occur (76 + f)
  let g := s.frameGen f
  s.setFrameGen f { g with
    prev := if s.rd (TIMELINE_FRAME_CTRL_SRC f) = 1 then some l else g.prev
    starts := (l, s.rd (TIMELINE_FRAME_NUMBER f)) :: g.starts }

/-! ### Probes (R28, R29) -/

/-- The edge kinds EDGE selects: 0 rising, 1 falling, 2 both. -/
def edgeSelected (sel : Nat) (rising : Bool) : Bool :=
  if sel = 0 then rising else if sel = 1 then !rising else true

/-- PROBE_EDGE (R28, R44, R45): an accepted edge at probe k.
[DEDUCED, log 30; DEDUCED, log 164; DESIGN CHOICE, log 165] -/
def execProbeEdge (k : Fin 8) (rising : Bool) (s : State) : Host.Outcome State Fault Refusal :=
  let k := k.val
  let s := s.wr (TIMELINE_PRB_STATUS_LEVEL k) (b2n rising)
  if !(s.on (TIMELINE_PRB_CTRL_EN k) && edgeSelected (s.rd (TIMELINE_PRB_CTRL_EDGE k)) rising) then
    .next s
  else
    let x := s.probe k
    let near := match x.prevEdge with
      | some q => decide ((s.pos16 - q).natAbs < s.rd (TIMELINE_PRB_LOCKOUT k))
      | none => false
    if near then .next (s.set1 (TIMELINE_PRB_STATUS_LOCKED_OUT k))
    else if 16 ≤ x.fifo.length then
      let s := s.setProbe k { x with prevEdge := some s.pos16 }
      .next ((s.set1 (TIMELINE_PRB_STATUS_OVERRUN k)).fault srcTimeline 0x7010 (slot1 k))
    else
      let entry : ProbeEntry := ⟨s.pos16, s.now, rising⟩
      let s := s.setProbe k { fifo := x.fifo ++ [entry], prevEdge := some s.pos16 }
      let s := s.occur (64 + k)
      let p := s.pos16
      .next ((List.range 4).foldl (fun s f =>
        if s.on TIMELINE_CTRL_RUN && s.rd (TIMELINE_FRAME_CTRL_SRC f) == 2
            && s.rd (TIMELINE_FRAME_CTRL_PROBE f) == k then s.sensedMark f p else s) s)

/-- A read of PRBk_POS_LO takes the oldest entry and latches its other halves (R29). -/
def State.popProbe (s : State) (k : Nat) : State :=
  let x := s.probe k
  match x.fifo with
  | [] => (s.wr (TIMELINE_PRB_POS k) 0).wr (TIMELINE_PRB_EDGE_VALID k) 0
  | e :: rest =>
    let s := s.setProbe k { x with fifo := rest }
    let s := s.wrS (TIMELINE_PRB_POS k) e.pos
    let s := s.wr (TIMELINE_PRB_TICK k) e.tick
    (s.wr (TIMELINE_PRB_EDGE_RISING k) (b2n e.rising)).set1 (TIMELINE_PRB_EDGE_VALID k)

/-- PROBE_POP (R29). -/
def execProbePop (k : Fin 8) (s : State) : Host.Outcome State Fault Refusal :=
  .next (s.popProbe k.val)

/-! ### Markers (R42, R43) -/

/-- Pending actions of marker m. -/
def State.markerPending (s : State) (m : Nat) : Nat :=
  (s.tl.sched.filter (fun e => e.act == .marker m)).length

/-- A write of MKm_AT_HI queues a firing at a position (R42). -/
def State.markerQueue (s : State) (m : Nat) (at16 : Int) : State :=
  if 16 ≤ s.markerPending m then
    (s.set1 (TIMELINE_MK_STATUS_MK_FULL m)).fault srcTimeline 0x7023
      (slot1 m ++ slotPos (slotPos16 (slotOf at16)))
  else s.offer' (.marker m) (slotOf at16)

/-- MARKER_QUEUE (R42). -/
def execMarkerQueue (m : Fin 4) (at48 : BitVec 64) (s : State) : Host.Outcome State Fault Refusal :=
  .next (s.markerQueue m.val (signed 64 at48.toNat))

/-- MARKER_FIRE (R43): a due marker action drives the pin active for WIDTH µs, or extends it.
[DEDUCED, log 7] -/
def execMarkerFire (m : Fin 4) (s : State) : Host.Outcome State Fault Refusal :=
  let m := m.val
  match s.takeDue (fun a => a == .marker m) with
  | none => .next s
  | some (_, s) =>
    let x := s.markerSt m
    let s := s.occur (85 + m)
    let w := s.rd (TIMELINE_MK_CTRL_WIDTH m)
    let s := s.setMarkerSt m { x with fired := x.fired + 1 }
    if w = 0 then .next s
    else
      let active := match x.activeUntil with
        | some t => decide (s.now < t)
        | none => false
      let same := x.lastFire = some s.now
      let s := if active && !same then s.set1 (TIMELINE_MK_STATUS_RETRIGGER m) else s
      .next (s.setMarkerSt m { s.markerSt m with
        activeUntil := some (s.now + w * ticksPerUs), lastFire := some s.now })

/-- MARKER_PULSE_END (R43): WIDTH µs after the last firing the pin returns to its inactive level. -/
def execMarkerPulseEnd (m : Fin 4) (s : State) : Host.Outcome State Fault Refusal :=
  let x := s.markerSt m.val
  match x.activeUntil with
  | some t => if t ≤ s.now then .next (s.setMarkerSt m.val { x with activeUntil := none }) else .next s
  | none => .next s

/-! ### RUN and PRESET (R18) -/

/-- Every pending entry whose slot is at or behind the position is handled as late (R37). -/
def State.lateEntries (s : State) : State :=
  let late := s.tl.sched.filter (fun e => e.due.isNone && slotPassed e.slot s.tl.pos)
  late.foldl (fun s e =>
    let s := { s with tl := { s.tl with sched := dropEntry e s.tl.sched } }
    match e.act with
    | .marker m => s.markerSkipped m e.slot
    | act => (s.missedSlot act e.slot).addEntry ⟨e.slot, act, some (s.now + 1), true⟩) s

/-- RUN changes from 0 to 1 (R18, R23, R32, R37, R44). [DEDUCED, log 31] -/
def State.runStart (s : State) : State :=
  if s.on TIMELINE_CTRL_RUN then s
  else
    let s := s.set1 TIMELINE_CTRL_RUN
    let s := { s with tl := { s.tl with pairs := [], latched := s.tl.pos } }
    let s := (List.range 4).foldl (fun s e => s.setEnc e { s.enc e with indexSeen := false }) s
    let s := (List.range 4).foldl (fun s f =>
      if s.rd (TIMELINE_FRAME_CTRL_SRC f) = 1 then s.chooseGenerated f else s) s
    let s := s.lateEntries
    let s := (List.range 64).foldl (fun s c =>
      if s.on (TIMELINE_CMP_CTRL_ENABLE c) then s.compareTest c else s) s
    s.updVelocity

/-- RUN changes to 0: position holds, and latch pairs taken so far are never used (R18). -/
def State.runStop (s : State) : State :=
  let s := s.wr TIMELINE_CTRL_RUN 0
  ({ s with tl := { s.tl with pairs := [] } }).updVelocity

/-- PRESET loads TIMELINE_PRESET into the position; only while RUN is 0 (R18). -/
def State.preset (s : State) : State :=
  if s.on TIMELINE_CTRL_RUN then s.tlReject TIMELINE_CTRL.off 16
  else
    let p := s.rdS TIMELINE_PRESET * (2 : Int) ^ 24
    { s with tl := { s.tl with pos := p, prevPos := p, latched := p } }

/-- RUN_START (R18). -/
def execRunStart (s : State) : Host.Outcome State Fault Refusal := .next s.runStart

/-- RUN_STOP (R18). -/
def execRunStop (s : State) : Host.Outcome State Fault Refusal := .next s.runStop

/-- PRESET (R18). -/
def execPreset (s : State) : Host.Outcome State Fault Refusal := .next s.preset

/-- FRAME_MARK_MISSING (R45): no sensed boundary within MAX_GAP lines of the previous one. -/
def State.markMissing (s : State) (f : Nat) : Option (Int × State) :=
  let gap := s.rd (TIMELINE_FRAME_GAPS_MAX_GAP f)
  match (s.frameGen f).prev with
  | some q =>
    let l := q + gap
    if s.on TIMELINE_CTRL_RUN && s.rd (TIMELINE_FRAME_CTRL_SRC f) == 2 && gap != 0
        && decide (linePos l * (2 : Int) ^ 24 ≤ s.tl.pos) then
      some (l, (s.set1 (TIMELINE_FRAME_CTRL_MISSING f)).fault srcTimeline 0x7011
        (slot1 f ++ slotLine l))
    else none
  | none => none

/-! ### Pins -/

/-- The level of an output pin. [DESIGN CHOICE, log 160] -/
def State.markerPin (s : State) (m : Nat) : PinLevel :=
  if s.webOff || !s.on (TIMELINE_MK_CTRL_OE m) then .highZ
  else
    let active := (s.markerSt m).activeUntil.isSome
    if active == s.on (TIMELINE_MK_CTRL_POLARITY m) then .high else .low

end Sys2Proof.Machine
end

