-- ==== Sys2Proof/Machine/Intake.lean ====
section
/-! DEFINITION. Lines owed, lost and completed by the pipe contexts, and frame statistics (R99 to
R104, R112, R123 to R125, R131). -/

namespace Sys2Proof.Machine

open Sys2Proof

def State.pipe (s : State) (p : Nat) : Pipe := spGet (fun _ => {}) s.pipes p
def State.setPipe (s : State) (p : Nat) (x : Pipe) : State :=
  { s with pipes := spSet (fun _ => {}) s.pipes p x }

/-! ### Pipes and ports (R99, R128, R129, R131) -/

/-- The pipe that serves a camera port: an enabled one that names it and has not failed, else the
failed one that names it. -/
def State.pipeOf (s : State) (n : Nat) : Option Nat :=
  let names (p : Nat) : Bool := s.on (PIPE_CTRL_EN p) && s.rd (PIPE_CTRL_PORT p) == n
  match firstIdx 13 (fun p => names p && s.rd (PIPE_STATUS_STATE p) != pipeFailed) with
  | some p => some p
  | none => firstIdx 13 names

/-- Is a port unserved: its pipe has failed and nothing replaces it (R129)? -/
def State.unserved (s : State) (p : Nat) : Bool :=
  s.rd (PIPE_STATUS_STATE p) == pipeFailed && (s.pipe p).failedAt.isNone

/-- Does a handover of pipe p run (R128)? -/
def State.sparing (s : State) (p : Nat) : Bool := (s.pipe p).failedAt.isSome

/-- The number under which a pipe's contexts produce events: that of the pipe it replaces (R131). -/
def State.eventPipe (s : State) (p : Nat) : Nat :=
  if p = 12 && s.rd (PIPE_STATUS_SPARED_FROM 12) < 12 then s.rd (PIPE_STATUS_SPARED_FROM 12) else p

/-- The generator a context follows (R104): that of its active set, else the shadow's. -/
def State.ctxGen (s : State) (p x : Nat) : Nat :=
  match (s.px p x).commit.active with
  | some t => t.rd (PIPE_CTX_CFG_FRAME_GEN p x)
  | none => s.rd (PIPE_CTX_CFG_FRAME_GEN p x)

/-- The frame and exposure set that tag a line (R104). -/
def State.lineTags (s : State) (p x : Nat) (l : Int) : Int × Nat × Nat :=
  match (s.px p x).commit.setFor l with
  | some t =>
    let f := s.frameOf (t.rd (PIPE_CTX_CFG_FRAME_GEN p x)) l
    (f.1, f.2, t.rd (PIPE_CTX_EXPOSURE p x))
  | none =>
    let f := s.frameOf (s.rd (PIPE_CTX_CFG_FRAME_GEN p x)) l
    (f.1, f.2, 0)

/-- Frame number and exposure set of a line, from the sets applied so far, of which the one that processed
the line may be gone (R104). -/
def State.pastTags (s : State) (p x : Nat) (l : Int) : Nat × Nat :=
  match (s.px p x).tags.find? (fun e => decide (e.1 ≤ l)) with
  | some (_, some t) => ((s.frameOf t.1 l).2, t.2)
  | _ => ((s.frameOf (s.rd (PIPE_CTX_CFG_FRAME_GEN p x)) l).2, 0)

/-! ### Outstanding lines -/

/-- Lines of a context that are neither completed nor lost. -/
def State.outstanding (s : State) (p x : Nat) : List Int :=
  let c := s.px p x
  c.owed.map (·.line) ++ c.asm.toList.map (·.line) ++ c.fifo.map (·.line) ++
    ((s.pipe p).work.filter (·.ctx == x)).map (·.line)

/-- Has a context completed or declared lost a line (R144)? -/
def State.accounted (s : State) (p x : Nat) (l : Int) : Bool :=
  decide (l ≤ s.rdS (PIPE_CTX_LAST_LINE p x)) && !(s.outstanding p x).contains l

/-! ### Rings in DRAM (R125, R389) -/

/-- A ring is full when WR + 1 modulo DEPTH equals RD. -/
def ringFull (wr rd depth : Nat) : Bool := (wr + 1) % depth == rd

/-- Free entries of a ring. -/
def ringFree (wr rd depth : Nat) : Nat := (rd + depth - wr % depth - 1) % depth

/-! ### Frame statistics (R123 to R125) -/

/-- Statistics of a frame, opened when the frame is first seen. -/
def statsOf (frame : Nat) (first : Int) (st : List FrameStats) : List FrameStats :=
  if st.any (fun f => f.frame == frame) then st else st ++ [{ frame := frame, first := first }]

/-- Replace the statistics of one frame. -/
def updStats (frame : Nat) (g : FrameStats → FrameStats) (st : List FrameStats) : List FrameStats :=
  st.map (fun f => if f.frame = frame then g f else f)

/-- Saturating u64. -/
def sat64 (n : Nat) : Nat := min n (2 ^ 64 - 1)

/-- The 4,096-byte statistics record (R124). -/
def State.statsRecord (s : State) (p x : Nat) (f : FrameStats) : List Nat :=
  let flags := b2n f.after + 2 * b2n (decide (1 < f.sets.length)) + 4 * b2n (decide (0 < f.lost))
    + 8 * b2n (f.sumsq.any (fun n => decide (2 ^ 64 - 1 ≤ n)))
  let head := leBytes 4 f.frame ++ [f.expSet, flags]
    ++ leBytes 2 (p % 16 + x * 16 + s.rd (PIPE_CTRL_PORT p) % 16 * 256)
    ++ leBytes 8 (toBits 64 f.first) ++ leBytes 4 f.processed ++ leBytes 4 f.lost
    ++ leBytes 4 (s.epochOf f.first) ++ leBytes 4 f.commits
  let chan (c : Nat) : List Nat :=
    leBytes 8 (nth 0 f.sums c) ++ leBytes 8 (sat64 (nth 0 f.sumsq c)) ++ leBytes 2 (nth 0 f.mins c)
      ++ leBytes 2 (nth 0 f.maxs c) ++ leBytes 4 (nth 0 f.sats c) ++ leBytes 8 0
  let hist (c : Nat) : List Nat :=
    (List.range 256).flatMap (fun b => leBytes 4 (spGet (fun _ => 0) f.hist (256 * c + b)))
  let body := padTo 0 0x100 (head ++ chan 0 ++ chan 1 ++ chan 2) ++ hist 0 ++ hist 1 ++ hist 2
  let body := padTo 0 0xFFC body
  body ++ leBytes 4 (crc32 body)

/-- The statistics of a frame close: the record goes to its ring and STATS_READY follows (R123,
R125). -/
def State.closeFrame (s : State) (p x : Nat) (f : FrameStats) : State :=
  let depth := s.rd (PIPE_CTX_STATS_RING_DEPTH p x)
  let wr := s.rd (PIPE_CTX_STATS_RING_WR p x)
  let s :=
    if depth = 0 then s
    else if ringFull wr (s.rd (PIPE_CTX_STATS_RD p x)) depth then s.bump (PIPE_CTX_STATS_DROPPED p x)
    else
      let s := s.dramPut (s.rd (PIPE_CTX_STATS_BASE p x) + 4096 * wr) (s.statsRecord p x f) clsTable
      s.wr (PIPE_CTX_STATS_RING_WR p x) ((wr + 1) % depth)
  s.occur (166 + 4 * s.eventPipe p + 2 * x)

/-- The boundary line after a frame's first line, once executed. -/
def State.nextBoundary (s : State) (f : Nat) (first : Int) : Option Int :=
  ((s.frameGen f).starts.filter (fun e => decide (first < e.1))).getLast?.map (·.1)

/-- May a frame's statistics close: every line below the next boundary is completed or lost? -/
def State.frameDone (s : State) (p x : Nat) (f : FrameStats) : Bool :=
  match s.nextBoundary (s.ctxGen p x) f.first with
  | none => false
  | some b => (s.outstanding p x).all (fun l => decide (b ≤ l))
      && (s.tl.waiting ++ s.dueLines).all (fun l => decide (b ≤ l))

/-- Close every frame whose lines are accounted for, oldest first (R123). -/
def State.closeStats (s : State) (p x : Nat) : State :=
  (s.px p x).stats.foldl (fun s f =>
    if s.frameDone p x f then
      let c := s.px p x
      (s.setPx p x { c with stats := c.stats.filter (fun g => g.frame != f.frame) }).closeFrame p x f
    else s) s

/-! ### Lost lines (R101 to R103) -/

/-- Reasons for a lost line (R101). -/
def lostLink : Nat := 1
def lostFormat : Nat := 2
def lostSequence : Nat := 3
def lostTimeout : Nat := 4
def lostOverrun : Nat := 5
def lostHdr : Nat := 6
def lostGroup : Nat := 7
def lostSpare : Nat := 8
def lostNoSet : Nat := 9
def lostCamera : Nat := 10

/-- The parts of a run of lines whose own position lies in an inspecting mode (R538). -/
def State.inspected (s : State) (a b : Int) : List (Int × Int) :=
  inspectedSpans s.top.hist openLine a b

/-- Coverage of lost lines of stitcher camera k, widened under R141. -/
def State.coverCamera (s : State) (k : Nat) (a b : Int) (reason detail : Nat) : State :=
  if s.on (STITCH_CAM_CTRL k) then
    let lo := ceilDiv (s.rdS (STITCH_CAM_O_LO k)) 65536
    let hi := ceilDiv (s.rdS (STITCH_CAM_O_HI k)) 65536
    let xb := s.rd STITCH_XBASE
    (s.inspected a b).foldl (fun s (r : Int × Int) =>
      s.enqueueCov (s.covRec (r.1 - 2 + lo) (r.2 + 1 + hi) (xb + s.rd (STITCH_CAM_SPAN_FIRST k))
        (xb + s.rd (STITCH_CAM_SPAN_LAST k)) reason 1 detail 0 noPage)) s
  else s

/-- The open run of lost lines ends (R102); without `cover` its coverage is accounted for elsewhere
(R130). [DEDUCED, log 41] -/
def State.flushRun (s : State) (p x : Nat) (cover : Bool := true) : State :=
  let c := s.px p x
  match c.run with
  | none => s
  | some r =>
    let s := s.setPx p x { c with run := none }
    let s := s.fault (srcPipe p) 0x2002
      (slot1 p ++ slot1 x ++ slotLine r.first ++ slotLine r.last ++ slot1 r.reason)
    let s := s.bump (PIPE_CTX_LOST_LINES p x) (r.last - r.first + 1).toNat
    let s := s.set1 (PIPE_CTX_STATUS_LINE_LOST p x)
    if cover then s.coverCamera (2 * s.rd (PIPE_CTRL_PORT p) + x) r.first r.last r.reason (2 * p + x)
    else s

/-- The stale boundary rises to a line completed or lost (R103). -/
def State.settle (s : State) (p x : Nat) (l : Int) : State :=
  if s.rdS (PIPE_CTX_LAST_LINE p x) < l then s.wrS (PIPE_CTX_LAST_LINE p x) l else s

/-- A line of a context is declared lost (R101): it joins the open run or starts a new one. -/
def State.lostLine (s : State) (p x : Nat) (l : Int) (reason : Nat) (cover : Bool := true) : State :=
  let c := s.px p x
  let tag := s.lineTags p x l
  let asm := match c.asm with
    | some a => if a.line = l then none else some a
    | none => none
  let stats := updStats tag.2.1 (fun f => { f with lost := f.lost + 1 }) (statsOf tag.2.1 tag.1 c.stats)
  let s := s.setPx p x { c with owed := c.owed.filter (·.line != l), asm := asm, stats := stats }
  let joins := match c.run with
    | some r => r.reason == reason && decide (r.last + 1 = l)
    | none => false
  let s :=
    if joins then
      let c := s.px p x
      s.setPx p x { c with run := c.run.map (fun r => { r with last := l }) }
    else
      let s := s.flushRun p x cover
      let c := s.px p x
      s.setPx p x { c with run := some ⟨l, l, reason⟩ }
  (s.settle p x l).closeStats p x

/-- Every line a context is owed is lost (R93, R101 reason 7). -/
def State.owedLost (s : State) (p x reason : Nat) : State :=
  ((s.px p x).owed.map (·.line)).foldl (fun s l => s.lostLine p x l reason) s

/-! ### Triggers toward the cameras (R101, R112, R129) -/

/-- The exposure set a TRIG for a line carries (R112). -/
def State.trigExp (s : State) (p x : Nat) (l : Int) : Nat :=
  match (s.px p x).commit.setFor l with
  | some t => t.rd (PIPE_CTX_EXPOSURE p x)
  | none => s.rd (PIPE_CTX_EXPOSURE p x)

/-- A trigger action for line l is applied to context x of pipe p: a TRIG waits for its launch, or
the line is lost at once. -/
def State.owe (s : State) (p x n : Nat) (l : Int) : State :=
  if l ≤ s.rdS (PIPE_CTX_LAST_LINE p x) then s
  else if s.unserved p then s.lostLine p x l lostNoSet
  else if !s.groupUp n x then s.lostLine p x l lostGroup
  else
    let c := s.px p x
    s.setPx p x { c with owed := c.owed ++ [⟨l, none, s.trigExp p x l, s.now, none⟩] }

end Sys2Proof.Machine
end

