-- ==== Sys2Proof/Machine/Resets.lean ====
section
/-! DEFINITION. What a reset leaves in a block's registers: the fields whose Kept code survives it
keep their values, every other field takes its reset value (R14, R442 to R445). -/

namespace Sys2Proof.Machine

open Sys2Proof

/-- Does a field of a Kept code survive a WARM, BLOCK or LINK reset? [DEDUCED, log 139] -/
def keptWarm : Kept → Bool
  | .fused => true
  | .pin => true
  | .warm => true
  | .none => false

/-- Does a field of a Kept code survive a PIN reset? [DEDUCED, log 139] -/
def keptPin : Kept → Bool
  | .fused => true
  | .pin => true
  | .warm => false
  | .none => false

/-- Does a field of a Kept code survive a power-on reset? -/
def keptPor : Kept → Bool
  | .fused => true
  | .pin => false
  | .warm => false
  | .none => false

/-- A word after a reset that keeps some Kept codes. -/
def keepWord (keep : Kept → Bool) (off : Nat) (cur : Word) : Word :=
  match regRow off with
  | none => resetWord off
  | some (r, _, h) =>
    let base := if h then (resetWord off).toNat * 2 ^ 32 else (resetWord off).toNat
    let now := if h then cur.toNat * 2 ^ 32 else cur.toNat
    let v := r.fields.foldl (fun a f => if keep f.kept then putBits a f.lsb f.w (bitsAt now f.lsb f.w)
      else a) base
    BitVec.ofNat 32 (if h then v / 2 ^ 32 else v)

/-- The registers of offsets `lo .. hi - 1` after a reset that keeps some Kept codes. [DEDUCED, log 139] -/
def State.resetRegs (s : State) (keep : Kept → Bool) (lo hi : Nat) : State :=
  let inside (o : Nat) : Bool := decide (lo ≤ o) && decide (o < hi)
  { s with
    regs := s.regs.filterMap (fun e =>
      if inside e.1 then
        let v := keepWord keep e.1 e.2
        if v = resetWord e.1 then none else some (e.1, v)
      else some e)
    latchHi := s.latchHi.filter (fun e => !inside e.1)
    stageLo := s.stageLo.filter (fun e => !inside e.1)
    shOld := s.shOld.filter (fun e => !inside e.1) }

/-- The key under which a WARM reset is kept, which acts on every block but DRAMC. -/
def everyBlock : Nat := 0x400

/-- A commanded reset of a block takes effect: its other writes of this tick are lost (R531).
[DEDUCED, log 140] -/
def State.markReset (s : State) (block : Nat) : State :=
  { s with top := { s.top with resetAt := spSet (fun _ => 0) s.top.resetAt block (s.now + 1) } }

/-- Has a block been reset by command in this tick (R531)? [DEDUCED, log 140] -/
def State.resetNow (s : State) (block : Nat) : Bool :=
  let at_ (b : Nat) : Bool := decide (spGet (fun _ => 0) s.top.resetAt b = s.now + 1)
  at_ block || (block != 0xA && at_ everyBlock)

end Sys2Proof.Machine
end

