-- ==== Sys2Proof/Machine/Zl.lean ====
section
/-! DEFINITION. The Zhevlis ports (R61 to R98): markers, lock, lane swaps, link requests, packets,
launch-delay training, replay, idle and resets. -/

namespace Sys2Proof.Machine

open Sys2Proof

/-! ### Lanes and groups (R61, R62) -/

/-- Is port n a peer port (R61)? -/
def isLp (n : Nat) : Bool := decide (12 ≤ n)

/-- The spare physical lane. -/
def spareLane (n : Nat) : Nat := if isLp n then 2 else 4

/-- The home physical lane of a group's logical lane. -/
def State.homeLane (s : State) (n g lg : Nat) : Nat :=
  if s.rd (ZL_CTRL_PORT_MODE n) = 1 then 2 * g + lg else lg

/-- Logical lanes of a group. -/
def State.logicals (s : State) (n : Nat) : Nat := if s.rd (ZL_CTRL_PORT_MODE n) = 0 then 4 else 2

/-- The group whose lanes include a physical lane. -/
def State.groupOfLane (s : State) (n l : Nat) : Nat :=
  if l = spareLane n then
    match (s.port n).spareRx with
    | some (g, _, _) => g
    | none => 0
  else if s.rd (ZL_CTRL_PORT_MODE n) = 1 then l / 2 else 0

/-- The physical lane that carries a logical lane of a group in the receive direction. -/
def State.rxLane (s : State) (n g lg : Nat) : Nat :=
  match (s.port n).spareRx with
  | some (g', lg', _) => if g' = g && lg' = lg then spareLane n else s.homeLane n g lg
  | none => s.homeLane n g lg

/-- The same in the transmit direction. -/
def State.txLane (s : State) (n g lg : Nat) : Nat :=
  match (s.port n).spareTx with
  | some (g', lg', _) => if g' = g && lg' = lg then spareLane n else s.homeLane n g lg
  | none => s.homeLane n g lg

/-- The physical lanes that carry a group. -/
def State.activeLanes (s : State) (n g : Nat) : List Nat := tabulate (s.logicals n) (s.rxLane n g)

/-- The nibble of a lane in RX_MAP and TX_MAP. -/
def rxMapF (n l : Nat) : Fld := ⟨(ZL_RX_MAP n).off, 4 * l, 4⟩
def txMapF (n l : Nat) : Fld := ⟨(ZL_TX_MAP n).off, 4 * l, 4⟩

/-- The lane maps of a port's mode with nothing on the spare (R61). [DEDUCED, log 33; DEDUCED, log 34] -/
def State.resetMaps (s : State) (n : Nat) : State :=
  let m := s.rd (ZL_CTRL_PORT_MODE n)
  let v := if m = 0 then 0xF3210 else if m = 1 then 0xF1010 else 0xF10
  (s.wr (ZL_RX_MAP n) v).wr (ZL_TX_MAP n) v

/-- May the spare serve a group (R62)? -/
def State.spareServes (s : State) (n g : Nat) : Bool :=
  s.rd (ZL_CTRL_PORT_MODE n) != 1 || s.rd (ZL_CTRL_SPARE_OWNER n) == 2
    || s.rd (ZL_CTRL_SPARE_OWNER n) == g

/-- A link request leaves in the next FILL block (R69): kind, lane and SEQ. -/
def State.request (s : State) (n kind lane seq : Nat) : State :=
  { s with out := { s.out with requests := s.out.requests ++ [(n, kind, lane, seq)] } }

/-- Rejected write of a port register. -/
def State.zlReject (s : State) (n off v : Nat) : State := s.reject (ZL_STATUS_CFG_REJECT n) (srcZl n) off v

/-! ### Training of the launch delay (R82) -/

/-- TRAINED: OW is valid for every up group. -/
def State.updTrained (s : State) (n : Nat) : State :=
  let ups := (s.groupsOf n).filter (fun g => s.groupUp n g)
  let ok := !ups.isEmpty && ups.all (fun g => (s.grp n g).ow.isSome)
  let busy := (s.groupsOf n).any (fun g => (s.grp n g).training)
  (s.wr (ZL_STATUS_TRAINED n) (b2n ok)).wr (ZL_TRAIN_BUSY n) (b2n busy)

/-- A CTRL packet leaves on a camera group (R79). -/
def State.sendCtrl (s : State) (n g op tag arg : Nat) (data : List Nat) : State :=
  let r := s.sendCam n g pkCtrl ((op + tag * 2 ^ 16 + arg * 2 ^ 32) :: data)
  let x := r.2.grp n g
  r.2.setGrp n g { x with ctrl := x.ctrl ++ [⟨op, tag, s.now⟩] }

/-- Training of a group starts: COUNT ECHO operations under the device's own TAGs (R82, R126). -/
def State.trainStart (s : State) (n g : Nat) : State :=
  if isLp n then s
  else
    let s := s.setGrp n g { s.grp n g with training := true }
    let s := (List.range (s.rd (ZL_TRAIN_COUNT n))).foldl (fun s i =>
      s.sendCtrl n g 0x0002 (0xF000 + i) 0 []) s
    s.updTrained n

/-- Training GO: every group that is up is trained. -/
def State.trainGoPort (s : State) (n : Nat) : State :=
  (s.groupsOf n).foldl (fun s g => if s.groupUp n g then s.trainStart n g else s) s

/-- TRAIN_GO (R82). -/
def execTrainGo (n : Fin 15) (s : State) : Host.Outcome State Fault Refusal :=
  .next (s.trainGoPort n.val)

/-- Greatest minus least of a list. -/
def spread : List Nat → Nat
  | [] => 0
  | x :: xs => xs.foldl max x - xs.foldl min x

/-- TRAIN_DONE (R82): the ECHO replies of a group's training, as (RTT, TURN) in UI. -/
def execTrainDone (n : Fin 15) (g : Fin 2) (replies : List (Nat × Nat)) (s : State) :
    Host.Outcome State Fault Refusal :=
  let n := n.val
  let g := g.val
  let x := s.grp n g
  if !x.training then .next s
  else
    let k := replies.length
    let rtts := replies.map (·.1)
    let turns := replies.map (·.2)
    let s := s.setGrp n g { x with training := false, ctrl := x.ctrl.filter (fun c => decide (c.tag < 0xF000)) }
    if k = s.rd (ZL_TRAIN_COUNT n) && decide (spread rtts ≤ 4) && decide (spread turns ≤ 4) then
      let ow := rneDiv ((rtts.sum : Int) - turns.sum) (2 * k)
      let s := s.setGrp n g { s.grp n g with ow := some ow }
      let s := s.wrS (ZL_GRP_RTT n g) (rneDiv rtts.sum k)
      .next ((s.wrS (ZL_GRP_TURN n g) (rneDiv turns.sum k)).updTrained n)
    else
      .next (((s.set1 (ZL_TRAIN_FAIL n)).fault (srcZl n) 0x1032 (slot1 n ++ slot1 g)).updTrained n)

/-! ### Groups up and down (R71, R93, R96, R422) -/

/-- The chain packets a dead link still held are lost; tallies among them count (R241, R422). -/
def State.dropReplay (s : State) (n : Nat) : State :=
  let z := s.port n
  let ps := z.replay.map (·.pkt) ++ z.waiting
  let k := (ps.filter (fun p => p.ty == pkTally)).length
  let s := s.setPort n { z with replay := [], waiting := [] }
  s.wr SCALER_NET_DROPPED_CHAIN (min 65535 (s.rd SCALER_NET_DROPPED_CHAIN + k))

/-- The camera context that a port's group feeds. -/
def State.ctxOf (s : State) (n g : Nat) : Option (Nat × Nat) :=
  if isLp n then none else (s.pipeOf n).map (fun p => (p, g))

/-- A group comes up (R71, R82, R98). -/
def State.groupRise (s : State) (n g : Nat) : State :=
  let s := (s.set1 (upF n g)).occur (120 + 3 * n)
  let s := s.wr (ZL_STATUS_RX_IDLE n) 0
  let s := s.trainStart n g
  let s := if isLp n then (s.probeNow (n - 12)).updRoles else s
  (s.updTrained n).recheck

/-- An enabled group that was up goes down with a cause (R93): fault 0x1042, owed lines are lost but
for a WARM reset, and a member looks for another parent (R422). [DEDUCED, log 40] -/
def State.groupDown (s : State) (n g cause : Nat) : State :=
  if !s.groupUp n g then s
  else
    let s := (s.wr (upF n g) 0).occur (120 + 3 * n)
    let s := s.fault (srcZl n) 0x1042 (slot1 n ++ slot1 g ++ slot1 cause)
    let s := s.setGrp n g { s.grp n g with training := false, resync := false }
    let s := match s.ctxOf n g with
      | some (p, x) => if cause = 2 then s else s.owedLost p x lostGroup
      | none => s
    let s := if isLp n then ((s.dropReplay n).parentChange (n - 12)).updRoles else s
    (s.updTrained n).recheck

/-- Does every active lane of a group have lock, alignment and RX_READY (R71)? -/
def State.lanesReady (s : State) (n g : Nat) : Bool :=
  (s.activeLanes n g).all (fun l =>
    s.on (ZL_LANE_STATUS_LOCK n l) && s.on (ZL_LANE_STATUS_ALIGNED n l)
      && s.on (ZL_LANE_STATUS_FAR_RX_READY n l))

/-- A failover of a lane of the group runs (R91). -/
def State.swapping (s : State) (n g : Nat) : Bool :=
  match (s.port n).swapRx with
  | some w => w.group == g
  | none => false

/-- The up state of a group follows its lanes (R71). -/
def State.evalGroup (s : State) (n g : Nat) : State :=
  if !s.on (ZL_CTRL_EN n) then s
  else if s.groupUp n g then
    if s.lanesReady n g || s.swapping n g then s else s.groupDown n g 4
  else if s.lanesReady n g then s.groupRise n g else s

/-! ### Loss of lock and failover (R70, R91, R93) -/

/-- The spare has block lock and carries nothing: it is ready. -/
def State.spareFree (s : State) (n : Nat) : Bool :=
  s.on (ZL_STATUS_SPARE_READY n) && (s.port n).spareRx.isNone && (s.port n).swapRx.isNone

/-- A SPARE request for a lane goes out; it cancels this port's GAP request for the lane (R90, R91). -/
def State.askSpare (s : State) (n g lg dest : Nat) (planned : Bool) : State :=
  let z := s.port n
  let gap := match z.gapAsked with
    | some (l, t) => if l = lg then none else some (l, t)
    | none => none
  let s := s.setPort n { z with swapRx := some ⟨g, lg, dest, planned, s.now⟩, gapAsked := gap }
  (s.request n 3 lg 0).recheck

/-- A receiving lane loses block lock (R70, R91, R93). -/
def State.laneLost (s : State) (n l : Nat) : State :=
  let s := (s.wr (ZL_LANE_STATUS_LOCK n l) 0).wr (ZL_LANE_STATUS_ALIGNED n l) 0
  let s := s.setLane n l { s.lane n l with bad := 0, found := false }
  let s := s.fault (srcZl n) 0x1001 (slot1 n ++ slot1 l)
  let g := s.groupOfLane n l
  match firstIdx (s.logicals n) (fun lg => s.rxLane n g lg == l) with
  | some lg =>
    if !s.groupUp n g then s
    else if s.on (ZL_CTRL_AUTO_SPARE n) && s.spareFree n && s.spareServes n g then
      s.askSpare n g lg (spareLane n) false
    else if s.spareFree n && s.spareServes n g then s.groupDown n g 4
    else
      (s.fault (srcZl n) 0x1021 (slot1 n ++ slot1 0 ++ slot1 lg)).groupDown n g 0
  | none => if l = spareLane n then s.wr (ZL_STATUS_SPARE_READY n) 0 else s

/-- A marker of a lane is missing or invalid (R70): two in a row lose the lock. -/
def State.markerBad (s : State) (n l : Nat) : State :=
  let x := s.lane n l
  let s := s.setLane n l { x with bad := x.bad + 1 }
  if s.on (ZL_LANE_STATUS_LOCK n l) && decide (2 ≤ x.bad + 1) then s.laneLost n l else s

/-- Is a lane in a calibration gap (R90)? -/
def State.inGap (s : State) (n l : Nat) : Bool :=
  match (s.lane n l).gapUntil with
  | some t => decide (s.now < t)
  | none => false

/-- MARKER_MISSING (R70, R90): a marker period ends without a valid marker on a lane. -/
def execMarkerMissing (n : Fin 15) (l : Fin 5) (s : State) : Host.Outcome State Fault Refusal :=
  if !s.on (ZL_CTRL_EN n.val) || s.inGap n.val l.val then .next s
  else .next (s.markerBad n.val l.val)

/-! ### Markers (R65, R67, R70, R71, R76, R86) -/

/-- A marker as received is valid: SYNC, MCHK and a defined LOGICAL (R67, R68, R70). -/
def markerOk (w : Nat) : Bool :=
  bitsAt w 0 32 == 0x6E2B49D3 && blockCheck w == bitsAt w 56 8
    && (decide (bitsAt w 32 4 < 4) || bitsAt w 32 4 == 15)

/-- What a marker period shows of a lane besides its marker (R65, R86): stuff bits removed, stuff
violations, a tap at its rail throughout, eye width and height. -/
def State.periodChecks (s : State) (n l stuffed viol : Nat) (rail : Option Nat) (eyeH eyeV : Nat) :
    State :=
  let s := s.bump (ZL_CNT_STUFF n) stuffed
  let s := if viol = 0 then s
    else ((s.set1 (ZL_STATUS_STUFF_ERR n)).bump (ZL_LANE_ERR_STUFF_VIOL n l) viol).fault (srcZl n)
      0x1003 (slot1 n ++ slot1 l ++ slot1 viol)
  let s := match rail with
    | some k => (s.set1 (ZL_LANE_STATUS_EQ_LIMIT n l)).fault (srcZl n) 0x1005
        (slot1 n ++ slot1 l ++ slot1 (k + 1))
    | none => s
  let s := (s.wr (ZL_LANE_EYE_EYE_H n l) eyeH).wr (ZL_LANE_EYE_EYE_V n l) eyeV
  let x := s.lane n l
  let low := if eyeH < s.rd TOP_WEAR_EYE_MIN then some (x.eyeLowSince.getD s.now) else none
  s.setLane n l { x with eyeLowSince := low }

/-- A valid marker of the lane's logical number: lock, alignment and the far receiver (R70, R71). -/
def State.markerGood (s : State) (n l w blocks : Nat) (skew : Int) : State :=
  let x := s.lane n l
  let lock := s.on (ZL_LANE_STATUS_LOCK n l) || (x.found && blocks == 16384)
  let inRange := decide (skew.natAbs ≤ 16)
  let s := s.wr (ZL_LANE_STATUS_LOCK n l) (b2n lock)
  let s := s.wr (ZL_LANE_STATUS_ALIGNED n l) (b2n (lock && inRange))
  let s := s.wr (ZL_LANE_STATUS_LOGICAL n l) (bitsAt w 32 4)
  let s := s.wr (ZL_LANE_STATUS_FAR_RX_READY n l) (bitsAt w 39 1)
  let s := s.wrS (ZL_LANE_STATUS_SKEW n l) skew
  let s := if !inRange && !x.skewSeen then
      (s.set1 (ZL_STATUS_DESKEW_ERR n)).fault (srcZl n) 0x1004 (slot1 n ++ slot1 l ++ slotI skew)
    else s
  let s := s.setLane n l { s.lane n l with bad := 0, found := true, skewSeen := !inRange }
  if l = spareLane n && bitsAt w 32 4 = 15 then s.wr (ZL_STATUS_SPARE_READY n) (b2n lock) else s

/-- The marker of a group's logical lane 0 starts a period: CRC errors count anew, and a receiver
that waits for NEXT_HDR resumes there (R76, R98). -/
def State.periodStart (s : State) (n g w : Nat) : State :=
  let x := s.grp n g
  s.setGrp n g { x with crcPeriod := 0, resync := x.resync && bitsAt w 40 14 == 0 }

/-- LANE_MARKER_RX (R65, R70, R71, R86): a block with SYNC has been found on physical lane l,
`blocks` blocks after the lane's previous one. [DESIGN CHOICE, log 160] -/
def execLaneMarkerRx (n : Fin 15) (l : Fin 5) (w : BitVec 64) (blocks : Nat) (skew : Int)
    (stuffed viol : Nat) (rail : Option (Fin 12)) (eyeH eyeV : BitVec 8) (s : State) :
    Host.Outcome State Fault Refusal :=
  let n := n.val
  let l := l.val
  let w := w.toNat
  if !s.on (ZL_CTRL_EN n) then .next s
  else
    let s := s.periodChecks n l stuffed viol (rail.map (·.val)) eyeH.toNat eyeV.toNat
    let lg := bitsAt w 32 4
    let moving := match (s.port n).swapRx with
      | some t => t.dest == l && t.logical == lg
      | none => false
    let mapped := lg == s.rd (rxMapF n l) || moving
    if markerOk w && mapped then
      let g := s.groupOfLane n l
      let s := s.markerGood n l w blocks skew
      let s := if lg = 0 then s.periodStart n g w else s
      .next (s.evalGroup n g)
    else
      let s := (s.set1 (ZL_STATUS_MARKER_ERR n)).bump (ZL_LANE_ERR_MARKER_BAD n l)
      let s := if markerOk w then
          s.fault (srcZl n) 0x1002 (slot1 n ++ slot1 l ++ slot1 (w / 2 ^ 32))
        else s
      .next (s.markerBad n l)

/-! ### Lane swaps (R91 to R93) -/

/-- SPARE_SWITCH (R91 to R93): the switch marker row of the swap in progress, in the receive or the
transmit direction; a transmitter switches at least 1 µs after the request. -/
def execSpareSwitch (n : Fin 15) (tx : Bool) (s : State) : Host.Outcome State Fault Refusal :=
  let n := n.val
  let z := s.port n
  match (if tx then z.swapTx else z.swapRx) with
  | none => .next s
  | some w =>
    if tx && decide (s.now < w.since + ticksPerUs) then .next s
    else
      let toSpare := w.dest == spareLane n
      let src := if tx then s.txLane n w.group w.logical else s.rxLane n w.group w.logical
      let map (l : Nat) : Fld := if tx then txMapF n l else rxMapF n l
      let s := (s.wr (map src) 15).wr (map w.dest) w.logical
      let carried := if toSpare then some (w.group, w.logical, src) else none
      let s := s.setPort n (if tx then { s.port n with swapTx := none, spareTx := carried }
        else { s.port n with swapRx := none, spareRx := carried })
      let z := s.port n
      let s := s.wr (ZL_STATUS_SPARE_IN_USE n) (b2n (z.spareRx.isSome || z.spareTx.isSome))
      let s := if tx then s
        else
          let s := (s.wr (ZL_LANE_STATUS_LOGICAL n src) 15).wr (ZL_LANE_STATUS_LOGICAL n w.dest) w.logical
          let s := s.wr (ZL_STATUS_SPARE_READY n)
            (b2n (!toSpare && s.on (ZL_LANE_STATUS_LOCK n (spareLane n))))
          s.setGrp n w.group { s.grp n w.group with resync := false }
      let us := (s.now - w.since) / ticksPerUs
      let s := s.fault (srcZl n) 0x1020 (slot1 n ++ slot1 (b2n tx) ++ slot1 w.logical ++ slot1 src
        ++ slot1 w.dest ++ slot1 (b2n w.planned))
      let s := if 120 * ticksPerUs < s.now - w.since then
          s.fault (srcZl n) 0x1022 (slot1 n ++ slot1 w.logical ++ slot1 us)
        else s
      let s := s.occur (121 + 3 * n)
      .next ((if tx then s else s.evalGroup n w.group).recheck)

/-- A swap that this port asks for or makes (R91, R92): to the spare, or back to its own lane. -/
def State.startSwap (s : State) (n g lg : Nat) (tx release planned : Bool) : State :=
  let z := s.port n
  let carried := if tx then z.spareTx else z.spareRx
  let busy := if tx then z.swapTx.isSome else z.swapRx.isSome
  let mine := match carried with
    | some (g', lg', _) => g' == g && lg' == lg
    | none => false
  let free := carried.isNone && (tx || s.on (ZL_STATUS_SPARE_READY n)) && s.spareServes n g
  if busy || !(if release then mine else free) || decide (s.logicals n ≤ lg) then s
  else
    let dest := if release then s.homeLane n g lg else spareLane n
    if tx then s.setPort n { z with swapTx := some ⟨g, lg, dest, planned, s.now⟩ }
    else if release then
      (s.setPort n { z with swapRx := some ⟨g, lg, dest, planned, s.now⟩ }).request n 4 lg 0
    else s.askSpare n g lg dest planned

/-- PLANNED_SWAP (R92): a write of ZLn_SWAP.GO. -/
def State.plannedSwap (s : State) (n : Nat) : State :=
  s.startSwap n (s.rd (ZL_SWAP_GROUP n)) (s.rd (ZL_SWAP_LANE n)) (s.on (ZL_SWAP_DIR n))
    (s.on (ZL_SWAP_RELEASE n)) true

def execPlannedSwap (n : Fin 15) (s : State) : Host.Outcome State Fault Refusal :=
  .next (s.plannedSwap n.val)

/-! ### Replay (R95) -/

/-- How far SEQ `b` lies above `a`, modulo 2^16. -/
def seqAhead (a b : Nat) : Nat := (b + 65536 - a % 65536) % 65536

/-- An ACK up to a SEQ: covered packets leave the buffer and waiting ones enter (R95). -/
def State.ackUpTo (s : State) (n seq : Nat) : State :=
  let z := s.port n
  let rest := z.replay.filter (fun e => decide (32768 ≤ seqAhead e.pkt.seq seq))
  if rest.length = z.replay.length then s
  else
    let s := s.setPort n { z with replay := rest, ackAt := s.now }
    let s := s.wr (ZL_REPLAY_STATUS_ACKED_SEQ n) seq
    State.drainWaiting (z.waiting.length) n s

/-- What a LINK, BLOCK or WARM reset of a port does (R96, R444): lock, packet and replay state clear;
a group that was up goes down with the cause. [DEDUCED, log 39] -/
def State.portReset (s : State) (n cause : Nat) : State :=
  let s := [0, 1].foldl (fun s g => s.groupDown n g cause) s
  let ows := [0, 1].map (fun g => (s.grp n g).ow)
  let cal := (List.range 5).map (fun l => (s.lane n l).calAt)
  let s := s.setPort n {}
  let s := (List.range 2).foldl (fun s g =>
    match nth none ows g with
    | some o => s.setGrp n g { s.grp n g with ow := some o }
    | none => s) s
  let s := (List.range 5).foldl (fun s l => s.setLane n l { s.lane n l with calAt := nth 0 cal l }) s
  let s := s.resetRegs keptWarm (0x100000 + n * 0x10000) (0x110000 + n * 0x10000)
  let s := s.resetMaps n
  let s := s.wr (ZL_STATUS_LREF_ACTIVE n) (s.rd (ZL_CTRL_LREF n))
  if s.on (ZL_CTRL_EN n) then (s.wr (ZL_STATUS_TX_IDLE n) 0).wr (ZL_STATUS_RX_IDLE n) 0 else s

/-- Replay gives up (R95): fault 0x1041 and a LINK reset. [DEDUCED, log 37] -/
def State.replayFail (s : State) (n seq : Nat) : State :=
  let s := s.fault (srcZl n) 0x1041 (slot1 n ++ slot1 seq)
  (s.portReset n 1).set1 (ZL_STATUS_REPLAY_FAIL n)

/-- Packets of the buffer above a SEQ are sent again with RETX set; after four resends of one packet
replay gives up (R95). [DEDUCED, log 37] -/
def State.resendFrom (s : State) (n last : Nat) : State :=
  let z := s.port n
  let again (e : ReplayEntry) : Bool := decide (seqAhead last e.pkt.seq < 32768) && e.pkt.seq != last
  match z.replay.find? (fun e => again e && decide (4 ≤ e.sends)) with
  | some e => s.replayFail n e.pkt.seq
  | none =>
    let es := z.replay.map (fun e =>
      if again e then { e with sends := e.sends + 1, pkt := { e.pkt with retx := true } } else e)
    let s := s.setPort n { z with replay := es }
    (es.filter again).foldl (fun s e => (s.bump (ZL_CNT_REPLAY n)).emitPacket n 0 e.pkt) s

/-- REPLAY_TIMEOUT (R95): no ACK has advanced for REPLAY_TIMEOUT µs. -/
def execReplayTimeout (n : Fin 15) (s : State) : Host.Outcome State Fault Refusal :=
  let n := n.val
  let z := s.port n
  match z.replay with
  | e :: _ =>
    if s.on (ZL_CTRL_REPLAY_EN n)
        && decide (z.ackAt + s.rd (ZL_TIMEOUTS_REPLAY_TIMEOUT n) * ticksPerUs ≤ s.now) then
      .next ((s.setPort n { z with ackAt := s.now }).resendFrom n ((e.pkt.seq + 65535) % 65536))
    else .next s
  | [] => .next s

/-! ### Link requests (R69, R90, R91, R95) -/

/-- Request kinds (R69). -/
def reqAck : Nat := 1
def reqNak : Nat := 2
def reqSpare : Nat := 3
def reqRelease : Nat := 4
def reqGap : Nat := 5

/-- A link request of a kind with its LANE, SEQ and REQ_ID: acted on once (R69). [DEDUCED, log 38] -/
def State.linkReq (s : State) (n g kind lane seq id : Nat) : State :=
  if kind = 0 then s
  else if 6 ≤ kind then s.bump (ZL_CNT_BAD_REQ n)
  else
    let z := s.port n
    if spGet (fun _ => none) z.lastReq kind = some id then s
    else
      let s := s.setPort n { z with lastReq := spSet (fun _ => none) z.lastReq kind (some id) }
      if kind = reqAck then s.ackUpTo n seq
      else if kind = reqNak then s.resendFrom n seq
      else if kind = reqSpare then s.startSwap n g lane true false false
      else if kind = reqRelease then s.startSwap n g lane true true false
      else s.request n 0xF1 lane 350

def execLinkReqAck (n : Fin 15) (seq : BitVec 16) (id : BitVec 8) (s : State) :
    Host.Outcome State Fault Refusal := .next (s.linkReq n.val 0 reqAck 0 seq.toNat id.toNat)

def execLinkReqNak (n : Fin 15) (seq : BitVec 16) (id : BitVec 8) (s : State) :
    Host.Outcome State Fault Refusal := .next (s.linkReq n.val 0 reqNak 0 seq.toNat id.toNat)

def execLinkReqSpare (n : Fin 15) (g : Fin 2) (lane : Fin 4) (id : BitVec 8) (s : State) :
    Host.Outcome State Fault Refusal := .next (s.linkReq n.val g.val reqSpare lane.val 0 id.toNat)

def execLinkReqRelease (n : Fin 15) (g : Fin 2) (lane : Fin 4) (id : BitVec 8) (s : State) :
    Host.Outcome State Fault Refusal := .next (s.linkReq n.val g.val reqRelease lane.val 0 id.toNat)

/-- [DEDUCED, log 38] -/
def execLinkReqGap (n : Fin 15) (g : Fin 2) (lane : Fin 4) (id : BitVec 8) (s : State) :
    Host.Outcome State Fault Refusal := .next (s.linkReq n.val g.val reqGap lane.val 0 id.toNat)

/-- A reserved REQ value is ignored and counted (R69). -/
def execLinkReqReserved (n : Fin 15) (req : Fin 10) (s : State) : Host.Outcome State Fault Refusal :=
  .next (s.linkReq n.val 0 (6 + req.val) 0 0 0)

/-- FILL_ROW_RX (R69, R72): a row of FILL blocks in a slot, in logical lane order; a fill opportunity
with anything but FILL is discarded. -/
def execFillRowRx (n : Fin 15) (g : Fin 2) (slot : Fin 16384) (blocks : List (BitVec 64)) (s : State) :
    Host.Outcome State Fault Refusal :=
  let n := n.val
  if !s.on (ZL_CTRL_EN n) then .next s
  else if blocks.all (fun b => b.toNat % 256 == 0xF0) then
    .next (blocks.foldl (fun s b =>
      let w := b.toNat
      s.linkReq n g.val (bitsAt w 8 4) (bitsAt w 12 4) (bitsAt w 16 16) (bitsAt w 32 8)) s)
  else if slot.val % 1024 = 1023 then
    .next ((s.set1 (ZL_STATUS_FILL_MISSING n)).fault (srcZl n) 0x1006
      (slot1 n ++ slot1 g.val ++ slot1 slot.val))
  else .next s

/-! ### Gaps and electrical idle (R88 to R90, R94) -/

/-- GAP_ROW_RX (R90): a calibration gap of `slots` slots begins for a logical lane. -/
def execGapRowRx (n : Fin 15) (g : Fin 2) (lane : Fin 4) (slots : BitVec 16) (s : State) :
    Host.Outcome State Fault Refusal :=
  let n := n.val
  let l := s.rxLane n g.val lane.val
  let s := s.setLane n l { s.lane n l with gapUntil := some (s.now + slots.toNat * 64 / 140) }
  let z := s.port n
  match z.gapAsked with
  | some (a, _) => if a = lane.val then .next (s.setPort n { z with gapAsked := none }) else .next s
  | none => .next s

/-- GAP_TIMEOUT (R90). -/
def execGapTimeout (n : Fin 15) (s : State) : Host.Outcome State Fault Refusal :=
  let n := n.val
  let z := s.port n
  match z.gapAsked with
  | some (a, t) =>
    if t + s.rd (ZL_TIMEOUTS_GAP_WAIT n) * ticksPerUs ≤ s.now then
      .next ((s.setPort n { z with gapAsked := none }).fault (srcZl n) 0x1030 (slot1 n ++ slot1 a))
    else .next s
  | none => .next s

/-- IDLE_ENTER_RX (R88): the far transmitter enters electrical idle; the receiver holds its state. -/
def execIdleEnterRx (n : Fin 15) (s : State) : Host.Outcome State Fault Refusal :=
  .next (s.set1 (ZL_STATUS_RX_IDLE n.val))

/-- IDLE_EXIT (R89): a training burst and a marker row end electrical idle. -/
def execIdleExit (n : Fin 15) (s : State) : Host.Outcome State Fault Refusal :=
  .next (s.wr (ZL_STATUS_RX_IDLE n.val) 0)

/-- IDLE_EXIT_SLOW (R89): block lock has not returned within 1 µs; the lane goes on training. -/
def execIdleExitSlow (n : Fin 15) (l : Fin 5) (s : State) : Host.Outcome State Fault Refusal :=
  .next (s.fault (srcZl n.val) 0x1031 (slot1 n.val ++ slot1 l.val))

/-- A write of IDLE_REQ (R88). -/
def State.idleReq (s : State) (n : Nat) (v : Bool) : State :=
  let s := if v && !s.on (ZL_CTRL_IDLE_REQ n) && s.on (ZL_CTRL_EN n) then s.request n 0xF2 0 0 else s
  let s := s.wr (ZL_CTRL_IDLE_REQ n) (b2n v)
  s.wr (ZL_STATUS_TX_IDLE n) (b2n (v || !s.on (ZL_CTRL_EN n)))

def execIdleReqWrite (n : Fin 15) (v : Bool) (s : State) : Host.Outcome State Fault Refusal :=
  .next (s.idleReq n.val v)

/-- Every lane of a port loses lock and must train again. -/
def State.unlockPort (s : State) (n : Nat) : State :=
  let s := (List.range 5).foldl (fun s l =>
    let s := (s.wr (ZL_LANE_STATUS_LOCK n l) 0).wr (ZL_LANE_STATUS_ALIGNED n l) 0
    s.setLane n l { s.lane n l with bad := 0, found := false }) s
  s.wr (ZL_STATUS_SPARE_READY n) 0

/-- LREF_SWITCH (R94): the selected reference has failed. -/
def execLrefSwitch (n : Fin 15) (s : State) : Host.Outcome State Fault Refusal :=
  let n := n.val
  if s.on (ZL_CTRL_EN n) && s.on (ZL_CTRL_AUTO_LREF n) then
    let a := s.rd (ZL_STATUS_LREF_ACTIVE n)
    let s := s.wr (ZL_STATUS_LREF_ACTIVE n) (1 - a)
    let s := (s.fault (srcZl n) 0x1040 (slot1 n ++ slot1 a ++ slot1 (1 - a))).unlockPort n
    .next ([0, 1].foldl (fun s g => s.groupDown n g 4) s)
  else .next s

/-! ### Enabling, resets, loopback (R96, R97) -/

/-- EN becomes 1 (R96): the port leaves idle and its lanes adapt. -/
def State.portEnable (s : State) (n : Nat) : State :=
  if s.on (ZL_CTRL_EN n) then s
  else
    let s := (s.set1 (ZL_CTRL_EN n)).unlockPort n
    let s := s.wr (ZL_STATUS_LREF_ACTIVE n) (s.rd (ZL_CTRL_LREF n))
    let s := s.wr (ZL_STATUS_TX_IDLE n) (s.rd (ZL_CTRL_IDLE_REQ n))
    ((s.wr (ZL_STATUS_RX_IDLE n) 0).resetMaps n).recheck

def execPortEnable (n : Fin 15) (s : State) : Host.Outcome State Fault Refusal :=
  .next (s.portEnable n.val)

/-- EN becomes 0 (R93, R96). -/
def State.portDisable (s : State) (n : Nat) : State :=
  let s := [0, 1].foldl (fun s g => s.groupDown n g 3) s
  let s := (s.wr (ZL_CTRL_EN n) 0).unlockPort n
  ((s.set1 (ZL_STATUS_TX_IDLE n)).set1 (ZL_STATUS_RX_IDLE n)).recheck

/-- LINK_RESET (R96, R444). -/
def execLinkReset (n : Fin 15) (s : State) : Host.Outcome State Fault Refusal :=
  .next ((s.portReset n.val 1).markReset (0x10 + n.val))

/-- RETRAIN (R96): adaptation restarts from the reset codes. -/
def State.retrain (s : State) (n : Nat) : State :=
  let s := s.unlockPort n
  let s := [0, 1].foldl (fun s g => s.groupDown n g 4) s
  (List.range 5).foldl (fun s l =>
    [ZL_LANE_CTLE n l, ZL_LANE_DFE_T1_4 n l, ZL_LANE_DFE_T5_8 n l, ZL_LANE_DFE_T9_12 n l].foldl
      (fun s f => s.setReg f.off (resetWord f.off)) s) s

def execRetrain (n : Fin 15) (s : State) : Host.Outcome State Fault Refusal := .next (s.retrain n.val)

/-- A write of LOOPBACK (R97): non-zero only in M10 DIAGNOSE. -/
def State.loopback (s : State) (n v : Nat) : State :=
  if v = 3 || (v != 0 && s.mode != 10) then s.zlReject n (ZL_CTRL n).off (v * 2 ^ 9)
  else s.wr (ZL_CTRL_LOOPBACK n) v

def execLoopbackWrite (n : Fin 15) (v : BitVec 2) (s : State) : Host.Outcome State Fault Refusal :=
  .next (s.loopback n.val v.toNat)

/-- The mode leaves M10 DIAGNOSE (R97): loopback ends on every port, with a LINK reset. -/
def State.loopbackOff (s : State) : State :=
  (List.range 15).foldl (fun s n =>
    if s.on (ZL_CTRL_LOOPBACK n) then (s.wr (ZL_CTRL_LOOPBACK n) 0).portReset n 1 else s) s

/-- A change of mode with everything that every unit does for it (R435). -/
def State.changeMode (s : State) (m : Nat) (line : Int) (e : Nat) : State :=
  let old := s.mode
  let s := s.setMode m line e
  (if old = 10 && m != 10 then s.loopbackOff else s).recheck

/-- A change by MODE, HALT_REQ or the LM9612 itself, which keeps the epoch (R435). -/
def State.changeModeNow (s : State) (m : Nat) : State :=
  s.changeMode m s.nextLine (s.rd TOP_EPOCH)

/-! ### Packets received (R73 to R77, R95, R98, R101) -/

/-- Is a TYPE legal for a packet that arrives at a port (R75)? -/
def typeLegal (n ty : Nat) : Bool :=
  if isLp n then decide (0x10 ≤ ty) && decide (ty ≤ 0x16) else ty == pkLine || ty == pkStat

/-- Pixel width of DEPTH (R79). -/
def depthBits (d : Nat) : Nat := if d = 0 then 8 else if d = 1 then 10 else 12

/-- Is LEN inside the range of TYPE, and consistent with a LINE's PIXELS and DEPTH (R75, R79)? -/
def lenLegal (ty : Nat) (payload : List Nat) : Bool :=
  let len := payload.length
  if ty = pkLine then
    let b := nth 0 payload 1
    let px := bitsAt b 16 16
    let d := bitsAt b 32 2
    decide (3 ≤ len) && decide (len ≤ 9218) && decide (1 ≤ px) && decide (px ≤ 16384) && d != 3
      && len == 2 + (3 * px * depthBits d + 63) / 64
  else if ty = pkStat then decide (1 ≤ len) && decide (len ≤ 64)
  else if ty = pkPos then len == 4
  else if ty = pkTime then len == 3
  else if ty = pkTally then len == 9
  else if ty = pkStrip then decide (2 ≤ len) && decide (len ≤ 4098)
  else if ty = pkMode then len == 3
  else if ty = pkCmd then decide (3 ≤ len) && decide (len ≤ 66)
  else len == 513

/-- A reserved MODE PHASE gives TYPE_ERR (R95). -/
def phaseLegal (ty : Nat) (payload : List Nat) : Bool :=
  if ty = pkMode then
    let ph := bitsAt (nth 0 payload 1) 0 4
    decide (1 ≤ ph) && decide (ph ≤ 5)
  else true

/-- A packet of a camera line is damaged (R101 reason 1): the line it names when that one is awaited,
else the line in reception or the oldest one owed. [DEDUCED, log 36] -/
def State.linkError (s : State) (n g : Nat) (named : Option Int) : State :=
  match s.ctxOf n g with
  | none => s
  | some (p, x) =>
    if s.unserved p then s
    else
      let c := s.px p x
      let open_ := c.asm.toList.map (·.line) ++
        (c.owed.filter (·.launched.isSome)).map (·.line)
      let hit := match named with
        | some l => if open_.contains l then some l else open_.head?
        | none => open_.head?
      match hit with
      | some l => s.lostLine p x l lostLink
      | none => s

/-- The receiver of a peer port asks for a replay from the last good SEQ (R95). -/
def State.sendNak (s : State) (n : Nat) : State :=
  let z := s.port n
  if z.nak then s
  else (s.setPort n { z with nak := true }).request n reqNak 0 ((z.expect + 65535) % 65536)

/-- SEQ of a camera packet is counted (R77). -/
def State.countSeq (s : State) (n g seq : Nat) : State :=
  let x := s.grp n g
  let s := s.setGrp n g { x with rxSeq := some seq }
  match x.rxSeq with
  | some q =>
    let e := (q + 1) % 65536
    if e = seq then s
    else ((s.set1 (ZL_STATUS_SEQ_GAP n)).bump (ZL_CNT_SEQ_GAP n)).fault (srcZl n) 0x1012
      (slot1 n ++ slot1 g ++ slot1 e ++ slot1 seq)
  | none => s

/-- An intact packet is delivered to the unit that takes its type. -/
def State.deliver (s : State) (n g : Nat) (p : Packet) : State :=
  let s := s.bump (ZL_CNT_PKT_RX n)
  let x := s.grp n g
  s.setGrp n g { x with rx := x.rx ++ [p] }

/-- An intact REPLAY packet on a peer port: in order it is delivered and acknowledged; a gap asks for
a replay; one seen before is acknowledged again (R95). -/
def State.deliverReplay (s : State) (n : Nat) (p : Packet) : State :=
  let z := s.port n
  if p.seq = z.expect then
    let s := s.setPort n { z with expect := (p.seq + 1) % 65536, nak := false }
    (s.request n reqAck 0 p.seq).deliver n 0 p
  else if seqAhead z.expect p.seq < 32768 then s.sendNak n
  else s.request n reqAck 0 ((z.expect + 65535) % 65536)

/-- PACKET_HEADER_RX (R73 to R77, R95): a packet as its blocks, descrambled, is checked and delivered
or discarded. [DESIGN CHOICE, log 161] -/
def execPacketHeaderRx (n : Fin 15) (g : Fin 2) (header : BitVec 64) (payload : List (BitVec 64))
    (trailer : BitVec 64) (s : State) : Host.Outcome State Fault Refusal :=
  let n := n.val
  let g := g.val
  let h := header.toNat
  let ps := payload.map (·.toNat)
  let ty := bitsAt h 0 8
  let seq := bitsAt h 32 16
  if !s.groupUp n g || (s.grp n g).resync then .next s
  else if blockCheck h != bitsAt h 56 8 || decide (0xF0 ≤ ty) then
    let s := ((s.set1 (ZL_STATUS_HCHK_ERR n)).bump (ZL_CNT_HCHK n)).fault (srcZl n) 0x1010
      (slot1 n ++ slot1 g)
    let s := s.setGrp n g { s.grp n g with resync := true }
    .next (if isLp n then s.sendNak n else s.linkError n g none)
  else
    let s := if isLp n then s else s.countSeq n g seq
    let named := signed 48 (bitsAt (nth 0 ps 0) 0 48)
    if !typeLegal n ty || !phaseLegal ty ps then
      .next ((s.set1 (ZL_STATUS_TYPE_ERR n)).fault (srcZl n) 0x1013 (slot1 n ++ slot1 g ++ slot1 ty))
    else if bitsAt h 16 16 != ps.length % 65536 || !lenLegal ty ps then
      let s := (s.set1 (ZL_STATUS_LEN_ERR n)).fault (srcZl n) 0x1014
        (slot1 n ++ slot1 g ++ slot1 ty ++ slot1 (bitsAt h 16 16))
      let s := s.setGrp n g { s.grp n g with resync := true }
      .next (if ty = pkLine then s.linkError n g (some named) else s)
    else if packetCrc h ps != bitsAt trailer.toNat 0 32 then
      let s := ((s.set1 (ZL_STATUS_CRC_ERR n)).bump (ZL_CNT_CRC n)).fault (srcZl n) 0x1011
        (slot1 n ++ slot1 g ++ slot1 ty ++ slot1 seq)
      let x := s.grp n g
      let s := s.setGrp n g { x with crcPeriod := x.crcPeriod + 1 }
      let th := s.rd (ZL_ERR_THRESH n)
      let s := if th != 0 && x.crcPeriod + 1 == th then s.occur (122 + 3 * n) else s
      .next (if isLp n then s.sendNak n
        else if ty = pkLine then s.linkError n g (some named) else s)
    else
      let p : Packet := { ty := ty, replay := bitAt h 8, retx := bitAt h 9, seq := seq, payload := ps }
      .next (if isLp n && p.replay then s.deliverReplay n p else s.deliver n g p)

/-- The oldest delivered packet of a group, taken off, when it satisfies a test. -/
def State.takeRx (s : State) (n g : Nat) (ok : Packet → Bool) : Option (Packet × State) :=
  let x := s.grp n g
  match x.rx with
  | p :: rest => if ok p then some (p, s.setGrp n g { x with rx := rest }) else none
  | [] => none

/-! ### CTRL timeouts and TRIG (R80, R83, R126) -/

/-- CTRL_TIMEOUT (R80): the oldest CTRL has had no STAT within CTRL_TIMEOUT. -/
def execCtrlTimeout (n : Fin 12) (g : Fin 2) (s : State) : Host.Outcome State Fault Refusal :=
  let n := n.val
  let g := g.val
  let x := s.grp n g
  let lim := s.rd (ZL_TIMEOUTS_CTRL_TIMEOUT n)
  match x.ctrl with
  | c :: rest =>
    if lim != 0 && decide (c.since + lim * 100 * ticksPerUs ≤ s.now) then
      let s := s.setGrp n g { x with ctrl := rest }
      let s := s.fault (srcZl n) 0x1015 (slot1 n ++ slot1 g ++ slot1 c.op ++ slot1 c.tag)
      match s.ctxOf n g with
      | some (p, cx) =>
        let k := s.px p cx
        if k.mbox = some (c.op, c.tag) then
          let s := s.setPx p cx { k with mbox := none }
          .next ((s.wr (PIPE_CTX_MBOX_CTRL_BUSY p cx) 0).set1 (PIPE_CTX_MBOX_CTRL_TIMEOUT p cx))
        else .next s
      | none => .next s
    else .next s
  | [] => .next s

/-- TRIG_LAUNCH (R83): the oldest waiting TRIG of a group leaves, its header's first bit `phase` UI
into the present tick; DELAY puts the exposure at t_ref + TARGET. -/
def execTrigLaunch (n : Fin 12) (g : Fin 2) (phase : Fin 140) (s : State) :
    Host.Outcome State Fault Refusal :=
  let n := n.val
  let g := g.val
  match s.ctxOf n g with
  | none => .next s
  | some (p, x) =>
    let c := s.px p x
    match c.owed.find? (·.launched.isNone) with
    | none => .next s
    | some o =>
      if !s.groupUp n g then .next s
      else
        let late : Int := ((s.now : Int) - o.tref) * 140 + phase.val
        let d : Int := s.rd (ZL_GRP_TARGET n g) - late - (s.grp n g).ow.getD 0
          - s.rd (ZL_GRP_CAM_LATENCY n g)
        let s := if d < 0 then
            (s.set1 (ZL_STATUS_TRIG_LATE n)).fault (srcZl n) 0xC011
              (slot1 n ++ slot1 g ++ slotLine o.line ++ slotI (-d))
          else s
        let delay := if d < 0 then 0 else d.toNat
        let r := s.sendCam n g pkTrig
          [toBits 48 o.line + o.expSet * 2 ^ 48, delay % 2 ^ 20]
        let c := r.2.px p x
        .next (r.2.setPx p x { c with owed := c.owed.map (fun q =>
          if q.line = o.line then { q with seq := some r.1, launched := some s.now } else q) })

end Sys2Proof.Machine
end

