-- ==== Sys2Proof/Machine/StitchCore.lean ====
section
/-! DEFINITION. The stitcher's geometry, resampling, seam buffer and blending (R132 to R150): what a
camera line and a stitched line become. -/

namespace Sys2Proof.Machine

open Sys2Proof

/-! ### Geometry (R135, R136) -/

/-- The source position s(u) at d = u − SPAN_FIRST, with 16 fraction bits (R135). -/
def sourcePos (t : SettingsSet) (k : Nat) (d : Int) : Int :=
  rneShift (t.rdS (STITCH_CAM_C0 k) * (2 : Int) ^ 48 + t.rdS (STITCH_CAM_C1 k) * d * (2 : Int) ^ 34
    + t.rdS (STITCH_CAM_C2 k) * d * d * (2 : Int) ^ 16 + t.rdS (STITCH_CAM_C3 k) * d * d * d) 48

/-- The machine-direction offset o(u) at d, with 16 fraction bits (R135). -/
def lineOffset (t : SettingsSet) (k : Nat) (d : Int) : Int :=
  rneShift (t.rdS (STITCH_CAM_OFFSET k) * 65536 + t.rdS (STITCH_CAM_SKEW k) * d) 16

/-- Integer part, and the weights of taps −1, 0, +1, +2, of a position with 16 fraction bits (R136). -/
def tapWeights (q : Int) : Int × List Int :=
  let i := floorShift q 16
  let r := rneShift (q - i * 65536) 8
  let i := if r = 256 then i + 1 else i
  let r := if r = 256 then 0 else r
  let m1 := rneShift (-(r * r * r) + 512 * r * r - 65536 * r) 11
  let p1 := rneShift (-(3 * r * r * r) + 1024 * r * r + 65536 * r) 11
  let p2 := rneShift (r * r * r - 256 * r * r) 11
  (i, [m1, 16384 - (m1 + p1 + p2), p1, p2])

/-- A weighted sum of four taps in 2.14, rounded and saturated to u16 (R137, R138). -/
def tapSum (ws vs : List Int) : Nat :=
  satU 16 (rneShift ((ws.zip vs).foldl (fun a e => a + e.1 * e.2) 0) 14)

/-- A channel of a colour. -/
def chan (c : Nat) (v : Nat × Nat × Nat) : Nat := if c = 0 then v.1 else if c = 1 then v.2.1 else v.2.2

/-- A colour from its channels. -/
def rgbOf (f : Nat → Nat) : Nat × Nat × Nat := (f 0, f 1, f 2)

/-! ### Cameras and layout (R132, R134) -/

/-- Enabled cameras in ascending number. -/
def State.cams (s : State) : List Nat := (List.range 24).filter (fun k => s.on (STITCH_CAM_CTRL k))

def State.spanFirst (s : State) (k : Nat) : Nat := s.rd (STITCH_CAM_SPAN_FIRST k)
def State.spanLast (s : State) (k : Nat) : Nat := s.rd (STITCH_CAM_SPAN_LAST k)
def State.width (s : State) : Nat := s.rd STITCH_LAYOUT_WIDTH

/-- Insert a camera in order of SPAN_FIRST. -/
def State.insertCam (s : State) (k : Nat) : List Nat → List Nat
  | [] => [k]
  | j :: js => if s.spanFirst k < s.spanFirst j then k :: j :: js else j :: s.insertCam k js

/-- Enabled cameras in ascending SPAN_FIRST: the row across the web (R134). -/
def State.camRow (s : State) : List Nat := s.cams.foldl (fun r k => s.insertCam k r) []

/-- The enabled cameras whose span holds a column, in row order. -/
def State.camsAt (s : State) (u : Nat) : List Nat :=
  s.camRow.filter (fun k => decide (s.spanFirst k ≤ u) && decide (u ≤ s.spanLast k))

/-- The context that feeds a camera (R132). -/
def State.camCtx (s : State) (k : Nat) : Option (Nat × Nat) := s.ctxOf (k / 2) (k % 2)

/-! ### Resampling across the web (R137) -/

/-- The h value of a column from a camera line, or none outside the camera. -/
def resampleCol (t : SettingsSet) (k first u : Nat) (px : List (Nat × Nat × Nat)) :
    Option (Nat × Nat × Nat) :=
  let n : Int := px.length
  let q := sourcePos t k ((u : Int) - first)
  if q < 0 || (n - 1) * 65536 < q then none
  else
    let w := tapWeights q
    let at_ (j : Int) : Nat × Nat × Nat := nth (0, 0, 0) px (clampI 0 (n - 1) j).toNat
    some (rgbOf (fun c => tapSum w.2
      ([-1, 0, 1, 2].map (fun d => (chan c (at_ (w.1 + d)) : Int)))))

/-- A camera line across the columns of its camera's span. -/
def State.resample (s : State) (t : SettingsSet) (k : Nat) (l : Int) (px : List (Nat × Nat × Nat)) :
    SeamLine :=
  let f := s.spanFirst k
  { line := l, cols := tabulate (s.spanLast k + 1 - f) (fun i => resampleCol t k f (f + i) px), bad := [] }

/-! ### The seam buffer (R140 to R145) -/

def State.seamOf (s : State) (k : Nat) : List SeamLine := spGet (fun _ => []) s.stitch.seam k
def State.stagedOf (s : State) (k : Nat) : List SeamLine := spGet (fun _ => []) s.stitch.staging k

/-- The next stitched line to start, once it is known (R147). -/
def State.nextForm (s : State) : Option Int :=
  match s.stitch.started with
  | some n => some (n + 1)
  | none =>
    match s.stitch.firstAll with
    | some f => some (match s.stitch.unformed with
      | some u => max (f + 23) (u + 1)
      | none => f + 23)
    | none => none

/-- May a camera line enter its slot: the stitched line 25 below it has been formed (R142)? -/
def State.slotFree (s : State) (l : Int) : Bool :=
  match s.nextForm with
  | some n => decide (l ≤ n + 24)
  | none => true

/-- A line in a camera's seam buffer takes slot L mod 48. -/
def putSeam (q : List SeamLine) (x : SeamLine) : List SeamLine :=
  x :: q.filter (fun y => y.line % 48 != x.line % 48)

/-- The lowest line stored for every enabled camera (R147). -/
def State.findFirst (s : State) : Option Int :=
  match s.cams with
  | [] => none
  | k :: ks =>
    minBy (fun l => l) (((s.seamOf k).map (·.line)).filter (fun l =>
      ks.all (fun j => (s.seamOf j).any (fun y => y.line == l))))

/-- A resampled line is stored in the seam buffer. -/
def State.storeSeam (s : State) (k : Nat) (x : SeamLine) : State :=
  let s := { s with stitch := { s.stitch with
    seam := spSet (fun _ => []) s.stitch.seam k (putSeam (s.seamOf k) x) } }
  if s.stitch.firstAll.isNone then { s with stitch := { s.stitch with firstAll := s.findFirst } } else s

/-- Staged lines enter their slots once these are free (R142). -/
def State.unstage (s : State) (k : Nat) : State :=
  let q := s.stagedOf k
  let go := q.filter (fun x => s.slotFree x.line)
  let stay := q.filter (fun x => !s.slotFree x.line)
  let s := { s with stitch := { s.stitch with staging := spSet (fun _ => []) s.stitch.staging k stay } }
  let s := s.wr (STITCH_CAM_STATUS_STAGED k) stay.length
  go.foldl (fun s x => s.storeSeam k x) s

/-- A corrected line of camera k reaches the stitcher (R137, R140, R142, R145). -/
def State.seamArrive (s : State) (k : Nat) (l : Int) (px : List (Nat × Nat × Nat)) : State :=
  if !s.on STITCH_CTRL_EN || !s.on (STITCH_CAM_CTRL k) then s
  else
    match s.stitch.commit.setFor l with
    | none => s
    | some t =>
      let x := s.resample t k l px
      let s := if x.cols.any (·.isNone) then s.set1 (STITCH_CAM_STATUS_SOURCE_RANGE k) else s
      if s.slotFree l then s.storeSeam k x
      else
        let q := s.stagedOf k
        if 2 ≤ q.length then
          let lost := l :: (spGet (fun _ => []) s.stitch.overrun k).take 63
          let s := { s with stitch := { s.stitch with
            overrun := spSet (fun _ => []) s.stitch.overrun k lost } }
          (s.set1 (STITCH_CAM_STATUS_SEAM_OVERRUN k)).fault srcStitch 0x3003 (slot1 k ++ slotLine l)
        else
          let s := { s with stitch := { s.stitch with
            staging := spSet (fun _ => []) s.stitch.staging k (q ++ [x]) } }
          s.wr (STITCH_CAM_STATUS_STAGED k) (q.length + 1)

/-! ### Forming a stitched line (R138, R139, R143, R144, R148, R149) -/

/-- Causes of invalid pixels (R150, R238). -/
def cvGeomSource : Nat := 0x20
def cvSeamOffset : Nat := 0x21
def cvSeamLate : Nat := 0x22
def cvSeamOverrun : Nat := 0x23
def cvSeamSram : Nat := 0x24
def cvNotFormed : Nat := 0x25

/-- A camera's sample at a column and line: its h value, or the cause that it is absent (none: the
intake accounts for the line). -/
def State.seamAt (s : State) (k u : Nat) (missing : Bool) (l : Int) :
    Option (Nat × Nat × Nat) × Option Nat :=
  match (s.seamOf k).find? (fun x => x.line == l) with
  | some x =>
    let i := u - s.spanFirst k
    if x.bad.contains i then (none, some cvSeamSram)
    else
      match nth none x.cols i with
      | some h => (some h, none)
      | none => (none, some cvGeomSource)
  | none =>
    if (spGet (fun _ => []) s.stitch.overrun k).contains l then (none, some cvSeamOverrun)
    else if missing then (none, some cvSeamLate) else (none, none)

/-- A camera's value v at a column of stitched line n, before normalisation, or the cause that it is
invalid (R138, R143). `late` are the window's lines still missing from the camera. -/
def State.camValue (s : State) (t : SettingsSet) (k u : Nat) (n : Int) (late : List Int) :
    Except (Option Nat) (Nat × Nat × Nat) :=
  let o := lineOffset t k ((u : Int) - s.spanFirst k)
  if o ≤ -23 * 65536 || 22 * 65536 < o then .error (some cvSeamOffset)
  else
    let w := tapWeights (n * 65536 - o)
    let taps := [-1, 0, 1, 2].map (fun d => w.1 + d)
    let got := (w.2.zip taps).map (fun (e : Int × Int) =>
      if e.1 = 0 then (some (0, 0, 0), none) else s.seamAt k u (late.contains e.2) e.2)
    match got.find? (fun g => g.1.isNone) with
    | some g => .error g.2
    | none => .ok (rgbOf (fun c => tapSum w.2 (got.map (fun g => (chan c (g.1.getD (0, 0, 0)) : Int)))))

/-- Gain and offset of camera k and channel c in a set (R139). -/
def normGain (t : SettingsSet) (k c : Nat) : Nat :=
  t.rd ⟨(STITCH_CAM_NORM_GAIN0 k).off + 4 * (c / 2), 16 * (c % 2), 16⟩
def normOff (t : SettingsSet) (k c : Nat) : Int :=
  t.rdS ⟨(STITCH_CAM_NORM_OFF0 k).off + 4 * (c / 2), 16 * (c % 2), 16⟩

/-- Colour normalisation (R139). -/
def normalise (t : SettingsSet) (k : Nat) (v : Nat × Nat × Nat) : Nat × Nat × Nat :=
  rgbOf (fun c => satU 16 (rneShift ((chan c v : Int) * normGain t k c) 14 + normOff t k c))

/-- The right camera's weight wb in a kerf of width kw at column u − F = d (R148). -/
def kerfWeight (cut : Bool) (d kw : Nat) : Int :=
  if cut then (if d < kw / 2 then 0 else 65536)
  else rneDiv ((2 * (d : Int) + 1) * 65536) (2 * kw)

/-- Blend of the left and right values (R148). -/
def blend (wb : Int) (a b : Nat × Nat × Nat) : Nat × Nat × Nat :=
  rgbOf (fun c => satU 16 (rneShift ((chan c a : Int) * (65536 - wb) + (chan c b : Int) * wb) 16))

/-- A column of a stitched line: its colour, the values of the cameras that see it, and for an invalid
pixel each camera's cause (R148, R150). -/
structure FormedCol where
  pixel : Option (Nat × Nat × Nat)
  vals : List (Nat × Option (Nat × Nat × Nat))
  bad : List (Nat × Nat)

/-- Form one column (R138, R139, R148, R149). -/
def State.formCol (s : State) (t : SettingsSet) (n : Int) (late : Nat → List Int) (u : Nat) :
    FormedCol :=
  let vs := (s.camsAt u).map (fun k => (k, s.camValue t k u n (late k)))
  let ok := vs.map (fun e => (e.1, match e.2 with
    | .ok v => some v
    | .error _ => none))
  let causes := vs.filterMap (fun e => match e.2 with
    | .error (some c) => some (e.1, c)
    | _ => none)
  let norm := ok.map (fun e => e.2.map (normalise t e.1))
  let pixel := match norm, ok with
    | [a], _ => a
    | [some a, some b], [(kl, _), (kr, _)] =>
      let f := s.spanFirst kr
      some (blend (kerfWeight (t.rd STITCH_CFG_BLEND == 1) (u - f) (s.spanLast kl + 1 - f)) a b)
    | [a, b], _ => if a.isSome then a else b
    | _, _ => none
  { pixel := pixel, vals := ok, bad := if pixel.isSome then [] else causes }

/-! ### Coverage of stitched lines (R147, R150, R152) -/

/-- The stitcher widens a record to whole coarse blocks while the master path runs (R152). -/
def State.widenRange (s : State) (a b : Int) : Int × Int :=
  if s.on MASTER_CTRL_EN then (a / 4 * 4, b / 4 * 4 + 3) else (a, b)
def State.widenCols (s : State) (l h : Nat) : Nat × Nat :=
  if s.on MASTER_CTRL_EN then (l / 4 * 4, h / 4 * 4 + 3) else (l, h)

/-- A coverage record of the stitcher (R147, R150, R155). -/
def State.coverStitch (s : State) (a b : Int) (low high cause detail : Nat) : State :=
  let xb := s.rd STITCH_XBASE
  let c := s.widenCols low high
  (s.inspected a b).foldl (fun s (p : Int × Int) =>
    let r := s.widenRange p.1 p.2
    (s.enqueueCov (s.covRec r.1 r.2 (xb + c.1) (xb + c.2) cause 2 detail 0 noPage)).occur 219) s

/-- An open run of invalid pixels ends (R150). -/
def State.endRun (s : State) (r : SeamRun) : State :=
  s.coverStitch r.first r.last r.low r.high r.cause r.cam

/-- Every open run ends. -/
def State.endRuns (s : State) : State :=
  let rs := s.stitch.runs
  rs.foldl (fun s r => s.endRun r) { s with stitch := { s.stitch with runs := [] } }

/-- The invalid columns of a stitched line, one entry for each camera and cause with its lowest and
highest column. -/
def gatherBad (cols : List (Nat × List (Nat × Nat))) : List SeamRun :=
  cols.foldl (fun rs (e : Nat × List (Nat × Nat)) =>
    e.2.foldl (fun rs (b : Nat × Nat) =>
      if rs.any (fun (r : SeamRun) => r.cam == b.1 && r.cause == b.2) then
        rs.map (fun r => if r.cam == b.1 && r.cause == b.2 then { r with high := e.1 } else r)
      else rs ++ [⟨b.1, b.2, 0, 0, e.1, e.1⟩]) rs) []

/-- Runs of R150 after stitched line n whose invalid columns are `bad`. -/
def State.updRuns (s : State) (n : Int) (bad : List SeamRun) : State :=
  let rs := s.stitch.runs
  let same (a b : SeamRun) : Bool := a.cam == b.cam && a.cause == b.cause
  let goes (r : SeamRun) : Bool := bad.any (same r) && decide (n - r.first < 65536)
  let ended := rs.filter (fun r => !goes r)
  let kept := (rs.filter goes).map (fun r =>
    match bad.find? (same r) with
    | some b => { r with last := n, low := min r.low b.low, high := max r.high b.high }
    | none => r)
  let fresh := (bad.filter (fun b => !(rs.any (fun r => same r b && goes r)))).map
    (fun b => { b with first := n, last := n })
  let s := { s with stitch := { s.stitch with runs := kept ++ fresh } }
  let s := ended.foldl (fun s r => s.endRun r) s
  fresh.foldl (fun s r =>
    if r.cause = cvGeomSource then
      s.fault srcStitch 0x3005 (slot1 r.cam ++ slotLine n ++ slot1 r.low)
    else s) s

/-! ### Lines not formed (R147) -/

/-- The lines `a .. b` split at every change of mode. -/
def modePieces : List ModeSpan → Int → Int → List (Int × Int)
  | [], a, b => if a ≤ b then [(a, b)] else []
  | h :: hs, a, b =>
    if b < a then []
    else if h.line ≤ a then [(a, b)]
    else if h.line ≤ b then modePieces hs a (h.line - 1) ++ [(h.line, b)]
    else modePieces hs a b

/-- The open NOT_FORMED run is published. -/
def State.flushNot (s : State) : State :=
  match s.stitch.notRun with
  | none => s
  | some (a, b) =>
    let s := { s with stitch := { s.stitch with notRun := none } }
    s.coverStitch a b 0 (s.width - 1) cvNotFormed 0

/-- Lines `a .. b` of one mode join the NOT_FORMED run, which ends after 65,536 lines. -/
def State.addNot : Nat → Int → Int → State → State
  | 0, _, _, s => s
  | k + 1, a, b, s =>
    if b < a then s
    else
      match s.stitch.notRun with
      | some (p, q) =>
        if q + 1 = a && s.modeOf q == s.modeOf a && decide (q - p + 1 < 65536) then
          let e := min b (p + 65535)
          State.addNot k (e + 1) b { s with stitch := { s.stitch with notRun := some (p, e) } }
        else State.addNot k a b s.flushNot
      | none =>
        let e := min b (a + 65535)
        State.addNot k (e + 1) b { s with stitch := { s.stitch with notRun := some (a, e) } }

/-- Lines up to `b` count as not formed (R147). -/
def State.notFormedTo (s : State) (b : Int) : State :=
  let a := match s.stitch.unformed with
    | some u => u + 1
    | none => match s.top.hist.getLast? with
      | some h => min b h.line
      | none => b
  if b < a then s
  else
    let s := (modePieces s.top.hist a b).foldl (fun s (p : Int × Int) =>
      State.addNot (2 * ((p.2 - p.1).toNat / 65536 + 3)) p.1 p.2 s) s
    { s with stitch := { s.stitch with unformed := some b } }

/-- The line of the fine plane with a number, while playback puts ring lines there (R363). -/
def State.playedAs (s : State) (l : Int) : Option FineLine :=
  if s.mode = 9 then s.stitch.fine.find? (fun f => f.line == l) else none

/-- The mode epoch of a line: a played line's own (R2, R363). -/
def State.lineEpoch (s : State) (l : Int) : Nat :=
  match s.playedAs l with
  | some f => f.epoch
  | none => s.epochOf l

/-- Does the stitcher form lines (R147)? -/
def State.forming (s : State) : Bool := s.on STITCH_CTRL_EN && s.stitch.started.isSome

end Sys2Proof.Machine
end

