-- ==== Sys2Proof/Machine/Pipe.lean ====
section
/-! DEFINITION. The pixel pipes (R99 to R130): intake of LINE packets, the correction chain, table
images, statistics, the camera mailbox and the spare pipe. -/

namespace Sys2Proof.Machine

open Sys2Proof

/-! ### Commits of a context (R105 to R110) -/

/-- Bytes of a table image (R121). -/
def tableBytes : Nat := 0x38000

/-- The status bits that follow the commit state. -/
def State.updCtx (s : State) (p x : Nat) : State :=
  let c := s.px p x
  let s := s.wr (PIPE_CTX_STATUS_SET_VALID p x) (b2n c.commit.active.isSome)
  let s := s.wr (PIPE_CTX_STATUS_COMMIT_PENDING p x) (b2n (!c.commit.pend.isEmpty))
  let s := s.wr (PIPE_CTX_STATUS_TABLE_PENDING p x) (b2n c.commit.fetch.isSome)
  s.wr (PIPE_CTX_STATUS_FIFO_DEPTH p x) c.fifo.length

/-- A COMMIT of a context: it starts the fetch of the table image (R105, R110). -/
def State.ctxCommit (s : State) (p x : Nat) : State :=
  let c := s.px p x
  let rec' := c.commit.record s.now (some (s.rd (PIPE_CTX_TABLE_BASE p x)))
  ((s.setPx p x { c with commit := rec' }).updCtx p x).offerCommit (.pipe p x)

/-- CANCEL of a context (R110). -/
def State.ctxCancel (s : State) (p x : Nat) : State :=
  let c := s.px p x
  ((s.setPx p x { c with commit := c.commit.cancel }).updCtx p x).offerCommit (.pipe p x)

/-- CTX_COMMIT (R105, R110). -/
def execCtxCommit (p : Fin 13) (x : Fin 2) (s : State) : Host.Outcome State Fault Refusal :=
  .next (s.ctxCommit p.val x.val)

/-- CTX_CANCEL (R110). -/
def execCtxCancel (p : Fin 13) (x : Fin 2) (s : State) : Host.Outcome State Fault Refusal :=
  .next (s.ctxCancel p.val x.val)

/-! ### Table images (R121) -/

/-- A u16 and a u32 of a table image. -/
def img16 (m : Sparse Nat) (o : Nat) : Nat := ofLeBytes (spGetMany (fun _ => 0) m o 2)
def img32 (m : Sparse Nat) (o : Nat) : Nat := ofLeBytes (spGetMany (fun _ => 0) m o 4)

/-- An entry of the defect list: pixel, channel mask and method. -/
structure Defect where
  pixel : Nat
  mask : Nat
  method : Nat
  deriving DecidableEq, Repr

/-- The defect list from entry i: it ends at the first entry with VALID 0. -/
def defectsFrom (m : Sparse Nat) : Nat → Nat → List Defect
  | 0, _ => []
  | k + 1, i =>
    let w := img32 m (0x6000 + 4 * i)
    if bitAt w 31 then ⟨bitsAt w 0 14, bitsAt w 14 3, bitsAt w 17 2⟩ :: defectsFrom m k (i + 1)
    else []

def defects (m : Sparse Nat) : List Defect := defectsFrom m 512 0

/-- The index of the first entry that breaks R121: not above the one before it, beyond PIXELS, or
method 3. -/
def badDefect (pixels : Nat) : Option Nat → Nat → List Defect → Option Nat
  | _, _, [] => none
  | prev, i, d :: ds =>
    let low := match prev with
      | some q => decide (d.pixel ≤ q)
      | none => false
    if low || decide (pixels ≤ d.pixel) || d.method == 3 then some i
    else badDefect pixels (some d.pixel) (i + 1) ds

/-- A table image fetched from DRAM: its contents, or the fault code and detail it gives (R110,
R121). -/
def State.fetchTable (s : State) (base pixels : Nat) : Except (Nat × List Nat) (Sparse Nat) × State :=
  if !s.dramFits base tableBytes then (.error (0x2008, slot2 (max base (s.rd DRAMC_SIZE))), s)
  else
    let m := s.dramSlice base tableBytes
    let t := s.dramTouch base tableBytes clsTable
    match t.1 with
    | some a => (.error (0x2008, slot2 a), t.2)
    | none =>
      match badDefect pixels none 0 (defects m) with
      | some i => (.error (0x2007, slot1 (0x6000 + 4 * i)), t.2)
      | none => (.ok m, t.2)

/-- TABLE_FETCH_DONE (R110): the fetch for the newest COMMIT completes and the image is checked. -/
def execTableFetchDone (p : Fin 13) (x : Fin 2) (s : State) : Host.Outcome State Fault Refusal :=
  let p := p.val
  let x := x.val
  let c := s.px p x
  match c.commit.fetch with
  | none => .next s
  | some (t, base) =>
    let r := s.fetchTable base (s.rd (PIPE_CTX_CFG_PIXELS p x))
    match r.1 with
    | .ok m =>
      .next ((r.2.setPx p x { c with commit := { c.commit with fetch := none, image := some (t, m) } }).updCtx p x)
    | .error (code, det) =>
      let s := ((r.2.setPx p x { c with commit := c.commit.failFetch }).updCtx p x).offerCommit (.pipe p x)
      .next ((s.set1 (PIPE_CTX_STATUS_TABLE_ERR p x)).fault (srcPipe p) code
        (slot1 p ++ slot1 x ++ det)).recheck

/-! ### The correction chain (R115 to R119) -/

/-- Linearisation of a raw sample of depth w (R115). -/
def linearise (t : SettingsSet) (bypass : Bool) (w c v : Nat) : Nat :=
  if bypass then v * 2 ^ (16 - w) else img16 t.image (c * 0x2000 + 2 * (v * 2 ^ (12 - w)))

/-- The dual-exposure merge of a short and a long value (R116). -/
def mergeHdr (k kneeLo span shift sv lv : Nat) : Nat :=
  let sk := sv * k
  let lf := lv * 2 ^ 11
  let d := min (lv - kneeLo) (2 ^ span)
  let w := d * 2 ^ (12 - span)
  let acc := (4096 - w) * lf + w * sk
  min (rneShift acc (23 + shift)).toNat 65535

/-- Is channel c of pixel i listed? -/
def listed (ds : List Defect) (i c : Nat) : Option Defect :=
  ds.find? (fun d => d.pixel == i && bitAt d.mask c)

/-- Replacement of one channel of pixel i (R117): `left` is the replaced output of pixel i − 1,
`right` the merged value of pixel i + 1. -/
def replaceChan (ds : List Defect) (n i c : Nat) (left : Option (Nat × Nat × Nat))
    (m : Nat × Nat × Nat) (right : Option (Nat × Nat × Nat)) : Nat :=
  match listed ds i c with
  | none => chan c m
  | some d =>
    let a := left.map (chan c)
    let b := if i + 1 < n && (listed ds (i + 1) c).isNone then right.map (chan c) else none
    match a, b with
    | some a, some b =>
      if d.method = 0 then (rneDiv ((a : Int) + b) 2).toNat else if d.method = 1 then a else b
    | some a, none => a
    | none, some b => b
    | none, none => chan c m

/-- Defective-pixel replacement along a line (R117). -/
def replaceFrom (ds : List Defect) (n : Nat) :
    Nat → Option (Nat × Nat × Nat) → List (Nat × Nat × Nat) → List (Nat × Nat × Nat)
  | _, _, [] => []
  | i, left, m :: ms =>
    let v := rgbOf (fun c => replaceChan ds n i c left m ms.head?)
    v :: replaceFrom ds n (i + 1) (some v) ms

/-- Dark and flat-field correction of a sample (R118). -/
def flatField (t : SettingsSet) (i c v : Nat) : Nat :=
  let w := img32 t.image (0x8000 + (3 * i + c) * 4)
  satU 16 (rneShift (((v : Int) - signed 16 w) * bitsAt w 16 16) 14)

/-- The colour matrix (R119). -/
def colourMatrix (t : SettingsSet) (p x : Nat) (v : Nat × Nat × Nat) : Nat × Nat × Nat :=
  let base := (PIPE_CTX_MATRIX0 p x).off
  let coef (j : Nat) : Int := t.rdS ⟨base + 4 * (j / 2), 16 * (j % 2), 16⟩
  let off (c : Nat) : Int := t.rdS ⟨(PIPE_CTX_OFFSET0 p x).off + 4 * (c / 2), 16 * (c % 2), 16⟩
  rgbOf (fun c => satU 16
    (rneDiv (coef (3 * c) * v.1 + coef (3 * c + 1) * v.2.1 + coef (3 * c + 2) * v.2.2) 4096 + off c))

/-- Triples of a list of samples in R, G, B order. -/
def triples : List Nat → List (Nat × Nat × Nat)
  | r :: g :: b :: rest => (r, g, b) :: triples rest
  | _ => []

/-- The bypass bit of a step: 0 LIN, 1 DPR, 2 FLAT, 3 MATRIX. -/
def bypassed (t : SettingsSet) (p x i : Nat) : Bool := bitAt (t.rd (PIPE_CTX_CFG_BYPASS p x)) i

/-- A line through the correction chain: the merged values and the corrected pixels (R115 to
R119). -/
def correctLine (t : SettingsSet) (p x : Nat) (a : ArrLine) :
    List (Nat × Nat × Nat) × List (Nat × Nat × Nat) :=
  let w := depthBits (t.rd (PIPE_CTX_CFG_DEPTH p x))
  let lin (v : Nat × Nat × Nat) : Nat × Nat × Nat :=
    rgbOf (fun c => linearise t (bypassed t p x 0) w c (chan c v))
  let short := (triples a.short).map lin
  let merged :=
    if t.rd (PIPE_CTX_CFG_HDR p x) = 0 then short
    else
      let k := t.rd (PIPE_CTX_HDR_K p x)
      let lo := t.rd (PIPE_CTX_HDR_KNEE_LO p x)
      let sp := t.rd (PIPE_CTX_HDR2_SPAN p x)
      let sh := t.rd (PIPE_CTX_HDR2_HDR_SHIFT p x)
      (short.zip ((triples a.long).map lin)).map (fun e =>
        rgbOf (fun c => mergeHdr k lo sp sh (chan c e.1) (chan c e.2)))
  let n := merged.length
  let repl := if bypassed t p x 1 then merged else replaceFrom (defects t.image) n 0 none merged
  let flat := if bypassed t p x 2 then repl
    else (repl.zip (List.range n)).map (fun e => rgbOf (fun c => flatField t e.2 c (chan c e.1)))
  let out := if bypassed t p x 3 then flat else flat.map (colourMatrix t p x)
  (merged, out)

/-! ### Statistics (R123, R124) -/

/-- Add one pixel to a frame's sums. -/
def addStat (f : FrameStats) (v : Nat × Nat × Nat) (sat : Bool × Bool × Bool) : FrameStats :=
  let cs := [0, 1, 2]
  let satc (c : Nat) : Bool := if c = 0 then sat.1 else if c = 1 then sat.2.1 else sat.2.2
  { f with
    sums := cs.map (fun c => nth 0 f.sums c + chan c v)
    sumsq := cs.map (fun c => sat64 (nth 0 f.sumsq c + (chan c v / 16) * (chan c v / 16)))
    mins := cs.map (fun c => min (nth 0 f.mins c) (chan c v))
    maxs := cs.map (fun c => max (nth 0 f.maxs c) (chan c v))
    sats := cs.map (fun c => min (2 ^ 32 - 1) (nth 0 f.sats c + b2n (satc c)))
    hist := cs.foldl (fun h c =>
      let k := 256 * c + chan c v / 256
      spSet (fun _ => 0) h k (spGet (fun _ => 0) h k + 1)) f.hist }

/-- The statistics of a processed line join those of its frame (R123, R124). -/
def State.addLineStats (s : State) (p x : Nat) (w : WorkLine) : State :=
  let c := s.px p x
  match c.commit.setFor w.line with
  | none => s
  | some t =>
    let tag := s.lineTags p x w.line
    let lo := t.rd (PIPE_CTX_STATS_ROI_FIRST p x)
    let hi := t.rd (PIPE_CTX_STATS_ROI_LAST p x)
    let roi {α : Type} (l : List α) : List α := (l.drop lo).take (hi + 1 - lo)
    let isFirst := w.line = tag.1
    let upd (f : FrameStats) : FrameStats :=
      let f := { f with
        processed := f.processed + 1
        expSet := if f.processed = 0 then t.rd (PIPE_CTX_EXPOSURE p x) else f.expSet
        commits := if f.processed = 0 then t.commits else f.commits
        after := f.after || (isFirst && c.newSet)
        sets := if f.sets.contains t.start then f.sets else f.sets ++ [t.start] }
      ((roi w.stat).zip (roi w.sat)).foldl (fun f e => addStat f e.1 e.2) f
    s.setPx p x { c with
      stats := updStats tag.2.1 upd (statsOf tag.2.1 tag.1 c.stats)
      newSet := c.newSet && !isFirst }

/-! ### Intake of LINE packets (R100 to R103, R112, R114) -/

/-- Sample j of width w in a packet's sample blocks (R79). -/
def sampleAt (blocks : List Nat) (w j : Nat) : Nat :=
  let b := j * w
  bitsAt (nth 0 blocks (b / 64) + nth 0 blocks (b / 64 + 1) * 2 ^ 64) (b % 64) w

/-- A line that has all its packets arrives: a run of lost lines ends, and the line enters its FIFO or
is dropped (R100, R102, R114). -/
def State.arrive (s : State) (p x : Nat) (a : ArrLine) : State :=
  let s := s.flushRun p x
  let c := s.px p x
  let s := s.setPx p x { c with asm := none, owed := c.owed.filter (·.line != a.line) }
  if 2 ≤ c.fifo.length then
    let s := (s.set1 (PIPE_CTX_STATUS_INTAKE_OVERRUN p x)).bump (PIPE_CTX_OVERRUNS p x)
    let s := s.fault (srcPipe p) 0x2001 (slot1 p ++ slot1 x ++ slotLine a.line)
    s.lostLine p x a.line lostOverrun
  else
    let c := s.px p x
    (s.setPx p x { c with fifo := c.fifo ++ [a] }).updCtx p x

/-- The samples of a LINE packet join the line in reception, which the packet fits (R100). -/
def State.takeSamples (s : State) (p x : Nat) (t : SettingsSet) (m : LineAsm) (expIdx : Nat)
    (smp : List Nat) (clk : Nat) : State :=
  let m := if expIdx = 0 then { m with short := m.short ++ smp } else { m with long := m.long ++ smp }
  let need := 3 * t.rd (PIPE_CTX_CFG_PIXELS p x)
  let hdr := t.rd (PIPE_CTX_CFG_HDR p x) = 1
  let full := m.short.length = need && (!hdr || m.long.length = need)
  let c := s.px p x
  let s := s.setPx p x { c with asm := some m }
  if full then s.arrive p x ⟨m.line, m.short, m.long, clk⟩ else s

/-- The reason for a line that a later packet or its timeout overtakes (R101 reasons 3, 4, 6): one
exposure complete and the other missing is HDR_UNPAIRED. -/
def State.overtaken (s : State) (p x : Nat) (l : Int) (reason : Nat) : Nat :=
  let c := s.px p x
  match c.asm, c.commit.setFor l with
  | some m, some t =>
    let need := 3 * t.rd (PIPE_CTX_CFG_PIXELS p x)
    if m.line = l && t.rd (PIPE_CTX_CFG_HDR p x) = 1
        && ((m.short.length = need && m.long.isEmpty) || (m.long.length = need && m.short.isEmpty))
    then lostHdr else reason
  | _, _ => reason

/-- A LINE packet's exposure set differs from its set's (R112). -/
def State.expMismatch (s : State) (p x : Nat) (l : Int) (got used : Nat) : State :=
  (s.set1 (PIPE_CTX_STATUS_EXP_MISMATCH p x)).fault (srcPipe p) 0x2005
    (slot1 p ++ slot1 x ++ slotLine l ++ slot1 got ++ slot1 used)

/-- An intact LINE packet reaches context x of pipe p (R100 to R103, R112, R129). -/
def State.linePacket (s : State) (p x : Nat) (pl : List Nat) (clk : Nat) : State :=
  let b0 := nth 0 pl 0
  let b1 := nth 0 pl 1
  let l := signed 48 b0
  let c := s.px p x
  if s.unserved p then s
  else if l ≤ s.rdS (PIPE_CTX_LAST_LINE p x) || c.fifo.any (·.line == l)
      || (s.pipe p).work.any (fun w => w.ctx == x && w.line == l) then
    (s.set1 (PIPE_CTX_STATUS_LINE_STALE p x)).fault (srcPipe p) 0x2003
      (slot1 p ++ slot1 x ++ slotLine l)
  else
    let earlier := (c.asm.toList.map (·.line) ++ c.owed.map (·.line)).eraseDups.filter
      (fun e => decide (e < l))
    let s := earlier.foldl (fun s e => s.lostLine p x e (s.overtaken p x e lostSequence)) s
    if s.sparing p then s.lostLine p x l lostSpare
    else
      match (s.px p x).commit.setFor l with
      | none => s.lostLine p x l lostNoSet
      | some t =>
        let m := match (s.px p x).asm with
          | some m => if m.line = l then m else ⟨l, [], [], false⟩
          | none => ⟨l, [], [], false⟩
        let e := bitsAt b0 52 1
        let w := bitsAt b1 32 2
        let first := bitsAt b1 0 16
        let n := bitsAt b1 16 16
        let have_ := (if e = 0 then m.short.length else m.long.length) / 3
        if w != t.rd (PIPE_CTX_CFG_DEPTH p x) || first != have_
            || decide (t.rd (PIPE_CTX_CFG_PIXELS p x) < first + n)
            || (e == 1 && t.rd (PIPE_CTX_CFG_HDR p x) == 0) then
          (s.set1 (PIPE_CTX_STATUS_FORMAT_ERR p x)).lostLine p x l lostFormat
        else
          let got := bitsAt b0 48 4
          let used := t.rd (PIPE_CTX_EXPOSURE p x)
          let s := if got != used && !m.mism then s.expMismatch p x l got used else s
          let m := { m with mism := m.mism || got != used }
          s.takeSamples p x t m e (tabulate (3 * n) (sampleAt (pl.drop 2) (depthBits w))) clk

/-- LINE_PACKET_RX (R100): the oldest delivered packet of a group is a LINE packet, whose CRC passed
in 1.2 GHz clock `clk`. -/
def execLinePacketRx (n : Fin 12) (g : Fin 2) (clk : Nat) (s : State) :
    Host.Outcome State Fault Refusal :=
  match s.takeRx n.val g.val (fun p => p.ty == pkLine) with
  | none => .next s
  | some (pk, s) =>
    match s.ctxOf n.val g.val with
    | some (p, x) => .next (s.linePacket p x pk.payload clk)
    | none => .next s

/-- LINE_TIMEOUT (R101 reason 4): the oldest line owed has not arrived LINE_TIMEOUT µs after its
launch. -/
def execLineTimeout (p : Fin 13) (x : Fin 2) (s : State) : Host.Outcome State Fault Refusal :=
  let p := p.val
  let x := x.val
  let lim := s.rd (PIPE_CTX_LINE_TIMEOUT p x)
  let late (o : OwedLine) : Bool := match o.launched with
    | some t => decide (t + lim * ticksPerUs ≤ s.now)
    | none => false
  match (s.px p x).owed.find? late with
  | some o => if lim = 0 then .next s else .next (s.lostLine p x o.line (s.overtaken p x o.line lostTimeout))
  | none => .next s

/-! ### Processing (R113, R120) -/

/-- The context whose FIFO head arrived first; sub-port A on a tie (R113). -/
def State.pickCtx (s : State) (p clk : Nat) : Option (Nat × ArrLine) :=
  let head (x : Nat) : Option (Nat × ArrLine) :=
    match (s.px p x).fifo.head? with
    | some a => if a.clk < clk then some (x, a) else none
    | none => none
  match head 0, head 1 with
  | some a, some b => if b.2.clk < a.2.clk then some b else some a
  | some a, none => some a
  | none, b => b

/-- PIPE_LINE_START (R113, R115 to R120): a free pipe starts the earliest-arrived line in 1.2 GHz
clock `clk`. -/
def execPipeLineStart (p : Fin 13) (clk : Nat) (s : State) : Host.Outcome State Fault Refusal :=
  let p := p.val
  let k := s.pipe p
  if clk < k.freeAt then .next s
  else
    match s.pickCtx p clk with
    | none => .next s
    | some (x, a) =>
      let c := s.px p x
      let s := (s.setPx p x { c with fifo := c.fifo.drop 1 }).updCtx p x
      match c.commit.setFor a.line with
      | none => .next (s.lostLine p x a.line lostNoSet)
      | some t =>
        let r := correctLine t p x a
        let w := depthBits (t.rd (PIPE_CTX_CFG_DEPTH p x))
        let sat := (triples a.short).map (fun v =>
          let f (n : Nat) : Bool := n == 2 ^ w - 1
          (f v.1, f v.2.1, f v.2.2))
        let stat := if t.rd (PIPE_CTX_CFG_STATS_POINT p x) = 1 then r.1 else r.2
        .next (s.setPipe p { k with
          work := k.work ++ [⟨x, a.line, clk, r.2, stat, sat⟩]
          freeAt := clk + (t.rd (PIPE_CTX_CFG_PIXELS p x) + 7) / 8 })

/-- PIPE_LINE_DONE (R120, R123, R137): the last pixels of the oldest line in the pipe leave for the
stitcher, 96 + ceil(PIXELS / 8) − 1 clocks after its start. -/
def execPipeLineDone (p : Fin 13) (clk : Nat) (s : State) : Host.Outcome State Fault Refusal :=
  let p := p.val
  let k := s.pipe p
  match k.work with
  | [] => .next s
  | w :: rest =>
    if clk + 1 < w.clk + 96 + (w.pixels.length + 7) / 8 then .next s
    else
      let s := s.addLineStats p w.ctx w
      let s := s.setPipe p { k with work := rest }
      let s := (s.settle p w.ctx w.line).closeStats p w.ctx
      .next (s.seamArrive (2 * s.rd (PIPE_CTRL_PORT p) + w.ctx) w.line w.pixels)

/-! ### Camera mailbox and reports (R80, R126, R127) -/

/-- A write of SEND (R126). [DEDUCED, log 43] -/
def State.mboxSend (s : State) (p x : Nat) : State :=
  let n := s.rd (PIPE_CTX_MBOX_CTRL_BLOCKS p x)
  let tag := s.rd (PIPE_CTX_MBOX_CMD_TAG p x)
  if s.on (PIPE_CTX_MBOX_CTRL_BUSY p x) || decide (8 < n) || decide (0xF000 ≤ tag) then
    s.reject (PIPE_STATUS_CFG_REJECT p) (srcPipe p) (PIPE_CTX_MBOX_CTRL p x).off (n + 256)
  else
    let op := s.rd (PIPE_CTX_MBOX_CMD_OP p x)
    let port := s.rd (PIPE_CTRL_PORT p)
    let c := s.px p x
    let s := s.setPx p x { c with mbox := some (op, tag) }
    let s := s.set1 (PIPE_CTX_MBOX_CTRL_BUSY p x)
    if port < 12 then
      s.sendCtrl port x op tag (s.rd (PIPE_CTX_MBOX_ARG p x))
        (tabulate n (fun j => s.rd (PIPE_CTX_MBOX_DATA p x j)))
    else s

/-- MBOX_SEND (R126). -/
def execMboxSend (p : Fin 13) (x : Fin 2) (s : State) : Host.Outcome State Fault Refusal :=
  .next (s.mboxSend p.val x.val)

/-- OP of a STAT packet (R79). -/
def statOp (p : Packet) : Nat := bitsAt (nth 0 p.payload 0) 0 16

/-- The reply to a mailbox CTRL: RESULT and the data blocks (R126). -/
def State.mboxReply (s : State) (p x result : Nat) (data : List Nat) : State :=
  let c := s.px p x
  let s := s.setPx p x { c with mbox := none }
  let s := ((data.take 8).zip (List.range 8)).foldl (fun s (e : Nat × Nat) =>
    s.wr (PIPE_CTX_MBOX_DATA p x e.2) e.1) s
  let s := s.wr (PIPE_CTX_MBOX_CTRL_RESULT p x) result
  let s := s.wr (PIPE_CTX_MBOX_CTRL_REPLY_BLOCKS p x) (min 8 data.length)
  (s.wr (PIPE_CTX_MBOX_CTRL_BUSY p x) 0).set1 (PIPE_CTX_MBOX_CTRL_DONE p x)

/-- STAT_REPLY_RX (R79, R126): the oldest delivered packet is a STAT that answers a CTRL. -/
def execStatReplyRx (n : Fin 12) (g : Fin 2) (s : State) : Host.Outcome State Fault Refusal :=
  let n := n.val
  let g := g.val
  match s.takeRx n g (fun p => p.ty == pkStat && decide (statOp p < 0x8000)) with
  | none => .next s
  | some (pk, s) =>
    let b := nth 0 pk.payload 0
    let op := bitsAt b 0 16
    let tag := bitsAt b 16 16
    let x := s.grp n g
    let s := s.setGrp n g { x with ctrl := x.ctrl.filter (fun c => !(c.op == op && c.tag == tag)) }
    let s := if op = 1 && bitsAt b 32 8 = 0 then
        s.wr (ZL_GRP_CAM_LATENCY n g) (bitsAt (nth 0 pk.payload 2) 0 20)
      else s
    match s.ctxOf n g with
    | some (p, cx) =>
      if (s.px p cx).mbox = some (op, tag) then
        .next (s.mboxReply p cx (bitsAt b 32 8) (pk.payload.drop 1))
      else .next s
    | none => .next s

/-- An unrequested report updates the mailbox and records fault 0x2009 (R127). -/
def State.report (s : State) (p x op data : Nat) : State :=
  let s := (s.wr (PIPE_CTX_MBOX_REPORT_OP p x) op).wr (PIPE_CTX_MBOX_REPORT_DATA p x) data
  s.fault (srcPipe p) 0x2009 (slot1 p ++ slot1 x ++ slot1 op ++ slot1 data)

/-- TRIG_ERROR_REPORT (R127): the line of the damaged TRIG is lost. -/
def execTrigErrorReport (n : Fin 12) (g : Fin 2) (s : State) : Host.Outcome State Fault Refusal :=
  let n := n.val
  let g := g.val
  match s.takeRx n g (fun p => p.ty == pkStat && statOp p == 0x8001) with
  | none => .next s
  | some (pk, s) =>
    match s.ctxOf n g with
    | none => .next s
    | some (p, x) =>
      if s.unserved p then .next s
      else
        let d := bitsAt (nth 0 pk.payload 1) 0 32
        let s := s.report p x 0x8001 d
        match (s.px p x).owed.find? (fun o => o.seq == some (d % 65536)) with
        | some o => .next (s.lostLine p x o.line lostCamera)
        | none => .next s

/-- CAM_FAULT_REPORT (R127). -/
def execCamFaultReport (n : Fin 12) (g : Fin 2) (s : State) : Host.Outcome State Fault Refusal :=
  match s.takeRx n.val g.val (fun p => p.ty == pkStat && statOp p == 0x8002) with
  | none => .next s
  | some (pk, s) =>
    match s.ctxOf n.val g.val with
    | none => .next s
    | some (p, x) =>
      if s.unserved p then .next s
      else .next (s.report p x 0x8002 (bitsAt (nth 0 pk.payload 1) 0 32))

/-! ### Enabling and the spare pipe (R99, R128, R129) -/

/-- TOP_SPARES shows whether pipe 12 is ready. -/
def State.updPipeSpare (s : State) : State :=
  s.wr TOP_SPARES_PIPE_SPARE (b2n (s.rd (PIPE_STATUS_STATE 12) == pipeSpareReady))

/-- Lines of a context that the pipe holds in FIFO, processing or reception, in ascending order. -/
def State.heldLines (s : State) (p x : Nat) : List Int :=
  let c := s.px p x
  ((s.pipe p).work.filter (·.ctx == x)).map (·.line) ++ c.fifo.map (·.line) ++ c.asm.toList.map (·.line)

/-- Those lines leave the pipe and are lost with a reason. -/
def State.loseHeld (s : State) (p x reason : Nat) : State :=
  let ls := s.heldLines p x
  let k := s.pipe p
  let s := s.setPipe p { k with work := k.work.filter (·.ctx != x) }
  let c := s.px p x
  let s := (s.setPx p x { c with fifo := [], asm := none }).updCtx p x
  ls.foldl (fun s l => s.lostLine p x l reason) s

/-- A pipe in service fails (R128, R129): with pipe 12 ready a handover starts; else the port goes
unserved and every line it owes is lost. -/
def State.pipeFail (s : State) (p : Nat) : State :=
  let ready := s.rd (PIPE_STATUS_STATE 12) == pipeSpareReady && p != 12
  let s := s.wr (PIPE_STATUS_STATE p) pipeFailed
  if ready then
    let s := s.setPipe p { s.pipe p with failedAt := some s.now }
    let s := [0, 1].foldl (fun s x => s.loseHeld p x lostSpare) s
    s.recheck
  else
    let s := s.fault (srcPipe p) 0x2012 (slot1 p ++ slot1 (s.rd (PIPE_CTRL_PORT p)))
    let s := [0, 1].foldl (fun s x => (s.loseHeld p x lostNoSet).owedLost p x lostNoSet) s
    s.updPipeSpare.recheck

/-- PIPE_SRAM (R128, R129): a table-memory error of a pipe. -/
def execPipeSram (p : Fin 13) (uncorrected : Bool) (bank : Fin 3) (off : Nat) (s : State) :
    Host.Outcome State Fault Refusal :=
  let p := p.val
  let s := s.set1 (if uncorrected then PIPE_STATUS_SRAM_UNCORR p else PIPE_STATUS_SRAM_CORR p)
  let s := s.fault (srcPipe p) 0x2010
    (slot1 p ++ slot1 (b2n uncorrected) ++ slot1 bank.val ++ slot1 off)
  if !uncorrected then .next s
  else if s.rd (PIPE_STATUS_STATE p) = pipeServing then .next (s.pipeFail p)
  else if s.rd (PIPE_STATUS_STATE p) = pipeFailed then .next s
  else .next (s.wr (PIPE_STATUS_STATE p) pipeFailed).updPipeSpare

/-- A set's table image is fetched again by pipe 12 (R128): a failing one is withdrawn. -/
def State.refetch (s : State) (x : Nat) (t : Option SettingsSet) : Option SettingsSet × State :=
  match t with
  | none => (none, s)
  | some t =>
    let r := s.fetchTable (t.rd (PIPE_CTX_TABLE_BASE 12 x)) (t.rd (PIPE_CTX_CFG_PIXELS 12 x))
    match r.1 with
    | .ok m => (some { t with image := m }, r.2)
    | .error (code, det) => (some { t with dead := true },
        (r.2.set1 (PIPE_CTX_STATUS_TABLE_ERR 12 x)).fault (srcPipe 12) code
          (slot1 12 ++ slot1 x ++ det))

/-- Words of pipe p's contexts under the offsets of pipe 12. -/
def moveWords (p : Nat) (m : Sparse Word) : Sparse Word :=
  m.map (fun e => (e.1 + (12 - p) * 0x10000, e.2))

/-- A set of pipe p as pipe 12 holds it. -/
def moveSet (p : Nat) (t : SettingsSet) : SettingsSet := { t with words := moveWords p t.words }

/-- Pipe 12 takes over context x of pipe p (R128). -/
def State.takeCtx (s : State) (p x : Nat) : State :=
  let lo := (PIPE_CTX_CFG p x).off
  let mine := s.regs.filter (fun e => decide (lo ≤ e.1) && decide (e.1 < lo + 0x200))
  let s := { s with regs := spClear s.regs (lo + (12 - p) * 0x10000) (lo + (12 - p) * 0x10000 + 0x200) }
  let s := mine.foldl (fun s e => s.setReg (e.1 + (12 - p) * 0x10000) e.2) s
  let c := s.px p x
  let a := s.refetch x (c.commit.active.map (moveSet p))
  let b := a.2.refetch x (c.commit.previous.map (moveSet p))
  let s := b.2.setPx 12 x { c with commit := { c.commit with active := a.1, previous := b.1 } }
  let to12 (e : SchedEntry) : SchedEntry :=
    match e.act with
    | .commit u l => if u = .pipe p x then { e with act := .commit (.pipe 12 x) l } else e
    | _ => e
  let s := { s with tl := { s.tl with sched := s.tl.sched.map to12 } }
  (s.setPx p x {}).updCtx 12 x

/-- PIPE_SPARED (R128): the handover of a retired pipe to pipe 12 completes. -/
def execPipeSpared (p : Fin 12) (s : State) : Host.Outcome State Fault Refusal :=
  let p := p.val
  match (s.pipe p).failedAt with
  | none => .next s
  | some t0 =>
    let port := s.rd (PIPE_CTRL_PORT p)
    let s := s.setPipe p {}
    let s := ((s.wr (PIPE_CTRL_PORT 12) port).set1 (PIPE_CTRL_EN 12)).wr (PIPE_STATUS_SPARED_FROM 12) p
    let s := s.wr (PIPE_STATUS_STATE 12) pipeServing
    let s := [0, 1].foldl (fun s x => s.takeCtx p x) s
    let s := s.updPipeSpare
    let s := s.fault (srcPipe p) 0x2011 (slot1 p ++ slot1 port ++ slot1 ((s.now - t0) / ticksPerUs))
    .next s.recheck

/-- A write of PIPEp_CTRL (R99): rejected for pipe 12, a reserved port, or a port that another
enabled pipe serves. -/
def State.pipeCtrl (s : State) (p : Nat) (en : Bool) (port : Nat) : State :=
  let v := b2n en + port * 2
  let taken := (List.range 13).any (fun q =>
    q != p && s.on (PIPE_CTRL_EN q) && s.rd (PIPE_CTRL_PORT q) == port && decide (port < 12))
  if p = 12 || (decide (12 ≤ port) && decide (port ≤ 14)) || taken then
    s.reject (PIPE_STATUS_CFG_REJECT p) (srcPipe p) (PIPE_CTRL p).off v
  else
    let was := s.on (PIPE_CTRL_EN p)
    let s := (s.wr (PIPE_CTRL_EN p) (b2n en)).wr (PIPE_CTRL_PORT p) port
    let st := s.rd (PIPE_STATUS_STATE p)
    if st = pipeFailed then
      if en && !was then s.pipeFail p else s.recheck
    else (s.wr (PIPE_STATUS_STATE p) (if en then pipeServing else pipeIdle)).recheck

/-- PIPE_CTRL_WRITE (R99). -/
def execPipeCtrlWrite (p : Fin 13) (en : Bool) (port : Fin 16) (s : State) :
    Host.Outcome State Fault Refusal := .next (s.pipeCtrl p.val en port.val)

/-- The bit of quill q in TOP_SPARES. -/
def quillSpareF (q : Nat) : Fld := ⟨TOP_SPARES.off, 1 + q, 1⟩

/-- SPARE_SELF_TEST (R128, R295): the ranger's test of pipe 12, or of quill q's spare nib. -/
def execSpareSelfTest (quill : Option (Fin 12)) (pass : Bool) (s : State) :
    Host.Outcome State Fault Refusal :=
  match quill with
  | none =>
    let st := s.rd (PIPE_STATUS_STATE 12)
    if st = pipeSpareReady || (st = pipeFailed && !s.on (PIPE_CTRL_EN 12)) then
      .next (s.wr (PIPE_STATUS_STATE 12) (if pass then pipeSpareReady else pipeFailed)).updPipeSpare
    else .next s
  | some q =>
    let t := s.rd (QUILL_STATUS_SPARE_SLOT q.val)
    if t < 17 then
      let s := s.wr (QUILL_SLOT_STATUS_STATE q.val t) (if pass then slotSpareReady else slotFailed)
      .next (s.wr (quillSpareF q.val) (b2n pass))
    else .next s

/-! ### Resets of a pipe (R130) -/

/-- A reset of a pipe that accounts for its lines: every line whose trigger has been issued is lost
with NO_SET; FIFOs, sets and commits go; registers keep what survives. -/
def State.pipeReset (s : State) (p : Nat) (cover : Bool) : State :=
  let s := [0, 1].foldl (fun s x =>
    let ls := s.outstanding p x
    let k := s.pipe p
    let s := s.setPipe p { k with work := k.work.filter (·.ctx != x) }
    let c := s.px p x
    let s := s.setPx p x { c with owed := [], fifo := [], asm := none, stats := [] }
    let sorted := sortInts ls.eraseDups
    let s := sorted.foldl (fun s l => s.lostLine p x l lostNoSet cover) s
    let tags := (s.rdS (PIPE_CTX_LAST_LINE p x) + 1, none) :: (s.px p x).tags
    ((s.flushRun p x cover).setPx p x { tags := tags }).withdraw (isCommitOf (.pipe p x))) s
  let base := 0x200000 + p * 0x10000
  (s.setPipe p { failedAt := (s.pipe p).failedAt }).resetRegs keptWarm base (base + 0x10000)

end Sys2Proof.Machine
end

