-- ==== Sys2Proof/Machine/Fine.lean ====
section
/-! DEFINITION. The fine path (R156 to R168): column integrators, snapshots and nozzle attribution,
and the image ring (R359 to R362). -/

namespace Sys2Proof.Machine

open Sys2Proof

/-- The integer nearest to the square root of a number. -/
def sqrtNear (n : Nat) : Nat :=
  let r := isqrt n
  if r < n - r * r then r + 1 else r

/-! ### Column integrators (R156 to R158) -/

/-- One channel's m and v after a valid pixel of value x (R156). -/
def colStep (a n x m v : Nat) : Nat × Nat :=
  if n = 0 then (x * 256, 0)
  else
    let d : Int := (x : Int) * 256 - m
    let m' := (m : Int) + rneShift d a
    let q := rneShift (d * d) 8
    let v' := (v : Int) + rneShift (q - v) a
    (m'.toNat, (min v' ((2 : Int) ^ 40 - 1)).toNat)

/-- A column after a pixel of the line; an invalid pixel changes no statistic (R149, R156). -/
def ColState.step (c : ColState) (a : Nat) (p : Option (Nat × Nat × Nat)) : ColState :=
  match p with
  | none => { c with bad := true }
  | some x =>
    let r := [0, 1, 2].map (fun i => colStep a c.n (chan i x) (nth 0 c.m i) (nth 0 c.v i))
    { c with m := r.map (·.1), v := r.map (·.2), n := min (c.n + 1) 65535 }

/-- The state of column u. -/
def State.colOf (s : State) (u : Nat) : ColState := spGet (fun _ => {}) s.fine.cols u

/-- Every column reseeds (R157): n becomes 0. -/
def State.seedCols (s : State) : State :=
  let cols := s.fine.cols.map (fun e => (e.1, { e.2 with n := 0, bad := false }))
  { s with fine := { s.fine with cols := cols.filter (fun e => e.2 != {}) } }

/-- A stitched line updates its columns (R156, R157). -/
def State.updateCols (s : State) (f : FineLine) : State :=
  let s := if f.seed then s.seedCols else s
  if s.on FINE_CTRL_COL_EN then
    let cols := (f.pixels.zip (List.range f.pixels.length)).foldl (fun m e =>
      spSet (fun _ => {}) m e.2 ((spGet (fun _ => {}) m e.2).step f.colA e.1)) s.fine.cols
    { s with fine := { s.fine with cols := cols, hist := (f.line, cols) :: s.fine.hist.take 15 } }
  else { s with fine := { s.fine with hist := (f.line, s.fine.cols) :: s.fine.hist.take 15 } }

/-- Does a seed fall on the stitched line N that starts now (R157)? -/
def State.seedDue (s : State) (n : Int) : Bool :=
  (match s.fine.seedAfter with
    | some t => decide (t < s.now)
    | none => false) ||
  (match s.fine.seedFrom with
    | some l => decide (l ≤ n)
    | none => false)

/-- The seed of line N is taken over (R157). -/
def State.takeSeed (s : State) (n : Int) : Bool × State :=
  if s.seedDue n then
    let a := match s.fine.seedAfter with
      | some t => if t < s.now then none else some t
      | none => none
    let b := match s.fine.seedFrom with
      | some l => if l ≤ n then none else some l
      | none => none
    (true, ({ s with fine := { s.fine with seedAfter := a, seedFrom := b } }).wrS FINE_SEED_LINE n)
  else (false, s)

/-- A stitcher set is applied: with RESEED_ON_SET it seeds from its start line (R157). -/
def State.seedOnSet (s : State) (l : Int) : State :=
  if s.on FINE_CTRL_RESEED_ON_SET then { s with fine := { s.fine with seedFrom := some l } } else s

/-- A write of 1 to FINE_CTRL.SEED (R157). -/
def State.seedWrite (s : State) : State := { s with fine := { s.fine with seedAfter := some s.now } }

/-- SEED (R157). -/
def execSeed (s : State) : Host.Outcome State Fault Refusal := .next s.seedWrite

/-- COLUMN_SRAM (R160): an error of the integrator memory at a column. -/
def execColumnSram (uncorrected : Bool) (column : Fin 180224) (s : State) :
    Host.Outcome State Fault Refusal :=
  let u := column.val
  let s := s.set1 (if uncorrected then FINE_STATUS_SRAM_UNCORR else FINE_STATUS_SRAM_CORR)
  let s := s.fault srcFine 0x3102 (slot1 (b2n uncorrected) ++ slot1 u)
  if uncorrected then
    .next { s with fine := { s.fine with
      cols := spSet (fun _ => {}) s.fine.cols u { s.colOf u with n := 0 } } }
  else .next s

/-! ### Column snapshots (R159) -/

/-- FINE_SNAP_STRIDE for a width: 64 + 16 × WIDTH rounded up to 4 KiB. -/
def snapStride (width : Nat) : Nat := (64 + 16 * width + 4095) / 4096 * 4096

/-- The 16 bytes of a column in a snapshot (R159). -/
def colBytes (c : ColState) (a : Nat) : List Nat :=
  let dev := c.v.map sqrtNear
  let tooBig := dev.any (fun d => decide (65535 < d))
  (c.m.map (fun (m : Nat) => leBytes 2 (rneShift m 8).toNat)).flatten
    ++ (dev.map (fun d => leBytes 2 (min d 65535))).flatten ++ leBytes 2 c.n
    ++ leBytes 2 (b2n (decide (2 ^ a ≤ c.n)) + 2 * b2n c.bad + 4 * b2n tooBig)

/-- The header of a snapshot (R159). -/
def snapHeader (f : FineLine) (count a width : Nat) : List Nat :=
  padTo 0 64 (leBytes 8 (toBits 64 f.line) ++ leBytes 4 width ++ leBytes 4 f.frame
    ++ leBytes 4 f.epoch ++ leBytes 4 a ++ leBytes 4 count)

/-- Segments of a snapshot that line `f` completes are captured (R159). [DEDUCED, log 48] -/
def State.snapSegments : Nat → FineLine → State → State
  | 0, _, s => s
  | k + 1, f, s =>
    match s.fine.snap with
    | none => s
    | some n =>
      if f.line < n.line + 4 * n.seg then s
      else
        let base := s.rd FINE_SNAP_BASE + n.entry * snapStride n.width
        let lo := n.seg * n.width / 64
        let hi := (n.seg + 1) * n.width / 64
        let bs := (tabulate (hi - lo) (fun i => colBytes (s.colOf (lo + i)) f.colA)).flatten
        let s := s.dramPut (base + 64 + 16 * lo) bs clsTable
        if n.seg = 63 then
          let s := { s with fine := { s.fine with snap := none } }
          (s.wr FINE_SNAP_RING_WR ((n.entry + 1) % s.rd FINE_SNAP_RING_DEPTH)).occur 222
        else
          State.snapSegments k f
            { s with fine := { s.fine with snap := some { n with seg := n.seg + 1 } } }

/-- The snapshot unit after a stitched line has updated the columns (R159). [DEDUCED, log 48] -/
def State.snapLine (s : State) (f : FineLine) : State :=
  let every := s.rd FINE_SNAP_CFG
  let depth := s.rd FINE_SNAP_RING_DEPTH
  let wr := s.rd FINE_SNAP_RING_WR
  let s :=
    if every = 0 || depth = 0 || f.line % (every : Int) != 0 || s.fine.snap.isSome then s
    else if ringFull wr (s.rd FINE_SNAP_RD) depth then
      ((s.bump FINE_SNAP_DROPPED).set1 FINE_STATUS_SNAP_DROP).fault srcFine 0x3101 (slotLine f.line)
    else
      let w := f.pixels.length
      let n := s.fine.snaps + 1
      let s := s.dramPut (s.rd FINE_SNAP_BASE + wr * snapStride w) (snapHeader f n f.colA w) clsTable
      { s with fine := { s.fine with snap := some ⟨f.line, wr, 0, w⟩, snaps := n } }
  State.snapSegments 64 f s

/-! ### Nozzle attribution (R162 to R168) -/

/-- A streak report reaches the attribution unit (R162): lost when 64 are queued. [DEDUCED, log 50] -/
def State.streakReport (s : State) (r : AttrReq) (nib : Nat) (l : Int) : State :=
  if 64 ≤ s.fine.reports.length then
    (s.set1 FINE_STATUS_ATTR_OVERRUN).fault srcFine 0x3110 (slot1 nib ++ slotLine l)
  else
    let q := s.fine.reports ++ [r]
    ({ s with fine := { s.fine with reports := q } }).wr FINE_STATUS_ATTR_QUEUE q.length

/-- A field of the active bank (R168). [DEDUCED, log 51] -/
def State.bankRd (s : State) (f : Fld) : Nat := rdIn s.fine.bank f
def State.bankRdS (s : State) (f : Fld) : Int := signed f.w (s.bankRd f)

/-- A candidate of R164: bar, head, nozzle and residual. -/
structure Cand where
  bar : Nat
  head : Nat
  n : Int
  r : Int

/-- The candidate that head h of bar b gives for a position (R164). -/
def State.headCand (s : State) (x b h : Nat) : Option Cand :=
  let xb := rneShift (((x : Int) * 256 - s.rdS (FINE_BAR_SHIFT b)) * s.rd (FINE_BAR_SCALE b)) 22
  let t := rneDiv ((xb - s.bankRdS (FINE_HEAD_X0 b h)) * (2 : Int) ^ 32) (s.bankRd (FINE_HEAD_PITCH b h))
  let t := if s.bankRd (FINE_HEAD_CFG_DIR b h) = 1 then -t else t
  let n := rneShift t 16
  if 0 ≤ n && decide (n < s.bankRd (FINE_HEAD_CFG_NOZZLES b h)) then some ⟨b, h, n, t - n * 65536⟩
  else none

/-- Every candidate of a request, by bar and head (R164). -/
def State.cands (s : State) (x ink : Nat) : List Cand :=
  (List.range 16).flatMap (fun b =>
    if s.bankRd (FINE_BAR_CFG_ENABLE b) = 1 && (ink == 0 || bitAt ink (s.bankRd (FINE_BAR_CFG_INK b))) then
      (List.range 64).filterMap (fun h =>
        if s.bankRd (FINE_HEAD_CFG_ENABLE b h) = 1 then s.headCand x b h else none)
    else [])

/-- XN: the chosen nozzle's centre mapped back to 20.4 (R165); a scale of 0 leaves it open.
[DESIGN CHOICE, log 49] -/
def State.nozzleX (s : State) (c : Cand) : Nat × State :=
  let p := c.n * s.bankRd (FINE_HEAD_PITCH c.bar c.head)
  let x0 := s.bankRdS (FINE_HEAD_X0 c.bar c.head) * 65536
  let cx := if s.bankRd (FINE_HEAD_CFG_DIR c.bar c.head) = 1 then x0 - p else x0 + p
  let sc : Int := s.rd (FINE_BAR_SCALE c.bar)
  if sc = 0 then s.free 32
  else (toBits 32 (rneDiv (cx * 64 + s.rdS (FINE_BAR_SHIFT c.bar) * sc) (sc * 256)), s)

/-- The answer of the attribution unit (R165); with ATTR_EN 0 it is NO_MATCH. -/
def State.attribute (s : State) (x ink : Nat) : AttrAns × State :=
  let bank := s.rd FINE_STATUS_ATTR_BANK
  let cs := if s.on FINE_CTRL_ATTR_EN then s.cands x ink else []
  match minBy (fun c => (c.r.natAbs : Int)) cs with
  | none => (⟨false, 0, 0, 0, 0, 0, 0, false, false, bank⟩, s)
  | some c =>
    let max_ := s.rd FINE_ATTR_CTRL_RES_MAX
    let near := (cs.filter (fun d => decide (d.r.natAbs ≤ max_))).length
    let xn := s.nozzleX c
    (⟨true, c.bar, c.head, c.n.toNat, c.r, xn.1, min cs.length 255, decide (2 ≤ near),
      decide (max_ < c.r.natAbs), bank⟩, xn.2)

/-- ATTR_REQUEST (R166): in 1.2 GHz clock `clk` the unit starts a request, the scaler's first, at
most one every 8 clocks. -/
def execAttrRequest (clk : Nat) (s : State) : Host.Outcome State Fault Refusal :=
  let soon := match s.fine.lastStart with
    | some t => decide (clk < t + 8)
    | none => false
  if soon then .next s
  else
    let go (r : AttrReq) (s : State) : Host.Outcome State Fault Refusal :=
      let a := s.attribute r.x r.ink
      let s := a.2.bump FINE_ATTR_COUNT
      .next { s with fine := { s.fine with
        running := s.fine.running ++ [(clk, r, a.1)], lastStart := some clk } }
    match s.fine.asked, s.fine.reports with
    | r :: q, _ => go r { s with fine := { s.fine with asked := q } }
    | [], r :: q =>
      go r (({ s with fine := { s.fine with reports := q } }).wr FINE_STATUS_ATTR_QUEUE q.length)
    | [], [] => .next s

/-- BHN as a nozzle record and a tally hold it (R166, R237). -/
def AttrAns.bhn (a : AttrAns) : Nat :=
  if a.found then a.nozzle + a.head * 2 ^ 12 + a.bar * 2 ^ 18 + 2 ^ 31 else 0

/-- The nozzle record of a report (R166). -/
def nozzleRecord (r : AttrReq) (a : AttrAns) (epoch seq : Nat) : List Nat :=
  let flags := b2n a.ambiguous + 2 * b2n (!a.found) + 4 * b2n a.high + 8 * a.bank
  [0x01, flags, a.cands, r.ink] ++ leBytes 4 a.bhn ++ leBytes 8 (toBits 64 r.pos) ++ leBytes 4 r.x
    ++ leBytes 4 a.xn ++ leBytes 4 epoch ++ leBytes 2 seq ++ leBytes 2 (toBits 16 (rneShift a.resid 1))

/-- A nozzle record goes to its ring, or is lost when the ring is full (R167). -/
def State.writeNozzle (s : State) (r : AttrReq) (a : AttrAns) : State :=
  let depth := s.rd FINE_NOZ_RING_DEPTH
  let wr := s.rd FINE_NOZ_RING_WR
  if depth = 0 || !s.on FINE_CTRL_ATTR_EN then s
  else if ringFull wr (s.rd FINE_NOZ_RD) depth then
    ((s.bump FINE_NOZ_DROPPED).set1 FINE_STATUS_NOZZLE_DROP).fault srcFine 0x3111 (slotPos r.pos)
  else
    let seq := s.fine.nozSeq
    let s := s.dramPut (s.rd FINE_NOZ_BASE + 32 * wr)
      (nozzleRecord r a (s.lineEpoch (floorShift r.pos 16)) seq) clsTable
    let s := { s with fine := { s.fine with nozSeq := (seq + 1) % 65536 } }
    (s.wr FINE_NOZ_RING_WR ((wr + 1) % depth)).occur 221

/-- FINE_CFG_REJECT. -/
def State.fineReject (s : State) (off v : Nat) : State :=
  s.reject FINE_STATUS_CFG_REJECT srcFine off v

/-- The words of one bank: bar CFG and head registers (R168). [DEDUCED, log 51] -/
def bankWord (o : Nat) : Bool :=
  (decide (0x320100 ≤ o) && decide (o < 0x320200) && o % 16 == 0)
    || (decide (0x324000 ≤ o) && decide (o < 0x328000))

/-- SWAP: the inactive bank becomes active (R168); ignored during a copy. [DEDUCED, log 51] -/
def State.attrSwap (s : State) : State :=
  if s.on FINE_ATTR_CTRL_BUSY then s.fineReject FINE_ATTR_CTRL.off 1
  else
    let mine := s.regs.filter (fun e => bankWord e.1)
    let other := s.fine.bank
    let s := { s with regs := s.regs.filter (fun e => !bankWord e.1) }
    let s := other.foldl (fun s e => s.setReg e.1 e.2) s
    let s := { s with fine := { s.fine with bank := mine } }
    s.wr FINE_STATUS_ATTR_BANK (1 - s.rd FINE_STATUS_ATTR_BANK)

/-- ATTR_SWAP (R168). -/
def execAttrSwap (s : State) : Host.Outcome State Fault Refusal := .next s.attrSwap

/-- ATTR_COPY (R168): the copy starts and BUSY reads 1. -/
def execAttrCopy (s : State) : Host.Outcome State Fault Refusal := .next (s.set1 FINE_ATTR_CTRL_BUSY)

/-- ATTR_COPY_DONE (R168): the inactive bank holds what the active one does. -/
def execAttrCopyDone (s : State) : Host.Outcome State Fault Refusal :=
  if s.on FINE_ATTR_CTRL_BUSY then
    let s := { s with regs := s.regs.filter (fun e => !bankWord e.1) }
    let s := s.fine.bank.foldl (fun s e => s.setReg e.1 e.2) s
    .next (s.wr FINE_ATTR_CTRL_BUSY 0)
  else .next s

/-! ### The image ring (R359 to R362) -/

/-- Bytes per pixel of a ring format (R359). -/
def imgBytes (format : Nat) : Nat := if format = 1 then 6 else 3

/-- The pitch of a slot (R359). -/
def imgPitch (width format : Nat) : Nat := (64 + width * imgBytes format + 127) / 128 * 128

/-- SQRT8 and LIN16 coding of a value (R359). -/
def imgEncode (format v : Nat) : Nat := if format = 1 then v else min (sqrtNear v) 255
def imgDecode (format v : Nat) : Nat := if format = 1 then v else v * v

/-- A pixel as the ring stores it; an invalid one as zeros, a valid black one with G = 1 (R360). -/
def imgPixel (format : Nat) (p : Option (Nat × Nat × Nat)) : List Nat :=
  let b := imgBytes format / 3
  match p with
  | none => List.replicate (3 * b) 0
  | some v =>
    let e := [imgEncode format v.1, imgEncode format v.2.1, imgEncode format v.2.2]
    let e := if e = [0, 0, 0] then [0, 1, 0] else e
    (e.map (leBytes b)).flatten

/-- A ring slot's header (R360). -/
def imgHeader (f : FineLine) (xbase format : Nat) (incomplete : Bool) : List Nat :=
  let bad := f.pixels.any (·.isNone)
  padTo 0 64 (leBytes 8 (toBits 64 f.line) ++ leBytes 4 f.frame ++ leBytes 4 f.epoch
    ++ leBytes 4 xbase ++ leBytes 4 f.pixels.length
    ++ [format, b2n incomplete + 2 * b2n bad + 4 * b2n f.forced])

/-- The address of the slot of a line. -/
def State.imgSlot (s : State) (l : Int) : Nat :=
  s.rd DRAMC_IMG_BASE + (l % (s.rd DRAMC_IMG_CFG_LINES : Int)).toNat * s.rd DRAMC_IMG_PITCH

/-- Is the image ring written (R359)? -/
def State.imgOn (s : State) : Bool := s.on DRAMC_IMG_CFG_IMG_EN && s.on DRAMC_IMG_CFG_LINES

/-- A formed line is written to the image ring; `taken` pixels were accepted in time when not all were
(R359 to R362). -/
def State.imgWrite (s : State) (f : FineLine) (taken : Option Nat) : State :=
  if s.imgOn then
    let format := s.rd DRAMC_IMG_CFG_FORMAT
    let slot := s.imgSlot f.line
    let px := match taken with
      | some n => f.pixels.take n
      | none => f.pixels
    let inc := decide (px.length < f.pixels.length)
    let s := s.dramPut (slot + 64) (px.flatMap (imgPixel format)) clsImage
    let s := s.dramPut slot (imgHeader f (s.rd STITCH_XBASE) format inc) clsImage
    let s := s.wrS DRAMC_IMG_NEWEST f.line
    if inc then
      let was := s.dram.imgDropRun
      let s := (s.bump DRAMC_IMG_DROPPED)
      let s := { s with dram := { s.dram with imgDropRun := true } }
      if was then s else s.fault srcDramc 0x6040 (slotLine f.line)
    else { s with dram := { s.dram with imgDropRun := false } }
  else s

end Sys2Proof.Machine
end

