-- ==== Sys2Proof/Machine/QuillBase.lean ====
section
/-! DEFINITION. Quills and their nibs as other units see them (R258 to R266, R272, R273, R293, R301): slots
and logical nibs, jobs and their stripes, lines retired on a nib's behalf, start lines. -/

namespace Sys2Proof.Machine

open Sys2Proof

def State.quillAt (s : State) (q : Nat) : Quill := spGet (fun _ => {}) s.quill q
def State.setQuill (s : State) (q : Nat) (x : Quill) : State := { s with quill := spSet (fun _ => {}) s.quill q x }
def State.nib (s : State) (q t : Nat) : Nib := spGet (fun _ => {}) (s.quillAt q).nibs t
def State.setNib (s : State) (q t : Nat) (n : Nib) : State :=
  let u := s.quillAt q
  s.setQuill q { u with nibs := spSet (fun _ => {}) u.nibs t n }
def State.job (s : State) (q j : Nat) : Job := spGet (fun _ => {}) (s.quillAt q).jobs j
def State.setJob (s : State) (q j : Nat) (x : Job) : State :=
  let u := s.quillAt q
  s.setQuill q { u with jobs := spSet (fun _ => {}) u.jobs j x }

def State.quillReject (s : State) (q off v : Nat) : State :=
  s.reject (QUILL_STATUS_CFG_REJECT q) (srcQuill q) off v

/-! ### Slots and logical nibs (R258) -/

/-- The slot that serves logical nib l. -/
def State.slotFor (s : State) (q l : Nat) : Option Nat :=
  firstIdx 17 (fun t => s.rd (QUILL_SLOT_STATUS_ROLE q t) == l)

/-- The logical nib a slot serves; 16 for the spare. -/
def State.roleOf (s : State) (q t : Nat) : Nat := s.rd (QUILL_SLOT_STATUS_ROLE q t)

def State.slotState (s : State) (q t : Nat) : Nat := s.rd (QUILL_SLOT_STATUS_STATE q t)
def State.setSlotState (s : State) (q t v : Nat) : State := s.wr (QUILL_SLOT_STATUS_STATE q t) v

/-! ### Jobs and stripes (R261 to R263) -/

/-- Logical nibs of a job, in ascending order. -/
def State.jobNibs (s : State) (q j : Nat) : List Nat :=
  (List.range 16).filter (bitAt (s.rd (QUILL_JOB_NIBS q j)))

/-- The slots that serve a job's nibs. -/
def State.jobSlots (s : State) (q j : Nat) : List Nat := (s.jobNibs q j).filterMap (s.slotFor q)

def State.jobOn (s : State) (q j : Nat) : Bool := s.on (QUILL_JOB_CTRL_EN q j)
def State.jobCoarse (s : State) (q j : Nat) : Bool := s.on (QUILL_JOB_CTRL_PLANE q j)
def State.jobQueue (s : State) (q j : Nat) : Bool := s.on (QUILL_JOB_CTRL_MODE q j)

/-- The enabled job that a logical nib belongs to. -/
def State.jobOfNib (s : State) (q l : Nat) : Option Nat :=
  firstIdx 4 (fun j => s.jobOn q j && bitAt (s.rd (QUILL_JOB_NIBS q j)) l)

/-- The enabled job of a slot's logical nib. -/
def State.jobOfSlot (s : State) (q t : Nat) : Option Nat :=
  let r := s.roleOf q t
  if r < 16 then s.jobOfNib q r else none

def State.stripeW (s : State) (q j : Nat) : Nat := s.rd (QUILL_JOB_STRIPE_SW q j)
def State.halo (s : State) (q j : Nat) : Nat := s.rd (QUILL_JOB_STRIPE_HALO q j)

/-- P: columns of a window row (R261). -/
def State.rowCols (s : State) (q j : Nat) : Nat := s.stripeW q j + 128 * s.halo q j

/-- The first core column of logical nib l in job j (R261). -/
def State.coreX (s : State) (q j l : Nat) : Nat :=
  s.rd (QUILL_JOB_X0 q j) + ((s.jobNibs q j).filter (fun k => decide (k < l))).length * s.stripeW q j

/-- STRIPE_BASE (R261). -/
def State.stripeBase (s : State) (q j l : Nat) : Int := (s.coreX q j l : Int) - 64 * s.halo q j

/-- Bytes rounded up to 128. -/
def up128 (n : Nat) : Nat := (n + 127) / 128 * 128

/-- The pitch of a window row of P columns from a source (R263). [DEDUCED, log 79] -/
def winPitch (src p : Nat) : Nat :=
  match src with
  | 0 => 0
  | 1 | 3 | 4 => 3 * up128 (2 * p) + up128 ((p + 7) / 8)
  | 2 => 3 * up128 (8 * p) + up128 (2 * p)
  | 5 => 2 * up128 (2 * p)
  | 6 => up128 (8 * ((p + 63) / 64))
  | _ => 0

def State.winSrc (s : State) (q j w : Nat) : Nat := s.rd (QUILL_JOB_WIN_CFG_SRC q j w)
def State.winRows (s : State) (q j w : Nat) : Nat := s.rd (QUILL_JOB_WIN_CFG_ROWS q j w)
def State.winHist (s : State) (q j w : Nat) : Nat := s.rd (QUILL_JOB_WIN_CFG_HIST q j w)
def State.winAhead (s : State) (q j w : Nat) : Nat := s.rd (QUILL_JOB_WIN_CFG_AHEAD q j w)
def State.winBase (s : State) (q j w : Nat) : Nat := s.rd (QUILL_JOB_WIN_BASE q j w)
def State.pitchOf (s : State) (q j w : Nat) : Nat := winPitch (s.winSrc q j w) (s.rowCols q j)

/-- WINw_PITCH follows SRC and P (R263). -/
def State.updPitch (s : State) (q j : Nat) : State :=
  (List.range 4).foldl (fun s w => s.wr (QUILL_JOB_WIN_PITCH q j w) (s.pitchOf q j w)) s

/-- Windows of a job that are on. -/
def State.winsOn (s : State) (q j : Nat) : List Nat := (List.range 4).filter (fun w => s.winSrc q j w != 0)

/-- The index of a window row for line n: the tile row for FIELD (R263). -/
def winIndex (src : Nat) (n : Int) : Int := if src = 6 then n / 64 else n

/-! ### Retirement (R273, R293) -/

/-- RETIRED of a job: the newest line that every nib has retired. -/
def State.updRetired (s : State) (q j : Nat) : State :=
  let rs := (s.jobSlots q j).map (fun t => (s.nib q t).retired)
  match rs.foldl (fun (a : Option (Option Int)) r => some (match a, r with
      | none, r => r
      | some (some x), some y => some (min x y)
      | some _, _ => none)) none with
  | some (some n) => s.wrS (QUILL_JOB_RETIRED q j) n
  | _ => s

/-- Has job j of quill q retired line n of its plane, or does line n not wait for it (R266, R273)? -/
def State.jobRetired (s : State) (q j : Nat) (n : Int) : Bool :=
  match (s.job q j).l0 with
  | none => true
  | some l0 => decide (n < l0) || (s.jobSlots q j).all (fun t => match (s.nib q t).retired with
      | some r => decide (n ≤ r)
      | none => false)

/-- Coverage of lines a nib did not process, in pieces of 65,536 lines (R293). -/
def State.coverNib (s : State) (q j l : Nat) (a b : Int) (detail x w : Nat) : State :=
  let xb := s.rd STITCH_XBASE
  let k := (b - a + 65536).toNat / 65536
  (List.range k).foldl (fun s (i : Nat) =>
    let lo := a + 65536 * (i : Int)
    let hi := min b (lo + 65535)
    if s.jobCoarse q j then s.cover (4 * lo) (4 * hi + 3) (xb + 4 * x) (xb + 4 * (x + w) - 1) 0x71 8 detail l
    else s.cover lo hi (xb + x) (xb + x + w - 1) 0x71 8 detail l) s

/-- The run of lines retired on a nib's behalf ends, and its coverage is published (R293). -/
def State.endLost (s : State) (q t : Nat) : State :=
  let n := s.nib q t
  match n.lost with
  | some (a, b) =>
    let s := s.setNib q t { n with lost := none }
    let l := s.roleOf q t
    s.coverNib q n.job 0 a b (q * 256 + l) (s.coreX q n.job l) (s.stripeW q n.job)
  | none => s

/-- Line n of a job is retired on the behalf of the nib in a slot (R293); `cover` is false in M11 HALT
(R301). -/
def State.retireBehalf (s : State) (q j t : Nat) (n : Int) (cover : Bool) : State :=
  let x := s.nib q t
  let a := x.next.getD n
  if n < a then s
  else
    let s := s.bump (QUILL_JOB_LINES_LOST q j) (n - a + 1).toNat
    let lost := if cover then (match x.lost with
        | some (f, _) => some (f, n)
        | none => some (a, n)) else x.lost
    let s := s.setNib q t { x with next := some (n + 1), retired := some n, lost := lost, skipped := x.skipped + (n - a + 1).toNat }
    match lost with
    | some (f, l) => if 65536 ≤ l - f + 1 then s.endLost q t else s
    | none => s

/-- A line of a plane has been formed: it is retired on the behalf of nibs that do not process it, and
nibs that resume at the next line formed do so (R293, R294, R301). -/
def State.quillLine (s : State) (coarse : Bool) (n : Int) : State :=
  (List.range 12).foldl (fun s q => (List.range 4).foldl (fun s j =>
    if s.jobOn q j && !s.jobQueue q j && s.jobCoarse q j == coarse && (match (s.job q j).l0 with
        | some l0 => decide (l0 ≤ n)
        | none => false) then
      let s := (s.jobSlots q j).foldl (fun s t =>
        let x := s.nib q t
        if x.resume then
          let s := if x.next.getD n < n then s.retireBehalf q j t (n - 1) true else s
          let s := s.endLost q t
          let x := s.nib q t
          let fill := (s.winsOn q j).foldl (fun m w => spSet (fun _ => 0) m w (winIndex (s.winSrc q j w) n)) []
          let zero := (s.winsOn q j).foldl (fun m w =>
            spClear m (s.winBase q j w) (s.winBase q j w + s.winRows q j w * s.pitchOf q j w)) x.mem
          s.setNib q t { x with resume := false, behalf := false, restart := true, next := some n
                                fill := fill, mem := zero }
        else if x.behalf || s.mode = 11 then s.retireBehalf q j t n (s.mode != 11)
        else s) s
      s.updRetired q j
    else s) s) s

/-- A line of the job's plane starts to form: jobs whose INIT runs have ended take it as their start line,
with the lines not inspected before it published (R266). [DEDUCED, log 79; DEDUCED, log 86] -/
def State.jobStarts (s : State) (coarse : Bool) (n : Int) : State :=
  (List.range 12).foldl (fun s q => (List.range 4).foldl (fun s j =>
    if s.jobOn q j && !s.jobQueue q j && s.jobCoarse q j == coarse then
      let x := s.job q j
      let first := x.first.getD n
      let s := s.setJob q j { x with first := some first }
      if x.waitStart then
        let s := s.setJob q j { x with first := some first, waitStart := false, l0 := some n }
        let s := s.wrS (QUILL_JOB_START_LINE q j) n
        let w := s.stripeW q j * (s.jobNibs q j).length
        let s := if first < n then
            s.coverNib q j 0 first (n - 1) (q * 256 + 0x80 + j) (s.rd (QUILL_JOB_X0 q j)) w
          else s
        (s.jobSlots q j).foldl (fun s t =>
          let y := s.nib q t
          let fill := (s.winsOn q j).foldl (fun m w => spSet (fun _ => 0) m w (winIndex (s.winSrc q j w) n)) []
          let zero := (s.winsOn q j).foldl (fun m w =>
            spClear m (s.winBase q j w) (s.winBase q j w + s.winRows q j w * s.pitchOf q j w)) y.mem
          s.setNib q t { y with next := some n, retired := some (n - 1), fill := fill, mem := zero
                                restart := true, resume := false, prev := none, skipped := 0 }) s
      else s
    else s) s) s

/-- On entry to M11 HALT the lines not invoked in time are retired without coverage; answers the lowest
fine line so retired (R301, R440). -/
def State.quillHalt (s : State) (fine coarse : Option Int) : Option Int × State :=
  (List.range 12).foldl (fun acc q => (List.range 4).foldl (fun (acc : Option Int × State) j =>
    let s := acc.2
    let newest := if s.jobCoarse q j then coarse else fine
    if s.jobOn q j && !s.jobQueue q j then
      match newest with
      | some n =>
        let low := (s.jobSlots q j).foldl (fun (a : Option Int) t =>
          match (s.nib q t).next with
          | some x => if x ≤ n then some (match a with
              | some y => min x y
              | none => x) else a
          | none => a) none
        let s := ((s.jobSlots q j).foldl (fun s t => s.retireBehalf q j t n false) s).updRetired q j
        let low := low.map (fun x => if s.jobCoarse q j then 4 * x else x)
        (match acc.1, low with
          | some a, some b => some (min a b)
          | none, b => b
          | a, none => a, s)
      | none => acc
    else acc) acc) (none, s)

end Sys2Proof.Machine
end

