-- ==== Sys2Proof/Machine/Profile.lean ====
section
/-! DEFINITION. The profile engine and the sensor port (R169 to R184). -/

namespace Sys2Proof.Machine

open Sys2Proof

def State.pch (s : State) (c : Nat) : ProfCh := spGet (fun _ => {}) s.prof.chans c
def State.setPch (s : State) (c : Nat) (x : ProfCh) : State :=
  { s with prof := { s.prof with chans := spSet (fun _ => {}) s.prof.chans c x } }
def State.profReject (s : State) (off v : Nat) : State :=
  s.reject PROFILE_STATUS_CFG_REJECT srcProfile off v

/-- SRC values of a channel (R169). -/
def profOff : Nat := 0
def profFine : Nat := 1
def profCoarse : Nat := 2
def profSensor : Nat := 3
def profProfile : Nat := 4

/-- Saturation to signed 24.8, with whether it acted (R174). -/
def sat32 (i : Int) : Int × Bool := (satS 32 i, satS 32 i != i)

/-! ### The stages (R171 to R174) -/

/-- Two's complement modulo 2^96. -/
def wrap96 (i : Int) : Int := signed 96 (toBits 96 i)

/-- The integrators take an input: each adds the one before it (R171). -/
def integrate : List Int → Int → List Int
  | [], _ => []
  | i :: is, x => let j := wrap96 (i + x); j :: integrate is j

/-- The combs take a decimated value: each subtracts its previous input (R171). -/
def combs : List Int → Int → List Int × Int
  | [], y => ([], y)
  | p :: ps, y => let r := combs ps (wrap96 (y - p)); (y :: r.1, r.2)

/-- The CIC stage takes an input; its output, if any, normalised, with whether it saturated (R171). -/
def cicStep (k d nm ne : Nat) (c : ProfCh) (x : Int) : ProfCh × Option (Int × Bool) :=
  let is := integrate (padTo 0 k c.integ) x
  if c.cicN + 1 < d then ({ c with integ := is, cicN := c.cicN + 1 }, none)
  else
    let r := combs (padTo 0 k c.comb) (is.getLast?.getD x)
    ({ c with integ := is, cicN := 0, comb := r.1 }, some (sat32 (rneShift (r.2 * nm) ne)))

/-- The exact sum of a symmetric filter of `t` taps, newest input first. -/
def firSum (coef : Nat → Int) (t : Nat) (line : List Int) : Int :=
  sumTo t (fun j => coef j * nth 0 line j)

/-- Tap j of a halfband design of order m (R172). -/
def hbTap (coef : Nat → Int) (m j : Nat) : Int :=
  let c := 2 * m - 1
  if j = c then (2 : Int) ^ 21
  else
    let o := if j < c then c - j else j - c
    if o % 2 = 1 then coef (o / 2) else 0

/-- A halfband stage takes an input (R172). -/
def hbStep (coef : Nat → Int) (m : Nat) (st : List Int × Nat) (x : Int) :
    (List Int × Nat) × Option (Int × Bool) :=
  let line := (x :: st.1).take (4 * m - 1)
  if st.2 % 2 = 0 then ((line, 1), none)
  else ((line, 0), some (sat32 (rneShift (firSum (hbTap coef m) (4 * m - 1) line) 22)))

/-- The halfband stages in order from stage `i`; answers the new stages, the output, and the stages
that saturated. -/
def hbChain (coef : Nat → Nat → Int) (order : Nat → Nat) :
    Nat → List (List Int × Nat) → Int → List (List Int × Nat) × Option Int × List Nat
  | _, [], x => ([], some x, [])
  | i, st :: rest, x =>
    let r := hbStep (coef i) (order i) st x
    match r.2 with
    | none => (r.1 :: rest, none, [])
    | some (y, o) =>
      let q := hbChain coef order (i + 1) rest y
      (r.1 :: q.1, q.2.1, (if o then [i + 1] else []) ++ q.2.2)

/-- The design of halfband stage i of channel c. -/
def State.hbDesign (s : State) (c i : Nat) : Nat :=
  s.rd (if i = 0 then PROFILE_CH_HB_HB0 c else if i = 1 then PROFILE_CH_HB_HB1 c else PROFILE_CH_HB_HB2 c)

/-- An input sample passes the chain of channel c: the output, if any, and the stages that
saturated (R171 to R174). Stages number from 0, the CIC stage. [DEDUCED, log 52] -/
def State.chain1 (s : State) (c : Nat) (x : Int) : ProfCh × Option Int × List Nat :=
  let h := s.pch c
  let r := cicStep (s.rd (PROFILE_CH_CIC_K c)) (s.rd (PROFILE_CH_CIC_D c))
    (s.rd (PROFILE_CH_CIC_NORM_NORM_M c)) (s.rd (PROFILE_CH_CIC_NORM_NORM_E c)) h x
  match r.2 with
  | none => (r.1, none, [])
  | some (y, o) =>
    let nhb := s.rd (PROFILE_CH_HB_NHB c)
    let q := hbChain (fun i k => s.rdS (PROFILE_HB_COEF (s.hbDesign c i) k))
      (fun i => s.rd (PROFILE_HB_CFG (s.hbDesign c i))) 0 (padTo ([], 0) nhb r.1.hb) y
    let sats := (if o then [0] else []) ++ q.2.2
    let h := { r.1 with hb := q.1 }
    match q.2.1 with
    | none => (h, none, sats)
    | some z =>
      if s.on (PROFILE_CH_FIR_FIR_EN c) then
        let t := s.rd (PROFILE_CH_FIR_T c)
        let set := s.rd (PROFILE_CH_FIR_SET c)
        let line := (z :: h.fir).take t
        if h.firN + 1 < s.rd (PROFILE_CH_FIR_FR c) then
          ({ h with fir := line, firN := h.firN + 1 }, none, sats)
        else
          let w := sat32 (rneShift (firSum (fun j => s.rdS (PROFILE_FIR_COEF set (min j (t - 1 - j)))) t line) 22)
          ({ h with fir := line, firN := 0 }, some w.1, sats ++ (if w.2 then [nhb + 1] else []))
      else (h, some z, sats)

/-! ### Detectors (R180, R181) -/

/-- round_even(sqrt(S / N)) for N above 0. -/
def rmsOf (sum n : Nat) : Nat :=
  let r := isqrt (sum / n)
  let h := n * (4 * r * r + 4 * r + 1)
  if h < 4 * sum then r + 1 else if h = 4 * sum then r + r % 2 else r

/-- The detector window of channel c closes (R180); the envelope goes on. [DEDUCED, log 52] -/
def State.detClose (s : State) (c : Nat) : State :=
  let h := s.pch c
  let d := h.det
  let s := s.setPch c { h with det := { env := d.env } }
  if d.n = 0 then
    ((((s.wr (PROFILE_CH_DET_MAX c) 0).wr (PROFILE_CH_DET_MIN c) 0).wr (PROFILE_CH_DET_RMS c) 0).wr
      (PROFILE_CH_DET_ENV c) 0).wr (PROFILE_CH_DET_N c) 0
  else
    ((((s.wrS (PROFILE_CH_DET_MAX c) (d.max.getD 0)).wrS (PROFILE_CH_DET_MIN c) (d.min.getD 0)).wr
      (PROFILE_CH_DET_RMS c) (rmsOf d.sumsq d.n)).wr (PROFILE_CH_DET_ENV c)
        (rneShift d.env 16).toNat).wr (PROFILE_CH_DET_N c) d.n

/-- A settled output updates the detectors (R180). -/
def DetWin.take (d : DetWin) (x : Int) (att rel : Nat) : DetWin :=
  let a := (x.natAbs : Int) * 65536
  let k := if d.env < a then att else rel
  { max := some (match d.max with
      | some m => if m < x then x else m
      | none => x)
    min := some (match d.min with
      | some m => if x < m then x else m
      | none => x)
    sumsq := d.sumsq + x.natAbs * x.natAbs
    n := d.n + 1
    env := d.env + rneShift (a - d.env) k }

/-- The limits of channel c are tested on a settled output (R181). -/
def State.testLimits (s : State) (c : Nat) (x : Int) : State :=
  let h := s.pch c
  let q := if s.on (PROFILE_CH_CTRL_DET_SEL c) then rneShift h.det.env 16 else x
  let hi := decide (s.rdS (PROFILE_CH_LIMIT_HI c) < q)
  let lo := decide (q < s.rdS (PROFILE_CH_LIMIT_LO c))
  let new := (hi && !h.hiOut) || (lo && !h.loOut)
  let s := s.setPch c { h with hiOut := hi, loOut := lo }
  let s := if hi && !h.hiOut then s.set1 (PROFILE_CH_STATUS_LIMIT_HI c) else s
  let s := if lo && !h.loOut then s.set1 (PROFILE_CH_STATUS_LIMIT_LO c) else s
  if new && s.on (PROFILE_CH_CTRL_LIMIT_EV c) then s.occur 223 else s

/-! ### Outputs (R182) -/

/-- The 16-byte output record goes to its ring (R182). -/
def State.profRecord (s : State) (c flags idx : Nat) (v pos : Int) : State :=
  let r := s.rd (PROFILE_CH_CTRL_RING c)
  let depth := s.rd (PROFILE_RING_CFG_DEPTH r)
  let wr := s.rd (PROFILE_RING_CFG_WR r)
  if !s.on (PROFILE_CH_CTRL_RING_EN c) || depth = 0 then s
  else if ringFull wr (s.rd (PROFILE_RING_RD r)) depth then
    let was := s.on PROFILE_STATUS_RING_DROP
    let s := (s.bump (PROFILE_RING_DROPPED r)).set1 PROFILE_STATUS_RING_DROP
    if was then s else s.fault srcProfile 0x3141 (slot1 r ++ slot1 c)
  else
    let bs := [c % 256, flags] ++ leBytes 2 idx ++ leBytes 4 (toBits 32 v) ++ leBytes 8 (toBits 64 pos)
    (s.dramPut (s.rd (PROFILE_RING_BASE r) + 16 * wr) bs clsTable).wr (PROFILE_RING_CFG_WR r)
      ((wr + 1) % depth)

/-- An output of channel c with the position of its newest input (R177, R180 to R182). -/
def State.profOutput (s : State) (c : Nat) (v pos : Int) : State :=
  let idx := s.rd (PROFILE_CH_OUT_COUNT c)
  let u := s.rd (PROFILE_CH_UNSETTLED c)
  let raw := decide (idx < u)
  let h := s.pch c
  let sat := h.sat
  let hole := h.hole
  let s := s.setPch c { h with sat := false, hole := false }
  let s :=
    if raw then s
    else
      let h := s.pch c
      let s := s.setPch c { h with
        det := h.det.take v (s.rd (PROFILE_CH_DET_CFG_ATT c)) (s.rd (PROFILE_CH_DET_CFG_REL c)) }
      let s := s.testLimits c v
      let win := s.rd (PROFILE_CH_DET_CFG_DET_WIN c)
      if win != 0 && decide (win ≤ (s.pch c).det.n) then s.detClose c else s
  let h := s.pch c
  let s := (s.wrS (PROFILE_CH_LAST_VALUE c) v).wrS (PROFILE_CH_LAST_POS c) pos
  let s := s.wr (PROFILE_CH_OUT_COUNT c) (idx + 1)
  let s := s.wr (PROFILE_CH_STATUS_SETTLED c) (b2n (decide (u ≤ idx + 1)))
  let flags := b2n raw + 2 * b2n sat + 4 * b2n hole + 8 * b2n (h.hiOut && !raw) + 16 * b2n (h.loOut && !raw)
  s.profRecord c flags (idx % 65536) v pos

/-- A saturation at a stage (R174). [DEDUCED, log 52] -/
def State.profSat (s : State) (c stage : Nat) : State :=
  let s := s.setPch c { s.pch c with sat := true }
  if s.on (PROFILE_CH_STATUS_SAT c) then s
  else (s.set1 (PROFILE_CH_STATUS_SAT c)).fault srcProfile 0x3142 (slot1 c ++ slot1 stage)

/-- An input sample, signed 24.8 with its position, enters channel c; an output goes on to every
enabled channel that takes it (R169). -/
def State.profInput : Nat → Nat → Int → Int → State → State
  | 0, _, _, _, s => s
  | k + 1, c, x, pos, s =>
    let r := s.chain1 c x
    let s := s.setPch c { r.1 with prevIn := x }
    let s := r.2.2.foldl (fun s st => s.profSat c st) s
    match r.2.1 with
    | none => s
    | some v =>
      let s := s.profOutput c v pos
      ((List.range 256).filter (fun d => decide (c < d))).foldl (fun s d =>
        if s.on (PROFILE_CH_CTRL_EN d) && s.rd (PROFILE_CH_CTRL_SRC d) == profProfile
            && s.rd (PROFILE_CH_ARG0 d) == c then State.profInput k d v pos s else s) s

/-- The zone sample of a line: round_even(256 × S / k), or none without a valid pixel (R169). -/
def zoneSample (lo hi ch : Nat) (px : List (Option (Nat × Nat × Nat))) : Option Int :=
  let vs := ((px.drop lo).take (hi + 1 - lo)).filterMap (fun p => p.map (chan ch))
  match vs with
  | [] => none
  | vs => some (rneDiv (256 * (vs.foldl (· + ·) 0 : Nat)) vs.length)

/-- A line of a plane enters the channels of a source (R169, R170, R179): `line` is N, or 4V. -/
def State.profLine (s : State) (src : Nat) (line : Int) (px : List (Option (Nat × Nat × Nat))) : State :=
  (List.range 256).foldl (fun s c =>
    let late := match (s.pch c).syncLine with
      | some l => decide (line < l)
      | none => false
    if !s.on (PROFILE_CH_CTRL_EN c) || s.rd (PROFILE_CH_CTRL_SRC c) != src || late then s
    else
      match zoneSample (s.rd (PROFILE_CH_ARG0 c)) (s.rd (PROFILE_CH_ARG1 c)) (s.rd (PROFILE_CH_CTRL_CH c)) px with
      | some x => State.profInput 256 c x (linePos line) s
      | none =>
        let was := s.on (PROFILE_CH_STATUS_HOLE c)
        let s := (s.set1 (PROFILE_CH_STATUS_HOLE c)).bump (PROFILE_CH_HOLES c)
        let s := if was then s else s.fault srcProfile 0x3143 (slot1 c ++ slotLine line)
        let h := s.pch c
        let s := s.setPch c { h with hole := true }
        State.profInput 256 c h.prevIn (linePos line) s) s

/-! ### Enabling (R175 to R177) -/

/-- The first check of R175 that fails. -/
def State.profCheck (s : State) (c : Nat) : Option Nat :=
  let k := s.rd (PROFILE_CH_CIC_K c)
  let d := s.rd (PROFILE_CH_CIC_D c)
  let src := s.rd (PROFILE_CH_CTRL_SRC c)
  let a0 := s.rd (PROFILE_CH_ARG0 c)
  let a1 := s.rd (PROFILE_CH_ARG1 c)
  let fir := s.on (PROFILE_CH_FIR_FIR_EN c)
  let fr := s.rd (PROFILE_CH_FIR_FR c)
  let t := s.rd (PROFILE_CH_FIR_T c)
  let w := if src = profFine then s.width else s.width / 4
  let badHb := (List.range (s.rd (PROFILE_CH_HB_NHB c))).any (fun i =>
    let m := s.rd (PROFILE_HB_CFG (s.hbDesign c i))
    decide (m < 2) || decide (8 < m))
  if k = 0 || 5 < k then some 1
  else if d = 0 || 4096 < d then some 2
  else if fir && (fr == 0 || decide (16 < fr)) then some 3
  else if fir && (t == 0 || decide (128 < t)) then some 4
  else if badHb then some 5
  else if (src == profFine || src == profCoarse) && (decide (a1 < a0) || decide (w ≤ a1)) then some 6
  else if src == profSensor && (decide (7 < a0) || !bitAt (s.rd SENSOR_CTRL_CH_EN) a0) then some 7
  else if src == profProfile && (decide (c ≤ a0) || !s.on (PROFILE_CH_CTRL_EN a0)
      || s.rd (PROFILE_CH_CTRL_GROUP a0) != s.rd (PROFILE_CH_CTRL_GROUP c)) then some 8
  else if s.rd (PROFILE_CH_CIC_NORM_NORM_M c) = 0 then some 9
  else none

/-- PROFILEc_DELAY: the group delay in input samples, 24.8 (R176). -/
def State.profDelay (s : State) (c : Nat) : Nat :=
  let d := s.rd (PROFILE_CH_CIC_D c)
  let nhb := s.rd (PROFILE_CH_HB_NHB c)
  let hb := (List.range nhb).map (fun i =>
    (4 * s.rd (PROFILE_HB_CFG (s.hbDesign c i)) - 2) * 128 * d * 2 ^ i)
  let fir := if s.on (PROFILE_CH_FIR_FIR_EN c) then (s.rd (PROFILE_CH_FIR_T c) - 1) * 128 * d * 2 ^ nhb else 0
  s.rd (PROFILE_CH_CIC_K c) * (d - 1) * 128 + hb.foldl (· + ·) 0 + fir

/-- One step of the recurrence of R177. -/
def nextU (u t r : Nat) : Nat := (u + t - r + (r - 1)) / r

/-- PROFILEc_UNSETTLED: the outputs flagged after a sync (R177). -/
def State.profU (s : State) (c : Nat) : Nat :=
  let d := s.rd (PROFILE_CH_CIC_D c)
  let u0 := if s.rd (PROFILE_CH_CTRL_SRC c) = profProfile then
    s.rd (PROFILE_CH_UNSETTLED (s.rd (PROFILE_CH_ARG0 c))) else 0
  let u1 := nextU u0 (s.rd (PROFILE_CH_CIC_K c) * (d - 1) + 1) d
  let u2 := (List.range (s.rd (PROFILE_CH_HB_NHB c))).foldl (fun u i =>
    nextU u (4 * s.rd (PROFILE_HB_CFG (s.hbDesign c i)) - 1) 2) u1
  if s.on (PROFILE_CH_FIR_FIR_EN c) then nextU u2 (s.rd (PROFILE_CH_FIR_T c)) (s.rd (PROFILE_CH_FIR_FR c))
  else u2

/-- A write of EN = 1 to a stopped channel (R175): it starts with an empty chain, or CONFIG_ERR.
[DEDUCED, log 52] -/
def State.profEnable (s : State) (c : Nat) : State :=
  if s.on (PROFILE_CH_CTRL_EN c) then s
  else
    match s.profCheck c with
    | some n =>
      ((s.set1 (PROFILE_CH_STATUS_CONFIG_ERR c)).wr (PROFILE_CH_STATUS_CHECK c) n).fault srcProfile
        0x3140 (slot1 c ++ slot1 n)
    | none =>
      let u := s.profU c
      let s := (s.set1 (PROFILE_CH_CTRL_EN c)).set1 (PROFILE_CH_STATUS_RUNNING c)
      let s := (s.wr (PROFILE_CH_DELAY c) (s.profDelay c)).wr (PROFILE_CH_UNSETTLED c) u
      let s := (s.wr (PROFILE_CH_OUT_COUNT c) 0).wr (PROFILE_CH_STATUS_SETTLED c) (b2n (u == 0))
      s.setPch c {}

/-- A write of EN = 0. -/
def State.profDisable (s : State) (c : Nat) : State :=
  (s.wr (PROFILE_CH_CTRL_EN c) 0).wr (PROFILE_CH_STATUS_RUNNING c) 0

/-- PROFILE_ENABLE (R175). -/
def execProfileEnable (c : Fin 256) (s : State) : Host.Outcome State Fault Refusal :=
  .next (s.profEnable c.val)

/-! ### Synchronisation (R178, R179) -/

/-- A sync of group g with a sync line: applied once in a tick to every enabled channel (R178). -/
def State.profSync (s : State) (g : Nat) (line : Int) : State :=
  if spGet (fun _ => 0) s.prof.synced g = s.now + 1 then s
  else
    let s := { s with prof := { s.prof with synced := spSet (fun _ => 0) s.prof.synced g (s.now + 1) } }
    let s := (List.range 256).foldl (fun s c =>
      if s.on (PROFILE_CH_CTRL_EN c) && s.rd (PROFILE_CH_CTRL_GROUP c) == g then
        let s := s.setPch c { syncLine := some line, syncTick := some s.now }
        (s.wr (PROFILE_CH_OUT_COUNT c) 0).wr (PROFILE_CH_STATUS_SETTLED c)
          (b2n (s.rd (PROFILE_CH_UNSETTLED c) == 0))
      else s) s
    (s.bump (PROFILE_SYNC_COUNT g)).occur 224

/-- A write of 1 bits to PROFILE_SYNC (R178). -/
def State.profSyncMask (s : State) (groups : Nat) : State :=
  (List.range 16).foldl (fun s g => if bitAt groups g then s.profSync g (s.line + 1) else s) s

/-- PROFILE_SYNC (R178): a write of the register, or the consumer inputs PF_SYNCg. -/
def execProfileSync (groups : BitVec 16) (s : State) : Host.Outcome State Fault Refusal :=
  .next (s.profSyncMask groups.toNat)

/-- A write of PROFILE_SYNCg_AT_HI: the sync is offered at a position (R36, R178). -/
def State.profSyncAt (s : State) (g at64 : Nat) : State :=
  s.offer' (.profileSync g) (slotOf (signed 64 at64))

/-- PROFILE_SYNC_AT (R178). -/
def execProfileSyncAt (g : Fin 16) (at64 : BitVec 64) (s : State) : Host.Outcome State Fault Refusal :=
  .next (s.profSyncAt g.val at64.toNat)

/-- PROFILE_SYNC_ACTION (R38, R178, R179): the scheduled sync that is due is applied; its sync line is
the slot rounded up to a whole line. -/
def execProfileSyncAction (s : State) : Host.Outcome State Fault Refusal :=
  match s.takeDue (fun a => match a with
    | .profileSync _ => true
    | _ => false) with
  | some (e, s) =>
    match e.act with
    | .profileSync g => .next (s.profSync g (ceilDiv e.slot 256))
    | _ => .next s
  | none => .next s

/-- DET_LATCH (R180). -/
def execDetLatch (c : Fin 256) (s : State) : Host.Outcome State Fault Refusal := .next (s.detClose c.val)

/-! ### Sensor port (R183, R184) -/

/-- A start of the sensor port in this tick (R183, R184). -/
def State.sensorStart (s : State) : State :=
  match s.sens.start with
  | some (t, _) =>
    if t = s.now then s
    else
      let was := s.on SENSOR_STATUS_OVERRUN
      let s := (s.bump SENSOR_SKIPPED).set1 SENSOR_STATUS_OVERRUN
      if was then s else s.fault srcSensor 0x3150 (slot2 s.now)
  | none =>
    ({ s with sens := { s.sens with start := some (s.now, s.pos16) } }).set1 SENSOR_STATUS_BUSY

/-- A start from the consumer input SN_START (R183). -/
def State.sensorEvent (s : State) : State :=
  if s.on SENSOR_CTRL_EN && s.on SENSOR_CTRL_START_SRC then s.sensorStart else s

/-- A start from the timer (R183). -/
def State.sensorTimer (s : State) : State :=
  let period := s.rd SENSOR_PERIOD
  match s.sens.timer with
  | some t =>
    if s.on SENSOR_CTRL_EN && !s.on SENSOR_CTRL_START_SRC && period != 0 && decide (t ≤ s.now) then
      ({ s with sens := { s.sens with timer := some (t + period) } }).sensorStart
    else s
  | none => s

/-- SENSOR_START (R183, R184): a timer start that is due, or a delivery to SN_START. -/
def execSensorStart (byEvent : Bool) (s : State) : Host.Outcome State Fault Refusal :=
  .next (if byEvent then s.sensorEvent else s.sensorTimer)

/-- A write of SENSOR_CTRL.EN. -/
def State.sensorEn (s : State) (en : Bool) : State :=
  if en && !s.on SENSOR_CTRL_EN then
    ({ s with sens := { s.sens with timer := some (s.now + 1) } }).set1 SENSOR_CTRL_EN
  else s.wr SENSOR_CTRL_EN (b2n en)

/-- A raw sample as a signed number (R183). -/
def sensorValue (bits format raw : Nat) : Int :=
  signed bits (if format = 1 then (raw + 2 ^ (bits - 1)) % 2 ^ bits else raw)

/-- Ticks of a transfer (R183). -/
def State.sensorTicks (s : State) : Nat :=
  s.rd SENSOR_TIMING_CONV + 2 * s.rd SENSOR_CTRL_BITS * (s.rd SENSOR_TIMING_DIV + 1)

/-- SENSOR_TRANSFER_DONE (R183): the transfer ends with the bits each SN_SDOi gave. -/
def execSensorTransferDone (raw : List (BitVec 24)) (s : State) : Host.Outcome State Fault Refusal :=
  match s.sens.start with
  | none => .next s
  | some (t, p) =>
    if s.now < t + s.sensorTicks then .next s
    else
      let s := ({ s with sens := { s.sens with start := none } }).wr SENSOR_STATUS_BUSY 0
      let s := ((s.wr SENSOR_SAMPLE_TICK t).wrS SENSOR_SAMPLE_POS p).bump SENSOR_COUNT
      .next ((List.range 8).foldl (fun s i =>
        if bitAt (s.rd SENSOR_CTRL_CH_EN) i then
          let v := sensorValue (s.rd SENSOR_CTRL_BITS) (s.rd SENSOR_CTRL_FORMAT) (nth 0 raw i).toNat
          let s := s.wrS (SENSOR_CH i) v
          (List.range 256).foldl (fun s c =>
            let late := match (s.pch c).syncTick with
              | some q => decide (t ≤ q)
              | none => false
            if s.on (PROFILE_CH_CTRL_EN c) && s.rd (PROFILE_CH_CTRL_SRC c) == profSensor
                && s.rd (PROFILE_CH_ARG0 c) == i && !late then
              State.profInput 256 c (v * 256) p s
            else s) s
        else s) s)

end Sys2Proof.Machine
end

