-- ==== Sys2Proof/Machine/Stitch.lean ====
section
/-! DEFINITION. The stitcher's commands (R132 to R155): enabling, commits, forming stitched lines, the
fine and the coarse plane, and lines not formed. -/

namespace Sys2Proof.Machine

open Sys2Proof

/-- Rejected write of a stitcher register. -/
def State.stitchReject (s : State) (off v : Nat) : State :=
  s.reject STITCH_STATUS_CFG_REJECT srcStitch off v

/-! ### Layout checks (R134) -/

/-- The entry with the least key, the first on a tie. -/
def leastBy {α : Type} (key : α → Nat) : List α → Option α
  | [] => none
  | x :: xs =>
    match leastBy key xs with
    | none => some x
    | some y => if key y < key x then some y else some x

/-- The entry with the greatest key, the last on a tie. -/
def greatestBy {α : Type} (key : α → Nat) : List α → Option α
  | [] => none
  | x :: xs =>
    match greatestBy key xs with
    | none => some x
    | some y => if key y < key x then some x else some y

/-- Does a span of an enabled camera hold column c? -/
def State.holds (s : State) (k c : Nat) : Bool :=
  decide (s.spanFirst k ≤ c) && decide (c ≤ s.spanLast k)

/-- Is camera k's span wholly inside another enabled camera's? -/
def State.insideOther (s : State) (k : Nat) : Bool :=
  s.cams.any (fun j => j != k && decide (s.spanFirst j ≤ s.spanFirst k) && decide (s.spanLast k ≤ s.spanLast j))

/-- Columns in which spans j and k overlap. -/
def State.overlap (s : State) (j k : Nat) : Nat :=
  min (s.spanLast j) (s.spanLast k) + 1 - max (s.spanFirst j) (s.spanFirst k)

/-- The first layout check that fails, with the camera it names (R134). -/
def State.layoutCheck (s : State) : Option (Nat × Nat) :=
  let w := s.width
  let cs := s.cams
  let bad3 := cs.find? (fun k => decide (s.spanLast k < s.spanFirst k) || decide (w ≤ s.spanLast k))
  let gap := leastBy id ((0 :: cs.map (fun k => s.spanLast k + 1)).filter (fun c =>
    decide (c < w) && !(cs.any (fun k => s.holds k c))))
  let meet := leastBy id ((cs.filter (fun k => s.insideOther k
    || decide (3 ≤ (cs.filter (fun j => s.holds j (s.spanFirst k))).length))).map s.spanFirst)
  let pairs := cs.flatMap (fun j => (cs.filter (fun k => decide (j < k))).map (fun k => (j, k)))
  let wide := leastBy (fun (e : Nat × Nat) => max (s.spanFirst e.1) (s.spanFirst e.2))
    (pairs.filter (fun e => decide (512 < s.overlap e.1 e.2)))
  if w % 4 != 0 || decide (w < 4) || decide (180224 < w) then some (1, 0)
  else if cs.isEmpty then some (2, 0)
  else
    match bad3, gap, meet, wide with
    | some k, _, _, _ => some (3, k)
    | none, some c, _, _ =>
      match leastBy s.spanFirst (cs.filter (fun k => decide (c < s.spanFirst k))) with
      | some k => some (4, k)
      | none => some (4, ((cs.reverse.filter (fun k => decide (s.spanLast k < c))).foldl (fun a k =>
          match a with
          | some j => if s.spanLast j ≤ s.spanLast k then some k else some j
          | none => some k) none).getD 0)
    | none, none, some c, _ =>
      some (5, (greatestBy s.spanFirst (cs.filter (fun k => s.holds k c))).getD 0)
    | none, none, none, some (j, k) => some (6, (greatestBy s.spanFirst [j, k]).getD 0)
    | none, none, none, none =>
      if 196608 < cs.foldl (fun a k => a + (s.spanLast k + 1 - s.spanFirst k)) 0 then some (7, 0) else none

/-- A write of EN = 1 (R134, R147): the layout is checked, and the stitcher starts with an empty seam
buffer; a failed check leaves EN 0. [DEDUCED, log 45] -/
def State.stitchEnable (s : State) : State :=
  if s.on STITCH_CTRL_EN then s
  else
    match s.layoutCheck with
    | some (n, k) =>
      let s := (s.set1 STITCH_STATUS_GEOM_ERR).wr STITCH_INFO_CHECK n
      (s.wr STITCH_INFO_CHECK_CAM k).fault srcStitch 0x3004 (slot1 n ++ slot1 k)
    | none =>
      let s := s.set1 STITCH_CTRL_EN
      { s with stitch := { s.stitch with seam := [], staging := [], overrun := [], firstAll := none } }

/-- A write of EN = 0: forming ends, and the lines after the last one formed count as not formed as
the web passes (R147). [DEDUCED, log 45] -/
def State.stitchDisable (s : State) : State :=
  let s := s.endRuns
  let u := match s.stitch.started, s.stitch.unformed with
    | some a, some b => some (max a b)
    | some a, none => some a
    | none, b => b
  let s := { s with stitch := { s.stitch with started := none, unformed := u } }
  (s.wr STITCH_CTRL_EN 0).wr STITCH_STATUS_FORMING 0

/-- STITCH_ENABLE (R134). -/
def execStitchEnable (s : State) : Host.Outcome State Fault Refusal := .next s.stitchEnable

/-! ### Commits (R140) -/

/-- The status bits that follow the commit state. -/
def State.updStitch (s : State) : State :=
  let c := s.stitch.commit
  (s.wr STITCH_STATUS_SET_VALID (b2n c.active.isSome)).wr STITCH_STATUS_COMMIT_PENDING (b2n (!c.pend.isEmpty))

/-- COMMIT or CANCEL of the stitcher. -/
def State.stitchCommit (s : State) (cancel : Bool) : State :=
  let c := s.stitch.commit
  let c := if cancel then c.cancel else c.record s.now none
  (({ s with stitch := { s.stitch with commit := c } }).updStitch).offerCommit .stitch

/-- STITCH_COMMIT (R105, R140). -/
def execStitchCommit (cancel : Bool) (s : State) : Host.Outcome State Fault Refusal :=
  .next (s.stitchCommit cancel)

/-- The least and greatest o(u) of camera k's span in a set (R141). -/
def State.offsetRange (s : State) (t : SettingsSet) (k : Nat) : Int × Int :=
  let a := lineOffset t k 0
  let b := lineOffset t k ((s.spanLast k : Int) - s.spanFirst k)
  (min a b, max a b)

/-- A set of the stitcher is applied: O_LO and O_HI of each enabled camera (R141, R143). -/
def State.stitchApplied (s : State) (t : SettingsSet) : State :=
  let s := s.cams.foldl (fun s k =>
    let r := s.offsetRange t k
    let s := (s.wrS (STITCH_CAM_O_LO k) r.1).wrS (STITCH_CAM_O_HI k) r.2
    if r.1 ≤ -23 * 65536 || 22 * 65536 < r.2 then
      (s.set1 (STITCH_CAM_STATUS_OFFSET_RANGE k)).fault srcStitch 0x3001
        (slot1 k ++ slotI r.1 ++ slotI r.2)
    else s) s
  s.seedOnSet t.start

/-! ### Kerf statistics (R151) -/

/-- Kerfs: number, left and right camera, and K. -/
def kerfPairs : Nat → List Nat → List (Nat × Nat × Nat)
  | j, a :: b :: rest => (j, a, b) :: kerfPairs (j + 1) (b :: rest)
  | _, _ => []

def State.kerfs (s : State) : List (Nat × Nat × Nat) := kerfPairs 0 s.camRow

/-- K of the kerf between a left and a right camera. -/
def State.kerfWidth (s : State) (a b : Nat) : Nat := s.spanLast a + 1 - s.spanFirst b

/-- A column where both sides of a kerf are valid joins its sums. -/
def State.addKerf (s : State) (c : FormedCol) : State :=
  match c.vals with
  | [(_, some a), (kr, some b)] =>
    match (s.kerfs).find? (fun e => e.2.2 == kr) with
    | some (j, _, _) =>
      let x := spGet (fun _ => {}) s.stitch.kerf j
      let x : KerfAcc :=
        { left := [0, 1, 2].map (fun i => nth 0 x.left i + chan i a)
          right := [0, 1, 2].map (fun i => nth 0 x.right i + chan i b)
          count := x.count + 1 }
      { s with stitch := { s.stitch with kerf := spSet (fun _ => {}) s.stitch.kerf j x } }
    | none => s
  | _ => s

/-- A mean rounded convergently, 0 without samples. -/
def meanOf (sum n : Nat) : Nat := if n = 0 then 0 else (rneDiv sum n).toNat

/-- The kerf statistics of a frame close (R151). [DEDUCED, log 44] -/
def State.closeKerfs (s : State) (frame : Nat) : State :=
  let s := s.kerfs.foldl (fun s (e : Nat × Nat × Nat) =>
    let j := e.1
    let w := s.kerfWidth e.2.1 e.2.2
    if w = 0 then s
    else
      let x := spGet (fun _ => {}) s.stitch.kerf j
      let both (c : Nat) : Nat := meanOf (nth 0 x.left c) x.count + meanOf (nth 0 x.right c) x.count * 65536
      let s := s.wr (STITCH_KERF_CAMS j) (e.2.1 + e.2.2 * 2 ^ 8 + w * 2 ^ 16)
      let s := ((s.wr (STITCH_KERF_MEAN_R j) (both 0)).wr (STITCH_KERF_MEAN_G j) (both 1)).wr
        (STITCH_KERF_MEAN_B j) (both 2)
      (s.wr (STITCH_KERF_FRAME j) frame).wr (STITCH_KERF_SAMPLES j) (min x.count (2 ^ 32 - 1))) s
  ({ s with stitch := { s.stitch with kerf := [] } }).occur 220

/-- The frame of the stitched line that starts; a new frame closes the statistics of the one before.
[DEDUCED, log 44] -/
def State.kerfFrameStep (s : State) (f : Int × Nat) : State :=
  let s := match s.stitch.kerfFrame with
    | some g => if g.1 = f.1 then s else s.closeKerfs g.2
    | none => s
  { s with stitch := { s.stitch with kerfFrame := some f } }

/-! ### Forming (R144 to R150) -/

/-- The generator the stitcher follows: that of a set, else the shadow's. -/
def State.stitchGen (s : State) (t : Option SettingsSet) : Nat :=
  match t with
  | some t => t.rd STITCH_CFG_FRAME_GEN
  | none => s.rd STITCH_CFG_FRAME_GEN

/-- Has camera k's context completed or declared lost a line? -/
def State.camAccounted (s : State) (k : Nat) (l : Int) : Bool :=
  match s.camCtx k with
  | some (p, x) => s.accounted p x l
  | none => false

/-- The lines of the seam window of line n still missing from camera k (R142, R144). -/
def State.windowMissing (s : State) (k : Nat) (n : Int) : List Int :=
  (tabulate 48 (fun (i : Nat) => n - 23 + (i : Int))).filter (fun l => !s.camAccounted k l)

/-- Line n is forced: every camera with missing lines is recorded (R144). -/
def State.recordForced (s : State) (n : Int) : State :=
  s.cams.foldl (fun s k =>
    match s.windowMissing k n with
    | l :: _ =>
      (s.set1 (STITCH_CAM_STATUS_SEAM_LATE k)).fault srcStitch 0x3002
        (slot1 k ++ slotLine n ++ slotLine l)
    | [] => s) (s.bump STITCH_FORCED)

/-- The stitched line n forms with a set (R138, R139, R148 to R151). -/
def State.formLine (s : State) (t : SettingsSet) (n : Int) (forced : Bool) (clk : Nat) : State :=
  let s := if s.stitch.started.isNone then (s.notFormedTo (n - 1)).flushNot else s
  let late (k : Nat) : List Int := if forced then s.windowMissing k n else []
  let cols := tabulate s.width (s.formCol t n late)
  let bad := gatherBad ((cols.zip (List.range cols.length)).map (fun e => (e.2, e.1.bad)))
  let before := (s.stitch.commit.setFor (n - 1)).map (·.start)
  let s := if before = some t.start then s else s.endRuns
  let s := s.updRuns n bad
  let s := if cols.any (fun c => c.pixel.isNone) then s.bump STITCH_INVALID_LINES else s
  let f := s.frameOf (s.stitchGen (some t)) n
  let s := s.kerfFrameStep f
  let s := cols.foldl (fun s c => s.addKerf c) s
  let seed := s.takeSeed n
  let s := seed.2
  let l : FineLine :=
    { line := n, frame := f.2, epoch := s.epochOf n, forced := forced, seed := seed.1
      colA := s.rd FINE_CTRL_A, pixels := cols.map (·.pixel) }
  let s := { s with stitch := { s.stitch with
    work := s.stitch.work ++ [(clk, l)], started := some n, freeAt := clk + (s.width + 47) / 48 } }
  let s := s.set1 STITCH_STATUS_FORMING
  let s := s.jobStarts false n
  let s := if n % 4 = 0 then s.jobStarts true (n / 4) else s
  s.cams.foldl (fun s k => s.unstage k) s

/-- STITCH_LINE_START (R144, R146, R147): in 1.2 GHz clock `clk` the next stitched line starts when
its condition holds. -/
def execStitchLineStart (clk : Nat) (s : State) : Host.Outcome State Fault Refusal :=
  if !s.on STITCH_CTRL_EN || s.stitch.commit.active.isNone || decide (clk < s.stitch.freeAt) then .next s
  else
    match s.nextForm with
    | none => .next s
    | some n =>
      let all := s.cams.all (fun k => s.camAccounted k (n + 24))
      let staged := s.cams.any (fun k => !(s.stagedOf k).isEmpty)
      if all || staged then
        match s.stitch.commit.setFor n with
        | none => .next (s.notFormedTo n)
        | some t =>
          let forced := !all
          let s := if forced then s.recordForced n else s
          .next (s.formLine t n forced clk)
      else .next s

/-! ### The planes (R149, R152) -/

/-- Coarse line V from the fine lines of its block; a missing one counts as invalid (R152). -/
def coarseOf (width : Nat) (v : Int) (frame epoch : Nat) (quad : List FineLine) : FineLine :=
  let row (i : Int) : List (Option (Nat × Nat × Nat)) :=
    match quad.find? (fun f => f.line == 4 * v + i) with
    | some f => f.pixels
    | none => []
  let rows := [row 0, row 1, row 2, row 3]
  let block (u : Nat) : Option (Nat × Nat × Nat) :=
    let ps := rows.flatMap (fun r => tabulate 4 (fun i => nth none r (4 * u + i)))
    if ps.all (·.isSome) then
      some (rgbOf (fun c => (rneDiv (ps.foldl (fun (a : Int) p => a + chan c (p.getD (0, 0, 0))) 0) 16).toNat))
    else none
  { line := v, frame := frame, epoch := epoch, forced := quad.any (·.forced)
    pixels := tabulate (width / 4) block }

/-- Newest lines of a plane that the model keeps for the units that read them. [DESIGN CHOICE, log 46] -/
def keptLines : Nat := 4096

/-- A fine line leaves for the fine path, the planes and the coarse plane (R152, R156, R159, R169);
a coarse line it completes leaves in clock `out`. [DESIGN CHOICE, log 46] -/
def State.planeLine (s : State) (f : FineLine) (out : Nat) : State :=
  let s := s.updateCols f
  let s := s.snapLine f
  let s := s.profLine profFine f.line f.pixels
  let v := f.line / 4
  let quad := f :: s.stitch.quad.filter (fun g => g.line / 4 == v && g.line != f.line)
  let s := { s with stitch := { s.stitch with
    fine := f :: s.stitch.fine.take (keptLines - 1), quad := quad } }
  let s := s.quillLine false f.line
  if f.line % 4 = 3 then
    let c := coarseOf f.pixels.length v f.frame f.epoch quad
    { s with stitch := { s.stitch with quad := [], coarseOut := s.stitch.coarseOut ++ [(out, c)] } }
  else s

/-- STITCH_LINE_DONE (R146, R151, R152, R155, R359): in clock `clk` the last fine pixels of the oldest
line in work leave; `taken` pixels reached the image ring in time, when not all did. -/
def execStitchLineDone (clk : Nat) (taken : Option (Fin 180224)) (s : State) :
    Host.Outcome State Fault Refusal :=
  match s.stitch.work with
  | [] => .next s
  | (t0, f) :: rest =>
    if clk + 1 < t0 + 160 + (f.pixels.length + 47) / 48 then .next s
    else
      let s := { s with stitch := { s.stitch with work := rest } }
      let s := s.wrS STITCH_FORMED_LINE f.line
      let g := s.stitchGen (s.stitch.commit.setFor f.line)
      let s := if (s.frameGen g).starts.any (fun e => e.1 == f.line) then s.occur 218 else s
      let s := s.imgWrite f (taken.map (·.val))
      .next (s.planeLine f (clk + 64))

/-- COARSE_LINE_OUT (R152): the oldest coarse line on its way leaves in clock `clk`. -/
def execCoarseLineOut (clk : Nat) (s : State) : Host.Outcome State Fault Refusal :=
  match s.stitch.coarseOut with
  | [] => .next s
  | (t, c) :: rest =>
    if clk < t then .next s
    else
      let s := { s with stitch := { s.stitch with
        coarseOut := rest, coarse := c :: s.stitch.coarse.take (keptLines - 1) } }
      .next ((s.quillLine true c.line).profLine profCoarse (4 * c.line) c.pixels)

/-- NOT_FORMED (R147): while the stitcher forms no lines, every line that the position has passed by
more than 25 lines counts as not formed. -/
def execNotFormed (s : State) : Host.Outcome State Fault Refusal :=
  if s.forming then .next s
  else .next (s.notFormedTo (ceilDiv s.tl.pos ((2 : Int) ^ 40) - 26))

/-- SEAM_SRAM (R153): an error of the seam buffer at an address; an uncorrectable one makes `n` samples
from column u of a line of a camera absent. [DESIGN CHOICE, log 47] -/
def execSeamSram (uncorrected : Bool) (cam : Fin 24) (line : Int) (u n addr : Nat) (s : State) :
    Host.Outcome State Fault Refusal :=
  let k := cam.val
  let s := s.set1 (if uncorrected then STITCH_STATUS_SRAM_UNCORR else STITCH_STATUS_SRAM_CORR)
  let s := s.fault srcStitch 0x3007 (slot1 (b2n uncorrected) ++ slot2 addr)
  if uncorrected then
    let f := s.spanFirst k
    let gone := (tabulate n (fun i => u + i)).filter (fun c => decide (f ≤ c))
    let q := (s.seamOf k).map (fun x =>
      if x.line = line then { x with bad := x.bad ++ gone.map (fun c => c - f) } else x)
    .next { s with stitch := { s.stitch with seam := spSet (fun _ => []) s.stitch.seam k q } }
  else .next s

/-- A reset of the stitcher (R150, R154): a BLOCK reset publishes the open runs, others drop them. -/
def State.stitchReset (s : State) (cover : Bool) : State :=
  let s := if cover then s.endRuns.flushNot else s
  let u := match s.stitch.started, s.stitch.unformed with
    | some a, some b => some (max a b)
    | some a, none => some a
    | none, b => b
  (({ s with stitch := { unformed := u } }).withdraw (isCommitOf .stitch)).resetRegs keptWarm 0x300000 0x310000

end Sys2Proof.Machine
end

