-- ==== Sys2Proof/Machine/MasterMath.lean ====
section
/-! DEFINITION. The arithmetic of the master path: colour prediction (R199 to R201), the search of the
warp tracker (R203 to R205), Lab and ΔE (R210, R211). -/

namespace Sys2Proof.Machine

open Sys2Proof

/-! ### Colour prediction (R199 to R201) -/

/-- The index of a node of the prediction table (R199). -/
def nodeIndex (v : List Nat) : Nat :=
  ((nth 0 v 0 * 17 + nth 0 v 1) * 17 + nth 0 v 2) * 17 + nth 0 v 3

/-- Axes 0 to 3 by descending fraction, ties in the order C, M, Y, K (R200). -/
def axisOrder (f : List Nat) : List Nat :=
  (List.range 4).foldl (fun o a =>
    let ge := o.filter (fun b => decide (nth 0 f a ≤ nth 0 f b))
    let lt := o.filter (fun b => !decide (nth 0 f a ≤ nth 0 f b))
    ge ++ [a] ++ lt) []

/-- The vertices of the prediction with their weights (R200). -/
def vertices (ink : List Nat) : List (Nat × Nat) :=
  let base := ink.map (· / 16)
  let f := ink.map (· % 16)
  let o := axisOrder f
  let g (j : Nat) : Nat := nth 0 f (nth 0 o j)
  let step (v : List Nat) (j : Nat) : List Nat := setNth v (nth 0 o j) (nth 0 v (nth 0 o j) + 1)
  let v1 := step base 0
  let v2 := step v1 1
  let v3 := step v2 2
  let v4 := step v3 3
  [(nodeIndex base, 16 - g 0), (nodeIndex v1, g 0 - g 1), (nodeIndex v2, g 1 - g 2),
    (nodeIndex v3, g 2 - g 3), (nodeIndex v4, g 3)]

/-- The predicted colour of CMYK and two spots in a set (R200, R201), or none when a node that it
reads is unreadable (R223). -/
def predict (t : SettingsSet) (bad : List Nat) (ink : List Nat) (s1 s2 : Nat) : Option (Nat × Nat × Nat) :=
  let vs := vertices ink
  if vs.any (fun v => v.2 != 0 && bad.contains v.1) then none
  else
    let p (c : Nat) : Int :=
      rneDiv (vs.foldl (fun (a : Int) v => a + (v.2 : Int) * img16 t.image (8 * v.1 + 2 * c)) 0) 16
    let spot (i c : Nat) : Int :=
      let j := 3 * i + c
      t.rdS ⟨MASTER_SPOT0.off + 4 * (j / 2), 16 * (j % 2), 16⟩
    some (rgbOf (fun c => satU 16 (rneDiv ((s1 : Int) * spot 0 c + (s2 : Int) * spot 1 c) 256 + p c)))

/-- The substrate colour of a set (R196). -/
def substrate (t : SettingsSet) : Nat × Nat × Nat :=
  (t.rd MASTER_SUBSTRATE0_R, t.rd MASTER_SUBSTRATE0_G, t.rd MASTER_SUBSTRATE1)

/-- Luminance Y' (R203). -/
def lumOf (v : Nat × Nat × Nat) : Nat := (rneDiv ((v.1 : Int) + 2 * v.2.1 + v.2.2) 4).toNat

/-! ### Three-level search (R203 to R205) -/

/-- A region of the coarse plane: left, top, width, height. -/
structure Region where
  x : Int
  y : Int
  w : Nat
  h : Nat

def Region.has (g : Region) (x y : Int) : Bool :=
  decide (g.x ≤ x) && decide (x < g.x + g.w) && decide (g.y ≤ y) && decide (y < g.y + g.h)

/-- The rounded mean of the values in a block of `n` × `n` pixels at (x, y). -/
def blockMean (f : Int → Int → Option Nat) (n : Nat) (x y : Int) : Option Nat :=
  let vs := (List.range n).flatMap (fun (j : Nat) =>
    (List.range n).filterMap (fun (i : Nat) => f (x + (i : Int)) (y + (j : Int))))
  match vs with
  | [] => none
  | vs => some (rneDiv (vs.foldl (· + ·) 0 : Nat) vs.length).toNat

/-- The sum of absolute differences of a displacement, and the blocks counted. -/
def sadOf (g : Region) (lv ev : Int → Int → Option Nat) (n : Nat) (kx ky : Int) : Nat × Nat :=
  let live (x y : Int) : Option Nat := if g.has x y then lv x y else none
  (List.range ((g.h + n - 1) / n)).foldl (fun (a : Nat × Nat) j =>
    (List.range ((g.w + n - 1) / n)).foldl (fun (a : Nat × Nat) i =>
      let x := g.x + (i * n : Nat)
      let y := g.y + (j * n : Nat)
      match blockMean live n x y, blockMean ev n (x + kx * n) (y + ky * n) with
      | some p, some q => (a.1 + (absI ((p : Int) - q)), a.2 + 1)
      | _, _ => a) a) (0, 0)

/-- A scored candidate: displacement, sum and count. -/
structure Scored where
  kx : Int
  ky : Int
  sum : Nat
  n : Nat

/-- Does a candidate win over another (R203)? -/
def Scored.beats (a b : Scored) : Bool :=
  if a.n = 0 then false
  else if b.n = 0 then true
  else if a.sum * b.n != b.sum * a.n then decide (a.sum * b.n < b.sum * a.n)
  else
    let da := a.kx.natAbs + a.ky.natAbs
    let db := b.kx.natAbs + b.ky.natAbs
    if da != db then decide (da < db)
    else if a.ky != b.ky then decide (a.ky < b.ky)
    else decide (a.kx < b.kx)

/-- The best of the candidates in the square of half width `m` about a centre, clamped to `lim`. -/
def bestOf (g : Region) (lv ev : Int → Int → Option Nat) (n : Nat) (cx cy : Int) (m : Nat) (lim : Int) :
    Scored :=
  let r := tabulate (2 * m + 1) (fun (i : Nat) => (i : Int) - m)
  let ks := (r.flatMap (fun dy => r.map (fun dx =>
    (clampI (-lim) lim (cx + dx), clampI (-lim) lim (cy + dy))))).eraseDups
  ks.foldl (fun b k =>
    let c := sadOf g lv ev n k.1 k.2
    let a : Scored := ⟨k.1, k.2, c.1, c.2⟩
    if a.beats b then a else b) ⟨0, 0, 0, 0⟩

/-- The winner of the three levels (R203). -/
def search (g : Region) (lv ev : Int → Int → Option Nat) : Scored :=
  let a := bestOf g lv ev 4 0 0 4 4
  let b := bestOf g lv ev 2 (2 * a.kx) (2 * a.ky) 1 8
  bestOf g lv ev 1 (2 * b.kx) (2 * b.ky) 1 16

/-- The mean difference × 256 of a displacement, when any pixel counts (R204). -/
def mean256 (c : Nat × Nat) : Option Int := if c.2 = 0 then none else some (rneDiv (256 * c.1) c.2)

/-- The sub-pixel offset along an axis (R204). [DEDUCED, log 59] -/
def subPixel (k : Int) (sm s0 sp : Option Int) : Int :=
  if k = 16 || k = -16 then 0
  else
    match sm, s0, sp with
    | some a, some b, some c =>
      let q := a - 2 * b + c
      if q ≤ 0 then 0 else clampI (-32) 32 (rneDiv (32 * (a - c)) q)
    | _, _, _ => 0

/-- The measurement 64k + δ of a winner (R204). [DEDUCED, log 59] -/
def measure (g : Region) (lv ev : Int → Int → Option Nat) (b : Scored) : Int × Int :=
  let m (dx dy : Int) : Option Int := mean256 (sadOf g lv ev 1 (b.kx + dx) (b.ky + dy))
  (64 * b.kx + subPixel b.kx (m (-1) 0) (m 0 0) (m 1 0),
    64 * b.ky + subPixel b.ky (m 0 (-1)) (m 0 0) (m 0 1))

/-- Is a region weak (R205)? -/
def weakRegion (g : Region) (ev : Int → Int → Option Nat) (b : Scored) (minValid texMin sadMax : Nat) : Bool :=
  let ys : List Nat := (List.range g.h).flatMap (fun (j : Nat) =>
    (List.range g.w).filterMap (fun (i : Nat) => ev (g.x + (i : Int)) (g.y + (j : Int))))
  let n := ys.length
  let sum : Nat := ys.foldl (fun (a : Nat) (y : Nat) => a + y) 0
  let dev : Nat := ys.foldl (fun (a : Nat) (y : Nat) => a + absI (((y * n : Nat) : Int) - (sum : Int))) 0
  decide (b.n < minValid) || decide (dev < texMin * n * n) || n == 0 || decide (sadMax * b.n < b.sum)

/-- Did the winner end at range (R207)? -/
def Scored.atRange (b : Scored) : Bool := b.kx.natAbs == 16 || b.ky.natAbs == 16

/-! ### Interpolation (R208, R209) -/

/-- A bilinear sample at (x, y) in 1/64 pixel; a tap with weight 0 is not read, and the cause of the
first unreadable tap is answered (R209). -/
def bilinear (f : Int → Int → Except (Nat × Nat) (Nat × Nat × Nat)) (x y : Int) :
    Except (Nat × Nat) (Nat × Nat × Nat) :=
  let i := floorShift x 6
  let k := floorShift y 6
  let fx := x - 64 * i
  let fy := y - 64 * k
  let taps := [((64 - fx) * (64 - fy), i, k), (fx * (64 - fy), i + 1, k),
    ((64 - fx) * fy, i, k + 1), (fx * fy, i + 1, k + 1)]
  let got := (taps.filter (fun e => e.1 != 0)).map (fun e => (e.1, f e.2.1 e.2.2))
  let bad := got.findSome? (fun e => match e.2 with
    | .error c => some c
    | .ok _ => none)
  match bad with
  | some c => .error c
  | none =>
    .ok (rgbOf (fun c => (rneDiv (got.foldl (fun (a : Int) e => match e.2 with
      | .ok v => a + e.1 * chan c v
      | .error _ => a) 0) 4096).toNat))

/-! ### Lab and ΔE (R210, R211) -/

/-- The integer nearest to the cube root of a number below 2^52 (a tie cannot occur). -/
def cbrtGo : Nat → Nat → Nat → Nat
  | 0, _, r => r
  | k + 1, n, r =>
    let c := r + 2 ^ k
    cbrtGo k n (if c * c * c ≤ n then c else r)

def cbrtNear (n : Nat) : Nat :=
  let r := cbrtGo 18 n 0
  if (2 * r + 1) ^ 3 < 8 * n then r + 1 else r

/-- Entry k of the fixed table: round_even(65,536 × f(k / 4,096)) (R210). -/
def labTable (k : Nat) : Int :=
  if 216 * 4096 < k * 24389 then cbrtNear (2 ^ 36 * k)
  else rneDiv (16 * 841 * 29 * k + 262144 * 108) (108 * 29)

/-- f(t) of a 1.16 value (R210). -/
def labF (t : Nat) : Int :=
  if 65536 ≤ t then labTable 4096
  else labTable (t / 16) + rneDiv ((labTable (t / 16 + 1) - labTable (t / 16)) * (t % 16 : Nat)) 16

/-- L*, a*, b* in 8.8 of a linear colour in a set (R210). -/
def labOf (t : SettingsSet) (v : Nat × Nat × Nat) : Int × Int × Int :=
  let coef (j : Nat) : Int := t.rdS ⟨MASTER_LAB0.off + 4 * (j / 2), 16 * (j % 2), 16⟩
  let xyz (i : Nat) : Int :=
    clampI 0 131071 (rneDiv (coef (3 * i) * v.1 + coef (3 * i + 1) * v.2.1 + coef (3 * i + 2) * v.2.2) 4096)
  let white (i : Nat) : Int := t.rd ⟨MASTER_WHITE0.off + 4 * (i / 2), 16 * (i % 2), 16⟩
  let f (i : Nat) : Int := labF (clampI 0 65536 (rneShift (xyz i * white i) 14)).toNat
  (rneDiv (116 * f 1 - 1048576) 256, rneDiv (500 * (f 0 - f 1)) 256, rneDiv (200 * (f 1 - f 2)) 256)

/-- ΔE of two colours (R211). -/
def deltaE (t : SettingsSet) (a b : Nat × Nat × Nat) : Nat :=
  let p := labOf t a
  let q := labOf t b
  let sq (i : Int) : Nat := i.natAbs * i.natAbs
  min 65535 (sqrtNear (sq (p.1 - q.1) + sq (p.2.1 - q.2.1) + sq (p.2.2 - q.2.2)))

/-- The master score (R212). -/
def masterScore (tol de : Nat) : Nat := if tol = 0 then 0 else min 255 (rneDiv (2 * de) tol).toNat

end Sys2Proof.Machine
end

