-- ==== Sys2Proof/Machine/Master.lean ====
section
/-! DEFINITION. The master path (R187 to R225): pages and the ledger, the expected image, tile rows,
the difference plane, registration and the golden repeat. -/

namespace Sys2Proof.Machine

open Sys2Proof

def State.masReject (s : State) (off v : Nat) : State :=
  s.reject MASTER_STATUS_CFG_REJECT srcMaster off v

/-- Causes of pixels not compared (R221, R238). -/
def cvNoPage : Nat := 0x30
def cvMasterLate : Nat := 0x31
def cvDescInvalid : Nat := 0x32
def cvWarpRange : Nat := 0x33
def cvGoldenShort : Nat := 0x34
def cvGoldenNotReady : Nat := 0x35
def cvMasterDram : Nat := 0x36
def cvPredSram : Nat := 0x37

/-! ### Live coarse plane -/

def State.coarseLine (s : State) (v : Int) : Option FineLine := s.stitch.coarse.find? (fun c => c.line == v)
def State.newestCoarse (s : State) : Option Int := s.stitch.coarse.head?.map (·.line)
def State.wc (s : State) : Nat := s.width / 4

/-- The live coarse pixel at (U, V). -/
def State.live (s : State) (u v : Int) : Option (Nat × Nat × Nat) :=
  match s.coarseLine v with
  | some c => if u < 0 then none else nth none c.pixels u.toNat
  | none => none

/-! ### Commits and enabling (R187, R198) -/

/-- Bytes of the prediction table (R198, R199). -/
def predBytes : Nat := 668168

/-- The status bits that follow the commit state and the queue. -/
def State.updMaster (s : State) : State :=
  let c := s.mas.commit
  let s := s.wr MASTER_STATUS_SET_VALID (b2n c.active.isSome)
  let s := s.wr MASTER_STATUS_COMMIT_PENDING (b2n (!c.pend.isEmpty))
  let s := s.wr MASTER_STATUS_TABLE_PENDING (b2n c.fetch.isSome)
  s.wr MASTER_STATUS_QUEUED (s.mas.pages.filter (fun p => !p.ended)).length

/-- COMMIT or CANCEL of the master path (R110, R198). -/
def State.masterCommit (s : State) (cancel : Bool) : State :=
  let c := s.mas.commit
  let c := if cancel then c.cancel else c.record s.now (some (s.rd MASTER_PRED_BASE))
  (({ s with mas := { s.mas with commit := c } }).updMaster).offerCommit .master

/-- MASTER_COMMIT (R105, R198). -/
def execMasterCommit (cancel : Bool) (s : State) : Host.Outcome State Fault Refusal :=
  .next (s.masterCommit cancel)

/-- PRED_FETCH_DONE (R198): the fetch of the prediction table completes, or fails. -/
def execPredFetchDone (s : State) : Host.Outcome State Fault Refusal :=
  let c := s.mas.commit
  match c.fetch with
  | none => .next s
  | some (t, base) =>
    let fail (a : Nat) (s : State) : Host.Outcome State Fault Refusal :=
      .next (((({ s with mas := { s.mas with commit := c.failFetch } }).updMaster).offerCommit .master).fault
        srcMaster 0x3210 (slot2 a))
    if !s.dramFits base predBytes then fail (max base (s.rd DRAMC_SIZE)) s
    else
      let m := s.dramSlice base predBytes
      let r := s.dramTouch base predBytes clsTable
      match r.1 with
      | some a => fail a r.2
      | none =>
        .next ({ r.2 with mas := { r.2.mas with
          commit := { c with fetch := none, image := some (t, m) } } }).updMaster

/-- Publish the open runs of pixels not compared (R221). -/
def State.endMasterRuns (s : State) : State :=
  let xb := s.rd STITCH_XBASE
  let rs := s.mas.runs
  rs.foldl (fun s r => s.enqueueCov (s.covRec (4 * r.first) (4 * r.last + 3) (4 * r.low + xb)
    (4 * r.high + 3 + xb) r.cause 3 0 0 r.page)) { s with mas := { s.mas with runs := [] } }

/-- A write of MASTER_CTRL.EN (R187, R206). -/
def State.masterEn (s : State) (en : Bool) : State :=
  if en = s.on MASTER_CTRL_EN then s
  else if en then
    let next := s.newestCoarse.map (· + 1)
    let s := { s with mas := { s.mas with rows := [], fresh := true, nextDiff := next, nextRow := next.map (· / 64) } }
    s.set1 MASTER_CTRL_EN
  else s.endMasterRuns.wr MASTER_CTRL_EN 0

/-- MASTER_ENABLE (R187). -/
def execMasterEnable (en : Bool) (s : State) : Host.Outcome State Fault Refusal := .next (s.masterEn en)

/-- The next coarse line to compare, and the next tile row. -/
def State.nextDiffLine (s : State) : Option Int :=
  match s.mas.nextDiff with
  | some v => some v
  | none => s.stitch.coarse.getLast?.map (·.line)

def State.nextTileRow (s : State) : Option Int :=
  match s.mas.nextRow with
  | some r => some r
  | none => s.nextDiffLine.map (· / 64)

/-! ### The ledger and placement (R188 to R195) -/

/-- A descriptor from its 64 bytes and its windows' bytes (R188). -/
def parseDesc (b win : List Nat) : PageDesc :=
  let u (o n : Nat) : Nat := ofLeBytes ((b.drop o).take n)
  let nwin := u 0x24 1
  { id := u 0 4, w := u 4 2, nsep := u 6 1, tolMap := bitAt (u 7 1) 1, h := u 8 4
    rowStride := u 0xC 4, raster := u 0x10 8, tolBase := u 0x18 8, tolStride := u 0x20 4
    wins := tabulate nwin (fun i =>
      let e (o n : Nat) : Nat := ofLeBytes ((win.drop (16 * i + o)).take n)
      ⟨e 0 4, e 4 2, e 6 1, e 7 1, e 8 1, e 9 1⟩) }

/-- The byte offset of the first field of a VALID descriptor that breaks a limit of R188; a bad window
names WIN_BASE. -/
def descError (b : List Nat) (d : PageDesc) : Option Nat :=
  let u (o n : Nat) : Nat := ofLeBytes ((b.drop o).take n)
  let badWin (x : PageWin) : Bool :=
    decide (x.ww < 8) || decide (64 < x.ww) || decide (x.wh < 8) || decide (64 < x.wh)
      || decide (15 < x.bar) || decide (3 < x.chan) || decide (d.w < x.x0 + x.ww) || decide (d.h < x.y0 + x.wh)
  if d.id = 0xFFFFFFFF then some 0
  else if d.w = 0 || 45056 < d.w then some 4
  else if d.nsep < 4 || 6 < d.nsep then some 6
  else if d.h = 0 || 2 ^ 24 < d.h then some 8
  else if d.rowStride % 64 != 0 || decide (d.rowStride < d.w * d.nsep) then some 0xC
  else if d.raster % 64 != 0 then some 0x10
  else if d.tolMap && d.tolBase % 64 != 0 then some 0x18
  else if d.tolMap && (d.tolStride % 64 != 0 || decide (d.tolStride < (d.w + 7) / 8)) then some 0x20
  else if 16 < u 0x24 1 then some 0x24
  else if u 0x28 8 % 16 != 0 then some 0x28
  else if d.wins.any badWin then some 0x28
  else none

/-- The PAGE_ID that a page's descriptor holds in DRAM. -/
def State.pageId (s : State) (p : Page) : Nat :=
  match p.desc with
  | some d => d.id
  | none => ofLeBytes (s.dramBytes (s.rd MASTER_DESC_BASE + 64 * p.index) 4)

/-- PO of a placement (R192). -/
def originOf (p16 : Int) : Int := rneDiv p16 (4 * 65536)

/-- The last line of a page, given the pages after it (R192): an absent page reaches up to the next
page. [DEDUCED, log 56] -/
def pageEnd (p : Page) (later : List Page) : Option Int :=
  let whole := match p.desc with
    | some d => some (p.po + d.h - 1)
    | none =>
      match later with
      | q :: _ => some (q.po - 1)
      | [] => none
  match p.stop, whole with
  | some a, some b => some (min a b)
  | some a, none => some a
  | none, b => b

/-- Each page with its last line. -/
def withEnds : List Page → List (Page × Option Int)
  | [] => []
  | p :: ps => (p, pageEnd p ps) :: withEnds ps

/-- The page that covers coarse pixel (U, V) (R192, R194). [DEDUCED, log 56] -/
def State.pageAt (s : State) (u v : Int) : Option Page :=
  ((withEnds s.mas.pages).find? (fun (e : Page × Option Int) =>
    let p := e.1
    let inLines := decide (p.po ≤ v) && (match e.2 with
      | some l => decide (v ≤ l)
      | none => true) && (match p.after with
      | some a => decide (a ≤ v)
      | none => true)
    let inCols := match p.desc with
      | some d => decide (p.xoff ≤ u) && decide (u < p.xoff + d.w)
      | none => p.absent.isSome
    inLines && inCols)).map (·.1)

/-- A page of the queue is replaced. -/
def State.setPage (s : State) (p : Page) : State :=
  { s with mas := { s.mas with pages := s.mas.pages.map (fun q => if q.start = p.start then p else q) } }

/-- A later page whose origin lies in an earlier one cuts it short (R192). -/
def State.checkTrunc : List Page → State → State
  | p :: q :: rest, s =>
    let s := State.checkTrunc (q :: rest) s
    match p.desc with
    | some d =>
      let last := match p.stop with
        | some l => min l (p.po + d.h - 1)
        | none => p.po + d.h - 1
      if q.final && decide (q.po ≤ last) then
        let kept := (q.po - p.po).toNat
        ((s.setPage { p with stop := some (q.po - 1) }).set1 MASTER_STATUS_PAGE_TRUNCATED).fault srcMaster 0x3203
          (slot1 d.id ++ slot1 (s.pageId q) ++ slot1 kept)
      else s
    | none => s
  | _, s => s

/-- A write of MASTER_LEDGER_WR (R190). -/
def State.ledgerWr (s : State) (v : Nat) : State :=
  if s.rd MASTER_LEDGER_RING_DEPTH ≤ v % 65536 then s.masReject MASTER_LEDGER_WR.off v
  else s.wr MASTER_LEDGER_WR v

/-- LEDGER_WR_WRITE (R190). -/
def execLedgerWrWrite (v : BitVec 32) (s : State) : Host.Outcome State Fault Refusal :=
  .next (s.ledgerWr v.toNat)

/-- The page queue takes a page (R191, R194, R197). -/
def State.queuePage (s : State) (p : Page) : State :=
  let late := match s.mas.nextDiff with
    | some v => if p.po < v && s.on MASTER_CTRL_EN && !s.mas.fresh then some v else none
    | none => none
  let p := { p with after := late }
  let s := { s with mas := { s.mas with pages := s.mas.pages ++ [p], lastStart := some p.start } }
  let s := match late with
    | some v => (s.set1 MASTER_STATUS_LEDGER_LATE).fault srcMaster 0x3201
        (slot1 (s.pageId p) ++ slotPos p.start ++ slotLine v)
    | none => s
  let b := match s.mas.commit.active with
    | some t => t.rd MASTER_CFG_BOUNDARY
    | none => s.rd MASTER_CFG_BOUNDARY
  let s := if b = 0 then s.offer' (.commit .master p.start) (slotOf p.start) else s
  (State.checkTrunc s.mas.pages s).updMaster

/-- LEDGER_CONSUME (R190, R191): the page queue has room, and the ledger's next entry is consumed. -/
def execLedgerConsume (s : State) : Host.Outcome State Fault Refusal :=
  let depth := s.rd MASTER_LEDGER_RING_DEPTH
  let rd := s.rd MASTER_LEDGER_RING_RD
  if depth = 0 || rd = s.rd MASTER_LEDGER_WR
      || 16 ≤ (s.mas.pages.filter (fun p => !p.ended)).length then .next s
  else
    let r := s.dramRead (s.rd MASTER_LEDGER_BASE + 32 * rd) 32 clsMaster
    let u (o n : Nat) : Nat := ofLeBytes ((r.1.drop o).take n)
    let s := r.2.2.wr MASTER_LEDGER_RING_RD ((rd + 1) % depth)
    let entry := signed 64 (u 0 8)
    let start := entry + s.rdS MASTER_PLACE_ACC
    let idx := u 8 4
    let flags := u 0x10 4
    let order := match s.mas.lastStart with
      | some l => decide (start ≤ l)
      | none => false
    if order then
      .next ((s.set1 MASTER_STATUS_LEDGER_ORDER).fault srcMaster 0x3202 (slot1 idx ++ slotPos start))
    else
      .next (s.queuePage { start := start, entry := entry, index := idx, xoff := signed 32 (u 0xC 4)
                           mark := bitAt flags 0, reset := bitAt flags 1, final := !bitAt flags 0
                           po := originOf start })

/-- A page's placement becomes final at a position (R192, R193); the start line of a set applied at
its boundary follows it (R197). -/
def State.placePage (s : State) (p : Page) (at16 : Int) : State :=
  let p := { p with final := true, po := originOf at16 }
  let s := s.setPage p
  let s := match s.mas.commit.active, p.applied with
    | some t, some n =>
      if t.commits = n then
        let s := { s with mas := { s.mas with commit :=
          { s.mas.commit with active := some { t with start := 4 * p.po } } } }
        s.wrS MASTER_APPLIED_LINE (4 * p.po)
      else s
    | _, _ => s
  State.checkTrunc s.mas.pages s

/-- The nearest executed boundary of the mark generator within MARK_TOL lines, the lower on a tie
(R193). -/
def State.markNear (s : State) (start : Int) : Option Int :=
  let tol : Int := s.rd MASTER_MARK_MARK_TOL
  let ls := ((s.frameGen (s.rd MASTER_MARK_GEN)).starts.map (·.1)).filter (fun b =>
    decide (linePos b - start ≤ tol * 65536) && decide (start - linePos b ≤ tol * 65536))
  let dist (b : Int) : Nat := (linePos b - start).natAbs
  leastBy dist (sortInts ls)

/-- PLACEMENT_FINAL (R193): the stitcher has formed line (ledger start + MARK_TOL) of the oldest page
whose placement is open. [DEDUCED, log 55] -/
def execPlacementFinal (s : State) : Host.Outcome State Fault Refusal :=
  match s.mas.pages.find? (fun p => !p.final) with
  | none => .next s
  | some p =>
    let tol : Int := s.rd MASTER_MARK_MARK_TOL
    if linePos (s.rdS STITCH_FORMED_LINE) < p.start + tol * 65536 then .next s
    else
      match s.markNear p.start with
      | some b =>
        let off := linePos b - p.entry
        let s := if s.on MASTER_CTRL_ADOPT_MARK then
            (s.wrS MASTER_PLACE_ACC off).placePage p (linePos b)
          else (s.wrS MASTER_MARK_LAST off).placePage p p.start
        if s.rd MASTER_MARK_MARK_WARN * 65536 < off.natAbs then
          .next ((s.set1 MASTER_STATUS_MARK_MISMATCH).fault srcMaster 0x3206 (slot1 (s.pageId p) ++ slotI off))
        else .next s
      | none =>
        let s := s.placePage p p.start
        .next ((s.set1 MASTER_STATUS_MARK_MISSING).fault srcMaster 0x3207
          (slot1 (s.pageId p) ++ slotPos p.start))

/-- DESCRIPTOR_READ (R195): the live coarse plane has come within FETCH_LEAD of the origin of the
oldest page whose descriptor is still to be read. -/
def execDescriptorRead (s : State) : Host.Outcome State Fault Refusal :=
  match s.mas.pages.find? (fun p => p.desc.isNone && p.absent.isNone), s.newestCoarse with
  | some p, some v =>
    if v < p.po - s.rd MASTER_FETCH_LEAD then .next s
    else
      let r := s.dramRead (s.rd MASTER_DESC_BASE + 64 * p.index) 64 clsMaster
      let s := r.2.2
      let valid := bitAt (ofLeBytes ((r.1.drop 7).take 1)) 0 && r.2.1.isNone
      if !valid then
        if p.po - 80 ≤ v then
          .next ((s.setPage { p with absent := some cvMasterLate }).fault srcMaster 0x3205
            (slot1 (s.pageId p) ++ slotLine p.po))
        else .next s
      else
        let nwin := min 16 (ofLeBytes ((r.1.drop 0x24).take 1))
        let w := s.dramRead (ofLeBytes ((r.1.drop 0x28).take 8)) (16 * nwin) clsMaster
        let s := w.2.2
        let d := parseDesc r.1 w.1
        match descError r.1 d with
        | some o =>
          .next ((s.setPage { p with absent := some cvDescInvalid }).fault srcMaster 0x3204
            (slot1 p.index ++ slot1 o))
        | none =>
          let s := s.setPage { p with desc := some d }
          .next (State.checkTrunc s.mas.pages s)
  | _, _ => .next s

/-! ### The expected image (R202, R215, R223) -/

/-- Bytes of DRAM that answer without an error, else the address in error. -/
def State.goodBytes (s : State) (a n : Nat) : Except Nat (List Nat) :=
  match (List.range ((a + n + 7) / 8 - a / 8)).find? (fun i => (s.readBeat (a / 8 + i)).1.bad) with
  | some i => .error (8 * (a / 8 + i))
  | none => .ok (s.dramBytes a n)

/-- Row stride of the golden repeat (R215). -/
def State.goldenStride (s : State) : Nat := (3 * s.wc + 63) / 64 * 64

/-- The repeat that holds coarse line V: its boundary line B and V0 = ceil(B / 4) (R215). -/
def State.repeatAt (s : State) (v : Int) : Option (Int × Int) :=
  ((s.frameGen (s.rd MASTER_GOLDEN_CFG_GEN)).starts.map (fun e => (e.1, ceilDiv e.1 4))).find? (fun e =>
    decide (e.2 ≤ v))

/-- The golden repeat's linear value at column x of golden line y (R215). -/
def State.goldenAt (s : State) (x y : Nat) : Except (Nat × Nat) (Nat × Nat × Nat) :=
  match s.goodBytes (s.rd MASTER_GOLDEN_BASE + y * s.goldenStride + 3 * x) 3 with
  | .ok b => .ok (rgbOf (fun c => nth 0 b c * nth 0 b c))
  | .error a => .error (cvMasterDram, a)

/-- E at (U, V), or the cause why it is undefined or unreadable, with the address of a DRAM error.
[DEDUCED, log 54; DEDUCED, log 58] -/
def State.expected (s : State) (u v : Int) : Except (Nat × Nat) (Nat × Nat × Nat) :=
  if s.on MASTER_CTRL_SRC then
    match s.repeatAt v with
    | some (_, v0) =>
      if u < 0 || (s.wc : Int) ≤ u || (s.rd MASTER_GOLDEN_CFG_LEN : Int) ≤ v - v0 then .error (cvNoPage, 0)
      else s.goldenAt u.toNat (v - v0).toNat
    | none => .error (cvNoPage, 0)
  else
    match s.mas.commit.setFor (4 * v) with
    | none => .error (cvNoPage, 0)
    | some t =>
      match s.pageAt u v with
      | none => if s.on MASTER_CTRL_GAP_MODE then .ok (substrate t) else .error (cvNoPage, 0)
      | some p =>
        match p.desc, p.absent with
        | some d, none =>
          match s.goodBytes (d.raster + (v - p.po).toNat * d.rowStride + (u - p.xoff).toNat * d.nsep) d.nsep with
          | .error a => .error (cvMasterDram, a)
          | .ok b =>
            match predict t s.mas.bad (b.take 4) (nth 0 b 4) (nth 0 b 5) with
            | some e => .ok e
            | none => .error (cvPredSram, 0)
        | _, _ => .error (cvNoPage, 0)

/-- Y' of the expected image. -/
def State.expectedLum (s : State) (u v : Int) : Option Nat :=
  match s.expected u v with
  | .ok e => some (lumOf e)
  | .error _ => none

/-! ### Tile rows (R203 to R208, R214, R219) -/

/-- Tiles across the coarse plane. -/
def State.tiles (s : State) : Nat := (s.wc + 63) / 64

/-- Tile (j, r) as a region. -/
def State.tileRegion (s : State) (j : Nat) (r : Int) : Region :=
  ⟨64 * j, 64 * r, min 64 (s.wc - 64 * j), 64⟩

/-- The measurement of a region, unless weak, with whether the winner is at range (R203 to R205). -/
def measureRegion (t : SettingsSet) (g : Region) (lv ev : Int → Int → Option Nat) :
    Option (Int × Int) × Bool :=
  let b := search g lv ev
  let weak := weakRegion g ev b (t.rd MASTER_TRACK1) (t.rd MASTER_TRACK0_TEX_MIN) (t.rd MASTER_TRACK0_SAD_MAX)
  (if weak then none else some (measure g lv ev b), b.atRange)

/-- Smoothing of one axis along time (R206). -/
def timeSmooth (tau : Nat) (p : Int) : Option Int → Int
  | some m => p + rneShift (m - p) tau
  | none => p

/-- Smoothing across tiles (R206). -/
def spaceSmooth (on : Bool) (ts : List Int) : List Int :=
  if on then
    let n := ts.length
    tabulate n (fun j => rneDiv (nth 0 ts (j - 1) + 2 * nth 0 ts j + nth 0 ts (min (j + 1) (n - 1))) 4)
  else ts

/-- The tile row's field from its measurements and priors (R206, R207): the field, whether a step was
clamped and the range bit, per tile. -/
def fieldOf (t : SettingsSet) (prior : List (Int × Int)) (ms : List (Option (Int × Int) × Bool)) :
    List ((Int × Int) × Bool × Bool) :=
  let tau := t.rd MASTER_CFG_TAU
  let step : Int := t.rd MASTER_CFG_MAX_STEP
  let axis (f : Int × Int → Int) : List Int :=
    spaceSmooth (t.rd MASTER_CFG_SPATIAL_EN == 1)
      (tabulate ms.length (fun j => timeSmooth tau (f (nth (0, 0) prior j)) ((nth (none, false) ms j).1.map f)))
  let dx := axis (·.1)
  let dy := axis (·.2)
  tabulate ms.length (fun j =>
    let p := nth (0, 0) prior j
    let lim (d p : Int) : Int := if step = 0 then d else clampI (p - step) (p + step) d
    let x := lim (nth 0 dx j) p.1
    let y := lim (nth 0 dy j) p.2
    let far := (nth (none, false) ms j).2 || decide (1024 ≤ x.natAbs) || decide (1024 ≤ y.natAbs)
    ((clampI (-1024) 1024 x, clampI (-1024) 1024 y),
      x != nth 0 dx j || y != nth 0 dy j, far))

/-- The first index of a true entry. -/
def firstTrue (bs : List Bool) : Option Nat := firstIdx bs.length (fun i => nth false bs i)

/-- A 32-byte record goes to the REG or FIELD ring, or is lost (R220): `build` takes its sequence. -/
def State.masterRecord (s : State) (field : Bool) (build : Nat → List Nat) : State :=
  let ringF (a b : Fld) : Fld := if field then a else b
  let depth := s.rd (ringF MASTER_FIELD_RING_DEPTH MASTER_REG_RING_DEPTH)
  let wr := s.rd (ringF MASTER_FIELD_RING_WR MASTER_REG_RING_WR)
  let seq := if field then s.mas.fieldSeq else s.mas.regSeq
  if depth = 0 then s
  else if ringFull wr (s.rd (ringF MASTER_FIELD_RD MASTER_REG_RD)) depth then
    ((s.bump (ringF MASTER_FIELD_DROPPED MASTER_REG_DROPPED)).set1 MASTER_STATUS_RING_DROP).fault srcMaster 0x3240
      (slot1 (b2n field) ++ slot1 seq)
  else
    let s := s.dramPut (s.rd (ringF MASTER_FIELD_BASE MASTER_REG_BASE) + 32 * wr) (padTo 0 32 (build seq)) clsTable
    let s := s.wr (ringF MASTER_FIELD_RING_WR MASTER_REG_RING_WR) ((wr + 1) % depth)
    let s := if field then { s with mas := { s.mas with fieldSeq := (seq + 1) % 65536 } }
      else { s with mas := { s.mas with regSeq := (seq + 1) % 65536 } }
    s.occur (if field then 228 else 227)

/-- A quotient that the manual leaves open when nothing was measured. [DESIGN CHOICE, log 61] -/
def State.meanOr (s : State) (num : Int) (den : Int) : Int × State :=
  if den = 0 then let r := s.free 32; (signed 32 r.1, r.2) else (rneDiv num den, s)

/-- The field summary of a tile row (R219). [DESIGN CHOICE, log 61] -/
def State.fieldSummary (s : State) (row : TileRow) (reset : Bool) : State :=
  let es := (row.d.zip (row.weak.zip (List.range row.d.length))).filter (fun e => !e.2.1)
  let n : Int := es.length
  let sum (f : Int × Int → Int) : Int := es.foldl (fun a e => a + f e.1) 0
  let cx (e : (Int × Int) × Bool × Nat) : Int := 64 * e.2.2 + 32
  let sx := es.foldl (fun a e => a + cx e) 0
  let sxx := es.foldl (fun a e => a + cx e * cx e) 0
  let sxd := es.foldl (fun a e => a + cx e * e.1.1) 0
  let mx := s.meanOr (1024 * sum (·.1)) n
  let my := mx.2.meanOr (1024 * sum (·.2)) n
  let sl := my.2.meanOr ((n * sxd - sx * sum (·.1)) * (2 : Int) ^ 24) (n * sxx - sx * sx)
  sl.2.masterRecord true (fun seq =>
    [0x03, b2n reset] ++ leBytes 2 es.length ++ leBytes 4 (sl.2.epochOf (256 * row.row))
      ++ leBytes 8 (toBits 64 (linePos (4 * (64 * row.row + 32))))
      ++ leBytes 4 (toBits 32 mx.1) ++ leBytes 4 (toBits 32 my.1) ++ leBytes 4 (toBits 32 sl.1)
      ++ leBytes 2 seq ++ leBytes 2 (row.range.filter id).length)

/-- Does the master path act in a mode (R222)? -/
def masterActs (m : Nat) : Bool := decide (5 ≤ m) && decide (m ≤ 9)

/-- A tile row enters the tracker's state. -/
def State.pushRow (s : State) (row : TileRow) : State :=
  let s := { s with mas := { s.mas with
    rows := row :: s.mas.rows.take 7, nextRow := some (row.row + 1), fresh := false
    nextDiff := match s.mas.nextDiff with
      | some v => some v
      | none => s.nextDiffLine } }
  s.wrS MASTER_TILE_ROW row.row

/-- TILE_ROW_ESTIMATE (R203 to R207, R214, R219): the next tile row is complete, the placement of the
pages that overlap it and the next row is final, and its field becomes ready. [DEDUCED, log 54] -/
def execTileRowEstimate (s : State) : Host.Outcome State Fault Refusal :=
  match s.nextTileRow, s.newestCoarse with
  | some r, some v =>
    let open_ := s.mas.pages.any (fun p => !p.final && !p.ended && decide (p.po < 64 * (r + 2)))
    if !s.on MASTER_CTRL_EN || decide (v < 64 * r + 63) || open_ then .next s
    else
      let n := s.tiles
      let zero : TileRow := ⟨r, List.replicate n (0, 0), List.replicate n true, List.replicate n false⟩
      match s.mas.commit.setFor (256 * r) with
      | none => .next (s.pushRow zero)
      | some t =>
        if !masterActs (s.modeOf (256 * r)) then .next (s.pushRow zero)
        else
          let reset := s.mas.pages.any (fun p => p.reset && p.po / 64 == r)
          let prior := match s.mas.rows with
            | q :: _ => if s.mas.fresh || reset || q.row + 1 != r then [] else q.d
            | [] => []
          let ms := tabulate n (fun j => measureRegion t (s.tileRegion j r)
            (fun x y => (s.live x y).map lumOf) s.expectedLum)
          let fs := fieldOf t prior ms
          let range := fs.map (fun f => f.2.2)
          let row : TileRow := ⟨r, fs.map (·.1), ms.map (fun m => m.1.isNone), range⟩
          let s := s.bump MASTER_WEAK_TILES (row.weak.filter id).length
          let s := s.bump MASTER_RANGE_TILES (range.filter id).length
          let s := match firstTrue (fs.map (fun f => f.2.1)) with
            | some j => (s.set1 MASTER_STATUS_WARP_STEP).fault srcMaster 0x3221 (slotI r ++ slot1 j)
            | none => s
          let s := match firstTrue range with
            | some j => (s.set1 MASTER_STATUS_WARP_RANGE).fault srcMaster 0x3220 (slotI r ++ slot1 j)
            | none => s
          let s := s.pushRow row
          .next (if s.on MASTER_CTRL_FIELD_REC_EN then s.fieldSummary row (reset || prior.isEmpty) else s)
  | _, _ => .next s

/-- The field of a tile row across the web at column U (R208). -/
def acrossField (d : List (Int × Int)) (u : Int) : Int × Int :=
  let j := (u - 32) / 64
  let a := u - 32 - 64 * j
  let n : Int := d.length
  let at_ (i : Int) : Int × Int := nth (0, 0) d (clampI 0 (n - 1) i).toNat
  let p := at_ j
  let q := at_ (j + 1)
  (rneDiv ((64 - a) * p.1 + a * q.1) 64, rneDiv ((64 - a) * p.2 + a * q.2) 64)

/-- The tile row r, if its field is known. -/
def State.tileRow (s : State) (r : Int) : Option TileRow := s.mas.rows.find? (fun q => q.row == r)

/-- D at (U, V) (R208). -/
def State.fieldAt (s : State) (u v : Int) : Int × Int :=
  let r := v / 64
  match s.tileRow r with
  | none => (0, 0)
  | some b =>
    let y := v - 64 * r
    let d := acrossField b.d u
    if 32 ≤ y then d
    else
      let e := match s.tileRow (r - 1) with
        | some a => acrossField a.d u
        | none => d
      (rneDiv ((32 - y) * e.1 + y * d.1) 32, rneDiv ((32 - y) * e.2 + y * d.2) 32)

/-! ### The difference plane (R209 to R213, R217, R222) -/

/-- The tolerance of a compared pixel (R212). -/
def State.tolerance (s : State) (t : SettingsSet) (u v : Int) (d : Int × Int) : Nat :=
  match s.pageAt u v with
  | some p =>
    match p.desc with
    | some q =>
      if q.tolMap && !s.on MASTER_CTRL_SRC then
        let cx := clampI 0 (((q.w + 7) / 8 : Nat) - 1 : Int) ((64 * (u - p.xoff) + d.1) / 512)
        let cy := clampI 0 (((q.h + 7) / 8 : Nat) - 1 : Int) ((64 * (v - p.po) + d.2) / 512)
        nth 0 (s.dramBytes (q.tolBase + cy.toNat * q.tolStride + cx.toNat) 1) 0
      else t.rd MASTER_CFG_TOL_DEFAULT
    | none => t.rd MASTER_CFG_TOL_DEFAULT
  | none => t.rd MASTER_CFG_TOL_DEFAULT

/-- The tolerance map's byte of a pixel answers with a DRAM error at this address (R223). -/
def State.tolBad (s : State) (u v : Int) (d : Int × Int) : Option Nat :=
  match s.pageAt u v with
  | some p =>
    match p.desc with
    | some q =>
      if q.tolMap && !s.on MASTER_CTRL_SRC then
        let cx := clampI 0 (((q.w + 7) / 8 : Nat) - 1 : Int) ((64 * (u - p.xoff) + d.1) / 512)
        let cy := clampI 0 (((q.h + 7) / 8 : Nat) - 1 : Int) ((64 * (v - p.po) + d.2) / 512)
        match s.goodBytes (q.tolBase + cy.toNat * q.tolStride + cx.toNat) 1 with
        | .error a => some a
        | .ok _ => none
      else none
    | none => none
  | none => none

/-- The golden row a coarse line belongs to, and how often it has been merged (R216). -/
def State.goldenMerges (s : State) (v : Int) : Nat :=
  match s.repeatAt v with
  | some (_, v0) => spGet (fun _ => 0) s.mas.merges ((v - v0) / 64).toNat
  | none => 0

/-- Why pixel (U, V) is not compared before E is read, if so (R195, R196, R207, R215, R217). -/
def State.barred (s : State) (u v : Int) : Option Nat :=
  let range := match s.tileRow (v / 64) with
    | some r => nth false r.range (u / 64).toNat
    | none => false
  if s.on MASTER_CTRL_SRC then
    let ready := s.on MASTER_GOLDEN_CTRL_READY || (s.modeOf (4 * v) == 6 && s.goldenMerges v != 0)
    match s.repeatAt v with
    | none => some cvNoPage
    | some (_, v0) =>
      if !ready then some cvGoldenNotReady
      else if (s.rd MASTER_GOLDEN_CFG_LEN : Int) ≤ v - v0 then some cvGoldenShort
      else if range then some cvWarpRange else none
  else
    match s.pageAt u v with
    | some p =>
      match p.absent with
      | some c => some c
      | none => if range then some cvWarpRange else none
    | none =>
      if !s.on MASTER_CTRL_GAP_MODE then some cvNoPage
      else if range then some cvWarpRange else none

/-- A pixel of the difference plane (R209 to R213); with the address of a DRAM error. [DEDUCED, log 54] -/
def State.diffPix (s : State) (t : Option SettingsSet) (live : Option (Nat × Nat × Nat)) (u v : Int) :
    DiffPix × Option Nat :=
  let page := match s.pageAt u v with
    | some p => if s.on MASTER_CTRL_SRC then noPage else s.pageId p
    | none => noPage
  let off (c : Nat) : DiffPix := ⟨0, 0, page, false, c, (0, 0, 0)⟩
  match live, t, s.barred u v with
  | none, _, _ => (off 0, none)
  | _, none, _ => (off cvNoPage, none)
  | _, _, some c => (off c, none)
  | some x, some t, none =>
    let d := s.fieldAt u v
    match bilinear s.expected (64 * u + d.1) (64 * v + d.2), s.tolBad u v d with
    | .error (c, a), _ => (off c, if c = cvMasterDram then some a else none)
    | .ok _, some a => (off cvMasterDram, some a)
    | .ok e, none =>
      let de := deltaE t x e
      let m := s.modeOf (4 * v)
      let score := if m = 5 || m = 6 then 0 else masterScore (s.tolerance t u v d) de
      (⟨score, de, page, true, 0, e⟩, none)

/-- Runs of pixels not compared after coarse line v (R221). -/
def State.updMasterRuns (s : State) (v : Int) (px : List DiffPix) : State :=
  let bad := (px.zip (List.range px.length)).foldl (fun (rs : List MasterRun) e =>
    if e.1.cause = 0 then rs
    else if rs.any (fun r => r.cause == e.1.cause && r.page == e.1.page) then
      rs.map (fun r => if r.cause == e.1.cause && r.page == e.1.page then { r with high := e.2 } else r)
    else rs ++ [⟨e.1.cause, e.1.page, v, v, e.2, e.2⟩]) []
  let same (a b : MasterRun) : Bool := a.cause == b.cause && a.page == b.page
  let goes (r : MasterRun) : Bool :=
    bad.any (same r) && r.last + 1 == v && decide (v - r.first < 16384)
  let ended := s.mas.runs.filter (fun r => !goes r)
  let kept := (s.mas.runs.filter goes).map (fun r =>
    match bad.find? (same r) with
    | some b => { r with last := v, low := min r.low b.low, high := max r.high b.high }
    | none => r)
  let fresh := bad.filter (fun b => !(s.mas.runs.any (fun r => same r b && goes r)))
  let s := ({ s with mas := { s.mas with runs := ended } }).endMasterRuns
  let s := { s with mas := { s.mas with runs := kept ++ fresh } }
  if bad.isEmpty then s else s.bump MASTER_UNVERIFIED

/-! ### Registration (R218) -/

/-- CHAN of a window: 0 R, 1 G, 2 B, 3 Y'. -/
def winChan (c : Nat) (v : Nat × Nat × Nat) : Nat := if c = 3 then lumOf v else chan c v

/-- The registration record of a window whose last line has been compared (R218). [DESIGN CHOICE, log 61] -/
def State.regRecord (s : State) (p : Page) (d : PageDesc) (i : Nat) (w : PageWin) : State :=
  let g : Region := ⟨p.xoff + w.x0, p.po + w.y0, w.ww, w.wh⟩
  let lv (x y : Int) : Option Nat := (s.live x y).map (winChan w.chan)
  let ev (x y : Int) : Option Nat := match s.expected x y with
    | .ok e => some (winChan w.chan e)
    | .error _ => none
  match s.mas.commit.setFor (4 * g.y) with
  | none => s
  | some t =>
    let b := search g lv ev
    let weak := weakRegion g ev b (t.rd MASTER_TRACK1) (t.rd MASTER_TRACK0_TEX_MIN) (t.rd MASTER_TRACK0_SAD_MAX)
    let m := measure g lv ev b
    let compared := (List.range w.wh).foldl (fun (a : Nat) (j : Nat) =>
      match s.mas.diff.find? (fun l => l.line == g.y + (j : Int)) with
      | some l => a + (((l.pixels.drop g.x.toNat).take w.ww).filter (·.cmp)).length
      | none => a) 0
    let flags := b2n weak + 2 * b2n b.atRange + 4 * b2n (decide (2 * compared < w.ww * w.wh))
    let f := s.fieldAt (g.x + ((w.ww / 2 : Nat) : Int)) (g.y + ((w.wh / 2 : Nat) : Int))
    let mean := if b.n = 0 then s.free 16 else (satU 16 (rneDiv (256 * b.sum) b.n), s)
    let centre := linePos (4 * g.y + 2 * w.wh)
    mean.2.masterRecord false (fun seq =>
      [0x02, i, w.bar, flags] ++ leBytes 4 d.id ++ leBytes 8 (toBits 64 centre)
        ++ leBytes 2 (toBits 16 m.1) ++ leBytes 2 (toBits 16 m.2) ++ leBytes 2 (toBits 16 f.1)
        ++ leBytes 2 (toBits 16 f.2) ++ leBytes 4 (s.lineEpoch (floorShift centre 16)) ++ leBytes 2 seq
        ++ leBytes 2 mean.1)

/-- Every window whose last line is coarse line v (R218). -/
def State.regWindows (s : State) (v : Int) : State :=
  if !s.on MASTER_CTRL_REG_EN || s.on MASTER_CTRL_SRC then s
  else
    s.mas.pages.foldl (fun s p =>
      match p.desc, p.absent with
      | some d, none =>
        (d.wins.zip (List.range d.wins.length)).foldl (fun s e =>
          if p.po + ((e.1.y0 + e.1.wh : Nat) : Int) - 1 = v then s.regRecord p d e.2 e.1 else s) s
      | _, _ => s) s

/-! ### The golden repeat (R215 to R217) -/

/-- A golden pixel's bytes after a merge of the live value with weight 1 / w (R216). -/
def mergeGolden (w : Nat) (g : Nat × Nat × Nat) (v : Nat × Nat × Nat) : Nat × Nat × Nat :=
  rgbOf (fun c =>
    let gl : Int := chan c g
    min 255 (sqrtNear (gl + rneDiv ((chan c v : Int) - gl) w).toNat))

/-- Golden lines `lo .. hi` of a repeat take the live values: unwarped when `w` is 0 (R216). -/
def State.writeGolden (s : State) (v0 : Int) (lo hi w : Nat) : State :=
  let live (x y : Int) : Except (Nat × Nat) (Nat × Nat × Nat) :=
    match s.live x y with
    | some p => .ok p
    | none => .error (cvNoPage, 0)
  let row (y : Nat) : List Nat :=
    (List.range s.wc).flatMap (fun x =>
      let a := s.rd MASTER_GOLDEN_BASE + y * s.goldenStride + 3 * x
      let old := s.dramBytes a 3
      let v := v0 + y
      if w = 0 then
        match s.live x v with
        | some p => [0, 1, 2].map (fun c => min 255 (sqrtNear (chan c p)))
        | none => old
      else
        let d := s.fieldAt x v
        match bilinear live (64 * x - d.1) (64 * v - d.2) with
        | .ok p =>
          let g := mergeGolden w (rgbOf (fun c => nth 0 old c * nth 0 old c)) p
          [g.1, g.2.1, g.2.2]
        | .error _ => old)
  (List.range (hi + 1 - lo)).foldl (fun t i =>
    t.dramPut (s.rd MASTER_GOLDEN_BASE + (lo + i) * s.goldenStride) (row (lo + i)) clsMaster) s

/-- READY follows the merge counts (R216). [DEDUCED, log 60] -/
def State.goldenReady (s : State) : State :=
  let rows := (s.rd MASTER_GOLDEN_CFG_LEN + 63) / 64
  if s.on MASTER_GOLDEN_CTRL_READY || rows = 0 then s
  else if (List.range rows).all (fun g =>
      decide (s.rd MASTER_GOLDEN_LEARN_N_LEARN ≤ spGet (fun _ => 0) s.mas.merges g)) then
    (s.set1 MASTER_GOLDEN_CTRL_READY).occur 229
  else s

/-- After the difference of coarse line v: a golden row that it completes is merged (R216, R217).
[DEDUCED, log 60] -/
def State.goldenMerge (s : State) (v : Int) : State :=
  match s.repeatAt v with
  | none => s
  | some (_, v0) =>
    let len := s.rd MASTER_GOLDEN_CFG_LEN
    let y := (v - v0).toNat
    if len ≤ y || (y % 64 != 63 && y + 1 != len) then s
    else
      let g := y / 64
      let lo := 64 * g
      let n := spGet (fun _ => 0) s.mas.merges g
      let lines := s.mas.diff.filter (fun l => decide (v0 + (lo : Int) ≤ l.line) && decide (l.line ≤ v))
      let px := (lines.flatMap (·.pixels)).filter (·.cmp)
      let sum := px.foldl (fun a p => a + p.de) 0
      let range := s.mas.rows.any (fun r =>
        decide ((v0 + (lo : Int)) / 64 ≤ r.row) && decide (r.row ≤ v / 64) && r.range.any id)
      let m := s.modeOf (4 * v)
      let count (s : State) (k : Nat) : State :=
        { s with mas := { s.mas with merges := spSet (fun _ => 0) s.mas.merges g k } }
      if m = 6 then
        if n = 0 then (count (s.writeGolden v0 lo y 0) 1).goldenReady
        else if !px.isEmpty && !range && decide (sum ≤ 16 * s.rd MASTER_GOLDEN_LEARN_ACCEPT * px.length) then
          (count (s.writeGolden v0 lo y (min (n + 1) (2 ^ s.rd MASTER_GOLDEN_LEARN_GAIN))) (n + 1)).goldenReady
        else s.bump MASTER_GOLDEN_REJECTED
      else if m = 7 && s.on MASTER_CTRL_DRIFT_EN && s.on MASTER_GOLDEN_CTRL_READY && !range
          && px.all (fun p => decide (p.score < s.rd MASTER_GOLDEN_LEARN_DRIFT_BLOCK)) then
        s.writeGolden v0 lo y (2 ^ s.rd MASTER_GOLDEN_LEARN_DRIFT)
      else s

/-- ASSERT_READY (R216, R224): the stored repeat is ready and every count N_LEARN. [DEDUCED, log 62] -/
def State.assertReady (s : State) : State :=
  let n := s.rd MASTER_GOLDEN_LEARN_N_LEARN
  let rows := (s.rd MASTER_GOLDEN_CFG_LEN + 63) / 64
  let m := (List.range rows).foldl (fun m g => spSet (fun _ => 0) m g n) []
  ({ s with mas := { s.mas with merges := m } }).set1 MASTER_GOLDEN_CTRL_READY

def execAssertReady (s : State) : Host.Outcome State Fault Refusal := .next s.assertReady

/-- RELEARN (R216): READY and every merge count clear. -/
def State.relearn (s : State) : State :=
  ({ s with mas := { s.mas with merges := [] } }).wr MASTER_GOLDEN_CTRL_READY 0

def execRelearn (s : State) : Host.Outcome State Fault Refusal := .next s.relearn

/-! ### The difference unit's lines (R213, R214, R221, R225) -/

/-- A repeat that runs past LEN is recorded once (R215). -/
def State.noteShort (s : State) (v : Int) : State :=
  match s.repeatAt v with
  | some (b, v0) =>
    if s.on MASTER_CTRL_SRC && decide ((s.rd MASTER_GOLDEN_CFG_LEN : Int) ≤ v - v0)
        && s.on MASTER_GOLDEN_CTRL_READY && s.mas.shortAt != some b then
      ({ s with mas := { s.mas with shortAt := some b } }).fault srcMaster 0x3231
        (slotLine b ++ slot1 (s.rd MASTER_GOLDEN_CFG_LEN))
    else s
  | none => s

/-- Pages begin and end with coarse line v (R192, R225). [DEDUCED, log 57] -/
def State.pageSteps (s : State) (v : Int) : State :=
  let es := withEnds s.mas.pages
  let s := es.foldl (fun s e =>
    let p := e.1
    let reached := decide (p.po ≤ v) && (match e.2 with
      | some l => decide (v ≤ l)
      | none => true)
    if reached && !p.begun && p.desc.isSome && p.absent.isNone && !s.on MASTER_CTRL_SRC then
      ((s.setPage { p with begun := true }).bump MASTER_PAGES).occur 226
    else s) s
  let gone := es.filter (fun e => !e.1.ended && (match e.2 with
    | some l => decide (l ≤ v)
    | none => false))
  let s := gone.foldl (fun s e =>
    { s with mas := { s.mas with pages := s.mas.pages.map (fun q =>
        if q.start = e.1.start then { q with ended := true } else q) } }) s
  let ended := s.mas.pages.filter (·.ended)
  let s := { s with mas := { s.mas with
    pages := ended.drop (ended.length - 8) ++ s.mas.pages.filter (fun (q : Page) => !q.ended) } }
  let s := s.updMaster
  if !gone.isEmpty && s.rd MASTER_STATUS_QUEUED = 0
      && s.rd MASTER_LEDGER_RING_RD = s.rd MASTER_LEDGER_WR then s.occur 230
  else s

/-- The page registers show the newest compared line's page (R225). [DEDUCED, log 57] -/
def State.showPage (s : State) (v : Int) : State :=
  let p := (withEnds s.mas.pages).find? (fun e => decide (e.1.po ≤ v) && (match e.2 with
    | some l => decide (v ≤ l)
    | none => true) && e.1.desc.isSome)
  match p with
  | some (p, _) => (s.wr MASTER_PAGE_ID (s.pageId p)).wrS MASTER_PAGE_ORIGIN p.po
  | none => s.wr MASTER_PAGE_ID noPage

/-- The raster and golden rows that line v reads are accounted for by the DRAM controller (R373).
[DEDUCED, log 58] -/
def State.touchRows (s : State) (v : Int) : State :=
  if s.on MASTER_CTRL_SRC then
    match s.repeatAt v with
    | some (_, v0) =>
      if v - v0 < s.rd MASTER_GOLDEN_CFG_LEN then
        (s.dramTouch (s.rd MASTER_GOLDEN_BASE + (v - v0).toNat * s.goldenStride) (3 * s.wc) clsMaster).2
      else s
    | none => s
  else
    s.mas.pages.foldl (fun s p =>
      match p.desc, p.absent with
      | some d, none =>
        if p.po ≤ v && decide (v < p.po + d.h) then
          (s.dramTouch (d.raster + (v - p.po).toNat * d.rowStride) (d.w * d.nsep) clsMaster).2
        else s
      | _, _ => s) s

/-- MASTER_LAG (R214). -/
def State.updLag (s : State) (v : Int) : State :=
  match s.newestCoarse with
  | some n => s.wr MASTER_INFO_LAG (min 65535 (n - v).toNat)
  | none => s

/-- DIFFERENCE_LINE (R213, R214): the next coarse line, whose tile row's field is ready, is compared
and handed to the scaler. -/
def execDifferenceLine (s : State) : Host.Outcome State Fault Refusal :=
  match s.nextDiffLine, s.newestCoarse with
  | some v, some n =>
    if !s.on MASTER_CTRL_EN || decide (n < v) || (s.tileRow (v / 64)).isNone then .next s
    else
      let m := s.modeOf (4 * v)
      let adv (s : State) : State := ({ s with mas := { s.mas with nextDiff := some (v + 1) } }).updLag v
      if !masterActs m then .next (adv s.endMasterRuns)
      else
        let t := s.mas.commit.setFor (4 * v)
        let s := s.touchRows v
        let ps := (List.range s.wc).map (fun (u : Nat) => s.diffPix t (s.live (u : Int) v) (u : Int) v)
        let px := ps.map (·.1)
        let s := { s with mas := { s.mas with diff := ⟨v, px⟩ :: s.mas.diff.take (keptLines - 1) } }
        let s := match ps.findSome? (·.2) with
          | some a => s.fault srcMaster 0x3211 (slot2 a ++ slotLine v)
          | none => s
        let s := if m = 7 || m = 8 then s.updMasterRuns v px else s.endMasterRuns
        let s := s.noteShort v
        let s := s.regWindows v
        let s := if s.on MASTER_CTRL_SRC then s.goldenMerge v else s
        .next (adv ((s.showPage v).pageSteps v))
  | _, _ => .next s

/-- PRED_SRAM (R223): an error of the prediction memory at a node. -/
def execPredSram (uncorrected : Bool) (node : Fin 83521) (s : State) : Host.Outcome State Fault Refusal :=
  if uncorrected then
    .next (({ s with mas := { s.mas with bad := node.val :: s.mas.bad.filter (· != node.val) } }).fault srcMaster
      0x3250 (slot1 node.val))
  else .next (s.set1 MASTER_STATUS_SRAM_CORR)

/-- A reset of the master path (R224). -/
def State.masterReset (s : State) : State :=
  (({ s with mas := {} }).withdraw (isCommitOf .master)).resetRegs keptWarm 0x310000 0x320000

end Sys2Proof.Machine
end

