-- ==== Sys2Proof/Machine/Scaler.lean ====
section
/-! DEFINITION. The scaler (R226 to R236, R245 to R257): segmentation of the fine and master planes, open
and closed components, streaks, classification, snippets, verdicts and their deadline, and components
across devices. -/

namespace Sys2Proof.Machine

open Sys2Proof

def State.scalerReject (s : State) (off v : Nat) : State :=
  s.reject SCALER_STATUS_CFG_REJECT srcScaler off v

def State.setScal (s : State) (f : Scaler → Scaler) : State := { s with scal := f s.scal }

/-- Modes in which the scaler segments lines (R254). -/
def segmenting (m : Nat) : Bool := decide (5 ≤ m) && decide (m ≤ 9)

/-! ### Planes -/

/-- The fine lines that plane line n stands for. -/
def planeFirst (pl : Nat) (n : Int) : Int := if pl = 0 then n else 4 * n
def planeLast (pl : Nat) (n : Int) : Int := if pl = 0 then n else 4 * n + 3

/-- The fine columns of a plane column. -/
def planeLow (pl u : Nat) : Nat := if pl = 0 then u else 4 * u
def planeHigh (pl u : Nat) : Nat := if pl = 0 then u else 4 * u + 3

/-- Columns of a plane. -/
def State.planeWidth (s : State) (pl : Nat) : Nat := if pl = 0 then s.width else s.width / 4

/-- Is a plane active under a set (R226)? -/
def State.planeActive (s : State) (t : SettingsSet) (pl : Nat) : Bool :=
  if pl = 0 then bitAt (t.rd SCALER_CFG_PLANES) 0 else bitAt (t.rd SCALER_CFG_PLANES) 1 && s.on MASTER_CTRL_EN

/-- The newest line of a plane that the scaler has passed. -/
def Scaler.segOf (c : Scaler) (pl : Nat) : Option Int := if pl = 0 then c.seg else c.segM

def State.setSeg (s : State) (pl : Nat) (n : Int) : State :=
  s.setScal (fun c => if pl = 0 then { c with seg := some n } else { c with segM := some n })

/-- LO, HI and MIN_AREA of a plane in a set (R227). -/
def thrLo (t : SettingsSet) (pl : Nat) : Nat := t.rd (if pl = 0 then SCALER_FINE_THR_LO else SCALER_MASTER_THR_LO)
def thrHi (t : SettingsSet) (pl : Nat) : Nat := t.rd (if pl = 0 then SCALER_FINE_THR_HI else SCALER_MASTER_THR_HI)
def thrArea (t : SettingsSet) (pl : Nat) : Nat :=
  t.rd (if pl = 0 then SCALER_FINE_THR_MIN_AREA else SCALER_MASTER_THR_MIN_AREA)

/-- The first of a list, a lower bound being known: least element, or a default. -/
def leastInt (d : Int) (xs : List Int) : Int := xs.foldl min d

/-! ### The score plane (R161, R226, R273) -/

/-- Does job j of quill q write the fine score plane (R272)? -/
def State.scoring (s : State) (q j : Nat) : Bool :=
  s.on (QUILL_JOB_CTRL_EN q j) && s.on (QUILL_JOB_CTRL_OUT_EN q j) && !s.on (QUILL_JOB_CTRL_PLANE q j)

/-- Fine line n is ready when every kernel that writes the score plane has retired it (R226). -/
def State.fineReady (s : State) (n : Int) : Bool :=
  (List.range 12).all (fun q => (List.range 4).all (fun j => !s.scoring q j || s.jobRetired q j n))

/-- The higher of two scores of each column, the second row standing at column x. -/
def maxAt (x : Nat) (row : List Nat) (acc : List Nat) : List Nat :=
  tabulate acc.length (fun u => max (nth 0 acc u) (if x ≤ u then nth 0 row (u - x) else 0))

/-- The scores of fine line f: the maximum over the enabled jobs, 0 for an invalid pixel (R161, R273). -/
def State.fineScores (s : State) (f : FineLine) : List Nat :=
  let rows := s.scores.filter (fun r => r.line == f.line && s.scoring r.q r.j)
  let acc := rows.foldl (fun a r => maxAt r.x r.scores a) (List.replicate f.pixels.length 0)
  (acc.zip f.pixels).map (fun e => if e.2.isSome then e.1 else 0)

/-- The scores and ΔE of a master line; an uncompared pixel scores 0 (R213, R227). -/
def masterScores (d : DiffLine) : List (Nat × Nat) :=
  d.pixels.map (fun p => if p.cmp then (p.score, p.de) else (0, 0))

/-! ### What holds a verdict (R247, R248) -/

/-- The lowest formed fine line above the newest one passed, else the line after all that have been formed
or published as not formed. -/
def State.nextFine (s : State) : Int :=
  let above (l : Int) : Bool := match s.scal.seg with
    | some n => decide (n < l)
    | none => true
  let ls := ((s.stitch.fine.map (·.line)) ++ s.stitch.work.map (fun w => w.2.line)).filter above
  let e := [s.scal.seg, s.stitch.started, s.stitch.unformed].filterMap id
  match ls with
  | l :: rest => leastInt l rest
  | [] => (e.foldl (fun (a : Option Int) x => some (match a with
      | some y => max x y
      | none => x)) none).getD (-1) + 1

/-- The lowest coarse line that the scaler has still to pass, as a fine line. -/
def State.nextMaster (s : State) : Int :=
  let above (l : Int) : Bool := match s.scal.segM with
    | some n => decide (n < l)
    | none => true
  let ls := (s.mas.diff.map (·.line)).filter above
  match ls, s.mas.nextDiff with
  | l :: rest, _ => 4 * leastInt l rest
  | [], some v => 4 * (match s.scal.segM with
      | some n => max v (n + 1)
      | none => v)
  | [], none => s.nextFine / 4 * 4

/-- Is a component kept under a set (R228)? -/
def State.keptBy (t : SettingsSet) (pl : Nat) (hot : Bool) (area : Nat) : Bool :=
  hot && decide (thrArea t pl ≤ area)

def Comp.area (c : Comp) : Nat := if c.plane = 0 then c.n else 16 * c.n

/-- The set that applies to a component's last line (R253). -/
def State.setOfComp (s : State) (c : Comp) : Option SettingsSet :=
  s.scal.commit.setFor (planeFirst c.plane c.last)

def State.compKept (s : State) (c : Comp) : Bool :=
  match s.setOfComp c with
  | some t => State.keptBy t c.plane c.hot c.area
  | none => false

/-- The ranges of lines whose verdict is not out (R247). -/
def State.notOut (s : State) : List (Int × Int) :=
  let planes := match s.scal.commit.active with
    | some t => (if s.planeActive t 0 then [(s.nextFine, openLine)] else [])
        ++ (if s.planeActive t 1 then [(s.nextMaster, openLine)] else [])
    | none => []
  let seen := max ((s.scal.seg).getD (-1)) (max (s.stitch.started.getD (-1)) (s.stitch.unformed.getD (-1)))
  let tail := [(s.stitch.fine.foldl (fun (a : Int) (f : FineLine) => max a f.line) seen + 1, openLine)]
  let holes := s.scal.holes.map (fun h => (h.2.1, h.2.2))
  let comps := (s.scal.comps.filter s.compKept).map (fun c =>
    (match c.covered with
      | some l => max (l + 1) (planeFirst c.plane c.first)
      | none => planeFirst c.plane c.first, openLine))
  let drafts := s.scal.drafts.map (fun d => (d.hold, d.body.lastLine))
  let held := (s.scal.talQ.filter (·.snip.isSome)).map (fun e => (e.hold, e.body.lastLine))
  let edges := s.scal.closed.map (fun e => (e.hold, e.body.lastLine))
  let parts := s.scal.partials.map (fun p => (p.body.firstLine, p.body.lastLine))
  (planes ++ tail ++ holes ++ comps ++ drafts ++ held ++ edges ++ parts).filter (fun r => decide (r.1 ≤ r.2))

/-- The scaler keeps one deadline action at V + DIST (R248). [DEDUCED, log 66] -/
def State.armVerdict (s : State) : State :=
  let s := s.withdraw (· == .verdict)
  let v := s.rdS SCALER_VERDICT
  let m := s.modeOf v
  if s.on SCALER_DEADLINE && (m = 7 || m = 8) then s.offer' .verdict (lineSlot (v + s.rd SCALER_DEADLINE)) else s

/-- The lowest line at or above v whose verdict is not out; lines in modes that are not segmented owe
none (R247, R254). [DEDUCED, log 65] -/
def State.firstNotOut (s : State) (v : Int) : Int :=
  let rs := s.notOut
  let spans := rs.flatMap (fun r => (modeSpans segmenting s.top.hist openLine (max r.1 v) r.2).map (·.1))
  match spans with
  | l :: rest => leastInt l rest
  | [] => match rs.filter (fun r => r.2 = openLine) with
    | r :: rest => max v (leastInt r.1 (rest.map (·.1)))
    | [] => v

/-- The frontier follows what is out; a step of it replaces the action (R248). [DEDUCED, log 65] -/
def State.updVerdict (s : State) : State :=
  let v := s.rdS SCALER_VERDICT
  let n := max v (s.firstNotOut v)
  if n = v && s.tl.sched.any (fun e => e.act == .verdict) then s else (s.wrS SCALER_VERDICT n).armVerdict

/-- OPEN_COUNT and OPEN_PEAK follow the open table (R230). -/
def State.updOpen (s : State) : State :=
  let n := s.scal.comps.length
  (s.wr SCALER_OPEN_COUNT n).wr SCALER_OPEN_PEAK (max n (s.rd SCALER_OPEN_PEAK))

/-! ### Measurements (R232) -/

/-- The first enabled camera in number order that satisfies a test. -/
def State.camFor (s : State) (col : Int) : Option Nat :=
  let dist (k : Nat) : Nat :=
    if col < s.spanFirst k then ((s.spanFirst k : Int) - col).toNat
    else if (s.spanLast k : Int) < col then (col - s.spanLast k).toNat else 0
  leastBy dist s.cams

/-- Frame number and exposure set of a tally's first line (R104, R232). -/
def State.tallyTags (s : State) (col first : Int) : Nat × Nat :=
  let here (t : Nat × Nat) : Nat × Nat := match s.playedAs first with
    | some f => (f.frame, t.2)
    | none => t
  here <| match s.camFor col with
  | some k =>
    match s.camCtx k with
    | some (p, x) => s.pastTags p x first
    | none => ((s.frameOf (s.stitchGen s.stitch.commit.active) first).2, 0)
  | none => ((s.frameOf (s.stitchGen s.stitch.commit.active) first).2, 0)

/-- The camera mask of columns `low .. high` of this device (R232). -/
def State.camMaskOf (s : State) (low high : Int) : Nat :=
  s.cams.foldl (fun m k =>
    if (s.spanFirst k : Int) ≤ high && decide (low ≤ (s.spanLast k : Int)) then m + 2 ^ k else m) 0

/-- The page ID of a master tally's centroid pixel (R237). -/
def State.tallyPage (s : State) (col line : Int) : Nat :=
  match s.mas.diff.find? (fun d => d.line == line / 4) with
  | some d => (nth ⟨0, 0, noPage, false, 0, (0, 0, 0)⟩ d.pixels (col / 4).toNat).page
  | none => noPage

/-- Severity from a peak score (R236). -/
def sevOf (t : SettingsSet) (peak : Nat) : Nat :=
  if t.rd SCALER_SEVERITY_SEV_T3 ≤ peak then 3
  else if t.rd SCALER_SEVERITY_SEV_T2 ≤ peak then 2
  else if t.rd SCALER_SEVERITY_SEV_T1 ≤ peak then 1 else 0

/-- What follows from a tally's position and box: first-line tags, camera mask, page, severity (R232,
R236, R237). -/
def State.tagTally (s : State) (t : SettingsSet) (r : TallyRec) : TallyRec :=
  let xb : Int := s.rd STITCH_XBASE
  let col : Int := (r.xpos / 16 : Int) - xb
  let tags := s.tallyTags col r.firstLine
  { r with
    deviceId := s.deviceId
    expSet := tags.2
    epoch := s.lineEpoch r.firstLine
    frame := tags.1
    sev := sevOf t r.peak
    camMask := s.camMaskOf ((r.left : Int) - xb) ((r.right : Int) - xb)
    pageId := if r.ty = 0x11 then s.tallyPage col (floorShift r.pos 16) else noPage }

/-- The tally of a component through its last line with some flags (R232, R237). -/
def State.measure (s : State) (t : SettingsSet) (c : Comp) (flags : List Nat) : TallyRec :=
  let xb := s.rd STITCH_XBASE
  let n : Int := c.n
  let f := planeFirst c.plane c.first
  let l := planeLast c.plane c.last
  let off := c.lines - n * c.first
  let off2 := if c.plane = 0 then 2 * off else 8 * off + 3 * n
  let pos := linePos f + rneDiv (off2 * 65536) (2 * n)
  let area := c.area
  let r : TallyRec :=
    { ty := 0x10 + c.plane, flags := 0, deviceId := 0, expSet := 0, seq := 0, epoch := 0, frame := 0
      pos := pos
      xpos := (xb * 16 + (rneDiv (16 * (c.col2 : Int)) (2 * n)).toNat) % 2 ^ 24
      cls := 0, sev := 0, area := min area (2 ^ 32 - 1)
      top := (floorShift pos 16 - f).toNat, hm1 := (l - f).toNat
      peak := c.peak, mean := min 255 (rneDiv c.score n).toNat
      left := xb + planeLow c.plane c.low, right := xb + planeHigh c.plane c.high
      camMask := 0
      word30 := if c.plane = 0 then 0 else min 65535 (rneDiv c.de n).toNat
      pageId := noPage, ptpNs := 0, ptpWrap := 0 }
  let r := flags.foldl (fun r b => r.setFlag b) r
  let r := if c.contPrev then r.setFlag flagContPrev else r
  let r := if 2 ^ 32 ≤ area then r.setFlag flagSat else r
  s.tagTally t r

/-! ### Classification and the way to the queue (R234 to R236, R284) -/

/-- A slot of quill q's feature queue. -/
def State.fqSlot (s : State) (q i : Nat) : FqSlot := spGet (fun _ => {}) (s.quillAt q).fq i

def State.setFq (s : State) (q i : Nat) (x : FqSlot) : State :=
  let u := s.quillAt q
  let s := s.setQuill q { u with fq := spSet (fun _ => {}) u.fq i x }
  let fs := (List.range 64).map (s.fqSlot q)
  (s.wr (QUILL_FQ_QUEUED q) (fs.filter (·.full)).length).wr (QUILL_FQ_CLAIMED q)
    (fs.filter (fun f => f.full && f.claimed)).length

/-- A draft leaves for the tally queue: STREAK_NOZZLE for a streak with a nozzle (R239, R257). -/
def State.finishDraft (s : State) (d : Draft) : State :=
  let s := if d.streak && bitAt d.body.word30 31 then s.occur 236 else s
  (s.enterTally d.body true d.hold).updVerdict

/-- A draft goes without an answer of the classifier: class 63, counted as a timeout (R235, R284). -/
def State.classFailed (s : State) (d : Draft) : State :=
  let n := s.scal.timeouts
  let s := (s.set1 SCALER_STATUS_CLASS_TIMEOUT).setScal (fun c => { c with timeouts := n + 1 })
  let s := if n % 1000 = 0 then s.fault srcScaler 0x5004 (slot1 d.quill ++ slot1 (s.rd SCALER_SEQ_NEXT)) else s
  s.finishDraft { d with body := { d.body with cls := 63 } }

/-- The run of drafts that found the feature queue full ends: fault 0x4012 with its count (R284).
[DEDUCED, log 64] -/
def State.endFqRun (s : State) : State :=
  match s.scal.fqRun with
  | some (q, n) => (s.setScal (fun c => { c with fqRun := none })).fault (srcQuill q) 0x4012 (slot1 q ++ slot1 n)
  | none => s

/-- A draft whose attribution is settled is classified, or leaves at once (R235, R236, R284). -/
def State.classify (s : State) (d : Draft) : State :=
  if !s.on SCALER_CTRL_CLASS_EN then s.finishDraft d
  else
    let q := s.rd SCALER_CLASS_CLASS_QUILL
    match firstIdx 64 (fun i => !(s.fqSlot q i).full) with
    | none =>
      let n := match s.scal.fqRun with
        | some (p, n) => if p = q then n + 1 else 1
        | none => 1
      let s := (s.set1 (QUILL_STATUS_FQ_FULL q)).setScal (fun c => { c with fqRun := some (q, n) })
      s.classFailed { d with quill := q }
    | some i =>
      let s := s.endFqRun
      let u := s.quillAt q
      let f := s.fqSlot q i
      let s := s.setQuill q { u with fqNext := u.fqNext + 1 }
      let s := s.setFq q i
        { full := true, gen := (f.gen + 1) % 2 ^ 26, draft := d.id, claimed := false, order := u.fqNext
          bytes := (d.body.bytes.take 56) ++ List.replicate 8 0 }
      let d := { d with classWait := true, quill := q, slot := i, since := s.now }
      s.setScal (fun c => { c with drafts := c.drafts ++ [d] })

/-- A tally of a kept component starts on its way: a streak asks the attribution unit (R234, R235). -/
def State.startDraft (s : State) (t : SettingsSet) (r : TallyRec) (hold : Int) : State :=
  let lines := t.rd SCALER_STREAK_STREAK_LINES
  let streak := r.ty == 0x10 && lines != 0 && decide (lines ≤ r.hm1 + 1)
    && decide (r.right + 1 ≤ r.left + t.rd SCALER_STREAK_STREAK_WIDTH)
  let id := s.scal.nextId
  let d : Draft := { id := id, body := r, hold := hold, streak := streak }
  let s := s.setScal (fun c => { c with nextId := id + 1 })
  if streak then
    let a : AttrReq := { x := r.xpos, pos := linePos r.firstLine, ink := t.rd SCALER_STREAK_STREAK_INK
                         record := false, tally := some id }
    let s := { s with fine := { s.fine with asked := s.fine.asked ++ [a] } }
    s.setScal (fun c => { c with drafts := c.drafts ++ [d] })
  else s.classify d

/-- The draft with an identifier, taken off. -/
def State.takeDraft (s : State) (id : Nat) : Option (Draft × State) :=
  match s.scal.drafts.find? (fun d => d.id == id) with
  | some d => some (d, s.setScal (fun c => { c with drafts := c.drafts.filter (fun e => e.id != id) }))
  | none => none

/-- ATTR_RESULT (R165, R166): in 1.2 GHz clock `clk`, 48 clocks after its start, the oldest running request
returns its result: into the draft that asked, or into a nozzle record. -/
def execAttrResult (clk : Nat) (s : State) : Host.Outcome State Fault Refusal :=
  match s.fine.running with
  | [] => .next s
  | (t, r, a) :: rest =>
    if clk < t + 48 then .next s
    else
      let s := { s with fine := { s.fine with running := rest } }
      match r.tally with
      | none => .next (if r.record then s.writeNozzle r a else s)
      | some id =>
        match s.takeDraft id with
        | some (d, s) =>
          let w := if a.found then a.bhn + b2n a.ambiguous * 2 ^ 22 + b2n a.high * 2 ^ 23 else 0
          .next (s.classify { d with body := { d.body with word30 := w } })
        | none => .next s

/-- The draft in a feature queue slot is answered or times out: its slot is freed. -/
def State.freeFq (s : State) (q i : Nat) : State :=
  let f := s.fqSlot q i
  s.setFq q i { gen := f.gen }

/-- CLASS_TIMEOUT (R235): the oldest draft without an answer within CLASS_TIMEOUT µs is emitted with
class 63. -/
def execClassTimeout (s : State) : Host.Outcome State Fault Refusal :=
  let lim := s.rd SCALER_CLASS_CLASS_TIMEOUT * ticksPerUs
  match s.scal.drafts.find? (fun d => d.classWait && decide (d.since + lim ≤ s.now)) with
  | none => .next s
  | some d =>
    match s.takeDraft d.id with
    | some (_, s) =>
      let f := s.fqSlot d.quill d.slot
      let s := if f.full && f.draft == d.id then s.freeFq d.quill d.slot else s
      .next (s.classFailed d)
    | none => .next s

/-! ### Components across devices (R250 to R252) -/

def State.leftId (s : State) : Nat := s.rd SCALER_EDGE_LEFT_ID
def State.rightId (s : State) : Nat := s.rd SCALER_EDGE_RIGHT_ID

/-- A partial record to the owner, or the component's own tally with EDGE_OPEN when the link to the owner
does not carry it (R251, R252). [DEDUCED, log 68] -/
def State.sendPartial (s : State) (t : SettingsSet) (r : TallyRec) (hot : Bool) (label : Nat) (hold : Int) :
    State :=
  if s.canReach s.leftId then
    let p := { r with ty := r.ty + 8, ptpNs := label, ptpWrap := 0 }
    s.sendRecord s.leftId p.bytes
  else
    let s := s.fault srcScaler 0x5008 (slot1 s.leftId ++ slot1 label)
    if State.keptBy t (r.ty - 0x10) hot r.area then s.startDraft t (r.setFlag flagEdgeOpen) hold
    else s.bump SCALER_QUIET

/-- A component or merger that nothing on the right holds any longer leaves: to the left owner when it
touches column 0, else as a tally when it is kept (R228, R251). -/
def State.leaveRight (s : State) (t : SettingsSet) (e : EdgeComp) : State :=
  if e.touches && s.leftId != 0xFFF then s.sendPartial t e.body e.hot e.label e.hold
  else if State.keptBy t e.plane e.hot e.body.area then s.startDraft t e.body e.hold
  else s.bump SCALER_QUIET

/-- Two records become one (R251): areas add, centroids and means are weighted by area, peaks and boxes
unite. -/
def mergeTally (a b : TallyRec) : TallyRec :=
  let w : Int := a.area + b.area
  let mix (x y : Int) : Int := if w = 0 then x else rneDiv (x * a.area + y * b.area) w
  let f := min a.firstLine b.firstLine
  let l := max a.lastLine b.lastLine
  let pos := mix a.pos b.pos
  let r := { a with
    flags := orNat 8 a.flags b.flags
    pos := pos
    xpos := (mix a.xpos b.xpos).toNat
    area := min (a.area + b.area) (2 ^ 32 - 1)
    top := (floorShift pos 16 - f).toNat
    hm1 := (l - f).toNat
    peak := max a.peak b.peak
    mean := (mix a.mean b.mean).toNat
    left := min a.left b.left
    right := max a.right b.right
    word30 := if a.ty = 0x11 then (mix a.word30 b.word30).toNat else 0 }
  if 2 ^ 32 ≤ a.area + b.area then r.setFlag flagSat else r

/-- The strip rows as lines of a plane: line, label of a lit pixel, late. -/
def stripRowsOf (pl : Nat) (rows : List StripRow) : List (Int × Option Nat × Bool) :=
  if pl = 0 then rows.map (fun r => (r.line, r.fine, r.late))
  else (rows.filter (fun r => r.line % 4 = 3)).map (fun r => (r.line / 4, r.master, r.late))

/-- Does a row touch a component whose lines lit in the last column are given (R251)? -/
def rowTouches (edge : List Int) (l : Int) : Bool :=
  edge.any (fun e => decide (e - 1 ≤ l) && decide (l ≤ e + 1))

/-- Does a partial hold the sender's pixel of label `lab` in a line? -/
def Partial.holds (p : Partial) (pl : Nat) (lab : Nat) (l : Int) : Bool :=
  p.plane == pl && p.label == lab && decide (p.body.firstLine ≤ planeLast pl l)
    && decide (planeFirst pl l ≤ p.body.lastLine)

/-- Labels under which the sender's pixel of a row may have closed: its own, and those of the rows that
follow it without a gap, which hold the same component. [DEDUCED, log 68] -/
def labelsFrom : Nat → List (Int × Option Nat × Bool) → Int → List Nat
  | 0, _, _ => []
  | k + 1, rows, l =>
    match rows.find? (fun r => r.1 == l) with
    | some (_, some lab, _) => lab :: labelsFrom k rows (l + 1)
    | _ => []

/-- The partial that holds the sender's pixel of row l. -/
def State.partialOf (s : State) (pl : Nat) (l : Int) : Option Partial :=
  let rows := stripRowsOf pl s.scal.rows
  s.scal.partials.find? (fun p => (labelsFrom 64 rows l).any (fun lab => p.holds pl lab l))

/-- The rows lit beside a component. -/
def State.litBeside (s : State) (pl : Nat) (edge : List Int) : List Int :=
  ((stripRowsOf pl s.scal.rows).filter (fun r => r.2.1.isSome && rowTouches edge r.1)).map (·.1)

/-- Have the strips beside a component arrived, or been given up? -/
def State.stripsIn (s : State) (pl : Nat) (edge : List Int) : Bool :=
  match s.scal.rowsTo, edge with
  | _, [] => true
  | some n, e :: es => decide (planeLast pl (es.foldl max e + 1) ≤ n)
  | none, _ => false

/-- One round of the union across the edge: closed components and partials that touch those already in
it. -/
def State.unionStep (s : State) (pl : Nat) (u : List EdgeComp × List Partial) : List EdgeComp × List Partial :=
  let ps := s.scal.partials.filter (fun p => p.plane == pl && (u.2.contains p ||
    u.1.any (fun e => (s.litBeside pl e.edge).any (fun l => s.partialOf pl l == some p))))
  let es := s.scal.closed.filter (fun e => e.plane == pl && (u.1.contains e ||
    (s.litBeside pl e.edge).any (fun l => match s.partialOf pl l with
      | some p => ps.contains p
      | none => false)))
  (es, ps)

def State.unionOf (s : State) (pl : Nat) : Nat → List EdgeComp × List Partial → List EdgeComp × List Partial
  | 0, u => u
  | k + 1, u => State.unionOf s pl k (s.unionStep pl u)

/-- Is a union complete: strips in, every lit sender pixel's partial arrived, and no open component of this
device in it (R251)? -/
def State.unionReady (s : State) (pl : Nat) (u : List EdgeComp × List Partial) : Bool :=
  u.1.all (fun e => s.stripsIn pl e.edge && (s.litBeside pl e.edge).all (fun l => (s.partialOf pl l).isSome))
    && s.scal.comps.all (fun c => c.plane != pl || !((s.litBeside pl c.edge).any (fun l =>
        match s.partialOf pl l with
        | some p => u.2.contains p
        | none => false)))
    && u.2.all (fun p => match s.scal.segOf pl with
        | some n => decide (p.body.lastLine < planeFirst pl n)
        | none => false)

/-- Was a late strip beside a component or partial (R252)? -/
def State.lateBeside (s : State) (pl : Nat) (u : List EdgeComp × List Partial) : Bool :=
  (stripRowsOf pl s.scal.rows).any (fun r => r.2.2 && (u.1.any (fun e => rowTouches e.edge r.1)
    || u.2.any (fun p => decide (p.body.firstLine ≤ planeLast pl r.1)
        && decide (planeFirst pl r.1 ≤ p.body.lastLine))))

/-- A complete union leaves as one component (R251). [DEDUCED, log 68] -/
def State.emitUnion (s : State) (t : SettingsSet) (pl : Nat) (u : List EdgeComp × List Partial) : State :=
  let late := s.lateBeside pl u
  let s := s.setScal (fun c => { c with
    closed := c.closed.filter (fun e => !u.1.contains e)
    partials := c.partials.filter (fun p => !u.2.contains p) })
  let recs := u.1.map (·.body) ++ u.2.map (fun p => { p.body with ty := 0x10 + pl })
  match recs with
  | [] => s
  | r :: rs =>
    let r := rs.foldl mergeTally r
    let r := if u.2.isEmpty then r else r.setFlag flagMerged
    let r := if late then r.setFlag flagEdgeOpen else r
    let r := s.tagTally t r
    let hi := thrHi t pl
    s.leaveRight t
      { body := r, plane := pl, edge := [], touches := u.1.any (·.touches)
        hot := u.1.any (·.hot) || decide (hi ≤ r.peak)
        label := ((u.1.find? (·.touches)).map (·.label)).getD 0
        hold := u.1.foldl (fun h e => min h e.hold) r.firstLine }

/-- Every union of a plane that is complete leaves. -/
def State.resolvePlane (s : State) (pl : Nat) : Nat → State
  | 0 => s
  | k + 1 =>
    let seeds := (s.scal.closed.filter (·.plane == pl)).map (fun e => ([e], ([] : List Partial)))
      ++ (s.scal.partials.filter (·.plane == pl)).map (fun p => (([] : List EdgeComp), [p]))
    let fuel := s.scal.closed.length + s.scal.partials.length
    match (seeds.map (s.unionOf pl fuel)).find? (s.unionReady pl) with
    | none => s
    | some u =>
      let last := u.1.foldl (fun a e => max a e.body.lastLine) (u.2.foldl (fun a p => max a p.body.lastLine) 0)
      match s.scal.commit.setFor last with
      | some t => (s.emitUnion t pl u).resolvePlane pl k
      | none => s

/-- Strip rows that no open or waiting component can touch are forgotten. -/
def State.pruneRows (s : State) : State :=
  let keep := leastInt ((s.scal.seg).getD 0) ((s.scal.comps.map (fun c => planeFirst c.plane c.first))
    ++ s.scal.closed.map (fun e => e.body.firstLine) ++ s.scal.partials.map (fun p => p.body.firstLine)) - 8
  s.setScal (fun c => { c with rows := c.rows.filter (fun r => decide (keep ≤ r.line)) })

def State.resolveEdges (s : State) : State :=
  let n := s.scal.closed.length + s.scal.partials.length
  ((s.resolvePlane 0 n).resolvePlane 1 n).pruneRows

/-! ### Closing, splitting, open tallies (R228 to R233) -/

/-- A component ends: it waits at an edge, is emitted, or is quiet (R228, R231, R251). -/
def State.endComp (s : State) (c : Comp) (flags : List Nat) : State :=
  match s.setOfComp c with
  | none => s.bump SCALER_QUIET
  | some t =>
    let r := s.measure t c flags
    let hold := match c.covered with
      | some l => max (l + 1) r.firstLine
      | none => r.firstLine
    let e : EdgeComp := { body := r, plane := c.plane, hot := c.hot, edge := c.edge, touches := c.touches
                          label := c.label, hold := hold }
    if s.rightId != 0xFFF && !c.edge.isEmpty then s.setScal (fun x => { x with closed := x.closed ++ [e] })
    else s.leaveRight t e

/-- Components of a plane that a test selects close (R229). [DESIGN CHOICE, log 163] -/
def State.closeComps (s : State) (p : Comp → Bool) : State :=
  let out := s.scal.comps.filter p
  let s := s.setScal (fun c => { c with comps := c.comps.filter (fun x => !p x) })
  out.foldl (fun s c => s.endComp c []) s

/-- The line limit of a component (R231). [DEDUCED, log 67] -/
def splitLimit (pl : Nat) : Int := if pl = 0 then 65536 else 16384

/-- A component that has reached its limit is split before line n: the part so far is emitted with
CONT_NEXT, the rest starts afresh (R231). [DEDUCED, log 67] -/
def State.splitComp (s : State) (c : Comp) (n : Int) : Comp × State :=
  if n - c.first < splitLimit c.plane then (c, s)
  else
    let s := s.endComp c [flagContNext]
    ({ id := c.id, label := c.label, plane := c.plane, first := n, last := c.last, low := 2 ^ 20, high := 0
       contPrev := true, runs := c.runs, cur := c.cur }, s)

/-- Two components meet: exact sums, the lower first line (R229). -/
def Comp.absorb (a b : Comp) : Comp :=
  { a with
    first := min a.first b.first
    last := max a.last b.last
    n := a.n + b.n
    lines := a.lines + b.lines
    col2 := a.col2 + b.col2
    score := a.score + b.score
    peak := max a.peak b.peak
    de := a.de + b.de
    low := min a.low b.low
    high := max a.high b.high
    hot := a.hot || b.hot
    contPrev := a.contPrev || b.contPrev
    runs := a.runs ++ b.runs
    cur := a.cur ++ b.cur
    opened := max a.opened b.opened
    covered := match a.covered, b.covered with
      | some x, some y => some (min x y)
      | _, _ => none
    touches := a.touches || b.touches
    edge := a.edge ++ b.edge }

/-- Is one of a component's runs in its last line 8-connected to columns `a .. b` (R228)? -/
def Comp.meets (c : Comp) (n : Int) (a b : Nat) : Bool :=
  c.last == n - 1 && c.runs.any (fun r => decide (r.1 ≤ b + 1) && decide (a ≤ r.2 + 1))

/-- A run of lit pixels joins a component (R232). -/
def Comp.addRun (c : Comp) (n : Int) (a b width : Nat) (px : List (Nat × Nat)) (hi : Nat) : Comp :=
  let k := b + 1 - a
  let peak := px.foldl (fun m p => max m p.1) 0
  let centre := if c.plane = 0 then k * (a + b + 1) else k * (4 * (a + b) + 4)
  { c with
    n := c.n + k
    lines := c.lines + n * k
    col2 := c.col2 + centre
    score := c.score + (px.map (·.1)).sum
    peak := max c.peak peak
    de := c.de + (px.map (·.2)).sum
    low := min c.low a
    high := max c.high b
    hot := c.hot || decide (hi ≤ peak)
    cur := c.cur ++ [(a, b)]
    touches := c.touches || a == 0
    edge := if b + 1 = width then c.edge ++ [n] else c.edge }

/-- The maximal runs of lit columns. -/
def litRuns (lo : Nat) : Nat → List Nat → Option Nat → List (Nat × Nat)
  | u, [], some a => [(a, u - 1)]
  | _, [], none => []
  | u, x :: xs, open_ =>
    if lo ≤ x then litRuns lo (u + 1) xs (some (open_.getD u))
    else match open_ with
      | some a => (a, u - 1) :: litRuns lo (u + 1) xs none
      | none => litRuns lo (u + 1) xs none

/-- An unlabelled run of line n: the open run of affected lines grows, or starts with fault 0x5001 (R230). -/
def State.noteFull (s : State) (pl : Nat) (n : Int) (a b : Nat) : State :=
  match spGet (fun _ => none) s.scal.full pl with
  | some r =>
    let x := { r with last := n, low := min r.low a, high := max r.high b }
    s.setScal (fun c => { c with full := spSet (fun _ => none) c.full pl (some x) })
  | none =>
    let s := (s.set1 SCALER_STATUS_TABLE_FULL).fault srcScaler 0x5001
      (slot1 pl ++ slotLine (planeFirst pl n) ++ slot1 a ++ slot1 b)
    s.setScal (fun c => { c with full := spSet (fun _ => none) c.full pl (some ⟨n, n, a, b⟩) })

/-- The run of affected lines of a plane ends before line n, and its coverage is published (R230). -/
def State.endFull (s : State) (pl : Nat) (n : Int) : State :=
  match spGet (fun _ => none) s.scal.full pl with
  | some r =>
    if r.last < n then
      let xb := s.rd STITCH_XBASE
      let s := s.setScal (fun c => { c with full := spSet (fun _ => none) c.full pl none })
      s.cover (planeFirst pl r.first) (planeLast pl r.last) (xb + planeLow pl r.low) (xb + planeHigh pl r.high)
        0x52 4 pl 0
    else s
  | none => s

/-- The lowest label that no open component holds. -/
def freeLabel (cs : List Comp) : Nat := (firstIdx 65536 (fun l => !(cs.any (fun c => c.label == l)))).getD 0

/-- A run of lit pixels of line n is joined to the components it touches, or starts one (R228 to R231). -/
def State.joinRun (s : State) (t : SettingsSet) (pl : Nat) (n : Int) (px : List (Nat × Nat)) (r : Nat × Nat) :
    State :=
  let a := r.1
  let b := r.2
  let seg := (px.drop a).take (b + 1 - a)
  let hit := s.scal.comps.filter (fun c => c.plane == pl && c.meets n a b)
  let go := hit.foldl (fun (acc : List Comp × State) c =>
    let x := acc.2.splitComp c n
    (acc.1 ++ [x.1], x.2)) ([], s)
  let s := go.2
  match minBy (fun (c : Comp) => c.first * 2 ^ 40 + c.id) go.1 with
  | none =>
    if 65536 ≤ s.scal.comps.length then s.noteFull pl n a b
    else
      let id := s.scal.nextId
      let c : Comp := { id := id, label := freeLabel s.scal.comps, plane := pl, first := n, last := n, low := a, high := b }
      let c := c.addRun n a b (s.planeWidth pl) seg (thrHi t pl)
      s.setScal (fun x => { x with nextId := id + 1, comps := x.comps ++ [c] })
  | some root =>
    let all := (go.1.filter (fun c => c.id != root.id)).foldl Comp.absorb root
    let c := all.addRun n a b (s.planeWidth pl) seg (thrHi t pl)
    let ids := go.1.map (·.id)
    s.setScal (fun x => { x with comps := (x.comps.filter (fun c => !ids.contains c.id)) ++ [c] })

/-- The line ends: components with pixels in it go on, the others close (R229). [DESIGN CHOICE, log 163] -/
def State.endLine (s : State) (pl : Nat) (n : Int) : State :=
  let s := s.closeComps (fun c => c.plane == pl && c.cur.isEmpty)
  s.setScal (fun x => { x with comps := x.comps.map (fun c =>
    if c.plane = pl then { c with last := n, runs := c.cur, cur := [] } else c) })

/-- Open tallies of kept components whose height reaches a multiple of OPEN_LINES (R233). -/
def State.openTallies (s : State) (t : SettingsSet) (pl : Nat) (n : Int) : State :=
  let ol := s.rd SCALER_OPEN
  if ol = 0 then s
  else
    (s.scal.comps.filter (fun c => c.plane == pl)).foldl (fun s c =>
      let h := (planeLast pl n - planeFirst pl c.first + 1).toNat
      if c.opened < h / ol then
        let kept := State.keptBy t pl c.hot c.area
        let put (cov : Option Int) (s : State) : State :=
          s.setScal (fun x => { x with comps := x.comps.map (fun d =>
            if d.id = c.id then { d with opened := h / ol, covered := cov } else d) })
        if kept then
          let r := s.measure t c [flagOpen]
          let hold := match c.covered with
            | some l => max (l + 1) r.firstLine
            | none => r.firstLine
          (put (some (planeLast pl n)) s).startDraft t r hold
        else put c.covered s
      else s) s

/-- The labels of column 0 that a boundary strip will carry (R250). -/
def State.noteCol0 (s : State) (pl : Nat) (n : Int) : State :=
  if s.leftId = 0xFFF then s
  else
    match s.scal.comps.find? (fun c => c.plane == pl && c.last == n && c.runs.any (fun r => r.1 == 0)) with
    | some c => s.setScal (fun x => { x with col0 := x.col0 ++ [(pl, n, c.label)] })
    | none => s

/-- A line of a plane is segmented under a set. -/
def State.segmentLine (s : State) (t : SettingsSet) (pl : Nat) (n : Int) (px : List (Nat × Nat)) : State :=
  let runs := litRuns (thrLo t pl) 0 (px.map (·.1)) none
  let s := runs.foldl (fun s r => s.joinRun t pl n px r) s
  let s := (s.endLine pl n).endFull pl n
  (s.openTallies t pl n).noteCol0 pl n

/-- A line is passed unsegmented: nothing joins across it. -/
def State.passLine (s : State) (pl : Nat) (n : Int) : State :=
  (s.closeComps (fun c => c.plane == pl)).endFull pl n

/-- SEGMENT_LINE (R226, R253, R254): the next ready line of a plane. -/
def execSegmentLine (master : Bool) (s : State) : Host.Outcome State Fault Refusal :=
  let pl := b2n master
  if !s.on SCALER_CTRL_EN then .next s
  else
    let above (l : Int) : Bool := match s.scal.segOf pl with
      | some n => decide (n < l)
      | none => true
    let line : Option (Int × List (Nat × Nat)) :=
      if master then
        (minBy (fun (d : DiffLine) => d.line) (s.mas.diff.filter (fun d => above d.line))).map
          (fun d => (d.line, masterScores d))
      else
        match minBy (fun (f : FineLine) => f.line) (s.stitch.fine.filter (fun f => above f.line)) with
        | some f => if s.fineReady f.line then some (f.line, (s.fineScores f).map (fun v => (v, 0))) else none
        | none => none
    match line with
    | none => .next s
    | some (n, px) =>
      let gap := match s.scal.segOf pl with
        | some m => m + 1 != n
        | none => false
      let s := if gap then s.passLine pl (n - 1) else s
      let f := planeFirst pl n
      let s :=
        if s.mode != 9 && !segmenting (s.modeOf f) then s.passLine pl n
        else
          match s.scal.commit.setFor f with
          | none =>
            (s.passLine pl n).setScal (fun c => { c with holes := c.holes ++ [(pl, f, planeLast pl n)] })
          | some t => if s.planeActive t pl then s.segmentLine t pl n px else s.passLine pl n
      let s := s.setSeg pl n
      let s := { s with scores := s.scores.filter (fun r => master || decide (n < r.line)) }
      .next (s.resolveEdges.updOpen.updVerdict)

/-! ### Enabling, commits, resets (R229, R253, R255, R256, R456) -/

/-- The held coverage record of mode control is taken ahead of every other (R456). -/
def State.releaseHeld (s : State) : State :=
  if s.on TOP_STATUS_HELD_VALID then
    let first := floorShift (s.rdS TOP_HELD_FIRST) 16
    let last := floorShift (s.rdS TOP_HELD_LAST) 16
    let last := if last = openLine then s.line else last
    let w := s.fullSpan
    let s := s.wr TOP_STATUS_HELD_VALID 0
    s.enterCov (s.covRec first last w.1 w.2 0x71 7 0xFFFFFFFF 0 noPage) true
  else s

/-- The newest line of the fine plane that is ready. -/
def State.newestReady (s : State) : Option Int :=
  (s.stitch.fine.find? (fun f => s.fineReady f.line)).map (·.line)

/-- A write of EN = 1: lines that become ready from now on are segmented; earlier ones stay owed.
[DEDUCED, log 66] -/
def State.scalerEnable (s : State) : State :=
  if s.on SCALER_CTRL_EN then s
  else
    let s := (s.set1 SCALER_CTRL_EN).releaseHeld
    let v := s.rdS SCALER_VERDICT
    let n := s.newestReady
    let m := (s.mas.diff.head?).map (·.line)
    let hole (pl : Nat) (l : Option Int) : List (Nat × Int × Int) := match l with
      | some l => if v ≤ planeLast pl l then [(pl, v, planeLast pl l)] else []
      | none => []
    let s := s.setScal (fun c => { c with
      seg := n, segM := m, holes := c.holes ++ hole 0 n ++ hole 1 m
      stripNext := n.map (· + 1), col0 := [], rows := [], rowsTo := n })
    s.updVerdict

/-- SCALER_ENABLE (R456). -/
def execScalerEnable (s : State) : Host.Outcome State Fault Refusal := .next s.scalerEnable

/-- A write of EN = 0: open components are discarded without a tally (R229). -/
def State.scalerDisable (s : State) : State :=
  let s := ((s.endFull 0 openLine).endFull 1 openLine).setScal (fun c => { c with
    comps := [], closed := [], partials := [], rows := [], col0 := [], stripNext := none, rowsTo := none })
  (s.wr SCALER_CTRL_EN 0).updOpen

/-- The status bits that follow the commit state. -/
def State.updScaler (s : State) : State :=
  let c := s.scal.commit
  (s.wr SCALER_STATUS_SET_VALID (b2n c.active.isSome)).wr SCALER_STATUS_COMMIT_PENDING (b2n (!c.pend.isEmpty))

def State.scalerCommit (s : State) (cancel : Bool) : State :=
  ((s.setScal (fun c => { c with commit :=
    if cancel then c.commit.cancel else c.commit.record s.now none })).updScaler).offerCommit .scaler

/-- SCALER_COMMIT (R253). -/
def execScalerCommit (cancel : Bool) (s : State) : Host.Outcome State Fault Refusal :=
  .next (s.scalerCommit cancel)

/-- A reset of the scaler (R229, R255). -/
def State.scalerReset (s : State) : State :=
  let s := (s.withdraw (fun a => a == .verdict || isCommitOf .scaler a)).resetRegs keptWarm 0x330000 0x340000
  let s := { s with scal := {} }
  (List.range 12).foldl (fun s q =>
    (List.range 64).foldl (fun s i => if (s.fqSlot q i).full then s.freeFq q i else s) s) s

/-- SCALER_SRAM (R256): an error of the open table at an entry. -/
def execScalerSram (uncorrected : Bool) (label : Fin 65536) (s : State) : Host.Outcome State Fault Refusal :=
  let l := label.val
  if !uncorrected then .next ((s.set1 SCALER_STATUS_SRAM_CORR).fault srcScaler 0x5009 (slot1 0 ++ slot1 l))
  else
    let s := s.fault srcScaler 0x5009 (slot1 1 ++ slot1 l)
    match s.scal.comps.find? (fun c => c.label == l) with
    | none => .next s
    | some c =>
      let s := s.setScal (fun x => { x with comps := x.comps.filter (fun d => d.id != c.id) })
      let xb := s.rd STITCH_XBASE
      let s := s.cover (planeFirst c.plane c.first) (planeLast c.plane c.last) (xb + planeLow c.plane c.low)
        (xb + planeHigh c.plane c.high) 0x53 4 c.plane 0
      .next s.updOpen.updVerdict

/-! ### Snippets (R245, R246) -/

/-- SNIP_STRIDE (R245): header and pixels rounded up to 4 KiB. -/
def State.updSnip (s : State) : State :=
  let n := 64 + 64 * s.rd SCALER_SNIP_SNIP_W * s.rd SCALER_SNIP_SNIP_H * imgBytes (s.rd DRAMC_IMG_CFG_FORMAT)
  s.wr SCALER_SNIP_STRIDE ((n + 4095) / 4096 * 4096)

/-- The entry whose snippet satisfies a test. -/
def State.snipEntry (s : State) (p : SnipJob → Bool) : Option (TallyEntry × SnipJob) :=
  s.scal.talQ.findSome? (fun e => match e.snip with
    | some j => if p j then some (e, j) else none
    | none => none)

/-- A held tally is let go (R246). -/
def State.letGo (s : State) (e : TallyEntry) (snippet : Bool) : State :=
  let t := if snippet then e.body.setFlag flagSnippet else e.body
  let t := if s.isLate t.firstLine t.lastLine then t.setFlag flagLate else t
  let s := s.setScal (fun c => { c with talQ := c.talQ.map (fun x =>
    if x = e then { x with body := t, snip := none } else x) })
  (s.deliverTally t t.bytes).freeEntries.updVerdict

/-- A snippet is lost: reason 0 overwritten, 1 timeout, 2 channel error (R246). -/
def State.snipLost (s : State) (e : TallyEntry) (reason : Nat) : State :=
  ((s.set1 SCALER_STATUS_SNIP_LOST).fault srcScaler 0x5005 (slot1 e.body.seq ++ slot1 reason)).letGo e false

/-- Does the image ring still hold every line of a window (R246, R359)? -/
def State.ringHolds (s : State) (j : SnipJob) : Bool :=
  s.imgOn && decide (s.rdS DRAMC_IMG_NEWEST - s.rd DRAMC_IMG_CFG_LINES < j.first)

/-- Has the last line of a window been formed? -/
def State.windowFormed (s : State) (j : SnipJob) : Bool :=
  match s.stitch.fine with
  | f :: _ => decide (j.first + j.h - 1 ≤ max f.line (s.stitch.unformed.getD f.line))
  | [] => false

/-- Is the snippet channel in scaler mode (R339)? [DEDUCED, log 72] -/
def State.snipChannel (s : State) : Bool := s.on (DMA_CH_CTRL_MODE (s.rd SCALER_SNIP_SNIP_CHAN))

/-- SNIPPET_START (R246): the copy of the oldest held tally's window starts once its last line has been
formed. -/
def execSnippetStart (s : State) : Host.Outcome State Fault Refusal :=
  if (s.snipEntry (fun j => j.since.isSome)).isSome then .next s
  else
    match s.snipEntry s.windowFormed with
    | none => .next s
    | some (e, j) =>
      if !s.snipChannel then .next (s.snipLost e 2)
      else if !s.ringHolds j then .next (s.snipLost e 0)
      else
        .next (s.setScal (fun c => { c with talQ := c.talQ.map (fun x =>
          if x = e then { x with snip := some { j with since := some s.now } } else x) }))

/-- The bytes of a snippet slot: header, then the window in image-ring format (R245). -/
def State.snipBytes (s : State) (e : TallyEntry) (j : SnipJob) : List Nat :=
  let b := imgBytes (s.rd DRAMC_IMG_CFG_FORMAT)
  let head := padTo 0 64 (leBytes 4 e.body.seq ++ leBytes 8 (toBits 64 j.first) ++ leBytes 4 j.col
    ++ leBytes 2 j.w ++ leBytes 2 j.h)
  head ++ (List.range j.h).flatMap (fun (i : Nat) =>
    s.dramBytes (s.imgSlot (j.first + (i : Int)) + 64 + b * j.col) (b * j.w))

/-- The matrix refuses the channel: its error ends the snippet and is stored and recorded, and the channel takes
the next one (R338, R339). -/
def State.snipDenied (s : State) (e : TallyEntry) (c : Nat) : State :=
  let s := ((s.wr (DMA_CH_ERR_CODE c) 0x8043).bumpSat (DMA_CH_ERR_COUNT c)).set1 (DMA_CH_STATUS_ERR c)
  let a := s.rd SCALER_SNIP_BASE
  let s := (s.wr (DMA_CH_ERR_ADDR c) a).fault srcDma 0x8043 (slot1 c ++ slot2 (s.rd (DMA_CH_PROG_PC c)) ++ slot2 a)
  s.snipLost e 2

/-- SNIPPET_DONE (R245, R246): the channel reports completion in time, and the tally leaves with
SNIPPET. -/
def execSnippetDone (s : State) : Host.Outcome State Fault Refusal :=
  match s.snipEntry (fun j => j.since.isSome) with
  | none => .next s
  | some (e, j) =>
    if s.now > j.since.getD 0 + s.rd SCALER_SNIP_SLOTS_SNIP_TIMEOUT * ticksPerUs then .next s
    else
      let bs := s.snipBytes e j
      let slot := e.body.seq % s.rd SCALER_SNIP_SLOTS_SLOTS
      let c := s.rd SCALER_SNIP_SNIP_CHAN
      let to_ := s.rd SCALER_SNIP_BASE + slot * s.rd SCALER_SNIP_STRIDE
      let p := s.permit reqDma clsMemory false (s.imgSlot j.first)
      let w := p.2.permit reqDma clsMemory true to_
      if !p.1 || !w.1 then .next (w.2.snipDenied e c)
      else
        let s := (w.2.dramPut to_ bs clsDma).countWritten bs.length
        let line := imgBytes (s.rd DRAMC_IMG_CFG_FORMAT) * j.w
        let s := (s.countRead (line * j.h)).wr (DMA_CH_DONE_BYTES c) line
        .next ((s.wr (DMA_CH_MOVES c) (s.rd (DMA_CH_MOVES c) + j.h)).letGo e true)

/-- SNIPPET_LOST (R246): a line of the window has been overwritten (0), the copy takes too long (1), or
the channel reports an error (2). -/
def execSnippetLost (reason : Fin 3) (s : State) : Host.Outcome State Fault Refusal :=
  let r := reason.val
  let lim := s.rd SCALER_SNIP_SLOTS_SNIP_TIMEOUT * ticksPerUs
  let ok (j : SnipJob) : Bool :=
    if r = 0 then !s.ringHolds j && s.windowFormed j
    else match j.since with
      | some t => if r = 1 then decide (t + lim < s.now) else true
      | none => false
  match s.snipEntry ok with
  | none => .next s
  | some (e, _) => .next (s.snipLost e r)

/-! ### Boundary strips and packets of peers (R244, R250 to R252) -/

/-- A peer packet that arrived on port 12 + k: one for this device is answered; a broadcast from the parent
also goes on to the children, and one for another device goes on its way (R415, R419). A device that is
no member drops it (R412). -/
def State.routePeer (s : State) (k : Nat) (p : Packet) : Option Packet × State :=
  let h := nth 0 p.payload 0
  let fwd := { p with payload := headNext h :: p.payload.drop 1 }
  if !s.member then (none, s)
  else if headDst h = idAll then
    (some p, if s.parent = some k then s.sendChildren fwd else s)
  else if headDst h = s.deviceId then (some p, s)
  else (none, s.sendTo (headDst h) fwd)

/-- The oldest packet of peer port 12 + k, when it satisfies a test, on its way. -/
def State.takePeerIf (s : State) (k : Nat) (ok : Packet → Bool) : Option Packet × State :=
  match s.takeRx (lpPort k) 0 ok with
  | none => (none, s)
  | some (p, s) => s.routePeer k p

/-- A TALLY or STRIP packet for this device, which the matrix lets the arriving port hand over (R499,
R500). -/
def State.takePeer (s : State) (k ty : Nat) : Option Packet × State :=
  match s.takePeerIf k (fun p => p.ty == ty) with
  | (none, s) => (none, s)
  | (some p, s) =>
    let a := s.permit (reqLp k) clsTally true (headSrc (nth 0 p.payload 0))
    (if a.1 then some p else none, a.2)

/-- STRIP_SEND (R250): STRIP_ROWS lines have been segmented, and their strip goes to the left owner. -/
def execStripSend (s : State) : Host.Outcome State Fault Refusal :=
  let n := s.rd SCALER_STRIP_STRIP_ROWS
  match s.scal.stripNext, s.scal.seg with
  | some a, some f =>
    let last := a + n - 1
    let masterOk := match s.scal.commit.active with
      | some t => !s.planeActive t 1 || (match s.scal.segM with
        | some m => decide ((last + 1) / 4 - 1 ≤ m)
        | none => false)
      | none => true
    if !s.on SCALER_CTRL_EN || s.leftId = 0xFFF || decide (f < last) || !masterOk then .next s
    else
      let lab (pl : Nat) (l : Int) : Nat :=
        match s.scal.col0.find? (fun e => e.1 == pl && e.2.1 == l) with
        | some e => e.2.2 + 2 ^ 16
        | none => 0
      let row (i : Nat) : Nat :=
        let l := a + (i : Int)
        lab 0 l + (if l % 4 = 3 then lab 1 (l / 4) * 2 ^ 32 else 0)
      let p : Packet :=
        { ty := pkStrip
          payload := [s.ownHead s.leftId, toBits 48 a + n * 2 ^ 48] ++ tabulate n row }
      let s := s.setScal (fun c => { c with
        stripNext := some (last + 1), col0 := c.col0.filter (fun e => decide (last < planeLast e.1 e.2.1)) })
      .next (s.sendTo s.leftId p)
  | _, _ => .next s

/-- Lines `a .. b` of the sender's column 0 count as unlit (R252). [DEDUCED, log 69] -/
def State.lateRows (s : State) (a b : Int) : State :=
  let rows := tabulate (b + 1 - a).toNat (fun (i : Nat) => ({ line := a + (i : Int), late := true } : StripRow))
  s.setScal (fun c => { c with rows := c.rows ++ rows, rowsTo := some b })

/-- A row of a strip packet (R250). -/
def stripRow (l : Int) (w : Nat) : StripRow :=
  { line := l
    fine := if bitAt w 16 then some (bitsAt w 0 16) else none
    master := if l % 4 = 3 && bitAt w 48 then some (bitsAt w 32 16) else none }

/-- STRIP_RX (R250 to R252): the oldest STRIP packet of peer port k. [DEDUCED, log 69] -/
def execStripRx (k : Fin 3) (s : State) : Host.Outcome State Fault Refusal :=
  match s.takePeer k.val pkStrip with
  | (none, s) => .next s
  | (some p, s) =>
    let src := headSrc (nth 0 p.payload 0)
    let w := nth 0 p.payload 1
    let a := signed 48 w
    let n := bitsAt w 48 16
    let b := a + n - 1
    if !s.on SCALER_CTRL_EN then .next s
    else
      let bad := n = 0 || decide (4096 < n) || p.payload.length != n + 2 || src != s.rightId
      let err (s : State) : State :=
        (s.set1 SCALER_STATUS_STRIP_LATE).fault srcScaler 0x5007 (slot1 src ++ slotLine a)
      if bad then .next (err s)
      else
        match s.scal.rowsTo with
        | some t =>
          if b ≤ t then .next s
          else if a != t + 1 then .next (((err s).lateRows (t + 1) b).resolveEdges.updVerdict)
          else
            let rows := tabulate n (fun (i : Nat) => stripRow (a + (i : Int)) (nth 0 p.payload (2 + i)))
            let s := s.setScal (fun c => { c with rows := c.rows ++ rows, rowsTo := some b })
            .next (s.resolveEdges.updVerdict)
        | none =>
          let rows := tabulate n (fun (i : Nat) => stripRow (a + (i : Int)) (nth 0 p.payload (2 + i)))
          let s := s.setScal (fun c => { c with rows := rows, rowsTo := some b })
          .next (s.resolveEdges.updVerdict)

/-- STRIP_LATE (R252): the strip of the next line has not arrived by the time this device has segmented
that line + STRIP_TIMEOUT. [DEDUCED, log 69] -/
def execStripLate (s : State) : Host.Outcome State Fault Refusal :=
  match s.scal.rowsTo, s.scal.seg with
  | some t, some f =>
    if s.rightId = 0xFFF || !s.on SCALER_CTRL_EN || decide (f < t + 1 + s.rd SCALER_STRIP_STRIP_TIMEOUT) then .next s
    else
      let s := (s.set1 SCALER_STATUS_STRIP_LATE).fault srcScaler 0x5006 (slot1 s.rightId ++ slotLine (t + 1))
      .next ((s.lateRows (t + 1) (t + s.rd SCALER_STRIP_STRIP_ROWS)).resolveEdges.updVerdict)
  | _, _ => .next s

/-- TALLY_PACKET_RX (R237, R244, R251): the oldest TALLY packet of peer port k. -/
def execTallyPacketRx (k : Fin 3) (s : State) : Host.Outcome State Fault Refusal :=
  match s.takePeer k.val pkTally with
  | (none, s) => .next s
  | (some p, s) =>
    let bs := (p.payload.drop 1).flatMap (leBytes 8)
    let ty := nth 0 bs 0
    if ty = 0x10 || ty = 0x11 || ty = 0x20 then .next (s.enterForeign bs)
    else if ty = 0x18 || ty = 0x19 then
      let r := tallyOf bs
      let q : Partial := { body := { r with ptpNs := 0 }, plane := ty - 0x18, label := r.ptpNs }
      if !s.on SCALER_CTRL_EN then .next s
      else .next ((s.setScal (fun c => { c with partials := c.partials ++ [q] })).resolveEdges.updVerdict)
    else .next (s.fault srcScaler 0x500A (slot1 (headSrc (nth 0 p.payload 0)) ++ slot1 ty))

/-! ### The deadline (R249) -/

/-- Ranges in ascending order of their first line. -/
def insertRange (r : Int × Int) : List (Int × Int) → List (Int × Int)
  | [] => [r]
  | x :: xs => if r.1 ≤ x.1 then r :: x :: xs else x :: insertRange r xs

/-- Sorted ranges with those that meet or touch joined. -/
def joinRanges : List (Int × Int) → List (Int × Int)
  | [] => []
  | r :: rs =>
    match joinRanges rs with
    | [] => [r]
    | x :: xs => if x.1 ≤ r.2 + 1 then (r.1, max r.2 x.2) :: xs else r :: x :: xs

/-- A run of late lines (R249). -/
def State.lateRun (s : State) (r : Int × Int) : State :=
  let s := (s.fault srcScaler 0xC020 (slotLine r.1 ++ slotLine r.2)).set1 SCALER_STATUS_VERDICT_LATE
  let s := (s.bump SCALER_LATE_LINES (r.2 - r.1 + 1).toNat).occur 233
  let s := s.coverFull r.1 r.2 0x50 4 0 0
  s.setScal (fun c => { c with lateRuns := r :: c.lateRuns })

/-- The runs of lines from V up to `last` whose verdict is not out. -/
def State.lateLines (s : State) (v last : Int) : List (Int × Int) :=
  let rs := (s.notOut.map (fun r => (max r.1 v, min r.2 last))).filter (fun r => decide (r.1 ≤ r.2))
  let rs := rs.flatMap (fun r => modeSpans segmenting s.top.hist openLine r.1 r.2)
  joinRanges (rs.foldl (fun acc r => insertRange r acc) [])

/-- VERDICT_DEADLINE_CHECK (R249): the deadline action is applied. -/
def execVerdictDeadlineCheck (s : State) : Host.Outcome State Fault Refusal :=
  match s.takeDue (· == .verdict) with
  | none => .next s
  | some (_, s) =>
    let v := s.rdS SCALER_VERDICT
    let rs := s.lateLines v (s.scal.dueLine.getD s.line - s.rd SCALER_DEADLINE)
    let s := rs.foldl (fun s r => s.lateRun r) s
    let v' := rs.foldl (fun (a : Int) r => max a (r.2 + 1)) v
    let s := s.wrS SCALER_VERDICT v'
    .next ((s.wrS SCALER_VERDICT (max v' (s.firstNotOut v'))).armVerdict)

end Sys2Proof.Machine
end

