-- ==== Sys2Proof/Machine/Nib.lean ====
section
/-! DEFINITION. The nib's instructions (R258 to R292): the address map, issue and interlocks, kernel faults,
loops, and a command for each instruction, which runs the instruction at the PC of the nib in a slot. -/

namespace Sys2Proof.Machine

open Sys2Proof

/-! ### Kernel faults (R292 to R294) -/

def kfIllegal : Nat := 0x4002
def kfMisaligned : Nat := 0x4003
def kfAccess : Nat := 0x4004
def kfTimeout : Nat := 0x4005
def kfStop : Nat := 0x4006
def kfLoop : Nat := 0x4007
def kfPcRange : Nat := 0x4008
def kfOverrun : Nat := 0x4009

/-- The slots of a kernel fault's record. -/
def kfSlots (q l code pc arg : Nat) (line : Int) : List Nat :=
  let head := slot1 q ++ slot1 l
  if code = kfIllegal || code = kfMisaligned || code = kfAccess then
    head ++ slot1 pc ++ slot1 arg ++ slotLine line
  else if code = kfTimeout then head ++ slotLine line ++ slot1 arg
  else if code = kfStop || code = kfPcRange then head ++ slot1 pc ++ slot1 arg
  else if code = kfLoop then head ++ slot1 pc
  else head ++ slotLine line

/-- The nib begins an INIT run (R266, R294). -/
def State.startInit (s : State) (q t j : Nat) (again : Bool) : State :=
  let n := s.nib q t
  let line : Int :=
    if s.jobCoarse q j then (match s.stitch.started with
      | some l => l / 4
      | none => -1)
    else s.stitch.started.getD (-1)
  let p := s.free 64
  let s := p.2
  let s := s.setNib q t { n with
    run := some (.init again), job := j, pc := s.rd (QUILL_JOB_INIT_PC q j), loops := [], line := line, pos := p.1
    cycle := 0, ready := [], store := none, evRead := none }
  s.setSlotState q t slotRunning

/-- The nib's run ends: CYCLES and CYCLES_MAX (R288). -/
def State.endRun' (s : State) (q t : Nat) : State :=
  let n := s.nib q t
  let c := min n.cycle (2 ^ 32 - 1)
  let s := s.setNib q t { n with run := none, loops := [] }
  let u := s.quillAt q
  let s := s.setQuill q { u with stores := u.stores.filter (fun e => e.slot != t) }
  let s := s.wr (QUILL_SLOT_CYCLES q t) c
  s.wr (QUILL_SLOT_CYCLES_MAX q t) (max c (s.rd (QUILL_SLOT_CYCLES_MAX q t)))

/-- The nib goes back to service after a stop: it runs INIT_PC again (R294). -/
def State.nibRestart (s : State) (q t : Nat) : State :=
  match s.jobOfSlot q t with
  | some j => s.startInit q t j true
  | none => s.setSlotState q t slotIdle

/-- The nib stops: its lines are retired on its behalf from the one it was to process (R292, R293). -/
def State.nibStops (s : State) (q t : Nat) : State :=
  let n := s.nib q t
  let next := match n.run with
    | some (.line l) => some l
    | _ => n.next
  let s := s.endRun' q t
  let n := s.nib q t
  let s := s.setNib q t { n with behalf := true, next := next }
  match s.jobOfSlot q t, next with
  | some j, some l =>
    let newest := if s.jobCoarse q j then (s.stitch.coarse.head?).map (·.line) else (s.stitch.fine.head?).map (·.line)
    match newest with
    | some m => if l ≤ m then (s.retireBehalf q j t m (s.mode != 11)).updRetired q j else s
    | none => s
  | _, _ => s

/-- A kernel fault stops the nib at once (R292, R294): the output row is discarded, the FAULT registers and
FAULTS are written, the fault is recorded, and FAULT_POLICY decides what follows. -/
def State.kernelFault (s : State) (q t code pc arg : Nat) : State :=
  let n := s.nib q t
  let l := s.roleOf q t
  let line := match n.run with
    | some (.line l) => l
    | _ => if code = kfOverrun then n.next.getD n.line else n.line
  let addr := if code = kfOverrun then toBits 32 line else arg
  let s := ((s.wr (QUILL_SLOT_FAULT_CODE q t) code).bumpSat (QUILL_SLOT_FAULT_COUNT q t)).wr
    (QUILL_SLOT_FAULT_PC q t) pc
  let s := s.wr (QUILL_SLOT_FAULT_ADDR q t) addr
  let s := s.bump (QUILL_JOB_FAULTS q n.job)
  let s := s.fault (srcQuill q) code (kfSlots q l code pc arg line)
  let again := match n.run with
    | some (.init a) => a
    | _ => false
  let s := s.nibStops q t
  if s.rd (QUILL_JOB_CTRL_FAULT_POLICY q n.job) = 0 && !again then s.nibRestart q t
  else s.setSlotState q t slotStopped

/-! ### Issue and interlocks (R288) -/

def keyS (r : Nat) : Nat := r
def keyV (r : Nat) : Nat := 32 + r
def keyM (r : Nat) : Nat := 64 + r

/-- The cycle in which an instruction that reads some registers issues. -/
def Nib.issueAt (n : Nib) (srcs : List Nat) : Nat :=
  srcs.foldl (fun t k => max t (spGet (fun _ => 0) n.ready k)) n.cycle

def Nib.setReady (n : Nib) (key at_ : Nat) : Nib := { n with ready := spSet (fun _ => 0) n.ready key at_ }

/-- Registers (R275): s0 reads 0 and discards writes; m0 reads all ones. -/
def Nib.sr (n : Nib) (r : Nat) : Nat := if r = 0 then 0 else spGet (fun _ => 0) n.sreg r
def Nib.vr (n : Nib) (r : Nat) : List Nat := spGet (fun _ => List.replicate 64 0) n.vreg r
def Nib.mr (n : Nib) (r : Nat) : Nat := if r = 0 then 2 ^ 64 - 1 else spGet (fun _ => 0) n.mreg r

/-- Writes of registers with the cycle from which they are ready. -/
def Nib.putS (n : Nib) (r v at_ : Nat) : Nib :=
  if r = 0 then n else ({ n with sreg := spSet (fun _ => 0) n.sreg r (v % 2 ^ 32) }).setReady (keyS r) at_
def Nib.putV (n : Nib) (r : Nat) (v : List Nat) (at_ : Nat) : Nib :=
  ({ n with vreg := spSet (fun _ => List.replicate 64 0) n.vreg r v }).setReady (keyV r) at_
def Nib.putM (n : Nib) (r v at_ : Nat) : Nib :=
  if r = 0 then n else ({ n with mreg := spSet (fun _ => 0) n.mreg r (v % 2 ^ 64) }).setReady (keyM r) at_

/-- Lanes of accumulator k as 32-bit numbers (R275). -/
def Nib.acc (n : Nib) (k : Nat) : List Nat :=
  lanes (fun i => nth 0 (n.vr (2 * k)) i + nth 0 (n.vr (2 * k + 1)) i * 2 ^ 16)

/-- How an instruction ends: at the next PC, at another, with the invocation, or with a kernel fault of a
code and its address or word. -/
inductive NibEnd where
  | seq
  | jump (pc : Nat)
  | retire
  | trap (code arg : Nat)
  deriving DecidableEq, Repr

/-- What an instruction answers: how it ends, the cycle after its issue, the nib, the state. -/
structure NibRes where
  fin : NibEnd
  cycle : Nat
  nib : Nib
  st : State

/-- An instruction that only changes the nib: reads `srcs`, issues in `t`, takes `cost` cycles. -/
def Nib.pure (n : Nib) (s : State) (srcs : List Nat) (cost : Nat) (f : Nat → Nib) : NibRes :=
  let t := n.issueAt srcs
  ⟨.seq, t + cost, f t, s⟩

/-! ### Memory (R260, R281, R289, R290) -/

/-- Where an access of `len` bytes falls. -/
inductive NibPlace where
  | loc
  | quill (off : Nat)
  | feature (off : Nat)
  | none

/-- The nib address map (R260). -/
def nibPlace (a len : Nat) : NibPlace :=
  if a + len ≤ 0x40000 then .loc
  else if 0x01000000 ≤ a && decide (a + len ≤ 0x013FF000) then .quill (a - 0x01000000)
  else if 0x013FF000 ≤ a && decide (a + len ≤ 0x01400000) then .feature (a - 0x013FF000)
  else .none

/-- A byte of quill memory as a slot or another agent sees it: stores of other slots on their way may
be visible or not (R290). [DESIGN CHOICE, log 73] -/
def State.qByte (s : State) (q : Nat) (who : Option Nat) (a : Nat) : Nat × State :=
  let u := s.quillAt q
  u.stores.foldl (fun (acc : Nat × State) e =>
    if who != some e.slot && decide (e.addr ≤ a) && decide (a < e.addr + e.old.length) then
      let f := acc.2.free 1
      if f.1 = 1 then (nth 0 e.old (a - e.addr), f.2) else (acc.1, f.2)
    else acc) (Memory.byte u.mem a, s)

/-- Bytes of quill memory as an agent reads them. -/
def State.qRead (s : State) (q : Nat) (who : Option Nat) (a n : Nat) : List Nat × State :=
  (List.range n).foldl (fun (acc : List Nat × State) i =>
    let b := acc.2.qByte q who (a + i)
    (acc.1 ++ [b.1], b.2)) ([], s)

/-- A write of another agent than a nib to quill memory. -/
def State.qWrite (s : State) (q a : Nat) (bs : List Nat) : State :=
  let u := s.quillAt q
  s.setQuill q { u with mem := Memory.put u.mem a bs }

/-- A store of the nib in slot t to quill memory (R290). -/
def State.qStore (s : State) (q t a : Nat) (bs : List Nat) : State :=
  let u := s.quillAt q
  s.setQuill q { u with mem := Memory.put u.mem a bs
                        stores := ⟨t, a, Memory.bytes u.mem a bs.length⟩ :: u.stores.take 255 }

/-- Bytes of the feature queue: a slot that holds no draft reads free values (R284). [DESIGN CHOICE, log 77] -/
def State.fqRead (s : State) (q off n : Nat) : List Nat × State :=
  let f := spGet (fun _ => {}) (s.quillAt q).fq (off / 64)
  if f.full then ((f.bytes.drop (off % 64)).take n, s)
  else
    (List.range n).foldl (fun (acc : List Nat × State) _ =>
      let b := acc.2.free 8
      (acc.1 ++ [b.1], b.2)) ([], s)

/-- A latency of `lo` to `hi` cycles that the manual leaves open (R288). [DESIGN CHOICE, log 73] -/
def State.latency (s : State) (lo hi : Nat) : Nat × State :=
  let f := s.free 32
  (lo + f.1 % (hi + 1 - lo), f.2)

/-- A load of `len` aligned bytes (R281): the bytes, whether they came through the quill, and the state.
[DEDUCED, log 84] -/
def State.nibLoad (s : State) (q t a len align : Nat) : Except NibEnd (List Nat × Bool × State) :=
  if a % align != 0 then .error (.trap kfMisaligned a)
  else
    match nibPlace a len with
    | .loc => .ok (Memory.bytes (s.nib q t).mem a len, false, s)
    | .quill o => let r := s.qRead q (some t) o len; .ok (r.1, true, r.2)
    | .feature o => let r := s.fqRead q o len; .ok (r.1, true, r.2)
    | .none => .error (.trap kfAccess a)

/-- A store of aligned bytes in cycle `at_` (R281, R290). -/
def State.nibStore (s : State) (q t : Nat) (n : Nib) (a align at_ : Nat) (bs : List Nat) :
    Except NibEnd (Nib × State) :=
  if a % align != 0 then .error (.trap kfMisaligned a)
  else
    match nibPlace a bs.length with
    | .loc => .ok ({ n with mem := Memory.put n.mem a bs }, s)
    | .quill o => .ok ({ n with store := some at_ }, s.qStore q t o bs)
    | .feature _ => .error (.trap kfAccess a)
    | .none => .error (.trap kfAccess a)

/-! ### Running one instruction -/

/-- Is an instruction of the control group, or RETIRE? Such a one may not end a loop body (R287). -/
def endsNoBody : NibInstr → Bool
  | .retire => true
  | .beqz _ _ => true
  | .bnez _ _ => true
  | .bltz _ _ => true
  | .bgez _ _ => true
  | .jal _ _ => true
  | .jr _ => true
  | .loop _ _ => true
  | .stop _ => true
  | _ => false

/-- A loop's last instruction has been passed: another pass, or the level closes and the next one out is
asked (R287). -/
def loopBack (pc : Nat) : List LoopLevel → Nat × List LoopLevel
  | [] => (pc, [])
  | l :: ls =>
    if l.last + 4 = pc then
      if 1 < l.left then (l.first, { l with left := l.left - 1 } :: ls) else loopBack pc ls
    else (pc, l :: ls)

/-- A jump out of a body ends that loop and every loop inside it; the innermost level stands first
(R287). -/
def leaveLoops (pc : Nat) (ls : List LoopLevel) : List LoopLevel :=
  ls.reverse.takeWhile (fun l => decide (l.first ≤ pc) && decide (pc ≤ l.last)) |>.reverse

/-- The effect of RETIRE on the nib and its job (R273). -/
def State.nibRetire (s : State) (q t : Nat) : State :=
  let n := s.nib q t
  let j := n.job
  let s := s.endRun' q t
  let n' := s.nib q t
  let s := s.setSlotState q t slotIdle
  match n.run with
  | some (.init true) =>
    match (s.quillAt q).hand, (s.job q j).l0 with
    | some h, some _ => if h.to_ = t && h.copied then s else s.setNib q t { n' with resume := true }
    | none, some _ => s.setNib q t { n' with resume := true }
    | _, none => s.setNib q t { n' with behalf := false }
  | some (.init false) => s
  | some (.line l) =>
    let lg := s.roleOf q t
    let sw := s.stripeW q j
    let s := s.setNib q t { n' with retired := some l, next := some (l + 1), prev := some l, skipped := 0, restart := false }
    let s := if s.on (QUILL_JOB_CTRL_OUT_EN q j) && !s.jobCoarse q j then
        let a := s.rd (QUILL_JOB_OUT_BASE q j) + (l % 2).toNat * sw
        let row : ScoreRow := { q := q, j := j, line := l, x := s.coreX q j lg, scores := Memory.bytes n'.mem a sw }
        { s with scores := row :: s.scores }
      else s
    s.updRetired q j
  | some .queue => s.setNib q t { n' with restart := false }
  | none => s

/-- The instruction's answer takes effect: the PC, loops and faults (R287, R292). -/
def State.nibFinish (s : State) (q t pc : Nat) (r : NibRes) : State :=
  let put (n : Nib) : State := r.st.setNib q t { n with cycle := r.cycle }
  match r.fin with
  | .seq =>
    let p := loopBack (pc + 4) r.nib.loops
    let s' := put { r.nib with pc := p.1, loops := p.2 }
    if 16384 ≤ p.1 then s'.kernelFault q t kfPcRange pc p.1 else s'
  | .jump a => put { r.nib with pc := a, loops := leaveLoops a r.nib.loops }
  | .retire => (put r.nib).nibRetire q t
  | .trap code arg => ((s.setNib q t { s.nib q t with cycle := r.cycle }).kernelFault q t code pc arg)

/-- The word at the PC of the nib in slot t. -/
def State.nibWord (s : State) (q t : Nat) : Nat :=
  let n := s.nib q t
  spGet (fun _ => 0) n.code (n.pc / 4)

/-- Has the nib's run reached BUDGET cycles (R292)? -/
def State.overBudget (s : State) (q t : Nat) : Bool :=
  let n := s.nib q t
  let b := s.rd (QUILL_JOB_BUDGET q n.job)
  b != 0 && decide (b ≤ n.cycle)

/-- The nib in slot t runs the instruction at its PC when a selection takes it, in program order (R288). -/
def State.nibIssue (s : State) (q t : Nat) (sel : NibInstr → Option (Nib → State → NibRes)) : State :=
  let n := s.nib q t
  if n.run.isNone || s.overBudget q t then s
  else
    match decodeNib (s.nibWord q t) with
    | none => s
    | some i =>
      match sel i with
      | none => s
      | some act =>
        if endsNoBody i && n.loops.any (fun l => l.last == n.pc) then s.kernelFault q t kfLoop n.pc 0
        else s.nibFinish q t n.pc (act n s)

/-! ### Scalar instructions -/

/-- An operation on s_a and s_b. -/
def nibSS (d a b lat : Nat) (f : Nat → Nat → Nat) (n : Nib) (s : State) : NibRes :=
  n.pure s [keyS a, keyS b] 1 (fun t => n.putS d (f (n.sr a) (n.sr b)) (t + lat))

/-- An operation on s_a. -/
def nibS1 (d a : Nat) (f : Nat → Nat) (n : Nib) (s : State) : NibRes :=
  n.pure s [keyS a] 1 (fun t => n.putS d (f (n.sr a)) (t + 1))

/-- SALU (R277): latency 3 for the products. -/
def execSalu (q : Fin 12) (t : Fin 17) (s : State) : Host.Outcome State Fault Refusal :=
  .next (s.nibIssue q t (fun i => match i with
    | .salu f d a b => some (nibSS d a b (if 10 ≤ f.val && decide (f.val ≤ 12) then 3 else 1) (saluOp f))
    | .clz d a => some (nibS1 d a clz32)
    | _ => none))

/-- SADDI. -/
def execSaddi (q : Fin 12) (t : Fin 17) (s : State) : Host.Outcome State Fault Refusal :=
  .next (s.nibIssue q t (fun i => match i with
    | .saddi d a imm => some (nibS1 d a (fun x => (x + sext32 16 imm) % 2 ^ 32))
    | _ => none))

/-- SANDI. -/
def execSandi (q : Fin 12) (t : Fin 17) (s : State) : Host.Outcome State Fault Refusal :=
  .next (s.nibIssue q t (fun i => match i with
    | .sandi d a imm => some (nibS1 d a (fun x => andNat 32 x (sext32 16 imm)))
    | _ => none))

/-- SORI. -/
def execSori (q : Fin 12) (t : Fin 17) (s : State) : Host.Outcome State Fault Refusal :=
  .next (s.nibIssue q t (fun i => match i with
    | .sori d a imm => some (nibS1 d a (fun x => orNat 32 x imm))
    | _ => none))

/-- SXORI. -/
def execSxori (q : Fin 12) (t : Fin 17) (s : State) : Host.Outcome State Fault Refusal :=
  .next (s.nibIssue q t (fun i => match i with
    | .sxori d a imm => some (nibS1 d a (fun x => xorNat 32 x (sext32 16 imm)))
    | _ => none))

/-- SCMPI. -/
def execScmpi (q : Fin 12) (t : Fin 17) (s : State) : Host.Outcome State Fault Refusal :=
  .next (s.nibIssue q t (fun i => match i with
    | .scmpi c d a k => some (nibS1 d a (fun x => b2n (condHolds c 32 x (scmpiConst c k))))
    | _ => none))

/-- SINSL. -/
def execSinsl (q : Fin 12) (t : Fin 17) (s : State) : Host.Outcome State Fault Refusal :=
  .next (s.nibIssue q t (fun i => match i with
    | .sinsl d a imm => some (nibS1 d a (fun x => x / 2 ^ 16 * 2 ^ 16 + imm))
    | _ => none))

/-- SINSH. -/
def execSinsh (q : Fin 12) (t : Fin 17) (s : State) : Host.Outcome State Fault Refusal :=
  .next (s.nibIssue q t (fun i => match i with
    | .sinsh d a imm => some (nibS1 d a (fun x => x % 2 ^ 16 + imm * 2 ^ 16))
    | _ => none))

/-- SHI. -/
def execShi (q : Fin 12) (t : Fin 17) (s : State) : Host.Outcome State Fault Refusal :=
  .next (s.nibIssue q t (fun i => match i with
    | .shi kind d a n => some (nibS1 d a (fun x => shiOp kind x n))
    | _ => none))

/-- MULSR (R277). -/
def execMulsr (q : Fin 12) (t : Fin 17) (s : State) : Host.Outcome State Fault Refusal :=
  .next (s.nibIssue q t (fun i => match i with
    | .mulsr d a b sh sat tr => some (nibSS d a b 3 (fun x y => mulsrOp false x y sh sat tr))
    | _ => none))

/-- MULSRU (R277). -/
def execMulsru (q : Fin 12) (t : Fin 17) (s : State) : Host.Outcome State Fault Refusal :=
  .next (s.nibIssue q t (fun i => match i with
    | .mulsru d a b sh sat tr => some (nibSS d a b 3 (fun x y => mulsrOp true x y sh sat tr))
    | _ => none))

/-- The frame number of the line that a nib reads (R104, R278). -/
def State.nibFrame (s : State) (q j : Nat) (l : Int) : Nat :=
  let ls := if s.jobCoarse q j then s.stitch.coarse else s.stitch.fine
  match ls.find? (fun f => f.line == l) with
  | some f => f.frame
  | none => (s.frameOf (s.stitchGen s.stitch.commit.active) (if s.jobCoarse q j then 4 * l else l)).2

/-- A special register (R278), read in cycle `at_`. [DESIGN CHOICE, log 76] -/
def State.nibSpecial (s : State) (q t : Nat) (n : Nib) (k at_ : Nat) : Nat :=
  let l64 := toBits 64 n.line
  let lg := s.roleOf q t
  match k with
  | 0 => l64 % 2 ^ 32
  | 1 => l64 / 2 ^ 32
  | 2 => n.pos % 2 ^ 32
  | 3 => n.pos / 2 ^ 32 % 2 ^ 32
  | 4 => toBits 32 (s.stripeBase q n.job lg)
  | 5 => q
  | 6 => lg
  | 7 => n.job
  | 8 => at_
  | 9 => n.skipped
  | 10 => b2n (n.restart && (match n.run with
      | some (.init _) => false
      | _ => true))
  | 11 => match n.ev with
    | some h => 1 + min h 15 * 2 ^ 8
    | none => 0
  | 12 => s.nibFrame q n.job n.line
  | _ => s.lineEpoch (if s.jobCoarse q n.job then 4 * n.line else n.line)

/-- GETSR (R278, R286): reading EVFLAG clears this nib's copy. -/
def execGetsr (q : Fin 12) (t : Fin 17) (s : State) : Host.Outcome State Fault Refusal :=
  .next (s.nibIssue q t (fun i => match i with
    | .getsr d k => some (fun n s =>
      let at_ := n.cycle
      let v := s.nibSpecial q t n k at_
      let n := if k.val = 11 then { n with ev := none, evRead := if n.ev.isSome then n.ev else n.evRead } else n
      ⟨.seq, at_ + 1, n.putS d v (at_ + 1), s⟩)
    | _ => none))

/-! ### Vector instructions (R275, R279, R280) -/

/-- A lane-wise result into v_d under mask m. -/
def nibV (d m : Nat) (srcs : List Nat) (lat : Nat) (f : Nib → List Nat) (n : Nib) (s : State) : NibRes :=
  n.pure s (keyM m :: keyV d :: srcs) 1 (fun t => n.putV d (maskMerge (n.mr m) (n.vr d) (f n)) (t + lat))

/-- The lanes of a vector operand, or of a scalar operand's low half. -/
def vecB (scalar : Bool) (b : Nat) (n : Nib) : List Nat :=
  if scalar then List.replicate 64 (n.sr b % 2 ^ 16) else n.vr b
def keyB (scalar : Bool) (b : Nat) : Nat := if scalar then keyS b else keyV b

/-- A lane-wise operation of v_a and the second operand. -/
def nibVV (scalar : Bool) (d a b m lat : Nat) (f : Nat → Nat → Nat) : Nib → State → NibRes :=
  nibV d m [keyV a, keyB scalar b] lat (fun n =>
    let y := vecB scalar b n
    let x := n.vr a
    lanes (fun i => f (nth 0 x i) (nth 0 y i)))

/-- VALU (R275). -/
def execValu (q : Fin 12) (t : Fin 17) (s : State) : Host.Outcome State Fault Refusal :=
  .next (s.nibIssue q t (fun i => match i with
    | .valu f d a b m => some (nibVV false d a b m 2 (valuOp f))
    | .vmov d a m => some (nibV d m [keyV a] 2 (fun n => n.vr a))
    | _ => none))

/-- VALUS (R275). -/
def execValus (q : Fin 12) (t : Fin 17) (s : State) : Host.Outcome State Fault Refusal :=
  .next (s.nibIssue q t (fun i => match i with
    | .valus f d a b m => some (nibVV true d a b m 2 (valuOp f))
    | .vmovs d a m => some (nibV d m [keyV a] 2 (fun n => n.vr a))
    | _ => none))

/-- VMUL (R279). -/
def execVmul (q : Fin 12) (t : Fin 17) (s : State) : Host.Outcome State Fault Refusal :=
  .next (s.nibIssue q t (fun i => match i with
    | .vmul d a b m sh u sat tr => some (nibVV false d a b m 4 (fun x y => narrow (laneProduct u x y) sh u sat tr))
    | _ => none))

/-- VMULS (R279). -/
def execVmuls (q : Fin 12) (t : Fin 17) (s : State) : Host.Outcome State Fault Refusal :=
  .next (s.nibIssue q t (fun i => match i with
    | .vmuls d a b m sh u sat tr => some (nibVV true d a b m 4 (fun x y => narrow (laneProduct u x y) sh u sat tr))
    | _ => none))

/-- VMAC (R280). -/
def execVmac (q : Fin 12) (t : Fin 17) (s : State) : Host.Outcome State Fault Refusal :=
  .next (s.nibIssue q t (fun i => match i with
    | .vmac k a b m sub sc u sat => some (fun n s =>
      let d := 2 * k.val
      n.pure s [keyM m, keyV d, keyV (d + 1), keyV a, keyB sc b] 1 (fun c =>
        let x := n.vr a
        let y := vecB sc b n
        let z := n.acc k
        let r := lanes (fun i => macLane (nth 0 z i) (nth 0 x i) (nth 0 y i) sub u sat)
        let n := n.putV d (maskMerge (n.mr m) (n.vr d) (r.map (· % 2 ^ 16))) (c + 4)
        n.putV (d + 1) (maskMerge (n.mr m) (n.vr (d + 1)) (r.map (· / 2 ^ 16))) (c + 4)))
    | _ => none))

/-- VNAR (R279). -/
def execVnar (q : Fin 12) (t : Fin 17) (s : State) : Host.Outcome State Fault Refusal :=
  .next (s.nibIssue q t (fun i => match i with
    | .vnar d k m sh u sat tr => some (nibV d m [keyV (2 * k.val), keyV (2 * k.val + 1)] 4 (fun n =>
        (n.acc k).map (fun (x : Nat) => narrow (if u then (x : Int) else signed 32 x) sh u sat tr)))
    | _ => none))

/-- A comparison into mask d + 1 under mask m. -/
def nibCmp (scalar : Bool) (c d a b m : Nat) (n : Nib) (s : State) : NibRes :=
  n.pure s [keyM m, keyV a, keyB scalar b] 1 (fun t =>
    let x := n.vr a
    let y := vecB scalar b n
    n.putM (d + 1) (maskOf (fun i => bitAt (n.mr m) i && condHolds c 16 (nth 0 x i) (nth 0 y i))) (t + 2))

/-- VCMP (R275). -/
def execVcmp (q : Fin 12) (t : Fin 17) (s : State) : Host.Outcome State Fault Refusal :=
  .next (s.nibIssue q t (fun i => match i with
    | .vcmp c d a b m => some (nibCmp false c d a b m)
    | _ => none))

/-- VCMPS (R275). -/
def execVcmps (q : Fin 12) (t : Fin 17) (s : State) : Host.Outcome State Fault Refusal :=
  .next (s.nibIssue q t (fun i => match i with
    | .vcmps c d a b m => some (nibCmp true c d a b m)
    | _ => none))

/-- VSEL (R275): every lane is written. -/
def execVsel (q : Fin 12) (t : Fin 17) (s : State) : Host.Outcome State Fault Refusal :=
  .next (s.nibIssue q t (fun i => match i with
    | .vsel d a b m => some (fun n s =>
      n.pure s [keyM m, keyV a, keyV b] 1 (fun c => n.putV d (maskMerge (n.mr m) (n.vr b) (n.vr a)) (c + 2)))
    | _ => none))

/-- VMASK (R275). -/
def execVmask (q : Fin 12) (t : Fin 17) (s : State) : Host.Outcome State Fault Refusal :=
  .next (s.nibIssue q t (fun i => match i with
    | .vmaskLogic f d a b => some (fun n s =>
      n.pure s [keyM a, keyM b] 1 (fun c => n.putM (d.val + 1) (maskLogic f (n.mr a) (n.mr b)) (c + 2)))
    | .vmaskNot d a => some (fun n s =>
      n.pure s [keyM a] 1 (fun c => n.putM (d.val + 1) (2 ^ 64 - 1 - n.mr a) (c + 2)))
    | .vmaskRead f d a => some (fun n s => n.pure s [keyM a] 1 (fun c => n.putS d (maskRead f (n.mr a)) (c + 2)))
    | .vmaskSet d a b => some (fun n s =>
      n.pure s [keyS a, keyS b] 1 (fun c => n.putM (d.val + 1) (n.sr b * 2 ^ 32 + n.sr a) (c + 2)))
    | _ => none))

/-- VRED (R275). -/
def execVred (q : Fin 12) (t : Fin 17) (s : State) : Host.Outcome State Fault Refusal :=
  .next (s.nibIssue q t (fun i => match i with
    | .vred f d a m => some (fun n s =>
      n.pure s [keyM m, keyV a] 1 (fun c => n.putS d (vredOp f (n.mr m) (n.vr a)) (c + 6)))
    | .vsuma d k m => some (fun n s =>
      n.pure s [keyM m, keyV (2 * k.val), keyV (2 * k.val + 1)] 1 (fun c =>
        n.putS d (((masked (n.mr m) (n.acc k)).map (·.2)).foldl (fun a x => a + x) 0) (c + 6)))
    | _ => none))

/-- VPERM (R275). -/
def execVperm (q : Fin 12) (t : Fin 17) (s : State) : Host.Outcome State Fault Refusal :=
  .next (s.nibIssue q t (fun i => match i with
    | .vslide up d a b m k => some (nibV d m [keyV a, keyV b] 2 (fun n => slideOp up k (n.vr a) (n.vr b)))
    | .vbcast d a m k => some (nibV d m [keyV a] 2 (fun n => List.replicate 64 (nth 0 (n.vr a) k)))
    | _ => none))

/-- VSPLAT (R275). -/
def execVsplat (q : Fin 12) (t : Fin 17) (s : State) : Host.Outcome State Fault Refusal :=
  .next (s.nibIssue q t (fun i => match i with
    | .vsplat d a m => some (nibV d m [keyS a] 2 (vecB true a))
    | _ => none))

/-- VEXT (R275). -/
def execVext (q : Fin 12) (t : Fin 17) (s : State) : Host.Outcome State Fault Refusal :=
  .next (s.nibIssue q t (fun i => match i with
    | .vext d a b x => some (fun n s =>
      n.pure s [keyV a, keyS b] 1 (fun c =>
        let v := nth 0 (n.vr a) (n.sr b % 64)
        n.putS d (if x then sext32 16 v else v) (c + 3)))
    | _ => none))

/-- The first active lane of a gather that faults, with its address. -/
def gatherFault (mask base : Nat) (idx : List Nat) : Option NibEnd :=
  let as := (masked mask idx).map (fun e => (base + 2 * e.2) % 2 ^ 32)
  match as with
  | [] => none
  | a :: _ =>
    if base % 2 = 1 then some (.trap kfMisaligned a)
    else (as.find? (fun a => decide (0x40000 < a + 2))).map (fun a => .trap kfAccess a)

/-- VGATH (R275): local memory only; a faulting gather writes nothing. -/
def execVgath (q : Fin 12) (t : Fin 17) (s : State) : Host.Outcome State Fault Refusal :=
  .next (s.nibIssue q t (fun i => match i with
    | .vgath d a b m => some (fun n s =>
      let c := n.issueAt [keyM m, keyV a, keyV d, keyS b]
      match gatherFault (n.mr m) (n.sr b) (n.vr a) with
      | some e => ⟨e, c, n, s⟩
      | none =>
        let x := n.vr a
        let v := lanes (fun i => ofLeBytes (Memory.bytes n.mem ((n.sr b + 2 * nth 0 x i) % 2 ^ 32) 2))
        ⟨.seq, c + 16, n.putV d (maskMerge (n.mr m) (n.vr d) v) (c + 20), s⟩)
    | _ => none))

/-! ### Loads and stores (R281) -/

/-- The address of a load or store. -/
def Nib.ea (n : Nib) (base off : Nat) : Nat := (n.sr base + sext32 16 off) % 2 ^ 32

/-- A load of `len` bytes into a register; `lat` cycles from local memory, `lo` to 160 through the quill. -/
def nibLd (q t len : Nat) (base off : Nat) (lat lo slow : Nat) (put : Nib → List Nat → Nat → Nib)
    (n : Nib) (s : State) : NibRes :=
  let c := n.issueAt [keyS base]
  match s.nibLoad q t (n.ea base off) len len with
  | .error e => ⟨e, c, n, s⟩
  | .ok (bs, far, s) =>
    if far then
      let l := s.latency lo 160
      ⟨.seq, c + slow, put n bs (c + l.1), l.2⟩
    else ⟨.seq, c + 1, put n bs (c + lat), s⟩

/-- A store of bytes taken from the nib. -/
def nibSt (q t align : Nat) (base off : Nat) (src : Nat) (bytes : Nib → List Nat) (n : Nib) (s : State) : NibRes :=
  let c := n.issueAt [keyS base, src]
  match s.nibStore q t n (n.ea base off) align c (bytes n) with
  | .error e => ⟨e, c, n, s⟩
  | .ok (n, s) => ⟨.seq, c + 1, n, s⟩

/-- LW (R281). -/
def execLw (q : Fin 12) (t : Fin 17) (s : State) : Host.Outcome State Fault Refusal :=
  .next (s.nibIssue q t (fun i => match i with
    | .lw d a o => some (nibLd q t 4 a o 3 24 1 (fun n bs at_ => n.putS d (ofLeBytes bs) at_))
    | _ => none))

/-- SW (R281). -/
def execSw (q : Fin 12) (t : Fin 17) (s : State) : Host.Outcome State Fault Refusal :=
  .next (s.nibIssue q t (fun i => match i with
    | .sw d a o => some (nibSt q t 4 a o (keyS d) (fun n => leBytes 4 (n.sr d)))
    | _ => none))

/-- LHU (R281). -/
def execLhu (q : Fin 12) (t : Fin 17) (s : State) : Host.Outcome State Fault Refusal :=
  .next (s.nibIssue q t (fun i => match i with
    | .lhu d a o => some (nibLd q t 2 a o 3 24 1 (fun n bs at_ => n.putS d (ofLeBytes bs) at_))
    | _ => none))

/-- SH (R281). -/
def execSh (q : Fin 12) (t : Fin 17) (s : State) : Host.Outcome State Fault Refusal :=
  .next (s.nibIssue q t (fun i => match i with
    | .sh d a o => some (nibSt q t 2 a o (keyS d) (fun n => leBytes 2 (n.sr d)))
    | _ => none))

/-- VLD (R281). -/
def execVld (q : Fin 12) (t : Fin 17) (s : State) : Host.Outcome State Fault Refusal :=
  .next (s.nibIssue q t (fun i => match i with
    | .vld d a o => some (nibLd q t 128 a o 4 32 2 (fun n bs at_ => n.putV d (vecOf bs) at_))
    | _ => none))

/-- VST (R281). -/
def execVst (q : Fin 12) (t : Fin 17) (s : State) : Host.Outcome State Fault Refusal :=
  .next (s.nibIssue q t (fun i => match i with
    | .vst d a o => some (nibSt q t 128 a o (keyV d) (fun n => vecBytes (n.vr d)))
    | _ => none))

/-- VSTB (R281). -/
def execVstb (q : Fin 12) (t : Fin 17) (s : State) : Host.Outcome State Fault Refusal :=
  .next (s.nibIssue q t (fun i => match i with
    | .vstb d a o => some (nibSt q t 64 a o (keyV d) (fun n => clampBytes (n.vr d)))
    | _ => none))

/-- VLDM (R281). -/
def execVldm (q : Fin 12) (t : Fin 17) (s : State) : Host.Outcome State Fault Refusal :=
  .next (s.nibIssue q t (fun i => match i with
    | .vldm d a o => some (nibLd q t 8 a o 3 32 1 (fun n bs at_ => n.putM (d.val + 1) (ofLeBytes bs) at_))
    | _ => none))

/-! ### Stripe, tally and event instructions (R273, R282 to R286, R290) -/

/-- The cycle in which every earlier quill-memory store is visible, at least 2 after issue (R288, R290).
[DESIGN CHOICE, log 73] -/
def State.visibleAt (s : State) (n : Nib) (c : Nat) : Nat × State :=
  match n.store with
  | some t =>
    let l := s.latency 24 160
    (max (c + 2) (t + l.1), l.2)
  | none => (c + 2, s)

/-- Every store of the nib in slot t is visible to all. [DEDUCED, log 74] -/
def State.clearStores (s : State) (q t : Nat) : State :=
  let u := s.quillAt q
  s.setQuill q { u with stores := u.stores.filter (fun e => e.slot != t) }

/-- RETIRE (R273): the invocation ends once every earlier store is visible. [DEDUCED, log 74] -/
def execRetire (q : Fin 12) (t : Fin 17) (s : State) : Host.Outcome State Fault Refusal :=
  .next (s.nibIssue q t (fun i => match i with
    | .retire => some (fun n s =>
      let v := s.visibleAt n n.cycle
      ⟨.retire, v.1, { n with store := none }, v.2.clearStores q t⟩)
    | _ => none))

/-- FENCE (R290). -/
def execFence (q : Fin 12) (t : Fin 17) (s : State) : Host.Outcome State Fault Refusal :=
  .next (s.nibIssue q t (fun i => match i with
    | .fence => some (fun n s =>
      let v := s.visibleAt n n.cycle
      ⟨.seq, v.1, { n with store := none }, v.2.clearStores q t⟩)
    | _ => none))

/-- SREP (R162, R282): a streak report goes to the attribution unit. -/
def execSrep (q : Fin 12) (t : Fin 17) (s : State) : Host.Outcome State Fault Refusal :=
  .next (s.nibIssue q t (fun i => match i with
    | .srep rc a b ink => some (fun n s =>
      let c := n.issueAt [keyS a, keyS b]
      let r : AttrReq :=
        { x := (n.sr a + 16 * s.rd STITCH_XBASE) % 2 ^ 32
          pos := n.line * 65536 + signed 32 (n.sr b)
          ink := ink, record := rc, tally := none }
      ⟨.seq, c + 1, n, s.streakReport r (q.val * 256 + s.roleOf q t) n.line⟩)
    | _ => none))

/-- A kernel tally enters the emitter (R283). -/
def State.kernelTally (s : State) (bs : List Nat) : State :=
  let r := tallyOf bs
  let f := r.firstLine
  let col : Int := (r.xpos / 16 : Int) - s.rd STITCH_XBASE
  let tags := s.tallyTags col f
  s.enterTally { r with deviceId := s.deviceId, expSet := tags.2, frame := tags.1, epoch := s.lineEpoch f } false openLine

/-- TEMIT (R283). -/
def execTemit (q : Fin 12) (t : Fin 17) (s : State) : Host.Outcome State Fault Refusal :=
  .next (s.nibIssue q t (fun i => match i with
    | .temit a => some (fun n s =>
      let c := n.issueAt [keyS a]
      let x := n.sr a
      if x % 64 != 0 then ⟨.trap kfMisaligned x, c, n, s⟩
      else if 0x40000 < x + 64 then ⟨.trap kfAccess x, c, n, s⟩
      else
        let bs := Memory.bytes n.mem x 64
        let ty := nth 0 bs 0
        if ty = 0x10 || ty = 0x11 then ⟨.seq, c + 8, n, s.kernelTally bs⟩ else ⟨.trap kfAccess x, c, n, s⟩)
    | _ => none))

/-- The oldest unclaimed draft of quill q's feature queue. -/
def State.oldestDraft (s : State) (q : Nat) : Option Nat :=
  let is := (List.range 64).filter (fun i => (s.fqSlot q i).full && !(s.fqSlot q i).claimed)
  minBy (fun i => ((s.fqSlot q i).order : Int)) is

/-- TGET (R284): the ticket of the oldest unclaimed draft, now claimed. -/
def execTget (q : Fin 12) (t : Fin 17) (s : State) : Host.Outcome State Fault Refusal :=
  .next (s.nibIssue q t (fun i => match i with
    | .tget d => some (fun n s =>
      let c := n.cycle
      let l := s.latency 24 160
      let s := l.2
      match s.oldestDraft q with
      | none => ⟨.seq, c + 1, n.putS d 0xFFFFFFFF (c + l.1), s⟩
      | some k =>
        let f := s.fqSlot q k
        ⟨.seq, c + 1, n.putS d (k + f.gen % 2 ^ 26 * 64) (c + l.1), s.setFq q k { f with claimed := true }⟩)
    | _ => none))

/-- The answer of a claimed draft takes effect (R235, R285). -/
def State.answerDraft (s : State) (q k verdict : Nat) : State :=
  let f := s.fqSlot q k
  let s := s.freeFq q k
  match s.takeDraft f.draft with
  | none => s
  | some (d, s) =>
    if bitAt verdict 8 then s.updVerdict
    else
      let c := verdict % 64
      let body := if c = 0 || c = 63 then { d.body with cls := 63 }
        else { d.body with cls := c, sev := bitsAt verdict 6 2 }
      s.finishDraft { d with body := body }

/-- TANS (R285): a stale ticket is ignored and counted. -/
def execTans (q : Fin 12) (t : Fin 17) (s : State) : Host.Outcome State Fault Refusal :=
  .next (s.nibIssue q t (fun i => match i with
    | .tans a b => some (fun n s =>
      let c := n.issueAt [keyS a, keyS b]
      let ticket := n.sr a
      let v := n.sr b
      if 512 ≤ v then ⟨.trap kfIllegal (s.nibWord q t), c, n, s⟩
      else
        let k := ticket % 64
        let f := s.fqSlot q k
        if f.full && f.claimed && f.gen % 2 ^ 26 == ticket / 64 then ⟨.seq, c + 1, n, s.answerDraft q k v⟩
        else ⟨.seq, c + 1, n, s.bump (QUILL_FQ_STALE q)⟩)
    | _ => none))

/-- EVENT (R286, R303). -/
def execEvent (q : Fin 12) (t : Fin 17) (s : State) : Host.Outcome State Fault Refusal :=
  .next (s.nibIssue q t (fun i => match i with
    | .event code => some (fun n s =>
      let hop := match n.evRead with
        | some h => h + 1
        | none => 0
      let s := (s.wr (QUILL_EV_LAST_CODE q) code).wr (QUILL_EV_LAST_NIB q) (s.roleOf q t)
      ⟨.seq, n.cycle + 1, n, s.occur (237 + q.val) hop⟩)
    | _ => none))

/-! ### Control instructions (R287) -/

/-- A jump to a byte address, in `cost` cycles. -/
def nibJump (n : Nib) (s : State) (c : Nat) (a : Int) : NibRes :=
  if 0 ≤ a && decide (a < 16384) then ⟨.jump a.toNat, c + 3, n, s⟩
  else ⟨.trap kfPcRange (toBits 32 a), c, n, s⟩

/-- A branch on s_a. -/
def nibBranch (a off : Nat) (p : Int → Bool) (n : Nib) (s : State) : NibRes :=
  let c := n.issueAt [keyS a]
  if p (signed 32 (n.sr a)) then nibJump n s c ((n.pc : Int) + 4 * signed 21 off) else ⟨.seq, c + 1, n, s⟩

/-- BEQZ (R287). -/
def execBeqz (q : Fin 12) (t : Fin 17) (s : State) : Host.Outcome State Fault Refusal :=
  .next (s.nibIssue q t (fun i => match i with
    | .beqz a o => some (nibBranch a o (fun x => x == 0))
    | _ => none))

/-- BNEZ (R287). -/
def execBnez (q : Fin 12) (t : Fin 17) (s : State) : Host.Outcome State Fault Refusal :=
  .next (s.nibIssue q t (fun i => match i with
    | .bnez a o => some (nibBranch a o (fun x => x != 0))
    | _ => none))

/-- BLTZ (R287). -/
def execBltz (q : Fin 12) (t : Fin 17) (s : State) : Host.Outcome State Fault Refusal :=
  .next (s.nibIssue q t (fun i => match i with
    | .bltz a o => some (nibBranch a o (fun x => decide (x < 0)))
    | _ => none))

/-- BGEZ (R287). -/
def execBgez (q : Fin 12) (t : Fin 17) (s : State) : Host.Outcome State Fault Refusal :=
  .next (s.nibIssue q t (fun i => match i with
    | .bgez a o => some (nibBranch a o (fun x => decide (0 ≤ x)))
    | _ => none))

/-- JAL (R287). -/
def execJal (q : Fin 12) (t : Fin 17) (s : State) : Host.Outcome State Fault Refusal :=
  .next (s.nibIssue q t (fun i => match i with
    | .jal a o => some (fun n s =>
      let c := n.cycle
      nibJump (n.putS a (n.pc + 4) (c + 1)) s c ((n.pc : Int) + 4 * signed 21 o))
    | _ => none))

/-- JR (R287). -/
def execJr (q : Fin 12) (t : Fin 17) (s : State) : Host.Outcome State Fault Refusal :=
  .next (s.nibIssue q t (fun i => match i with
    | .jr a => some (fun n s =>
      let c := n.issueAt [keyS a]
      let x := n.sr a
      if x % 4 != 0 then ⟨.trap kfMisaligned x, c, n, s⟩ else nibJump n s c x)
    | _ => none))

/-- LOOP (R287): a count of 0 skips the body; a fifth level is LOOP_ERROR. -/
def execLoop (q : Fin 12) (t : Fin 17) (s : State) : Host.Outcome State Fault Refusal :=
  .next (s.nibIssue q t (fun i => match i with
    | .loop a k => some (fun n s =>
      let c := n.issueAt [keyS a]
      let body := k.val + 1
      let count := n.sr a
      if count = 0 then
        let p := loopBack (n.pc + 4 + 4 * body) n.loops
        if 16384 ≤ p.1 then ⟨.trap kfPcRange p.1, c, n, s⟩
        else ⟨.jump p.1, c + 1, { n with loops := p.2 }, s⟩
      else if 4 ≤ n.loops.length then ⟨.trap kfLoop 0, c, n, s⟩
      else ⟨.seq, c + 1, { n with loops := ⟨n.pc + 4, n.pc + 4 * body, count⟩ :: n.loops }, s⟩)
    | _ => none))

/-- STOP (R287, R292). -/
def execStop (q : Fin 12) (t : Fin 17) (s : State) : Host.Outcome State Fault Refusal :=
  .next (s.nibIssue q t (fun i => match i with
    | .stop imm => some (fun n s => ⟨.trap kfStop imm, n.cycle, n, s⟩)
    | _ => none))

/-- ILLEGAL_INSTRUCTION (R276): the word at the PC is illegal. -/
def execIllegalInstruction (q : Fin 12) (t : Fin 17) (s : State) : Host.Outcome State Fault Refusal :=
  let n := s.nib q t
  let w := s.nibWord q t
  if n.run.isNone || s.overBudget q t || (decodeNib w).isSome then .next s
  else .next (s.kernelFault q t kfIllegal n.pc w)

/-- KERNEL_TIMEOUT (R292): the run has reached BUDGET cycles. -/
def execKernelTimeout (q : Fin 12) (t : Fin 17) (s : State) : Host.Outcome State Fault Refusal :=
  let n := s.nib q t
  if n.run.isSome && s.overBudget q t then
    .next (s.kernelFault q t kfTimeout n.pc (s.rd (QUILL_JOB_BUDGET q n.job)))
  else .next s

end Sys2Proof.Machine
end

