-- ==== Sys2Proof/Machine/Access.lean ====
section
/-! DEFINITION. Accesses to the memory spaces of device addresses: DRAM, host and quill memory (R304
to R306, R489, R499). Register space is the bus's. -/

namespace Sys2Proof.Machine

open Sys2Proof

/-- The space and the offset of a device address (R304). -/
def devSpace (a : Nat) : Nat := bitsAt a 42 2
def devOff (a : Nat) : Nat := bitsAt a 0 42

/-- How an access ends: done with the bytes read, refused by the matrix, outside its space, an error
response at an address, or waiting while DRAM is in self-refresh (R306). -/
inductive AccRes where
  | ok (bytes : List Nat)
  | denied
  | range
  | failed (addr : Nat)
  | stall
  deriving DecidableEq, Repr

/-- Do `n` bytes at a device address lie inside its memory space (R304)? -/
def State.devFits (s : State) (a n : Nat) : Bool :=
  match devSpace a with
  | 0 => s.dramFits (devOff a) n
  | 1 => decide (devOff a + n ≤ 2 ^ 42)
  | 2 => decide (devOff a + n ≤ 0x3000000)
  | _ => false

/-- Bytes of quill memory from an offset of its space on, over at most `k` quills. -/
def State.spanRead : Nat → State → Nat → Nat → List Nat × State
  | 0, s, _, _ => ([], s)
  | k + 1, s, off, n =>
    let here := min n (0x400000 - off % 0x400000)
    let a := s.qRead (off / 0x400000) none (off % 0x400000) here
    if here = n then a
    else
      let b := State.spanRead k a.2 (off + here) (n - here)
      (a.1 ++ b.1, b.2)

/-- A write of quill memory from an offset of its space on, over at most `k` quills. -/
def State.spanWrite : Nat → State → Nat → List Nat → State
  | 0, s, _, _ => s
  | k + 1, s, off, bs =>
    let here := 0x400000 - off % 0x400000
    let s := s.qWrite (off / 0x400000) (off % 0x400000) (bs.take here)
    if bs.length ≤ here then s else State.spanWrite k s (off + here) (bs.drop here)

/-- A read of `n` bytes by a requester. `host` is what the host answers when the address is in host
space: fewer bytes mean an error response. -/
def State.devRead (s : State) (r cls a n : Nat) (host : List Nat) : AccRes × State :=
  if !s.devFits a n then (.range, s)
  else
    let p := s.permit r clsMemory false a
    if !p.1 then (.denied, p.2)
    else
      match devSpace a with
      | 0 =>
        if s.inSelfRefresh then (.stall, s)
        else
          let t := s.dramRead (devOff a) n cls
          match t.2.1 with
          | some bad => (.failed bad, t.2.2)
          | none => (.ok t.1, t.2.2)
      | 1 => if host.length < n then (.failed a, s) else (.ok ((host.take n).map (· % 256)), s)
      | _ =>
        let t := State.spanRead 12 s (devOff a) n
        (.ok t.1, t.2)

/-- A write of bytes by a requester; `hb` is its HOST_BASE. A write that meets self-refresh waits in the
controller (R306). -/
def State.devWrite (s : State) (r cls hb a : Nat) (bs : List Nat) : AccRes × State :=
  if !s.devFits a bs.length then (.range, s)
  else
    let p := s.permit r clsMemory true a
    if !p.1 then (.denied, p.2)
    else
      match devSpace a with
      | 0 =>
        let t := s.dramWrite (devOff a) bs cls
        match t.1 with
        | some bad => (.failed bad, t.2)
        | none => (.ok [], t.2)
      | 1 => (.ok [], s.hostPut ((hb + devOff a) % 2 ^ 64) bs)
      | _ => (.ok [], State.spanWrite 12 s (devOff a) bs)

end Sys2Proof.Machine
end

