-- ==== Sys2Proof/Machine/Boundary.lean ====
section
/-! DEFINITION. Line triggers, frame boundaries and commit boundaries (R40, R41, R44, R45, R105 to R111, R140,
R197, R253, R537). -/

namespace Sys2Proof.Machine

open Sys2Proof

/-! ### The settings sets of the units -/

/-- The commit state of a unit, with the status bits that follow it. -/
def State.setUnitCtx (s : State) (u : CommitUnit) (c : CommitCtx) : State :=
  match u with
  | .pipe p x => (s.setPx p x { s.px p x with commit := c }).updCtx p x
  | .stitch => ({ s with stitch := { s.stitch with commit := c } }).updStitch
  | .master => ({ s with mas := { s.mas with commit := c } }).updMaster
  | .scaler => (s.setScal (fun k => { k with commit := c })).updScaler

/-- The offsets whose words make a unit's settings set. -/
def unitRange : CommitUnit → Nat × Nat
  | .pipe p x => (0x200100 + 0x10000 * p + 0x200 * x, 0x200300 + 0x10000 * p + 0x200 * x)
  | .stitch => (0x300000, 0x310000)
  | .master => (0x310000, 0x320000)
  | .scaler => (0x330000, 0x340000)

def unitSrc : CommitUnit → Nat
  | .pipe p _ => srcPipe p
  | .stitch => srcStitch
  | .master => srcMaster
  | .scaler => srcScaler

def unitReject : CommitUnit → Fld
  | .pipe p _ => PIPE_STATUS_CFG_REJECT p
  | .stitch => STITCH_STATUS_CFG_REJECT
  | .master => MASTER_STATUS_CFG_REJECT
  | .scaler => SCALER_STATUS_CFG_REJECT

/-- Does a COMMIT of the unit fetch a memory image (R110, R198)? -/
def unitFetches : CommitUnit → Bool
  | .pipe _ _ => true
  | .master => true
  | .stitch => false
  | .scaler => false

/-- Is a line below the start of the active set still owed (R107, R140, R253)? -/
def State.unitBusy (s : State) (u : CommitUnit) : Bool :=
  match (s.unitCtx u).active with
  | none => false
  | some a =>
    match u with
    | .pipe p x => (s.outstanding p x).any (fun l => decide (l < a.start))
        || (s.on (PIPE_CTRL_EN p) && (s.tl.waiting ++ s.dueLines).any (fun l => decide (l < a.start)))
    | .stitch => s.on STITCH_CTRL_EN && ((match s.nextForm with
        | some n => decide (n < a.start)
        | none => false) || s.stitch.work.any (fun w => decide (w.2.line < a.start)))
    | .master => s.on MASTER_CTRL_EN && (match s.mas.nextDiff with
        | some v => decide (4 * v < a.start)
        | none => false)
    | .scaler => s.on SCALER_CTRL_EN && [0, 1].any (fun pl => s.planeActive a pl &&
        !(modeSpans segmenting s.top.hist openLine (if pl = 0 then s.nextFine else s.nextMaster) (a.start - 1)).isEmpty)

/-! ### Checks at the boundary (R537) -/

/-- The register whose fields a set gets wrong, if any. -/
def badField (u : CommitUnit) (m : Sparse Word) : Option Nat :=
  match u with
  | .pipe p x =>
    let first := rdIn m (PIPE_CTX_STATS_ROI_FIRST p x)
    let last := rdIn m (PIPE_CTX_STATS_ROI_LAST p x)
    if last < first || rdIn m (PIPE_CTX_CFG_PIXELS p x) ≤ last then some (PIPE_CTX_STATS_ROI p x).off else none
  | .scaler =>
    let badThr lo hi := lo = 0 || decide (hi < lo)
    if badThr (rdIn m SCALER_FINE_THR_LO) (rdIn m SCALER_FINE_THR_HI) then some SCALER_FINE_THR_LO.off
    else if badThr (rdIn m SCALER_MASTER_THR_LO) (rdIn m SCALER_MASTER_THR_HI) then some SCALER_MASTER_THR_LO.off
    else none
  | .stitch => none
  | .master => none

/-! ### Carrying and applying (R107 to R111) -/

/-- CARRY_REASON. -/
def carrySame : Nat := 1
def carryTable : Nat := 2
def carryBusy : Nat := 3

/-- A COMMIT is carried to the following boundary (R108). -/
def State.carry (s : State) (u : CommitUnit) (why : Nat) : State :=
  match u with
  | .pipe p x => (s.set1 (PIPE_CTX_STATUS_COMMIT_CARRIED p x)).wr (PIPE_CTX_STATUS_CARRY_REASON p x) why
  | .stitch => (s.set1 STITCH_STATUS_COMMIT_CARRIED).wr STITCH_STATUS_CARRY_REASON why
  | .master => (s.set1 MASTER_STATUS_COMMIT_CARRIED).wr MASTER_STATUS_CARRY_REASON why
  | .scaler => (s.set1 SCALER_STATUS_COMMIT_CARRIED).wr SCALER_STATUS_CARRY_REASON why

/-- COMMITs applied so far; the scaler does not show its count. -/
def State.commitsOf (s : State) (u : CommitUnit) : Nat :=
  match u with
  | .pipe p x => s.rd (PIPE_CTX_APPLIED_INFO_COMMITS p x)
  | .stitch => s.rd STITCH_INFO_COMMITS
  | .master => s.rd MASTER_INFO_COMMITS
  | .scaler => match s.scal.commit.active with
    | some t => t.commits
    | none => 0

/-- What the registers show of a set that has been applied, with what it does in its unit (R107, R141, R131). -/
def State.showApplied (s : State) (u : CommitUnit) (t : SettingsSet) (late : Bool) : State :=
  match u with
  | .pipe p x =>
    let s := s.wrS (PIPE_CTX_APPLIED_LINE p x) t.start
    let s := (s.wr (PIPE_CTX_APPLIED_INFO_EXP_SET p x) (t.rd (PIPE_CTX_EXPOSURE p x))).wr
      (PIPE_CTX_APPLIED_INFO_COMMITS p x) t.commits
    let s := if late then s.set1 (PIPE_CTX_STATUS_LATE_BOUNDARY p x) else s
    let tag := (t.start, some (t.rd (PIPE_CTX_CFG_FRAME_GEN p x), t.rd (PIPE_CTX_EXPOSURE p x)))
    (s.setPx p x { s.px p x with newSet := true, tags := tag :: (s.px p x).tags }).occur (165 + 4 * s.eventPipe p + 2 * x)
  | .stitch => (((s.wrS STITCH_APPLIED_LINE t.start).wr STITCH_INFO_COMMITS t.commits).stitchApplied t).occur 217
  | .master =>
    let s := (s.wrS MASTER_APPLIED_LINE t.start).wr MASTER_INFO_COMMITS t.commits
    ({ s with mas := { s.mas with bad := [] } }).occur 225
  | .scaler => s.occur 235

/-- What the conditions of R107 give for boundary tick `bt`: 0, or the cause to carry for, and the image. -/
def State.judgement (s : State) (u : CommitUnit) (bt : Nat) : Nat × Sparse Nat :=
  match (s.unitCtx u).eligible bt with
  | none => (carrySame, [])
  | some p =>
    match (if unitFetches u then (s.unitCtx u).imageOf p.tick else some []) with
    | none => (carryTable, [])
    | some img => if s.unitBusy u then (carryBusy, []) else (0, img)

/-- The conditions are judged in the boundary tick, when it ends (R107). -/
def State.judge (s : State) (u : CommitUnit) : State :=
  let j := s.judgement u s.now
  s.setUnitCtx u { s.unitCtx u with judged := some (s.now, j.1, j.2) }

/-- The boundaries that have fallen due in this tick are judged (R107). [DEDUCED, log 8] -/
def State.judgeDue (s : State) : State :=
  allUnits.foldl (fun s u =>
    if s.tl.sched.any (fun e => isCommitOf u e.act && e.due == some s.now) then s.judge u else s) s

/-- The line of the position of the tick in which a deadline check fell due (R249). -/
def State.noteVerdict (s : State) : State :=
  if s.tl.sched.any (fun e => e.act == .verdict && e.due == some s.now) then
    { s with scal := { s.scal with dueLine := some s.line } }
  else s

/-- The judgement of boundary tick `bt`. -/
def State.judgedAt (s : State) (u : CommitUnit) (bt : Nat) : Nat × Sparse Nat :=
  match (s.unitCtx u).judged with
  | some (t, j) => if t = bt then j else s.judgement u bt
  | none => s.judgement u bt

/-- A COMMIT recorded in the boundary tick is carried (R108). -/
def State.carryLater (s : State) (u : CommitUnit) (bt : Nat) : State :=
  if (s.unitCtx u).pend.any (fun p => p.tick == bt) then s.carry u carrySame else s

/-- A commit boundary of a unit at a line, with boundary tick `bt`, is applied; `start` is the start line of a
set applied on time, `late` whether the boundary executes late (R107 to R109, R111, R537). Answers the COMMITS
number of a set it applies. [DEDUCED, log 8] -/
def State.commitAt (s : State) (u : CommitUnit) (start : Int) (bt : Nat) (late : Bool) : Option Nat × State :=
  let c := s.unitCtx u
  if (c.eligible bt).isNone then (none, (s.carryLater u bt).offerCommit u)
  else
    let j := s.judgedAt u bt
    if j.1 != 0 then (none, (s.carry u j.1).offerCommit u)
    else
      let r := unitRange u
      let words := s.shadowAt r.1 r.2 bt
      match badField u words with
      | some off =>
        let s := (s.setUnitCtx u (c.spend bt)).carryLater u bt
        (none, (s.reject (unitReject u) (unitSrc u) off (spGet resetWord words off).toNat).offerCommit u)
      | none =>
        let line := if late then max start s.lowestUntriggered else start
        let n := (s.commitsOf u + 1) % 65536
        let t : SettingsSet := { words := words, image := j.2, start := line, commits := n }
        let s := (s.setUnitCtx u (c.apply bt t)).showApplied u t (decide (start < line))
        (some n, (s.carryLater u bt).offerCommit u)

/-- The boundary that a ledger entry offered (R197): the set governs the page from its first line.
[DEDUCED, log 9] -/
def State.pageBoundary (s : State) (start : Int) (bt : Nat) (late : Bool) : State :=
  match s.mas.pages.find? (fun p => p.start == start) with
  | none => s
  | some p =>
    let r := s.commitAt .master (4 * p.po) bt late
    match r.1 with
    | some n => r.2.setPage { p with applied := some n }
    | none => r.2

/-- The commit boundary of a unit that fell due 8 ticks ago is applied (R39, R107). -/
def State.commitBoundary (s : State) (u : CommitUnit) : State :=
  match s.takeCommit u with
  | some (e, s) =>
    let bt := e.due.getD s.now
    match e.act with
    | .commit _ l => if s.boundaryKind u = .page then s.pageBoundary l bt e.late else (s.commitAt u l bt e.late).2
    | _ => s
  | none => s

/-- COMMIT_BOUNDARY (R107, R197, R253): the commit boundary of a unit is applied. -/
def execCommitBoundary (u : Fin 29) (s : State) : Host.Outcome State Fault Refusal :=
  .next (s.commitBoundary (unitOf u.val))

/-! ### Frame boundaries (R44, R45) -/

/-- A boundary of generator f at a line, with boundary tick `bt`: a COMMIT that the boundary tick itself
recorded is carried, the frame begins, and statistics close (R44, R108, R123). -/
def State.frameBoundary (s : State) (f : Nat) (l : Int) (bt : Nat) : State :=
  let s := allUnits.foldl (fun s u =>
    if s.boundaryKind u = .frame f then s.carryLater u bt else s) s
  let s := s.frameStep f l
  (List.range 26).foldl (fun s u =>
    if s.ctxGen (u / 2) (u % 2) = f then s.closeStats (u / 2) (u % 2) else s) s

def isFrame : Action → Bool
  | .frame _ _ => true
  | _ => false

/-- FRAME_BOUNDARY (R44): the first action to apply is a frame boundary. -/
def execFrameBoundary (s : State) : Host.Outcome State Fault Refusal :=
  match s.takeDue isFrame with
  | some (e, s) =>
    match e.act with
    | .frame f l => .next (s.frameBoundary f l (e.due.getD s.now))
    | _ => .next s
  | none => .next s

/-- The boundary that generator f inserts at a line falls due, with the commit boundaries that lie on it
(R45, R106). -/
def State.insertFrame (s : State) (f : Nat) (l : Int) : State :=
  let s := s.setFrameGen f { s.frameGen f with prev := some l }
  let s := allUnits.foldl (fun s u =>
    if s.boundaryKind u = .frame f && !(s.unitCtx u).pend.isEmpty
        && !s.tl.sched.any (fun e => isCommitOf u e.act && !e.isOpen s.now) then
      (s.withdrawOpen (isCommitOf u)).dueNow (.commit u l) (lineSlot l)
    else s) s
  s.dueNow (.frame f l) (lineSlot l)

/-- FRAME_MARK_MISSING (R45): no sensed boundary within MAX_GAP lines; one is inserted at previous + MAX_GAP. -/
def execFrameMarkMissing (f : Fin 4) (s : State) : Host.Outcome State Fault Refusal :=
  match s.markMissing f.val with
  | some (l, s) => .next (s.insertFrame f.val l)
  | none => .next s

/-! ### Line triggers (R40, R41, R101) -/

/-- The trigger of a line is issued: event 84, and every served camera owes the line (R40, R101). -/
def State.issueTrigger (s : State) (l : Int) : State :=
  let s := { s with tl := { s.tl with lastIssue := some s.now } }
  let s := (s.wrS TIMELINE_LAST_LINE l).occur 84
  (List.range 12).foldl (fun s n =>
    match s.pipeOf n with
    | some p => (s.groupsOf n).foldl (fun s g => s.owe p g n l) s
    | none => s) s

/-- Is the next trigger no sooner than MIN_GAP ticks after the one before (R41)? -/
def State.triggerFree (s : State) : Bool :=
  match s.tl.lastIssue with
  | some t => decide (t + s.rd TIMELINE_TRIG_CTRL_MIN_GAP ≤ s.now)
  | none => true

/-- Lines `a .. b` are not triggered (R41): deadline fault and coverage across the full width. -/
def State.skipLines (s : State) (a b : Int) : State :=
  let s := (s.set1 TIMELINE_STATUS_TRIG_LATE).fault srcTimeline 0xC010 (slotLine a ++ slotLine b)
  s.coverFull a b 0x10 0 0 0

/-- Lines `a .. b` join the backlog; those beyond BACKLOG are skipped (R41). -/
def State.backlog (s : State) (a b : Int) : State :=
  let room := max 1 (s.rd TIMELINE_TRIG_CTRL_BACKLOG) - s.tl.waiting.length
  let k := min room (b - a + 1).toNat
  let s := { s with tl := { s.tl with waiting := s.tl.waiting ++ tabulate k (fun (i : Nat) => a + (i : Int)) } }
  let c := a + (k : Int)
  if c ≤ b then s.skipLines c b else s

/-- The oldest waiting trigger is issued when it may be (R41). -/
def State.issueHead (s : State) : State :=
  match s.tl.waiting with
  | l :: rest => if s.triggerFree then ({ s with tl := { s.tl with waiting := rest } }).issueTrigger l else s
  | [] => s

/-- Lines `a .. b` fell due in one tick: what may be issued at once is, the oldest first (R41). -/
def State.triggerLines (s : State) (a b : Int) : State :=
  if s.rd TIMELINE_TRIG_CTRL_MIN_GAP = 0 then
    let all := s.tl.waiting ++ tabulate (b - a + 1).toNat (fun (i : Nat) => a + (i : Int))
    all.foldl State.issueTrigger { s with tl := { s.tl with waiting := [] } }
  else
    let s := s.issueHead
    if s.tl.waiting.isEmpty && s.triggerFree then
      let s := s.issueTrigger a
      if a < b then s.backlog (a + 1) b else s
    else s.backlog a b

/-- LINE_TRIGGER (R39 to R41, R440): the lines of a trigger action are triggered, below H in M11 HALT. -/
def execLineTrigger (s : State) : Host.Outcome State Fault Refusal :=
  match s.takeDue isTrigger with
  | some (e, s) =>
    match e.act with
    | .trigger a (some b) =>
      let b := s.lastTriggered b
      .next (if a ≤ b then s.triggerLines a b else s)
    | _ => .next s
  | none => .next s

/-- TRIGGER_ISSUE (R41): the oldest waiting trigger is issued. -/
def execTriggerIssue (s : State) : Host.Outcome State Fault Refusal :=
  .next (if s.on TIMELINE_CTRL_RUN then s.issueHead else s)

end Sys2Proof.Machine
end

