-- ==== Sys2Proof/Machine/Quill.lean ====
section
/-! DEFINITION. Quills (R258 to R273, R284, R292 to R303): jobs and their checks, INIT runs, stripe windows,
invocations, sparing and planned swaps, kernel loads, resets and events. -/

namespace Sys2Proof.Machine

open Sys2Proof

/-! ### Job checks and enabling (R264, R266) -/

/-- Parts of local memory that a job uses: base and length of each window and of the output rows. -/
def State.jobRanges (s : State) (q j : Nat) : List (Nat × Nat) :=
  (s.winsOn q j).map (fun w => (s.winBase q j w, s.winRows q j w * s.pitchOf q j w))
    ++ (if s.on (QUILL_JOB_CTRL_OUT_EN q j) then [(s.rd (QUILL_JOB_OUT_BASE q j), 2 * s.stripeW q j)] else [])

/-- Do two of the ranges overlap? -/
def rangesOverlap : List (Nat × Nat) → Bool
  | [] => false
  | r :: rs => rs.any (fun x => decide (r.1 < x.1 + x.2) && decide (x.1 < r.1 + r.2)) || rangesOverlap rs

/-- The image length a slot's nib holds, when it is valid. -/
def State.imageWords (s : State) (q t : Nat) : Option Nat :=
  if s.on (QUILL_SLOT_STATUS_IMAGE_VALID q t) then some (s.nib q t).words else none

/-- The first job check that fails (R264). [DEDUCED, log 80] -/
def State.jobCheck (s : State) (q j : Nat) : Option Nat :=
  let sw := s.stripeW q j
  let nibs := s.rd (QUILL_JOB_NIBS q j)
  let wins := s.winsOn q j
  let out := s.on (QUILL_JOB_CTRL_OUT_EN q j)
  let coarse := s.jobCoarse q j
  let queue := s.jobQueue q j
  let others := (List.range 4).any (fun k => k != j && s.jobOn q k && andNat 16 nibs (s.rd (QUILL_JOB_NIBS q k)) != 0)
  let slots := s.jobSlots q j
  let pcs := [s.rd (QUILL_JOB_INIT_PC q j), s.rd (QUILL_JOB_LINE_PC q j)]
  let ranges := s.jobRanges q j
  if sw = 0 || sw % 64 != 0 || decide (4096 < sw) || s.rd (QUILL_JOB_X0 q j) % 64 != 0 then some 1
  else if 4 < s.halo q j then some 2
  else if nibs = 0 || others then some 3
  else if (!queue && wins.isEmpty) || (queue && (!wins.isEmpty || out)) then some 4
  else if wins.any (fun w => if coarse then decide (s.winSrc q j w < 3) else decide (3 ≤ s.winSrc q j w))
      || (out && coarse) then some 5
  else if wins.any (fun w => s.winRows q j w = 0
      || decide (s.winRows q j w < s.winHist q j w + s.winAhead q j w + 1)) then some 6
  else if ranges.any (fun r => r.1 % 128 != 0 || decide (0x40000 < r.1 + r.2)) || rangesOverlap ranges then some 7
  else if pcs.any (fun p => p % 4 != 0 || slots.any (fun t => match s.imageWords q t with
      | some w => decide (4 * w ≤ p)
      | none => false)) then some 8
  else if slots.any (fun t => (s.imageWords q t).isNone) then some 9
  else none

/-- A write of EN = 1 (R264, R266): the checks, then an INIT run of every nib. -/
def State.jobEnable (s : State) (q j : Nat) : State :=
  if s.jobOn q j then s
  else
    let s := s.updPitch q j
    match s.jobCheck q j with
    | some c =>
      ((s.set1 (QUILL_JOB_CTRL_CONFIG_ERR q j)).wr (QUILL_JOB_CTRL_CHECK q j) c).fault (srcQuill q) 0x4001
        (slot1 q ++ slot1 j ++ slot1 c)
    | none =>
      let s := (s.set1 (QUILL_JOB_CTRL_EN q j)).set1 (QUILL_JOB_CTRL_RUNNING q j)
      let s := s.wr (QUILL_JOB_RETIRED q j) (2 ^ 64 - 1)
      let s := s.setJob q j { init := true }
      (s.jobSlots q j).foldl (fun s t =>
        let n := s.nib q t
        let s := s.setNib q t { n with
          behalf := s.slotState q t == slotFailed, lost := none, next := none, retired := none
          prev := none, skipped := 0, restart := true, resume := false, fill := [] }
        let s := s.wr (QUILL_SLOT_STATUS_JOB q t) j
        if s.slotState q t = slotFailed then s else s.startInit q t j false) s

/-- JOB_ENABLE (R264). -/
def execJobEnable (q : Fin 12) (j : Fin 4) (s : State) : Host.Outcome State Fault Refusal :=
  .next (s.jobEnable q j)

/-- A write of EN = 0: the job's nibs stop, and open runs of lines not processed are published. -/
def State.jobDisable (s : State) (q j : Nat) : State :=
  if !s.jobOn q j then s
  else
    let s := (s.jobSlots q j).foldl (fun s t =>
      let s := (s.endLost q t).endRun' q t
      let n := s.nib q t
      let s := s.setNib q t { n with behalf := false, resume := false, next := none, retired := none }
      if s.slotState q t = slotFailed then s else s.setSlotState q t slotIdle) s
    let s := s.setJob q j {}
    (s.wr (QUILL_JOB_CTRL_EN q j) 0).wr (QUILL_JOB_CTRL_RUNNING q j) 0

/-- INIT_RUN_DONE (R266): the INIT runs of all the job's nibs have ended; the start line is the next line
that starts to form. -/
def execInitRunDone (q : Fin 12) (j : Fin 4) (s : State) : Host.Outcome State Fault Refusal :=
  let x := s.job q j
  let running := (s.jobSlots q j).any (fun t => match (s.nib q t).run with
    | some (.init _) => true
    | _ => false)
  if !s.jobOn q j || !x.init || running then .next s
  else .next (s.setJob q j { x with init := false, waitStart := !s.jobQueue q j })

/-! ### Stripe windows (R261 to R270) -/

/-- The newest row index of a window source that has been formed (R263). -/
def State.newestRow (s : State) (src : Nat) : Option Int :=
  match src with
  | 1 | 2 => (s.stitch.fine.head?).map (·.line)
  | 3 => (s.stitch.coarse.head?).map (·.line)
  | 4 | 5 => s.mas.nextDiff.map (· - 1)
  | 6 => (s.mas.rows.head?).map (·.row)
  | _ => none

/-- A list of bytes filled with zeros to a multiple of 128. -/
def pad128 (bs : List Nat) : List Nat := padTo 0 (up128 bs.length) bs

/-- The bytes of a row of validity bits (R263). -/
def bitBytes (p : Nat) (f : Nat → Bool) : List Nat :=
  pad128 (tabulate ((p + 7) / 8) (fun i =>
    (List.range 8).foldl (fun a b => if 8 * i + b < p && f (8 * i + b) then a + 2 ^ b else a) 0))

/-- Three colour planes and validity (R263). -/
def rgbRow (p : Nat) (f : Nat → Option (Nat × Nat × Nat)) : List Nat :=
  let plane (c : Nat) : List Nat := pad128 ((tabulate p f).flatMap (fun x => match x with
    | some v => leBytes 2 (chan c v)
    | none => [0, 0]))
  plane 0 ++ plane 1 ++ plane 2 ++ bitBytes p (fun i => (f i).isSome)

/-- An element of a list by an integer column, none outside it (R262). -/
def atCol {α : Type} (xs : List α) (c : Int) : Option α := if c < 0 then none else xs[c.toNat]?

/-- The bytes of row `l` of a window with P columns from plane column `x0` (R262, R263). [DEDUCED, log 75] -/
def State.rowBytes (s : State) (src p : Nat) (x0 l : Int) : List Nat :=
  match src with
  | 1 =>
    let px := ((s.stitch.fine.find? (fun f => f.line == l)).map (·.pixels)).getD []
    rgbRow p (fun i => (atCol px (x0 + i)).getD none)
  | 2 =>
    let cols := ((s.fine.hist.find? (fun e => e.1 == l)).map (·.2)).getD []
    let formed := s.stitch.fine.any (fun f => f.line == l)
    let at_ (i : Nat) : ColState :=
      let c := x0 + (i : Int)
      if !formed || decide (c < 0) || decide ((s.width : Int) ≤ c) then {} else spGet (fun _ => {}) cols c.toNat
    let plane (c : Nat) : List Nat :=
      pad128 ((List.range p).flatMap (fun i =>
        leBytes 8 (nth 0 (at_ i).m c % 2 ^ 24 + nth 0 (at_ i).v c % 2 ^ 40 * 2 ^ 24)))
    plane 0 ++ plane 1 ++ plane 2 ++ pad128 ((List.range p).flatMap (fun i => leBytes 2 (at_ i).n))
  | 3 =>
    let px := ((s.stitch.coarse.find? (fun f => f.line == l)).map (·.pixels)).getD []
    rgbRow p (fun i => (atCol px (x0 + i)).getD none)
  | 4 =>
    let px := ((s.mas.diff.find? (fun d => d.line == l)).map (·.pixels)).getD []
    rgbRow p (fun i => (atCol px (x0 + i)).bind (fun d => if d.cmp then some d.exp else none))
  | 5 =>
    let px := ((s.mas.diff.find? (fun d => d.line == l)).map (·.pixels)).getD []
    let val (f : DiffPix → Nat) (i : Nat) : List Nat := match atCol px (x0 + (i : Int)) with
      | some d => leBytes 2 (f d)
      | none => [0, 0]
    pad128 ((List.range p).flatMap (val (·.de))) ++ pad128 ((List.range p).flatMap (val (·.score)))
  | 6 =>
    let row := s.mas.rows.find? (fun r => r.row == l)
    let tile (i : Nat) : List Nat :=
      let k := x0 / 64 + (i : Int)
      match row with
      | some r =>
        match atCol r.d k with
        | some d =>
          leBytes 2 (toBits 16 d.1) ++ leBytes 2 (toBits 16 d.2)
            ++ leBytes 2 (b2n ((atCol r.weak k).getD false) + 2 * b2n ((atCol r.range k).getD false)) ++ [0, 0]
        | none => List.replicate 8 0
      | none => List.replicate 8 0
    pad128 ((List.range (p / 64)).flatMap tile)
  | _ => []

/-- The job and logical nib whose rows a slot's nib takes: its own, or those of a planned swap (R297). -/
def State.fillJob (s : State) (q t : Nat) : Option (Nat × Nat × Nat) :=
  match (s.quillAt q).hand with
  | some h =>
    if h.to_ = t && h.planned then (s.jobOfNib q h.logical).map (fun j => (j, h.logical, h.from_))
    else (s.jobOfSlot q t).map (fun j => (j, s.roleOf q t, t))
  | none => (s.jobOfSlot q t).map (fun j => (j, s.roleOf q t, t))

/-- The line a nib is invoked for, or is to be invoked for next. -/
def Nib.current (n : Nib) : Option Int :=
  match n.run with
  | some (.line l) => some l
  | _ => n.next

/-- Rows of window w are filled in order while the ring has room for them (R268). `free` is true during a
handover, in which the rings are overwritten (R296). -/
def State.fillWindow (s : State) (q t j l w : Nat) (cur : Int) (free : Bool) : Nat → State
  | 0 => s
  | k + 1 =>
    let src := s.winSrc q j w
    let n := s.nib q t
    let i := spGet (fun _ => 0) n.fill w
    match s.newestRow src with
    | some f =>
      let room := free || decide (i - s.winRows q j w < winIndex src cur - s.winHist q j w)
      if i ≤ f && room then
        let bs := s.rowBytes src (s.rowCols q j) (s.stripeBase q j l) i
        let a := s.winBase q j w + (i % (s.winRows q j w : Int)).toNat * s.pitchOf q j w
        (s.setNib q t { n with mem := Memory.put n.mem a bs, fill := spSet (fun _ => 0) n.fill w (i + 1) }).fillWindow
          q t j l w cur free k
      else s
    | none => s

/-- Lines formed that a window still waits to hold: those in the fill buffer (R270). -/
def State.bufferedLines (s : State) (q t j : Nat) : Nat :=
  ((s.winsOn q j).filter (fun w => s.winSrc q j w != 6)).foldl (fun m w =>
    match s.newestRow (s.winSrc q j w) with
    | some f => max m (f - spGet (fun _ => 0) (s.nib q t).fill w + 1).toNat
    | none => m) 0

/-- WINDOW_FILL (R268 to R270): the lines formed are filled into the stripe windows of the nib in a slot,
or held in its fill buffer of two; a third held line is JOB_OVERRUN. [DEDUCED, log 75] -/
def execWindowFill (q : Fin 12) (t : Fin 17) (s : State) : Host.Outcome State Fault Refusal :=
  match s.fillJob q t with
  | none => .next s
  | some (j, l, from_) =>
    let n := s.nib q t
    match (s.nib q from_).current, (s.job q j).l0 with
    | some cur, some _ =>
      if n.behalf || n.resume || s.jobQueue q j then .next s
      else
        let free := match (s.quillAt q).hand with
          | some h => h.to_ = t.val && !h.planned
          | none => false
        let s := (s.winsOn q j).foldl (fun s w => s.fillWindow q t j l w cur free 4096) s
        if 2 < s.bufferedLines q t j && from_ == t.val then
          .next (s.kernelFault q t kfOverrun (if n.run.isSome then n.pc else 0) 0)
        else .next s
    | _, _ => .next s

/-! ### Invocation (R267, R271, R301) -/

/-- The first formed line at or after the nib's next one: lines not formed are passed over. -/
def State.nextInvoked (s : State) (q j : Nat) (n : Nib) : Option Int :=
  match n.next with
  | none => none
  | some x =>
    let ls := if s.jobCoarse q j then s.stitch.coarse else s.stitch.fine
    (minBy (fun (f : FineLine) => f.line) (ls.filter (fun f => decide (x ≤ f.line)))).map (·.line)

/-- The largest AHEAD of a job's windows (R267). -/
def State.maxAhead (s : State) (q j : Nat) : Nat := (s.winsOn q j).foldl (fun a w => max a (s.winAhead q j w)) 0

/-- May nibs still be invoked for a line in this mode (R301)? [DEDUCED, log 83] -/
def State.invokeAllowed (s : State) (q j : Nat) (l : Int) : Bool :=
  s.mode != 11 || (s.top.stop.contains .quiesce && (match s.top.haltLine with
    | some h =>
      let last := l + s.maxAhead q j
      decide ((if s.jobCoarse q j then 4 * last + 3 else last) < h)
    | none => false))

/-- A nib starts to run at a PC. -/
def State.startRun (s : State) (q t j : Nat) (run : NibRun) (line : Int) (pos : Nat) : State :=
  let n := s.nib q t
  let s := s.setNib q t { n with
    run := some run, job := j, pc := s.rd (QUILL_JOB_LINE_PC q j), loops := [], line := line, pos := pos
    cycle := 0, ready := [], store := none, evRead := none }
  (s.wr (QUILL_SLOT_STATUS_JOB q t) j).setSlotState q t slotRunning

/-- NIB_INVOKE (R267, R272): the nib has retired the line before, every window holds line N + AHEAD, and
the output row of N is free and cleared. -/
def execNibInvoke (q : Fin 12) (t : Fin 17) (s : State) : Host.Outcome State Fault Refusal :=
  match s.jobOfSlot q t with
  | none => .next s
  | some j =>
    let n := s.nib q t
    match s.nextInvoked q j n with
    | none => .next s
    | some l =>
      let ready := (s.winsOn q j).all (fun w =>
        decide (winIndex (s.winSrc q j w) l + s.winAhead q j w < spGet (fun _ => 0) n.fill w))
      let hand := match (s.quillAt q).hand with
        | some h => h.to_ == t.val
        | none => false
      if s.jobQueue q j || (s.job q j).l0.isNone || n.run.isSome || n.behalf || n.resume || hand || !ready
          || s.slotState q t != slotIdle || !s.invokeAllowed q j l then .next s
      else
        let gap := (l - n.next.getD l).toNat
        let s := (s.setNib q t { n with skipped := n.skipped + gap, retired := some (l - 1), next := some l }).endLost q t
        let last := l + s.maxAhead q j
        let pos := toBits 64 ((if s.jobCoarse q j then 4 * last else last) * 65536)
        let n := s.nib q t
        let mem := if s.on (QUILL_JOB_CTRL_OUT_EN q j) then
            let a := s.rd (QUILL_JOB_OUT_BASE q j) + (l % 2).toNat * s.stripeW q j
            spClear n.mem a (a + s.stripeW q j)
          else n.mem
        .next ((s.setNib q t { n with mem := mem }).startRun q t j (.line l) l pos)

/-- QUEUE_INVOKE (R271): the lowest idle logical nib of a QUEUE job is invoked while the feature queue
holds an unclaimed draft. [DEDUCED, log 83] -/
def execQueueInvoke (q : Fin 12) (s : State) : Host.Outcome State Fault Refusal :=
  if (s.oldestDraft q).isNone then .next s
  else
    let cand := (List.range 16).findSome? (fun l =>
      match s.slotFor q l, s.jobOfNib q l with
      | some t, some j =>
        if s.jobQueue q j && !(s.job q j).init && (s.nib q t).run.isNone && s.slotState q t == slotIdle
            && s.mode != 11 then some (t, j) else none
      | _, _ => none)
    match cand with
    | none => .next s
    | some (t, j) =>
      let p := s.free 64
      let line : Int := ((s.stitch.fine.head?).map (·.line)).getD (-1)
      .next (p.2.startRun q t j .queue line p.1)

/-- NIB_RESTART (R294): a write of RESTART restarts a STOPPED nib. -/
def State.nibRestartReq (s : State) (q t : Nat) : State :=
  if s.slotState q t = slotStopped then s.nibRestart q t else s

def execNibRestart (q : Fin 12) (t : Fin 17) (s : State) : Host.Outcome State Fault Refusal :=
  .next (s.nibRestartReq q t)

/-! ### Kernel images (R299, R300) -/

/-- The image at an address: IMAGE_ID and code words, or the reason it fails to load. -/
def State.kernelImage (s : State) (a : Nat) : Except Nat (Nat × List Nat) × State :=
  if !s.dramFits a 64 then (.error 4, s)
  else
    let h := s.dramRead a 64 clsTable
    let w (o : Nat) : Nat := ofLeBytes ((h.1.drop o).take 4)
    let s := h.2.2
    if h.2.1.isSome then (.error 3, s)
    else if w 0 != 0x3142494E then (.error 0, s)
    else if w 8 = 0 || decide (4096 < w 8) then (.error 1, s)
    else if !s.dramFits a (64 + 4 * w 8) then (.error 4, s)
    else
      let c := s.dramRead (a + 64) (4 * w 8) clsTable
      let s := c.2.2
      if c.2.1.isSome then (.error 3, s)
      else if crc32 c.1 != w 16 then (.error 2, s)
      else (.ok (w 4, tabulate (w 8) (fun i => ofLeBytes ((c.1.drop (4 * i)).take 4))), s)

/-- A nib takes code words; the rest of its code memory reads 0. -/
def State.loadCode (s : State) (q t : Nat) (ws : List Nat) : State :=
  let n := s.nib q t
  (s.setNib q t { n with code := spSetMany (fun _ => 0) [] 0 ws, words := ws.length }).set1
    (QUILL_SLOT_STATUS_IMAGE_VALID q t)

/-- A write of LOAD.GO (R299, R300): ignored with CFG_REJECT while BUSY or while the mask names a nib of an
enabled job. -/
def State.kernelLoadGo (s : State) (q : Nat) : State :=
  let mask := s.rd (QUILL_LOAD_MASK q)
  let used := (List.range 4).any (fun j => s.jobOn q j && andNat 16 mask (s.rd (QUILL_JOB_NIBS q j)) != 0)
  if s.on (QUILL_LOAD_BUSY q) || used then s.quillReject q (QUILL_LOAD q).off (mask + 2 ^ 16)
  else
    let s := s.set1 (QUILL_LOAD_BUSY q)
    ((List.range 16).filter (bitAt mask)).foldl (fun s l => match s.slotFor q l with
      | some t => if s.slotState q t = slotIdle then s.setSlotState q t slotLoading else s
      | none => s) s

def execKernelLoadGo (q : Fin 12) (s : State) : Host.Outcome State Fault Refusal := .next (s.kernelLoadGo q)

/-- KERNEL_LOAD_DONE (R299, R300): the load in progress completes or fails. -/
def execKernelLoadDone (q : Fin 12) (s : State) : Host.Outcome State Fault Refusal :=
  if !s.on (QUILL_LOAD_BUSY q) then .next s
  else
    let s := s.wr (QUILL_LOAD_BUSY q) 0
    let slots := ((List.range 16).filter (bitAt (s.rd (QUILL_LOAD_MASK q)))).filterMap (s.slotFor q)
    let s := slots.foldl (fun s t => if s.slotState q t = slotLoading then s.setSlotState q t slotIdle else s) s
    match s.kernelImage (s.rd (QUILL_LOAD_SRC q)) with
    | (.ok (id, ws), s) => .next (slots.foldl (fun s t => s.loadCode q t ws) (s.wr (QUILL_LOAD_INFO q) id))
    | (.error r, s) =>
      let s := slots.foldl (fun s t => s.wr (QUILL_SLOT_STATUS_IMAGE_VALID q t) 0) s
      .next ((s.set1 (QUILL_STATUS_LOAD_ERR q)).fault (srcQuill q) 0x4010 (slot1 q ++ slot1 r))

/-! ### Sparing (R295 to R298) -/

/-- The spare slot, when it is SPARE_READY. -/
def State.readySpare (s : State) (q : Nat) : Option Nat :=
  let t := s.rd (QUILL_STATUS_SPARE_SLOT q)
  if t < 17 && s.slotState q t == slotSpareReady then some t else none

/-- The spare takes the code image from LOAD_SRC (R296). [DEDUCED, log 85] -/
def State.spareCode (s : State) (q t : Nat) : State :=
  match s.kernelImage (s.rd (QUILL_LOAD_SRC q)) with
  | (.ok (_, ws), s) => s.loadCode q t ws
  | (.error _, s) => s

/-- The rows of a job's windows in one nib's local memory. -/
def State.windowMem (s : State) (q j : Nat) (m : Memory) : Memory :=
  m.filter (fun e => (s.winsOn q j).any (fun w =>
    decide (s.winBase q j w ≤ e.1) && decide (e.1 < s.winBase q j w + s.winRows q j w * s.pitchOf q j w)))

/-- Key of a quill's handover among the conditions of R438. -/
def degradeQuill (q : Nat) : Nat := 0x4000 + q

/-- The spare takes over from a failed nib of job j (R296). -/
def State.beginSpare (s : State) (q t sp j : Nat) (readable : Bool) : State :=
  let l := s.roleOf q t
  let old := s.nib q t
  let s := (s.wr (QUILL_SLOT_STATUS_ROLE q sp) l).wr (QUILL_SLOT_STATUS_ROLE q t) 31
  let s := s.wr (QUILL_STATUS_SPARE_SLOT q) 31
  let s := s.spareCode q sp
  let n := s.nib q sp
  let s := s.setNib q sp { n with
    mem := if readable then s.windowMem q j old.mem else []
    next := old.next, retired := old.retired, fill := old.fill, prev := old.prev, skipped := old.skipped
    behalf := !readable, lost := old.lost, resume := false, restart := true }
  let s := s.setNib q t { old with lost := none, behalf := false, next := none, retired := none }
  let u := s.quillAt q
  let s := s.setQuill q { u with hand := some ⟨t, sp, l, false, s.now, readable⟩ }
  let s := s.wr (QUILL_SLOT_STATUS_JOB q sp) j
  (s.startInit q sp j true).beginDegrade (degradeQuill q)

/-- The nib in a slot fails (R295, R296, R298). -/
def State.nibFails (s : State) (q t : Nat) (readable : Bool) : State :=
  let job := s.jobOfSlot q t
  let spare := s.roleOf q t == 16
  let n := s.nib q t
  let next := n.current
  match job, s.readySpare q with
  | some j, some sp =>
    if s.on (QUILL_CTRL_SPARE_AUTO q) then
      let s := s.endRun' q t
      let m := s.nib q t
      let s := (s.setNib q t { m with next := next }).setSlotState q t slotFailed
      s.beginSpare q t sp j readable
    else ((s.nibStops q t).setSlotState q t slotFailed).recheck
  | some _, none =>
    (((s.nibStops q t).setSlotState q t slotFailed).fault (srcQuill q) 0x4021 (slot1 q ++ slot1 t)).recheck
  | none, _ =>
    let s := s.setSlotState q t slotFailed
    if spare then s.wr (QUILL_STATUS_SPARE_SLOT q) 31
    else if (s.readySpare q).isNone then s.fault (srcQuill q) 0x4021 (slot1 q ++ slot1 t) else s

/-- A planned swap is requested for the nib in a slot (R297). [DEDUCED, log 81] -/
def State.spareNow (s : State) (q t : Nat) : State :=
  match s.jobOfSlot q t, s.readySpare q with
  | some j, some sp =>
    if (s.quillAt q).hand.isSome || s.slotState q t == slotFailed || (s.job q j).l0.isNone then s
    else
      let s := s.spareCode q sp
      let n := s.nib q sp
      let fill := (s.winsOn q j).foldl (fun m w =>
        spSet (fun _ => 0) m w ((s.newestRow (s.winSrc q j w)).getD (-1) + 1)) []
      let first := (if s.jobCoarse q j then (s.stitch.coarse.head?).map (·.line) else (s.stitch.fine.head?).map (·.line)).getD (-1) + 1
      let s := s.setNib q sp { n with
        mem := [], fill := fill, next := some first, behalf := false, resume := false, restart := true, lost := none }
      let u := s.quillAt q
      let s := s.setQuill q { u with hand := some ⟨t, sp, s.roleOf q t, true, s.now, true⟩ }
      s.startInit q sp j true
  | _, _ => s

/-- SPARE_NOW (R297). -/
def execSpareNow (q : Fin 12) (t : Fin 17) (s : State) : Host.Outcome State Fault Refusal := .next (s.spareNow q t)

/-- NIB_SRAM (R292, R295, R455): memory `mem` (0 code, 1 local, 2 registers, 3 quill) of the nib in a slot
reports a corrected error (kind 0) or an uncorrectable one (1), or the self test fails (2). `readable`
says whether its local memory can still be read. [DEDUCED, log 84] -/
def execNibSram (q : Fin 12) (t : Fin 17) (kind : Fin 3) (mem : Fin 4) (readable : Bool) (s : State) :
    Host.Outcome State Fault Refusal :=
  let slots (u : Nat) : List Nat := slot1 q.val ++ slot1 t.val ++ slot1 u ++ slot1 mem.val
  match kind.val with
  | 0 =>
    let s := (s.set1 (QUILL_STATUS_SRAM_CORR q)).fault (srcQuill q) 0x4011 (slots 0)
    if mem.val = 3 then .next s
    else
      let s := (s.set1 (QUILL_SLOT_STATUS_SRAM_CORR q t)).bump (QUILL_SLOT_CORR_COUNT q t)
      let n := s.nib q t
      let at_ := s.now :: n.ceAt.filter (fun x => decide (s.now < x + ticksPerHour))
      let s := s.setNib q t { n with ceAt := at_ }
      let lim := s.rd TOP_WEAR_NIB_CE
      .next (if lim != 0 && decide (lim ≤ at_.length) then s.spareNow q t else s)
  | 1 =>
    if mem.val = 3 then
      let n := s.nib q t
      if n.run.isNone then .next (s.fault (srcQuill q) 0x4011 (slots 1))
      else
        let n := match decodeNib (s.nibWord q t) with
          | some (.lw d _ _) => n.putS d 0 0
          | some (.lhu d _ _) => n.putS d 0 0
          | some (.vld d _ _) => n.putV d (List.replicate 64 0) 0
          | some (.vldm d _ _) => n.putM (d.val + 1) 0 0
          | _ => n
        let s := (s.setNib q t n).fault (srcQuill q) 0x4011 (slots 1)
        let s := ((s.wr (QUILL_SLOT_FAULT_CODE q t) 0x4011).bumpSat (QUILL_SLOT_FAULT_COUNT q t)).wr
          (QUILL_SLOT_FAULT_PC q t) n.pc
        let s := (s.bump (QUILL_JOB_FAULTS q n.job)).nibStops q t
        let again := match n.run with
          | some (.init a) => a
          | _ => false
        .next (if s.rd (QUILL_JOB_CTRL_FAULT_POLICY q n.job) = 0 && !again then s.nibRestart q t
          else s.setSlotState q t slotStopped)
    else
      let s := (s.set1 (QUILL_SLOT_STATUS_SRAM_UNCORR q t)).fault (srcQuill q) 0x4011 (slots 1)
      .next (s.nibFails q t readable)
  | _ => .next ((s.fault (srcQuill q) 0x4022 (slot1 q.val ++ slot1 t.val)).nibFails q t readable)

/-- The fault 0x4020 of a completed handover. -/
def State.recordSpared (s : State) (q : Nat) (h : Handover) : State :=
  s.fault (srcQuill q) 0x4020 (slot1 q ++ slot1 h.from_ ++ slot1 h.to_
    ++ slot1 ((s.now - h.since) / ticksPerUs) ++ slot1 (b2n h.planned))

/-- NIB_SPARED (R296): the INIT run of the spare has ended, and it resumes at the lowest line for which
every window still holds its lines. -/
def execNibSpared (q : Fin 12) (s : State) : Host.Outcome State Fault Refusal :=
  match (s.quillAt q).hand with
  | none => .next s
  | some h =>
    let n := s.nib q h.to_
    if h.planned || n.run.isSome || n.resume || (!h.copied && n.behalf) then .next s
    else
      match s.jobOfNib q h.logical with
      | none =>
        let u := s.quillAt q
        .next ((s.setQuill q { u with hand := none }).endDegrade (degradeQuill q))
      | some j =>
        let s :=
          if h.copied then
            let first := n.next.getD 0
            let r := (s.winsOn q j).foldl (fun (m : Int) w =>
              let lo := spGet (fun _ => 0) n.fill w - s.winRows q j w + s.winHist q j w
              max m (if s.winSrc q j w = 6 then 64 * lo else lo)) first
            let s := if first < r then (s.retireBehalf q j h.to_ (r - 1) (s.mode != 11)) else s
            let s := s.endLost q h.to_
            let n := s.nib q h.to_
            (s.setNib q h.to_ { n with next := some r, retired := some (r - 1) }).updRetired q j
          else s
        let s := s.setSlotState q h.to_ slotIdle
        let u := s.quillAt q
        let s := (s.setQuill q { u with hand := none }).recordSpared q h
        .next (s.endDegrade (degradeQuill q))

/-- PLANNED_NIB_TAKEOVER (R297): after ROWS lines the spare takes over at the next line that the old nib
has not started. [DEDUCED, log 81; DEDUCED, log 82] -/
def execPlannedNibTakeover (q : Fin 12) (s : State) : Host.Outcome State Fault Refusal :=
  match (s.quillAt q).hand with
  | none => .next s
  | some h =>
    let old := s.nib q h.from_
    let n := s.nib q h.to_
    match s.jobOfSlot q h.from_, old.next with
    | some j, some l =>
      let full := (s.winsOn q j).all (fun w =>
        let src := s.winSrc q j w
        decide (winIndex src (n.next.getD 0) + s.winRows q j w ≤ spGet (fun _ => 0) n.fill w)
          && decide (winIndex src (n.next.getD 0) ≤ winIndex src l - s.winHist q j w))
      if !h.planned || n.run.isSome || old.run.isSome || !full then .next s
      else
        let s := (s.wr (QUILL_SLOT_STATUS_ROLE q h.to_) h.logical).wr (QUILL_SLOT_STATUS_ROLE q h.from_) 31
        let s := (s.wr (QUILL_STATUS_SPARE_SLOT q) 31).wr (QUILL_SLOT_STATUS_JOB q h.to_) j
        let s := (s.setSlotState q h.to_ slotIdle).setSlotState q h.from_ slotOff
        let n := s.nib q h.to_
        let s := s.setNib q h.to_ { n with next := some l, retired := old.retired, prev := old.prev, skipped := old.skipped }
        let s := s.setNib q h.from_ { old with next := none, retired := none }
        let u := s.quillAt q
        .next ((s.setQuill q { u with hand := none }).recordSpared q h)
    | _, _ => .next s

/-! ### Resets and events (R302, R303) -/

/-- Consumer input QEVq fires (R303, R347): bit 0 of EVFLAG and the hop count are set in every logical
nib of the quill whose bit is clear. Answers whether a nib had it set already. [DEDUCED, log 103] -/
def State.quillEvent (s : State) (q hop : Nat) : Bool × State :=
  (List.range 17).foldl (fun (a : Bool × State) t =>
    let n := a.2.nib q t
    if !decide (a.2.roleOf q t < 16) then a
    else if n.ev.isSome then (true, a.2)
    else (a.1, a.2.setNib q t { n with ev := some hop })) (false, s)

/-- A WARM or BLOCK reset of a quill (R302): nibs stop, EN of every job, local memory, registers, feature
queue and status clear. -/
def State.quillReset (s : State) (q : Nat) : State :=
  let u := s.quillAt q
  let nibs := u.nibs.filterMap (fun e =>
    let n : Nib := { code := e.2.code, words := e.2.words }
    if n = {} then none else some (e.1, n))
  let failed := (List.range 17).filter (fun t => s.slotState q t == slotFailed)
  let s := s.resetRegs keptWarm (0x400000 + 0x40000 * q) (0x440000 + 0x40000 * q)
  let s := s.setQuill q { mem := u.mem, nibs := nibs }
  let s := failed.foldl (fun s t => s.setSlotState q t slotFailed) s
  { s with scores := s.scores.filter (fun r => r.q != q) }

end Sys2Proof.Machine
end

