-- ==== Sys2Proof/Machine/Event.lean ====
section
/-! DEFINITION. The event router: one hop, gates, consumers and event pins (chapter 11). -/

namespace Sys2Proof.Machine

open Sys2Proof

/-! ### One hop (R343 to R345) -/

/-- The level of a channel's gate (R345). -/
def State.gateOpen (s : State) (c : Nat) : Bool :=
  let level :=
    match s.rd (EVENT_CH_CTRL_GATE c) with
    | 0 => true
    | 1 => s.pinLevel (s.rd (EVENT_CH_CTRL_GATE_PIN c))
    | 2 => bitAt (s.rd (EVENT_CH_GATE_MODES c)) s.mode
    | 3 => s.on (EVENT_CH_CTRL_GATE_SOFT c)
    | _ => !s.on TIMELINE_STATUS_WEB_STOPPED
  level != s.on (EVENT_CH_CTRL_GATE_INV c)

/-- ANY_LOOP and ANY_OVERRUN (EVENT_STATUS). -/
def State.evShow (s : State) : State :=
  let anyOver := (List.range 158).any (fun i => s.on (EVENT_CONS_STATUS_OVERRUN i))
  (s.wr EVENT_STATUS_ANY_LOOP (b2n (s.on EVENT_LOOP))).wr EVENT_STATUS_ANY_OVERRUN (b2n anyOver)

/-- The first tick in which an occurrence may enter (R343). [DEDUCED, log 103] -/
def Occurrence.entry (o : Occurrence) : Nat := if o.producer = 252 then o.tick else o.tick + 1

/-- An event of a channel in its router tick (R344, R351). [DEDUCED, log 103; DESIGN CHOICE, log 166] -/
def State.routeEvent (s : State) (c : Nat) (os : List Occurrence) : State :=
  let hop := os.foldl (fun (m : Nat) (o : Occurrence) => max m o.hop) 0
  if 8 ≤ hop + 1 then
    let was := s.on ⟨EVENT_LOOP.off, c, 1⟩
    let s := ((s.set1 ⟨EVENT_LOOP.off, c, 1⟩).bumpSat (EVENT_CH_DROPPED_LOOPED c)).evShow
    let oldest := match os with
      | o :: _ => o.producer
      | [] => 0
    if was then s else s.fault srcEvent 0x7040 (slot1 c ++ slot1 hop ++ slot1 oldest)
  else if !s.gateOpen c then s.bumpSat (EVENT_CH_DROPPED_GATED c)
  else
    let was := s.on ⟨EVENT_FLAGS.off, c, 1⟩ || spGet (fun _ => 0) s.ev.flagCleared c == s.now + 1
    let s := (s.set1 ⟨EVENT_FLAGS.off, c, 1⟩).bump (EVENT_CH_COUNT c)
    let s := if !was && s.on (EVENT_CH_CTRL_IRQ_EN c) then s.msix (s.rd (EVENT_CH_CTRL_VECTOR c)) else s
    let f : EventFlight :=
      { channel := c, hop := hop + 1, coincident := decide (1 < os.length), deliver := s.now + 3 }
    { s with ev := { s.ev with
      flight := s.ev.flight ++ [f], flagSet := spSet (fun _ => 0) s.ev.flagSet c (s.now + 1) } }

/-- The occurrences of a channel that enter in the earliest tick that has come. -/
def State.entering (s : State) (c : Nat) : List Occurrence :=
  let mine := s.ev.waiting.filter (fun (o : Occurrence) => o.channel == c && decide (o.entry ≤ s.now))
  match mine with
  | [] => []
  | o :: os =>
    let t := os.foldl (fun (m : Nat) (p : Occurrence) => min m p.entry) o.entry
    mine.filter (fun (p : Occurrence) => p.entry == t)

/-- EVENT_ENTER (R343, R344): the occurrences that enter a channel in one router tick form an event. -/
def execEventEnter (c : Fin 64) (s : State) : Host.Outcome State Fault Refusal :=
  match s.entering c.val with
  | [] => .next s
  | o :: os =>
    let t := o.entry
    let s := { s with ev := { s.ev with
      waiting := s.ev.waiting.filter (fun (p : Occurrence) => !(p.channel == c.val && p.entry == t)) } }
    .next (s.routeEvent c.val (o :: os))

/-! ### Event pins (R348 to R350) -/

/-- The level at pin n's ball as an output (R349, R350, R516). -/
def State.eventPin (s : State) (n : Nat) : PinLevel :=
  if s.webOff || !s.on (EVENT_PIN_CTRL_DIR n) || !s.on (EVENT_PIN_CTRL_OE n) then .highZ
  else if s.pinActive n == s.on (EVENT_PIN_CTRL_POLARITY n) then .high else .low

/-- A pulse of pin n ends (R349, R350). -/
def State.pinPulseEnd (s : State) (n : Nat) : State :=
  { s with ev := { s.ev with
    pulseFrom := spSet (fun _ => 0) s.ev.pulseFrom n 0, pulseUntil := spSet (fun _ => 0) s.ev.pulseUntil n 0 } }

/-- Consumer input n drives pin n (R349): a pulse starts in the tick after delivery. Answers whether the event was
lost. -/
def State.pinEvent (s : State) (n : Nat) : Bool × State :=
  if !s.on (EVENT_PIN_CTRL_DIR n) then (false, s)
  else if s.on (EVENT_PIN_CTRL_OUT_MODE n) then
    let t := spGet (fun _ => 0) s.ev.toggled n
    (false, { s with ev := { s.ev with toggled := spSet (fun _ => 0) s.ev.toggled n (1 - t) } })
  else if s.now < spGet (fun _ => 0) s.ev.pulseUntil n then (true, s)
  else
    let start := s.now + 1
    (false, { s with ev := { s.ev with
      pulseFrom := spSet (fun _ => 0) s.ev.pulseFrom n start
      pulseUntil := spSet (fun _ => 0) s.ev.pulseUntil n (start + s.rd (EVENT_PIN_WIDTH n)) } })

/-- EVENT_PIN_EDGE (R348): the level of pin n has been stable for FILTER ticks. [DESIGN CHOICE, log 165] -/
def execEventPinEdge (n : Fin 16) (level : Bool) (s : State) : Host.Outcome State Fault Refusal :=
  let n := n.val
  let f : Fld := ⟨EVENT_PINLVL.off, n, 1⟩
  if s.on (EVENT_PIN_CTRL_DIR n) || s.on f == level then .next s
  else
    let s := s.wr f (b2n level)
    let edge := s.rd (EVENT_PIN_CTRL_EDGE n)
    if s.on (EVENT_PIN_CTRL_IN_EN n) && (edge == 2 || edge == b2n (!level)) then
      .next (s.occurOn 251 (s.rd (EVENT_PIN_CTRL_CHANNEL n)) 0)
    else .next s

/-- EVENT_PIN_PULSE_END (R349): WIDTH ticks after it began, a pulse ends. -/
def execEventPinPulseEnd (n : Fin 16) (s : State) : Host.Outcome State Fault Refusal :=
  let t := spGet (fun _ => 0) s.ev.pulseUntil n.val
  if t != 0 && decide (t ≤ s.now) then .next (s.pinPulseEnd n.val) else .next s

/-! ### Consumers (R346, R347) -/

/-- What a delivered event does at consumer input i; answers whether it was lost there (R346). -/
def State.consume (s : State) (i hop : Nat) (coincident : Bool) : Bool × State :=
  if i < 16 then s.pinEvent i
  else if i < 24 then s.qEvent (i - 16) hop coincident
  else if i < 56 then s.dEvent (i - 24) hop coincident
  else if i < 68 then s.quillEvent (i - 56) hop
  else if i < 84 then (false, s.profSync (i - 68) (s.line + 1))
  else if i = 84 then (s.sens.start.isSome, s.sensorEvent)
  else if i = 85 then (false, s.crossLatch)
  else if i < 150 then (false, s.compareEnable (i - 86))
  else if i < 158 then (false, s.strokeEnable (i - 150))
  else (false, s)

/-- SCR_EV, DMA_EV and SN_START set flags of their own, and the router records no fault (R347). -/
def quietInput (i : Nat) : Bool := (decide (16 ≤ i) && decide (i < 56)) || i == 84

/-- An event arrives at consumer input i (R346, R347). [DEDUCED, log 103] -/
def State.deliverAt (s : State) (f : EventFlight) (i : Nat) : State :=
  if !(s.on (EVENT_CONS_CFG_EN i) && s.rd (EVENT_CONS_CFG_CHANNEL i) == f.channel) then s
  else
    let s := if f.coincident then s.set1 (EVENT_CONS_STATUS_COINCIDENT i) else s
    let r := s.consume i f.hop f.coincident
    let s := r.2
    if !r.1 then s
    else
      let was := s.on (EVENT_CONS_STATUS_OVERRUN i)
      let s := (s.set1 (EVENT_CONS_STATUS_OVERRUN i)).bumpSat (EVENT_CONS_STATUS_OVERRUNS i)
      if was || quietInput i then s else s.fault srcEvent 0x7041 (slot1 i ++ slot1 f.channel)

/-- EVENT_DELIVER (R346, R347): the oldest event of a channel whose delivery tick has come reaches every
enabled consumer input of the channel. -/
def execEventDeliver (c : Fin 64) (s : State) : Host.Outcome State Fault Refusal :=
  match s.ev.flight.find? (fun (f : EventFlight) => f.channel == c.val && decide (f.deliver ≤ s.now)) with
  | none => .next s
  | some f =>
    let s := { s with ev := { s.ev with flight := s.ev.flight.erase f } }
    .next ((List.range 158).foldl (fun s i => s.deliverAt f i) s).evShow

/-- A write of EVENT_SOFT (R352): an occurrence of producer 252 on every channel it names. [DEDUCED, log 104] -/
def State.eventSoft (s : State) (mask : Nat) : State :=
  (List.range 64).foldl (fun s c => if bitAt mask c then s.occurOn 252 c 0 else s) s

/-- EVENT_SOFT (R352). -/
def execEventSoft (mask : BitVec 64) (s : State) : Host.Outcome State Fault Refusal :=
  .next (s.eventSoft mask.toNat)

/-- A write of EVENT_FLAGS clears the bits it names but for those that an event has set in this tick (R13,
R351). [DESIGN CHOICE, log 166] -/
def State.writeFlags (s : State) (v : Nat) : State :=
  (List.range 64).foldl (fun s c =>
    let f : Fld := ⟨EVENT_FLAGS.off, c, 1⟩
    if bitAt v c && s.on f && spGet (fun _ => 0) s.ev.flagSet c != s.now + 1 then
      let s := s.wr f 0
      { s with ev := { s.ev with flagCleared := spSet (fun _ => 0) s.ev.flagCleared c (s.now + 1) } }
    else s) s

/-- A reset of the router (R353): events in flight, flags, counters, pulses and OE go. -/
def State.eventReset (s : State) : State :=
  { s.resetRegs keptWarm 0x30000 0x40000 with ev := {} }

end Sys2Proof.Machine
end

