-- ==== Sys2Proof/Machine/Net.lean ====
section
/-! DEFINITION. Network time and the Ethernet ports (chapter 13). -/

namespace Sys2Proof.Machine

open Sys2Proof

/-! ### The PTP counter (R394 to R396) -/

/-- The 48-bit PTP time. -/
def State.ptp (s : State) : Nat := s.net.ptpNs + s.net.ptpWrap * 2 ^ 32

/-- The counter in 2^-24 ns, modulo 2^72. -/
def State.counter (s : State) : Nat := s.ptp * 2 ^ 24 + s.net.ptpFrac

/-- The counter takes a value. -/
def State.setCounter (s : State) (c : Nat) : State :=
  let t := c / 2 ^ 24 % 2 ^ 48
  let s := { s with net := { s.net with
    ptpFrac := c % 2 ^ 24, ptpNs := t % 2 ^ 32, ptpWrap := t / 2 ^ 32 } }
  s.wr NET_PTP_NOW t

/-- Is a target ahead of a time: T − time, modulo 2^48, from 1 to 2^47 − 1 (R318)? -/
def aheadOf (target time : Nat) : Bool :=
  let d := (target + 2 ^ 48 - time % 2 ^ 48) % 2 ^ 48
  decide (1 ≤ d) && decide (d < 2 ^ 47)

/-- The target of time compare u is ahead of the present time. -/
def State.tcAhead (s : State) (u : Nat) : Bool := aheadOf (s.rd (NET_TCMP_TARGET u)) s.ptp

def State.setAhead (s : State) (u : Nat) (b : Bool) : State :=
  { s with net := { s.net with ahead := spSet (fun _ => 0) s.net.ahead u (b2n b) } }

/-- Units whose target is ahead in this tick will fire when it no longer is (R403, R405). -/
def State.noteAhead (s : State) : State :=
  (List.range 8).foldl (fun s u =>
    if s.on (NET_TCMP_CTRL_ENABLE u) && s.tcAhead u then s.setAhead u true else s) s

/-- The effective increment in 2^-24 ns (R394). -/
def State.effIncr (s : State) : Int :=
  (s.rd NET_PTP_INCR : Int) + (if s.on NET_CTRL_TCORR_EN then s.rdS NET_PTP_TCORR else 0)

/-- A change of the PTP time by SET or ADJ is recorded with the times before and after (R396). -/
def State.timeChanged (s : State) (before after : Nat) : State :=
  s.fault srcNet 0x9110 (slot2 before ++ slot2 after)

/-- One PTP tick: a SET that waits loads the counter, else it advances; then an ADJ that waits is added
(R394, R396). [DEDUCED, log 116] -/
def State.ptpTick (s : State) : State :=
  let before := s.ptp
  let s :=
    match s.net.setTo with
    | some t =>
      let s := s.setCounter (t % 2 ^ 48 * 2 ^ 24)
      (({ s with net := { s.net with setTo := none } }).timeChanged before (t % 2 ^ 48))
    | none => s.setCounter ((((s.counter : Int) + s.effIncr) % (2 : Int) ^ 72).toNat)
  let s :=
    match s.net.adjBy with
    | some d =>
      let was := s.ptp
      let t := (((was : Int) + d) % (2 : Int) ^ 48).toNat
      let s := s.setCounter (t * 2 ^ 24 + s.net.ptpFrac)
      (({ s with net := { s.net with adjBy := none } }).timeChanged was t)
    | none => s
  s.noteAhead

/-- PTP_COUNTER_TICK (R394). -/
def execPtpCounterTick (s : State) : Host.Outcome State Fault Refusal := .next s.ptpTick

/-- A rejected write of the NET block (R12). -/
def State.netReject (s : State) (off v : Nat) : State := s.reject NET_STATUS_CFG_REJECT srcNet off v

/-- A write of NET_PTP_INCR (R395). -/
def State.ptpIncr (s : State) (v : Nat) : State :=
  if v < 0x01E00000 || 0x02200000 < v then s.netReject NET_PTP_INCR.off v else s.wr NET_PTP_INCR v

/-- PTP_INCR_WRITE (R395). -/
def execPtpIncrWrite (v : BitVec 32) (s : State) : Host.Outcome State Fault Refusal :=
  .next (s.ptpIncr v.toNat)

/-- A write of NET_PTP_SET_HI (R396). -/
def State.ptpSet (s : State) (v : Nat) : State :=
  { s with net := { s.net with setTo := some (v % 2 ^ 48) } }

/-- PTP_SET (R396). -/
def execPtpSet (v : BitVec 48) (s : State) : Host.Outcome State Fault Refusal := .next (s.ptpSet v.toNat)

/-- A write of NET_PTP_ADJ (R396). -/
def State.ptpAdj (s : State) (v : Nat) : State :=
  { s with net := { s.net with adjBy := some (signed 32 v + s.net.adjBy.getD 0) } }

/-- PTP_ADJ (R396). -/
def execPtpAdj (v : BitVec 32) (s : State) : Host.Outcome State Fault Refusal := .next (s.ptpAdj v.toNat)

/-- TCORR_STEP (R395): once in a millisecond the applied TCORR moves one unit toward its target. -/
def execTcorrStep (s : State) : Host.Outcome State Fault Refusal :=
  if s.now < s.net.tcorrAt + 1000 * ticksPerUs then .next s
  else
    let s := { s with net := { s.net with tcorrAt := s.now } }
    let goal := if s.on NET_CTRL_TCORR_EN then s.net.tcorrTo else 0
    let v := s.rdS NET_PTP_TCORR
    .next (s.wrS NET_PTP_TCORR (if v < goal then v + 1 else if goal < v then v - 1 else v))

/-- A write of TCORR_EN: 0 makes the applied correction 0 (R394). -/
def State.tcorrEn (s : State) (en : Bool) : State :=
  let s := s.wr NET_CTRL_TCORR_EN (b2n en)
  if en then s else s.wr NET_PTP_TCORR 0

/-! ### Time compares (R403 to R405) -/

/-- Target times after a firing with a period: the first one ahead, and the additions made. -/
def nextTarget (t period now : Nat) : Nat × Nat :=
  let t1 := (t + period) % 2 ^ 48
  if aheadOf t1 now then (t1, 1)
  else
    let behind := (now + 2 ^ 48 - t1) % 2 ^ 48
    let n := behind / period + 1
    ((t1 + n * period) % 2 ^ 48, n + 1)

/-- Unit u fires (R403, R405). -/
def State.tcFires (s : State) (u : Nat) : State :=
  let s := (s.set1 (NET_TCMP_STATUS_FIRED u)).wr (NET_TCMP_FIRE_TIME u) s.ptp
  let s := s.occurOn 252 (s.rd (NET_TCMP_CTRL_CHANNEL u)) 0
  let period := s.rd (NET_TCMP_PERIOD u)
  let s := s.setAhead u false
  let s := if period = 0 then s
    else
      let r := nextTarget (s.rd (NET_TCMP_TARGET u)) period s.ptp
      let s := (s.wr (NET_TCMP_TARGET u) r.1).setAhead u true
      if r.2 ≤ 1 then s
      else (s.bump (NET_TCMP_SKIPPED u) (r.2 - 1)).set1 (NET_TCMP_STATUS_COMPARE_MULTI u)
  if s.on (NET_TCMP_CTRL_SINGLE u) then s.wr (NET_TCMP_CTRL_ENABLE u) 0 else s

/-- TIME_COMPARE_FIRE (R403): the target of an enabled unit is no longer ahead. -/
def execTimeCompareFire (u : Fin 8) (s : State) : Host.Outcome State Fault Refusal :=
  let u := u.val
  if s.on (NET_TCMP_CTRL_ENABLE u) && spGet (fun _ => 0) s.net.ahead u == 1 && !s.tcAhead u then
    .next (s.tcFires u)
  else .next s

/-- The test of R404. -/
def State.tcTest (s : State) (u : Nat) : State :=
  if s.tcAhead u then s.setAhead u true
  else
    let s := s.setAhead u false
    if s.on (NET_TCMP_CTRL_LATE_FIRE u) then (s.set1 (NET_TCMP_STATUS_COMPARE_LATE u)).tcFires u
    else s.set1 (NET_TCMP_STATUS_COMPARE_BEHIND u)

/-- ENABLE becomes 1 (R404). -/
def State.tcEnable (s : State) (u : Nat) : State :=
  if s.on (NET_TCMP_CTRL_ENABLE u) then s else (s.set1 (NET_TCMP_CTRL_ENABLE u)).tcTest u

/-- A write of the TARGET pair takes effect (R404). -/
def State.tcTarget (s : State) (u v : Nat) : State :=
  let s := s.wr (NET_TCMP_TARGET u) v
  if s.on (NET_TCMP_CTRL_ENABLE u) then s.tcTest u else s

/-- TIME_COMPARE_ENABLE (R404): ENABLE becomes 1, or a target is written. -/
def execTimeCompareEnable (u : Fin 8) (target : Option (BitVec 48)) (s : State) :
    Host.Outcome State Fault Refusal :=
  match target with
  | none => .next (s.tcEnable u.val)
  | some t => .next (s.tcTarget u.val t.toNat)

/-! ### Ports, links and frames (R387 to R393) -/

def State.np (s : State) (e : Nat) : NetPort := spGet (fun _ => {}) s.net.ports e
def State.setNp (s : State) (e : Nat) (x : NetPort) : State :=
  { s with net := { s.net with ports := spSet (fun _ => {}) s.net.ports e x } }

/-- The port runs and its link is up. -/
def State.ethUp (s : State) (e : Nat) : Bool := s.on (NET_E_CTRL_EN e) && s.on (NET_E_STATUS_LINK e)

/-- ETH_LINK_DOWN (R390, R411). -/
def execEthLinkDown (e : Fin 2) (s : State) : Host.Outcome State Fault Refusal :=
  let e := e.val
  if !s.on (NET_E_STATUS_LINK e) then .next s
  else .next (((s.wr (NET_E_STATUS_LINK e) 0).set1 (NET_E_STATUS_LINK_LOST e)).fault srcNet 0x9101 (slot1 e))

/-- ETH_LINK_UP (R410). -/
def execEthLinkUp (e : Fin 2) (s : State) : Host.Outcome State Fault Refusal :=
  if s.on (NET_E_CTRL_EN e.val) then .next (s.set1 (NET_E_STATUS_LINK e.val)) else .next s

/-- The number in big-endian bytes of a frame. -/
def beNum (bs : List Nat) : Nat := bs.foldl (fun a b => a * 256 + b % 256) 0
/-- The `k` big-endian bytes of a number. -/
def beBytes (k n : Nat) : List Nat := (leBytes k n).reverse
def slice (bs : List Nat) (i n : Nat) : List Nat := (bs.drop i).take n

/-- Does a frame carry an IEEE 802.1Q tag? -/
def tagged (f : List Nat) : Bool := beNum (slice f 12 2) == 0x8100
/-- Offset of the EtherType, after at most one tag. -/
def typeOff (f : List Nat) : Nat := if tagged f then 16 else 12

/-- Where the PTP header of a frame would begin (R399). -/
def ptpOff (f : List Nat) : Option Nat :=
  let t := typeOff f
  let h := t + 2
  let ty := beNum (slice f t 2)
  if ty = 0x88F7 then some h
  else if ty = 0x0800 then
    if nth 0 f h = 0x45 && nth 0 f (h + 9) = 17 && beNum (slice f (h + 22) 2) == 319 then some (h + 28)
    else none
  else if ty = 0x86DD then
    if nth 0 f h / 16 = 6 && nth 0 f (h + 6) = 17 && beNum (slice f (h + 42) 2) == 319 then some (h + 48)
    else none
  else none

/-- The PTP header of a PTP event message (R399). -/
def ptpEvent (f : List Nat) : Option Nat :=
  match ptpOff f with
  | some o =>
    if decide (o + 34 ≤ f.length) && nth 0 f (o + 1) % 16 == 2 && decide (nth 0 f o % 16 ≤ 3) then some o
    else none
  | none => none

/-- A MAC control PAUSE frame (R387). -/
def isPause (f : List Nat) : Bool :=
  beNum (slice f 0 6) == 0x0180C2000001 && beNum (slice f 12 2) == 0x8808

/-- The message of a ring under the holdoff rule of R389: sent now, or owed at the end of HOLDOFF. -/
def holdMessage (now : Nat) (hold : Option Nat) : Bool :=
  match hold with
  | some t => decide (t ≤ now)
  | none => true

/-- A receive or transmit ring has moved its HEAD (R389). -/
def State.ringMessage (s : State) (e : Nat) (tx : Bool) : State :=
  let x := s.np e
  let till := s.now + s.rd (NET_E_IRQ_HOLDOFF e) * ticksPerUs
  if tx then
    if holdMessage s.now x.txHold then
      (s.setNp e { x with txHold := some till, txMoved := false }).msix (s.rd (NET_E_IRQ_TX_VECTOR e))
    else s.setNp e { x with txMoved := true }
  else
    if holdMessage s.now x.rxHold then
      (s.setNp e { x with rxHold := some till, rxMoved := false }).msix (s.rd (NET_E_IRQ_RX_VECTOR e))
    else s.setNp e { x with rxMoved := true }

/-- A ring or buffer access that fails or is refused stops the ring (R411). -/
def State.ringStop (s : State) (e : Nat) (tx : Bool) (addr : Nat) : State :=
  let x := s.np e
  let s := s.setNp e (if tx then { x with txStop := true } else { x with rxStop := true })
  (s.set1 (NET_E_STATUS_RING_ERR e)).fault srcNet 0x9107 (slot1 e ++ slot1 (b2n tx) ++ slot2 addr)

/-- The class under which DRAM serves Ethernet: as DMA. [PRESUMED, log 118] -/
def clsEth : Nat := clsDma

def State.ethRead (s : State) (e a n : Nat) (host : List Nat) : AccRes × State :=
  s.devRead (reqEth e) clsEth a n host

def State.ethWrite (s : State) (e a : Nat) (bs : List Nat) : AccRes × State :=
  s.devWrite (reqEth e) clsEth (s.rd (NET_E_HOST_BASE e)) a bs

/-- The bytes of an access that ended well, else the state in which the ring has stopped. -/
def State.orStop (r : AccRes × State) (e : Nat) (tx : Bool) (addr : Nat) : Except State (List Nat × State) :=
  match r.1 with
  | .ok bs => .ok (bs, r.2)
  | .failed bad => .error (r.2.ringStop e tx bad)
  | _ => .error (r.2.ringStop e tx addr)

/-! ### Reception (R388, R391, R392) -/

/-- A frame does not go to the receive ring (R391). [DEDUCED, log 117] -/
def State.rxDrop (s : State) (e : Nat) : State :=
  let x := s.np e
  let s := s.setNp e { x with rxRun := x.rxRun + 1 }
  let s := (s.bump (NET_E_RX_DROPPED e)).set1 (NET_E_STATUS_RX_DROP e)
  if x.rxRun = 0 then s.fault srcNet 0x9102 (slot1 e ++ slot1 1) else s

/-- A time with a signed latency in ns added (R398). -/
def withLatency (counter latency : Nat) : Nat :=
  (((counter : Int) + signed 16 latency * (2 : Int) ^ 24) % (2 : Int) ^ 72).toNat

/-- A frame goes to the buffer of the descriptor at HEAD (R389, R391). -/
def State.rxDeliver (s : State) (e : Nat) (f : List Nat) (ts : Nat) (host : List Nat) : State :=
  let depth := s.rd (NET_E_RX_RING_DEPTH e)
  let head := s.rd (NET_E_RX_HEAD e)
  let free := decide (2 ≤ depth) && head != s.rd (NET_E_RX_TAIL e) && !(s.np e).rxStop && !s.inSelfRefresh
  if !free || decide (s.rd (NET_E_RX_RING_BUF e) * 1024 < f.length) then s.rxDrop e
  else
    let d := s.rd (NET_E_RX_BASE e) + 32 * head
    let r := do
      let (desc, s) ← State.orStop (s.ethRead e d 32 host) e false d
      let buf := ofLeBytes (desc.take 8) % 2 ^ 44
      let (_, s) ← State.orStop (s.ethWrite e buf f) e false buf
      let stamp := s.on (NET_E_CTRL_TS_ALL e) || (ptpEvent f).isSome
      let flags := 1 + b2n stamp * 2 + b2n (ptpEvent f).isSome * 4 + b2n (tagged f) * 8
      let t := if stamp then ts / 2 ^ 24 % 2 ^ 48 else 0
      let back := leBytes 2 f.length ++ leBytes 2 flags ++ leBytes 4 0 ++ leBytes 6 t ++ leBytes 2 0
      State.orStop (s.ethWrite e (d + 8) back) e false (d + 8)
    match r with
    | .error s => s
    | .ok (_, s) =>
      let x := s.np e
      let s := s.setNp e { x with rxRun := 0 }
      let s := s.wr (NET_E_RX_HEAD e) (if head + 1 < depth then head + 1 else 0)
      s.ringMessage e false

/-- A frame enters the forwarding buffer of its port, 64 KiB (R392). [DEDUCED, log 117] -/
def State.fwdEnter (s : State) (e : Nat) (f : List Nat) (ts : Nat) : State :=
  let x := s.np e
  let held := x.fwd.foldl (fun (n : Nat) (g : FwdFrame) => n + g.bytes.length + 4) 0
  if held + f.length + 4 ≤ 65536 then s.setNp e { x with fwd := x.fwd ++ [⟨f, ts⟩], fwdRun := 0 }
  else
    let s := s.setNp e { x with fwdRun := x.fwdRun + 1 }
    let s := (s.bump (NET_E_FWD_DROPPED e)).set1 (NET_E_STATUS_FWD_DROP e)
    if x.fwdRun = 0 then s.fault srcNet 0x9104 (slot1 e ++ slot1 1) else s

/-- A frame received intact is accepted, forwarded or left (R388, R392).
[DEDUCED, log 117; PRESUMED, log 119] -/
def State.rxFrame (s : State) (e : Nat) (f : List Nat) (ts : Nat) (host : List Nat) : State :=
  let dst := beNum (slice f 0 6)
  let multi := nth 0 f 0 % 2 == 1
  let bcast := dst == 0xFFFFFFFFFFFF
  let mine := dst == s.rd (NET_E_MAC e)
  let s := s.bump (NET_E_RX_FRAMES e)
  if isPause f then s
  else
    let accept := mine || bcast || (multi && s.on (NET_E_CTRL_ALL_MULTI e)) || s.on (NET_E_CTRL_PROMISC e)
    let pass := s.on (NET_E_CTRL_PASS_EN 0) && s.on (NET_E_CTRL_PASS_EN 1)
    if pass && !multi && !mine then s.fwdEnter e f ts
    else
      let s := if pass && multi then s.fwdEnter e f ts else s
      if accept then s.rxDeliver e f ts host else s

/-- ETH_FRAME_RX (R388, R391, R392): a frame without its FCS arrives whole; `ingress` is the counter at
its timestamp point, in 2^-24 ns, and `host` what the host answers for a descriptor in host space. A
looped port takes the frame it has sent itself. -/
def execEthFrameRx (e : Fin 2) (frame : List (BitVec 8)) (fcsOk : Bool) (ingress : BitVec 72)
    (host : List (BitVec 8)) (s : State) : Host.Outcome State Fault Refusal :=
  let e := e.val
  let hostB := host.map (fun b => b.toNat)
  let ts := withLatency ingress.toNat (s.rd (NET_E_LATENCY_INGRESS_LAT e))
  if !s.ethUp e then .next s
  else if s.on (NET_E_CTRL_LOOPBACK e) then
    match (s.np e).looped with
    | [] => .next s
    | f :: rest => .next ((s.setNp e { s.np e with looped := rest }).rxFrame e f ts hostB)
  else
    let f := frame.map (fun b => b.toNat)
    if 9212 < f.length then .next (s.bump (NET_E_RX_TOO_LONG e))
    else if !fcsOk then .next (s.bump (NET_E_RX_FCS_ERR e))
    else if f.length < 60 then .next s
    else .next (s.rxFrame e f ts hostB)

/-! ### Transmission (R390, R393, R400, R401, R409) -/

/-- A frame leaves a port: padded to 60 bytes, with its FCS (R390). [DEDUCED, log 117] -/
def State.ethSend (s : State) (e : Nat) (f : List Nat) : State :=
  let f := if f.length < 60 then padTo 0 60 f else f
  let s := s.bump (NET_E_TX_FRAMES e)
  if s.on (NET_E_CTRL_LOOPBACK e) then
    let x := s.np e
    s.setNp e { x with looped := x.looped ++ [f] }
  else { s with out := { s.out with eth := s.out.eth ++ [(e, f ++ leBytes 4 (crc32 f))] } }

/-- Nanoseconds a frame takes on the line, preamble and FCS with it, rounded up. [DEDUCED, log 121] -/
def State.lineNs (s : State) (e len : Nat) : Nat :=
  let gbit := if s.rd (NET_E_CTRL_SPEED e) = 0 then 25 else 10
  (8 * (max 60 len + 12) + gbit - 1) / gbit

/-- The launch time of the descriptor that waits at HEAD, as it stands in memory. -/
def launchTime (desc : List Nat) : Nat := ofLeBytes (slice desc 16 6)

/-- From 2 µs before a launch time the port starts no frame that would still be sending at it (R409).
[DEDUCED, log 121] -/
def State.launchHolds (s : State) (e len : Nat) (host : List Nat) : Bool :=
  if !(s.np e).launch then false
  else
    let d := s.rd (NET_E_TX_BASE e) + 32 * s.rd (NET_E_TX_HEAD e)
    match (s.ethRead e d 32 host).1 with
    | .ok desc =>
      let t := launchTime desc
      let left := (t + 2 ^ 48 - s.ptp) % 2 ^ 48
      !aheadOf t s.ptp || (decide (left ≤ 2000) && decide (left < s.lineNs e len))
    | _ => false

/-- The descriptor at TX_HEAD completes: its last 8 bytes are written back and HEAD advances (R389). -/
def State.txDone (s : State) (e d : Nat) (ts : Option Nat) (status : Nat) : State :=
  let t := ts.getD 0
  let back := leBytes 6 t ++ [status, 0]
  match State.orStop (s.ethWrite e (d + 24) back) e true (d + 24) with
  | .error s => s
  | .ok (_, s) =>
    let depth := s.rd (NET_E_TX_RING e)
    let head := s.rd (NET_E_TX_HEAD e)
    let s := s.setNp e { s.np e with launch := false }
    let s := s.wr (NET_E_TX_HEAD e) (if head + 1 < depth then head + 1 else 0)
    s.ringMessage e true

/-- The egress timestamp of a frame that leaves now (R398). -/
def State.egressTime (s : State) (e : Nat) : Nat :=
  withLatency s.counter (s.rd (NET_E_LATENCY_EGRESS_LAT e))

/-- The transmit ring of a port is enabled and holds a descriptor (R389). -/
def State.txReady (s : State) (e : Nat) : Bool :=
  s.on (NET_E_CTRL_EN e) && decide (2 ≤ s.rd (NET_E_TX_RING e)) && !(s.np e).txStop
    && s.rd (NET_E_TX_HEAD e) != s.rd (NET_E_TX_TAIL e) && !s.inSelfRefresh

/-- The frame of a transmit descriptor is sent (R390), late or not (R409). [DEDUCED, log 122] -/
def State.txSend (s : State) (e d : Nat) (desc host : List Nat) (late : Bool) : State :=
  let len := ofLeBytes (slice desc 8 2)
  let flags := ofLeBytes (slice desc 10 2)
  let buf := ofLeBytes (desc.take 8) % 2 ^ 44
  match State.orStop (s.ethRead e buf len host) e true buf with
  | .error s => s
  | .ok (f, s) =>
    let ts := s.egressTime e / 2 ^ 24 % 2 ^ 48
    let req := flags % 2 == 1
    let s := s.ethSend e f
    let s := if late then
        (s.set1 NET_STATUS_LAUNCH_LATE).fault srcNet 0x9106 (slot1 e ++ slot1 (launchTime desc) ++ slot1 s.net.ptpNs)
      else s
    s.txDone e d (if req then some ts else none) (1 + b2n req * 2 + b2n late * 4)

/-- ETH_FRAME_TX (R390, R409): the descriptor at TX_HEAD; `host` is what the host answers for the
descriptor and for the buffer, as far as they lie in host space. -/
def execEthFrameTx (e : Fin 2) (desc buffer : List (BitVec 8)) (s : State) :
    Host.Outcome State Fault Refusal :=
  let e := e.val
  if !s.txReady e || (s.np e).launch then .next s
  else
    let d := s.rd (NET_E_TX_BASE e) + 32 * s.rd (NET_E_TX_HEAD e)
    match State.orStop (s.ethRead e d 32 (desc.map (fun b => b.toNat))) e true d with
    | .error s => .next s
    | .ok (ds, s) =>
      let len := ofLeBytes (slice ds 8 2)
      let launch := bitAt (ofLeBytes (slice ds 10 2)) 1
      if len < 14 || 9212 < len then
        let s := s.fault srcNet 0x9103 (slot1 e ++ slot1 (s.rd (NET_E_TX_HEAD e)) ++ slot1 len)
        .next (s.txDone e d none 9)
      else if !s.on (NET_E_STATUS_LINK e) then .next (s.txDone e d none 9)
      else if launch && aheadOf (launchTime ds) s.ptp then
        .next (s.setNp e { s.np e with launch := true })
      else .next (s.txSend e d ds (buffer.map (fun b => b.toNat)) launch)

/-- LAUNCH_TIME_REACHED (R409): the launch time of the descriptor that waits at HEAD has come. -/
def execLaunchTimeReached (e : Fin 2) (desc buffer : List (BitVec 8)) (s : State) :
    Host.Outcome State Fault Refusal :=
  let e := e.val
  if !s.txReady e || !(s.np e).launch then .next s
  else
    let d := s.rd (NET_E_TX_BASE e) + 32 * s.rd (NET_E_TX_HEAD e)
    match State.orStop (s.ethRead e d 32 (desc.map (fun b => b.toNat))) e true d with
    | .error s => .next s
    | .ok (ds, s) =>
      if !s.on (NET_E_STATUS_LINK e) then .next (s.txDone e d none 9)
      else if aheadOf (launchTime ds) s.ptp then .next s
      else .next (s.txSend e d ds (buffer.map (fun b => b.toNat)) false)

/-- ETH_TAIL_WRITE (R389): a write of a ring TAIL. -/
def execEthTailWrite (e : Fin 2) (tx : Bool) (v : BitVec 16) (s : State) :
    Host.Outcome State Fault Refusal :=
  .next (s.wr (if tx then NET_E_TX_TAIL e.val else NET_E_RX_TAIL e.val) v.toNat)

/-- A 16-bit ones' complement sum. -/
def onesSum (ws : List Nat) : Nat :=
  ws.foldl (fun a w => let t := a + w % 65536; t % 65536 + t / 65536) 0

/-- The 16-bit big-endian words of bytes; a last odd byte is followed by 0. -/
def beWords : List Nat → List Nat
  | [] => []
  | [a] => [a % 256 * 256]
  | a :: b :: rest => (a % 256 * 256 + b % 256) :: beWords rest

/-- The Internet checksum of bytes. -/
def inetSum (bs : List Nat) : Nat := 65535 - onesSum (beWords bs)

/-- Bytes of a frame replaced from an offset on. -/
def patch (f : List Nat) (o : Nat) (bs : List Nat) : List Nat := f.take o ++ bs ++ f.drop (o + bs.length)

/-- A UDP checksum after words of its datagram have changed: HC' = ~(~HC + ~m + m') (R400). -/
def sumUpdate (hc : Nat) (old new : List Nat) : Nat :=
  65535 - onesSum ((65535 - hc) :: ((beWords old).map (fun w => 65535 - w) ++ beWords new))

/-- The frame with its UDP checksum updated for a changed correctionField (R400). -/
def fixUdp (f : List Nat) (old new : List Nat) : List Nat :=
  let h := typeOff f + 2
  let ty := beNum (slice f (typeOff f) 2)
  if ty = 0x0800 then
    let o := h + 26
    let hc := beNum (slice f o 2)
    if hc = 0 then f else patch f o (beBytes 2 (sumUpdate hc old new))
  else if ty = 0x86DD then
    let o := h + 46
    patch f o (beBytes 2 (sumUpdate (beNum (slice f o 2)) old new))
  else f

/-- The residence time in 2^-16 ns (R401). -/
def residence (egress ingress : Nat) : Int := floorShift (signed 72 (egress + 2 ^ 72 - ingress)) 8

/-- A forwarded frame as it leaves, with its correctionField corrected when it is a PTP event message
(R400, R401). -/
def State.corrected (s : State) (e : Nat) (g : FwdFrame) : List Nat × State :=
  match ptpEvent g.bytes with
  | some o =>
    if !s.on (NET_E_CTRL_TC_EN e) then (g.bytes, s)
    else
      let old := slice g.bytes (o + 8) 8
      let sum := signed 64 (beNum old) + residence (s.egressTime e) g.ingress
      let tooBig := decide ((2 : Int) ^ 63 ≤ sum)
      let new := beBytes 8 (if tooBig then 2 ^ 63 - 1 else toBits 64 sum)
      let s := s.bump (NET_E_TC_CORRECTED e)
      let s := if tooBig then
          (s.set1 NET_STATUS_TC_SAT).fault srcNet 0x9111 (slot1 e ++ slot1 (nth 0 g.bytes o % 16))
        else s
      (fixUdp (patch g.bytes (o + 8) new) old new, s)
  | none => (g.bytes, s)

/-- The frame that leaves next among forwarded ones: PTP event messages first (R393). -/
def nextFwd (q : List FwdFrame) : Option FwdFrame :=
  match q.find? (fun (g : FwdFrame) => (ptpEvent g.bytes).isSome) with
  | some g => some g
  | none => q.head?

/-- FORWARD_SEND (R392, R393, R400): a frame received on the other port leaves port e. -/
def execForwardSend (e : Fin 2) (s : State) : Host.Outcome State Fault Refusal :=
  let e := e.val
  let o := 1 - e
  match nextFwd (s.np o).fwd with
  | none => .next s
  | some g =>
    if !s.ethUp e || s.launchHolds e g.bytes.length [] then .next s
    else
      let x := s.np o
      let s := s.setNp o { x with fwd := x.fwd.erase g }
      let r := s.corrected e g
      .next ((r.2.bump (NET_E_FWD_FRAMES o)).ethSend e r.1)

/-- RING_HOLDOFF_END (R389, R452): at the end of HOLDOFF one message is sent when HEAD has moved. -/
def State.holdoffEnd (s : State) (e : Nat) (tx : Bool) : State :=
  let x := s.np e
  let hold := if tx then x.txHold else x.rxHold
  let moved := if tx then x.txMoved else x.rxMoved
  match hold with
  | some t =>
    if s.now < t then s
    else
      let s := s.setNp e (if tx then { x with txHold := none } else { x with rxHold := none })
      if moved then s.ringMessage e tx else s
  | none => s

/-! ### Tally datagrams (R407, R408) -/

/-- The payload of a tally datagram (R407). -/
def State.datagramPayload (s : State) (rs : List (List Nat)) : List Nat :=
  leBytes 2 0x4D54 ++ [1, rs.length] ++ leBytes 2 (s.deviceId % 4096) ++ leBytes 2 s.net.dgramSeq
    ++ leBytes 4 s.net.ptpNs ++ leBytes 2 s.net.ptpWrap ++ leBytes 2 0 ++ rs.flatten

/-- A UDP checksum: 0 is sent as 0xFFFF. -/
def udpSum (pseudo udp : List Nat) : Nat :=
  let c := inetSum (pseudo ++ udp)
  if c = 0 then 65535 else c

/-- The frame of a tally datagram without FCS (R407). The type of service, the identification, the
traffic class and the flow label are free values. [PRESUMED, log 119; DESIGN CHOICE, log 120] -/
def State.datagram (s : State) (e : Nat) (pl : List Nat) : List Nat × State :=
  let udpLen := 8 + pl.length
  let ports := beBytes 2 (s.rd NET_TALLY_UDP_SRC_PORT) ++ beBytes 2 (s.rd NET_TALLY_UDP_DST_PORT)
  let udp (c : Nat) : List Nat := ports ++ beBytes 2 udpLen ++ beBytes 2 c ++ pl
  let eth := beBytes 6 (s.rd NET_TALLY_DST_MAC) ++ beBytes 6 (s.rd (NET_E_MAC e))
  if s.on NET_TALLY_CFG_IPV6 then
    let lab := s.free 28
    let s := lab.2
    let src := beBytes 4 (s.rd NET_TALLY_SRC_IP3) ++ beBytes 4 (s.rd NET_TALLY_SRC_IP2)
      ++ beBytes 4 (s.rd NET_TALLY_SRC_IP1) ++ beBytes 4 (s.rd NET_TALLY_SRC_IP0)
    let dst := beBytes 4 (s.rd NET_TALLY_DST_IP3) ++ beBytes 4 (s.rd NET_TALLY_DST_IP2)
      ++ beBytes 4 (s.rd NET_TALLY_DST_IP1) ++ beBytes 4 (s.rd NET_TALLY_DST_IP0)
    let pseudo := src ++ dst ++ beBytes 4 udpLen ++ [0, 0, 0, 17]
    let ip := beBytes 4 (6 * 2 ^ 28 + lab.1) ++ beBytes 2 udpLen ++ [17, s.rd NET_TALLY_TTL] ++ src ++ dst
    (eth ++ [0x86, 0xDD] ++ ip ++ udp (udpSum pseudo (udp 0)), s)
  else
    let tos := s.free 8
    let ident := tos.2.free 16
    let s := ident.2
    let src := beBytes 4 (s.rd NET_TALLY_SRC_IP0)
    let dst := beBytes 4 (s.rd NET_TALLY_DST_IP0)
    let pseudo := src ++ dst ++ [0, 17] ++ beBytes 2 udpLen
    let head (c : Nat) : List Nat := [0x45, tos.1] ++ beBytes 2 (20 + udpLen) ++ beBytes 2 ident.1
      ++ [0x40, 0, s.rd NET_TALLY_TTL, 17] ++ beBytes 2 c ++ src ++ dst
    (eth ++ [0x08, 0x00] ++ head (inetSum (head 0)) ++ udp (udpSum pseudo (udp 0)), s)

/-- DATAGRAM_SEND (R407): the oldest datagram holds BATCH records, or BATCH_US µs have passed since its
first record was placed. -/
def execDatagramSend (s : State) : Host.Outcome State Fault Refusal :=
  let e := s.rd NET_TALLY_CFG_TALLY_PORT
  match s.scal.batches with
  | [] => .next s
  | (t, rs) :: rest =>
    let due := decide (s.rd NET_TALLY_CFG_BATCH ≤ rs.length)
      || decide (t + s.rd NET_TALLY_CFG_BATCH_US * ticksPerUs ≤ s.now)
    if !due || !s.ethUp e || s.launchHolds e (58 + 16 + 64 * rs.length) [] then .next s
    else
      let r := s.datagram e (s.datagramPayload rs)
      let s := r.2
      let s := { s with
        scal := { s.scal with batches := rest }
        net := { s.net with dgramSeq := (s.net.dgramSeq + 1) % 65536 } }
      .next (s.ethSend e r.1)

/-! ### Modes and resets (R410) -/

/-- When the mode leaves M10 DIAGNOSE, LOOPBACK clears; a port that was looped brings its link up again
(R410). -/
def State.leaveDiagnose (s : State) : State :=
  (List.range 2).foldl (fun s e =>
    if s.on (NET_E_CTRL_LOOPBACK e) then
      let s := (s.wr (NET_E_CTRL_LOOPBACK e) 0).wr (NET_E_STATUS_LINK e) 0
      s.setNp e { s.np e with looped := [] }
    else s) s

/-- A WARM or BLOCK reset of the NET block (R410): rings stop, buffers and the datagram queue empty; the
counter runs on. -/
def State.netReset (s : State) : State :=
  let s := s.resetRegs keptWarm 0x80000 0x90000
  { s with
    net := { s.net with ports := [], ahead := [], setTo := none, adjBy := none }
    scal := { s.scal with batches := [], netDrop := false } }

end Sys2Proof.Machine
end

