-- ==== Sys2Proof/Machine/ModeReq.lean ====
section
/-! DEFINITION. Requests for a change of mode: the legal transitions, MODE, HALT, and the two-phase change
that ARM starts (R323, R427 to R431, R436 to R439, R477). -/

namespace Sys2Proof.Machine

open Sys2Proof

/-- Transitions that MODE may make (R436). -/
def legalMode (m t : Nat) : Bool :=
  match m with
  | 2 => t == 11
  | 3 => t == 2 || t == 4 || t == 9 || t == 10 || t == 11
  | 4 => t == 3 || t == 11
  | 5 => t == 11
  | 6 => t == 11
  | 7 => t == 11
  | 8 => t == 11
  | 9 => t == 3 || t == 11
  | 10 => t == 2 || t == 3 || t == 11
  | 11 => t == 2 || t == 3
  | _ => false

/-- Transitions that ARM may make (R436). -/
def legalArm (m t : Nat) : Bool :=
  match m with
  | 3 => t == 5 || t == 6 || t == 7
  | 4 => t == 5
  | 5 => t == 3 || t == 6 || t == 7
  | 6 => t == 3 || t == 5 || t == 7
  | 7 => t == 3 || t == 5 || t == 6
  | 8 => t == 3 || t == 5 || t == 6 || t == 7
  | _ => false

/-- The mode becomes `m` from a line on, with everything that every unit does for it (R435, R410). -/
def State.applyMode (s : State) (m : Nat) (line : Int) (e : Nat) : State :=
  let old := s.mode
  let s := if old = 10 && m != 10 then s.leaveDiagnose else s
  (s.changeMode m line e).updVerdict

/-- A change that keeps the epoch, from the next line on (R435). -/
def State.modeNow (s : State) (m : Nat) : State := s.applyMode m s.nextLine (s.rd TOP_EPOCH)

/-- Entry to M11 HALT for a cause (R439); ignored in M0 and M11. [DEDUCED, log 17] -/
def State.haltFor (s : State) (cause cls code : Nat) : State :=
  if s.mode = 0 || s.mode = 11 then s
  else
    let s := ((s.wr TOP_HALT_INFO_CAUSE cause).wr TOP_HALT_INFO_CLASS cls).wr TOP_HALT_INFO_CODE code
    s.modeNow 11

/-- The lanes are trained again on entry to M2 TRAIN (R96, R437). [DEDUCED, log 39] -/
def State.retrainAll (s : State) : State :=
  let s := (List.range 15).foldl (fun s n => if s.on (ZL_CTRL_EN n) then s.portReset n 1 else s) s
  { s with top := { s.top with warmAt := some s.now } }

/-- Some region is at or above CRIT − HYST (R477). -/
def State.tooHot (s : State) : Bool :=
  let lim : Int := ((s.rd THERM_LIMITS_CRIT : Int) - s.rd THERM_LIMITS_HYST) * 16
  (List.range 8).any (fun r => decide (lim ≤ s.rdS (THERM_REGION_TEMP_TEMP r)))

/-- MODE (R323, R436, R437, R477): the reason of a refusal, or the state after the change. -/
def State.modeRequest (s : State) (t : Nat) : Option Nat × State :=
  let m := s.mode
  if !legalMode m t || (t == 9 && !s.on TIMELINE_STATUS_WEB_STOPPED) || (m == 11 && s.tooHot) then (some 0, s)
  else if t = 11 then (none, s.haltFor 1 0 0)
  else
    let s := s.modeNow t
    (none, if t = 2 then s.retrainAll else s)

/-! ### The two-phase change (R427 to R431) -/

/-- This device acts as the position root: it is the root, or forms a chain alone (R437). -/
def State.rootLike (s : State) : Bool := !s.member || s.isRoot

/-- Every enabled pipe reads SERVING and no pipe handover is in progress (R428). -/
def State.pipesReady (s : State) : Bool :=
  (List.range 13).all (fun p => !s.on (PIPE_CTRL_EN p) || s.rd (PIPE_STATUS_STATE p) == pipeServing)
    && s.pipes.all (fun e => e.2.failedAt.isNone)

def State.setArm (s : State) (a : Option ModeArm) : State := { s with chain := { s.chain with arm := a } }

/-- The change is over for this device: nothing is armed any more, and an ARM that waits goes on. -/
def State.armOver (s : State) (a : ModeArm) (c : Nat) : State :=
  let s := s.wr TOP_MODE_ARMED 0xF
  match a.queue with
  | some q => s.modeDone q c
  | none => s

/-- Withdraw the actions of an armed change. -/
def State.armWithdraw (s : State) : State :=
  s.withdraw (fun a => match a with
    | .modeDecision => true
    | .modeChange => true
    | _ => false)

/-- The change is cancelled at the root (R429). -/
def State.armCancel (s : State) (a : ModeArm) (missing : Nat) : State :=
  let s := s.armWithdraw.setArm none
  let s := (s.wr CHAIN_ARM_STATE 3).wr CHAIN_ARM_MISSING missing
  let s := s.fault srcChain 0x9010 (slot1 a.epoch ++ slot1 missing)
  let s := if s.member then s.sendChildren (s.modePacket idAll 3 a.target a.epoch a.pos) else s
  s.armOver a 1

/-- The lowest of some IDs. -/
def lowestId (ids : List Nat) : Nat := ids.foldl min 0xFFF

/-- ARM at the root (R323, R427): the reason of a refusal, or the state with the change armed.
[DEDUCED, log 123; DEDUCED, log 135] -/
def State.armRequest (s : State) (t : Nat) (c : Int) (queue : Option Nat) : Option Nat × State :=
  let guard : Int := (s.rd CHAIN_GUARD : Int) * 65536
  if !legalArm s.mode t then (some 0, s)
  else if !s.rootLike then (some 1, s)
  else if s.chain.arm.isSome then (some 2, s)
  else if c - s.pos16 ≤ guard then (some 3, s)
  else
    let e := (s.rd CHAIN_EPOCH + 1) % 2 ^ 32
    let d := s.offer .modeDecision (slotOf (c - guard))
    let h := d.1.offer .modeChange (slotOf c)
    let s := h.1
    let a : ModeArm :=
      { target := t, epoch := e, pos := c
        members := s.deviceId :: (if s.member then s.chain.members.map (fun (m : Member) => m.id) else [])
        acks := [], applied := [], split := [], held := h.2, acked := false, appliedAt := none, queue := queue }
    let s := (s.setArm (some a)).wr TOP_MODE_ARMED t
    let s := ((s.wrS CHAIN_ARM_POS c).wr CHAIN_ARM_TARGET t).wr CHAIN_ARM_STATE 1
    let s := s.wr CHAIN_ARM_MISSING 0xFFF
    let s := if s.member then s.sendChildren (s.modePacket idAll 1 t e c) else s
    (none, if d.2 then s else s.armCancel a s.deviceId)

/-- The conditions under which a member accepts (R428). -/
def State.armAccepts (s : State) (a : ModeArm) : Bool :=
  legalArm s.mode a.target && a.held && s.pipesReady

/-- MODE_ACK_SEND (R428): once every condition holds, the member acknowledges. -/
def execModeAckSend (s : State) : Host.Outcome State Fault Refusal :=
  match s.chain.arm with
  | none => .next s
  | some a =>
    if a.acked || s.rd CHAIN_ARM_STATE != 1 || !s.armAccepts a then .next s
    else if s.rootLike then .next (s.setArm (some { a with acked := true, acks := s.deviceId :: a.acks }))
    else
      let s := s.setArm (some { a with acked := true })
      .next (s.reportRoot 2 a.target a.epoch a.pos)

/-- MODE_DECISION (R429): at C − GUARD the root makes the change irrevocable, or cancels it when an ACK
is missing. [DEDUCED, log 123] -/
def execModeDecision (s : State) : Host.Outcome State Fault Refusal :=
  match s.takeDue (fun a => a == .modeDecision) with
  | none => .next s
  | some (_, s) =>
    match s.chain.arm with
    | none => .next s
    | some a =>
      let missing := a.members.filter (fun i => !a.acks.contains i)
      if missing.isEmpty then .next (s.wr CHAIN_ARM_STATE 2)
      else .next (s.armCancel a (lowestId missing))

/-- Every member of the change has reported: STATE reads APPLIED, or SPLIT (R430, R431). [DEDUCED, log 125] -/
def State.armReports (s : State) (a : ModeArm) : State :=
  if a.appliedAt.isSome && a.members.all (fun i => a.applied.contains i || a.split.contains i) then
    (s.setArm none).wr CHAIN_ARM_STATE (if a.split.isEmpty then 4 else 5)
  else s.setArm (some a)

/-- Coverage over the spans of the cameras of a pipe (R431). -/
def State.coverPipe (s : State) (p : Nat) (a b : Int) (cause source detail : Nat) : State :=
  [0, 1].foldl (fun s x =>
    let k := 2 * s.rd (PIPE_CTRL_PORT p) + x
    let xb := s.rd STITCH_XBASE
    if decide (k < 24) && s.on (STITCH_CAM_CTRL k) then
      s.cover a b (xb + s.rd (STITCH_CAM_SPAN_FIRST k)) (xb + s.rd (STITCH_CAM_SPAN_LAST k)) cause source detail 0
    else s) s

/-- Enabled pipes that do not serve. -/
def State.badPipes (s : State) : List Nat :=
  (List.range 13).filter (fun p =>
    s.on (PIPE_CTRL_EN p) && s.rd (PIPE_STATUS_STATE p) != pipeServing)

/-- A held change cannot be applied at C (R431): the member reports MODE_SPLIT, and degrades when the
target is M7 INSPECT. [DEDUCED, log 124] -/
def State.modeSplit (s : State) (a : ModeArm) (line : Int) : State :=
  let bad := s.badPipes
  let unit := match bad with
    | p :: _ => srcPipe p
    | [] => srcTop
  let s := s.fault srcChain 0x9011 (slot1 a.epoch ++ slot1 unit)
  let s := if a.target = 7 && (s.mode == 7 || legalArm s.mode 7) then s.applyMode 8 line (s.rd TOP_EPOCH) else s
  let s := bad.foldl (fun s p => s.coverPipe p line openLine 0x70 7 (srcPipe p)) s
  let s := s.reportRoot 5 a.target a.epoch a.pos
  if s.rootLike then
    (s.armReports { a with split := s.deviceId :: a.split, appliedAt := some s.now }).armOver a 0
  else ((s.setArm none).wr CHAIN_ARM_STATE 5).armOver a 0

/-- MODE_CHANGE_APPLY (R39, R430, R431, R438): the change falls due at C and is applied from the first line
at or after it. [DEDUCED, log 134; DEDUCED, log 135] -/
def execModeChangeApply (s : State) : Host.Outcome State Fault Refusal :=
  match s.takeDue (fun a => a == .modeChange) with
  | none =>
    match s.chain.lost with
    | some a =>
      if a.pos ≤ s.pos16 then
        let s := { s with chain := { s.chain with lost := none } }
        .next (s.modeSplit { a with queue := none } (ceilDiv a.pos 65536))
      else .next s
    | none => .next s
  | some (e, s) =>
    match s.chain.arm with
    | none => .next s
    | some a =>
      let line := ceilDiv e.slot 256
      if !(legalArm s.mode a.target && s.pipesReady) then .next (s.modeSplit a line)
      else
        let m := if a.target = 7 && s.degraded then 8 else a.target
        let s := s.applyMode m line a.epoch
        let s := s.reportRoot 4 a.target a.epoch a.pos
        if s.rootLike then
          .next ((s.armReports { a with applied := s.deviceId :: a.applied, appliedAt := some s.now }).armOver a 0)
        else .next (((s.setArm none).wr CHAIN_ARM_STATE 4).armOver a 0)

end Sys2Proof.Machine
end

