-- ==== Sys2Proof/Machine/Chain.lean ====
section
/-! DEFINITION. The chain: delay probes, positions, heartbeats, membership, remote commands and summaries,
and the packets of a two-phase change of mode (chapter 14). -/

namespace Sys2Proof.Machine

open Sys2Proof

/-- UI in a timeline tick (R416). -/
def uiPerTick : Int := 140

def State.setChain (s : State) (f : Chain → Chain) : State := { s with chain := f s.chain }

/-- Block i of a packet's payload. -/
def Packet.block (p : Packet) (i : Nat) : Nat := nth 0 p.payload i

/-- ACC_DELAY of a TIME packet (R95). -/
def timeAcc (p : Packet) : Nat := bitsAt (p.block 2) 0 32

/-- What a TIME packet is (R413, R419, R424). -/
def isProbe (p : Packet) : Bool :=
  p.ty == pkTime && headDst (p.block 0) == idAll && timeAcc p == 0xFFFFFFFF
def isReply (p : Packet) : Bool :=
  p.ty == pkTime && bitAt (timeAcc p) 31 && timeAcc p != 0xFFFFFFFF
def isHeartbeat (p : Packet) : Bool :=
  p.ty == pkTime && timeAcc p == 0 && headDst (p.block 0) != idAll
def isTime (p : Packet) : Bool :=
  p.ty == pkTime && headDst (p.block 0) == idAll && timeAcc p != 0xFFFFFFFF && !bitAt (timeAcc p) 31

/-- The PTP time as TIME packets carry it. -/
def State.ptp48 (s : State) : Nat := s.net.ptpNs + s.net.ptpWrap * 2 ^ 32

/-! ### Membership of the chain (R412, R418) -/

/-- The bits of CHAIN_MEMBERS follow the membership at the root (R421). -/
def State.showMember (s : State) (id : Nat) (live : Bool) : State :=
  s.wr ⟨(CHAIN_MEMBERS (id / 32)).off, id % 32, 1⟩ (b2n (live && s.isRoot))

/-- EN of CHAIN_CTRL is written (R412, R418): what the device knew of a chain goes when it leaves.
[DEDUCED, log 16; DEDUCED, log 128] -/
def State.chainEnable (s : State) (en : Bool) : State :=
  if en && s.deviceId = idAll then s.reject CHAIN_STATUS_CFG_REJECT srcChain CHAIN_CTRL.off (1 + 2 * s.rd CHAIN_CTRL_ROOT)
  else if en == s.member then s
  else if en then
    let s := s.set1 CHAIN_CTRL_EN
    (s.setChain (fun c =>
      { c with muted := false, lastPos := some s.now, posAt := s.now, hbAt := s.now })).updRoles
  else
    let s := s.chain.members.foldl (fun s (m : Member) => s.showMember m.id false) s
    let s := s.wr CHAIN_CTRL_EN 0
    let s := (s.wr CHAIN_STATUS_POS_VALID 0).wr CHAIN_STATUS_HOPS 0
    let s := s.setChain (fun c =>
      { c with members := [], gone := [], lastPos := none, lostFrom := none, posLost := false, muted := false })
    (s.setParent none).recheck

/-- CHAIN_ENABLE (R412): a write of CHAIN_CTRL.EN. -/
def execChainEnable (en : Bool) (s : State) : Host.Outcome State Fault Refusal := .next (s.chainEnable en)

/-- A probe reply or heartbeat carries the device's own ID (R418). -/
def State.dupId (s : State) (k : Nat) : State :=
  let s := (s.set1 CHAIN_STATUS_DUP_ID).setChain (fun c => { c with muted := true })
  s.fault srcChain 0x9003 (slot1 k)

/-- A packet that only the root may send has another source (R418, R427). [DEDUCED, log 132] -/
def State.rootConflict (s : State) (src : Nat) : State := s.fault srcChain 0x9015 (slot1 src)

/-! ### Delay probes (R413) -/

/-- A probe goes unanswered; at the 16th in a row the fault is recorded. [DEDUCED, log 131] -/
def State.probeFailed (s : State) (k : Nat) : State :=
  let x := s.lp k
  let s := s.setLp k { x with asked := none, unanswered := x.unanswered + 1 }
  let s := s.bump (CHAIN_LP_PROBE_FAIL k)
  if x.unanswered + 1 = 16 then s.fault srcChain 0x9016 (slot1 k) else s

/-- A probe that has had no reply within 10 µs. -/
def State.probeExpire (s : State) (k : Nat) : State :=
  match (s.lp k).asked with
  | some t => if t + 10 * ticksPerUs < s.now then s.probeFailed k else s
  | none => s

/-- DELAY_PROBE_SEND (R413): an LP port whose group is up sends a delay probe every 1 ms. -/
def execDelayProbeSend (k : Fin 3) (s : State) : Host.Outcome State Fault Refusal :=
  let k := k.val
  if !s.groupUp (lpPort k) 0 || decide (s.now < spGet (fun _ => 0) s.chain.probeAt k) then .next s
  else
    let s := s.probeExpire k
    let s := s.setLp k { s.lp k with asked := some s.now }
    let s := s.setChain (fun c => { c with probeAt := spSet (fun _ => 0) c.probeAt k (s.now + 1000 * ticksPerUs) })
    .next (s.sendPeer (lpPort k) { ty := pkTime, payload := [s.ownHead idAll, s.ptp48, 0xFFFFFFFF] })

/-- DELAY_PROBE_RX (R413): a probe is answered at once; `turn` is the time in UI from the arrival of its
header to the launch of the reply's. -/
def execDelayProbeRx (k : Fin 3) (turn : BitVec 31) (s : State) : Host.Outcome State Fault Refusal :=
  let k := k.val
  match s.takeRx (lpPort k) 0 isProbe with
  | none => .next s
  | some (p, s) =>
    let s := s.probeExpire k
    .next (s.sendPeer (lpPort k)
      { ty := pkTime, payload := [s.ownHead (headSrc (p.block 0)), s.ptp48, 2 ^ 31 + turn.toNat] })

/-- The one-way delay from doubled results: their mean, rounded convergently. [DEDUCED, log 127] -/
def meanOneWay (rs : List Int) : Nat := (rneDiv rs.sum (2 * rs.length)).toNat

/-- PROBE_REPLY_RX (R413, R418): a reply `rtt` UI after its probe gives a one-way delay and names the
neighbour; a reply later than 10 µs leaves its probe unanswered. -/
def execProbeReplyRx (k : Fin 3) (rtt : Nat) (s : State) : Host.Outcome State Fault Refusal :=
  let k := k.val
  match s.takeRx (lpPort k) 0 isReply with
  | none => .next s
  | some (p, s) =>
    let src := headSrc (p.block 0)
    let turn := bitsAt (timeAcc p) 0 31
    let s := if s.member && src = s.deviceId then s.dupId k else s
    if (s.lp k).asked.isNone then .next s
    else if 560000 < rtt then .next (s.probeFailed k)
    else
      let x := s.lp k
      let rs := (((rtt : Int) - turn) :: x.results).take 16
      let s := s.setLp k { x with asked := none, unanswered := 0, results := rs }
      let s := (s.wr (CHAIN_LP_STATE_NEIGHBOUR k) src).wr (CHAIN_LP_TURN k) turn
      .next (s.wr (CHAIN_LP_OW k) (meanOneWay rs))

/-! ### Position (R414 to R418) -/

/-- The velocity of a POS packet in 2^-40 line per tick (R25, R95, R539). [DEDUCED, log 127] -/
def State.posVelocity (s : State) : Int :=
  if s.rd TIMELINE_CTRL_MASTER_SRC = srcSim then
    if s.on TIMELINE_CTRL_RUN then s.tl.simInc else 0
  else
    match s.extrapolating with
    | some (p1, p2) => rneShift (pairVelocity p1 p2) 24
    | none => 0

/-- POS_SEND (R414, R424): every POS_PERIOD ticks the root sends a POS on every up LP port, and after every
64th a TIME broadcast. `acc` and `accTime` are the UI from the sample tick, and from the PTP tick
before it, to the launch of the header. -/
def execPosSend (acc accTime : BitVec 32) (s : State) : Host.Outcome State Fault Refusal :=
  if !s.member || !s.isRoot || decide (s.now < s.chain.posAt) then .next s
  else
    let h := s.ownHead idAll
    let p : Packet :=
      { ty := pkPos, payload := [h, toBits 64 s.pos16, toBits 64 s.posVelocity, acc.toNat] }
    let s := (List.range 3).foldl (fun s k => s.sendPeer (lpPort k) p) s
    let n := s.chain.posSent + 1
    let s := s.setChain (fun c => { c with posSent := n, posAt := s.now + s.rd CHAIN_TIMING_POS_PERIOD })
    if n % 64 = 0 then
      .next (s.sendChildren { ty := pkTime, payload := [h, s.ptp48, accTime.toNat] })
    else .next s

/-- Position comes back after a loss (R417): the lines up to floor(p) are not triggered, and a closing
record names them. [DEDUCED, log 129] -/
def State.posBack (s : State) (p : Int) : State :=
  let a := s.nextDue
  let b := floorShift p 40
  let s := (s.setChain (fun c => { c with posLost := false })).set1 CHAIN_STATUS_POS_VALID
  match s.chain.lostFrom with
  | none => s.recheck
  | some f =>
    let s := s.setChain (fun c => { c with lostFrom := none })
    let s := if a ≤ b then ((s.passLines b).armTrigger).fault srcTimeline 0xC010 (slotLine a ++ slotLine b) else s
    (s.coverFull f (max f b) 0x10 0 0 0).recheck

/-- A POS of the parent becomes a latch pair (R416): φ is the UI from the start of the present tick to the
arrival of its header. -/
def State.posLatch (s : State) (pos16 v : Int) (delay phi : Nat) : State :=
  let q := s.posFit (pos16 * (2 : Int) ^ 24 + rneDiv (v * ((delay : Int) - phi)) uiPerTick
    + s.rdS CHAIN_POS_OFFSET * (2 : Int) ^ 24)
  let p := q.1
  let s := q.2
  let s := if s.chain.posLost then s.posBack p else s
  if s.rd TIMELINE_CTRL_MASTER_SRC = srcChainMaster then
    let s := s.wrS CHAIN_POS_RX (floorShift p 24)
    let moved := decide (p != s.tl.latched)
    let s := if moved then s.masterActive else s
    if s.on TIMELINE_CTRL_RUN then
      let fwd := if moved then decide (s.tl.latched < p) else (match s.tl.pairs with
        | q :: _ => q.fwd
        | [] => true)
      s.latchPair p s.now fwd
    else s
  else s

/-- A POS with an epoch of its own (R432). -/
def State.posEpoch (s : State) (e : Nat) : State :=
  if e = s.rd CHAIN_EPOCH then s.setChain (fun c => { c with mismatched := false })
  else if s.chain.arm.isSome || s.chain.mismatched then s
  else
    let s := (s.set1 CHAIN_STATUS_EPOCH_MISMATCH).setChain (fun c => { c with mismatched := true })
    s.fault srcChain 0x9014 (slot1 (s.rd CHAIN_EPOCH) ++ slot1 e)

/-- POS_RX (R415 to R418, R432): a POS arrives `phi` UI after the start of the tick, and is forwarded, when it
came from the parent, `residence` UI later. [DEDUCED, log 128] -/
def execPosRx (k : Fin 3) (residence : Nat) (phi : Fin 140) (s : State) :
    Host.Outcome State Fault Refusal :=
  let k := k.val
  match s.takeRx (lpPort k) 0 (fun p => p.ty == pkPos) with
  | none => .next s
  | some (p, s) =>
    let h := p.block 0
    let src := headSrc h
    if !s.member then .next s
    else if s.isRoot || src != s.rd CHAIN_CFG_ROOT_ID then
      let s := s.set1 CHAIN_STATUS_ROOT_CONFLICT
      if s.chain.conflicts.contains src then .next s
      else .next ((s.setChain (fun c => { c with conflicts := src :: c.conflicts })).rootConflict src)
    else
      let acc := bitsAt (p.block 3) 0 32
      let delay := acc + s.rd (CHAIN_LP_OW k)
      let s := s.setLp k { s.lp k with pos := some ⟨src, headHops h, delay, s.now⟩ }
      let s := s.setChain (fun c => { c with lastPos := some s.now })
      let s := s.set1 CHAIN_STATUS_POS_VALID
      let best := (bestPort (s.posCandidates (fun _ q => decide (s.now ≤ q.tick + 1000 * ticksPerUs)))).map (·.1)
      let s := if best = s.parent then s else s.setParent best
      let s := s.posEpoch (headEpoch h)
      if s.parent != some k then .next s
      else
        let fwd : Packet :=
          { p with payload := [headNext h, p.block 1, p.block 2, (delay + residence) % 2 ^ 32] }
        let s := (List.range 3).foldl (fun s j => if j = k then s else s.sendPeer (lpPort j) fwd) s
        let s := (s.wr CHAIN_STATUS_HOPS (min 15 (headHops h + 1))).wr CHAIN_POS_DELAY delay
        .next (s.posLatch (signed 64 (p.block 1)) (signed 64 (p.block 2)) delay phi.val)

/-- POS_LOST (R417): no POS for POS_TIMEOUT µs. The position is held and an open record names every line
from the first not triggered. [DEDUCED, log 129] -/
def execPosLost (s : State) : Host.Outcome State Fault Refusal :=
  match s.chain.lastPos with
  | none => .next s
  | some t =>
    if !s.member || s.isRoot || s.chain.posLost
        || decide (s.now < t + s.rd CHAIN_TIMING_POS_TIMEOUT * ticksPerUs) then .next s
    else
      let s := (s.set1 CHAIN_STATUS_POS_LOST).wr CHAIN_STATUS_POS_VALID 0
      let s := s.fault srcChain 0x9002 (slotPos s.pos16)
      let s := s.setChain (fun c => { c with posLost := true })
      if s.rd TIMELINE_CTRL_MASTER_SRC = srcChainMaster then
        let f := s.nextDue
        let s := { s with tl := { s.tl with pairs := [] } }
        let s := s.setChain (fun c => { c with lostFrom := some f })
        .next ((s.coverFull f openLine 0x10 0 0 0).updVelocity).recheck
      else .next s.recheck

/-! ### Heartbeats and membership (R419, R421) -/

/-- HEARTBEAT_SEND (R419): every HEARTBEAT µs a member reports to the root. -/
def execHeartbeatSend (s : State) : Host.Outcome State Fault Refusal :=
  if !s.member || s.isRoot || decide (s.now < s.chain.hbAt) then .next s
  else
    let s := s.setChain (fun c => { c with hbAt := s.now + s.rd CHAIN_HB_HEARTBEAT * ticksPerUs })
    .next (s.showSpan.sendTo (s.rd CHAIN_CFG_ROOT_ID) s.heartbeat)

/-- Lines of a run of coverage over a lost member (R421). -/
def goneRun : Int := 65536

/-- Coverage over the span of a lost member (R421), in SOURCE 6. -/
def State.coverGone (s : State) (g : LostMember) (b : Int) : State :=
  if g.next ≤ b then
    s.cover g.next b g.xbase (g.xbase + g.width - 1) 0x71 6 (0x1000 + g.id) 0
  else s

/-- Runs of 65,536 lines that the position has passed are published for every lost member. [DEDUCED, log 130] -/
def State.goneRuns (s : State) : State :=
  s.chain.gone.foldl (fun s (g : LostMember) =>
    if g.next + goneRun ≤ s.line + 1 then
      let s := s.coverGone g (g.next + goneRun - 1)
      s.setChain (fun c => { c with gone := c.gone.map (fun (x : LostMember) =>
        if x.id = g.id then { x with next := x.next + goneRun } else x) })
    else s) s

/-- A lost member's heartbeats return: its coverage ends. [DEDUCED, log 130] -/
def State.memberBack (s : State) (id : Nat) : State :=
  match s.chain.gone.find? (·.id == id) with
  | some g =>
    let s := s.coverGone g s.line
    s.setChain (fun c => { c with gone := c.gone.filter (fun (x : LostMember) => x.id != id) })
  | none => s

/-- A member drops out of the root's membership (R421). -/
def State.memberLost (s : State) (m : Member) : State :=
  let s := s.showMember m.id false
  let s := s.fault srcChain 0x9004 (slot1 m.id)
  if s.chain.gone.any (·.id == m.id) then s
  else
    let f := s.line - s.rd CHAIN_LOSS_MARGIN
    s.setChain (fun c => { c with gone := c.gone ++ [⟨m.id, m.xbase, m.width, f⟩] })

/-- HEARTBEAT_RX (R418, R419, R421): a heartbeat records its sender below the port it arrived on, and goes
on toward the root. -/
def execHeartbeatRx (k : Fin 3) (s : State) : Host.Outcome State Fault Refusal :=
  let k := k.val
  match s.takeRx (lpPort k) 0 isHeartbeat with
  | none => .next s
  | some (p, s) =>
    let src := headSrc (p.block 0)
    if !s.member then .next s
    else if src = s.deviceId then .next (s.dupId k)
    else
      let w := p.block 1
      let below := s.isRoot || s.parent != some k
      let m : Member := ⟨src, k, s.now, bitsAt w 0 20, bitsAt w 20 18⟩
      let s := if below then
          let s := s.setChain (fun c =>
            { c with members := m :: c.members.filter (fun (x : Member) => x.id != src) })
          s.updRoles
        else s
      if headDst (p.block 0) = s.deviceId then
        if s.isRoot then .next ((s.showMember src true).memberBack src) else .next s
      else .next (s.routePeer k p).2

/-- LIVE_TIMEOUT (R419, R421): entries that LIVE_TIMEOUT µs have not refreshed are removed; at the root
they are members lost. -/
def execLiveTimeout (s : State) : Host.Outcome State Fault Refusal :=
  let lim := s.rd CHAIN_HB_LIVE_TIMEOUT * ticksPerUs
  let dead := s.chain.members.filter (fun (m : Member) => decide (m.tick + lim < s.now))
  let s := s.setChain (fun c =>
    { c with members := c.members.filter (fun (m : Member) => decide (s.now ≤ m.tick + lim)) })
  let s := if s.isRoot then dead.foldl (fun s m => s.memberLost m) s else s
  .next (if dead.isEmpty then s else s.updRoles).goneRuns

/-! ### Time, commands and summaries (R424 to R426) -/

/-- ns in a number of UI: each is 17.857 ps (R424). -/
def uiNs (ui : Nat) : Nat := (rneDiv ((ui : Int) * 17857) 1000000).toNat

/-- TIME_BROADCAST_RX (R415, R424): the root's time and the device's own, at the arrival of a TIME
broadcast. -/
def execTimeBroadcastRx (k : Fin 3) (residence : Nat) (s : State) : Host.Outcome State Fault Refusal :=
  let k := k.val
  match s.takeRx (lpPort k) 0 isTime with
  | none => .next s
  | some (p, s) =>
    if !s.member || s.isRoot || headSrc (p.block 0) != s.rd CHAIN_CFG_ROOT_ID then .next s
    else
      let delay := timeAcc p + s.rd (CHAIN_LP_OW k)
      let s := s.wr CHAIN_TIME_ROOT ((bitsAt (p.block 1) 0 48 + uiNs delay) % 2 ^ 48)
      let s := s.wr CHAIN_TIME_LOCAL s.ptp48
      if s.parent = some k then
        let fwd : Packet :=
          { p with payload := [headNext (p.block 0), p.block 1, (delay + residence) % 2 ^ 32] }
        .next (s.sendChildren fwd)
      else .next s

/-- Does a block of command words hold a LOOP, ENDLOOP, JUMP, CALL, RET or HALT (R425)? -/
def flowIn : Nat → List Nat → Bool
  | 0, _ => false
  | _, [] => false
  | n + 1, w :: ws =>
    let op := bitsAt w 56 8
    op == 0x0B || op == 0x0C || op == 0x0D || op == 0x0E || op == 0x0F || op == 0x12
      || flowIn n ((w :: ws).drop (cmdWords w))

/-- A wait that a remote block interrupts starts again after the block (R425). [DEDUCED, log 95] -/
def State.qInterrupt (s : State) (q : Nat) : State :=
  let x := s.scq q
  let again (s : State) : State :=
    let s := s.qDropWait q
    let s := s.setScq q { s.scq q with readyAt := s.now + 1 }
    s.setQState q qRunning
  if x.inBlock then s
  else
    match x.wait with
    | some .pos => again s
    | some (.time _) => again s
    | some .ev => again s
    | _ => s

/-- CMD_RX (R425): a CMD packet's words run as one block on a queue, or are refused: its acceptance is an
access of class JOB (R499). [DEDUCED, log 95] -/
def execCmdRx (k : Fin 3) (s : State) : Host.Outcome State Fault Refusal :=
  let k := k.val
  match s.takePeerIf k (fun p => p.ty == pkCmd) with
  | (none, s) => .next s
  | (some p, s) =>
    let n := bitsAt (p.block 1) 0 7
    let q := bitsAt (p.block 1) 8 3
    let ws := (p.payload.drop 2).take n
    let refuse (why : Nat) : State :=
      s.fault srcChain 0x9006 (slot1 (headSrc (p.block 0)) ++ slot1 q ++ slot1 why)
    let st := s.qState q
    let a := s.permit (reqLp k) clsJob true (headSrc (p.block 0))
    if n = 0 || decide (64 < n) || ws.length != n then .next s
    else if !a.1 then .next a.2
    else if !bitAt (s.rd CHAIN_CMD_EN) q then .next (refuse 0)
    else if st != qRunning && st != qWaiting && st != qIdle then .next (refuse 1)
    else if flowIn 64 ws then .next (refuse 2)
    else
      let s := s.qInterrupt q
      let x := s.scq q
      .next ((s.setScq q { x with blocks := x.blocks ++ [(k, ws)] }).qShow q)

/-- SUMMARY_RX (R426): a summary of another device is written to SUM_BASE + SRC_ID × 4 KiB. -/
def execSummaryRx (k : Fin 3) (s : State) : Host.Outcome State Fault Refusal :=
  let k := k.val
  match s.takePeerIf k (fun p => p.ty == pkSummary) with
  | (none, s) => .next s
  | (some p, s) =>
    if !s.on CHAIN_SUM_CFG_SUM_EN then .next s
    else
      let a := s.rd CHAIN_SUM_BASE + headSrc (p.block 0) * 4096
      .next (s.devWrite (reqLp k) clsDma 0 a (((p.payload.drop 1).take 512).flatMap (leBytes 8))).2

/-! ### Changes of mode across the chain (R427 to R431) -/

def modePhase (p : Packet) : Nat := bitsAt (p.block 1) 0 4
def modeEpoch (p : Packet) : Nat := bitsAt (p.block 1) 32 32

/-- Is a packet a MODE packet of a phase? -/
def isMode (phase : Nat) (p : Packet) : Bool := p.ty == pkMode && modePhase p == phase

/-- MODE_ARM_RX (R427, R428): a MODE ARM from the root offers the action at C and starts the review. -/
def execModeArmRx (k : Fin 3) (s : State) : Host.Outcome State Fault Refusal :=
  let k := k.val
  match s.takeRx (lpPort k) 0 (isMode 1) with
  | none => .next s
  | some (p, s) =>
    let src := headSrc (p.block 0)
    if !s.member then .next s
    else if s.isRoot || src != s.rd CHAIN_CFG_ROOT_ID then .next (s.rootConflict src)
    else
      match s.routePeer k p with
      | (none, s) => .next s
      | (some p, s) =>
        let t := bitsAt (p.block 1) 4 4
        let c := signed 64 (p.block 2)
        let h := s.armWithdraw.offer .modeChange (slotOf c)
        let s := h.1
        let a : ModeArm :=
          { target := t, epoch := modeEpoch p, pos := c, members := [], acks := [], applied := [], split := []
            held := h.2, acked := false, appliedAt := none, queue := none }
        let s := (s.setArm (some a)).wr TOP_MODE_ARMED t
        let s := ((s.wrS CHAIN_ARM_POS c).wr CHAIN_ARM_TARGET t).wr CHAIN_ARM_STATE 1
        .next (s.wr CHAIN_ARM_MISSING 0xFFF)

/-- A report of a member reaches the root while the change of its epoch is armed. -/
def State.armReport (s : State) (k phase : Nat) (f : ModeArm → Nat → State → State) : State :=
  match s.takePeerIf k (isMode phase) with
  | (none, s) => s
  | (some p, s) =>
    match s.chain.arm with
    | some a =>
      if s.isRoot && a.epoch = modeEpoch p then f a (headSrc (p.block 0)) s else s
    | none => s

/-- MODE_ACK_RX (R429): an ACK counts until the decision. -/
def execModeAckRx (k : Fin 3) (s : State) : Host.Outcome State Fault Refusal :=
  .next (s.armReport k.val 2 (fun a src s =>
    if s.rd CHAIN_ARM_STATE = 1 then s.setArm (some { a with acks := src :: a.acks }) else s))

/-- MODE_CANCEL_RX (R430): a CANCEL before the application withdraws the action; a later one is recorded. -/
def execModeCancelRx (k : Fin 3) (s : State) : Host.Outcome State Fault Refusal :=
  match s.takePeerIf k.val (isMode 3) with
  | (none, s) => .next s
  | (some p, s) =>
    if s.isRoot || headSrc (p.block 0) != s.rd CHAIN_CFG_ROOT_ID then .next s
    else
      match s.chain.arm with
      | some a =>
        if a.epoch = modeEpoch p then
          .next ((s.armWithdraw.setArm none).wr CHAIN_ARM_STATE 3 |>.armOver a 1)
        else .next s
      | none =>
        if s.rd CHAIN_ARM_STATE = 4 || s.rd CHAIN_ARM_STATE = 5 then
          .next (s.fault srcChain 0x9012 (slot1 (modeEpoch p)))
        else .next s

/-- MODE_APPLIED_RX (R430). -/
def execModeAppliedRx (k : Fin 3) (s : State) : Host.Outcome State Fault Refusal :=
  .next (s.armReport k.val 4 (fun a src s => s.armReports { a with applied := src :: a.applied }))

/-- MODE_SPLIT_RX (R431). -/
def execModeSplitRx (k : Fin 3) (s : State) : Host.Outcome State Fault Refusal :=
  .next (s.armReport k.val 5 (fun a src s => s.armReports { a with split := src :: a.split }))

/-- APPLY_MISSING (R431): 1 ms after C the root handles every member without a report as lost.
[DEDUCED, log 125] -/
def execApplyMissing (s : State) : Host.Outcome State Fault Refusal :=
  match s.chain.arm with
  | none => .next s
  | some a =>
    match a.appliedAt with
    | none => .next s
    | some t =>
      if s.now < t + 1000 * ticksPerUs then .next s
      else
        let late := a.members.filter (fun i => !a.applied.contains i && !a.split.contains i)
        let s := late.foldl (fun s i =>
          let s := s.fault srcChain 0x9013 (slot1 i ++ slot1 a.epoch)
          match s.chain.members.find? (·.id == i) with
          | some m =>
            let s := s.setChain (fun c =>
              { c with members := c.members.filter (fun (x : Member) => x.id != i) })
            s.memberLost m
          | none => s) s
        let s := s.updRoles.setArm none
        .next (s.wr CHAIN_ARM_STATE (if a.split.isEmpty then 4 else 5))

/-! ### Reset (R433) -/

/-- A reset of the chain: routes, membership, liveness and any armed change go. A change that this device
had accepted is then one that it cannot apply (R431). [DEDUCED, log 134] -/
def State.chainReset (s : State) : State :=
  let lost := match s.chain.arm with
    | some a => if a.acked then some { a with held := false } else s.chain.lost
    | none => s.chain.lost
  let s := s.armWithdraw.wr TOP_MODE_ARMED 0xF
  let s := s.resetRegs keptWarm 0x90000 0xA0000
  let c : Chain :=
    { lost := lost, lastPos := if s.member then some s.now else none, posAt := s.now, hbAt := s.now }
  ({ s with chain := c }).updRoles.recheck

end Sys2Proof.Machine
end

