-- ==== Sys2Proof/Machine/Image.lean ====
section
/-! DEFINITION. Firmware images (R493, R494): SHA-384 (FIPS 180-4), ECDSA over P-384 (FIPS 186-5), and the
checks of the boot ROM. -/

namespace Sys2Proof.Machine

open Sys2Proof

/-! ### SHA-384 -/

/-- A 64-bit word rotated right. -/
def rotr64 (n x : Nat) : Nat := (x / 2 ^ n + x * 2 ^ (64 - n)) % 2 ^ 64

/-- Round constants: the first 64 fraction bits of the cube roots of the first 80 primes. -/
def shaK0 : List Nat :=
  [ 0x428a2f98d728ae22, 0x7137449123ef65cd, 0xb5c0fbcfec4d3b2f, 0xe9b5dba58189dbbc,
    0x3956c25bf348b538, 0x59f111f1b605d019, 0x923f82a4af194f9b, 0xab1c5ed5da6d8118,
    0xd807aa98a3030242, 0x12835b0145706fbe, 0x243185be4ee4b28c, 0x550c7dc3d5ffb4e2,
    0x72be5d74f27b896f, 0x80deb1fe3b1696b1, 0x9bdc06a725c71235, 0xc19bf174cf692694,
    0xe49b69c19ef14ad2, 0xefbe4786384f25e3, 0x0fc19dc68b8cd5b5, 0x240ca1cc77ac9c65 ]
def shaK1 : List Nat :=
  [ 0x2de92c6f592b0275, 0x4a7484aa6ea6e483, 0x5cb0a9dcbd41fbd4, 0x76f988da831153b5,
    0x983e5152ee66dfab, 0xa831c66d2db43210, 0xb00327c898fb213f, 0xbf597fc7beef0ee4,
    0xc6e00bf33da88fc2, 0xd5a79147930aa725, 0x06ca6351e003826f, 0x142929670a0e6e70,
    0x27b70a8546d22ffc, 0x2e1b21385c26c926, 0x4d2c6dfc5ac42aed, 0x53380d139d95b3df,
    0x650a73548baf63de, 0x766a0abb3c77b2a8, 0x81c2c92e47edaee6, 0x92722c851482353b ]
def shaK2 : List Nat :=
  [ 0xa2bfe8a14cf10364, 0xa81a664bbc423001, 0xc24b8b70d0f89791, 0xc76c51a30654be30,
    0xd192e819d6ef5218, 0xd69906245565a910, 0xf40e35855771202a, 0x106aa07032bbd1b8,
    0x19a4c116b8d2d0c8, 0x1e376c085141ab53, 0x2748774cdf8eeb99, 0x34b0bcb5e19b48a8,
    0x391c0cb3c5c95a63, 0x4ed8aa4ae3418acb, 0x5b9cca4f7763e373, 0x682e6ff3d6b2b8a3,
    0x748f82ee5defb2fc, 0x78a5636f43172f60, 0x84c87814a1f0ab72, 0x8cc702081a6439ec ]
def shaK3 : List Nat :=
  [ 0x90befffa23631e28, 0xa4506cebde82bde9, 0xbef9a3f7b2c67915, 0xc67178f2e372532b,
    0xca273eceea26619c, 0xd186b8c721c0c207, 0xeada7dd6cde0eb1e, 0xf57d4f7fee6ed178,
    0x06f067aa72176fba, 0x0a637dc5a2c898a6, 0x113f9804bef90dae, 0x1b710b35131c471b,
    0x28db77f523047d84, 0x32caab7b40c72493, 0x3c9ebe0a15c9bebc, 0x431d67c49c100d4c,
    0x4cc5d4becb3e42b6, 0x597f299cfc657e2a, 0x5fcb6fab3ad6faec, 0x6c44198c4a475817 ]
def shaK : List Nat := shaK0 ++ shaK1 ++ shaK2 ++ shaK3

/-- Initial hash value: the first 64 fraction bits of the square roots of the ninth to sixteenth primes. -/
def shaInit : List Nat :=
  [ 0xcbbb9d5dc1059ed8, 0x629a292a367cd507, 0x9159015a3070dd17, 0x152fecd8f70e5939,
    0x67332667ffc00b31, 0x8eb44a8768581511, 0xdb0c2e0d64f98fa7, 0x47b5481dbefa4fa4 ]

/-- Big-endian value of bytes. -/
def ofBe (bs : List Nat) : Nat := bs.foldl (fun n b => n * 256 + b % 256) 0

/-- Big-endian bytes of a number. -/
def beOf (k n : Nat) : List Nat := (leBytes k n).reverse

/-- The next word of the message schedule, from the last 16 (newest first). -/
def shaNext (w : List Nat) : Nat :=
  let x := nth 0 w 14
  let y := nth 0 w 1
  let s0 := rotr64 1 x ^^^ rotr64 8 x ^^^ (x / 2 ^ 7)
  let s1 := rotr64 19 y ^^^ rotr64 61 y ^^^ (y / 2 ^ 6)
  (s1 + nth 0 w 6 + s0 + nth 0 w 15) % 2 ^ 64

/-- The message schedule, newest first. -/
def shaSchedule : Nat → List Nat → List Nat
  | 0, w => w
  | k + 1, w => shaSchedule k (shaNext (w.take 16) :: w)

/-- One round on the working variables a to h. -/
def shaRound (v : List Nat) (kw : Nat × Nat) : List Nat :=
  let a := nth 0 v 0
  let e := nth 0 v 4
  let f := nth 0 v 5
  let g := nth 0 v 6
  let s1 := rotr64 14 e ^^^ rotr64 18 e ^^^ rotr64 41 e
  let ch := (e &&& f) ^^^ ((2 ^ 64 - 1 - e) &&& g)
  let t1 := nth 0 v 7 + s1 + ch + kw.1 + kw.2
  let b := nth 0 v 1
  let c := nth 0 v 2
  let s0 := rotr64 28 a ^^^ rotr64 34 a ^^^ rotr64 39 a
  let maj := (a &&& b) ^^^ (a &&& c) ^^^ (b &&& c)
  [(t1 + s0 + maj) % 2 ^ 64, a, b, c, (nth 0 v 3 + t1) % 2 ^ 64, e, f, g]

/-- One block of 128 bytes. -/
def shaBlock (h : List Nat) (block : List Nat) : List Nat :=
  let w := (tabulate 16 (fun i => ofBe ((block.drop (8 * i)).take 8))).reverse
  let ws := (shaSchedule 64 w).reverse
  let v := (shaK.zip ws).foldl shaRound h
  (h.zip v).map (fun p => (p.1 + p.2) % 2 ^ 64)

/-- Blocks of 128 bytes in turn. -/
def shaBlocks : Nat → List Nat → List Nat → List Nat
  | 0, h, _ => h
  | n + 1, h, bs => if bs.isEmpty then h else shaBlocks n (shaBlock h (bs.take 128)) (bs.drop 128)

/-- SHA-384 of bytes: 48 bytes. [PRESUMED, log 150] -/
def sha384 (bs : List Nat) : List Nat :=
  let pad := (239 - bs.length % 128) % 128
  let msg := bs ++ (0x80 :: List.replicate pad 0) ++ beOf 16 (8 * bs.length)
  ((shaBlocks (msg.length / 128) shaInit msg).take 6).flatMap (beOf 8)

/-! ### ECDSA over P-384 -/

def p384 : Nat := 0xfffffffffffffffffffffffffffffffffffffffffffffffffffffffffffffffeffffffff0000000000000000ffffffff
def n384 : Nat := 0xffffffffffffffffffffffffffffffffffffffffffffffffc7634d81f4372ddf581a0db248b0a77aecec196accc52973
def b384 : Nat := 0xb3312fa7e23ee7e4988e056be3f82d19181d9c6efe8141120314088f5013875ac656398d8a2ed19d2a85c8edd3ec2aef
def gx384 : Nat := 0xaa87ca22be8b05378eb1c71ef320ad746e1d3b628ba79b9859f741e082542a385502f25dbf55296c3a545e3872760ab7
def gy384 : Nat := 0x3617de4a96262c6f5d9e98bf9292dc29f8f41dbd289a147ce9da3113b5f0b8c00a60b1ce1d7e819d7a431d7c90ea0e5f

/-- a^e modulo m, over the low `k` bits of e. -/
def powMod : Nat → Nat → Nat → Nat → Nat
  | 0, _, _, _ => 1
  | k + 1, m, a, e =>
    let r := powMod k m (a * a % m) (e / 2)
    if e % 2 = 1 then r * a % m else r

/-- The inverse modulo a prime. -/
def invMod (m a : Nat) : Nat := powMod 384 m (a % m) (m - 2)

def subMod (m a b : Nat) : Nat := (a % m + m - b % m) % m

/-- A point of the curve: none at infinity. -/
abbrev EcPoint := Option (Nat × Nat)

/-- The sum of two points of y² = x³ − 3x + b. -/
def ecAdd (p q : EcPoint) : EcPoint :=
  match p, q with
  | none, _ => q
  | _, none => p
  | some (x1, y1), some (x2, y2) =>
    let m := p384
    if x1 = x2 && (y1 + y2) % m = 0 then none
    else
      let l := if x1 = x2 then subMod m (3 * x1 * x1) 3 * invMod m (2 * y1) % m
        else subMod m y2 y1 * invMod m (subMod m x2 x1) % m
      let x3 := subMod m (subMod m (l * l) x1) x2
      some (x3, subMod m (l * subMod m x1 x3) y1)

/-- k times a point, over the low `n` bits of k. -/
def ecMul : Nat → Nat → EcPoint → EcPoint
  | 0, _, _ => none
  | n + 1, k, p =>
    let q := ecMul n (k / 2) (ecAdd p p)
    if k % 2 = 1 then ecAdd q p else q

/-- Is a point on the curve, with coordinates in range? -/
def onCurve (x y : Nat) : Bool :=
  decide (x < p384) && decide (y < p384) && y * y % p384 == subMod p384 (x * x * x + b384) (3 * x)

/-- Does a signature (r, s) of a digest verify under a key? [PRESUMED, log 150] -/
def ecdsaVerify (qx qy r s : Nat) (digest : List Nat) : Bool :=
  let n := n384
  if !onCurve qx qy || r = 0 || s = 0 || decide (n ≤ r) || decide (n ≤ s) then false
  else
    let e := ofBe digest
    let w := invMod n s
    match ecAdd (ecMul 384 (e * w % n) (some (gx384, gy384))) (ecMul 384 (r * w % n) (some (qx, qy))) with
    | some (x, _) => x % n == r
    | none => false

/-! ### The image (R493, R494) -/

/-- Bytes of an image. -/
def imgSlice (img : List Nat) (o n : Nat) : List Nat := (img.drop o).take n
def imgWord (img : List Nat) (o : Nat) : Nat := ofLeBytes (imgSlice img o 4)

def imgId (img : List Nat) : Nat := imgWord img 8
def imgVersion (img : List Nat) : Nat := imgWord img 12
def imgSvn (img : List Nat) : Nat := imgWord img 16
def imgBodyLen (img : List Nat) : Nat := imgWord img 20

/-- KEY_HASH, byte 0 in word 0 [7:0] (R501). -/
def State.keyHash (s : State) : List Nat := (List.range 12).flatMap (fun i => leBytes 4 (s.rd (SEC_FUSE i)))

/-- SVN_MIN: the number of blown bits of words 12 and 13 (R501). -/
def State.svnMin (s : State) : Nat := popCount 32 (s.rd (SEC_FUSE 12)) + popCount 32 (s.rd (SEC_FUSE 13))

/-- The checks of R494 in order: the REASON of the first that fails. `limit` is the length of the source.
[PRESUMED, log 150] -/
def State.imageReason (s : State) (img : List Nat) (limit : Nat) (readOk dirOk : Bool) : Option Nat :=
  let len := imgBodyLen img
  let whole := img.take (512 + len)
  let digest := sha384 (whole.take 0xA0 ++ List.replicate 96 0 ++ whole.drop 0x100)
  if imgWord img 0 != 0x524E4752 || imgWord img 4 != 1 then some 1
  else if len % 64 != 0 || decide (len < 4096) || decide (1048576 < len) || decide (limit < 512 + len) then some 2
  else if sha384 (imgSlice img 0x40 96) != s.keyHash then some 3
  else if !ecdsaVerify (ofBe (imgSlice img 0x40 48)) (ofBe (imgSlice img 0x70 48))
      (ofBe (imgSlice img 0xA0 48)) (ofBe (imgSlice img 0xD0 48)) digest then some 4
  else if imgSvn img < s.svnMin then some 5
  else if !readOk then some 6
  else if !dirOk then some 7
  else none

end Sys2Proof.Machine
end

