-- ==== Sys2Proof/Machine/Therm.lean ====
section
/-! DEFINITION. Calibration runs and their codes, temperature sensors, warnings, stops and trips, the
temperature table and ageing (chapter 16). -/

namespace Sys2Proof.Machine

open Sys2Proof

def State.setTherm (s : State) (f : Therm → Therm) : State := { s with therm := f s.therm }
def State.tsens (s : State) (i : Nat) : ThermSensor := spGet (fun _ => {}) s.therm.sens i
def State.setTsens (s : State) (i : Nat) (x : ThermSensor) : State :=
  s.setTherm (fun t => { t with sens := spSet (fun _ => {}) t.sens i x })
def State.treg (s : State) (r : Nat) : ThermRegion := spGet (fun _ => {}) s.therm.regions r
def State.setTreg (s : State) (r : Nat) (x : ThermRegion) : State :=
  s.setTherm (fun t => { t with regions := spSet (fun _ => {}) t.regions r x })

def State.thermReject (s : State) (off v : Nat) : State := s.reject THERM_STATUS_CFG_REJECT srcTherm off v

/-- Private test instruction RANGER_HALT has stopped the ranger (R524). -/
def State.rangerUp (s : State) : Bool := !s.jtag.halted

/-! ### Codes (R464, R465, R470) -/

/-- Words of THERM_CALV that hold the codes of a region (R464, R470). -/
def regionWords (r : Nat) : List Nat :=
  (match r with
    | 0 => List.range 30
    | 1 => tabulate 30 (fun i => 30 + i)
    | 2 => [60, 61, 62, 65, 66, 67, 70, 71, 72, 104, 105]
    | 3 => tabulate 8 (fun i => 80 + i)
    | 4 => tabulate 8 (fun i => 88 + i)
    | _ => []) ++ [96 + r]

/-- Codes in a word of THERM_CALV. -/
def wordFields (w : Nat) : Nat :=
  if w < 75 then 4
  else if 80 ≤ w && decide (w < 96) then (if w % 2 = 0 then 3 else 1)
  else if 96 ≤ w && decide (w < 104) then 3
  else if w = 104 || w = 105 then 2
  else 0

/-- Is the code of a word signed: a reference trim? -/
def isTrim (w : Nat) : Bool := decide (96 ≤ w) && decide (w < 104)

/-- The least and greatest value of a code of a word, and its width. -/
def codeRange (w : Nat) : Int × Int := if isTrim w then (-128, 127) else (0, 63)
def codeWidth (w : Nat) : Nat := if isTrim w then 8 else 6

/-- Numbers of the codes of a region: 4 × word + field. -/
def regionCodes (r : Nat) : List Nat :=
  (regionWords r).flatMap (fun w => tabulate (wordFields w) (fun f => 4 * w + f))

/-- The region of a code's word. -/
def codeRegion (w : Nat) : Option Nat := firstIdx 8 (fun r => (regionWords r).contains w)

/-- A code before any run: its fuse default (R468). [DESIGN CHOICE, log 145] -/
def defaultCode (key : Nat) : Int :=
  if isTrim (key / 4) then signed 8 (Config.defaultCode key) else ((Config.defaultCode key % 64 : Nat) : Int)

/-- The code in force. -/
def State.code (s : State) (key : Nat) : Int := spGet defaultCode s.therm.codes key
def State.setCode (s : State) (key : Nat) (v : Int) : State :=
  s.setTherm (fun t => { t with codes := spSet defaultCode t.codes key v })

/-- A code's target; the code itself when no run has set one. -/
def State.codeTarget (s : State) (key : Nat) : Int :=
  (spGet (fun _ => none) s.therm.targets key).getD (s.code key)
def State.setTarget (s : State) (key : Nat) (v : Option Int) : State :=
  s.setTherm (fun t => { t with targets := spSet (fun _ => none) t.targets key v })

/-- PCI Express and Ethernet PHY codes are applied in M2 TRAIN only (R465). -/
def phyWord (w : Nat) : Bool := w == 104 || w == 105

/-- Does every code of a region equal its target (R465)? -/
def State.codesSettled (s : State) (r : Nat) : Bool :=
  (regionCodes r).all (fun k => s.code k == s.codeTarget k || (phyWord (k / 4) && s.mode != 2))

/-- A word of THERM_CALV as it reads but for its CRC (R470). -/
def State.calvBody (s : State) (i : Nat) : Nat :=
  let made :=
    if 112 ≤ i && decide (i < 120) then s.rd (THERM_REGION_CAL_T (i - 112))
    else if i = 120 then (s.reg TOP_ID.off).toNat
    else (List.range (wordFields i)).foldl (fun n f =>
      n + toBits (codeWidth i) (s.code (4 * i + f)) * 2 ^ (8 * f)) 0
  if s.mode = 1 then (match spFind s.therm.window i with
    | some v => v.toNat
    | none => made) else made

/-- The CRC of words 0 to 510 of THERM_CALV (R74, R470). -/
def State.calvCrc (s : State) : Nat := crc32 ((List.range 511).flatMap (fun i => leBytes 4 (s.calvBody i)))

/-- A word of THERM_CALV as it reads. [DEDUCED, log 146] -/
def State.calvRead (s : State) (i : Nat) : Nat :=
  if i = 511 then
    (match (if s.mode = 1 then spFind s.therm.window 511 else none) with
      | some v => v.toNat
      | none => s.calvCrc)
  else s.calvBody i

/-- A write of THERM_CALV in M1 BOOT (R470); elsewhere it is ignored. [DEDUCED, log 146] -/
def State.calvWrite (s : State) (i : Nat) (v : Word) : State :=
  if s.mode = 1 then s.setTherm (fun t => { t with window := spInsert t.window i v, written := true })
  else s.thermReject (0x61000 + 4 * i) v.toNat

/-! ### Runs (R467 to R470) -/

/-- STEPPING of a region and CAL_BUSY follow the run in progress. -/
def State.showRun (s : State) : State :=
  let s := (List.range 8).foldl (fun s r =>
    s.wr (THERM_REGION_STATUS_STEPPING r) (match s.therm.run with
      | some c => if c.region = r then (if c.measuring then 1 else 2) else 0
      | none => 0)) s
  s.wr THERM_STATUS_CAL_BUSY (b2n s.therm.run.isSome)

/-- Runs go one at a time, in ascending region order, in M2 TRAIN to M11 HALT (R467, R484). -/
def State.calStart (s : State) : State :=
  if s.therm.run.isSome || decide (s.mode < 2) || !s.rangerUp then s
  else
    match firstIdx 8 (fun r => s.therm.pend.contains r) with
    | none => s
    | some r =>
      let c : CalRun := ⟨r, s.now, s.now, true, false, false⟩
      (s.setTherm (fun t => { t with pend := t.pend.filter (· != r), run := some c })).showRun

/-- A trigger for a region (R467): it starts a run, or is merged into one in progress or waiting. -/
def State.calTrigger (s : State) (r : Nat) : State :=
  if s.mode < 2 then s
  else
    match s.therm.run with
    | some c =>
      if c.region = r then
        let c := if c.measuring then { c with again := true } else { c with measuring := true, start := s.now }
        (s.setTherm (fun t => { t with run := some c })).showRun
      else if s.therm.pend.contains r then s
      else s.setTherm (fun t => { t with pend := r :: t.pend })
    | none =>
      (if s.therm.pend.contains r then s else s.setTherm (fun t => { t with pend := r :: t.pend })).calStart

/-- Every region's run is due: a reset has been applied (R467). -/
def State.calAll (s : State) : State :=
  (s.setTherm (fun t =>
    { t with pend := List.range 8, fresh := List.range 8, run := none, rejected := false })).showRun

/-- A run whose codes equal their targets is complete, and the next begins (R465). -/
def State.calSettle (s : State) : State :=
  match s.therm.run with
  | some c =>
    if !c.measuring && s.codesSettled c.region then
      ((s.setTherm (fun t => { t with run := none })).showRun).calStart
    else s
  | none => s

/-- CAL_GO (R467): a write of CAL_GO, for every region in CAL_REGIONS. -/
def State.calGo (s : State) : State :=
  let m := s.rd THERM_CTRL_CAL_REGIONS
  (List.range 8).foldl (fun s r => if bitAt m r then s.calTrigger r else s) s

/-- CAL_GO (R467). -/
def execCalGo (s : State) : Host.Outcome State Fault Refusal := .next s.calGo

/-- A measured target of a code, clamped to its range with fault 0xA001 (R469). -/
def State.takeTarget (s : State) (r key : Nat) (v : Int) : State :=
  let w := key / 4
  let lim := codeRange w
  let c := clampI lim.1 lim.2 v
  let s := s.setTarget key (some c)
  if c = v then s else (s.set1 THERM_STATUS_CAL_RAIL).fault srcTherm 0xA001 (slot1 r ++ slot1 w)

/-- The restored window is discarded (R470). -/
def State.calvReject (s : State) (why word : Nat) : State :=
  let s := s.setTherm (fun t => { t with window := [], written := false, rejected := true })
  (s.set1 THERM_STATUS_RESTORE_REJECTED).fault srcTherm 0xA003 (slot1 why ++ slot1 word)

/-- The field of a restored word as a code. -/
def State.restored (s : State) (key : Nat) : Int :=
  let w := key / 4
  let v := match spFind s.therm.window w with
    | some x => x.toNat
    | none => 0
  let n := bitsAt v (8 * (key % 4)) (codeWidth w)
  if isTrim w then signed 8 n else (n : Int)

/-- The window as written has the CRC and TOP_ID it should: else the reason and the word (R470).
[DEDUCED, log 146] -/
def State.windowBad (s : State) : Option (Nat × Nat) :=
  let w (i : Nat) : Nat := match spFind s.therm.window i with
    | some v => v.toNat
    | none => 0
  if crc32 ((List.range 511).flatMap (fun i => leBytes 4 (w i))) != w 511 then some (0, 511)
  else if w 120 != (s.reg TOP_ID.off).toNat then some (1, 120)
  else none

/-- The first run of a region after a reset verifies restored codes against their targets (R470): codes
within 2 steps of them are taken. -/
def State.restoreCheck (s : State) (r : Nat) : State :=
  if !s.on THERM_CTRL_CAL_RESTORE || s.therm.rejected || !s.therm.fresh.contains r then s
  else
    match s.windowBad with
    | some (why, word) => s.calvReject why word
    | none =>
      match (regionCodes r).find? (fun k => decide (2 < (s.restored k - s.codeTarget k).natAbs)) with
      | some k => s.calvReject 2 (k / 4)
      | none => (regionCodes r).foldl (fun s k => s.setCode k (s.restored k)) s

/-- CAL_AGE of a region's lanes starts again (R467). -/
def State.lanesMeasured (s : State) (r : Nat) : State :=
  (regionWords r).foldl (fun s w =>
    if w < 75 then s.setLane (w / 5) (w % 5) { s.lane (w / 5) (w % 5) with calAt := s.now } else s) s

/-- CAL_MEASURE_DONE (R465, R468 to R470): 200 µs after it began the measurement of a run ends. `ohms` is what
ZQREF measures, `targets` the target of each code by its number; a code not named keeps its value. -/
def execCalMeasureDone (ohms : BitVec 32) (targets : List (Nat × Int)) (s : State) :
    Host.Outcome State Fault Refusal :=
  match s.therm.run with
  | none => .next s
  | some c =>
    if !c.measuring || decide (s.now < c.start + 200 * ticksPerUs) || !s.rangerUp then .next s
    else
      let r := c.region
      let bad := decide (ohms.toNat < 1900) || decide (2100 < ohms.toNat)
      let s :=
        if bad then
          let s := (s.set1 THERM_STATUS_ZQREF_ERR).fault srcTherm 0xA002 (slot1 ohms.toNat)
          if s.therm.noCodes.contains r then s.set1 THERM_STATUS_CAL_DEGRADED else s
        else
          let s := s.wr THERM_STATUS_CAL_DEGRADED 0
          let s := targets.foldl (fun s (t : Nat × Int) =>
            if (regionCodes r).contains t.1 then s.takeTarget r t.1 t.2 else s) s
          s.restoreCheck r
      let s := s.setTherm (fun t =>
        { t with fresh := t.fresh.filter (· != r)
                 noCodes := if bad then t.noCodes else t.noCodes.filter (· != r) })
      let s := s.wr (THERM_REGION_CAL_T r) (s.rd (THERM_REGION_TEMP_TEMP r))
      let s := (s.setTreg r { s.treg r with measured := s.now }).lanesMeasured r
      let c := if c.again then { c with start := s.now, again := false } else { c with measuring := false }
      .next ((s.setTherm (fun t => { t with run := some c })).showRun).calSettle

/-- Lane group of a lane's word, as a key of spacing. -/
def State.gapGroup (s : State) (w : Nat) : Option Nat :=
  let n := w / 5
  (s.groupsOf n).find? (fun g => (s.activeLanes n g).contains (w % 5)) |>.map (fun g => 2 * n + g)

/-- May a boundary that began at tick `t`, or begins now, be used by a spacing of `d` ticks? -/
def spaced (now d : Nat) (last : Option Nat) : Bool :=
  match last with
  | some t => t == now || decide (t + d ≤ now)
  | none => true

/-- Reference trims step at frame boundaries of FRAME_GEN, or while it is OFF or RUN is 0 at whole
milliseconds of the tick count (R465). [DEDUCED, log 148] -/
def State.trimBoundary (s : State) : Bool :=
  (s.on TIMELINE_CTRL_RUN && s.on (TIMELINE_FRAME_CTRL_SRC (s.rd THERM_LIMITS_FRAME_GEN)))
    || s.now % 400000 == 0

/-- Does the state allow the boundary of a code's kind (R465, R466)? With the spacing key to note.
[DEDUCED, log 148] -/
def State.stepAllowed (s : State) (w : Nat) : Bool × Option Nat :=
  if w < 75 then
    let n := w / 5
    if s.on (ZL_STATUS_TX_IDLE n) || s.on (ZL_STATUS_RX_IDLE n) then (false, none)
    else
      match s.gapGroup w with
      | none => (true, none)
      | some g =>
        let gap := s.rd THERM_CFG_GAP_SPACING * ticksPerUs
        let others := (List.range 30).all (fun h =>
          h / 2 == n || spaced s.now (2 * ticksPerUs) (spGet (fun _ => none) s.therm.stepAt h))
        (others && spaced s.now gap (spGet (fun _ => none) s.therm.stepAt g), some g)
  else if 80 ≤ w && decide (w < 96) then
    let key := 32 + (w - 80) / 2
    (!s.inSelfRefresh && spaced s.now (100 * ticksPerUs) (spGet (fun _ => none) s.therm.stepAt key), some key)
  else if isTrim w then (s.trimBoundary, none)
  else (s.mode == 2, none)

/-- One step of `a` toward `b`. -/
def stepToward (a b : Int) : Int := if a < b then a + 1 else if b < a then a - 1 else a

/-- CAL_CODE_STEP (R465, R466, R481): a boundary of a code's kind comes; `key` is 4 × THERM_CALV word + field,
and word 511 stands for REF_TRIM. -/
def execCalCodeStep (key : Fin 2048) (s : State) : Host.Outcome State Fault Refusal :=
  let k := key.val
  let w := k / 4
  if w = 511 then
    if s.trimBoundary then .next (s.wrS THERM_REF_TRIM (stepToward (s.rdS THERM_REF_TRIM) s.therm.ref)) else .next s
  else
    match s.therm.run with
    | none => .next s
    | some c =>
      let ok := s.stepAllowed w
      if c.measuring || codeRegion w != some c.region || decide (wordFields w ≤ k % 4) || !ok.1
          || s.code k == s.codeTarget k then .next s
      else
        let s := s.setCode k (stepToward (s.code k) (s.codeTarget k))
        let s := s.bump (THERM_REGION_STATUS_STEPS c.region)
        let s := match ok.2 with
          | some g => s.setTherm (fun t => { t with stepAt := spSet (fun _ => none) t.stepAt g (some s.now) })
          | none => s
        .next s.calSettle

/-- CAL_SLOW (R467): a run has not completed within 100 ms. -/
def execCalSlow (s : State) : Host.Outcome State Fault Refusal :=
  match s.therm.run with
  | some c =>
    if c.slow || decide (s.now < c.since + 100000 * ticksPerUs) then .next s
    else .next ((s.setTherm (fun t => { t with run := some { c with slow := true } })).fault srcTherm 0xA004
      (slot1 c.region))
  | none => .next s

/-! ### Sensors (R471 to R475) -/

def roleVoter : Nat := 0
def roleSpare : Nat := 1
def roleRetired : Nat := 2

def State.sensRole (s : State) (i : Nat) : Nat := s.rd (THERM_SENSOR_STATE_ROLE i)
def State.sensBroken (s : State) (i : Nat) : Bool := s.on (THERM_SENSOR_STATE_BROKEN i)
def State.reading (s : State) (i : Nat) : Int := s.rdS (THERM_SENSOR_READING i)

/-- Sensors of a region. -/
def regionSensors (r : Nat) : List Nat := [3 * r, 3 * r + 1, 3 * r + 2]

/-- The VOTER of a region (R472). -/
def State.voter (s : State) (r : Nat) : Option Nat := (regionSensors r).find? (fun i => s.sensRole i == roleVoter)

/-- The SPAREs of a region. -/
def State.sparesOf (s : State) (r : Nat) : List Nat := (regionSensors r).filter (fun i => s.sensRole i == roleSpare)

/-- A sensor takes a role, with fault 0xA021 (R474). -/
def State.takeRole (s : State) (i role : Nat) : State :=
  let old := s.sensRole i
  let s := (s.wr (THERM_SENSOR_STATE_ROLE i) role).fault srcTherm 0xA021 (slot1 i ++ slot1 old ++ slot1 role)
  s.wr (THERM_REGION_STATUS_SPARES (i / 3)) (s.sparesOf (i / 3)).length

/-- A VOTER leaves, and the lowest SPARE takes its place; the critical count starts again (R474, R477). -/
def State.retireVoter (s : State) (i : Nat) : State :=
  let r := i / 3
  match s.sparesOf r with
  | [] => s
  | n :: _ =>
    let s := (s.takeRole i roleRetired).takeRole n roleVoter
    let s := s.setTreg r { s.treg r with crit := 0, disagree := 0 }
    if (s.sparesOf r).isEmpty then s.fault srcTherm 0xA022 (slot1 r) else s

/-- SENSOR_ROLE (R474): the ranger acts on a broken sensor. -/
def execSensorRole (i : Fin 24) (s : State) : Host.Outcome State Fault Refusal :=
  let i := i.val
  let role := s.sensRole i
  if !s.sensBroken i || role = roleRetired || !s.rangerUp then .next s
  else if role = roleVoter && (s.sparesOf (i / 3)).isEmpty then .next s
  else
    let s := s.fault srcTherm 0xA020 (slot1 i ++ slot1 (s.rd (THERM_SENSOR_STATE_REASON i)))
    if role = roleVoter then .next (s.retireVoter i)
    else
      let s := s.takeRole i roleRetired
      .next (if (s.sparesOf (i / 3)).isEmpty then s.fault srcTherm 0xA022 (slot1 (i / 3)) else s)

/-- Comparators that count: forced by a broken sensor, else at 118 °C (R478). -/
def State.comparator (s : State) (i : Nat) : Bool := s.on (THERM_SENSOR_STATE_COMPARATOR i)

/-- A region trips (R478). -/
def State.regionTrips (s : State) (r : Nat) : Bool :=
  let live := (regionSensors r).filter (fun i => s.sensRole i != roleRetired)
  let active := (live.filter s.comparator).length
  live.isEmpty || decide (2 ≤ active) || (live.length == 1 && active == 1)

/-- The comparators take new levels (R478). -/
def State.takeComparators (s : State) (comps : Nat) : State :=
  let s := (List.range 24).foldl (fun s i =>
    s.wr (THERM_SENSOR_STATE_COMPARATOR i) (b2n (bitAt comps i || s.sensBroken i))) s
  (List.range 8).foldl (fun s r => s.wr (THERM_REGION_STATUS_TRIP_VOTE r) (b2n (s.regionTrips r))) s

/-- THERMAL_TRIP (R478): comparators are at new levels; when a region trips every clock stops and
THERMTRIP_N falls until the next POR. -/
def execThermalTrip (comps : BitVec 24) (s : State) : Host.Outcome State Fault Refusal :=
  let s := s.takeComparators comps.toNat
  if (List.range 8).any s.regionTrips then .next (s.setTherm (fun t => { t with tripped := true })) else .next s

/-- A sensor is found broken (R473). -/
def State.sensorBreaks (s : State) (i reason : Nat) : State :=
  let s := (s.set1 (THERM_SENSOR_STATE_BROKEN i)).wr (THERM_SENSOR_STATE_REASON i) reason
  (s.wr (THERM_SENSOR_READING i) 0x07D0).set1 (THERM_SENSOR_STATE_COMPARATOR i)

/-- One conversion of a sensor (R471, R473). -/
def State.convert (s : State) (i : Nat) (done stuck : Bool) (raw : Nat) : State :=
  let x := s.tsens i
  if s.sensBroken i then s
  else if !done then
    if x.last + 1000 * ticksPerUs ≤ s.now then s.sensorBreaks i 2 else s
  else
    let n := if stuck then x.stuck + 1 else 0
    let s := s.setTsens i { stuck := n, last := s.now }
    let v := signed 16 raw
    if v < -640 || decide (2400 < v) then s.sensorBreaks i 0
    else if 16 ≤ n then s.sensorBreaks i 1
    else s.wr (THERM_SENSOR_READING i) raw

/-! ### Warning, critical stop (R475 to R477) -/

/-- A count of consecutive conversions, kept at 4. [DEDUCED, log 147] -/
def count4 (n : Nat) (p : Bool) : Nat := if p then min 4 (n + 1) else 0

/-- The VOTER of a region disagrees with agreeing SPAREs (R475). -/
def State.voterDisagrees (s : State) (r v : Nat) : Bool :=
  let lim : Int := s.rd THERM_LIMITS_AGREE * 16
  let sp := (s.sparesOf r).map s.reading
  !sp.isEmpty && sp.all (fun a => decide (lim < ((s.reading v - a).natAbs : Int)))
    && sp.all (fun a => sp.all (fun b => decide (((a - b).natAbs : Int) ≤ lim)))

/-- The tests of a region after a conversion of its VOTER. [DEDUCED, log 147] -/
def State.regionTests (s : State) (r v : Nat) : State :=
  let t := s.reading v
  let s := s.wrS (THERM_REGION_TEMP_TEMP r) t
  let s := if s.rdS (THERM_REGION_TEMP_MAX r) < t then s.wrS (THERM_REGION_TEMP_MAX r) t else s
  let x := s.treg r
  let warn : Int := s.rd THERM_LIMITS_WARN * 16
  let crit : Int := s.rd THERM_LIMITS_CRIT * 16
  let hyst : Int := s.rd THERM_LIMITS_HYST * 16
  let x := { x with
    warn := count4 x.warn (decide (warn ≤ t)), cool := count4 x.cool (decide (t < warn - hyst))
    crit := count4 x.crit (decide (crit ≤ t)), calm := count4 x.calm (decide (t < crit - hyst))
    disagree := if s.voterDisagrees r v then x.disagree + 1 else 0 }
  let s := s.setTreg r x
  if s.mode = 0 then s
  else
    let warnF : Fld := ⟨THERM_STATUS.off, r, 1⟩
    let critF : Fld := ⟨THERM_STATUS.off, 8 + r, 1⟩
    let s := if x.warn = 4 && !s.on warnF then
        ((s.set1 warnF).fault srcTherm 0xA010 (slot1 r ++ slotI t)).occur 255
      else if x.cool = 4 then s.wr warnF 0 else s
    if x.crit = 4 && !s.on critF then
      ((s.set1 critF).fault srcTherm 0xA011 (slot1 r ++ slotI t)).haltFor 4 0 0
    else if x.calm = 4 then s.wr critF 0 else s

/-- The VOTER that has disagreed for 400 conversions is retired (R475). -/
def State.disagreement (s : State) (r v : Nat) : State :=
  if (s.treg r).disagree < 400 || !s.rangerUp then s
  else
    let sp := (s.sparesOf r).map s.reading
    let t := s.reading v
    let s := s.retireVoter v
    s.fault srcTherm 0xA023 (slot1 v ++ slotI t ++ slotI (rneDiv sp.sum sp.length))

/-- The triggers of a run by temperature and age (R467). -/
def State.calDrift (s : State) (r v : Nat) : State :=
  if !s.on THERM_CTRL_AUTO_CAL then s
  else
    let drift := (s.rdS (THERM_REGION_TEMP_TEMP r) - s.rdS (THERM_REGION_CAL_T r)).natAbs
    let max := s.rd THERM_CFG_CAL_MAX
    let old := max != 0 && decide ((s.treg r).measured + max * 60000000 * ticksPerUs ≤ s.now)
    let running := match s.therm.run with
      | some c => c.region == r
      | none => false
    if !running && (old || (decide (s.rd THERM_CFG_CAL_DT < drift) && !s.sensBroken v)) then s.calTrigger r else s

/-! ### The temperature table (R480 to R482) -/

def State.tabTemp (s : State) (k : Nat) : Int := s.rdS (THERM_TABLE_ENTRY0_TEMP k)
def State.tabValid (s : State) (k : Nat) : Bool := s.on (THERM_TABLE_ENTRY0_VALID k)

/-- Leading VALID entries of the table. -/
def State.tabLen (s : State) : Nat := (firstIdx 16 (fun k => !s.tabValid k)).getD 16

/-- A value of the table at a temperature (R480). -/
def State.interpolate (s : State) (f : Nat → Int) (t : Int) : Int :=
  let n := s.tabLen
  if n = 0 then 0
  else if t < s.tabTemp 0 then f 0
  else if s.tabTemp (n - 1) ≤ t then f (n - 1)
  else
    match firstIdx (n - 1) (fun k => decide (s.tabTemp k ≤ t) && decide (t < s.tabTemp (k + 1))) with
    | some k => f k + rneDiv ((t - s.tabTemp k) * (f (k + 1) - f k)) (s.tabTemp (k + 1) - s.tabTemp k)
    | none => f (n - 1)

/-- CORR and the target of REF_TRIM take new values (R480, R481). -/
def State.setCorr (s : State) (corr ref : Int) : State :=
  let s := s.wrS THERM_CORR corr
  let s := s.setTherm (fun t => { t with ref := ref })
  { s with net := { s.net with tcorrTo := corr } }

/-- The targets follow T_xo (R480): they hold while the source region's VOTER is broken. -/
def State.xoUpdate (s : State) : State :=
  if !s.on THERM_CTRL_TABLE_EN || !s.rangerUp then s
  else
    let r := s.rd THERM_LIMITS_XO_REGION
    let broken := match s.voter r with
      | some v => s.sensBroken v
      | none => true
    let region := !s.on THERM_LIMITS_XO_SRC
    if region && broken then s
    else
      let t := if region then s.rdS (THERM_REGION_TEMP_TEMP r) else s.rdS THERM_XO_TEMP
      s.setCorr (s.interpolate (fun k => s.rdS (THERM_TABLE_ENTRY1 k)) t)
        (s.interpolate (fun k => s.rdS (THERM_TABLE_ENTRY0_REF_TRIM k)) t)

/-- The first entry at which the table fails its check (R482). -/
def State.tabFails (s : State) : Option Nat :=
  let n := s.tabLen
  if n < 2 then some n
  else firstIdx 16 (fun k =>
    (decide (n < k) && s.tabValid k) || (decide (0 < k) && decide (k < n) && decide (s.tabTemp k ≤ s.tabTemp (k - 1))))

/-- A write of TABLE_EN (R482). -/
def State.tableEnable (s : State) (en : Bool) : State :=
  if !en then (s.wr THERM_CTRL_TABLE_EN 0).setCorr 0 0
  else if s.on THERM_CTRL_TABLE_EN then s
  else
    match s.tabFails with
    | some k => (s.set1 THERM_STATUS_TABLE_ERR).fault srcTherm 0xA030 (slot1 k)
    | none => s.set1 THERM_CTRL_TABLE_EN

/-- TABLE_ENABLE (R482): a write of TABLE_EN = 1. -/
def execTableEnable (s : State) : Host.Outcome State Fault Refusal := .next (s.tableEnable true)

/-- SENSOR_CONVERSION (R471 to R477, R480): each sensor ends its conversion, or does not (`done`), with
identical raw codes of its chopper phases or not (`stuck`), a reading in signed 12.4 °C, and the level of
its comparator. -/
def execSensorConversion (done stuck comps : BitVec 24) (readings : BitVec 384) (s : State) :
    Host.Outcome State Fault Refusal :=
  let was := (List.range 24).map s.sensBroken
  let s := (List.range 24).foldl (fun s i =>
    s.convert i (bitAt done.toNat i) (bitAt stuck.toNat i) (bitsAt readings.toNat (16 * i) 16)) s
  let s := s.takeComparators comps.toNat
  let s := (List.range 8).foldl (fun s r =>
    match s.voter r with
    | some v =>
      if bitAt done.toNat v || s.sensBroken v || nth false was v then
        ((s.regionTests r v).disagreement r v).calDrift r v
      else s
    | none => s) s
  .next (if s.on THERM_LIMITS_XO_SRC then s else s.xoUpdate)

/-- AGEING_MEASURE (R483): the loss of a region's ring oscillator, in ppm. -/
def execAgeingMeasure (r : Fin 8) (ppm : BitVec 32) (s : State) : Host.Outcome State Fault Refusal :=
  let r := r.val
  if !s.rangerUp then .next s
  else
    let s := s.wr (THERM_REGION_AGE_PPM r) ppm.toNat
    let lim := s.rd THERM_AGE_WARN
    let x := s.treg r
    if lim != 0 && decide (lim < ppm.toNat) && !x.aged then
      .next ((s.setTreg r { x with aged := true }).fault srcTherm 0xA040 (slot1 r ++ slot1 ppm.toNat))
    else .next s

/-- A WARM reset of the thermal block (R484): values, roles and the table stay, counts restart, and every
region's run is due. -/
def State.thermReset (s : State) : State :=
  let s := s.resetRegs keptWarm 0x60000 0x70000
  let regions := s.therm.regions.filterMap (fun (e : Nat × ThermRegion) =>
    let x : ThermRegion := { measured := e.2.measured, aged := e.2.aged }
    if x = {} then none else some (e.1, x))
  let s := s.setTherm (fun t =>
    { t with sens := t.sens.filterMap (fun (e : Nat × ThermSensor) =>
               let x : ThermSensor := { last := s.now }
               if x = {} then none else some (e.1, x))
             regions := regions, window := [], written := false, stepAt := [] })
  s.calAll.xoUpdate

end Sys2Proof.Machine
end

