-- ==== Sys2Proof/Machine/Sec.lean ====
section
/-! DEFINITION. The endpoint, MSI-X, boot, the ranger's mailbox and fuses (chapter 17). -/

namespace Sys2Proof.Machine

open Sys2Proof

def State.setSec (s : State) (f : Sec → Sec) : State := { s with sec := f s.sec }

def State.secReject (s : State) (off v : Nat) : State := s.reject SEC_STATUS_CFG_REJECT srcSec off v

/-! ### The endpoint (R485, R489, R504) -/

/-- The endpoint is reset (R489): link, configuration space, MSI-X table and pending bits.
[DEDUCED, log 139; DEDUCED, log 153] -/
def State.endpointReset (s : State) : State :=
  let s := s.resetRegs (fun _ => false) 0x78000 0x79020
  let s := ((s.wr SEC_PCIE_WIDTH 0).wr SEC_PCIE_SPEED 0).wr SEC_PCIE_LINK_UP 0
  ((s.wr SEC_PCIE_BME 0).wr SEC_PCIE_MSIX_EN 0).wr SEC_PCIE_FUNC_MASK 0

/-- PERST_FALL (R489): the endpoint is held in reset; inspection goes on. -/
def execPerstFall (s : State) : Host.Outcome State Fault Refusal :=
  .next (s.setSec (fun x => { x with perst := false })).endpointReset

/-- PERST_RISE (R489): the endpoint has been reset, and PERST_SEEN is set. -/
def execPerstRise (s : State) : Host.Outcome State Fault Refusal :=
  .next ((s.setSec (fun x => { x with perst := true })).endpointReset.set1 SEC_PCIE_PERST_SEEN)

/-- PCIE_LINK_UP (R504): the link trains with a width and a speed; below ×16 or 32 GT/s is recorded. -/
def execPcieLinkUp (width : Fin 32) (speed : Fin 8) (s : State) : Host.Outcome State Fault Refusal :=
  if !s.sec.perst || s.on SEC_PCIE_LINK_UP then .next s
  else
    let s := ((s.wr SEC_PCIE_WIDTH width.val).wr SEC_PCIE_SPEED speed.val).set1 SEC_PCIE_LINK_UP
    if width.val < 16 || speed.val < 5 then
      .next (s.fault srcSec 0xB041 (slot1 width.val ++ slot1 speed.val))
    else .next s

/-- PCIE_LINK_DOWN (R504, R511): an up link goes down while PERST_N is high. -/
def execPcieLinkDown (s : State) : Host.Outcome State Fault Refusal :=
  if !s.sec.perst || !s.on SEC_PCIE_LINK_UP then .next s
  else
    let s := ((s.wr SEC_PCIE_WIDTH 0).wr SEC_PCIE_SPEED 0).wr SEC_PCIE_LINK_UP 0
    .next (s.fault srcSec 0xB040 [])

/-! ### MSI-X (R490) -/

/-- Pending vectors that are no longer masked send one message each (R490). -/
def State.msixSweep (s : State) : State :=
  (List.range 256).foldl (fun s v => if s.on (msixPba v) && s.msixOpen v then s.msixSend v else s) s

/-- MSIX_REQUEST (R490). -/
def execMsixRequest (v : BitVec 8) (s : State) : Host.Outcome State Fault Refusal := .next (s.msix v.toNat)

/-- CONFIG_REQUEST (R490): Bus Master Enable, MSI-X enable and function mask take new values. -/
def execConfigRequest (bme msixEn mask : Bool) (s : State) : Host.Outcome State Fault Refusal :=
  if !s.sec.perst then .next s
  else
    let s := (s.wr SEC_PCIE_BME (b2n bme)).wr SEC_PCIE_MSIX_EN (b2n msixEn)
    .next (s.wr SEC_PCIE_FUNC_MASK (b2n mask)).msixSweep

/-! ### Boot (R491 to R496) -/

/-- BOOT_STATUS.STATE. -/
def bootSensing : Nat := 0
def bootLoading : Nat := 1
def bootVerifying : Nat := 2
def bootHold : Nat := 3
def bootDone : Nat := 4
def bootFailed : Nat := 5
def bootWaitHost : Nat := 6

def State.bootState (s : State) : Nat := s.rd SEC_BOOT_STATUS_STATE
def State.setBoot (s : State) (v : Nat) : State := s.wr SEC_BOOT_STATUS_STATE v

/-- The first source is the host (R491): the strap says so and HOST_BOOT_DIS is not blown. -/
def State.hostFirst (s : State) : Bool := s.on SEC_STRAPS_BOOT_SRC && !s.on SEC_LOCK_STATE_HOST_BOOT_DIS

/-- Firmware runs: the mode becomes M2 TRAIN and every region's run is due (R436, R467, R495). -/
def State.bootRun (s : State) : State := ((s.setBoot bootDone).modeNow 2).calStart

/-- May the ROM now check an image from a source: 0 flash A, 1 flash B, 2 host (R491)? -/
def State.bootTakes (s : State) (source : Nat) : Bool :=
  s.mode == 1 && (s.bootState == bootSensing || s.bootState == bootLoading || s.bootState == bootVerifying)
    && (if source = 2 then s.sec.hostBoot && s.on SEC_PCIE_BME
        else !s.sec.hostBoot && !s.hostFirst && !bitAt s.sec.tried source)

/-- An image is accepted (R495, R496). -/
def State.bootAccept (s : State) (source : Nat) (img : List Nat) : State :=
  let s := (s.wr SEC_BOOT_STATUS_SOURCE source).wr SEC_FW_INFO (imgVersion img)
  let s := (s.wr SEC_FW_IMAGE (imgId img)).wr SEC_FW_SVN_SVN (imgSvn img)
  let s := if source = 1 && bitAt s.sec.tried 0 then
      (s.set1 SEC_BOOT_STATUS_FALLBACK).fault srcSec 0xB003 (slot1 1)
    else s
  let s := s.setSec (fun x => { x with hostBoot := false })
  if s.on SEC_STRAPS_BOOT_HOLD then s.setBoot bootHold else s.bootRun

/-- An image is rejected (R494, R495): when every source has been tried, boot has failed. [DEDUCED, log 149] -/
def State.bootRejected (s : State) (source reason : Nat) : State :=
  let s := s.wr SEC_BOOT_STATUS_REASON reason
  let s := s.fault srcSec 0xB001 (slot1 (if source = 2 then 1 else 0) ++ slot1 (if source = 1 then 1 else 0)
    ++ slot1 reason)
  let tried := orNat 3 s.sec.tried (2 ^ source)
  let s := s.setSec (fun x => { x with tried := tried, hostBoot := false })
  if source = 2 || (bitAt tried 0 && bitAt tried 1) then
    ((s.setBoot bootFailed).set1 TOP_STATUS_ALERT).fault srcSec 0xB002 (slot1 tried)
  else s.setBoot bootLoading

/-- BOOT_IMAGE_CHECK (R491, R493 to R496): the ROM has read an image from flash copy A (0), copy B (1) or the
host (2); `readOk` when every read completed without error, `dirOk` when the directory could be read. -/
def execBootImageCheck (source : Fin 3) (image : List (BitVec 8)) (readOk dirOk : Bool) (s : State) :
    Host.Outcome State Fault Refusal :=
  if !s.bootTakes source.val then .next s
  else
    let img := image.map (fun b => b.toNat)
    let limit := if source.val = 2 then s.rd SEC_HOST_IMAGE_LEN else img.length
    match s.imageReason img limit readOk dirOk with
    | some why => .next (s.bootRejected source.val why)
    | none => .next (s.bootAccept source.val img)

/-- A write of HOST_GO (R491, R495). [DEDUCED, log 17] -/
def State.hostGo (s : State) : State :=
  if s.on SEC_LOCK_STATE_HOST_BOOT_DIS then s.secReject SEC_BOOT_CTRL.off 1
  else if s.mode = 1 && (s.bootState = bootWaitHost || s.bootState = bootFailed) then
    (s.setBoot bootLoading).setSec (fun x => { x with hostBoot := true })
  else s

/-- HOST_GO (R491). -/
def execHostGo (s : State) : Host.Outcome State Fault Refusal := .next s.hostGo

/-- A write of RELEASE (R496). -/
def State.bootRelease (s : State) : State :=
  if s.mode = 1 && s.bootState = bootHold then s.bootRun else s.secReject SEC_BOOT_CTRL.off 2

/-- BOOT_RELEASE (R496). -/
def execBootRelease (s : State) : Host.Outcome State Fault Refusal := .next s.bootRelease

/-! ### Fuses (R498, R501, R502) -/

/-- What other registers show of the fuses. -/
def State.showFuses (s : State) : State :=
  let w := s.rd (SEC_FUSE 14)
  let s := (s.wr SEC_LOCK_STATE_LOCK w).wr SEC_LOCK_STATE_DEBUG_LOCK (w / 2)
  let s := (s.wr SEC_LOCK_STATE_HOST_BOOT_DIS (w / 4)).wr SEC_FW_SVN_SVN_MIN s.svnMin
  (s.wr SEC_SUBSYS (s.rd (SEC_FUSE 15))).wr SEC_PCI_ID_VENDOR (s.rd (SEC_FUSE 19))

/-- Bits of a fuse word are blown: they never return to 0 (R498). -/
def State.blow (s : State) (w bits : Nat) : State :=
  (s.wr (SEC_FUSE w) (orNat 32 (s.rd (SEC_FUSE w)) bits)).showFuses

/-- Bits of a word that FUSE_PROGRAM may blow (R501). -/
def programmable (w : Nat) : Nat :=
  if w = 14 then 4 else if w = 15 then 0xFFFFFFFF else if 16 ≤ w && w ≤ 18 then 0xFFFFFFFF else 0

/-! ### The mailbox (R497, R498) -/

/-- RESULT values. -/
def mbOk : Nat := 0
def mbUnsupported : Nat := 1
def mbBadArg : Nat := 2
def mbDenied : Nat := 4
def mbFailed : Nat := 5

/-- A write of GO by a requester (R497). -/
def State.mboxGo (s : State) (r : Nat) : State :=
  if s.on SEC_MBOX_CTRL_BUSY || decide (s.mode ≤ 1) then s.secReject SEC_MBOX_CTRL.off 1
  else (s.set1 SEC_MBOX_CTRL_BUSY).setSec (fun x => { x with mboxReq := r, mboxAt := s.now, answer := none })

/-- The ranger has the answer of the command that waits. -/
def State.rangerReply (s : State) (result : Nat) (reply : List Nat) : State :=
  s.setSec (fun x => { x with answer := some (result, reply) })

/-- Does a command of an OP wait for the ranger? -/
def State.mboxWaits (s : State) (op : Nat) : Bool :=
  s.on SEC_MBOX_CTRL_BUSY && s.rd SEC_MBOX_CMD_OP == op && s.sec.answer.isNone && s.rangerUp

/-- An operation that its mode does not allow: the manual names no RESULT for it. [DESIGN CHOICE, log 151] -/
def State.mboxNotAllowed (s : State) : State :=
  let v := s.free 4
  v.2.rangerReply v.1 []

def State.mboxArg (s : State) (i : Nat) : Nat := s.rd (SEC_MBOX_DATA i)

/-- FW_INFO (R497). -/
def execFwInfo (s : State) : Host.Outcome State Fault Refusal :=
  if !s.mboxWaits 0x0001 then .next s
  else .next (s.rangerReply mbOk
    [s.rd SEC_FW_INFO, s.rd SEC_FW_SVN_SVN, s.rd SEC_FW_IMAGE, s.rd SEC_BOOT_STATUS_SOURCE])

/-- SELF_TEST (R497): a pipe, a quill spare or the seam buffer; `failing` is 0 or the failing address. -/
def execSelfTest (failing : BitVec 32) (s : State) : Host.Outcome State Fault Refusal :=
  if !s.mboxWaits 0x0002 then .next s
  else if s.mode != 10 then .next s.mboxNotAllowed
  else
    let u := s.mboxArg 0
    if u ≤ 12 || (0x100 ≤ u && u < 0x10C) || u = 0x200 then .next (s.rangerReply mbOk [failing.toNat])
    else .next (s.rangerReply mbBadArg [])

/-- A fuse operation needs the requester's SECURITY write permission (R497, R500). [DESIGN CHOICE, log 151] -/
def State.fuseAllowed (s : State) : Bool × State :=
  s.permit s.sec.mboxReq clsSecurity true SEC_MBOX_CTRL.off

/-- FUSE_PROGRAM (R498): bits of DATA1 are blown in word DATA0; `took` are those that hold. -/
def execFuseProgram (took : BitVec 32) (s : State) : Host.Outcome State Fault Refusal :=
  if !s.mboxWaits 0x0010 then .next s
  else
    let a := s.fuseAllowed
    let s := a.2
    let w := s.mboxArg 0
    let bits := s.mboxArg 1
    if !a.1 then .next (s.rangerReply mbDenied [])
    else if s.on SEC_LOCK_STATE_LOCK then
      .next ((s.fault srcSec 0xB031 (slot1 0x0010)).rangerReply mbDenied [])
    else if s.mode != 3 then .next s.mboxNotAllowed
    else if andNat 32 bits (programmable w) != bits then .next (s.rangerReply mbBadArg [])
    else
      let s := s.blow w (andNat 32 bits took.toNat)
      let back := s.rd (SEC_FUSE w)
      if andNat 32 back bits = bits then .next (s.rangerReply mbOk [back])
      else .next ((s.fault srcSec 0xB030 (slot1 w ++ slot1 back)).rangerReply mbFailed [back])

/-- Words 16 to 18 grant the host what LOCK asks for (R502). -/
def State.lockable (s : State) : Bool :=
  [2 * clsStatus, 2 * clsConfig + 1, 2 * clsJob + 1, 2 * clsSecurity].all s.fusedBit

/-- LOCK (R498, R502). -/
def execLock (s : State) : Host.Outcome State Fault Refusal :=
  if !s.mboxWaits 0x0011 then .next s
  else
    let a := s.fuseAllowed
    let s := a.2
    if !a.1 then .next (s.rangerReply mbDenied [])
    else if s.on SEC_LOCK_STATE_LOCK then
      .next ((s.fault srcSec 0xB031 (slot1 0x0011)).rangerReply mbDenied [])
    else if s.mode != 3 then .next s.mboxNotAllowed
    else if !s.lockable then .next (s.rangerReply mbDenied [])
    else .next ((s.blow 14 1).rangerReply mbOk [])

/-- DEBUG_LOCK (R504). -/
def execDebugLock (s : State) : Host.Outcome State Fault Refusal :=
  if !s.mboxWaits 0x0012 then .next s
  else
    let a := s.fuseAllowed
    let s := a.2
    if !a.1 then .next (s.rangerReply mbDenied [])
    else if s.mode != 3 then .next s.mboxNotAllowed
    else .next ((s.blow 14 2).rangerReply mbOk [])

/-- The lowest unblown bits of words 12 and 13 are blown until `n` bits more are. -/
def State.blowSvn : Nat → Nat → State → State
  | 0, _, s => s
  | k + 1, n, s =>
    if n = 0 then s
    else
      let b := 63 - k
      if bitAt (s.rd (SEC_FUSE (12 + b / 32))) (b % 32) then State.blowSvn k n s
      else State.blowSvn k (n - 1) (s.blow (12 + b / 32) (2 ^ (b % 32)))

/-- SVN_COMMIT (R498): SVN_MIN rises to the running image's SVN. -/
def execSvnCommit (s : State) : Host.Outcome State Fault Refusal :=
  if !s.mboxWaits 0x0013 then .next s
  else
    let a := s.fuseAllowed
    let s := a.2
    if !a.1 then .next (s.rangerReply mbDenied [])
    else if s.mode != 3 then .next s.mboxNotAllowed
    else
      let s := State.blowSvn 64 (s.rd SEC_FW_SVN_SVN - s.svnMin) s
      .next (s.rangerReply mbOk [s.svnMin])

/-- FLASH_UPDATE (R498): the image in DRAM is checked and written to the copy that did not boot; `verified`
when the flash holds it afterwards. [DEDUCED, log 152] -/
def execFlashUpdate (verified : Bool) (s : State) : Host.Outcome State Fault Refusal :=
  if !s.mboxWaits 0x0020 then .next s
  else if s.mode != 3 then .next s.mboxNotAllowed
  else
    let addr := s.mboxArg 0 + s.mboxArg 1 * 2 ^ 32
    let len := s.mboxArg 2
    if !s.dramFits addr len || decide (1048576 + 512 < len) then .next (s.rangerReply mbBadArg [])
    else
      let r := s.dramRead addr len clsMaint
      let s := r.2.2
      match s.imageReason r.1 len r.2.1.isNone true with
      | some _ => .next (s.rangerReply mbFailed [])
      | none =>
        let copy := if s.rd SEC_BOOT_STATUS_SOURCE = 0 then 1 else 0
        let s := { s with out := { s.out with flash := s.out.flash ++ [(copy, r.1)] } }
        .next (if verified then s.rangerReply mbOk [copy] else s.rangerReply mbFailed [])

/-- The OPs of the table of R497. -/
def mailboxOps : List Nat := [0x0001, 0x0002, 0x0010, 0x0011, 0x0012, 0x0013, 0x0020]

/-- MBOX_ANSWER (R497): the ranger writes RESULT and the reply; any other OP gives RESULT 1. -/
def execMboxAnswer (s : State) : Host.Outcome State Fault Refusal :=
  if !s.on SEC_MBOX_CTRL_BUSY || !s.rangerUp then .next s
  else
    let a := match s.sec.answer with
      | some a => some a
      | none => if mailboxOps.contains (s.rd SEC_MBOX_CMD_OP) then none else some (mbUnsupported, [])
    match a with
    | none => .next s
    | some (result, reply) =>
      let s := (List.range reply.length).foldl (fun s i => s.wr (SEC_MBOX_DATA i) (nth 0 reply i)) s
      let s := (s.wr SEC_MBOX_CTRL_BUSY 0).wr SEC_MBOX_CTRL_RESULT result
      let s := (s.set1 SEC_MBOX_CTRL_DONE).setSec (fun x => { x with answer := none })
      .next (if s.on SEC_MBOX_CTRL_IRQ_EN then s.msix (s.rd SEC_MBOX_CTRL_VECTOR) else s)

/-- MBOX_TIMEOUT (R497): no answer within 60 s. -/
def execMboxTimeout (s : State) : Host.Outcome State Fault Refusal :=
  if !s.on SEC_MBOX_CTRL_BUSY || decide (s.now < s.sec.mboxAt + 60000000 * ticksPerUs) then .next s
  else
    let s := (s.wr SEC_MBOX_CTRL_BUSY 0).set1 SEC_MBOX_CTRL_TIMEOUT
    let s := s.setSec (fun x => { x with answer := none })
    .next (s.fault srcSec 0xB050 (slot1 (s.rd SEC_MBOX_CMD_OP) ++ slot1 (s.rd SEC_MBOX_CMD_TAG)))

/-- A WARM reset of the SEC block (R445): boot result and protection state stay. -/
def State.secReset (s : State) : State :=
  let s := s.resetRegs keptWarm 0x70000 0x78000
  (s.setSec (fun x => { x with answer := none, deniedAt := [] }))

end Sys2Proof.Machine
end

