-- ==== Sys2Proof/Machine/View.lean ====
section
/-! DEFINITION. Registers as they read, without what a read itself does (R9, R11): the stored word, but for
fields that follow from the state and the windows that show other stores. -/

namespace Sys2Proof.Machine

open Sys2Proof

/-- Milliseconds since a tick, saturating. -/
def State.msSince (s : State) (t : Nat) : Nat := min ((s.now - t) / (1000 * ticksPerUs)) (2 ^ 32 - 1)

/-- Channels with a spare rank in SPARE_READY. -/
def State.spareChannels (s : State) : List Nat :=
  (List.range 8).filter (fun ch => (List.range 4).any (fun r => s.rd (rankStateF ch r) == rankSpareReady))

/-- Quills with a slot in SPARE_READY. -/
def State.spareQuills (s : State) : List Nat :=
  (List.range 12).filter (fun q => (List.range 17).any (fun t => s.rd (QUILL_SLOT_STATUS_STATE q t) == slotSpareReady))

/-- The number with the bits of a list set. -/
def bitMask (bs : List Nat) : Nat := bs.foldl (fun n b => n + 2 ^ b) 0

/-- TOP_SPARES (R453). -/
def State.viewSpares (s : State) : Nat :=
  b2n (s.rd (PIPE_STATUS_STATE 12) == pipeSpareReady) + 2 * bitMask s.spareQuills + 2 ^ 16 * bitMask s.spareChannels

/-- A 32-bit half of a 64-bit value. -/
def half (off n : Nat) : Nat := if off % 8 = 4 then n / 2 ^ 32 % 2 ^ 32 else n % 2 ^ 32

def State.viewTop (s : State) (off w : Nat) : Nat :=
  if off = TOP_SPARES.off then s.viewSpares
  else if 0x4000 ≤ off && decide (off < 0x6000) then (spGet (fun _ => 0) s.top.log ((off - 0x4000) / 4)).toNat
  else if 0x8000 ≤ off && decide (off < 0x9000) then (spGet (fun _ => 0) s.top.sumShown ((off - 0x8000) / 4)).toNat
  else w

def State.viewTimeline (s : State) (off w : Nat) : Nat :=
  if off / 8 = TIMELINE_TICK.off / 8 then half off s.now
  else if off / 8 = TIMELINE_POS.off / 8 then half off (toBits 64 s.pos16)
  else if off = TIMELINE_SCHED_STATUS.off then
    let n := s.schedUsed
    putBits (putBits w 0 12 (min n 2048)) 12 1 (b2n (decide (2048 ≤ n)))
  else if 0x10300 ≤ off && decide (off < 0x10400) && off % 0x20 == 0x1C then
    putBits w 0 5 (s.probe ((off - 0x10300) / 0x20)).fifo.length
  else if 0x10C00 ≤ off && decide (off < 0x10C40) && off % 0x10 == 4 then
    putBits w 0 5 (s.markerPending ((off - 0x10C00) / 0x10))
  else w

/-- EVENT_PINLVL (R348, R349). -/
def State.viewEvent (s : State) (off w : Nat) : Nat :=
  if off = EVENT_PINLVL.off then bitMask ((List.range 16).filter s.pinLevel) else w

def State.viewTherm (s : State) (off w : Nat) : Nat :=
  if 0x61000 ≤ off && decide (off < 0x61800) then s.calvRead ((off - 0x61000) / 4)
  else if 0x60100 ≤ off && decide (off < 0x60200) && off % 0x20 == 8 then
    s.msSince (s.treg ((off - 0x60100) / 0x20)).measured
  else w

/-- Word i of the effective matrix (R502). -/
def State.viewMatrix (s : State) (i : Nat) : Nat :=
  bitMask ((List.range 32).filter (fun j =>
    let b := 32 * i + j
    s.permitted (b / 12) (b % 12 / 2) (b % 2 == 1)))

def State.viewSec (s : State) (off w : Nat) : Nat :=
  if SEC_MATRIX0.off ≤ off && decide (off ≤ SEC_MATRIX2.off) then s.viewMatrix ((off - SEC_MATRIX0.off) / 4) else w

def State.viewZl (s : State) (off w : Nat) : Nat :=
  let n := (off - 0x100000) / 0x10000
  let o := off % 0x10000
  let l := (o - 0x100) / 0x40
  if 0x100 ≤ o && decide (o < 0x240) then
    if (o - 0x100) % 0x40 = 0 then putBits w 8 1 (b2n (s.inGap n l))
    else if (o - 0x100) % 0x40 = 0x24 then s.msSince (s.lane n l).calAt
    else w
  else w

/-- A register as it reads. [DESIGN CHOICE, log 1] -/
def State.viewReg (s : State) (off : Nat) : Word :=
  let w := (s.reg off).toNat
  BitVec.ofNat 32
    (if off < 0x10000 then s.viewTop off w
    else if off < 0x20000 then s.viewTimeline off w
    else if 0x30000 ≤ off && decide (off < 0x40000) then s.viewEvent off w
    else if 0x60000 ≤ off && decide (off < 0x70000) then s.viewTherm off w
    else if 0x70000 ≤ off && decide (off < 0x78000) then s.viewSec off w
    else if 0x100000 ≤ off && decide (off < 0x1F0000) then s.viewZl off w
    else w)

/-- A register as it reads, as a number. -/
def State.view (s : State) (f : Fld) : Nat := (s.viewReg f.off).toNat

end Sys2Proof.Machine
end

