-- ==== Sys2Proof/Machine/Recorder.lean ====
section
/-! DEFINITION. The fault recorder: records as the log and the ring hold them, and what recording a fault
does (R447 to R452, R463). -/

namespace Sys2Proof.Machine

open Sys2Proof

/-! ### Entries (R447, R448) -/

/-- Continuation entries: seven slots each. -/
def contEntries (seq : Nat) : Nat → List Nat → List (List Nat)
  | 0, _ => []
  | _, [] => []
  | k + 1, slots => (seq % 2 ^ 16 * 2 ^ 16 :: padTo 0 7 slots) :: contEntries seq k (slots.drop 7)

/-- The 32-byte entries of a record as eight words each: the record, then its continuation entries. -/
def FaultRec.entries (f : FaultRec) : List (List Nat) :=
  let more := contEntries f.seq 3 (f.slots.drop 2)
  let p := toBits 64 f.pos
  let head := [f.code % 2 ^ 16 + f.source % 2 ^ 8 * 2 ^ 16 + more.length * 2 ^ 24, f.epoch % 2 ^ 32,
    p % 2 ^ 32, p / 2 ^ 32, f.ptpNs % 2 ^ 32, f.ptpWrap % 2 ^ 16 + f.seq % 2 ^ 16 * 2 ^ 16]
  (head ++ padTo 0 2 f.slots) :: more

/-- The class of a fault: the top nibble of its code (R450). -/
def FaultRec.cls (f : FaultRec) : Nat := f.code / 0x1000

/-! ### Conditions that stay open (R463) -/

def openGroup (n g : Nat) : Nat := 0x10000 + 2 * n + g
def openPipe (p : Nat) : Nat := 0x20000 + p
def openNib (q t : Nat) : Nat := 0x30000 + 32 * q + t
def openPos : Nat := 0x40000
def openMig : Nat := 0x50000
def openAlert : Nat := 0x60000
def openHalt : Nat := 0x70000

/-- The condition that a record opens by its own code. -/
def FaultRec.opens (f : FaultRec) : Option Nat :=
  if f.code = 0x1042 then some (openGroup (nth 0 f.slots 0) (nth 0 f.slots 1))
  else if f.code = 0x2010 then some (openPipe (f.source - 0x20))
  else if f.code = 0x4021 || f.code = 0x4022 then some (openNib (nth 0 f.slots 0) (nth 0 f.slots 1))
  else if f.code = 0x9002 then some openPos
  else if f.code = 0x6010 then some openMig
  else none

/-- Does the condition of a key persist? -/
def State.persists (s : State) (k : Nat) : Bool :=
  let i := k % 0x10000
  match k / 0x10000 with
  | 1 => !s.groupUp (i / 2) (i % 2)
  | 2 => s.rd (PIPE_STATUS_STATE i) == pipeFailed && !s.sparedBy12 i
  | 3 => s.rd (QUILL_SLOT_STATUS_STATE (i / 32) (i % 32)) == slotFailed
      && decide (s.rd (QUILL_SLOT_STATUS_ROLE (i / 32) (i % 32)) < 16)
  | 4 => s.chain.posLost
  | 5 => s.dram.mig.isSome
  | 6 => s.on TOP_STATUS_ALERT
  | 7 => s.mode == 11
  | _ => false

/-- The newest record of a condition. -/
def State.noteOpen (s : State) (k : Nat) (f : FaultRec) : State :=
  { s with top := { s.top with
      openFaults := s.top.openFaults.filter (fun e => e.1 != k) ++ [(k, nth [] f.entries 0)] } }

/-! ### Log and ring (R451, R452) -/

/-- The log takes an entry at WR. -/
def State.logEntry (s : State) (ws : List Nat) : State :=
  let wr := s.rd TOP_FAULT_LOG_WR
  let s := if s.top.logFull then s.set1 TOP_FAULT_LOG_WRAPPED else s
  let s := { s with top := { s.top with
    log := spSetMany (fun _ => 0) s.top.log (8 * wr) (ws.map (BitVec.ofNat 32))
    logFull := s.top.logFull || wr == 255 } }
  s.wr TOP_FAULT_LOG_WR (wr + 1)

/-- The fault ring takes an entry, or drops it while full. [DEDUCED, log 142] -/
def State.faultRingEntry (s : State) (ws : List Nat) : State :=
  let d := s.rd TOP_FAULT_RING_DEPTH
  if d < 2 then s
  else
    let wr := s.rd TOP_FAULT_RING_WR
    let next := (wr + 1) % d
    if next = s.rd TOP_FAULT_RD then (s.set1 TOP_STATUS_RING_DROP).bump TOP_FAULT_DROPPED
    else
      let s := (s.devWrite reqRanger clsDma 0 (s.rd TOP_FAULT_RING_BASE + 32 * wr) (ws.flatMap (leBytes 4))).2
      s.wr TOP_FAULT_RING_WR next

/-- The message of the fault ring (R452). -/
def State.faultMessage (s : State) : State :=
  if !s.on TOP_FAULT_IRQ_IRQ_EN then s
  else if holdMessage s.now s.top.ringHoldUntil then
    let till := s.now + s.rd TOP_FAULT_IRQ_HOLDOFF * ticksPerUs
    ({ s with top := { s.top with ringHoldUntil := some till, ringMoved := false } }).msix (s.rd TOP_FAULT_IRQ_VECTOR)
  else { s with top := { s.top with ringMoved := true } }

/-- What the recording of a fault starts: ALERT and M11 HALT by class (R439, R452). -/
def State.faultPolicy (s : State) (f : FaultRec) : State :=
  let s := if bitAt (s.rd TOP_FAULT_POLICY_ALERT_MASK) f.cls then
      (s.set1 TOP_STATUS_ALERT).noteOpen openAlert f
    else s
  let halts := bitAt (s.rd TOP_FAULT_POLICY_HALT_MASK) f.cls && s.mode != 11 && s.mode != 0
  if halts then (s.noteOpen openHalt f).haltFor 3 f.cls f.code
  else if f.code = 0xA011 && s.rd TOP_HALT_INFO_CAUSE = 4 && s.mode = 11 then s.noteOpen openHalt f
  else s

/-- FAULT_RECORD (R451, R452): the oldest fault of the input queue is written, one entry in four ticks.
[DEDUCED, log 10] -/
def execFaultRecord (s : State) : Host.Outcome State Fault Refusal :=
  match s.top.inQ with
  | [] => .next s
  | f :: rest =>
    if s.now < s.top.logAt then .next s
    else
      let es := f.entries
      let s := { s with top := { s.top with inQ := rest, logAt := s.now + 4 * es.length } }
      let s := es.foldl (fun s ws => (s.logEntry ws).faultRingEntry ws) s
      let s := match f.opens with
        | some k => s.noteOpen k f
        | none => s
      let s := (s.occur 254).faultMessage
      .next (s.faultPolicy f)

/-- FAULT_LOST (R451): a fault finds the input queue full. [DEDUCED, log 143] -/
def execFaultLost (s : State) : Host.Outcome State Fault Refusal :=
  if s.top.inQ.length < 64 then .next s
  else .next (((s.bump TOP_FAULT_SEQ).bump TOP_FAULT_LOST).set1 TOP_STATUS_FAULT_LOST)

/-- RING_HOLDOFF_END (R389, R452): rings 0 to 3 are those of Ethernet port r / 2, transmit when odd; ring 4 is
the fault ring. -/
def execRingHoldoffEnd (r : Fin 5) (s : State) : Host.Outcome State Fault Refusal :=
  if r.val < 4 then .next (s.holdoffEnd (r.val / 2) (r.val % 2 == 1))
  else
    match s.top.ringHoldUntil with
    | some t =>
      if s.now < t then .next s
      else
        let moved := s.top.ringMoved
        let s := { s with top := { s.top with ringHoldUntil := none } }
        .next (if moved then s.faultMessage else s)
    | none => .next s

/-! ### Wear (R454, R455) -/

/-- SRAM_ROW_REMAP (R454): the ranger has copied a failing row of array a into a spare. -/
def execSramRowRemap (a : Fin 16) (s : State) : Host.Outcome State Fault Refusal :=
  let left := s.rd (TOP_SRAM_SPARE_LEFT a.val)
  if left = 0 || !s.rangerUp then .next s
  else .next ((s.wr (TOP_SRAM_SPARE_LEFT a.val) (left - 1)).bumpSat (TOP_SRAM_SPARE_REMAPS a.val))

/-- WEAR_EYE_SWAP (R455): the eye of lane l of port n has stayed below EYE_MIN for 1 s, and a spare is ready. -/
def execWearEyeSwap (n : Fin 15) (l : Fin 5) (s : State) : Host.Outcome State Fault Refusal :=
  let n := n.val
  match (s.lane n l.val).eyeLowSince with
  | some t =>
    if !s.rangerUp || decide (s.now < t + 1000000 * ticksPerUs) then .next s
    else
      let at_ := (s.groupsOf n).flatMap (fun g => (List.range (s.logicals n)).filterMap (fun lg =>
        if s.rxLane n g lg = l.val then some (g, lg) else none))
      match at_ with
      | (g, lg) :: _ => .next (s.startSwap n g lg false false true)
      | [] => .next s
  | none => .next s

end Sys2Proof.Machine
end

