-- ==== Sys2Proof/Machine/Summary.lean ====
section
/-! DEFINITION. State summaries: their layout, requests, and writing them (R460 to R463). -/

namespace Sys2Proof.Machine

open Sys2Proof

def b1 (n : Nat) : List Nat := leBytes 1 n
def b2 (n : Nat) : List Nat := leBytes 2 n
def b4 (n : Nat) : List Nat := leBytes 4 n
def b8 (n : Nat) : List Nat := leBytes 8 n
def bI (i : Int) : List Nat := leBytes 8 (toBits 64 i)

/-- The bits of a list of flags, the first at bit 0. -/
def flagBits : List Bool → Nat
  | [] => 0
  | b :: bs => b2n b + 2 * flagBits bs

/-- WR and RD of a ring. -/
def State.sumRing (s : State) (wr rd : Fld) : List Nat := b2 (s.rd wr) ++ b2 (s.rd rd)

/-- Bytes 0x000 to 0x0FF of a summary. -/
def State.sumHead (s : State) (flags : Nat) : List Nat :=
  b4 (s.view TOP_ID) ++ b4 1 ++ b4 (s.rd TOP_SUMMARY_COUNT + 1) ++ b4 flags
    ++ b1 s.mode ++ b1 (s.rd TOP_MODE_PREV) ++ b1 (s.rd TOP_MODE_ARMED) ++ b1 (s.rd CHAIN_ARM_STATE)
    ++ b4 (s.rd TOP_EPOCH)
    ++ bI s.pos16 ++ b8 s.now
    ++ b4 s.net.ptpNs ++ b2 s.net.ptpWrap ++ b2 (s.view TIMELINE_STATUS)
    ++ b8 (s.rd CHAIN_ARM_POS)
    ++ b4 (s.deviceId + s.rd CHAIN_CFG_ROOT_ID * 2 ^ 12 + s.rd CHAIN_CTRL_EN * 2 ^ 24 + s.rd CHAIN_CTRL_ROOT * 2 ^ 25
        + s.rd CHAIN_STATUS_POS_VALID * 2 ^ 26 + s.rd CHAIN_STATUS_PARENT * 2 ^ 27)
    ++ b4 (s.view TOP_RESET_INFO)
    ++ b4 (s.rd SCALER_SEQ_NEXT) ++ b4 (s.rd SCALER_SEQ_ACK) ++ b8 (s.rd SCALER_VERDICT)
    ++ b4 (s.view SCALER_STATUS) ++ b4 (s.rd SCALER_OPEN_COUNT) ++ b8 (s.rd STITCH_FORMED_LINE)
    ++ b4 (s.view STITCH_LAYOUT) ++ b4 (s.view STITCH_XBASE)
    ++ b4 (flagBits [s.on STITCH_CTRL_EN, s.on MASTER_CTRL_EN, s.on MASTER_CTRL_SRC, s.on MASTER_GOLDEN_CTRL_READY,
        s.on SCALER_CTRL_EN, s.on FINE_CTRL_COL_EN, s.on DRAMC_IMG_CFG_IMG_EN, s.on TIMELINE_CTRL_RUN,
        s.on TIMELINE_TRIG_CTRL_TRIG_EN])
    ++ b4 (s.rd TOP_FAULT_SEQ)
    ++ b8 (s.rd DRAMC_IMG_NEWEST) ++ b4 (s.rd TOP_FAULT_LOST) ++ b4 (s.view TOP_STATUS)
    ++ (List.range 4).flatMap (fun r => s.sumRing (SCALER_RING_WR r) (SCALER_RING_RD r) ++ b4 (s.rd (SCALER_RING_LOST r)))
    ++ [0, 1].flatMap (fun e => b2 (s.rd (NET_E_TX_HEAD e)) ++ b2 (s.rd (NET_E_TX_TAIL e))
        ++ b2 (s.rd (NET_E_RX_HEAD e)) ++ b2 (s.rd (NET_E_RX_TAIL e)))
    ++ b4 (s.view (NET_E_STATUS 0)) ++ b4 (s.view (NET_E_STATUS 1)) ++ b8 0
    ++ s.sumRing FINE_SNAP_RING_WR FINE_SNAP_RD ++ s.sumRing FINE_NOZ_RING_WR FINE_NOZ_RD
    ++ (List.range 4).flatMap (fun r => s.sumRing (PROFILE_RING_CFG_WR r) (PROFILE_RING_RD r))
    ++ s.sumRing MASTER_REG_RING_WR MASTER_REG_RD ++ s.sumRing MASTER_FIELD_RING_WR MASTER_FIELD_RD
    ++ s.sumRing MASTER_LEDGER_RING_RD MASTER_LEDGER_WR ++ s.sumRing TOP_FAULT_RING_WR TOP_FAULT_RD
    ++ padTo 0 24 []

/-- A mask over the Zhevlis ports. -/
def State.portMask (s : State) (f : Nat → Fld) : Nat := bitMask ((List.range 15).filter (fun n => s.on (f n)))

/-- Bytes 0x100 to 0x13F. -/
def State.sumSpares (s : State) : List Nat :=
  (List.range 8).flatMap (fun r => b2 (min 65535 (s.msSince (s.treg r).measured)))
    ++ b2 (bitMask s.spareQuills) ++ b1 (s.rd (PIPE_STATUS_STATE 12)) ++ b1 0 ++ b1 (bitMask s.spareChannels)
    ++ b1 (match s.dram.mig with
        | some m => 2 ^ m.ch
        | none => 0) ++ b2 0
    ++ b2 (s.portMask ZL_STATUS_SPARE_READY) ++ b2 (s.portMask ZL_STATUS_SPARE_IN_USE)
    ++ b2 (s.portMask ZL_STATUS_LREF_ACTIVE) ++ b2 0
    ++ (List.range 8).flatMap (fun r => b1 (s.rd (THERM_REGION_STATUS_SPARES r)))
    ++ (List.range 16).flatMap (fun a => b1 (s.rd (TOP_SRAM_SPARE_LEFT a))) ++ b8 0

/-- A queue's 32 bytes. -/
def State.sumQueue (s : State) (q : Nat) : List Nat :=
  b1 (s.qState q)
    ++ b1 (s.rd (SCRIBE_Q_STATUS_C q) + 2 * s.rd (SCRIBE_Q_STATUS_IN_RING q) + 4 * s.rd (SCRIBE_Q_STATUS_LOOPS q))
    ++ b1 (s.rd (SCRIBE_Q_STATUS_CALLS q)) ++ b1 (s.rd (SCRIBE_Q_STATUS_WAIT_KIND q))
    ++ b2 (s.rd (SCRIBE_Q_ERR_CODE q)) ++ b2 (s.rd (SCRIBE_Q_WAIT_LEFT q))
    ++ b4 (s.rd (SCRIBE_Q_HEAD q)) ++ b4 (s.rd (SCRIBE_Q_TAIL q)) ++ b8 (s.rd (SCRIBE_Q_PC q))
    ++ b4 (s.rd (SCRIBE_Q_LAST_READ q)) ++ b4 0

/-- A DMA channel's 16 bytes. -/
def State.sumChannel (s : State) (c : Nat) : List Nat :=
  b1 (s.dState c) ++ b1 (s.rd (DMA_CH_STATUS_LOOPS c)) ++ b2 (s.rd (DMA_CH_ERR_CODE c))
    ++ b4 (s.rd (DMA_CH_DONE_BYTES c)) ++ b8 (s.rd (DMA_CH_PROG_PC c))

/-- A port's 16 bytes. -/
def State.sumPort (s : State) (n : Nat) : List Nat :=
  let lanes := List.range 5
  b4 (s.view (ZL_STATUS n) % 2 ^ 16 + bitMask (lanes.filter (fun l => s.on (ZL_LANE_STATUS_LOCK n l))) * 2 ^ 16)
    ++ b4 (s.view (ZL_RX_MAP n)) ++ b4 (s.view (ZL_TX_MAP n))
    ++ b4 ((lanes.map (fun l => s.msSince (s.lane n l).calAt)).foldl max 0)

/-- A pipe's 32 bytes. -/
def State.sumPipe (s : State) (p : Nat) : List Nat :=
  b4 (s.rd (PIPE_STATUS_STATE p) + s.rd (PIPE_STATUS_SPARED_FROM p) * 2 ^ 8 + s.rd (PIPE_CTRL_PORT p) * 2 ^ 16
      + s.rd (PIPE_CTRL_EN p) * 2 ^ 20)
    ++ [0, 1].flatMap (fun x =>
      b4 (s.rd (PIPE_CTX_STATUS_SET_VALID p x) + 2 * s.rd (PIPE_CTX_STATUS_COMMIT_PENDING p x)
          + 4 * s.rd (PIPE_CTX_STATUS_TABLE_PENDING p x) + s.rd (PIPE_CTX_APPLIED_INFO_EXP_SET p x) * 2 ^ 4
          + s.rd (PIPE_CTX_APPLIED_INFO_COMMITS p x) * 2 ^ 16)
        ++ b8 (s.rd (PIPE_CTX_LAST_LINE p x)))
    ++ b4 0

/-- A quill's 32 bytes. -/
def State.sumQuill (s : State) (q : Nat) : List Nat :=
  b8 ((List.range 17).foldl (fun n t => n + s.slotState q t * 2 ^ (3 * t)) 0)
    ++ b1 (s.rd (QUILL_STATUS_SPARE_SLOT q))
    ++ b1 (flagBits ((List.range 4).map (fun j => s.on (QUILL_JOB_CTRL_EN q j))
        ++ (List.range 4).map (fun j => s.on (QUILL_JOB_CTRL_RUNNING q j))))
    ++ b2 0 ++ (List.range 4).flatMap (fun j => b4 (s.rd (QUILL_JOB_RETIRED q j))) ++ b4 0

/-- Bytes 0x860 to 0x93F. -/
def State.sumRest (s : State) : List Nat :=
  (List.range 8).flatMap (fun ch => b2 (s.view (DRAMC_CH_RANK_STATE ch)) ++ b1 (s.view (DRAMC_CH_RANK_MAP ch))
      ++ b1 (s.rd (DRAMC_CH_RETIRE ch)) ++ b4 0)
    ++ b4 (s.view DRAMC_STATUS) ++ b4 (match s.dram.mig with
        | some m => m.ch + m.src * 2 ^ 4
        | none => 0)
    ++ b8 (s.rd DRAMC_MIG_PTR) ++ b8 (s.rd DRAMC_SIZE) ++ b8 0
    ++ leBytes 32 (bitMask ((List.range 256).filter (fun c => s.on (PROFILE_CH_STATUS_RUNNING c))))
    ++ b8 (s.rd EVENT_FLAGS) ++ b8 (s.rd EVENT_LOOP)
    ++ b1 (flagBits ((List.range 8).map (fun k => s.on (STROKE_ST_CTRL_EN k))))
    ++ b1 (flagBits ((List.range 8).map (fun k => s.on (STROKE_ST_CTRL_OE k)))) ++ padTo 0 14 []
    ++ (List.range 8).flatMap (fun k => b8 (s.rd (STROKE_ST_COUNT k)))

/-- Records of the conditions that are open, oldest first (R463). -/
def State.openRecords (s : State) : List (List Nat) :=
  (s.top.openFaults.filter (fun e => s.persists e.1)).map (·.2)

/-- The 32 newest of them. -/
def newest32 (rs : List (List Nat)) : List (List Nat) := rs.drop (rs.length - 32)

/-- A state summary of 4,096 bytes with some of flags 0 to 2 (R462). [DEDUCED, log 141] -/
def State.summary (s : State) (flags : Nat) : List Nat :=
  let rs := s.openRecords
  let body := s.sumHead (flags + 8 * b2n (decide (32 < rs.length))) ++ s.sumSpares
    ++ (List.range 8).flatMap s.sumQueue ++ (List.range 32).flatMap s.sumChannel
    ++ (List.range 15).flatMap s.sumPort ++ padTo 0 16 []
    ++ (List.range 13).flatMap s.sumPipe ++ (List.range 12).flatMap s.sumQuill ++ s.sumRest
  let body := padTo 0 0xA00 body ++ (newest32 rs).flatMap (fun ws => ws.flatMap (leBytes 4))
  let body := padTo 0 0xFFC body
  body ++ leBytes 4 (crc32 body)

/-! ### Requests (R460, R461) -/

/-- SUM_BUSY and SUM_PENDING. -/
def State.showSum (s : State) : State :=
  (s.wr TOP_STATUS_SUM_BUSY (b2n s.top.sumTaken.isSome)).wr TOP_STATUS_SUM_PENDING (b2n (!s.top.sumReq.isEmpty))

/-- A summary is taken at this tick. [DEDUCED, log 141] -/
def State.sumTake (s : State) (flags : Nat) : State :=
  let bs := s.summary flags
  let s := s.wr TOP_SUMMARY_AT s.now
  ({ s with top := { s.top with sumTaken := some (s.now, bs) } }).showSum

/-- A request for a state summary: taken now, joined to one of the same tick, or left pending.
[DEDUCED, log 141] -/
def State.sumRequest (s : State) (flags : Nat) : State :=
  match s.top.sumTaken with
  | none => s.sumTake flags
  | some (t, bs) =>
    if t = s.now then
      let body := setNth (bs.take 0xFFC) 12 (orNat 8 (nth 0 bs 12) flags)
      { s with top := { s.top with sumTaken := some (t, body ++ leBytes 4 (crc32 body)) } }
    else
      let all := s.top.sumReq.foldl (fun n e => orNat 8 n e.2) flags
      ({ s with top := { s.top with sumReq := [(s.now, all)] } }).showSum

/-- RESYNC (R460): a write of TOP_CTRL.RESYNC. -/
def execResync (s : State) : Host.Outcome State Fault Refusal := .next (s.sumRequest 1)

/-- SUMMARY_WRITTEN (R461): the summary is written to its destinations; a pending one is then taken.
[DEDUCED, log 142] -/
def execSummaryWritten (s : State) : Host.Outcome State Fault Refusal :=
  match s.top.sumTaken with
  | none => .next s
  | some (t, bs) =>
    let dest := s.rd TOP_SUMMARY_DEST
    let s := if dest = 0 then s else (s.devWrite reqRanger clsDma 0 dest bs).2
    let words := tabulate 1024 (fun i => BitVec.ofNat 32 (ofLeBytes ((bs.drop (4 * i)).take 4)))
    let s := { s with top := { s.top with sumShown := spSetMany (fun _ => 0) [] 0 words, sumTaken := none } }
    let s := (s.bump TOP_SUMMARY_COUNT).showSum
    let to_ := s.rd CHAIN_SUM_CFG_SUMMARY_TO
    let s := if to_ = idAll || !s.member then s
      else
        let blocks := tabulate 512 (fun i => ofLeBytes ((bs.drop (8 * i)).take 8))
        s.sendTo to_ { ty := pkSummary, payload := s.ownHead to_ :: blocks }
    let s := s.resyncDone t
    match s.top.sumReq with
    | (_, fl) :: _ => .next (({ s with top := { s.top with sumReq := [] } }).sumTake fl)
    | [] => .next s

end Sys2Proof.Machine
end

