-- ==== Sys2Proof/Machine/Top.lean ====
section
/-! DEFINITION. Stopping in M11 HALT, and the resets (R439 to R445, R456, R457, R508 to R516, R536). -/

namespace Sys2Proof.Machine

open Sys2Proof

/-! ### Stopping (R439 to R441) -/

/-- HALT_REQ (R439): a write of TOP_CTRL.HALT_REQ. -/
def execHaltReq (s : State) : Host.Outcome State Fault Refusal := .next (s.haltFor 2 0 0)

/-- Can the nib in a slot still be invoked for a line: its windows can all be filled (R301)? -/
def State.stillInvoked (s : State) (q t : Nat) : Bool :=
  match s.jobOfSlot q t with
  | none => false
  | some j =>
    let n := s.nib q t
    match s.nextInvoked q j n with
    | some l =>
      !s.jobQueue q j && (s.job q j).l0.isSome && !n.behalf && !n.resume && s.slotState q t == slotIdle
        && s.invokeAllowed q j l
        && (s.winsOn q j).all (fun w => match s.newestRow (s.winSrc q j w) with
            | some m => decide (winIndex (s.winSrc q j w) l + s.winAhead q j w ≤ m)
            | none => false)
    | none => false

/-- Nibs still work on lines below H (R301, R440). [DEDUCED, log 136] -/
def State.nibsBusy (s : State) : Bool :=
  let inTime := decide (s.now < s.top.haltAt + 100 * ticksPerUs)
  (List.range 12).any (fun q => (List.range 17).any (fun t =>
    (match (s.nib q t).run with
      | some (.line _) => true
      | _ => false) || (inTime && s.stillInvoked q t)))

/-- The scaler has still to segment a line that is ready (R226). -/
def State.scalerBusy (s : State) : Bool :=
  let above (o : Option Int) (l : Int) : Bool := match o with
    | some n => decide (n < l)
    | none => true
  s.on SCALER_CTRL_EN &&
    (s.stitch.fine.any (fun f => above s.scal.seg f.line && s.fineReady f.line)
      || s.mas.diff.any (fun d => above s.scal.segM d.line))

def State.setStop (s : State) (rest : List StopStep) : State := { s with top := { s.top with stop := rest } }

/-- HALT_ENTRY (R440): the next step of the stop sequence, once what it waits for has happened.
[DEDUCED, log 136] -/
def execHaltEntry (s : State) : Host.Outcome State Fault Refusal :=
  match s.top.stop with
  | [] => .next s
  | .quiesce :: rest =>
    if s.nibsBusy then .next s
    else
      let h := s.quillHalt ((s.stitch.fine.head?).map (·.line)) ((s.stitch.coarse.head?).map (·.line))
      let s := h.2.setStop rest
      .next { s with top := { s.top with haltLow := h.1 } }
  | .cover :: rest =>
    if s.scalerBusy then .next s
    else
      let v := s.rdS SCALER_VERDICT
      let v := match s.top.haltLow with
        | some l => min v l
        | none => v
      let s := s.setStop rest
      if inspecting (s.modeOf v) then
        .next ({ s with top := { s.top with openFrom := some v } }.coverMode (s.unitFailedRec v openLine))
      else .next s
  | .summary :: rest =>
    let s := s.setStop rest
    .next (if s.on TOP_CTRL_AUTO_SUM_HALT then s.sumRequest 2 else s)
  | .selfRefresh :: rest =>
    if s.top.sumTaken.isSome || !s.top.sumReq.isEmpty then .next s
    else
      let s := s.setStop rest
      .next (if s.on DRAMC_SR_SR_AUTO then s.srBegin else s)
  | .idle :: rest => .next ((s.idleCameras true).setStop rest)
  | .alert :: rest => .next (((s.set1 TOP_STATUS_ALERT).wr TOP_MODE_STOPPING 0).setStop rest)

/-! ### Block resets (R444) -/

/-- The timeline after a WARM reset (R445, R536): position and tick count stay, the generators offer their
next actions again. [DEDUCED, log 144] -/
def State.timelineReset (s : State) : State :=
  let s := s.resetRegs keptWarm 0x10000 0x20000
  let t := s.tl
  let encs := t.encs.filterMap (fun (e : Nat × Encoder) =>
    let x : Encoder := { levelA := e.2.levelA, levelB := e.2.levelB }
    if x = {} then none else some (e.1, x))
  let frames := t.frames.filterMap (fun (e : Nat × FrameGen) =>
    let x : FrameGen := { prev := e.2.prev, starts := e.2.starts }
    if x = {} then none else some (e.1, x))
  let tl : Timeline :=
    { tick := t.tick, pos := t.pos, prevPos := t.prevPos, latched := t.pos, lastMasterStep := t.tick
      encs := encs, frames := frames, lastIssue := t.lastIssue }
  let s := { s with tl := tl }
  let s := (List.range 4).foldl (fun s f =>
    if s.rd (TIMELINE_FRAME_CTRL_SRC f) = 1 then s.chooseGenerated f else s) s
  s.armTrigger.formSim

/-- A scheduled profile sync. -/
def isProfileSync : Action → Bool
  | .profileSync _ => true
  | _ => false

/-- Resets of the blocks whose state lies in their registers and one structure (R444, R445). -/
def State.strokeReset (s : State) : State := ({ s with st := [] }).resetRegs keptWarm 0x20000 0x30000
def State.scribeReset (s : State) : State := s.scribeStop.resetRegs keptWarm 0x40000 0x50000
/-- Channels whose MODE (kept) is SCALER read SCALER again and keep their BUF (R339). -/
def State.dmaReset (s : State) : State :=
  (List.range 32).foldl (fun s c => if s.on (DMA_CH_CTRL_MODE c) then s.setDState c dScaler else s)
    (s.dmaStop.resetRegs keptWarm 0x50000 0x60000)
def State.fineReset (s : State) : State :=
  ({ s with fine := { bank := s.fine.bank } }).resetRegs keptWarm 0x320000 0x330000
def State.profileReset (s : State) : State :=
  (({ s with prof := {} }).withdraw isProfileSync).resetRegs keptWarm 0xC0000 0xD0000
def State.sensorReset (s : State) : State := ({ s with sens := {} }).resetRegs keptWarm 0xD0000 0xE0000

/-- BLOCK_RESET (R444): the block of a SOURCE number is reset as a WARM reset would. Blocks without a
BLOCK_RESET bit are left alone. -/
def State.resetBlock (s : State) (src : Nat) : State :=
  if src = srcEvent then s.eventReset
  else if src = srcScribe then s.scribeReset
  else if src = srcDma then s.dmaReset
  else if src = srcNet then s.netReset
  else if src = srcChain then s.chainReset
  else if src = srcProfile then s.profileReset
  else if src = srcSensor then s.sensorReset
  else if 0x20 ≤ src && decide (src < 0x2D) then s.pipeReset (src - 0x20) true
  else if src = srcStitch then s.stitchReset true
  else if src = srcMaster then s.masterReset
  else if src = srcFine then s.fineReset
  else if src = srcScaler then s.scalerReset
  else if 0x40 ≤ src && decide (src < 0x70) && src % 4 == 0 then
    (s.quillReset ((src - 0x40) / 4)).endDegrade (degradeQuill ((src - 0x40) / 4))
  else s

/-- A write of BLOCK_RESET takes effect (R444, R531). -/
def State.blockReset (s : State) (src : Nat) : State := (s.resetBlock src).markReset src

/-- BLOCK_RESET (R444). -/
def execBlockReset (source : BitVec 8) (s : State) : Host.Outcome State Fault Refusal :=
  .next ((s.blockReset source.toNat).recheck)

/-! ### WARM reset (R442, R443, R457) -/

/-- TOP after a WARM reset (R445): the log, the input queue and the held record stay. [DEDUCED, log 138] -/
def State.topReset (s : State) : State :=
  let m := s.mode
  let prev := s.rd TOP_MODE_PREV
  let s := s.resetRegs keptWarm 0 0x10000
  let s := (s.wr TOP_MODE_MODE m).wr TOP_MODE_PREV prev
  { s with top := { s.top with
    sumShown := [], sumReq := [], sumTaken := none, stop := [], haltLine := none, openFrom := none
    haltLow := none, degrade := [], ringHoldUntil := none, ringMoved := false } }

/-- Every block but DRAMC and the ranger is reset in one tick (R443). -/
def State.warmBlocks (s : State) : State :=
  let s := s.chainReset.scribeReset.dmaReset
  let s := (List.range 15).foldl (fun s n => s.portReset n 2) s
  let s := (List.range 13).foldl (fun s p => s.pipeReset p false) s
  let s := (s.stitchReset false).masterReset.fineReset.profileReset.sensorReset
  let s := (List.range 12).foldl (fun s q => s.quillReset q) s.scalerReset
  s.eventReset.strokeReset.netReset.thermReset.secReset.topReset.timelineReset

/-- A WARM reset (R436, R442, R443, R457). [DEDUCED, log 40; DEDUCED, log 137] -/
def State.warmReset (s : State) : State :=
  if s.mode = 0 || s.top.warmTrain then s
  else if s.mode = 1 then s.reject TOP_STATUS_CFG_REJECT srcTop TOP_CTRL.off 1
  else
    let s := if inspecting s.mode then s.holdCov (s.unitFailedRec (s.rdS SCALER_VERDICT) openLine) else s
    let s := { s with top := { s.top with warmTrain := true, warmAt := some s.now } }
    let s := s.warmBlocks
    let s := (s.wr TOP_RESET_INFO_LAST 2).bumpSat TOP_RESET_INFO_WARM_COUNT
    (s.modeNow 2).calStart.markReset everyBlock

/-- WARM_RESET (R443): a write of TOP_CTRL.WARM_RESET takes effect. -/
def execWarmReset (s : State) : Host.Outcome State Fault Refusal := .next s.warmReset

/-- Every enabled Zhevlis group is up (R443). -/
def State.groupsUp (s : State) : Bool :=
  (List.range 15).all (fun n => !s.on (ZL_CTRL_EN n) || (s.groupsOf n).all (fun g => s.groupUp n g))

/-- WARM_TRAIN_DONE (R443, R461): the groups are up, or 2 ms have passed, and the mode becomes M3 IDLE.
[DEDUCED, log 137] -/
def execWarmTrainDone (s : State) : Host.Outcome State Fault Refusal :=
  match s.top.warmAt with
  | none => .next s
  | some t =>
    if s.mode != 2 || s.dram.needInit || !(s.groupsUp || decide (t + 2000 * ticksPerUs ≤ s.now)) then .next s
    else
      let warm := s.top.warmTrain
      let s := ({ s with top := { s.top with warmAt := none, warmTrain := false } }).modeNow 3
      .next (if warm && s.on TOP_CTRL_AUTO_SUM_WARM then s.sumRequest 4 else s)

/-! ### PIN and power-on resets (R442, R508 to R516) -/

/-- The whole machine after a reset that keeps the fields of some Kept codes; what lies outside the device
stays: the commands that wait, the level of PERST_N, what has been sent. -/
def State.coldReset (s : State) (keep : Kept → Bool) : State :=
  let r := s.resetRegs keep 0 0x8000000
  let s' : State :=
    { State.reset with
      pending := s.pending, regs := r.regs, out := s.out, freeCount := s.freeCount
      sec := { perst := s.sec.perst } }
  s'.wr TOP_MODE_MODE 0

/-- POR (R442, R508): everything but fuses; DRAM contents are lost. -/
def State.powerOn (s : State) : State := s.coldReset keptPor

/-- POR (R508): supplies have been within tolerance for 2 ms, or one has left it for 5 µs. -/
def execPor (s : State) : Host.Outcome State Fault Refusal := .next s.powerOn

/-- XO_LOSS (R511): no edge at XO_IN for 1 µs applies a power-on reset. -/
def execXoLoss (s : State) : Host.Outcome State Fault Refusal := .next s.powerOn

/-- RESET_N_RETAIN_FALL (R381, R515): the web outputs go high-impedance and DRAM enters self-refresh.
[DEDUCED, log 114] -/
def execResetNRetainFall (s : State) : Host.Outcome State Fault Refusal :=
  if s.on SEC_STRAPS_RETAIN && !s.therm.tripped && s.mode != 0 then
    .next (({ s with jtag := { s.jtag with falling := true } }).srBegin)
  else .next s

/-- A PIN reset (R442, R458, R513): F and P fields stay, and DRAM contents when `retain`.
[DEDUCED, log 114; DEDUCED, log 115; PRESUMED, log 155] -/
def State.pinReset (s : State) (retain : Bool) : State :=
  let d := s.dram
  let inst := s.jtag.inst
  let boundary := s.jtag.boundary
  let s := s.coldReset keptPin
  let s := ((s.bumpSat TOP_RESET_INFO_PIN_COUNT).wr TOP_RESET_INFO_LAST 1).wr TOP_RESET_INFO_RETAINED (b2n retain)
  let s := { s with jtag := { inst := inst, boundary := boundary } }
  if retain then
    let kept : Dram := { mem := d.mem, flips := d.flips, needInit := d.needInit }
    ({ s with dram := kept }).wr DRAMC_STATUS_SR_STATE 2
  else s.wr DRAMC_STATUS_TRAINED 0

/-- PIN_RESET (R442, R512, R515): RESET_N has been low for 1 µs. With the RETAIN strap of the last release set,
the reset waits until DRAM is in self-refresh. [DEDUCED, log 144] -/
def execPinReset (s : State) : Host.Outcome State Fault Refusal :=
  if s.therm.tripped then .next s
  else if s.on SEC_STRAPS_RETAIN then
    if s.rd DRAMC_STATUS_SR_STATE = 2 then .next (s.pinReset true) else .next s
  else .next (s.pinReset false)

/-- RESET_RELEASE (R491, R512, R513, R514): the straps are sampled and the boot ROM starts in M1 BOOT.
[DEDUCED, log 154] -/
def execResetRelease (bootSrc hold retain : Bool) (bar2 : Fin 8) (mdDev mdRanks i2c : Fin 4) (s : State) :
    Host.Outcome State Fault Refusal :=
  if s.mode != 0 || s.therm.tripped then .next s
  else
    let s := (s.wr SEC_STRAPS_BOOT_SRC (b2n bootSrc)).wr SEC_STRAPS_BOOT_HOLD (b2n hold)
    let s := (s.wr SEC_STRAPS_RETAIN (b2n retain)).wr SEC_STRAPS_BAR2_SZ bar2.val
    let s := s.setSec (fun x => { x with mdDev := mdDev.val, mdRanks := mdRanks.val, i2c := i2c.val, tried := 0
                                         hostBoot := false })
    let s := s.showFuses
    let s := (s.wr TOP_MODE_PREV 0).wr TOP_MODE_MODE 1
    let s := (s.pushSpan s.nextLine 1 0).occur 253
    let s := if bar2.val < 5 then s else s.fault srcSec 0xB004 (slot1 bar2.val)
    let s := if mdDev.val = 3 then s.fault srcSec 0xB004 (slot1 3) else s
    .next (s.setBoot (if s.hostFirst then bootWaitHost else bootLoading))

end Sys2Proof.Machine
end

