-- ==== Sys2Proof/Machine/Play.lean ====
section
/-! DEFINITION. Playback of ring lines (R363, R364), the end of DRAM training (R355, R356, R385, R514,
R534) and host accesses through BAR2 (R486, R488). -/

namespace Sys2Proof.Machine

open Sys2Proof

/-! ### Playback (R363, R364) -/

/-- A write of 1 to PLAY_GO: in M9 REVIEW, with no playback on, the fine and the coarse plane start again with the
line PLAY_FIRST (R363). -/
def State.playGo (s : State) : State :=
  if s.mode != 9 || s.on DRAMC_PLAY_CTRL_PLAY_BUSY then
    s.reject DRAMC_STATUS_CFG_REJECT srcDramc DRAMC_PLAY_CTRL.off 1
  else
    let first := s.rdS DRAMC_PLAY_FIRST
    let s := s.set1 DRAMC_PLAY_CTRL_PLAY_BUSY
    let s := { s with dram := { s.dram with playNext := some first, playRun := none, playAt := none } }
    let s := { s with stitch := { s.stitch with fine := [], coarse := [], quad := [] } }
    { s with scal := { s.scal with seg := some (first - 1), segM := some (first / 4 - 1) } }

/-- PLAY_GO (R363). -/
def execPlayGo (s : State) : Host.Outcome State Fault Refusal := .next s.playGo

/-- The pixels of a slot as playback decodes them (R359, R360): 0 in all channels is an invalid pixel, and so
is a column that the slot does not hold. -/
def playPixels (format width held : Nat) (bs : List Nat) : List (Option (Nat × Nat × Nat)) :=
  let b := imgBytes format / 3
  let value (u c : Nat) : Nat := ofLeBytes ((bs.drop (64 + (3 * u + c) * b)).take b)
  tabulate width (fun u =>
    let v := (value u 0, value u 1, value u 2)
    if held ≤ u || v = (0, 0, 0) then none
    else some (imgDecode format v.1, imgDecode format v.2.1, imgDecode format v.2.2))

/-- The line of a ring slot, or what makes it unplayable: the rank of an uncorrectable read, else all ones
(R364). [DEDUCED, log 112] -/
def State.playRead (s : State) (l : Int) : (FineLine ⊕ Nat) × State :=
  let lines : Int := s.rd DRAMC_IMG_CFG_LINES
  if lines = 0 || s.rdS DRAMC_IMG_NEWEST < l || l ≤ s.rdS DRAMC_IMG_NEWEST - lines then
    (.inr 0xFFFFFFFF, s)
  else
    let slot := s.imgSlot l
    let n := 64 + s.width * imgBytes (s.rd DRAMC_IMG_CFG_FORMAT)
    let r := if s.dramFits slot n then s.dramRead slot n clsImage else ([], none, s)
    let s := r.2.2
    let h (o k : Nat) : Nat := ofLeBytes ((r.1.drop o).take k)
    let flags := h 25 1
    match r.2.1 with
    | some bad => (.inr (s.physRank bad), s)
    | none =>
      if r.1.isEmpty || bitAt flags 0 || signed 64 (h 0 8) != l then (.inr 0xFFFFFFFF, s)
      else
        let f : FineLine :=
          { line := l, frame := h 8 4, epoch := h 12 4, forced := bitAt flags 2
            pixels := playPixels (h 24 1) s.width (h 20 4) r.1 }
        (.inl f, s)

/-- An unplayable line joins the open run, or ends it and opens one of its own (R364). [DEDUCED, log 112] -/
def State.unplayable (s : State) (l : Int) (rank : Nat) : State :=
  let s := s.bump DRAMC_PLAY_UNPLAYABLE
  match s.dram.playRun with
  | some (a, b, r) =>
    if r = rank && b + 1 = l then { s with dram := { s.dram with playRun := some (a, l, r) } }
    else
      let s := s.playRunEnd
      { s with dram := { s.dram with playRun := some (l, l, rank) } }
  | none => { s with dram := { s.dram with playRun := some (l, l, rank) } }

/-- The next line of playback may be played: PLAY_RATE lines per second, 0 as fast as accepted. -/
def State.playDue (s : State) : Bool :=
  let rate := s.rd DRAMC_PLAY_CTRL_PLAY_RATE
  match s.dram.playAt with
  | some t => decide (400000000 ≤ rate * (s.now - t)) || rate == 0
  | none => true

/-- One line of the ring enters the fine plane in place of a stitched line (R363, R364).
[DEDUCED, log 86; DEDUCED, log 112] -/
def State.playLine (s : State) (l : Int) : State :=
  let r := s.playRead l
  let s := { r.2 with dram := { r.2.dram with playNext := some (l + 1), playAt := some r.2.now } }
  let t := match r.1 with
    | .inl f => (f, s.playRunEnd)
    | .inr rank =>
      ({ line := l, frame := (s.frameOf (s.stitchGen s.stitch.commit.active) l).2, epoch := s.epochOf l
         forced := false, pixels := List.replicate s.width none }, s.unplayable l rank)
  let s := t.2.jobStarts false l
  let s := if l % 4 = 0 || l = s.rdS DRAMC_PLAY_FIRST then s.jobStarts true (l / 4) else s
  s.planeLine t.1 0

/-- PLAY_LINE (R363, R364): the next line of playback; after PLAY_LAST it ends. -/
def execPlayLine (s : State) : Host.Outcome State Fault Refusal :=
  match s.dram.playNext with
  | none => .next s
  | some l =>
    if s.mode != 9 || !s.playDue then .next s
    else
      let last := s.rdS DRAMC_PLAY_LAST
      let s := if l ≤ last then s.playLine l else s
      .next (if last ≤ l then s.stopPlay else s)

/-! ### The end of training (R355, R356, R385, R514, R534) -/

/-- The settings that training refuses: a data rate above the limit of R355, or memory-down parts that
differ from the straps (R514). [DEDUCED, log 109] -/
def State.trainRefused (s : State) : Bool :=
  let ranks := s.rd DRAMC_CFG_RANKS
  let fast := decide (2 ≤ ranks) && decide (2 ≤ s.rd DRAMC_CFG_RATE)
  let down := s.on DRAMC_CFG_TYPE
    && (s.sec.mdDev == 3 || s.rd DRAMC_CFG_DEVICE != s.sec.mdDev || ranks != s.sec.mdRanks)
  fast || down

/-- The state of physical rank k of a channel after training (R356, R374, R377). -/
def State.trainedRank (s : State) (ch k : Nat) (failed : Bool) : Nat :=
  let ranks := s.rd DRAMC_CFG_RANKS
  let named := (List.range (ranks + 1 - s.rd DRAMC_CFG_SPARE_EN)).any (fun j => s.rd (rankMapF ch j) == k)
  if s.nch ≤ ch || ranks < k then 0
  else if failed then rankFailedTrain
  else if bitAt (s.rd (DRAMC_CH_RETIRE ch)) k || s.rd (rankStateF ch k) == rankRetired then rankRetired
  else if named then rankInService else if s.on DRAMC_CFG_SPARE_EN then rankSpareReady else rankInService

/-- Fault 0x6030 for a lane of a rank. [DEDUCED, log 109] -/
def State.trainFail (s : State) (e : Nat × Nat × Nat × Nat) : State :=
  s.fault srcDramc 0x6030 (slot1 e.1 ++ slot1 e.2.1 ++ slot1 e.2.2.1 ++ slot1 e.2.2.2)

/-- Training of the ranks of every channel ends: states and size (R356), contents initialised after a reset that
lost them (R534), kept ones leave self-refresh (R382). [DEDUCED, log 109] -/
def State.dramTrained (s : State) (failed : List (Nat × Nat × Nat × Nat)) : State :=
  let dead (ch k : Nat) : Bool := failed.any (fun e => e.1 == ch && e.2.1 == k)
  let s := (List.range 8).foldl (fun s ch => (List.range 4).foldl (fun s k =>
    s.wr (rankStateF ch k) (s.trainedRank ch k (dead ch k))) s) s
  let bad := (List.range s.nch).any (fun ch => (List.range 4).any (fun j =>
    j + s.rd DRAMC_CFG_SPARE_EN ≤ s.rd DRAMC_CFG_RANKS && dead ch (s.rd (rankMapF ch j))))
  if bad then s
  else
    let s := s.wr DRAMC_SIZE s.dramCfgSize
    let s := if s.dram.needInit then
        { s with dram := { s.dram with mem := [], flips := [], tgtPoison := [], needInit := false } }
      else s
    s.set1 DRAMC_STATUS_TRAINED

/-- DRAM_INIT_DONE (R355, R385, R437, R514, R534): training ends. `restored` are lanes whose restored code
failed verification under TRAIN_QUICK, `failed` lanes that cannot be trained: channel, physical rank, lane, step. -/
def execDramInitDone (restored failed : List (Fin 8 × Fin 4 × Fin 80 × BitVec 8)) (s : State) :
    Host.Outcome State Fault Refusal :=
  let plain (e : Fin 8 × Fin 4 × Fin 80 × BitVec 8) : Nat × Nat × Nat × Nat :=
    (e.1.val, e.2.1.val, e.2.2.1.val, e.2.2.2.toNat)
  if s.mode != 2 || (!s.dram.needInit && s.top.warmAt.isSome) then .next s
  else if s.trainRefused then .next (s.trainFail (0, 0, 0, 0))
  else
    let s := if s.on DRAMC_CFG_TRAIN_QUICK then (restored.map plain).foldl State.trainFail s else s
    let s := (failed.map plain).foldl State.trainFail s
    let s := s.srExit.dramTrained (failed.map plain)
    .next (if s.on DRAMC_STATUS_TRAINED && s.top.warmAt.isNone then s.modeNow 3 else s)

/-! ### BAR2 (R486, R488) -/

/-- The size of BAR2 (R486); 0 while it is disabled. -/
def bar2Size (sz : Nat) : Nat :=
  match sz with
  | 1 => 2 ^ 34
  | 2 => 2 ^ 36
  | 3 => 2 ^ 38
  | 4 => 2 ^ 40
  | _ => 0

/-- [DEDUCED, log 15] -/
def State.complete (s : State) (c : Completion) : State :=
  { s with out := { s.out with bar := s.out.bar ++ [c] } }

/-- A BAR2 request that the device serves (R488). [DEDUCED, log 113] -/
def State.bar2Serve (s : State) (write : Bool) (a : Nat) (bytes : List Nat) (len : Nat) : State :=
  let p := s.permit reqHost clsMemory write a
  let s := p.2
  if !p.1 then (if write then s else s.complete .unsupported)
  else if write then (s.dramPut a bytes clsHost).complete .written
  else if s.inSelfRefresh then
    { s with dram := { s.dram with
      held := s.dram.held ++ [{ cls := clsHost, addr := a, bytes := [], since := s.now, read := some len, bar := true }] } }
  else
    let r := s.dramRead a len clsHost
    r.2.2.complete (if r.2.1.isSome then .aborted else .data r.1)

/-- BAR2_ACCESS (R486, R488, R489): a request of the host through BAR2; lost while PERST_N is low, in M0 RESET,
and outside the BAR, where no BAR2 is. [DEDUCED, log 113] -/
def execBar2Access (write : Bool) (addr : BitVec 40) (bytes : List (BitVec 8)) (len : Nat)
    (errs : List (Nat × Nat)) (s : State) : Host.Outcome State Fault Refusal :=
  let a := addr.toNat
  let bs := bytes.map (·.toNat)
  let n := if write then bs.length else len
  if !s.sec.perst || s.mode = 0 || s.therm.tripped || bar2Size (s.rd SEC_STRAPS_BAR2_SZ) < a + n then .next s
  else if !s.on DRAMC_STATUS_TRAINED then
    .next ((s.complete .unsupported).fault srcSec 0xB010 (slot2 a ++ slot1 0))
  else if !s.dramFits a n then
    .next ((s.complete .unsupported).fault srcSec 0xB010 (slot2 a ++ slot1 1))
  else
    let s := if s.inSelfRefresh then s else s.addFlips errs
    .next (s.bar2Serve write a bs len).recheck

end Sys2Proof.Machine
end

