-- ==== Sys2Proof/Machine/RegPort.lean ====
section
/-! DEFINITION. What a write stores in a register, by its access code (R9, R10, R12, R13, R105). -/

namespace Sys2Proof.Machine

open Sys2Proof

/-- A field after a write of `v` to a register that holds `cur` (R13). -/
def FieldRow.merge (f : FieldRow) (cur v : Nat) : Nat :=
  let old := bitsAt cur f.lsb f.w
  let new := bitsAt v f.lsb f.w
  match f.acc with
  | .rw => putBits cur f.lsb f.w new
  | .sh => putBits cur f.lsb f.w new
  | .w1c => putBits cur f.lsb f.w (andNat f.w old (2 ^ f.w - 1 - new))
  | .w1s => putBits cur f.lsb f.w (orNat f.w old new)
  | .ro => cur
  | .rc => cur
  | .wo => cur

/-- A register or pair after a write of `v` (R11, R13). -/
def RegRow.merge (r : RegRow) (cur v : Nat) : Nat := r.fields.foldl (fun a f => f.merge a v) cur

/-- A register as a read with side effects leaves it: fields of code RC take their reset values (R13). -/
def RegRow.cleared (r : RegRow) (i cur : Nat) : Nat :=
  r.fields.foldl (fun a f => match f.acc with
    | .rc => putBits a f.lsb f.w (f.reset + f.step * i)
    | _ => a) cur

/-- Does a row hold a field of code SH? -/
def RegRow.shadow (r : RegRow) : Bool := r.fields.any (fun f => match f.acc with
  | .sh => true
  | _ => false)

/-- The pair whose LO lies at an offset, as a number. -/
def State.pairAt (s : State) (off : Nat) : Nat := (s.reg off).toNat + (s.reg (off + 4)).toNat * 2 ^ 32

/-- One word of a register: an SH one is stamped (R105). -/
def State.putWord (s : State) (shadow : Bool) (off : Nat) (v : Word) : State :=
  if shadow then s.setShadow off v else s.setReg off v

/-- Low bits of the pair at an offset that are reserved: alignment of the address it holds. [DEDUCED, log 18] -/
def lowReserved (off : Nat) : Nat :=
  let o := off % 0x10000
  if [TOP_FAULT_RING_BASE.off, TOP_SUMMARY_DEST.off, SEC_HOST_IMAGE.off, CHAIN_SUM_BASE.off, DRAMC_IMG_BASE.off,
      FINE_SNAP_BASE.off, FINE_NOZ_BASE.off, MASTER_PRED_BASE.off, MASTER_GOLDEN_BASE.off, MASTER_REG_BASE.off,
      MASTER_FIELD_BASE.off, SCALER_SNIP_BASE.off].contains off then 12
  else if off = MASTER_DESC_BASE.off then 6
  else if off = MASTER_LEDGER_BASE.off then 5
  else
    match off / 0x10000 with
    | 0x4 => if o % 0x40 = 0x08 || o % 0x40 = 0x1C then 12 else 0
    | 0x5 => if o % 0x40 = 0x10 then 12 else 0
    | 0x8 => if 0x1000 ≤ o && [0x18, 0x30, 0x48].contains (o % 0x1000) then 12 else 0
    | 0xC => if 0x100 ≤ o && decide (o < 0x180) && o % 0x20 == 0 then 12 else 0
    | 0x33 => if 0x100 ≤ o && decide (o < 0x180) && o % 0x20 == 0 then 6 else 0
    | b =>
      if 0x20 ≤ b && decide (b < 0x2D) then (if [0x118, 0x170, 0x318, 0x370].contains o then 12 else 0)
      else if 0x40 ≤ b && decide (b < 0x70) && b % 4 == 0 && o == 0x10 then 6
      else 0

/-- A write of the value `v` to the register or pair at an offset stores what its access codes allow. -/
def State.store (s : State) (off v : Nat) : State :=
  match regRow off with
  | some (r, _, false) =>
    if r.pair then
      let a := 2 ^ lowReserved off
      let n := r.merge (s.pairAt off) (v / a * a)
      (s.putWord r.shadow off (BitVec.ofNat 32 n)).putWord r.shadow (off + 4) (BitVec.ofNat 32 (n / 2 ^ 32))
    else s.putWord r.shadow off (BitVec.ofNat 32 (r.merge (s.reg off).toNat v))
  | _ => s

/-- The instance and the offset within it, in an array of `n` instances of `stride` bytes. -/
def arr (off base stride n : Nat) : Option (Nat × Nat) :=
  if base ≤ off && decide (off < base + stride * n) then some ((off - base) / stride, (off - base) % stride)
  else none

/-- The value of a field in a value written to its register. -/
def Fld.of (f : Fld) (v : Nat) : Nat := bitsAt v f.lsb f.w

/-- Is a field non-zero in a value written to its register? -/
def Fld.set (f : Fld) (v : Nat) : Bool := f.of v != 0

/-- A commit register's two bits (R110): COMMIT, CANCEL, or neither; both together are rejected. -/
inductive CommitBits where
  | commit
  | cancel
  | both
  | none
  deriving DecidableEq, Repr

def commitBits (v : Nat) : CommitBits :=
  match bitAt v 0, bitAt v 1 with
  | true, true => .both
  | true, false => .commit
  | false, true => .cancel
  | false, false => .none

end Sys2Proof.Machine
end

