-- ==== Sys2Proof/Machine/WriteWeb.lean ====
section
/-! DEFINITION. What a write of a register does in TOP, TIMELINE, STROKE and EVENT: the values it refuses
(R12) and the effects of the fields that act. -/

namespace Sys2Proof.Machine

open Sys2Proof

/-! ### TOP (R439, R443, R452, R460) -/

/-- A write of a TOP register. [DEDUCED, log 137] -/
def State.writeTop (s : State) (off v : Nat) : State :=
  let p := s.store off v
  if off = TOP_CTRL.off then
    let p := if TOP_CTRL_RESYNC.set v then p.sumRequest 1 else p
    let p := if TOP_CTRL_HALT_REQ.set v then p.haltFor 2 0 0 else p
    if TOP_CTRL_WARM_RESET.set v then p.warmReset else p
  else p

/-! ### TIMELINE (R18 to R45, R539) -/

/-- A write of TIMELINE_CTRL. -/
def State.writeTlCtrl (s : State) (v : Nat) : State :=
  let src := TIMELINE_CTRL_MASTER_SRC.of v
  let run := s.on TIMELINE_CTRL_RUN
  if decide (6 ≤ src) || (run && (src != s.rd TIMELINE_CTRL_MASTER_SRC || TIMELINE_CTRL_PRESET.set v)) then
    s.tlReject TIMELINE_CTRL.off v
  else
    let s := (s.wr TIMELINE_CTRL_MASTER_SRC src).wr TIMELINE_CTRL_VLIM_EN (TIMELINE_CTRL_VLIM_EN.of v)
    let s := if TIMELINE_CTRL_PRESET.set v then s.preset else s
    let s := s.formSim
    let s := if TIMELINE_CTRL_RUN.set v then s.runStart else if run then s.runStop else s
    if TIMELINE_CTRL_XLATCH.set v then s.crossLatch else s

/-- A write of a register of encoder e (R20, R24, R517). [DEDUCED, log 24] -/
def State.writeEnc (s : State) (e off v : Nat) : State :=
  let p := s.store off v
  if off = (TIMELINE_ENC_CTRL e).off then
    let mode := (TIMELINE_ENC_CTRL_MODE e).of v
    if 6 ≤ mode || (TIMELINE_ENC_CTRL_INDEX_MODE e).of v == 3 then s.tlReject off v
    else
      let p := if (TIMELINE_ENC_CTRL_INDEX_ARM e).set v then p.set1 (TIMELINE_ENC_STATUS_INDEX_ARMED e) else p
      let x := p.enc e
      let x := if mode = 5 && s.rd (TIMELINE_ENC_CTRL_MODE e) != 5 then { x with ssiPrev := none } else x
      p.setEnc e { x with clkOe := mode == 5, ssiStart := if mode = 5 then x.ssiStart else none }
  else if off = (TIMELINE_ENC_SSI_CFG e).off then
    let bits := (TIMELINE_ENC_SSI_CFG_BITS e).of v
    let div := (TIMELINE_ENC_SSI_CFG_DIV e).of v
    if bits < 8 || 40 < bits || div < 19 || 1999 < div then s.tlReject off v else p
  else p

/-- A write of a register of frame generator f (R44). [DEDUCED, log 31] -/
def State.writeFrameGen (s : State) (f off v : Nat) : State :=
  let p := s.store off v
  let choose (p : State) : State :=
    if p.on TIMELINE_CTRL_RUN && p.rd (TIMELINE_FRAME_CTRL_SRC f) == 1 then p.chooseGenerated f else p
  if off = (TIMELINE_FRAME_CTRL f).off then
    let src := (TIMELINE_FRAME_CTRL_SRC f).of v
    let was := s.rd (TIMELINE_FRAME_CTRL_SRC f)
    if src = 3 then s.tlReject off v
    else if src = was then p
    else if src = 1 && p.on TIMELINE_CTRL_RUN then p.chooseGenerated f
    else if was = 1 then (p.withdrawOpen (isFrameOf f)).offerCommits
    else p
  else if off = (TIMELINE_FRAME_LEN f).off || off = (TIMELINE_FRAME_ORIGIN f).off then choose p
  else p

/-- A write of a register of compare unit c (R32, R33). -/
def State.writeCompare (s : State) (c off v : Nat) : State :=
  let p := s.store off v
  if off = (TIMELINE_CMP_CTRL c).off then
    if (TIMELINE_CMP_CTRL_DIR c).of v = 3 then s.tlReject off v
    else if (TIMELINE_CMP_CTRL_ENABLE c).set v && !s.on (TIMELINE_CMP_CTRL_ENABLE c) then
      (p.wr (TIMELINE_CMP_CTRL_ENABLE c) 0).compareEnable c
    else p
  else if off = (TIMELINE_CMP_TARGET c).off then s.compareTarget c v
  else if off = (TIMELINE_CMP_PERIOD c).off then if v != 0 && decide (v < 65536) then s.tlReject off v else p
  else p

/-- A write of a TIMELINE register. -/
def State.writeTimeline (s : State) (off v : Nat) : State :=
  let p := s.store off v
  if off = TIMELINE_CTRL.off then s.writeTlCtrl v
  else if off = TIMELINE_RATIO.off then
    if v = 0 || (s.on TIMELINE_CTRL_RUN && v != s.rd TIMELINE_RATIO) then s.tlReject off v else p
  else if off = TIMELINE_SIM_RATE.off then p.formSim
  else if off = TIMELINE_NS_PER_TICK.off then p.updVelocity
  else if off = TIMELINE_TRIG_CTRL.off then
    let same := TIMELINE_TRIG_CTRL_TRIG_EN.set v == s.on TIMELINE_TRIG_CTRL_TRIG_EN
      && TIMELINE_TRIG_CTRL_PHASE.of v == s.rd TIMELINE_TRIG_CTRL_PHASE
    if 9 ≤ TIMELINE_TRIG_CTRL_BACKLOG.of v then s.tlReject off v else if same then p else p.armTrigger
  else match arr off (TIMELINE_ENC_CTRL 0).off 0x40 4 with
  | some (e, _) => s.writeEnc e off v
  | none => match arr off (TIMELINE_FRAME_CTRL 0).off 0x20 4 with
    | some (f, _) => s.writeFrameGen f off v
    | none => match arr off (TIMELINE_PRB_CTRL 0).off 0x20 8 with
      | some (k, r) => if r = 0 && (TIMELINE_PRB_CTRL_EDGE k).of v == 3 then s.tlReject off v else p
      | none => match arr off (TIMELINE_CMP_CTRL 0).off 0x20 64 with
        | some (c, _) => s.writeCompare c off v
        | none => match arr off (TIMELINE_MK_CTRL 0).off 0x10 4 with
          | some (m, r) => if r = 8 then s.markerQueue m (signed 64 v) else p
          | none => p

/-! ### STROKE (R48 to R55) -/

/-- A write of STROKEk_CTRL (R48, R49, R51). -/
def State.writeStrokeCtrl (s : State) (k v : Nat) : State :=
  let off := (STROKE_ST_CTRL k).off
  let moved (f : Fld) : Bool := f.of v != s.rd f
  let held := [STROKE_ST_CTRL_SRC k, STROKE_ST_CTRL_FORM k, STROKE_ST_CTRL_PW k, STROKE_ST_CTRL_DIR_SETUP k,
    STROKE_ST_CTRL_ORIGIN_SRC k]
  if 5 ≤ (STROKE_ST_CTRL_SRC k).of v || 2 ≤ (STROKE_ST_CTRL_FORM k).of v || (STROKE_ST_CTRL_PW k).of v == 0
      || (s.on (STROKE_ST_CTRL_EN k) && held.any moved) then s.strokeReject k off v
  else
    let was := s.on (STROKE_ST_CTRL_EN k)
    let p := (s.store off v).wr (STROKE_ST_CTRL_EN k) (b2n was)
    if (STROKE_ST_CTRL_EN k).set v then p.strokeEnable k else if was then p.strokeDisable k else p

/-- A write of a register of stroke k. -/
def State.writeStrokeReg (s : State) (k off v : Nat) : State :=
  let p := s.store off v
  let crossed := decide (p.rdS (STROKE_ST_VLIM_HIGH k) < p.rdS (STROKE_ST_VLIM_LOW k))
  if off = (STROKE_ST_CTRL k).off then s.writeStrokeCtrl k v
  else if off = (STROKE_ST_RATIO k).off then s.strokeRatio k v
  else if off = (STROKE_ST_COUNT k).off then if s.on (STROKE_ST_CTRL_EN k) then s.strokeReject k off v else p
  else if off = (STROKE_ST_TRIM_TARGET k).off then s.writeTrim k (signed 32 v)
  else if off = (STROKE_ST_TRIM_ADD k).off then s.addTrim k (signed 32 v)
  else if off = (STROKE_ST_VLIM_LOW k).off || off = (STROKE_ST_VLIM_HIGH k).off then
    if crossed then s.strokeReject k off v else p
  else p

/-- A write of a STROKE register. -/
def State.writeStroke (s : State) (off v : Nat) : State :=
  if off = STROKE_START.off then s.strokeStart v
  else match arr off (STROKE_ST_CTRL 0).off 0x80 8 with
  | some (k, _) => s.writeStrokeReg k off v
  | none => s

/-! ### EVENT (R345, R349 to R352) -/

/-- Rejected write of a router register. -/
def State.eventReject (s : State) (off v : Nat) : State := s.reject EVENT_STATUS_CFG_REJECT srcEvent off v

/-- A write of EVENT_PINn_CTRL (R350). -/
def State.writePinCtrl (s : State) (n v : Nat) : State :=
  let off := (EVENT_PIN_CTRL n).off
  if (EVENT_PIN_CTRL_EDGE n).of v = 3
      || (s.on (EVENT_PIN_CTRL_OE n) && (EVENT_PIN_CTRL_DIR n).of v != s.rd (EVENT_PIN_CTRL_DIR n)) then
    s.eventReject off v
  else
    let p := s.store off v
    if (EVENT_PIN_CTRL_OE n).set v then p else p.pinPulseEnd n

/-- A write of an EVENT register. -/
def State.writeEvent (s : State) (off v : Nat) : State :=
  let p := s.store off v
  if off = EVENT_CTRL.off then if bitAt v 0 then s.blockReset srcEvent else p
  else if off = EVENT_SOFT.off then s.eventSoft v
  else if off = EVENT_FLAGS.off then s.writeFlags v
  else if off = EVENT_LOOP.off then p.evShow
  else match arr off (EVENT_CH_CTRL 0).off 0x10 64 with
  | some (c, r) => if r = 0 && decide (5 ≤ (EVENT_CH_CTRL_GATE c).of v) then s.eventReject off v else p
  | none => match arr off (EVENT_CONS_CFG 0).off 8 192 with
    | some _ => p.evShow
    | none => match arr off (EVENT_PIN_CTRL 0).off 0x10 16 with
      | some (n, r) =>
        if r = 0 then s.writePinCtrl n v
        else if r = 4 && v % 2 ^ 16 == 0 then s.eventReject off v else p
      | none => p

end Sys2Proof.Machine
end

