-- ==== Sys2Proof/Machine/WriteLine.lean ====
section
/-! DEFINITION. What a write of a register does in the blocks that a line passes: Zhevlis ports, pipes,
stitcher, fine path, profile engine, sensor port, master path, scaler and quills. -/

namespace Sys2Proof.Machine

open Sys2Proof

/-- A pending COMMIT's fetch starts again from a new address (R110). -/
def CommitCtx.refetch (c : CommitCtx) (base : Nat) : CommitCtx :=
  match c.pend.getLast? with
  | some p => { c with fetch := some (p.tick, base), image := none }
  | none => c

/-! ### Zhevlis ports (R61, R88, R92, R94, R96, R97) -/

/-- A write of ZLn_CTRL. [DEDUCED, log 34; DEDUCED, log 35] -/
def State.writeZlCtrl (s : State) (n v : Nat) : State :=
  let off := (ZL_CTRL n).off
  let m := (ZL_CTRL_PORT_MODE n).of v
  let l := (ZL_CTRL_LOOPBACK n).of v
  if (if n < 12 then decide (2 ≤ m) else m != 2) || (ZL_CTRL_SPARE_OWNER n).of v == 3 || l == 3
      || (l != 0 && s.mode != 10) then s.zlReject n off v
  else if (ZL_CTRL_LINK_RESET n).set v then (s.portReset n 1).markReset (0x10 + n)
  else
    let was := s.on (ZL_CTRL_EN n)
    let idle := s.rd (ZL_CTRL_IDLE_REQ n)
    let mode := s.rd (ZL_CTRL_PORT_MODE n)
    let p := ((s.store off v).wr (ZL_CTRL_EN n) (b2n was)).wr (ZL_CTRL_IDLE_REQ n) idle
    let p := if m = mode then p else p.resetMaps n
    let p := p.wr (ZL_STATUS_LREF_ACTIVE n)
      (if (ZL_CTRL_LREF n).of v = s.rd (ZL_CTRL_LREF n) then p.rd (ZL_STATUS_LREF_ACTIVE n) else (ZL_CTRL_LREF n).of v)
    let p := if (ZL_CTRL_IDLE_REQ n).of v = idle then p else p.idleReq n ((ZL_CTRL_IDLE_REQ n).set v)
    let p := if (ZL_CTRL_EN n).set v == was then p else if was then p.portDisable n else p.portEnable n
    if (ZL_CTRL_RETRAIN n).set v then p.retrain n else p

/-- A write of a lane register. -/
def State.writeZlLane (s : State) (n l off v : Nat) : State :=
  let p := s.store off v
  let mu := (ZL_LANE_DFE_CFG_MU_SHIFT n l).of v
  let ffe := decide (9 ≤ (ZL_LANE_TX_FFE_PRE n l).of v) || decide (19 ≤ (ZL_LANE_TX_FFE_POST n l).of v)
    || decide (11 ≤ (ZL_LANE_TX_FFE_SWING n l).of v)
  if off = (ZL_LANE_DFE_CFG n l).off && (decide (mu < 8) || decide (20 < mu)) then s.zlReject n off v
  else if off = (ZL_LANE_TX_FFE n l).off && ffe then s.zlReject n off v
  else p

/-- A write of a register of port n. -/
def State.writeZl (s : State) (off v : Nat) : State :=
  let n := (off - 0x100000) / 0x10000
  let p := s.store off v
  if off = (ZL_CTRL n).off then s.writeZlCtrl n v
  else if off = (ZL_SWAP n).off then if (ZL_SWAP_GO n).set v then p.plannedSwap n else p
  else if off = (ZL_TRAIN n).off then
    if (ZL_TRAIN_COUNT n).of v = 0 then s.zlReject n off v
    else if (ZL_TRAIN_GO n).set v then p.trainGoPort n else p
  else match arr off (ZL_LANE_STATUS n 0).off 0x40 5 with
  | some (l, _) => s.writeZlLane n l off v
  | none => p

/-! ### Pipes (R99, R105 to R110, R126) -/

/-- A write of a register of context x of pipe p. -/
def State.writeCtx (s : State) (p x off v : Nat) : State :=
  let t := s.store off v
  let no := s.reject (PIPE_STATUS_CFG_REJECT p) (srcPipe p) off v
  let px := (PIPE_CTX_CFG_PIXELS p x).of v
  let k := (PIPE_CTX_HDR_K p x).of v
  if off = (PIPE_CTX_CFG p x).off then
    if px = 0 || decide (16384 < px) || (PIPE_CTX_CFG_DEPTH p x).of v == 3 then no
    else t.offerCommit (.pipe p x)
  else if off = (PIPE_CTX_COMMIT p x).off then
    match commitBits v with
    | .commit => s.ctxCommit p x
    | .cancel => s.ctxCancel p x
    | .both => no
    | .none => s
  else if off = (PIPE_CTX_HDR p x).off then if k < 0x800 || 0x8000 < k then no else t
  else if off = (PIPE_CTX_HDR2 p x).off then
    if 13 ≤ (PIPE_CTX_HDR2_SPAN p x).of v || 5 ≤ (PIPE_CTX_HDR2_HDR_SHIFT p x).of v then no else t
  else if off = (PIPE_CTX_TABLE_BASE p x).off then
    let c := t.px p x
    (t.setPx p x { c with commit := c.commit.refetch (t.rd (PIPE_CTX_TABLE_BASE p x)) }).updCtx p x
  else if off = (PIPE_CTX_STATS_RING p x).off then if 257 ≤ (PIPE_CTX_STATS_RING_DEPTH p x).of v then no else t
  else if off = (PIPE_CTX_MBOX_CTRL p x).off then
    if (PIPE_CTX_MBOX_CTRL_SEND p x).set v then t.mboxSend p x else t
  else t

/-- A write of a register of pipe p. -/
def State.writePipe (s : State) (off v : Nat) : State :=
  let p := (off - 0x200000) / 0x10000
  if off = (PIPE_CTRL p).off then
    if (PIPE_CTRL_BLOCK_RESET p).set v then s.blockReset (srcPipe p)
    else s.pipeCtrl p ((PIPE_CTRL_EN p).set v) ((PIPE_CTRL_PORT p).of v)
  else match arr off (PIPE_CTX_CFG p 0).off 0x200 2 with
  | some (x, _) => s.writeCtx p x off v
  | none => s.store off v

/-! ### Stitcher (R134, R140) -/

/-- A write of STITCH_LAYOUT gives new pitches (R159, R359). -/
def State.widthChanged (s : State) : State :=
  let s := s.wr FINE_SNAP_STRIDE (snapStride s.width)
  s.wr DRAMC_IMG_PITCH (imgPitch s.width (s.rd DRAMC_IMG_CFG_FORMAT))

/-- A write of a stitcher register. -/
def State.writeStitch (s : State) (off v : Nat) : State :=
  let p := s.store off v
  if off = STITCH_CTRL.off then
    if STITCH_CTRL_BLOCK_RESET.set v then s.blockReset srcStitch
    else if STITCH_CTRL_EN.set v then s.stitchEnable
    else if s.on STITCH_CTRL_EN then s.stitchDisable else s
  else if off = STITCH_COMMIT.off then
    match commitBits v with
    | .commit => s.stitchCommit false
    | .cancel => s.stitchCommit true
    | .both => s.stitchReject off v
    | .none => s
  else if off = STITCH_LAYOUT.off then
    if s.on STITCH_CTRL_EN then s.stitchReject off v else p.widthChanged
  else if off = STITCH_CFG.off then p.offerCommit .stitch
  else match arr off (STITCH_CAM_CTRL 0).off 0x40 24 with
  | some (_, r) => if r < 0xC && s.on STITCH_CTRL_EN then s.stitchReject off v else p
  | none => p

/-! ### Fine path (R157 to R168) -/

/-- A write of a FINE register. -/
def State.writeFine (s : State) (off v : Nat) : State :=
  let p := s.store off v
  let snap := FINE_SNAP_CFG.of v
  if off = FINE_CTRL.off then
    if FINE_CTRL_BLOCK_RESET.set v then s.blockReset srcFine
    else if FINE_CTRL_SEED.set v then p.seedWrite else p
  else if off = FINE_SNAP_CFG.off then if 1 ≤ snap && decide (snap ≤ 255) then s.fineReject off v else p
  else if off = FINE_ATTR_CTRL.off then
    if FINE_ATTR_CTRL_SWAP.set v && s.on FINE_ATTR_CTRL_BUSY then s.fineReject off v
    else
      let p := if FINE_ATTR_CTRL_SWAP.set v then p.attrSwap else p
      if FINE_ATTR_CTRL_COPY.set v then p.set1 FINE_ATTR_CTRL_BUSY else p
  else if bankWord off then
    if s.on FINE_ATTR_CTRL_BUSY then s.fineReject off v
    else match arr off (FINE_HEAD_X0 0 0).off 0x10 1024 with
    | some (_, 4) => if v = 0 then s.fineReject off v else p
    | some (_, 8) => if 4096 < v % 2 ^ 13 then s.fineReject off v else p
    | _ => p
  else p

/-! ### Profile engine (R169, R175, R178) -/

/-- The chain fields of a channel beside SRC and CH: ARG0, ARG1, CIC, CIC_NORM, HB and FIR. [DEDUCED, log 53] -/
def chainOffset (r : Nat) : Bool := decide (0x04 ≤ r) && decide (r ≤ 0x18)

/-- A write of a register of channel c. [DEDUCED, log 53] -/
def State.writeProfCh (s : State) (c r off v : Nat) : State :=
  let p := s.store off v
  let was := s.on (PROFILE_CH_CTRL_EN c)
  let src := (PROFILE_CH_CTRL_SRC c).of v
  let ch := (PROFILE_CH_CTRL_CH c).of v
  if r = 0 then
    if 5 ≤ src || ch = 3
        || (was && (src != s.rd (PROFILE_CH_CTRL_SRC c) || ch != s.rd (PROFILE_CH_CTRL_CH c))) then s.profReject off v
    else
      let p := p.wr (PROFILE_CH_CTRL_EN c) (b2n was)
      if (PROFILE_CH_CTRL_EN c).set v then p.profEnable c else if was then p.profDisable c else p
  else if chainOffset r && was then s.profReject off v
  else if r = 0x3C then if (PROFILE_CH_DET_CFG_DET_LATCH c).set v then p.detClose c else p
  else p

/-- Does an enabled channel use halfband design d, or FIR set k? -/
def State.hbUsed (s : State) (d : Nat) : Bool :=
  (List.range 256).any (fun c => s.on (PROFILE_CH_CTRL_EN c) &&
    (List.range (s.rd (PROFILE_CH_HB_NHB c))).any (fun i => s.hbDesign c i == d))

def State.firUsed (s : State) (k : Nat) : Bool :=
  (List.range 256).any (fun c => s.on (PROFILE_CH_CTRL_EN c) && s.on (PROFILE_CH_FIR_FIR_EN c)
    && s.rd (PROFILE_CH_FIR_SET c) == k)

/-- A write of a PROFILE register. -/
def State.writeProfile (s : State) (off v : Nat) : State :=
  let p := s.store off v
  if off = PROFILE_CTRL.off then if bitAt v 0 then s.blockReset srcProfile else p
  else if off = PROFILE_SYNC.off then s.profSyncMask (v % 2 ^ 16)
  else match arr off (PROFILE_SYNC_AT 0).off 8 16 with
  | some (g, _) => s.profSyncAt g v
  | none => match arr off (PROFILE_HB_CFG 0).off 0x40 4 with
    | some (d, _) => if s.hbUsed d then s.profReject off v else p
    | none => match arr off (PROFILE_FIR_COEF 0 0).off 0x100 16 with
      | some (k, _) => if s.firUsed k then s.profReject off v else p
      | none => match arr off (PROFILE_CH_CTRL 0).off 0x80 256 with
        | some (c, r) => s.writeProfCh c r off v
        | none => p

/-- A write of a SENSOR register (R183). -/
def State.writeSensor (s : State) (off v : Nat) : State :=
  let p := s.store off v
  let no := s.reject SENSOR_STATUS_CFG_REJECT srcSensor off v
  if off = SENSOR_CTRL.off then
    let bits := SENSOR_CTRL_BITS.of v
    if bits < 12 || 24 < bits then no
    else if SENSOR_CTRL_BLOCK_RESET.set v then s.blockReset srcSensor
    else (p.wr SENSOR_CTRL_EN (s.rd SENSOR_CTRL_EN)).sensorEn (SENSOR_CTRL_EN.set v)
  else if off = SENSOR_TIMING.off then
    let div := SENSOR_TIMING_DIV.of v
    if div < 3 || 1999 < div then no else p
  else p

/-! ### Master path (R187 to R225) -/

/-- The values a register of the master path refuses. -/
def masterBad (off v : Nat) : Bool :=
  let n := MASTER_TRACK1.of v
  let lead := MASTER_FETCH_LEAD.of v
  let drift := MASTER_GOLDEN_LEARN_DRIFT.of v
  if off = MASTER_CFG.off then decide (2 ≤ MASTER_CFG_BOUNDARY.of v) || decide (9 ≤ MASTER_CFG_TAU.of v)
  else if off = MASTER_TRACK1.off then n == 0 || decide (4096 < n)
  else if off = MASTER_FETCH_LEAD.off then decide (lead < 96) || decide (1024 < lead)
  else if off = MASTER_MARK.off then decide (128 < MASTER_MARK_MARK_TOL.of v)
  else if off = MASTER_GOLDEN_LEARN.off then
    MASTER_GOLDEN_LEARN_N_LEARN.of v == 0 || decide (8 < MASTER_GOLDEN_LEARN_GAIN.of v) || decide (drift < 4)
  else false

/-- A write of a MASTER register. -/
def State.writeMaster (s : State) (off v : Nat) : State :=
  let p := s.store off v
  if masterBad off v then s.masReject off v
  else if off = MASTER_CTRL.off then
    if MASTER_CTRL_BLOCK_RESET.set v then s.blockReset srcMaster
    else if s.on MASTER_CTRL_EN && MASTER_CTRL_SRC.of v != s.rd MASTER_CTRL_SRC then s.masReject off v
    else (p.wr MASTER_CTRL_EN (s.rd MASTER_CTRL_EN)).masterEn (MASTER_CTRL_EN.set v)
  else if off = MASTER_COMMIT.off then
    match commitBits v with
    | .commit => s.masterCommit false
    | .cancel => s.masterCommit true
    | .both => s.masReject off v
    | .none => s
  else if off = MASTER_PRED_BASE.off then
    ({ p with mas := { p.mas with commit := p.mas.commit.refetch (p.rd MASTER_PRED_BASE) } }).updMaster
  else if off = MASTER_CFG.off then p.offerCommit .master
  else if off = MASTER_LEDGER_WR.off then s.ledgerWr v
  else if off = MASTER_GOLDEN_CTRL.off then
    let p := if MASTER_GOLDEN_CTRL_RELEARN.set v then p.relearn else p
    if MASTER_GOLDEN_CTRL_ASSERT_READY.set v then p.assertReady else p
  else p

/-! ### Scaler (R227 to R253) -/

/-- The values a register of the scaler refuses. -/
def scalerBad (off v : Nat) : Bool :=
  let low (n : Nat) : Bool := decide (1 ≤ n) && decide (n ≤ 63)
  let rows := SCALER_STRIP_STRIP_ROWS.of v
  if off = SCALER_OPEN.off then low (SCALER_OPEN.of v % 2 ^ 16)
  else if off = SCALER_DEADLINE.off then low (SCALER_DEADLINE.of v)
  else if off = SCALER_CLASS.off then decide (12 ≤ SCALER_CLASS_CLASS_QUILL.of v) || SCALER_CLASS_CLASS_TIMEOUT.of v == 0
  else if off = SCALER_SNIP.off then decide (64 < SCALER_SNIP_SNIP_W.of v)
  else if off = SCALER_STRIP.off then rows == 0 || decide (4096 < rows)
  else false

/-- A write of a SCALER register. -/
def State.writeScaler (s : State) (off v : Nat) : State :=
  let p := s.store off v
  if scalerBad off v || (off = SCALER_SEQ_NEXT.off && s.on SCALER_CTRL_EN) then s.scalerReject off v
  else if off = SCALER_CTRL.off then
    if SCALER_CTRL_BLOCK_RESET.set v then s.blockReset srcScaler
    else
      let was := s.on SCALER_CTRL_EN
      let p := p.wr SCALER_CTRL_EN (b2n was)
      if SCALER_CTRL_EN.set v then p.scalerEnable else if was then p.scalerDisable else p
  else if off = SCALER_COMMIT.off then
    match commitBits v with
    | .commit => s.scalerCommit false
    | .cancel => s.scalerCommit true
    | .both => s.scalerReject off v
    | .none => s
  else if off = SCALER_CFG.off then p.offerCommit .scaler
  else if off = SCALER_DEADLINE.off then p.armVerdict
  else if off = SCALER_SNIP.off then p.updSnip
  else match arr off (SCALER_RING_BASE 0).off 0x20 4 with
  | some (r, o) => if o = 0x14 then s.ringRd r v else p
  | none => p

/-! ### Quills (R263, R264, R294, R299, R302) -/

/-- A write of a register of job j of quill q. [DEDUCED, log 80] -/
def State.writeJob (s : State) (q j off v : Nat) : State :=
  let p := s.store off v
  let was := s.jobOn q j
  if off = (QUILL_JOB_CTRL q j).off then
    let held := [QUILL_JOB_CTRL_MODE q j, QUILL_JOB_CTRL_PLANE q j, QUILL_JOB_CTRL_OUT_EN q j,
      QUILL_JOB_CTRL_FAULT_POLICY q j]
    if was && held.any (fun f => f.of v != s.rd f) then s.quillReject q off v
    else
      let p := p.wr (QUILL_JOB_CTRL_EN q j) (b2n was)
      if (QUILL_JOB_CTRL_EN q j).set v then p.jobEnable q j else if was then p.jobDisable q j else p
  else
    let win (w : Nat) : Bool := off = (QUILL_JOB_WIN_CFG q j w).off && (QUILL_JOB_WIN_CFG_SRC q j w).of v == 7
    let same := decide (p.reg off = s.reg off)
    if (was && !same) || (List.range 4).any win then s.quillReject q off v else p.updPitch q j

/-- A write of a register of quill q, or of its window on quill memory. -/
def State.writeQuill (s : State) (off v : Nat) : State :=
  let q := (off - 0x400000) / 0x40000
  let p := s.store off v
  if 0x20000 ≤ (off - 0x400000) % 0x40000 then
    s.qWrite q (s.rd (QUILL_QMEM_WIN q) * 0x20000 + (off - 0x400000) % 0x20000) (leBytes 4 v)
  else if off = (QUILL_CTRL q).off then if (QUILL_CTRL_BLOCK_RESET q).set v then s.blockReset (srcQuill q) else p
  else if off = (QUILL_LOAD q).off then if (QUILL_LOAD_GO q).set v then p.kernelLoadGo q else p
  else match arr off (QUILL_JOB_CTRL q 0).off 0x80 4 with
  | some (j, _) => s.writeJob q j off v
  | none => match arr off (QUILL_SLOT_CTRL q 0).off 0x20 17 with
    | some (t, 0) =>
      let p := if (QUILL_SLOT_CTRL_RESTART q t).set v then p.nibRestartReq q t else p
      if (QUILL_SLOT_CTRL_SPARE_NOW q t).set v then p.spareNow q t else p
    | _ => p

end Sys2Proof.Machine
end

