-- ==== Sys2Proof/Machine/WriteSystem.lean ====
section
/-! DEFINITION. What a write of a register does in SCRIBE, DMA, THERM, SEC, NET, CHAIN and DRAMC, and the
write of any register of the device. -/

namespace Sys2Proof.Machine

open Sys2Proof

/-! ### SCRIBE (R307, R308, R310) -/

/-- A write of a register of queue q; `r` is its offset among them. -/
def State.writeQueue (s : State) (q r off v : Nat) : State :=
  let p := s.store off v
  let no := s.reject SCRIBE_STATUS_CFG_REJECT srcScribe off v
  let size := (SCRIBE_Q_SIZE q).of v
  let head := (SCRIBE_Q_HEAD q).of v
  if r = 0 then
    let p := if (SCRIBE_Q_CTRL_STOP q).set v then p.qStop q else p
    if (SCRIBE_Q_CTRL_START q).set v then p.qStart q v else p
  else if r = 0x08 then if 2 ≤ devSpace ((SCRIBE_Q_BASE q).of v) then no else p.qShow q
  else if r = 0x10 then
    if size % 4096 != 0 || size == 0 || decide (2 ^ 24 < size) then no else p.qShow q
  else if r = 0x14 then
    if s.qAtRest q && head % 8 == 0 && decide (head < s.rd (SCRIBE_Q_SIZE q)) then p else no
  else if r = 0x18 then s.qTail q ((SCRIBE_Q_TAIL q).of v)
  else p

/-- A write of a SCRIBE register. -/
def State.writeScribe (s : State) (off v : Nat) : State :=
  if off = SCRIBE_CTRL.off then if bitAt v 0 then s.blockReset srcScribe else s
  else match arr off (SCRIBE_Q_CTRL 0).off 0x40 8 with
  | some (q, r) => s.writeQueue q r off v
  | none => s.store off v

/-! ### DMA (R329, R337, R339) -/

/-- A write of DMA_CHc_CTRL. [DEDUCED, log 72; DEDUCED, log 100] -/
def State.writeDmaCtrl (s : State) (c v : Nat) : State :=
  let off := (DMA_CH_CTRL c).off
  let buf := (DMA_CH_CTRL_BUF c).of v
  let mode := (DMA_CH_CTRL_MODE c).of v
  let moved := mode != s.rd (DMA_CH_CTRL_MODE c)
  if (DMA_CH_CTRL_WEIGHT c).of v = 0 || buf = 0 || 8 < buf || (moved && !s.dAtRest c) then
    s.reject DMA_STATUS_CFG_REJECT srcDma off v
  else
    let p := s.store off v
    let p := p.wr DMA_STATUS_BUF_USED p.bufUsed
    let p := if moved then p.setDState c (if mode = 1 then dScaler else dIdle) else p
    let p := if (DMA_CH_CTRL_STOP c).set v then p.dStop c (2 ^ 32) v else p
    if (DMA_CH_CTRL_START c).set v then p.dStart c v else p

/-- A write of a DMA register. -/
def State.writeDma (s : State) (off v : Nat) : State :=
  if off = DMA_CTRL.off then if bitAt v 0 then s.blockReset srcDma else s
  else match arr off (DMA_CH_CTRL 0).off 0x40 32 with
  | some (c, 0) => s.writeDmaCtrl c v
  | some (c, 8) =>
    if s.dState c = dRunning || s.dState c = dWaiting then s.reject DMA_STATUS_CFG_REJECT srcDma off v
    else s.store off (v / 16 * 16)
  | _ => s.store off v

/-! ### THERM (R467, R470, R474, R482) -/

/-- A write of a THERM register. [DEDUCED, log 17] -/
def State.writeTherm (s : State) (off v : Nat) : State :=
  let p := s.store off v
  let warn := THERM_LIMITS_WARN.of v
  let crit := THERM_LIMITS_CRIT.of v
  if off = THERM_CTRL.off then
    let p := p.wr THERM_CTRL_CAL_RESTORE (if s.mode = 1 then THERM_CTRL_CAL_RESTORE.of v else s.rd THERM_CTRL_CAL_RESTORE)
    let p := (p.wr THERM_CTRL_TABLE_EN (s.rd THERM_CTRL_TABLE_EN)).tableEnable (THERM_CTRL_TABLE_EN.set v)
    if THERM_CTRL_CAL_GO.set v then p.calGo else p
  else if off = THERM_CFG.off then
    if THERM_CFG_CAL_DT.of v = 0 || THERM_CFG_GAP_SPACING.of v < 20 then s.thermReject off v else p
  else if off = THERM_LIMITS.off then
    if warn < 60 || 105 < warn || crit < 80 || 110 < crit || crit ≤ warn
        || THERM_LIMITS_HYST.of v = 0 || THERM_LIMITS_AGREE.of v = 0 then s.thermReject off v
    else p.xoUpdate
  else if off = THERM_XO_TEMP.off then p.xoUpdate
  else match arr off (THERM_TABLE_ENTRY0 0).off 8 16 with
  | some _ => if s.on THERM_CTRL_TABLE_EN then s.thermReject off v else p
  | none => match arr off 0x61000 4 512 with
    | some (i, _) => s.calvWrite i (BitVec.ofNat 32 v)
    | none => p

/-! ### SEC (R490, R491, R496, R497) -/

/-- A write of a SEC register by a requester. -/
def State.writeSec (s : State) (r off v : Nat) : State :=
  let p := s.store off v
  if off = SEC_BOOT_CTRL.off then
    let p := if SEC_BOOT_CTRL_HOST_GO.set v then s.hostGo else s
    if SEC_BOOT_CTRL_RELEASE.set v then p.bootRelease else p
  else if off = SEC_MBOX_CTRL.off then if SEC_MBOX_CTRL_GO.set v then p.mboxGo r else p
  else if (SEC_MSIX_ADDR 0).off ≤ off && decide (off < (SEC_MSIX_PBA 0).off) then
    (s.setReg off (BitVec.ofNat 32 (if off % 16 = 12 then v % 2 else v))).msixSweep
  else p

/-! ### NET (R395, R396, R404, R405, R407) -/

/-- A write of a register of time compare u; `r` is its offset among them. -/
def State.writeTcmp (s : State) (u r off v : Nat) : State :=
  let p := s.store off v
  if r = 0 then
    let was := s.on (NET_TCMP_CTRL_ENABLE u)
    if (NET_TCMP_CTRL_ENABLE u).set v && !was then (p.wr (NET_TCMP_CTRL_ENABLE u) 0).tcEnable u else p
  else if r = 0x08 then s.tcTarget u ((NET_TCMP_TARGET u).of v)
  else if r = 0x10 then if 1 ≤ v && v ≤ 999 then s.netReject off v else p
  else p

/-- A write of a register of port e; `r` is its offset among them. -/
def State.writeEth (s : State) (e r off v : Nat) : State :=
  let p := s.store off v
  let speed := (NET_E_CTRL_SPEED e).of v
  let fec := (NET_E_CTRL_FEC e).of v
  let buf := (NET_E_RX_RING_BUF e).of v
  if r = 0 then
    if 2 ≤ speed || fec = 3 || (fec = 2 && speed = 1) || ((NET_E_CTRL_LOOPBACK e).set v && s.mode != 10) then
      s.netReject off v
    else p
  else if r = 0x38 then if buf = 0 || 10 < buf then s.netReject off v else p
  else p

/-- A write of a NET register. -/
def State.writeNet (s : State) (off v : Nat) : State :=
  let batch := NET_TALLY_CFG_BATCH.of v
  if off = NET_CTRL.off then
    if NET_CTRL_BLOCK_RESET.set v then s.blockReset srcNet else s.tcorrEn (NET_CTRL_TCORR_EN.set v)
  else if off = NET_PTP_INCR.off then s.ptpIncr v
  else if off = NET_PTP_SET.off then s.ptpSet v
  else if off = NET_PTP_ADJ.off then s.ptpAdj v
  else if off = NET_TALLY_CFG.off then
    if batch = 0 || 16 < batch || NET_TALLY_CFG_BATCH_US.of v = 0 then s.netReject off v else s.store off v
  else match arr off (NET_TCMP_CTRL 0).off 0x20 8 with
  | some (u, r) => s.writeTcmp u r off v
  | none => match arr off (NET_E_CTRL 0).off 0x1000 2 with
    | some (e, r) => s.writeEth e r off v
    | none => s.store off v

/-! ### CHAIN (R412, R414, R417, R419, R424, R428) -/

/-- A write of a CHAIN register. -/
def State.writeChain (s : State) (off v : Nat) : State :=
  let p := s.store off v
  let no := s.reject CHAIN_STATUS_CFG_REJECT srcChain off v
  let period := CHAIN_TIMING_POS_PERIOD.of v
  let hb := CHAIN_HB_HEARTBEAT.of v
  if off = CHAIN_CTRL.off then
    if CHAIN_CTRL_BLOCK_RESET.set v then s.blockReset srcChain
    else
      let root := CHAIN_CTRL_ROOT.of v
      let s := if root = s.rd CHAIN_CTRL_ROOT then s else if s.on CHAIN_CTRL_EN then no else s.wr CHAIN_CTRL_ROOT root
      s.chainEnable (CHAIN_CTRL_EN.set v)
  else if off = CHAIN_CFG.off then
    if s.on CHAIN_CTRL_EN && decide (p.reg off ≠ s.reg off) then no else p
  else if off = CHAIN_TIMING.off then
    if period < 40 || CHAIN_TIMING_POS_TIMEOUT.of v = 0 then no else p
  else if off = CHAIN_HB.off then
    if hb = 0 || CHAIN_HB_LIVE_TIMEOUT.of v < 4 * hb then no else p
  else if off = CHAIN_GUARD.off then if CHAIN_GUARD.of v < 256 then no else p
  else p

/-! ### DRAMC (R354 to R361, R363, R370, R378, R381, R384) -/

/-- Are the four physical ranks that a map names different ones? -/
def mapOk (v : Nat) : Bool := (List.range 4).all (fun k => (List.range k).all (fun j =>
  bitsAt v (2 * k) 2 != bitsAt v (2 * j) 2))

/-- May the fields marked "M2 TRAIN only" be written? -/
def State.trainOnly (s : State) : Bool := s.mode == 1 || s.mode == 2

/-- Rejected write of a DRAMC register. -/
def State.dramReject (s : State) (off v : Nat) : State := s.reject DRAMC_STATUS_CFG_REJECT srcDramc off v

/-- A write of DRAMC_CFG: outside M1 and M2 the fields marked "M2 TRAIN only" keep their values.
[DEDUCED, log 16] -/
def State.writeDramCfg (s : State) (v : Nat) : State :=
  let off := DRAMC_CFG.off
  let held := [DRAMC_CFG_CHANNELS, DRAMC_CFG_RANKS, DRAMC_CFG_DEVICE, DRAMC_CFG_RATE, DRAMC_CFG_SPARE_EN, DRAMC_CFG_TYPE]
  let p := s.store off v
  if DRAMC_CFG_DEVICE.of v = 3 || DRAMC_CFG_RATE.of v = 3 then s.dramReject off v
  else if s.trainOnly then p
  else
    let p := held.foldl (fun (p : State) (f : Fld) => p.wr f (s.rd f)) p
    if held.any (fun f => f.of v != s.rd f) then p.dramReject off v else p

/-- GO of TRAIN_CMD (R384). What the devices answer to MRR and RD is not the machine's to say: free values.
[DEDUCED, log 111] -/
def State.trainIssue (s : State) (ch : Nat) : State :=
  let cmd := s.rd (DRAMC_CH_TRAIN_CMD_CMD ch)
  s.trainGo ch cmd (fun s =>
    if cmd = 1 then
      let r := s.free 32
      (r.2.trainSend ch 1).wr (DRAMC_CH_TRAIN_RESULT ch) r.1
    else if cmd = 6 then s.trainWrite ch
    else if cmd = 7 then
      let n := s.rd (DRAMC_CH_TRAIN_CMD_LOOPS ch)
      let r := (List.range n).foldl (fun (a : List (List Nat) × State) _ =>
        let b := (List.range 16).foldl (fun (a : List Nat × State) _ =>
          let x := a.2.free 80
          (a.1 ++ [x.1], x.2)) ([], a.2)
        (a.1 ++ [b.1], b.2)) ([], s)
      if n = 1 then r.2.trainCompare ch (nth [] r.1 0) else r.2.trainPairs ch r.1
    else s.trainSend ch cmd)

/-- A write of a register of channel ch; `r` is its offset among them. -/
def State.writeDramCh (s : State) (ch r off v : Nat) : State :=
  let p := s.store off v
  if r = 0x04 then
    if !mapOk v then s.dramReject off v
    else if s.trainOnly || decide (p.reg off = s.reg off) then p else s.dramReject off v
  else if r = 0x08 then if s.trainOnly || decide (p.reg off = s.reg off) then p else s.dramReject off v
  else if r = 0x40 then
    if 8 ≤ (DRAMC_CH_TRAIN_CMD_CMD ch).of v then s.dramReject off v
    else if (DRAMC_CH_TRAIN_CMD_GO ch).set v then p.trainIssue ch else p
  else p

/-- A write of a DRAMC register. -/
def State.writeDram (s : State) (off v : Nat) : State :=
  let p := s.store off v
  if off = DRAMC_CFG.off then s.writeDramCfg v
  else if off = DRAMC_SR.off then
    let p := if DRAMC_SR_SR_ENTER.set v then p.srEnter else p
    if DRAMC_SR_SR_EXIT.set v then p.srExit else p
  else if off = DRAMC_SHARE1.off then s.shareWrite v
  else if off = DRAMC_SCRUB.off then if DRAMC_SCRUB_SCRUB_PERIOD.of v = 0 then s.dramReject off v else p
  else if off = DRAMC_MIG.off then if DRAMC_MIG_MIG_REQ.set v then p.migReq.recheck else p
  else if off = DRAMC_IMG_CFG.off then
    if DRAMC_IMG_CFG_LINES.of v = 1 || 2 ≤ DRAMC_IMG_CFG_FORMAT.of v then s.dramReject off v
    else (p.wr DRAMC_IMG_PITCH (imgPitch p.width (p.rd DRAMC_IMG_CFG_FORMAT))).updSnip
  else if off = DRAMC_PLAY_CTRL.off then if DRAMC_PLAY_CTRL_PLAY_GO.set v then p.playGo else p
  else match arr off (DRAMC_CH_RANK_STATE 0).off 0x1000 8 with
  | some (ch, r) => s.writeDramCh ch r off v
  | none => p

/-! ### Any register -/

/-- A write of `v` by a requester to the register or pair at an offset: the block it lies in acts on it.
[DEDUCED, log 3; DEDUCED, log 16] -/
def State.writeAt (s : State) (r off v : Nat) : State :=
  match off / 0x10000 with
  | 0x0 => s.writeTop off v
  | 0x1 => s.writeTimeline off v
  | 0x2 => s.writeStroke off v
  | 0x3 => s.writeEvent off v
  | 0x4 => s.writeScribe off v
  | 0x5 => s.writeDma off v
  | 0x6 => s.writeTherm off v
  | 0x7 => s.writeSec r off v
  | 0x8 => s.writeNet off v
  | 0x9 => s.writeChain off v
  | 0xC => s.writeProfile off v
  | 0xD => s.writeSensor off v
  | 0x30 => s.writeStitch off v
  | 0x31 => s.writeMaster off v
  | 0x32 => s.writeFine off v
  | 0x33 => s.writeScaler off v
  | b =>
    if 0xA ≤ b && decide (b < 0xC) then s.writeDram off v
    else if 0x10 ≤ b && decide (b < 0x1F) then s.writeZl off v
    else if 0x20 ≤ b && decide (b < 0x2D) then s.writePipe off v
    else if 0x40 ≤ b && decide (b < 0x70) then s.writeQuill off v
    else s

end Sys2Proof.Machine
end

