-- ==== Sys2Proof/Machine/Bus.lean ====
section
/-! DEFINITION. The register bus: classes of accesses (R499), reserved addresses (R11, R529, R532), pairs
(R10, R530), reads with their side effects (R13), and host requests to BAR0 (R9, R487). -/

namespace Sys2Proof.Machine

open Sys2Proof

/-! ### Classes (R499) -/

/-- Is a write of the register word at an offset of class JOB? -/
def jobWord (off : Nat) : Bool :=
  let inArr (base stride n : Nat) (rs : List Nat) : Bool :=
    match arr off base stride n with
    | some (_, r) => rs.contains r
    | none => false
  inArr (SCRIBE_Q_CTRL 0).off 0x40 8 [0x00, 0x14, 0x18]
    || inArr (DMA_CH_CTRL 0).off 0x40 32 [0x00, 0x08, 0x0C]
    || inArr (STROKE_ST_CTRL 0).off 0x80 8 [0x28, 0x2C]
    || inArr (TIMELINE_MK_CTRL 0).off 0x10 4 [0x08, 0x0C]
    || inArr (PROFILE_SYNC_AT 0).off 8 16 [0, 4]
    || [MASTER_LEDGER_WR.off, PROFILE_SYNC.off, EVENT_SOFT.off, EVENT_SOFT.off + 4, TOP_CTRL.off].contains off
    || (SEC_MBOX_CMD.off ≤ off && decide (off < 0x70200))

/-- Is a write of the register word at an offset of class TALLY? -/
def tallyWord (off : Nat) : Bool :=
  let inArr (base stride n : Nat) : Bool :=
    match arr off base stride n with
    | some (_, r) => r == 0
    | none => false
  [TOP_FAULT_RD.off, FINE_SNAP_RD.off, FINE_NOZ_RD.off, MASTER_REG_RD.off, MASTER_FIELD_RD.off].contains off
    || inArr (SCALER_RING_RD 0).off 0x20 4 || inArr (PROFILE_RING_RD 0).off 0x20 4
    || (0x200000 ≤ off && decide (off < 0x2D0000)
      && [(PIPE_CTX_STATS_RD 0 0).off, (PIPE_CTX_STATS_RD 0 1).off].contains (0x200000 + off % 0x10000))

/-- The region class of an access to a BAR0 offset (R499). -/
def regClass (off : Nat) (write : Bool) : Nat :=
  if 0x70200 ≤ off && decide (off < 0x78000) then clsSecurity
  else if !write then clsStatus
  else if jobWord off then clsJob
  else if tallyWord off then clsTally
  else clsConfig

/-! ### What answers -/

/-- Registers of arrays that are reserved under R11 and R532. -/
def State.reservedReg (s : State) (off : Nat) : Bool :=
  let b := off / 0x10000
  let o := off % 0x10000
  if b = 0x3 then
    let p := (o - 0x400) / 4
    let i := (o - 0x1000) / 8
    (0x400 ≤ o && decide (o < 0x800) && ((89 ≤ p && decide (p ≤ 95)) || (249 ≤ p && decide (p ≤ 251))))
      || (0x1000 ≤ o && decide (o < 0x1600) && decide (158 ≤ i))
  else if 0x1C ≤ b && b ≤ 0x1E then
    (0x50 ≤ o && decide (o < 0x60)) || (0x1C0 ≤ o && decide (o < 0x240))
  else if 0xA5000 ≤ off && decide (off < 0xA9000) then !s.on DRAMC_CFG_CHANNELS
  else false

/-- Does the word at an offset answer in the present mode (R487), and is it no reserved one?
[DEDUCED, log 21] -/
def State.answers (s : State) (off : Nat) : Bool :=
  let b := off / 0x10000
  (s.mode != 1 || b == 0 || b == 6 || b == 7 || b == 0xA || b == 0xB) && !s.reservedReg off

/-- The block that a reset named in R531 acts on. -/
def blockOf (off : Nat) : Nat :=
  let b := off / 0x10000
  if 0x40 ≤ b && decide (b < 0x70) then b / 4 * 4 else if b = 0xB then 0xA else b

/-- SHIFT and SCALE of a bar are one LO/HI pair (R168). -/
def barPair (off : Nat) : Bool := decide (0x320100 ≤ off) && decide (off < 0x320200)

/-- The MSI-X table has the PCI Express layout: its words are no LO/HI pairs (R490). [PRESUMED, log 19] -/
def msixTable (off : Nat) : Bool := decide (0x78000 ≤ off) && decide (off < 0x79000)

/-- Is the word at an offset the LO of a pair? [PRESUMED, log 19] -/
def pairLo (off : Nat) : Bool :=
  if barPair off then off % 16 == 8
  else if msixTable off then false
  else
    match regRow off with
    | some (r, _, h) => r.pair && !h
    | none => false

/-- Is the word at an offset the HI of a pair? -/
def pairHi (off : Nat) : Bool :=
  if barPair off then off % 16 == 12
  else if msixTable off then false
  else
    match regRow off with
    | some (_, _, h) => h
    | none => false

/-! ### Writes -/

/-- A word written by a requester: staged, or acted on by its block (R10, R530, R531).
[DEDUCED, log 3; DEDUCED, log 20] -/
def State.writeWord (s : State) (r off v : Nat) : State :=
  if !s.answers off || s.resetNow (blockOf off) then s
  else if pairLo off then { s with stageLo := spSet (fun _ => none) s.stageLo (off + 4) (some (BitVec.ofNat 32 v)) }
  else if pairHi off then
    let lo := match spGet (fun _ => none) s.stageLo off with
      | some w => w.toNat
      | none => (s.reg (off - 4)).toNat
    let s := { s with stageLo := spSet (fun _ => none) s.stageLo off none }
    if barPair off then (s.writeAt r (off - 4) lo).writeAt r off v
    else s.writeAt r (off - 4) (lo + v * 2 ^ 32)
  else s.writeAt r off v

/-! ### Reads -/

/-- Fields of code RC of the register or pair at an offset take their reset values (R13). -/
def State.readClear (s : State) (off : Nat) (half : Bool) : State :=
  match regRow off with
  | some (r, i, h) =>
    if !r.fields.any (fun f => match f.acc with
      | .rc => true
      | _ => false) then s
    else
      let lo := if h then off - 4 else off
      let n := r.cleared i (s.pairAt lo)
      let s := if half && h then s else s.setReg lo (BitVec.ofNat 32 n)
      let s := if r.pair && (h || !half) then s.setReg (lo + 4) (BitVec.ofNat 32 (n / 2 ^ 32)) else s
      if 0x30000 ≤ off && decide (off < 0x40000) then s.evShow else s
  | none => s

/-- A word read, with what the read does: a probe's LO takes the oldest entry (R29), the LO of a pair
latches HI, RC fields clear (R10, R13, R530). [DEDUCED, log 20] -/
def State.readWord (s : State) (off : Nat) : Nat × State :=
  if !s.answers off then (0, s)
  else if 0x400000 ≤ off && decide (off < 0x700000) && decide (0x20000 ≤ off % 0x40000) then
    let q := (off - 0x400000) / 0x40000
    let t := s.qRead q none (s.rd (QUILL_QMEM_WIN q) * 0x20000 + off % 0x20000) 4
    (ofLeBytes t.1, t.2)
  else
    let s := match arr off (TIMELINE_PRB_POS 0).off 0x20 8 with
      | some (k, 0) => s.popProbe k
      | _ => s
    if pairLo off then
      let v := (s.viewReg off).toNat
      let s := { s with latchHi := spSet (fun _ => none) s.latchHi (off + 4) (some (s.viewReg (off + 4))) }
      (v, s.readClear off false)
    else if pairHi off then
      match spGet (fun _ => none) s.latchHi off with
      | some w => (w.toNat, { s with latchHi := spSet (fun _ => none) s.latchHi off none })
      | none => ((s.viewReg off).toNat, s.readClear off true)
    else ((s.viewReg off).toNat, s.readClear off true)

/-! ### Register accesses of a requester -/

/-- The device address of a BAR0 offset (R304). -/
def regAddr (off : Nat) : Nat := 3 * 2 ^ 42 + off

/-- A word read through the permission matrix; `addr` is what a refusal shows. Answers none if refused. -/
def State.busRead (s : State) (r off addr : Nat) : Option Nat × State :=
  let p := s.permit r (regClass off false) false addr
  if p.1 then
    let t := p.2.readWord off
    (some t.1, t.2)
  else (none, p.2)

/-- A word written through the permission matrix. -/
def State.busWrite (s : State) (r off addr v : Nat) : Bool × State :=
  let p := s.permit r (regClass off true) true addr
  if p.1 then (true, p.2.writeWord r off v) else (false, p.2)

/-- A read by the scribe, DMA or a CMD block at any device address (R304); register space in words. -/
def State.accRead (s : State) (r cls a n : Nat) (host : List Nat) : AccRes × State :=
  if devSpace a = 3 then
    if devOff a % 4 != 0 || decide (2 ^ 26 < devOff a + n) then (.range, s)
    else
      let t := (List.range (n / 4)).foldl (fun (x : Option (List Nat) × State) i =>
        match x.1 with
        | none => x
        | some bs =>
          let y := x.2.busRead r (devOff a + 4 * i) (a + 4 * i)
          (y.1.map (fun v => bs ++ leBytes 4 v), y.2)) (some [], s)
      match t.1 with
      | some bs => (.ok bs, t.2)
      | none => (.denied, t.2)
  else s.devRead r cls a n host

/-- A write by the scribe, DMA or a CMD block at any device address (R304). -/
def State.accWrite (s : State) (r cls hb a : Nat) (bs : List Nat) : AccRes × State :=
  if devSpace a = 3 then
    if devOff a % 4 != 0 || decide (2 ^ 26 < devOff a + bs.length) then (.range, s)
    else
      let t := (List.range (bs.length / 4)).foldl (fun (x : Bool × State) i =>
        if !x.1 then x
        else x.2.busWrite r (devOff a + 4 * i) (a + 4 * i) (ofLeBytes ((bs.drop (4 * i)).take 4))) (true, s)
      (if t.1 then .ok [] else .denied, t.2)
  else s.devWrite r cls hb a bs

/-! ### Host requests (R9, R487) -/

/-- Is BAR0 within the host's reach (R434, R489)? [DEDUCED, log 21] -/
def State.barOpen (s : State) : Bool := s.sec.perst && s.mode != 0 && !s.therm.tripped

/-- The words that a request of up to 8 bytes reaches (R9): its enabled bytes lie in one word, or it covers one
aligned 8-byte word. [DEDUCED, log 14] -/
def reqWords (addr len : Nat) (be : Nat → Bool) : Option (List Nat) :=
  let on := (List.range len).filter be
  let words := on.map (fun i => (addr + i) / 4 * 4)
  match words with
  | [] => some [addr / 4 * 4]
  | w :: _ =>
    if words.all (· == w) then some [w]
    else if len = 8 && addr % 8 == 0 && on.length == 8 then some [addr, addr + 4]
    else none

/-- Does a long read lie in one of the two windows that take it (R487)? -/
def longRead (addr len : Nat) : Bool :=
  let inWin (lo hi : Nat) : Bool := decide (lo ≤ addr) && decide (addr + len ≤ hi)
  decide (len ≤ 512) && addr % 4 == 0 && (inWin 0x4000 0x6000 || inWin 0x8000 0x9000)

/-- One word of a host write: fewer than four enables discard it. -/
def State.hostWord (s : State) (addr : Nat) (be : Nat → Bool) (data off : Nat) : State :=
  if (List.range 4).all (fun i => decide (addr ≤ off + i) && be (off + i - addr)) then
    (s.busWrite reqHost off off (bitsAt data (8 * (off - addr)) 32)).2
  else s

/-- REGISTER_WRITE (R9 to R13, R487): a write request of the host to BAR0.
[DEDUCED, log 3; DEDUCED, log 14; DEDUCED, log 15] -/
def execRegisterWrite (addr : BitVec 26) (len : Nat) (be : BitVec 8) (data : BitVec 64) (s : State) :
    Host.Outcome State Fault Refusal :=
  let a := addr.toNat
  let on (i : Nat) : Bool := decide (i < len) && bitAt be.toNat i
  if !s.barOpen then .next s
  else if 8 < len then .next (s.complete .unsupported)
  else
    match reqWords a len on with
    | none => .next (s.complete .unsupported)
    | some ws => .next ((ws.foldl (fun s w => s.hostWord a on data.toNat w) s).recheck)

/-- REGISTER_READ (R9 to R13, R487, R500): a read request of the host to BAR0. -/
def execRegisterRead (addr : BitVec 26) (len : Nat) (be : BitVec 8) (s : State) :
    Host.Outcome State Fault Refusal :=
  let a := addr.toNat
  if !s.barOpen then .next s
  else
    let words :=
      if 8 < len then
        if longRead a len then some ((List.range ((len + 3) / 4)).map (fun i => a + 4 * i)) else none
      else reqWords a len (fun i => bitAt be.toNat i)
    match words with
    | none => .next (s.complete .unsupported)
    | some ws =>
      let t := ws.foldl (fun (x : Option (List Nat) × State) w =>
        match x.1 with
        | none => x
        | some bs =>
          let y := x.2.busRead reqHost w w
          (y.1.map (fun v => bs ++ leBytes 4 v), y.2)) (some [], s)
      .next (t.2.complete (match t.1 with
        | some bs => .data bs
        | none => .unsupported))

end Sys2Proof.Machine
end

