-- ==== Sys2Proof/Machine/Scribe.lean ====
section
/-! DEFINITION. The scribe: command words and their legality, the arbiter, and every command (R307 to R327,
R425). -/

namespace Sys2Proof.Machine

open Sys2Proof

/-! ### Command words (R311) -/

def cmdOp (w : Nat) : Nat := bitsAt w 56 8
def cmdFlags (w : Nat) : Nat := bitsAt w 48 8
def cmdOperand (w : Nat) : Nat := bitsAt w 0 48

/-- Are the bits of `n` among those of a mask of `w` bits? -/
def inMask (w n mask : Nat) : Bool := andNat w n (2 ^ w - 1 - mask % 2 ^ w) == 0

/-- The flag and operand bits that the table names for a command (R311); none for a reserved opcode. -/
def cmdNamed (w : Nat) : Option (Nat × Nat) :=
  match cmdOp w with
  | 0x00 => some (0, 0)
  | 0x01 => some (1, 2 ^ 44 - 1)
  | 0x02 => some (0xFF, 2 ^ 44 - 1)
  | 0x03 => some (0, 2 ^ 44 - 1)
  | 0x04 => some (7, 2 ^ 32 - 1)
  | 0x05 => some (7, 2 ^ 32 - 1)
  | 0x06 => some (5, 2 ^ 40 - 1)
  | 0x07 => some (3, 0xFF003F)
  | 0x08 => some (1, 0xF)
  | 0x09 => some (1, 2 ^ 27 - 1)
  | 0x0A => some (1, 0xF)
  | 0x0B => some (1, 2 ^ 32 - 1)
  | 0x0C => some (0, 0)
  | 0x0D => some (7, if bitAt (cmdFlags w) 2 then 2 ^ 32 - 1 else 2 ^ 44 - 1)
  | 0x0E => some (7, if bitAt (cmdFlags w) 2 then 2 ^ 32 - 1 else 2 ^ 44 - 1)
  | 0x0F => some (0, 0)
  | 0x10 => some (0, 0)
  | 0x11 => some (1, 0)
  | 0x12 => some (0, 0)
  | _ => none

/-- Is a command with these words legal (R311)? -/
def legalCmd (ws : List Nat) : Bool :=
  match ws with
  | [] => false
  | w :: _ =>
    let op := cmdOp w
    match cmdNamed w with
    | none => false
    | some (f, o) =>
      inMask 8 (cmdFlags w) f && inMask 48 (cmdOperand w) o && decide (ws.length = cmdWords w)
        && !((op == 0x0D || op == 0x0E) && bitAt (cmdFlags w) 0 && bitAt (cmdFlags w) 1)
        && !((op == 0x08 || op == 0x0A) && decide (12 ≤ cmdOperand w))

/-! ### The arbiter (R309) -/

/-- Is a queue's next command fetched and ready? -/
def State.qReady (s : State) (q : Nat) : Bool :=
  let x := s.scq q
  s.qState q == qRunning && x.wait.isNone && decide (x.readyAt ≤ s.now) && (s.nextCmd q).isSome

/-- Ready queues of a priority, in round-robin order from the queue after the one served last. -/
def State.readyOf (s : State) (prio last : Nat) : List Nat :=
  ((List.range 8).map (fun i => (last + 1 + i) % 8)).filter (fun q =>
    s.rd (SCRIBE_Q_CTRL_PRIO q) == prio && s.qReady q)

/-- The streak of PRIO 1 starts still runs in this tick. -/
def State.streakNow (s : State) : Nat :=
  match s.scribe.started with
  | some t => if t + 1 = s.now then s.scribe.streak else 0
  | none => 0

/-- The queue that the scribe serves in this tick, while it has not started a command in it. -/
def State.pick (s : State) : Option Nat :=
  if s.scribe.started = some s.now then none
  else
    let hi := s.readyOf 1 s.scribe.last1
    let lo := s.readyOf 0 s.scribe.last0
    match hi, lo with
    | [], [] => none
    | q :: _, [] => some q
    | [], q :: _ => some q
    | q :: _, p :: _ => some (if 16 ≤ s.streakNow then p else q)

/-- A queue starts a command (R309): counted, and the arbiter moves on; a remote block begins. -/
def State.qBegin (s : State) (q : Nat) : State :=
  let hi := s.on (SCRIBE_Q_CTRL_PRIO q)
  let lowWaits := !(s.readyOf 0 s.scribe.last0).isEmpty
  let streak := if hi && lowWaits then s.streakNow + 1 else 0
  let c := s.scribe
  let s := { s with scribe := { c with
    started := some s.now, streak := streak
    last1 := if hi then q else c.last1, last0 := if hi then c.last0 else q } }
  let x := s.scq q
  let s := s.setScq q { x with readyAt := s.now + 1, inBlock := !x.blocks.isEmpty }
  s.bump SCRIBE_ISSUED

/-- A queue runs its next command when the scribe picks it and the command has an opcode and is legal. -/
def State.runCmd (s : State) (q op : Nat) (act : Nat → List Nat → State → State) : State :=
  if s.pick = some q then
    match s.nextCmd q with
    | some (w :: ws) =>
      if cmdOp w = op && legalCmd (w :: ws) then (act w ws (s.qBegin q)).qShow q else s
    | _ => s
  else s

/-- The device address of the command that a queue runs. -/
def State.qPc (s : State) (q : Nat) : Nat := s.rd (SCRIBE_Q_PC q)

/-- The requester of a command's accesses: the scribe, or the port of the remote block (R425). -/
def State.qReq (s : State) (q : Nat) : Nat :=
  let x := s.scq q
  match x.blocks with
  | (k, _) :: _ => if x.inBlock then reqLp k else reqScribe
  | [] => reqScribe

/-- A queue waits: state WAITING, until a timeout in µs if one is given. [DEDUCED, log 89] -/
def State.qWait (s : State) (q : Nat) (w : ScWait) (us : Nat) (cont : Bool) : State :=
  let x := s.scq q
  let s := s.setScq q { x with
    wait := some w, cont := cont, deadline := if us = 0 then none else some (s.now + us * ticksPerUs) }
  s.setQState q qWaiting

/-- The command sets C and the hop count for the next SIGNAL, and is done. [DEDUCED, log 91] -/
def State.qDone (s : State) (q : Nat) (c : Option Nat) : State :=
  let x := s.scq q
  let s := match c with
    | some v => (s.setScq q { x with hop := none }).wr (SCRIBE_Q_STATUS_C q) v
    | none => s
  s.qPass q

/-! ### Accesses (R304 to R306, R312 to R316) -/

/-- Does the scribe's 4-byte access at a device address stand (R304, R316)? Answers the fault code if not.
[DEDUCED, log 87] -/
def State.accCheck (s : State) (r a : Nat) (write : Bool) : Option Nat × State :=
  let fits := if devSpace a = 3 then devOff a % 4 == 0 && decide (devOff a + 4 ≤ 2 ^ 26) else s.devFits a 4
  if !fits then (some 0x8002, s)
  else
    let k := if devSpace a = 3 then regClass (devOff a) write else clsMemory
    let p := s.permit r k write a
    (if p.1 then none else some 0x8003, p.2)

/-- The checks of some accesses in turn; the first that fails is a command fault. -/
def State.qCheck (s : State) (q : Nat) (as_ : List (Nat × Bool)) : Bool × State :=
  as_.foldl (fun (x : Bool × State) (a : Nat × Bool) =>
    if !x.1 then x
    else
      let c := x.2.accCheck (x.2.qReq q) a.1 a.2
      match c.1 with
      | none => (true, c.2)
      | some code => (false, c.2.qFault q code (slot2 (c.2.qPc q) ++ slot2 a.1))) (true, s)

/-- An access is issued and takes effect 6 ticks later (R312). [DEDUCED, log 87] -/
def State.qPost (s : State) (q delay : Nat) (act : PostAct) : State :=
  let p : Posted := { at_ := s.now + delay + 6, q := q, req := s.qReq q, pc := s.qPc q, act := act }
  { s with scribe := { s.scribe with posted := s.scribe.posted ++ [p] } }

/-- Is every earlier WRITE, WRITEM and READ of a queue complete (R315)? -/
def State.qQuiet (s : State) (q : Nat) : Bool :=
  s.scribe.posted.all (fun p => p.q != q || match p.act with
    | .commit _ _ => true
    | _ => false)

/-- Does what a scribe write or READ touches lie in DRAM that is in self-refresh (R306)? -/
def State.postHeld (s : State) (p : Posted) : Bool :=
  s.inSelfRefresh && match p.act with
    | .write a _ _ _ => devSpace a == 0
    | .read a d _ => devSpace a == 0 || devSpace d == 0
    | .commit _ _ => false

/-- The fault of an access that has been issued (R316). -/
def State.postFault (s : State) (p : Posted) (code addr : Nat) : State :=
  s.qFault p.q code (slot2 p.pc ++ slot2 addr)

/-- How an access that has been issued ends, when it does not end well. -/
def State.postEnd (s : State) (p : Posted) (a : Nat) (r : AccRes) (good : List Nat → State) : State :=
  match r with
  | .ok bs => good bs
  | .denied => s.postFault p 0x8003 a
  | .range => s.postFault p 0x8002 a
  | .failed x => s.postFault p 0x800B x
  | .stall => s

/-- COMMITs recorded or withdrawn for the contexts that a mask names (R322). -/
def State.commitMask (s : State) (mask : Nat) (cancel : Bool) : State :=
  let s := (List.range 24).foldl (fun s b =>
    if bitAt mask b then
      match s.pipeOf (b / 2) with
      | some p => if cancel then s.ctxCancel p (b % 2) else s.ctxCommit p (b % 2)
      | none => s.set1 SCRIBE_STATUS_COMMIT_UNSERVED
    else s) s
  let s := if bitAt mask 24 then s.stitchCommit cancel else s
  let s := if bitAt mask 25 then s.masterCommit cancel else s
  if bitAt mask 26 then s.scalerCommit cancel else s

/-- What the host answers to a read of one word: nothing stands for an error. -/
def hostWordBytes (host : Option Nat) : List Nat :=
  match host with
  | some v => leBytes 4 v
  | none => []

/-- A scribe access or COMMIT takes effect (R312 to R314, R322). [DEDUCED, log 92; DEDUCED, log 94] -/
def State.postApply (s : State) (p : Posted) : State :=
  let hb := s.rd (SCRIBE_Q_HOST_BASE p.q)
  match p.act with
  | .commit mask cancel => s.commitMask mask cancel
  | .write a data none _ =>
    let t := s.accWrite p.req clsDma hb a (leBytes 4 data)
    t.2.postEnd p a t.1 (fun _ => t.2)
  | .write a data (some m) host =>
    let t := s.accRead p.req clsDma a 4 (hostWordBytes host)
    t.2.postEnd p a t.1 (fun bs =>
      let v := orNat 32 (andNat 32 (ofLeBytes bs) (2 ^ 32 - 1 - m % 2 ^ 32)) (andNat 32 data m)
      let u := t.2.accWrite p.req clsDma hb a (leBytes 4 v)
      u.2.postEnd p a u.1 (fun _ => u.2))
  | .read a d host =>
    let t := s.accRead p.req clsDma a 4 (hostWordBytes host)
    t.2.postEnd p a t.1 (fun bs =>
      let u := t.2.accWrite p.req clsDma hb d bs
      u.2.postEnd p d u.1 (fun _ =>
        let s := u.2.wr (SCRIBE_Q_LAST_READ p.q) (ofLeBytes bs)
        if (s.scq p.q).wait = some .access then s.qWake p.q none (s.scq p.q).hop else s))

/-- What is issued and due in this tick takes effect, in the order of issue; an access that has met DRAM in
self-refresh for 1 ms ends in error (R306). [DEDUCED, log 87] -/
def State.postTick (s : State) : State :=
  let all := s.scribe.posted
  let s := { s with scribe := { s.scribe with posted := [] } }
  all.foldl (fun s p =>
    let keep (s : State) : State := { s with scribe := { s.scribe with posted := s.scribe.posted ++ [p] } }
    if s.now < p.at_ then keep s
    else if s.postHeld p then
      if p.at_ + 1000 * ticksPerUs ≤ s.now then
        s.postFault p 0x800B (match p.act with
          | .write a _ _ _ => a
          | .read a d _ => if devSpace a = 0 then a else d
          | .commit _ _ => 0)
      else keep s
    else s.postApply p) s

/-- SIGNAL produces its event and its message (R315). [DEDUCED, log 91] -/
def State.signal (s : State) (producer : Nat) (hop : Option Nat) (ev irq : Bool) (ch vec : Nat) : State :=
  let s := if ev then s.occurOn producer ch (match hop with
      | some h => h + 1
      | none => 0) else s
  if irq then s.msix vec else s

/-- FENCEs and SIGNALs whose earlier accesses are complete go on (R315). -/
def State.fenceTick (s : State) : State :=
  (List.range 8).foldl (fun s q =>
    if !s.qQuiet q then s
    else
      let hop := (s.scq q).hop
      match (s.scq q).wait with
      | some .access => s.qWake q none hop
      | some (.signal ev irq ch vec) => (s.signal 249 hop ev irq ch vec).qWake q none hop
      | _ => s) s

/-! ### The commands -/

/-- CMD_NOP (R311). -/
def execCmdNop (q : Fin 8) (s : State) : Host.Outcome State Fault Refusal :=
  .next (s.runCmd q.val 0x00 (fun _ _ s => s.qDone q.val none))

/-- CMD_WRITE (R312, R316); `host` is what the host answers to the read of a masked write to host space.
[DEDUCED, log 92] -/
def execCmdWrite (q : Fin 8) (host : Option (BitVec 32)) (s : State) : Host.Outcome State Fault Refusal :=
  let q := q.val
  .next (s.runCmd q 0x01 (fun w ws s =>
    let a := bitsAt w 0 44
    let d := nth 0 ws 0
    let masked := bitAt (cmdFlags w) 0
    let c := s.qCheck q (if masked then [(a, false), (a, true)] else [(a, true)])
    if !c.1 then c.2
    else (c.2.qPost q 0 (.write a (d % 2 ^ 32) (if masked then some (d / 2 ^ 32) else none) (host.map (·.toNat)))).qDone q none))

/-- Values from index i of a WRITEM are issued, one in each tick, until one is refused. [DEDUCED, log 93] -/
def State.issueMany (s : State) (q base : Nat) : Nat → List Nat → Bool × State
  | _, [] => (true, s)
  | i, v :: vs =>
    let c := s.qCheck q [(base + 4 * i, true)]
    if !c.1 then c
    else (c.2.qPost q i (.write (base + 4 * i) v none none)).issueMany q base (i + 1) vs

/-- The N data values of a WRITEM (R311). -/
def manyValues (n : Nat) (ws : List Nat) : List Nat :=
  (List.range n).map (fun i => bitsAt (nth 0 ws (i / 2)) (32 * (i % 2)) 32)

/-- CMD_WRITEM (R312, R316). [DEDUCED, log 93] -/
def execCmdWritem (q : Fin 8) (s : State) : Host.Outcome State Fault Refusal :=
  let q := q.val
  .next (s.runCmd q 0x02 (fun w ws s =>
    let n := cmdFlags w
    let c := s.issueMany q (bitsAt w 0 44) 0 (manyValues n ws)
    if !c.1 then c.2
    else
      let s := c.2.setScq q { c.2.scq q with readyAt := s.now + max n 1 }
      s.qDone q none))

/-- CMD_READ (R314, R316); `host` is what the host answers to a read of host space, none an error. -/
def execCmdRead (q : Fin 8) (host : Option (BitVec 32)) (s : State) : Host.Outcome State Fault Refusal :=
  let q := q.val
  .next (s.runCmd q 0x03 (fun w ws s =>
    let a := bitsAt w 0 44
    let d := bitsAt (nth 0 ws 0) 0 44
    let c := s.qCheck q [(a, false), (d, true)]
    if !c.1 then c.2
    else (c.2.qPost q 0 (.read a d (host.map (·.toNat)))).qWait q .access 0 false))

/-- CMD_WAITPOS (R317). -/
def execCmdWaitpos (q : Fin 8) (s : State) : Host.Outcome State Fault Refusal :=
  let q := q.val
  .next (s.runCmd q 0x04 (fun w ws s =>
    let f := cmdFlags w
    let t := signed 64 (nth 0 ws 0) + (if bitAt f 1 then s.pos16 else 0)
    if bitAt f 0 && decide (t * (2 : Int) ^ 24 ≤ s.tl.pos) then (s.set1 (SCRIBE_Q_STATUS_LATE q)).qDone q (some 1)
    else
      let o := s.offer (.waitpos q) (slotOf t)
      if o.2 then o.1.qWait q .pos (bitsAt w 0 32) (bitAt f 2)
      else o.1.qFault q 0x8007 (slot2 (s.qPc q) ++ slotPos (slotPos16 (slotOf t)))))

/-- WAITPOS_WAKE (R37, R39, R317): the action is applied and the queue goes on; a late one sets C. -/
def execWaitposWake (s : State) : Host.Outcome State Fault Refusal :=
  match s.takeDue (fun a => match a with
    | .waitpos _ => true
    | _ => false) with
  | none => .next s
  | some (e, s) =>
    match e.act with
    | .waitpos q =>
      let s := if e.late then s.set1 (SCRIBE_Q_STATUS_LATE q) else s
      .next (s.qWake q (some (b2n e.late)) none)
    | _ => .next s

/-- CMD_WAITTIME (R318). -/
def execCmdWaittime (q : Fin 8) (s : State) : Host.Outcome State Fault Refusal :=
  let q := q.val
  .next (s.runCmd q 0x05 (fun w ws s =>
    let f := cmdFlags w
    let t := (nth 0 ws 0 % 2 ^ 48 + (if bitAt f 1 then s.ptp48 else 0)) % 2 ^ 48
    if aheadOf t s.ptp48 then s.qWait q (.time t) (bitsAt w 0 32) (bitAt f 2)
    else
      let s := s.set1 (SCRIBE_Q_STATUS_LATE q)
      let s := if bitAt f 0 then s
        else s.fault srcScribe 0x800A (slot1 q ++ slot2 (s.qPc q) ++ slot1 (t / 2 ^ 32) ++ slot1 t)
      s.qDone q (some 1)))

/-- WAITTIME_REACHED (R318). -/
def execWaittimeReached (q : Fin 8) (s : State) : Host.Outcome State Fault Refusal :=
  match (s.scq q.val).wait with
  | some (.time t) => .next (if aheadOf t s.ptp48 then s else s.qWake q.val (some 0) none)
  | _ => .next s

/-- CMD_WAITEV (R320). -/
def execCmdWaitev (q : Fin 8) (s : State) : Host.Outcome State Fault Refusal :=
  let q := q.val
  .next (s.runCmd q 0x06 (fun w _ s =>
    let f := cmdFlags w
    let n := bitsAt w 32 8
    let s := if bitAt f 0 then s.wr (SCRIBE_Q_STATUS_EV_LATCH q) 0 else s
    if n = 0 then s.qDone q (some 0)
    else ((s.qWait q .ev (bitsAt w 0 32) (bitAt f 2)).wr (SCRIBE_Q_WAIT_LEFT q) n).qTake q))

/-- CMD_WAIT_TIMEOUT (R321): the timeout of a wait expires. [DEDUCED, log 90] -/
def execCmdWaitTimeout (q : Fin 8) (s : State) : Host.Outcome State Fault Refusal :=
  let q := q.val
  let x := s.scq q
  match x.wait, x.deadline with
  | some k, some t =>
    if s.now < t then .next s
    else
      let s := s.fault srcScribe 0xC030 (slot1 q ++ slot2 (s.qPc q) ++ slot1 k.kind)
      let s := s.set1 (SCRIBE_Q_STATUS_TIMEOUT q)
      if x.cont then .next (s.qWake q (some 1) none)
      else .next (((s.wr (SCRIBE_Q_ERR_CODE q) 0xC030).bumpSat (SCRIBE_Q_ERR_COUNT q)).qRest q qError)
  | _, _ => .next s

/-- CMD_SIGNAL (R315). -/
def execCmdSignal (q : Fin 8) (s : State) : Host.Outcome State Fault Refusal :=
  let q := q.val
  .next (s.runCmd q 0x07 (fun w _ s =>
    let f := cmdFlags w
    let ch := bitsAt w 0 6
    let vec := bitsAt w 16 8
    if s.qQuiet q then (s.signal 249 (s.scq q).hop (bitAt f 0) (bitAt f 1) ch vec).qDone q none
    else s.qWait q (.signal (bitAt f 0) (bitAt f 1) ch vec) 0 false))

/-- CMD_ARM (R323, R427). [DEDUCED, log 97] -/
def execCmdArm (q : Fin 8) (s : State) : Host.Outcome State Fault Refusal :=
  let q := q.val
  .next (s.runCmd q 0x08 (fun w ws s =>
    let t := bitsAt w 0 4
    let c := signed 64 (nth 0 ws 0)
    let wait := bitAt (cmdFlags w) 0
    let r := (if wait then s.qWait q .mode 0 false else s).armRequest t c (if wait then some q else none)
    match r.1 with
    | some why => s.qFault q 0x8009 (slot2 (s.qPc q) ++ slot1 t ++ slot1 why)
    | none => if wait then r.2 else
        let x := r.2.scq q
        ((r.2.setScq q { x with hop := (s.scq q).hop }).wr (SCRIBE_Q_STATUS_C q) 0).qPass q))

/-- CMD_COMMIT (R322): the COMMIT reaches every named context 6 ticks after issue. -/
def execCmdCommit (q : Fin 8) (s : State) : Host.Outcome State Fault Refusal :=
  let q := q.val
  .next (s.runCmd q 0x09 (fun w _ s =>
    (s.qPost q 0 (.commit (bitsAt w 0 27) (bitAt (cmdFlags w) 0))).qDone q none))

/-- CMD_MODE (R323, R436). -/
def execCmdMode (q : Fin 8) (s : State) : Host.Outcome State Fault Refusal :=
  let q := q.val
  .next (s.runCmd q 0x0A (fun w _ s =>
    let t := bitsAt w 0 4
    let r := (s.qDone q none).modeRequest t
    match r.1 with
    | some why => s.qFault q 0x8008 (slot2 (s.qPc q) ++ slot1 t ++ slot1 why)
    | none => r.2))

/-- LOOPs passed over, with the commands in them, up to the matching ENDLOOP; `n` commands at most.
[DEDUCED, log 96] -/
def State.qSkip : Nat → Nat → State → State
  | 0, _, s => s
  | n + 1, q, s =>
    let x := s.scq q
    match x.words with
    | [] => s
    | w :: ws =>
      if x.skip = 0 || ws.length + 1 < cmdWords w then s
      else
        let op := cmdOp w
        let d := if op = 0x0B then x.skip + 1 else if op = 0x0C then x.skip - 1 else x.skip
        State.qSkip n q ((s.setScq q { x with skip := d }).qPass q)

/-- CMD_LOOP (R325). -/
def execCmdLoop (q : Fin 8) (s : State) : Host.Outcome State Fault Refusal :=
  let q := q.val
  .next (s.runCmd q 0x0B (fun w _ s =>
    let pc := s.qPc q
    let forever := bitAt (cmdFlags w) 0
    let n := bitsAt w 0 32
    let x := s.scq q
    if !forever && n = 0 then
      let s := s.qPass q
      State.qSkip 300 q (s.setScq q { s.scq q with skip := 1 })
    else if 4 ≤ x.loops.length then s.qFault q 0x8005 (slot2 pc)
    else
      let l : ScLoop := { word := pc, body := s.wordAfter q pc 1, ring := s.inRing q pc,
                          left := if forever then none else some n }
      (s.setScq q { x with loops := l :: x.loops }).qPass q))

/-- A queue goes on at another address: what was fetched is of no use. -/
def State.qGoto (s : State) (q a : Nat) : State :=
  let x := s.scq q
  (s.setScq q { x with words := [] }).wr (SCRIBE_Q_PC q) a

/-- CMD_ENDLOOP (R325). -/
def execCmdEndloop (q : Fin 8) (s : State) : Host.Outcome State Fault Refusal :=
  let q := q.val
  .next (s.runCmd q 0x0C (fun _ _ s =>
    let x := s.scq q
    match x.loops with
    | [] => s.qFault q 0x8005 (slot2 (s.qPc q))
    | l :: rest =>
      match l.left with
      | none => s.qGoto q l.body
      | some n =>
        if n ≤ 1 then (s.setScq q { x with loops := rest }).qPass q
        else (s.setScq q { x with loops := { l with left := some (n - 1) } :: rest }).qGoto q l.body))

/-- Is a JUMP or CALL taken (R326)? -/
def State.taken (s : State) (q w : Nat) : Bool :=
  let c := s.on (SCRIBE_Q_STATUS_C q)
  !((bitAt (cmdFlags w) 0 && !c) || (bitAt (cmdFlags w) 1 && c))

/-- The target of a JUMP or CALL at PC (R311, R326). -/
def jumpTarget (pc w : Nat) : Nat :=
  if bitAt (cmdFlags w) 2 then (((pc : Int) + 8 * signed 32 (bitsAt w 0 32)) % (2 : Int) ^ 44).toNat else bitsAt w 0 44

/-- A target that R326 refuses. -/
def State.badTarget (s : State) (q a : Nat) : Bool := a % 8 != 0 || decide (2 ≤ devSpace a) || s.inRing q a

/-- A queue leaves the ring: its loops in the ring end, and HEAD follows the command (R326).
[DEDUCED, log 96] -/
def State.leaveRing (s : State) (q pc : Nat) : State :=
  if s.inRing q pc then
    let x := s.scq q
    let s := s.setScq q { x with loops := x.loops.filter (fun l => !l.ring) }
    s.wr (SCRIBE_Q_HEAD q) (s.wordAfter q pc 1 - s.rd (SCRIBE_Q_BASE q))
  else s

/-- CMD_JUMP (R326). -/
def execCmdJump (q : Fin 8) (s : State) : Host.Outcome State Fault Refusal :=
  let q := q.val
  .next (s.runCmd q 0x0D (fun w _ s =>
    let pc := s.qPc q
    let a := jumpTarget pc w
    if !s.taken q w then s.qPass q
    else if s.badTarget q a then s.qFault q 0x8002 (slot2 pc ++ slot2 a)
    else (s.leaveRing q pc).qGoto q a))

/-- CMD_CALL (R326). -/
def execCmdCall (q : Fin 8) (s : State) : Host.Outcome State Fault Refusal :=
  let q := q.val
  .next (s.runCmd q 0x0E (fun w _ s =>
    let pc := s.qPc q
    let a := jumpTarget pc w
    let x := s.scq q
    if !s.taken q w then s.qPass q
    else if s.badTarget q a then s.qFault q 0x8002 (slot2 pc ++ slot2 a)
    else if 8 ≤ x.calls.length then s.qFault q 0x8004 (slot2 pc ++ slot1 x.calls.length)
    else ((s.setScq q { x with calls := s.wordAfter q pc 1 :: x.calls }).leaveRing q pc).qGoto q a))

/-- CMD_RET (R326). -/
def execCmdRet (q : Fin 8) (s : State) : Host.Outcome State Fault Refusal :=
  let q := q.val
  .next (s.runCmd q 0x0F (fun _ _ s =>
    let x := s.scq q
    match x.calls with
    | [] => s.qFault q 0x8004 (slot2 (s.qPc q) ++ slot1 0)
    | a :: rest => (s.setScq q { x with calls := rest }).qGoto q a))

/-- CMD_FENCE (R315). -/
def execCmdFence (q : Fin 8) (s : State) : Host.Outcome State Fault Refusal :=
  let q := q.val
  .next (s.runCmd q 0x10 (fun _ _ s =>
    if s.qQuiet q then s.qDone q none else s.qWait q .access 0 false))

/-- CMD_RESYNC (R324, R460). -/
def execCmdResync (q : Fin 8) (s : State) : Host.Outcome State Fault Refusal :=
  let q := q.val
  .next (s.runCmd q 0x11 (fun w _ s =>
    if bitAt (cmdFlags w) 0 then (s.qWait q (.resync s.now) 0 false).sumRequest 1
    else (s.qDone q none).sumRequest 1))

/-- CMD_HALT (R311): only its queue stops. -/
def execCmdHalt (q : Fin 8) (s : State) : Host.Outcome State Fault Refusal :=
  let q := q.val
  .next (s.runCmd q 0x12 (fun _ _ s => ((s.qPass q).qShow q).qRest q qHalted))

/-- CMD_ILLEGAL (R311): an illegal command is a command fault. -/
def execCmdIllegal (q : Fin 8) (s : State) : Host.Outcome State Fault Refusal :=
  let q := q.val
  if s.pick = some q then
    match s.nextCmd q with
    | some ws =>
      if legalCmd ws then .next s
      else
        let s := s.qBegin q
        .next (s.qFault q 0x8001 (slot2 (s.qPc q) ++ slot1 (nth 0 ws 0)))
    | none => .next s
  else .next s

/-! ### Fetching (R308, R309, R327) -/

/-- Words that a queue may fetch now beyond those it holds: up to 16, and the whole of its next command.
[DEDUCED, log 88] -/
def State.fetchRoom (s : State) (q : Nat) : Nat :=
  let x := s.scq q
  let want := match x.words with
    | w :: _ => max 16 (cmdWords w)
    | [] => 16
  let pc := s.qPc q
  let avail := if s.inRing q pc then s.ringLeft q pc else want
  min want avail - x.words.length

/-- Words fetched one by one; how the fetch of the first that fails ends, and its address. [DEDUCED, log 98] -/
def State.fetchWords : Nat → State → Nat → List Nat → List Nat → Option (AccRes × Nat) × List Nat × State
  | 0, s, _, ws, _ => (none, ws, s)
  | n + 1, s, q, ws, host =>
    let a := s.wordAfter q (s.qPc q) ws.length
    let t := s.accRead reqScribe clsDma a 8 (match host with
      | [] => []
      | h :: _ => leBytes 8 h)
    match t.1 with
    | .ok bs => State.fetchWords n t.2 q (ws ++ [ofLeBytes bs]) (if devSpace a = 1 then host.drop 1 else host)
    | r => (some (r, a), ws, t.2)

/-- Are the words of a queue's next command not all there? -/
def short (ws : List Nat) : Bool :=
  match ws with
  | [] => true
  | w :: _ => decide (ws.length < cmdWords w)

/-- CMD_FETCH (R306, R308, R309, R327): a fetch of command words completes; `host` is what the host answers to
fetches from host space. A word that cannot be had is a fault once the next command needs it.
[DEDUCED, log 88; DEDUCED, log 98] -/
def execCmdFetch (q : Fin 8) (host : List (BitVec 64)) (s : State) : Host.Outcome State Fault Refusal :=
  let q := q.val
  if s.qAtRest q then .next s
  else
    let x := s.scq q
    let n := s.fetchRoom q
    let t := State.fetchWords n s q x.words (host.map (·.toNat))
    let s := t.2.2
    let s := s.setScq q { s.scq q with words := t.2.1, stuck := none }
    let done (s : State) : State := (State.qSkip 300 q s).qShow q
    match t.1 with
    | none => .next (done s)
    | some (r, a) =>
      if !short t.2.1 then .next (done s)
      else
        let pc := slot2 (s.qPc q)
        match r with
        | .denied => .next (s.qFault q 0x8003 (pc ++ slot2 a))
        | .range => .next (s.qFault q 0x8002 (pc ++ slot2 a))
        | .failed x => .next (s.qFault q 0x8006 (slot2 x))
        | .stall =>
          let since := x.stuck.getD s.now
          if since + 1000 * ticksPerUs ≤ s.now then .next (s.qFault q 0x8006 (slot2 a))
          else .next (done (s.setScq q { s.scq q with stuck := some since }))
        | .ok _ => .next (done s)

end Sys2Proof.Machine
end

