-- ==== Sys2Proof/Machine/Dma.lean ====
section
/-! DEFINITION. DMA programs: instruction words and their legality, and every instruction (R328 to R338). -/

namespace Sys2Proof.Machine

open Sys2Proof

/-! ### Instruction words (R330) -/

def dmaOp (w : Nat) : Nat := bitsAt w 0 4

/-- The bits above the opcode that an instruction names, as fields of place and width; none for a reserved opcode. -/
def dmaNamed (w : Nat) : Option (List (Nat × Nat)) :=
  match dmaOp w with
  | 0x1 => some [(4, 3), (8, 44), (52, 44), (96, 32)]
  | 0x2 => some [(4, 1), (32, 32), (64, 32), (96, 32)]
  | 0x3 => some []
  | 0x4 => some [(4, 2), (32, 32), (64, 32)]
  | 0x5 => some [(4, 3), (8, 6), (16, 8), (32, 32), (64, 44)]
  | 0x6 => some []
  | _ => none

/-- Is an instruction legal (R330)? -/
def legalDma (w : Nat) : Bool :=
  match dmaNamed w with
  | none => false
  | some fs => (fs.foldl (fun a f => putBits a f.1 f.2 0) w) == dmaOp w

/-! ### Running a program -/

def State.dPc (s : State) (c : Nat) : Nat := s.rd (DMA_CH_PROG_PC c)

/-- How a fetch ends: an instruction, an error (code and address), or nothing yet. -/
inductive DmaFetch where
  | word (w : Nat)
  | error (code : Nat)
  | later
  deriving DecidableEq, Repr

/-- Has an access of a channel met DRAM in self-refresh for 1 ms (R306)? -/
def State.dStuck (s : State) (c : Nat) : Bool :=
  match (s.dch c).stuck with
  | some t => decide (t + 1000 * ticksPerUs ≤ s.now)
  | none => false

/-- A channel's access waits for self-refresh to end. -/
def State.dHold (s : State) (c : Nat) : State :=
  let x := s.dch c
  s.setDch c { x with stuck := some (x.stuck.getD s.now) }

def State.dFree (s : State) (c : Nat) : State := s.setDch c { s.dch c with stuck := none }

/-- The instruction at PROG_PC; `host` is what the host answers, none an error. -/
def State.dFetch (s : State) (c : Nat) (host : Option (BitVec 128)) : DmaFetch × State :=
  let t := s.accRead reqDma clsDma (s.dPc c) 16 (match host with
    | some w => leBytes 16 w.toNat
    | none => [])
  match t.1 with
  | .ok bs => (.word (ofLeBytes bs), t.2.dFree c)
  | .denied => (.error 0x8043, t.2)
  | .range => (.error 0x8041, t.2)
  | .failed _ => (.error 0x8048, t.2)
  | .stall => if s.dStuck c then (.error 0x8048, t.2) else (.later, t.2.dHold c)

/-- An error of the instruction at PROG_PC (R338). -/
def State.dErr (s : State) (c code addr : Nat) (slots : List Nat) : State :=
  s.dFault c code addr (slot2 (s.dPc c) ++ slots)

/-- May a channel start its next instruction? One that needs earlier MOVEs complete waits for them (R332).
[DEDUCED, log 99] -/
def State.dMay (s : State) (c : Nat) (quiet : Bool) : Bool :=
  let x := s.dch c
  s.dState c == dRunning && x.stopAt.isNone && x.moves.all (fun m => m.err.isNone) && (!quiet || x.moves.isEmpty)

/-- A channel runs its next instruction when it has an opcode; in a loop body that is passed over it does nothing.
A failed fetch is an error once earlier MOVEs are complete. -/
def State.dRun (s : State) (c op : Nat) (host : Option (BitVec 128)) (act : Nat → State → State) : State :=
  if !s.dMay c false then s
  else
    let f := s.dFetch c host
    let quiet := (s.dch c).moves.isEmpty
    match f.1 with
    | .later => f.2
    | .error code =>
      if !quiet then s
      else if code = 0x8048 then f.2.dFault c code (s.dPc c) (slot2 (s.dPc c))
      else f.2.dErr c code (s.dPc c) (slot2 (s.dPc c))
    | .word w =>
      if dmaOp w != op || !legalDma w then s
      else
        let x := f.2.dch c
        if 0 < x.skip then
          let d := if op = 0x2 then x.skip + 1 else if op = 0x3 then x.skip - 1 else x.skip
          (f.2.setDch c { x with skip := d }).dNext c
        else act w f.2

/-! ### MOVE (R331 to R333) -/

/-- A field address plus the offsets of the open loops, within its space (R334). -/
def effAddr (a : Nat) (o : Int) : Nat := a / 2 ^ 42 * 2 ^ 42 + (((devOff a : Int) + o) % (2 : Int) ^ 42).toNat

/-- The length of the next request at an address with `left` bytes to go: 4 bytes on a FIXED side and in register
space, else up to 512 within a 512-byte block (R328, R331). -/
def reqLen (fixed : Bool) (a left : Nat) : Nat :=
  if fixed || devSpace a == 3 then min 4 left else min left (512 - a % 512)

/-- Bytes read in requests from an address on, `k` requests at most: what came, and the error that ended it. -/
def State.moveRead : Nat → State → Bool → Nat → Nat → List Nat → List Nat → List Nat × Option (Nat × Nat) × State
  | 0, s, _, _, _, _, acc => (acc, none, s)
  | k + 1, s, fixed, a, left, host, acc =>
    if left = 0 then (acc, none, s)
    else
      let n := reqLen fixed a left
      let t := s.accRead reqDma clsDma a n (host.take n)
      match t.1 with
      | .ok bs =>
        State.moveRead k t.2 fixed (if fixed then a else a + n) (left - n) (host.drop n) (acc ++ bs)
      | .denied => (acc, some (0x8043, a), t.2)
      | .range => (acc, some (0x8041, a), t.2)
      | .failed x => (acc, some (0x8046, x), t.2)
      | .stall => (acc, some (0x8046, a), t.2)

/-- Does an address, with the length, break R331? -/
def misaligned (fixed : Bool) (a len : Nat) : Bool :=
  (fixed || devSpace a == 3) && (a % 4 != 0 || len % 4 != 0)

/-- DMA_MOVE (R331 to R334): the reads of a MOVE. `host` is the instruction and `data` the bytes that the host
answers to reads of host space; fewer mean an error response. [DEDUCED, log 99] -/
def execDmaMove (c : Fin 32) (host : Option (BitVec 128)) (data : List (BitVec 8)) (s : State) :
    Host.Outcome State Fault Refusal :=
  let c := c.val
  .next (s.dRun c 0x1 host (fun w s =>
    let x := s.dch c
    let len := bitsAt w 96 32
    let sfix := bitAt w 4
    let dfix := bitAt w 5
    let src := effAddr (bitsAt w 8 44) ((x.loops.map (fun l => l.so)).foldl (· + ·) 0)
    let dst := effAddr (bitsAt w 52 44) ((x.loops.map (fun l => l.dofs)).foldl (· + ·) 0)
    let queue (s : State) (bs : List Nat) (err : Option (Nat × Nat)) : State :=
      let x := s.dch c
      let m : DmaMove := { pc := s.dPc c, dst := dst, fixed := dfix, len := len, data := bs, err := err }
      (s.setDch c { x with moves := x.moves ++ [m], stuck := none }).dNext c
    if bitAt w 6 && !x.moves.isEmpty then s
    else if misaligned sfix src len then queue s [] (some (0x8042, src))
    else if misaligned dfix dst len then queue s [] (some (0x8042, dst))
    else if len = 0 then queue s [] none
    else if !sfix && !dfix && devSpace src == devSpace dst && decide (src < dst) && decide (dst < src + len) then
      queue s [] (some (0x8044, src))
    else if devSpace src = 0 && s.inSelfRefresh && !s.dStuck c then s.dHold c
    else
      let r := State.moveRead (len / 4 + 2) s sfix src len (data.map (·.toNat)) []
      queue (r.2.2.countRead r.1.length) r.1 r.2.1))

/-- Bytes written in requests from an address on: how many, and the error that ended it. -/
def State.moveWrite : Nat → State → Nat → Bool → Nat → List Nat → Nat → Nat × Option (Nat × Nat) × State
  | 0, s, _, _, _, _, done => (done, none, s)
  | k + 1, s, hb, fixed, a, bs, done =>
    match bs with
    | [] => (done, none, s)
    | _ :: _ =>
      let n := reqLen fixed a bs.length
      let t := s.accWrite reqDma clsDma hb a (bs.take n)
      match t.1 with
      | .ok _ => State.moveWrite k t.2 hb fixed (if fixed then a else a + n) (bs.drop n) (done + n)
      | .denied => (done, some (0x8043, a), t.2)
      | .range => (done, some (0x8041, a), t.2)
      | .failed x => (done, some (0x8047, x), t.2)
      | .stall => (done, some (0x8047, a), t.2)

/-- The error that ends a MOVE (R333, R338). [DEDUCED, log 99] -/
def State.moveErr (s : State) (c : Nat) (m : DmaMove) (e : Nat × Nat) : State :=
  let s := if e.1 = 0x8044 then s.set1 (DMA_CH_STATUS_OVERLAP c) else s
  let more := if e.1 = 0x8042 then slot1 m.len else if e.1 = 0x8044 then slot2 m.dst else []
  s.dFault c e.1 e.2 (slot2 m.pc ++ slot2 e.2 ++ more)

/-- DMA_MOVE_COMPLETE (R305, R306, R332, R337, R338): the writes of the oldest MOVE are complete, or end in an
error; a channel that stops does so after its last. -/
def execDmaMoveComplete (c : Fin 32) (s : State) : Host.Outcome State Fault Refusal :=
  let c := c.val
  let x := s.dch c
  match x.moves with
  | [] => .next s
  | m :: rest =>
    if devSpace m.dst = 0 && s.inSelfRefresh && !m.data.isEmpty && !s.dStuck c then .next (s.dHold c)
    else if devSpace m.dst = 0 && s.inSelfRefresh && !m.data.isEmpty then .next (s.moveErr c m (0x8047, m.dst))
    else
      let t := State.moveWrite (m.len / 4 + 2) s (s.rd (DMA_CH_HOST_BASE c)) m.fixed m.dst m.data 0
      let s := (t.2.2.countWritten t.1).wr (DMA_CH_DONE_BYTES c) t.1
      match t.2.1, m.err with
      | some e, _ => .next (s.moveErr c m e)
      | none, some e => .next (s.moveErr c m e)
      | none, none =>
        let s := s.setDch c { s.dch c with moves := rest, stuck := none }
        let s := if m.data.length = m.len then s.bump (DMA_CH_MOVES c) else s
        match x.stopAt with
        | some pc => .next (if rest.isEmpty then (s.wr (DMA_CH_PROG_PC c) pc).dRest c dStopped else s)
        | none => .next s

/-! ### LOOP, ENDLOOP, WAIT, SIGNAL, END (R334 to R336) -/

/-- The open loops of a channel. -/
def State.setLoops (s : State) (c : Nat) (ls : List DmaLoop) : State :=
  (s.setDch c { s.dch c with loops := ls }).wr (DMA_CH_STATUS_LOOPS c) ls.length

/-- DMA_LOOP (R334). -/
def execDmaLoop (c : Fin 32) (host : Option (BitVec 128)) (s : State) : Host.Outcome State Fault Refusal :=
  let c := c.val
  .next (s.dRun c 0x2 host (fun w s =>
    let x := s.dch c
    let forever := bitAt w 4
    let n := bitsAt w 32 32
    if !forever && n = 0 then (s.setDch c { x with skip := 1 }).dNext c
    else if 4 ≤ x.loops.length then if x.moves.isEmpty then s.dErr c 0x8045 (s.dPc c) [] else s
    else
      let l : DmaLoop :=
        { body := (s.dPc c + 16) % 2 ^ 44, left := if forever then none else some n
          so := 0, dofs := 0, ss := signed 32 (bitsAt w 64 32), ds := signed 32 (bitsAt w 96 32) }
      (s.setLoops c (l :: x.loops)).dNext c))

/-- DMA_ENDLOOP (R334): after each pass the strides are added. -/
def execDmaEndloop (c : Fin 32) (host : Option (BitVec 128)) (s : State) : Host.Outcome State Fault Refusal :=
  let c := c.val
  .next (s.dRun c 0x3 host (fun _ s =>
    let x := s.dch c
    match x.loops with
    | [] => if x.moves.isEmpty then s.dErr c 0x8045 (s.dPc c) [] else s
    | l :: rest =>
      let again (left : Option Nat) : State :=
        (s.setLoops c ({ l with left := left, so := l.so + l.ss, dofs := l.dofs + l.ds } :: rest)).wr
          (DMA_CH_PROG_PC c) l.body
      match l.left with
      | none => again none
      | some n => if n ≤ 1 then (s.setLoops c rest).dNext c else again (some (n - 1))))

/-- DMA_WAIT (R319, R320, R335). -/
def execDmaWait (c : Fin 32) (host : Option (BitVec 128)) (s : State) : Host.Outcome State Fault Refusal :=
  let c := c.val
  if !s.dMay c true then .next s
  else
    .next (s.dRun c 0x4 host (fun w s =>
      let n := bitsAt w 32 32
      let us := bitsAt w 64 32
      let s := if bitAt w 4 then s.wr (DMA_CH_STATUS_EV_LATCH c) 0 else s
      let x := s.dch c
      if n = 0 then (s.setDch c { x with hop := none }).dNext c
      else
        let s := s.setDch c { x with
          waiting := true, cont := bitAt w 5, deadline := if us = 0 then none else some (s.now + us * ticksPerUs) }
        ((s.wr (DMA_CH_WAIT_LEFT c) n).setDState c dWaiting).dTake c))

/-- DMA_WAIT_TIMEOUT (R335). -/
def execDmaWaitTimeout (c : Fin 32) (s : State) : Host.Outcome State Fault Refusal :=
  let c := c.val
  let x := s.dch c
  match x.waiting, x.deadline with
  | true, some t =>
    if s.now < t then .next s
    else
      let pc := s.dPc c
      let s := s.set1 (DMA_CH_STATUS_TIMEOUT c)
      if x.cont then .next ((s.fault srcDma 0xC031 (slot1 c ++ slot2 pc)).dWake c none)
      else .next (s.dErr c 0xC031 pc [])
  | _, _ => .next s

/-- DMA_SIGNAL (R315, R336, R342). -/
def execDmaSignal (c : Fin 32) (host : Option (BitVec 128)) (s : State) : Host.Outcome State Fault Refusal :=
  let c := c.val
  if !s.dMay c true then .next s
  else
    .next (s.dRun c 0x5 host (fun w s =>
      let a := bitsAt w 64 44
      let go (s : State) : State :=
        (s.signal 250 (s.dch c).hop (bitAt w 4) (bitAt w 5) (bitsAt w 8 6) (bitsAt w 16 8)).dNext c
      if !bitAt w 6 then go s
      else if a % 4 != 0 then s.dErr c 0x8042 a (slot2 a ++ slot1 4)
      else if devSpace a = 0 && s.inSelfRefresh then
        if s.dStuck c then s.dErr c 0x8047 a (slot2 a) else s.dHold c
      else
        let t := s.accWrite reqDma clsDma (s.rd (DMA_CH_HOST_BASE c)) a (leBytes 4 (bitsAt w 32 32))
        match t.1 with
        | .ok _ => go ((t.2.dFree c).countWritten 4)
        | .denied => t.2.dErr c 0x8043 a (slot2 a)
        | .range => t.2.dErr c 0x8041 a (slot2 a)
        | .failed x => t.2.dErr c 0x8047 x (slot2 x)
        | .stall => s))

/-- DMA_END (R336): the channel stops in DONE, whatever loops are open. -/
def execDmaEnd (c : Fin 32) (host : Option (BitVec 128)) (s : State) : Host.Outcome State Fault Refusal :=
  let c := c.val
  if !s.dMay c true then .next s
  else .next (s.dRun c 0x6 host (fun _ s => (s.dNext c).dRest c dDone))

/-- DMA_ILLEGAL (R330, R338). -/
def execDmaIllegal (c : Fin 32) (host : Option (BitVec 128)) (s : State) : Host.Outcome State Fault Refusal :=
  let c := c.val
  if !s.dMay c true then .next s
  else
    let f := s.dFetch c host
    match f.1 with
    | .word w =>
      .next (if legalDma w then s else f.2.dErr c 0x8040 (s.dPc c) (slot1 w))
    | _ => .next s

end Sys2Proof.Machine
end

