-- ==== Sys2Proof/Machine/DramRows.lean ====
section
/-! DEFINITION. The commands of the DRAM controller that can start or end a migration, which is a
handover of the spare inventory (R366, R367, R372 to R378, R438). -/

namespace Sys2Proof.Machine

open Sys2Proof

/-- DRAM_READ (R367, R373, R374): a read of `len` bytes by a requester class completes; `errs` are
the bits that the devices or the bus return wrong. -/
def execDramRead (addr : BitVec 42) (len : Nat) (cls : Fin 6) (errs : List (Nat × Nat)) (s : State) :
    Host.Outcome State Fault Refusal :=
  let a := addr.toNat
  if !s.dramFits a len then .next s
  else if s.inSelfRefresh then
    .next { s with dram := { s.dram with
      held := s.dram.held ++ [{ cls := cls.val, addr := a, bytes := [], since := s.now, read := some len }] } }
  else
    let s := s.addFlips errs
    let r := s.dramRead a len cls.val
    .next (State.recheck { r.2.2 with out := { r.2.2.out with
      dram := r.2.2.out.dram ++ [⟨a, r.1, r.2.1⟩] } })

/-- DRAM_WRITE (R366, R369): a write of bytes by a requester class completes; `errs` are bits that a
read-modify-write of a partial beat reads wrong. -/
def execDramWrite (addr : BitVec 42) (bytes : List (BitVec 8)) (cls : Fin 6)
    (errs : List (Nat × Nat)) (s : State) : Host.Outcome State Fault Refusal :=
  let a := addr.toNat
  if !s.dramFits a bytes.length then .next s
  else
    let s := if s.inSelfRefresh then s else s.addFlips errs
    let r := s.dramWrite a (bytes.map (·.toNat)) cls.val
    .next (State.recheck { r.2 with out := { r.2.out with dram := r.2.out.dram ++ [⟨a, [], r.1⟩] } })

def execMigReq (s : State) : Host.Outcome State Fault Refusal := .next s.migReq.recheck

/-- MIGRATE_DONE (R377): the copy has reached the end of the rank and the target takes over. -/
def execMigrateDone (s : State) : Host.Outcome State Fault Refusal :=
  match s.dram.mig with
  | none => .next s
  | some m =>
    if s.rd DRAMC_MIG_PTR < 2 ^ s.rankLineBits then .next s
    else
      let lg := s.logicalOf m.ch m.src
      let mine (b : Nat) : Bool :=
        let p := s.place (8 * b)
        p.ch == m.ch && some p.rank == lg
      let poisoned := s.dram.tgtPoison.map (·.1)
      let s := { s with dram := { s.dram with
        flips := s.dram.flips.filter (fun e => !mine e.1), mig := none, tgtPoison := [] } }
      let s := poisoned.foldl (fun s b => s.putPoison b) s
      let s := match lg with
        | some k => s.wr (rankMapF m.ch k) m.tgt
        | none => s
      let s := (s.wr (rankStateF m.ch m.src) rankRetired).wr (rankStateF m.ch m.tgt) rankInService
      let s := (s.wr DRAMC_STATUS_MIGRATING 0).wr DRAMC_MIG_BUSY 0
      .next (s.fault srcDramc 0x6011 (slot1 m.ch ++ slot1 m.src ++ slot1 m.tgt ++
        slot1 (s.rd DRAMC_MIG_LOST) ++ slot1 ((s.now - m.start) / 400000))).recheck

/-- SCRUB_STEP (R372): the patrol reads the next DRAM line. [DEDUCED, log 107] -/
def execScrubStep (errs : List (Nat × Nat)) (s : State) : Host.Outcome State Fault Refusal :=
  if !s.on DRAMC_SCRUB_SCRUB_EN || s.inSelfRefresh then .next s
  else
    let ptr := s.rd DRAMC_SCRUB_PTR
    let ch := ptr % 8
    let rank := ptr / 8 % 4
    let next (s : State) := Host.Outcome.next (s.wr DRAMC_SCRUB_PTR (s.nextScrub ptr)).recheck
    if !s.scrubbed ch rank then next s
    else
      match s.logicalOf ch rank with
      | none =>
        next (errs.foldl (fun s (e : Nat × Nat) =>
          match (decodeBeat (encodeBeat 0 0 ^^^ (e.2 % 2 ^ 80)) 0).1 with
          | .clean => s
          | .corrected => s.noteCe ch rank (ptr / 32 * 128)
          | .poison => s
          | _ => (s.bump (DRAMC_CH_UE ch rank)).fault srcDramc 0x6020
              (slot1 ch ++ slot1 rank ++ slot2 (ptr / 32 * 128))) s)
      | some k =>
        let a := s.placeAddr ch k (ptr / 32)
        let s := s.addFlips errs
        next ((s.flippedIn a 128).foldl (fun s b =>
          let t := s.readBeat b
          match t.1 with
          | .clean => s
          | .corrected => (s.noteCe ch rank (8 * b)).putBeat b t.2.1
          | .poison => s
          | _ =>
            ((((s.set1 DRAMC_STATUS_UE).bump (DRAMC_CH_UE ch rank))).fault srcDramc 0x6020
              (slot1 ch ++ slot1 rank ++ slot2 (8 * b))).rankPolicy ch rank 0) s)

/-- DRAM_CMD_ERROR (R375): a command parity alert on a channel for a rank; `inFlight` are the
requests in flight to that rank as (class, address). -/
def execDramCmdError (ch : Fin 8) (rank : Fin 4) (inFlight : List (Nat × Nat)) (s : State) :
    Host.Outcome State Fault Refusal :=
  let ch := ch.val
  let rank := rank.val
  let recent := s.now :: (spGet (fun _ => []) s.dram.alerts ch).filter
    (fun t => decide (s.now < t + ticksPerUs))
  if recent.length < 3 then
    .next { s with dram := { s.dram with alerts := spSet (fun _ => []) s.dram.alerts ch recent } }
  else
    let s := { s with dram := { s.dram with alerts := spSet (fun _ => []) s.dram.alerts ch [] } }
    let s := s.set1 DRAMC_STATUS_CMD_ERR
    let s := ((s.wr DRAMC_ERR_INFO_CH ch).wr DRAMC_ERR_INFO_RANK rank).wr DRAMC_ERR_INFO_KIND 3
    let s := s.fault srcDramc 0x6004 (slot1 ch ++ slot1 rank)
    let s := { s with out := { s.out with
      dram := s.out.dram ++ inFlight.map (fun (e : Nat × Nat) => DramReply.mk e.2 [] (some e.2)) } }
    .next (s.rankPolicy ch rank 1).recheck

end Sys2Proof.Machine
end

