-- ==== Sys2Proof/Machine/Pins.lean ====
section
/-! DEFINITION. The management target, the test port and the output pins (R504, R516, R517, R523, R524). -/

namespace Sys2Proof.Machine

open Sys2Proof

def State.setJtag (s : State) (f : Jtag → Jtag) : State := { s with jtag := f s.jtag }

/-! ### The management I²C target (R523) -/

/-- Does the target answer at a 7-bit address? The ranger serves it from M1 BOOT to M11 HALT.
[DEDUCED, log 157] -/
def State.mgmtAnswers (s : State) (addr : Nat) : Bool :=
  addr == 0x48 + s.sec.i2c && s.mode != 0 && !s.therm.tripped && s.rangerUp

/-- The register that a pointer selects. -/
def State.mgmtValue (s : State) (p : Nat) : Nat :=
  if p = 0 then s.view TOP_ID
  else if p = 1 then s.view TOP_MODE
  else if p = 2 then s.view TOP_STATUS
  else if p = 3 then s.view THERM_STATUS
  else if 0x10 ≤ p && p ≤ 0x17 then s.view (THERM_REGION_TEMP (p - 0x10))
  else 0

/-- MGMT_READ (R523): four bytes, little-endian; nothing advances. [DEDUCED, log 157] -/
def execMgmtRead (addr : BitVec 7) (s : State) : Host.Outcome State Fault Refusal :=
  if s.mgmtAnswers addr.toNat then
    .next { s with out := { s.out with mgmt := s.out.mgmt ++ leBytes 4 (s.mgmtValue s.jtag.pointer) } }
  else .next s

/-- MGMT_POINTER_WRITE (R523): the first byte selects a register; further bytes are NACKed. -/
def execMgmtPointerWrite (addr : BitVec 7) (bytes : List (BitVec 8)) (s : State) : Host.Outcome State Fault Refusal :=
  if s.mgmtAnswers addr.toNat then
    match bytes with
    | [] => .next s
    | p :: _ => .next (s.setJtag (fun j => { j with pointer := p.toNat }))
  else .next s

/-! ### The test port (R524) -/

/-- An instruction is in force, and a scan shifts out what the selected register captured. -/
def State.testScan (s : State) (inst shifted : Nat) : State :=
  let s := s.setJtag (fun j => { j with inst := inst })
  { s with out := { s.out with tdo := s.out.tdo ++ [shifted] } }

/-- BYPASS: the bypass register captures 0. -/
def State.testBypass (s : State) : State := s.testScan 0xFF 0

/-- A private instruction acts as BYPASS once DEBUG_LOCK is blown (R504). -/
def State.testPrivate (s : State) (act : State → State) : State :=
  if s.on SEC_LOCK_STATE_DEBUG_LOCK then s.testBypass else act s

/-- EXTEST (R524): the boundary register drives the pins; the scan shifts out what it captured.
[PRESUMED, log 155] -/
def execExtest (captured shifted : Nat) (s : State) : Host.Outcome State Fault Refusal :=
  .next ((s.testScan 0x00 captured).setJtag (fun j => { j with boundary := shifted }))

/-- IDCODE (R524). -/
def execIdcode (s : State) : Host.Outcome State Fault Refusal := .next (s.testScan 0x01 0x19612C3F)

/-- SAMPLE/PRELOAD (R524): pins are sampled and the boundary register is loaded, while the device runs. -/
def execSamplePreload (captured shifted : Nat) (s : State) : Host.Outcome State Fault Refusal :=
  .next ((s.testScan 0x02 captured).setJtag (fun j => { j with boundary := shifted }))

/-- HIGHZ (R524): outputs go high-impedance, with the bypass register selected. -/
def execHighz (s : State) : Host.Outcome State Fault Refusal := .next (s.testScan 0x04 0)

/-- CLAMP (R524): the boundary register holds the outputs, with the bypass register selected.
[PRESUMED, log 155] -/
def execClamp (s : State) : Host.Outcome State Fault Refusal := .next (s.testScan 0x05 0)

/-- BYPASS (R524). -/
def execBypass (s : State) : Host.Outcome State Fault Refusal := .next s.testBypass

/-- RANGER_HALT (R504, R524). -/
def execRangerHalt (s : State) : Host.Outcome State Fault Refusal :=
  .next (s.testPrivate (fun s => s.setJtag (fun j => { j with inst := 0x80, halted := true })))

/-- RANGER_RUN (R504, R524). -/
def execRangerRun (s : State) : Host.Outcome State Fault Refusal :=
  .next (s.testPrivate (fun s => s.setJtag (fun j => { j with inst := 0x81, halted := false })))

/-- The access that a MEM_ACCESS register asks for, made as the ranger: data that no good response brings is
free. [DESIGN CHOICE, log 156] -/
def State.memAccess (s : State) (v : Nat) (host : Option (BitVec 32)) : State :=
  let a := bitsAt v 0 44
  if !bitAt v 77 || s.mode = 0 || s.therm.tripped then s
  else if bitAt v 76 then (s.accWrite reqRanger clsDma 0 a (leBytes 4 (bitsAt v 44 32))).2
  else
    let t := s.accRead reqRanger clsDma a 4 (match host with
      | some w => leBytes 4 w.toNat
      | none => [])
    let r := match t.1 with
      | .ok bs => (ofLeBytes bs, t.2)
      | _ => t.2.free 32
    r.2.setJtag (fun j => { j with mem := putBits j.mem 44 32 r.1 })

/-- MEM_ACCESS (R504, R524): the 78-bit register is shifted out and loaded, and with go makes its access. -/
def execMemAccess (v : BitVec 78) (host : Option (BitVec 32)) (s : State) : Host.Outcome State Fault Refusal :=
  .next (s.testPrivate (fun s =>
    ((s.testScan 0x82 s.jtag.mem).setJtag (fun j => { j with mem := v.toNat })).memAccess v.toNat host))

/-! ### Output pins (R4, R516, R517) -/

/-- The output pins that R516 lists and that the block's registers drive. -/
inductive OutPin where
  | strokeA (k : Fin 8)
  | strokeB (k : Fin 8)
  | marker (m : Fin 4)
  | event (n : Fin 16)
  | snCnv
  | snSclk
  | encA (e : Fin 4)
  | alertN
  | thermtripN
  deriving DecidableEq, Repr

/-- A number for each pin, by which the open order of the boundary cells is named. -/
def OutPin.code : OutPin → Nat
  | .strokeA k => k
  | .strokeB k => 8 + k
  | .marker m => 16 + m
  | .event n => 20 + n
  | .snCnv => 36
  | .snSclk => 37
  | .encA e => 38 + e
  | .alertN => 42
  | .thermtripN => 43

/-- A driven level. -/
def driven (high : Bool) : PinLevel := if high then .high else .low

/-- The levels of SN_CNV and SN_SCLK (R183, R516): CONV ticks of SN_CNV, then BITS cycles of SN_SCLK.
[DEDUCED, log 162] -/
def State.sensorPins (s : State) : PinLevel × PinLevel :=
  if s.webOff || !s.on SENSOR_CTRL_OE then (.highZ, .highZ)
  else
    let conv := s.rd SENSOR_TIMING_CONV
    match s.sens.start with
    | none => (driven false, driven false)
    | some (t, _) =>
      let d := s.now - t
      let half := (d - conv) / (s.rd SENSOR_TIMING_DIV + 1)
      (driven (decide (d < conv)),
        driven (decide (conv ≤ d) && decide (half < 2 * s.rd SENSOR_CTRL_BITS) && half % 2 == 1))

/-- The level of ENCe_A (R20, R517): the SSI clock, once host software has set MODE SSI since the last reset.
[DEDUCED, log 162] -/
def State.ssiClock (s : State) (e : Nat) : PinLevel :=
  let x := s.enc e
  if s.webOff || !x.clkOe || s.rd (TIMELINE_ENC_CTRL_MODE e) != 5 then .highZ
  else
    match x.ssiStart with
    | none => driven true
    | some t =>
      let half := (s.now - t) / (s.rd (TIMELINE_ENC_SSI_CFG_DIV e) + 1)
      let cycles := s.rd (TIMELINE_ENC_SSI_CFG_BITS e) + b2n (s.on (TIMELINE_ENC_SSI_CFG_PARITY e))
      driven (decide (2 * cycles ≤ half) || half % 2 == 1)

/-- The level of ALERT_N (R439, R516). -/
def State.alertPin (s : State) : PinLevel :=
  if s.webOff then .highZ
  else if s.on TOP_STATUS_ALERT && s.on TOP_CTRL_ALERT_OE then .low else .highZ

/-- The level of THERMTRIP_N (R478, R516): low from a trip until POR. -/
def State.thermtripPin (s : State) : PinLevel :=
  if s.therm.tripped && s.jtag.inst != 4 then .low else .highZ

/-- The level that the block's registers give an output pin (R516). -/
def State.drivenPin (s : State) : OutPin → PinLevel
  | .strokeA k => (s.strokePins k).1
  | .strokeB k => (s.strokePins k).2
  | .marker m => s.markerPin m
  | .event n => s.eventPin n
  | .snCnv => s.sensorPins.1
  | .snSclk => s.sensorPins.2
  | .encA e => s.ssiClock e
  | .alertN => s.alertPin
  | .thermtripN => s.thermtripPin

/-- The level of an output pin: the registers' (R516), or with EXTEST and CLAMP the boundary register's (R524).
[DEDUCED, log 162] -/
def State.outPin (s : State) (p : OutPin) : PinLevel :=
  if s.jtag.inst == 0 || s.jtag.inst == 5 then driven (Config.boundaryLevel s.jtag.boundary p.code)
  else s.drivenPin p

end Sys2Proof.Machine
end

