-- ==== Sys2Proof/Machine/Dispatch.lean ====
section
/-! DEFINITION. Dispatch of each command to its meaning: one arm for each constructor. -/

namespace Sys2Proof.Machine

open Sys2Proof

/-- What a command does to everything but the queue of commands that wait. [DEDUCED, log 2] -/
def exec (i : Instr) (s : State) : Host.Outcome State Fault Refusal :=
  match i with
  | .registerWrite addr len be data => Sys2Proof.Machine.execRegisterWrite addr len be data s
  | .bar2Access write addr bytes len errs => Sys2Proof.Machine.execBar2Access write addr bytes len errs s
  | .encoderStep e a b => Sys2Proof.Machine.execEncoderStep e a b s
  | .ssiTransferStart e => Sys2Proof.Machine.execSsiTransferStart e s
  | .ssiSample e raw parity => Sys2Proof.Machine.execSsiSample e raw parity s
  | .indexEdge e rising => Sys2Proof.Machine.execIndexEdge e rising s
  | .webStopped => Sys2Proof.Machine.execWebStopped s
  | .simIncrement => Sys2Proof.Machine.execSimIncrement s
  | .runStart => Sys2Proof.Machine.execRunStart s
  | .runStop => Sys2Proof.Machine.execRunStop s
  | .preset => Sys2Proof.Machine.execPreset s
  | .crossLatch => Sys2Proof.Machine.execCrossLatch s
  | .probeEdge k rising => Sys2Proof.Machine.execProbeEdge k rising s
  | .probePop k => Sys2Proof.Machine.execProbePop k s
  | .frameMarkMissing f => Sys2Proof.Machine.execFrameMarkMissing f s
  | .compareFire c => Sys2Proof.Machine.execCompareFire c s
  | .compareEnable c => Sys2Proof.Machine.execCompareEnable c s
  | .compareTargetWrite c target => Sys2Proof.Machine.execCompareTargetWrite c target s
  | .modeChangeApply => Sys2Proof.Machine.execModeChangeApply s
  | .commitBoundary u => Sys2Proof.Machine.execCommitBoundary u s
  | .frameBoundary => Sys2Proof.Machine.execFrameBoundary s
  | .lineTrigger => Sys2Proof.Machine.execLineTrigger s
  | .triggerIssue => Sys2Proof.Machine.execTriggerIssue s
  | .profileSyncAction => Sys2Proof.Machine.execProfileSyncAction s
  | .markerQueue m at48 => Sys2Proof.Machine.execMarkerQueue m at48 s
  | .markerFire m => Sys2Proof.Machine.execMarkerFire m s
  | .markerPulseEnd m => Sys2Proof.Machine.execMarkerPulseEnd m s
  | .verdictDeadlineCheck => Sys2Proof.Machine.execVerdictDeadlineCheck s
  | .waitposWake => Sys2Proof.Machine.execWaitposWake s
  | .strokePhaseUpdate k => Sys2Proof.Machine.execStrokePhaseUpdate k s
  | .strokeStep k => Sys2Proof.Machine.execStrokeStep k s
  | .strokeEnable k => Sys2Proof.Machine.execStrokeEnable k s
  | .strokeStart mask => Sys2Proof.Machine.execStrokeStart mask s
  | .strokeRatioWrite k ratio => Sys2Proof.Machine.execStrokeRatioWrite k ratio s
  | .trimTargetWrite k target => Sys2Proof.Machine.execTrimTargetWrite k target s
  | .trimAdd k add => Sys2Proof.Machine.execTrimAdd k add s
  | .laneMarkerRx n l w blocks skew stuffed viol rail eyeH eyeV => Sys2Proof.Machine.execLaneMarkerRx n l w blocks skew stuffed viol rail eyeH eyeV s
  | .fillRowRx n g slot blocks => Sys2Proof.Machine.execFillRowRx n g slot blocks s
  | .linkReqAck n seq id => Sys2Proof.Machine.execLinkReqAck n seq id s
  | .linkReqNak n seq id => Sys2Proof.Machine.execLinkReqNak n seq id s
  | .linkReqSpare n g lane id => Sys2Proof.Machine.execLinkReqSpare n g lane id s
  | .linkReqRelease n g lane id => Sys2Proof.Machine.execLinkReqRelease n g lane id s
  | .linkReqGap n g lane id => Sys2Proof.Machine.execLinkReqGap n g lane id s
  | .linkReqReserved n req => Sys2Proof.Machine.execLinkReqReserved n req s
  | .gapRowRx n g lane slots => Sys2Proof.Machine.execGapRowRx n g lane slots s
  | .idleEnterRx n => Sys2Proof.Machine.execIdleEnterRx n s
  | .idleExit n => Sys2Proof.Machine.execIdleExit n s
  | .idleExitSlow n l => Sys2Proof.Machine.execIdleExitSlow n l s
  | .gapTimeout n => Sys2Proof.Machine.execGapTimeout n s
  | .spareSwitch n tx => Sys2Proof.Machine.execSpareSwitch n tx s
  | .plannedSwap n => Sys2Proof.Machine.execPlannedSwap n s
  | .lrefSwitch n => Sys2Proof.Machine.execLrefSwitch n s
  | .packetHeaderRx n g header payload trailer => Sys2Proof.Machine.execPacketHeaderRx n g header payload trailer s
  | .linePacketRx n g clk => Sys2Proof.Machine.execLinePacketRx n g clk s
  | .lineTimeout p x => Sys2Proof.Machine.execLineTimeout p x s
  | .trigLaunch n g phase => Sys2Proof.Machine.execTrigLaunch n g phase s
  | .statReplyRx n g => Sys2Proof.Machine.execStatReplyRx n g s
  | .trigErrorReport n g => Sys2Proof.Machine.execTrigErrorReport n g s
  | .camFaultReport n g => Sys2Proof.Machine.execCamFaultReport n g s
  | .ctrlTimeout n g => Sys2Proof.Machine.execCtrlTimeout n g s
  | .mboxSend p x => Sys2Proof.Machine.execMboxSend p x s
  | .trainGo n => Sys2Proof.Machine.execTrainGo n s
  | .trainDone n g replies => Sys2Proof.Machine.execTrainDone n g replies s
  | .replayTimeout n => Sys2Proof.Machine.execReplayTimeout n s
  | .portEnable n => Sys2Proof.Machine.execPortEnable n s
  | .linkReset n => Sys2Proof.Machine.execLinkReset n s
  | .retrain n => Sys2Proof.Machine.execRetrain n s
  | .loopbackWrite n v => Sys2Proof.Machine.execLoopbackWrite n v s
  | .idleReqWrite n v => Sys2Proof.Machine.execIdleReqWrite n v s
  | .pipeCtrlWrite p en port => Sys2Proof.Machine.execPipeCtrlWrite p en port s
  | .ctxCommit p x => Sys2Proof.Machine.execCtxCommit p x s
  | .ctxCancel p x => Sys2Proof.Machine.execCtxCancel p x s
  | .tableFetchDone p x => Sys2Proof.Machine.execTableFetchDone p x s
  | .pipeLineStart p clk => Sys2Proof.Machine.execPipeLineStart p clk s
  | .pipeLineDone p clk => Sys2Proof.Machine.execPipeLineDone p clk s
  | .pipeSram p uncorrected bank off => Sys2Proof.Machine.execPipeSram p uncorrected bank off s
  | .pipeSpared p => Sys2Proof.Machine.execPipeSpared p s
  | .spareSelfTest quill pass => Sys2Proof.Machine.execSpareSelfTest quill pass s
  | .stitchEnable => Sys2Proof.Machine.execStitchEnable s
  | .stitchCommit cancel => Sys2Proof.Machine.execStitchCommit cancel s
  | .stitchLineStart clk => Sys2Proof.Machine.execStitchLineStart clk s
  | .stitchLineDone clk taken => Sys2Proof.Machine.execStitchLineDone clk taken s
  | .coarseLineOut clk => Sys2Proof.Machine.execCoarseLineOut clk s
  | .notFormed => Sys2Proof.Machine.execNotFormed s
  | .seamSram uncorrected cam line u n addr => Sys2Proof.Machine.execSeamSram uncorrected cam line u n addr s
  | .seed => Sys2Proof.Machine.execSeed s
  | .columnSram uncorrected column => Sys2Proof.Machine.execColumnSram uncorrected column s
  | .attrRequest clk => Sys2Proof.Machine.execAttrRequest clk s
  | .attrResult clk => Sys2Proof.Machine.execAttrResult clk s
  | .attrSwap => Sys2Proof.Machine.execAttrSwap s
  | .attrCopy => Sys2Proof.Machine.execAttrCopy s
  | .attrCopyDone => Sys2Proof.Machine.execAttrCopyDone s
  | .profileEnable c => Sys2Proof.Machine.execProfileEnable c s
  | .profileSync groups => Sys2Proof.Machine.execProfileSync groups s
  | .profileSyncAt g at64 => Sys2Proof.Machine.execProfileSyncAt g at64 s
  | .detLatch c => Sys2Proof.Machine.execDetLatch c s
  | .sensorStart byEvent => Sys2Proof.Machine.execSensorStart byEvent s
  | .sensorTransferDone raw => Sys2Proof.Machine.execSensorTransferDone raw s
  | .masterEnable en => Sys2Proof.Machine.execMasterEnable en s
  | .masterCommit cancel => Sys2Proof.Machine.execMasterCommit cancel s
  | .predFetchDone => Sys2Proof.Machine.execPredFetchDone s
  | .ledgerWrWrite v => Sys2Proof.Machine.execLedgerWrWrite v s
  | .ledgerConsume => Sys2Proof.Machine.execLedgerConsume s
  | .placementFinal => Sys2Proof.Machine.execPlacementFinal s
  | .descriptorRead => Sys2Proof.Machine.execDescriptorRead s
  | .tileRowEstimate => Sys2Proof.Machine.execTileRowEstimate s
  | .differenceLine => Sys2Proof.Machine.execDifferenceLine s
  | .predSram uncorrected node => Sys2Proof.Machine.execPredSram uncorrected node s
  | .assertReady => Sys2Proof.Machine.execAssertReady s
  | .relearn => Sys2Proof.Machine.execRelearn s
  | .scalerEnable => Sys2Proof.Machine.execScalerEnable s
  | .scalerCommit cancel => Sys2Proof.Machine.execScalerCommit cancel s
  | .segmentLine master => Sys2Proof.Machine.execSegmentLine master s
  | .classTimeout => Sys2Proof.Machine.execClassTimeout s
  | .ringRecordWrite r => Sys2Proof.Machine.execRingRecordWrite r s
  | .lossSummaryWrite r => Sys2Proof.Machine.execLossSummaryWrite r s
  | .snippetStart => Sys2Proof.Machine.execSnippetStart s
  | .snippetDone => Sys2Proof.Machine.execSnippetDone s
  | .snippetLost reason => Sys2Proof.Machine.execSnippetLost reason s
  | .stripSend => Sys2Proof.Machine.execStripSend s
  | .stripRx k => Sys2Proof.Machine.execStripRx k s
  | .stripLate => Sys2Proof.Machine.execStripLate s
  | .tallyPacketRx k => Sys2Proof.Machine.execTallyPacketRx k s
  | .scalerSram uncorrected label => Sys2Proof.Machine.execScalerSram uncorrected label s
  | .datagramSend => Sys2Proof.Machine.execDatagramSend s
  | .jobEnable q j => Sys2Proof.Machine.execJobEnable q j s
  | .initRunDone q j => Sys2Proof.Machine.execInitRunDone q j s
  | .windowFill q t => Sys2Proof.Machine.execWindowFill q t s
  | .nibInvoke q t => Sys2Proof.Machine.execNibInvoke q t s
  | .queueInvoke q => Sys2Proof.Machine.execQueueInvoke q s
  | .salu q t => Sys2Proof.Machine.execSalu q t s
  | .saddi q t => Sys2Proof.Machine.execSaddi q t s
  | .sandi q t => Sys2Proof.Machine.execSandi q t s
  | .sori q t => Sys2Proof.Machine.execSori q t s
  | .sxori q t => Sys2Proof.Machine.execSxori q t s
  | .scmpi q t => Sys2Proof.Machine.execScmpi q t s
  | .sinsl q t => Sys2Proof.Machine.execSinsl q t s
  | .sinsh q t => Sys2Proof.Machine.execSinsh q t s
  | .shi q t => Sys2Proof.Machine.execShi q t s
  | .mulsr q t => Sys2Proof.Machine.execMulsr q t s
  | .mulsru q t => Sys2Proof.Machine.execMulsru q t s
  | .getsr q t => Sys2Proof.Machine.execGetsr q t s
  | .valu q t => Sys2Proof.Machine.execValu q t s
  | .valus q t => Sys2Proof.Machine.execValus q t s
  | .vmul q t => Sys2Proof.Machine.execVmul q t s
  | .vmuls q t => Sys2Proof.Machine.execVmuls q t s
  | .vmac q t => Sys2Proof.Machine.execVmac q t s
  | .vnar q t => Sys2Proof.Machine.execVnar q t s
  | .vcmp q t => Sys2Proof.Machine.execVcmp q t s
  | .vcmps q t => Sys2Proof.Machine.execVcmps q t s
  | .vsel q t => Sys2Proof.Machine.execVsel q t s
  | .vmask q t => Sys2Proof.Machine.execVmask q t s
  | .vred q t => Sys2Proof.Machine.execVred q t s
  | .vperm q t => Sys2Proof.Machine.execVperm q t s
  | .vsplat q t => Sys2Proof.Machine.execVsplat q t s
  | .vext q t => Sys2Proof.Machine.execVext q t s
  | .vgath q t => Sys2Proof.Machine.execVgath q t s
  | .lw q t => Sys2Proof.Machine.execLw q t s
  | .sw q t => Sys2Proof.Machine.execSw q t s
  | .lhu q t => Sys2Proof.Machine.execLhu q t s
  | .sh q t => Sys2Proof.Machine.execSh q t s
  | .vld q t => Sys2Proof.Machine.execVld q t s
  | .vst q t => Sys2Proof.Machine.execVst q t s
  | .vstb q t => Sys2Proof.Machine.execVstb q t s
  | .vldm q t => Sys2Proof.Machine.execVldm q t s
  | .retire q t => Sys2Proof.Machine.execRetire q t s
  | .srep q t => Sys2Proof.Machine.execSrep q t s
  | .temit q t => Sys2Proof.Machine.execTemit q t s
  | .tget q t => Sys2Proof.Machine.execTget q t s
  | .tans q t => Sys2Proof.Machine.execTans q t s
  | .event q t => Sys2Proof.Machine.execEvent q t s
  | .fence q t => Sys2Proof.Machine.execFence q t s
  | .beqz q t => Sys2Proof.Machine.execBeqz q t s
  | .bnez q t => Sys2Proof.Machine.execBnez q t s
  | .bltz q t => Sys2Proof.Machine.execBltz q t s
  | .bgez q t => Sys2Proof.Machine.execBgez q t s
  | .jal q t => Sys2Proof.Machine.execJal q t s
  | .jr q t => Sys2Proof.Machine.execJr q t s
  | .loop q t => Sys2Proof.Machine.execLoop q t s
  | .stop q t => Sys2Proof.Machine.execStop q t s
  | .kernelTimeout q t => Sys2Proof.Machine.execKernelTimeout q t s
  | .nibRestart q t => Sys2Proof.Machine.execNibRestart q t s
  | .nibSram q t kind mem readable => Sys2Proof.Machine.execNibSram q t kind mem readable s
  | .nibSpared q => Sys2Proof.Machine.execNibSpared q s
  | .spareNow q t => Sys2Proof.Machine.execSpareNow q t s
  | .plannedNibTakeover q => Sys2Proof.Machine.execPlannedNibTakeover q s
  | .kernelLoadGo q => Sys2Proof.Machine.execKernelLoadGo q s
  | .kernelLoadDone q => Sys2Proof.Machine.execKernelLoadDone q s
  | .cmdNop q => Sys2Proof.Machine.execCmdNop q s
  | .cmdWrite q host => Sys2Proof.Machine.execCmdWrite q host s
  | .cmdWritem q => Sys2Proof.Machine.execCmdWritem q s
  | .cmdRead q host => Sys2Proof.Machine.execCmdRead q host s
  | .cmdWaitpos q => Sys2Proof.Machine.execCmdWaitpos q s
  | .cmdWaittime q => Sys2Proof.Machine.execCmdWaittime q s
  | .waittimeReached q => Sys2Proof.Machine.execWaittimeReached q s
  | .cmdWaitev q => Sys2Proof.Machine.execCmdWaitev q s
  | .cmdSignal q => Sys2Proof.Machine.execCmdSignal q s
  | .cmdArm q => Sys2Proof.Machine.execCmdArm q s
  | .cmdCommit q => Sys2Proof.Machine.execCmdCommit q s
  | .cmdMode q => Sys2Proof.Machine.execCmdMode q s
  | .cmdLoop q => Sys2Proof.Machine.execCmdLoop q s
  | .cmdEndloop q => Sys2Proof.Machine.execCmdEndloop q s
  | .cmdJump q => Sys2Proof.Machine.execCmdJump q s
  | .cmdCall q => Sys2Proof.Machine.execCmdCall q s
  | .cmdRet q => Sys2Proof.Machine.execCmdRet q s
  | .cmdFence q => Sys2Proof.Machine.execCmdFence q s
  | .cmdResync q => Sys2Proof.Machine.execCmdResync q s
  | .cmdHalt q => Sys2Proof.Machine.execCmdHalt q s
  | .cmdFetch q host => Sys2Proof.Machine.execCmdFetch q host s
  | .cmdWaitTimeout q => Sys2Proof.Machine.execCmdWaitTimeout q s
  | .queueStart q => Sys2Proof.Machine.execQueueStart q s
  | .queueStop q => Sys2Proof.Machine.execQueueStop q s
  | .queueTailWrite q v => Sys2Proof.Machine.execQueueTailWrite q v s
  | .dmaMove c host data => Sys2Proof.Machine.execDmaMove c host data s
  | .dmaMoveComplete c => Sys2Proof.Machine.execDmaMoveComplete c s
  | .dmaLoop c host => Sys2Proof.Machine.execDmaLoop c host s
  | .dmaEndloop c host => Sys2Proof.Machine.execDmaEndloop c host s
  | .dmaWait c host => Sys2Proof.Machine.execDmaWait c host s
  | .dmaSignal c host => Sys2Proof.Machine.execDmaSignal c host s
  | .dmaEnd c host => Sys2Proof.Machine.execDmaEnd c host s
  | .dmaWaitTimeout c => Sys2Proof.Machine.execDmaWaitTimeout c s
  | .dmaStart c => Sys2Proof.Machine.execDmaStart c s
  | .dmaStop c got => Sys2Proof.Machine.execDmaStop c got s
  | .eventEnter c => Sys2Proof.Machine.execEventEnter c s
  | .eventDeliver c => Sys2Proof.Machine.execEventDeliver c s
  | .eventSoft mask => Sys2Proof.Machine.execEventSoft mask s
  | .eventPinEdge n level => Sys2Proof.Machine.execEventPinEdge n level s
  | .eventPinPulseEnd n => Sys2Proof.Machine.execEventPinPulseEnd n s
  | .dramRead addr len cls errs => Sys2Proof.Machine.execDramRead addr len cls errs s
  | .dramWrite addr bytes cls errs => Sys2Proof.Machine.execDramWrite addr bytes cls errs s
  | .playGo => Sys2Proof.Machine.execPlayGo s
  | .playLine => Sys2Proof.Machine.execPlayLine s
  | .scrubStep errs => Sys2Proof.Machine.execScrubStep errs s
  | .migReq => Sys2Proof.Machine.execMigReq s
  | .migrateCopyLine errs => Sys2Proof.Machine.execMigrateCopyLine errs s
  | .migrateDone => Sys2Proof.Machine.execMigrateDone s
  | .dramCmdError ch rank inFlight => Sys2Proof.Machine.execDramCmdError ch rank inFlight s
  | .rankPowerDown ch rank => Sys2Proof.Machine.execRankPowerDown ch rank s
  | .srEnter => Sys2Proof.Machine.execSrEnter s
  | .srEntryDone => Sys2Proof.Machine.execSrEntryDone s
  | .srExit => Sys2Proof.Machine.execSrExit s
  | .srTimeout => Sys2Proof.Machine.execSrTimeout s
  | .refreshRateCheck ch rank above85 => Sys2Proof.Machine.execRefreshRateCheck ch rank above85 s
  | .shareWrite v => Sys2Proof.Machine.execShareWrite v s
  | .trainMrw ch => Sys2Proof.Machine.execTrainMrw ch s
  | .trainMrr ch result => Sys2Proof.Machine.execTrainMrr ch result s
  | .trainMpc ch => Sys2Proof.Machine.execTrainMpc ch s
  | .trainAct ch => Sys2Proof.Machine.execTrainAct ch s
  | .trainPre ch => Sys2Proof.Machine.execTrainPre ch s
  | .trainRef ch => Sys2Proof.Machine.execTrainRef ch s
  | .trainWr ch => Sys2Proof.Machine.execTrainWr ch s
  | .trainRd ch reads => Sys2Proof.Machine.execTrainRd ch reads s
  | .dramInitDone restored failed => Sys2Proof.Machine.execDramInitDone restored failed s
  | .ethFrameRx e frame fcsOk ingress host => Sys2Proof.Machine.execEthFrameRx e frame fcsOk ingress host s
  | .forwardSend e => Sys2Proof.Machine.execForwardSend e s
  | .ethTailWrite e tx v => Sys2Proof.Machine.execEthTailWrite e tx v s
  | .ethFrameTx e desc buffer => Sys2Proof.Machine.execEthFrameTx e desc buffer s
  | .launchTimeReached e desc buffer => Sys2Proof.Machine.execLaunchTimeReached e desc buffer s
  | .ringHoldoffEnd r => Sys2Proof.Machine.execRingHoldoffEnd r s
  | .ethLinkDown e => Sys2Proof.Machine.execEthLinkDown e s
  | .ptpIncrWrite v => Sys2Proof.Machine.execPtpIncrWrite v s
  | .ptpSet v => Sys2Proof.Machine.execPtpSet v s
  | .ptpAdj v => Sys2Proof.Machine.execPtpAdj v s
  | .tcorrStep => Sys2Proof.Machine.execTcorrStep s
  | .timeCompareFire u => Sys2Proof.Machine.execTimeCompareFire u s
  | .timeCompareEnable u target => Sys2Proof.Machine.execTimeCompareEnable u target s
  | .chainEnable en => Sys2Proof.Machine.execChainEnable en s
  | .delayProbeSend k => Sys2Proof.Machine.execDelayProbeSend k s
  | .delayProbeRx k turn => Sys2Proof.Machine.execDelayProbeRx k turn s
  | .probeReplyRx k rtt => Sys2Proof.Machine.execProbeReplyRx k rtt s
  | .posSend acc accTime => Sys2Proof.Machine.execPosSend acc accTime s
  | .posRx k residence phi => Sys2Proof.Machine.execPosRx k residence phi s
  | .posLost => Sys2Proof.Machine.execPosLost s
  | .heartbeatSend => Sys2Proof.Machine.execHeartbeatSend s
  | .heartbeatRx k => Sys2Proof.Machine.execHeartbeatRx k s
  | .liveTimeout => Sys2Proof.Machine.execLiveTimeout s
  | .timeBroadcastRx k residence => Sys2Proof.Machine.execTimeBroadcastRx k residence s
  | .cmdRx k => Sys2Proof.Machine.execCmdRx k s
  | .summaryRx k => Sys2Proof.Machine.execSummaryRx k s
  | .modeArmRx k => Sys2Proof.Machine.execModeArmRx k s
  | .modeAckSend => Sys2Proof.Machine.execModeAckSend s
  | .modeAckRx k => Sys2Proof.Machine.execModeAckRx k s
  | .modeDecision => Sys2Proof.Machine.execModeDecision s
  | .modeCancelRx k => Sys2Proof.Machine.execModeCancelRx k s
  | .modeAppliedRx k => Sys2Proof.Machine.execModeAppliedRx k s
  | .modeSplitRx k => Sys2Proof.Machine.execModeSplitRx k s
  | .applyMissing => Sys2Proof.Machine.execApplyMissing s
  | .haltReq => Sys2Proof.Machine.execHaltReq s
  | .haltEntry => Sys2Proof.Machine.execHaltEntry s
  | .warmReset => Sys2Proof.Machine.execWarmReset s
  | .warmTrainDone => Sys2Proof.Machine.execWarmTrainDone s
  | .blockReset source => Sys2Proof.Machine.execBlockReset source s
  | .pinReset => Sys2Proof.Machine.execPinReset s
  | .resetNRetainFall => Sys2Proof.Machine.execResetNRetainFall s
  | .resetRelease bootSrc hold retain bar2 mdDev mdRanks i2c => Sys2Proof.Machine.execResetRelease bootSrc hold retain bar2 mdDev mdRanks i2c s
  | .por => Sys2Proof.Machine.execPor s
  | .xoLoss => Sys2Proof.Machine.execXoLoss s
  | .faultRecord => Sys2Proof.Machine.execFaultRecord s
  | .faultLost => Sys2Proof.Machine.execFaultLost s
  | .resync => Sys2Proof.Machine.execResync s
  | .summaryWritten => Sys2Proof.Machine.execSummaryWritten s
  | .sramRowRemap a => Sys2Proof.Machine.execSramRowRemap a s
  | .wearEyeSwap n l => Sys2Proof.Machine.execWearEyeSwap n l s
  | .sensorConversion done stuck comps readings => Sys2Proof.Machine.execSensorConversion done stuck comps readings s
  | .sensorRole u => Sys2Proof.Machine.execSensorRole u s
  | .thermalTrip comps => Sys2Proof.Machine.execThermalTrip comps s
  | .tableEnable => Sys2Proof.Machine.execTableEnable s
  | .calGo => Sys2Proof.Machine.execCalGo s
  | .calMeasureDone ohms targets => Sys2Proof.Machine.execCalMeasureDone ohms targets s
  | .calCodeStep key => Sys2Proof.Machine.execCalCodeStep key s
  | .calSlow => Sys2Proof.Machine.execCalSlow s
  | .ageingMeasure r ppm => Sys2Proof.Machine.execAgeingMeasure r ppm s
  | .perstRise => Sys2Proof.Machine.execPerstRise s
  | .msixRequest v => Sys2Proof.Machine.execMsixRequest v s
  | .bootImageCheck source image readOk dirOk => Sys2Proof.Machine.execBootImageCheck source image readOk dirOk s
  | .hostGo => Sys2Proof.Machine.execHostGo s
  | .bootRelease => Sys2Proof.Machine.execBootRelease s
  | .fwInfo => Sys2Proof.Machine.execFwInfo s
  | .selfTest failing => Sys2Proof.Machine.execSelfTest failing s
  | .fuseProgram took => Sys2Proof.Machine.execFuseProgram took s
  | .lock => Sys2Proof.Machine.execLock s
  | .debugLock => Sys2Proof.Machine.execDebugLock s
  | .svnCommit => Sys2Proof.Machine.execSvnCommit s
  | .flashUpdate verified => Sys2Proof.Machine.execFlashUpdate verified s
  | .mboxAnswer => Sys2Proof.Machine.execMboxAnswer s
  | .mboxTimeout => Sys2Proof.Machine.execMboxTimeout s
  | .mgmtRead addr => Sys2Proof.Machine.execMgmtRead addr s
  | .extest captured shifted => Sys2Proof.Machine.execExtest captured shifted s
  | .idcode => Sys2Proof.Machine.execIdcode s
  | .samplePreload captured shifted => Sys2Proof.Machine.execSamplePreload captured shifted s
  | .highz => Sys2Proof.Machine.execHighz s
  | .clamp => Sys2Proof.Machine.execClamp s
  | .bypass => Sys2Proof.Machine.execBypass s
  | .rangerHalt => Sys2Proof.Machine.execRangerHalt s
  | .rangerRun => Sys2Proof.Machine.execRangerRun s
  | .memAccess v host => Sys2Proof.Machine.execMemAccess v host s
  | .markerMissing n l => Sys2Proof.Machine.execMarkerMissing n l s
  | .extrapolation => Sys2Proof.Machine.execExtrapolation s
  | .ptpCounterTick => Sys2Proof.Machine.execPtpCounterTick s
  | .registerRead addr len be => Sys2Proof.Machine.execRegisterRead addr len be s
  | .illegalInstruction q t => Sys2Proof.Machine.execIllegalInstruction q t s
  | .cmdIllegal q => Sys2Proof.Machine.execCmdIllegal q s
  | .dmaIllegal c host => Sys2Proof.Machine.execDmaIllegal c host s
  | .ethLinkUp e => Sys2Proof.Machine.execEthLinkUp e s
  | .pcieLinkDown => Sys2Proof.Machine.execPcieLinkDown s
  | .pcieLinkUp width speed => Sys2Proof.Machine.execPcieLinkUp width speed s
  | .perstFall => Sys2Proof.Machine.execPerstFall s
  | .configRequest bme msixEn mask => Sys2Proof.Machine.execConfigRequest bme msixEn mask s
  | .mgmtPointerWrite addr bytes => Sys2Proof.Machine.execMgmtPointerWrite addr bytes s

end Sys2Proof.Machine
end

