-- ==== Sys2Proof/Machine/Tick.lean ====
section
/-! DEFINITION. One timeline tick, which the block takes while no command waits. -/

namespace Sys2Proof.Machine

open Sys2Proof

/-- Time goes on by one tick, at the position it has: the commit boundaries that fell due in the tick that ends
are judged (R107), and scheduler entries fall due in the next one (R17, R18, R36). [DEDUCED, log 28] -/
def State.nextTick (s : State) : State :=
  let s := s.judgeDue.noteVerdict
  ({ s with tl := { s.tl with tick := s.tl.tick + 1, prevPos := s.tl.pos } }).fallDue

/-- One tick of the timeline clock: what the scribe has issued takes effect, FENCEs end, and coverage of lost
chain members goes on (R17, R312, R315, R421). [DESIGN CHOICE, log 4] -/
def State.tick (s : State) : State := s.nextTick.postTick.fenceTick.goneRuns

end Sys2Proof.Machine
end

