-- ==== Sys2Proof/Machine/Step.lean ====
section
/-! DEFINITION. The step of the block: the command at the front of the queue, or one tick. -/

namespace Sys2Proof.Machine

open Sys2Proof

/-- The block takes the first command that waits and runs it with the rest of the queue; while none waits, one
timeline tick passes. [DESIGN CHOICE, log 4; DESIGN CHOICE, log 159] -/
def step (s : State) : Host.Outcome State Fault Refusal :=
  match s.pending with
  | [] => .next s.tick
  | c :: rest => exec c { s with pending := rest }

/-- The command that a word of the opcode table spells goes to the front of the queue. -/
def State.withFetchWord (s : State) (nbits w : Nat) : State :=
  match decodeTableWord nbits w with
  | some c => { s with pending := c :: s.pending }
  | none => s

end Sys2Proof.Machine
end

