-- ==== Sys2Proof/Safety.lean ====
section
/-! DEFINITION. What counts as a safe run, in the terms the statements use: a step goes on, the stores of a state
are in canonical form, and what a command leaves as it was. -/

namespace Sys2Proof.Machine

open Sys2Proof

/-- The step of a state answers a next state: neither a fault nor a refusal. -/
def State.goesOn (s : State) : Bool :=
  match step s with
  | .next _ => true
  | .fault _ => false
  | .refused _ => false

/-- The registers, the DRAM contents and every quill's memory are in canonical form. -/
def State.wf (s : State) : Bool :=
  spWf resetWord s.regs && Memory.wf s.dram.mem && s.quill.all (fun e => Memory.wf e.2.mem)

/-- The step of a state with a canonical store goes on to one. -/
def State.safeStep (s : State) : Prop := s.wf = true → ∃ t, step s = .next t ∧ t.wf = true

/-- Two register fields share no bit: each bit of BAR0 has one number, 8 × its byte's offset and its place. -/
abbrev Fld.apart (f g : Fld) : Prop :=
  f.off * 8 + f.lsb + f.w ≤ g.off * 8 + g.lsb ∨ g.off * 8 + g.lsb + g.w ≤ f.off * 8 + f.lsb

/-- Every register field that shares no bit with a listed one reads in `t` as in `s`. -/
def State.keeps (s t : State) (fs : List Fld) : Prop :=
  ∀ g : Fld, (∀ f ∈ fs, f.apart g) → t.rd g = s.rd g

/-- Every register outside the listed blocks reads in `t` as in `s`; a block is 64 KiB of BAR0 (R9, R449). -/
def State.keepsBlocks (s t : State) (bs : List Nat) : Prop :=
  ∀ off, off / 65536 ∉ bs → t.reg off = s.reg off

/-- The register fields that recording a fault may change (R447, R451). -/
def faultFlds : List Fld := [TOP_FAULT_SEQ, TOP_FAULT_LOST, TOP_STATUS_FAULT_LOST]

/-! ### The nib's instructions -/

/-- The nib in slot t of quill q runs, has cycles left (R292), and has instruction i at its PC, which no loop ends
with and which is not the last one of the code memory (R274, R287). -/
abbrev State.nibAt (s : State) (q t : Nat) (i : NibInstr) : Prop :=
  (s.nib q t).run.isSome = true ∧ s.overBudget q t = false ∧ decodeNib (s.nibWord q t) = some i ∧
    (∀ l ∈ (s.nib q t).loops, l.last ≠ (s.nib q t).pc) ∧ (s.nib q t).pc + 4 < 16384

/-- A nib keeps every scalar, vector and mask register but the listed ones, its memory, and all that an instruction
does not name; the PC, the loops and the cycles may change. -/
abbrev Nib.keeps (n m : Nib) (ds dv dm : List Nat) : Prop :=
  (∀ r ∈ List.range 32, r ∉ ds → m.sr r = n.sr r) ∧ (∀ r ∈ List.range 32, r ∉ dv → m.vr r = n.vr r) ∧
    (∀ r ∈ List.range 8, r ∉ dm → m.mr r = n.mr r) ∧
    m = { n with sreg := m.sreg, vreg := m.vreg, mreg := m.mreg, pc := m.pc, loops := m.loops, cycle := m.cycle,
                 ready := m.ready }

/-- Nothing but the nib in slot t of quill q has changed. -/
abbrev State.nibOnly (s u : State) (q t : Nat) : Prop := u = s.setNib q t (u.nib q t)

/-- The next instruction in order comes next (R287). -/
abbrev State.nibSeq (s u : State) (q t : Nat) : Prop :=
  (u.nib q t).pc = (s.nib q t).pc + 4 ∧ (u.nib q t).loops = (s.nib q t).loops

/-- The nib in slot t writes v to scalar register d, s0 discarding it (R275), and changes nothing else. -/
abbrev State.nibScalar (s u : State) (q t d v : Nat) : Prop :=
  (u.nib q t).sr d = (if d = 0 then 0 else v % 2 ^ 32) ∧ s.nibSeq u q t ∧
    (s.nib q t).keeps (u.nib q t) [d] [] [] ∧ s.nibOnly u q t

/-- The nib in slot t writes v to vector register d and changes nothing else. -/
abbrev State.nibVector (s u : State) (q t d : Nat) (v : List Nat) : Prop :=
  (u.nib q t).vr d = v ∧ s.nibSeq u q t ∧ (s.nib q t).keeps (u.nib q t) [] [d] [] ∧ s.nibOnly u q t

/-- The nib in slot t writes v to mask register d + 1 and changes nothing else. -/
abbrev State.nibMask (s u : State) (q t d v : Nat) : Prop :=
  (u.nib q t).mr (d + 1) = v % 2 ^ 64 ∧ s.nibSeq u q t ∧ (s.nib q t).keeps (u.nib q t) [] [] [d + 1] ∧
    s.nibOnly u q t

/-- The nib in slot t stores bytes at an address of its local memory and changes nothing else. -/
abbrev State.nibStored (s u : State) (q t a : Nat) (bs : List Nat) : Prop :=
  (u.nib q t).mem = Memory.put (s.nib q t).mem a bs ∧ s.nibSeq u q t ∧
    ({ s.nib q t with mem := (u.nib q t).mem } : Nib).keeps (u.nib q t) [] [] [] ∧ s.nibOnly u q t

/-! ### The scribe's commands -/

/-- The fields of queue q that every command may change, and the scribe's summary of them. -/
def queueFlds (q : Nat) : List Fld :=
  [SCRIBE_ISSUED, SCRIBE_STATUS_RUNNING, SCRIBE_STATUS_ERROR, SCRIBE_Q_STATUS_STATE q, SCRIBE_Q_STATUS_IN_RING q,
   SCRIBE_Q_STATUS_LOOPS q, SCRIBE_Q_STATUS_CALLS q, SCRIBE_Q_STATUS_WAIT_KIND q, SCRIBE_Q_HEAD q, SCRIBE_Q_PC q]

/-- The scribe serves queue q, whose next command is of its own program, legal, and opens with word w (R309, R311). -/
abbrev State.cmdAt (s : State) (q w : Nat) (ws : List Nat) : Prop :=
  s.pick = some q ∧ (s.scq q).blocks = [] ∧ s.nextCmd q = some (w :: ws) ∧ legalCmd (w :: ws) = true

/-- The scribe has started one command, of queue q (R309); the other queues are as they were. -/
abbrev State.served (s t : State) (q : Nat) : Prop :=
  t.rd SCRIBE_ISSUED = (s.rd SCRIBE_ISSUED + 1) % 2 ^ 32 ∧ t.scribe.started = some s.now ∧
    ∀ k ∈ List.range 8, k ≠ q → t.scq k = s.scq k

/-- Queue q has run a command that opens with w and goes on behind it, IDLE at the end of its ring (R308). -/
abbrev State.passed (s t : State) (q w : Nat) : Prop :=
  (t.scq q).words = (s.scq q).words.drop (cmdWords w) ∧
    t.rd (SCRIBE_Q_PC q) = s.wordAfter q (s.rd (SCRIBE_Q_PC q)) (cmdWords w) % 2 ^ 44 ∧
    t.qState q = (if t.ringEmpty q then qIdle else qRunning) ∧ s.served t q

/-- Queue q has gone on at address a with the words yet to be fetched (R325, R326). -/
abbrev State.wentTo (s t : State) (q a : Nat) : Prop :=
  (t.scq q).words = [] ∧ t.rd (SCRIBE_Q_PC q) = a % 2 ^ 44 ∧
    t.qState q = (if t.ringEmpty q then qIdle else qRunning) ∧ s.served t q

/-- Queue q waits, its command yet at PC (R317 to R323). -/
abbrev State.waits (s t : State) (q : Nat) (k : ScWait) : Prop :=
  (t.scq q).wait = some k ∧ t.qState q = qWaiting ∧ (t.scq q).words = (s.scq q).words ∧
    t.rd (SCRIBE_Q_PC q) = s.rd (SCRIBE_Q_PC q) ∧ s.served t q

/-- Queue q has stopped in ERROR with a fault code (R327). -/
abbrev State.queueErr (s t : State) (q code : Nat) : Prop :=
  t.qState q = qError ∧ t.rd (SCRIBE_Q_ERR_CODE q) = code ∧
    t.rd (SCRIBE_Q_ERR_COUNT q) = min (s.rd (SCRIBE_Q_ERR_COUNT q) + 1) 65535 ∧ (t.scq q).words = [] ∧
    (t.scq q).wait = none

/-! ### DMA programs -/

/-- The fields of DMA channel c that every change of its state may change. -/
def channelFlds (c : Nat) : List Fld :=
  [DMA_CH_STATUS_STATE c, ⟨DMA_RUNNING.off, c, 1⟩, ⟨DMA_ERROR.off, c, 1⟩, DMA_STATUS_BUF_USED]

/-- The state after channel c has read its instruction at PROG_PC. -/
abbrev State.fetched (s : State) (c : Nat) (host : Option (BitVec 128)) : State := (s.dFetch c host).2

/-- Channel c, running, reads a legal instruction w and passes over none (R330, R334). -/
abbrev State.dmaAt (s : State) (c : Nat) (host : Option (BitVec 128)) (w : Nat) : Prop :=
  s.dMay c false = true ∧ (s.dFetch c host).1 = .word w ∧ legalDma w = true ∧
    ((s.fetched c host).dch c).skip = 0

/-- The channel goes on with the instruction after the present one. -/
abbrev State.dmaNext (s t : State) (c : Nat) : Prop :=
  t.rd (DMA_CH_PROG_PC c) = (s.rd (DMA_CH_PROG_PC c) + 16) % 2 ^ 44

/-- Channel c has stopped in ERROR with a code and an address (R338). -/
abbrev State.dmaErr (s t : State) (c code addr : Nat) : Prop :=
  t.dState c = dError ∧ t.rd (DMA_CH_ERR_CODE c) = code ∧ t.rd (DMA_CH_ERR_ADDR c) = addr % 2 ^ 44 ∧
    t.rd (DMA_CH_ERR_COUNT c) = min (s.rd (DMA_CH_ERR_COUNT c) + 1) 65535 ∧
    t.rd (DMA_CH_STATUS_ERR c) = 1 ∧ (t.dch c).moves = []

/-! ### The chain -/

/-- Packet p is the oldest that peer port k has received; `rest` come after it. -/
abbrev State.peerPk (s : State) (k : Nat) (p : Packet) (rest : List Packet) : Prop :=
  (s.grp (12 + k) 0).rx = p :: rest

/-- The state with only `rest` left of what peer port k has received. -/
abbrev State.peerRest (s : State) (k : Nat) (rest : List Packet) : State :=
  s.setGrp (12 + k) 0 { s.grp (12 + k) 0 with rx := rest }

/-- This device is a member below the root. -/
abbrev State.below (s : State) : Prop := s.member = true ∧ s.isRoot = false

/-- A packet is addressed to this device alone. -/
abbrev State.forMe (s : State) (p : Packet) : Prop :=
  headDst (nth 0 p.payload 0) = s.deviceId ∧ s.deviceId ≠ idAll

end Sys2Proof.Machine
end

