-- ==== Sys2Proof/Certificates/Slice0/Obligations.lean ====
section
/-! DEFINITION. What is to be proved of the LM9612 model. -/

open Sys2Proof Sys2Proof.Machine

/-! ### The machine -/

/-- The block takes the command at the front of its queue and runs it with the rest of the queue; while none
waits, one tick of the timeline passes (the model's choice, log 4). No row of the opcode table has bits, so no
word spells a command. Where a rule leaves it open this rests on the model's own choice or reading: log 4. -/
def Obligations.AStepRunsTheFrontCommand : Prop :=
  (∀ (s : State) (c : Instr) (rest : List Instr), s.pending = c :: rest →
    step s = exec c { s with pending := rest }) ∧
  (∀ (s : State), s.pending = [] →
    ∃ t, step s = .next t ∧ t.tl.tick = s.tl.tick + 1 ∧ t.tl.pos = s.tl.pos ∧ t.tl.prevPos = s.tl.pos) ∧
  (∀ (s : State) (n w : Nat), decodeTableWord n w = none ∧ s.withFetchWord n w = s)

/-- After reset no command waits, every register word holds the reset value of its table, the mode is M1 BOOT with
no change armed, and every store is empty and in canonical form. Registers whose reset the manual does not
give hold 0 (the model's choice, log 5). Where a rule leaves it open this rests on the model's own choice or
reading: log 1, 5, 19. -/
def Obligations.ResetHoldsTheStatedValues : Prop :=
  State.reset.pending = [] ∧ State.reset.wf = true ∧ (∀ off, State.reset.reg off = resetWord off) ∧
    State.reset.mode = 1 ∧ State.reset.rd TOP_MODE_ARMED = 15 ∧ State.reset.rd TOP_ID = 0x961200B0 ∧
    State.reset.rd TOP_RESET_INFO_LAST = 0 ∧ State.reset.rd THERM_CFG_CAL_DT = 0x80 ∧
    State.reset.rd THERM_CFG_GAP_SPACING = 100 ∧ State.reset.rd THERM_LIMITS_CRIT = 110 ∧
    State.reset.rd SEC_BOOT_STATUS_SOURCE = 3 ∧ (∀ v : Fin 256, State.reset.rd (SEC_MSIX_CTRL v) = 1) ∧
    (∀ i : Fin 24, State.reset.rd (THERM_SENSOR_STATE_ROLE i) = (if i.val % 3 = 0 then 0 else 1)) ∧
    State.reset.top.inQ = [] ∧ State.reset.tl.sched = [] ∧ State.reset.scal.covQ = []

/-- Whatever the state and whatever command waits, a step answers a next state: no command ends a run in a fault
or a refusal, and data never does. Where a rule leaves it open this rests on the model's own choice or
reading: log 2. -/
def Obligations.EveryStepGoesOn : Prop := ∀ s : State, ∃ t, step s = .next t

/-- Every step keeps the register store, the DRAM contents and the quill memories in canonical form. Where a rule
leaves it open this rests on the model's own choice or reading: log 1, 105. -/
def Obligations.EveryStepKeepsTheStoresCanonical : Prop := ∀ s : State, s.safeStep

/-- A field reads back what was last written to it, modulo its width; a write leaves every field that shares no
bit with it as it was, and keeps the register store in canonical form. Where a rule leaves it open this rests
on the model's own choice or reading: log 1. -/
def Obligations.FieldsReadBackAndStandApart : Prop :=
  ∀ (s : State) (f : Fld) (v : Nat), f.lsb + f.w ≤ 64 →
    (s.wr f v).rd f = v % 2 ^ f.w ∧ (∀ g : Fld, f.apart g → (s.wr f v).rd g = s.rd g) ∧
      (s.wf = true → (s.wr f v).wf = true) ∧ s.wr f v = { s with regs := (s.wr f v).regs }

/-- R7: rounding gives an integer nearest to the quotient, and the even one of two. -/
def Obligations.RoundingIsToNearestEven : Prop :=
  ∀ (n d : Int), 0 < d →
    2 * (n - d * rneDiv n d) ≤ d ∧ 2 * (d * rneDiv n d - n) ≤ d ∧
      (2 * (n - d * rneDiv n d) = d ∨ 2 * (d * rneDiv n d - n) = d → rneDiv n d % 2 = 0)

/-! ### Words of nib instructions (chapter 9) -/

/-- R274 to R287: the word of every nib instruction, with every operand at every value, decodes to that
instruction. Where a rule leaves it open this rests on the model's own choice or reading: log 78. -/
def Obligations.NibInstructionsSurviveTheirWords : Prop :=
  ∀ i : NibInstr, decodeNib (encodeNib i) = some i

/-- R274, R276, R279: words written out from the formats decode to the instructions they stand for, the manual's
own example among them, and reserved ones are illegal. Where a rule leaves it open this rests on the model's
own choice or reading: log 78. -/
def Obligations.NibWordsSpellTheirInstructions : Prop :=
  decodeNib 0x48821948 = some (.vmul 4 2 3 1 8 false true false) ∧
    decodeNib 0b000001_00101_00110_1111111111111111 = some (.saddi 5 6 65535) ∧
    decodeNib 0b000000_00001_00010_00011_000_00000000 = some (.salu 0 1 2 3) ∧
    decodeNib 0b100000_00111_01000_0000000000000100 = some (.lw 7 8 4) ∧
    decodeNib 0b110000_00011_111111111111111111111 = some (.beqz 3 2097151) ∧
    decodeNib 0b101000_00000_00000_0000000000000000 = some .retire ∧
    decodeNib 0b001100_00000_00000_0000000000000000 = none ∧
    decodeNib 0b000000_00001_00010_00011_001_00000000 = none ∧
    decodeNib 0b001000_00001_00010_0000000010000000 = none

/-! ### Web position (chapter 1) -/

/-- R16, R19 to R24: what the encoder commands do where they count: an accepted step moves ENCe_COUNT by one in
its direction and, for the web master while RUN is 1, the latched position by the ratio; an SSI transfer
begins and completes; an index latches the position and tick, and in ALWAYS mode clears the count. Where a
rule leaves it open this rests on the model's own choice or reading: log 22, 23, 27. -/
def Obligations.EncoderCommandsCountAndLatch : Prop :=
  (∀ (s : State) (e : Fin 4) (a b : Bool) (d : Int),
    d = quadStep (s.rd (TIMELINE_ENC_CTRL_MODE e)) (s.enc e).levelA (s.enc e).levelB a b → d ≠ 0 →
    (s.rd (TIMELINE_ENC_CTRL_MODE e) = 4 ∨ ∀ t, (s.enc e).lastStep = some t → t + 4 ≤ s.now) →
    ∃ t, exec (.encoderStep e a b) s = .next t ∧
      t.rd (TIMELINE_ENC_COUNT e) = toBits 32
        (s.rdS (TIMELINE_ENC_COUNT e) + if s.on (TIMELINE_ENC_CTRL_DIR_INVERT e) then -d else d) ∧
      (t.enc e).levelA = a ∧ (t.enc e).levelB = b ∧ (t.enc e).lastStep = some s.now ∧
      (s.isMaster e = true → s.on TIMELINE_CTRL_RUN = true →
        s.posFit (s.tl.latched + (if s.on (TIMELINE_ENC_CTRL_DIR_INVERT e) then -d else d) * s.ratio40) =
          (t.tl.latched, { s with freeCount := t.freeCount })) ∧
      (s.isMaster e = false ∨ s.on TIMELINE_CTRL_RUN = false →
        t.tl.latched = s.tl.latched ∧ t.tl.pos = s.tl.pos ∧ t.freeCount = s.freeCount) ∧
      t = { s with regs := t.regs, tl := t.tl, ev := t.ev, top := t.top, freeCount := t.freeCount }) ∧
  (∀ (s : State) (e : Fin 4), s.rd (TIMELINE_ENC_CTRL_MODE e) = 5 → (s.enc e).ssiStart = none →
    exec (.ssiTransferStart e) s = .next (s.setEnc e { s.enc e with ssiStart := some s.now })) ∧
  (∀ (s : State) (e : Fin 4) (raw : Nat) (parity : Bool) (t0 prev n d : Nat),
    (s.enc e).ssiStart = some t0 → (s.enc e).ssiPrev = some prev → n = s.rd (TIMELINE_ENC_SSI_CFG_BITS e) →
    d = (if s.on (TIMELINE_ENC_SSI_CFG_GRAY e) then grayToBin n (raw % 2 ^ n) else raw % 2 ^ n) →
    (s.on (TIMELINE_ENC_SSI_CFG_PARITY e) = false ∨ (popCount n (raw % 2 ^ n) + b2n parity) % 2 = 0) →
    (signed n ((d + 2 ^ n - prev % 2 ^ n) % 2 ^ n)).natAbs ≤ 2 ^ (n - 2) →
    ∃ t, exec (.ssiSample e raw parity) s = .next t ∧
      t.rd (TIMELINE_ENC_COUNT e) = toBits 32 (s.rdS (TIMELINE_ENC_COUNT e) +
        if s.on (TIMELINE_ENC_CTRL_DIR_INVERT e) then -signed n ((d + 2 ^ n - prev % 2 ^ n) % 2 ^ n)
        else signed n ((d + 2 ^ n - prev % 2 ^ n) % 2 ^ n)) ∧
      (t.enc e).ssiPrev = some d ∧ (t.enc e).ssiStart = none ∧
      t = { s with regs := t.regs, tl := t.tl, ev := t.ev, top := t.top, freeCount := t.freeCount }) ∧
  (∀ (s : State) (e : Fin 4) (rising : Bool), rising ≠ s.on (TIMELINE_ENC_CTRL_Z_INVERT e) →
    ∃ t, exec (.indexEdge e rising) s = .next t ∧
      t.rd (TIMELINE_ENC_INDEX_POS e) = toBits 64 s.pos16 ∧
      t.rd (TIMELINE_ENC_INDEX_TICK e) = s.now % 2 ^ 64 ∧
      (s.rd (TIMELINE_ENC_CTRL_INDEX_MODE e) = 1 → t.rd (TIMELINE_ENC_COUNT e) = 0) ∧
      t.tl.pos = s.tl.pos ∧
      t = { s with regs := t.regs, tl := t.tl, ev := t.ev, top := t.top })

/-- R18, R25 to R27, R30, R539: the commands that move, hold, start, stop or capture web position. Where a rule
leaves it open this rests on the model's own choice or reading: log 26, 27. -/
def Obligations.PositionCommandsMoveHoldAndCapture : Prop :=
  (∀ s : State, s.rd TIMELINE_STALL ≠ 0 → s.on TIMELINE_STATUS_WEB_STOPPED = false →
    s.tl.lastMasterStep + s.rd TIMELINE_STALL ≤ s.now →
    ∃ t, exec .webStopped s = .next t ∧ t.rd TIMELINE_STATUS_WEB_STOPPED = 1 ∧ t.tl = s.tl ∧
      s.keeps t [TIMELINE_STATUS_WEB_STOPPED, TIMELINE_VELOCITY] ∧
      t = { s with regs := t.regs, ev := t.ev }) ∧
  (∀ s : State, s.on TIMELINE_CTRL_RUN = true → s.rd TIMELINE_CTRL_MASTER_SRC = 5 →
    ∃ t, exec .simIncrement s = .next t ∧
      s.posFit (s.tl.pos + s.tl.simInc) = (t.tl.pos, { s with freeCount := t.freeCount }) ∧
      t.tl.latched = t.tl.pos ∧
      t = { s with regs := t.regs, tl := t.tl, ev := t.ev, top := t.top, freeCount := t.freeCount }) ∧
  (∀ (s : State) (p1 p2 : LatchPair), s.extrapolating = some (p1, p2) → p2.fwd = true →
    ∃ t, exec .extrapolation s = .next t ∧ (t.freeCount = s.freeCount → s.tl.pos ≤ t.tl.pos) ∧
      t.tl.pairs = s.tl.pairs ∧ t.tl.latched = s.tl.latched ∧
      t = { s with regs := t.regs, tl := t.tl, ev := t.ev, top := t.top, freeCount := t.freeCount }) ∧
  (∀ s : State, s.on TIMELINE_CTRL_RUN = false →
    ∃ t, exec .runStart s = .next t ∧ t.rd TIMELINE_CTRL_RUN = 1 ∧ t.tl.pos = s.tl.pos ∧ t.tl.pairs = [] ∧
      t = { s with regs := t.regs, tl := t.tl, ev := t.ev, top := t.top }) ∧
  (∀ s : State, ∃ t, exec .runStop s = .next t ∧ t.rd TIMELINE_CTRL_RUN = 0 ∧
      t.tl = { s.tl with pairs := [] } ∧ s.keeps t [TIMELINE_CTRL_RUN, TIMELINE_VELOCITY] ∧
      t = { s with regs := t.regs, tl := t.tl }) ∧
  (∀ s : State, s.on TIMELINE_CTRL_RUN = false →
    exec .preset s = .next { s with tl := { s.tl with
      pos := s.rdS TIMELINE_PRESET * (2 : Int) ^ 24,
      prevPos := s.rdS TIMELINE_PRESET * (2 : Int) ^ 24,
      latched := s.rdS TIMELINE_PRESET * (2 : Int) ^ 24 } }) ∧
  (∀ s : State, s.on TIMELINE_CTRL_RUN = true →
    exec .preset s = .next (s.reject TIMELINE_STATUS_CFG_REJECT srcTimeline TIMELINE_CTRL.off 16)) ∧
  (∀ s : State, s.tl.xlatchTick ≠ some s.now →
    ∃ t, exec .crossLatch s = .next t ∧ t.rd TIMELINE_XLATCH_POS = toBits 64 s.pos16 ∧
      t.rd TIMELINE_XLATCH_TICK = s.now % 2 ^ 64 ∧ t.rd TIMELINE_XLATCH_PTP_NS = s.net.ptpNs % 2 ^ 32 ∧
      t.tl = { s.tl with xlatchTick := some s.now } ∧
      s.keeps t [TIMELINE_XLATCH_POS, TIMELINE_XLATCH_TICK, TIMELINE_XLATCH_PTP_NS, TIMELINE_XLATCH_PTP_WRAP] ∧
      t = { s with regs := t.regs, tl := t.tl })

/-- R28, R29, R31 to R33: what probes and compare units do where they act. -/
def Obligations.ProbesAndComparesLatchAndFire : Prop :=
  (∀ (s : State) (k : Fin 8) (rising : Bool), s.on (TIMELINE_PRB_CTRL_EN k) = true →
    edgeSelected (s.rd (TIMELINE_PRB_CTRL_EDGE k)) rising = true → (s.probe k).fifo.length < 16 →
    (∀ q, (s.probe k).prevEdge = some q →
      s.rd (TIMELINE_PRB_LOCKOUT k) ≤ (s.pos16 - q).natAbs) →
    ∃ t, exec (.probeEdge k rising) s = .next t ∧
      (t.probe k).fifo = (s.probe k).fifo ++ [⟨s.pos16, s.now, rising⟩] ∧
      (t.probe k).prevEdge = some s.pos16 ∧ t.tl.pos = s.tl.pos ∧
      t = { s with regs := t.regs, tl := t.tl, ev := t.ev, top := t.top }) ∧
  (∀ (s : State) (k : Fin 8) (e : ProbeEntry) (rest : List ProbeEntry), (s.probe k).fifo = e :: rest →
    ∃ t, exec (.probePop k) s = .next t ∧ (t.probe k).fifo = rest ∧
      t.rd (TIMELINE_PRB_POS k) = toBits 64 e.pos ∧ t.rd (TIMELINE_PRB_TICK k) = e.tick % 2 ^ 64 ∧
      t.rd (TIMELINE_PRB_EDGE_RISING k) = b2n e.rising ∧ t.rd (TIMELINE_PRB_EDGE_VALID k) = 1 ∧
      s.keeps t [TIMELINE_PRB_POS k, TIMELINE_PRB_TICK k, TIMELINE_PRB_EDGE_RISING k, TIMELINE_PRB_EDGE_VALID k] ∧
      t = { s with regs := t.regs, tl := t.tl }) ∧
  (∀ (s : State) (k : Fin 8), (s.probe k).fifo = [] →
    ∃ t, exec (.probePop k) s = .next t ∧ t.rd (TIMELINE_PRB_POS k) = 0 ∧ t.rd (TIMELINE_PRB_EDGE_VALID k) = 0 ∧
      s.keeps t [TIMELINE_PRB_POS k, TIMELINE_PRB_EDGE_VALID k] ∧ t = { s with regs := t.regs }) ∧
  (∀ (s : State) (c : Fin 64), s.on TIMELINE_CTRL_RUN = true → s.on (TIMELINE_CMP_CTRL_ENABLE c) = true →
    s.compareCrossed c = true → spGet (fun _ => none) s.tl.cmpFired c ≠ some s.now →
    ∃ t, exec (.compareFire c) s = .next t ∧ t.rd (TIMELINE_CMP_STATUS_FIRED c) = 1 ∧
      t.rd (TIMELINE_CMP_FIRE_TICK c) = s.now % 2 ^ 64 ∧
      (s.on (TIMELINE_CMP_CTRL_SINGLE c) = true → t.rd (TIMELINE_CMP_CTRL_ENABLE c) = 0) ∧
      s.keeps t [TIMELINE_CMP_STATUS_FIRED c, TIMELINE_CMP_FIRE_TICK c, TIMELINE_CMP_TARGET c,
        TIMELINE_CMP_SKIPPED c, TIMELINE_CMP_STATUS_COMPARE_MULTI c, TIMELINE_CMP_CTRL_ENABLE c] ∧
      t = { s with regs := t.regs, tl := t.tl, ev := t.ev }) ∧
  (∀ (s : State) (c : Fin 64), s.on TIMELINE_CTRL_RUN = false →
    ∃ t, exec (.compareEnable c) s = .next t ∧ t.on (TIMELINE_CMP_CTRL_ENABLE c) = true ∧
      s.keeps t [TIMELINE_CMP_CTRL_ENABLE c] ∧ t = { s with regs := t.regs }) ∧
  (∀ (s : State) (c : Fin 64) (target : BitVec 64),
    s.on TIMELINE_CTRL_RUN = false ∨ s.on (TIMELINE_CMP_CTRL_ENABLE c) = false →
    ∃ t, exec (.compareTargetWrite c target) s = .next t ∧ t.rd (TIMELINE_CMP_TARGET c) = target.toNat ∧
      s.keeps t [TIMELINE_CMP_TARGET c] ∧ t = { s with regs := t.regs }) ∧
  (∀ (s : State) (c : Fin 64) (target : BitVec 64), s.on TIMELINE_CTRL_RUN = true →
    s.on (TIMELINE_CMP_CTRL_ENABLE c) = true → s.rd (TIMELINE_CMP_CTRL_DIR c) = 0 →
    signed 64 target.toNat * (2 : Int) ^ 24 ≤ s.tl.pos → s.on (TIMELINE_CMP_CTRL_LATE_FIRE c) = false →
    ∃ t, exec (.compareTargetWrite c target) s = .next t ∧ t.rd (TIMELINE_CMP_TARGET c) = target.toNat ∧
      t.rd (TIMELINE_CMP_STATUS_COMPARE_BEHIND c) = 1 ∧
      s.keeps t [TIMELINE_CMP_TARGET c, TIMELINE_CMP_STATUS_COMPARE_BEHIND c] ∧ t = { s with regs := t.regs })

/-- R36, R37, R40 to R45, R107: markers, frame boundaries, triggers and commit boundaries act when they fall due.
Where a rule leaves it open this rests on the model's own choice or reading: log 7, 8, 9. -/
def Obligations.ScheduledActionsExecuteWhenDue : Prop :=
  (∀ (s : State) (m : Fin 4) (at48 : BitVec 64), s.markerPending m < 16 → s.schedUsed < 2048 →
    s.on TIMELINE_CTRL_RUN = false ∨ s.tl.pos < slotOf (signed 64 at48.toNat) * (2 : Int) ^ 32 →
    ∃ t, exec (.markerQueue m at48) s = .next t ∧
      t.tl = { s.tl with sched := s.tl.sched ++ [⟨slotOf (signed 64 at48.toNat), .marker m, none, false⟩] } ∧
      s.keeps t [TIMELINE_SCHED_STATUS_PEAK] ∧ t = { s with regs := t.regs, tl := t.tl }) ∧
  (∀ (s u : State) (m : Fin 4) (e : SchedEntry), s.takeDue (fun a => a == .marker m) = some (e, u) →
    0 < s.rd (TIMELINE_MK_CTRL_WIDTH m) →
    ∃ t, exec (.markerFire m) s = .next t ∧ t.tl.sched = dropEntry e s.tl.sched ∧
      (t.markerSt m).activeUntil = some (s.now + s.rd (TIMELINE_MK_CTRL_WIDTH m) * 400) ∧
      (t.markerSt m).fired = (s.markerSt m).fired + 1 ∧
      s.keeps t [TIMELINE_MK_STATUS_RETRIGGER m] ∧ t = { s with regs := t.regs, tl := t.tl, ev := t.ev }) ∧
  (∀ (s : State) (m : Fin 4) (u : Nat), (s.markerSt m).activeUntil = some u → u ≤ s.now →
    exec (.markerPulseEnd m) s = .next (s.setMarkerSt m { s.markerSt m with activeUntil := none })) ∧
  (∀ (s : State) (l : Int) (rest : List Int), s.tl.waiting = l :: rest → s.on TIMELINE_CTRL_RUN = true →
    s.triggerFree = true →
    ∃ t, exec .triggerIssue s = .next t ∧ t.tl.waiting = rest ∧ t.tl.lastIssue = some s.now) ∧
  (∀ (s u : State) (e : SchedEntry) (a b : Int), s.takeDue isTrigger = some (e, u) → e.act = .trigger a (some b) →
    a = s.lastTriggered b → s.tl.waiting = [] → s.triggerFree = true →
    exec .lineTrigger s = .next (u.issueTrigger a)) ∧
  (∀ (s u : State) (e : SchedEntry) (a b : Int), s.takeDue isTrigger = some (e, u) → e.act = .trigger a (some b) →
    s.lastTriggered b < a → exec .lineTrigger s = .next u) ∧
  (∀ (s u : State) (e : SchedEntry) (f : Nat) (l : Int), s.takeDue isFrame = some (e, u) → e.act = .frame f l →
    (∀ w ∈ allUnits, s.boundaryKind w ≠ .frame f) → (∀ w ∈ List.range 26, s.ctxGen (w / 2) (w % 2) ≠ f) →
    ∃ t, exec .frameBoundary s = .next t ∧ t.rd (TIMELINE_FRAME_NUMBER f) = (s.rd (TIMELINE_FRAME_NUMBER f) + 1) % 2 ^ 32 ∧
      t.tl.sched = dropEntry e s.tl.sched ∧ (t.frameGen f).starts.head? = some (l, t.rd (TIMELINE_FRAME_NUMBER f)) ∧
      s.keeps t [TIMELINE_FRAME_NUMBER f] ∧ t = { s with regs := t.regs, tl := t.tl, ev := t.ev }) ∧
  (∀ (s : State) (f : Fin 4) (q l : Int), (s.frameGen f).prev = some q → s.on TIMELINE_CTRL_RUN = true →
    s.rd (TIMELINE_FRAME_CTRL_SRC f) = 2 → s.rd (TIMELINE_FRAME_GAPS_MAX_GAP f) ≠ 0 →
    l = q + s.rd (TIMELINE_FRAME_GAPS_MAX_GAP f) → linePos l * (2 : Int) ^ 24 ≤ s.tl.pos →
    (∀ w ∈ allUnits, s.boundaryKind w ≠ .frame f) → s.schedUsed < 2048 →
    ∃ t, exec (.frameMarkMissing f) s = .next t ∧ t.rd (TIMELINE_FRAME_CTRL_MISSING f) = 1 ∧
      t.tl.sched = s.tl.sched ++ [⟨lineSlot l, .frame f l, some s.now, false⟩] ∧ (t.frameGen f).prev = some l ∧
      t.top = ((s.set1 (TIMELINE_FRAME_CTRL_MISSING f)).fault srcTimeline 0x7011 (slot1 f ++ slotLine l)).top ∧
      s.keeps t ([TIMELINE_FRAME_CTRL_MISSING f, TIMELINE_SCHED_STATUS_PEAK] ++ faultFlds) ∧
      t = { s with regs := t.regs, tl := t.tl, top := t.top }) ∧
  (∀ (s v : State) (u : Fin 29) (e : SchedEntry) (l : Int) (bt lo hi : Nat) (m : Sparse Nat) (p : PendCommit),
    s.takeCommit (unitOf u) = some (e, v) → e.act = .commit (unitOf u) l → bt = e.due.getD s.now →
    s.boundaryKind (unitOf u) ≠ .page → (s.unitCtx (unitOf u)).eligible bt = some p →
    (s.unitCtx (unitOf u)).judged = some (bt, 0, m) → unitRange (unitOf u) = (lo, hi) →
    badField (unitOf u) (s.shadowAt lo hi bt) = none →
    ∃ t a, exec (.commitBoundary u) s = .next t ∧ (t.unitCtx (unitOf u)).active = some a ∧
      a.start = (if e.late then max l s.lowestUntriggered else l) ∧
      a.words = s.shadowAt lo hi bt ∧ a.image = m ∧ a.commits = (s.commitsOf (unitOf u) + 1) % 65536 ∧
      (t.unitCtx (unitOf u)).previous = (s.unitCtx (unitOf u)).active ∧
      (t.unitCtx (unitOf u)).pend = (s.unitCtx (unitOf u)).later bt) ∧
  (∀ (s v : State) (u : Fin 29) (e : SchedEntry) (l : Int) (bt why : Nat) (m : Sparse Nat) (p : PendCommit),
    s.takeCommit (unitOf u) = some (e, v) → e.act = .commit (unitOf u) l → bt = e.due.getD s.now →
    s.boundaryKind (unitOf u) ≠ .page → (s.unitCtx (unitOf u)).eligible bt = some p →
    (s.unitCtx (unitOf u)).judged = some (bt, why, m) → why ≠ 0 →
    ∃ t, exec (.commitBoundary u) s = .next t ∧ t = (v.carry (unitOf u) why).offerCommit (unitOf u) ∧
      (t.unitCtx (unitOf u)).active = (s.unitCtx (unitOf u)).active ∧
      (t.unitCtx (unitOf u)).pend = (s.unitCtx (unitOf u)).pend) ∧
  (∀ (s v : State) (e : SchedEntry) (l : Int) (bt : Nat) (m : Sparse Nat) (p : PendCommit) (g : Page),
    s.takeCommit .master = some (e, v) → e.act = .commit .master l → e.late = false → bt = e.due.getD s.now →
    s.boundaryKind .master = .page → s.mas.pages.find? (fun p => p.start == l) = some g →
    s.mas.commit.eligible bt = some p → s.mas.commit.judged = some (bt, 0, m) →
    ∃ t a, exec (.commitBoundary 27) s = .next t ∧ t.mas.commit.active = some a ∧ a.start = 4 * g.po ∧
      a.words = s.shadowAt 0x310000 0x320000 bt ∧ a.image = m ∧ t.mas.commit.previous = s.mas.commit.active ∧
      t.mas.commit.pend = s.mas.commit.later bt)

/-! ### Stroke outputs (chapter 2) -/

/-- R46 to R56: the stroke commands compute the phase, emit one step toward the target in the required spacing,
start strokes, rebase the ratio without a jump, and set and add trim within ±TRIM_LIMIT. -/
def Obligations.StrokeCommandsFollowTheSource : Prop :=
  (∀ (s : State) (k : Fin 8), s.on (STROKE_ST_CTRL_EN k) = true → (s.stroke k).frozen = none →
    ∃ t, exec (.strokePhaseUpdate k) s = .next t ∧
      (t.stroke k).trim = slewTrim (s.stroke k).trim (s.rdS (STROKE_ST_TRIM_TARGET k) * 65536)
        (s.rd (STROKE_ST_SLEW k)) (s.strokeSrc k - (s.stroke k).prevSrc).natAbs ∧
      (t.stroke k).prevSrc = s.strokeSrc k ∧
      t.rd (STROKE_ST_TARGET k) = toBits 32 (floorShift
        (phaseOf (s.stroke k).c0 (s.stroke k).p0 (s.strokeSrc k) (s.rdS (STROKE_ST_RATIO k)) +
          (t.stroke k).trim * 256) 40) ∧
      t.rd (STROKE_ST_COUNT k) = s.rd (STROKE_ST_COUNT k) ∧
      t = { s with regs := t.regs, st := t.st, ev := t.ev, top := t.top }) ∧
  (∀ (s : State) (k : Fin 8), s.on (STROKE_ST_CTRL_EN k) = true → (s.stroke k).frozen = none →
    s.rd (STROKE_ST_CTRL_FORM k) = 1 →
    s.rdS (STROKE_ST_COUNT k) < s.limitTarget k (s.rdS (STROKE_ST_TARGET k)) →
    (∀ u, (s.stroke k).lastStep = some u → u + s.rd (STROKE_ST_CTRL_PW k) ≤ s.now) →
    ∃ t, exec (.strokeStep k) s = .next t ∧
      t.rd (STROKE_ST_COUNT k) = toBits 32 (s.rdS (STROKE_ST_COUNT k) + 1) ∧
      (t.stroke k).lastStep = some s.now ∧ s.keeps t [STROKE_ST_COUNT k] ∧
      t = { s with regs := t.regs, st := t.st }) ∧
  (∀ (s : State) (k : Fin 8), s.on (STROKE_ST_CTRL_EN k) = true → (s.stroke k).frozen = none →
    s.rd (STROKE_ST_CTRL_FORM k) ≠ 1 → (s.stroke k).fwd = false → (s.stroke k).dirAt = none →
    s.limitTarget k (s.rdS (STROKE_ST_TARGET k)) < s.rdS (STROKE_ST_COUNT k) →
    (∀ u, (s.stroke k).lastStep = some u → u + 2 * s.rd (STROKE_ST_CTRL_PW k) ≤ s.now) →
    ∃ t, exec (.strokeStep k) s = .next t ∧
      t.rd (STROKE_ST_COUNT k) = toBits 32 (s.rdS (STROKE_ST_COUNT k) - 1) ∧
      (t.stroke k).lastStep = some s.now ∧ s.keeps t [STROKE_ST_COUNT k] ∧
      t = { s with regs := t.regs, st := t.st }) ∧
  (∀ (s : State) (k : Fin 8), s.on (STROKE_ST_CTRL_EN k) = false →
    ∃ t, exec (.strokeEnable k) s = .next t ∧ t.rd (STROKE_ST_CTRL_EN k) = 1 ∧
      t.rd (STROKE_ST_STATUS_RUNNING k) = 1 ∧ t.rd (STROKE_ST_TRIM_APPLIED k) = 0 ∧
      (t.stroke k).c0 = s.rdS (STROKE_ST_COUNT k) * (2 : Int) ^ 40 ∧ (t.stroke k).trim = 0 ∧
      (s.on (STROKE_ST_CTRL_ORIGIN_SRC k) = false → (t.stroke k).p0 = s.strokeSrc k) ∧
      (s.on (STROKE_ST_CTRL_ORIGIN_SRC k) = true →
        (t.stroke k).p0 = s.rdS (STROKE_ST_ORIGIN_POS k) * (2 : Int) ^ 24) ∧
      s.keeps t [STROKE_ST_CTRL_EN k, STROKE_ST_STATUS_RUNNING k, STROKE_ST_TRIM_APPLIED k,
        STROKE_ST_STATUS_TRIM_SETTLED k] ∧
      t = { s with regs := t.regs, st := t.st }) ∧
  (∀ (s : State) (mask : BitVec 8),
    ∃ t, exec (.strokeStart mask) s = .next t ∧
      (∀ k ∈ List.range 8, bitAt mask.toNat k = true → t.on (STROKE_ST_CTRL_EN k) = true) ∧
      (∀ k ∈ List.range 8, bitAt mask.toNat k = false → t.stroke k = s.stroke k) ∧
      t = { s with regs := t.regs, st := t.st }) ∧
  (∀ (s : State) (k : Fin 8) (ratio : BitVec 32), s.on (STROKE_ST_CTRL_EN k) = true →
    ∃ t, exec (.strokeRatioWrite k ratio) s = .next t ∧ t.rd (STROKE_ST_RATIO k) = ratio.toNat ∧
      (t.stroke k).p0 = s.strokeSrc k ∧
      (t.stroke k).c0 = phaseOf (s.stroke k).c0 (s.stroke k).p0 (s.strokeSrc k) (s.rdS (STROKE_ST_RATIO k)) ∧
      s.keeps t [STROKE_ST_RATIO k] ∧ t = { s with regs := t.regs, st := t.st }) ∧
  (∀ (s : State) (k : Fin 8) (target : BitVec 32), (s.stroke k).trimAdd = none →
    ∃ t, exec (.trimTargetWrite k target) s = .next t ∧
      t.rd (STROKE_ST_TRIM_TARGET k) = toBits 32 (clampI (-(s.rd (STROKE_ST_TRIM_LIMIT k) : Int))
        (s.rd (STROKE_ST_TRIM_LIMIT k)) (signed 32 target.toNat)) ∧
      s.keeps t ([STROKE_ST_TRIM_TARGET k, STROKE_ST_STATUS_TRIM_CLAMPED k,
        STROKE_ST_STATUS_TRIM_SETTLED k] ++ faultFlds) ∧
      t = { s with regs := t.regs, top := t.top }) ∧
  (∀ (s : State) (k : Fin 8) (add : BitVec 32),
    ∃ t, exec (.trimAdd k add) s = .next t ∧
      t.rd (STROKE_ST_TRIM_TARGET k) = toBits 32 (clampI (-(s.rd (STROKE_ST_TRIM_LIMIT k) : Int))
        (s.rd (STROKE_ST_TRIM_LIMIT k)) (s.rdS (STROKE_ST_TRIM_TARGET k) + signed 32 add.toNat)) ∧
      s.keeps t ([STROKE_ST_TRIM_TARGET k, STROKE_ST_STATUS_TRIM_CLAMPED k,
        STROKE_ST_STATUS_TRIM_SETTLED k] ++ faultFlds) ∧
      t = { s with regs := t.regs, st := t.st, top := t.top })

/-! ### Zhevlis link (chapter 3) -/

/-- R70, R71, R90 to R94: a valid marker sets the lane's fields and lock, missing markers lose it, swaps move a
logical lane, and the reference switches. -/
def Obligations.LaneCommandsTrackLockAndSwaps : Prop :=
  (∀ (s : State) (n : Fin 15) (l : Fin 5) (w : BitVec 64) (blocks : Nat) (skew : Int) (stuffed : Nat)
    (eyeH eyeV : BitVec 8),
    s.on (ZL_CTRL_EN n) = true → markerOk w.toNat = true → bitsAt w.toNat 32 4 = s.rd (rxMapF n l) →
    bitAt w.toNat 39 = false → l.val ∈ s.activeLanes n (s.groupOfLane n l) →
    s.groupUp n (s.groupOfLane n l) = false → skew.natAbs ≤ 16 →
    ∃ t, exec (.laneMarkerRx n l w blocks skew stuffed 0 none eyeH eyeV) s = .next t ∧
      t.rd (ZL_LANE_STATUS_LOCK n l) =
        b2n (s.on (ZL_LANE_STATUS_LOCK n l) || ((s.lane n l).found && blocks == 16384)) ∧
      t.rd (ZL_LANE_STATUS_ALIGNED n l) = t.rd (ZL_LANE_STATUS_LOCK n l) ∧
      t.rd (ZL_LANE_STATUS_LOGICAL n l) = bitsAt w.toNat 32 4 ∧
      t.rd (ZL_LANE_STATUS_FAR_RX_READY n l) = 0 ∧ t.rd (ZL_LANE_EYE_EYE_H n l) = eyeH.toNat ∧
      (t.lane n l).bad = 0 ∧ (t.lane n l).found = true ∧ t = { s with regs := t.regs, zl := t.zl }) ∧
  (∀ (s : State) (n : Fin 15) (l : Fin 5), s.on (ZL_CTRL_EN n) = true → s.inGap n l = false →
    s.on (ZL_LANE_STATUS_LOCK n l) = false ∨ (s.lane n l).bad = 0 →
    exec (.markerMissing n l) s = .next (s.setLane n l { s.lane n l with bad := (s.lane n l).bad + 1 })) ∧
  (∀ (s : State) (n : Fin 15) (l : Fin 5), s.on (ZL_CTRL_EN n) = true → s.inGap n l = false →
    s.on (ZL_LANE_STATUS_LOCK n l) = true → 0 < (s.lane n l).bad → s.groupUp n (s.groupOfLane n l) = false →
    ∃ t, exec (.markerMissing n l) s = .next t ∧ t.rd (ZL_LANE_STATUS_LOCK n l) = 0 ∧
      t.rd (ZL_LANE_STATUS_ALIGNED n l) = 0 ∧ (t.lane n l).found = false ∧
      s.keeps t ([ZL_LANE_STATUS_LOCK n l, ZL_LANE_STATUS_ALIGNED n l, ZL_STATUS_SPARE_READY n] ++ faultFlds) ∧
      t = { s with regs := t.regs, zl := t.zl, top := t.top }) ∧
  (∀ (s : State) (n : Fin 15) (w : LaneSwap), (s.port n).swapTx = some w → w.since + 400 ≤ s.now → w.dest < 5 →
    s.mode ≠ 7 → s.mode ≠ 8 →
    ∃ t, exec (.spareSwitch n true) s = .next t ∧ (t.port n).swapTx = none ∧
      t.rd (txMapF n w.dest) = w.logical % 16 ∧ t = { s with regs := t.regs, zl := t.zl, ev := t.ev, top := t.top }) ∧
  (∀ (s : State) (n : Fin 15), s.on (ZL_SWAP_DIR n) = true → s.on (ZL_SWAP_RELEASE n) = false →
    (s.port n).swapTx = none → (s.port n).spareTx = none → s.spareServes n (s.rd (ZL_SWAP_GROUP n)) = true →
    s.rd (ZL_SWAP_LANE n) < s.logicals n →
    exec (.plannedSwap n) s = .next (s.setPort n { s.port n with
      swapTx := some ⟨s.rd (ZL_SWAP_GROUP n), s.rd (ZL_SWAP_LANE n), spareLane n, true, s.now⟩ })) ∧
  (∀ (s : State) (n : Fin 15), s.on (ZL_CTRL_EN n) = true → s.on (ZL_CTRL_AUTO_LREF n) = true →
    s.groupUp n 0 = false → s.groupUp n 1 = false →
    ∃ t, exec (.lrefSwitch n) s = .next t ∧
      t.rd (ZL_STATUS_LREF_ACTIVE n) = 1 - s.rd (ZL_STATUS_LREF_ACTIVE n) ∧
      (∀ l ∈ List.range 5, t.rd (ZL_LANE_STATUS_LOCK n l) = 0) ∧
      t = { s with regs := t.regs, zl := t.zl, top := t.top }) ∧
  (∀ (s : State) (n : Fin 15) (g : Fin 2) (lane : Fin 4) (slots : BitVec 16), (s.port n).gapAsked = none →
    exec (.gapRowRx n g lane slots) s = .next (s.setLane n (s.rxLane n g lane)
      { s.lane n (s.rxLane n g lane) with gapUntil := some (s.now + slots.toNat * 64 / 140) })) ∧
  (∀ (s : State) (n : Fin 15) (a t0 : Nat), (s.port n).gapAsked = some (a, t0) →
    t0 + s.rd (ZL_TIMEOUTS_GAP_WAIT n) * 400 ≤ s.now →
    exec (.gapTimeout n) s = .next
      ((s.setPort n { s.port n with gapAsked := none }).fault (srcZl n) 0x1030 (slot1 n ++ slot1 a)))

/-- R69, R95: a link request is acted on once for its REQ_ID; a FILL row carries the requests. Where a rule leaves
it open this rests on the model's own choice or reading: log 2, 38. -/
def Obligations.LinkRequestsAreActedOnOnce : Prop :=
  (∀ (s : State) (n : Fin 15) (seq : BitVec 16) (id : BitVec 8),
    spGet (fun _ => none) (s.port n).lastReq 1 ≠ some id.toNat → (s.port n).waiting = [] →
    (∃ e ∈ (s.port n).replay, seqAhead e.pkt.seq seq.toNat < 32768) →
    ∃ t, exec (.linkReqAck n seq id) s = .next t ∧
      (t.port n).replay = (s.port n).replay.filter (fun e => decide (32768 ≤ seqAhead e.pkt.seq seq.toNat)) ∧
      (t.port n).ackAt = s.now ∧ t.rd (ZL_REPLAY_STATUS_ACKED_SEQ n) = seq.toNat ∧
      s.keeps t [ZL_REPLAY_STATUS_ACKED_SEQ n] ∧ t = { s with regs := t.regs, zl := t.zl }) ∧
  (∀ (s : State) (n : Fin 15) (seq : BitVec 16) (id : BitVec 8),
    spGet (fun _ => none) (s.port n).lastReq 2 ≠ some id.toNat → (∀ e ∈ (s.port n).replay, e.sends < 4) →
    ∃ t, exec (.linkReqNak n seq id) s = .next t ∧
      (t.port n).replay = (s.port n).replay.map (fun e =>
        if seqAhead seq.toNat e.pkt.seq < 32768 ∧ e.pkt.seq ≠ seq.toNat then
          { e with sends := e.sends + 1, pkt := { e.pkt with retx := true } } else e) ∧
      s.keeps t [ZL_CNT_REPLAY n, ZL_CNT_PKT_TX n] ∧
      t = { s with regs := t.regs, zl := t.zl, out := t.out }) ∧
  (∀ (s : State) (n : Fin 15) (g : Fin 2) (lane : Fin 4) (id : BitVec 8),
    spGet (fun _ => none) (s.port n).lastReq 3 ≠ some id.toNat → (s.port n).swapTx = none →
    (s.port n).spareTx = none → s.spareServes n g = true → lane.val < s.logicals n →
    ∃ t, exec (.linkReqSpare n g lane id) s = .next t ∧
      (t.port n).swapTx = some ⟨g, lane, spareLane n, false, s.now⟩ ∧ t = { s with zl := t.zl }) ∧
  (∀ (s : State) (n : Fin 15) (g : Fin 2) (lane : Fin 4) (id : BitVec 8) (l : Nat),
    spGet (fun _ => none) (s.port n).lastReq 4 ≠ some id.toNat → (s.port n).swapTx = none →
    (s.port n).spareTx = some (g.val, lane.val, l) → lane.val < s.logicals n →
    ∃ t, exec (.linkReqRelease n g lane id) s = .next t ∧
      (t.port n).swapTx = some ⟨g, lane, s.homeLane n g lane, false, s.now⟩ ∧ t = { s with zl := t.zl }) ∧
  (∀ (s : State) (n : Fin 15) (g : Fin 2) (lane : Fin 4) (id : BitVec 8),
    spGet (fun _ => none) (s.port n).lastReq 5 ≠ some id.toNat →
    ∃ t, exec (.linkReqGap n g lane id) s = .next t ∧
      t.out.requests = s.out.requests ++ [(n.val, 0xF1, lane.val, 350)] ∧
      spGet (fun _ => none) (t.port n).lastReq 5 = some id.toNat ∧
      t = { s with zl := t.zl, out := t.out }) ∧
  (∀ (s : State) (n : Fin 15) (g : Fin 2) (lane : Fin 4) (seq : BitVec 16) (id : BitVec 8),
    (∀ k ∈ List.range 6, spGet (fun _ => none) (s.port n).lastReq k = some id.toNat) →
    exec (.linkReqAck n seq id) s = .next s ∧ exec (.linkReqNak n seq id) s = .next s ∧
    exec (.linkReqSpare n g lane id) s = .next s ∧ exec (.linkReqRelease n g lane id) s = .next s ∧
    exec (.linkReqGap n g lane id) s = .next s) ∧
  (∀ (s : State) (n : Fin 15) (req : Fin 10),
    exec (.linkReqReserved n req) s = .next (s.bump (ZL_CNT_BAD_REQ n))) ∧
  (∀ (s : State) (n : Fin 15) (g : Fin 2) (slot : Fin 16384) (b : BitVec 64), s.on (ZL_CTRL_EN n) = true →
    b.toNat % 256 = 0xF0 → bitsAt b.toNat 8 4 = 5 → bitsAt b.toNat 12 4 < 4 →
    exec (.fillRowRx n g slot [b]) s =
      exec (.linkReqGap n g ⟨bitsAt b.toNat 12 4 % 4, by omega⟩ (BitVec.ofNat 8 (bitsAt b.toNat 32 8))) s) ∧
  (∀ (s : State) (n : Fin 15) (g : Fin 2) (slot : Fin 16384) (b : BitVec 64), s.on (ZL_CTRL_EN n) = true →
    b.toNat % 256 ≠ 0xF0 → slot.val % 1024 = 1023 →
    exec (.fillRowRx n g slot [b]) s = .next ((s.set1 (ZL_STATUS_FILL_MISSING n)).fault (srcZl n) 0x1006
      (slot1 n ++ slot1 g ++ slot1 slot)))

/-- R82, R88, R89, R96, R97: electrical idle, launch-delay training, enabling, resets and loopback of a port. -/
def Obligations.PortCommandsIdleTrainEnableAndReset : Prop :=
  (∀ (s : State) (n : Fin 15), exec (.idleEnterRx n) s = .next (s.wr (ZL_STATUS_RX_IDLE n) 1)) ∧
  (∀ (s : State) (n : Fin 15), exec (.idleExit n) s = .next (s.wr (ZL_STATUS_RX_IDLE n) 0)) ∧
  (∀ (s : State) (n : Fin 15) (l : Fin 5), s.top.inQ.length < 64 →
    ∃ t, exec (.idleExitSlow n l) s = .next t ∧ t.top.inQ.length = s.top.inQ.length + 1 ∧
      t.rd TOP_FAULT_SEQ = (s.rd TOP_FAULT_SEQ + 1) % 2 ^ 32 ∧ s.keeps t [TOP_FAULT_SEQ] ∧
      t = { s with regs := t.regs, top := t.top }) ∧
  (∀ (s : State) (n : Fin 15), s.on (ZL_CTRL_IDLE_REQ n) = false → s.on (ZL_CTRL_EN n) = true →
    ∃ t, exec (.idleReqWrite n true) s = .next t ∧ t.rd (ZL_CTRL_IDLE_REQ n) = 1 ∧
      t.rd (ZL_STATUS_TX_IDLE n) = 1 ∧ t.out.requests = s.out.requests ++ [(n.val, 0xF2, 0, 0)] ∧
      s.keeps t [ZL_CTRL_IDLE_REQ n, ZL_STATUS_TX_IDLE n] ∧ t = { s with regs := t.regs, out := t.out }) ∧
  (∀ (s : State) (n : Fin 15), s.on (ZL_CTRL_EN n) = true →
    ∃ t, exec (.idleReqWrite n false) s = .next t ∧ t.rd (ZL_CTRL_IDLE_REQ n) = 0 ∧
      t.rd (ZL_STATUS_TX_IDLE n) = 0 ∧ s.keeps t [ZL_CTRL_IDLE_REQ n, ZL_STATUS_TX_IDLE n] ∧
      t = { s with regs := t.regs }) ∧
  (∀ (s : State) (n : Fin 15), n.val < 12 → s.rd (ZL_CTRL_PORT_MODE n) ≠ 1 → s.groupUp n 0 = true →
    ∃ t, exec (.trainGo n) s = .next t ∧ (t.grp n 0).training = true ∧ t.rd (ZL_TRAIN_BUSY n) = 1 ∧
      t = { s with regs := t.regs, zl := t.zl, out := t.out }) ∧
  (∀ (s : State) (n : Fin 15) (g : Fin 2) (replies : List (Nat × Nat)), (s.grp n g).training = true →
    replies.length = s.rd (ZL_TRAIN_COUNT n) → spread (replies.map (·.1)) ≤ 4 → spread (replies.map (·.2)) ≤ 4 →
    ∃ t, exec (.trainDone n g replies) s = .next t ∧ (t.grp n g).training = false ∧
      (t.grp n g).ow = some (rneDiv (((replies.map (·.1)).sum : Int) - (replies.map (·.2)).sum)
        (2 * replies.length)) ∧
      t.rd (ZL_GRP_RTT n g) = toBits 32 (rneDiv (replies.map (·.1)).sum replies.length) ∧
      t = { s with regs := t.regs, zl := t.zl }) ∧
  (∀ (s : State) (n : Fin 15), s.on (ZL_CTRL_EN n) = false → s.mode ≠ 7 → s.mode ≠ 8 →
    ∃ t, exec (.portEnable n) s = .next t ∧ t.rd (ZL_CTRL_EN n) = 1 ∧ t.rd (ZL_STATUS_RX_IDLE n) = 0 ∧
      t.rd (ZL_STATUS_LREF_ACTIVE n) = s.rd (ZL_CTRL_LREF n) ∧
      (∀ l ∈ List.range 5, t.rd (ZL_LANE_STATUS_LOCK n l) = 0) ∧ t = { s with regs := t.regs, zl := t.zl }) ∧
  (∀ (s : State) (n : Fin 15), s.groupUp n 0 = false → s.groupUp n 1 = false →
    ∃ t, exec (.linkReset n) s = .next t ∧ (t.port n).replay = [] ∧ (t.port n).waiting = [] ∧
      (t.port n).swapRx = none ∧ (t.grp n 0).ow = (s.grp n 0).ow ∧ (t.grp n 1).ow = (s.grp n 1).ow ∧
      t.tl = s.tl ∧ t.pctx = s.pctx) ∧
  (∀ (s : State) (n : Fin 15), s.groupUp n 0 = false → s.groupUp n 1 = false →
    ∃ t, exec (.retrain n) s = .next t ∧
      (∀ l ∈ List.range 5, t.rd (ZL_LANE_STATUS_LOCK n l) = 0 ∧
        t.reg (ZL_LANE_CTLE n l).off = resetWord (ZL_LANE_CTLE n l).off ∧
        t.reg (ZL_LANE_DFE_T1_4 n l).off = resetWord (ZL_LANE_DFE_T1_4 n l).off) ∧
      t = { s with regs := t.regs, zl := t.zl }) ∧
  (∀ (s : State) (n : Fin 15) (v : BitVec 2), v.toNat ≠ 3 → v.toNat = 0 ∨ s.mode = 10 →
    exec (.loopbackWrite n v) s = .next (s.wr (ZL_CTRL_LOOPBACK n) v.toNat)) ∧
  (∀ (s : State) (n : Fin 15) (v : BitVec 2), v.toNat = 3 ∨ (v.toNat ≠ 0 ∧ s.mode ≠ 10) →
    exec (.loopbackWrite n v) s = .next
      (s.reject (ZL_STATUS_CFG_REJECT n) (srcZl n) (ZL_CTRL n).off (v.toNat * 2 ^ 9)))

/-! ### Packets and camera intake (chapters 3 and 4) -/

/-- R73 to R80, R83, R95: a packet whose header, length and CRC check is delivered and counted, in order and with
an ACK on a peer port; a header that fails its check waits for the next marker; timeouts and TRIG launches
act. Where a rule leaves it open this rests on the model's own choice or reading: log 161. -/
def Obligations.PacketsAreCheckedDeliveredAndTimedOut : Prop :=
  (∀ (s : State) (n : Fin 15) (g : Fin 2) (header : BitVec 64) (payload : List (BitVec 64)) (trailer : BitVec 64),
    n.val < 12 → s.groupUp n g = true → (s.grp n g).resync = false →
    blockCheck header.toNat = bitsAt header.toNat 56 8 → typeLegal n (bitsAt header.toNat 0 8) = true →
    bitsAt header.toNat 16 16 = payload.length % 65536 →
    lenLegal (bitsAt header.toNat 0 8) (payload.map (·.toNat)) = true →
    packetCrc header.toNat (payload.map (·.toNat)) = bitsAt trailer.toNat 0 32 →
    (∀ q, (s.grp n g).rxSeq = some q → (q + 1) % 65536 = bitsAt header.toNat 32 16) →
    ∃ t, exec (.packetHeaderRx n g header payload trailer) s = .next t ∧
      (t.grp n g).rx = (s.grp n g).rx ++ [
        { ty := bitsAt header.toNat 0 8, replay := bitAt header.toNat 8, retx := bitAt header.toNat 9,
          seq := bitsAt header.toNat 32 16, payload := payload.map (·.toNat) }] ∧
      (t.grp n g).rxSeq = some (bitsAt header.toNat 32 16) ∧ s.keeps t [ZL_CNT_PKT_RX n] ∧
      t = { s with regs := t.regs, zl := t.zl }) ∧
  (∀ (s : State) (n : Fin 15) (header : BitVec 64) (payload : List (BitVec 64)) (trailer : BitVec 64),
    12 ≤ n.val → s.groupUp n 0 = true → (s.grp n 0).resync = false →
    blockCheck header.toNat = bitsAt header.toNat 56 8 → typeLegal n (bitsAt header.toNat 0 8) = true →
    phaseLegal (bitsAt header.toNat 0 8) (payload.map (·.toNat)) = true →
    bitsAt header.toNat 16 16 = payload.length % 65536 →
    lenLegal (bitsAt header.toNat 0 8) (payload.map (·.toNat)) = true →
    packetCrc header.toNat (payload.map (·.toNat)) = bitsAt trailer.toNat 0 32 →
    bitAt header.toNat 8 = true → bitsAt header.toNat 32 16 = (s.port n).expect →
    ∃ t, exec (.packetHeaderRx n 0 header payload trailer) s = .next t ∧
      (t.port n).expect = ((s.port n).expect + 1) % 65536 ∧
      (t.grp n 0).rx.length = (s.grp n 0).rx.length + 1 ∧
      t.out.requests = s.out.requests ++ [(n.val, 1, 0, (s.port n).expect)] ∧
      s.keeps t [ZL_CNT_PKT_RX n] ∧ t = { s with regs := t.regs, zl := t.zl, out := t.out }) ∧
  (∀ (s : State) (n : Fin 15) (g : Fin 2) (header : BitVec 64) (payload : List (BitVec 64)) (trailer : BitVec 64),
    n.val < 12 → s.groupUp n g = true → (s.grp n g).resync = false → s.ctxOf n g = none →
    blockCheck header.toNat ≠ bitsAt header.toNat 56 8 →
    ∃ t, exec (.packetHeaderRx n g header payload trailer) s = .next t ∧ (t.grp n g).resync = true ∧
      (t.grp n g).rx = (s.grp n g).rx ∧ t.rd (ZL_STATUS_HCHK_ERR n) = 1 ∧
      s.keeps t ([ZL_STATUS_HCHK_ERR n, ZL_CNT_HCHK n] ++ faultFlds) ∧
      t = { s with regs := t.regs, zl := t.zl, top := t.top }) ∧
  (∀ (s : State) (n : Fin 12) (g : Fin 2) (c : CtrlOut) (rest : List CtrlOut), (s.grp n g).ctrl = c :: rest →
    s.rd (ZL_TIMEOUTS_CTRL_TIMEOUT n) ≠ 0 → c.since + s.rd (ZL_TIMEOUTS_CTRL_TIMEOUT n) * 100 * 400 ≤ s.now →
    ∃ t, exec (.ctrlTimeout n g) s = .next t ∧ (t.grp n g).ctrl = rest ∧
      (∀ p x, s.ctxOf n g = some (p, x) → (s.px p x).mbox = some (c.op, c.tag) → (t.px p x).mbox = none) ∧
      t = { s with regs := t.regs, zl := t.zl, pctx := t.pctx, top := t.top }) ∧
  (∀ (s : State) (n : Fin 15) (e : ReplayEntry) (rest : List ReplayEntry), (s.port n).replay = e :: rest →
    s.on (ZL_CTRL_REPLAY_EN n) = true →
    (s.port n).ackAt + s.rd (ZL_TIMEOUTS_REPLAY_TIMEOUT n) * 400 ≤ s.now →
    (∀ q ∈ (s.port n).replay, q.sends < 4) →
    ∃ t, exec (.replayTimeout n) s = .next t ∧ (t.port n).ackAt = s.now ∧
      (t.port n).replay.length = (s.port n).replay.length ∧ s.keeps t [ZL_CNT_REPLAY n, ZL_CNT_PKT_TX n] ∧
      t = { s with regs := t.regs, zl := t.zl, out := t.out }) ∧
  (∀ (s : State) (n : Fin 12) (g : Fin 2) (phase : Fin 140) (p x : Nat) (o : OwedLine) (d : Int),
    s.ctxOf n g = some (p, x) → (s.px p x).owed.find? (·.launched.isNone) = some o → s.groupUp n g = true →
    d = (s.rd (ZL_GRP_TARGET n g) : Int) - (((s.now : Int) - o.tref) * 140 + phase.val) -
      (s.grp n g).ow.getD 0 - s.rd (ZL_GRP_CAM_LATENCY n g) → 0 ≤ d →
    ∃ t, exec (.trigLaunch n g phase) s = .next t ∧
      t.out.packets = s.out.packets ++ [(n.val, g.val,
        { ty := 0x02, seq := (s.grp n g).txSeq,
          payload := [toBits 48 o.line + o.expSet * 2 ^ 48, d.toNat % 2 ^ 20] })] ∧
      (t.grp n g).txSeq = ((s.grp n g).txSeq + 1) % 65536 ∧
      (t.px p x).owed = (s.px p x).owed.map (fun q => if q.line = o.line then
        { q with seq := some (s.grp n g).txSeq, launched := some s.now } else q) ∧
      s.keeps t [ZL_CNT_PKT_TX n] ∧
      t = { s with regs := t.regs, zl := t.zl, pctx := t.pctx, out := t.out })

/-- R100, R101, R126, R127: a complete line enters its context's FIFO, a late one is lost, and STAT packets answer
the mailbox or report. Where a rule leaves it open this rests on the model's own choice or reading: log 43. -/
def Obligations.CameraPacketsReachTheirContext : Prop :=
  (∀ (s : State) (n : Fin 12) (g : Fin 2) (clk p x : Nat) (pk : Packet) (rest : List Packet) (l : Int)
    (u : SettingsSet) (b0 b1 : Nat),
    (s.grp n g).rx = pk :: rest → pk.ty = 0x01 → s.ctxOf n g = some (p, x) → s.unserved p = false →
    s.sparing p = false → b0 = nth 0 pk.payload 0 → b1 = nth 0 pk.payload 1 → l = signed 48 b0 →
    s.rdS (PIPE_CTX_LAST_LINE p x) < l → (s.px p x).fifo = [] → (s.pipe p).work = [] → (s.px p x).asm = none →
    (s.px p x).run = none → (∀ o ∈ (s.px p x).owed, l ≤ o.line) → (s.px p x).commit.setFor l = some u →
    bitsAt b1 32 2 = u.rd (PIPE_CTX_CFG_DEPTH p x) → bitsAt b1 0 16 = 0 →
    bitsAt b1 16 16 = u.rd (PIPE_CTX_CFG_PIXELS p x) → bitsAt b0 52 1 = 0 → u.rd (PIPE_CTX_CFG_HDR p x) = 0 →
    bitsAt b0 48 4 = u.rd (PIPE_CTX_EXPOSURE p x) →
    ∃ t, exec (.linePacketRx n g clk) s = .next t ∧ (t.grp n g).rx = rest ∧
      (t.px p x).fifo = [⟨l, tabulate (3 * bitsAt b1 16 16)
        (sampleAt (pk.payload.drop 2) (depthBits (bitsAt b1 32 2))), [], clk⟩] ∧
      (t.px p x).owed = (s.px p x).owed.filter (·.line != l) ∧ (t.px p x).asm = none ∧
      t = { s with regs := t.regs, zl := t.zl, pctx := t.pctx }) ∧
  (∀ (s : State) (p : Fin 13) (x : Fin 2) (o : OwedLine) (rest : List OwedLine) (t0 : Nat),
    (s.px p x).owed = o :: rest → o.launched = some t0 → s.rd (PIPE_CTX_LINE_TIMEOUT p x) ≠ 0 →
    t0 + s.rd (PIPE_CTX_LINE_TIMEOUT p x) * 400 ≤ s.now → (s.px p x).asm = none → (s.px p x).run = none →
    (s.px p x).stats = [] → s.tl.frames = [] →
    ∃ t, exec (.lineTimeout p x) s = .next t ∧ (t.px p x).owed = (o :: rest).filter (·.line != o.line) ∧
      (t.px p x).run = some ⟨o.line, o.line, 4⟩ ∧ s.keeps t [PIPE_CTX_LAST_LINE p x] ∧
      t = { s with regs := t.regs, pctx := t.pctx }) ∧
  (∀ (s : State) (n : Fin 12) (g : Fin 2) (p x : Nat) (pk : Packet) (rest : List Packet) (b : Nat),
    (s.grp n g).rx = pk :: rest → pk.ty = 0x04 → b = nth 0 pk.payload 0 → bitsAt b 0 16 < 0x8000 →
    bitsAt b 0 16 ≠ 1 → s.ctxOf n g = some (p, x) → (s.px p x).mbox = some (bitsAt b 0 16, bitsAt b 16 16) →
    ∃ t, exec (.statReplyRx n g) s = .next t ∧ (t.grp n g).rx = rest ∧ (t.px p x).mbox = none ∧
      t.rd (PIPE_CTX_MBOX_CTRL_RESULT p x) = bitsAt b 32 8 ∧ t.rd (PIPE_CTX_MBOX_CTRL_BUSY p x) = 0 ∧
      t.rd (PIPE_CTX_MBOX_CTRL_DONE p x) = 1 ∧ t = { s with regs := t.regs, zl := t.zl, pctx := t.pctx }) ∧
  (∀ (s : State) (n : Fin 12) (g : Fin 2) (p x : Nat) (pk : Packet) (rest : List Packet),
    (s.grp n g).rx = pk :: rest → pk.ty = 0x04 → statOp pk = 0x8001 → s.ctxOf n g = some (p, x) →
    s.unserved p = false → (s.px p x).owed.find? (fun o =>
      o.seq == some (bitsAt (nth 0 pk.payload 1) 0 32 % 65536)) = none →
    ∃ t, exec (.trigErrorReport n g) s = .next t ∧ (t.grp n g).rx = rest ∧
      t.rd (PIPE_CTX_MBOX_REPORT_OP p x) = 0x8001 ∧
      t.rd (PIPE_CTX_MBOX_REPORT_DATA p x) = bitsAt (nth 0 pk.payload 1) 0 32 ∧
      s.keeps t ([PIPE_CTX_MBOX_REPORT_OP p x, PIPE_CTX_MBOX_REPORT_DATA p x] ++ faultFlds) ∧
      t = { s with regs := t.regs, zl := t.zl, top := t.top }) ∧
  (∀ (s : State) (n : Fin 12) (g : Fin 2) (p x : Nat) (pk : Packet) (rest : List Packet) (o : OwedLine),
    (s.grp n g).rx = pk :: rest → pk.ty = 0x04 → statOp pk = 0x8001 → s.ctxOf n g = some (p, x) →
    s.unserved p = false → (s.px p x).owed.find? (fun o =>
      o.seq == some (bitsAt (nth 0 pk.payload 1) 0 32 % 65536)) = some o →
    ∃ t, exec (.trigErrorReport n g) s = .next t ∧
      (t.px p x).owed = (s.px p x).owed.filter (·.line != o.line)) ∧
  (∀ (s : State) (n : Fin 12) (g : Fin 2) (p x : Nat) (pk : Packet) (rest : List Packet),
    (s.grp n g).rx = pk :: rest → pk.ty = 0x04 → statOp pk = 0x8002 → s.ctxOf n g = some (p, x) →
    s.unserved p = false →
    ∃ t, exec (.camFaultReport n g) s = .next t ∧ (t.grp n g).rx = rest ∧
      t.rd (PIPE_CTX_MBOX_REPORT_OP p x) = 0x8002 ∧
      t.rd (PIPE_CTX_MBOX_REPORT_DATA p x) = bitsAt (nth 0 pk.payload 1) 0 32 ∧
      s.keeps t ([PIPE_CTX_MBOX_REPORT_OP p x, PIPE_CTX_MBOX_REPORT_DATA p x] ++ faultFlds) ∧
      t = { s with regs := t.regs, zl := t.zl, top := t.top }) ∧
  (∀ (s : State) (p : Fin 13) (x : Fin 2), s.on (PIPE_CTX_MBOX_CTRL_BUSY p x) = false →
    s.rd (PIPE_CTX_MBOX_CTRL_BLOCKS p x) ≤ 8 → s.rd (PIPE_CTX_MBOX_CMD_TAG p x) < 0xF000 →
    s.rd (PIPE_CTRL_PORT p) < 12 →
    ∃ t, exec (.mboxSend p x) s = .next t ∧ t.rd (PIPE_CTX_MBOX_CTRL_BUSY p x) = 1 ∧
      (t.px p x).mbox = some (s.rd (PIPE_CTX_MBOX_CMD_OP p x), s.rd (PIPE_CTX_MBOX_CMD_TAG p x)) ∧
      t.out.packets.length = s.out.packets.length + 1 ∧
      s.keeps t [PIPE_CTX_MBOX_CTRL_BUSY p x, ZL_CNT_PKT_TX (s.rd (PIPE_CTRL_PORT p))] ∧
      t = { s with regs := t.regs, zl := t.zl, pctx := t.pctx, out := t.out })

/-- R99, R105, R110, R113, R120, R128, R129: enabling, commits, table fetches, lines through a pipe, memory errors
and the spare pipe. -/
def Obligations.PipeCommandsServeCommitAndSpare : Prop :=
  (∀ (s : State) (p : Fin 13) (en : Bool) (port : Fin 16), p.val ≠ 12 → port.val < 12 ∨ port.val = 15 →
    (∀ q ∈ List.range 13, q ≠ p.val → s.on (PIPE_CTRL_EN q) = true → s.rd (PIPE_CTRL_PORT q) ≠ port.val) →
    s.rd (PIPE_STATUS_STATE p) ≠ pipeFailed → s.mode ≠ 7 → s.mode ≠ 8 →
    ∃ t, exec (.pipeCtrlWrite p en port) s = .next t ∧ t.rd (PIPE_CTRL_EN p) = b2n en ∧
      t.rd (PIPE_CTRL_PORT p) = port.val ∧
      t.rd (PIPE_STATUS_STATE p) = (if en then pipeServing else pipeIdle) ∧
      s.keeps t [PIPE_CTRL_EN p, PIPE_CTRL_PORT p, PIPE_STATUS_STATE p] ∧ t = { s with regs := t.regs }) ∧
  (∀ (s : State) (en : Bool) (port : Fin 16), exec (.pipeCtrlWrite 12 en port) s = .next
    (s.reject (PIPE_STATUS_CFG_REJECT 12) (srcPipe 12) (PIPE_CTRL 12).off (b2n en + port.val * 2))) ∧
  (∀ (s : State) (p : Fin 13) (x : Fin 2),
    ∃ t, exec (.ctxCommit p x) s = .next t ∧
      (t.px p x).commit.pend.getLast? = some ⟨s.now⟩ ∧
      (t.px p x).commit.fetch = some (s.now, s.rd (PIPE_CTX_TABLE_BASE p x)) ∧
      (t.px p x).commit.active = (s.px p x).commit.active ∧ t.rd (PIPE_CTX_STATUS_COMMIT_PENDING p x) = 1 ∧
      s.keeps t ([PIPE_CTX_STATUS_SET_VALID p x, PIPE_CTX_STATUS_COMMIT_PENDING p x,
        PIPE_CTX_STATUS_TABLE_PENDING p x, PIPE_CTX_STATUS_FIFO_DEPTH p x, TIMELINE_SCHED_STATUS_PEAK,
        TIMELINE_STATUS_SCHED_FULL, TIMELINE_STATUS_MISSED_SLOT] ++ faultFlds) ∧
      t.tl = { s.tl with sched := t.tl.sched } ∧
      t.tl.sched.filter (fun e => !isCommitOf (.pipe p x) e.act) =
        s.tl.sched.filter (fun e => !isCommitOf (.pipe p x) e.act) ∧
      t = { s with regs := t.regs, pctx := t.pctx, tl := t.tl, top := t.top }) ∧
  (∀ (s : State) (p : Fin 13) (x : Fin 2),
    ∃ t, exec (.ctxCancel p x) s = .next t ∧ (t.px p x).commit.pend = [] ∧ (t.px p x).commit.fetch = none ∧
      (t.px p x).commit.image = none ∧ (t.px p x).commit.active = (s.px p x).commit.active ∧
      t.rd (PIPE_CTX_STATUS_COMMIT_PENDING p x) = 0 ∧
      t.tl = { s.tl with sched := s.tl.sched.filter (fun e => !(isCommitOf (.pipe p x) e.act && e.isOpen s.now)) } ∧
      t = { s with regs := t.regs, pctx := t.pctx, tl := t.tl }) ∧
  (∀ (s u : State) (p : Fin 13) (x : Fin 2) (t0 base : Nat) (m : Sparse Nat),
    (s.px p x).commit.fetch = some (t0, base) →
    s.fetchTable base (s.rd (PIPE_CTX_CFG_PIXELS p x)) = (.ok m, u) →
    ∃ t, exec (.tableFetchDone p x) s = .next t ∧ (t.px p x).commit.image = some (t0, m) ∧
      (t.px p x).commit.fetch = none ∧ t = { u with regs := t.regs, pctx := t.pctx }) ∧
  (∀ (s : State) (p : Fin 13) (clk x : Nat) (a : ArrLine) (u : SettingsSet), (s.pipe p).freeAt ≤ clk →
    s.pickCtx p clk = some (x, a) → (s.px p x).commit.setFor a.line = some u →
    ∃ t, exec (.pipeLineStart p clk) s = .next t ∧ (t.px p x).fifo = (s.px p x).fifo.drop 1 ∧
      (∃ st sat, (t.pipe p).work = (s.pipe p).work ++ [⟨x, a.line, clk, (correctLine u p x a).2, st, sat⟩]) ∧
      (t.pipe p).freeAt = clk + (u.rd (PIPE_CTX_CFG_PIXELS p x) + 7) / 8 ∧
      t = { s with regs := t.regs, pctx := t.pctx, pipes := t.pipes }) ∧
  (∀ (s : State) (p : Fin 13) (clk : Nat) (w : WorkLine) (rest : List WorkLine), (s.pipe p).work = w :: rest →
    w.clk + 96 + (w.pixels.length + 7) / 8 ≤ clk + 1 →
    ∃ t, exec (.pipeLineDone p clk) s = .next t ∧ (t.pipe p).work = rest) ∧
  (∀ (s : State) (p : Fin 13) (bank : Fin 3) (off : Nat),
    ∃ t, exec (.pipeSram p false bank off) s = .next t ∧ t.rd (PIPE_STATUS_SRAM_CORR p) = 1 ∧
      s.keeps t (PIPE_STATUS_SRAM_CORR p :: faultFlds) ∧ t = { s with regs := t.regs, top := t.top }) ∧
  (∀ (s : State) (p : Fin 13) (bank : Fin 3) (off : Nat), s.rd (PIPE_STATUS_STATE p) ≠ pipeServing →
    ∃ t, exec (.pipeSram p true bank off) s = .next t ∧ t.rd (PIPE_STATUS_SRAM_UNCORR p) = 1 ∧
      t.rd (PIPE_STATUS_STATE p) = pipeFailed ∧ t = { s with regs := t.regs, top := t.top }) ∧
  (∀ (s : State) (p : Fin 12) (t0 : Nat), (s.pipe p).failedAt = some t0 → s.mode ≠ 7 → s.mode ≠ 8 →
    (∀ x ∈ List.range 2, (s.px p x).commit.active = none ∧ (s.px p x).commit.previous = none) →
    ∃ t, exec (.pipeSpared p) s = .next t ∧ t.rd (PIPE_CTRL_PORT 12) = s.rd (PIPE_CTRL_PORT p) ∧
      t.rd (PIPE_CTRL_EN 12) = 1 ∧ t.rd (PIPE_STATUS_STATE 12) = pipeServing ∧
      t.rd (PIPE_STATUS_SPARED_FROM 12) = p.val ∧ (t.pipe p).failedAt = none ∧
      t = { s with regs := t.regs, pctx := t.pctx, pipes := t.pipes, top := t.top, tl := t.tl }) ∧
  (∀ (s : State) (pass : Bool), s.rd (PIPE_STATUS_STATE 12) = pipeSpareReady →
    ∃ t, exec (.spareSelfTest none pass) s = .next t ∧
      t.rd (PIPE_STATUS_STATE 12) = (if pass then pipeSpareReady else pipeFailed) ∧
      t.rd TOP_SPARES_PIPE_SPARE = b2n pass ∧
      s.keeps t [PIPE_STATUS_STATE 12, TOP_SPARES_PIPE_SPARE] ∧ t = { s with regs := t.regs }) ∧
  (∀ (s : State) (q : Fin 12) (pass : Bool), s.rd (QUILL_STATUS_SPARE_SLOT q) < 17 →
    ∃ t, exec (.spareSelfTest (some q) pass) s = .next t ∧ t.rd (quillSpareF q) = b2n pass ∧
      s.keeps t [QUILL_SLOT_STATUS_STATE q (s.rd (QUILL_STATUS_SPARE_SLOT q)), quillSpareF q] ∧
      t = { s with regs := t.regs })

/-! ### Stitching (chapter 5) -/

/-- R134, R144, R146, R147, R151 to R153: enabling checks the layout, commits queue a set, lines form and leave,
coarse lines follow, lines not formed are counted and memory errors are flagged. Where a rule leaves it open
this rests on the model's own choice or reading: log 2, 45, 47. -/
def Obligations.StitcherFormsAndAccountsForLines : Prop :=
  (∀ s : State, s.on STITCH_CTRL_EN = false → s.layoutCheck = none →
    ∃ t, exec .stitchEnable s = .next t ∧ t.rd STITCH_CTRL_EN = 1 ∧ t.stitch.seam = [] ∧ t.stitch.staging = [] ∧
      t.stitch.firstAll = none ∧ s.keeps t [STITCH_CTRL_EN] ∧
      t = { s with regs := t.regs, stitch := t.stitch }) ∧
  (∀ (s : State) (n k : Nat), s.on STITCH_CTRL_EN = false → s.layoutCheck = some (n, k) → n < 8 → k < 24 →
    ∃ t, exec .stitchEnable s = .next t ∧ t.on STITCH_CTRL_EN = false ∧ t.rd STITCH_STATUS_GEOM_ERR = 1 ∧
      t.rd STITCH_INFO_CHECK = n ∧ t.rd STITCH_INFO_CHECK_CAM = k ∧
      s.keeps t ([STITCH_STATUS_GEOM_ERR, STITCH_INFO_CHECK, STITCH_INFO_CHECK_CAM] ++ faultFlds) ∧
      t = { s with regs := t.regs, top := t.top }) ∧
  (∀ (s : State) (cancel : Bool),
    ∃ t, exec (.stitchCommit cancel) s = .next t ∧ t.stitch.commit.active = s.stitch.commit.active ∧
      t.stitch.commit.pend.getLast? = (if cancel then none else some ⟨s.now⟩) ∧
      t.rd STITCH_STATUS_COMMIT_PENDING = b2n (!cancel) ∧
      t.rd STITCH_STATUS_SET_VALID = b2n s.stitch.commit.active.isSome ∧
      s.keeps t ([STITCH_STATUS_COMMIT_PENDING, STITCH_STATUS_SET_VALID, TIMELINE_SCHED_STATUS_PEAK,
        TIMELINE_STATUS_SCHED_FULL, TIMELINE_STATUS_MISSED_SLOT] ++ faultFlds) ∧
      t.tl = { s.tl with sched := t.tl.sched } ∧
      t.tl.sched.filter (fun e => !isCommitOf .stitch e.act) = s.tl.sched.filter (fun e => !isCommitOf .stitch e.act) ∧
      t = { s with regs := t.regs, stitch := t.stitch, tl := t.tl, top := t.top }) ∧
  (∀ (s : State) (clk : Nat) (n : Int) (u : SettingsSet), s.on STITCH_CTRL_EN = true →
    s.stitch.commit.active.isSome = true → s.stitch.freeAt ≤ clk → s.stitch.started = some (n - 1) →
    s.cams.all (fun k => s.camAccounted k (n + 24)) = true → s.stitch.commit.setFor n = some u →
    ∃ t, exec (.stitchLineStart clk) s = .next t ∧ t.stitch.started = some n ∧
      t.stitch.freeAt = clk + (s.width + 47) / 48 ∧ t.rd STITCH_STATUS_FORMING = 1) ∧
  (∀ (s : State) (clk t0 : Nat) (f : FineLine) (rest : List (Nat × FineLine)),
    s.stitch.work = (t0, f) :: rest → t0 + 160 + (f.pixels.length + 47) / 48 ≤ clk + 1 →
    ∃ t, exec (.stitchLineDone clk none) s = .next t ∧ t.stitch.work = rest ∧
      t.stitch.fine.head? = some f ∧
      (f.line % 4 = 3 → t.stitch.quad = [] ∧ (t.stitch.coarseOut.getLast?.map (fun e => (e.1, e.2.line))) =
        some (clk + 64, f.line / 4))) ∧
  (∀ (s : State) (clk t0 : Nat) (c : FineLine) (rest : List (Nat × FineLine)),
    s.stitch.coarseOut = (t0, c) :: rest → t0 ≤ clk →
    ∃ t, exec (.coarseLineOut clk) s = .next t ∧ t.stitch.coarseOut = rest ∧ t.stitch.coarse.head? = some c) ∧
  (∀ (s : State) (u : Int), s.forming = false → s.stitch.unformed = some u →
    u < ceilDiv s.tl.pos ((2 : Int) ^ 40) - 26 →
    ∃ t, exec .notFormed s = .next t ∧ t.stitch.unformed = some (ceilDiv s.tl.pos ((2 : Int) ^ 40) - 26)) ∧
  (∀ (s : State) (u : Int), s.forming = false → s.stitch.unformed = some u →
    ceilDiv s.tl.pos ((2 : Int) ^ 40) - 26 ≤ u → exec .notFormed s = .next s) ∧
  (∀ (s : State) (cam : Fin 24) (line : Int) (u n addr : Nat),
    ∃ t, exec (.seamSram false cam line u n addr) s = .next t ∧ t.rd STITCH_STATUS_SRAM_CORR = 1 ∧
      s.keeps t (STITCH_STATUS_SRAM_CORR :: faultFlds) ∧ t = { s with regs := t.regs, top := t.top }) ∧
  (∀ (s : State) (cam : Fin 24) (line : Int) (u n addr : Nat) (x : SeamLine), s.seamOf cam = [x] →
    x.line = line → s.spanFirst cam ≤ u →
    ∃ t, exec (.seamSram true cam line u n addr) s = .next t ∧ t.rd STITCH_STATUS_SRAM_UNCORR = 1 ∧
      t.seamOf cam = [{ x with bad := x.bad ++ tabulate n (fun i => u + i - s.spanFirst cam) }] ∧
      s.keeps t (STITCH_STATUS_SRAM_UNCORR :: faultFlds) ∧
      t = { s with regs := t.regs, stitch := t.stitch, top := t.top })

/-! ### Fine path, profile channels and sensor port (chapter 6) -/

/-- R157, R160, R165 to R168: seeds, memory errors, attribution requests and answers, and the two head tables.
Where a rule leaves it open this rests on the model's own choice or reading: log 49, 50, 51. -/
def Obligations.FinePathSeedsAndAttributes : Prop :=
  (∀ s : State, exec .seed s = .next { s with fine := { s.fine with seedAfter := some s.now } }) ∧
  (∀ (s : State) (u : Fin 180224),
    ∃ t, exec (.columnSram false u) s = .next t ∧ t.rd FINE_STATUS_SRAM_CORR = 1 ∧ t.fine = s.fine ∧
      s.keeps t (FINE_STATUS_SRAM_CORR :: faultFlds) ∧ t = { s with regs := t.regs, top := t.top }) ∧
  (∀ (s : State) (u : Fin 180224),
    ∃ t, exec (.columnSram true u) s = .next t ∧ t.rd FINE_STATUS_SRAM_UNCORR = 1 ∧
      t.colOf u = { s.colOf u with n := 0 } ∧ (∀ v, v ≠ u.val → t.colOf v = s.colOf v) ∧
      s.keeps t (FINE_STATUS_SRAM_UNCORR :: faultFlds) ∧
      t = { s with regs := t.regs, fine := t.fine, top := t.top }) ∧
  (∀ (s : State) (clk : Nat) (r : AttrReq) (q : List AttrReq), s.fine.asked = r :: q → s.fine.lastStart = none →
    (∀ b ∈ List.range 16, s.rd (FINE_BAR_SCALE b) ≠ 0) →
    ∃ t, exec (.attrRequest clk) s = .next t ∧ t.fine.asked = q ∧ t.fine.reports = s.fine.reports ∧
      t.fine.lastStart = some clk ∧
      t.fine.running = s.fine.running ++ [(clk, r, (s.attribute r.x r.ink).1)] ∧
      t.rd FINE_ATTR_COUNT = (s.rd FINE_ATTR_COUNT + 1) % 2 ^ FINE_ATTR_COUNT.w ∧
      s.keeps t [FINE_ATTR_COUNT] ∧ t = { s with regs := t.regs, fine := t.fine }) ∧
  (∀ (s : State) (clk t0 : Nat) (r : AttrReq) (q : List AttrReq), s.fine.asked = [] → s.fine.reports = r :: q →
    s.fine.lastStart = some t0 → t0 + 8 ≤ clk →
    ∃ t, exec (.attrRequest clk) s = .next t ∧ t.fine.reports = q ∧
      t.rd FINE_STATUS_ATTR_QUEUE = q.length % 2 ^ FINE_STATUS_ATTR_QUEUE.w ∧ t.fine.lastStart = some clk ∧
      s.keeps t [FINE_ATTR_COUNT, FINE_STATUS_ATTR_QUEUE] ∧
      t = { s with regs := t.regs, fine := t.fine, freeCount := t.freeCount }) ∧
  (∀ (s : State) (clk t0 : Nat) (r : AttrReq) (a : AttrAns) (rest : List (Nat × AttrReq × AttrAns)),
    s.fine.running = (t0, r, a) :: rest → t0 + 48 ≤ clk → r.tally = none → r.record = false →
    exec (.attrResult clk) s = .next { s with fine := { s.fine with running := rest } }) ∧
  (∀ (s : State) (clk t0 : Nat) (r : AttrReq) (a : AttrAns) (rest : List (Nat × AttrReq × AttrAns)),
    s.fine.running = (t0, r, a) :: rest → t0 + 48 ≤ clk → r.tally = none → r.record = true →
    s.on FINE_CTRL_ATTR_EN = true → s.rd FINE_NOZ_RING_DEPTH ≠ 0 →
    ringFull (s.rd FINE_NOZ_RING_WR) (s.rd FINE_NOZ_RD) (s.rd FINE_NOZ_RING_DEPTH) = true →
    ∃ t, exec (.attrResult clk) s = .next t ∧ t.rd FINE_STATUS_NOZZLE_DROP = 1 ∧ t.fine.running = rest ∧
      s.keeps t ([FINE_NOZ_DROPPED, FINE_STATUS_NOZZLE_DROP] ++ faultFlds) ∧
      t = { s with regs := t.regs, fine := t.fine, top := t.top }) ∧
  (∀ s : State, s.on FINE_ATTR_CTRL_BUSY = false →
    ∃ t, exec .attrSwap s = .next t ∧ t.fine.bank = s.regs.filter (fun e => bankWord e.1) ∧
      t.rd FINE_STATUS_ATTR_BANK = (1 - s.rd FINE_STATUS_ATTR_BANK) % 2 ^ FINE_STATUS_ATTR_BANK.w ∧
      t = { s with regs := t.regs, fine := t.fine }) ∧
  (∀ s : State, s.on FINE_ATTR_CTRL_BUSY = true →
    exec .attrSwap s = .next (s.reject FINE_STATUS_CFG_REJECT srcFine FINE_ATTR_CTRL.off 1)) ∧
  (∀ s : State, ∃ t, exec .attrCopy s = .next t ∧ t.rd FINE_ATTR_CTRL_BUSY = 1 ∧
    s.keeps t [FINE_ATTR_CTRL_BUSY] ∧ t = { s with regs := t.regs }) ∧
  (∀ s : State, s.on FINE_ATTR_CTRL_BUSY = true → s.fine.bank = [] →
    ∃ t, exec .attrCopyDone s = .next t ∧ t.rd FINE_ATTR_CTRL_BUSY = 0 ∧
      (∀ o, bankWord o = true → t.reg o = resetWord o) ∧ (∀ o, bankWord o = false → o ≠ FINE_ATTR_CTRL.off →
        t.reg o = s.reg o) ∧ t = { s with regs := t.regs })

/-- R175, R177 to R180, R183, R184: enabling a profile channel, syncs, detector windows, and the sensor port's
starts and transfers. Where a rule leaves it open this rests on the model's own choice or reading: log 52. -/
def Obligations.ProfileAndSensorCommandsAct : Prop :=
  (∀ (s : State) (c : Fin 256), s.on (PROFILE_CH_CTRL_EN c) = false → s.profCheck c = none →
    ∃ t, exec (.profileEnable c) s = .next t ∧ t.rd (PROFILE_CH_CTRL_EN c) = 1 ∧
      t.rd (PROFILE_CH_STATUS_RUNNING c) = 1 ∧ t.rd (PROFILE_CH_OUT_COUNT c) = 0 ∧ t.pch c = {} ∧
      s.keeps t [PROFILE_CH_CTRL_EN c, PROFILE_CH_STATUS_RUNNING c, PROFILE_CH_STATUS_SETTLED c,
        PROFILE_CH_DELAY c, PROFILE_CH_UNSETTLED c, PROFILE_CH_OUT_COUNT c] ∧
      t = { s with regs := t.regs, prof := t.prof }) ∧
  (∀ (s : State) (c : Fin 256) (n : Nat), s.on (PROFILE_CH_CTRL_EN c) = false → s.profCheck c = some n → n < 16 →
    ∃ t, exec (.profileEnable c) s = .next t ∧ t.on (PROFILE_CH_CTRL_EN c) = false ∧
      t.rd (PROFILE_CH_STATUS_CONFIG_ERR c) = 1 ∧ t.rd (PROFILE_CH_STATUS_CHECK c) = n ∧
      s.keeps t ([PROFILE_CH_STATUS_CONFIG_ERR c, PROFILE_CH_STATUS_CHECK c] ++ faultFlds) ∧
      t = { s with regs := t.regs, top := t.top }) ∧
  (∀ (s : State) (groups : BitVec 16) (c : Nat), c < 256 → s.on (PROFILE_CH_CTRL_EN c) = true →
    bitAt groups.toNat (s.rd (PROFILE_CH_CTRL_GROUP c)) = true →
    spGet (fun _ => 0) s.prof.synced (s.rd (PROFILE_CH_CTRL_GROUP c)) ≠ s.now + 1 →
    ∃ t, exec (.profileSync groups) s = .next t ∧
      t.pch c = { syncLine := some (s.line + 1), syncTick := some s.now } ∧ t.rd (PROFILE_CH_OUT_COUNT c) = 0 ∧
      t.rd (PROFILE_CH_STATUS_SETTLED c) = b2n (s.rd (PROFILE_CH_UNSETTLED c) == 0) ∧
      t = { s with regs := t.regs, prof := t.prof, ev := t.ev }) ∧
  (∀ (s : State) (g : Fin 16) (at64 : BitVec 64),
    exec (.profileSyncAt g at64) s = .next (s.offer' (.profileSync g) (slotOf at64.toInt))) ∧
  (∀ (s : State) (e : SchedEntry) (g c : Nat),
    firstDue s.now s.tl.sched = some e → e.act = .profileSync g → c < 256 →
    s.on (PROFILE_CH_CTRL_EN c) = true → s.rd (PROFILE_CH_CTRL_GROUP c) = g →
    spGet (fun _ => 0) s.prof.synced g ≠ s.now + 1 →
    ∃ t, exec .profileSyncAction s = .next t ∧
      t.pch c = { syncLine := some (ceilDiv e.slot 256), syncTick := some s.now } ∧
      t.rd (PROFILE_CH_OUT_COUNT c) = 0 ∧ t.tl = { s.tl with sched := dropEntry e s.tl.sched } ∧
      t = { s with regs := t.regs, prof := t.prof, ev := t.ev, tl := t.tl }) ∧
  (∀ (s : State) (c : Fin 256), (s.pch c).det.n = 0 →
    ∃ t, exec (.detLatch c) s = .next t ∧ t.rd (PROFILE_CH_DET_MAX c) = 0 ∧ t.rd (PROFILE_CH_DET_MIN c) = 0 ∧
      t.rd (PROFILE_CH_DET_RMS c) = 0 ∧ t.rd (PROFILE_CH_DET_ENV c) = 0 ∧ t.rd (PROFILE_CH_DET_N c) = 0 ∧
      s.keeps t [PROFILE_CH_DET_MAX c, PROFILE_CH_DET_MIN c, PROFILE_CH_DET_RMS c, PROFILE_CH_DET_ENV c,
        PROFILE_CH_DET_N c] ∧ t = { s with regs := t.regs, prof := t.prof }) ∧
  (∀ (s : State) (c : Fin 256) (hi lo : Int), (s.pch c).det.n ≠ 0 → (s.pch c).det.max = some hi →
    (s.pch c).det.min = some lo → -2 ^ 31 ≤ lo → lo ≤ hi → hi < 2 ^ 31 →
    ∃ t, exec (.detLatch c) s = .next t ∧ t.rdS (PROFILE_CH_DET_MAX c) = hi ∧ t.rdS (PROFILE_CH_DET_MIN c) = lo ∧
      t.rd (PROFILE_CH_DET_RMS c) = rmsOf (s.pch c).det.sumsq (s.pch c).det.n % 2 ^ 32 ∧
      t.rd (PROFILE_CH_DET_N c) = (s.pch c).det.n % 2 ^ 32 ∧ (t.pch c).det = { env := (s.pch c).det.env } ∧
      s.keeps t [PROFILE_CH_DET_MAX c, PROFILE_CH_DET_MIN c, PROFILE_CH_DET_RMS c, PROFILE_CH_DET_ENV c,
        PROFILE_CH_DET_N c] ∧ t = { s with regs := t.regs, prof := t.prof }) ∧
  (∀ s : State, s.on SENSOR_CTRL_EN = true → s.on SENSOR_CTRL_START_SRC = true → s.sens.start = none →
    ∃ t, exec (.sensorStart true) s = .next t ∧ t.sens.start = some (s.now, s.pos16) ∧
      t.rd SENSOR_STATUS_BUSY = 1 ∧ s.keeps t [SENSOR_STATUS_BUSY] ∧
      t = { s with regs := t.regs, sens := t.sens }) ∧
  (∀ (s : State) (due : Nat), s.on SENSOR_CTRL_EN = true → s.on SENSOR_CTRL_START_SRC = false →
    s.rd SENSOR_PERIOD ≠ 0 → s.sens.timer = some due → due ≤ s.now → s.sens.start = none →
    ∃ t, exec (.sensorStart false) s = .next t ∧ t.sens.start = some (s.now, s.pos16) ∧
      t.sens.timer = some (due + s.rd SENSOR_PERIOD) ∧ t.rd SENSOR_STATUS_BUSY = 1 ∧
      s.keeps t [SENSOR_STATUS_BUSY] ∧ t = { s with regs := t.regs, sens := t.sens }) ∧
  (∀ (s : State) (t0 : Nat) (p : Int), s.on SENSOR_CTRL_EN = true → s.on SENSOR_CTRL_START_SRC = true →
    s.sens.start = some (t0, p) → t0 ≠ s.now →
    ∃ t, exec (.sensorStart true) s = .next t ∧ t.rd SENSOR_STATUS_OVERRUN = 1 ∧
      s.keeps t ([SENSOR_SKIPPED, SENSOR_STATUS_OVERRUN] ++ faultFlds) ∧
      t = { s with regs := t.regs, top := t.top }) ∧
  (∀ (s : State) (raw : List (BitVec 24)) (t0 : Nat) (p : Int), s.sens.start = some (t0, p) →
    t0 + s.sensorTicks ≤ s.now →
    (∀ c ∈ List.range 256, s.on (PROFILE_CH_CTRL_EN c) = false) →
    ∃ t, exec (.sensorTransferDone raw) s = .next t ∧ t.sens.start = none ∧ t.rd SENSOR_STATUS_BUSY = 0 ∧
      t.rd SENSOR_SAMPLE_TICK = t0 % 2 ^ 64 ∧
      (∀ i ∈ List.range 8, bitAt (s.rd SENSOR_CTRL_CH_EN) i = true →
        t.rdS (SENSOR_CH i) = signed (SENSOR_CH i).w (toBits (SENSOR_CH i).w
          (sensorValue (s.rd SENSOR_CTRL_BITS) (s.rd SENSOR_CTRL_FORMAT) (nth 0 raw i).toNat))) ∧
      t = { s with regs := t.regs, sens := t.sens })

/-! ### Master comparison (chapter 7) -/

/-- R187, R190 to R198, R206, R207, R213 to R216, R223: enabling, commits, the ledger, placement, descriptors,
tile rows, compared lines, memory errors, and the golden repeat's readiness. Where a rule leaves it open this
rests on the model's own choice or reading: log 54, 55, 58, 62. -/
def Obligations.MasterPathConsumesPlacesAndCompares : Prop :=
  (∀ s : State, s.on MASTER_CTRL_EN = false →
    ∃ t, exec (.masterEnable true) s = .next t ∧ t.rd MASTER_CTRL_EN = 1 ∧ t.mas.rows = [] ∧
      t.mas.fresh = true ∧ t.mas.nextDiff = s.newestCoarse.map (· + 1) ∧ s.keeps t [MASTER_CTRL_EN] ∧
      t = { s with regs := t.regs, mas := t.mas }) ∧
  (∀ s : State, s.mas.runs = [] →
    ∃ t, exec (.masterEnable false) s = .next t ∧ t.rd MASTER_CTRL_EN = 0 ∧ s.keeps t [MASTER_CTRL_EN] ∧
      t = { s with regs := t.regs, mas := t.mas }) ∧
  (∀ (s : State) (cancel : Bool),
    ∃ t, exec (.masterCommit cancel) s = .next t ∧ t.mas.commit.active = s.mas.commit.active ∧
      t.mas.commit.pend.getLast? = (if cancel then none else some ⟨s.now⟩) ∧
      t.mas.commit.fetch = (if cancel then none else some (s.now, s.rd MASTER_PRED_BASE)) ∧
      t.rd MASTER_STATUS_COMMIT_PENDING = b2n (!cancel) ∧ t.rd MASTER_STATUS_TABLE_PENDING = b2n (!cancel) ∧
      s.keeps t ([MASTER_STATUS_SET_VALID, MASTER_STATUS_COMMIT_PENDING, MASTER_STATUS_TABLE_PENDING,
        MASTER_STATUS_QUEUED, TIMELINE_SCHED_STATUS_PEAK,
        TIMELINE_STATUS_SCHED_FULL, TIMELINE_STATUS_MISSED_SLOT] ++ faultFlds) ∧
      t.tl = { s.tl with sched := t.tl.sched } ∧
      t.tl.sched.filter (fun e => !isCommitOf .master e.act) = s.tl.sched.filter (fun e => !isCommitOf .master e.act) ∧
      t = { s with regs := t.regs, mas := t.mas, tl := t.tl, top := t.top }) ∧
  (∀ (s : State) (t0 base : Nat), s.mas.commit.fetch = some (t0, base) → s.dramFits base predBytes = true →
    (s.dramTouch base predBytes clsTable).1 = none →
    ∃ t, exec .predFetchDone s = .next t ∧ t.mas.commit.fetch = none ∧
      t.mas.commit.image = some (t0, s.dramSlice base predBytes) ∧ t.rd MASTER_STATUS_TABLE_PENDING = 0 ∧
      t = { s with regs := t.regs, mas := t.mas, dram := t.dram, top := t.top }) ∧
  (∀ (s : State) (t0 base : Nat), s.mas.commit.fetch = some (t0, base) → s.dramFits base predBytes = false →
    ∃ t, exec .predFetchDone s = .next t ∧ t.mas.commit.fetch = none ∧
      ((∀ bt m, s.mas.commit.judged ≠ some (bt, 0, m)) → t.mas.commit.pend = []) ∧
      t.mas.commit.active = s.mas.commit.active ∧
      t = { s with regs := t.regs, mas := t.mas, tl := t.tl, top := t.top }) ∧
  (∀ (s : State) (v : BitVec 32), v.toNat % 65536 < s.rd MASTER_LEDGER_RING_DEPTH →
    ∃ t, exec (.ledgerWrWrite v) s = .next t ∧ t.rd MASTER_LEDGER_WR = v.toNat % 2 ^ MASTER_LEDGER_WR.w ∧
      s.keeps t [MASTER_LEDGER_WR] ∧ t = { s with regs := t.regs }) ∧
  (∀ (s : State) (v : BitVec 32), s.rd MASTER_LEDGER_RING_DEPTH ≤ v.toNat % 65536 →
    exec (.ledgerWrWrite v) s = .next (s.reject MASTER_STATUS_CFG_REJECT srcMaster MASTER_LEDGER_WR.off v.toNat)) ∧
  (∀ (s : State) (start : Int) (bs : List Nat), s.rd MASTER_LEDGER_RING_DEPTH ≠ 0 →
    s.rd MASTER_LEDGER_RING_RD ≠ s.rd MASTER_LEDGER_WR → (s.mas.pages.filter (fun p => !p.ended)).length < 16 →
    bs = (s.dramRead (s.rd MASTER_LEDGER_BASE + 32 * s.rd MASTER_LEDGER_RING_RD) 32 clsMaster).1 →
    start = signed 64 (ofLeBytes (bs.take 8)) + s.rdS MASTER_PLACE_ACC →
    (∀ l, s.mas.lastStart = some l → l < start) → s.mas.pages = [] →
    ∃ t, exec .ledgerConsume s = .next t ∧ t.mas.lastStart = some start ∧
      t.mas.pages.map (fun p => (p.start, p.index, p.xoff, p.mark, p.reset, p.final)) =
        [(start, ofLeBytes ((bs.drop 8).take 4), signed 32 (ofLeBytes ((bs.drop 12).take 4)),
          bitAt (ofLeBytes ((bs.drop 16).take 4)) 0, bitAt (ofLeBytes ((bs.drop 16).take 4)) 1,
          !bitAt (ofLeBytes ((bs.drop 16).take 4)) 0)] ∧
      t.rd MASTER_LEDGER_RING_RD = (s.rd MASTER_LEDGER_RING_RD + 1) % s.rd MASTER_LEDGER_RING_DEPTH ∧
      t = { s with regs := t.regs, mas := t.mas, dram := t.dram, tl := t.tl, top := t.top }) ∧
  (∀ (s : State) (p : Page), s.mas.pages = [p] → p.final = false → p.applied = none →
    p.start + s.rd MASTER_MARK_MARK_TOL * 65536 ≤ linePos (s.rdS STITCH_FORMED_LINE) → s.markNear p.start = none →
    ∃ t, exec .placementFinal s = .next t ∧ t.mas.pages = [{ p with final := true, po := originOf p.start }] ∧
      t.rd MASTER_STATUS_MARK_MISSING = 1 ∧ s.keeps t (MASTER_STATUS_MARK_MISSING :: faultFlds) ∧
      t = { s with regs := t.regs, mas := t.mas, top := t.top }) ∧
  (∀ (s : State) (p : Page) (b : Int), s.mas.pages = [p] → p.final = false → p.applied = none →
    p.start + s.rd MASTER_MARK_MARK_TOL * 65536 ≤ linePos (s.rdS STITCH_FORMED_LINE) →
    s.markNear p.start = some b → s.on MASTER_CTRL_ADOPT_MARK = true →
    (linePos b - p.entry).natAbs ≤ s.rd MASTER_MARK_MARK_WARN * 65536 →
    ∃ t, exec .placementFinal s = .next t ∧
      t.mas.pages = [{ p with final := true, po := originOf (linePos b) }] ∧
      t.rd MASTER_PLACE_ACC = toBits MASTER_PLACE_ACC.w (linePos b - p.entry) ∧ s.keeps t [MASTER_PLACE_ACC] ∧
      t = { s with regs := t.regs, mas := t.mas }) ∧
  (∀ (s : State) (p : Page) (v : Int) (bs : List Nat), s.mas.pages = [p] → p.desc = none → p.absent = none →
    s.newestCoarse = some v → p.po - s.rd MASTER_FETCH_LEAD ≤ v → p.po - 80 ≤ v →
    bs = (s.dramRead (s.rd MASTER_DESC_BASE + 64 * p.index) 64 clsMaster).1 →
    bitAt (ofLeBytes ((bs.drop 7).take 1)) 0 = false →
    ∃ t, exec .descriptorRead s = .next t ∧ t.mas.pages = [{ p with absent := some cvMasterLate }] ∧
      t = { s with regs := t.regs, mas := t.mas, dram := t.dram, top := t.top }) ∧
  (∀ (s : State) (r v : Int), s.nextTileRow = some r → s.newestCoarse = some v → s.on MASTER_CTRL_EN = true →
    64 * r + 63 ≤ v → s.mas.pages = [] → s.mas.commit.setFor (256 * r) = none → -2 ^ 31 ≤ r → r < 2 ^ 31 →
    ∃ t, exec .tileRowEstimate s = .next t ∧ t.rdS MASTER_TILE_ROW = r ∧ t.mas.nextRow = some (r + 1) ∧
      t.mas.rows.head? = some ⟨r, List.replicate s.tiles (0, 0), List.replicate s.tiles true,
        List.replicate s.tiles false⟩ ∧
      s.keeps t [MASTER_TILE_ROW] ∧ t = { s with regs := t.regs, mas := t.mas }) ∧
  (∀ (s : State) (v n : Int), s.nextDiffLine = some v → s.newestCoarse = some n → s.on MASTER_CTRL_EN = true →
    v ≤ n → (s.tileRow (v / 64)).isSome = true → masterActs (s.modeOf (4 * v)) = true →
    ∃ t, exec .differenceLine s = .next t ∧ t.mas.nextDiff = some (v + 1) ∧
      t.mas.diff.head?.map (fun d => (d.line, d.pixels.length)) = some (v, s.wc)) ∧
  (∀ (s : State) (node : Fin 83521),
    ∃ t, exec (.predSram false node) s = .next t ∧ t.rd MASTER_STATUS_SRAM_CORR = 1 ∧
      s.keeps t [MASTER_STATUS_SRAM_CORR] ∧ t = { s with regs := t.regs }) ∧
  (∀ (s : State) (node : Fin 83521),
    ∃ t, exec (.predSram true node) s = .next t ∧ node.val ∈ t.mas.bad ∧
      s.keeps t faultFlds ∧ t = { s with regs := t.regs, mas := t.mas, top := t.top }) ∧
  (∀ s : State,
    ∃ t, exec .assertReady s = .next t ∧ t.rd MASTER_GOLDEN_CTRL_READY = 1 ∧
      (∀ g, g < (s.rd MASTER_GOLDEN_CFG_LEN + 63) / 64 →
        spGet (fun _ => 0) t.mas.merges g = s.rd MASTER_GOLDEN_LEARN_N_LEARN) ∧
      s.keeps t [MASTER_GOLDEN_CTRL_READY] ∧ t = { s with regs := t.regs, mas := t.mas }) ∧
  (∀ s : State,
    ∃ t, exec .relearn s = .next t ∧ t.rd MASTER_GOLDEN_CTRL_READY = 0 ∧
      (∀ g, spGet (fun _ => 0) t.mas.merges g = 0) ∧
      s.keeps t [MASTER_GOLDEN_CTRL_READY] ∧ t = { s with regs := t.regs, mas := t.mas })

/-! ### Scaler, tallies, snippets and the verdict (chapter 8) -/

/-- R229, R235, R247 to R249, R253, R256: enabling and commits, the segmentation of a line, classifier timeouts,
memory errors and the deadline of the verdict. Where a rule leaves it open this rests on the model's own
choice or reading: log 2, 65, 66. -/
def Obligations.ScalerSegmentsLinesAndJudgesDeadlines : Prop :=
  (∀ s : State, s.on SCALER_CTRL_EN = false → s.on TOP_STATUS_HELD_VALID = false →
    ∃ t, exec .scalerEnable s = .next t ∧ t.rd SCALER_CTRL_EN = 1 ∧ t.scal.seg = s.newestReady ∧
      t.scal.segM = s.mas.diff.head?.map (·.line) ∧ t.scal.rows = [] ∧ t.scal.comps = s.scal.comps ∧
      t.scal.stripNext = s.newestReady.map (· + 1)) ∧
  (∀ (s : State) (cancel : Bool),
    ∃ t, exec (.scalerCommit cancel) s = .next t ∧ t.scal.commit.active = s.scal.commit.active ∧
      t.scal.commit.pend.getLast? = (if cancel then none else some ⟨s.now⟩) ∧
      t.rd SCALER_STATUS_COMMIT_PENDING = b2n (!cancel) ∧
      t.rd SCALER_STATUS_SET_VALID = b2n s.scal.commit.active.isSome ∧
      s.keeps t ([SCALER_STATUS_COMMIT_PENDING, SCALER_STATUS_SET_VALID, TIMELINE_SCHED_STATUS_PEAK,
        TIMELINE_STATUS_SCHED_FULL, TIMELINE_STATUS_MISSED_SLOT] ++ faultFlds) ∧
      t.tl = { s.tl with sched := t.tl.sched } ∧
      t.tl.sched.filter (fun e => !isCommitOf .scaler e.act) = s.tl.sched.filter (fun e => !isCommitOf .scaler e.act) ∧
      t = { s with regs := t.regs, scal := t.scal, tl := t.tl, top := t.top }) ∧
  (∀ (s : State) (f : FineLine), s.on SCALER_CTRL_EN = true → s.stitch.fine = [f] → s.fineReady f.line = true →
    s.scal.seg = some (f.line - 1) →
    ∃ t, exec (.segmentLine false) s = .next t ∧ t.scal.seg = some f.line ∧
      t.rd SCALER_OPEN_COUNT = t.scal.comps.length % 2 ^ SCALER_OPEN_COUNT.w ∧
      (∀ r ∈ t.scores, f.line < r.line)) ∧
  (∀ (s : State) (f : FineLine) (m : Int), s.on SCALER_CTRL_EN = true → s.stitch.fine = [f] →
    s.scal.seg = some m → f.line ≤ m → exec (.segmentLine false) s = .next s) ∧
  (∀ (s : State) (d : DiffLine), s.on SCALER_CTRL_EN = true → s.mas.diff = [d] →
    s.scal.segM = some (d.line - 1) →
    ∃ t, exec (.segmentLine true) s = .next t ∧ t.scal.segM = some d.line ∧ t.scal.seg = s.scal.seg) ∧
  (∀ (s : State) (d : Draft), s.scal.drafts = [d] → d.classWait = true →
    d.since + s.rd SCALER_CLASS_CLASS_TIMEOUT * ticksPerUs ≤ s.now →
    ∃ t, exec .classTimeout s = .next t ∧ t.scal.drafts = [] ∧ t.rd SCALER_STATUS_CLASS_TIMEOUT = 1 ∧
      t.scal.timeouts = s.scal.timeouts + 1) ∧
  (∀ (s : State) (label : Fin 65536),
    ∃ t, exec (.scalerSram false label) s = .next t ∧ t.rd SCALER_STATUS_SRAM_CORR = 1 ∧
      s.keeps t (SCALER_STATUS_SRAM_CORR :: faultFlds) ∧ t = { s with regs := t.regs, top := t.top }) ∧
  (∀ (s : State) (label : Fin 65536) (c : Comp), s.scal.comps = [c] → c.label = label →
    ∃ t, exec (.scalerSram true label) s = .next t ∧ t.scal.comps = [] ∧ t.rd SCALER_OPEN_COUNT = 0) ∧
  (∀ (s : State) (e : SchedEntry) (r : Int × Int),
    firstDue s.now s.tl.sched = some e → e.act = .verdict →
    s.lateLines (s.rdS SCALER_VERDICT) (s.line - s.rd SCALER_DEADLINE) = [r] →
    ∃ t, exec .verdictDeadlineCheck s = .next t ∧ t.rd SCALER_STATUS_VERDICT_LATE = 1 ∧
      t.rd SCALER_LATE_LINES = (s.rd SCALER_LATE_LINES + (r.2 - r.1 + 1).toNat) % 2 ^ 32 ∧
      t.scal.lateRuns.head? = some r)

/-- R240 to R242, R244 to R246, R250 to R252: records and loss summaries enter their rings, snippets are copied or
lost, and boundary strips and tallies of the neighbours are sent and taken. Where a rule leaves it open this
rests on the model's own choice or reading: log 69, 70, 71. -/
def Obligations.RecordsSnippetsAndStripsMove : Prop :=
  (∀ (s : State) (r : Fin 4) (c : CovEntry), s.ringRoom r ≠ 0 → s.nextCov r = some c →
    s.summaryFirst r c.body.seq = false → s.permitted reqDma clsMemory true = true →
    s.on (SCALER_RING_CFG_WB_EN r) = false → s.on (SCALER_RING_CFG_HOST r) = true →
    ∃ t, exec (.ringRecordWrite r) s = .next t ∧
      t.rd (SCALER_RING_WR r) = (s.rd (SCALER_RING_WR r) + 1) % s.rd (SCALER_RING_CFG_DEPTH r) ∧
      t.out = (s.hostPut (s.rd (SCALER_RING_BASE r) + 64 * s.rd (SCALER_RING_WR r))
        (c.raw.getD c.body.bytes)).out ∧ t.dram = s.dram) ∧
  (∀ (s : State) (r : Fin 4) (e : TallyEntry), s.rd (SCALER_RING_CFG_RESERVE r) < s.ringRoom r →
    s.nextCov r = none → s.nextTally r = some e → s.summaryFirst r e.body.seq = false →
    ∃ t, exec (.ringRecordWrite r) s = .next t ∧
      t.rd (SCALER_RING_WR r) = (s.rd (SCALER_RING_WR r) + 1) % s.rd (SCALER_RING_CFG_DEPTH r)) ∧
  (∀ (s : State) (r : Fin 4) (l : LossSum), s.ringRoom r ≠ 0 → spGet (fun _ => none) s.scal.loss r.val = some l →
    ∃ t, exec (.lossSummaryWrite r) s = .next t ∧ spGet (fun _ => none) t.scal.loss r.val = none ∧
      t.rd SCALER_SEQ_NEXT = (s.rd SCALER_SEQ_NEXT + 1) % 2 ^ 32 ∧
      t.rd (SCALER_RING_WR r) = (s.rd (SCALER_RING_WR r) + 1) % s.rd (SCALER_RING_CFG_DEPTH r)) ∧
  (∀ (s : State) (e : TallyEntry) (j : SnipJob), s.snipEntry (fun i => i.since.isSome) = none →
    s.snipEntry s.windowFormed = some (e, j) → s.snipChannel = true → s.ringHolds j = true →
    exec .snippetStart s = .next (s.setScal (fun c => { c with talQ := c.talQ.map (fun x =>
      if x = e then { x with snip := some { j with since := some s.now } } else x) }))) ∧
  (∀ (s : State) (e : TallyEntry) (j : SnipJob), s.snipEntry (fun i => i.since.isSome) = none →
    s.snipEntry s.windowFormed = some (e, j) → s.snipChannel = false →
    ∃ t, exec .snippetStart s = .next t ∧ t.rd SCALER_STATUS_SNIP_LOST = 1) ∧
  (∀ (s : State) (e : TallyEntry) (j : SnipJob) (t0 : Nat), s.scal.talQ = [e] → e.snip = some j →
    j.since = some t0 → s.now ≤ t0 + s.rd SCALER_SNIP_SLOTS_SNIP_TIMEOUT * ticksPerUs →
    s.permitted reqDma clsMemory false = true → s.permitted reqDma clsMemory true = true →
    ∃ t, exec .snippetDone s = .next t ∧ (∀ x ∈ t.scal.talQ, x.snip = none) ∧
      t.rd (DMA_CH_DONE_BYTES (s.rd SCALER_SNIP_SNIP_CHAN)) =
        imgBytes (s.rd DRAMC_IMG_CFG_FORMAT) * j.w % 2 ^ 32 ∧
      t.rd (DMA_CH_MOVES (s.rd SCALER_SNIP_SNIP_CHAN)) =
        (s.rd (DMA_CH_MOVES (s.rd SCALER_SNIP_SNIP_CHAN)) + j.h) % 2 ^ 32) ∧
  (∀ (s : State) (reason : Fin 3) (e : TallyEntry) (j : SnipJob) (t0 : Nat), s.scal.talQ = [e] →
    e.snip = some j → j.since = some t0 →
    (reason = 0 → s.ringHolds j = false ∧ s.windowFormed j = true) →
    (reason = 1 → t0 + s.rd SCALER_SNIP_SLOTS_SNIP_TIMEOUT * ticksPerUs < s.now) →
    ∃ t, exec (.snippetLost reason) s = .next t ∧ t.rd SCALER_STATUS_SNIP_LOST = 1 ∧
      (∀ x ∈ t.scal.talQ, x.snip = none)) ∧
  (∀ (s : State) (a f : Int), s.on SCALER_CTRL_EN = true → s.leftId ≠ 0xFFF → s.scal.stripNext = some a →
    s.scal.seg = some f → a + s.rd SCALER_STRIP_STRIP_ROWS - 1 ≤ f → s.scal.commit.active = none →
    ∃ t, exec .stripSend s = .next t ∧ t.scal.stripNext = some (a + s.rd SCALER_STRIP_STRIP_ROWS)) ∧
  (∀ (s : State) (k : Fin 3) (p : Packet) (rest : List Packet) (w : Nat) (a : Int),
    (s.grp (12 + k.val) 0).rx = p :: rest → p.ty = pkStrip → s.member = true →
    headDst (nth 0 p.payload 0) = s.deviceId → s.deviceId ≠ idAll →
    s.permitted (reqLp k) clsTally true = true → s.on SCALER_CTRL_EN = true → w = nth 0 p.payload 1 →
    a = signed 48 w → bitsAt w 48 16 ≠ 0 → bitsAt w 48 16 ≤ 4096 → p.payload.length = bitsAt w 48 16 + 2 →
    headSrc (nth 0 p.payload 0) = s.rightId → s.scal.rowsTo = some (a - 1) →
    ∃ t, exec (.stripRx k) s = .next t ∧ (t.grp (12 + k.val) 0).rx = rest ∧
      t.scal.rowsTo = some (a + bitsAt w 48 16 - 1)) ∧
  (∀ (s : State) (r f : Int), s.scal.rowsTo = some r → s.scal.seg = some f → s.rightId ≠ 0xFFF →
    s.on SCALER_CTRL_EN = true → r + 1 + s.rd SCALER_STRIP_STRIP_TIMEOUT ≤ f →
    ∃ t, exec .stripLate s = .next t ∧ t.rd SCALER_STATUS_STRIP_LATE = 1 ∧
      t.scal.rowsTo = some (r + s.rd SCALER_STRIP_STRIP_ROWS)) ∧
  (∀ (s : State) (k : Fin 3) (p : Packet) (rest : List Packet) (bs : List Nat),
    (s.grp (12 + k.val) 0).rx = p :: rest → p.ty = pkTally → s.member = true →
    headDst (nth 0 p.payload 0) = s.deviceId → s.deviceId ≠ idAll →
    s.permitted (reqLp k) clsTally true = true → bs = (p.payload.drop 1).flatMap (leBytes 8) →
    nth 0 bs 0 = 0x20 → s.scal.covQ.length < 1024 → s.ringsCov ≠ 0 →
    ∃ t, exec (.tallyPacketRx k) s = .next t ∧ (t.grp (12 + k.val) 0).rx = rest ∧
      t.scal.covQ = s.scal.covQ ++ [{ body := covOf bs, raw := some bs, rings := s.ringsCov }])

/-! ### Nib instructions (chapter 9) -/

/-- R274 to R278: the scalar instructions write their result to one scalar register, s0 discarding it, and nothing
else of the nib, of the quill or of the device changes. Where a rule leaves it open this rests on the model's
own choice or reading: log 76. -/
def Obligations.ScalarNibInstructionsWriteOneRegister : Prop :=
  (∀ (s : State) (q : Fin 12) (t : Fin 17) (f : Fin 17) (d a b : Fin 32), s.nibAt q t (.salu f d a b) →
    ∃ u, exec (.salu q t) s = .next u ∧
      s.nibScalar u q t d (saluOp f ((s.nib q t).sr a) ((s.nib q t).sr b))) ∧
  (∀ (s : State) (q : Fin 12) (t : Fin 17) (d a : Fin 32), s.nibAt q t (.clz d a) →
    ∃ u, exec (.salu q t) s = .next u ∧ s.nibScalar u q t d (clz32 ((s.nib q t).sr a))) ∧
  (∀ (s : State) (q : Fin 12) (t : Fin 17) (d a : Fin 32) (imm : Fin 65536), s.nibAt q t (.saddi d a imm) →
    ∃ u, exec (.saddi q t) s = .next u ∧ s.nibScalar u q t d ((s.nib q t).sr a + toBits 32 (signed 16 imm))) ∧
  (∀ (s : State) (q : Fin 12) (t : Fin 17) (d a : Fin 32) (imm : Fin 65536), s.nibAt q t (.sandi d a imm) →
    ∃ u, exec (.sandi q t) s = .next u ∧
      s.nibScalar u q t d (andNat 32 ((s.nib q t).sr a) (toBits 32 (signed 16 imm)))) ∧
  (∀ (s : State) (q : Fin 12) (t : Fin 17) (d a : Fin 32) (imm : Fin 65536), s.nibAt q t (.sori d a imm) →
    ∃ u, exec (.sori q t) s = .next u ∧ s.nibScalar u q t d (orNat 32 ((s.nib q t).sr a) imm)) ∧
  (∀ (s : State) (q : Fin 12) (t : Fin 17) (d a : Fin 32) (imm : Fin 65536), s.nibAt q t (.sxori d a imm) →
    ∃ u, exec (.sxori q t) s = .next u ∧
      s.nibScalar u q t d (xorNat 32 ((s.nib q t).sr a) (toBits 32 (signed 16 imm)))) ∧
  (∀ (s : State) (q : Fin 12) (t : Fin 17) (c : Fin 10) (d a : Fin 32) (k : Fin 4096),
    s.nibAt q t (.scmpi c d a k) →
    ∃ u, exec (.scmpi q t) s = .next u ∧ s.nibScalar u q t d (b2n (condHolds c 32 ((s.nib q t).sr a)
      (if c = 4 ∨ c = 5 ∨ c = 8 ∨ c = 9 then k else toBits 32 (signed 12 k))))) ∧
  (∀ (s : State) (q : Fin 12) (t : Fin 17) (d a : Fin 32) (imm : Fin 65536), s.nibAt q t (.sinsl d a imm) →
    ∃ u, exec (.sinsl q t) s = .next u ∧ s.nibScalar u q t d ((s.nib q t).sr a / 2 ^ 16 * 2 ^ 16 + imm)) ∧
  (∀ (s : State) (q : Fin 12) (t : Fin 17) (d a : Fin 32) (imm : Fin 65536), s.nibAt q t (.sinsh d a imm) →
    ∃ u, exec (.sinsh q t) s = .next u ∧ s.nibScalar u q t d ((s.nib q t).sr a % 2 ^ 16 + imm * 2 ^ 16)) ∧
  (∀ (s : State) (q : Fin 12) (t : Fin 17) (k : Fin 4) (d a n : Fin 32), s.nibAt q t (.shi k d a n) →
    ∃ u, exec (.shi q t) s = .next u ∧ s.nibScalar u q t d (shiOp k ((s.nib q t).sr a) n)) ∧
  (∀ (s : State) (q : Fin 12) (t : Fin 17) (d a b : Fin 32) (sh : Fin 64) (sat tr : Bool),
    s.nibAt q t (.mulsr d a b sh sat tr) →
    ∃ u, exec (.mulsr q t) s = .next u ∧
      s.nibScalar u q t d (mulsrOp false ((s.nib q t).sr a) ((s.nib q t).sr b) sh sat tr)) ∧
  (∀ (s : State) (q : Fin 12) (t : Fin 17) (d a b : Fin 32) (sh : Fin 64) (sat tr : Bool),
    s.nibAt q t (.mulsru d a b sh sat tr) →
    ∃ u, exec (.mulsru q t) s = .next u ∧
      s.nibScalar u q t d (mulsrOp true ((s.nib q t).sr a) ((s.nib q t).sr b) sh sat tr)) ∧
  (∀ (s : State) (q : Fin 12) (t : Fin 17) (d : Fin 32) (k : Fin 14), s.nibAt q t (.getsr d k) → k ≠ 11 →
    ∃ u, exec (.getsr q t) s = .next u ∧
      s.nibScalar u q t d (s.nibSpecial q t (s.nib q t) k (s.nib q t).cycle)) ∧
  (∀ (s : State) (q : Fin 12) (t : Fin 17) (d : Fin 32) (h : Nat), s.nibAt q t (.getsr d 11) →
    (s.nib q t).ev = some h → d ≠ 0 →
    ∃ u, exec (.getsr q t) s = .next u ∧ (u.nib q t).sr d = 1 + min h 15 * 2 ^ 8 ∧ (u.nib q t).ev = none ∧
      s.nibSeq u q t ∧ s.nibOnly u q t)

/-- R275, R279, R280: the vector instructions write the lanes that their mask selects and keep the others, or
write one mask or scalar register, and nothing else changes. -/
def Obligations.VectorNibInstructionsWriteUnderTheirMask : Prop :=
  (∀ (s : State) (q : Fin 12) (t : Fin 17) (f : Fin 19) (d a b : Fin 32) (m : Fin 8),
    s.nibAt q t (.valu f d a b m) →
    ∃ u, exec (.valu q t) s = .next u ∧ s.nibVector u q t d (maskMerge ((s.nib q t).mr m) ((s.nib q t).vr d)
      (lanes (fun i => valuOp f (nth 0 ((s.nib q t).vr a) i) (nth 0 ((s.nib q t).vr b) i))))) ∧
  (∀ (s : State) (q : Fin 12) (t : Fin 17) (f : Fin 19) (d a b : Fin 32) (m : Fin 8),
    s.nibAt q t (.valus f d a b m) →
    ∃ u, exec (.valus q t) s = .next u ∧ s.nibVector u q t d (maskMerge ((s.nib q t).mr m) ((s.nib q t).vr d)
      (lanes (fun i => valuOp f (nth 0 ((s.nib q t).vr a) i) ((s.nib q t).sr b % 2 ^ 16))))) ∧
  (∀ (s : State) (q : Fin 12) (t : Fin 17) (d a : Fin 32) (m : Fin 8), s.nibAt q t (.vmov d a m) →
    ∃ u, exec (.valu q t) s = .next u ∧
      s.nibVector u q t d (maskMerge ((s.nib q t).mr m) ((s.nib q t).vr d) ((s.nib q t).vr a))) ∧
  (∀ (s : State) (q : Fin 12) (t : Fin 17) (d a b : Fin 32) (m : Fin 8) (sh : Fin 32) (us sat tr : Bool),
    s.nibAt q t (.vmul d a b m sh us sat tr) →
    ∃ u, exec (.vmul q t) s = .next u ∧ s.nibVector u q t d (maskMerge ((s.nib q t).mr m) ((s.nib q t).vr d)
      (lanes (fun i => narrow (laneProduct us (nth 0 ((s.nib q t).vr a) i) (nth 0 ((s.nib q t).vr b) i))
        sh us sat tr)))) ∧
  (∀ (s : State) (q : Fin 12) (t : Fin 17) (d a b : Fin 32) (m : Fin 8) (sh : Fin 32) (us sat tr : Bool),
    s.nibAt q t (.vmuls d a b m sh us sat tr) →
    ∃ u, exec (.vmuls q t) s = .next u ∧ s.nibVector u q t d (maskMerge ((s.nib q t).mr m) ((s.nib q t).vr d)
      (lanes (fun i => narrow (laneProduct us (nth 0 ((s.nib q t).vr a) i) ((s.nib q t).sr b % 2 ^ 16))
        sh us sat tr)))) ∧
  (∀ (s : State) (q : Fin 12) (t : Fin 17) (k : Fin 16) (a b : Fin 32) (m : Fin 8) (sub us sat : Bool),
    s.nibAt q t (.vmac k a b m sub false us sat) →
    ∃ u, exec (.vmac q t) s = .next u ∧
      (∀ i ∈ List.range 64, bitAt ((s.nib q t).mr m) i = true →
        nth 0 ((u.nib q t).vr (2 * k.val)) i + nth 0 ((u.nib q t).vr (2 * k.val + 1)) i * 2 ^ 16 =
          macLane (nth 0 ((s.nib q t).acc k) i) (nth 0 ((s.nib q t).vr a) i) (nth 0 ((s.nib q t).vr b) i)
            sub us sat) ∧
      (∀ i ∈ List.range 64, bitAt ((s.nib q t).mr m) i = false →
        nth 0 ((u.nib q t).vr (2 * k.val)) i = nth 0 ((s.nib q t).vr (2 * k.val)) i ∧
        nth 0 ((u.nib q t).vr (2 * k.val + 1)) i = nth 0 ((s.nib q t).vr (2 * k.val + 1)) i) ∧
      s.nibSeq u q t ∧ (s.nib q t).keeps (u.nib q t) [] [2 * k.val, 2 * k.val + 1] [] ∧ s.nibOnly u q t) ∧
  (∀ (s : State) (q : Fin 12) (t : Fin 17) (d : Fin 32) (k : Fin 16) (m : Fin 8) (sh : Fin 32)
    (us sat tr : Bool), s.nibAt q t (.vnar d k m sh us sat tr) →
    ∃ u, exec (.vnar q t) s = .next u ∧ s.nibVector u q t d (maskMerge ((s.nib q t).mr m) ((s.nib q t).vr d)
      (((s.nib q t).acc k).map (fun (x : Nat) => narrow (if us then (x : Int) else signed 32 x) sh us sat tr)))) ∧
  (∀ (s : State) (q : Fin 12) (t : Fin 17) (c : Fin 10) (d : Fin 7) (a b : Fin 32) (m : Fin 8),
    s.nibAt q t (.vcmp c d a b m) →
    ∃ u, exec (.vcmp q t) s = .next u ∧ s.nibMask u q t d (maskOf (fun i => bitAt ((s.nib q t).mr m) i &&
      condHolds c 16 (nth 0 ((s.nib q t).vr a) i) (nth 0 ((s.nib q t).vr b) i)))) ∧
  (∀ (s : State) (q : Fin 12) (t : Fin 17) (c : Fin 10) (d : Fin 7) (a b : Fin 32) (m : Fin 8),
    s.nibAt q t (.vcmps c d a b m) →
    ∃ u, exec (.vcmps q t) s = .next u ∧ s.nibMask u q t d (maskOf (fun i =>
      bitAt ((s.nib q t).mr m) i && condHolds c 16 (nth 0 ((s.nib q t).vr a) i) ((s.nib q t).sr b % 2 ^ 16)))) ∧
  (∀ (s : State) (q : Fin 12) (t : Fin 17) (d a b : Fin 32) (m : Fin 8), s.nibAt q t (.vsel d a b m) →
    ∃ u, exec (.vsel q t) s = .next u ∧ s.nibVector u q t d (lanes (fun i =>
      if bitAt ((s.nib q t).mr m) i then nth 0 ((s.nib q t).vr a) i else nth 0 ((s.nib q t).vr b) i))) ∧
  (∀ (s : State) (q : Fin 12) (t : Fin 17) (f : Fin 4) (d : Fin 7) (a b : Fin 8),
    s.nibAt q t (.vmaskLogic f d a b) →
    ∃ u, exec (.vmask q t) s = .next u ∧
      s.nibMask u q t d (maskLogic f ((s.nib q t).mr a) ((s.nib q t).mr b))) ∧
  (∀ (s : State) (q : Fin 12) (t : Fin 17) (d : Fin 7) (a b : Fin 32), s.nibAt q t (.vmaskSet d a b) →
    ∃ u, exec (.vmask q t) s = .next u ∧
      s.nibMask u q t d ((s.nib q t).sr b * 2 ^ 32 + (s.nib q t).sr a)) ∧
  (∀ (s : State) (q : Fin 12) (t : Fin 17) (f : Fin 4) (d : Fin 32) (a : Fin 8),
    s.nibAt q t (.vmaskRead f d a) →
    ∃ u, exec (.vmask q t) s = .next u ∧ s.nibScalar u q t d (maskRead f ((s.nib q t).mr a))) ∧
  (∀ (s : State) (q : Fin 12) (t : Fin 17) (f : Fin 8) (d a : Fin 32) (m : Fin 8), s.nibAt q t (.vred f d a m) →
    ∃ u, exec (.vred q t) s = .next u ∧ s.nibScalar u q t d (vredOp f ((s.nib q t).mr m) ((s.nib q t).vr a))) ∧
  (∀ (s : State) (q : Fin 12) (t : Fin 17) (up : Bool) (d a b : Fin 32) (m : Fin 8) (k : Fin 64),
    s.nibAt q t (.vslide up d a b m k) →
    ∃ u, exec (.vperm q t) s = .next u ∧ s.nibVector u q t d (maskMerge ((s.nib q t).mr m) ((s.nib q t).vr d)
      (slideOp up k ((s.nib q t).vr a) ((s.nib q t).vr b)))) ∧
  (∀ (s : State) (q : Fin 12) (t : Fin 17) (d a : Fin 32) (m : Fin 8), s.nibAt q t (.vsplat d a m) →
    ∃ u, exec (.vsplat q t) s = .next u ∧ s.nibVector u q t d (lanes (fun i =>
      if bitAt ((s.nib q t).mr m) i then (s.nib q t).sr a % 2 ^ 16 else nth 0 ((s.nib q t).vr d) i))) ∧
  (∀ (s : State) (q : Fin 12) (t : Fin 17) (d a b : Fin 32) (x : Bool), s.nibAt q t (.vext d a b x) →
    ∃ u, exec (.vext q t) s = .next u ∧ s.nibScalar u q t d
      (if x then toBits 32 (signed 16 (nth 0 ((s.nib q t).vr a) ((s.nib q t).sr b % 64)))
        else nth 0 ((s.nib q t).vr a) ((s.nib q t).sr b % 64)))

/-- R260, R275, R281, R289: loads and stores move aligned bytes, least significant first, between registers and
local memory or quill memory; every other byte keeps its value. Where a rule leaves it open this rests on the
model's own choice or reading: log 73. -/
def Obligations.NibLoadsAndStoresMoveAlignedBytes : Prop :=
  (∀ (s : State) (q : Fin 12) (t : Fin 17) (d a : Fin 32) (o : Fin 65536), s.nibAt q t (.lw d a o) →
    (s.nib q t).ea a o % 4 = 0 → (s.nib q t).ea a o + 4 ≤ 0x40000 →
    ∃ u, exec (.lw q t) s = .next u ∧
      s.nibScalar u q t d (ofLeBytes (Memory.bytes (s.nib q t).mem ((s.nib q t).ea a o) 4))) ∧
  (∀ (s : State) (q : Fin 12) (t : Fin 17) (d a : Fin 32) (o : Fin 65536), s.nibAt q t (.lhu d a o) →
    (s.nib q t).ea a o % 2 = 0 → (s.nib q t).ea a o + 2 ≤ 0x40000 →
    ∃ u, exec (.lhu q t) s = .next u ∧
      s.nibScalar u q t d (ofLeBytes (Memory.bytes (s.nib q t).mem ((s.nib q t).ea a o) 2))) ∧
  (∀ (s : State) (q : Fin 12) (t : Fin 17) (d a : Fin 32) (o : Fin 65536), s.nibAt q t (.vld d a o) →
    (s.nib q t).ea a o % 128 = 0 → (s.nib q t).ea a o + 128 ≤ 0x40000 →
    ∃ u, exec (.vld q t) s = .next u ∧ s.nibVector u q t d (lanes (fun i =>
      ofLeBytes ((Memory.bytes (s.nib q t).mem ((s.nib q t).ea a o) 128).drop (2 * i) |>.take 2)))) ∧
  (∀ (s : State) (q : Fin 12) (t : Fin 17) (d : Fin 7) (a : Fin 32) (o : Fin 65536), s.nibAt q t (.vldm d a o) →
    (s.nib q t).ea a o % 8 = 0 → (s.nib q t).ea a o + 8 ≤ 0x40000 →
    ∃ u, exec (.vldm q t) s = .next u ∧
      s.nibMask u q t d (ofLeBytes (Memory.bytes (s.nib q t).mem ((s.nib q t).ea a o) 8))) ∧
  (∀ (s : State) (q : Fin 12) (t : Fin 17) (d a : Fin 32) (o : Fin 65536), s.nibAt q t (.sw d a o) →
    (s.nib q t).ea a o % 4 = 0 → (s.nib q t).ea a o + 4 ≤ 0x40000 →
    ∃ u, exec (.sw q t) s = .next u ∧
      s.nibStored u q t ((s.nib q t).ea a o) (leBytes 4 ((s.nib q t).sr d)) ∧
      (∀ x, x < (s.nib q t).ea a o ∨ (s.nib q t).ea a o + 4 ≤ x →
        Memory.byte (u.nib q t).mem x = Memory.byte (s.nib q t).mem x)) ∧
  (∀ (s : State) (q : Fin 12) (t : Fin 17) (d a : Fin 32) (o : Fin 65536), s.nibAt q t (.sh d a o) →
    (s.nib q t).ea a o % 2 = 0 → (s.nib q t).ea a o + 2 ≤ 0x40000 →
    ∃ u, exec (.sh q t) s = .next u ∧
      s.nibStored u q t ((s.nib q t).ea a o) (leBytes 2 ((s.nib q t).sr d)) ∧
      (∀ x, x < (s.nib q t).ea a o ∨ (s.nib q t).ea a o + 2 ≤ x →
        Memory.byte (u.nib q t).mem x = Memory.byte (s.nib q t).mem x)) ∧
  (∀ (s : State) (q : Fin 12) (t : Fin 17) (d a : Fin 32) (o : Fin 65536), s.nibAt q t (.vst d a o) →
    (s.nib q t).ea a o % 128 = 0 → (s.nib q t).ea a o + 128 ≤ 0x40000 →
    ∃ u, exec (.vst q t) s = .next u ∧
      s.nibStored u q t ((s.nib q t).ea a o) (vecBytes ((s.nib q t).vr d)) ∧
      (∀ x, x < (s.nib q t).ea a o ∨ (s.nib q t).ea a o + 128 ≤ x →
        Memory.byte (u.nib q t).mem x = Memory.byte (s.nib q t).mem x)) ∧
  (∀ (s : State) (q : Fin 12) (t : Fin 17) (d a : Fin 32) (o : Fin 65536), s.nibAt q t (.vstb d a o) →
    (s.nib q t).ea a o % 64 = 0 → (s.nib q t).ea a o + 64 ≤ 0x40000 →
    ∃ u, exec (.vstb q t) s = .next u ∧
      s.nibStored u q t ((s.nib q t).ea a o) ((padTo 0 64 ((s.nib q t).vr d)).map (fun x => satU 8 (signed 16 x))) ∧
      (∀ x, x < (s.nib q t).ea a o ∨ (s.nib q t).ea a o + 64 ≤ x →
        Memory.byte (u.nib q t).mem x = Memory.byte (s.nib q t).mem x)) ∧
  (∀ (s : State) (q : Fin 12) (t : Fin 17) (d a : Fin 32) (o : Fin 65536), s.nibAt q t (.sw d a o) →
    (s.nib q t).ea a o % 4 = 0 → 0x01000000 ≤ (s.nib q t).ea a o → (s.nib q t).ea a o + 4 ≤ 0x013FF000 →
    ∃ u, exec (.sw q t) s = .next u ∧ s.nibSeq u q t ∧ (u.nib q t).mem = (s.nib q t).mem ∧
      (u.quillAt q).mem = Memory.put (s.quillAt q).mem ((s.nib q t).ea a o - 0x01000000)
        (leBytes 4 ((s.nib q t).sr d)) ∧
      u = { s with quill := u.quill }) ∧
  (∀ (s : State) (q : Fin 12) (t : Fin 17) (d a : Fin 32) (o : Fin 65536), s.nibAt q t (.lw d a o) → d ≠ 0 →
    (s.nib q t).ea a o % 4 = 0 → 0x01000000 ≤ (s.nib q t).ea a o → (s.nib q t).ea a o + 4 ≤ 0x013FF000 →
    (s.quillAt q).stores = [] →
    ∃ u, exec (.lw q t) s = .next u ∧ s.nibSeq u q t ∧
      (u.nib q t).sr d =
        ofLeBytes (Memory.bytes (s.quillAt q).mem ((s.nib q t).ea a o - 0x01000000) 4) % 2 ^ 32 ∧
      u = { s with quill := u.quill, freeCount := u.freeCount }) ∧
  (∀ (s : State) (q : Fin 12) (t : Fin 17) (d a b : Fin 32) (m : Fin 8), s.nibAt q t (.vgath d a b m) →
    (s.nib q t).sr b % 2 = 0 → (s.nib q t).sr b + 2 * 65536 ≤ 0x40000 →
    (∀ i ∈ List.range 64, nth 0 ((s.nib q t).vr a) i < 65536) →
    ∃ u, exec (.vgath q t) s = .next u ∧ s.nibVector u q t d (lanes (fun i =>
      if bitAt ((s.nib q t).mr m) i then
        ofLeBytes (Memory.bytes (s.nib q t).mem ((s.nib q t).sr b + 2 * nth 0 ((s.nib q t).vr a) i) 2)
      else nth 0 ((s.nib q t).vr d) i)))

/-- R287: branches, jumps and loops set the PC of the nib and its loop levels and nothing else. -/
def Obligations.NibBranchesAndLoopsSetThePc : Prop :=
  (∀ (s : State) (q : Fin 12) (t : Fin 17) (a : Fin 32) (o : Fin 2097152) (p : Nat), s.nibAt q t (.beqz a o) →
    (s.nib q t).loops = [] → ((s.nib q t).pc : Int) + 4 * signed 21 o = p → p < 16384 →
    ∃ u, exec (.beqz q t) s = .next u ∧
      (u.nib q t).pc = (if signed 32 ((s.nib q t).sr a) = 0 then p else (s.nib q t).pc + 4) ∧
      (s.nib q t).keeps (u.nib q t) [] [] [] ∧ s.nibOnly u q t) ∧
  (∀ (s : State) (q : Fin 12) (t : Fin 17) (a : Fin 32) (o : Fin 2097152) (p : Nat), s.nibAt q t (.bnez a o) →
    (s.nib q t).loops = [] → ((s.nib q t).pc : Int) + 4 * signed 21 o = p → p < 16384 →
    ∃ u, exec (.bnez q t) s = .next u ∧
      (u.nib q t).pc = (if signed 32 ((s.nib q t).sr a) = 0 then (s.nib q t).pc + 4 else p) ∧
      (s.nib q t).keeps (u.nib q t) [] [] [] ∧ s.nibOnly u q t) ∧
  (∀ (s : State) (q : Fin 12) (t : Fin 17) (a : Fin 32) (o : Fin 2097152) (p : Nat), s.nibAt q t (.bltz a o) →
    (s.nib q t).loops = [] → ((s.nib q t).pc : Int) + 4 * signed 21 o = p → p < 16384 →
    ∃ u, exec (.bltz q t) s = .next u ∧
      (u.nib q t).pc = (if signed 32 ((s.nib q t).sr a) < 0 then p else (s.nib q t).pc + 4) ∧
      (s.nib q t).keeps (u.nib q t) [] [] [] ∧ s.nibOnly u q t) ∧
  (∀ (s : State) (q : Fin 12) (t : Fin 17) (a : Fin 32) (o : Fin 2097152) (p : Nat), s.nibAt q t (.bgez a o) →
    (s.nib q t).loops = [] → ((s.nib q t).pc : Int) + 4 * signed 21 o = p → p < 16384 →
    ∃ u, exec (.bgez q t) s = .next u ∧
      (u.nib q t).pc = (if signed 32 ((s.nib q t).sr a) < 0 then (s.nib q t).pc + 4 else p) ∧
      (s.nib q t).keeps (u.nib q t) [] [] [] ∧ s.nibOnly u q t) ∧
  (∀ (s : State) (q : Fin 12) (t : Fin 17) (a : Fin 32) (o : Fin 2097152) (p : Nat), s.nibAt q t (.jal a o) →
    ((s.nib q t).pc : Int) + 4 * signed 21 o = p → p < 16384 →
    ∃ u, exec (.jal q t) s = .next u ∧ (u.nib q t).pc = p ∧
      (u.nib q t).sr a = (if a = 0 then 0 else (s.nib q t).pc + 4) ∧
      (s.nib q t).keeps (u.nib q t) [a] [] [] ∧ s.nibOnly u q t) ∧
  (∀ (s : State) (q : Fin 12) (t : Fin 17) (a : Fin 32), s.nibAt q t (.jr a) →
    (s.nib q t).sr a % 4 = 0 → (s.nib q t).sr a < 16384 →
    ∃ u, exec (.jr q t) s = .next u ∧ (u.nib q t).pc = (s.nib q t).sr a ∧
      (s.nib q t).keeps (u.nib q t) [] [] [] ∧ s.nibOnly u q t) ∧
  (∀ (s : State) (q : Fin 12) (t : Fin 17) (a : Fin 32) (k : Fin 4095), s.nibAt q t (.loop a k) →
    (s.nib q t).sr a ≠ 0 → (s.nib q t).loops.length < 4 →
    ∃ u, exec (.loop q t) s = .next u ∧ (u.nib q t).pc = (s.nib q t).pc + 4 ∧
      (u.nib q t).loops = ⟨(s.nib q t).pc + 4, (s.nib q t).pc + 4 * (k.val + 1), (s.nib q t).sr a⟩ ::
        (s.nib q t).loops ∧
      (s.nib q t).keeps (u.nib q t) [] [] [] ∧ s.nibOnly u q t) ∧
  (∀ (s : State) (q : Fin 12) (t : Fin 17) (a : Fin 32) (k : Fin 4095), s.nibAt q t (.loop a k) →
    (s.nib q t).sr a = 0 → (s.nib q t).loops = [] → (s.nib q t).pc + 4 + 4 * (k.val + 1) < 16384 →
    ∃ u, exec (.loop q t) s = .next u ∧ (u.nib q t).pc = (s.nib q t).pc + 4 + 4 * (k.val + 1) ∧
      (s.nib q t).keeps (u.nib q t) [] [] [] ∧ s.nibOnly u q t) ∧
  (∀ (s : State) (q : Fin 12) (t : Fin 17) (d a : Fin 32) (imm : Fin 65536) (l : LoopLevel) (ls : List LoopLevel),
    (s.nib q t).run.isSome = true → s.overBudget q t = false →
    decodeNib (s.nibWord q t) = some (.saddi d a imm) → (s.nib q t).loops = l :: ls →
    l.last = (s.nib q t).pc → 1 < l.left → l.first < 16384 →
    ∃ u, exec (.saddi q t) s = .next u ∧ (u.nib q t).pc = l.first ∧
      (u.nib q t).loops = { l with left := l.left - 1 } :: ls)

/-- R162, R273, R282 to R286, R290, R292 to R294: retiring, reports, tallies, drafts, events, fences and the
faults that stop a nib. Where a rule leaves it open this rests on the model's own choice or reading: log 74,
77. -/
def Obligations.NibInstructionsReportRetireAndFault : Prop :=
  (∀ (s : State) (q : Fin 12) (t : Fin 17) (l : Int), s.nibAt q t .retire → (s.nib q t).run = some (.line l) →
    (s.nib q t).job < 4 → s.on (QUILL_JOB_CTRL_OUT_EN q (s.nib q t).job) = false →
    ∃ u, exec (.retire q t) s = .next u ∧ (u.nib q t).run = none ∧ (u.nib q t).retired = some l ∧
      (u.nib q t).next = some (l + 1) ∧ u.slotState q t = slotIdle ∧
      (s.nib q t).mem = (u.nib q t).mem ∧ u.scores = s.scores) ∧
  (∀ (s : State) (q : Fin 12) (t : Fin 17) (rc : Bool) (a b : Fin 32) (ink : Fin 256),
    s.nibAt q t (.srep rc a b ink) → s.fine.reports.length < 64 →
    ∃ u, exec (.srep q t) s = .next u ∧ s.nibSeq u q t ∧
      u.fine.reports = s.fine.reports ++ [{
        x := ((s.nib q t).sr a + 16 * s.rd STITCH_XBASE) % 2 ^ 32, ink := ink, record := rc, tally := none,
        pos := (s.nib q t).line * 65536 + signed 32 ((s.nib q t).sr b) }] ∧
      s.keeps u [FINE_STATUS_ATTR_QUEUE] ∧ u = { s with regs := u.regs, fine := u.fine, quill := u.quill }) ∧
  (∀ (s : State) (q : Fin 12) (t : Fin 17) (rc : Bool) (a b : Fin 32) (ink : Fin 256),
    s.nibAt q t (.srep rc a b ink) → 64 ≤ s.fine.reports.length →
    ∃ u, exec (.srep q t) s = .next u ∧ s.nibSeq u q t ∧ u.rd FINE_STATUS_ATTR_OVERRUN = 1 ∧ u.fine = s.fine ∧
      s.keeps u (FINE_STATUS_ATTR_OVERRUN :: faultFlds)) ∧
  (∀ (s : State) (q : Fin 12) (t : Fin 17) (a : Fin 32), s.nibAt q t (.temit a) → (s.nib q t).sr a % 64 = 0 →
    (s.nib q t).sr a + 64 ≤ 0x40000 → Memory.byte (s.nib q t).mem ((s.nib q t).sr a) = 0x10 →
    s.scal.talQ.length < 8192 →
    ∃ u, exec (.temit q t) s = .next u ∧ s.nibSeq u q t ∧
      u.rd SCALER_TALLIES = (s.rd SCALER_TALLIES + 1) % 2 ^ SCALER_TALLIES.w ∧
      u.rd SCALER_SEQ_NEXT = (s.rd SCALER_SEQ_NEXT + 1) % 2 ^ 32) ∧
  (∀ (s : State) (q : Fin 12) (t : Fin 17) (d : Fin 32), s.nibAt q t (.tget d) → d ≠ 0 →
    s.oldestDraft q = none →
    ∃ u, exec (.tget q t) s = .next u ∧ s.nibSeq u q t ∧ (u.nib q t).sr d = 0xFFFFFFFF ∧
      u = { s with quill := u.quill, freeCount := u.freeCount }) ∧
  (∀ (s : State) (q : Fin 12) (t : Fin 17) (d : Fin 32) (k : Nat), s.nibAt q t (.tget d) → d ≠ 0 →
    s.oldestDraft q = some k →
    ∃ u, exec (.tget q t) s = .next u ∧ s.nibSeq u q t ∧
      (u.nib q t).sr d = (k + (s.fqSlot q k).gen % 2 ^ 26 * 64) % 2 ^ 32 ∧ (u.fqSlot q k).claimed = true ∧
      s.keeps u [QUILL_FQ_QUEUED q, QUILL_FQ_CLAIMED q]) ∧
  (∀ (s : State) (q : Fin 12) (t : Fin 17) (a b : Fin 32) (k : Nat) (f : FqSlot), s.nibAt q t (.tans a b) →
    (s.nib q t).sr b < 512 → k = (s.nib q t).sr a % 64 → f = s.fqSlot q k → f.full = true →
    f.claimed = true → f.gen % 2 ^ 26 = (s.nib q t).sr a / 64 →
    ∃ u, exec (.tans q t) s = .next u ∧ s.nibSeq u q t ∧ u.fqSlot q k = { gen := f.gen } ∧
      (∀ d ∈ u.scal.drafts, d.id ≠ f.draft)) ∧
  (∀ (s : State) (q : Fin 12) (t : Fin 17) (a b : Fin 32), s.nibAt q t (.tans a b) →
    (s.nib q t).sr b < 512 → (s.fqSlot q ((s.nib q t).sr a % 64)).full = false →
    ∃ u, exec (.tans q t) s = .next u ∧ s.nibSeq u q t ∧ s.keeps u [QUILL_FQ_STALE q] ∧
      u.rd (QUILL_FQ_STALE q) = (s.rd (QUILL_FQ_STALE q) + 1) % 2 ^ (QUILL_FQ_STALE q).w ∧
      u = { s with regs := u.regs, quill := u.quill }) ∧
  (∀ (s : State) (q : Fin 12) (t : Fin 17) (c : Fin 256), s.nibAt q t (.event c) →
    ∃ u, exec (.event q t) s = .next u ∧ s.nibSeq u q t ∧ u.rd (QUILL_EV_LAST_CODE q) = c.val ∧
      s.keeps u [QUILL_EV_LAST_CODE q, QUILL_EV_LAST_NIB q] ∧
      u = { s with regs := u.regs, quill := u.quill, ev := u.ev }) ∧
  (∀ (s : State) (q : Fin 12) (t : Fin 17), s.nibAt q t .fence → (s.nib q t).store = none →
    ∃ u, exec (.fence q t) s = .next u ∧ s.nibSeq u q t ∧
      (u.quillAt q).stores = (s.quillAt q).stores.filter (fun e => e.slot != t.val) ∧
      (u.nib q t).cycle = (s.nib q t).cycle + 2 ∧ u = { s with quill := u.quill }) ∧
  (∀ (s : State) (q : Fin 12) (t : Fin 17) (imm : Fin 65536), s.nibAt q t (.stop imm) →
    (s.nib q t).job < 4 →
    s.rd (QUILL_JOB_CTRL_FAULT_POLICY q (s.nib q t).job) ≠ 0 →
    ∃ u, exec (.stop q t) s = .next u ∧ u.rd (QUILL_SLOT_FAULT_CODE q t) = kfStop ∧
      u.rd (QUILL_SLOT_FAULT_PC q t) = (s.nib q t).pc ∧ u.rd (QUILL_SLOT_FAULT_ADDR q t) = imm.val ∧
      u.slotState q t = slotStopped ∧ (u.nib q t).run = none) ∧
  (∀ (s : State) (q : Fin 12) (t : Fin 17), (s.nib q t).run.isSome = true → s.overBudget q t = false →
    decodeNib (s.nibWord q t) = none → s.nibWord q t < 2 ^ 32 → (s.nib q t).pc < 2 ^ 14 →
    (s.nib q t).job < 4 →
    s.rd (QUILL_JOB_CTRL_FAULT_POLICY q (s.nib q t).job) ≠ 0 →
    ∃ u, exec (.illegalInstruction q t) s = .next u ∧ u.rd (QUILL_SLOT_FAULT_CODE q t) = kfIllegal ∧
      u.rd (QUILL_SLOT_FAULT_PC q t) = (s.nib q t).pc ∧ u.rd (QUILL_SLOT_FAULT_ADDR q t) = s.nibWord q t ∧
      u.slotState q t = slotStopped ∧ (u.nib q t).run = none) ∧
  (∀ (s : State) (q : Fin 12) (t : Fin 17), (s.nib q t).run.isSome = true → s.overBudget q t = true →
    (s.nib q t).pc < 2 ^ 14 → (s.nib q t).job < 4 → s.rd (QUILL_JOB_CTRL_FAULT_POLICY q (s.nib q t).job) ≠ 0 →
    ∃ u, exec (.kernelTimeout q t) s = .next u ∧ u.rd (QUILL_SLOT_FAULT_CODE q t) = kfTimeout ∧
      u.slotState q t = slotStopped ∧ (u.nib q t).run = none)

/-- R264, R266 to R271, R292 to R300: jobs, INIT runs, windows, invocations, restarts, sparing and kernel loads of
a quill. Where a rule leaves it open this rests on the model's own choice or reading: log 75, 81, 82, 85. -/
def Obligations.QuillCommandsRunItsJobs : Prop :=
  (∀ (s : State) (q : Fin 12) (j : Fin 4), s.jobOn q j = false → (s.updPitch q j).jobCheck q j = none →
    ∃ t, exec (.jobEnable q j) s = .next t ∧ t.jobOn q j = true ∧ t.rd (QUILL_JOB_CTRL_RUNNING q j) = 1 ∧
      (t.job q j).init = true ∧ (t.job q j).l0 = none) ∧
  (∀ (s : State) (q : Fin 12) (j : Fin 4) (c : Nat), s.jobOn q j = false →
    (s.updPitch q j).jobCheck q j = some c → c < 16 →
    ∃ t, exec (.jobEnable q j) s = .next t ∧ t.jobOn q j = false ∧ t.rd (QUILL_JOB_CTRL_CONFIG_ERR q j) = 1 ∧
      t.rd (QUILL_JOB_CTRL_CHECK q j) = c ∧ t = { s with regs := t.regs, top := t.top }) ∧
  (∀ (s : State) (q : Fin 12) (j : Fin 4), s.jobOn q j = true → (s.job q j).init = true →
    (∀ t ∈ s.jobSlots q j, (s.nib q t).run = none) →
    exec (.initRunDone q j) s = .next (s.setJob q j { s.job q j with
      init := false, waitStart := !s.jobQueue q j })) ∧
  (∀ (s : State) (q : Fin 12) (k : Fin 17) (j w : Nat) (cur f : Int), s.jobOfSlot q k = some j →
    (s.quillAt q).hand = none → (s.nib q k).current = some cur → (s.nib q k).behalf = false →
    (s.nib q k).resume = false → s.jobQueue q j = false → (s.job q j).l0.isSome = true → s.winsOn q j = [w] →
    s.newestRow (s.winSrc q j w) = some f → spGet (fun _ => 0) (s.nib q k).fill w = f →
    f - s.winRows q j w < winIndex (s.winSrc q j w) cur - s.winHist q j w →
    exec (.windowFill q k) s = .next (s.setNib q k { s.nib q k with
      mem := Memory.put (s.nib q k).mem
        (s.winBase q j w + (f % (s.winRows q j w : Int)).toNat * s.pitchOf q j w)
        (s.rowBytes (s.winSrc q j w) (s.rowCols q j) (s.stripeBase q j (s.roleOf q k)) f),
      fill := spSet (fun _ => 0) (s.nib q k).fill w (f + 1) })) ∧
  (∀ (s : State) (q : Fin 12) (t : Fin 17) (j : Nat) (l : Int), s.jobOfSlot q t = some j →
    s.nextInvoked q j (s.nib q t) = some l → (s.quillAt q).hand = none →
    (∀ w ∈ s.winsOn q j, winIndex (s.winSrc q j w) l + s.winAhead q j w <
      spGet (fun _ => 0) (s.nib q t).fill w) →
    s.jobQueue q j = false → (s.job q j).l0.isSome = true → (s.nib q t).run = none →
    (s.nib q t).behalf = false → (s.nib q t).resume = false → s.slotState q t = slotIdle → s.mode ≠ 11 →
    (s.nib q t).next = some l → (s.nib q t).lost = none → s.on (QUILL_JOB_CTRL_OUT_EN q j) = false →
    ∃ u, exec (.nibInvoke q t) s = .next u ∧ (u.nib q t).run = some (.line l) ∧ (u.nib q t).line = l ∧
      (u.nib q t).pc = s.rd (QUILL_JOB_LINE_PC q j) ∧ (u.nib q t).cycle = 0 ∧
      u.slotState q t = slotRunning ∧ s.keeps u [QUILL_SLOT_STATUS_STATE q t, QUILL_SLOT_STATUS_JOB q t] ∧
      u = { s with regs := u.regs, quill := u.quill }) ∧
  (∀ (s : State) (q : Fin 12) (t j : Nat), (s.oldestDraft q).isSome = true → s.slotFor q 0 = some t →
    s.jobOfNib q 0 = some j → s.jobQueue q j = true → (s.job q j).init = false → (s.nib q t).run = none →
    s.slotState q t = slotIdle → s.mode ≠ 11 →
    ∃ u, exec (.queueInvoke q) s = .next u ∧ (u.nib q t).run = some .queue ∧
      (u.nib q t).pc = s.rd (QUILL_JOB_LINE_PC q j) ∧ u.slotState q t = slotRunning ∧
      u = { s with regs := u.regs, quill := u.quill, freeCount := u.freeCount }) ∧
  (∀ (s : State) (q : Fin 12) (t : Fin 17) (j : Nat), s.slotState q t = slotStopped → s.jobOfSlot q t = some j →
    ∃ u, exec (.nibRestart q t) s = .next u ∧ (u.nib q t).run = some (.init true) ∧
      (u.nib q t).pc = s.rd (QUILL_JOB_INIT_PC q j) ∧ u.slotState q t = slotRunning ∧
      s.keeps u [QUILL_SLOT_STATUS_STATE q t] ∧
      u = { s with regs := u.regs, quill := u.quill, freeCount := u.freeCount }) ∧
  (∀ (s : State) (q : Fin 12) (t : Fin 17) (readable : Bool), s.rd TOP_WEAR_NIB_CE = 0 →
    ∃ u, exec (.nibSram q t 0 1 readable) s = .next u ∧ u.rd (QUILL_SLOT_STATUS_SRAM_CORR q t) = 1 ∧
      u.rd (QUILL_STATUS_SRAM_CORR q) = 1 ∧
      s.keeps u ([QUILL_SLOT_STATUS_SRAM_CORR q t, QUILL_STATUS_SRAM_CORR q, QUILL_SLOT_CORR_COUNT q t] ++
        faultFlds)) ∧
  (∀ (s : State) (q : Fin 12) (t : Fin 17) (readable : Bool), s.jobOfSlot q t = none → s.roleOf q t ≠ 16 →
    ∃ u, exec (.nibSram q t 1 1 readable) s = .next u ∧ u.rd (QUILL_SLOT_STATUS_SRAM_UNCORR q t) = 1 ∧
      u.slotState q t = slotFailed ∧ u = { s with regs := u.regs, top := u.top }) ∧
  (∀ (s : State) (q : Fin 12) (h : Handover), (s.quillAt q).hand = some h → h.planned = false →
    h.copied = false → (s.nib q h.to_).run = none → (s.nib q h.to_).resume = false →
    (s.nib q h.to_).behalf = false → h.to_ < 17 → (s.jobOfNib q h.logical).isSome = true →
    ∃ u, exec (.nibSpared q) s = .next u ∧ (u.quillAt q).hand = none ∧ u.slotState q h.to_ = slotIdle) ∧
  (∀ (s : State) (q : Fin 12) (t : Fin 17) (j sp : Nat), s.jobOfSlot q t = some j → s.readySpare q = some sp →
    (s.quillAt q).hand = none → s.slotState q t ≠ slotFailed → (s.job q j).l0.isSome = true →
    ∃ u, exec (.spareNow q t) s = .next u ∧ (u.nib q sp).run = some (.init true) ∧
      (u.quillAt q).hand = some ⟨t, sp, s.roleOf q t, true, s.now, true⟩ ∧ u.slotState q sp = slotRunning) ∧
  (∀ (s : State) (q : Fin 12) (h : Handover) (j : Nat) (l : Int), (s.quillAt q).hand = some h →
    h.planned = true → h.from_ ≠ h.to_ → h.to_ < 17 → h.from_ < 17 → h.logical < 17 →
    s.jobOfSlot q h.from_ = some j → (s.nib q h.from_).next = some l → (s.nib q h.from_).run = none →
    (s.nib q h.to_).run = none →
    (∀ w ∈ s.winsOn q j, winIndex (s.winSrc q j w) ((s.nib q h.to_).next.getD 0) + s.winRows q j w ≤
        spGet (fun _ => 0) (s.nib q h.to_).fill w ∧
      winIndex (s.winSrc q j w) ((s.nib q h.to_).next.getD 0) ≤ winIndex (s.winSrc q j w) l - s.winHist q j w) →
    ∃ u, exec (.plannedNibTakeover q) s = .next u ∧ u.roleOf q h.to_ = h.logical ∧ u.roleOf q h.from_ = 31 ∧
      (u.nib q h.to_).next = some l ∧ (u.nib q h.from_).next = none ∧ (u.quillAt q).hand = none ∧
      u.slotState q h.to_ = slotIdle) ∧
  (∀ (s : State) (q : Fin 12), s.on (QUILL_LOAD_BUSY q) = false →
    (∀ j ∈ List.range 4, s.jobOn q j = false) →
    ∃ t, exec (.kernelLoadGo q) s = .next t ∧ t.rd (QUILL_LOAD_BUSY q) = 1 ∧ t = { s with regs := t.regs }) ∧
  (∀ (s : State) (q : Fin 12) (j : Nat), j < 4 → s.jobOn q j = true →
    andNat 16 (s.rd (QUILL_LOAD_MASK q)) (s.rd (QUILL_JOB_NIBS q j)) ≠ 0 →
    exec (.kernelLoadGo q) s = .next (s.reject (QUILL_STATUS_CFG_REJECT q) (srcQuill q) (QUILL_LOAD q).off
      (s.rd (QUILL_LOAD_MASK q) + 2 ^ 16))) ∧
  (∀ (s : State) (q : Fin 12) (id : Nat) (ws : List Nat), s.on (QUILL_LOAD_BUSY q) = true →
    (s.kernelImage (s.rd (QUILL_LOAD_SRC q))).1.toOption = some (id, ws) →
    ∃ t, exec (.kernelLoadDone q) s = .next t ∧ t.rd (QUILL_LOAD_BUSY q) = 0 ∧
      t.rd (QUILL_LOAD_INFO q) = id % 2 ^ 32 ∧
      (∀ l ∈ List.range 16, bitAt (s.rd (QUILL_LOAD_MASK q)) l = true → ∀ k ∈ List.range 17,
        s.slotFor q l = some k →
        t.rd (QUILL_SLOT_STATUS_IMAGE_VALID q k) = 1 ∧ (t.nib q k).words = ws.length)) ∧
  (∀ (s : State) (q : Fin 12), s.on (QUILL_LOAD_BUSY q) = true →
    s.dramFits (s.rd (QUILL_LOAD_SRC q)) 64 = false →
    ∃ t, exec (.kernelLoadDone q) s = .next t ∧ t.rd (QUILL_LOAD_BUSY q) = 0 ∧
      t.rd (QUILL_STATUS_LOAD_ERR q) = 1 ∧
      (∀ l ∈ List.range 16, bitAt (s.rd (QUILL_LOAD_MASK q)) l = true → ∀ k ∈ List.range 17,
        s.slotFor q l = some k → t.rd (QUILL_SLOT_STATUS_IMAGE_VALID q k) = 0) ∧
      t = { s with regs := t.regs, top := t.top })

/-! ### Command queues and DMA programs (chapter 10) -/

/-- R308 to R311, R321, R327: queues start at HEAD, stop at once, take words up to TAIL, fetch them in order, and
stop in ERROR with a fault. Where a rule leaves it open this rests on the model's own choice or reading: log
2, 88, 89, 90. -/
def Obligations.QueuesStartStopFetchAndFail : Prop :=
  (∀ (s : State) (q : Fin 8), 1 < s.mode → s.qAtRest q = true →
    ∃ t, exec (.queueStart q) s = .next t ∧
      t.rd (SCRIBE_Q_PC q) = (s.rd (SCRIBE_Q_BASE q) + s.rd (SCRIBE_Q_HEAD q)) % 2 ^ 44 ∧
      t.rd (SCRIBE_Q_STATUS_C q) = 0 ∧ (t.scq q).loops = [] ∧ (t.scq q).calls = [] ∧ (t.scq q).words = [] ∧
      t.qState q = (if (s.scq q).blocks = [] ∧ t.ringEmpty q = true then qIdle else qRunning) ∧
      s.keeps t (SCRIBE_Q_STATUS_C q :: queueFlds q) ∧ t = { s with regs := t.regs, scribe := t.scribe }) ∧
  (∀ (s : State) (q : Fin 8), s.mode ≤ 1 → exec (.queueStart q) s = .next s) ∧
  (∀ (s : State) (q : Fin 8), 1 < s.mode → s.qAtRest q = false →
    exec (.queueStart q) s = .next (s.reject SCRIBE_STATUS_CFG_REJECT srcScribe (SCRIBE_Q_CTRL q).off 1)) ∧
  (∀ (s : State) (q : Fin 8), s.qAtRest q = false →
    ∃ t, exec (.queueStop q) s = .next t ∧ t.qState q = qStopped ∧ (t.scq q).wait = none ∧
      (t.scq q).words = [] ∧ t.rd (SCRIBE_Q_PC q) = s.rd (SCRIBE_Q_PC q) ∧
      s.keeps t (SCRIBE_Q_WAIT_LEFT q :: queueFlds q) ∧
      t = { s with regs := t.regs, scribe := t.scribe, tl := t.tl }) ∧
  (∀ (s : State) (q : Fin 8), s.qAtRest q = true → exec (.queueStop q) s = .next s) ∧
  (∀ (s : State) (q : Fin 8) (v : BitVec 32), v.toNat < 2 ^ 24 → v.toNat % 8 = 0 →
    v.toNat < s.rd (SCRIBE_Q_SIZE q) →
    ∃ t, exec (.queueTailWrite q v) s = .next t ∧ t.rd (SCRIBE_Q_TAIL q) = v.toNat ∧
      s.keeps t (SCRIBE_Q_TAIL q :: queueFlds q) ∧ t = { s with regs := t.regs }) ∧
  (∀ (s : State) (q : Fin 8) (v : BitVec 32), v.toNat < 2 ^ 24 →
    v.toNat % 8 ≠ 0 ∨ s.rd (SCRIBE_Q_SIZE q) ≤ v.toNat →
    exec (.queueTailWrite q v) s =
      .next (s.reject SCRIBE_STATUS_CFG_REJECT srcScribe (SCRIBE_Q_TAIL q).off v.toNat)) ∧
  (∀ (s u : State) (q : Fin 8) (host : List (BitVec 64)) (ws : List Nat), s.qAtRest q = false →
    (State.fetchWords (s.fetchRoom q) s q (s.scq q).words (host.map (·.toNat))).1 = none →
    ws = (State.fetchWords (s.fetchRoom q) s q (s.scq q).words (host.map (·.toNat))).2.1 →
    u = (State.fetchWords (s.fetchRoom q) s q (s.scq q).words (host.map (·.toNat))).2.2 → (s.scq q).skip = 0 →
    ∃ t, exec (.cmdFetch q host) s = .next t ∧ (t.scq q).words = ws ∧
      t.rd (SCRIBE_Q_PC q) = u.rd (SCRIBE_Q_PC q) ∧ u.keeps t (queueFlds q) ∧
      t = { u with regs := t.regs, scribe := t.scribe }) ∧
  (∀ (s u : State) (q : Fin 8) (host : List (BitVec 64)) (x a : Nat), s.qAtRest q = false →
    (State.fetchWords (s.fetchRoom q) s q (s.scq q).words (host.map (·.toNat))).1 = some (.failed x, a) →
    short (State.fetchWords (s.fetchRoom q) s q (s.scq q).words (host.map (·.toNat))).2.1 = true →
    u = (State.fetchWords (s.fetchRoom q) s q (s.scq q).words (host.map (·.toNat))).2.2 →
    ∃ t, exec (.cmdFetch q host) s = .next t ∧ u.queueErr t q 0x8006 ∧
      t = { u with regs := t.regs, scribe := t.scribe, tl := t.tl, top := t.top }) ∧
  (∀ (s : State) (q : Fin 8) (w : Nat) (ws : List Nat), s.pick = some q.val → (s.scq q).blocks = [] →
    s.nextCmd q = some (w :: ws) → legalCmd (w :: ws) = false →
    ∃ t, exec (.cmdIllegal q) s = .next t ∧ s.queueErr t q 0x8001 ∧
      t.rd (SCRIBE_Q_PC q) = s.rd (SCRIBE_Q_PC q) ∧
      t.top = (s.fault srcScribe 0x8001 (slot1 q ++ slot2 (s.rd (SCRIBE_Q_PC q)) ++ slot1 w)).top) ∧
  (∀ (s : State) (q : Fin 8) (k : ScWait) (d : Nat), (s.scq q).wait = some k → (s.scq q).deadline = some d →
    d ≤ s.now → (s.scq q).cont = true →
    ∃ t, exec (.cmdWaitTimeout q) s = .next t ∧ t.rd (SCRIBE_Q_STATUS_C q) = 1 ∧
      t.rd (SCRIBE_Q_STATUS_TIMEOUT q) = 1 ∧ (t.scq q).wait = none ∧
      t.top = (s.fault srcScribe 0xC030 (slot1 q ++ slot2 (s.rd (SCRIBE_Q_PC q)) ++ slot1 k.kind)).top) ∧
  (∀ (s : State) (q : Fin 8) (k : ScWait) (d : Nat), (s.scq q).wait = some k → (s.scq q).deadline = some d →
    d ≤ s.now → (s.scq q).cont = false →
    ∃ t, exec (.cmdWaitTimeout q) s = .next t ∧ s.queueErr t q 0xC030 ∧ t.rd (SCRIBE_Q_STATUS_TIMEOUT q) = 1 ∧
      t.top = (s.fault srcScribe 0xC030 (slot1 q ++ slot2 (s.rd (SCRIBE_Q_PC q)) ++ slot1 k.kind)).top)

/-- R311 to R316, R322, R324: commands without a wait are issued in order, their accesses due 6 ticks later. Where
a rule leaves it open this rests on the model's own choice or reading: log 87, 92, 93. -/
def Obligations.QueueCommandsIssueAccesses : Prop :=
  (∀ (s : State) (q : Fin 8), s.cmdAt q 0 [] →
    ∃ t, exec (.cmdNop q) s = .next t ∧ s.passed t q 0 ∧ t.scribe.posted = s.scribe.posted ∧
      s.keeps t (queueFlds q) ∧ t = { s with regs := t.regs, scribe := t.scribe }) ∧
  (∀ (s : State) (q : Fin 8) (host : Option (BitVec 32)) (w d a : Nat), s.cmdAt q w [d] → cmdOp w = 0x01 →
    bitAt (cmdFlags w) 0 = false → a = bitsAt w 0 44 → (s.accCheck reqScribe a true).1 = none →
    ∃ t, exec (.cmdWrite q host) s = .next t ∧ s.passed t q w ∧
      t.scribe.posted = s.scribe.posted ++ [⟨s.now + 6, q, reqScribe, s.rd (SCRIBE_Q_PC q),
        .write a (d % 2 ^ 32) none (host.map (·.toNat))⟩] ∧
      s.keeps t (queueFlds q) ∧ t = { s with regs := t.regs, scribe := t.scribe }) ∧
  (∀ (s : State) (q : Fin 8) (host : Option (BitVec 32)) (w d a : Nat), s.cmdAt q w [d] → cmdOp w = 0x01 →
    bitAt (cmdFlags w) 0 = true → a = bitsAt w 0 44 → (s.accCheck reqScribe a false).1 = none →
    (s.accCheck reqScribe a true).1 = none →
    ∃ t, exec (.cmdWrite q host) s = .next t ∧ s.passed t q w ∧
      t.scribe.posted = s.scribe.posted ++ [⟨s.now + 6, q, reqScribe, s.rd (SCRIBE_Q_PC q),
        .write a (d % 2 ^ 32) (some (d / 2 ^ 32)) (host.map (·.toNat))⟩] ∧
      s.keeps t (queueFlds q) ∧ t = { s with regs := t.regs, scribe := t.scribe }) ∧
  (∀ (s : State) (q : Fin 8) (host : Option (BitVec 32)) (w d : Nat), s.cmdAt q w [d] → cmdOp w = 0x01 →
    bitAt (cmdFlags w) 0 = false → (s.accCheck reqScribe (bitsAt w 0 44) true).1 = some 0x8002 →
    ∃ t, exec (.cmdWrite q host) s = .next t ∧ s.queueErr t q 0x8002 ∧ t.scribe.posted = s.scribe.posted) ∧
  (∀ (s : State) (q : Fin 8) (w n : Nat) (ws : List Nat), s.cmdAt q w ws → cmdOp w = 0x02 → n = cmdFlags w →
    (∀ i ∈ List.range n, (s.accCheck reqScribe (bitsAt w 0 44 + 4 * i) true).1 = none) →
    ∃ t, exec (.cmdWritem q) s = .next t ∧ s.passed t q w ∧ (t.scq q).readyAt = s.now + max n 1 ∧
      t.scribe.posted = s.scribe.posted ++ (List.range n).map (fun i => ⟨s.now + i + 6, q, reqScribe,
        s.rd (SCRIBE_Q_PC q), .write (bitsAt w 0 44 + 4 * i) (nth 0 (manyValues n ws) i) none none⟩) ∧
      s.keeps t (queueFlds q) ∧ t = { s with regs := t.regs, scribe := t.scribe }) ∧
  (∀ (s : State) (q : Fin 8) (host : Option (BitVec 32)) (w d a : Nat), s.cmdAt q w [d] → cmdOp w = 0x03 →
    a = bitsAt w 0 44 → (s.accCheck reqScribe a false).1 = none →
    (s.accCheck reqScribe (bitsAt d 0 44) true).1 = none →
    ∃ t, exec (.cmdRead q host) s = .next t ∧ s.waits t q .access ∧
      t.scribe.posted = s.scribe.posted ++ [⟨s.now + 6, q, reqScribe, s.rd (SCRIBE_Q_PC q),
        .read a (bitsAt d 0 44) (host.map (·.toNat))⟩] ∧
      s.keeps t (queueFlds q) ∧ t = { s with regs := t.regs, scribe := t.scribe }) ∧
  (∀ (s : State) (q : Fin 8) (w : Nat), s.cmdAt q w [] → cmdOp w = 0x07 → s.qQuiet q = true →
    ∃ t u, exec (.cmdSignal q) s = .next t ∧ s.passed t q w ∧
      u = s.signal 249 (s.scq q).hop (bitAt (cmdFlags w) 0) (bitAt (cmdFlags w) 1) (bitsAt w 0 6) (bitsAt w 16 8) ∧
      t.ev = u.ev ∧ t.out = u.out ∧ u.keeps t (queueFlds q) ∧ t = { u with regs := t.regs, scribe := t.scribe }) ∧
  (∀ (s : State) (q : Fin 8) (w : Nat), s.cmdAt q w [] → cmdOp w = 0x07 → s.qQuiet q = false →
    ∃ t, exec (.cmdSignal q) s = .next t ∧
      s.waits t q (.signal (bitAt (cmdFlags w) 0) (bitAt (cmdFlags w) 1) (bitsAt w 0 6) (bitsAt w 16 8)) ∧
      s.keeps t (queueFlds q) ∧ t = { s with regs := t.regs, scribe := t.scribe }) ∧
  (∀ (s : State) (q : Fin 8) (w : Nat), s.cmdAt q w [] → cmdOp w = 0x09 →
    ∃ t, exec (.cmdCommit q) s = .next t ∧ s.passed t q w ∧
      t.scribe.posted = s.scribe.posted ++ [⟨s.now + 6, q, reqScribe, s.rd (SCRIBE_Q_PC q),
        .commit (bitsAt w 0 27) (bitAt (cmdFlags w) 0)⟩] ∧
      s.keeps t (queueFlds q) ∧ t = { s with regs := t.regs, scribe := t.scribe }) ∧
  (∀ (s : State) (q : Fin 8) (w : Nat), s.cmdAt q w [] → cmdOp w = 0x10 → s.qQuiet q = true →
    ∃ t, exec (.cmdFence q) s = .next t ∧ s.passed t q w ∧ s.keeps t (queueFlds q) ∧
      t = { s with regs := t.regs, scribe := t.scribe }) ∧
  (∀ (s : State) (q : Fin 8) (w : Nat), s.cmdAt q w [] → cmdOp w = 0x10 → s.qQuiet q = false →
    ∃ t, exec (.cmdFence q) s = .next t ∧ s.waits t q .access ∧ s.keeps t (queueFlds q) ∧
      t = { s with regs := t.regs, scribe := t.scribe }) ∧
  (∀ (s : State) (q : Fin 8) (w : Nat), s.cmdAt q w [] → cmdOp w = 0x11 → bitAt (cmdFlags w) 0 = true →
    ∃ t, exec (.cmdResync q) s = .next t ∧ s.waits t q (.resync s.now) ∧
      s.keeps t (TOP_SUMMARY_AT :: TOP_STATUS_SUM_BUSY :: TOP_STATUS_SUM_PENDING :: queueFlds q) ∧
      t = { s with regs := t.regs, scribe := t.scribe, top := t.top }) ∧
  (∀ (s : State) (q : Fin 8) (w : Nat), s.cmdAt q w [] → cmdOp w = 0x11 → bitAt (cmdFlags w) 0 = false →
    ∃ t, exec (.cmdResync q) s = .next t ∧ s.passed t q w ∧
      s.keeps t (TOP_SUMMARY_AT :: TOP_STATUS_SUM_BUSY :: TOP_STATUS_SUM_PENDING :: queueFlds q) ∧
      t = { s with regs := t.regs, scribe := t.scribe, top := t.top }) ∧
  (∀ (s : State) (q : Fin 8) (w : Nat), s.cmdAt q w [] → cmdOp w = 0x12 →
    ∃ t, exec (.cmdHalt q) s = .next t ∧ t.qState q = qHalted ∧ (t.scq q).words = [] ∧
      t.rd (SCRIBE_Q_PC q) = s.wordAfter q (s.rd (SCRIBE_Q_PC q)) 1 % 2 ^ 44 ∧ s.served t q ∧
      s.keeps t (SCRIBE_Q_WAIT_LEFT q :: queueFlds q) ∧
      t = { s with regs := t.regs, scribe := t.scribe, tl := t.tl })

/-- R325, R326: LOOP and ENDLOOP repeat the words between them; JUMP, CALL and RET set PC; C decides. Where a rule
leaves it open this rests on the model's own choice or reading: log 96. -/
def Obligations.QueueLoopsAndJumpsSetThePc : Prop :=
  (∀ (s : State) (q : Fin 8) (w : Nat), s.cmdAt q w [] → cmdOp w = 0x0B → (s.scq q).loops.length < 4 →
    bitAt (cmdFlags w) 0 = true ∨ bitsAt w 0 32 ≠ 0 →
    ∃ t, exec (.cmdLoop q) s = .next t ∧ s.passed t q w ∧
      (t.scq q).loops = ⟨s.rd (SCRIBE_Q_PC q), s.wordAfter q (s.rd (SCRIBE_Q_PC q)) 1,
        s.inRing q (s.rd (SCRIBE_Q_PC q)), if bitAt (cmdFlags w) 0 then none else some (bitsAt w 0 32)⟩ ::
          (s.scq q).loops ∧
      s.keeps t (queueFlds q) ∧ t = { s with regs := t.regs, scribe := t.scribe }) ∧
  (∀ (s : State) (q : Fin 8) (w : Nat), s.cmdAt q w [] → cmdOp w = 0x0B → bitAt (cmdFlags w) 0 = false →
    bitsAt w 0 32 = 0 → (s.scq q).words = [w] →
    ∃ t, exec (.cmdLoop q) s = .next t ∧ s.passed t q w ∧ (t.scq q).skip = 1 ∧
      (t.scq q).loops = (s.scq q).loops ∧
      s.keeps t (queueFlds q) ∧ t = { s with regs := t.regs, scribe := t.scribe }) ∧
  (∀ (s : State) (q : Fin 8) (w : Nat), s.cmdAt q w [] → cmdOp w = 0x0B → 4 ≤ (s.scq q).loops.length →
    bitAt (cmdFlags w) 0 = true ∨ bitsAt w 0 32 ≠ 0 →
    ∃ t, exec (.cmdLoop q) s = .next t ∧ s.queueErr t q 0x8005 ∧ t.rd (SCRIBE_Q_PC q) = s.rd (SCRIBE_Q_PC q)) ∧
  (∀ (s : State) (q : Fin 8) (w : Nat) (l : ScLoop) (ls : List ScLoop), s.cmdAt q w [] → cmdOp w = 0x0C →
    (s.scq q).loops = l :: ls → l.left = none →
    ∃ t, exec (.cmdEndloop q) s = .next t ∧ s.wentTo t q l.body ∧ (t.scq q).loops = l :: ls ∧
      s.keeps t (queueFlds q) ∧ t = { s with regs := t.regs, scribe := t.scribe }) ∧
  (∀ (s : State) (q : Fin 8) (w n : Nat) (l : ScLoop) (ls : List ScLoop), s.cmdAt q w [] → cmdOp w = 0x0C →
    (s.scq q).loops = l :: ls → l.left = some n → 1 < n →
    ∃ t, exec (.cmdEndloop q) s = .next t ∧ s.wentTo t q l.body ∧
      (t.scq q).loops = { l with left := some (n - 1) } :: ls ∧
      s.keeps t (queueFlds q) ∧ t = { s with regs := t.regs, scribe := t.scribe }) ∧
  (∀ (s : State) (q : Fin 8) (w n : Nat) (l : ScLoop) (ls : List ScLoop), s.cmdAt q w [] → cmdOp w = 0x0C →
    (s.scq q).loops = l :: ls → l.left = some n → n ≤ 1 →
    ∃ t, exec (.cmdEndloop q) s = .next t ∧ s.passed t q w ∧ (t.scq q).loops = ls ∧
      s.keeps t (queueFlds q) ∧ t = { s with regs := t.regs, scribe := t.scribe }) ∧
  (∀ (s : State) (q : Fin 8) (w : Nat), s.cmdAt q w [] → cmdOp w = 0x0C → (s.scq q).loops = [] →
    ∃ t, exec (.cmdEndloop q) s = .next t ∧ s.queueErr t q 0x8005) ∧
  (∀ (s : State) (q : Fin 8) (w : Nat), s.cmdAt q w [] → cmdOp w = 0x0D → s.taken q w = false →
    ∃ t, exec (.cmdJump q) s = .next t ∧ s.passed t q w ∧ s.keeps t (queueFlds q) ∧
      t = { s with regs := t.regs, scribe := t.scribe }) ∧
  (∀ (s : State) (q : Fin 8) (w a : Nat), s.cmdAt q w [] → cmdOp w = 0x0D → s.taken q w = true →
    a = jumpTarget (s.rd (SCRIBE_Q_PC q)) w → s.badTarget q a = false →
    ∃ t, exec (.cmdJump q) s = .next t ∧ s.wentTo t q a ∧ (t.scq q).calls = (s.scq q).calls ∧
      (t.scq q).loops = (if s.inRing q (s.rd (SCRIBE_Q_PC q)) then (s.scq q).loops.filter (fun l => !l.ring)
        else (s.scq q).loops) ∧
      s.keeps t (queueFlds q) ∧ t = { s with regs := t.regs, scribe := t.scribe }) ∧
  (∀ (s : State) (q : Fin 8) (w a : Nat), s.cmdAt q w [] → cmdOp w = 0x0D → s.taken q w = true →
    a = jumpTarget (s.rd (SCRIBE_Q_PC q)) w → s.badTarget q a = true →
    ∃ t, exec (.cmdJump q) s = .next t ∧ s.queueErr t q 0x8002) ∧
  (∀ (s : State) (q : Fin 8) (w : Nat), s.cmdAt q w [] → cmdOp w = 0x0E → s.taken q w = false →
    ∃ t, exec (.cmdCall q) s = .next t ∧ s.passed t q w ∧ s.keeps t (queueFlds q) ∧
      t = { s with regs := t.regs, scribe := t.scribe }) ∧
  (∀ (s : State) (q : Fin 8) (w a : Nat), s.cmdAt q w [] → cmdOp w = 0x0E → s.taken q w = true →
    a = jumpTarget (s.rd (SCRIBE_Q_PC q)) w → s.badTarget q a = false → (s.scq q).calls.length < 8 →
    ∃ t, exec (.cmdCall q) s = .next t ∧ s.wentTo t q a ∧
      (t.scq q).calls = s.wordAfter q (s.rd (SCRIBE_Q_PC q)) 1 :: (s.scq q).calls ∧
      s.keeps t (queueFlds q) ∧ t = { s with regs := t.regs, scribe := t.scribe }) ∧
  (∀ (s : State) (q : Fin 8) (w a : Nat), s.cmdAt q w [] → cmdOp w = 0x0E → s.taken q w = true →
    a = jumpTarget (s.rd (SCRIBE_Q_PC q)) w → s.badTarget q a = false → 8 ≤ (s.scq q).calls.length →
    ∃ t, exec (.cmdCall q) s = .next t ∧ s.queueErr t q 0x8004) ∧
  (∀ (s : State) (q : Fin 8) (w a : Nat) (cs : List Nat), s.cmdAt q w [] → cmdOp w = 0x0F →
    (s.scq q).calls = a :: cs →
    ∃ t, exec (.cmdRet q) s = .next t ∧ s.wentTo t q a ∧ (t.scq q).calls = cs ∧
      (t.scq q).loops = (s.scq q).loops ∧
      s.keeps t (queueFlds q) ∧ t = { s with regs := t.regs, scribe := t.scribe }) ∧
  (∀ (s : State) (q : Fin 8) (w : Nat), s.cmdAt q w [] → cmdOp w = 0x0F → (s.scq q).calls = [] →
    ∃ t, exec (.cmdRet q) s = .next t ∧ s.queueErr t q 0x8004)

/-- R317 to R320: a queue waits for a position, a PTP time or events, and C tells how the wait ended. Where a rule
leaves it open this rests on the model's own choice or reading: log 2, 89, 91. -/
def Obligations.QueueWaitsEndAsTheyShould : Prop :=
  (∀ (s : State) (q : Fin 8) (w d : Nat) (p : Int), s.cmdAt q w [d] → cmdOp w = 0x04 →
    p = signed 64 d + (if bitAt (cmdFlags w) 1 then s.pos16 else 0) → s.tl.pos < slotOf p * (2 : Int) ^ 32 →
    s.tl.pos < p * (2 : Int) ^ 24 → s.schedUsed < 2048 →
    ∃ t, exec (.cmdWaitpos q) s = .next t ∧ s.waits t q .pos ∧
      (t.scq q).deadline = (if bitsAt w 0 32 = 0 then none else some (s.now + bitsAt w 0 32 * 400)) ∧
      (t.scq q).cont = bitAt (cmdFlags w) 2 ∧
      t.tl = { s.tl with sched := s.tl.sched ++ [⟨slotOf p, .waitpos q, none, false⟩] } ∧
      s.keeps t (TIMELINE_SCHED_STATUS_PEAK :: queueFlds q) ∧
      t = { s with regs := t.regs, scribe := t.scribe, tl := t.tl }) ∧
  (∀ (s : State) (q : Fin 8) (w d : Nat) (p : Int), s.cmdAt q w [d] → cmdOp w = 0x04 →
    p = signed 64 d + (if bitAt (cmdFlags w) 1 then s.pos16 else 0) → bitAt (cmdFlags w) 0 = true →
    p * (2 : Int) ^ 24 ≤ s.tl.pos →
    ∃ t, exec (.cmdWaitpos q) s = .next t ∧ s.passed t q w ∧ t.rd (SCRIBE_Q_STATUS_C q) = 1 ∧
      t.rd (SCRIBE_Q_STATUS_LATE q) = 1 ∧
      s.keeps t (SCRIBE_Q_STATUS_C q :: SCRIBE_Q_STATUS_LATE q :: queueFlds q) ∧
      t = { s with regs := t.regs, scribe := t.scribe }) ∧
  (∀ (s : State) (q : Fin 8) (w d : Nat), s.cmdAt q w [d] → cmdOp w = 0x04 → bitAt (cmdFlags w) 0 = false →
    2048 ≤ s.schedUsed →
    ∃ t, exec (.cmdWaitpos q) s = .next t ∧ s.queueErr t q 0x8007 ∧ t.rd TIMELINE_STATUS_SCHED_FULL = 1) ∧
  (∀ (s : State) (q : Fin 8) (e : SchedEntry), firstDue s.now s.tl.sched = some e → e.act = .waitpos q →
    (s.scq q).inBlock = false →
    ∃ t, exec .waitposWake s = .next t ∧ (t.scq q).wait = none ∧ t.rd (SCRIBE_Q_STATUS_C q) = b2n e.late ∧
      (t.scq q).readyAt = s.now + 1 ∧
      s.keeps t (SCRIBE_Q_STATUS_C q :: SCRIBE_Q_STATUS_LATE q :: SCRIBE_Q_WAIT_LEFT q :: queueFlds q) ∧
      t = { s with regs := t.regs, scribe := t.scribe, tl := t.tl }) ∧
  (∀ (s : State) (q : Fin 8) (w d k : Nat), s.cmdAt q w [d] → cmdOp w = 0x05 →
    k = (d % 2 ^ 48 + (if bitAt (cmdFlags w) 1 then s.ptp48 else 0)) % 2 ^ 48 → aheadOf k s.ptp48 = true →
    ∃ t, exec (.cmdWaittime q) s = .next t ∧ s.waits t q (.time k) ∧
      (t.scq q).deadline = (if bitsAt w 0 32 = 0 then none else some (s.now + bitsAt w 0 32 * 400)) ∧
      (t.scq q).cont = bitAt (cmdFlags w) 2 ∧
      s.keeps t (queueFlds q) ∧ t = { s with regs := t.regs, scribe := t.scribe }) ∧
  (∀ (s : State) (q : Fin 8) (w d k : Nat), s.cmdAt q w [d] → cmdOp w = 0x05 →
    k = (d % 2 ^ 48 + (if bitAt (cmdFlags w) 1 then s.ptp48 else 0)) % 2 ^ 48 → aheadOf k s.ptp48 = false →
    ∃ t, exec (.cmdWaittime q) s = .next t ∧ s.passed t q w ∧ t.rd (SCRIBE_Q_STATUS_C q) = 1 ∧
      t.rd (SCRIBE_Q_STATUS_LATE q) = 1 ∧
      t.top = (if bitAt (cmdFlags w) 0 then s else s.fault srcScribe 0x800A (slot1 q ++
        slot2 (s.rd (SCRIBE_Q_PC q)) ++ slot1 (k / 2 ^ 32) ++ slot1 k)).top ∧
      t = { s with regs := t.regs, scribe := t.scribe, top := t.top }) ∧
  (∀ (s : State) (q : Fin 8) (k : Nat), (s.scq q).wait = some (.time k) → aheadOf k s.ptp48 = false →
    (s.scq q).inBlock = false →
    ∃ t, exec (.waittimeReached q) s = .next t ∧ (t.scq q).wait = none ∧ t.rd (SCRIBE_Q_STATUS_C q) = 0 ∧
      (t.scq q).readyAt = s.now + 1 ∧
      s.keeps t (SCRIBE_Q_STATUS_C q :: SCRIBE_Q_WAIT_LEFT q :: queueFlds q) ∧
      t = { s with regs := t.regs, scribe := t.scribe, tl := t.tl }) ∧
  (∀ (s : State) (q : Fin 8) (k : Nat), (s.scq q).wait = some (.time k) → aheadOf k s.ptp48 = true →
    exec (.waittimeReached q) s = .next s) ∧
  (∀ (s : State) (q : Fin 8) (w : Nat), s.cmdAt q w [] → cmdOp w = 0x06 → bitsAt w 32 8 ≠ 0 →
    bitAt (cmdFlags w) 0 = true ∨ s.on (SCRIBE_Q_STATUS_EV_LATCH q) = false →
    ∃ t, exec (.cmdWaitev q) s = .next t ∧ s.waits t q .ev ∧ t.rd (SCRIBE_Q_WAIT_LEFT q) = bitsAt w 32 8 ∧
      t.rd (SCRIBE_Q_STATUS_EV_LATCH q) = 0 ∧
      (t.scq q).deadline = (if bitsAt w 0 32 = 0 then none else some (s.now + bitsAt w 0 32 * 400)) ∧
      s.keeps t (SCRIBE_Q_STATUS_EV_LATCH q :: SCRIBE_Q_WAIT_LEFT q :: queueFlds q) ∧
      t = { s with regs := t.regs, scribe := t.scribe }) ∧
  (∀ (s : State) (q : Fin 8) (w : Nat), s.cmdAt q w [] → cmdOp w = 0x06 → bitsAt w 32 8 = 1 →
    bitAt (cmdFlags w) 0 = false → s.on (SCRIBE_Q_STATUS_EV_LATCH q) = true →
    ∃ t, exec (.cmdWaitev q) s = .next t ∧ s.passed t q w ∧ t.rd (SCRIBE_Q_STATUS_C q) = 0 ∧
      t.rd (SCRIBE_Q_STATUS_EV_LATCH q) = 0 ∧ (t.scq q).hop = some (s.scq q).latchHop) ∧
  (∀ (s : State) (q : Fin 8) (w : Nat), s.cmdAt q w [] → cmdOp w = 0x06 → bitsAt w 32 8 = 0 →
    ∃ t, exec (.cmdWaitev q) s = .next t ∧ s.passed t q w ∧ t.rd (SCRIBE_Q_STATUS_C q) = 0)

/-- R329 to R338: a channel starts and stops as written, copies with MOVE, loops with strides, waits and signals,
and stops in DONE at END and in ERROR at an error. Where a rule leaves it open this rests on the model's own
choice or reading: log 2, 99, 100, 102. -/
def Obligations.DmaProgramsCopyLoopAndWait : Prop :=
  (∀ (s : State) (c : Fin 32), 1 < s.mode → s.dAtRest c = true → s.on (DMA_CH_CTRL_MODE c) = false →
    s.bufUsed + s.rd (DMA_CH_CTRL_BUF c) ≤ 60 →
    ∃ t, exec (.dmaStart c) s = .next t ∧ t.dState c = dRunning ∧ (t.dch c).loops = [] ∧ (t.dch c).moves = [] ∧
      t.rd (DMA_CH_PROG_PC c) = s.rd (DMA_CH_PROG_PC c) ∧
      s.keeps t (DMA_CH_STATUS_LOOPS c :: channelFlds c) ∧ t = { s with regs := t.regs, dma := t.dma }) ∧
  (∀ (s : State) (c : Fin 32), 1 < s.mode → 60 < s.bufUsed + s.rd (DMA_CH_CTRL_BUF c) →
    exec (.dmaStart c) s = .next (s.reject DMA_STATUS_CFG_REJECT srcDma (DMA_CH_CTRL c).off 1)) ∧
  (∀ (s : State) (c : Fin 32), s.mode ≤ 1 → exec (.dmaStart c) s = .next s) ∧
  (∀ (s : State) (c : Fin 32) (got : Nat), s.on (DMA_CH_CTRL_MODE c) = false → s.dAtRest c = false →
    (s.dch c).moves = [] →
    ∃ t, exec (.dmaStop c got) s = .next t ∧ t.dState c = dStopped ∧
      t.rd (DMA_CH_PROG_PC c) = s.rd (DMA_CH_PROG_PC c) ∧
      s.keeps t (DMA_CH_WAIT_LEFT c :: channelFlds c) ∧ t = { s with regs := t.regs, dma := t.dma }) ∧
  (∀ (s : State) (c : Fin 32) (got : Nat) (m : DmaMove), s.on (DMA_CH_CTRL_MODE c) = false →
    s.dAtRest c = false → (s.dch c).moves = [m] →
    ∃ t, exec (.dmaStop c got) s = .next t ∧
      (t.dch c).moves = [{ m with data := m.data.take got, err := none }] ∧
      (t.dch c).stopAt = some (if (m.data.take got).length < m.len then m.pc else s.rd (DMA_CH_PROG_PC c)) ∧
      t = { s with dma := t.dma }) ∧
  (∀ (s : State) (c : Fin 32) (host : Option (BitVec 128)) (data : List (BitVec 8)) (w src dst len : Nat),
    s.dmaAt c host w → dmaOp w = 1 → bitAt w 6 = false ∨ ((s.fetched c host).dch c).moves = [] →
    src = effAddr (bitsAt w 8 44) ((((s.fetched c host).dch c).loops.map (fun l => l.so)).foldl (· + ·) 0) →
    dst = effAddr (bitsAt w 52 44) ((((s.fetched c host).dch c).loops.map (fun l => l.dofs)).foldl (· + ·) 0) →
    len = bitsAt w 96 32 → misaligned (bitAt w 4) src len = false → misaligned (bitAt w 5) dst len = false →
    len ≠ 0 → devSpace src ≠ devSpace dst ∨ dst ≤ src ∨ src + len ≤ dst → (s.fetched c host).inSelfRefresh = false →
    ∃ t r, exec (.dmaMove c host data) s = .next t ∧
      r = State.moveRead (len / 4 + 2) (s.fetched c host) (bitAt w 4) src len (data.map (·.toNat)) [] ∧
      (t.dch c).moves = (r.2.2.dch c).moves ++
        [⟨r.2.2.rd (DMA_CH_PROG_PC c), dst, bitAt w 5, len, r.1, r.2.1⟩] ∧
      r.2.2.dmaNext t c ∧ r.2.2.keeps t [DMA_CH_PROG_PC c, DMA_RD_KIB] ∧
      t = { r.2.2 with regs := t.regs, dma := t.dma, scribe := t.scribe }) ∧
  (∀ (s : State) (c : Fin 32) (host : Option (BitVec 128)) (data : List (BitVec 8)) (w src len : Nat),
    s.dmaAt c host w → dmaOp w = 1 → bitAt w 6 = false →
    src = effAddr (bitsAt w 8 44) ((((s.fetched c host).dch c).loops.map (fun l => l.so)).foldl (· + ·) 0) →
    len = bitsAt w 96 32 → misaligned (bitAt w 4) src len = true →
    ∃ t, exec (.dmaMove c host data) s = .next t ∧
      ((t.dch c).moves.map (fun m => m.err)).getLast? = some (some (0x8042, src)) ∧
      (t.dch c).moves.length = ((s.fetched c host).dch c).moves.length + 1 ∧ (s.fetched c host).dmaNext t c) ∧
  (∀ (s : State) (c : Fin 32) (m : DmaMove) (rest : List DmaMove), (s.dch c).moves = m :: rest →
    devSpace m.dst ≠ 0 ∨ s.inSelfRefresh = false → m.err = none → (s.dch c).stopAt = none →
    (State.moveWrite (m.len / 4 + 2) s (s.rd (DMA_CH_HOST_BASE c)) m.fixed m.dst m.data 0).2.1 = none →
    ∃ t r, exec (.dmaMoveComplete c) s = .next t ∧
      r = State.moveWrite (m.len / 4 + 2) s (s.rd (DMA_CH_HOST_BASE c)) m.fixed m.dst m.data 0 ∧
      (t.dch c).moves = rest ∧ t.rd (DMA_CH_DONE_BYTES c) = r.1 % 2 ^ 32 ∧
      t.rd (DMA_CH_MOVES c) = (r.2.2.rd (DMA_CH_MOVES c) + b2n (m.data.length == m.len)) % 2 ^ 32 ∧
      r.2.2.keeps t [DMA_CH_DONE_BYTES c, DMA_CH_MOVES c, DMA_WR_KIB] ∧
      t = { r.2.2 with regs := t.regs, dma := t.dma, scribe := t.scribe }) ∧
  (∀ (s : State) (c : Fin 32) (m : DmaMove) (rest : List DmaMove) (e : Nat × Nat),
    (s.dch c).moves = m :: rest → m.data = [] → m.err = some e → e.1 < 2 ^ 16 →
    ∃ t, exec (.dmaMoveComplete c) s = .next t ∧ s.dmaErr t c e.1 e.2 ∧
      t.rd (DMA_CH_STATUS_OVERLAP c) = (if e.1 = 0x8044 then 1 else s.rd (DMA_CH_STATUS_OVERLAP c))) ∧
  (∀ (s : State) (c : Fin 32) (host : Option (BitVec 128)) (w : Nat), s.dmaAt c host w → dmaOp w = 2 →
    bitAt w 4 = true ∨ bitsAt w 32 32 ≠ 0 → ((s.fetched c host).dch c).loops.length < 4 →
    ∃ t u, exec (.dmaLoop c host) s = .next t ∧ u = s.fetched c host ∧
      (t.dch c).loops = ⟨(u.rd (DMA_CH_PROG_PC c) + 16) % 2 ^ 44,
        if bitAt w 4 then none else some (bitsAt w 32 32), 0, 0, signed 32 (bitsAt w 64 32),
        signed 32 (bitsAt w 96 32)⟩ :: (u.dch c).loops ∧
      t.rd (DMA_CH_STATUS_LOOPS c) = (u.dch c).loops.length + 1 ∧ u.dmaNext t c ∧
      u.keeps t [DMA_CH_STATUS_LOOPS c, DMA_CH_PROG_PC c] ∧ t = { u with regs := t.regs, dma := t.dma }) ∧
  (∀ (s : State) (c : Fin 32) (host : Option (BitVec 128)) (w : Nat), s.dmaAt c host w → dmaOp w = 2 →
    bitAt w 4 = false → bitsAt w 32 32 = 0 →
    ∃ t u, exec (.dmaLoop c host) s = .next t ∧ u = s.fetched c host ∧ (t.dch c).skip = 1 ∧ u.dmaNext t c ∧
      u.keeps t [DMA_CH_PROG_PC c] ∧ t = { u with regs := t.regs, dma := t.dma }) ∧
  (∀ (s : State) (c : Fin 32) (host : Option (BitVec 128)) (w : Nat) (l : DmaLoop) (ls : List DmaLoop),
    s.dmaAt c host w → dmaOp w = 3 → ((s.fetched c host).dch c).loops = l :: ls → ls.length < 4 →
    1 < l.left.getD 2 →
    ∃ t u, exec (.dmaEndloop c host) s = .next t ∧ u = s.fetched c host ∧
      (t.dch c).loops = { l with left := l.left.map (· - 1), so := l.so + l.ss, dofs := l.dofs + l.ds } :: ls ∧
      t.rd (DMA_CH_PROG_PC c) = l.body % 2 ^ 44 ∧
      u.keeps t [DMA_CH_STATUS_LOOPS c, DMA_CH_PROG_PC c] ∧ t = { u with regs := t.regs, dma := t.dma }) ∧
  (∀ (s : State) (c : Fin 32) (host : Option (BitVec 128)) (w n : Nat) (l : DmaLoop) (ls : List DmaLoop),
    s.dmaAt c host w → dmaOp w = 3 → ((s.fetched c host).dch c).loops = l :: ls → l.left = some n → n ≤ 1 →
    ∃ t u, exec (.dmaEndloop c host) s = .next t ∧ u = s.fetched c host ∧ (t.dch c).loops = ls ∧ u.dmaNext t c ∧
      u.keeps t [DMA_CH_STATUS_LOOPS c, DMA_CH_PROG_PC c] ∧ t = { u with regs := t.regs, dma := t.dma }) ∧
  (∀ (s : State) (c : Fin 32) (host : Option (BitVec 128)) (w : Nat), s.dmaAt c host w → dmaOp w = 3 →
    ((s.fetched c host).dch c).loops = [] → ((s.fetched c host).dch c).moves = [] →
    ∃ t, exec (.dmaEndloop c host) s = .next t ∧
      (s.fetched c host).dmaErr t c 0x8045 ((s.fetched c host).rd (DMA_CH_PROG_PC c))) ∧
  (∀ (s : State) (c : Fin 32) (host : Option (BitVec 128)) (w : Nat), s.dmaAt c host w → s.dMay c true = true →
    dmaOp w = 4 → bitsAt w 32 32 ≠ 0 →
    bitAt w 4 = true ∨ (s.fetched c host).on (DMA_CH_STATUS_EV_LATCH c) = false →
    ∃ t u, exec (.dmaWait c host) s = .next t ∧ u = s.fetched c host ∧ t.dState c = dWaiting ∧
      (t.dch c).waiting = true ∧ t.rd (DMA_CH_WAIT_LEFT c) = bitsAt w 32 32 ∧
      t.rd (DMA_CH_STATUS_EV_LATCH c) = 0 ∧ (t.dch c).cont = bitAt w 5 ∧
      (t.dch c).deadline = (if bitsAt w 64 32 = 0 then none else some (u.now + bitsAt w 64 32 * 400)) ∧
      u.keeps t (DMA_CH_STATUS_EV_LATCH c :: DMA_CH_WAIT_LEFT c :: channelFlds c) ∧
      t = { u with regs := t.regs, dma := t.dma }) ∧
  (∀ (s : State) (c : Fin 32) (host : Option (BitVec 128)) (w : Nat), s.dmaAt c host w → s.dMay c true = true →
    dmaOp w = 4 → bitsAt w 32 32 = 0 →
    ∃ t, exec (.dmaWait c host) s = .next t ∧ (s.fetched c host).dmaNext t c ∧ (t.dch c).hop = none) ∧
  (∀ (s : State) (c : Fin 32) (d : Nat), (s.dch c).waiting = true → (s.dch c).deadline = some d → d ≤ s.now →
    (s.dch c).cont = true →
    ∃ t, exec (.dmaWaitTimeout c) s = .next t ∧ t.dState c = dRunning ∧ s.dmaNext t c ∧
      t.rd (DMA_CH_STATUS_TIMEOUT c) = 1 ∧ (t.dch c).waiting = false ∧
      t.top = (s.fault srcDma 0xC031 (slot1 c ++ slot2 (s.rd (DMA_CH_PROG_PC c)))).top) ∧
  (∀ (s : State) (c : Fin 32) (d : Nat), (s.dch c).waiting = true → (s.dch c).deadline = some d → d ≤ s.now →
    (s.dch c).cont = false →
    ∃ t, exec (.dmaWaitTimeout c) s = .next t ∧ s.dmaErr t c 0xC031 (s.rd (DMA_CH_PROG_PC c)) ∧
      t.rd (DMA_CH_STATUS_TIMEOUT c) = 1) ∧
  (∀ (s : State) (c : Fin 32) (host : Option (BitVec 128)) (w : Nat), s.dmaAt c host w → s.dMay c true = true →
    dmaOp w = 5 → bitAt w 6 = false →
    ∃ t u, exec (.dmaSignal c host) s = .next t ∧
      u = (s.fetched c host).signal 250 ((s.fetched c host).dch c).hop (bitAt w 4) (bitAt w 5) (bitsAt w 8 6)
        (bitsAt w 16 8) ∧
      t = u.dNext c) ∧
  (∀ (s : State) (c : Fin 32) (host : Option (BitVec 128)) (w : Nat), s.dmaAt c host w → s.dMay c true = true →
    dmaOp w = 5 → bitAt w 6 = true → bitAt w 4 = false → bitAt w 5 = false → bitsAt w 64 44 % 4 = 0 →
    devSpace (bitsAt w 64 44) = 1 → (s.fetched c host).permitted reqDma clsMemory true = true →
    devOff (bitsAt w 64 44) + 4 ≤ 2 ^ 42 →
    ∃ t u, exec (.dmaSignal c host) s = .next t ∧ u = s.fetched c host ∧
      t.out = (u.hostPut ((u.rd (DMA_CH_HOST_BASE c) + devOff (bitsAt w 64 44)) % 2 ^ 64)
        (leBytes 4 (bitsAt w 32 32))).out ∧ u.dmaNext t c) ∧
  (∀ (s : State) (c : Fin 32) (host : Option (BitVec 128)) (w : Nat), s.dmaAt c host w → s.dMay c true = true →
    dmaOp w = 6 →
    ∃ t u, exec (.dmaEnd c host) s = .next t ∧ u = s.fetched c host ∧ t.dState c = dDone ∧ u.dmaNext t c ∧
      u.keeps t (DMA_CH_PROG_PC c :: DMA_CH_WAIT_LEFT c :: channelFlds c) ∧
      t = { u with regs := t.regs, dma := t.dma }) ∧
  (∀ (s : State) (c : Fin 32) (host : Option (BitVec 128)) (w : Nat), s.dMay c true = true →
    (s.dFetch c host).1 = .word w → legalDma w = false →
    ∃ t, exec (.dmaIllegal c host) s = .next t ∧
      (s.fetched c host).dmaErr t c 0x8040 ((s.fetched c host).rd (DMA_CH_PROG_PC c)))

/-! ### The event router (chapter 11) -/

/-- R343 to R352: occurrences form one event in each channel, the gate and the hop limit decide, and three ticks
later the consumers of the channel take it; pins make and show events. Where a rule leaves it open this rests
on the model's own choice or reading: log 103, 104. -/
def Obligations.EventsEnterAreGatedAndDelivered : Prop :=
  (∀ (s : State) (c : Fin 64) (o : Occurrence) (os : List Occurrence) (h : Nat), s.entering c = o :: os →
    h = (o :: os).foldl (fun (m : Nat) (p : Occurrence) => max m p.hop) 0 → h + 1 < 8 → s.gateOpen c = true →
    ∃ t, exec (.eventEnter c) s = .next t ∧ t.rd ⟨EVENT_FLAGS.off, c, 1⟩ = 1 ∧
      t.rd (EVENT_CH_COUNT c) = (s.rd (EVENT_CH_COUNT c) + 1) % 2 ^ 32 ∧
      t.ev.flight = s.ev.flight ++ [⟨c, h + 1, decide (os ≠ []), s.now + 3⟩] ∧
      t.ev.waiting = s.ev.waiting.filter (fun p => p.channel ≠ c.val ∨ p.entry ≠ o.entry) ∧
      t = { s with regs := t.regs, ev := t.ev, out := t.out }) ∧
  (∀ (s : State) (c : Fin 64) (o : Occurrence) (os : List Occurrence) (h : Nat), s.entering c = o :: os →
    h = (o :: os).foldl (fun (m : Nat) (p : Occurrence) => max m p.hop) 0 → h + 1 < 8 → s.gateOpen c = false →
    ∃ t, exec (.eventEnter c) s = .next t ∧ t.ev.flight = s.ev.flight ∧
      t.rd (EVENT_CH_DROPPED_GATED c) = min (s.rd (EVENT_CH_DROPPED_GATED c) + 1) 65535 ∧
      s.keeps t [EVENT_CH_DROPPED_GATED c] ∧ t = { s with regs := t.regs, ev := t.ev }) ∧
  (∀ (s : State) (c : Fin 64) (o : Occurrence) (os : List Occurrence) (h : Nat), s.entering c = o :: os →
    h = (o :: os).foldl (fun (m : Nat) (p : Occurrence) => max m p.hop) 0 → 8 ≤ h + 1 →
    ∃ t, exec (.eventEnter c) s = .next t ∧ t.ev.flight = s.ev.flight ∧ t.rd ⟨EVENT_LOOP.off, c, 1⟩ = 1 ∧
      t.rd (EVENT_CH_DROPPED_LOOPED c) = min (s.rd (EVENT_CH_DROPPED_LOOPED c) + 1) 65535 ∧
      t.top = (if s.on ⟨EVENT_LOOP.off, c, 1⟩ then s else
        s.fault srcEvent 0x7040 (slot1 c ++ slot1 h ++ slot1 o.producer)).top ∧
      t = { s with regs := t.regs, ev := t.ev, top := t.top }) ∧
  (∀ (s : State) (c : Fin 64) (f : EventFlight),
    s.ev.flight.find? (fun (f : EventFlight) => f.channel == c.val && decide (f.deliver ≤ s.now)) = some f →
    (∀ i ∈ List.range 158, s.on (EVENT_CONS_CFG_EN i) = false ∨ s.rd (EVENT_CONS_CFG_CHANNEL i) ≠ c) →
    ∃ t, exec (.eventDeliver c) s = .next t ∧ t.ev = { s.ev with flight := s.ev.flight.erase f } ∧
      s.keeps t [EVENT_STATUS_ANY_LOOP, EVENT_STATUS_ANY_OVERRUN] ∧ t = { s with regs := t.regs, ev := t.ev }) ∧
  (∀ (s : State) (c : Fin 64) (f : EventFlight) (q : Fin 8),
    s.ev.flight.find? (fun (f : EventFlight) => f.channel == c.val && decide (f.deliver ≤ s.now)) = some f →
    (∀ i ∈ List.range 158, i = 16 + q.val ∨ s.on (EVENT_CONS_CFG_EN i) = false ∨
      s.rd (EVENT_CONS_CFG_CHANNEL i) ≠ c) →
    s.on (EVENT_CONS_CFG_EN (16 + q.val)) = true → s.rd (EVENT_CONS_CFG_CHANNEL (16 + q.val)) = c →
    s.on (SCRIBE_Q_STATUS_EV_LATCH q) = false → (s.scq q).wait = none → f.coincident = false →
    ∃ t, exec (.eventDeliver c) s = .next t ∧ t.rd (SCRIBE_Q_STATUS_EV_LATCH q) = 1 ∧
      (t.scq q).latchHop = f.hop ∧ t.ev = { s.ev with flight := s.ev.flight.erase f } ∧
      s.keeps t [EVENT_STATUS_ANY_LOOP, EVENT_STATUS_ANY_OVERRUN, SCRIBE_Q_STATUS_EV_LATCH q] ∧
      t = { s with regs := t.regs, ev := t.ev, scribe := t.scribe }) ∧
  (∀ (s : State) (c : Fin 64) (f : EventFlight) (n : Fin 16),
    s.ev.flight.find? (fun (f : EventFlight) => f.channel == c.val && decide (f.deliver ≤ s.now)) = some f →
    (∀ i ∈ List.range 158, i = n.val ∨ s.on (EVENT_CONS_CFG_EN i) = false ∨
      s.rd (EVENT_CONS_CFG_CHANNEL i) ≠ c) →
    s.on (EVENT_CONS_CFG_EN n) = true → s.rd (EVENT_CONS_CFG_CHANNEL n) = c →
    s.on (EVENT_PIN_CTRL_DIR n) = true → s.on (EVENT_PIN_CTRL_OUT_MODE n) = false →
    spGet (fun _ => 0) s.ev.pulseUntil n ≤ s.now → f.coincident = false →
    ∃ t, exec (.eventDeliver c) s = .next t ∧
      (∀ k, ({ t with tl := { t.tl with tick := k } }).pinActive n =
        decide (s.now < k ∧ k ≤ s.now + s.rd (EVENT_PIN_WIDTH n))) ∧
      s.keeps t [EVENT_STATUS_ANY_LOOP, EVENT_STATUS_ANY_OVERRUN] ∧ t = { s with regs := t.regs, ev := t.ev }) ∧
  (∀ (s : State) (c : Fin 64) (f : EventFlight) (q : Fin 8),
    s.ev.flight.find? (fun (f : EventFlight) => f.channel == c.val && decide (f.deliver ≤ s.now)) = some f →
    (∀ i ∈ List.range 158, i = 16 + q.val ∨ s.on (EVENT_CONS_CFG_EN i) = false ∨
      s.rd (EVENT_CONS_CFG_CHANNEL i) ≠ c) →
    s.on (EVENT_CONS_CFG_EN (16 + q.val)) = true → s.rd (EVENT_CONS_CFG_CHANNEL (16 + q.val)) = c →
    s.on (SCRIBE_Q_STATUS_EV_LATCH q) = true → f.coincident = false →
    ∃ t, exec (.eventDeliver c) s = .next t ∧ t.rd (SCRIBE_Q_STATUS_EV_OVERRUN q) = 1 ∧
      t.rd (EVENT_CONS_STATUS_OVERRUN (16 + q.val)) = 1 ∧ t.scribe = s.scribe ∧ t.top = s.top ∧
      t.rd (EVENT_CONS_STATUS_OVERRUNS (16 + q.val)) =
        min (s.rd (EVENT_CONS_STATUS_OVERRUNS (16 + q.val)) + 1) 65535) ∧
  (∀ (s : State) (mask : BitVec 64),
    exec (.eventSoft mask) s = .next { s with ev := { s.ev with waiting := s.ev.waiting ++
      ((List.range 64).filter (fun c => bitAt mask.toNat c)).map (fun c => ⟨252, c, 0, s.now⟩) } }) ∧
  (∀ (s : State) (n : Fin 16) (level : Bool), s.on (EVENT_PIN_CTRL_DIR n) = false →
    s.on ⟨EVENT_PINLVL.off, n, 1⟩ ≠ level → s.on (EVENT_PIN_CTRL_IN_EN n) = true →
    s.rd (EVENT_PIN_CTRL_EDGE n) = 2 ∨ s.rd (EVENT_PIN_CTRL_EDGE n) = b2n (!level) →
    ∃ t, exec (.eventPinEdge n level) s = .next t ∧ t.rd ⟨EVENT_PINLVL.off, n, 1⟩ = b2n level ∧
      t.ev.waiting = s.ev.waiting ++ [⟨251, s.rd (EVENT_PIN_CTRL_CHANNEL n), 0, s.now⟩] ∧
      s.keeps t [⟨EVENT_PINLVL.off, n, 1⟩] ∧ t = { s with regs := t.regs, ev := t.ev }) ∧
  (∀ (s : State) (n : Fin 16) (level : Bool), s.on (EVENT_PIN_CTRL_DIR n) = false →
    s.on ⟨EVENT_PINLVL.off, n, 1⟩ ≠ level →
    s.on (EVENT_PIN_CTRL_IN_EN n) = false ∨
      (s.rd (EVENT_PIN_CTRL_EDGE n) ≠ 2 ∧ s.rd (EVENT_PIN_CTRL_EDGE n) ≠ b2n (!level)) →
    exec (.eventPinEdge n level) s = .next (s.wr ⟨EVENT_PINLVL.off, n, 1⟩ (b2n level))) ∧
  (∀ (s : State) (n : Fin 16) (k : Nat), spGet (fun _ => 0) s.ev.pulseUntil n = k → k ≠ 0 → k ≤ s.now →
    s.on (EVENT_PIN_CTRL_OUT_MODE n) = false →
    ∃ t, exec (.eventPinPulseEnd n) s = .next t ∧ t.pinActive n = false ∧
      spGet (fun _ => 0) t.ev.pulseUntil n = 0 ∧ t = { s with ev := t.ev })

/-! ### The image memory (chapter 12) -/

/-- R306, R366, R367, R369, R373, R380, R438: a read answers the bytes written, corrected, or names the beat that
failed; a write changes its own bytes only; in self-refresh both wait. Where a rule leaves it open this rests
on the model's own choice or reading: log 2, 105, 110. -/
def Obligations.DramReadsAnswerAndWritesStore : Prop :=
  (∀ (s : State) (a : BitVec 42) (n : Nat) (c : Fin 6), s.dramFits a.toNat n = true → s.inSelfRefresh = false →
    s.flippedIn a.toNat n = [] →
    exec (.dramRead a n c []) s = .next (State.recheck { s.rankCmd a.toNat with out := { s.out with
      dram := s.out.dram ++ [⟨a.toNat, (List.range n).map (fun i => s.dramByte (a.toNat + i)), none⟩] } })) ∧
  (∀ (s : State) (a : BitVec 42) (n b : Nat) (c : Fin 6), s.dramFits a.toNat n = true → s.inSelfRefresh = false →
    s.flippedIn a.toNat n = [b] → (s.readBeat b).1 = .corrected →
    ∃ u : State, exec (.dramRead a n c []) s = .next u.recheck ∧
      u.out.dram = s.out.dram ++ [⟨a.toNat, s.dramBytes a.toNat n, none⟩] ∧ u.rd DRAMC_STATUS_CE = 1 ∧
      u.rd (DRAMC_CH_CE (s.place (8 * b)).ch (s.physRank (8 * b))) =
        (s.rd (DRAMC_CH_CE (s.place (8 * b)).ch (s.physRank (8 * b))) + 1) % 2 ^ 32 ∧
      (s.on DRAMC_CFG_CE_WRITEBACK = true → spGet (fun _ => 0) u.dram.flips b = 0)) ∧
  (∀ (s : State) (a : BitVec 42) (n b : Nat) (c : Fin 6), s.dramFits a.toNat n = true → s.inSelfRefresh = false →
    s.flippedIn a.toNat n = [b] → (s.readBeat b).1 = .uncorrectable → s.on DRAMC_CFG_RANK_POLICY = false →
    8 * b < 2 ^ 64 →
    ∃ u : State, exec (.dramRead a n c []) s = .next u.recheck ∧
      u.out.dram = s.out.dram ++ [⟨a.toNat, s.dramBytes a.toNat n, some (8 * b)⟩] ∧ u.rd DRAMC_STATUS_UE = 1 ∧
      u.rd DRAMC_ERR_ADDR = 8 * b ∧ u.rd DRAMC_ERR_INFO_KIND = 0 ∧ u.rd DRAMC_ERR_INFO_CLASS = c ∧
      u.rd (DRAMC_CH_UE (s.place (8 * b)).ch (s.physRank (8 * b))) =
        (s.rd (DRAMC_CH_UE (s.place (8 * b)).ch (s.physRank (8 * b))) + 1) % 2 ^ 32 ∧
      u.dram.mem = s.dram.mem ∧ u.dram.flips = s.dram.flips) ∧
  (∀ (s : State) (a : BitVec 42) (n : Nat) (c : Fin 6) (es : List (Nat × Nat)), s.dramFits a.toNat n = true →
    s.inSelfRefresh = true →
    exec (.dramRead a n c es) s = .next { s with dram := { s.dram with held := s.dram.held ++
      [⟨c, a.toNat, [], s.now, some n, false⟩] } }) ∧
  (∀ (s : State) (a : BitVec 42) (n : Nat) (c : Fin 6) (es : List (Nat × Nat)), s.dramFits a.toNat n = false →
    exec (.dramRead a n c es) s = .next s) ∧
  (∀ (s : State) (a : BitVec 42) (bs : List (BitVec 8)) (c : Fin 6), s.dramFits a.toNat bs.length = true →
    s.inSelfRefresh = false → bs ≠ [] → spGet (fun _ => 0) s.dram.flips (a.toNat / 8) = 0 →
    spGet (fun _ => 0) s.dram.flips ((a.toNat + bs.length) / 8) = 0 →
    ∃ u : State, exec (.dramWrite a bs c []) s = .next u.recheck ∧
      u.out = { s.out with dram := s.out.dram ++ [⟨a.toNat, [], none⟩] } ∧
      (∀ i ∈ List.range bs.length, u.dramByte (a.toNat + i) = nth 0 (bs.map (·.toNat)) i) ∧
      (∀ x, x < a.toNat ∨ a.toNat + bs.length ≤ x → u.dramByte x = s.dramByte x) ∧
      (∀ b ∈ List.range bs.length, spGet (fun _ => 0) u.dram.flips ((a.toNat + b) / 8) = 0) ∧
      u = { s with dram := u.dram, out := u.out }) ∧
  (∀ (s : State) (a : BitVec 42) (bs : List (BitVec 8)) (c : Fin 6), s.dramFits a.toNat bs.length = true →
    s.inSelfRefresh = true →
    ∃ u : State, exec (.dramWrite a bs c []) s = .next u.recheck ∧
      u.dram = { s.dram with held := s.dram.held ++ [⟨c, a.toNat, bs.map (·.toNat), s.now, none, false⟩] } ∧
      u = { s with dram := u.dram, out := u.out }) ∧
  (∀ (s : State) (a : BitVec 42) (bs : List (BitVec 8)) (c : Fin 6) (es : List (Nat × Nat)),
    s.dramFits a.toNat bs.length = false → exec (.dramWrite a bs c es) s = .next s)

/-- R366, R367: the check code corrects every error of one bit of a beat, and every error of two bits that leaves
the overall parity bit P (bit 78) alone, at either parity of the address. The table of R367 has no row for P
and one bit more. Where a rule leaves it open this rests on the model's own choice or reading: log 106. -/
def Obligations.CheckCodeCorrectsTwoBits : Prop :=
  (∀ (d : BitVec 64) (a : Fin 2), decodeBeat (encodeBeat d.toNat a) a = (.clean, d.toNat, 0)) ∧
  (∀ (d : BitVec 64) (a : Fin 2) (i : Fin 80), (decodeBeat (encodeBeat d.toNat a ^^^ 2 ^ i.val) a).1 = .corrected ∧
    (decodeBeat (encodeBeat d.toNat a ^^^ 2 ^ i.val) a).2.1 = d.toNat) ∧
  (∀ (d : BitVec 64) (a : Fin 2) (i j : Fin 80), i ≠ j → i ≠ 78 → j ≠ 78 →
    (decodeBeat (encodeBeat d.toNat a ^^^ 2 ^ i.val ^^^ 2 ^ j.val) a).1 = .corrected ∧
    (decodeBeat (encodeBeat d.toNat a ^^^ 2 ^ i.val ^^^ 2 ^ j.val) a).2.1 = d.toNat)

/-- R306, R370, R372, R374 to R378, R380 to R383: migration, the patrol, command errors, power states and shares.
Where a rule leaves it open this rests on the model's own choice or reading: log 2, 107, 108. -/
def Obligations.DramMaintenanceMovesRanks : Prop :=
  (∀ (s : State) (c r k : Nat), s.dram.mig = none → c = s.rd DRAMC_MIG_MIG_CH → r = s.rd DRAMC_MIG_MIG_RANK →
    firstIdx 4 (fun k => k != r && s.rd (rankStateF c k) == rankSpareReady) = some k →
    ∃ u : State, exec .migReq s = .next u.recheck ∧ u.rd (rankStateF c r) = rankMigSource ∧
      u.rd (rankStateF c k) = rankMigTarget ∧ u.rd DRAMC_STATUS_MIGRATING = 1 ∧ u.rd DRAMC_MIG_PTR = 0 ∧
      u.dram.mig = some ⟨c, r, k, 3, s.now⟩ ∧
      u.top = (s.fault srcDramc 0x6010 (slot1 c ++ slot1 r ++ slot1 k ++ slot1 3)).top ∧
      s.keeps u ([rankStateF c r, rankStateF c k, DRAMC_STATUS_MIGRATING, DRAMC_MIG_BUSY, DRAMC_MIG_PTR] ++ faultFlds) ∧
      u = { s with regs := u.regs, dram := u.dram, top := u.top }) ∧
  (∀ (s : State) (c r : Nat), s.dram.mig = none → c = s.rd DRAMC_MIG_MIG_CH → r = s.rd DRAMC_MIG_MIG_RANK →
    firstIdx 4 (fun k => k != r && s.rd (rankStateF c k) == rankSpareReady) = none →
    exec .migReq s =
      .next ((s.set1 DRAMC_STATUS_NO_SPARE).fault srcDramc 0x6013 (slot1 c ++ slot1 r)).recheck) ∧
  (∀ (s : State) (m : Migration) (k : Nat), s.dram.mig = some m → s.inSelfRefresh = false →
    s.rd DRAMC_MIG_PTR < 2 ^ s.rankLineBits → s.logicalOf m.ch m.src = some k →
    s.flippedIn (s.placeAddr m.ch k (s.rd DRAMC_MIG_PTR)) 128 = [] →
    ∃ t, exec (.migrateCopyLine []) s = .next t ∧ t.rd DRAMC_MIG_PTR = s.rd DRAMC_MIG_PTR + 1 ∧
      s.keeps t [DRAMC_MIG_PTR] ∧ t = { s with regs := t.regs }) ∧
  (∀ (s : State) (m : Migration) (k b : Nat), s.dram.mig = some m → s.inSelfRefresh = false →
    s.rd DRAMC_MIG_PTR < 2 ^ s.rankLineBits → s.logicalOf m.ch m.src = some k →
    s.flippedIn (s.placeAddr m.ch k (s.rd DRAMC_MIG_PTR)) 128 = [b] → (s.readBeat b).1 = .uncorrectable →
    ∃ t, exec (.migrateCopyLine []) s = .next t ∧ t.rd DRAMC_MIG_PTR = s.rd DRAMC_MIG_PTR + 1 ∧
      t.rd DRAMC_MIG_LOST = (s.rd DRAMC_MIG_LOST + 1) % 2 ^ 32 ∧ spGet (fun _ => 0) t.dram.tgtPoison b = 1 ∧
      t.dram.mem = s.dram.mem ∧ t.dram.flips = s.dram.flips ∧
      s.keeps t ([DRAMC_MIG_PTR, DRAMC_MIG_LOST] ++ faultFlds) ∧
      t = { s with regs := t.regs, dram := t.dram, top := t.top }) ∧
  (∀ (s : State) (m : Migration) (k : Nat), s.dram.mig = some m → 2 ^ s.rankLineBits ≤ s.rd DRAMC_MIG_PTR →
    m.ch < 8 → m.src < 4 → m.tgt < 4 → m.src ≠ m.tgt → s.logicalOf m.ch m.src = some k → s.dram.tgtPoison = [] →
    ∃ u : State, exec .migrateDone s = .next u.recheck ∧ u.rd (rankMapF m.ch k) = m.tgt ∧
      u.rd (rankStateF m.ch m.src) = rankRetired ∧ u.rd (rankStateF m.ch m.tgt) = rankInService ∧
      u.rd DRAMC_STATUS_MIGRATING = 0 ∧ u.dram.mig = none ∧ u.dram.mem = s.dram.mem ∧
      s.keeps u ([rankMapF m.ch k, rankStateF m.ch m.src, rankStateF m.ch m.tgt, DRAMC_STATUS_MIGRATING,
        DRAMC_MIG_BUSY] ++ faultFlds) ∧
      u = { s with regs := u.regs, dram := u.dram, top := u.top }) ∧
  (∀ (s : State) (p k : Nat), s.on DRAMC_SCRUB_SCRUB_EN = true → s.inSelfRefresh = false →
    p = s.rd DRAMC_SCRUB_PTR → s.scrubbed (p % 8) (p / 8 % 4) = true → s.logicalOf (p % 8) (p / 8 % 4) = some k →
    s.flippedIn (s.placeAddr (p % 8) k (p / 32)) 128 = [] →
    ∃ u : State, exec (.scrubStep []) s = .next u.recheck ∧ u.rd DRAMC_SCRUB_PTR = s.nextScrub p % 2 ^ 64 ∧
      s.keeps u [DRAMC_SCRUB_PTR] ∧ u = { s with regs := u.regs }) ∧
  (∀ (s : State) (p k b : Nat), s.on DRAMC_SCRUB_SCRUB_EN = true → s.inSelfRefresh = false →
    p = s.rd DRAMC_SCRUB_PTR → s.scrubbed (p % 8) (p / 8 % 4) = true → s.logicalOf (p % 8) (p / 8 % 4) = some k →
    s.flippedIn (s.placeAddr (p % 8) k (p / 32)) 128 = [b] → (s.readBeat b).1 = .corrected →
    ∃ u : State, exec (.scrubStep []) s = .next u.recheck ∧ spGet (fun _ => 0) u.dram.flips b = 0 ∧
      u.rd DRAMC_STATUS_CE = 1 ∧
      u.rd (DRAMC_CH_CE (p % 8) (p / 8 % 4)) = (s.rd (DRAMC_CH_CE (p % 8) (p / 8 % 4)) + 1) % 2 ^ 32) ∧
  (∀ (s : State) (es : List (Nat × Nat)), s.on DRAMC_SCRUB_SCRUB_EN = false → exec (.scrubStep es) s = .next s) ∧
  (∀ (s : State) (c : Fin 8) (r : Fin 4) (fl : List (Nat × Nat)),
    ((spGet (fun _ => []) s.dram.alerts c).filter (fun t => decide (s.now < t + 400))).length < 2 →
    ∃ t, exec (.dramCmdError c r fl) s = .next t ∧ spGet (fun _ => []) t.dram.alerts c =
        s.now :: (spGet (fun _ => []) s.dram.alerts c).filter (fun t => decide (s.now < t + 400)) ∧
      t = { s with dram := t.dram }) ∧
  (∀ (s : State) (c : Fin 8) (r : Fin 4) (fl : List (Nat × Nat)),
    2 ≤ ((spGet (fun _ => []) s.dram.alerts c).filter (fun t => decide (s.now < t + 400))).length →
    s.on DRAMC_CFG_RANK_POLICY = false →
    ∃ u : State, exec (.dramCmdError c r fl) s = .next u.recheck ∧ u.rd DRAMC_STATUS_CMD_ERR = 1 ∧
      u.rd DRAMC_ERR_INFO_CH = c ∧ u.rd DRAMC_ERR_INFO_RANK = r ∧ u.rd DRAMC_ERR_INFO_KIND = 3 ∧
      u.out.dram = s.out.dram ++ fl.map (fun (e : Nat × Nat) => ⟨e.2, [], some e.2⟩) ∧
      u.top = (s.fault srcDramc 0x6004 (slot1 c ++ slot1 r)).top) ∧
  (∀ (s : State) (c : Fin 8) (r : Fin 4), s.rd DRAMC_PD ≠ 0 →
    5 * spGet (fun _ => 0) s.dram.lastCmd (4 * c.val + r.val) + 2 * s.rd DRAMC_PD ≤ 5 * s.now →
    ∃ t, exec (.rankPowerDown c r) s = .next t ∧ spGet (fun _ => 0) t.dram.pwrDown (4 * c.val + r.val) = 1 ∧
      t = { s with dram := { s.dram with pwrDown := t.dram.pwrDown } }) ∧
  (∀ (s : State), srAllowed s.mode = true → s.rd DRAMC_STATUS_SR_STATE = 0 →
    ∃ t, exec .srEnter s = .next t ∧ t.rd DRAMC_STATUS_SR_STATE = 1 ∧ s.keeps t [DRAMC_STATUS_SR_STATE] ∧
      t = { s with regs := t.regs }) ∧
  (∀ (s : State), srAllowed s.mode = false →
    exec .srEnter s = .next (s.reject DRAMC_STATUS_CFG_REJECT srcDramc DRAMC_SR.off 1)) ∧
  (∀ (s : State), s.rd DRAMC_STATUS_SR_STATE = 1 →
    ∃ t, exec .srEntryDone s = .next t ∧ t.rd DRAMC_STATUS_SR_STATE = 2 ∧ s.keeps t [DRAMC_STATUS_SR_STATE] ∧
      t = { s with regs := t.regs }) ∧
  (∀ (s : State), s.dram.held = [] →
    ∃ t, exec .srExit s = .next t ∧ t.rd DRAMC_STATUS_SR_STATE = 0 ∧ s.keeps t [DRAMC_STATUS_SR_STATE] ∧
      t = { s with regs := t.regs }) ∧
  (∀ (s : State) (h : HeldAccess), s.dram.held = [h] → h.read = none → s.rd DRAMC_STATUS_SR_STATE ≠ 0 →
    spGet (fun _ => 0) s.dram.flips (h.addr / 8) = 0 →
    spGet (fun _ => 0) s.dram.flips ((h.addr + h.bytes.length) / 8) = 0 →
    ∃ t, exec .srExit s = .next t ∧ t.rd DRAMC_STATUS_SR_STATE = 0 ∧ t.dram.held = [] ∧
      (∀ i ∈ List.range h.bytes.length, t.dramByte (h.addr + i) = nth 0 h.bytes i % 256)) ∧
  (∀ (s : State) (h : HeldAccess) (rest : List HeldAccess), s.inSelfRefresh = true → s.dram.held = h :: rest →
    h.since + 400000 ≤ s.now → h.bar = false →
    ∃ t, exec .srTimeout s = .next t ∧ t.rd DRAMC_STATUS_SR_TIMEOUT = 1 ∧ t.dram.held = rest ∧
      t.out = { s.out with dram := s.out.dram ++ [⟨h.addr, [], some h.addr⟩] } ∧
      t.top = (s.fault srcDramc 0x6031 (slot1 h.cls ++ slot2 h.addr)).top ∧
      s.keeps t (DRAMC_STATUS_SR_TIMEOUT :: faultFlds) ∧
      t = { s with regs := t.regs, dram := t.dram, out := t.out, top := t.top }) ∧
  (∀ (s : State) (c : Fin 8) (r : Fin 4) (hot : Bool),
    ∃ t, exec (.refreshRateCheck c r hot) s = .next t ∧
      spGet (fun _ => 0) t.dram.hot (4 * c.val + r.val) = b2n hot ∧
      t = { s with dram := { s.dram with hot := t.dram.hot } }) ∧
  (∀ (s : State) (v : BitVec 32), s.rd DRAMC_SHARE0_IMAGE + s.rd DRAMC_SHARE0_MASTER + s.rd DRAMC_SHARE0_DMA +
      s.rd DRAMC_SHARE0_HOST + bitsAt v.toNat 0 7 + bitsAt v.toNat 8 7 = 100 →
    ∃ t, exec (.shareWrite v) s = .next t ∧ t.rd DRAMC_SHARE1_TABLE = bitsAt v.toNat 0 7 ∧
      t.rd DRAMC_SHARE1_MAINT = bitsAt v.toNat 8 7 ∧ s.keeps t [DRAMC_SHARE1_TABLE, DRAMC_SHARE1_MAINT] ∧
      t = { s with regs := t.regs }) ∧
  (∀ (s : State) (v : BitVec 32), s.rd DRAMC_SHARE0_IMAGE + s.rd DRAMC_SHARE0_MASTER + s.rd DRAMC_SHARE0_DMA +
      s.rd DRAMC_SHARE0_HOST + bitsAt v.toNat 0 7 + bitsAt v.toNat 8 7 ≠ 100 →
    exec (.shareWrite v) s =
      .next (s.reject DRAMC_STATUS_CFG_REJECT srcDramc DRAMC_SHARE1.off v.toNat))

/-- R355, R356, R363, R364, R384, R534: the training helper issues the command of CMD, training ends with the size
set and the contents initialised, and playback plays lines of the ring. Where a rule leaves it open this rests
on the model's own choice or reading: log 109, 111, 112. -/
def Obligations.TrainingAndPlaybackRun : Prop :=
  (∀ (s : State) (c : Fin 8), s.rd (DRAMC_CH_TRAIN_CMD_CMD c) = 0 → s.trainOpen c = true →
    exec (.trainMrw c) s = .next (s.trainSend c 0)) ∧
  (∀ (s : State) (c : Fin 8) (r : BitVec 32), s.rd (DRAMC_CH_TRAIN_CMD_CMD c) = 1 → s.trainOpen c = true →
    exec (.trainMrr c r) s = .next ((s.trainSend c 1).wr (DRAMC_CH_TRAIN_RESULT c) r.toNat)) ∧
  (∀ (s : State) (c : Fin 8), s.rd (DRAMC_CH_TRAIN_CMD_CMD c) = 2 → s.trainOpen c = true →
    exec (.trainMpc c) s = .next (s.trainSend c 2)) ∧
  (∀ (s : State) (c : Fin 8), s.rd (DRAMC_CH_TRAIN_CMD_CMD c) = 3 → s.trainOpen c = true →
    exec (.trainAct c) s = .next (s.trainSend c 3)) ∧
  (∀ (s : State) (c : Fin 8), s.rd (DRAMC_CH_TRAIN_CMD_CMD c) = 4 → s.trainOpen c = true →
    exec (.trainPre c) s = .next (s.trainSend c 4)) ∧
  (∀ (s : State) (c : Fin 8), s.rd (DRAMC_CH_TRAIN_CMD_CMD c) = 5 → s.trainOpen c = true →
    exec (.trainRef c) s = .next (s.trainSend c 5)) ∧
  (∀ (s : State) (c : Fin 8), s.rd (DRAMC_CH_TRAIN_CMD_CMD c) = 6 → s.trainOpen c = true →
    ∃ t, exec (.trainWr c) s = .next t ∧
      spGet (fun _ => 0) t.dram.genWr c = spGet (fun _ => 0) s.dram.genWr c + 16 ∧
      t.out.trainBurst = (s.trainSend c 6).out.trainBurst ++ [(c.val, (List.range 16).map (fun i => patternBeat
        (s.rd (DRAMC_CH_TRAIN_CMD_PATTERN c)) (s.trainUser c) (spGet (fun _ => 0) s.dram.genWr c + i)))] ∧
      t = { s with dram := { s.dram with genWr := t.dram.genWr }, out := t.out }) ∧
  (∀ (s : State) (c : Fin 8) (reads : List (List Nat)), s.rd (DRAMC_CH_TRAIN_CMD_CMD c) = 7 → s.trainOpen c = true →
    s.rd (DRAMC_CH_TRAIN_CMD_LOOPS c) = 1 → reads = [s.burst c (spGet (fun _ => 0) s.dram.genRd c)] →
    ∃ t, exec (.trainRd c reads) s = .next t ∧
      spGet (fun _ => 0) t.dram.genRd c = spGet (fun _ => 0) s.dram.genRd c + 16 ∧ t.regs = s.regs ∧
      t = { s with dram := { s.dram with genRd := t.dram.genRd }, out := t.out }) ∧
  (∀ (s : State) (c : Fin 8) (m : Nat), s.rd (DRAMC_CH_TRAIN_CMD_CMD c) = 7 → s.trainOpen c = true →
    s.rd (DRAMC_CH_TRAIN_CMD_LOOPS c) = 1 → m = xorNat 80 (nth 0 (s.burst c (spGet (fun _ => 0) s.dram.genRd c)) 0) 1 →
    ∃ t, exec (.trainRd c [m :: (s.burst c (spGet (fun _ => 0) s.dram.genRd c)).drop 1]) s = .next t ∧
      t.rd (DRAMC_CH_TRAIN_ERR0 c) = orNat 32 (s.rd (DRAMC_CH_TRAIN_ERR0 c)) 1 ∧
      t.rd (DRAMC_CH_TRAIN_ERRCNT c) = (s.rd (DRAMC_CH_TRAIN_ERRCNT c) + 1) % 2 ^ 32 ∧
      s.keeps t [DRAMC_CH_TRAIN_ERR0 c, DRAMC_CH_TRAIN_ERRCNT c]) ∧
  (∀ (s : State) (c : Fin 8), s.rd (DRAMC_CH_TRAIN_CMD_CMD c) = 0 → s.trainOpen c = false →
    exec (.trainMrw c) s = .next (s.reject DRAMC_STATUS_CFG_REJECT srcDramc (DRAMC_CH_TRAIN_CMD c).off
      (s.rd (DRAMC_CH_TRAIN_CMD c) + 2 ^ 31))) ∧
  (∀ (s : State), s.mode = 2 → s.dram.needInit = true → s.trainRefused = false → s.dram.held = [] →
    s.top.warmAt = none →
    ∃ t, exec (.dramInitDone [] []) s = .next t ∧ t.rd DRAMC_STATUS_TRAINED = 1 ∧
      t.rd DRAMC_SIZE = s.dramCfgSize % 2 ^ 64 ∧ t.dram.mem = [] ∧ t.dram.flips = [] ∧ t.dram.needInit = false ∧
      t.mode = 3) ∧
  (∀ (s : State) (rs fs : List (Fin 8 × Fin 4 × Fin 80 × BitVec 8)), s.mode = 2 → s.dram.needInit = true →
    s.trainRefused = true →
    exec (.dramInitDone rs fs) s = .next (s.fault srcDramc 0x6030 (slot1 0 ++ slot1 0 ++ slot1 0 ++ slot1 0))) ∧
  (∀ (s : State), s.mode = 9 → s.on DRAMC_PLAY_CTRL_PLAY_BUSY = false →
    ∃ t, exec .playGo s = .next t ∧ t.rd DRAMC_PLAY_CTRL_PLAY_BUSY = 1 ∧
      t.dram.playNext = some (s.rdS DRAMC_PLAY_FIRST) ∧ s.keeps t [DRAMC_PLAY_CTRL_PLAY_BUSY] ∧
      t = { s with regs := t.regs, dram := t.dram, stitch := t.stitch, scal := t.scal }) ∧
  (∀ (s : State), s.mode ≠ 9 ∨ s.on DRAMC_PLAY_CTRL_PLAY_BUSY = true →
    exec .playGo s = .next (s.reject DRAMC_STATUS_CFG_REJECT srcDramc DRAMC_PLAY_CTRL.off 1)) ∧
  (∀ (s : State) (l : Int), s.dram.playNext = some l → s.mode = 9 → s.playDue = true →
    s.rdS DRAMC_PLAY_LAST < l → s.dram.playRun = none →
    ∃ t, exec .playLine s = .next t ∧ t.rd DRAMC_PLAY_CTRL_PLAY_BUSY = 0 ∧ t.dram.playNext = none ∧
      s.keeps t [DRAMC_PLAY_CTRL_PLAY_BUSY] ∧ t = { s with regs := t.regs, dram := t.dram }) ∧
  (∀ (s : State) (l : Int), s.dram.playNext = some l → s.mode = 9 → s.playDue = true →
    l < s.rdS DRAMC_PLAY_LAST → s.rd DRAMC_IMG_CFG_LINES = 0 →
    ∃ t, exec .playLine s = .next t ∧ t.dram.playNext = some (l + 1) ∧
      t.rd DRAMC_PLAY_UNPLAYABLE = (s.rd DRAMC_PLAY_UNPLAYABLE + 1) % 2 ^ 32 ∧ t.dram.playAt = some s.now)

/-! ### Network time and Ethernet (chapter 13) -/

/-- R394 to R396, R403 to R405: the counter advances by INCR and TCORR in a PTP tick, SET and ADJ change the time
in the next tick and are recorded, and time compares fire when their target is no longer ahead. Where a rule
leaves it open this rests on the model's own choice or reading: log 116. -/
def Obligations.NetworkTimeCountsAndCompares : Prop :=
  (∀ (s : State), s.net.setTo = none → s.net.adjBy = none →
    ∃ t, exec .ptpCounterTick s = .next t ∧
      t.counter = ((((s.counter : Int) + s.effIncr) % (2 : Int) ^ 72).toNat) ∧ t.rd NET_PTP_NOW = t.ptp ∧
      s.keeps t [NET_PTP_NOW] ∧ t = { s with regs := t.regs, net := t.net }) ∧
  (∀ (s : State) (v : Nat), s.net.setTo = some v → s.net.adjBy = none →
    ∃ t, exec .ptpCounterTick s = .next t ∧ t.counter = v % 2 ^ 48 * 2 ^ 24 ∧ t.net.setTo = none ∧
      t.rd NET_PTP_NOW = v % 2 ^ 48 ∧ t.rd TOP_FAULT_SEQ = (s.rd TOP_FAULT_SEQ + 1) % 2 ^ TOP_FAULT_SEQ.w) ∧
  (∀ (s : State) (d : Int), s.net.setTo = none → s.net.adjBy = some d →
    ∃ t, exec .ptpCounterTick s = .next t ∧ t.net.adjBy = none ∧
      t.ptp = ((((((s.counter : Int) + s.effIncr) % (2 : Int) ^ 72).toNat / 2 ^ 24 : Nat) + d) % (2 : Int) ^ 48).toNat ∧
      t.net.ptpFrac = (((s.counter : Int) + s.effIncr) % (2 : Int) ^ 72).toNat % 2 ^ 24) ∧
  (∀ (s : State) (v : BitVec 32), 0x01E00000 ≤ v.toNat → v.toNat ≤ 0x02200000 →
    ∃ t, exec (.ptpIncrWrite v) s = .next t ∧ t.rd NET_PTP_INCR = v.toNat ∧ s.keeps t [NET_PTP_INCR] ∧
      t = { s with regs := t.regs }) ∧
  (∀ (s : State) (v : BitVec 32), v.toNat < 0x01E00000 ∨ 0x02200000 < v.toNat →
    exec (.ptpIncrWrite v) s = .next (s.reject NET_STATUS_CFG_REJECT srcNet NET_PTP_INCR.off v.toNat)) ∧
  (∀ (s : State) (v : BitVec 48),
    exec (.ptpSet v) s = .next { s with net := { s.net with setTo := some v.toNat } }) ∧
  (∀ (s : State) (v : BitVec 32), s.net.adjBy = none →
    exec (.ptpAdj v) s = .next { s with net := { s.net with adjBy := some (signed 32 v.toNat) } }) ∧
  (∀ (s : State) (g : Int), s.net.tcorrAt + 400000 ≤ s.now → s.on NET_CTRL_TCORR_EN = true →
    g = s.net.tcorrTo → s.rdS NET_PTP_TCORR < g → g < 2 ^ 31 →
    ∃ t, exec .tcorrStep s = .next t ∧ t.rdS NET_PTP_TCORR = s.rdS NET_PTP_TCORR + 1 ∧ t.net.tcorrAt = s.now ∧
      s.keeps t [NET_PTP_TCORR] ∧ t = { s with regs := t.regs, net := t.net }) ∧
  (∀ (s : State), s.net.tcorrAt + 400000 ≤ s.now → s.on NET_CTRL_TCORR_EN = true →
    s.rdS NET_PTP_TCORR = s.net.tcorrTo →
    ∃ t, exec .tcorrStep s = .next t ∧ t.rdS NET_PTP_TCORR = s.rdS NET_PTP_TCORR ∧ t.net.tcorrAt = s.now) ∧
  (∀ (s : State) (u : Fin 8), s.on (NET_TCMP_CTRL_ENABLE u) = true → spGet (fun _ => 0) s.net.ahead u = 1 →
    s.tcAhead u = false → s.rd (NET_TCMP_PERIOD u) = 0 →
    ∃ t, exec (.timeCompareFire u) s = .next t ∧ t.rd (NET_TCMP_STATUS_FIRED u) = 1 ∧
      t.rd (NET_TCMP_FIRE_TIME u) = s.ptp % 2 ^ 48 ∧
      t.ev.waiting = s.ev.waiting ++ [⟨252, s.rd (NET_TCMP_CTRL_CHANNEL u), 0, s.now⟩] ∧
      t.on (NET_TCMP_CTRL_ENABLE u) = !s.on (NET_TCMP_CTRL_SINGLE u) ∧
      spGet (fun _ => 0) t.net.ahead u = 0 ∧
      s.keeps t [NET_TCMP_STATUS_FIRED u, NET_TCMP_FIRE_TIME u, NET_TCMP_CTRL_ENABLE u] ∧
      t = { s with regs := t.regs, net := t.net, ev := t.ev }) ∧
  (∀ (s : State) (u : Fin 8) (n : Nat), s.on (NET_TCMP_CTRL_ENABLE u) = true → spGet (fun _ => 0) s.net.ahead u = 1 →
    s.tcAhead u = false → n = (s.rd (NET_TCMP_TARGET u) + s.rd (NET_TCMP_PERIOD u)) % 2 ^ 48 →
    s.rd (NET_TCMP_PERIOD u) ≠ 0 → aheadOf n s.ptp = true →
    ∃ t, exec (.timeCompareFire u) s = .next t ∧ t.rd (NET_TCMP_STATUS_FIRED u) = 1 ∧
      t.rd (NET_TCMP_TARGET u) = n ∧ spGet (fun _ => 0) t.net.ahead u = 1 ∧
      t.rd (NET_TCMP_SKIPPED u) = s.rd (NET_TCMP_SKIPPED u)) ∧
  (∀ (s : State) (u : Fin 8), s.on (NET_TCMP_CTRL_ENABLE u) = false → s.tcAhead u = true →
    ∃ t, exec (.timeCompareEnable u none) s = .next t ∧ t.rd (NET_TCMP_CTRL_ENABLE u) = 1 ∧
      spGet (fun _ => 0) t.net.ahead u = 1 ∧ s.keeps t [NET_TCMP_CTRL_ENABLE u] ∧
      t = { s with regs := t.regs, net := t.net }) ∧
  (∀ (s : State) (u : Fin 8), s.on (NET_TCMP_CTRL_ENABLE u) = false → s.tcAhead u = false →
    s.on (NET_TCMP_CTRL_LATE_FIRE u) = false →
    ∃ t, exec (.timeCompareEnable u none) s = .next t ∧ t.rd (NET_TCMP_CTRL_ENABLE u) = 1 ∧
      t.rd (NET_TCMP_STATUS_COMPARE_BEHIND u) = 1 ∧ spGet (fun _ => 0) t.net.ahead u = 0 ∧
      s.keeps t [NET_TCMP_CTRL_ENABLE u, NET_TCMP_STATUS_COMPARE_BEHIND u] ∧
      t = { s with regs := t.regs, net := t.net }) ∧
  (∀ (s : State) (u : Fin 8) (v : BitVec 48), s.on (NET_TCMP_CTRL_ENABLE u) = false →
    ∃ t, exec (.timeCompareEnable u (some v)) s = .next t ∧ t.rd (NET_TCMP_TARGET u) = v.toNat ∧
      s.keeps t [NET_TCMP_TARGET u] ∧ t = { s with regs := t.regs })

/-- R388 to R393, R400, R407, R409 to R411: frames are taken, forwarded, counted or dropped, descriptors are sent
in ring order and at their launch time, and tally datagrams leave when they are due. Where a rule leaves it
open this rests on the model's own choice or reading: log 2, 117, 119, 120, 121. -/
def Obligations.EthernetFramesMoveThroughRings : Prop :=
  (∀ (s : State) (e : Fin 2) (f : List (BitVec 8)) (ok : Bool) (g : BitVec 72) (h : List (BitVec 8)),
    s.ethUp e = false → exec (.ethFrameRx e f ok g h) s = .next s) ∧
  (∀ (s : State) (e : Fin 2) (f : List (BitVec 8)) (g : BitVec 72) (h : List (BitVec 8)),
    s.ethUp e = true → s.on (NET_E_CTRL_LOOPBACK e) = false → f.length ≤ 9212 →
    exec (.ethFrameRx e f false g h) s = .next (s.bump (NET_E_RX_FCS_ERR e))) ∧
  (∀ (s : State) (e : Fin 2) (f : List (BitVec 8)) (ok : Bool) (g : BitVec 72) (h : List (BitVec 8)),
    s.ethUp e = true → s.on (NET_E_CTRL_LOOPBACK e) = false → 9212 < f.length →
    exec (.ethFrameRx e f ok g h) s = .next (s.bump (NET_E_RX_TOO_LONG e))) ∧
  (∀ (s : State) (e : Fin 2) (f : List (BitVec 8)) (g : BitVec 72) (h : List (BitVec 8)) (b : List Nat),
    s.ethUp e = true → s.on (NET_E_CTRL_LOOPBACK e) = false → f.length ≤ 9212 → 60 ≤ f.length →
    b = f.map (·.toNat) → isPause b = false → beNum (slice b 0 6) = s.rd (NET_E_MAC e) →
    s.rd (NET_E_RX_HEAD e) = s.rd (NET_E_RX_TAIL e) → nth 0 b 0 % 2 = 0 →
    ∃ t, exec (.ethFrameRx e f true g h) s = .next t ∧
      t.rd (NET_E_RX_DROPPED e) = (s.rd (NET_E_RX_DROPPED e) + 1) % 2 ^ 32 ∧ t.rd (NET_E_STATUS_RX_DROP e) = 1 ∧
      t.rd (NET_E_RX_FRAMES e) = (s.rd (NET_E_RX_FRAMES e) + 1) % 2 ^ 32 ∧
      (t.np e).rxRun = (s.np e).rxRun + 1 ∧
      t.top = (if (s.np e).rxRun = 0 then s.fault srcNet 0x9102 (slot1 e ++ slot1 1) else s).top ∧
      t = { s with regs := t.regs, net := t.net, top := t.top }) ∧
  (∀ (s : State) (e : Fin 2) (f : List (BitVec 8)) (g : BitVec 72) (h : List (BitVec 8)) (b : List Nat),
    s.ethUp e = true → s.on (NET_E_CTRL_LOOPBACK e) = false → f.length ≤ 9212 → 60 ≤ f.length →
    b = f.map (·.toNat) → isPause b = false → beNum (slice b 0 6) ≠ s.rd (NET_E_MAC e) →
    s.on (NET_E_CTRL_PASS_EN 0) = true → s.on (NET_E_CTRL_PASS_EN 1) = true → nth 0 b 0 % 2 = 0 →
    (s.np e).fwd = [] →
    ∃ t, exec (.ethFrameRx e f true g h) s = .next t ∧
      (t.np e).fwd = [⟨b, withLatency g.toNat (s.rd (NET_E_LATENCY_INGRESS_LAT e))⟩] ∧
      s.keeps t [NET_E_RX_FRAMES e] ∧ t = { s with regs := t.regs, net := t.net }) ∧
  (∀ (s : State) (e : Fin 2) (f h : List (BitVec 8)) (g : BitVec 72) (b : List Nat) (d buf : Nat),
    s.ethUp e = true → s.on (NET_E_CTRL_LOOPBACK e) = false → f.length ≤ s.rd (NET_E_RX_RING_BUF e) * 1024 →
    f.length ≤ 9212 → 60 ≤ f.length → b = f.map (·.toNat) → isPause b = false →
    beNum (slice b 0 6) = s.rd (NET_E_MAC e) → nth 0 b 0 % 2 = 0 → 2 ≤ s.rd (NET_E_RX_RING_DEPTH e) →
    s.rd (NET_E_RX_HEAD e) ≠ s.rd (NET_E_RX_TAIL e) → (s.np e).rxStop = false → s.inSelfRefresh = false →
    d = s.rd (NET_E_RX_BASE e) + 32 * s.rd (NET_E_RX_HEAD e) → devSpace d = 1 → devOff d + 32 ≤ 2 ^ 42 →
    h.length = 32 → buf = ofLeBytes ((h.map (·.toNat)).take 8) % 2 ^ 44 → devSpace buf = 1 →
    devOff buf + f.length ≤ 2 ^ 42 → s.permitted (reqEth e) clsMemory false = true →
    s.permitted (reqEth e) clsMemory true = true → s.on (NET_E_CTRL_TS_ALL e) = false → ptpEvent b = none →
    ∃ t, exec (.ethFrameRx e f true g h) s = .next t ∧
      t.rd (NET_E_RX_HEAD e) = (if s.rd (NET_E_RX_HEAD e) + 1 < s.rd (NET_E_RX_RING_DEPTH e) then
        s.rd (NET_E_RX_HEAD e) + 1 else 0) ∧
      t.out.host = ((s.hostPut ((s.rd (NET_E_HOST_BASE e) + devOff buf) % 2 ^ 64) b).hostPut
        ((s.rd (NET_E_HOST_BASE e) + devOff (d + 8)) % 2 ^ 64)
        (leBytes 2 b.length ++ leBytes 2 (1 + 8 * b2n (tagged b)) ++ List.replicate 12 0)).out.host ∧
      t.rd (NET_E_RX_DROPPED e) = s.rd (NET_E_RX_DROPPED e)) ∧
  (∀ (s : State) (e : Fin 2) (g : FwdFrame) (f : List Nat), nextFwd (s.np (1 - e.val)).fwd = some g →
    s.ethUp e = true → s.on (NET_E_CTRL_LOOPBACK e) = false → (s.np e).launch = false → f = (s.corrected e g).1 →
    60 ≤ f.length →
    ∃ t, exec (.forwardSend e) s = .next t ∧ t.out.eth = s.out.eth ++ [(e.val, f ++ leBytes 4 (crc32 f))] ∧
      (t.np (1 - e.val)).fwd = (s.np (1 - e.val)).fwd.erase g ∧
      t.rd (NET_E_FWD_FRAMES (1 - e.val)) = (s.rd (NET_E_FWD_FRAMES (1 - e.val)) + 1) % 2 ^ 32 ∧
      t.rd (NET_E_TX_FRAMES e) = (s.rd (NET_E_TX_FRAMES e) + 1) % 2 ^ 32) ∧
  (∀ (s : State) (e : Fin 2) (tx : Bool) (v : BitVec 16),
    ∃ t, exec (.ethTailWrite e tx v) s = .next t ∧
      t.rd (if tx then NET_E_TX_TAIL e else NET_E_RX_TAIL e) = v.toNat ∧
      s.keeps t [if tx then NET_E_TX_TAIL e else NET_E_RX_TAIL e] ∧ t = { s with regs := t.regs }) ∧
  (∀ (s : State) (e : Fin 2) (ds bf : List (BitVec 8)) (d : Nat) (x f : List Nat), s.txReady e = true →
    (s.np e).launch = false → d = s.rd (NET_E_TX_BASE e) + 32 * s.rd (NET_E_TX_HEAD e) →
    (s.ethRead e d 32 (ds.map (·.toNat))).1 = .ok x → 14 ≤ ofLeBytes (slice x 8 2) →
    ofLeBytes (slice x 8 2) ≤ 9212 → s.on (NET_E_STATUS_LINK e) = true →
    bitAt (ofLeBytes (slice x 10 2)) 1 = false → s.on (NET_E_CTRL_LOOPBACK e) = false →
    ((s.ethRead e d 32 (ds.map (·.toNat))).2.ethRead e (ofLeBytes (x.take 8) % 2 ^ 44) (ofLeBytes (slice x 8 2))
      (bf.map (·.toNat))).1 = .ok f →
    ∃ t g, exec (.ethFrameTx e ds bf) s = .next t ∧ g = (if f.length < 60 then padTo 0 60 f else f) ∧
      t.out.eth = s.out.eth ++ [(e.val, g ++ leBytes 4 (crc32 g))] ∧
      t.rd (NET_E_TX_FRAMES e) = (s.rd (NET_E_TX_FRAMES e) + 1) % 2 ^ 32) ∧
  (∀ (s : State) (e : Fin 2) (ds bf : List (BitVec 8)) (d : Nat), s.txReady e = true → (s.np e).launch = false →
    d = s.rd (NET_E_TX_BASE e) + 32 * s.rd (NET_E_TX_HEAD e) → devSpace d = 1 → devOff d + 32 ≤ 2 ^ 42 →
    ds.length = 32 → s.permitted (reqEth e) clsMemory false = true → s.permitted (reqEth e) clsMemory true = true →
    ofLeBytes (slice (ds.map (·.toNat)) 8 2) < 14 ∨ 9212 < ofLeBytes (slice (ds.map (·.toNat)) 8 2) →
    ∃ t, exec (.ethFrameTx e ds bf) s = .next t ∧
      t.rd (NET_E_TX_HEAD e) = (if s.rd (NET_E_TX_HEAD e) + 1 < s.rd (NET_E_TX_RING e) then
        s.rd (NET_E_TX_HEAD e) + 1 else 0) ∧
      t.top = (s.fault srcNet 0x9103 (slot1 e ++ slot1 (s.rd (NET_E_TX_HEAD e)) ++
        slot1 (ofLeBytes (slice (ds.map (·.toNat)) 8 2)))).top ∧ t.out.eth = s.out.eth) ∧
  (∀ (s : State) (e : Fin 2) (ds bf : List (BitVec 8)) (d : Nat) (x : List Nat), s.txReady e = true →
    (s.np e).launch = false → d = s.rd (NET_E_TX_BASE e) + 32 * s.rd (NET_E_TX_HEAD e) →
    (s.ethRead e d 32 (ds.map (·.toNat))).1 = .ok x → 14 ≤ ofLeBytes (slice x 8 2) →
    ofLeBytes (slice x 8 2) ≤ 9212 → s.on (NET_E_STATUS_LINK e) = true →
    bitAt (ofLeBytes (slice x 10 2)) 1 = true → aheadOf (launchTime x) s.ptp = true →
    ∃ t, exec (.ethFrameTx e ds bf) s = .next t ∧ (t.np e).launch = true ∧ t.out.eth = s.out.eth ∧
      t.rd (NET_E_TX_HEAD e) = s.rd (NET_E_TX_HEAD e)) ∧
  (∀ (s : State) (e : Fin 2) (ds bf : List (BitVec 8)) (d : Nat) (x f : List Nat), s.txReady e = true →
    (s.np e).launch = true → d = s.rd (NET_E_TX_BASE e) + 32 * s.rd (NET_E_TX_HEAD e) →
    (s.ethRead e d 32 (ds.map (·.toNat))).1 = .ok x → s.on (NET_E_STATUS_LINK e) = true →
    aheadOf (launchTime x) s.ptp = false → s.on (NET_E_CTRL_LOOPBACK e) = false →
    ((s.ethRead e d 32 (ds.map (·.toNat))).2.ethRead e (ofLeBytes (x.take 8) % 2 ^ 44) (ofLeBytes (slice x 8 2))
      (bf.map (·.toNat))).1 = .ok f →
    ∃ t g, exec (.launchTimeReached e ds bf) s = .next t ∧ g = (if f.length < 60 then padTo 0 60 f else f) ∧
      t.out.eth = s.out.eth ++ [(e.val, g ++ leBytes 4 (crc32 g))] ∧
      t.rd (NET_E_TX_FRAMES e) = (s.rd (NET_E_TX_FRAMES e) + 1) % 2 ^ 32) ∧
  (∀ (s : State) (e : Fin 2), s.on (NET_E_STATUS_LINK e) = true →
    exec (.ethLinkDown e) s =
      .next (((s.wr (NET_E_STATUS_LINK e) 0).set1 (NET_E_STATUS_LINK_LOST e)).fault srcNet 0x9101 (slot1 e))) ∧
  (∀ (s : State) (e : Fin 2), s.on (NET_E_CTRL_EN e) = true →
    ∃ t, exec (.ethLinkUp e) s = .next t ∧ t.rd (NET_E_STATUS_LINK e) = 1 ∧ s.keeps t [NET_E_STATUS_LINK e] ∧
      t = { s with regs := t.regs }) ∧
  (∀ (s : State) (e k : Nat) (rs : List (List Nat)) (rest : List (Nat × List (List Nat))),
    s.scal.batches = (k, rs) :: rest → e = s.rd NET_TALLY_CFG_TALLY_PORT →
    s.rd NET_TALLY_CFG_BATCH ≤ rs.length ∨ k + s.rd NET_TALLY_CFG_BATCH_US * 400 ≤ s.now → s.ethUp e = true →
    (s.np e).launch = false → s.on (NET_E_CTRL_LOOPBACK e) = false →
    ∃ t f g, exec .datagramSend s = .next t ∧ f = (s.datagram e (s.datagramPayload rs)).1 ∧
      g = (if f.length < 60 then padTo 0 60 f else f) ∧ t.out.eth = s.out.eth ++ [(e, g ++ leBytes 4 (crc32 g))] ∧ t.scal.batches = rest ∧
      t.net.dgramSeq = (s.net.dgramSeq + 1) % 65536 ∧
      t.rd (NET_E_TX_FRAMES e) = (s.rd (NET_E_TX_FRAMES e) + 1) % 2 ^ 32 ∧
      s.keeps t [NET_E_TX_FRAMES e])

/-! ### Device chains (chapter 14) -/

/-- R412 to R426: a member joins with its ID, measures its delays, sends and follows positions, reports and is
missed, keeps the root's time, runs remote commands and stores summaries. Where a rule leaves it open this
rests on the model's own choice or reading: log 2, 27, 95, 126, 127, 128, 129. -/
def Obligations.ChainMembersMeasureFollowAndReport : Prop :=
  (∀ (s : State), s.deviceId ≠ idAll → s.member = false →
    ∃ t, exec (.chainEnable true) s = .next t ∧ t.member = true ∧ t.chain.muted = false ∧
      t.chain.lastPos = some s.now ∧ t.chain.posAt = s.now ∧ t.chain.hbAt = s.now ∧
      s.keeps t (CHAIN_CTRL_EN :: (List.range 3).flatMap (fun k => [CHAIN_LP_STATE_ROLE k, CHAIN_LP_BELOW k])) ∧
      t = { s with regs := t.regs, chain := t.chain }) ∧
  (∀ (s : State), s.deviceId = idAll → exec (.chainEnable true) s = .next (s.reject CHAIN_STATUS_CFG_REJECT srcChain
    CHAIN_CTRL.off (1 + 2 * s.rd CHAIN_CTRL_ROOT))) ∧
  (∀ (s : State), s.member = true →
    ∃ u : State, exec (.chainEnable false) s = .next u.recheck ∧ u.member = false ∧ u.chain.members = [] ∧
      u.rd CHAIN_STATUS_PARENT = 3 ∧ u.rd CHAIN_STATUS_POS_VALID = 0 ∧ u.rd CHAIN_STATUS_HOPS = 0 ∧
      u = { s with regs := u.regs, chain := u.chain }) ∧
  (∀ (s : State) (k : Fin 3), s.groupUp (12 + k.val) 0 = true → spGet (fun _ => 0) s.chain.probeAt k ≤ s.now →
    (s.lp k).asked = none → s.chain.muted = false →
    ∃ t, exec (.delayProbeSend k) s = .next t ∧ (t.lp k).asked = some s.now ∧
      spGet (fun _ => 0) t.chain.probeAt k = s.now + 400000 ∧
      t.out.packets = s.out.packets ++ [(12 + k.val, 0,
        { ty := pkTime, payload := [s.ownHead idAll, s.ptp48, 0xFFFFFFFF] })] ∧
      s.keeps t [ZL_CNT_PKT_TX (12 + k.val)] ∧ t = { s with regs := t.regs, chain := t.chain, out := t.out }) ∧
  (∀ (s : State) (k : Fin 3) (turn : BitVec 31) (p : Packet) (rest : List Packet), s.peerPk k p rest →
    isProbe p = true → s.groupUp (12 + k.val) 0 = true → (s.lp k).asked = none → s.chain.muted = false →
    ∃ t, exec (.delayProbeRx k turn) s = .next t ∧ (t.grp (12 + k.val) 0).rx = rest ∧
      t.out.packets = s.out.packets ++ [(12 + k.val, 0,
        { ty := pkTime, payload := [s.ownHead (headSrc (nth 0 p.payload 0)), s.ptp48, 2 ^ 31 + turn.toNat] })] ∧
      s.keeps t [ZL_CNT_PKT_TX (12 + k.val)] ∧ t = { s with regs := t.regs, zl := t.zl, out := t.out }) ∧
  (∀ (s : State) (k : Fin 3) (rtt : Nat) (p : Packet) (rest : List Packet) (rs : List Int), s.peerPk k p rest →
    isReply p = true → s.member = false ∨ headSrc (nth 0 p.payload 0) ≠ s.deviceId → (s.lp k).asked ≠ none →
    rtt ≤ 560000 → rs = (((rtt : Int) - bitsAt (timeAcc p) 0 31) :: (s.lp k).results).take 16 →
    ∃ t, exec (.probeReplyRx k rtt) s = .next t ∧ (t.lp k).results = rs ∧ (t.lp k).unanswered = 0 ∧
      (t.lp k).asked = none ∧ t.rd (CHAIN_LP_OW k) = meanOneWay rs % 2 ^ 20 ∧
      t.rd (CHAIN_LP_STATE_NEIGHBOUR k) = headSrc (nth 0 p.payload 0) ∧
      t.rd (CHAIN_LP_TURN k) = bitsAt (timeAcc p) 0 31 % 2 ^ 20 ∧
      s.keeps t [CHAIN_LP_OW k, CHAIN_LP_STATE_NEIGHBOUR k, CHAIN_LP_TURN k] ∧
      t = { s with regs := t.regs, zl := t.zl, chain := t.chain }) ∧
  (∀ (s : State) (k : Fin 3) (rtt : Nat) (p : Packet) (rest : List Packet), s.peerPk k p rest →
    isReply p = true → s.member = true → headSrc (nth 0 p.payload 0) = s.deviceId →
    ∃ t, exec (.probeReplyRx k rtt) s = .next t ∧ t.rd CHAIN_STATUS_DUP_ID = 1 ∧ t.chain.muted = true) ∧
  (∀ (s : State) (a b : BitVec 32) (p : Packet), s.member = true → s.isRoot = true → s.chain.posAt ≤ s.now →
    s.chain.muted = false → (s.chain.posSent + 1) % 64 ≠ 0 →
    p = { ty := pkPos, payload := [s.ownHead idAll, toBits 64 s.pos16, toBits 64 s.posVelocity, a.toNat] } →
    ∃ t, exec (.posSend a b) s = .next t ∧ t.chain.posSent = s.chain.posSent + 1 ∧
      t.chain.posAt = s.now + s.rd CHAIN_TIMING_POS_PERIOD ∧
      t.out.packets = s.out.packets ++
        ((List.range 3).filter (fun k => s.groupUp (12 + k) 0)).map (fun k => (12 + k, 0, p)) ∧
      s.keeps t [ZL_CNT_PKT_TX 12, ZL_CNT_PKT_TX 13, ZL_CNT_PKT_TX 14] ∧
      t = { s with regs := t.regs, chain := t.chain, out := t.out }) ∧
  (∀ (s : State) (k : Fin 3) (r : Nat) (phi : Fin 140) (p : Packet) (rest : List Packet), s.peerPk k p rest →
    p.ty = pkPos → s.member = false → exec (.posRx k r phi) s = .next (s.peerRest k rest)) ∧
  (∀ (s : State) (k : Fin 3) (r : Nat) (phi : Fin 140) (p : Packet) (rest : List Packet), s.peerPk k p rest →
    p.ty = pkPos → s.member = true → s.isRoot = true ∨ headSrc (nth 0 p.payload 0) ≠ s.rd CHAIN_CFG_ROOT_ID →
    s.chain.conflicts = [] →
    ∃ t, exec (.posRx k r phi) s = .next t ∧ t.rd CHAIN_STATUS_ROOT_CONFLICT = 1 ∧
      t.chain.conflicts = [headSrc (nth 0 p.payload 0)] ∧
      t.top = (s.fault srcChain 0x9015 (slot1 (headSrc (nth 0 p.payload 0)))).top ∧
      s.keeps t (CHAIN_STATUS_ROOT_CONFLICT :: faultFlds)) ∧
  (∀ (s : State) (k : Fin 3) (r : Nat) (phi : Fin 140) (p : Packet) (rest : List Packet), s.peerPk k p rest →
    p.ty = pkPos → s.below → headSrc (nth 0 p.payload 0) = s.rd CHAIN_CFG_ROOT_ID →
    ∃ t, exec (.posRx k r phi) s = .next t ∧ (t.lp k).pos = some ⟨s.rd CHAIN_CFG_ROOT_ID,
        headHops (nth 0 p.payload 0), bitsAt (nth 0 p.payload 3) 0 32 + s.rd (CHAIN_LP_OW k), s.now⟩ ∧
      t.chain.lastPos = some s.now ∧ t.rd CHAIN_STATUS_POS_VALID = 1) ∧
  (∀ (s : State) (k : Fin 3) (r : Nat) (phi : Fin 140) (p : Packet) (rest : List Packet) (d : Nat) (x : Int),
    s.peerPk k p rest → p.ty = pkPos → s.below → headSrc (nth 0 p.payload 0) = s.rd CHAIN_CFG_ROOT_ID →
    s.parent = some k.val → s.groupUp (12 + k.val) 0 = true → s.chain.posLost = false →
    (∀ j ∈ List.range 3, j ≠ k.val → (s.lp j).pos = none) →
    s.rd TIMELINE_CTRL_MASTER_SRC = srcChainMaster → s.on TIMELINE_CTRL_RUN = true →
    d = bitsAt (nth 0 p.payload 3) 0 32 + s.rd (CHAIN_LP_OW k) →
    x = signed 64 (nth 0 p.payload 1) * (2 : Int) ^ 24 +
      rneDiv (signed 64 (nth 0 p.payload 2) * ((d : Int) - phi.val)) 140 + s.rdS CHAIN_POS_OFFSET * (2 : Int) ^ 24 →
    ∃ t, exec (.posRx k r phi) s = .next t ∧
      t.rd CHAIN_STATUS_HOPS = min 15 (headHops (nth 0 p.payload 0) + 1) ∧ t.rd CHAIN_POS_DELAY = d % 2 ^ 32 ∧
      (-(2 : Int) ^ 87 ≤ x → x < (2 : Int) ^ 87 →
        t.tl.latched = x ∧ t.rd CHAIN_POS_RX = toBits 64 (floorShift x 24))) ∧
  (∀ (s : State) (k : Nat), s.chain.lastPos = some k → s.below → s.chain.posLost = false →
    k + s.rd CHAIN_TIMING_POS_TIMEOUT * 400 ≤ s.now → s.rd TIMELINE_CTRL_MASTER_SRC ≠ srcChainMaster →
    ∃ u : State, exec .posLost s = .next u.recheck ∧ u.rd CHAIN_STATUS_POS_LOST = 1 ∧
      u.rd CHAIN_STATUS_POS_VALID = 0 ∧ u.chain = { s.chain with posLost := true } ∧
      u.top = (s.fault srcChain 0x9002 (slotPos s.pos16)).top ∧
      s.keeps u ([CHAIN_STATUS_POS_LOST, CHAIN_STATUS_POS_VALID] ++ faultFlds) ∧
      u = { s with regs := u.regs, chain := u.chain, top := u.top }) ∧
  (∀ (s : State), s.below → s.chain.hbAt ≤ s.now →
    ∃ t u, exec .heartbeatSend s = .next t ∧
      u = { s with chain := { s.chain with hbAt := s.now + s.rd CHAIN_HB_HEARTBEAT * 400 } }.showSpan ∧
      u.rd CHAIN_SPAN = s.rd STITCH_XBASE % 2 ^ 20 ∧ u.rd CHAIN_SPAN_W = s.rd STITCH_LAYOUT_WIDTH % 2 ^ 18 ∧
      t = u.sendTo (s.rd CHAIN_CFG_ROOT_ID) { ty := pkTime, payload := [s.ownHead (s.rd CHAIN_CFG_ROOT_ID),
        s.rd STITCH_XBASE + s.rd STITCH_LAYOUT_WIDTH * 2 ^ 20, 0] }) ∧
  (∀ (s : State) (k : Fin 3) (p : Packet) (rest : List Packet) (src : Nat), s.peerPk k p rest →
    isHeartbeat p = true → s.member = true → s.isRoot = true → src = headSrc (nth 0 p.payload 0) →
    src ≠ s.deviceId → headDst (nth 0 p.payload 0) = s.deviceId → s.chain.gone = [] →
    ∃ t, exec (.heartbeatRx k) s = .next t ∧
      t.chain.members = ⟨src, k, s.now, bitsAt (nth 0 p.payload 1) 0 20, bitsAt (nth 0 p.payload 1) 20 18⟩ ::
        s.chain.members.filter (fun m => m.id ≠ src) ∧
      t.rd ⟨(CHAIN_MEMBERS (src / 32)).off, src % 32, 1⟩ = 1 ∧ (t.grp (12 + k.val) 0).rx = rest) ∧
  (∀ (s : State), s.chain.gone = [] →
    (∀ m ∈ s.chain.members, s.now ≤ m.tick + s.rd CHAIN_HB_LIVE_TIMEOUT * 400) →
    exec .liveTimeout s = .next s) ∧
  (∀ (s : State) (m : Member), s.isRoot = true → s.chain.gone = [] → s.chain.members = [m] → m.id < 4096 →
    m.tick + s.rd CHAIN_HB_LIVE_TIMEOUT * 400 < s.now → (s.rd CHAIN_LOSS_MARGIN : Int) < 65535 →
    ∃ t, exec .liveTimeout s = .next t ∧ t.chain.members = [] ∧
      t.rd ⟨(CHAIN_MEMBERS (m.id / 32)).off, m.id % 32, 1⟩ = 0 ∧
      t.chain.gone = [⟨m.id, m.xbase, m.width, s.line - s.rd CHAIN_LOSS_MARGIN⟩] ∧
      t.top = (s.fault srcChain 0x9004 (slot1 m.id)).top) ∧
  (∀ (s : State) (k : Fin 3) (r : Nat) (p : Packet) (rest : List Packet), s.peerPk k p rest → isTime p = true →
    s.below → headSrc (nth 0 p.payload 0) = s.rd CHAIN_CFG_ROOT_ID →
    ∃ t, exec (.timeBroadcastRx k r) s = .next t ∧ t.rd CHAIN_TIME_LOCAL = s.ptp48 % 2 ^ 48 ∧
      t.rd CHAIN_TIME_ROOT =
        (bitsAt (nth 0 p.payload 1) 0 48 + uiNs (timeAcc p + s.rd (CHAIN_LP_OW k))) % 2 ^ 48) ∧
  (∀ (s : State) (k : Fin 3) (p : Packet) (rest : List Packet) (q : Fin 8) (ws : List Nat), s.peerPk k p rest →
    p.ty = pkCmd → s.member = true → s.forMe p → q.val = bitsAt (nth 0 p.payload 1) 8 3 →
    ws = p.payload.drop 2 → ws.length = bitsAt (nth 0 p.payload 1) 0 7 → 1 ≤ ws.length → ws.length ≤ 64 →
    s.permitted (reqLp k) clsJob true = true → bitAt (s.rd CHAIN_CMD_EN) q = true → s.qState q = qIdle →
    flowIn 64 ws = false → (s.scq q).wait = none →
    ∃ t, exec (.cmdRx k) s = .next t ∧ (t.scq q).blocks = (s.scq q).blocks ++ [(k.val, ws)] ∧
      t.qState q = qRunning ∧ (t.grp (12 + k.val) 0).rx = rest ∧ t.top = s.top ∧
      t = { s with regs := t.regs, zl := t.zl, scribe := t.scribe }) ∧
  (∀ (s : State) (k : Fin 3) (p : Packet) (rest : List Packet) (ws : List Nat), s.peerPk k p rest →
    p.ty = pkCmd → s.member = true → s.forMe p → ws = p.payload.drop 2 →
    ws.length = bitsAt (nth 0 p.payload 1) 0 7 → 1 ≤ ws.length → ws.length ≤ 64 →
    s.permitted (reqLp k) clsJob true = true → bitAt (s.rd CHAIN_CMD_EN) (bitsAt (nth 0 p.payload 1) 8 3) = false →
    exec (.cmdRx k) s = .next ((s.peerRest k rest).fault srcChain 0x9006
      (slot1 (headSrc (nth 0 p.payload 0)) ++ slot1 (bitsAt (nth 0 p.payload 1) 8 3) ++ slot1 0))) ∧
  (∀ (s : State) (k : Fin 3) (p : Packet) (rest : List Packet) (a : Nat), s.peerPk k p rest → p.ty = pkSummary →
    s.member = true → s.forMe p → s.on CHAIN_SUM_CFG_SUM_EN = true →
    a = s.rd CHAIN_SUM_BASE + headSrc (nth 0 p.payload 0) * 4096 → devSpace a = 1 → p.payload.length = 513 →
    devOff a + 4096 ≤ 2 ^ 42 → s.permitted (reqLp k) clsMemory true = true →
    exec (.summaryRx k) s = .next ((s.peerRest k rest).hostPut (devOff a)
      ((p.payload.drop 1).flatMap (leBytes 8)))) ∧
  (∀ (s : State) (k : Fin 3) (p : Packet) (rest : List Packet), s.peerPk k p rest → p.ty = pkSummary →
    s.member = true → s.forMe p → s.on CHAIN_SUM_CFG_SUM_EN = false →
    exec (.summaryRx k) s = .next (s.peerRest k rest))

/-- R427 to R431, R436: ARM offers the change at C, members accept, the root decides, and from C the mode and
epoch are those of the change; MODE changes them at once. Where a rule leaves it open this rests on the
model's own choice or reading: log 2, 123, 124, 125. -/
def Obligations.ModeChangesAreArmedDecidedAndApplied : Prop :=
  (∀ (s : State) (q : Fin 8) (w d : Nat) (c : Int), s.cmdAt q w [d] → cmdOp w = 0x08 → c = signed 64 d →
    legalArm s.mode (bitsAt w 0 4) = true → s.member = false → s.chain.arm = none →
    s.rd CHAIN_GUARD * 65536 < c - s.pos16 → s.schedUsed < 2046 → bitAt (cmdFlags w) 0 = true →
    ∃ t, exec (.cmdArm q) s = .next t ∧ s.waits t q .mode ∧ t.rd CHAIN_ARM_STATE = 1 ∧
      t.rd TOP_MODE_ARMED = bitsAt w 0 4 ∧ t.rd CHAIN_ARM_TARGET = bitsAt w 0 4 ∧ t.rd CHAIN_ARM_POS = d % 2 ^ 64 ∧
      t.chain.arm.map (fun a => (a.target, a.epoch, a.pos, a.members)) =
        some (bitsAt w 0 4, (s.rd CHAIN_EPOCH + 1) % 2 ^ 32, c, [s.deviceId])) ∧
  (∀ (s : State) (q : Fin 8) (w d : Nat), s.cmdAt q w [d] → cmdOp w = 0x08 →
    legalArm s.mode (bitsAt w 0 4) = false →
    ∃ t, exec (.cmdArm q) s = .next t ∧ s.queueErr t q 0x8009 ∧ t.chain = s.chain) ∧
  (∀ (s : State) (q : Fin 8) (w k : Nat), s.cmdAt q w [] → cmdOp w = 0x0A → k = bitsAt w 0 4 →
    legalMode s.mode k = true → k = 3 ∨ k = 4 ∨ k = 10 → s.mode ≠ 11 →
    ∃ t, exec (.cmdMode q) s = .next t ∧ t.mode = k ∧ t.rd TOP_MODE_PREV = s.mode ∧
      t.rd TOP_EPOCH = s.rd TOP_EPOCH) ∧
  (∀ (s : State) (q : Fin 8) (w : Nat), s.cmdAt q w [] → cmdOp w = 0x0A →
    legalMode s.mode (bitsAt w 0 4) = false →
    ∃ t, exec (.cmdMode q) s = .next t ∧ s.queueErr t q 0x8008 ∧ t.mode = s.mode) ∧
  (∀ (s : State) (k : Fin 3) (p : Packet) (rest : List Packet) (c : Int), s.peerPk k p rest → isMode 1 p = true →
    s.below → headSrc (nth 0 p.payload 0) = s.rd CHAIN_CFG_ROOT_ID → s.forMe p → c = signed 64 (nth 0 p.payload 2) →
    s.schedUsed < 2048 →
    ∃ t, exec (.modeArmRx k) s = .next t ∧ t.rd CHAIN_ARM_STATE = 1 ∧
      t.rd TOP_MODE_ARMED = bitsAt (nth 0 p.payload 1) 4 4 ∧ t.rdS CHAIN_ARM_POS = c ∧
      t.chain = { s.chain with arm := some ⟨bitsAt (nth 0 p.payload 1) 4 4, modeEpoch p, c, [], [], [], [], true,
        false, none, none⟩ }) ∧
  (∀ (s : State) (a : ModeArm), s.chain.arm = some a → a.acked = false → s.rd CHAIN_ARM_STATE = 1 →
    legalArm s.mode a.target = true → a.held = true → s.pipesReady = true → s.rootLike = true →
    exec .modeAckSend s = .next { s with chain := { s.chain with
      arm := some { a with acked := true, acks := s.deviceId :: a.acks } } }) ∧
  (∀ (s : State) (a : ModeArm), s.chain.arm = some a → a.acked = false → s.rd CHAIN_ARM_STATE = 1 →
    legalArm s.mode a.target = true → a.held = true → s.pipesReady = true → s.below →
    exec .modeAckSend s = .next ({ s with chain := { s.chain with
      arm := some { a with acked := true } } }.reportRoot 2 a.target a.epoch a.pos)) ∧
  (∀ (s : State) (a : ModeArm), s.chain.arm = some a → legalArm s.mode a.target = false →
    exec .modeAckSend s = .next s) ∧
  (∀ (s : State) (e : SchedEntry) (a : ModeArm), firstDue s.now s.tl.sched = some e → e.act = .modeDecision →
    s.chain.arm = some a → (∀ i ∈ a.members, i ∈ a.acks) →
    ∃ t, exec .modeDecision s = .next t ∧ t.rd CHAIN_ARM_STATE = 2 ∧ t.chain = s.chain ∧
      s.keeps t [CHAIN_ARM_STATE] ∧ t = { s with regs := t.regs, tl := t.tl }) ∧
  (∀ (s : State) (e : SchedEntry) (a : ModeArm) (i : Nat), firstDue s.now s.tl.sched = some e →
    e.act = .modeDecision → s.chain.arm = some a → a.members = [i] →
    i ∉ a.acks → i < 4095 → s.member = false → a.queue = none →
    ∃ t, exec .modeDecision s = .next t ∧ t.rd CHAIN_ARM_STATE = 3 ∧ t.rd CHAIN_ARM_MISSING = i ∧
      t.rd TOP_MODE_ARMED = 15 ∧ t.chain = { s.chain with arm := none } ∧
      (∀ x ∈ t.tl.sched, x.act ≠ .modeChange) ∧
      t.top = (s.fault srcChain 0x9010 (slot1 a.epoch ++ slot1 i)).top) ∧
  (∀ (s : State) (e : SchedEntry) (a : ModeArm), firstDue s.now s.tl.sched = some e → e.act = .modeChange →
    s.chain.arm = some a → legalArm s.mode a.target = true → a.target ≠ 7 →
    s.pipesReady = true → s.below → a.epoch < 2 ^ 32 → a.queue = none →
    ∃ t, exec .modeChangeApply s = .next t ∧ t.mode = a.target ∧ t.rd TOP_EPOCH = a.epoch ∧
      t.rd CHAIN_EPOCH = a.epoch ∧ t.rd CHAIN_ARM_STATE = 4 ∧ t.rd TOP_MODE_ARMED = 15 ∧ t.chain.arm = none) ∧
  (∀ (s : State) (k : Fin 3) (p : Packet) (rest : List Packet) (a : ModeArm), s.peerPk k p rest →
    isMode 2 p = true → s.member = true → s.isRoot = true → s.forMe p → s.chain.arm = some a →
    a.epoch = modeEpoch p → s.rd CHAIN_ARM_STATE = 1 →
    exec (.modeAckRx k) s = .next { s.peerRest k rest with chain := { s.chain with
      arm := some { a with acks := headSrc (nth 0 p.payload 0) :: a.acks } } }) ∧
  (∀ (s : State) (k : Fin 3) (p : Packet) (rest : List Packet) (a : ModeArm), s.peerPk k p rest →
    isMode 3 p = true → s.below → headSrc (nth 0 p.payload 0) = s.rd CHAIN_CFG_ROOT_ID → s.forMe p →
    s.chain.arm = some a → a.epoch = modeEpoch p → a.queue = none →
    ∃ t, exec (.modeCancelRx k) s = .next t ∧ t.rd CHAIN_ARM_STATE = 3 ∧ t.rd TOP_MODE_ARMED = 15 ∧
      t.chain = { s.chain with arm := none } ∧ (∀ x ∈ t.tl.sched, x.act ≠ .modeChange) ∧
      s.keeps t [CHAIN_ARM_STATE, TOP_MODE_ARMED]) ∧
  (∀ (s : State) (k : Fin 3) (p : Packet) (rest : List Packet), s.peerPk k p rest →
    isMode 3 p = true → s.below → headSrc (nth 0 p.payload 0) = s.rd CHAIN_CFG_ROOT_ID → s.forMe p →
    s.chain.arm = none → s.rd CHAIN_ARM_STATE = 4 →
    exec (.modeCancelRx k) s = .next ((s.peerRest k rest).fault srcChain 0x9012 (slot1 (modeEpoch p)))) ∧
  (∀ (s : State) (k : Fin 3) (p : Packet) (rest : List Packet) (a : ModeArm) (n : Nat), s.peerPk k p rest →
    isMode 4 p = true → s.member = true → s.isRoot = true → s.forMe p → s.chain.arm = some a →
    a.epoch = modeEpoch p → a.appliedAt = some n → a.split = [] →
    (∀ i ∈ a.members, i = headSrc (nth 0 p.payload 0) ∨ i ∈ a.applied) →
    ∃ t, exec (.modeAppliedRx k) s = .next t ∧ t.rd CHAIN_ARM_STATE = 4 ∧ t.chain = { s.chain with arm := none } ∧
      s.keeps t [CHAIN_ARM_STATE] ∧ t = { s with regs := t.regs, zl := t.zl, chain := t.chain }) ∧
  (∀ (s : State) (k : Fin 3) (p : Packet) (rest : List Packet) (a : ModeArm) (n : Nat), s.peerPk k p rest →
    isMode 5 p = true → s.member = true → s.isRoot = true → s.forMe p → s.chain.arm = some a →
    a.epoch = modeEpoch p → a.appliedAt = some n →
    (∀ i ∈ a.members, i ∈ a.applied ∨ i = headSrc (nth 0 p.payload 0) ∨ i ∈ a.split) →
    ∃ t, exec (.modeSplitRx k) s = .next t ∧ t.rd CHAIN_ARM_STATE = 5 ∧ t.chain = { s.chain with arm := none } ∧
      s.keeps t [CHAIN_ARM_STATE] ∧ t = { s with regs := t.regs, zl := t.zl, chain := t.chain }) ∧
  (∀ (s : State) (a : ModeArm) (n i : Nat), s.chain.arm = some a → a.appliedAt = some n → n + 400000 ≤ s.now →
    a.members = [i] → i ∉ a.applied → i ∉ a.split → s.chain.members = [] → a.split = [] →
    ∃ t, exec .applyMissing s = .next t ∧ t.rd CHAIN_ARM_STATE = 4 ∧ t.chain = { s.chain with arm := none } ∧
      t.top = (s.fault srcChain 0x9013 (slot1 i ++ slot1 a.epoch)).top)

/-! ### Faults, summaries, HALT and resets (chapter 15) -/

/-- R447 to R452, R454, R455: a fault leaves the input queue for the log and the ring with its eight words, raises
FAULT_RECORDED, ALERT and HALT by its class, and is counted when lost; worn parts give way to spares. Where a
rule leaves it open this rests on the model's own choice or reading: log 2, 10, 11, 142. -/
def Obligations.FaultsAreLoggedCopiedAndActedOn : Prop :=
  (∀ (s : State), s.top.inQ = [] → exec .faultRecord s = .next s) ∧
  (∀ (s : State) (f : FaultRec) (rest : List FaultRec) (a b : Nat) (ws : List Nat), s.top.inQ = f :: rest →
    s.top.logAt ≤ s.now → f.slots = [a, b] → f.code < 65536 → f.source < 256 → f.opens = none →
    s.rd TOP_FAULT_RING_DEPTH < 2 → s.on TOP_FAULT_IRQ_IRQ_EN = false →
    bitAt (s.rd TOP_FAULT_POLICY_ALERT_MASK) (f.code / 4096) = false →
    bitAt (s.rd TOP_FAULT_POLICY_HALT_MASK) (f.code / 4096) = false → f.code ≠ 0xA011 →
    ws = [f.code + f.source * 2 ^ 16, f.epoch, toBits 64 f.pos % 2 ^ 32, toBits 64 f.pos / 2 ^ 32, f.ptpNs,
      f.ptpWrap % 2 ^ 16 + f.seq % 2 ^ 16 * 2 ^ 16, a, b] →
    ∃ t, exec .faultRecord s = .next t ∧ t.top.inQ = rest ∧ t.top.logAt = s.now + 4 ∧
      t.rd TOP_FAULT_LOG_WR = (s.rd TOP_FAULT_LOG_WR + 1) % 256 ∧
      (∀ k ∈ List.range 8, spGet (fun _ => 0) t.top.log (8 * s.rd TOP_FAULT_LOG_WR + k) =
        BitVec.ofNat 32 (nth 0 ws k)) ∧
      (∀ i, i / 8 ≠ s.rd TOP_FAULT_LOG_WR →
        spGet (fun _ => 0) t.top.log i = spGet (fun _ => 0) s.top.log i) ∧
      t.rd TOP_FAULT_LOG_WRAPPED = (if s.top.logFull then 1 else s.rd TOP_FAULT_LOG_WRAPPED) ∧
      t.top.logFull = (s.top.logFull || s.rd TOP_FAULT_LOG_WR == 255) ∧ t.ev = (s.occur 254).ev ∧
      s.keeps t [TOP_FAULT_LOG_WR, TOP_FAULT_LOG_WRAPPED] ∧
      t = { s with regs := t.regs, top := t.top, ev := t.ev }) ∧
  (∀ (s : State) (f : FaultRec) (rest : List FaultRec) (d : Nat), s.top.inQ = f :: rest → s.top.logAt ≤ s.now →
    f.slots.length ≤ 2 → d = s.rd TOP_FAULT_RING_DEPTH → 2 ≤ d →
    (s.rd TOP_FAULT_RING_WR + 1) % d = s.rd TOP_FAULT_RD →
    bitAt (s.rd TOP_FAULT_POLICY_HALT_MASK) f.cls = false →
    ∃ t, exec .faultRecord s = .next t ∧ t.rd TOP_STATUS_RING_DROP = 1 ∧
      t.rd TOP_FAULT_DROPPED = (s.rd TOP_FAULT_DROPPED + 1) % 2 ^ 32 ∧
      t.rd TOP_FAULT_RING_WR = s.rd TOP_FAULT_RING_WR ∧ t.out.host = s.out.host) ∧
  (∀ (s : State) (f : FaultRec) (rest : List FaultRec) (d a : Nat), s.top.inQ = f :: rest → s.top.logAt ≤ s.now →
    f.slots.length ≤ 2 → d = s.rd TOP_FAULT_RING_DEPTH → 2 ≤ d →
    (s.rd TOP_FAULT_RING_WR + 1) % d ≠ s.rd TOP_FAULT_RD →
    a = s.rd TOP_FAULT_RING_BASE + 32 * s.rd TOP_FAULT_RING_WR → devSpace a = 1 → devOff a + 32 ≤ 2 ^ 42 →
    s.permitted reqRanger clsMemory true = true → s.sec.perst = true →
    bitAt (s.rd TOP_FAULT_POLICY_HALT_MASK) f.cls = false →
    ∃ t, exec .faultRecord s = .next t ∧ t.rd TOP_FAULT_RING_WR = (s.rd TOP_FAULT_RING_WR + 1) % d ∧
      t.rd TOP_FAULT_DROPPED = s.rd TOP_FAULT_DROPPED ∧
      t.out.host = (s.hostPut (devOff a) ((nth [] f.entries 0).flatMap (leBytes 4))).out.host) ∧
  (∀ (s : State) (f : FaultRec) (rest : List FaultRec), s.top.inQ = f :: rest → s.top.logAt ≤ s.now →
    bitAt (s.rd TOP_FAULT_POLICY_ALERT_MASK) (f.code / 4096) = true →
    bitAt (s.rd TOP_FAULT_POLICY_HALT_MASK) (f.code / 4096) = false → s.rd TOP_FAULT_RING_DEPTH < 2 →
    ∃ t, exec .faultRecord s = .next t ∧ t.rd TOP_STATUS_ALERT = 1 ∧ t.mode = s.mode) ∧
  (∀ (s : State) (f : FaultRec) (rest : List FaultRec), s.top.inQ = f :: rest → s.top.logAt ≤ s.now →
    bitAt (s.rd TOP_FAULT_POLICY_HALT_MASK) (f.code / 4096) = true → s.rd TOP_FAULT_RING_DEPTH < 2 →
    s.mode ≠ 0 → s.mode ≠ 11 → f.code < 65536 →
    ∃ t, exec .faultRecord s = .next t ∧ t.mode = 11 ∧ t.rd TOP_HALT_INFO_CAUSE = 3 ∧
      t.rd TOP_HALT_INFO_CODE = f.code ∧ t.rd TOP_HALT_INFO_CLASS = f.code / 4096) ∧
  (∀ (s : State), 64 ≤ s.top.inQ.length →
    ∃ t, exec .faultLost s = .next t ∧ t.rd TOP_FAULT_SEQ = (s.rd TOP_FAULT_SEQ + 1) % 2 ^ 32 ∧
      t.rd TOP_FAULT_LOST = (s.rd TOP_FAULT_LOST + 1) % 2 ^ 32 ∧ t.rd TOP_STATUS_FAULT_LOST = 1 ∧
      s.keeps t faultFlds ∧ t = { s with regs := t.regs }) ∧
  (∀ (s : State), s.top.inQ.length < 64 → exec .faultLost s = .next s) ∧
  (∀ (s : State) (r : Fin 5) (n v : Nat), r.val = 4 → s.top.ringHoldUntil = some n → n ≤ s.now →
    s.top.ringMoved = true → s.on TOP_FAULT_IRQ_IRQ_EN = true → v = s.rd TOP_FAULT_IRQ_VECTOR → v < 256 →
    s.msixOpen v = true → s.sec.perst = true →
    ∃ t, exec (.ringHoldoffEnd r) s = .next t ∧ t.out.msix = s.out.msix ++ [v] ∧
      t.top = { s.top with ringHoldUntil := some (s.now + s.rd TOP_FAULT_IRQ_HOLDOFF * 400), ringMoved := false } ∧
      t.rd (msixPba v) = 0 ∧ s.keeps t [msixPba v] ∧ t = { s with regs := t.regs, top := t.top, out := t.out }) ∧
  (∀ (s : State) (r : Fin 5) (n : Nat), r.val = 4 → s.top.ringHoldUntil = some n → n ≤ s.now →
    s.top.ringMoved = false →
    exec (.ringHoldoffEnd r) s = .next { s with top := { s.top with ringHoldUntil := none } }) ∧
  (∀ (s : State) (r : Fin 5) (e n v : Nat), r.val = 2 * e → e < 2 → (s.np e).rxHold = some n → n ≤ s.now →
    (s.np e).rxMoved = true → v = s.rd (NET_E_IRQ_RX_VECTOR e) → v < 256 →
    s.msixOpen v = true → s.sec.perst = true →
    ∃ t, exec (.ringHoldoffEnd r) s = .next t ∧ t.out.msix = s.out.msix ++ [v] ∧
      (t.np e).rxHold = some (s.now + s.rd (NET_E_IRQ_HOLDOFF e) * 400) ∧ (t.np e).rxMoved = false) ∧
  (∀ (s : State) (r : Fin 5) (e n v : Nat), r.val = 2 * e + 1 → e < 2 → (s.np e).txHold = some n → n ≤ s.now →
    (s.np e).txMoved = true → v = s.rd (NET_E_IRQ_TX_VECTOR e) → v < 256 →
    s.msixOpen v = true → s.sec.perst = true →
    ∃ t, exec (.ringHoldoffEnd r) s = .next t ∧ t.out.msix = s.out.msix ++ [v] ∧
      (t.np e).txHold = some (s.now + s.rd (NET_E_IRQ_HOLDOFF e) * 400) ∧ (t.np e).txMoved = false) ∧
  (∀ (s : State) (a : Fin 16), s.rd (TOP_SRAM_SPARE_LEFT a) ≠ 0 → s.rangerUp = true →
    ∃ t, exec (.sramRowRemap a) s = .next t ∧ t.rd (TOP_SRAM_SPARE_LEFT a) = s.rd (TOP_SRAM_SPARE_LEFT a) - 1 ∧
      t.rd (TOP_SRAM_SPARE_REMAPS a) = min (s.rd (TOP_SRAM_SPARE_REMAPS a) + 1) 65535 ∧
      s.keeps t [TOP_SRAM_SPARE_LEFT a, TOP_SRAM_SPARE_REMAPS a] ∧ t = { s with regs := t.regs }) ∧
  (∀ (s : State) (a : Fin 16), s.rd (TOP_SRAM_SPARE_LEFT a) = 0 → exec (.sramRowRemap a) s = .next s) ∧
  (∀ (s : State) (n : Fin 15) (l : Fin 5) (k lg : Nat), (s.lane n l).eyeLowSince = some k →
    k + 400000000 ≤ s.now → s.rangerUp = true → s.groupsOf n = [0] → lg < s.logicals n → s.rxLane n 0 lg = l →
    (∀ j ∈ List.range lg, s.rxLane n 0 j ≠ l) →
    (s.port n).spareRx = none → (s.port n).swapRx = none → s.on (ZL_STATUS_SPARE_READY n) = true →
    s.spareServes n 0 = true →
    ∃ u : State, exec (.wearEyeSwap n l) s = .next u.recheck ∧
      (u.port n).swapRx = some ⟨0, lg, spareLane n, true, s.now⟩ ∧
      u.out.requests = s.out.requests ++ [(n.val, 3, lg, 0)] ∧
      u = { s with zl := u.zl, out := u.out }) ∧
  (∀ (s : State) (n : Fin 15) (l : Fin 5), (s.lane n l).eyeLowSince = none → exec (.wearEyeSwap n l) s = .next s)

/-- R439 to R441, R460, R461: a summary is taken at its instant, merged or left pending, and written to its
destinations; entry to M11 HALT runs the stop sequence step by step. Where a rule leaves it open this rests on
the model's own choice or reading: log 2, 136, 141. -/
def Obligations.SummariesAreTakenAndTheMachineHalts : Prop :=
  (∀ (s : State), s.top.sumTaken = none →
    ∃ t, exec .resync s = .next t ∧ t.top = { s.top with sumTaken := some (s.now, s.summary 1) } ∧
      t.rd TOP_SUMMARY_AT = s.now % 2 ^ 64 ∧ t.rd TOP_STATUS_SUM_BUSY = 1 ∧
      t.rd TOP_STATUS_SUM_PENDING = b2n (!s.top.sumReq.isEmpty) ∧
      s.keeps t [TOP_SUMMARY_AT, TOP_STATUS_SUM_BUSY, TOP_STATUS_SUM_PENDING] ∧
      t = { s with regs := t.regs, top := t.top }) ∧
  (∀ (s : State) (n : Nat) (bs : List Nat), s.top.sumTaken = some (n, bs) → n ≠ s.now → s.top.sumReq = [] →
    ∃ t, exec .resync s = .next t ∧ t.top = { s.top with sumReq := [(s.now, 1)] } ∧
      t.rd TOP_STATUS_SUM_PENDING = 1 ∧ t.rd TOP_STATUS_SUM_BUSY = 1 ∧
      s.keeps t [TOP_STATUS_SUM_PENDING, TOP_STATUS_SUM_BUSY] ∧ t = { s with regs := t.regs, top := t.top }) ∧
  (∀ (s : State), s.top.sumTaken = none → exec .summaryWritten s = .next s) ∧
  (∀ (s : State) (n : Nat) (bs : List Nat), s.top.sumTaken = some (n, bs) → s.top.sumReq = [] →
    s.rd TOP_SUMMARY_DEST = 0 → s.member = false → (∀ q ∈ List.range 8, (s.scq q).wait = none) →
    ∃ t, exec .summaryWritten s = .next t ∧ t.top.sumTaken = none ∧
      t.rd TOP_SUMMARY_COUNT = (s.rd TOP_SUMMARY_COUNT + 1) % 2 ^ 32 ∧ t.rd TOP_STATUS_SUM_BUSY = 0 ∧
      (∀ i ∈ List.range 1024, spGet (fun _ => 0) t.top.sumShown i =
        BitVec.ofNat 32 (ofLeBytes ((bs.drop (4 * i)).take 4))) ∧
      s.keeps t [TOP_SUMMARY_COUNT, TOP_STATUS_SUM_BUSY, TOP_STATUS_SUM_PENDING] ∧
      t = { s with regs := t.regs, top := t.top }) ∧
  (∀ (s : State) (n a : Nat) (bs : List Nat), s.top.sumTaken = some (n, bs) → s.top.sumReq = [] →
    a = s.rd TOP_SUMMARY_DEST → devSpace a = 1 → bs.length = 4096 → devOff a + 4096 ≤ 2 ^ 42 →
    s.permitted reqRanger clsMemory true = true → s.member = false →
    ∃ t, exec .summaryWritten s = .next t ∧ t.out = (s.hostPut (devOff a) bs).out ∧ t.top.sumTaken = none) ∧
  (∀ (s : State) (n : Nat) (bs : List Nat) (q : Fin 8) (r : Nat), s.top.sumTaken = some (n, bs) →
    s.rd TOP_SUMMARY_DEST = 0 → s.member = false → (s.scq q).wait = some (.resync r) → r ≤ n →
    ∃ t, exec .summaryWritten s = .next t ∧ (t.scq q).wait = none) ∧
  (∀ (s : State), s.mode ≠ 0 → s.mode ≠ 11 →
    ∃ t, exec .haltReq s = .next t ∧ t.mode = 11 ∧ t.rd TOP_MODE_PREV = s.mode ∧
      t.rd TOP_EPOCH = s.rd TOP_EPOCH ∧ t.rd TOP_HALT_INFO_CAUSE = 2 ∧ t.rd TOP_HALT_INFO_CLASS = 0 ∧
      t.rd TOP_HALT_INFO_CODE = 0 ∧ t.rd TOP_MODE_STOPPING = 1 ∧
      t.top.stop = [.quiesce, .cover, .summary, .selfRefresh, .idle, .alert] ∧
      t.top.haltLine = some (s.line + 1) ∧ t.tl.pos = s.tl.pos ∧ t.tl.tick = s.tl.tick) ∧
  (∀ (s : State), s.mode = 0 ∨ s.mode = 11 → exec .haltReq s = .next s) ∧
  (∀ (s : State), s.top.stop = [] → exec .haltEntry s = .next s) ∧
  (∀ (s : State) (rest : List StopStep), s.top.stop = .quiesce :: rest → s.nibsBusy = true →
    exec .haltEntry s = .next s) ∧
  (∀ (s : State) (rest : List StopStep), s.top.stop = .quiesce :: rest → s.nibsBusy = false →
    (∀ q ∈ List.range 12, ∀ j ∈ List.range 4, s.jobOn q j = false) →
    exec .haltEntry s = .next { s with top := { s.top with stop := rest, haltLow := none } }) ∧
  (∀ (s : State) (rest : List StopStep) (v : Int), s.top.stop = .cover :: rest → s.scalerBusy = false →
    s.top.haltLow = none → v = s.rdS SCALER_VERDICT → inspecting (s.modeOf v) = true →
    s.on SCALER_CTRL_EN = false → s.on TOP_STATUS_HELD_VALID = false →
    ∃ t, exec .haltEntry s = .next t ∧ t.top.stop = rest ∧ t.top.openFrom = some v ∧
      t.rd TOP_HELD_FIRST = toBits 64 (linePos v) ∧ t.rd TOP_HELD_LAST = 0x7FFFFFFFFFFF0000 ∧
      t.rd TOP_STATUS_HELD_VALID = 1 ∧ s.keeps t [TOP_HELD_FIRST, TOP_HELD_LAST, TOP_STATUS_HELD_VALID]) ∧
  (∀ (s : State) (rest : List StopStep) (v l : Int), s.top.stop = .cover :: rest → s.scalerBusy = false →
    s.top.haltLow = some l → v = min (s.rdS SCALER_VERDICT) l → inspecting (s.modeOf v) = false →
    exec .haltEntry s = .next { s with top := { s.top with stop := rest } }) ∧
  (∀ (s : State) (rest : List StopStep), s.top.stop = .summary :: rest → s.on TOP_CTRL_AUTO_SUM_HALT = false →
    exec .haltEntry s = .next { s with top := { s.top with stop := rest } }) ∧
  (∀ (s : State) (rest : List StopStep), s.top.stop = .summary :: rest → s.on TOP_CTRL_AUTO_SUM_HALT = true →
    s.top.sumTaken = none →
    ∃ t, exec .haltEntry s = .next t ∧ t.top.stop = rest ∧ t.rd TOP_SUMMARY_AT = s.now % 2 ^ 64 ∧
      t.top.sumTaken.map (·.1) = some s.now ∧ t.rd TOP_STATUS_SUM_BUSY = 1) ∧
  (∀ (s : State) (rest : List StopStep), s.top.stop = .selfRefresh :: rest → s.top.sumTaken = none →
    s.top.sumReq = [] → s.on DRAMC_SR_SR_AUTO = true → s.rd DRAMC_STATUS_SR_STATE = 0 →
    ∃ t, exec .haltEntry s = .next t ∧ t.rd DRAMC_STATUS_SR_STATE = 1 ∧ s.keeps t [DRAMC_STATUS_SR_STATE] ∧
      t.top = { s.top with stop := rest } ∧ t = { s with regs := t.regs, top := t.top }) ∧
  (∀ (s : State) (rest : List StopStep), s.top.stop = .selfRefresh :: rest → s.top.sumTaken.isSome = true →
    exec .haltEntry s = .next s) ∧
  (∀ (s : State) (rest : List StopStep), s.top.stop = .idle :: rest →
    ∃ t, exec .haltEntry s = .next t ∧ (∀ n ∈ List.range 12, t.rd (ZL_STATUS_TX_IDLE n) = 1) ∧
      s.keeps t ((List.range 12).map ZL_STATUS_TX_IDLE) ∧ t.top = { s.top with stop := rest } ∧
      t = { s with regs := t.regs, top := t.top }) ∧
  (∀ (s : State) (rest : List StopStep), s.top.stop = .alert :: rest →
    ∃ t, exec .haltEntry s = .next t ∧ t.rd TOP_STATUS_ALERT = 1 ∧ t.rd TOP_MODE_STOPPING = 0 ∧
      s.keeps t [TOP_STATUS_ALERT, TOP_MODE_STOPPING] ∧ t.top = { s.top with stop := rest } ∧
      t = { s with regs := t.regs, top := t.top })

/-- R442 to R445, R508 to R515: what a power-on, PIN, WARM or BLOCK reset leaves, and how the boot ROM starts.
Where a rule leaves it open this rests on the model's own choice or reading: log 2, 115, 137, 139, 154, 155. -/
def Obligations.ResetsKeepWhatTheirKindKeeps : Prop :=
  (∀ (s : State), s.wf = true →
    ∃ t, exec .por s = .next t ∧ t.mode = 0 ∧ t.rd TOP_RESET_INFO_LAST = 0 ∧
      t.dram = State.reset.dram ∧ t.tl = State.reset.tl ∧ t.scal = State.reset.scal ∧ t.top = State.reset.top ∧
      t.therm = State.reset.therm ∧ t.pending = s.pending ∧ t.out = s.out ∧
      (∀ w ∈ List.range 128, t.rd (SEC_FUSE w) = s.rd (SEC_FUSE w)) ∧
      (∀ off, off < 0x8000000 → off ≠ TOP_MODE.off → t.reg off = keepWord keptPor off (s.reg off))) ∧
  (∀ (s : State), ∃ t, exec .xoLoss s = .next t ∧ exec .por s = .next t ∧ t.mode = 0) ∧
  (∀ (s : State), s.wf = true → s.therm.tripped = false → s.on SEC_STRAPS_RETAIN = false →
    ∃ t, exec .pinReset s = .next t ∧ t.mode = 0 ∧ t.rd TOP_RESET_INFO_LAST = 1 ∧
      t.rd TOP_RESET_INFO_RETAINED = 0 ∧ t.dram = State.reset.dram ∧ t.top = State.reset.top ∧
      t.tl = State.reset.tl ∧ t.pending = s.pending ∧
      (∀ off, off < 0x8000000 → off ≠ TOP_MODE.off → off ≠ TOP_RESET_INFO.off → off ≠ DRAMC_STATUS.off →
        t.reg off = keepWord keptPin off (s.reg off))) ∧
  (∀ (s : State), s.wf = true → s.therm.tripped = false → s.on SEC_STRAPS_RETAIN = true →
    s.rd DRAMC_STATUS_SR_STATE = 2 →
    ∃ t, exec .pinReset s = .next t ∧ t.mode = 0 ∧ t.rd TOP_RESET_INFO_LAST = 1 ∧
      t.rd TOP_RESET_INFO_RETAINED = 1 ∧ t.dram.mem = s.dram.mem ∧ t.rd DRAMC_STATUS_SR_STATE = 2 ∧
      t.top = State.reset.top) ∧
  (∀ (s : State), s.therm.tripped = false → s.on SEC_STRAPS_RETAIN = true → s.rd DRAMC_STATUS_SR_STATE ≠ 2 →
    exec .pinReset s = .next s) ∧
  (∀ (s : State), s.on SEC_STRAPS_RETAIN = true → s.therm.tripped = false → s.mode ≠ 0 →
    s.rd DRAMC_STATUS_SR_STATE = 0 →
    ∃ t, exec .resetNRetainFall s = .next t ∧ t.webOff = true ∧ t.rd DRAMC_STATUS_SR_STATE = 1 ∧
      s.keeps t [DRAMC_STATUS_SR_STATE] ∧ t.jtag = { s.jtag with falling := true } ∧
      t = { s with regs := t.regs, jtag := t.jtag }) ∧
  (∀ (s : State), s.on SEC_STRAPS_RETAIN = false → exec .resetNRetainFall s = .next s) ∧
  (∀ (s : State) (src hold retain : Bool) (bar2 : Fin 8) (dev ranks i2c : Fin 4), s.mode = 0 →
    s.therm.tripped = false → bar2.val < 5 → dev.val ≠ 3 →
    ∃ t, exec (.resetRelease src hold retain bar2 dev ranks i2c) s = .next t ∧ t.mode = 1 ∧
      t.rd TOP_MODE_PREV = 0 ∧ t.rd SEC_STRAPS_BOOT_SRC = b2n src ∧ t.rd SEC_STRAPS_BOOT_HOLD = b2n hold ∧
      t.rd SEC_STRAPS_RETAIN = b2n retain ∧ t.rd SEC_STRAPS_BAR2_SZ = bar2.val ∧
      t.sec = { s.sec with mdDev := dev, mdRanks := ranks, i2c := i2c, tried := 0, hostBoot := false } ∧
      t.rd SEC_BOOT_STATUS_STATE = (if src && !bitAt (s.rd (SEC_FUSE 14)) 2 then 6 else 1) ∧
      t.top.inQ = s.top.inQ ∧ t.modeOf (s.line + 1) = 1 ∧ t.ev = (s.occur 253).ev ∧
      s.keepsBlocks t [0, 7] ∧ t = { s with regs := t.regs, sec := t.sec, top := t.top, ev := t.ev }) ∧
  (∀ (s : State) (src hold retain : Bool) (bar2 : Fin 8) (dev ranks i2c : Fin 4), s.mode = 0 →
    s.therm.tripped = false → 5 ≤ bar2.val → dev.val ≠ 3 → s.top.inQ = [] →
    ∃ t, exec (.resetRelease src hold retain bar2 dev ranks i2c) s = .next t ∧ t.mode = 1 ∧
      t.top.inQ.map (fun f => (f.source, f.code, f.slots)) = [(7, 0xB004, [bar2.val])]) ∧
  (∀ (s : State) (src hold retain : Bool) (bar2 : Fin 8) (dev ranks i2c : Fin 4), s.mode ≠ 0 →
    exec (.resetRelease src hold retain bar2 dev ranks i2c) s = .next s) ∧
  (∀ (s : State), 2 ≤ s.mode → s.mode ≤ 11 → s.top.warmTrain = false →
    ∃ t, exec .warmReset s = .next t ∧ t.mode = 2 ∧ t.rd TOP_MODE_PREV = s.mode ∧
      t.rd TOP_EPOCH = s.rd TOP_EPOCH ∧ t.rd TOP_RESET_INFO_LAST = 2 ∧
      t.rd TOP_RESET_INFO_WARM_COUNT = min (s.rd TOP_RESET_INFO_WARM_COUNT + 1) 255 ∧
      t.tl.pos = s.tl.pos ∧ t.tl.tick = s.tl.tick ∧ t.top.warmTrain = true ∧ t.top.warmAt = some s.now ∧
      t.top.log = s.top.log ∧ t.dram.mem = s.dram.mem) ∧
  (∀ (s : State), inspecting s.mode = true → s.top.warmTrain = false → s.on TOP_STATUS_HELD_VALID = false →
    ∃ t, exec .warmReset s = .next t ∧ t.rd TOP_STATUS_HELD_VALID = 1 ∧
      t.rd TOP_HELD_FIRST = toBits 64 (linePos (s.rdS SCALER_VERDICT)) ∧
      t.rd TOP_HELD_LAST = 0x7FFFFFFFFFFF0000) ∧
  (∀ (s : State), s.mode = 0 ∨ s.top.warmTrain = true → exec .warmReset s = .next s) ∧
  (∀ (s : State) (n : Nat), s.top.warmAt = some n → s.mode = 2 → s.dram.needInit = false →
    s.groupsUp = true ∨ n + 800000 ≤ s.now → s.on TOP_CTRL_AUTO_SUM_WARM = false →
    ∃ t, exec .warmTrainDone s = .next t ∧ t.mode = 3 ∧ t.rd TOP_MODE_PREV = 2 ∧
      t.rd TOP_EPOCH = s.rd TOP_EPOCH ∧ t.top.warmAt = none ∧ t.top.warmTrain = false ∧
      t.top.sumTaken = s.top.sumTaken) ∧
  (∀ (s : State) (n : Nat), s.top.warmAt = some n → s.mode = 2 → s.dram.needInit = false →
    s.groupsUp = true ∨ n + 800000 ≤ s.now → s.on TOP_CTRL_AUTO_SUM_WARM = true → s.top.warmTrain = true →
    s.top.sumTaken = none →
    ∃ t, exec .warmTrainDone s = .next t ∧ t.mode = 3 ∧ t.top.sumTaken.map (·.1) = some s.now ∧
      t.rd TOP_STATUS_SUM_BUSY = 1) ∧
  (∀ (s : State) (n : Nat), s.top.warmAt = some n → s.groupsUp = false → s.now < n + 800000 →
    exec .warmTrainDone s = .next s) ∧
  (∀ (s : State) (source : BitVec 8), s.wf = true → source = 0x32 ∨ source = 0x0D →
    ∃ u : State, exec (.blockReset source) s = .next u.recheck ∧ s.keepsBlocks u [source.toNat] ∧
      (∀ off, off / 65536 = source.toNat → u.reg off = keepWord keptWarm off (s.reg off)) ∧
      u.fine.bank = s.fine.bank ∧ u.sens = (if source = 0x0D then {} else s.sens) ∧
      u = { s with regs := u.regs, latchHi := u.latchHi, stageLo := u.stageLo, shOld := u.shOld, fine := u.fine,
                   sens := u.sens, top := u.top }) ∧
  (∀ (s : State) (source : BitVec 8), s.mode ≠ 7 → s.mode ≠ 8 →
    ∃ t, exec (.blockReset source) s = .next t ∧ t.mode = s.mode ∧ t.tl.pos = s.tl.pos ∧
      t.tl.tick = s.tl.tick ∧ t.dram.mem = s.dram.mem ∧ t.pending = s.pending)

/-! ### Calibration and temperature (chapter 16) -/

/-- R471 to R480: sensors convert and break, the VOTER's reading is the region's temperature, warnings and
critical stops follow counts of conversions, spares replace broken sensors, and comparators trip the device.
Where a rule leaves it open this rests on the model's own choice or reading: log 2, 147. -/
def Obligations.SensorsVoteWarnStopAndTrip : Prop :=
  (∀ (s : State) (done stuck comps : BitVec 24) (rs : BitVec 384) (i : Fin 24) (v : Int),
    bitAt done.toNat i = true → bitAt stuck.toNat i = false → s.sensBroken i = false →
    v = signed 16 (bitsAt rs.toNat (16 * i) 16) → -640 ≤ v → v ≤ 2400 →
    ∃ t, exec (.sensorConversion done stuck comps rs) s = .next t ∧ t.reading i = v ∧ t.sensBroken i = false ∧
      t.rd (THERM_SENSOR_STATE_COMPARATOR i) = b2n (bitAt comps.toNat i) ∧
      t.tsens i = { stuck := 0, last := s.now }) ∧
  (∀ (s : State) (done stuck comps : BitVec 24) (rs : BitVec 384) (i : Fin 24) (v : Int),
    bitAt done.toNat i = true → s.sensBroken i = false → v = signed 16 (bitsAt rs.toNat (16 * i) 16) →
    v < -640 ∨ 2400 < v →
    ∃ t, exec (.sensorConversion done stuck comps rs) s = .next t ∧ t.rd (THERM_SENSOR_READING i) = 0x07D0 ∧
      t.sensBroken i = true ∧ t.rd (THERM_SENSOR_STATE_REASON i) = 0 ∧
      t.rd (THERM_SENSOR_STATE_COMPARATOR i) = 1) ∧
  (∀ (s : State) (done stuck comps : BitVec 24) (rs : BitVec 384) (i : Fin 24) (v : Int),
    bitAt done.toNat i = true → bitAt stuck.toNat i = true → s.sensBroken i = false → (s.tsens i).stuck = 15 →
    v = signed 16 (bitsAt rs.toNat (16 * i) 16) → -640 ≤ v → v ≤ 2400 →
    ∃ t, exec (.sensorConversion done stuck comps rs) s = .next t ∧ t.rd (THERM_SENSOR_READING i) = 0x07D0 ∧
      t.sensBroken i = true ∧ t.rd (THERM_SENSOR_STATE_REASON i) = 1) ∧
  (∀ (s : State) (done stuck comps : BitVec 24) (rs : BitVec 384) (i : Fin 24),
    bitAt done.toNat i = false → s.sensBroken i = false → (s.tsens i).last + 400000 ≤ s.now →
    ∃ t, exec (.sensorConversion done stuck comps rs) s = .next t ∧ t.rd (THERM_SENSOR_READING i) = 0x07D0 ∧
      t.sensBroken i = true ∧ t.rd (THERM_SENSOR_STATE_REASON i) = 2) ∧
  (∀ (s : State) (done stuck comps : BitVec 24) (rs : BitVec 384) (r : Fin 8) (i : Nat) (v : Int),
    s.voter r = some i → bitAt done.toNat i = true → bitAt stuck.toNat i = false → s.sensBroken i = false →
    v = signed 16 (bitsAt rs.toNat (16 * i) 16) → -640 ≤ v → v ≤ 2400 →
    ∃ t, exec (.sensorConversion done stuck comps rs) s = .next t ∧ t.rdS (THERM_REGION_TEMP_TEMP r) = v ∧
      t.rdS (THERM_REGION_TEMP_MAX r) = max (s.rdS (THERM_REGION_TEMP_MAX r)) v) ∧
  (∀ (s : State) (done stuck comps : BitVec 24) (rs : BitVec 384) (r : Fin 8) (i : Nat) (v : Int),
    s.voter r = some i → bitAt done.toNat i = true → bitAt stuck.toNat i = false → s.sensBroken i = false →
    v = signed 16 (bitsAt rs.toNat (16 * i) 16) → (s.rd THERM_LIMITS_WARN : Int) * 16 ≤ v → -640 ≤ v → v ≤ 2400 →
    s.mode ≠ 0 → (s.treg r).warn = 3 →
    ∃ t, exec (.sensorConversion done stuck comps rs) s = .next t ∧ t.rd ⟨THERM_STATUS.off, r, 1⟩ = 1) ∧
  (∀ (s : State) (done stuck comps : BitVec 24) (rs : BitVec 384) (r : Fin 8) (i : Nat) (v : Int),
    s.voter r = some i → bitAt done.toNat i = true → bitAt stuck.toNat i = false → s.sensBroken i = false →
    v = signed 16 (bitsAt rs.toNat (16 * i) 16) → (s.rd THERM_LIMITS_CRIT : Int) * 16 ≤ v → -640 ≤ v → v ≤ 2400 →
    s.mode ≠ 0 → s.mode ≠ 11 → (s.treg r).crit = 3 → s.on ⟨THERM_STATUS.off, 8 + r, 1⟩ = false →
    ∃ t, exec (.sensorConversion done stuck comps rs) s = .next t ∧ t.rd ⟨THERM_STATUS.off, 8 + r, 1⟩ = 1 ∧
      t.mode = 11 ∧ t.rd TOP_HALT_INFO_CAUSE = 4) ∧
  (∀ (s : State) (done stuck comps : BitVec 24) (rs : BitVec 384) (r : Fin 8) (i : Nat) (v : Int),
    s.voter r = some i → bitAt done.toNat i = true → bitAt stuck.toNat i = false → s.sensBroken i = false →
    v = signed 16 (bitsAt rs.toNat (16 * i) 16) → -640 ≤ v → v ≤ 2400 → s.on THERM_CTRL_TABLE_EN = true →
    s.on THERM_LIMITS_XO_SRC = false → s.rd THERM_LIMITS_XO_REGION = r → s.rangerUp = true → s.tabLen = 2 →
    s.tabTemp 0 ≤ v → v < s.tabTemp 1 → (s.treg r).disagree < 399 →
    ∃ t, exec (.sensorConversion done stuck comps rs) s = .next t ∧
      t.rdS THERM_CORR = s.rdS (THERM_TABLE_ENTRY1 0) + rneDiv ((v - s.tabTemp 0) *
        (s.rdS (THERM_TABLE_ENTRY1 1) - s.rdS (THERM_TABLE_ENTRY1 0))) (s.tabTemp 1 - s.tabTemp 0)) ∧
  (∀ (s : State) (stuck : BitVec 24) (rs : BitVec 384), s.on THERM_CTRL_TABLE_EN = false →
    (∀ i ∈ List.range 24, s.sensBroken i = false ∧ s.now < (s.tsens i).last + 400000) →
    ∃ t, exec (.sensorConversion 0 stuck 0 rs) s = .next t ∧
      s.keeps t ((List.range 24).map THERM_SENSOR_STATE_COMPARATOR ++
        (List.range 8).map THERM_REGION_STATUS_TRIP_VOTE) ∧ t = { s with regs := t.regs }) ∧
  (∀ (s : State) (i : Fin 24), s.sensBroken i = false ∨ s.sensRole i = 2 → exec (.sensorRole i) s = .next s) ∧
  (∀ (s : State) (i : Fin 24), s.sensBroken i = true → s.sensRole i = 0 → s.sparesOf (i / 3) = [] →
    exec (.sensorRole i) s = .next s) ∧
  (∀ (s : State) (i : Fin 24) (j : Nat), s.sensBroken i = true → s.sensRole i = 0 → s.sparesOf (i / 3) = [j] →
    s.rangerUp = true → s.top.inQ = [] →
    ∃ t, exec (.sensorRole i) s = .next t ∧ t.sensRole i = 2 ∧ t.sensRole j = 0 ∧
      t.rd (THERM_REGION_STATUS_SPARES (i / 3)) = 0 ∧ (t.treg (i / 3)).crit = 0 ∧
      t.top.inQ.map (fun f => (f.code, f.slots)) = [(0xA020, [i.val, s.rd (THERM_SENSOR_STATE_REASON i)]),
        (0xA021, [i.val, 0, 2]), (0xA021, [j, 1, 0]), (0xA022, [i.val / 3])] ∧
      s.keeps t ([THERM_SENSOR_STATE_ROLE i, THERM_SENSOR_STATE_ROLE j, THERM_REGION_STATUS_SPARES (i / 3)] ++
        faultFlds) ∧
      t = { s with regs := t.regs, therm := t.therm, top := t.top }) ∧
  (∀ (s : State) (i : Fin 24) (j : Nat), s.sensBroken i = true → s.sensRole i = 1 → j ≠ i →
    s.sparesOf (i / 3) = [i.val, j] ∨ s.sparesOf (i / 3) = [j, i.val] → s.rangerUp = true → s.top.inQ = [] →
    ∃ t, exec (.sensorRole i) s = .next t ∧ t.sensRole i = 2 ∧ t.rd (THERM_REGION_STATUS_SPARES (i / 3)) = 1 ∧
      t.top.inQ.map (fun f => (f.code, f.slots)) = [(0xA020, [i.val, s.rd (THERM_SENSOR_STATE_REASON i)]),
        (0xA021, [i.val, 1, 2])] ∧
      s.keeps t ([THERM_SENSOR_STATE_ROLE i, THERM_REGION_STATUS_SPARES (i / 3)] ++ faultFlds) ∧
      t = { s with regs := t.regs, top := t.top }) ∧
  (∀ (s : State) (comps : BitVec 24) (r : Fin 8) (a b : Nat), a ∈ regionSensors r → b ∈ regionSensors r → a ≠ b →
    s.sensRole a ≠ 2 → s.sensRole b ≠ 2 → bitAt comps.toNat a = true ∨ s.sensBroken a = true →
    bitAt comps.toNat b = true ∨ s.sensBroken b = true →
    ∃ t, exec (.thermalTrip comps) s = .next t ∧ t.therm = { s.therm with tripped := true } ∧ t.webOff = true ∧
      t.rd (THERM_REGION_STATUS_TRIP_VOTE r) = 1 ∧
      s.keeps t ((List.range 24).map THERM_SENSOR_STATE_COMPARATOR ++
        (List.range 8).map THERM_REGION_STATUS_TRIP_VOTE) ∧ t = { s with regs := t.regs, therm := t.therm }) ∧
  (∀ (s : State) (comps : BitVec 24) (r : Fin 8) (a b c : Nat), regionSensors r = [a, b, c] ∨
    regionSensors r = [b, a, c] ∨ regionSensors r = [b, c, a] → s.sensRole b = 2 → s.sensRole c = 2 →
    s.sensRole a = 2 ∨ bitAt comps.toNat a = true ∨ s.sensBroken a = true →
    ∃ t, exec (.thermalTrip comps) s = .next t ∧ t.therm.tripped = true) ∧
  (∀ (s : State), (∀ i ∈ List.range 24, s.sensRole i ≠ 2 ∧ s.sensBroken i = false) →
    ∃ t, exec (.thermalTrip 0) s = .next t ∧ t.therm = s.therm ∧
      (∀ i ∈ List.range 24, t.rd (THERM_SENSOR_STATE_COMPARATOR i) = 0) ∧
      (∀ r ∈ List.range 8, t.rd (THERM_REGION_STATUS_TRIP_VOTE r) = 0) ∧
      s.keeps t ((List.range 24).map THERM_SENSOR_STATE_COMPARATOR ++
        (List.range 8).map THERM_REGION_STATUS_TRIP_VOTE) ∧ t = { s with regs := t.regs })

/-- R465 to R470, R480 to R483: runs measure and set targets against ZQREF, codes step toward them one at a time
at their boundaries, slow runs and ageing are recorded, and a table that passes its check is enabled. Where a
rule leaves it open this rests on the model's own choice or reading: log 2, 145, 148. -/
def Obligations.CalibrationMeasuresStepsAndChecks : Prop :=
  (∀ (s : State), s.mode < 2 → exec .calGo s = .next s) ∧
  (∀ (s : State) (r : Fin 8), 2 ≤ s.mode → s.therm.run = none → s.therm.pend = [] → s.rangerUp = true →
    s.rd THERM_CTRL_CAL_REGIONS = 2 ^ r.val →
    ∃ t, exec .calGo s = .next t ∧ t.therm = { s.therm with run := some ⟨r, s.now, s.now, true, false, false⟩ } ∧
      t.rd (THERM_REGION_STATUS_STEPPING r) = 1 ∧ t.rd THERM_STATUS_CAL_BUSY = 1 ∧
      s.keeps t (THERM_STATUS_CAL_BUSY :: (List.range 8).map THERM_REGION_STATUS_STEPPING) ∧
      t = { s with regs := t.regs, therm := t.therm }) ∧
  (∀ (s : State) (r : Fin 8) (c : CalRun), 2 ≤ s.mode → s.therm.run = some c → c.region = r.val →
    c.measuring = true → s.rd THERM_CTRL_CAL_REGIONS = 2 ^ r.val →
    ∃ t, exec .calGo s = .next t ∧ t.therm = { s.therm with run := some { c with again := true } }) ∧
  (∀ (s : State) (ohms : BitVec 32) (ts : List (Nat × Int)), s.therm.run = none →
    exec (.calMeasureDone ohms ts) s = .next s) ∧
  (∀ (s : State) (ohms : BitVec 32) (ts : List (Nat × Int)) (c : CalRun), s.therm.run = some c →
    c.measuring = true → s.now < c.start + 80000 → exec (.calMeasureDone ohms ts) s = .next s) ∧
  (∀ (s : State) (ohms : BitVec 32) (c : CalRun) (key : Nat) (v : Int), s.therm.run = some c →
    c.measuring = true → c.again = false → c.start + 80000 ≤ s.now → s.rangerUp = true → 1900 ≤ ohms.toNat →
    ohms.toNat ≤ 2100 → s.on THERM_CTRL_CAL_RESTORE = false → c.region < 8 → key ∈ regionCodes c.region →
    key ≠ 4 * 104 → key ≠ 4 * 104 + 1 → key ≠ 4 * 105 → key ≠ 4 * 105 + 1 →
    (codeRange (key / 4)).1 ≤ v → v ≤ (codeRange (key / 4)).2 → v ≠ s.code key →
    ∃ t, exec (.calMeasureDone ohms [(key, v)]) s = .next t ∧ t.codeTarget key = v ∧ t.code key = s.code key ∧
      t.therm.run = some { c with measuring := false } ∧ t.rd (THERM_REGION_STATUS_STEPPING c.region) = 2 ∧
      t.rd THERM_STATUS_CAL_DEGRADED = 0 ∧ t.top = s.top ∧
      t.rd (THERM_REGION_CAL_T c.region) = s.rd (THERM_REGION_TEMP_TEMP c.region) ∧
      (t.treg c.region).measured = s.now) ∧
  (∀ (s : State) (ohms : BitVec 32) (c : CalRun) (key : Nat) (v : Int), s.therm.run = some c →
    c.measuring = true → c.start + 80000 ≤ s.now → s.rangerUp = true → 1900 ≤ ohms.toNat →
    ohms.toNat ≤ 2100 → s.on THERM_CTRL_CAL_RESTORE = false → c.region < 8 → key ∈ regionCodes c.region →
    (codeRange (key / 4)).2 < v →
    ∃ t, exec (.calMeasureDone ohms [(key, v)]) s = .next t ∧ t.codeTarget key = (codeRange (key / 4)).2 ∧
      t.rd THERM_STATUS_CAL_RAIL = 1 ∧
      t.top = (s.fault srcTherm 0xA001 (slot1 c.region ++ slot1 (key / 4))).top) ∧
  (∀ (s : State) (ohms : BitVec 32) (ts : List (Nat × Int)) (c : CalRun), s.therm.run = some c →
    c.measuring = true → c.start + 80000 ≤ s.now → s.rangerUp = true → ohms.toNat < 1900 ∨ 2100 < ohms.toNat →
    c.region < 8 →
    ∃ t, exec (.calMeasureDone ohms ts) s = .next t ∧ t.rd THERM_STATUS_ZQREF_ERR = 1 ∧
      t.therm.codes = s.therm.codes ∧ t.therm.targets = s.therm.targets ∧
      t.top = (s.fault srcTherm 0xA002 (slot1 ohms.toNat)).top ∧
      (c.region ∈ s.therm.noCodes → t.rd THERM_STATUS_CAL_DEGRADED = 1)) ∧
  (∀ (s : State) (key : Fin 2048) (c : CalRun), s.therm.run = some c → c.measuring = false →
    key.val = 4 * (96 + c.region) → c.region < 8 → s.trimBoundary = true →
    s.code key < s.codeTarget key - 1 →
    ∃ t, exec (.calCodeStep key) s = .next t ∧ t.code key = s.code key + 1 ∧
      (∀ k ∈ List.range 2048, k ≠ key.val → t.code k = s.code k) ∧
      t.rd (THERM_REGION_STATUS_STEPS c.region) = (s.rd (THERM_REGION_STATUS_STEPS c.region) + 1) % 65536 ∧
      t.therm.run = some c ∧ s.keeps t [THERM_REGION_STATUS_STEPS c.region] ∧
      t = { s with regs := t.regs, therm := t.therm }) ∧
  (∀ (s : State) (key : Fin 2048) (c : CalRun), s.therm.run = some c → key.val / 4 ≠ 511 →
    c.measuring = true ∨ s.code key = s.codeTarget key ∨ (s.stepAllowed (key / 4)).1 = false →
    exec (.calCodeStep key) s = .next s) ∧
  (∀ (s : State) (key : Fin 2048), s.therm.run = none → key.val / 4 ≠ 511 → exec (.calCodeStep key) s = .next s) ∧
  (∀ (s : State) (key : Fin 2048), key.val / 4 = 511 → s.trimBoundary = true → -128 ≤ s.therm.ref →
    s.therm.ref < 128 →
    ∃ t, exec (.calCodeStep key) s = .next t ∧
      t.rdS THERM_REF_TRIM = stepToward (s.rdS THERM_REF_TRIM) s.therm.ref ∧ s.keeps t [THERM_REF_TRIM] ∧
      t = { s with regs := t.regs }) ∧
  (∀ (s : State) (c : CalRun), s.therm.run = some c → c.slow = false → c.since + 40000000 ≤ s.now →
    ∃ t, exec .calSlow s = .next t ∧ t.therm = { s.therm with run := some { c with slow := true } } ∧
      t.top = (s.fault srcTherm 0xA004 (slot1 c.region)).top ∧ s.keeps t faultFlds ∧
      t = { s with regs := t.regs, top := t.top, therm := t.therm }) ∧
  (∀ (s : State) (c : CalRun), s.therm.run = some c → c.slow = true ∨ s.now < c.since + 40000000 →
    exec .calSlow s = .next s) ∧
  (∀ (s : State) (r : Fin 8) (ppm : BitVec 32), s.rangerUp = true → s.rd THERM_AGE_WARN ≠ 0 →
    s.rd THERM_AGE_WARN < ppm.toNat → (s.treg r).aged = false →
    ∃ t, exec (.ageingMeasure r ppm) s = .next t ∧ t.rd (THERM_REGION_AGE_PPM r) = ppm.toNat ∧
      t.treg r = { s.treg r with aged := true } ∧
      t.top = (s.fault srcTherm 0xA040 (slot1 r ++ slot1 ppm.toNat)).top ∧
      s.keeps t (THERM_REGION_AGE_PPM r :: faultFlds) ∧
      t = { s with regs := t.regs, therm := t.therm, top := t.top }) ∧
  (∀ (s : State) (r : Fin 8) (ppm : BitVec 32), s.rangerUp = true → s.rd THERM_AGE_WARN = 0 ∨
    ppm.toNat ≤ s.rd THERM_AGE_WARN ∨ (s.treg r).aged = true →
    ∃ t, exec (.ageingMeasure r ppm) s = .next t ∧ t.rd (THERM_REGION_AGE_PPM r) = ppm.toNat ∧
      s.keeps t [THERM_REGION_AGE_PPM r] ∧ t = { s with regs := t.regs }) ∧
  (∀ (s : State) (n : Nat), s.on THERM_CTRL_TABLE_EN = false → 2 ≤ n → n ≤ 16 →
    (∀ k ∈ List.range 16, s.tabValid k = decide (k < n)) →
    (∀ k ∈ List.range 15, k + 1 < n → s.tabTemp k < s.tabTemp (k + 1)) →
    ∃ t, exec .tableEnable s = .next t ∧ t.rd THERM_CTRL_TABLE_EN = 1 ∧ s.keeps t [THERM_CTRL_TABLE_EN] ∧
      t = { s with regs := t.regs }) ∧
  (∀ (s : State), s.on THERM_CTRL_TABLE_EN = false → s.tabValid 0 = true → s.tabValid 1 = true →
    s.tabTemp 1 ≤ s.tabTemp 0 →
    ∃ t, exec .tableEnable s = .next t ∧ t.rd THERM_CTRL_TABLE_EN = 0 ∧ t.rd THERM_STATUS_TABLE_ERR = 1 ∧
      t.top = (s.fault srcTherm 0xA030 (slot1 1)).top ∧ s.keeps t (THERM_STATUS_TABLE_ERR :: faultFlds) ∧
      t = { s with regs := t.regs, top := t.top })

/-! ### The host interface, boot and protection (chapter 17) -/

/-- R489, R490, R504: PERST_N and the link change only the endpoint, and an MSI-X request is pending, sent once or
counted as lost. Where a rule leaves it open this rests on the model's own choice or reading: log 2, 19, 153. -/
def Obligations.EndpointAndInterruptsFollowTheLink : Prop :=
  (∀ (s : State), s.wf = true →
    ∃ t, exec .perstFall s = .next t ∧ t.sec = { s.sec with perst := false } ∧ t.rd SEC_PCIE_WIDTH = 0 ∧
      t.rd SEC_PCIE_LINK_UP = 0 ∧ t.rd SEC_PCIE_BME = 0 ∧ t.rd SEC_PCIE_MSIX_EN = 0 ∧
      t.rd SEC_PCIE_FUNC_MASK = 0 ∧ t.rd SEC_PCIE_PERST_SEEN = s.rd SEC_PCIE_PERST_SEEN ∧
      (∀ v ∈ List.range 256, t.rd (SEC_MSIX_CTRL v) = 1 ∧ t.rd (msixPba v) = 0 ∧ t.rd (SEC_MSIX_ADDR v) = 0) ∧
      (∀ off, off < 0x78000 ∨ 0x79020 ≤ off → off ≠ SEC_PCIE.off → t.reg off = s.reg off) ∧
      t = { s with regs := t.regs, latchHi := t.latchHi, stageLo := t.stageLo, shOld := t.shOld, sec := t.sec }) ∧
  (∀ (s : State), s.wf = true →
    ∃ t, exec .perstRise s = .next t ∧ t.sec = { s.sec with perst := true } ∧ t.rd SEC_PCIE_PERST_SEEN = 1 ∧
      t.rd SEC_PCIE_LINK_UP = 0 ∧ (∀ v ∈ List.range 256, t.rd (SEC_MSIX_CTRL v) = 1 ∧ t.rd (msixPba v) = 0) ∧
      (∀ off, off < 0x78000 ∨ 0x79020 ≤ off → off ≠ SEC_PCIE.off → t.reg off = s.reg off)) ∧
  (∀ (s : State) (w : Fin 32) (sp : Fin 8), s.sec.perst = true → s.on SEC_PCIE_LINK_UP = false → 16 ≤ w.val →
    5 ≤ sp.val →
    ∃ t, exec (.pcieLinkUp w sp) s = .next t ∧ t.rd SEC_PCIE_WIDTH = w ∧ t.rd SEC_PCIE_SPEED = sp ∧
      t.rd SEC_PCIE_LINK_UP = 1 ∧ s.keeps t [SEC_PCIE_WIDTH, SEC_PCIE_SPEED, SEC_PCIE_LINK_UP] ∧
      t = { s with regs := t.regs }) ∧
  (∀ (s : State) (w : Fin 32) (sp : Fin 8), s.sec.perst = true → s.on SEC_PCIE_LINK_UP = false →
    w.val < 16 ∨ sp.val < 5 →
    ∃ t, exec (.pcieLinkUp w sp) s = .next t ∧ t.rd SEC_PCIE_WIDTH = w ∧ t.rd SEC_PCIE_SPEED = sp ∧
      t.rd SEC_PCIE_LINK_UP = 1 ∧ t.top = (s.fault srcSec 0xB041 (slot1 w ++ slot1 sp)).top ∧
      t = { s with regs := t.regs, top := t.top }) ∧
  (∀ (s : State) (w : Fin 32) (sp : Fin 8), s.sec.perst = false ∨ s.on SEC_PCIE_LINK_UP = true →
    exec (.pcieLinkUp w sp) s = .next s) ∧
  (∀ (s : State), s.sec.perst = true → s.on SEC_PCIE_LINK_UP = true →
    ∃ t, exec .pcieLinkDown s = .next t ∧ t.rd SEC_PCIE_WIDTH = 0 ∧ t.rd SEC_PCIE_LINK_UP = 0 ∧
      t.top = (s.fault srcSec 0xB040 []).top ∧
      s.keeps t ([SEC_PCIE_WIDTH, SEC_PCIE_SPEED, SEC_PCIE_LINK_UP] ++ faultFlds) ∧
      t = { s with regs := t.regs, top := t.top }) ∧
  (∀ (s : State), s.sec.perst = false ∨ s.on SEC_PCIE_LINK_UP = false → exec .pcieLinkDown s = .next s) ∧
  (∀ (s : State) (v : BitVec 8), s.on SEC_PCIE_MSIX_EN = false →
    ∃ t, exec (.msixRequest v) s = .next t ∧ t.rd SEC_STATUS_MSIX_LOST = 1 ∧
      t.rd SEC_MSIX_LOST = (s.rd SEC_MSIX_LOST + 1) % 2 ^ 32 ∧
      s.keeps t [SEC_STATUS_MSIX_LOST, SEC_MSIX_LOST] ∧ t = { s with regs := t.regs }) ∧
  (∀ (s : State) (v : BitVec 8), s.on SEC_PCIE_MSIX_EN = true →
    s.on SEC_PCIE_FUNC_MASK = true ∨ s.on (SEC_MSIX_CTRL v.toNat) = true →
    ∃ t, exec (.msixRequest v) s = .next t ∧ t.rd (msixPba v.toNat) = 1 ∧ s.keeps t [msixPba v.toNat] ∧
      t = { s with regs := t.regs }) ∧
  (∀ (s : State) (v : BitVec 8), s.on SEC_PCIE_MSIX_EN = true → s.on SEC_PCIE_FUNC_MASK = false →
    s.on (SEC_MSIX_CTRL v.toNat) = false →
    ∃ t, exec (.msixRequest v) s = .next t ∧ t.rd (msixPba v.toNat) = 0 ∧
      t.out = { s.out with msix := s.out.msix ++ (if s.sec.perst then [v.toNat] else []) } ∧
      s.keeps t [msixPba v.toNat] ∧ t = { s with regs := t.regs, out := t.out }) ∧
  (∀ (s : State) (bme : Bool) (vs : List Nat), s.sec.perst = true →
    vs = (List.range 256).filter (fun v => s.on (msixPba v) && !s.on (SEC_MSIX_CTRL v)) →
    ∃ t, exec (.configRequest bme true false) s = .next t ∧ t.rd SEC_PCIE_BME = b2n bme ∧
      t.rd SEC_PCIE_MSIX_EN = 1 ∧ t.rd SEC_PCIE_FUNC_MASK = 0 ∧
      t.out = { s.out with msix := s.out.msix ++ vs } ∧ (∀ v ∈ vs, t.rd (msixPba v) = 0) ∧
      s.keeps t ([SEC_PCIE_BME, SEC_PCIE_MSIX_EN, SEC_PCIE_FUNC_MASK] ++ vs.map msixPba) ∧
      t = { s with regs := t.regs, out := t.out }) ∧
  (∀ (s : State) (bme en mask : Bool), s.sec.perst = true → en = false ∨ mask = true →
    ∃ t, exec (.configRequest bme en mask) s = .next t ∧ t.rd SEC_PCIE_BME = b2n bme ∧
      t.rd SEC_PCIE_MSIX_EN = b2n en ∧ t.rd SEC_PCIE_FUNC_MASK = b2n mask ∧
      s.keeps t [SEC_PCIE_BME, SEC_PCIE_MSIX_EN, SEC_PCIE_FUNC_MASK] ∧ t = { s with regs := t.regs }) ∧
  (∀ (s : State) (bme en mask : Bool), s.sec.perst = false → exec (.configRequest bme en mask) s = .next s)

/-- R491, R494 to R496: the ROM runs an image only when every check passes, records the reason when one fails,
falls back to the other copy, and stays in M1 BOOT when every source has failed. Where a rule leaves it open
this rests on the model's own choice or reading: log 2, 149, 150. -/
def Obligations.BootRunsOnlyAcceptedImages : Prop :=
  (∀ (s : State) (src : Fin 3) (img : List (BitVec 8)) (ok dir : Bool), s.bootTakes src = false →
    exec (.bootImageCheck src img ok dir) s = .next s) ∧
  (∀ (s : State) (src : Fin 3) (img : List (BitVec 8)) (ok dir : Bool) (xs : List Nat), s.bootTakes src = true →
    src.val ≠ 2 → xs = img.map (fun b => b.toNat) → s.sec.tried = 0 →
    ∃ t, exec (.bootImageCheck src img ok dir) s = .next t ∧
      (s.imageReason xs xs.length ok dir = none →
        t.rd SEC_BOOT_STATUS_SOURCE = src ∧ t.rd SEC_FW_INFO = imgVersion xs % 2 ^ 32 ∧
        t.rd SEC_FW_IMAGE = imgId xs % 2 ^ 32 ∧ t.rd SEC_FW_SVN_SVN = imgSvn xs % 64 ∧
        t.rd SEC_BOOT_STATUS_FALLBACK = s.rd SEC_BOOT_STATUS_FALLBACK ∧
        (s.on SEC_STRAPS_BOOT_HOLD = true → t.mode = 1 ∧ t.rd SEC_BOOT_STATUS_STATE = 3) ∧
        (s.on SEC_STRAPS_BOOT_HOLD = false → t.mode = 2 ∧ t.rd SEC_BOOT_STATUS_STATE = 4)) ∧
      (∀ why : Nat, s.imageReason xs xs.length ok dir = some why →
        t.rd SEC_BOOT_STATUS_REASON = why % 16 ∧ t.mode = 1 ∧ t.rd SEC_BOOT_STATUS_STATE = 1 ∧
        t.rd SEC_FW_INFO = s.rd SEC_FW_INFO ∧ t.sec.tried = 2 ^ src.val ∧
        t.top = (s.fault srcSec 0xB001 (slot1 0 ++ slot1 src ++ slot1 why)).top)) ∧
  (∀ (s : State) (img : List (BitVec 8)) (ok dir : Bool), s.bootTakes 1 = true → s.sec.tried = 1 →
    imgWord (img.map (fun b => b.toNat)) 0 ≠ 0x524E4752 →
    ∃ t, exec (.bootImageCheck 1 img ok dir) s = .next t ∧ t.rd SEC_BOOT_STATUS_REASON = 1 ∧ t.mode = 1 ∧
      t.rd SEC_BOOT_STATUS_STATE = 5 ∧ t.rd TOP_STATUS_ALERT = 1 ∧
      t.top = ((s.fault srcSec 0xB001 (slot1 0 ++ slot1 1 ++ slot1 1)).fault srcSec 0xB002 (slot1 3)).top) ∧
  (∀ (s : State) (img : List (BitVec 8)) (ok dir : Bool), s.bootTakes 2 = true →
    imgWord (img.map (fun b => b.toNat)) 0 = 0x524E4752 → imgWord (img.map (fun b => b.toNat)) 4 = 1 →
    s.rd SEC_HOST_IMAGE_LEN < 512 + imgBodyLen (img.map (fun b => b.toNat)) →
    ∃ t, exec (.bootImageCheck 2 img ok dir) s = .next t ∧ t.rd SEC_BOOT_STATUS_REASON = 2 ∧ t.mode = 1 ∧
      t.rd SEC_BOOT_STATUS_STATE = 5 ∧ t.rd TOP_STATUS_ALERT = 1 ∧ t.sec.hostBoot = false) ∧
  (∀ (s : State), s.on SEC_LOCK_STATE_HOST_BOOT_DIS = true →
    exec .hostGo s = .next (s.reject SEC_STATUS_CFG_REJECT srcSec SEC_BOOT_CTRL.off 1)) ∧
  (∀ (s : State), s.on SEC_LOCK_STATE_HOST_BOOT_DIS = false → s.mode = 1 →
    s.rd SEC_BOOT_STATUS_STATE = 6 ∨ s.rd SEC_BOOT_STATUS_STATE = 5 →
    ∃ t, exec .hostGo s = .next t ∧ t.rd SEC_BOOT_STATUS_STATE = 1 ∧ t.sec = { s.sec with hostBoot := true } ∧
      s.keeps t [SEC_BOOT_STATUS_STATE] ∧ t = { s with regs := t.regs, sec := t.sec }) ∧
  (∀ (s : State), s.mode = 1 → s.rd SEC_BOOT_STATUS_STATE = 3 →
    ∃ t, exec .bootRelease s = .next t ∧ t.mode = 2 ∧ t.rd SEC_BOOT_STATUS_STATE = 4 ∧ t.rd TOP_MODE_PREV = 1) ∧
  (∀ (s : State), s.mode ≠ 1 ∨ s.rd SEC_BOOT_STATUS_STATE ≠ 3 →
    exec .bootRelease s = .next (s.reject SEC_STATUS_CFG_REJECT srcSec SEC_BOOT_CTRL.off 2))

/-- R497, R498, R501, R502: mailbox operations answer with their RESULT and reply, fuses only ever gain blown
bits, and BUSY ends with DONE or TIMEOUT. A RESULT the manual does not name, for an operation outside its
mode, is free. Where a rule leaves it open this rests on the model's own choice or reading: log 2, 151, 152. -/
def Obligations.MailboxOperationsAnswer : Prop :=
  (∀ (s : State), s.mboxWaits 0x0001 = true → exec .fwInfo s = .next { s with sec := { s.sec with
    answer := some (0, [s.rd SEC_FW_INFO, s.rd SEC_FW_SVN_SVN, s.rd SEC_FW_IMAGE, s.rd SEC_BOOT_STATUS_SOURCE]) } }) ∧
  (∀ (s : State), s.mboxWaits 0x0001 = false → exec .fwInfo s = .next s) ∧
  (∀ (s : State) (f : BitVec 32), s.mboxWaits 0x0002 = true → s.mode = 10 → s.mboxArg 0 ≤ 12 ∨
    (0x100 ≤ s.mboxArg 0 ∧ s.mboxArg 0 < 0x10C) ∨ s.mboxArg 0 = 0x200 →
    exec (.selfTest f) s = .next { s with sec := { s.sec with answer := some (0, [f.toNat]) } }) ∧
  (∀ (s : State) (f : BitVec 32), s.mboxWaits 0x0002 = true → s.mode = 10 → 12 < s.mboxArg 0 →
    s.mboxArg 0 < 0x100 ∨ (0x10C ≤ s.mboxArg 0 ∧ s.mboxArg 0 ≠ 0x200) →
    exec (.selfTest f) s = .next { s with sec := { s.sec with answer := some (2, []) } }) ∧
  (∀ (s : State) (f : BitVec 32), s.mboxWaits 0x0002 = true → s.mode ≠ 10 →
    exec (.selfTest f) s = .next { s with freeCount := s.freeCount + 1, sec := { s.sec with
      answer := some (Config.freeValue s.freeCount % 2 ^ 4, []) } }) ∧
  (∀ (s : State) (w bits : Nat), s.mboxWaits 0x0010 = true → s.permitted s.sec.mboxReq clsSecurity true = true →
    s.on SEC_LOCK_STATE_LOCK = false → s.mode = 3 → w = s.mboxArg 0 → bits = s.mboxArg 1 → 15 ≤ w → w ≤ 18 →
    ∃ t, exec (.fuseProgram 0xFFFFFFFF) s = .next t ∧
      t.rd (SEC_FUSE w) = (BitVec.ofNat 32 (s.rd (SEC_FUSE w)) ||| BitVec.ofNat 32 bits).toNat ∧
      t.sec.answer = some (0, [t.rd (SEC_FUSE w)]) ∧
      (∀ k ∈ List.range 128, k ≠ w → t.rd (SEC_FUSE k) = s.rd (SEC_FUSE k)) ∧ t.top = s.top) ∧
  (∀ (s : State) (took : BitVec 32) (w k : Nat), k < 32 → w < 128 → bitAt (s.rd (SEC_FUSE w)) k = true →
    ∃ t, exec (.fuseProgram took) s = .next t ∧ bitAt (t.rd (SEC_FUSE w)) k = true) ∧
  (∀ (s : State) (took : BitVec 32), s.mboxWaits 0x0010 = true →
    s.permitted s.sec.mboxReq clsSecurity true = true → s.on SEC_LOCK_STATE_LOCK = true →
    ∃ t, exec (.fuseProgram took) s = .next t ∧ t.sec = { s.sec with answer := some (4, []) } ∧
      t.top = (s.fault srcSec 0xB031 (slot1 0x0010)).top ∧ s.keeps t faultFlds ∧
      t = { s with regs := t.regs, top := t.top, sec := t.sec }) ∧
  (∀ (s : State) (took : BitVec 32) (w bits : Nat), s.mboxWaits 0x0010 = true →
    s.permitted s.sec.mboxReq clsSecurity true = true → s.on SEC_LOCK_STATE_LOCK = false → s.mode = 3 →
    w = s.mboxArg 0 → bits = s.mboxArg 1 → bits ≠ 0 → w < 14 ∨ 18 < w →
    exec (.fuseProgram took) s = .next { s with sec := { s.sec with answer := some (2, []) } }) ∧
  (∀ (s : State), s.mboxWaits 0x0011 = true → s.permitted s.sec.mboxReq clsSecurity true = true →
    s.on SEC_LOCK_STATE_LOCK = false → s.mode = 3 → s.lockable = true → s.rd (SEC_FUSE 14) = 0 →
    ∃ t, exec .lock s = .next t ∧ t.rd (SEC_FUSE 14) = 1 ∧ t.rd SEC_LOCK_STATE_LOCK = 1 ∧
      t.sec.answer = some (0, []) ∧ t.top = s.top) ∧
  (∀ (s : State), s.mboxWaits 0x0011 = true → s.permitted s.sec.mboxReq clsSecurity true = true →
    s.on SEC_LOCK_STATE_LOCK = false → s.mode = 3 → s.lockable = false →
    exec .lock s = .next { s with sec := { s.sec with answer := some (4, []) } }) ∧
  (∀ (s : State), s.mboxWaits 0x0012 = true → s.permitted s.sec.mboxReq clsSecurity true = true → s.mode = 3 →
    s.rd (SEC_FUSE 14) = 4 →
    ∃ t, exec .debugLock s = .next t ∧ t.rd (SEC_FUSE 14) = 6 ∧ t.rd SEC_LOCK_STATE_DEBUG_LOCK = 1 ∧
      t.sec.answer = some (0, [])) ∧
  (∀ (s : State), s.permitted s.sec.mboxReq clsSecurity true = false → s.mboxWaits 0x0012 = true →
    ∃ t, exec .debugLock s = .next t ∧ t.sec.answer = some (4, []) ∧ t.rd SEC_STATUS_DENIED = 1 ∧
      t.rd SEC_DENIED = (s.rd SEC_DENIED + 1) % 2 ^ 32 ∧ t.rd (SEC_FUSE 14) = s.rd (SEC_FUSE 14)) ∧
  (∀ (s : State), s.permitted s.sec.mboxReq clsSecurity true = false → s.mboxWaits 0x0013 = true →
    ∃ t, exec .svnCommit s = .next t ∧ t.sec.answer = some (4, []) ∧ t.rd SEC_STATUS_DENIED = 1 ∧
      t.rd SEC_DENIED = (s.rd SEC_DENIED + 1) % 2 ^ 32 ∧ t.svnMin = s.svnMin) ∧
  (∀ (s : State) (n : Nat), s.mboxWaits 0x0013 = true → s.permitted s.sec.mboxReq clsSecurity true = true →
    s.mode = 3 → n = max s.svnMin (s.rd SEC_FW_SVN_SVN) →
    ∃ t, exec .svnCommit s = .next t ∧ t.svnMin = n ∧ (s.svnMin < n → t.rd SEC_FW_SVN_SVN_MIN = n) ∧
      t.sec.answer = some (0, [n]) ∧ t.top = s.top) ∧
  (∀ (s : State) (v : Bool), s.mboxWaits 0x0020 = true → s.mode = 3 →
    s.dramFits (s.mboxArg 0 + s.mboxArg 1 * 2 ^ 32) (s.mboxArg 2) = false →
    exec (.flashUpdate v) s = .next { s with sec := { s.sec with answer := some (2, []) } }) ∧
  (∀ (s : State) (v : Bool), s.mboxWaits 0x0020 = true → s.mode = 3 →
    s.dramFits (s.mboxArg 0 + s.mboxArg 1 * 2 ^ 32) (s.mboxArg 2) = true → s.mboxArg 2 < 4608 →
    ∃ t, exec (.flashUpdate v) s = .next t ∧ t.sec.answer = some (5, []) ∧ t.out.flash = s.out.flash) ∧
  (∀ (s : State) (v : Bool) (bs : List Nat) (a n c : Nat), s.mboxWaits 0x0020 = true → s.mode = 3 →
    a = s.mboxArg 0 + s.mboxArg 1 * 2 ^ 32 → n = s.mboxArg 2 → s.dramFits a n = true → n ≤ 1049088 →
    bs = (s.dramRead a n clsMaint).1 → (s.dramRead a n clsMaint).2.1 = none →
    c = (if s.rd SEC_BOOT_STATUS_SOURCE = 0 then 1 else 0) →
    ∃ t, exec (.flashUpdate v) s = .next t ∧
      ((s.dramRead a n clsMaint).2.2.imageReason bs n true true = none →
        t.out.flash = s.out.flash ++ [(c, bs)] ∧ t.sec.answer = some (if v then (0, [c]) else (5, []))) ∧
      ((s.dramRead a n clsMaint).2.2.imageReason bs n true true ≠ none →
        t.out.flash = s.out.flash ∧ t.sec.answer = some (5, []))) ∧
  (∀ (s : State) (v : Bool), s.mboxWaits 0x0020 = false → exec (.flashUpdate v) s = .next s) ∧
  (∀ (s : State) (r : Nat) (ws : List Nat), s.on SEC_MBOX_CTRL_BUSY = true → s.rangerUp = true →
    s.sec.answer = some (r, ws) → r < 16 → ws.length ≤ 16 → s.on SEC_MBOX_CTRL_IRQ_EN = false →
    ∃ t, exec .mboxAnswer s = .next t ∧ t.rd SEC_MBOX_CTRL_BUSY = 0 ∧ t.rd SEC_MBOX_CTRL_DONE = 1 ∧
      t.rd SEC_MBOX_CTRL_RESULT = r ∧ t.sec = { s.sec with answer := none } ∧
      (∀ i ∈ List.range 16, t.rd (SEC_MBOX_DATA i) =
        if i < ws.length then nth 0 ws i % 2 ^ 32 else s.rd (SEC_MBOX_DATA i)) ∧
      s.keeps t ([SEC_MBOX_CTRL_BUSY, SEC_MBOX_CTRL_DONE, SEC_MBOX_CTRL_RESULT] ++
        (List.range 16).map SEC_MBOX_DATA) ∧ t = { s with regs := t.regs, sec := t.sec }) ∧
  (∀ (s : State), s.on SEC_MBOX_CTRL_BUSY = true → s.rangerUp = true → s.sec.answer = none →
    s.rd SEC_MBOX_CMD_OP ∉ mailboxOps → s.on SEC_MBOX_CTRL_IRQ_EN = false →
    ∃ t, exec .mboxAnswer s = .next t ∧ t.rd SEC_MBOX_CTRL_RESULT = 1 ∧ t.rd SEC_MBOX_CTRL_BUSY = 0 ∧
      t.rd SEC_MBOX_CTRL_DONE = 1) ∧
  (∀ (s : State), s.on SEC_MBOX_CTRL_BUSY = true → s.sec.mboxAt + 24000000000 ≤ s.now →
    ∃ t, exec .mboxTimeout s = .next t ∧ t.rd SEC_MBOX_CTRL_BUSY = 0 ∧ t.rd SEC_MBOX_CTRL_TIMEOUT = 1 ∧
      t.top = (s.fault srcSec 0xB050 (slot1 (s.rd SEC_MBOX_CMD_OP) ++ slot1 (s.rd SEC_MBOX_CMD_TAG))).top ∧
      s.keeps t ([SEC_MBOX_CTRL_BUSY, SEC_MBOX_CTRL_TIMEOUT] ++ faultFlds)) ∧
  (∀ (s : State), s.on SEC_MBOX_CTRL_BUSY = false ∨ s.now < s.sec.mboxAt + 24000000000 →
    exec .mboxTimeout s = .next s)

/-! ### Accesses from outside: the host's, the management target's and the test port's (chapters 0, 17, 18, 19) -/

/-- R9 to R13, R434, R486 to R489, R500, R530, R531: the shape, the permission and the mode of a request decide
whether it reaches registers; a write stores what the access codes allow, pairs act as a whole, reads answer
all 32 bits with their side effects, and BAR2 reads and writes DRAM. Where a rule leaves it open this rests on
the model's own choice or reading: log 2, 3, 14, 15, 113. -/
def Obligations.HostRequestsReachRegistersAndDram : Prop :=
  (∀ (s : State) (a : BitVec 26) (n : Nat) (be : BitVec 8) (d : BitVec 64), s.sec.perst = false ∨ s.mode = 0 →
    exec (.registerWrite a n be d) s = .next s) ∧
  (∀ (s : State) (a : BitVec 26) (n : Nat) (be : BitVec 8), s.sec.perst = false ∨ s.mode = 0 →
    exec (.registerRead a n be) s = .next s) ∧
  (∀ (s : State) (a : BitVec 26) (n : Nat) (be : BitVec 8) (d : BitVec 64), s.barOpen = true →
    8 < n ∨ (n = 8 ∧ be = 255 ∧ a.toNat % 8 ≠ 0) →
    exec (.registerWrite a n be d) s = .next (s.complete .unsupported)) ∧
  (∀ (s : State) (a : BitVec 26) (n : Nat) (be : BitVec 8), s.barOpen = true →
    512 < n ∨ (8 < n ∧ (a.toNat < 0x4000 ∨ 0x9000 ≤ a.toNat ∨ a.toNat % 4 ≠ 0)) ∨
      (n = 8 ∧ be = 255 ∧ a.toNat % 8 ≠ 0) →
    exec (.registerRead a n be) s = .next (s.complete .unsupported)) ∧
  (∀ (s : State) (a : BitVec 26) (d : BitVec 64) (row : RegRow) (i : Nat), s.barOpen = true → a.toNat % 4 = 0 →
    a.toNat < 0x10000 → a.toNat ≠ TOP_CTRL.off → regRow a.toNat = some (row, i, false) → row.pair = false →
    s.permitted reqHost (regClass a.toNat true) true = true → s.resetNow 0 = false →
    exec (.registerWrite a 4 15 d) s = .next (State.recheck
      (s.putWord row.shadow a.toNat (BitVec.ofNat 32 (row.merge (s.reg a.toNat).toNat (d.toNat % 2 ^ 32)))))) ∧
  (∀ (s : State) (d : BitVec 64), s.barOpen = true → s.permitted reqHost clsConfig true = true →
    s.resetNow 0 = false →
    ∃ u : State, exec (.registerWrite 0x18 4 15 d) s = .next u.recheck ∧
      u.rd TOP_FAULT_POLICY_ALERT_MASK = d.toNat % 65536 ∧
      u.rd TOP_FAULT_POLICY_HALT_MASK = d.toNat / 65536 % 65536 ∧
      s.keeps u [TOP_FAULT_POLICY_ALERT_MASK, TOP_FAULT_POLICY_HALT_MASK] ∧ u = { s with regs := u.regs }) ∧
  (∀ (s : State) (d : BitVec 64), s.barOpen = true → s.permitted reqHost clsConfig true = true →
    s.resetNow 0 = false →
    ∃ u : State, exec (.registerWrite 0x40 8 255 d) s = .next u.recheck ∧
      u.rd TOP_SUMMARY_DEST = d.toNat / 4096 * 4096 % 2 ^ 44 ∧ s.keeps u [TOP_SUMMARY_DEST] ∧
      spGet (fun _ => none) u.stageLo 0x44 = none ∧ u = { s with regs := u.regs, stageLo := u.stageLo }) ∧
  (∀ (s : State) (d : BitVec 64), s.barOpen = true → s.permitted reqHost clsConfig true = true →
    s.resetNow 0 = false →
    ∃ u : State, exec (.registerWrite 0x40 4 15 d) s = .next u.recheck ∧
      spGet (fun _ => none) u.stageLo 0x44 = some (BitVec.ofNat 32 d.toNat) ∧ u = { s with stageLo := u.stageLo }) ∧
  (∀ (s : State) (d : BitVec 64) (lo : Word), s.barOpen = true → s.permitted reqHost clsConfig true = true →
    s.resetNow 0 = false → spGet (fun _ => none) s.stageLo 0x44 = some lo →
    ∃ u : State, exec (.registerWrite 0x44 4 15 d) s = .next u.recheck ∧
      u.rd TOP_SUMMARY_DEST = (lo.toNat / 4096 * 4096 + d.toNat % 2 ^ 12 * 2 ^ 32) ∧ s.keeps u [TOP_SUMMARY_DEST]) ∧
  (∀ (s : State) (a : BitVec 26) (n : Nat) (be : BitVec 8) (d : BitVec 64), s.barOpen = true → a.toNat % 4 = 0 →
    n ≤ 4 → be.toNat % 16 ≠ 15 ∨ n < 4 → exec (.registerWrite a n be d) s = .next s.recheck) ∧
  (∀ (s : State) (a : BitVec 26) (d : BitVec 64), s.barOpen = true → a.toNat % 4 = 0 →
    s.permitted reqHost (regClass a.toNat true) true = false →
    exec (.registerWrite a 4 15 d) s =
      .next (s.deny reqHost (regClass a.toNat true) true a.toNat).recheck) ∧
  (∀ (s : State) (a : BitVec 26) (d : BitVec 64), s.barOpen = true → a.toNat % 4 = 0 → s.answers a.toNat = false →
    s.permitted reqHost (regClass a.toNat true) true = true → exec (.registerWrite a 4 15 d) s = .next s.recheck) ∧
  (∀ (s : State) (a : BitVec 26) (d : BitVec 64), s.barOpen = true → a.toNat % 4 = 0 →
    regRow a.toNat = none → a.toNat < 0x10000 → s.permitted reqHost (regClass a.toNat true) true = true →
    exec (.registerWrite a 4 15 d) s = .next s.recheck) ∧
  (∀ (s : State) (a : BitVec 26) (be : BitVec 8), s.barOpen = true → a.toNat % 4 = 0 → s.answers a.toNat = false →
    s.permitted reqHost (regClass a.toNat false) false = true →
    exec (.registerRead a 4 be) s = .next (s.complete (.data [0, 0, 0, 0]))) ∧
  (∀ (s : State) (a : BitVec 26) (be : BitVec 8), s.barOpen = true → a.toNat % 4 = 0 →
    s.permitted reqHost (regClass a.toNat false) false = false →
    exec (.registerRead a 4 be) s =
      .next ((s.deny reqHost (regClass a.toNat false) false a.toNat).complete .unsupported)) ∧
  (∀ (s : State) (a : BitVec 26) (row : RegRow) (i : Nat), s.barOpen = true → a.toNat % 4 = 0 →
    a.toNat < 0x10000 → regRow a.toNat = some (row, i, false) → row.pair = false →
    (row.fields.any (fun f => decide (f.acc = Access.rc))) = false →
    s.permitted reqHost clsStatus false = true →
    exec (.registerRead a 4 15) s = .next (s.complete (.data (leBytes 4 (s.viewReg a.toNat).toNat)))) ∧
  (∀ (s : State), s.barOpen = true → s.permitted reqHost clsStatus false = true →
    ∃ t, exec (.registerRead 0x70034 4 15) s = .next t ∧
      t.out.bar = s.out.bar ++ [.data (leBytes 4 (s.rd SEC_DENIED))] ∧ t.rd SEC_DENIED = 0 ∧
      s.keeps t [SEC_DENIED] ∧ t = { s with regs := t.regs, out := t.out }) ∧
  (∀ (s : State) (v : Nat), s.barOpen = true → s.permitted reqHost clsStatus false = true → s.mode ≠ 1 →
    v = toBits 64 s.pos16 →
    ∃ t, exec (.registerRead 0x10010 4 15) s = .next t ∧
      t.out.bar = s.out.bar ++ [.data (leBytes 4 (v % 2 ^ 32))] ∧
      spGet (fun _ => none) t.latchHi 0x10014 = some (BitVec.ofNat 32 (v / 2 ^ 32)) ∧
      t = { s with latchHi := t.latchHi, out := t.out }) ∧
  (∀ (s : State) (w : Word), s.barOpen = true → s.permitted reqHost clsStatus false = true → s.mode ≠ 1 →
    spGet (fun _ => none) s.latchHi 0x10014 = some w →
    ∃ t, exec (.registerRead 0x10014 4 15) s = .next t ∧ t.out.bar = s.out.bar ++ [.data (leBytes 4 w.toNat)] ∧
      spGet (fun _ => none) t.latchHi 0x10014 = none ∧ t = { s with latchHi := t.latchHi, out := t.out }) ∧
  (∀ (s : State), s.barOpen = true → s.permitted reqHost clsStatus false = true →
    exec (.registerRead 0x4000 32 255) s = .next (s.complete (.data ((List.range 8).flatMap (fun i =>
      leBytes 4 (spGet (fun _ => 0) s.top.log i).toNat))))) ∧
  (∀ (s : State) (w : Bool) (a : BitVec 40) (bs : List (BitVec 8)) (n m : Nat) (es : List (Nat × Nat)),
    m = (if w then bs.length else n) →
    s.sec.perst = false ∨ s.mode = 0 ∨ bar2Size (s.rd SEC_STRAPS_BAR2_SZ) < a.toNat + m →
    exec (.bar2Access w a bs n es) s = .next s) ∧
  (∀ (s : State) (w : Bool) (a : BitVec 40) (bs : List (BitVec 8)) (n m : Nat) (es : List (Nat × Nat)),
    m = (if w then bs.length else n) → s.barOpen = true → a.toNat + m ≤ bar2Size (s.rd SEC_STRAPS_BAR2_SZ) →
    s.on DRAMC_STATUS_TRAINED = false →
    exec (.bar2Access w a bs n es) s =
      .next ((s.complete .unsupported).fault srcSec 0xB010 (slot2 a.toNat ++ slot1 0))) ∧
  (∀ (s : State) (w : Bool) (a : BitVec 40) (bs : List (BitVec 8)) (n m : Nat) (es : List (Nat × Nat)),
    m = (if w then bs.length else n) → s.barOpen = true → a.toNat + m ≤ bar2Size (s.rd SEC_STRAPS_BAR2_SZ) →
    s.on DRAMC_STATUS_TRAINED = true → s.rd DRAMC_SIZE < a.toNat + m →
    exec (.bar2Access w a bs n es) s =
      .next ((s.complete .unsupported).fault srcSec 0xB010 (slot2 a.toNat ++ slot1 1))) ∧
  (∀ (s : State) (a : BitVec 40) (bs : List (BitVec 8)) (n : Nat), s.barOpen = true →
    a.toNat + bs.length ≤ bar2Size (s.rd SEC_STRAPS_BAR2_SZ) → s.on DRAMC_STATUS_TRAINED = true →
    a.toNat + bs.length ≤ s.rd DRAMC_SIZE → s.permitted reqHost clsMemory true = true → s.inSelfRefresh = false →
    s.flippedIn a.toNat bs.length = [] →
    ∃ u : State, exec (.bar2Access true a bs n []) s = .next u.recheck ∧
      (∀ i ∈ List.range bs.length, u.dramByte (a.toNat + i) = nth 0 (bs.map (·.toNat)) i) ∧
      (∀ x, x < a.toNat ∨ a.toNat + bs.length ≤ x → u.dramByte x = s.dramByte x) ∧
      u.out = { s.out with bar := s.out.bar ++ [.written] } ∧ u = { s with dram := u.dram, out := u.out }) ∧
  (∀ (s : State) (a : BitVec 40) (bs : List (BitVec 8)) (n : Nat), s.barOpen = true →
    a.toNat + n ≤ bar2Size (s.rd SEC_STRAPS_BAR2_SZ) → s.on DRAMC_STATUS_TRAINED = true →
    a.toNat + n ≤ s.rd DRAMC_SIZE → s.permitted reqHost clsMemory false = true → s.inSelfRefresh = false →
    s.flippedIn a.toNat n = [] →
    ∃ u : State, exec (.bar2Access false a bs n []) s = .next u.recheck ∧
      u.out.bar = s.out.bar ++ [.data ((List.range n).map (fun i => s.dramByte (a.toNat + i)))] ∧
      u.dram.mem = s.dram.mem) ∧
  (∀ (s : State) (a : BitVec 40) (bs : List (BitVec 8)) (n b : Nat), s.barOpen = true →
    a.toNat + n ≤ bar2Size (s.rd SEC_STRAPS_BAR2_SZ) → s.on DRAMC_STATUS_TRAINED = true →
    a.toNat + n ≤ s.rd DRAMC_SIZE → s.permitted reqHost clsMemory false = true → s.inSelfRefresh = false →
    s.flippedIn a.toNat n = [b] → (s.readBeat b).1 = .uncorrectable →
    ∃ u : State, exec (.bar2Access false a bs n []) s = .next u.recheck ∧ u.out.bar = s.out.bar ++ [.aborted])

/-- R504, R523, R524: the management target answers four bytes of the register its pointer names, public
instructions of the test port shift out what they captured, and private ones act as BYPASS once DEBUG_LOCK is
blown. Where a rule leaves it open this rests on the model's own choice or reading: log 2, 155, 156, 157. -/
def Obligations.TestPortAndManagementTarget : Prop :=
  (∀ (s : State) (a : BitVec 7), s.mgmtAnswers a.toNat = false → exec (.mgmtRead a) s = .next s) ∧
  (∀ (s : State) (a : BitVec 7) (bs : List (BitVec 8)), s.mgmtAnswers a.toNat = false →
    exec (.mgmtPointerWrite a bs) s = .next s) ∧
  (∀ (s : State) (a : BitVec 7) (v : Nat), s.mgmtAnswers a.toNat = true →
    (s.jtag.pointer = 0 ∧ v = s.view TOP_ID) ∨ (s.jtag.pointer = 1 ∧ v = s.view TOP_MODE) ∨
      (s.jtag.pointer = 2 ∧ v = s.view TOP_STATUS) ∨ (s.jtag.pointer = 3 ∧ v = s.view THERM_STATUS) ∨
      (16 ≤ s.jtag.pointer ∧ s.jtag.pointer ≤ 23 ∧ v = s.view (THERM_REGION_TEMP (s.jtag.pointer - 16))) ∨
      (((3 < s.jtag.pointer ∧ s.jtag.pointer < 16) ∨ 23 < s.jtag.pointer) ∧ v = 0) →
    exec (.mgmtRead a) s = .next { s with out := { s.out with mgmt := s.out.mgmt ++ leBytes 4 v } }) ∧
  (∀ (s : State) (a : BitVec 7) (p : BitVec 8) (bs : List (BitVec 8)), s.mgmtAnswers a.toNat = true →
    exec (.mgmtPointerWrite a (p :: bs)) s = .next { s with jtag := { s.jtag with pointer := p.toNat } }) ∧
  (∀ (s : State) (c d : Nat), exec (.extest c d) s = .next { s with
    jtag := { s.jtag with inst := 0x00, boundary := d }, out := { s.out with tdo := s.out.tdo ++ [c] } }) ∧
  (∀ (s : State) (c d : Nat), exec (.samplePreload c d) s = .next { s with
    jtag := { s.jtag with inst := 0x02, boundary := d }, out := { s.out with tdo := s.out.tdo ++ [c] } }) ∧
  (∀ (s : State), exec .idcode s = .next { s with
    jtag := { s.jtag with inst := 0x01 }, out := { s.out with tdo := s.out.tdo ++ [0x19612C3F] } }) ∧
  (∀ (s : State), ∃ t, exec .highz s = .next t ∧ t.webOff = true ∧ t.out.tdo = s.out.tdo ++ [0] ∧
    t = { s with jtag := { s.jtag with inst := 0x04 }, out := t.out }) ∧
  (∀ (s : State), exec .clamp s = .next { s with
    jtag := { s.jtag with inst := 0x05 }, out := { s.out with tdo := s.out.tdo ++ [0] } }) ∧
  (∀ (s : State), exec .bypass s = .next { s with
    jtag := { s.jtag with inst := 0xFF }, out := { s.out with tdo := s.out.tdo ++ [0] } }) ∧
  (∀ (s : State), s.on SEC_LOCK_STATE_DEBUG_LOCK = true →
    exec .rangerHalt s = .next { s with
      jtag := { s.jtag with inst := 0xFF }, out := { s.out with tdo := s.out.tdo ++ [0] } }) ∧
  (∀ (s : State), s.on SEC_LOCK_STATE_DEBUG_LOCK = true →
    exec .rangerRun s = .next { s with
      jtag := { s.jtag with inst := 0xFF }, out := { s.out with tdo := s.out.tdo ++ [0] } }) ∧
  (∀ (s : State) (v : BitVec 78) (h : Option (BitVec 32)), s.on SEC_LOCK_STATE_DEBUG_LOCK = true →
    exec (.memAccess v h) s = .next { s with
      jtag := { s.jtag with inst := 0xFF }, out := { s.out with tdo := s.out.tdo ++ [0] } }) ∧
  (∀ (s : State), s.on SEC_LOCK_STATE_DEBUG_LOCK = false →
    exec .rangerHalt s = .next { s with jtag := { s.jtag with inst := 0x80, halted := true } }) ∧
  (∀ (s : State), s.on SEC_LOCK_STATE_DEBUG_LOCK = false →
    exec .rangerRun s = .next { s with jtag := { s.jtag with inst := 0x81, halted := false } }) ∧
  (∀ (s : State) (v : BitVec 78) (h : Option (BitVec 32)), s.on SEC_LOCK_STATE_DEBUG_LOCK = false →
    bitAt v.toNat 77 = false →
    exec (.memAccess v h) s = .next { s with
      jtag := { s.jtag with inst := 0x82, mem := v.toNat }, out := { s.out with tdo := s.out.tdo ++ [s.jtag.mem] } }) ∧
  (∀ (s : State) (v : BitVec 78) (h : Option (BitVec 32)) (a : Nat), s.on SEC_LOCK_STATE_DEBUG_LOCK = false →
    bitAt v.toNat 77 = true → bitAt v.toNat 76 = true → a = bitsAt v.toNat 0 44 → devSpace a = 1 →
    devOff a + 4 ≤ 2 ^ 42 → s.mode ≠ 0 → s.therm.tripped = false → s.sec.perst = true →
    ∃ t, exec (.memAccess v h) s = .next t ∧ t.jtag = { s.jtag with inst := 0x82, mem := v.toNat } ∧
      t.out.host = (s.hostPut (devOff a) (leBytes 4 (bitsAt v.toNat 44 32))).out.host ∧
      t.out.tdo = s.out.tdo ++ [s.jtag.mem] ∧ t = { s with jtag := t.jtag, out := t.out }) ∧
  (∀ (s : State) (v : BitVec 78) (w : BitVec 32) (a : Nat), s.on SEC_LOCK_STATE_DEBUG_LOCK = false →
    bitAt v.toNat 77 = true → bitAt v.toNat 76 = false → a = bitsAt v.toNat 0 44 → devSpace a = 1 →
    devOff a + 4 ≤ 2 ^ 42 → s.mode ≠ 0 → s.therm.tripped = false →
    ∃ t, exec (.memAccess v (some w)) s = .next t ∧ bitsAt t.jtag.mem 44 32 = w.toNat ∧
      bitsAt t.jtag.mem 0 44 = a ∧ t = { s with jtag := t.jtag, out := t.out })

/-! ### Single rules of the manual, whole -/

/-- R15: an aligned 64-bit host read of TIMELINE_POS answers the internal position (2^-40 line) divided by 2^24
toward minus infinity, as a two's complement 48.16 number, and the line number is the integer part of web
position. The read changes nothing of the timeline. -/
def Obligations.PositionReadsTruncated : Prop :=
  ∀ (s : State) (v : Int), s.barOpen = true → s.mode ≠ 1 → s.permitted reqHost clsStatus false = true →
    v = s.tl.pos / 2 ^ 24 →
    ∃ t, exec (.registerRead 0x10010 8 255) s = .next t ∧
      t.out.bar = s.out.bar ++ [.data (leBytes 8 (toBits 64 v))] ∧ s.pos16 = v ∧
      s.line * 2 ^ 40 ≤ s.tl.pos ∧ s.tl.pos < (s.line + 1) * 2 ^ 40 ∧ t.tl = s.tl

/-- R211: for any two colours in any set, ΔE is at most 65,535; below that it is the integer nearest to the root
of the sum of the squared 8.8 differences, at 65,535 the root is at least that near, and the root is never
midway between two integers. -/
def Obligations.DeltaEIsTheNearestRoot : Prop :=
  ∀ (t : SettingsSet) (a b : Nat × Nat × Nat) (x r : Nat), r = deltaE t a b →
    x = ((labOf t a).1 - (labOf t b).1).natAbs ^ 2 + ((labOf t a).2.1 - (labOf t b).2.1).natAbs ^ 2 +
      ((labOf t a).2.2 - (labOf t b).2.2).natAbs ^ 2 →
    (r < 65535 → (r = 0 ∨ (2 * r - 1) ^ 2 < 4 * x) ∧ 4 * x < (2 * r + 1) ^ 2) ∧
      (r = 65535 → (2 * 65535 - 1) ^ 2 < 4 * x) ∧ r ≤ 65535 ∧ ∀ k : Nat, 4 * x ≠ (2 * k + 1) ^ 2

/-- R368: at either address parity the poison beat is the codeword of data 0 with data bits 2:0 inverted, no
correction applies to it and it is reported as POISON; a write of the whole beat leaves it clean with the data
written. -/
def Obligations.PoisonIsRecognisedAndReplaced : Prop :=
  (∀ a : Fin 2, poisonBeat a = encodeBeat 0 a ^^^ 0b111 ∧ (decodeBeat (poisonBeat a) a).1 = .poison ∧
    syndrome (poisonBeat a) ≠ 0 ∧ popCount 80 (poisonBeat a) % 2 = 1 ∧
    singleError (syndrome (poisonBeat a)) = none) ∧
  (∀ (s : State) (b : BitVec 39) (bs : List (BitVec 8)) (c : Fin 6), s.dramFits (8 * b.toNat) 8 = true →
    s.inSelfRefresh = false → bs.length = 8 → (s.readBeat b.toNat).1 = .poison →
    ∃ u : State, exec (.dramWrite (BitVec.ofNat 42 (8 * b.toNat)) bs c []) s = .next u.recheck ∧
      (u.readBeat b.toNat).1 = .clean ∧ (u.readBeat b.toNat).2.1 = ofLeBytes (bs.map (·.toNat)))

/-- R469: when a measurement of a calibration run ends with a target beyond the range of its code, the target
becomes the rail, CAL_RAIL is set and fault 0xA001 is recorded with the region and the word of the code. -/
def Obligations.TargetsBeyondTheRangeAreClamped : Prop :=
  ∀ (s : State) (ohms : BitVec 32) (c : CalRun) (key : Nat) (v lo hi : Int), s.therm.run = some c →
    c.measuring = true → c.start + 80000 ≤ s.now → s.rangerUp = true → 1900 ≤ ohms.toNat → ohms.toNat ≤ 2100 →
    s.on THERM_CTRL_CAL_RESTORE = false → c.region < 8 → key ∈ regionCodes c.region →
    (lo, hi) = codeRange (key / 4) → v < lo ∨ hi < v →
    ∃ t, exec (.calMeasureDone ohms [(key, v)]) s = .next t ∧ t.codeTarget key = (if v < lo then lo else hi) ∧
      t.rd THERM_STATUS_CAL_RAIL = 1 ∧
      t.top = (s.fault srcTherm 0xA001 (slot1 c.region ++ slot1 (key / 4))).top

/-- R472: after a conversion of a region's VOTER, the region temperature register holds that sensor's reading. The
reading is the one after the conversion, so 125.0 °C when the sensor has been found broken. -/
def Obligations.TheVoterGivesTheRegionTemperature : Prop :=
  ∀ (s : State) (done stuck comps : BitVec 24) (rs : BitVec 384) (r : Fin 8) (i : Nat), s.voter r = some i →
    bitAt done.toNat i = true →
    ∃ t, exec (.sensorConversion done stuck comps rs) s = .next t ∧
      t.rdS (THERM_REGION_TEMP_TEMP r) = t.reading i
end

