-- ==== Sys2Proof/Laws/Dispatch.lean ====
section
/-! SUPPORT. One law for each command: exec of it is its meaning. -/

namespace Sys2Proof.Machine

open Sys2Proof

@[simp] theorem exec_registerWrite (s : State) (addr : BitVec 26) (len : Nat) (be : BitVec 8) (data : BitVec 64) : exec (.registerWrite addr len be data) s = execRegisterWrite addr len be data s := rfl
@[simp] theorem exec_bar2Access (s : State) (write : Bool) (addr : BitVec 40) (bytes : List (BitVec 8)) (len : Nat) (errs : List (Nat × Nat)) : exec (.bar2Access write addr bytes len errs) s = execBar2Access write addr bytes len errs s := rfl
@[simp] theorem exec_encoderStep (s : State) (e : Fin 4) (a b : Bool) : exec (.encoderStep e a b) s = execEncoderStep e a b s := rfl
@[simp] theorem exec_ssiTransferStart (s : State) (e : Fin 4) : exec (.ssiTransferStart e) s = execSsiTransferStart e s := rfl
@[simp] theorem exec_ssiSample (s : State) (e : Fin 4) (raw : Nat) (parity : Bool) : exec (.ssiSample e raw parity) s = execSsiSample e raw parity s := rfl
@[simp] theorem exec_indexEdge (s : State) (e : Fin 4) (rising : Bool) : exec (.indexEdge e rising) s = execIndexEdge e rising s := rfl
@[simp] theorem exec_webStopped (s : State) : exec (.webStopped) s = execWebStopped s := rfl
@[simp] theorem exec_simIncrement (s : State) : exec (.simIncrement) s = execSimIncrement s := rfl
@[simp] theorem exec_runStart (s : State) : exec (.runStart) s = execRunStart s := rfl
@[simp] theorem exec_runStop (s : State) : exec (.runStop) s = execRunStop s := rfl
@[simp] theorem exec_preset (s : State) : exec (.preset) s = execPreset s := rfl
@[simp] theorem exec_crossLatch (s : State) : exec (.crossLatch) s = execCrossLatch s := rfl
@[simp] theorem exec_probeEdge (s : State) (k : Fin 8) (rising : Bool) : exec (.probeEdge k rising) s = execProbeEdge k rising s := rfl
@[simp] theorem exec_probePop (s : State) (k : Fin 8) : exec (.probePop k) s = execProbePop k s := rfl
@[simp] theorem exec_frameMarkMissing (s : State) (f : Fin 4) : exec (.frameMarkMissing f) s = execFrameMarkMissing f s := rfl
@[simp] theorem exec_compareFire (s : State) (c : Fin 64) : exec (.compareFire c) s = execCompareFire c s := rfl
@[simp] theorem exec_compareEnable (s : State) (c : Fin 64) : exec (.compareEnable c) s = execCompareEnable c s := rfl
@[simp] theorem exec_compareTargetWrite (s : State) (c : Fin 64) (target : BitVec 64) : exec (.compareTargetWrite c target) s = execCompareTargetWrite c target s := rfl
@[simp] theorem exec_modeChangeApply (s : State) : exec (.modeChangeApply) s = execModeChangeApply s := rfl
@[simp] theorem exec_commitBoundary (s : State) (u : Fin 29) : exec (.commitBoundary u) s = execCommitBoundary u s := rfl
@[simp] theorem exec_frameBoundary (s : State) : exec (.frameBoundary) s = execFrameBoundary s := rfl
@[simp] theorem exec_lineTrigger (s : State) : exec (.lineTrigger) s = execLineTrigger s := rfl
@[simp] theorem exec_triggerIssue (s : State) : exec (.triggerIssue) s = execTriggerIssue s := rfl
@[simp] theorem exec_profileSyncAction (s : State) : exec (.profileSyncAction) s = execProfileSyncAction s := rfl
@[simp] theorem exec_markerQueue (s : State) (m : Fin 4) (at48 : BitVec 64) : exec (.markerQueue m at48) s = execMarkerQueue m at48 s := rfl
@[simp] theorem exec_markerFire (s : State) (m : Fin 4) : exec (.markerFire m) s = execMarkerFire m s := rfl
@[simp] theorem exec_markerPulseEnd (s : State) (m : Fin 4) : exec (.markerPulseEnd m) s = execMarkerPulseEnd m s := rfl
@[simp] theorem exec_verdictDeadlineCheck (s : State) : exec (.verdictDeadlineCheck) s = execVerdictDeadlineCheck s := rfl
@[simp] theorem exec_waitposWake (s : State) : exec (.waitposWake) s = execWaitposWake s := rfl
@[simp] theorem exec_strokePhaseUpdate (s : State) (k : Fin 8) : exec (.strokePhaseUpdate k) s = execStrokePhaseUpdate k s := rfl
@[simp] theorem exec_strokeStep (s : State) (k : Fin 8) : exec (.strokeStep k) s = execStrokeStep k s := rfl
@[simp] theorem exec_strokeEnable (s : State) (k : Fin 8) : exec (.strokeEnable k) s = execStrokeEnable k s := rfl
@[simp] theorem exec_strokeStart (s : State) (mask : BitVec 8) : exec (.strokeStart mask) s = execStrokeStart mask s := rfl
@[simp] theorem exec_strokeRatioWrite (s : State) (k : Fin 8) (ratio : BitVec 32) : exec (.strokeRatioWrite k ratio) s = execStrokeRatioWrite k ratio s := rfl
@[simp] theorem exec_trimTargetWrite (s : State) (k : Fin 8) (target : BitVec 32) : exec (.trimTargetWrite k target) s = execTrimTargetWrite k target s := rfl
@[simp] theorem exec_trimAdd (s : State) (k : Fin 8) (add : BitVec 32) : exec (.trimAdd k add) s = execTrimAdd k add s := rfl
@[simp] theorem exec_laneMarkerRx (s : State) (n : Fin 15) (l : Fin 5) (w : BitVec 64) (blocks : Nat) (skew : Int) (stuffed viol : Nat) (rail : Option (Fin 12)) (eyeH eyeV : BitVec 8) : exec (.laneMarkerRx n l w blocks skew stuffed viol rail eyeH eyeV) s = execLaneMarkerRx n l w blocks skew stuffed viol rail eyeH eyeV s := rfl
@[simp] theorem exec_fillRowRx (s : State) (n : Fin 15) (g : Fin 2) (slot : Fin 16384) (blocks : List (BitVec 64)) : exec (.fillRowRx n g slot blocks) s = execFillRowRx n g slot blocks s := rfl
@[simp] theorem exec_linkReqAck (s : State) (n : Fin 15) (seq : BitVec 16) (id : BitVec 8) : exec (.linkReqAck n seq id) s = execLinkReqAck n seq id s := rfl
@[simp] theorem exec_linkReqNak (s : State) (n : Fin 15) (seq : BitVec 16) (id : BitVec 8) : exec (.linkReqNak n seq id) s = execLinkReqNak n seq id s := rfl
@[simp] theorem exec_linkReqSpare (s : State) (n : Fin 15) (g : Fin 2) (lane : Fin 4) (id : BitVec 8) : exec (.linkReqSpare n g lane id) s = execLinkReqSpare n g lane id s := rfl
@[simp] theorem exec_linkReqRelease (s : State) (n : Fin 15) (g : Fin 2) (lane : Fin 4) (id : BitVec 8) : exec (.linkReqRelease n g lane id) s = execLinkReqRelease n g lane id s := rfl
@[simp] theorem exec_linkReqGap (s : State) (n : Fin 15) (g : Fin 2) (lane : Fin 4) (id : BitVec 8) : exec (.linkReqGap n g lane id) s = execLinkReqGap n g lane id s := rfl
@[simp] theorem exec_linkReqReserved (s : State) (n : Fin 15) (req : Fin 10) : exec (.linkReqReserved n req) s = execLinkReqReserved n req s := rfl
@[simp] theorem exec_gapRowRx (s : State) (n : Fin 15) (g : Fin 2) (lane : Fin 4) (slots : BitVec 16) : exec (.gapRowRx n g lane slots) s = execGapRowRx n g lane slots s := rfl
@[simp] theorem exec_idleEnterRx (s : State) (n : Fin 15) : exec (.idleEnterRx n) s = execIdleEnterRx n s := rfl
@[simp] theorem exec_idleExit (s : State) (n : Fin 15) : exec (.idleExit n) s = execIdleExit n s := rfl
@[simp] theorem exec_idleExitSlow (s : State) (n : Fin 15) (l : Fin 5) : exec (.idleExitSlow n l) s = execIdleExitSlow n l s := rfl
@[simp] theorem exec_gapTimeout (s : State) (n : Fin 15) : exec (.gapTimeout n) s = execGapTimeout n s := rfl
@[simp] theorem exec_spareSwitch (s : State) (n : Fin 15) (tx : Bool) : exec (.spareSwitch n tx) s = execSpareSwitch n tx s := rfl
@[simp] theorem exec_plannedSwap (s : State) (n : Fin 15) : exec (.plannedSwap n) s = execPlannedSwap n s := rfl
@[simp] theorem exec_lrefSwitch (s : State) (n : Fin 15) : exec (.lrefSwitch n) s = execLrefSwitch n s := rfl
@[simp] theorem exec_packetHeaderRx (s : State) (n : Fin 15) (g : Fin 2) (header : BitVec 64) (payload : List (BitVec 64)) (trailer : BitVec 64) : exec (.packetHeaderRx n g header payload trailer) s = execPacketHeaderRx n g header payload trailer s := rfl
@[simp] theorem exec_linePacketRx (s : State) (n : Fin 12) (g : Fin 2) (clk : Nat) : exec (.linePacketRx n g clk) s = execLinePacketRx n g clk s := rfl
@[simp] theorem exec_lineTimeout (s : State) (p : Fin 13) (x : Fin 2) : exec (.lineTimeout p x) s = execLineTimeout p x s := rfl
@[simp] theorem exec_trigLaunch (s : State) (n : Fin 12) (g : Fin 2) (phase : Fin 140) : exec (.trigLaunch n g phase) s = execTrigLaunch n g phase s := rfl
@[simp] theorem exec_statReplyRx (s : State) (n : Fin 12) (g : Fin 2) : exec (.statReplyRx n g) s = execStatReplyRx n g s := rfl
@[simp] theorem exec_trigErrorReport (s : State) (n : Fin 12) (g : Fin 2) : exec (.trigErrorReport n g) s = execTrigErrorReport n g s := rfl
@[simp] theorem exec_camFaultReport (s : State) (n : Fin 12) (g : Fin 2) : exec (.camFaultReport n g) s = execCamFaultReport n g s := rfl
@[simp] theorem exec_ctrlTimeout (s : State) (n : Fin 12) (g : Fin 2) : exec (.ctrlTimeout n g) s = execCtrlTimeout n g s := rfl
@[simp] theorem exec_mboxSend (s : State) (p : Fin 13) (x : Fin 2) : exec (.mboxSend p x) s = execMboxSend p x s := rfl
@[simp] theorem exec_trainGo (s : State) (n : Fin 15) : exec (.trainGo n) s = execTrainGo n s := rfl
@[simp] theorem exec_trainDone (s : State) (n : Fin 15) (g : Fin 2) (replies : List (Nat × Nat)) : exec (.trainDone n g replies) s = execTrainDone n g replies s := rfl
@[simp] theorem exec_replayTimeout (s : State) (n : Fin 15) : exec (.replayTimeout n) s = execReplayTimeout n s := rfl
@[simp] theorem exec_portEnable (s : State) (n : Fin 15) : exec (.portEnable n) s = execPortEnable n s := rfl
@[simp] theorem exec_linkReset (s : State) (n : Fin 15) : exec (.linkReset n) s = execLinkReset n s := rfl
@[simp] theorem exec_retrain (s : State) (n : Fin 15) : exec (.retrain n) s = execRetrain n s := rfl
@[simp] theorem exec_loopbackWrite (s : State) (n : Fin 15) (v : BitVec 2) : exec (.loopbackWrite n v) s = execLoopbackWrite n v s := rfl
@[simp] theorem exec_idleReqWrite (s : State) (n : Fin 15) (v : Bool) : exec (.idleReqWrite n v) s = execIdleReqWrite n v s := rfl
@[simp] theorem exec_pipeCtrlWrite (s : State) (p : Fin 13) (en : Bool) (port : Fin 16) : exec (.pipeCtrlWrite p en port) s = execPipeCtrlWrite p en port s := rfl
@[simp] theorem exec_ctxCommit (s : State) (p : Fin 13) (x : Fin 2) : exec (.ctxCommit p x) s = execCtxCommit p x s := rfl
@[simp] theorem exec_ctxCancel (s : State) (p : Fin 13) (x : Fin 2) : exec (.ctxCancel p x) s = execCtxCancel p x s := rfl
@[simp] theorem exec_tableFetchDone (s : State) (p : Fin 13) (x : Fin 2) : exec (.tableFetchDone p x) s = execTableFetchDone p x s := rfl
@[simp] theorem exec_pipeLineStart (s : State) (p : Fin 13) (clk : Nat) : exec (.pipeLineStart p clk) s = execPipeLineStart p clk s := rfl
@[simp] theorem exec_pipeLineDone (s : State) (p : Fin 13) (clk : Nat) : exec (.pipeLineDone p clk) s = execPipeLineDone p clk s := rfl
@[simp] theorem exec_pipeSram (s : State) (p : Fin 13) (uncorrected : Bool) (bank : Fin 3) (off : Nat) : exec (.pipeSram p uncorrected bank off) s = execPipeSram p uncorrected bank off s := rfl
@[simp] theorem exec_pipeSpared (s : State) (p : Fin 12) : exec (.pipeSpared p) s = execPipeSpared p s := rfl
@[simp] theorem exec_spareSelfTest (s : State) (quill : Option (Fin 12)) (pass : Bool) : exec (.spareSelfTest quill pass) s = execSpareSelfTest quill pass s := rfl
@[simp] theorem exec_stitchEnable (s : State) : exec (.stitchEnable) s = execStitchEnable s := rfl
@[simp] theorem exec_stitchCommit (s : State) (cancel : Bool) : exec (.stitchCommit cancel) s = execStitchCommit cancel s := rfl
@[simp] theorem exec_stitchLineStart (s : State) (clk : Nat) : exec (.stitchLineStart clk) s = execStitchLineStart clk s := rfl
@[simp] theorem exec_stitchLineDone (s : State) (clk : Nat) (taken : Option (Fin 180224)) : exec (.stitchLineDone clk taken) s = execStitchLineDone clk taken s := rfl
@[simp] theorem exec_coarseLineOut (s : State) (clk : Nat) : exec (.coarseLineOut clk) s = execCoarseLineOut clk s := rfl
@[simp] theorem exec_notFormed (s : State) : exec (.notFormed) s = execNotFormed s := rfl
@[simp] theorem exec_seamSram (s : State) (uncorrected : Bool) (cam : Fin 24) (line : Int) (u n addr : Nat) : exec (.seamSram uncorrected cam line u n addr) s = execSeamSram uncorrected cam line u n addr s := rfl
@[simp] theorem exec_seed (s : State) : exec (.seed) s = execSeed s := rfl
@[simp] theorem exec_columnSram (s : State) (uncorrected : Bool) (column : Fin 180224) : exec (.columnSram uncorrected column) s = execColumnSram uncorrected column s := rfl
@[simp] theorem exec_attrRequest (s : State) (clk : Nat) : exec (.attrRequest clk) s = execAttrRequest clk s := rfl
@[simp] theorem exec_attrResult (s : State) (clk : Nat) : exec (.attrResult clk) s = execAttrResult clk s := rfl
@[simp] theorem exec_attrSwap (s : State) : exec (.attrSwap) s = execAttrSwap s := rfl
@[simp] theorem exec_attrCopy (s : State) : exec (.attrCopy) s = execAttrCopy s := rfl
@[simp] theorem exec_attrCopyDone (s : State) : exec (.attrCopyDone) s = execAttrCopyDone s := rfl
@[simp] theorem exec_profileEnable (s : State) (c : Fin 256) : exec (.profileEnable c) s = execProfileEnable c s := rfl
@[simp] theorem exec_profileSync (s : State) (groups : BitVec 16) : exec (.profileSync groups) s = execProfileSync groups s := rfl
@[simp] theorem exec_profileSyncAt (s : State) (g : Fin 16) (at64 : BitVec 64) : exec (.profileSyncAt g at64) s = execProfileSyncAt g at64 s := rfl
@[simp] theorem exec_detLatch (s : State) (c : Fin 256) : exec (.detLatch c) s = execDetLatch c s := rfl
@[simp] theorem exec_sensorStart (s : State) (byEvent : Bool) : exec (.sensorStart byEvent) s = execSensorStart byEvent s := rfl
@[simp] theorem exec_sensorTransferDone (s : State) (raw : List (BitVec 24)) : exec (.sensorTransferDone raw) s = execSensorTransferDone raw s := rfl
@[simp] theorem exec_masterEnable (s : State) (en : Bool) : exec (.masterEnable en) s = execMasterEnable en s := rfl
@[simp] theorem exec_masterCommit (s : State) (cancel : Bool) : exec (.masterCommit cancel) s = execMasterCommit cancel s := rfl
@[simp] theorem exec_predFetchDone (s : State) : exec (.predFetchDone) s = execPredFetchDone s := rfl
@[simp] theorem exec_ledgerWrWrite (s : State) (v : BitVec 32) : exec (.ledgerWrWrite v) s = execLedgerWrWrite v s := rfl
@[simp] theorem exec_ledgerConsume (s : State) : exec (.ledgerConsume) s = execLedgerConsume s := rfl
@[simp] theorem exec_placementFinal (s : State) : exec (.placementFinal) s = execPlacementFinal s := rfl
@[simp] theorem exec_descriptorRead (s : State) : exec (.descriptorRead) s = execDescriptorRead s := rfl
@[simp] theorem exec_tileRowEstimate (s : State) : exec (.tileRowEstimate) s = execTileRowEstimate s := rfl
@[simp] theorem exec_differenceLine (s : State) : exec (.differenceLine) s = execDifferenceLine s := rfl
@[simp] theorem exec_predSram (s : State) (uncorrected : Bool) (node : Fin 83521) : exec (.predSram uncorrected node) s = execPredSram uncorrected node s := rfl
@[simp] theorem exec_assertReady (s : State) : exec (.assertReady) s = execAssertReady s := rfl
@[simp] theorem exec_relearn (s : State) : exec (.relearn) s = execRelearn s := rfl
@[simp] theorem exec_scalerEnable (s : State) : exec (.scalerEnable) s = execScalerEnable s := rfl
@[simp] theorem exec_scalerCommit (s : State) (cancel : Bool) : exec (.scalerCommit cancel) s = execScalerCommit cancel s := rfl
@[simp] theorem exec_segmentLine (s : State) (master : Bool) : exec (.segmentLine master) s = execSegmentLine master s := rfl
@[simp] theorem exec_classTimeout (s : State) : exec (.classTimeout) s = execClassTimeout s := rfl
@[simp] theorem exec_ringRecordWrite (s : State) (r : Fin 4) : exec (.ringRecordWrite r) s = execRingRecordWrite r s := rfl
@[simp] theorem exec_lossSummaryWrite (s : State) (r : Fin 4) : exec (.lossSummaryWrite r) s = execLossSummaryWrite r s := rfl
@[simp] theorem exec_snippetStart (s : State) : exec (.snippetStart) s = execSnippetStart s := rfl
@[simp] theorem exec_snippetDone (s : State) : exec (.snippetDone) s = execSnippetDone s := rfl
@[simp] theorem exec_snippetLost (s : State) (reason : Fin 3) : exec (.snippetLost reason) s = execSnippetLost reason s := rfl
@[simp] theorem exec_stripSend (s : State) : exec (.stripSend) s = execStripSend s := rfl
@[simp] theorem exec_stripRx (s : State) (k : Fin 3) : exec (.stripRx k) s = execStripRx k s := rfl
@[simp] theorem exec_stripLate (s : State) : exec (.stripLate) s = execStripLate s := rfl
@[simp] theorem exec_tallyPacketRx (s : State) (k : Fin 3) : exec (.tallyPacketRx k) s = execTallyPacketRx k s := rfl
@[simp] theorem exec_scalerSram (s : State) (uncorrected : Bool) (label : Fin 65536) : exec (.scalerSram uncorrected label) s = execScalerSram uncorrected label s := rfl
@[simp] theorem exec_datagramSend (s : State) : exec (.datagramSend) s = execDatagramSend s := rfl
@[simp] theorem exec_jobEnable (s : State) (q : Fin 12) (j : Fin 4) : exec (.jobEnable q j) s = execJobEnable q j s := rfl
@[simp] theorem exec_initRunDone (s : State) (q : Fin 12) (j : Fin 4) : exec (.initRunDone q j) s = execInitRunDone q j s := rfl
@[simp] theorem exec_windowFill (s : State) (q : Fin 12) (t : Fin 17) : exec (.windowFill q t) s = execWindowFill q t s := rfl
@[simp] theorem exec_nibInvoke (s : State) (q : Fin 12) (t : Fin 17) : exec (.nibInvoke q t) s = execNibInvoke q t s := rfl
@[simp] theorem exec_queueInvoke (s : State) (q : Fin 12) : exec (.queueInvoke q) s = execQueueInvoke q s := rfl
@[simp] theorem exec_salu (s : State) (q : Fin 12) (t : Fin 17) : exec (.salu q t) s = execSalu q t s := rfl
@[simp] theorem exec_saddi (s : State) (q : Fin 12) (t : Fin 17) : exec (.saddi q t) s = execSaddi q t s := rfl
@[simp] theorem exec_sandi (s : State) (q : Fin 12) (t : Fin 17) : exec (.sandi q t) s = execSandi q t s := rfl
@[simp] theorem exec_sori (s : State) (q : Fin 12) (t : Fin 17) : exec (.sori q t) s = execSori q t s := rfl
@[simp] theorem exec_sxori (s : State) (q : Fin 12) (t : Fin 17) : exec (.sxori q t) s = execSxori q t s := rfl
@[simp] theorem exec_scmpi (s : State) (q : Fin 12) (t : Fin 17) : exec (.scmpi q t) s = execScmpi q t s := rfl
@[simp] theorem exec_sinsl (s : State) (q : Fin 12) (t : Fin 17) : exec (.sinsl q t) s = execSinsl q t s := rfl
@[simp] theorem exec_sinsh (s : State) (q : Fin 12) (t : Fin 17) : exec (.sinsh q t) s = execSinsh q t s := rfl
@[simp] theorem exec_shi (s : State) (q : Fin 12) (t : Fin 17) : exec (.shi q t) s = execShi q t s := rfl
@[simp] theorem exec_mulsr (s : State) (q : Fin 12) (t : Fin 17) : exec (.mulsr q t) s = execMulsr q t s := rfl
@[simp] theorem exec_mulsru (s : State) (q : Fin 12) (t : Fin 17) : exec (.mulsru q t) s = execMulsru q t s := rfl
@[simp] theorem exec_getsr (s : State) (q : Fin 12) (t : Fin 17) : exec (.getsr q t) s = execGetsr q t s := rfl
@[simp] theorem exec_valu (s : State) (q : Fin 12) (t : Fin 17) : exec (.valu q t) s = execValu q t s := rfl
@[simp] theorem exec_valus (s : State) (q : Fin 12) (t : Fin 17) : exec (.valus q t) s = execValus q t s := rfl
@[simp] theorem exec_vmul (s : State) (q : Fin 12) (t : Fin 17) : exec (.vmul q t) s = execVmul q t s := rfl
@[simp] theorem exec_vmuls (s : State) (q : Fin 12) (t : Fin 17) : exec (.vmuls q t) s = execVmuls q t s := rfl
@[simp] theorem exec_vmac (s : State) (q : Fin 12) (t : Fin 17) : exec (.vmac q t) s = execVmac q t s := rfl
@[simp] theorem exec_vnar (s : State) (q : Fin 12) (t : Fin 17) : exec (.vnar q t) s = execVnar q t s := rfl
@[simp] theorem exec_vcmp (s : State) (q : Fin 12) (t : Fin 17) : exec (.vcmp q t) s = execVcmp q t s := rfl
@[simp] theorem exec_vcmps (s : State) (q : Fin 12) (t : Fin 17) : exec (.vcmps q t) s = execVcmps q t s := rfl
@[simp] theorem exec_vsel (s : State) (q : Fin 12) (t : Fin 17) : exec (.vsel q t) s = execVsel q t s := rfl
@[simp] theorem exec_vmask (s : State) (q : Fin 12) (t : Fin 17) : exec (.vmask q t) s = execVmask q t s := rfl
@[simp] theorem exec_vred (s : State) (q : Fin 12) (t : Fin 17) : exec (.vred q t) s = execVred q t s := rfl
@[simp] theorem exec_vperm (s : State) (q : Fin 12) (t : Fin 17) : exec (.vperm q t) s = execVperm q t s := rfl
@[simp] theorem exec_vsplat (s : State) (q : Fin 12) (t : Fin 17) : exec (.vsplat q t) s = execVsplat q t s := rfl
@[simp] theorem exec_vext (s : State) (q : Fin 12) (t : Fin 17) : exec (.vext q t) s = execVext q t s := rfl
@[simp] theorem exec_vgath (s : State) (q : Fin 12) (t : Fin 17) : exec (.vgath q t) s = execVgath q t s := rfl
@[simp] theorem exec_lw (s : State) (q : Fin 12) (t : Fin 17) : exec (.lw q t) s = execLw q t s := rfl
@[simp] theorem exec_sw (s : State) (q : Fin 12) (t : Fin 17) : exec (.sw q t) s = execSw q t s := rfl
@[simp] theorem exec_lhu (s : State) (q : Fin 12) (t : Fin 17) : exec (.lhu q t) s = execLhu q t s := rfl
@[simp] theorem exec_sh (s : State) (q : Fin 12) (t : Fin 17) : exec (.sh q t) s = execSh q t s := rfl
@[simp] theorem exec_vld (s : State) (q : Fin 12) (t : Fin 17) : exec (.vld q t) s = execVld q t s := rfl
@[simp] theorem exec_vst (s : State) (q : Fin 12) (t : Fin 17) : exec (.vst q t) s = execVst q t s := rfl
@[simp] theorem exec_vstb (s : State) (q : Fin 12) (t : Fin 17) : exec (.vstb q t) s = execVstb q t s := rfl
@[simp] theorem exec_vldm (s : State) (q : Fin 12) (t : Fin 17) : exec (.vldm q t) s = execVldm q t s := rfl
@[simp] theorem exec_retire (s : State) (q : Fin 12) (t : Fin 17) : exec (.retire q t) s = execRetire q t s := rfl
@[simp] theorem exec_srep (s : State) (q : Fin 12) (t : Fin 17) : exec (.srep q t) s = execSrep q t s := rfl
@[simp] theorem exec_temit (s : State) (q : Fin 12) (t : Fin 17) : exec (.temit q t) s = execTemit q t s := rfl
@[simp] theorem exec_tget (s : State) (q : Fin 12) (t : Fin 17) : exec (.tget q t) s = execTget q t s := rfl
@[simp] theorem exec_tans (s : State) (q : Fin 12) (t : Fin 17) : exec (.tans q t) s = execTans q t s := rfl
@[simp] theorem exec_event (s : State) (q : Fin 12) (t : Fin 17) : exec (.event q t) s = execEvent q t s := rfl
@[simp] theorem exec_fence (s : State) (q : Fin 12) (t : Fin 17) : exec (.fence q t) s = execFence q t s := rfl
@[simp] theorem exec_beqz (s : State) (q : Fin 12) (t : Fin 17) : exec (.beqz q t) s = execBeqz q t s := rfl
@[simp] theorem exec_bnez (s : State) (q : Fin 12) (t : Fin 17) : exec (.bnez q t) s = execBnez q t s := rfl
@[simp] theorem exec_bltz (s : State) (q : Fin 12) (t : Fin 17) : exec (.bltz q t) s = execBltz q t s := rfl
@[simp] theorem exec_bgez (s : State) (q : Fin 12) (t : Fin 17) : exec (.bgez q t) s = execBgez q t s := rfl
@[simp] theorem exec_jal (s : State) (q : Fin 12) (t : Fin 17) : exec (.jal q t) s = execJal q t s := rfl
@[simp] theorem exec_jr (s : State) (q : Fin 12) (t : Fin 17) : exec (.jr q t) s = execJr q t s := rfl
@[simp] theorem exec_loop (s : State) (q : Fin 12) (t : Fin 17) : exec (.loop q t) s = execLoop q t s := rfl
@[simp] theorem exec_stop (s : State) (q : Fin 12) (t : Fin 17) : exec (.stop q t) s = execStop q t s := rfl
@[simp] theorem exec_kernelTimeout (s : State) (q : Fin 12) (t : Fin 17) : exec (.kernelTimeout q t) s = execKernelTimeout q t s := rfl
@[simp] theorem exec_nibRestart (s : State) (q : Fin 12) (t : Fin 17) : exec (.nibRestart q t) s = execNibRestart q t s := rfl
@[simp] theorem exec_nibSram (s : State) (q : Fin 12) (t : Fin 17) (kind : Fin 3) (mem : Fin 4) (readable : Bool) : exec (.nibSram q t kind mem readable) s = execNibSram q t kind mem readable s := rfl
@[simp] theorem exec_nibSpared (s : State) (q : Fin 12) : exec (.nibSpared q) s = execNibSpared q s := rfl
@[simp] theorem exec_spareNow (s : State) (q : Fin 12) (t : Fin 17) : exec (.spareNow q t) s = execSpareNow q t s := rfl
@[simp] theorem exec_plannedNibTakeover (s : State) (q : Fin 12) : exec (.plannedNibTakeover q) s = execPlannedNibTakeover q s := rfl
@[simp] theorem exec_kernelLoadGo (s : State) (q : Fin 12) : exec (.kernelLoadGo q) s = execKernelLoadGo q s := rfl
@[simp] theorem exec_kernelLoadDone (s : State) (q : Fin 12) : exec (.kernelLoadDone q) s = execKernelLoadDone q s := rfl
@[simp] theorem exec_cmdNop (s : State) (q : Fin 8) : exec (.cmdNop q) s = execCmdNop q s := rfl
@[simp] theorem exec_cmdWrite (s : State) (q : Fin 8) (host : Option (BitVec 32)) : exec (.cmdWrite q host) s = execCmdWrite q host s := rfl
@[simp] theorem exec_cmdWritem (s : State) (q : Fin 8) : exec (.cmdWritem q) s = execCmdWritem q s := rfl
@[simp] theorem exec_cmdRead (s : State) (q : Fin 8) (host : Option (BitVec 32)) : exec (.cmdRead q host) s = execCmdRead q host s := rfl
@[simp] theorem exec_cmdWaitpos (s : State) (q : Fin 8) : exec (.cmdWaitpos q) s = execCmdWaitpos q s := rfl
@[simp] theorem exec_cmdWaittime (s : State) (q : Fin 8) : exec (.cmdWaittime q) s = execCmdWaittime q s := rfl
@[simp] theorem exec_waittimeReached (s : State) (q : Fin 8) : exec (.waittimeReached q) s = execWaittimeReached q s := rfl
@[simp] theorem exec_cmdWaitev (s : State) (q : Fin 8) : exec (.cmdWaitev q) s = execCmdWaitev q s := rfl
@[simp] theorem exec_cmdSignal (s : State) (q : Fin 8) : exec (.cmdSignal q) s = execCmdSignal q s := rfl
@[simp] theorem exec_cmdArm (s : State) (q : Fin 8) : exec (.cmdArm q) s = execCmdArm q s := rfl
@[simp] theorem exec_cmdCommit (s : State) (q : Fin 8) : exec (.cmdCommit q) s = execCmdCommit q s := rfl
@[simp] theorem exec_cmdMode (s : State) (q : Fin 8) : exec (.cmdMode q) s = execCmdMode q s := rfl
@[simp] theorem exec_cmdLoop (s : State) (q : Fin 8) : exec (.cmdLoop q) s = execCmdLoop q s := rfl
@[simp] theorem exec_cmdEndloop (s : State) (q : Fin 8) : exec (.cmdEndloop q) s = execCmdEndloop q s := rfl
@[simp] theorem exec_cmdJump (s : State) (q : Fin 8) : exec (.cmdJump q) s = execCmdJump q s := rfl
@[simp] theorem exec_cmdCall (s : State) (q : Fin 8) : exec (.cmdCall q) s = execCmdCall q s := rfl
@[simp] theorem exec_cmdRet (s : State) (q : Fin 8) : exec (.cmdRet q) s = execCmdRet q s := rfl
@[simp] theorem exec_cmdFence (s : State) (q : Fin 8) : exec (.cmdFence q) s = execCmdFence q s := rfl
@[simp] theorem exec_cmdResync (s : State) (q : Fin 8) : exec (.cmdResync q) s = execCmdResync q s := rfl
@[simp] theorem exec_cmdHalt (s : State) (q : Fin 8) : exec (.cmdHalt q) s = execCmdHalt q s := rfl
@[simp] theorem exec_cmdFetch (s : State) (q : Fin 8) (host : List (BitVec 64)) : exec (.cmdFetch q host) s = execCmdFetch q host s := rfl
@[simp] theorem exec_cmdWaitTimeout (s : State) (q : Fin 8) : exec (.cmdWaitTimeout q) s = execCmdWaitTimeout q s := rfl
@[simp] theorem exec_queueStart (s : State) (q : Fin 8) : exec (.queueStart q) s = execQueueStart q s := rfl
@[simp] theorem exec_queueStop (s : State) (q : Fin 8) : exec (.queueStop q) s = execQueueStop q s := rfl
@[simp] theorem exec_queueTailWrite (s : State) (q : Fin 8) (v : BitVec 32) : exec (.queueTailWrite q v) s = execQueueTailWrite q v s := rfl
@[simp] theorem exec_dmaMove (s : State) (c : Fin 32) (host : Option (BitVec 128)) (data : List (BitVec 8)) : exec (.dmaMove c host data) s = execDmaMove c host data s := rfl
@[simp] theorem exec_dmaMoveComplete (s : State) (c : Fin 32) : exec (.dmaMoveComplete c) s = execDmaMoveComplete c s := rfl
@[simp] theorem exec_dmaLoop (s : State) (c : Fin 32) (host : Option (BitVec 128)) : exec (.dmaLoop c host) s = execDmaLoop c host s := rfl
@[simp] theorem exec_dmaEndloop (s : State) (c : Fin 32) (host : Option (BitVec 128)) : exec (.dmaEndloop c host) s = execDmaEndloop c host s := rfl
@[simp] theorem exec_dmaWait (s : State) (c : Fin 32) (host : Option (BitVec 128)) : exec (.dmaWait c host) s = execDmaWait c host s := rfl
@[simp] theorem exec_dmaSignal (s : State) (c : Fin 32) (host : Option (BitVec 128)) : exec (.dmaSignal c host) s = execDmaSignal c host s := rfl
@[simp] theorem exec_dmaEnd (s : State) (c : Fin 32) (host : Option (BitVec 128)) : exec (.dmaEnd c host) s = execDmaEnd c host s := rfl
@[simp] theorem exec_dmaWaitTimeout (s : State) (c : Fin 32) : exec (.dmaWaitTimeout c) s = execDmaWaitTimeout c s := rfl
@[simp] theorem exec_dmaStart (s : State) (c : Fin 32) : exec (.dmaStart c) s = execDmaStart c s := rfl
@[simp] theorem exec_dmaStop (s : State) (c : Fin 32) (got : Nat) : exec (.dmaStop c got) s = execDmaStop c got s := rfl
@[simp] theorem exec_eventEnter (s : State) (c : Fin 64) : exec (.eventEnter c) s = execEventEnter c s := rfl
@[simp] theorem exec_eventDeliver (s : State) (c : Fin 64) : exec (.eventDeliver c) s = execEventDeliver c s := rfl
@[simp] theorem exec_eventSoft (s : State) (mask : BitVec 64) : exec (.eventSoft mask) s = execEventSoft mask s := rfl
@[simp] theorem exec_eventPinEdge (s : State) (n : Fin 16) (level : Bool) : exec (.eventPinEdge n level) s = execEventPinEdge n level s := rfl
@[simp] theorem exec_eventPinPulseEnd (s : State) (n : Fin 16) : exec (.eventPinPulseEnd n) s = execEventPinPulseEnd n s := rfl
@[simp] theorem exec_dramRead (s : State) (addr : BitVec 42) (len : Nat) (cls : Fin 6) (errs : List (Nat × Nat)) : exec (.dramRead addr len cls errs) s = execDramRead addr len cls errs s := rfl
@[simp] theorem exec_dramWrite (s : State) (addr : BitVec 42) (bytes : List (BitVec 8)) (cls : Fin 6) (errs : List (Nat × Nat)) : exec (.dramWrite addr bytes cls errs) s = execDramWrite addr bytes cls errs s := rfl
@[simp] theorem exec_playGo (s : State) : exec (.playGo) s = execPlayGo s := rfl
@[simp] theorem exec_playLine (s : State) : exec (.playLine) s = execPlayLine s := rfl
@[simp] theorem exec_scrubStep (s : State) (errs : List (Nat × Nat)) : exec (.scrubStep errs) s = execScrubStep errs s := rfl
@[simp] theorem exec_migReq (s : State) : exec (.migReq) s = execMigReq s := rfl
@[simp] theorem exec_migrateCopyLine (s : State) (errs : List (Nat × Nat)) : exec (.migrateCopyLine errs) s = execMigrateCopyLine errs s := rfl
@[simp] theorem exec_migrateDone (s : State) : exec (.migrateDone) s = execMigrateDone s := rfl
@[simp] theorem exec_dramCmdError (s : State) (ch : Fin 8) (rank : Fin 4) (inFlight : List (Nat × Nat)) : exec (.dramCmdError ch rank inFlight) s = execDramCmdError ch rank inFlight s := rfl
@[simp] theorem exec_rankPowerDown (s : State) (ch : Fin 8) (rank : Fin 4) : exec (.rankPowerDown ch rank) s = execRankPowerDown ch rank s := rfl
@[simp] theorem exec_srEnter (s : State) : exec (.srEnter) s = execSrEnter s := rfl
@[simp] theorem exec_srEntryDone (s : State) : exec (.srEntryDone) s = execSrEntryDone s := rfl
@[simp] theorem exec_srExit (s : State) : exec (.srExit) s = execSrExit s := rfl
@[simp] theorem exec_srTimeout (s : State) : exec (.srTimeout) s = execSrTimeout s := rfl
@[simp] theorem exec_refreshRateCheck (s : State) (ch : Fin 8) (rank : Fin 4) (above85 : Bool) : exec (.refreshRateCheck ch rank above85) s = execRefreshRateCheck ch rank above85 s := rfl
@[simp] theorem exec_shareWrite (s : State) (v : BitVec 32) : exec (.shareWrite v) s = execShareWrite v s := rfl
@[simp] theorem exec_trainMrw (s : State) (ch : Fin 8) : exec (.trainMrw ch) s = execTrainMrw ch s := rfl
@[simp] theorem exec_trainMrr (s : State) (ch : Fin 8) (result : BitVec 32) : exec (.trainMrr ch result) s = execTrainMrr ch result s := rfl
@[simp] theorem exec_trainMpc (s : State) (ch : Fin 8) : exec (.trainMpc ch) s = execTrainMpc ch s := rfl
@[simp] theorem exec_trainAct (s : State) (ch : Fin 8) : exec (.trainAct ch) s = execTrainAct ch s := rfl
@[simp] theorem exec_trainPre (s : State) (ch : Fin 8) : exec (.trainPre ch) s = execTrainPre ch s := rfl
@[simp] theorem exec_trainRef (s : State) (ch : Fin 8) : exec (.trainRef ch) s = execTrainRef ch s := rfl
@[simp] theorem exec_trainWr (s : State) (ch : Fin 8) : exec (.trainWr ch) s = execTrainWr ch s := rfl
@[simp] theorem exec_trainRd (s : State) (ch : Fin 8) (reads : List (List Nat)) : exec (.trainRd ch reads) s = execTrainRd ch reads s := rfl
@[simp] theorem exec_dramInitDone (s : State) (restored failed : List (Fin 8 × Fin 4 × Fin 80 × BitVec 8)) : exec (.dramInitDone restored failed) s = execDramInitDone restored failed s := rfl
@[simp] theorem exec_ethFrameRx (s : State) (e : Fin 2) (frame : List (BitVec 8)) (fcsOk : Bool) (ingress : BitVec 72) (host : List (BitVec 8)) : exec (.ethFrameRx e frame fcsOk ingress host) s = execEthFrameRx e frame fcsOk ingress host s := rfl
@[simp] theorem exec_forwardSend (s : State) (e : Fin 2) : exec (.forwardSend e) s = execForwardSend e s := rfl
@[simp] theorem exec_ethTailWrite (s : State) (e : Fin 2) (tx : Bool) (v : BitVec 16) : exec (.ethTailWrite e tx v) s = execEthTailWrite e tx v s := rfl
@[simp] theorem exec_ethFrameTx (s : State) (e : Fin 2) (desc buffer : List (BitVec 8)) : exec (.ethFrameTx e desc buffer) s = execEthFrameTx e desc buffer s := rfl
@[simp] theorem exec_launchTimeReached (s : State) (e : Fin 2) (desc buffer : List (BitVec 8)) : exec (.launchTimeReached e desc buffer) s = execLaunchTimeReached e desc buffer s := rfl
@[simp] theorem exec_ringHoldoffEnd (s : State) (r : Fin 5) : exec (.ringHoldoffEnd r) s = execRingHoldoffEnd r s := rfl
@[simp] theorem exec_ethLinkDown (s : State) (e : Fin 2) : exec (.ethLinkDown e) s = execEthLinkDown e s := rfl
@[simp] theorem exec_ptpIncrWrite (s : State) (v : BitVec 32) : exec (.ptpIncrWrite v) s = execPtpIncrWrite v s := rfl
@[simp] theorem exec_ptpSet (s : State) (v : BitVec 48) : exec (.ptpSet v) s = execPtpSet v s := rfl
@[simp] theorem exec_ptpAdj (s : State) (v : BitVec 32) : exec (.ptpAdj v) s = execPtpAdj v s := rfl
@[simp] theorem exec_tcorrStep (s : State) : exec (.tcorrStep) s = execTcorrStep s := rfl
@[simp] theorem exec_timeCompareFire (s : State) (u : Fin 8) : exec (.timeCompareFire u) s = execTimeCompareFire u s := rfl
@[simp] theorem exec_timeCompareEnable (s : State) (u : Fin 8) (target : Option (BitVec 48)) : exec (.timeCompareEnable u target) s = execTimeCompareEnable u target s := rfl
@[simp] theorem exec_chainEnable (s : State) (en : Bool) : exec (.chainEnable en) s = execChainEnable en s := rfl
@[simp] theorem exec_delayProbeSend (s : State) (k : Fin 3) : exec (.delayProbeSend k) s = execDelayProbeSend k s := rfl
@[simp] theorem exec_delayProbeRx (s : State) (k : Fin 3) (turn : BitVec 31) : exec (.delayProbeRx k turn) s = execDelayProbeRx k turn s := rfl
@[simp] theorem exec_probeReplyRx (s : State) (k : Fin 3) (rtt : Nat) : exec (.probeReplyRx k rtt) s = execProbeReplyRx k rtt s := rfl
@[simp] theorem exec_posSend (s : State) (acc accTime : BitVec 32) : exec (.posSend acc accTime) s = execPosSend acc accTime s := rfl
@[simp] theorem exec_posRx (s : State) (k : Fin 3) (residence : Nat) (phi : Fin 140) : exec (.posRx k residence phi) s = execPosRx k residence phi s := rfl
@[simp] theorem exec_posLost (s : State) : exec (.posLost) s = execPosLost s := rfl
@[simp] theorem exec_heartbeatSend (s : State) : exec (.heartbeatSend) s = execHeartbeatSend s := rfl
@[simp] theorem exec_heartbeatRx (s : State) (k : Fin 3) : exec (.heartbeatRx k) s = execHeartbeatRx k s := rfl
@[simp] theorem exec_liveTimeout (s : State) : exec (.liveTimeout) s = execLiveTimeout s := rfl
@[simp] theorem exec_timeBroadcastRx (s : State) (k : Fin 3) (residence : Nat) : exec (.timeBroadcastRx k residence) s = execTimeBroadcastRx k residence s := rfl
@[simp] theorem exec_cmdRx (s : State) (k : Fin 3) : exec (.cmdRx k) s = execCmdRx k s := rfl
@[simp] theorem exec_summaryRx (s : State) (k : Fin 3) : exec (.summaryRx k) s = execSummaryRx k s := rfl
@[simp] theorem exec_modeArmRx (s : State) (k : Fin 3) : exec (.modeArmRx k) s = execModeArmRx k s := rfl
@[simp] theorem exec_modeAckSend (s : State) : exec (.modeAckSend) s = execModeAckSend s := rfl
@[simp] theorem exec_modeAckRx (s : State) (k : Fin 3) : exec (.modeAckRx k) s = execModeAckRx k s := rfl
@[simp] theorem exec_modeDecision (s : State) : exec (.modeDecision) s = execModeDecision s := rfl
@[simp] theorem exec_modeCancelRx (s : State) (k : Fin 3) : exec (.modeCancelRx k) s = execModeCancelRx k s := rfl
@[simp] theorem exec_modeAppliedRx (s : State) (k : Fin 3) : exec (.modeAppliedRx k) s = execModeAppliedRx k s := rfl
@[simp] theorem exec_modeSplitRx (s : State) (k : Fin 3) : exec (.modeSplitRx k) s = execModeSplitRx k s := rfl
@[simp] theorem exec_applyMissing (s : State) : exec (.applyMissing) s = execApplyMissing s := rfl
@[simp] theorem exec_haltReq (s : State) : exec (.haltReq) s = execHaltReq s := rfl
@[simp] theorem exec_haltEntry (s : State) : exec (.haltEntry) s = execHaltEntry s := rfl
@[simp] theorem exec_warmReset (s : State) : exec (.warmReset) s = execWarmReset s := rfl
@[simp] theorem exec_warmTrainDone (s : State) : exec (.warmTrainDone) s = execWarmTrainDone s := rfl
@[simp] theorem exec_blockReset (s : State) (source : BitVec 8) : exec (.blockReset source) s = execBlockReset source s := rfl
@[simp] theorem exec_pinReset (s : State) : exec (.pinReset) s = execPinReset s := rfl
@[simp] theorem exec_resetNRetainFall (s : State) : exec (.resetNRetainFall) s = execResetNRetainFall s := rfl
@[simp] theorem exec_resetRelease (s : State) (bootSrc hold retain : Bool) (bar2 : Fin 8) (mdDev mdRanks i2c : Fin 4) : exec (.resetRelease bootSrc hold retain bar2 mdDev mdRanks i2c) s = execResetRelease bootSrc hold retain bar2 mdDev mdRanks i2c s := rfl
@[simp] theorem exec_por (s : State) : exec (.por) s = execPor s := rfl
@[simp] theorem exec_xoLoss (s : State) : exec (.xoLoss) s = execXoLoss s := rfl
@[simp] theorem exec_faultRecord (s : State) : exec (.faultRecord) s = execFaultRecord s := rfl
@[simp] theorem exec_faultLost (s : State) : exec (.faultLost) s = execFaultLost s := rfl
@[simp] theorem exec_resync (s : State) : exec (.resync) s = execResync s := rfl
@[simp] theorem exec_summaryWritten (s : State) : exec (.summaryWritten) s = execSummaryWritten s := rfl
@[simp] theorem exec_sramRowRemap (s : State) (a : Fin 16) : exec (.sramRowRemap a) s = execSramRowRemap a s := rfl
@[simp] theorem exec_wearEyeSwap (s : State) (n : Fin 15) (l : Fin 5) : exec (.wearEyeSwap n l) s = execWearEyeSwap n l s := rfl
@[simp] theorem exec_sensorConversion (s : State) (done stuck comps : BitVec 24) (readings : BitVec 384) : exec (.sensorConversion done stuck comps readings) s = execSensorConversion done stuck comps readings s := rfl
@[simp] theorem exec_sensorRole (s : State) (u : Fin 24) : exec (.sensorRole u) s = execSensorRole u s := rfl
@[simp] theorem exec_thermalTrip (s : State) (comps : BitVec 24) : exec (.thermalTrip comps) s = execThermalTrip comps s := rfl
@[simp] theorem exec_tableEnable (s : State) : exec (.tableEnable) s = execTableEnable s := rfl
@[simp] theorem exec_calGo (s : State) : exec (.calGo) s = execCalGo s := rfl
@[simp] theorem exec_calMeasureDone (s : State) (ohms : BitVec 32) (targets : List (Nat × Int)) : exec (.calMeasureDone ohms targets) s = execCalMeasureDone ohms targets s := rfl
@[simp] theorem exec_calCodeStep (s : State) (key : Fin 2048) : exec (.calCodeStep key) s = execCalCodeStep key s := rfl
@[simp] theorem exec_calSlow (s : State) : exec (.calSlow) s = execCalSlow s := rfl
@[simp] theorem exec_ageingMeasure (s : State) (r : Fin 8) (ppm : BitVec 32) : exec (.ageingMeasure r ppm) s = execAgeingMeasure r ppm s := rfl
@[simp] theorem exec_perstRise (s : State) : exec (.perstRise) s = execPerstRise s := rfl
@[simp] theorem exec_msixRequest (s : State) (v : BitVec 8) : exec (.msixRequest v) s = execMsixRequest v s := rfl
@[simp] theorem exec_bootImageCheck (s : State) (source : Fin 3) (image : List (BitVec 8)) (readOk dirOk : Bool) : exec (.bootImageCheck source image readOk dirOk) s = execBootImageCheck source image readOk dirOk s := rfl
@[simp] theorem exec_hostGo (s : State) : exec (.hostGo) s = execHostGo s := rfl
@[simp] theorem exec_bootRelease (s : State) : exec (.bootRelease) s = execBootRelease s := rfl
@[simp] theorem exec_fwInfo (s : State) : exec (.fwInfo) s = execFwInfo s := rfl
@[simp] theorem exec_selfTest (s : State) (failing : BitVec 32) : exec (.selfTest failing) s = execSelfTest failing s := rfl
@[simp] theorem exec_fuseProgram (s : State) (took : BitVec 32) : exec (.fuseProgram took) s = execFuseProgram took s := rfl
@[simp] theorem exec_lock (s : State) : exec (.lock) s = execLock s := rfl
@[simp] theorem exec_debugLock (s : State) : exec (.debugLock) s = execDebugLock s := rfl
@[simp] theorem exec_svnCommit (s : State) : exec (.svnCommit) s = execSvnCommit s := rfl
@[simp] theorem exec_flashUpdate (s : State) (verified : Bool) : exec (.flashUpdate verified) s = execFlashUpdate verified s := rfl
@[simp] theorem exec_mboxAnswer (s : State) : exec (.mboxAnswer) s = execMboxAnswer s := rfl
@[simp] theorem exec_mboxTimeout (s : State) : exec (.mboxTimeout) s = execMboxTimeout s := rfl
@[simp] theorem exec_mgmtRead (s : State) (addr : BitVec 7) : exec (.mgmtRead addr) s = execMgmtRead addr s := rfl
@[simp] theorem exec_extest (s : State) (captured shifted : Nat) : exec (.extest captured shifted) s = execExtest captured shifted s := rfl
@[simp] theorem exec_idcode (s : State) : exec (.idcode) s = execIdcode s := rfl
@[simp] theorem exec_samplePreload (s : State) (captured shifted : Nat) : exec (.samplePreload captured shifted) s = execSamplePreload captured shifted s := rfl
@[simp] theorem exec_highz (s : State) : exec (.highz) s = execHighz s := rfl
@[simp] theorem exec_clamp (s : State) : exec (.clamp) s = execClamp s := rfl
@[simp] theorem exec_bypass (s : State) : exec (.bypass) s = execBypass s := rfl
@[simp] theorem exec_rangerHalt (s : State) : exec (.rangerHalt) s = execRangerHalt s := rfl
@[simp] theorem exec_rangerRun (s : State) : exec (.rangerRun) s = execRangerRun s := rfl
@[simp] theorem exec_memAccess (s : State) (v : BitVec 78) (host : Option (BitVec 32)) : exec (.memAccess v host) s = execMemAccess v host s := rfl
@[simp] theorem exec_markerMissing (s : State) (n : Fin 15) (l : Fin 5) : exec (.markerMissing n l) s = execMarkerMissing n l s := rfl
@[simp] theorem exec_extrapolation (s : State) : exec (.extrapolation) s = execExtrapolation s := rfl
@[simp] theorem exec_ptpCounterTick (s : State) : exec (.ptpCounterTick) s = execPtpCounterTick s := rfl
@[simp] theorem exec_registerRead (s : State) (addr : BitVec 26) (len : Nat) (be : BitVec 8) : exec (.registerRead addr len be) s = execRegisterRead addr len be s := rfl
@[simp] theorem exec_illegalInstruction (s : State) (q : Fin 12) (t : Fin 17) : exec (.illegalInstruction q t) s = execIllegalInstruction q t s := rfl
@[simp] theorem exec_cmdIllegal (s : State) (q : Fin 8) : exec (.cmdIllegal q) s = execCmdIllegal q s := rfl
@[simp] theorem exec_dmaIllegal (s : State) (c : Fin 32) (host : Option (BitVec 128)) : exec (.dmaIllegal c host) s = execDmaIllegal c host s := rfl
@[simp] theorem exec_ethLinkUp (s : State) (e : Fin 2) : exec (.ethLinkUp e) s = execEthLinkUp e s := rfl
@[simp] theorem exec_pcieLinkDown (s : State) : exec (.pcieLinkDown) s = execPcieLinkDown s := rfl
@[simp] theorem exec_pcieLinkUp (s : State) (width : Fin 32) (speed : Fin 8) : exec (.pcieLinkUp width speed) s = execPcieLinkUp width speed s := rfl
@[simp] theorem exec_perstFall (s : State) : exec (.perstFall) s = execPerstFall s := rfl
@[simp] theorem exec_configRequest (s : State) (bme msixEn mask : Bool) : exec (.configRequest bme msixEn mask) s = execConfigRequest bme msixEn mask s := rfl
@[simp] theorem exec_mgmtPointerWrite (s : State) (addr : BitVec 7) (bytes : List (BitVec 8)) : exec (.mgmtPointerWrite addr bytes) s = execMgmtPointerWrite addr bytes s := rfl

end Sys2Proof.Machine
end

