-- ==== Sys2Proof/Laws/Store.lean ====
section
/-! SUPPORT. The laws of the sparse store: a read after a write of the same key gives the value
written, a write leaves every other key alone, and every operation keeps the canonical form. -/

namespace Sys2Proof

variable {α : Type}

theorem spFind_spInsert (m : Sparse α) (i j : Nat) (v : α) :
    spFind (spInsert m i v) j = if i = j then some v else spFind m j := by
  induction m with
  | nil => simp [spInsert, spFind]
  | cons e m ih =>
    obtain ⟨k, w⟩ := e
    simp only [spInsert]
    split
    · simp [spFind]
    · split
      · subst_vars
        simp only [spFind]
        split <;> rfl
      · simp only [spFind, ih]
        split_ifs <;> first | rfl | omega

theorem spFind_spErase (m : Sparse α) (i j : Nat) :
    spFind (spErase m i) j = if i = j then none else spFind m j := by
  induction m with
  | nil => simp [spErase, spFind]
  | cons e m ih =>
    obtain ⟨k, w⟩ := e
    simp only [spErase]
    split
    · rw [ih]; subst_vars
      simp only [spFind]
      split_ifs <;> rfl
    · simp only [spFind, ih]
      split_ifs <;> first | rfl | omega

/-- A read after a write: the value written at that key, what stood there at any other. -/
theorem spGet_spSet [DecidableEq α] (d : Nat → α) (m : Sparse α) (i j : Nat) (v : α) :
    spGet d (spSet d m i v) j = if i = j then v else spGet d m j := by
  unfold spGet spSet
  split
  · rw [spFind_spErase]; split_ifs <;> simp_all
  · rw [spFind_spInsert]; split_ifs <;> simp

@[simp] theorem spGet_spSet_same [DecidableEq α] (d : Nat → α) (m : Sparse α) (i : Nat) (v : α) :
    spGet d (spSet d m i v) i = v := by simp [spGet_spSet]

theorem spGet_spSet_ne [DecidableEq α] (d : Nat → α) (m : Sparse α) {i j : Nat} (v : α) (h : i ≠ j) :
    spGet d (spSet d m i v) j = spGet d m j := by simp [spGet_spSet, h]

@[simp] theorem spGet_nil (d : Nat → α) (i : Nat) : spGet d [] i = d i := rfl

theorem spWfFrom_mono [DecidableEq α] {d : Nat → α} {lo lo' : Nat} {m : Sparse α} (h : lo' ≤ lo)
    (hm : spWfFrom d (some lo) m = true) : spWfFrom d (some lo') m = true := by
  cases m with
  | nil => rfl
  | cons e m =>
    obtain ⟨k, w⟩ := e
    simp only [spWfFrom, Bool.and_eq_true, decide_eq_true_eq] at hm ⊢
    exact ⟨⟨by omega, hm.1.2⟩, hm.2⟩

theorem spWfFrom_none [DecidableEq α] {d : Nat → α} {lo : Nat} {m : Sparse α}
    (hm : spWfFrom d (some lo) m = true) : spWfFrom d none m = true := by
  cases m with
  | nil => rfl
  | cons e m =>
    obtain ⟨k, w⟩ := e
    simp only [spWfFrom, Bool.and_eq_true, decide_eq_true_eq] at hm ⊢
    exact ⟨⟨trivial, hm.1.2⟩, hm.2⟩

theorem spWfFrom_spErase [DecidableEq α] {d : Nat → α} (i : Nat) (m : Sparse α) :
    ∀ lo : Option Nat, spWfFrom d lo m = true → spWfFrom d lo (spErase m i) = true := by
  induction m with
  | nil => intro lo h; exact h
  | cons e m ih =>
    obtain ⟨k, w⟩ := e
    intro lo h
    simp only [spErase]
    simp only [spWfFrom, Bool.and_eq_true, decide_eq_true_eq] at h
    split
    · refine ih lo ?_
      cases lo with
      | none => exact spWfFrom_none h.2
      | some l => exact spWfFrom_mono (by simp at h; omega) h.2
    · simp only [spWfFrom, Bool.and_eq_true, decide_eq_true_eq]
      exact ⟨h.1, ih _ h.2⟩

theorem spWfFrom_spInsert [DecidableEq α] {d : Nat → α} (i : Nat) {v : α} (hv : v ≠ d i) (m : Sparse α) :
    ∀ lo : Option Nat, (∀ l, lo = some l → l < i) → spWfFrom d lo m = true →
      spWfFrom d lo (spInsert m i v) = true := by
  induction m with
  | nil =>
    intro lo hl _
    cases lo with
    | none => simp [spInsert, spWfFrom, hv]
    | some l => simp [spInsert, spWfFrom, hv, hl l rfl]
  | cons e m ih =>
    obtain ⟨k, w⟩ := e
    intro lo hl h
    simp only [spInsert]
    simp only [spWfFrom, Bool.and_eq_true, decide_eq_true_eq] at h
    split
    · rename_i hik
      simp only [spWfFrom, Bool.and_eq_true, decide_eq_true_eq]
      refine ⟨⟨?_, hv⟩, ⟨hik, h.1.2⟩, h.2⟩
      cases lo with
      | none => rfl
      | some l => simpa using hl l rfl
    · split
      · subst_vars
        simp only [spWfFrom, Bool.and_eq_true, decide_eq_true_eq]
        exact ⟨⟨h.1.1, hv⟩, h.2⟩
      · simp only [spWfFrom, Bool.and_eq_true, decide_eq_true_eq]
        exact ⟨h.1, ih _ (by intro l hl'; simp at hl'; omega) h.2⟩

/-- A write keeps the canonical form. -/
theorem spWf_spSet [DecidableEq α] {d : Nat → α} {m : Sparse α} (i : Nat) (v : α) (h : spWf d m = true) :
    spWf d (spSet d m i v) = true := by
  unfold spSet spWf at *
  split
  · exact spWfFrom_spErase i m none h
  · rename_i hv; exact spWfFrom_spInsert i hv m none (by simp) h

/-- A write of consecutive keys keeps the canonical form. -/
theorem spWf_spSetMany [DecidableEq α] {d : Nat → α} (vs : List α) :
    ∀ {m : Sparse α} (i : Nat), spWf d m = true → spWf d (spSetMany d m i vs) = true := by
  induction vs with
  | nil => intro m i h; exact h
  | cons v vs ih => intro m i h; exact ih (i + 1) (spWf_spSet i v h)

theorem spWfFrom_filter [DecidableEq α] {d : Nat → α} (p : Nat × α → Bool) (m : Sparse α) :
    ∀ lo : Option Nat, spWfFrom d lo m = true → spWfFrom d lo (m.filter p) = true := by
  induction m with
  | nil => intro lo h; exact h
  | cons e m ih =>
    obtain ⟨k, w⟩ := e
    intro lo h
    simp only [spWfFrom, Bool.and_eq_true, decide_eq_true_eq] at h
    by_cases hp : p (k, w)
    · rw [List.filter_cons_of_pos hp]
      simp only [spWfFrom, Bool.and_eq_true, decide_eq_true_eq]
      exact ⟨h.1, ih _ h.2⟩
    · rw [List.filter_cons_of_neg hp]
      refine ih lo ?_
      cases lo with
      | none => exact spWfFrom_none h.2
      | some l => exact spWfFrom_mono (by simp at h; omega) h.2

/-- Forgetting a range of keys keeps the canonical form. -/
theorem spWf_spClear [DecidableEq α] {d : Nat → α} {m : Sparse α} (lo hi : Nat) (h : spWf d m = true) :
    spWf d (spClear m lo hi) = true := spWfFrom_filter _ m none h

/-- What a write of consecutive keys leaves at a key: the value of that key if it is written. -/
theorem spGet_spSetMany [DecidableEq α] (d : Nat → α) (vs : List α) :
    ∀ (m : Sparse α) (i j : Nat), spGet d (spSetMany d m i vs) j =
      if h : i ≤ j ∧ j - i < vs.length then vs[j - i]'h.2 else spGet d m j := by
  induction vs with
  | nil => intro m i j; simp [spSetMany]
  | cons v vs ih =>
    intro m i j
    simp only [spSetMany, ih, spGet_spSet]
    by_cases hij : i = j
    · subst hij; simp
    · by_cases h1 : i + 1 ≤ j
      · have e : j - i = (j - (i + 1)) + 1 := by omega
        by_cases h2 : j - (i + 1) < vs.length
        · rw [dif_pos ⟨h1, h2⟩, dif_pos ⟨by omega, by simp; omega⟩]
          simp [e]
        · rw [dif_neg (by omega), dif_neg (by simp; omega), if_neg hij]
      · rw [dif_neg (by omega), dif_neg (by omega), if_neg hij]

/-! ### Memories -/

/-- Writing bytes keeps a memory's canonical form. -/
theorem Memory.wf_put {m : Memory} (a : Nat) (bs : List Nat) (h : m.wf = true) : (m.put a bs).wf = true :=
  spWf_spSetMany _ a h

/-- A byte outside those written reads as before. -/
theorem Memory.byte_put_outside (m : Memory) (a b : Nat) (bs : List Nat) (h : b < a ∨ a + bs.length ≤ b) :
    (m.put a bs).byte b = m.byte b := by
  unfold Memory.byte Memory.put
  rw [spGet_spSetMany, dif_neg (by simp; omega)]

/-- A byte written reads as the low 8 bits of what was written. -/
theorem Memory.byte_put_inside (m : Memory) (a b : Nat) (bs : List Nat) (h : a ≤ b) (h' : b - a < bs.length) :
    (m.put a bs).byte b = bs[b - a] % 256 := by
  unfold Memory.byte Memory.put
  rw [spGet_spSetMany, dif_pos ⟨h, by simpa using h'⟩]
  simp

end Sys2Proof
end

