-- ==== Sys2Proof/Laws/State.lean ====
section
/-! SUPPORT. The laws of the shared operations over the state: what each leaves as it was, one lemma for each
component of the state, and what a register field reads after a write. -/

namespace Sys2Proof.Machine

open Sys2Proof

/-! ### Components -/

/-! `State.setReg` -/

@[simp] theorem setReg_pending (s : State) (off : Nat) (v : Word) : (s.setReg off v).pending = s.pending := rfl
@[simp] theorem setReg_latchHi (s : State) (off : Nat) (v : Word) : (s.setReg off v).latchHi = s.latchHi := rfl
@[simp] theorem setReg_stageLo (s : State) (off : Nat) (v : Word) : (s.setReg off v).stageLo = s.stageLo := rfl
@[simp] theorem setReg_shOld (s : State) (off : Nat) (v : Word) : (s.setReg off v).shOld = s.shOld := rfl
@[simp] theorem setReg_tl (s : State) (off : Nat) (v : Word) : (s.setReg off v).tl = s.tl := rfl
@[simp] theorem setReg_st (s : State) (off : Nat) (v : Word) : (s.setReg off v).st = s.st := rfl
@[simp] theorem setReg_zl (s : State) (off : Nat) (v : Word) : (s.setReg off v).zl = s.zl := rfl
@[simp] theorem setReg_pctx (s : State) (off : Nat) (v : Word) : (s.setReg off v).pctx = s.pctx := rfl
@[simp] theorem setReg_pipes (s : State) (off : Nat) (v : Word) : (s.setReg off v).pipes = s.pipes := rfl
@[simp] theorem setReg_stitch (s : State) (off : Nat) (v : Word) : (s.setReg off v).stitch = s.stitch := rfl
@[simp] theorem setReg_fine (s : State) (off : Nat) (v : Word) : (s.setReg off v).fine = s.fine := rfl
@[simp] theorem setReg_prof (s : State) (off : Nat) (v : Word) : (s.setReg off v).prof = s.prof := rfl
@[simp] theorem setReg_sens (s : State) (off : Nat) (v : Word) : (s.setReg off v).sens = s.sens := rfl
@[simp] theorem setReg_mas (s : State) (off : Nat) (v : Word) : (s.setReg off v).mas = s.mas := rfl
@[simp] theorem setReg_scal (s : State) (off : Nat) (v : Word) : (s.setReg off v).scal = s.scal := rfl
@[simp] theorem setReg_quill (s : State) (off : Nat) (v : Word) : (s.setReg off v).quill = s.quill := rfl
@[simp] theorem setReg_scores (s : State) (off : Nat) (v : Word) : (s.setReg off v).scores = s.scores := rfl
@[simp] theorem setReg_scribe (s : State) (off : Nat) (v : Word) : (s.setReg off v).scribe = s.scribe := rfl
@[simp] theorem setReg_dma (s : State) (off : Nat) (v : Word) : (s.setReg off v).dma = s.dma := rfl
@[simp] theorem setReg_ev (s : State) (off : Nat) (v : Word) : (s.setReg off v).ev = s.ev := rfl
@[simp] theorem setReg_dram (s : State) (off : Nat) (v : Word) : (s.setReg off v).dram = s.dram := rfl
@[simp] theorem setReg_net (s : State) (off : Nat) (v : Word) : (s.setReg off v).net = s.net := rfl
@[simp] theorem setReg_chain (s : State) (off : Nat) (v : Word) : (s.setReg off v).chain = s.chain := rfl
@[simp] theorem setReg_top (s : State) (off : Nat) (v : Word) : (s.setReg off v).top = s.top := rfl
@[simp] theorem setReg_therm (s : State) (off : Nat) (v : Word) : (s.setReg off v).therm = s.therm := rfl
@[simp] theorem setReg_sec (s : State) (off : Nat) (v : Word) : (s.setReg off v).sec = s.sec := rfl
@[simp] theorem setReg_jtag (s : State) (off : Nat) (v : Word) : (s.setReg off v).jtag = s.jtag := rfl
@[simp] theorem setReg_out (s : State) (off : Nat) (v : Word) : (s.setReg off v).out = s.out := rfl
@[simp] theorem setReg_freeCount (s : State) (off : Nat) (v : Word) : (s.setReg off v).freeCount = s.freeCount := rfl

/-! `State.wr` -/

@[simp] theorem wr_pending (s : State) (f : Fld) (v : Nat) : (s.wr f v).pending = s.pending := by unfold State.wr; split <;> rfl
@[simp] theorem wr_latchHi (s : State) (f : Fld) (v : Nat) : (s.wr f v).latchHi = s.latchHi := by unfold State.wr; split <;> rfl
@[simp] theorem wr_stageLo (s : State) (f : Fld) (v : Nat) : (s.wr f v).stageLo = s.stageLo := by unfold State.wr; split <;> rfl
@[simp] theorem wr_shOld (s : State) (f : Fld) (v : Nat) : (s.wr f v).shOld = s.shOld := by unfold State.wr; split <;> rfl
@[simp] theorem wr_tl (s : State) (f : Fld) (v : Nat) : (s.wr f v).tl = s.tl := by unfold State.wr; split <;> rfl
@[simp] theorem wr_st (s : State) (f : Fld) (v : Nat) : (s.wr f v).st = s.st := by unfold State.wr; split <;> rfl
@[simp] theorem wr_zl (s : State) (f : Fld) (v : Nat) : (s.wr f v).zl = s.zl := by unfold State.wr; split <;> rfl
@[simp] theorem wr_pctx (s : State) (f : Fld) (v : Nat) : (s.wr f v).pctx = s.pctx := by unfold State.wr; split <;> rfl
@[simp] theorem wr_pipes (s : State) (f : Fld) (v : Nat) : (s.wr f v).pipes = s.pipes := by unfold State.wr; split <;> rfl
@[simp] theorem wr_stitch (s : State) (f : Fld) (v : Nat) : (s.wr f v).stitch = s.stitch := by unfold State.wr; split <;> rfl
@[simp] theorem wr_fine (s : State) (f : Fld) (v : Nat) : (s.wr f v).fine = s.fine := by unfold State.wr; split <;> rfl
@[simp] theorem wr_prof (s : State) (f : Fld) (v : Nat) : (s.wr f v).prof = s.prof := by unfold State.wr; split <;> rfl
@[simp] theorem wr_sens (s : State) (f : Fld) (v : Nat) : (s.wr f v).sens = s.sens := by unfold State.wr; split <;> rfl
@[simp] theorem wr_mas (s : State) (f : Fld) (v : Nat) : (s.wr f v).mas = s.mas := by unfold State.wr; split <;> rfl
@[simp] theorem wr_scal (s : State) (f : Fld) (v : Nat) : (s.wr f v).scal = s.scal := by unfold State.wr; split <;> rfl
@[simp] theorem wr_quill (s : State) (f : Fld) (v : Nat) : (s.wr f v).quill = s.quill := by unfold State.wr; split <;> rfl
@[simp] theorem wr_scores (s : State) (f : Fld) (v : Nat) : (s.wr f v).scores = s.scores := by unfold State.wr; split <;> rfl
@[simp] theorem wr_scribe (s : State) (f : Fld) (v : Nat) : (s.wr f v).scribe = s.scribe := by unfold State.wr; split <;> rfl
@[simp] theorem wr_dma (s : State) (f : Fld) (v : Nat) : (s.wr f v).dma = s.dma := by unfold State.wr; split <;> rfl
@[simp] theorem wr_ev (s : State) (f : Fld) (v : Nat) : (s.wr f v).ev = s.ev := by unfold State.wr; split <;> rfl
@[simp] theorem wr_dram (s : State) (f : Fld) (v : Nat) : (s.wr f v).dram = s.dram := by unfold State.wr; split <;> rfl
@[simp] theorem wr_net (s : State) (f : Fld) (v : Nat) : (s.wr f v).net = s.net := by unfold State.wr; split <;> rfl
@[simp] theorem wr_chain (s : State) (f : Fld) (v : Nat) : (s.wr f v).chain = s.chain := by unfold State.wr; split <;> rfl
@[simp] theorem wr_top (s : State) (f : Fld) (v : Nat) : (s.wr f v).top = s.top := by unfold State.wr; split <;> rfl
@[simp] theorem wr_therm (s : State) (f : Fld) (v : Nat) : (s.wr f v).therm = s.therm := by unfold State.wr; split <;> rfl
@[simp] theorem wr_sec (s : State) (f : Fld) (v : Nat) : (s.wr f v).sec = s.sec := by unfold State.wr; split <;> rfl
@[simp] theorem wr_jtag (s : State) (f : Fld) (v : Nat) : (s.wr f v).jtag = s.jtag := by unfold State.wr; split <;> rfl
@[simp] theorem wr_out (s : State) (f : Fld) (v : Nat) : (s.wr f v).out = s.out := by unfold State.wr; split <;> rfl
@[simp] theorem wr_freeCount (s : State) (f : Fld) (v : Nat) : (s.wr f v).freeCount = s.freeCount := by unfold State.wr; split <;> rfl

/-! `State.wrS` -/

@[simp] theorem wrS_pending (s : State) (f : Fld) (v : Int) : (s.wrS f v).pending = s.pending := wr_pending s f _
@[simp] theorem wrS_latchHi (s : State) (f : Fld) (v : Int) : (s.wrS f v).latchHi = s.latchHi := wr_latchHi s f _
@[simp] theorem wrS_stageLo (s : State) (f : Fld) (v : Int) : (s.wrS f v).stageLo = s.stageLo := wr_stageLo s f _
@[simp] theorem wrS_shOld (s : State) (f : Fld) (v : Int) : (s.wrS f v).shOld = s.shOld := wr_shOld s f _
@[simp] theorem wrS_tl (s : State) (f : Fld) (v : Int) : (s.wrS f v).tl = s.tl := wr_tl s f _
@[simp] theorem wrS_st (s : State) (f : Fld) (v : Int) : (s.wrS f v).st = s.st := wr_st s f _
@[simp] theorem wrS_zl (s : State) (f : Fld) (v : Int) : (s.wrS f v).zl = s.zl := wr_zl s f _
@[simp] theorem wrS_pctx (s : State) (f : Fld) (v : Int) : (s.wrS f v).pctx = s.pctx := wr_pctx s f _
@[simp] theorem wrS_pipes (s : State) (f : Fld) (v : Int) : (s.wrS f v).pipes = s.pipes := wr_pipes s f _
@[simp] theorem wrS_stitch (s : State) (f : Fld) (v : Int) : (s.wrS f v).stitch = s.stitch := wr_stitch s f _
@[simp] theorem wrS_fine (s : State) (f : Fld) (v : Int) : (s.wrS f v).fine = s.fine := wr_fine s f _
@[simp] theorem wrS_prof (s : State) (f : Fld) (v : Int) : (s.wrS f v).prof = s.prof := wr_prof s f _
@[simp] theorem wrS_sens (s : State) (f : Fld) (v : Int) : (s.wrS f v).sens = s.sens := wr_sens s f _
@[simp] theorem wrS_mas (s : State) (f : Fld) (v : Int) : (s.wrS f v).mas = s.mas := wr_mas s f _
@[simp] theorem wrS_scal (s : State) (f : Fld) (v : Int) : (s.wrS f v).scal = s.scal := wr_scal s f _
@[simp] theorem wrS_quill (s : State) (f : Fld) (v : Int) : (s.wrS f v).quill = s.quill := wr_quill s f _
@[simp] theorem wrS_scores (s : State) (f : Fld) (v : Int) : (s.wrS f v).scores = s.scores := wr_scores s f _
@[simp] theorem wrS_scribe (s : State) (f : Fld) (v : Int) : (s.wrS f v).scribe = s.scribe := wr_scribe s f _
@[simp] theorem wrS_dma (s : State) (f : Fld) (v : Int) : (s.wrS f v).dma = s.dma := wr_dma s f _
@[simp] theorem wrS_ev (s : State) (f : Fld) (v : Int) : (s.wrS f v).ev = s.ev := wr_ev s f _
@[simp] theorem wrS_dram (s : State) (f : Fld) (v : Int) : (s.wrS f v).dram = s.dram := wr_dram s f _
@[simp] theorem wrS_net (s : State) (f : Fld) (v : Int) : (s.wrS f v).net = s.net := wr_net s f _
@[simp] theorem wrS_chain (s : State) (f : Fld) (v : Int) : (s.wrS f v).chain = s.chain := wr_chain s f _
@[simp] theorem wrS_top (s : State) (f : Fld) (v : Int) : (s.wrS f v).top = s.top := wr_top s f _
@[simp] theorem wrS_therm (s : State) (f : Fld) (v : Int) : (s.wrS f v).therm = s.therm := wr_therm s f _
@[simp] theorem wrS_sec (s : State) (f : Fld) (v : Int) : (s.wrS f v).sec = s.sec := wr_sec s f _
@[simp] theorem wrS_jtag (s : State) (f : Fld) (v : Int) : (s.wrS f v).jtag = s.jtag := wr_jtag s f _
@[simp] theorem wrS_out (s : State) (f : Fld) (v : Int) : (s.wrS f v).out = s.out := wr_out s f _
@[simp] theorem wrS_freeCount (s : State) (f : Fld) (v : Int) : (s.wrS f v).freeCount = s.freeCount := wr_freeCount s f _

/-! `State.set1` -/

@[simp] theorem set1_pending (s : State) (f : Fld) : (s.set1 f).pending = s.pending := wr_pending s f _
@[simp] theorem set1_latchHi (s : State) (f : Fld) : (s.set1 f).latchHi = s.latchHi := wr_latchHi s f _
@[simp] theorem set1_stageLo (s : State) (f : Fld) : (s.set1 f).stageLo = s.stageLo := wr_stageLo s f _
@[simp] theorem set1_shOld (s : State) (f : Fld) : (s.set1 f).shOld = s.shOld := wr_shOld s f _
@[simp] theorem set1_tl (s : State) (f : Fld) : (s.set1 f).tl = s.tl := wr_tl s f _
@[simp] theorem set1_st (s : State) (f : Fld) : (s.set1 f).st = s.st := wr_st s f _
@[simp] theorem set1_zl (s : State) (f : Fld) : (s.set1 f).zl = s.zl := wr_zl s f _
@[simp] theorem set1_pctx (s : State) (f : Fld) : (s.set1 f).pctx = s.pctx := wr_pctx s f _
@[simp] theorem set1_pipes (s : State) (f : Fld) : (s.set1 f).pipes = s.pipes := wr_pipes s f _
@[simp] theorem set1_stitch (s : State) (f : Fld) : (s.set1 f).stitch = s.stitch := wr_stitch s f _
@[simp] theorem set1_fine (s : State) (f : Fld) : (s.set1 f).fine = s.fine := wr_fine s f _
@[simp] theorem set1_prof (s : State) (f : Fld) : (s.set1 f).prof = s.prof := wr_prof s f _
@[simp] theorem set1_sens (s : State) (f : Fld) : (s.set1 f).sens = s.sens := wr_sens s f _
@[simp] theorem set1_mas (s : State) (f : Fld) : (s.set1 f).mas = s.mas := wr_mas s f _
@[simp] theorem set1_scal (s : State) (f : Fld) : (s.set1 f).scal = s.scal := wr_scal s f _
@[simp] theorem set1_quill (s : State) (f : Fld) : (s.set1 f).quill = s.quill := wr_quill s f _
@[simp] theorem set1_scores (s : State) (f : Fld) : (s.set1 f).scores = s.scores := wr_scores s f _
@[simp] theorem set1_scribe (s : State) (f : Fld) : (s.set1 f).scribe = s.scribe := wr_scribe s f _
@[simp] theorem set1_dma (s : State) (f : Fld) : (s.set1 f).dma = s.dma := wr_dma s f _
@[simp] theorem set1_ev (s : State) (f : Fld) : (s.set1 f).ev = s.ev := wr_ev s f _
@[simp] theorem set1_dram (s : State) (f : Fld) : (s.set1 f).dram = s.dram := wr_dram s f _
@[simp] theorem set1_net (s : State) (f : Fld) : (s.set1 f).net = s.net := wr_net s f _
@[simp] theorem set1_chain (s : State) (f : Fld) : (s.set1 f).chain = s.chain := wr_chain s f _
@[simp] theorem set1_top (s : State) (f : Fld) : (s.set1 f).top = s.top := wr_top s f _
@[simp] theorem set1_therm (s : State) (f : Fld) : (s.set1 f).therm = s.therm := wr_therm s f _
@[simp] theorem set1_sec (s : State) (f : Fld) : (s.set1 f).sec = s.sec := wr_sec s f _
@[simp] theorem set1_jtag (s : State) (f : Fld) : (s.set1 f).jtag = s.jtag := wr_jtag s f _
@[simp] theorem set1_out (s : State) (f : Fld) : (s.set1 f).out = s.out := wr_out s f _
@[simp] theorem set1_freeCount (s : State) (f : Fld) : (s.set1 f).freeCount = s.freeCount := wr_freeCount s f _

/-! `State.bump` -/

@[simp] theorem bump_pending (s : State) (f : Fld) (n : Nat) : (s.bump f n).pending = s.pending := wr_pending s f _
@[simp] theorem bump_latchHi (s : State) (f : Fld) (n : Nat) : (s.bump f n).latchHi = s.latchHi := wr_latchHi s f _
@[simp] theorem bump_stageLo (s : State) (f : Fld) (n : Nat) : (s.bump f n).stageLo = s.stageLo := wr_stageLo s f _
@[simp] theorem bump_shOld (s : State) (f : Fld) (n : Nat) : (s.bump f n).shOld = s.shOld := wr_shOld s f _
@[simp] theorem bump_tl (s : State) (f : Fld) (n : Nat) : (s.bump f n).tl = s.tl := wr_tl s f _
@[simp] theorem bump_st (s : State) (f : Fld) (n : Nat) : (s.bump f n).st = s.st := wr_st s f _
@[simp] theorem bump_zl (s : State) (f : Fld) (n : Nat) : (s.bump f n).zl = s.zl := wr_zl s f _
@[simp] theorem bump_pctx (s : State) (f : Fld) (n : Nat) : (s.bump f n).pctx = s.pctx := wr_pctx s f _
@[simp] theorem bump_pipes (s : State) (f : Fld) (n : Nat) : (s.bump f n).pipes = s.pipes := wr_pipes s f _
@[simp] theorem bump_stitch (s : State) (f : Fld) (n : Nat) : (s.bump f n).stitch = s.stitch := wr_stitch s f _
@[simp] theorem bump_fine (s : State) (f : Fld) (n : Nat) : (s.bump f n).fine = s.fine := wr_fine s f _
@[simp] theorem bump_prof (s : State) (f : Fld) (n : Nat) : (s.bump f n).prof = s.prof := wr_prof s f _
@[simp] theorem bump_sens (s : State) (f : Fld) (n : Nat) : (s.bump f n).sens = s.sens := wr_sens s f _
@[simp] theorem bump_mas (s : State) (f : Fld) (n : Nat) : (s.bump f n).mas = s.mas := wr_mas s f _
@[simp] theorem bump_scal (s : State) (f : Fld) (n : Nat) : (s.bump f n).scal = s.scal := wr_scal s f _
@[simp] theorem bump_quill (s : State) (f : Fld) (n : Nat) : (s.bump f n).quill = s.quill := wr_quill s f _
@[simp] theorem bump_scores (s : State) (f : Fld) (n : Nat) : (s.bump f n).scores = s.scores := wr_scores s f _
@[simp] theorem bump_scribe (s : State) (f : Fld) (n : Nat) : (s.bump f n).scribe = s.scribe := wr_scribe s f _
@[simp] theorem bump_dma (s : State) (f : Fld) (n : Nat) : (s.bump f n).dma = s.dma := wr_dma s f _
@[simp] theorem bump_ev (s : State) (f : Fld) (n : Nat) : (s.bump f n).ev = s.ev := wr_ev s f _
@[simp] theorem bump_dram (s : State) (f : Fld) (n : Nat) : (s.bump f n).dram = s.dram := wr_dram s f _
@[simp] theorem bump_net (s : State) (f : Fld) (n : Nat) : (s.bump f n).net = s.net := wr_net s f _
@[simp] theorem bump_chain (s : State) (f : Fld) (n : Nat) : (s.bump f n).chain = s.chain := wr_chain s f _
@[simp] theorem bump_top (s : State) (f : Fld) (n : Nat) : (s.bump f n).top = s.top := wr_top s f _
@[simp] theorem bump_therm (s : State) (f : Fld) (n : Nat) : (s.bump f n).therm = s.therm := wr_therm s f _
@[simp] theorem bump_sec (s : State) (f : Fld) (n : Nat) : (s.bump f n).sec = s.sec := wr_sec s f _
@[simp] theorem bump_jtag (s : State) (f : Fld) (n : Nat) : (s.bump f n).jtag = s.jtag := wr_jtag s f _
@[simp] theorem bump_out (s : State) (f : Fld) (n : Nat) : (s.bump f n).out = s.out := wr_out s f _
@[simp] theorem bump_freeCount (s : State) (f : Fld) (n : Nat) : (s.bump f n).freeCount = s.freeCount := wr_freeCount s f _

/-! `State.bumpSat` -/

@[simp] theorem bumpSat_pending (s : State) (f : Fld) (n : Nat) : (s.bumpSat f n).pending = s.pending := wr_pending s f _
@[simp] theorem bumpSat_latchHi (s : State) (f : Fld) (n : Nat) : (s.bumpSat f n).latchHi = s.latchHi := wr_latchHi s f _
@[simp] theorem bumpSat_stageLo (s : State) (f : Fld) (n : Nat) : (s.bumpSat f n).stageLo = s.stageLo := wr_stageLo s f _
@[simp] theorem bumpSat_shOld (s : State) (f : Fld) (n : Nat) : (s.bumpSat f n).shOld = s.shOld := wr_shOld s f _
@[simp] theorem bumpSat_tl (s : State) (f : Fld) (n : Nat) : (s.bumpSat f n).tl = s.tl := wr_tl s f _
@[simp] theorem bumpSat_st (s : State) (f : Fld) (n : Nat) : (s.bumpSat f n).st = s.st := wr_st s f _
@[simp] theorem bumpSat_zl (s : State) (f : Fld) (n : Nat) : (s.bumpSat f n).zl = s.zl := wr_zl s f _
@[simp] theorem bumpSat_pctx (s : State) (f : Fld) (n : Nat) : (s.bumpSat f n).pctx = s.pctx := wr_pctx s f _
@[simp] theorem bumpSat_pipes (s : State) (f : Fld) (n : Nat) : (s.bumpSat f n).pipes = s.pipes := wr_pipes s f _
@[simp] theorem bumpSat_stitch (s : State) (f : Fld) (n : Nat) : (s.bumpSat f n).stitch = s.stitch := wr_stitch s f _
@[simp] theorem bumpSat_fine (s : State) (f : Fld) (n : Nat) : (s.bumpSat f n).fine = s.fine := wr_fine s f _
@[simp] theorem bumpSat_prof (s : State) (f : Fld) (n : Nat) : (s.bumpSat f n).prof = s.prof := wr_prof s f _
@[simp] theorem bumpSat_sens (s : State) (f : Fld) (n : Nat) : (s.bumpSat f n).sens = s.sens := wr_sens s f _
@[simp] theorem bumpSat_mas (s : State) (f : Fld) (n : Nat) : (s.bumpSat f n).mas = s.mas := wr_mas s f _
@[simp] theorem bumpSat_scal (s : State) (f : Fld) (n : Nat) : (s.bumpSat f n).scal = s.scal := wr_scal s f _
@[simp] theorem bumpSat_quill (s : State) (f : Fld) (n : Nat) : (s.bumpSat f n).quill = s.quill := wr_quill s f _
@[simp] theorem bumpSat_scores (s : State) (f : Fld) (n : Nat) : (s.bumpSat f n).scores = s.scores := wr_scores s f _
@[simp] theorem bumpSat_scribe (s : State) (f : Fld) (n : Nat) : (s.bumpSat f n).scribe = s.scribe := wr_scribe s f _
@[simp] theorem bumpSat_dma (s : State) (f : Fld) (n : Nat) : (s.bumpSat f n).dma = s.dma := wr_dma s f _
@[simp] theorem bumpSat_ev (s : State) (f : Fld) (n : Nat) : (s.bumpSat f n).ev = s.ev := wr_ev s f _
@[simp] theorem bumpSat_dram (s : State) (f : Fld) (n : Nat) : (s.bumpSat f n).dram = s.dram := wr_dram s f _
@[simp] theorem bumpSat_net (s : State) (f : Fld) (n : Nat) : (s.bumpSat f n).net = s.net := wr_net s f _
@[simp] theorem bumpSat_chain (s : State) (f : Fld) (n : Nat) : (s.bumpSat f n).chain = s.chain := wr_chain s f _
@[simp] theorem bumpSat_top (s : State) (f : Fld) (n : Nat) : (s.bumpSat f n).top = s.top := wr_top s f _
@[simp] theorem bumpSat_therm (s : State) (f : Fld) (n : Nat) : (s.bumpSat f n).therm = s.therm := wr_therm s f _
@[simp] theorem bumpSat_sec (s : State) (f : Fld) (n : Nat) : (s.bumpSat f n).sec = s.sec := wr_sec s f _
@[simp] theorem bumpSat_jtag (s : State) (f : Fld) (n : Nat) : (s.bumpSat f n).jtag = s.jtag := wr_jtag s f _
@[simp] theorem bumpSat_out (s : State) (f : Fld) (n : Nat) : (s.bumpSat f n).out = s.out := wr_out s f _
@[simp] theorem bumpSat_freeCount (s : State) (f : Fld) (n : Nat) : (s.bumpSat f n).freeCount = s.freeCount := wr_freeCount s f _

/-! `State.fault` -/

@[simp] theorem fault_pending (s : State) (src code : Nat) (sl : List Nat) : (s.fault src code sl).pending = s.pending := by unfold State.fault; dsimp only; split <;> simp
@[simp] theorem fault_latchHi (s : State) (src code : Nat) (sl : List Nat) : (s.fault src code sl).latchHi = s.latchHi := by unfold State.fault; dsimp only; split <;> simp
@[simp] theorem fault_stageLo (s : State) (src code : Nat) (sl : List Nat) : (s.fault src code sl).stageLo = s.stageLo := by unfold State.fault; dsimp only; split <;> simp
@[simp] theorem fault_shOld (s : State) (src code : Nat) (sl : List Nat) : (s.fault src code sl).shOld = s.shOld := by unfold State.fault; dsimp only; split <;> simp
@[simp] theorem fault_tl (s : State) (src code : Nat) (sl : List Nat) : (s.fault src code sl).tl = s.tl := by unfold State.fault; dsimp only; split <;> simp
@[simp] theorem fault_st (s : State) (src code : Nat) (sl : List Nat) : (s.fault src code sl).st = s.st := by unfold State.fault; dsimp only; split <;> simp
@[simp] theorem fault_zl (s : State) (src code : Nat) (sl : List Nat) : (s.fault src code sl).zl = s.zl := by unfold State.fault; dsimp only; split <;> simp
@[simp] theorem fault_pctx (s : State) (src code : Nat) (sl : List Nat) : (s.fault src code sl).pctx = s.pctx := by unfold State.fault; dsimp only; split <;> simp
@[simp] theorem fault_pipes (s : State) (src code : Nat) (sl : List Nat) : (s.fault src code sl).pipes = s.pipes := by unfold State.fault; dsimp only; split <;> simp
@[simp] theorem fault_stitch (s : State) (src code : Nat) (sl : List Nat) : (s.fault src code sl).stitch = s.stitch := by unfold State.fault; dsimp only; split <;> simp
@[simp] theorem fault_fine (s : State) (src code : Nat) (sl : List Nat) : (s.fault src code sl).fine = s.fine := by unfold State.fault; dsimp only; split <;> simp
@[simp] theorem fault_prof (s : State) (src code : Nat) (sl : List Nat) : (s.fault src code sl).prof = s.prof := by unfold State.fault; dsimp only; split <;> simp
@[simp] theorem fault_sens (s : State) (src code : Nat) (sl : List Nat) : (s.fault src code sl).sens = s.sens := by unfold State.fault; dsimp only; split <;> simp
@[simp] theorem fault_mas (s : State) (src code : Nat) (sl : List Nat) : (s.fault src code sl).mas = s.mas := by unfold State.fault; dsimp only; split <;> simp
@[simp] theorem fault_scal (s : State) (src code : Nat) (sl : List Nat) : (s.fault src code sl).scal = s.scal := by unfold State.fault; dsimp only; split <;> simp
@[simp] theorem fault_quill (s : State) (src code : Nat) (sl : List Nat) : (s.fault src code sl).quill = s.quill := by unfold State.fault; dsimp only; split <;> simp
@[simp] theorem fault_scores (s : State) (src code : Nat) (sl : List Nat) : (s.fault src code sl).scores = s.scores := by unfold State.fault; dsimp only; split <;> simp
@[simp] theorem fault_scribe (s : State) (src code : Nat) (sl : List Nat) : (s.fault src code sl).scribe = s.scribe := by unfold State.fault; dsimp only; split <;> simp
@[simp] theorem fault_dma (s : State) (src code : Nat) (sl : List Nat) : (s.fault src code sl).dma = s.dma := by unfold State.fault; dsimp only; split <;> simp
@[simp] theorem fault_ev (s : State) (src code : Nat) (sl : List Nat) : (s.fault src code sl).ev = s.ev := by unfold State.fault; dsimp only; split <;> simp
@[simp] theorem fault_dram (s : State) (src code : Nat) (sl : List Nat) : (s.fault src code sl).dram = s.dram := by unfold State.fault; dsimp only; split <;> simp
@[simp] theorem fault_net (s : State) (src code : Nat) (sl : List Nat) : (s.fault src code sl).net = s.net := by unfold State.fault; dsimp only; split <;> simp
@[simp] theorem fault_chain (s : State) (src code : Nat) (sl : List Nat) : (s.fault src code sl).chain = s.chain := by unfold State.fault; dsimp only; split <;> simp
@[simp] theorem fault_therm (s : State) (src code : Nat) (sl : List Nat) : (s.fault src code sl).therm = s.therm := by unfold State.fault; dsimp only; split <;> simp
@[simp] theorem fault_sec (s : State) (src code : Nat) (sl : List Nat) : (s.fault src code sl).sec = s.sec := by unfold State.fault; dsimp only; split <;> simp
@[simp] theorem fault_jtag (s : State) (src code : Nat) (sl : List Nat) : (s.fault src code sl).jtag = s.jtag := by unfold State.fault; dsimp only; split <;> simp
@[simp] theorem fault_out (s : State) (src code : Nat) (sl : List Nat) : (s.fault src code sl).out = s.out := by unfold State.fault; dsimp only; split <;> simp
@[simp] theorem fault_freeCount (s : State) (src code : Nat) (sl : List Nat) : (s.fault src code sl).freeCount = s.freeCount := by unfold State.fault; dsimp only; split <;> simp

/-! `State.reject` -/

@[simp] theorem reject_pending (s : State) (fl : Fld) (src off v : Nat) : (s.reject fl src off v).pending = s.pending := by simp [State.reject]
@[simp] theorem reject_latchHi (s : State) (fl : Fld) (src off v : Nat) : (s.reject fl src off v).latchHi = s.latchHi := by simp [State.reject]
@[simp] theorem reject_stageLo (s : State) (fl : Fld) (src off v : Nat) : (s.reject fl src off v).stageLo = s.stageLo := by simp [State.reject]
@[simp] theorem reject_shOld (s : State) (fl : Fld) (src off v : Nat) : (s.reject fl src off v).shOld = s.shOld := by simp [State.reject]
@[simp] theorem reject_tl (s : State) (fl : Fld) (src off v : Nat) : (s.reject fl src off v).tl = s.tl := by simp [State.reject]
@[simp] theorem reject_st (s : State) (fl : Fld) (src off v : Nat) : (s.reject fl src off v).st = s.st := by simp [State.reject]
@[simp] theorem reject_zl (s : State) (fl : Fld) (src off v : Nat) : (s.reject fl src off v).zl = s.zl := by simp [State.reject]
@[simp] theorem reject_pctx (s : State) (fl : Fld) (src off v : Nat) : (s.reject fl src off v).pctx = s.pctx := by simp [State.reject]
@[simp] theorem reject_pipes (s : State) (fl : Fld) (src off v : Nat) : (s.reject fl src off v).pipes = s.pipes := by simp [State.reject]
@[simp] theorem reject_stitch (s : State) (fl : Fld) (src off v : Nat) : (s.reject fl src off v).stitch = s.stitch := by simp [State.reject]
@[simp] theorem reject_fine (s : State) (fl : Fld) (src off v : Nat) : (s.reject fl src off v).fine = s.fine := by simp [State.reject]
@[simp] theorem reject_prof (s : State) (fl : Fld) (src off v : Nat) : (s.reject fl src off v).prof = s.prof := by simp [State.reject]
@[simp] theorem reject_sens (s : State) (fl : Fld) (src off v : Nat) : (s.reject fl src off v).sens = s.sens := by simp [State.reject]
@[simp] theorem reject_mas (s : State) (fl : Fld) (src off v : Nat) : (s.reject fl src off v).mas = s.mas := by simp [State.reject]
@[simp] theorem reject_scal (s : State) (fl : Fld) (src off v : Nat) : (s.reject fl src off v).scal = s.scal := by simp [State.reject]
@[simp] theorem reject_quill (s : State) (fl : Fld) (src off v : Nat) : (s.reject fl src off v).quill = s.quill := by simp [State.reject]
@[simp] theorem reject_scores (s : State) (fl : Fld) (src off v : Nat) : (s.reject fl src off v).scores = s.scores := by simp [State.reject]
@[simp] theorem reject_scribe (s : State) (fl : Fld) (src off v : Nat) : (s.reject fl src off v).scribe = s.scribe := by simp [State.reject]
@[simp] theorem reject_dma (s : State) (fl : Fld) (src off v : Nat) : (s.reject fl src off v).dma = s.dma := by simp [State.reject]
@[simp] theorem reject_ev (s : State) (fl : Fld) (src off v : Nat) : (s.reject fl src off v).ev = s.ev := by simp [State.reject]
@[simp] theorem reject_dram (s : State) (fl : Fld) (src off v : Nat) : (s.reject fl src off v).dram = s.dram := by simp [State.reject]
@[simp] theorem reject_net (s : State) (fl : Fld) (src off v : Nat) : (s.reject fl src off v).net = s.net := by simp [State.reject]
@[simp] theorem reject_chain (s : State) (fl : Fld) (src off v : Nat) : (s.reject fl src off v).chain = s.chain := by simp [State.reject]
@[simp] theorem reject_therm (s : State) (fl : Fld) (src off v : Nat) : (s.reject fl src off v).therm = s.therm := by simp [State.reject]
@[simp] theorem reject_sec (s : State) (fl : Fld) (src off v : Nat) : (s.reject fl src off v).sec = s.sec := by simp [State.reject]
@[simp] theorem reject_jtag (s : State) (fl : Fld) (src off v : Nat) : (s.reject fl src off v).jtag = s.jtag := by simp [State.reject]
@[simp] theorem reject_out (s : State) (fl : Fld) (src off v : Nat) : (s.reject fl src off v).out = s.out := by simp [State.reject]
@[simp] theorem reject_freeCount (s : State) (fl : Fld) (src off v : Nat) : (s.reject fl src off v).freeCount = s.freeCount := by simp [State.reject]

/-! `State.occurOn` -/

@[simp] theorem occurOn_pending (s : State) (p c h : Nat) : (s.occurOn p c h).pending = s.pending := rfl
@[simp] theorem occurOn_latchHi (s : State) (p c h : Nat) : (s.occurOn p c h).latchHi = s.latchHi := rfl
@[simp] theorem occurOn_stageLo (s : State) (p c h : Nat) : (s.occurOn p c h).stageLo = s.stageLo := rfl
@[simp] theorem occurOn_shOld (s : State) (p c h : Nat) : (s.occurOn p c h).shOld = s.shOld := rfl
@[simp] theorem occurOn_tl (s : State) (p c h : Nat) : (s.occurOn p c h).tl = s.tl := rfl
@[simp] theorem occurOn_st (s : State) (p c h : Nat) : (s.occurOn p c h).st = s.st := rfl
@[simp] theorem occurOn_zl (s : State) (p c h : Nat) : (s.occurOn p c h).zl = s.zl := rfl
@[simp] theorem occurOn_pctx (s : State) (p c h : Nat) : (s.occurOn p c h).pctx = s.pctx := rfl
@[simp] theorem occurOn_pipes (s : State) (p c h : Nat) : (s.occurOn p c h).pipes = s.pipes := rfl
@[simp] theorem occurOn_stitch (s : State) (p c h : Nat) : (s.occurOn p c h).stitch = s.stitch := rfl
@[simp] theorem occurOn_fine (s : State) (p c h : Nat) : (s.occurOn p c h).fine = s.fine := rfl
@[simp] theorem occurOn_prof (s : State) (p c h : Nat) : (s.occurOn p c h).prof = s.prof := rfl
@[simp] theorem occurOn_sens (s : State) (p c h : Nat) : (s.occurOn p c h).sens = s.sens := rfl
@[simp] theorem occurOn_mas (s : State) (p c h : Nat) : (s.occurOn p c h).mas = s.mas := rfl
@[simp] theorem occurOn_scal (s : State) (p c h : Nat) : (s.occurOn p c h).scal = s.scal := rfl
@[simp] theorem occurOn_quill (s : State) (p c h : Nat) : (s.occurOn p c h).quill = s.quill := rfl
@[simp] theorem occurOn_scores (s : State) (p c h : Nat) : (s.occurOn p c h).scores = s.scores := rfl
@[simp] theorem occurOn_scribe (s : State) (p c h : Nat) : (s.occurOn p c h).scribe = s.scribe := rfl
@[simp] theorem occurOn_dma (s : State) (p c h : Nat) : (s.occurOn p c h).dma = s.dma := rfl
@[simp] theorem occurOn_dram (s : State) (p c h : Nat) : (s.occurOn p c h).dram = s.dram := rfl
@[simp] theorem occurOn_net (s : State) (p c h : Nat) : (s.occurOn p c h).net = s.net := rfl
@[simp] theorem occurOn_chain (s : State) (p c h : Nat) : (s.occurOn p c h).chain = s.chain := rfl
@[simp] theorem occurOn_top (s : State) (p c h : Nat) : (s.occurOn p c h).top = s.top := rfl
@[simp] theorem occurOn_therm (s : State) (p c h : Nat) : (s.occurOn p c h).therm = s.therm := rfl
@[simp] theorem occurOn_sec (s : State) (p c h : Nat) : (s.occurOn p c h).sec = s.sec := rfl
@[simp] theorem occurOn_jtag (s : State) (p c h : Nat) : (s.occurOn p c h).jtag = s.jtag := rfl
@[simp] theorem occurOn_out (s : State) (p c h : Nat) : (s.occurOn p c h).out = s.out := rfl
@[simp] theorem occurOn_freeCount (s : State) (p c h : Nat) : (s.occurOn p c h).freeCount = s.freeCount := rfl
@[simp] theorem occurOn_regs (s : State) (p c h : Nat) : (s.occurOn p c h).regs = s.regs := rfl

/-! `State.occur` -/

@[simp] theorem occur_pending (s : State) (p h : Nat) : (s.occur p h).pending = s.pending := by unfold State.occur; split <;> simp
@[simp] theorem occur_latchHi (s : State) (p h : Nat) : (s.occur p h).latchHi = s.latchHi := by unfold State.occur; split <;> simp
@[simp] theorem occur_stageLo (s : State) (p h : Nat) : (s.occur p h).stageLo = s.stageLo := by unfold State.occur; split <;> simp
@[simp] theorem occur_shOld (s : State) (p h : Nat) : (s.occur p h).shOld = s.shOld := by unfold State.occur; split <;> simp
@[simp] theorem occur_tl (s : State) (p h : Nat) : (s.occur p h).tl = s.tl := by unfold State.occur; split <;> simp
@[simp] theorem occur_st (s : State) (p h : Nat) : (s.occur p h).st = s.st := by unfold State.occur; split <;> simp
@[simp] theorem occur_zl (s : State) (p h : Nat) : (s.occur p h).zl = s.zl := by unfold State.occur; split <;> simp
@[simp] theorem occur_pctx (s : State) (p h : Nat) : (s.occur p h).pctx = s.pctx := by unfold State.occur; split <;> simp
@[simp] theorem occur_pipes (s : State) (p h : Nat) : (s.occur p h).pipes = s.pipes := by unfold State.occur; split <;> simp
@[simp] theorem occur_stitch (s : State) (p h : Nat) : (s.occur p h).stitch = s.stitch := by unfold State.occur; split <;> simp
@[simp] theorem occur_fine (s : State) (p h : Nat) : (s.occur p h).fine = s.fine := by unfold State.occur; split <;> simp
@[simp] theorem occur_prof (s : State) (p h : Nat) : (s.occur p h).prof = s.prof := by unfold State.occur; split <;> simp
@[simp] theorem occur_sens (s : State) (p h : Nat) : (s.occur p h).sens = s.sens := by unfold State.occur; split <;> simp
@[simp] theorem occur_mas (s : State) (p h : Nat) : (s.occur p h).mas = s.mas := by unfold State.occur; split <;> simp
@[simp] theorem occur_scal (s : State) (p h : Nat) : (s.occur p h).scal = s.scal := by unfold State.occur; split <;> simp
@[simp] theorem occur_quill (s : State) (p h : Nat) : (s.occur p h).quill = s.quill := by unfold State.occur; split <;> simp
@[simp] theorem occur_scores (s : State) (p h : Nat) : (s.occur p h).scores = s.scores := by unfold State.occur; split <;> simp
@[simp] theorem occur_scribe (s : State) (p h : Nat) : (s.occur p h).scribe = s.scribe := by unfold State.occur; split <;> simp
@[simp] theorem occur_dma (s : State) (p h : Nat) : (s.occur p h).dma = s.dma := by unfold State.occur; split <;> simp
@[simp] theorem occur_dram (s : State) (p h : Nat) : (s.occur p h).dram = s.dram := by unfold State.occur; split <;> simp
@[simp] theorem occur_net (s : State) (p h : Nat) : (s.occur p h).net = s.net := by unfold State.occur; split <;> simp
@[simp] theorem occur_chain (s : State) (p h : Nat) : (s.occur p h).chain = s.chain := by unfold State.occur; split <;> simp
@[simp] theorem occur_top (s : State) (p h : Nat) : (s.occur p h).top = s.top := by unfold State.occur; split <;> simp
@[simp] theorem occur_therm (s : State) (p h : Nat) : (s.occur p h).therm = s.therm := by unfold State.occur; split <;> simp
@[simp] theorem occur_sec (s : State) (p h : Nat) : (s.occur p h).sec = s.sec := by unfold State.occur; split <;> simp
@[simp] theorem occur_jtag (s : State) (p h : Nat) : (s.occur p h).jtag = s.jtag := by unfold State.occur; split <;> simp
@[simp] theorem occur_out (s : State) (p h : Nat) : (s.occur p h).out = s.out := by unfold State.occur; split <;> simp
@[simp] theorem occur_freeCount (s : State) (p h : Nat) : (s.occur p h).freeCount = s.freeCount := by unfold State.occur; split <;> simp
@[simp] theorem occur_regs (s : State) (p h : Nat) : (s.occur p h).regs = s.regs := by unfold State.occur; split <;> simp

/-! `State.msixSend` -/

@[simp] theorem msixSend_pending (s : State) (v : Nat) : (s.msixSend v).pending = s.pending := by unfold State.msixSend; dsimp only; split <;> simp
@[simp] theorem msixSend_latchHi (s : State) (v : Nat) : (s.msixSend v).latchHi = s.latchHi := by unfold State.msixSend; dsimp only; split <;> simp
@[simp] theorem msixSend_stageLo (s : State) (v : Nat) : (s.msixSend v).stageLo = s.stageLo := by unfold State.msixSend; dsimp only; split <;> simp
@[simp] theorem msixSend_shOld (s : State) (v : Nat) : (s.msixSend v).shOld = s.shOld := by unfold State.msixSend; dsimp only; split <;> simp
@[simp] theorem msixSend_tl (s : State) (v : Nat) : (s.msixSend v).tl = s.tl := by unfold State.msixSend; dsimp only; split <;> simp
@[simp] theorem msixSend_st (s : State) (v : Nat) : (s.msixSend v).st = s.st := by unfold State.msixSend; dsimp only; split <;> simp
@[simp] theorem msixSend_zl (s : State) (v : Nat) : (s.msixSend v).zl = s.zl := by unfold State.msixSend; dsimp only; split <;> simp
@[simp] theorem msixSend_pctx (s : State) (v : Nat) : (s.msixSend v).pctx = s.pctx := by unfold State.msixSend; dsimp only; split <;> simp
@[simp] theorem msixSend_pipes (s : State) (v : Nat) : (s.msixSend v).pipes = s.pipes := by unfold State.msixSend; dsimp only; split <;> simp
@[simp] theorem msixSend_stitch (s : State) (v : Nat) : (s.msixSend v).stitch = s.stitch := by unfold State.msixSend; dsimp only; split <;> simp
@[simp] theorem msixSend_fine (s : State) (v : Nat) : (s.msixSend v).fine = s.fine := by unfold State.msixSend; dsimp only; split <;> simp
@[simp] theorem msixSend_prof (s : State) (v : Nat) : (s.msixSend v).prof = s.prof := by unfold State.msixSend; dsimp only; split <;> simp
@[simp] theorem msixSend_sens (s : State) (v : Nat) : (s.msixSend v).sens = s.sens := by unfold State.msixSend; dsimp only; split <;> simp
@[simp] theorem msixSend_mas (s : State) (v : Nat) : (s.msixSend v).mas = s.mas := by unfold State.msixSend; dsimp only; split <;> simp
@[simp] theorem msixSend_scal (s : State) (v : Nat) : (s.msixSend v).scal = s.scal := by unfold State.msixSend; dsimp only; split <;> simp
@[simp] theorem msixSend_quill (s : State) (v : Nat) : (s.msixSend v).quill = s.quill := by unfold State.msixSend; dsimp only; split <;> simp
@[simp] theorem msixSend_scores (s : State) (v : Nat) : (s.msixSend v).scores = s.scores := by unfold State.msixSend; dsimp only; split <;> simp
@[simp] theorem msixSend_scribe (s : State) (v : Nat) : (s.msixSend v).scribe = s.scribe := by unfold State.msixSend; dsimp only; split <;> simp
@[simp] theorem msixSend_dma (s : State) (v : Nat) : (s.msixSend v).dma = s.dma := by unfold State.msixSend; dsimp only; split <;> simp
@[simp] theorem msixSend_ev (s : State) (v : Nat) : (s.msixSend v).ev = s.ev := by unfold State.msixSend; dsimp only; split <;> simp
@[simp] theorem msixSend_dram (s : State) (v : Nat) : (s.msixSend v).dram = s.dram := by unfold State.msixSend; dsimp only; split <;> simp
@[simp] theorem msixSend_net (s : State) (v : Nat) : (s.msixSend v).net = s.net := by unfold State.msixSend; dsimp only; split <;> simp
@[simp] theorem msixSend_chain (s : State) (v : Nat) : (s.msixSend v).chain = s.chain := by unfold State.msixSend; dsimp only; split <;> simp
@[simp] theorem msixSend_top (s : State) (v : Nat) : (s.msixSend v).top = s.top := by unfold State.msixSend; dsimp only; split <;> simp
@[simp] theorem msixSend_therm (s : State) (v : Nat) : (s.msixSend v).therm = s.therm := by unfold State.msixSend; dsimp only; split <;> simp
@[simp] theorem msixSend_sec (s : State) (v : Nat) : (s.msixSend v).sec = s.sec := by unfold State.msixSend; dsimp only; split <;> simp
@[simp] theorem msixSend_jtag (s : State) (v : Nat) : (s.msixSend v).jtag = s.jtag := by unfold State.msixSend; dsimp only; split <;> simp
@[simp] theorem msixSend_freeCount (s : State) (v : Nat) : (s.msixSend v).freeCount = s.freeCount := by unfold State.msixSend; dsimp only; split <;> simp

/-! `State.msix` -/

@[simp] theorem msix_pending (s : State) (v : Nat) : (s.msix v).pending = s.pending := by unfold State.msix; dsimp only; split_ifs <;> simp
@[simp] theorem msix_latchHi (s : State) (v : Nat) : (s.msix v).latchHi = s.latchHi := by unfold State.msix; dsimp only; split_ifs <;> simp
@[simp] theorem msix_stageLo (s : State) (v : Nat) : (s.msix v).stageLo = s.stageLo := by unfold State.msix; dsimp only; split_ifs <;> simp
@[simp] theorem msix_shOld (s : State) (v : Nat) : (s.msix v).shOld = s.shOld := by unfold State.msix; dsimp only; split_ifs <;> simp
@[simp] theorem msix_tl (s : State) (v : Nat) : (s.msix v).tl = s.tl := by unfold State.msix; dsimp only; split_ifs <;> simp
@[simp] theorem msix_st (s : State) (v : Nat) : (s.msix v).st = s.st := by unfold State.msix; dsimp only; split_ifs <;> simp
@[simp] theorem msix_zl (s : State) (v : Nat) : (s.msix v).zl = s.zl := by unfold State.msix; dsimp only; split_ifs <;> simp
@[simp] theorem msix_pctx (s : State) (v : Nat) : (s.msix v).pctx = s.pctx := by unfold State.msix; dsimp only; split_ifs <;> simp
@[simp] theorem msix_pipes (s : State) (v : Nat) : (s.msix v).pipes = s.pipes := by unfold State.msix; dsimp only; split_ifs <;> simp
@[simp] theorem msix_stitch (s : State) (v : Nat) : (s.msix v).stitch = s.stitch := by unfold State.msix; dsimp only; split_ifs <;> simp
@[simp] theorem msix_fine (s : State) (v : Nat) : (s.msix v).fine = s.fine := by unfold State.msix; dsimp only; split_ifs <;> simp
@[simp] theorem msix_prof (s : State) (v : Nat) : (s.msix v).prof = s.prof := by unfold State.msix; dsimp only; split_ifs <;> simp
@[simp] theorem msix_sens (s : State) (v : Nat) : (s.msix v).sens = s.sens := by unfold State.msix; dsimp only; split_ifs <;> simp
@[simp] theorem msix_mas (s : State) (v : Nat) : (s.msix v).mas = s.mas := by unfold State.msix; dsimp only; split_ifs <;> simp
@[simp] theorem msix_scal (s : State) (v : Nat) : (s.msix v).scal = s.scal := by unfold State.msix; dsimp only; split_ifs <;> simp
@[simp] theorem msix_quill (s : State) (v : Nat) : (s.msix v).quill = s.quill := by unfold State.msix; dsimp only; split_ifs <;> simp
@[simp] theorem msix_scores (s : State) (v : Nat) : (s.msix v).scores = s.scores := by unfold State.msix; dsimp only; split_ifs <;> simp
@[simp] theorem msix_scribe (s : State) (v : Nat) : (s.msix v).scribe = s.scribe := by unfold State.msix; dsimp only; split_ifs <;> simp
@[simp] theorem msix_dma (s : State) (v : Nat) : (s.msix v).dma = s.dma := by unfold State.msix; dsimp only; split_ifs <;> simp
@[simp] theorem msix_ev (s : State) (v : Nat) : (s.msix v).ev = s.ev := by unfold State.msix; dsimp only; split_ifs <;> simp
@[simp] theorem msix_dram (s : State) (v : Nat) : (s.msix v).dram = s.dram := by unfold State.msix; dsimp only; split_ifs <;> simp
@[simp] theorem msix_net (s : State) (v : Nat) : (s.msix v).net = s.net := by unfold State.msix; dsimp only; split_ifs <;> simp
@[simp] theorem msix_chain (s : State) (v : Nat) : (s.msix v).chain = s.chain := by unfold State.msix; dsimp only; split_ifs <;> simp
@[simp] theorem msix_top (s : State) (v : Nat) : (s.msix v).top = s.top := by unfold State.msix; dsimp only; split_ifs <;> simp
@[simp] theorem msix_therm (s : State) (v : Nat) : (s.msix v).therm = s.therm := by unfold State.msix; dsimp only; split_ifs <;> simp
@[simp] theorem msix_sec (s : State) (v : Nat) : (s.msix v).sec = s.sec := by unfold State.msix; dsimp only; split_ifs <;> simp
@[simp] theorem msix_jtag (s : State) (v : Nat) : (s.msix v).jtag = s.jtag := by unfold State.msix; dsimp only; split_ifs <;> simp
@[simp] theorem msix_freeCount (s : State) (v : Nat) : (s.msix v).freeCount = s.freeCount := by unfold State.msix; dsimp only; split_ifs <;> simp

/-! `State.hostPut` -/

@[simp] theorem hostPut_pending (s : State) (a : Nat) (bs : List Nat) : (s.hostPut a bs).pending = s.pending := by unfold State.hostPut; split <;> rfl
@[simp] theorem hostPut_latchHi (s : State) (a : Nat) (bs : List Nat) : (s.hostPut a bs).latchHi = s.latchHi := by unfold State.hostPut; split <;> rfl
@[simp] theorem hostPut_stageLo (s : State) (a : Nat) (bs : List Nat) : (s.hostPut a bs).stageLo = s.stageLo := by unfold State.hostPut; split <;> rfl
@[simp] theorem hostPut_shOld (s : State) (a : Nat) (bs : List Nat) : (s.hostPut a bs).shOld = s.shOld := by unfold State.hostPut; split <;> rfl
@[simp] theorem hostPut_tl (s : State) (a : Nat) (bs : List Nat) : (s.hostPut a bs).tl = s.tl := by unfold State.hostPut; split <;> rfl
@[simp] theorem hostPut_st (s : State) (a : Nat) (bs : List Nat) : (s.hostPut a bs).st = s.st := by unfold State.hostPut; split <;> rfl
@[simp] theorem hostPut_zl (s : State) (a : Nat) (bs : List Nat) : (s.hostPut a bs).zl = s.zl := by unfold State.hostPut; split <;> rfl
@[simp] theorem hostPut_pctx (s : State) (a : Nat) (bs : List Nat) : (s.hostPut a bs).pctx = s.pctx := by unfold State.hostPut; split <;> rfl
@[simp] theorem hostPut_pipes (s : State) (a : Nat) (bs : List Nat) : (s.hostPut a bs).pipes = s.pipes := by unfold State.hostPut; split <;> rfl
@[simp] theorem hostPut_stitch (s : State) (a : Nat) (bs : List Nat) : (s.hostPut a bs).stitch = s.stitch := by unfold State.hostPut; split <;> rfl
@[simp] theorem hostPut_fine (s : State) (a : Nat) (bs : List Nat) : (s.hostPut a bs).fine = s.fine := by unfold State.hostPut; split <;> rfl
@[simp] theorem hostPut_prof (s : State) (a : Nat) (bs : List Nat) : (s.hostPut a bs).prof = s.prof := by unfold State.hostPut; split <;> rfl
@[simp] theorem hostPut_sens (s : State) (a : Nat) (bs : List Nat) : (s.hostPut a bs).sens = s.sens := by unfold State.hostPut; split <;> rfl
@[simp] theorem hostPut_mas (s : State) (a : Nat) (bs : List Nat) : (s.hostPut a bs).mas = s.mas := by unfold State.hostPut; split <;> rfl
@[simp] theorem hostPut_scal (s : State) (a : Nat) (bs : List Nat) : (s.hostPut a bs).scal = s.scal := by unfold State.hostPut; split <;> rfl
@[simp] theorem hostPut_quill (s : State) (a : Nat) (bs : List Nat) : (s.hostPut a bs).quill = s.quill := by unfold State.hostPut; split <;> rfl
@[simp] theorem hostPut_scores (s : State) (a : Nat) (bs : List Nat) : (s.hostPut a bs).scores = s.scores := by unfold State.hostPut; split <;> rfl
@[simp] theorem hostPut_scribe (s : State) (a : Nat) (bs : List Nat) : (s.hostPut a bs).scribe = s.scribe := by unfold State.hostPut; split <;> rfl
@[simp] theorem hostPut_dma (s : State) (a : Nat) (bs : List Nat) : (s.hostPut a bs).dma = s.dma := by unfold State.hostPut; split <;> rfl
@[simp] theorem hostPut_ev (s : State) (a : Nat) (bs : List Nat) : (s.hostPut a bs).ev = s.ev := by unfold State.hostPut; split <;> rfl
@[simp] theorem hostPut_dram (s : State) (a : Nat) (bs : List Nat) : (s.hostPut a bs).dram = s.dram := by unfold State.hostPut; split <;> rfl
@[simp] theorem hostPut_net (s : State) (a : Nat) (bs : List Nat) : (s.hostPut a bs).net = s.net := by unfold State.hostPut; split <;> rfl
@[simp] theorem hostPut_chain (s : State) (a : Nat) (bs : List Nat) : (s.hostPut a bs).chain = s.chain := by unfold State.hostPut; split <;> rfl
@[simp] theorem hostPut_top (s : State) (a : Nat) (bs : List Nat) : (s.hostPut a bs).top = s.top := by unfold State.hostPut; split <;> rfl
@[simp] theorem hostPut_therm (s : State) (a : Nat) (bs : List Nat) : (s.hostPut a bs).therm = s.therm := by unfold State.hostPut; split <;> rfl
@[simp] theorem hostPut_sec (s : State) (a : Nat) (bs : List Nat) : (s.hostPut a bs).sec = s.sec := by unfold State.hostPut; split <;> rfl
@[simp] theorem hostPut_jtag (s : State) (a : Nat) (bs : List Nat) : (s.hostPut a bs).jtag = s.jtag := by unfold State.hostPut; split <;> rfl
@[simp] theorem hostPut_freeCount (s : State) (a : Nat) (bs : List Nat) : (s.hostPut a bs).freeCount = s.freeCount := by unfold State.hostPut; split <;> rfl
@[simp] theorem hostPut_regs (s : State) (a : Nat) (bs : List Nat) : (s.hostPut a bs).regs = s.regs := by unfold State.hostPut; split <;> rfl

/-! `State.free` -/

@[simp] theorem free_pending (s : State) (w : Nat) : ((s.free w).2).pending = s.pending := rfl
@[simp] theorem free_latchHi (s : State) (w : Nat) : ((s.free w).2).latchHi = s.latchHi := rfl
@[simp] theorem free_stageLo (s : State) (w : Nat) : ((s.free w).2).stageLo = s.stageLo := rfl
@[simp] theorem free_shOld (s : State) (w : Nat) : ((s.free w).2).shOld = s.shOld := rfl
@[simp] theorem free_tl (s : State) (w : Nat) : ((s.free w).2).tl = s.tl := rfl
@[simp] theorem free_st (s : State) (w : Nat) : ((s.free w).2).st = s.st := rfl
@[simp] theorem free_zl (s : State) (w : Nat) : ((s.free w).2).zl = s.zl := rfl
@[simp] theorem free_pctx (s : State) (w : Nat) : ((s.free w).2).pctx = s.pctx := rfl
@[simp] theorem free_pipes (s : State) (w : Nat) : ((s.free w).2).pipes = s.pipes := rfl
@[simp] theorem free_stitch (s : State) (w : Nat) : ((s.free w).2).stitch = s.stitch := rfl
@[simp] theorem free_fine (s : State) (w : Nat) : ((s.free w).2).fine = s.fine := rfl
@[simp] theorem free_prof (s : State) (w : Nat) : ((s.free w).2).prof = s.prof := rfl
@[simp] theorem free_sens (s : State) (w : Nat) : ((s.free w).2).sens = s.sens := rfl
@[simp] theorem free_mas (s : State) (w : Nat) : ((s.free w).2).mas = s.mas := rfl
@[simp] theorem free_scal (s : State) (w : Nat) : ((s.free w).2).scal = s.scal := rfl
@[simp] theorem free_quill (s : State) (w : Nat) : ((s.free w).2).quill = s.quill := rfl
@[simp] theorem free_scores (s : State) (w : Nat) : ((s.free w).2).scores = s.scores := rfl
@[simp] theorem free_scribe (s : State) (w : Nat) : ((s.free w).2).scribe = s.scribe := rfl
@[simp] theorem free_dma (s : State) (w : Nat) : ((s.free w).2).dma = s.dma := rfl
@[simp] theorem free_ev (s : State) (w : Nat) : ((s.free w).2).ev = s.ev := rfl
@[simp] theorem free_dram (s : State) (w : Nat) : ((s.free w).2).dram = s.dram := rfl
@[simp] theorem free_net (s : State) (w : Nat) : ((s.free w).2).net = s.net := rfl
@[simp] theorem free_chain (s : State) (w : Nat) : ((s.free w).2).chain = s.chain := rfl
@[simp] theorem free_top (s : State) (w : Nat) : ((s.free w).2).top = s.top := rfl
@[simp] theorem free_therm (s : State) (w : Nat) : ((s.free w).2).therm = s.therm := rfl
@[simp] theorem free_sec (s : State) (w : Nat) : ((s.free w).2).sec = s.sec := rfl
@[simp] theorem free_jtag (s : State) (w : Nat) : ((s.free w).2).jtag = s.jtag := rfl
@[simp] theorem free_out (s : State) (w : Nat) : ((s.free w).2).out = s.out := rfl
@[simp] theorem free_regs (s : State) (w : Nat) : ((s.free w).2).regs = s.regs := rfl

/-! Reading a register after another component has changed -/

@[simp] theorem rd_with_pending (s : State) (x : _) (f : Fld) : ({ s with pending := x } : State).rd f = s.rd f := rfl
@[simp] theorem rd_with_latchHi (s : State) (x : _) (f : Fld) : ({ s with latchHi := x } : State).rd f = s.rd f := rfl
@[simp] theorem rd_with_stageLo (s : State) (x : _) (f : Fld) : ({ s with stageLo := x } : State).rd f = s.rd f := rfl
@[simp] theorem rd_with_shOld (s : State) (x : _) (f : Fld) : ({ s with shOld := x } : State).rd f = s.rd f := rfl
@[simp] theorem rd_with_tl (s : State) (x : _) (f : Fld) : ({ s with tl := x } : State).rd f = s.rd f := rfl
@[simp] theorem rd_with_st (s : State) (x : _) (f : Fld) : ({ s with st := x } : State).rd f = s.rd f := rfl
@[simp] theorem rd_with_zl (s : State) (x : _) (f : Fld) : ({ s with zl := x } : State).rd f = s.rd f := rfl
@[simp] theorem rd_with_pctx (s : State) (x : _) (f : Fld) : ({ s with pctx := x } : State).rd f = s.rd f := rfl
@[simp] theorem rd_with_pipes (s : State) (x : _) (f : Fld) : ({ s with pipes := x } : State).rd f = s.rd f := rfl
@[simp] theorem rd_with_stitch (s : State) (x : _) (f : Fld) : ({ s with stitch := x } : State).rd f = s.rd f := rfl
@[simp] theorem rd_with_fine (s : State) (x : _) (f : Fld) : ({ s with fine := x } : State).rd f = s.rd f := rfl
@[simp] theorem rd_with_prof (s : State) (x : _) (f : Fld) : ({ s with prof := x } : State).rd f = s.rd f := rfl
@[simp] theorem rd_with_sens (s : State) (x : _) (f : Fld) : ({ s with sens := x } : State).rd f = s.rd f := rfl
@[simp] theorem rd_with_mas (s : State) (x : _) (f : Fld) : ({ s with mas := x } : State).rd f = s.rd f := rfl
@[simp] theorem rd_with_scal (s : State) (x : _) (f : Fld) : ({ s with scal := x } : State).rd f = s.rd f := rfl
@[simp] theorem rd_with_quill (s : State) (x : _) (f : Fld) : ({ s with quill := x } : State).rd f = s.rd f := rfl
@[simp] theorem rd_with_scores (s : State) (x : _) (f : Fld) : ({ s with scores := x } : State).rd f = s.rd f := rfl
@[simp] theorem rd_with_scribe (s : State) (x : _) (f : Fld) : ({ s with scribe := x } : State).rd f = s.rd f := rfl
@[simp] theorem rd_with_dma (s : State) (x : _) (f : Fld) : ({ s with dma := x } : State).rd f = s.rd f := rfl
@[simp] theorem rd_with_ev (s : State) (x : _) (f : Fld) : ({ s with ev := x } : State).rd f = s.rd f := rfl
@[simp] theorem rd_with_dram (s : State) (x : _) (f : Fld) : ({ s with dram := x } : State).rd f = s.rd f := rfl
@[simp] theorem rd_with_net (s : State) (x : _) (f : Fld) : ({ s with net := x } : State).rd f = s.rd f := rfl
@[simp] theorem rd_with_chain (s : State) (x : _) (f : Fld) : ({ s with chain := x } : State).rd f = s.rd f := rfl
@[simp] theorem rd_with_top (s : State) (x : _) (f : Fld) : ({ s with top := x } : State).rd f = s.rd f := rfl
@[simp] theorem rd_with_therm (s : State) (x : _) (f : Fld) : ({ s with therm := x } : State).rd f = s.rd f := rfl
@[simp] theorem rd_with_sec (s : State) (x : _) (f : Fld) : ({ s with sec := x } : State).rd f = s.rd f := rfl
@[simp] theorem rd_with_jtag (s : State) (x : _) (f : Fld) : ({ s with jtag := x } : State).rd f = s.rd f := rfl
@[simp] theorem rd_with_out (s : State) (x : _) (f : Fld) : ({ s with out := x } : State).rd f = s.rd f := rfl
@[simp] theorem rd_with_freeCount (s : State) (x : _) (f : Fld) : ({ s with freeCount := x } : State).rd f = s.rd f := rfl

/-- Two states are equal when every component is. -/
theorem State.ext' {s t : State} (h0 : s.regs = t.regs) (h1 : s.pending = t.pending) (h2 : s.latchHi = t.latchHi) (h3 : s.stageLo = t.stageLo) (h4 : s.shOld = t.shOld) (h5 : s.tl = t.tl) (h6 : s.st = t.st) (h7 : s.zl = t.zl) (h8 : s.pctx = t.pctx) (h9 : s.pipes = t.pipes) (h10 : s.stitch = t.stitch) (h11 : s.fine = t.fine) (h12 : s.prof = t.prof) (h13 : s.sens = t.sens) (h14 : s.mas = t.mas) (h15 : s.scal = t.scal) (h16 : s.quill = t.quill) (h17 : s.scores = t.scores) (h18 : s.scribe = t.scribe) (h19 : s.dma = t.dma) (h20 : s.ev = t.ev) (h21 : s.dram = t.dram) (h22 : s.net = t.net) (h23 : s.chain = t.chain) (h24 : s.top = t.top) (h25 : s.therm = t.therm) (h26 : s.sec = t.sec) (h27 : s.jtag = t.jtag) (h28 : s.out = t.out) (h29 : s.freeCount = t.freeCount) : s = t := by
  cases s; cases t; simp_all

/-! ### Registers and fields -/

theorem reg_setReg (s : State) (o o' : Nat) (v : Word) :
    (s.setReg o v).reg o' = if o = o' then v else s.reg o' := by
  simp [State.reg, State.setReg, spGet_spSet]

@[simp] theorem reg_setReg_same (s : State) (o : Nat) (v : Word) : (s.setReg o v).reg o = v := by
  simp [reg_setReg]

theorem testBit_bitsAt (n l w i : Nat) : (bitsAt n l w).testBit i = (decide (i < w) && n.testBit (l + i)) := by
  unfold bitsAt
  rw [Nat.testBit_mod_two_pow, Nat.testBit_div_two_pow, Nat.add_comm]

theorem putBits_eq (n l w v : Nat) :
    putBits n l w v = n / 2 ^ (l + w) * 2 ^ (l + w) + v % 2 ^ w * 2 ^ l + n % 2 ^ l := by
  unfold putBits bitsAt
  have h1 : n = n / 2 ^ (l + w) * 2 ^ (l + w) + n / 2 ^ l % 2 ^ w * 2 ^ l + n % 2 ^ l := by
    have a := Nat.div_add_mod n (2 ^ l)
    have b := Nat.div_add_mod (n / 2 ^ l) (2 ^ w)
    rw [Nat.div_div_eq_div_mul, ← pow_add] at b
    calc n = 2 ^ l * (n / 2 ^ l) + n % 2 ^ l := a.symm
      _ = 2 ^ l * (2 ^ w * (n / 2 ^ (l + w)) + n / 2 ^ l % 2 ^ w) + n % 2 ^ l := by rw [b]
      _ = _ := by rw [pow_add]; ring
  omega

theorem testBit_putBits (n l w v j : Nat) :
    (putBits n l w v).testBit j = if l ≤ j ∧ j < l + w then v.testBit (j - l) else n.testBit j := by
  rw [putBits_eq]
  have hlo : n % 2 ^ l < 2 ^ l := Nat.mod_lt _ (by positivity)
  have hv : v % 2 ^ w < 2 ^ w := Nat.mod_lt _ (by positivity)
  have e : n / 2 ^ (l + w) * 2 ^ (l + w) + v % 2 ^ w * 2 ^ l + n % 2 ^ l =
      2 ^ l * (2 ^ w * (n / 2 ^ (l + w)) + v % 2 ^ w) + n % 2 ^ l := by rw [pow_add]; ring
  rw [e, Nat.testBit_two_pow_mul_add _ hlo]
  by_cases h1 : j < l
  · simp [h1, show ¬(l ≤ j) by omega, Nat.testBit_mod_two_pow]
  · rw [if_neg h1, Nat.testBit_two_pow_mul_add _ hv]
    by_cases h2 : j < l + w
    · rw [if_pos (show j - l < w by omega), if_pos ⟨by omega, h2⟩]
      simp [Nat.testBit_mod_two_pow, show j - l < w by omega]
    · rw [if_neg (show ¬ (j - l < w) by omega), if_neg (by omega), Nat.testBit_div_two_pow]
      congr 1; omega

/-- A field reads what was put into it, in its width. -/
theorem bitsAt_putBits_same (n l w v : Nat) : bitsAt (putBits n l w v) l w = v % 2 ^ w := by
  apply Nat.eq_of_testBit_eq
  intro i
  rw [testBit_bitsAt, testBit_putBits, Nat.testBit_mod_two_pow]
  by_cases h : i < w
  · simp [h]
  · simp [h]

/-- A field that shares no bit with the one written reads as before. -/
theorem bitsAt_putBits_apart (n l w v l' w' : Nat) (h : l + w ≤ l' ∨ l' + w' ≤ l) :
    bitsAt (putBits n l w v) l' w' = bitsAt n l' w' := by
  apply Nat.eq_of_testBit_eq
  intro i
  rw [testBit_bitsAt, testBit_bitsAt, testBit_putBits]
  by_cases hi : i < w'
  · rw [if_neg (by omega)]
  · simp [hi]

theorem putBits_lt {n l w v k : Nat} (hn : n < 2 ^ k) (h : l + w ≤ k) : putBits n l w v < 2 ^ k := by
  apply Nat.lt_pow_two_of_testBit
  intro i hi
  rw [testBit_putBits, if_neg (by omega)]
  exact Nat.testBit_lt_two_pow (lt_of_lt_of_le hn (Nat.pow_le_pow_right (by omega) hi))

theorem word_testBit_ge (w : Word) {j : Nat} (h : 32 ≤ j) : w.toNat.testBit j = false :=
  Nat.testBit_lt_two_pow (lt_of_lt_of_le w.isLt (Nat.pow_le_pow_right (by omega) h))

/-- The bits of the register or pair that holds a field. -/
theorem fieldReg_testBit (s : State) (f : Fld) (j : Nat) :
    (s.fieldReg f).testBit j =
      if j < 32 then (s.reg f.off).toNat.testBit j
      else decide (32 < f.lsb + f.w) && (s.reg (f.off + 4)).toNat.testBit (j - 32) := by
  unfold State.fieldReg
  by_cases h : f.lsb + f.w ≤ 32
  · rw [if_pos h]
    split
    · rfl
    · rw [word_testBit_ge _ (by omega)]; simp [h]
  · rw [if_neg h, show (s.reg f.off).toNat + (s.reg (f.off + 4)).toNat * 2 ^ 32 =
      2 ^ 32 * (s.reg (f.off + 4)).toNat + (s.reg f.off).toNat by ring,
      Nat.testBit_two_pow_mul_add _ (s.reg f.off).isLt]
    split
    · rfl
    · simp [show 32 < f.lsb + f.w by omega]

/-- The bits of a field. -/
theorem rd_testBit (s : State) (f : Fld) (i : Nat) :
    (s.rd f).testBit i = (decide (i < f.w) &&
      if f.lsb + i < 32 then (s.reg f.off).toNat.testBit (f.lsb + i)
      else decide (32 < f.lsb + f.w) && (s.reg (f.off + 4)).toNat.testBit (f.lsb + i - 32)) := by
  unfold State.rd
  rw [testBit_bitsAt, fieldReg_testBit]

/-- Every bit of every register after a write of a field. -/
theorem reg_wr_testBit (s : State) (f : Fld) (v o j : Nat) (hj : j < 32) :
    ((s.wr f v).reg o).toNat.testBit j =
      if o = f.off ∧ f.lsb ≤ j ∧ j < f.lsb + f.w then v.testBit (j - f.lsb)
      else if o = f.off + 4 ∧ 32 < f.lsb + f.w ∧ f.lsb ≤ j + 32 ∧ j + 32 < f.lsb + f.w then
        v.testBit (j + 32 - f.lsb)
      else (s.reg o).toNat.testBit j := by
  unfold State.wr
  by_cases h : f.lsb + f.w ≤ 32
  · rw [if_pos h, reg_setReg]
    by_cases ho : f.off = o
    · subst ho
      simp only [if_true, BitVec.toNat_ofNat, Nat.testBit_mod_two_pow, hj, decide_true, Bool.true_and,
        testBit_putBits, true_and]
      split_ifs <;> first | rfl | omega
    · rw [if_neg ho]
      split_ifs <;> first | rfl | omega
  · rw [if_neg h]
    simp only [reg_setReg]
    by_cases h4 : f.off + 4 = o
    · subst h4
      simp only [if_true, BitVec.toNat_ofNat, Nat.testBit_mod_two_pow, hj, decide_true, Bool.true_and,
        Nat.testBit_div_two_pow, testBit_putBits, fieldReg_testBit, true_and,
        show ¬ (j + 32 < 32) by omega, if_false, Nat.add_sub_cancel,
        show 32 < f.lsb + f.w by omega, show ¬ (f.off + 4 = f.off) by omega, false_and]
    · rw [if_neg h4]
      by_cases ho : f.off = o
      · subst ho
        simp only [if_true, BitVec.toNat_ofNat, Nat.testBit_mod_two_pow, hj, decide_true, Bool.true_and,
          testBit_putBits, fieldReg_testBit, true_and]
        split_ifs <;> first | rfl | omega
      · rw [if_neg ho]
        split_ifs <;> first | rfl | omega

/-- A written field reads what was written, in its width. -/
theorem rd_wr_same (s : State) (f : Fld) (v : Nat) (h : f.lsb + f.w ≤ 64) :
    (s.wr f v).rd f = v % 2 ^ f.w := by
  apply Nat.eq_of_testBit_eq
  intro i
  rw [rd_testBit, Nat.testBit_mod_two_pow]
  by_cases hi : i < f.w
  · simp only [hi, decide_true, Bool.true_and]
    split
    · rw [reg_wr_testBit _ _ _ _ _ (by omega), if_pos (by omega)]; congr 1; omega
    · rw [reg_wr_testBit _ _ _ _ _ (by omega), if_neg (by omega), if_pos (by omega)]
      simp only [show 32 < f.lsb + f.w by omega, decide_true, Bool.true_and]
      congr 1; omega
  · simp [hi]

/-- A field that shares no bit with the one written reads as before. -/
theorem rd_wr_apart (s : State) (f g : Fld) (v : Nat) (h : f.apart g) : (s.wr f v).rd g = s.rd g := by
  unfold Fld.apart at h
  apply Nat.eq_of_testBit_eq
  intro i
  rw [rd_testBit, rd_testBit]
  by_cases hi : i < g.w
  · simp only [hi, decide_true, Bool.true_and]
    split
    · rw [reg_wr_testBit _ _ _ _ _ (by omega), if_neg (by omega), if_neg (by omega)]
    · by_cases hj : g.lsb + i - 32 < 32
      · rw [reg_wr_testBit _ _ _ _ _ hj, if_neg (by omega), if_neg (by omega)]
      · rw [word_testBit_ge _ (by omega), word_testBit_ge _ (by omega)]
  · simp [hi]

/-- A register that a write of a field does not reach reads as before. -/
theorem reg_wr_ne (s : State) (f : Fld) (v o : Nat) (h : o ≠ f.off) (h' : f.lsb + f.w ≤ 32 ∨ o ≠ f.off + 4) :
    (s.wr f v).reg o = s.reg o := by
  unfold State.wr
  split
  · simp [reg_setReg, h.symm]
  · simp only [reg_setReg]
    rw [if_neg (by omega), if_neg (by omega)]

theorem rd_lt (s : State) (f : Fld) : s.rd f < 2 ^ f.w := Nat.mod_lt _ (by positivity)

/-- Reading a register depends on the registers alone. -/
theorem rd_congr {s t : State} (h : s.regs = t.regs) (f : Fld) : s.rd f = t.rd f := by
  simp [State.rd, State.fieldReg, State.reg, h]

/-! ### What an operation keeps -/

theorem State.keeps_refl (s : State) (fs : List Fld) : s.keeps s fs := fun _ _ => rfl

theorem State.keeps_trans {s t u : State} {fs gs : List Fld} (h : s.keeps t fs) (h' : t.keeps u gs) :
    s.keeps u (fs ++ gs) := fun g hg =>
  (h' g (fun f hf => hg f (List.mem_append_right _ hf))).trans (h g (fun f hf => hg f (List.mem_append_left _ hf)))

theorem State.keeps_mono {s t : State} {fs gs : List Fld} (h : s.keeps t fs) (hs : ∀ f ∈ fs, f ∈ gs) :
    s.keeps t gs := fun g hg => h g (fun f hf => hg f (hs f hf))

/-- A state with the same registers keeps every field. -/
theorem State.keeps_of_regs {s t : State} (h : t.regs = s.regs) (fs : List Fld) : s.keeps t fs :=
  fun g _ => rd_congr h g

/-- Writing a field keeps every field apart from it. -/
theorem State.keeps_wr {s t : State} {fs : List Fld} (h : s.keeps t fs) (f : Fld) (v : Nat) (hf : f ∈ fs) :
    s.keeps (t.wr f v) fs := fun g hg => (rd_wr_apart t f g v (hg f hf)).trans (h g hg)

/-- Recording a fault keeps every field but those of faultFlds. -/
theorem State.keeps_fault {s t : State} {fs : List Fld} (h : s.keeps t fs) (src code : Nat) (sl : List Nat)
    (hf : ∀ f ∈ faultFlds, f ∈ fs) : s.keeps (t.fault src code sl) fs := by
  have h1 : s.keeps (t.wr TOP_FAULT_SEQ (t.rd TOP_FAULT_SEQ + 1)) fs :=
    State.keeps_wr h _ _ (hf _ (by simp [faultFlds]))
  unfold State.fault
  dsimp only
  split
  · exact fun g hg => (rd_congr (by rfl) g).trans (h1 g hg)
  · exact State.keeps_wr (State.keeps_wr h1 _ _ (hf _ (by simp [faultFlds]))) _ _ (hf _ (by simp [faultFlds]))

/-- An occurrence keeps every field. -/
theorem State.keeps_occur {s t : State} {fs : List Fld} (h : s.keeps t fs) (p hop : Nat) :
    s.keeps (t.occur p hop) fs := fun g hg => (rd_congr (occur_regs t p hop) g).trans (h g hg)

/-! ### Blocks -/

theorem State.keepsBlocks_refl (s : State) (bs : List Nat) : s.keepsBlocks s bs := fun _ _ => rfl

theorem State.keepsBlocks_trans {s t u : State} {bs : List Nat} (h : s.keepsBlocks t bs) (h' : t.keepsBlocks u bs) :
    s.keepsBlocks u bs := fun o ho => (h' o ho).trans (h o ho)

/-- Writing a field keeps every block but its own. -/
theorem State.keepsBlocks_wr {s t : State} {bs : List Nat} (h : s.keepsBlocks t bs) (f : Fld) (v : Nat)
    (hf : f.off / 65536 ∈ bs) (hf4 : (f.off + 4) / 65536 ∈ bs) : s.keepsBlocks (t.wr f v) bs := fun o ho => by
  rw [reg_wr_ne t f v o (fun e => ho (e ▸ hf)) (.inr (fun e => ho (e ▸ hf4)))]
  exact h o ho

/-! ### The canonical form of the registers -/

theorem setReg_wf {s : State} (off : Nat) (v : Word) (h : spWf resetWord s.regs = true) :
    spWf resetWord (s.setReg off v).regs = true := spWf_spSet off v h

theorem wr_wf {s : State} (f : Fld) (v : Nat) (h : spWf resetWord s.regs = true) :
    spWf resetWord (s.wr f v).regs = true := by
  unfold State.wr
  split
  · exact setReg_wf _ _ h
  · exact setReg_wf _ _ (setReg_wf _ _ h)

theorem fault_wf {s : State} (src code : Nat) (sl : List Nat) (h : spWf resetWord s.regs = true) :
    spWf resetWord (s.fault src code sl).regs = true := by
  unfold State.fault
  dsimp only
  split
  · exact wr_wf _ _ h
  · exact wr_wf _ _ (wr_wf _ _ (wr_wf _ _ h))

/-! ### Reading through the shared operations -/

@[simp] theorem rd_occur (s : State) (p h : Nat) (f : Fld) : (s.occur p h).rd f = s.rd f :=
  rd_congr (occur_regs s p h) f

@[simp] theorem rd_occurOn (s : State) (p c h : Nat) (f : Fld) : (s.occurOn p c h).rd f = s.rd f := rfl

/-- Recording a fault leaves every field apart from those of faultFlds. -/
theorem rd_fault (s : State) (src code : Nat) (sl : List Nat) (f : Fld) (h : ∀ g ∈ faultFlds, g.apart f) :
    (s.fault src code sl).rd f = s.rd f := State.keeps_fault (State.keeps_refl s _) src code sl (fun _ h => h) f h

/-- The recorder's queue has room: the fault is appended in its place and takes SEQ (R447, R451). -/
theorem fault_inQ (s : State) (src code : Nat) (sl : List Nat) (h : s.top.inQ.length < 64) :
    ∃ r : FaultRec, (s.fault src code sl).top = { s.top with inQ := enterFault r s.top.inQ } ∧
      r.code = code ∧ r.source = src ∧ r.seq = s.rd TOP_FAULT_SEQ ∧ r.slots = sl ∧ r.tick = s.now := by
  unfold State.fault
  dsimp only
  rw [if_pos (by simpa using h)]
  exact ⟨_, by simp; rfl, rfl, rfl, rfl, rfl, by simp [State.now]⟩


end Sys2Proof.Machine
end

