-- ==== Sys2Proof/Tests/Base.lean ====
section
/-! SUPPORT. Small states for the tests: the state after reset with a few fields and registers set. -/

namespace Sys2Proof.Tests

open Sys2Proof Sys2Proof.Machine

/-- The state after reset with some register fields set. -/
def withFlds (fs : List (Fld × Nat)) : State := fs.foldl (fun s f => s.wr f.1 f.2) State.reset

/-- A state with some register fields set. -/
def setFlds (s : State) (fs : List (Fld × Nat)) : State := fs.foldl (fun s f => s.wr f.1 f.2) s

/-- A state in which the nib in slot t of quill q is about to run an instruction for line 7. -/
def withNib (s : State) (q t : Nat) (i : NibInstr) (n : Nib) : State :=
  s.setNib q t { n with code := [(0, encodeNib i)], run := some (.line 7) }

/-- A state in which command queue q runs and has words of its ring fetched. -/
def withCmd (q : Nat) (ws : List Nat) : State :=
  (withFlds [(SCRIBE_Q_STATUS_STATE q, 1), (SCRIBE_Q_BASE q, 4096), (SCRIBE_Q_SIZE q, 4096), (SCRIBE_Q_PC q, 4096),
    (SCRIBE_Q_TAIL q, 8 * ws.length)]).setScq q { words := ws }

/-- What is said of the value of an option that is none. -/
theorem noneAll {α : Type} {x : Option α} {p : α → Prop} (h : x = none) : ∀ t, x = some t → p t := by
  intro t e
  rw [h] at e
  exact absurd e (by simp)

/-- With no flipped bit in memory no read fails. -/
theorem touchOk {s : State} {a n c : Nat} (h : s.dram.flips = []) : (s.dramTouch a n c).1 = none := by
  simp [State.dramTouch, State.flippedIn, h]

end Sys2Proof.Tests
end

