-- ==== Sys2Proof/WellFormed.lean ====
section
/-! DEFINITION. Which commands the outside world can send: checks on the operands whose types alone do not bound
them. -/

namespace Sys2Proof

/-- Is a command well formed? Requests of the host are of 1 to 4,096 bytes (R9, R487), an SSI sample has at most 40
bits (R20), a lane group up to 4 lanes (R69), the sensor port 8 channels (R183), a burst of training 16 beats of 80
bits (R365, R384); a calibration target names one of the 4 fields of one of 512 words (R470), and a management write
has a byte (R523). [DESIGN CHOICE, log 13] -/
def Instr.wellFormed : Instr → Bool
  | .registerWrite _ len _ _ =>
    1 ≤ len && len ≤ 4096
  | .bar2Access write _ bytes len _ =>
    if write then 1 ≤ bytes.length && bytes.length ≤ 4096 else 1 ≤ len && len ≤ 4096
  | .encoderStep .. => true
  | .ssiTransferStart .. => true
  | .ssiSample _ raw _ =>
    decide (raw < 2 ^ 40)
  | .indexEdge .. => true
  | .webStopped => true
  | .simIncrement => true
  | .runStart => true
  | .runStop => true
  | .preset => true
  | .crossLatch => true
  | .probeEdge .. => true
  | .probePop .. => true
  | .frameMarkMissing .. => true
  | .compareFire .. => true
  | .compareEnable .. => true
  | .compareTargetWrite .. => true
  | .modeChangeApply => true
  | .commitBoundary .. => true
  | .frameBoundary => true
  | .lineTrigger => true
  | .triggerIssue => true
  | .profileSyncAction => true
  | .markerQueue .. => true
  | .markerFire .. => true
  | .markerPulseEnd .. => true
  | .verdictDeadlineCheck => true
  | .waitposWake => true
  | .strokePhaseUpdate .. => true
  | .strokeStep .. => true
  | .strokeEnable .. => true
  | .strokeStart .. => true
  | .strokeRatioWrite .. => true
  | .trimTargetWrite .. => true
  | .trimAdd .. => true
  | .laneMarkerRx .. => true
  | .fillRowRx _ _ _ blocks =>
    1 ≤ blocks.length && blocks.length ≤ 4
  | .linkReqAck .. => true
  | .linkReqNak .. => true
  | .linkReqSpare .. => true
  | .linkReqRelease .. => true
  | .linkReqGap .. => true
  | .linkReqReserved .. => true
  | .gapRowRx .. => true
  | .idleEnterRx .. => true
  | .idleExit .. => true
  | .idleExitSlow .. => true
  | .gapTimeout .. => true
  | .spareSwitch .. => true
  | .plannedSwap .. => true
  | .lrefSwitch .. => true
  | .packetHeaderRx .. => true
  | .linePacketRx .. => true
  | .lineTimeout .. => true
  | .trigLaunch .. => true
  | .statReplyRx .. => true
  | .trigErrorReport .. => true
  | .camFaultReport .. => true
  | .ctrlTimeout .. => true
  | .mboxSend .. => true
  | .trainGo .. => true
  | .trainDone .. => true
  | .replayTimeout .. => true
  | .portEnable .. => true
  | .linkReset .. => true
  | .retrain .. => true
  | .loopbackWrite .. => true
  | .idleReqWrite .. => true
  | .pipeCtrlWrite .. => true
  | .ctxCommit .. => true
  | .ctxCancel .. => true
  | .tableFetchDone .. => true
  | .pipeLineStart .. => true
  | .pipeLineDone .. => true
  | .pipeSram .. => true
  | .pipeSpared .. => true
  | .spareSelfTest .. => true
  | .stitchEnable => true
  | .stitchCommit .. => true
  | .stitchLineStart .. => true
  | .stitchLineDone .. => true
  | .coarseLineOut .. => true
  | .notFormed => true
  | .seamSram .. => true
  | .seed => true
  | .columnSram .. => true
  | .attrRequest .. => true
  | .attrResult .. => true
  | .attrSwap => true
  | .attrCopy => true
  | .attrCopyDone => true
  | .profileEnable .. => true
  | .profileSync .. => true
  | .profileSyncAt .. => true
  | .detLatch .. => true
  | .sensorStart .. => true
  | .sensorTransferDone raw =>
    raw.length == 8
  | .masterEnable .. => true
  | .masterCommit .. => true
  | .predFetchDone => true
  | .ledgerWrWrite .. => true
  | .ledgerConsume => true
  | .placementFinal => true
  | .descriptorRead => true
  | .tileRowEstimate => true
  | .differenceLine => true
  | .predSram .. => true
  | .assertReady => true
  | .relearn => true
  | .scalerEnable => true
  | .scalerCommit .. => true
  | .segmentLine .. => true
  | .classTimeout => true
  | .ringRecordWrite .. => true
  | .lossSummaryWrite .. => true
  | .snippetStart => true
  | .snippetDone => true
  | .snippetLost .. => true
  | .stripSend => true
  | .stripRx .. => true
  | .stripLate => true
  | .tallyPacketRx .. => true
  | .scalerSram .. => true
  | .datagramSend => true
  | .jobEnable .. => true
  | .initRunDone .. => true
  | .windowFill .. => true
  | .nibInvoke .. => true
  | .queueInvoke .. => true
  | .salu .. => true
  | .saddi .. => true
  | .sandi .. => true
  | .sori .. => true
  | .sxori .. => true
  | .scmpi .. => true
  | .sinsl .. => true
  | .sinsh .. => true
  | .shi .. => true
  | .mulsr .. => true
  | .mulsru .. => true
  | .getsr .. => true
  | .valu .. => true
  | .valus .. => true
  | .vmul .. => true
  | .vmuls .. => true
  | .vmac .. => true
  | .vnar .. => true
  | .vcmp .. => true
  | .vcmps .. => true
  | .vsel .. => true
  | .vmask .. => true
  | .vred .. => true
  | .vperm .. => true
  | .vsplat .. => true
  | .vext .. => true
  | .vgath .. => true
  | .lw .. => true
  | .sw .. => true
  | .lhu .. => true
  | .sh .. => true
  | .vld .. => true
  | .vst .. => true
  | .vstb .. => true
  | .vldm .. => true
  | .retire .. => true
  | .srep .. => true
  | .temit .. => true
  | .tget .. => true
  | .tans .. => true
  | .event .. => true
  | .fence .. => true
  | .beqz .. => true
  | .bnez .. => true
  | .bltz .. => true
  | .bgez .. => true
  | .jal .. => true
  | .jr .. => true
  | .loop .. => true
  | .stop .. => true
  | .kernelTimeout .. => true
  | .nibRestart .. => true
  | .nibSram .. => true
  | .nibSpared .. => true
  | .spareNow .. => true
  | .plannedNibTakeover .. => true
  | .kernelLoadGo .. => true
  | .kernelLoadDone .. => true
  | .cmdNop .. => true
  | .cmdWrite .. => true
  | .cmdWritem .. => true
  | .cmdRead .. => true
  | .cmdWaitpos .. => true
  | .cmdWaittime .. => true
  | .waittimeReached .. => true
  | .cmdWaitev .. => true
  | .cmdSignal .. => true
  | .cmdArm .. => true
  | .cmdCommit .. => true
  | .cmdMode .. => true
  | .cmdLoop .. => true
  | .cmdEndloop .. => true
  | .cmdJump .. => true
  | .cmdCall .. => true
  | .cmdRet .. => true
  | .cmdFence .. => true
  | .cmdResync .. => true
  | .cmdHalt .. => true
  | .cmdFetch .. => true
  | .cmdWaitTimeout .. => true
  | .queueStart .. => true
  | .queueStop .. => true
  | .queueTailWrite .. => true
  | .dmaMove .. => true
  | .dmaMoveComplete .. => true
  | .dmaLoop .. => true
  | .dmaEndloop .. => true
  | .dmaWait .. => true
  | .dmaSignal .. => true
  | .dmaEnd .. => true
  | .dmaWaitTimeout .. => true
  | .dmaStart .. => true
  | .dmaStop .. => true
  | .eventEnter .. => true
  | .eventDeliver .. => true
  | .eventSoft .. => true
  | .eventPinEdge .. => true
  | .eventPinPulseEnd .. => true
  | .dramRead _ len _ _ =>
    1 ≤ len
  | .dramWrite _ bytes _ _ =>
    !bytes.isEmpty
  | .playGo => true
  | .playLine => true
  | .scrubStep .. => true
  | .migReq => true
  | .migrateCopyLine .. => true
  | .migrateDone => true
  | .dramCmdError .. => true
  | .rankPowerDown .. => true
  | .srEnter => true
  | .srEntryDone => true
  | .srExit => true
  | .srTimeout => true
  | .refreshRateCheck .. => true
  | .shareWrite .. => true
  | .trainMrw .. => true
  | .trainMrr .. => true
  | .trainMpc .. => true
  | .trainAct .. => true
  | .trainPre .. => true
  | .trainRef .. => true
  | .trainWr .. => true
  | .trainRd _ reads =>
    reads.all (fun r => r.length == 16 && r.all (fun b => decide (b < 2 ^ 80)))
  | .dramInitDone .. => true
  | .ethFrameRx .. => true
  | .forwardSend .. => true
  | .ethTailWrite .. => true
  | .ethFrameTx .. => true
  | .launchTimeReached .. => true
  | .ringHoldoffEnd .. => true
  | .ethLinkDown .. => true
  | .ptpIncrWrite .. => true
  | .ptpSet .. => true
  | .ptpAdj .. => true
  | .tcorrStep => true
  | .timeCompareFire .. => true
  | .timeCompareEnable .. => true
  | .chainEnable .. => true
  | .delayProbeSend .. => true
  | .delayProbeRx .. => true
  | .probeReplyRx .. => true
  | .posSend .. => true
  | .posRx .. => true
  | .posLost => true
  | .heartbeatSend => true
  | .heartbeatRx .. => true
  | .liveTimeout => true
  | .timeBroadcastRx .. => true
  | .cmdRx .. => true
  | .summaryRx .. => true
  | .modeArmRx .. => true
  | .modeAckSend => true
  | .modeAckRx .. => true
  | .modeDecision => true
  | .modeCancelRx .. => true
  | .modeAppliedRx .. => true
  | .modeSplitRx .. => true
  | .applyMissing => true
  | .haltReq => true
  | .haltEntry => true
  | .warmReset => true
  | .warmTrainDone => true
  | .blockReset .. => true
  | .pinReset => true
  | .resetNRetainFall => true
  | .resetRelease .. => true
  | .por => true
  | .xoLoss => true
  | .faultRecord => true
  | .faultLost => true
  | .resync => true
  | .summaryWritten => true
  | .sramRowRemap .. => true
  | .wearEyeSwap .. => true
  | .sensorConversion .. => true
  | .sensorRole .. => true
  | .thermalTrip .. => true
  | .tableEnable => true
  | .calGo => true
  | .calMeasureDone _ targets =>
    targets.all (fun t => decide (t.1 < 2048))
  | .calCodeStep .. => true
  | .calSlow => true
  | .ageingMeasure .. => true
  | .perstRise => true
  | .msixRequest .. => true
  | .bootImageCheck .. => true
  | .hostGo => true
  | .bootRelease => true
  | .fwInfo => true
  | .selfTest .. => true
  | .fuseProgram .. => true
  | .lock => true
  | .debugLock => true
  | .svnCommit => true
  | .flashUpdate .. => true
  | .mboxAnswer => true
  | .mboxTimeout => true
  | .mgmtRead .. => true
  | .extest .. => true
  | .idcode => true
  | .samplePreload .. => true
  | .highz => true
  | .clamp => true
  | .bypass => true
  | .rangerHalt => true
  | .rangerRun => true
  | .memAccess .. => true
  | .markerMissing .. => true
  | .extrapolation => true
  | .ptpCounterTick => true
  | .registerRead _ len _ =>
    1 ≤ len && len ≤ 4096
  | .illegalInstruction .. => true
  | .cmdIllegal .. => true
  | .dmaIllegal .. => true
  | .ethLinkUp .. => true
  | .pcieLinkDown => true
  | .pcieLinkUp .. => true
  | .perstFall => true
  | .configRequest .. => true
  | .mgmtPointerWrite _ bytes =>
    !bytes.isEmpty

end Sys2Proof
end

