-- ==== Sys2Proof/Tests/Slice0.lean ====
section
/-! SUPPORT. Tests: ill-formed commands, words of nib instructions, and the manual's worked examples. -/

namespace Sys2Proof.Tests

open Sys2Proof Sys2Proof.Machine

set_option maxRecDepth 100000

/-! ### A term that each check of WellFormed refuses -/

theorem test_register_write_of_no_bytes_refused : (Instr.registerWrite 0 0 0 0).wellFormed = false := by decide

theorem test_register_write_over_4096_refused : (Instr.registerWrite 0 4097 0 0).wellFormed = false := by decide

theorem test_register_read_of_no_bytes_refused : (Instr.registerRead 0 0 0).wellFormed = false := by decide

theorem test_register_read_over_4096_refused : (Instr.registerRead 0 4097 0).wellFormed = false := by decide

theorem test_dram_window_write_of_no_bytes_refused : (Instr.bar2Access true 0 [] 8 []).wellFormed = false := by decide

theorem test_dram_window_read_of_no_bytes_refused : (Instr.bar2Access false 0 [] 0 []).wellFormed = false := by decide

theorem test_ssi_sample_of_41_bits_refused : (Instr.ssiSample 0 (2 ^ 40) false).wellFormed = false := by decide

theorem test_row_of_no_lanes_refused : (Instr.fillRowRx 0 0 0 []).wellFormed = false := by decide

theorem test_row_of_five_lanes_refused : (Instr.fillRowRx 0 0 0 [1, 2, 3, 4, 5]).wellFormed = false := by decide

theorem test_transfer_of_seven_channels_refused :
    (Instr.sensorTransferDone [1, 2, 3, 4, 5, 6, 7]).wellFormed = false := by decide

theorem test_dram_read_of_no_bytes_refused : (Instr.dramRead 0 0 0 []).wellFormed = false := by decide

theorem test_dram_write_of_no_bytes_refused : (Instr.dramWrite 0 [] 0 []).wellFormed = false := by decide

theorem test_training_burst_of_one_beat_refused : (Instr.trainRd 0 [[0]]).wellFormed = false := by decide

theorem test_calibration_target_out_of_range_refused :
    (Instr.calMeasureDone 0 [(2048, 0)]).wellFormed = false := by decide

theorem test_management_write_of_no_bytes_refused : (Instr.mgmtPointerWrite 0 []).wellFormed = false := by decide

theorem test_register_write_of_eight_bytes_accepted : (Instr.registerWrite 8 8 255 1).wellFormed = true := by decide

/-! ### Words of nib instructions, from the formats of R274 -/

theorem test_vmul_word_of_the_manual : decodeNib 0x48821948 = some (.vmul 4 2 3 1 8 false true false) := by decide

theorem test_vmul_word_is_encoded : encodeNib (.vmul 4 2 3 1 8 false true false) = 0x48821948 := by decide

theorem test_no_word_of_the_table_spells_a_command : decodeTableWord 32 0 = none := by decide

/-! ### Worked examples of the manual -/

/-- The example of R279: five lanes with SAT. -/
theorem test_vmul_example_saturates :
    [(1000, 333), (30000, 300), (3, 128), (5, 128), (65533, 128)].map
      (fun p => narrow (laneProduct false p.1 p.2) 8 false true false) = [1301, 32767, 2, 2, 65534] := by decide

/-- The example of R279: the same lanes with T. -/
theorem test_vmul_example_truncates :
    [(1000, 333), (30000, 300), (3, 128), (5, 128), (65533, 128)].map
      (fun p => narrow (laneProduct false p.1 p.2) 8 false true true) = [1300, 32767, 1, 2, 65534] := by decide

/-- The example of R279: the second lane without SAT. -/
theorem test_vmul_example_wraps :
    narrow (laneProduct false 30000 300) 8 false false false = toBits 16 (-30380) := by decide

/-- The example of chapter 4: two exposures merge. -/
theorem test_exposures_merge : mergeHdr 16384 56000 12 3 7130 57000 = 7126 := by decide

/-- The example of chapter 5: the taps of a cross-web fraction of 0.25. -/
theorem test_cross_web_taps : (tapWeights 0x4000).2 = [-1152, 14208, 3712, -384] := by decide

/-- The example of chapter 5: the taps of a web fraction of 0.5. -/
theorem test_web_taps : (tapWeights 0x8000).2 = [-1024, 9216, 9216, -1024] := by decide

/-- The example of chapter 5: four taps make 10,500. -/
theorem test_tap_sum : tapSum [-1152, 14208, 3712, -384] [10000, 10400, 10800, 11200] = 10500 := by decide

/-- The example of chapter 5: the blend of a kerf. -/
theorem test_kerf_blend : blend 896 (10700, 0, 0) (10785, 0, 0) = (10701, 0, 0) := by decide

/-- The example of chapter 7: ΔE 3.5 against a tolerance of 2.0. -/
theorem test_score_of_a_difference : masterScore 32 896 = 56 := by decide

/-- The example of chapter 7: the vertices and weights of a base with sorted fractions. -/
theorem test_ink_vertices : (vertices [100, 40, 200, 8]).map (·.2) = [8, 0, 0, 4, 4] := by decide

/-- Chapter 12's example: the place of an address with eight channels. -/
theorem test_place_of_an_address :
    ((withFlds [(DRAMC_CFG_CHANNELS, 1), (DRAMC_CFG_DEVICE, 1)]).place 0x1234567880) =
      { ch := 7, rank := 0, line := 0x48D159E, parity := 1 } := by decide

/-- R16: with QUAD_X4, A rising while B is low counts up, and B rising while A is low counts down. -/
theorem test_quadrature_directions : quadStep 3 false false true false = 1 ∧ quadStep 3 false false false true = -1 := by
  decide

/-! ### After reset -/

theorem test_reset_queue_is_empty : State.reset.pending = [] := by decide

theorem test_an_empty_queue_passes_a_tick :
    (match step State.reset with
      | .next t => decide (t.now = State.reset.now + 1)
      | _ => false) = true := by decide

end Sys2Proof.Tests
end

