-- ==== Sys2Proof/Tests/WitnessMemory.lean ====
section
/-! SUPPORT. For each clause of the memory, network time and chain statements, a concrete state and operands that meet its
hypotheses together. -/

namespace Sys2Proof.Tests

open Sys2Proof Sys2Proof.Machine

set_option linter.unusedVariables false
set_option maxRecDepth 100000
set_option exponentiation.threshold 400

theorem witness_DramReadsAnswerAndWritesStore_1 : ∃ s : State, ∃ a : BitVec 42, ∃ n : Nat, ∃ c : Fin 6, s.dramFits a.toNat n = true ∧ s.inSelfRefresh = false ∧ s.flippedIn a.toNat n = [] :=
  ⟨({ withFlds [(DRAMC_SIZE, 2 ^ 40)] with dram := { mem := [(1001, 7), (1003, 9)], flips := [(124, 1)] } }), (1000), (4), (5), by decide⟩

theorem witness_DramReadsAnswerAndWritesStore_2 : ∃ s : State, ∃ a : BitVec 42, ∃ n : Nat, ∃ b : Nat, ∃ c : Fin 6, s.dramFits a.toNat n = true ∧ s.inSelfRefresh = false ∧ s.flippedIn a.toNat n = [b] ∧ (s.readBeat b).1 = .corrected :=
  ⟨({ withFlds [(DRAMC_SIZE, 2 ^ 40), (DRAMC_CFG_CE_WRITEBACK, 1)] with dram := { mem := [(1001, 7), (1003, 9)], flips := [(125, 5)] } }), (1001), (14), (125), (5), by decide⟩

theorem witness_DramReadsAnswerAndWritesStore_3 : ∃ s : State, ∃ a : BitVec 42, ∃ n : Nat, ∃ b : Nat, ∃ c : Fin 6, s.dramFits a.toNat n = true ∧ s.inSelfRefresh = false ∧ s.flippedIn a.toNat n = [b] ∧ (s.readBeat b).1 = .uncorrectable ∧ s.on DRAMC_CFG_RANK_POLICY = false ∧ 8 * b < 2 ^ 64 :=
  ⟨({ withFlds [(DRAMC_SIZE, 2 ^ 40)] with dram := { mem := [(1001, 7), (1003, 9)], flips := [(125, 0x1111)] } }), (1001), (14), (125), (5), by decide⟩

theorem witness_DramReadsAnswerAndWritesStore_4 : ∃ s : State, ∃ a : BitVec 42, ∃ n : Nat, ∃ c : Fin 6, ∃ es : List (Nat × Nat), s.dramFits a.toNat n = true ∧ s.inSelfRefresh = true :=
  ⟨({ withFlds [(DRAMC_SIZE, 2 ^ 40), (DRAMC_STATUS_SR_STATE, 2)] with dram := { mem := [(1001, 7), (1003, 9)] } }), (1001), (14), (5), ([]), by decide⟩

theorem witness_DramReadsAnswerAndWritesStore_5 : ∃ s : State, ∃ a : BitVec 42, ∃ n : Nat, ∃ c : Fin 6, ∃ es : List (Nat × Nat), s.dramFits a.toNat n = false :=
  ⟨(State.reset), (1001), (14), (5), ([]), by decide⟩

theorem witness_DramReadsAnswerAndWritesStore_6 : ∃ s : State, ∃ a : BitVec 42, ∃ bs : List (BitVec 8), ∃ c : Fin 6, s.dramFits a.toNat bs.length = true ∧ s.inSelfRefresh = false ∧ bs ≠ [] ∧ spGet (fun _ => 0) s.dram.flips (a.toNat / 8) = 0 ∧ spGet (fun _ => 0) s.dram.flips ((a.toNat + bs.length) / 8) = 0 :=
  ⟨({ withFlds [(DRAMC_SIZE, 2 ^ 40)] with dram := { mem := [(1001, 7), (1003, 9)], flips := [(126, 5)] } }), (1003), ([1, 2, 3, 4, 0, 255, 3, 4, 5, 6, 7, 8, 9, 1, 2, 3, 4]), (5), by decide⟩

theorem witness_DramReadsAnswerAndWritesStore_7 : ∃ s : State, ∃ a : BitVec 42, ∃ bs : List (BitVec 8), ∃ c : Fin 6, s.dramFits a.toNat bs.length = true ∧ s.inSelfRefresh = true :=
  ⟨({ withFlds [(DRAMC_SIZE, 2 ^ 40), (DRAMC_STATUS_SR_STATE, 2)] with dram := { mem := [(1001, 7), (1003, 9)] } }), (1003), ([1, 2]), (5), by decide⟩

theorem witness_DramReadsAnswerAndWritesStore_8 : ∃ s : State, ∃ a : BitVec 42, ∃ bs : List (BitVec 8), ∃ c : Fin 6, ∃ es : List (Nat × Nat), s.dramFits a.toNat bs.length = false :=
  ⟨(State.reset), (1003), ([1, 2]), (5), ([]), by decide⟩

theorem witness_CheckCodeCorrectsTwoBits_3 : ∃ d : BitVec 64, ∃ a : Fin 2, ∃ i : Fin 80, ∃ j : Fin 80, i ≠ j ∧ i ≠ 78 ∧ j ≠ 78 :=
  ⟨(0xDEADBEEF01234567), (1), (77), (79), by decide⟩

theorem witness_DramMaintenanceMovesRanks_1 : ∃ s : State, ∃ c : Nat, ∃ r : Nat, ∃ k : Nat, s.dram.mig = none ∧ c = s.rd DRAMC_MIG_MIG_CH ∧ r = s.rd DRAMC_MIG_MIG_RANK ∧ firstIdx 4 (fun k => k != r && s.rd (rankStateF c k) == rankSpareReady) = some k :=
  ⟨(withFlds [(DRAMC_CFG_CHANNELS, 1), (DRAMC_CFG_RANKS, 3), (DRAMC_CFG_SPARE_EN, 1), (rankStateF 7 1, 1), (rankStateF 7 3, 2), (rankMapF 7 1, 1), (DRAMC_MIG_MIG_CH, 7), (DRAMC_MIG_MIG_RANK, 1)]), (7), (1), (3), by decide⟩

theorem witness_DramMaintenanceMovesRanks_2 : ∃ s : State, ∃ c : Nat, ∃ r : Nat, s.dram.mig = none ∧ c = s.rd DRAMC_MIG_MIG_CH ∧ r = s.rd DRAMC_MIG_MIG_RANK ∧ firstIdx 4 (fun k => k != r && s.rd (rankStateF c k) == rankSpareReady) = none :=
  ⟨(withFlds [(DRAMC_CFG_CHANNELS, 1), (DRAMC_CFG_RANKS, 3), (DRAMC_CFG_SPARE_EN, 1), (rankStateF 7 1, 1), (rankStateF 7 3, 2), (rankMapF 7 1, 1), (DRAMC_MIG_MIG_CH, 7), (DRAMC_MIG_MIG_RANK, 3)]), (7), (3), by decide⟩

theorem witness_DramMaintenanceMovesRanks_3 : ∃ s : State, ∃ m : Migration, ∃ k : Nat, s.dram.mig = some m ∧ s.inSelfRefresh = false ∧ s.rd DRAMC_MIG_PTR < 2 ^ s.rankLineBits ∧ s.logicalOf m.ch m.src = some k ∧ s.flippedIn (s.placeAddr m.ch k (s.rd DRAMC_MIG_PTR)) 128 = [] :=
  ⟨({ withFlds [(DRAMC_CFG_CHANNELS, 1), (DRAMC_CFG_RANKS, 3), (DRAMC_CFG_SPARE_EN, 1), (rankStateF 7 1, 1), (rankStateF 7 3, 2), (rankMapF 7 1, 1), (DRAMC_CFG_DEVICE, 1), (DRAMC_MIG_PTR, 2 ^ 27 - 1)] with dram := { mig := some ⟨7, 1, 3, 3, 0⟩ } }), (⟨7, 1, 3, 3, 0⟩), (1), by decide⟩

theorem witness_DramMaintenanceMovesRanks_4 : ∃ s : State, ∃ m : Migration, ∃ k : Nat, ∃ b : Nat, s.dram.mig = some m ∧ s.inSelfRefresh = false ∧ s.rd DRAMC_MIG_PTR < 2 ^ s.rankLineBits ∧ s.logicalOf m.ch m.src = some k ∧ s.flippedIn (s.placeAddr m.ch k (s.rd DRAMC_MIG_PTR)) 128 = [b] ∧ (s.readBeat b).1 = .uncorrectable :=
  ⟨((let u : State := { withFlds [(DRAMC_CFG_CHANNELS, 1), (DRAMC_CFG_RANKS, 3), (DRAMC_CFG_SPARE_EN, 1), (rankStateF 7 1, 1), (rankStateF 7 3, 2), (rankMapF 7 1, 1), (DRAMC_CFG_DEVICE, 1), (DRAMC_MIG_PTR, 5)] with dram := { mig := some ⟨7, 1, 3, 3, 0⟩ } }; { u with dram := { u.dram with flips := [(u.placeAddr 7 1 5 / 8, 0x1111)] } })), (⟨7, 1, 3, 3, 0⟩), (1), ((withFlds [(DRAMC_CFG_CHANNELS, 1), (DRAMC_CFG_RANKS, 3), (DRAMC_CFG_SPARE_EN, 1), (rankStateF 7 1, 1), (rankStateF 7 3, 2), (rankMapF 7 1, 1), (DRAMC_CFG_DEVICE, 1)]).placeAddr 7 1 5 / 8), by decide⟩

theorem witness_DramMaintenanceMovesRanks_5 : ∃ s : State, ∃ m : Migration, ∃ k : Nat, s.dram.mig = some m ∧ 2 ^ s.rankLineBits ≤ s.rd DRAMC_MIG_PTR ∧ m.ch < 8 ∧ m.src < 4 ∧ m.tgt < 4 ∧ m.src ≠ m.tgt ∧ s.logicalOf m.ch m.src = some k ∧ s.dram.tgtPoison = [] :=
  ⟨({ withFlds [(DRAMC_CFG_CHANNELS, 1), (DRAMC_CFG_RANKS, 3), (DRAMC_CFG_SPARE_EN, 1), (rankStateF 7 1, 1), (rankStateF 7 3, 2), (rankMapF 7 1, 1), (DRAMC_CFG_DEVICE, 1), (DRAMC_MIG_PTR, 2 ^ 27)] with dram := { mig := some ⟨7, 1, 3, 3, 0⟩ } }), (⟨7, 1, 3, 3, 0⟩), (1), by decide⟩

theorem witness_DramMaintenanceMovesRanks_6 : ∃ s : State, ∃ p : Nat, ∃ k : Nat, s.on DRAMC_SCRUB_SCRUB_EN = true ∧ s.inSelfRefresh = false ∧ p = s.rd DRAMC_SCRUB_PTR ∧ s.scrubbed (p % 8) (p / 8 % 4) = true ∧ s.logicalOf (p % 8) (p / 8 % 4) = some k ∧ s.flippedIn (s.placeAddr (p % 8) k (p / 32)) 128 = [] :=
  ⟨({ withFlds [(DRAMC_CFG_CHANNELS, 1), (DRAMC_CFG_RANKS, 3), (DRAMC_CFG_SPARE_EN, 1), (rankStateF 7 1, 1), (rankStateF 7 3, 2), (rankMapF 7 1, 1), (DRAMC_CFG_DEVICE, 1), (DRAMC_SCRUB_SCRUB_EN, 1), (DRAMC_SCRUB_PTR, 8 + 7 + 32 * 5)] with dram := {  } }), (8 + 7 + 32 * 5), (1), by decide⟩

theorem witness_DramMaintenanceMovesRanks_7 : ∃ s : State, ∃ p : Nat, ∃ k : Nat, ∃ b : Nat, s.on DRAMC_SCRUB_SCRUB_EN = true ∧ s.inSelfRefresh = false ∧ p = s.rd DRAMC_SCRUB_PTR ∧ s.scrubbed (p % 8) (p / 8 % 4) = true ∧ s.logicalOf (p % 8) (p / 8 % 4) = some k ∧ s.flippedIn (s.placeAddr (p % 8) k (p / 32)) 128 = [b] ∧ (s.readBeat b).1 = .corrected :=
  ⟨((let u : State := withFlds [(DRAMC_CFG_CHANNELS, 1), (DRAMC_CFG_RANKS, 3), (DRAMC_CFG_SPARE_EN, 1), (rankStateF 7 1, 1), (rankStateF 7 3, 2), (rankMapF 7 1, 1), (DRAMC_CFG_DEVICE, 1), (DRAMC_SCRUB_SCRUB_EN, 1), (DRAMC_SCRUB_PTR, 8 + 7 + 32 * 5)]; { u with dram := { u.dram with flips := [(u.placeAddr 7 1 5 / 8, 3)] } })), (8 + 7 + 32 * 5), (1), ((withFlds [(DRAMC_CFG_CHANNELS, 1), (DRAMC_CFG_RANKS, 3), (DRAMC_CFG_SPARE_EN, 1), (rankStateF 7 1, 1), (rankStateF 7 3, 2), (rankMapF 7 1, 1), (DRAMC_CFG_DEVICE, 1)]).placeAddr 7 1 5 / 8), by decide⟩

theorem witness_DramMaintenanceMovesRanks_8 : ∃ s : State, ∃ es : List (Nat × Nat), s.on DRAMC_SCRUB_SCRUB_EN = false :=
  ⟨(withFlds [(DRAMC_SCRUB_SCRUB_EN, 0)]), ([]), by decide⟩

theorem witness_DramMaintenanceMovesRanks_9 : ∃ s : State, ∃ c : Fin 8, ∃ r : Fin 4, ∃ fl : List (Nat × Nat), ((spGet (fun _ => []) s.dram.alerts c).filter (fun t => decide (s.now < t + 400))).length < 2 :=
  ⟨(State.reset), (7), (3), ([(2, 64)]), by decide⟩

theorem witness_DramMaintenanceMovesRanks_10 : ∃ s : State, ∃ c : Fin 8, ∃ r : Fin 4, ∃ fl : List (Nat × Nat), 2 ≤ ((spGet (fun _ => []) s.dram.alerts c).filter (fun t => decide (s.now < t + 400))).length ∧ s.on DRAMC_CFG_RANK_POLICY = false :=
  ⟨({ withFlds [] with tl := { tick := 500 }, dram := { alerts := [(7, [499, 101])] } }), (7), (3), ([(2, 64)]), by decide⟩

theorem witness_DramMaintenanceMovesRanks_11 : ∃ s : State, ∃ c : Fin 8, ∃ r : Fin 4, s.rd DRAMC_PD ≠ 0 ∧ 5 * spGet (fun _ => 0) s.dram.lastCmd (4 * c.val + r.val) + 2 * s.rd DRAMC_PD ≤ 5 * s.now :=
  ⟨({ withFlds [(DRAMC_PD, 1000)] with tl := { tick := 500 }, dram := { lastCmd := [(31, 100)] } }), (7), (3), by decide⟩

theorem witness_DramMaintenanceMovesRanks_12 : ∃ s : State, srAllowed s.mode = true ∧ s.rd DRAMC_STATUS_SR_STATE = 0 :=
  ⟨(withFlds [(TOP_MODE_MODE, 10)]), by decide⟩

theorem witness_DramMaintenanceMovesRanks_13 : ∃ s : State, srAllowed s.mode = false :=
  ⟨(withFlds [(TOP_MODE_MODE, 3)]), by decide⟩

theorem witness_DramMaintenanceMovesRanks_14 : ∃ s : State, s.rd DRAMC_STATUS_SR_STATE = 1 :=
  ⟨(withFlds [(DRAMC_STATUS_SR_STATE, 1)]), by decide⟩

theorem witness_DramMaintenanceMovesRanks_15 : ∃ s : State, s.dram.held = [] :=
  ⟨(withFlds [(DRAMC_STATUS_SR_STATE, 2)]), by decide⟩

theorem witness_DramMaintenanceMovesRanks_16 : ∃ s : State, ∃ h : HeldAccess, s.dram.held = [h] ∧ h.read = none ∧ s.rd DRAMC_STATUS_SR_STATE ≠ 0 ∧ spGet (fun _ => 0) s.dram.flips (h.addr / 8) = 0 ∧ spGet (fun _ => 0) s.dram.flips ((h.addr + h.bytes.length) / 8) = 0 :=
  ⟨({ withFlds [(DRAMC_STATUS_SR_STATE, 2)] with dram := { held := [⟨3, 1003, [1, 2, 3, 4, 5, 6, 7, 8, 9], 0, none, false⟩] } }), (⟨3, 1003, [1, 2, 3, 4, 5, 6, 7, 8, 9], 0, none, false⟩), by decide⟩

theorem witness_DramMaintenanceMovesRanks_17 : ∃ s : State, ∃ h : HeldAccess, ∃ rest : List HeldAccess, s.inSelfRefresh = true ∧ s.dram.held = h :: rest ∧ h.since + 400000 ≤ s.now ∧ h.bar = false :=
  ⟨({ withFlds [(DRAMC_STATUS_SR_STATE, 2)] with tl := { tick := 400000 }, dram := { held := [⟨3, 1003, [1, 2, 3, 4, 5, 6, 7, 8, 9], 0, none, false⟩] } }), (⟨3, 1003, [1, 2, 3, 4, 5, 6, 7, 8, 9], 0, none, false⟩), ([]), by decide⟩

theorem witness_DramMaintenanceMovesRanks_19 : ∃ s : State, ∃ v : BitVec 32, s.rd DRAMC_SHARE0_IMAGE + s.rd DRAMC_SHARE0_MASTER + s.rd DRAMC_SHARE0_DMA + s.rd DRAMC_SHARE0_HOST + bitsAt v.toNat 0 7 + bitsAt v.toNat 8 7 = 100 :=
  ⟨(withFlds [(DRAMC_SHARE0_IMAGE, 20), (DRAMC_SHARE0_MASTER, 20), (DRAMC_SHARE0_DMA, 20), (DRAMC_SHARE0_HOST, 20)]), (0x0C08), by decide⟩

theorem witness_DramMaintenanceMovesRanks_20 : ∃ s : State, ∃ v : BitVec 32, s.rd DRAMC_SHARE0_IMAGE + s.rd DRAMC_SHARE0_MASTER + s.rd DRAMC_SHARE0_DMA + s.rd DRAMC_SHARE0_HOST + bitsAt v.toNat 0 7 + bitsAt v.toNat 8 7 ≠ 100 :=
  ⟨(withFlds [(DRAMC_SHARE0_IMAGE, 20), (DRAMC_SHARE0_MASTER, 20), (DRAMC_SHARE0_DMA, 20), (DRAMC_SHARE0_HOST, 20)]), (0x0C09), by decide⟩

theorem witness_TrainingAndPlaybackRun_1 : ∃ s : State, ∃ c : Fin 8, s.rd (DRAMC_CH_TRAIN_CMD_CMD c) = 0 ∧ s.trainOpen c = true :=
  ⟨(withFlds [(TOP_MODE_MODE, 2), (DRAMC_CH_TRAIN_CMD_CMD 7, 0), (DRAMC_CH_TRAIN_CMD_LOOPS 7, 1), (DRAMC_CH_TRAIN_CMD_RANK 7, 3), (DRAMC_CH_TRAIN_CMD_PATTERN 7, 2), (DRAMC_CH_TRAIN_USER1 7, 5), (DRAMC_CH_TRAIN_ADDR 7, 77)]), (7), by decide⟩

theorem witness_TrainingAndPlaybackRun_2 : ∃ s : State, ∃ c : Fin 8, ∃ r : BitVec 32, s.rd (DRAMC_CH_TRAIN_CMD_CMD c) = 1 ∧ s.trainOpen c = true :=
  ⟨(withFlds [(TOP_MODE_MODE, 2), (DRAMC_CH_TRAIN_CMD_CMD 7, 1), (DRAMC_CH_TRAIN_CMD_LOOPS 7, 1), (DRAMC_CH_TRAIN_CMD_RANK 7, 3), (DRAMC_CH_TRAIN_CMD_PATTERN 7, 2), (DRAMC_CH_TRAIN_USER1 7, 5), (DRAMC_CH_TRAIN_ADDR 7, 77)]), (7), (55), by decide⟩

theorem witness_TrainingAndPlaybackRun_3 : ∃ s : State, ∃ c : Fin 8, s.rd (DRAMC_CH_TRAIN_CMD_CMD c) = 2 ∧ s.trainOpen c = true :=
  ⟨(withFlds [(TOP_MODE_MODE, 2), (DRAMC_CH_TRAIN_CMD_CMD 7, 2), (DRAMC_CH_TRAIN_CMD_LOOPS 7, 1), (DRAMC_CH_TRAIN_CMD_RANK 7, 3), (DRAMC_CH_TRAIN_CMD_PATTERN 7, 2), (DRAMC_CH_TRAIN_USER1 7, 5), (DRAMC_CH_TRAIN_ADDR 7, 77)]), (7), by decide⟩

theorem witness_TrainingAndPlaybackRun_4 : ∃ s : State, ∃ c : Fin 8, s.rd (DRAMC_CH_TRAIN_CMD_CMD c) = 3 ∧ s.trainOpen c = true :=
  ⟨(withFlds [(TOP_MODE_MODE, 2), (DRAMC_CH_TRAIN_CMD_CMD 7, 3), (DRAMC_CH_TRAIN_CMD_LOOPS 7, 1), (DRAMC_CH_TRAIN_CMD_RANK 7, 3), (DRAMC_CH_TRAIN_CMD_PATTERN 7, 2), (DRAMC_CH_TRAIN_USER1 7, 5), (DRAMC_CH_TRAIN_ADDR 7, 77)]), (7), by decide⟩

theorem witness_TrainingAndPlaybackRun_5 : ∃ s : State, ∃ c : Fin 8, s.rd (DRAMC_CH_TRAIN_CMD_CMD c) = 4 ∧ s.trainOpen c = true :=
  ⟨(withFlds [(TOP_MODE_MODE, 2), (DRAMC_CH_TRAIN_CMD_CMD 7, 4), (DRAMC_CH_TRAIN_CMD_LOOPS 7, 1), (DRAMC_CH_TRAIN_CMD_RANK 7, 3), (DRAMC_CH_TRAIN_CMD_PATTERN 7, 2), (DRAMC_CH_TRAIN_USER1 7, 5), (DRAMC_CH_TRAIN_ADDR 7, 77)]), (7), by decide⟩

theorem witness_TrainingAndPlaybackRun_6 : ∃ s : State, ∃ c : Fin 8, s.rd (DRAMC_CH_TRAIN_CMD_CMD c) = 5 ∧ s.trainOpen c = true :=
  ⟨(withFlds [(TOP_MODE_MODE, 2), (DRAMC_CH_TRAIN_CMD_CMD 7, 5), (DRAMC_CH_TRAIN_CMD_LOOPS 7, 1), (DRAMC_CH_TRAIN_CMD_RANK 7, 3), (DRAMC_CH_TRAIN_CMD_PATTERN 7, 2), (DRAMC_CH_TRAIN_USER1 7, 5), (DRAMC_CH_TRAIN_ADDR 7, 77)]), (7), by decide⟩

theorem witness_TrainingAndPlaybackRun_7 : ∃ s : State, ∃ c : Fin 8, s.rd (DRAMC_CH_TRAIN_CMD_CMD c) = 6 ∧ s.trainOpen c = true :=
  ⟨(withFlds [(TOP_MODE_MODE, 2), (DRAMC_CH_TRAIN_CMD_CMD 7, 6), (DRAMC_CH_TRAIN_CMD_LOOPS 7, 1), (DRAMC_CH_TRAIN_CMD_RANK 7, 3), (DRAMC_CH_TRAIN_CMD_PATTERN 7, 2), (DRAMC_CH_TRAIN_USER1 7, 5), (DRAMC_CH_TRAIN_ADDR 7, 77)]), (7), by decide⟩

theorem witness_TrainingAndPlaybackRun_8 : ∃ s : State, ∃ c : Fin 8, ∃ reads : List (List Nat), s.rd (DRAMC_CH_TRAIN_CMD_CMD c) = 7 ∧ s.trainOpen c = true ∧ s.rd (DRAMC_CH_TRAIN_CMD_LOOPS c) = 1 ∧ reads = [s.burst c (spGet (fun _ => 0) s.dram.genRd c)] :=
  ⟨(withFlds [(TOP_MODE_MODE, 2), (DRAMC_CH_TRAIN_CMD_CMD 7, 7), (DRAMC_CH_TRAIN_CMD_LOOPS 7, 1), (DRAMC_CH_TRAIN_CMD_RANK 7, 3), (DRAMC_CH_TRAIN_CMD_PATTERN 7, 2), (DRAMC_CH_TRAIN_USER1 7, 5), (DRAMC_CH_TRAIN_ADDR 7, 77)]), (7), ([(withFlds [(TOP_MODE_MODE, 2), (DRAMC_CH_TRAIN_CMD_CMD 7, 7), (DRAMC_CH_TRAIN_CMD_LOOPS 7, 1), (DRAMC_CH_TRAIN_CMD_RANK 7, 3), (DRAMC_CH_TRAIN_CMD_PATTERN 7, 2), (DRAMC_CH_TRAIN_USER1 7, 5), (DRAMC_CH_TRAIN_ADDR 7, 77)]).burst 7 0]), by decide⟩

theorem witness_TrainingAndPlaybackRun_9 : ∃ s : State, ∃ c : Fin 8, ∃ m : Nat, s.rd (DRAMC_CH_TRAIN_CMD_CMD c) = 7 ∧ s.trainOpen c = true ∧ s.rd (DRAMC_CH_TRAIN_CMD_LOOPS c) = 1 ∧ m = xorNat 80 (nth 0 (s.burst c (spGet (fun _ => 0) s.dram.genRd c)) 0) 1 :=
  ⟨(withFlds [(TOP_MODE_MODE, 2), (DRAMC_CH_TRAIN_CMD_CMD 7, 7), (DRAMC_CH_TRAIN_CMD_LOOPS 7, 1), (DRAMC_CH_TRAIN_CMD_RANK 7, 3), (DRAMC_CH_TRAIN_CMD_PATTERN 7, 2), (DRAMC_CH_TRAIN_USER1 7, 5), (DRAMC_CH_TRAIN_ADDR 7, 77)]), (7), (xorNat 80 (nth 0 ((withFlds [(TOP_MODE_MODE, 2), (DRAMC_CH_TRAIN_CMD_CMD 7, 7), (DRAMC_CH_TRAIN_CMD_LOOPS 7, 1), (DRAMC_CH_TRAIN_CMD_RANK 7, 3), (DRAMC_CH_TRAIN_CMD_PATTERN 7, 2), (DRAMC_CH_TRAIN_USER1 7, 5), (DRAMC_CH_TRAIN_ADDR 7, 77)]).burst 7 0) 0) 1), by decide⟩

theorem witness_TrainingAndPlaybackRun_10 : ∃ s : State, ∃ c : Fin 8, s.rd (DRAMC_CH_TRAIN_CMD_CMD c) = 0 ∧ s.trainOpen c = false :=
  ⟨(withFlds [(TOP_MODE_MODE, 3), (DRAMC_CH_TRAIN_CMD_CMD 7, 0)]), (7), by decide⟩

theorem witness_TrainingAndPlaybackRun_11 : ∃ s : State, s.mode = 2 ∧ s.dram.needInit = true ∧ s.trainRefused = false ∧ s.dram.held = [] ∧ s.top.warmAt = none :=
  ⟨(withFlds [(TOP_MODE_MODE, 2), (DRAMC_CFG_RANKS, 1), (DRAMC_CFG_SPARE_EN, 1)]), by decide⟩

theorem witness_TrainingAndPlaybackRun_12 : ∃ s : State, ∃ rs : List (Fin 8 × Fin 4 × Fin 80 × BitVec 8), ∃ fs : List (Fin 8 × Fin 4 × Fin 80 × BitVec 8), s.mode = 2 ∧ s.dram.needInit = true ∧ s.trainRefused = true :=
  ⟨(withFlds [(TOP_MODE_MODE, 2), (DRAMC_CFG_RANKS, 3), (DRAMC_CFG_RATE, 3)]), ([]), ([]), by decide⟩

theorem witness_TrainingAndPlaybackRun_13 : ∃ s : State, s.mode = 9 ∧ s.on DRAMC_PLAY_CTRL_PLAY_BUSY = false :=
  ⟨(withFlds [(TOP_MODE_MODE, 9), (DRAMC_PLAY_FIRST, 2 ^ 64 - 3)]), by decide⟩

theorem witness_TrainingAndPlaybackRun_14 : ∃ s : State, (s.mode ≠ 9 ∨ s.on DRAMC_PLAY_CTRL_PLAY_BUSY = true) :=
  ⟨(State.reset), by decide⟩

theorem witness_TrainingAndPlaybackRun_15 : ∃ s : State, ∃ l : Int, s.dram.playNext = some l ∧ s.mode = 9 ∧ s.playDue = true ∧ s.rdS DRAMC_PLAY_LAST < l ∧ s.dram.playRun = none :=
  ⟨({ withFlds [(TOP_MODE_MODE, 9), (DRAMC_PLAY_CTRL_PLAY_BUSY, 1), (DRAMC_PLAY_LAST, 5)] with dram := { playNext := some 6 } }), (6), by decide⟩

theorem witness_TrainingAndPlaybackRun_16 : ∃ s : State, ∃ l : Int, s.dram.playNext = some l ∧ s.mode = 9 ∧ s.playDue = true ∧ l < s.rdS DRAMC_PLAY_LAST ∧ s.rd DRAMC_IMG_CFG_LINES = 0 :=
  ⟨({ withFlds [(TOP_MODE_MODE, 9), (DRAMC_PLAY_CTRL_PLAY_BUSY, 1), (DRAMC_PLAY_LAST, 7)] with dram := { playNext := some 6 } }), (6), by decide⟩

theorem witness_NetworkTimeCountsAndCompares_1 : ∃ s : State, s.net.setTo = none ∧ s.net.adjBy = none :=
  ⟨({ withFlds [(NET_PTP_INCR, 0x02000000), (NET_CTRL_TCORR_EN, 1), (NET_PTP_TCORR, 2 ^ 32 - 5)] with net := { ptpNs := 0xFFFFFFFF, ptpWrap := 0xFFFF, ptpFrac := 7 } }), by decide⟩

theorem witness_NetworkTimeCountsAndCompares_2 : ∃ s : State, ∃ v : Nat, s.net.setTo = some v ∧ s.net.adjBy = none :=
  ⟨({ withFlds [(NET_PTP_INCR, 0x02000000), (NET_CTRL_TCORR_EN, 1), (NET_PTP_TCORR, 2 ^ 32 - 5)] with net := { ptpNs := 5, setTo := some 77 } }), (77), by decide⟩

theorem witness_NetworkTimeCountsAndCompares_3 : ∃ s : State, ∃ d : Int, s.net.setTo = none ∧ s.net.adjBy = some d :=
  ⟨({ withFlds [(NET_PTP_INCR, 0x02000000), (NET_CTRL_TCORR_EN, 1), (NET_PTP_TCORR, 2 ^ 32 - 5)] with net := { ptpNs := 5, adjBy := some (-100) } }), (-100), by decide⟩

theorem witness_NetworkTimeCountsAndCompares_4 : ∃ s : State, ∃ v : BitVec 32, 0x01E00000 ≤ v.toNat ∧ v.toNat ≤ 0x02200000 :=
  ⟨(State.reset), (0x01E00000), by decide⟩

theorem witness_NetworkTimeCountsAndCompares_5 : ∃ s : State, ∃ v : BitVec 32, (v.toNat < 0x01E00000 ∨ 0x02200000 < v.toNat) :=
  ⟨(State.reset), (0x02200001), by decide⟩

theorem witness_NetworkTimeCountsAndCompares_7 : ∃ s : State, ∃ v : BitVec 32, s.net.adjBy = none :=
  ⟨(State.reset), (0xFFFFFFFF), by decide⟩

theorem witness_NetworkTimeCountsAndCompares_8 : ∃ s : State, ∃ g : Int, s.net.tcorrAt + 400000 ≤ s.now ∧ s.on NET_CTRL_TCORR_EN = true ∧ g = s.net.tcorrTo ∧ s.rdS NET_PTP_TCORR < g ∧ g < 2 ^ 31 :=
  ⟨({ withFlds [(NET_PTP_INCR, 0x02000000), (NET_CTRL_TCORR_EN, 1), (NET_PTP_TCORR, 2 ^ 32 - 5)] with tl := { tick := 400000 }, net := { tcorrTo := 9 } }), (9), by decide⟩

theorem witness_NetworkTimeCountsAndCompares_9 : ∃ s : State, s.net.tcorrAt + 400000 ≤ s.now ∧ s.on NET_CTRL_TCORR_EN = true ∧ s.rdS NET_PTP_TCORR = s.net.tcorrTo :=
  ⟨({ withFlds [(NET_PTP_INCR, 0x02000000), (NET_CTRL_TCORR_EN, 1), (NET_PTP_TCORR, 2 ^ 32 - 5)] with tl := { tick := 400000 }, net := { tcorrTo := -5 } }), by decide⟩

theorem witness_NetworkTimeCountsAndCompares_10 : ∃ s : State, ∃ u : Fin 8, s.on (NET_TCMP_CTRL_ENABLE u) = true ∧ spGet (fun _ => 0) s.net.ahead u = 1 ∧ s.tcAhead u = false ∧ s.rd (NET_TCMP_PERIOD u) = 0 :=
  ⟨({ withFlds [(NET_TCMP_CTRL_ENABLE 7, 1), (NET_TCMP_TARGET 7, 100), (NET_TCMP_CTRL_CHANNEL 7, 63), (NET_TCMP_CTRL_SINGLE 7, 1)] with net := { ptpNs := 103, ahead := [(7, 1)] } }), (7), by decide⟩

theorem witness_NetworkTimeCountsAndCompares_11 : ∃ s : State, ∃ u : Fin 8, ∃ n : Nat, s.on (NET_TCMP_CTRL_ENABLE u) = true ∧ spGet (fun _ => 0) s.net.ahead u = 1 ∧ s.tcAhead u = false ∧ n = (s.rd (NET_TCMP_TARGET u) + s.rd (NET_TCMP_PERIOD u)) % 2 ^ 48 ∧ s.rd (NET_TCMP_PERIOD u) ≠ 0 ∧ aheadOf n s.ptp = true :=
  ⟨({ withFlds [(NET_TCMP_CTRL_ENABLE 7, 1), (NET_TCMP_TARGET 7, 100), (NET_TCMP_CTRL_CHANNEL 7, 63), (NET_TCMP_CTRL_SINGLE 7, 1), (NET_TCMP_PERIOD 7, 50)] with net := { ptpNs := 103, ahead := [(7, 1)] } }), (7), (150), by decide⟩

theorem witness_NetworkTimeCountsAndCompares_12 : ∃ s : State, ∃ u : Fin 8, s.on (NET_TCMP_CTRL_ENABLE u) = false ∧ s.tcAhead u = true :=
  ⟨({ withFlds [(NET_TCMP_TARGET 7, 100)] with net := { ptpNs := 3 } }), (7), by decide⟩

theorem witness_NetworkTimeCountsAndCompares_13 : ∃ s : State, ∃ u : Fin 8, s.on (NET_TCMP_CTRL_ENABLE u) = false ∧ s.tcAhead u = false ∧ s.on (NET_TCMP_CTRL_LATE_FIRE u) = false :=
  ⟨({ withFlds [(NET_TCMP_TARGET 7, 100)] with net := { ptpNs := 300, ahead := [(7, 1)] } }), (7), by decide⟩

theorem witness_NetworkTimeCountsAndCompares_14 : ∃ s : State, ∃ u : Fin 8, ∃ v : BitVec 48, s.on (NET_TCMP_CTRL_ENABLE u) = false :=
  ⟨(State.reset), (7), (0xFFFFFFFFFFFF), by decide⟩

theorem witness_EthernetFramesMoveThroughRings_1 : ∃ s : State, ∃ e : Fin 2, ∃ f : List (BitVec 8), ∃ ok : Bool, ∃ g : BitVec 72, ∃ h : List (BitVec 8), s.ethUp e = false :=
  ⟨(State.reset), (1), ([]), (true), (0), ([]), by decide⟩

theorem witness_EthernetFramesMoveThroughRings_2 : ∃ s : State, ∃ e : Fin 2, ∃ f : List (BitVec 8), ∃ g : BitVec 72, ∃ h : List (BitVec 8), s.ethUp e = true ∧ s.on (NET_E_CTRL_LOOPBACK e) = false ∧ f.length ≤ 9212 :=
  ⟨(withFlds [(NET_E_CTRL_EN 1, 1), (NET_E_STATUS_LINK 1, 1), (NET_E_MAC 1, 0x020000000001)]), (1), (([2, 0, 0, 0, 0, 1] ++ List.replicate 60 9)), (0), ([]), by decide⟩

theorem witness_EthernetFramesMoveThroughRings_3 : ∃ s : State, ∃ e : Fin 2, ∃ f : List (BitVec 8), ∃ ok : Bool, ∃ g : BitVec 72, ∃ h : List (BitVec 8), s.ethUp e = true ∧ s.on (NET_E_CTRL_LOOPBACK e) = false ∧ 9212 < f.length :=
  ⟨(withFlds [(NET_E_CTRL_EN 1, 1), (NET_E_STATUS_LINK 1, 1), (NET_E_MAC 1, 0x020000000001)]), (1), (List.replicate 9213 0), (true), (0), ([]), by decide, by decide, by simp⟩

theorem witness_EthernetFramesMoveThroughRings_4 : ∃ s : State, ∃ e : Fin 2, ∃ f : List (BitVec 8), ∃ g : BitVec 72, ∃ h : List (BitVec 8), ∃ b : List Nat, s.ethUp e = true ∧ s.on (NET_E_CTRL_LOOPBACK e) = false ∧ f.length ≤ 9212 ∧ 60 ≤ f.length ∧ b = f.map (·.toNat) ∧ isPause b = false ∧ beNum (slice b 0 6) = s.rd (NET_E_MAC e) ∧ s.rd (NET_E_RX_HEAD e) = s.rd (NET_E_RX_TAIL e) ∧ nth 0 b 0 % 2 = 0 :=
  ⟨(withFlds [(NET_E_CTRL_EN 1, 1), (NET_E_STATUS_LINK 1, 1), (NET_E_MAC 1, 0x020000000001)]), (1), (([2, 0, 0, 0, 0, 1] ++ List.replicate 60 9)), (0), ([]), (([2, 0, 0, 0, 0, 1] ++ List.replicate 60 9)), by decide⟩

theorem witness_EthernetFramesMoveThroughRings_5 : ∃ s : State, ∃ e : Fin 2, ∃ f : List (BitVec 8), ∃ g : BitVec 72, ∃ h : List (BitVec 8), ∃ b : List Nat, s.ethUp e = true ∧ s.on (NET_E_CTRL_LOOPBACK e) = false ∧ f.length ≤ 9212 ∧ 60 ≤ f.length ∧ b = f.map (·.toNat) ∧ isPause b = false ∧ beNum (slice b 0 6) ≠ s.rd (NET_E_MAC e) ∧ s.on (NET_E_CTRL_PASS_EN 0) = true ∧ s.on (NET_E_CTRL_PASS_EN 1) = true ∧ nth 0 b 0 % 2 = 0 ∧ (s.np e).fwd = [] :=
  ⟨(withFlds [(NET_E_CTRL_EN 1, 1), (NET_E_STATUS_LINK 1, 1), (NET_E_MAC 1, 0x020000000001), (NET_E_CTRL_PASS_EN 0, 1), (NET_E_CTRL_PASS_EN 1, 1), (NET_E_LATENCY_INGRESS_LAT 1, 0xFFFE)]), (1), (([2, 0, 0, 0, 0, 2] ++ List.replicate 60 9)), (2 ^ 30), ([]), (([2, 0, 0, 0, 0, 2] ++ List.replicate 60 9)), by decide⟩

theorem witness_EthernetFramesMoveThroughRings_6 : ∃ s : State, ∃ e : Fin 2, ∃ f : List (BitVec 8), ∃ h : List (BitVec 8), ∃ g : BitVec 72, ∃ b : List Nat, ∃ d : Nat, ∃ buf : Nat, s.ethUp e = true ∧ s.on (NET_E_CTRL_LOOPBACK e) = false ∧ f.length ≤ s.rd (NET_E_RX_RING_BUF e) * 1024 ∧ f.length ≤ 9212 ∧ 60 ≤ f.length ∧ b = f.map (·.toNat) ∧ isPause b = false ∧ beNum (slice b 0 6) = s.rd (NET_E_MAC e) ∧ nth 0 b 0 % 2 = 0 ∧ 2 ≤ s.rd (NET_E_RX_RING_DEPTH e) ∧ s.rd (NET_E_RX_HEAD e) ≠ s.rd (NET_E_RX_TAIL e) ∧ (s.np e).rxStop = false ∧ s.inSelfRefresh = false ∧ d = s.rd (NET_E_RX_BASE e) + 32 * s.rd (NET_E_RX_HEAD e) ∧ devSpace d = 1 ∧ devOff d + 32 ≤ 2 ^ 42 ∧ h.length = 32 ∧ buf = ofLeBytes ((h.map (·.toNat)).take 8) % 2 ^ 44 ∧ devSpace buf = 1 ∧ devOff buf + f.length ≤ 2 ^ 42 ∧ s.permitted (reqEth e) clsMemory false = true ∧ s.permitted (reqEth e) clsMemory true = true ∧ s.on (NET_E_CTRL_TS_ALL e) = false ∧ ptpEvent b = none :=
  ⟨({ withFlds [(NET_E_CTRL_EN 1, 1), (NET_E_STATUS_LINK 1, 1), (NET_E_MAC 1, 0x020000000001), (NET_E_RX_RING_BUF 1, 2), (NET_E_RX_RING_DEPTH 1, 4), (NET_E_RX_HEAD 1, 3), (NET_E_RX_TAIL 1, 1), (NET_E_RX_BASE 1, 2 ^ 42 + 4096), (NET_E_HOST_BASE 1, 2 ^ 64 - 4096)] with sec := { perst := true } }), (1), (([2, 0, 0, 0, 0, 1] ++ List.replicate 60 9)), ([0, 0, 0, 0, 0, 4, 0, 0] ++ List.replicate 24 0), (0), (([2, 0, 0, 0, 0, 1] ++ List.replicate 60 9)), (2 ^ 42 + 4096 + 96), (2 ^ 42), by decide⟩

theorem witness_EthernetFramesMoveThroughRings_7 : ∃ s : State, ∃ e : Fin 2, ∃ g : FwdFrame, ∃ f : List Nat, nextFwd (s.np (1 - e.val)).fwd = some g ∧ s.ethUp e = true ∧ s.on (NET_E_CTRL_LOOPBACK e) = false ∧ (s.np e).launch = false ∧ f = (s.corrected e g).1 ∧ 60 ≤ f.length :=
  ⟨({ withFlds [(NET_E_CTRL_EN 1, 1), (NET_E_STATUS_LINK 1, 1), (NET_E_MAC 1, 0x020000000001)] with net := { ports := [(0, { fwd := [⟨([2, 0, 0, 0, 0, 2] ++ List.replicate 60 9), 5⟩] })] } }), (1), (⟨([2, 0, 0, 0, 0, 2] ++ List.replicate 60 9), 5⟩), (([2, 0, 0, 0, 0, 2] ++ List.replicate 60 9)), by decide⟩

theorem witness_EthernetFramesMoveThroughRings_9 : ∃ s : State, ∃ e : Fin 2, ∃ ds : List (BitVec 8), ∃ bf : List (BitVec 8), ∃ d : Nat, ∃ x : List Nat, ∃ f : List Nat, s.txReady e = true ∧ (s.np e).launch = false ∧ d = s.rd (NET_E_TX_BASE e) + 32 * s.rd (NET_E_TX_HEAD e) ∧ (s.ethRead e d 32 (ds.map (·.toNat))).1 = .ok x ∧ 14 ≤ ofLeBytes (slice x 8 2) ∧ ofLeBytes (slice x 8 2) ≤ 9212 ∧ s.on (NET_E_STATUS_LINK e) = true ∧ bitAt (ofLeBytes (slice x 10 2)) 1 = false ∧ s.on (NET_E_CTRL_LOOPBACK e) = false ∧ ((s.ethRead e d 32 (ds.map (·.toNat))).2.ethRead e (ofLeBytes (x.take 8) % 2 ^ 44) (ofLeBytes (slice x 8 2)) (bf.map (·.toNat))).1 = .ok f :=
  ⟨({ withFlds [(NET_E_CTRL_EN 1, 1), (NET_E_STATUS_LINK 1, 1), (NET_E_MAC 1, 0x020000000001), (NET_E_TX_RING 1, 4), (NET_E_TX_HEAD 1, 3), (NET_E_TX_TAIL 1, 1), (NET_E_TX_BASE 1, 2 ^ 42 + 4096)] with sec := { perst := true } }), (1), ([0, 0, 0, 0, 0, 4, 0, 0, 14, 0, 1, 0, 0, 0, 0, 0, 0, 0, 0, 0, 0, 0, 0, 0, 0, 0, 0, 0, 0, 0, 0, 0]), (List.replicate 14 8), (2 ^ 42 + 4096 + 96), ([0, 0, 0, 0, 0, 4, 0, 0, 14, 0, 1, 0, 0, 0, 0, 0, 0, 0, 0, 0, 0, 0, 0, 0, 0, 0, 0, 0, 0, 0, 0, 0]), (List.replicate 14 8), by decide⟩

theorem witness_EthernetFramesMoveThroughRings_10 : ∃ s : State, ∃ e : Fin 2, ∃ ds : List (BitVec 8), ∃ bf : List (BitVec 8), ∃ d : Nat, s.txReady e = true ∧ (s.np e).launch = false ∧ d = s.rd (NET_E_TX_BASE e) + 32 * s.rd (NET_E_TX_HEAD e) ∧ devSpace d = 1 ∧ devOff d + 32 ≤ 2 ^ 42 ∧ ds.length = 32 ∧ s.permitted (reqEth e) clsMemory false = true ∧ s.permitted (reqEth e) clsMemory true = true ∧ (ofLeBytes (slice (ds.map (·.toNat)) 8 2) < 14 ∨ 9212 < ofLeBytes (slice (ds.map (·.toNat)) 8 2)) :=
  ⟨(withFlds [(NET_E_CTRL_EN 1, 1), (NET_E_STATUS_LINK 1, 1), (NET_E_MAC 1, 0x020000000001), (NET_E_TX_RING 1, 4), (NET_E_TX_HEAD 1, 3), (NET_E_TX_TAIL 1, 1), (NET_E_TX_BASE 1, 2 ^ 42 + 4096)]), (1), ([0, 0, 0, 0, 0, 4, 0, 0, 13, 0, 0, 0, 0, 0, 0, 0, 0, 0, 0, 0, 0, 0, 0, 0, 0, 0, 0, 0, 0, 0, 0, 0]), (List.replicate 14 8), (2 ^ 42 + 4096 + 96), by decide⟩

theorem witness_EthernetFramesMoveThroughRings_11 : ∃ s : State, ∃ e : Fin 2, ∃ ds : List (BitVec 8), ∃ bf : List (BitVec 8), ∃ d : Nat, ∃ x : List Nat, s.txReady e = true ∧ (s.np e).launch = false ∧ d = s.rd (NET_E_TX_BASE e) + 32 * s.rd (NET_E_TX_HEAD e) ∧ (s.ethRead e d 32 (ds.map (·.toNat))).1 = .ok x ∧ 14 ≤ ofLeBytes (slice x 8 2) ∧ ofLeBytes (slice x 8 2) ≤ 9212 ∧ s.on (NET_E_STATUS_LINK e) = true ∧ bitAt (ofLeBytes (slice x 10 2)) 1 = true ∧ aheadOf (launchTime x) s.ptp = true :=
  ⟨(withFlds [(NET_E_CTRL_EN 1, 1), (NET_E_STATUS_LINK 1, 1), (NET_E_MAC 1, 0x020000000001), (NET_E_TX_RING 1, 4), (NET_E_TX_HEAD 1, 3), (NET_E_TX_TAIL 1, 1), (NET_E_TX_BASE 1, 2 ^ 42 + 4096)]), (1), ([0, 0, 0, 0, 0, 4, 0, 0, 14, 0, 2, 0, 0, 0, 0, 0, 9, 0, 0, 0, 0, 0, 0, 0, 0, 0, 0, 0, 0, 0, 0, 0]), (List.replicate 14 8), (2 ^ 42 + 4096 + 96), ([0, 0, 0, 0, 0, 4, 0, 0, 14, 0, 2, 0, 0, 0, 0, 0, 9, 0, 0, 0, 0, 0, 0, 0, 0, 0, 0, 0, 0, 0, 0, 0]), by decide⟩

theorem witness_EthernetFramesMoveThroughRings_12 : ∃ s : State, ∃ e : Fin 2, ∃ ds : List (BitVec 8), ∃ bf : List (BitVec 8), ∃ d : Nat, ∃ x : List Nat, ∃ f : List Nat, s.txReady e = true ∧ (s.np e).launch = true ∧ d = s.rd (NET_E_TX_BASE e) + 32 * s.rd (NET_E_TX_HEAD e) ∧ (s.ethRead e d 32 (ds.map (·.toNat))).1 = .ok x ∧ s.on (NET_E_STATUS_LINK e) = true ∧ aheadOf (launchTime x) s.ptp = false ∧ s.on (NET_E_CTRL_LOOPBACK e) = false ∧ ((s.ethRead e d 32 (ds.map (·.toNat))).2.ethRead e (ofLeBytes (x.take 8) % 2 ^ 44) (ofLeBytes (slice x 8 2)) (bf.map (·.toNat))).1 = .ok f :=
  ⟨({ withFlds [(NET_E_CTRL_EN 1, 1), (NET_E_STATUS_LINK 1, 1), (NET_E_MAC 1, 0x020000000001), (NET_E_TX_RING 1, 4), (NET_E_TX_HEAD 1, 3), (NET_E_TX_TAIL 1, 1), (NET_E_TX_BASE 1, 2 ^ 42 + 4096)] with net := { ptpNs := 9, ports := [(1, { launch := true })] } }), (1), ([0, 0, 0, 0, 0, 4, 0, 0, 14, 0, 2, 0, 0, 0, 0, 0, 9, 0, 0, 0, 0, 0, 0, 0, 0, 0, 0, 0, 0, 0, 0, 0]), (List.replicate 14 8), (2 ^ 42 + 4096 + 96), ([0, 0, 0, 0, 0, 4, 0, 0, 14, 0, 2, 0, 0, 0, 0, 0, 9, 0, 0, 0, 0, 0, 0, 0, 0, 0, 0, 0, 0, 0, 0, 0]), (List.replicate 14 8), by decide⟩

theorem witness_EthernetFramesMoveThroughRings_13 : ∃ s : State, ∃ e : Fin 2, s.on (NET_E_STATUS_LINK e) = true :=
  ⟨(withFlds [(NET_E_CTRL_EN 1, 1), (NET_E_STATUS_LINK 1, 1), (NET_E_MAC 1, 0x020000000001)]), (1), by decide⟩

theorem witness_EthernetFramesMoveThroughRings_14 : ∃ s : State, ∃ e : Fin 2, s.on (NET_E_CTRL_EN e) = true :=
  ⟨(withFlds [(NET_E_CTRL_EN 1, 1)]), (1), by decide⟩

theorem witness_EthernetFramesMoveThroughRings_15 : ∃ s : State, ∃ e : Nat, ∃ k : Nat, ∃ rs : List (List Nat), ∃ rest : List (Nat × List (List Nat)), s.scal.batches = (k, rs) :: rest ∧ e = s.rd NET_TALLY_CFG_TALLY_PORT ∧ (s.rd NET_TALLY_CFG_BATCH ≤ rs.length ∨ k + s.rd NET_TALLY_CFG_BATCH_US * 400 ≤ s.now) ∧ s.ethUp e = true ∧ (s.np e).launch = false ∧ s.on (NET_E_CTRL_LOOPBACK e) = false :=
  ⟨({ withFlds [(NET_E_CTRL_EN 1, 1), (NET_E_STATUS_LINK 1, 1), (NET_E_MAC 1, 0x020000000001), (NET_TALLY_CFG_TALLY_PORT, 1), (NET_TALLY_CFG_BATCH, 1)] with scal := { batches := [(3, [List.replicate 64 7])] } }), (1), (3), ([List.replicate 64 7]), ([]), by decide⟩

theorem witness_ChainMembersMeasureFollowAndReport_1 : ∃ s : State, s.deviceId ≠ idAll ∧ s.member = false :=
  ⟨((withFlds [(CHAIN_CFG_DEVICE_ID, 5), (CHAIN_CFG_ROOT_ID, 9)])), by decide⟩

theorem witness_ChainMembersMeasureFollowAndReport_2 : ∃ s : State, s.deviceId = idAll :=
  ⟨((withFlds [(CHAIN_CFG_DEVICE_ID, 4095)])), by decide⟩

theorem witness_ChainMembersMeasureFollowAndReport_3 : ∃ s : State, s.member = true :=
  ⟨({ (withFlds [(CHAIN_CFG_DEVICE_ID, 5), (CHAIN_CFG_ROOT_ID, 9), (CHAIN_CTRL_EN, 1)]) with chain := { members := [⟨4095, 2, 0, 0, 0⟩] } }), by decide⟩

theorem witness_ChainMembersMeasureFollowAndReport_4 : ∃ s : State, ∃ k : Fin 3, s.groupUp (12 + k.val) 0 = true ∧ spGet (fun _ => 0) s.chain.probeAt k ≤ s.now ∧ (s.lp k).asked = none ∧ s.chain.muted = false :=
  ⟨((withFlds [(CHAIN_CFG_DEVICE_ID, 5), (CHAIN_CFG_ROOT_ID, 9), (CHAIN_CTRL_EN, 1), (ZL_STATUS_UP_A 14, 1)])), (2), by decide⟩

theorem witness_ChainMembersMeasureFollowAndReport_5 : ∃ s : State, ∃ k : Fin 3, ∃ turn : BitVec 31, ∃ p : Packet, ∃ rest : List Packet, s.peerPk k p rest ∧ isProbe p = true ∧ s.groupUp (12 + k.val) 0 = true ∧ (s.lp k).asked = none ∧ s.chain.muted = false :=
  ⟨((withFlds [(CHAIN_CFG_DEVICE_ID, 5), (CHAIN_CFG_ROOT_ID, 9), (CHAIN_CTRL_EN, 1), (ZL_STATUS_UP_A 14, 1)]).setGrp 14 0 { rx := [⟨0x11, false, false, 0, [7 + 0xFFF * 2 ^ 12, 5, 0xFFFFFFFF]⟩] }), (2), (0x7FFFFFFE), (⟨0x11, false, false, 0, [7 + 0xFFF * 2 ^ 12, 5, 0xFFFFFFFF]⟩), ([]), by decide⟩

theorem witness_ChainMembersMeasureFollowAndReport_6 : ∃ s : State, ∃ k : Fin 3, ∃ rtt : Nat, ∃ p : Packet, ∃ rest : List Packet, ∃ rs : List Int, s.peerPk k p rest ∧ isReply p = true ∧ (s.member = false ∨ headSrc (nth 0 p.payload 0) ≠ s.deviceId) ∧ (s.lp k).asked ≠ none ∧ rtt ≤ 560000 ∧ rs = (((rtt : Int) - bitsAt (timeAcc p) 0 31) :: (s.lp k).results).take 16 :=
  ⟨({ (withFlds [(CHAIN_CFG_DEVICE_ID, 5), (CHAIN_CFG_ROOT_ID, 9), (CHAIN_CTRL_EN, 1)]).setGrp 14 0 { rx := [⟨0x11, false, false, 0, [7 + 5 * 2 ^ 12, 5, 2 ^ 31 + 100]⟩] } with chain := { ports := [(2, { asked := some 0, results := [50] })] } }), (2), (560000), (⟨0x11, false, false, 0, [7 + 5 * 2 ^ 12, 5, 2 ^ 31 + 100]⟩), ([]), ([559900, 50]), by decide⟩

theorem witness_ChainMembersMeasureFollowAndReport_7 : ∃ s : State, ∃ k : Fin 3, ∃ rtt : Nat, ∃ p : Packet, ∃ rest : List Packet, s.peerPk k p rest ∧ isReply p = true ∧ s.member = true ∧ headSrc (nth 0 p.payload 0) = s.deviceId :=
  ⟨((withFlds [(CHAIN_CFG_DEVICE_ID, 5), (CHAIN_CFG_ROOT_ID, 9), (CHAIN_CTRL_EN, 1)]).setGrp 14 0 { rx := [⟨0x11, false, false, 0, [5 + 5 * 2 ^ 12, 5, 2 ^ 31 + 100]⟩] }), (2), (560001), (⟨0x11, false, false, 0, [5 + 5 * 2 ^ 12, 5, 2 ^ 31 + 100]⟩), ([]), by decide⟩

theorem witness_ChainMembersMeasureFollowAndReport_8 : ∃ s : State, ∃ a : BitVec 32, ∃ b : BitVec 32, ∃ p : Packet, s.member = true ∧ s.isRoot = true ∧ s.chain.posAt ≤ s.now ∧ s.chain.muted = false ∧ (s.chain.posSent + 1) % 64 ≠ 0 ∧ p = { ty := pkPos, payload := [s.ownHead idAll, toBits 64 s.pos16, toBits 64 s.posVelocity, a.toNat] } :=
  ⟨((withFlds [(CHAIN_CFG_DEVICE_ID, 9), (CHAIN_CFG_ROOT_ID, 9), (CHAIN_CTRL_EN, 1), (CHAIN_CTRL_ROOT, 1), (ZL_STATUS_UP_A 12, 1), (ZL_STATUS_UP_A 14, 1)])), (7), (8), ({ ty := pkPos, payload := [((withFlds [(CHAIN_CFG_DEVICE_ID, 9), (CHAIN_CFG_ROOT_ID, 9), (CHAIN_CTRL_EN, 1), (CHAIN_CTRL_ROOT, 1), (ZL_STATUS_UP_A 12, 1), (ZL_STATUS_UP_A 14, 1)])).ownHead idAll, toBits 64 ((withFlds [(CHAIN_CFG_DEVICE_ID, 9), (CHAIN_CFG_ROOT_ID, 9), (CHAIN_CTRL_EN, 1), (CHAIN_CTRL_ROOT, 1), (ZL_STATUS_UP_A 12, 1), (ZL_STATUS_UP_A 14, 1)])).pos16, toBits 64 ((withFlds [(CHAIN_CFG_DEVICE_ID, 9), (CHAIN_CFG_ROOT_ID, 9), (CHAIN_CTRL_EN, 1), (CHAIN_CTRL_ROOT, 1), (ZL_STATUS_UP_A 12, 1), (ZL_STATUS_UP_A 14, 1)])).posVelocity, 7] }), by decide⟩

theorem witness_ChainMembersMeasureFollowAndReport_9 : ∃ s : State, ∃ k : Fin 3, ∃ r : Nat, ∃ phi : Fin 140, ∃ p : Packet, ∃ rest : List Packet, s.peerPk k p rest ∧ p.ty = pkPos ∧ s.member = false :=
  ⟨((withFlds [(CHAIN_CFG_DEVICE_ID, 5), (CHAIN_CFG_ROOT_ID, 9)]).setGrp 14 0 { rx := [⟨0x10, false, false, 0, [9 + 0xFFF * 2 ^ 12 + 3 * 2 ^ 24, 3 * 65536 + 5, 2 ^ 64 - 1000, 700]⟩] }), (2), (5), (139), (⟨0x10, false, false, 0, [9 + 0xFFF * 2 ^ 12 + 3 * 2 ^ 24, 3 * 65536 + 5, 2 ^ 64 - 1000, 700]⟩), ([]), by decide⟩

theorem witness_ChainMembersMeasureFollowAndReport_10 : ∃ s : State, ∃ k : Fin 3, ∃ r : Nat, ∃ phi : Fin 140, ∃ p : Packet, ∃ rest : List Packet, s.peerPk k p rest ∧ p.ty = pkPos ∧ s.member = true ∧ (s.isRoot = true ∨ headSrc (nth 0 p.payload 0) ≠ s.rd CHAIN_CFG_ROOT_ID) ∧ s.chain.conflicts = [] :=
  ⟨((withFlds [(CHAIN_CFG_DEVICE_ID, 9), (CHAIN_CFG_ROOT_ID, 9), (CHAIN_CTRL_EN, 1), (CHAIN_CTRL_ROOT, 1)]).setGrp 14 0 { rx := [⟨0x10, false, false, 0, [9 + 0xFFF * 2 ^ 12 + 3 * 2 ^ 24, 3 * 65536 + 5, 2 ^ 64 - 1000, 700]⟩] }), (2), (5), (139), (⟨0x10, false, false, 0, [9 + 0xFFF * 2 ^ 12 + 3 * 2 ^ 24, 3 * 65536 + 5, 2 ^ 64 - 1000, 700]⟩), ([]), by decide⟩

theorem witness_ChainMembersMeasureFollowAndReport_11 : ∃ s : State, ∃ k : Fin 3, ∃ r : Nat, ∃ phi : Fin 140, ∃ p : Packet, ∃ rest : List Packet, s.peerPk k p rest ∧ p.ty = pkPos ∧ s.below ∧ headSrc (nth 0 p.payload 0) = s.rd CHAIN_CFG_ROOT_ID :=
  ⟨((withFlds [(CHAIN_CFG_DEVICE_ID, 5), (CHAIN_CFG_ROOT_ID, 9), (CHAIN_CTRL_EN, 1), (CHAIN_LP_OW 2, 11)]).setGrp 14 0 { rx := [⟨0x10, false, false, 0, [9 + 0xFFF * 2 ^ 12 + 3 * 2 ^ 24, 3 * 65536 + 5, 2 ^ 64 - 1000, 700]⟩] }), (2), (5), (139), (⟨0x10, false, false, 0, [9 + 0xFFF * 2 ^ 12 + 3 * 2 ^ 24, 3 * 65536 + 5, 2 ^ 64 - 1000, 700]⟩), ([]), by decide⟩

theorem witness_ChainMembersMeasureFollowAndReport_12 : ∃ s : State, ∃ k : Fin 3, ∃ r : Nat, ∃ phi : Fin 140, ∃ p : Packet, ∃ rest : List Packet, ∃ d : Nat, ∃ x : Int, s.peerPk k p rest ∧ p.ty = pkPos ∧ s.below ∧ headSrc (nth 0 p.payload 0) = s.rd CHAIN_CFG_ROOT_ID ∧ s.parent = some k.val ∧ s.groupUp (12 + k.val) 0 = true ∧ s.chain.posLost = false ∧ ((∀ j ∈ List.range 3, j ≠ k.val → (s.lp j).pos = none)) ∧ s.rd TIMELINE_CTRL_MASTER_SRC = srcChainMaster ∧ s.on TIMELINE_CTRL_RUN = true ∧ d = bitsAt (nth 0 p.payload 3) 0 32 + s.rd (CHAIN_LP_OW k) ∧ x = signed 64 (nth 0 p.payload 1) * (2 : Int) ^ 24 + rneDiv (signed 64 (nth 0 p.payload 2) * ((d : Int) - phi.val)) 140 + s.rdS CHAIN_POS_OFFSET * (2 : Int) ^ 24 :=
  ⟨((withFlds [(CHAIN_CFG_DEVICE_ID, 5), (CHAIN_CFG_ROOT_ID, 9), (CHAIN_CTRL_EN, 1), (CHAIN_LP_OW 2, 11), (CHAIN_STATUS_PARENT, 2), (TIMELINE_CTRL_MASTER_SRC, 4), (TIMELINE_CTRL_RUN, 1), (ZL_STATUS_UP_A 14, 1)]).setGrp 14 0 { rx := [⟨0x10, false, false, 0, [9 + 0xFFF * 2 ^ 12 + 3 * 2 ^ 24, 3 * 65536 + 5, 2 ^ 64 - 1000, 700]⟩] }), (2), (5), (139), (⟨0x10, false, false, 0, [9 + 0xFFF * 2 ^ 12 + 3 * 2 ^ 24, 3 * 65536 + 5, 2 ^ 64 - 1000, 700]⟩), ([]), (711), ((3 * 65536 + 5) * (2 : Int) ^ 24 + rneDiv (-1000 * (711 - 139)) 140 + 0), by decide⟩

theorem witness_ChainMembersMeasureFollowAndReport_13 : ∃ s : State, ∃ k : Nat, s.chain.lastPos = some k ∧ s.below ∧ s.chain.posLost = false ∧ k + s.rd CHAIN_TIMING_POS_TIMEOUT * 400 ≤ s.now ∧ s.rd TIMELINE_CTRL_MASTER_SRC ≠ srcChainMaster :=
  ⟨({ (withFlds [(CHAIN_CFG_DEVICE_ID, 5), (CHAIN_CFG_ROOT_ID, 9), (CHAIN_CTRL_EN, 1), (CHAIN_TIMING_POS_TIMEOUT, 20)]) with tl := { tick := 8000 }, chain := { lastPos := some 0 } }), (0), by decide⟩

theorem witness_ChainMembersMeasureFollowAndReport_14 : ∃ s : State, s.below ∧ s.chain.hbAt ≤ s.now :=
  ⟨((withFlds [(CHAIN_CFG_DEVICE_ID, 5), (CHAIN_CFG_ROOT_ID, 9), (CHAIN_CTRL_EN, 1), (STITCH_XBASE, 77), (STITCH_LAYOUT_WIDTH, 500), (CHAIN_STATUS_PARENT, 2), (ZL_STATUS_UP_A 14, 1)])), by decide⟩

theorem witness_ChainMembersMeasureFollowAndReport_15 : ∃ s : State, ∃ k : Fin 3, ∃ p : Packet, ∃ rest : List Packet, ∃ src : Nat, s.peerPk k p rest ∧ isHeartbeat p = true ∧ s.member = true ∧ s.isRoot = true ∧ src = headSrc (nth 0 p.payload 0) ∧ src ≠ s.deviceId ∧ headDst (nth 0 p.payload 0) = s.deviceId ∧ s.chain.gone = [] :=
  ⟨((withFlds [(CHAIN_CFG_DEVICE_ID, 9), (CHAIN_CFG_ROOT_ID, 9), (CHAIN_CTRL_EN, 1), (CHAIN_CTRL_ROOT, 1)]).setGrp 14 0 { rx := [⟨0x11, false, false, 0, [7 + 9 * 2 ^ 12, 77 + 500 * 2 ^ 20, 0]⟩] }), (2), (⟨0x11, false, false, 0, [7 + 9 * 2 ^ 12, 77 + 500 * 2 ^ 20, 0]⟩), ([]), (7), by decide⟩

theorem witness_ChainMembersMeasureFollowAndReport_16 : ∃ s : State, s.chain.gone = [] ∧ (∀ m ∈ s.chain.members, s.now ≤ m.tick + s.rd CHAIN_HB_LIVE_TIMEOUT * 400) :=
  ⟨({ (withFlds [(CHAIN_CFG_DEVICE_ID, 9), (CHAIN_CFG_ROOT_ID, 9), (CHAIN_CTRL_EN, 1), (CHAIN_CTRL_ROOT, 1)]) with chain := { members := [⟨7, 2, 0, 1, 2⟩] } }), by decide⟩

theorem witness_ChainMembersMeasureFollowAndReport_17 : ∃ s : State, ∃ m : Member, s.isRoot = true ∧ s.chain.gone = [] ∧ s.chain.members = [m] ∧ m.id < 4096 ∧ m.tick + s.rd CHAIN_HB_LIVE_TIMEOUT * 400 < s.now ∧ (s.rd CHAIN_LOSS_MARGIN : Int) < 65535 :=
  ⟨({ (withFlds [(CHAIN_CFG_DEVICE_ID, 9), (CHAIN_CFG_ROOT_ID, 9), (CHAIN_CTRL_EN, 1), (CHAIN_CTRL_ROOT, 1), (CHAIN_HB_LIVE_TIMEOUT, 1000), (CHAIN_MEMBERS 127, 2 ^ 31), (CHAIN_LOSS_MARGIN, 65534)]) with tl := { tick := 400001 }, chain := { members := [⟨4095, 2, 0, 1, 2⟩] } }), (⟨4095, 2, 0, 1, 2⟩), by decide⟩

theorem witness_ChainMembersMeasureFollowAndReport_18 : ∃ s : State, ∃ k : Fin 3, ∃ r : Nat, ∃ p : Packet, ∃ rest : List Packet, s.peerPk k p rest ∧ isTime p = true ∧ s.below ∧ headSrc (nth 0 p.payload 0) = s.rd CHAIN_CFG_ROOT_ID :=
  ⟨({ (withFlds [(CHAIN_CFG_DEVICE_ID, 5), (CHAIN_CFG_ROOT_ID, 9), (CHAIN_CTRL_EN, 1), (CHAIN_LP_OW 2, 11)]).setGrp 14 0 { rx := [⟨0x11, false, false, 0, [9 + 0xFFF * 2 ^ 12, 1000, 140000]⟩] } with net := { ptpNs := 77 } }), (2), (0), (⟨0x11, false, false, 0, [9 + 0xFFF * 2 ^ 12, 1000, 140000]⟩), ([]), by decide⟩

theorem witness_ChainMembersMeasureFollowAndReport_19 : ∃ s : State, ∃ k : Fin 3, ∃ p : Packet, ∃ rest : List Packet, ∃ q : Fin 8, ∃ ws : List Nat, s.peerPk k p rest ∧ p.ty = pkCmd ∧ s.member = true ∧ s.forMe p ∧ q.val = bitsAt (nth 0 p.payload 1) 8 3 ∧ ws = p.payload.drop 2 ∧ ws.length = bitsAt (nth 0 p.payload 1) 0 7 ∧ 1 ≤ ws.length ∧ ws.length ≤ 64 ∧ s.permitted (reqLp k) clsJob true = true ∧ bitAt (s.rd CHAIN_CMD_EN) q = true ∧ s.qState q = qIdle ∧ flowIn 64 ws = false ∧ (s.scq q).wait = none :=
  ⟨((withFlds [(CHAIN_CFG_DEVICE_ID, 5), (CHAIN_CFG_ROOT_ID, 9), (CHAIN_CTRL_EN, 1), (CHAIN_CMD_EN, 0x80), (SCRIBE_Q_STATUS_STATE 7, 3)]).setGrp 14 0 { rx := [⟨0x15, false, false, 0, [9 + 5 * 2 ^ 12, 2 + 7 * 2 ^ 8, 0, 2 ^ 60]⟩] }), (2), (⟨0x15, false, false, 0, [9 + 5 * 2 ^ 12, 2 + 7 * 2 ^ 8, 0, 2 ^ 60]⟩), ([]), (7), ([0, 2 ^ 60]), by decide⟩

theorem witness_ChainMembersMeasureFollowAndReport_20 : ∃ s : State, ∃ k : Fin 3, ∃ p : Packet, ∃ rest : List Packet, ∃ ws : List Nat, s.peerPk k p rest ∧ p.ty = pkCmd ∧ s.member = true ∧ s.forMe p ∧ ws = p.payload.drop 2 ∧ ws.length = bitsAt (nth 0 p.payload 1) 0 7 ∧ 1 ≤ ws.length ∧ ws.length ≤ 64 ∧ s.permitted (reqLp k) clsJob true = true ∧ bitAt (s.rd CHAIN_CMD_EN) (bitsAt (nth 0 p.payload 1) 8 3) = false :=
  ⟨((withFlds [(CHAIN_CFG_DEVICE_ID, 5), (CHAIN_CFG_ROOT_ID, 9), (CHAIN_CTRL_EN, 1), (CHAIN_CMD_EN, 0x7F), (SCRIBE_Q_STATUS_STATE 7, 3)]).setGrp 14 0 { rx := [⟨0x15, false, false, 0, [9 + 5 * 2 ^ 12, 2 + 7 * 2 ^ 8, 0, 2 ^ 60]⟩] }), (2), (⟨0x15, false, false, 0, [9 + 5 * 2 ^ 12, 2 + 7 * 2 ^ 8, 0, 2 ^ 60]⟩), ([]), ([0, 2 ^ 60]), by decide⟩

theorem witness_ChainMembersMeasureFollowAndReport_21 : ∃ s : State, ∃ k : Fin 3, ∃ p : Packet, ∃ rest : List Packet, ∃ a : Nat, s.peerPk k p rest ∧ p.ty = pkSummary ∧ s.member = true ∧ s.forMe p ∧ s.on CHAIN_SUM_CFG_SUM_EN = true ∧ a = s.rd CHAIN_SUM_BASE + headSrc (nth 0 p.payload 0) * 4096 ∧ devSpace a = 1 ∧ p.payload.length = 513 ∧ devOff a + 4096 ≤ 2 ^ 42 ∧ s.permitted (reqLp k) clsMemory true = true :=
  ⟨({ (withFlds [(CHAIN_CFG_DEVICE_ID, 5), (CHAIN_CFG_ROOT_ID, 9), (CHAIN_CTRL_EN, 1), (CHAIN_SUM_CFG_SUM_EN, 1), (CHAIN_SUM_BASE, 2 ^ 42)]).setGrp 14 0 { rx := [⟨0x16, false, false, 0, (9 + 5 * 2 ^ 12) :: List.replicate 512 77⟩] } with sec := { perst := true } }), (2), (⟨0x16, false, false, 0, (9 + 5 * 2 ^ 12) :: List.replicate 512 77⟩), ([]), (2 ^ 42 + 9 * 4096), by decide⟩

theorem witness_ChainMembersMeasureFollowAndReport_22 : ∃ s : State, ∃ k : Fin 3, ∃ p : Packet, ∃ rest : List Packet, s.peerPk k p rest ∧ p.ty = pkSummary ∧ s.member = true ∧ s.forMe p ∧ s.on CHAIN_SUM_CFG_SUM_EN = false :=
  ⟨((withFlds [(CHAIN_CFG_DEVICE_ID, 5), (CHAIN_CFG_ROOT_ID, 9), (CHAIN_CTRL_EN, 1)]).setGrp 14 0 { rx := [⟨0x16, false, false, 0, (9 + 5 * 2 ^ 12) :: List.replicate 512 77⟩] }), (2), (⟨0x16, false, false, 0, (9 + 5 * 2 ^ 12) :: List.replicate 512 77⟩), ([]), by decide⟩

theorem witness_ModeChangesAreArmedDecidedAndApplied_1 : ∃ s : State, ∃ q : Fin 8, ∃ w : Nat, ∃ d : Nat, ∃ c : Int, s.cmdAt q w [d] ∧ cmdOp w = 0x08 ∧ c = signed 64 d ∧ legalArm s.mode (bitsAt w 0 4) = true ∧ s.member = false ∧ s.chain.arm = none ∧ s.rd CHAIN_GUARD * 65536 < c - s.pos16 ∧ s.schedUsed < 2046 ∧ bitAt (cmdFlags w) 0 = true :=
  ⟨(setFlds (withCmd 7 [8 * 2 ^ 56 + 2 ^ 48 + 7, 2 ^ 30]) [(TOP_MODE_MODE, 3), (CHAIN_GUARD, 100)]), (7), (8 * 2 ^ 56 + 2 ^ 48 + 7), (2 ^ 30), (2 ^ 30), by decide⟩

theorem witness_ModeChangesAreArmedDecidedAndApplied_2 : ∃ s : State, ∃ q : Fin 8, ∃ w : Nat, ∃ d : Nat, s.cmdAt q w [d] ∧ cmdOp w = 0x08 ∧ legalArm s.mode (bitsAt w 0 4) = false :=
  ⟨(setFlds (withCmd 7 [8 * 2 ^ 56 + 2 ^ 48 + 7, 2 ^ 30]) [(TOP_MODE_MODE, 2)]), (7), (8 * 2 ^ 56 + 2 ^ 48 + 7), (2 ^ 30), by decide⟩

theorem witness_ModeChangesAreArmedDecidedAndApplied_3 : ∃ s : State, ∃ q : Fin 8, ∃ w : Nat, ∃ k : Nat, s.cmdAt q w [] ∧ cmdOp w = 0x0A ∧ k = bitsAt w 0 4 ∧ legalMode s.mode k = true ∧ (k = 3 ∨ k = 4 ∨ k = 10) ∧ s.mode ≠ 11 :=
  ⟨(setFlds (withCmd 7 [10 * 2 ^ 56 + 4]) [(TOP_MODE_MODE, 3), (TOP_EPOCH, 9)]), (7), (10 * 2 ^ 56 + 4), (4), by decide⟩

theorem witness_ModeChangesAreArmedDecidedAndApplied_4 : ∃ s : State, ∃ q : Fin 8, ∃ w : Nat, s.cmdAt q w [] ∧ cmdOp w = 0x0A ∧ legalMode s.mode (bitsAt w 0 4) = false :=
  ⟨(setFlds (withCmd 7 [10 * 2 ^ 56 + 5]) [(TOP_MODE_MODE, 3), (TOP_EPOCH, 9)]), (7), (10 * 2 ^ 56 + 5), by decide⟩

theorem witness_ModeChangesAreArmedDecidedAndApplied_5 : ∃ s : State, ∃ k : Fin 3, ∃ p : Packet, ∃ rest : List Packet, ∃ c : Int, s.peerPk k p rest ∧ isMode 1 p = true ∧ s.below ∧ headSrc (nth 0 p.payload 0) = s.rd CHAIN_CFG_ROOT_ID ∧ s.forMe p ∧ c = signed 64 (nth 0 p.payload 2) ∧ s.schedUsed < 2048 :=
  ⟨((withFlds [(CHAIN_CFG_DEVICE_ID, 5), (CHAIN_CFG_ROOT_ID, 9), (CHAIN_CTRL_EN, 1)]).setGrp 14 0 { rx := [⟨0x14, false, false, 0, [9 + 5 * 2 ^ 12, 1 + 6 * 16 + 77 * 2 ^ 32, 2 ^ 64 - 65536]⟩] }), (2), (⟨0x14, false, false, 0, [9 + 5 * 2 ^ 12, 1 + 6 * 16 + 77 * 2 ^ 32, 2 ^ 64 - 65536]⟩), ([]), (-65536), by decide⟩

theorem witness_ModeChangesAreArmedDecidedAndApplied_6 : ∃ s : State, ∃ a : ModeArm, s.chain.arm = some a ∧ a.acked = false ∧ s.rd CHAIN_ARM_STATE = 1 ∧ legalArm s.mode a.target = true ∧ a.held = true ∧ s.pipesReady = true ∧ s.rootLike = true :=
  ⟨({ withFlds [(CHAIN_CFG_DEVICE_ID, 9), (CHAIN_CFG_ROOT_ID, 9), (CHAIN_CTRL_EN, 1), (CHAIN_CTRL_ROOT, 1), (CHAIN_ARM_STATE, 1), (TOP_MODE_MODE, 5)] with chain := { arm := some ⟨6, 77, -65536, [9], [], [], [], true, false, none, none⟩ } }), (⟨6, 77, -65536, [9], [], [], [], true, false, none, none⟩), by decide⟩

theorem witness_ModeChangesAreArmedDecidedAndApplied_7 : ∃ s : State, ∃ a : ModeArm, s.chain.arm = some a ∧ a.acked = false ∧ s.rd CHAIN_ARM_STATE = 1 ∧ legalArm s.mode a.target = true ∧ a.held = true ∧ s.pipesReady = true ∧ s.below :=
  ⟨({ withFlds [(CHAIN_CFG_DEVICE_ID, 5), (CHAIN_CFG_ROOT_ID, 9), (CHAIN_CTRL_EN, 1), (CHAIN_ARM_STATE, 1), (TOP_MODE_MODE, 5)] with chain := { arm := some ⟨6, 77, -65536, [9], [], [], [], true, false, none, none⟩ } }), (⟨6, 77, -65536, [9], [], [], [], true, false, none, none⟩), by decide⟩

theorem witness_ModeChangesAreArmedDecidedAndApplied_8 : ∃ s : State, ∃ a : ModeArm, s.chain.arm = some a ∧ legalArm s.mode a.target = false :=
  ⟨({ withFlds [(CHAIN_CFG_DEVICE_ID, 5), (CHAIN_CFG_ROOT_ID, 9), (CHAIN_CTRL_EN, 1), (CHAIN_ARM_STATE, 1), (TOP_MODE_MODE, 2)] with chain := { arm := some ⟨6, 77, -65536, [9], [], [], [], true, false, none, none⟩ } }), (⟨6, 77, -65536, [9], [], [], [], true, false, none, none⟩), by decide⟩

theorem witness_ModeChangesAreArmedDecidedAndApplied_9 : ∃ s : State, ∃ e : SchedEntry, ∃ a : ModeArm, firstDue s.now s.tl.sched = some e ∧ e.act = .modeDecision ∧ s.chain.arm = some a ∧ (∀ i ∈ a.members, i ∈ a.acks) :=
  ⟨({ withFlds [(CHAIN_CFG_DEVICE_ID, 9), (CHAIN_CFG_ROOT_ID, 9), (CHAIN_CTRL_EN, 1), (CHAIN_CTRL_ROOT, 1), (CHAIN_ARM_STATE, 1), (TOP_MODE_MODE, 5), (TIMELINE_CTRL_RUN, 1)] with chain := { arm := some ⟨6, 77, -65536, [9], [9], [], [], true, false, none, none⟩ }, tl := { tick := 17, sched := [⟨512, .modeDecision, some 9, false⟩, ⟨700, .modeChange, none, false⟩] } }), (⟨512, .modeDecision, some 9, false⟩), (⟨6, 77, -65536, [9], [9], [], [], true, false, none, none⟩), by decide⟩

theorem witness_ModeChangesAreArmedDecidedAndApplied_10 : ∃ s : State, ∃ e : SchedEntry, ∃ a : ModeArm, ∃ i : Nat, firstDue s.now s.tl.sched = some e ∧ e.act = .modeDecision ∧ s.chain.arm = some a ∧ a.members = [i] ∧ i ∉ a.acks ∧ i < 4095 ∧ s.member = false ∧ a.queue = none :=
  ⟨({ withFlds [(CHAIN_CFG_DEVICE_ID, 9), (CHAIN_ARM_STATE, 1), (TOP_MODE_MODE, 5), (TIMELINE_CTRL_RUN, 1)] with chain := { arm := some ⟨6, 77, -65536, [9], [], [], [], true, false, none, none⟩ }, tl := { tick := 17, sched := [⟨512, .modeDecision, some 9, false⟩, ⟨700, .modeChange, none, false⟩] } }), (⟨512, .modeDecision, some 9, false⟩), (⟨6, 77, -65536, [9], [], [], [], true, false, none, none⟩), (9), by decide⟩

theorem witness_ModeChangesAreArmedDecidedAndApplied_11 : ∃ s : State, ∃ e : SchedEntry, ∃ a : ModeArm, firstDue s.now s.tl.sched = some e ∧ e.act = .modeChange ∧ s.chain.arm = some a ∧ legalArm s.mode a.target = true ∧ a.target ≠ 7 ∧ s.pipesReady = true ∧ s.below ∧ a.epoch < 2 ^ 32 ∧ a.queue = none :=
  ⟨({ withFlds [(CHAIN_CFG_DEVICE_ID, 5), (CHAIN_CFG_ROOT_ID, 9), (CHAIN_CTRL_EN, 1), (CHAIN_ARM_STATE, 1), (TOP_MODE_MODE, 5), (TIMELINE_CTRL_RUN, 1)] with chain := { arm := some ⟨6, 77, -65536, [9], [], [], [], true, false, none, none⟩ }, tl := { tick := 17, sched := [⟨700, .modeChange, some 9, false⟩] } }), (⟨700, .modeChange, some 9, false⟩), (⟨6, 77, -65536, [9], [], [], [], true, false, none, none⟩), by decide⟩

theorem witness_ModeChangesAreArmedDecidedAndApplied_12 : ∃ s : State, ∃ k : Fin 3, ∃ p : Packet, ∃ rest : List Packet, ∃ a : ModeArm, s.peerPk k p rest ∧ isMode 2 p = true ∧ s.member = true ∧ s.isRoot = true ∧ s.forMe p ∧ s.chain.arm = some a ∧ a.epoch = modeEpoch p ∧ s.rd CHAIN_ARM_STATE = 1 :=
  ⟨({ (withFlds [(CHAIN_CFG_DEVICE_ID, 9), (CHAIN_CFG_ROOT_ID, 9), (CHAIN_CTRL_EN, 1), (CHAIN_CTRL_ROOT, 1), (CHAIN_ARM_STATE, 1), (TOP_MODE_MODE, 5)]).setGrp 14 0 { rx := [⟨0x14, false, false, 0, [5 + 9 * 2 ^ 12, 2 + 6 * 16 + 77 * 2 ^ 32, 2 ^ 64 - 65536]⟩] } with chain := { arm := some ⟨6, 77, -65536, [9], [], [], [], true, false, none, none⟩ } }), (2), (⟨0x14, false, false, 0, [5 + 9 * 2 ^ 12, 2 + 6 * 16 + 77 * 2 ^ 32, 2 ^ 64 - 65536]⟩), ([]), (⟨6, 77, -65536, [9], [], [], [], true, false, none, none⟩), by decide⟩

theorem witness_ModeChangesAreArmedDecidedAndApplied_13 : ∃ s : State, ∃ k : Fin 3, ∃ p : Packet, ∃ rest : List Packet, ∃ a : ModeArm, s.peerPk k p rest ∧ isMode 3 p = true ∧ s.below ∧ headSrc (nth 0 p.payload 0) = s.rd CHAIN_CFG_ROOT_ID ∧ s.forMe p ∧ s.chain.arm = some a ∧ a.epoch = modeEpoch p ∧ a.queue = none :=
  ⟨({ (withFlds [(CHAIN_CFG_DEVICE_ID, 5), (CHAIN_CFG_ROOT_ID, 9), (CHAIN_CTRL_EN, 1), (CHAIN_ARM_STATE, 1), (TOP_MODE_MODE, 5)]).setGrp 14 0 { rx := [⟨0x14, false, false, 0, [9 + 5 * 2 ^ 12, 3 + 6 * 16 + 77 * 2 ^ 32, 2 ^ 64 - 65536]⟩] } with chain := { arm := some ⟨6, 77, -65536, [9], [], [], [], true, false, none, none⟩ }, tl := { sched := [⟨700, .modeChange, none, false⟩] } }), (2), (⟨0x14, false, false, 0, [9 + 5 * 2 ^ 12, 3 + 6 * 16 + 77 * 2 ^ 32, 2 ^ 64 - 65536]⟩), ([]), (⟨6, 77, -65536, [9], [], [], [], true, false, none, none⟩), by decide⟩

theorem witness_ModeChangesAreArmedDecidedAndApplied_14 : ∃ s : State, ∃ k : Fin 3, ∃ p : Packet, ∃ rest : List Packet, s.peerPk k p rest ∧ isMode 3 p = true ∧ s.below ∧ headSrc (nth 0 p.payload 0) = s.rd CHAIN_CFG_ROOT_ID ∧ s.forMe p ∧ s.chain.arm = none ∧ s.rd CHAIN_ARM_STATE = 4 :=
  ⟨((withFlds [(CHAIN_CFG_DEVICE_ID, 5), (CHAIN_CFG_ROOT_ID, 9), (CHAIN_CTRL_EN, 1), (CHAIN_ARM_STATE, 4)]).setGrp 14 0 { rx := [⟨0x14, false, false, 0, [9 + 5 * 2 ^ 12, 3 + 6 * 16 + 77 * 2 ^ 32, 2 ^ 64 - 65536]⟩] }), (2), (⟨0x14, false, false, 0, [9 + 5 * 2 ^ 12, 3 + 6 * 16 + 77 * 2 ^ 32, 2 ^ 64 - 65536]⟩), ([]), by decide⟩

theorem witness_ModeChangesAreArmedDecidedAndApplied_15 : ∃ s : State, ∃ k : Fin 3, ∃ p : Packet, ∃ rest : List Packet, ∃ a : ModeArm, ∃ n : Nat, s.peerPk k p rest ∧ isMode 4 p = true ∧ s.member = true ∧ s.isRoot = true ∧ s.forMe p ∧ s.chain.arm = some a ∧ a.epoch = modeEpoch p ∧ a.appliedAt = some n ∧ a.split = [] ∧ ((∀ i ∈ a.members, i = headSrc (nth 0 p.payload 0) ∨ i ∈ a.applied)) :=
  ⟨({ (withFlds [(CHAIN_CFG_DEVICE_ID, 9), (CHAIN_CFG_ROOT_ID, 9), (CHAIN_CTRL_EN, 1), (CHAIN_CTRL_ROOT, 1), (CHAIN_ARM_STATE, 1), (TOP_MODE_MODE, 5)]).setGrp 14 0 { rx := [⟨0x14, false, false, 0, [5 + 9 * 2 ^ 12, 4 + 6 * 16 + 77 * 2 ^ 32, 2 ^ 64 - 65536]⟩] } with chain := { arm := some ⟨6, 77, -65536, [9, 5], [], [9], [], true, false, some 3, none⟩ } }), (2), (⟨0x14, false, false, 0, [5 + 9 * 2 ^ 12, 4 + 6 * 16 + 77 * 2 ^ 32, 2 ^ 64 - 65536]⟩), ([]), (⟨6, 77, -65536, [9, 5], [], [9], [], true, false, some 3, none⟩), (3), by decide⟩

theorem witness_ModeChangesAreArmedDecidedAndApplied_16 : ∃ s : State, ∃ k : Fin 3, ∃ p : Packet, ∃ rest : List Packet, ∃ a : ModeArm, ∃ n : Nat, s.peerPk k p rest ∧ isMode 5 p = true ∧ s.member = true ∧ s.isRoot = true ∧ s.forMe p ∧ s.chain.arm = some a ∧ a.epoch = modeEpoch p ∧ a.appliedAt = some n ∧ ((∀ i ∈ a.members, i ∈ a.applied ∨ i = headSrc (nth 0 p.payload 0) ∨ i ∈ a.split)) :=
  ⟨({ (withFlds [(CHAIN_CFG_DEVICE_ID, 9), (CHAIN_CFG_ROOT_ID, 9), (CHAIN_CTRL_EN, 1), (CHAIN_CTRL_ROOT, 1), (CHAIN_ARM_STATE, 1), (TOP_MODE_MODE, 5)]).setGrp 14 0 { rx := [⟨0x14, false, false, 0, [5 + 9 * 2 ^ 12, 5 + 6 * 16 + 77 * 2 ^ 32, 2 ^ 64 - 65536]⟩] } with chain := { arm := some ⟨6, 77, -65536, [9, 5], [], [9], [], true, false, some 3, none⟩ } }), (2), (⟨0x14, false, false, 0, [5 + 9 * 2 ^ 12, 5 + 6 * 16 + 77 * 2 ^ 32, 2 ^ 64 - 65536]⟩), ([]), (⟨6, 77, -65536, [9, 5], [], [9], [], true, false, some 3, none⟩), (3), by decide⟩

theorem witness_ModeChangesAreArmedDecidedAndApplied_17 : ∃ s : State, ∃ a : ModeArm, ∃ n : Nat, ∃ i : Nat, s.chain.arm = some a ∧ a.appliedAt = some n ∧ n + 400000 ≤ s.now ∧ a.members = [i] ∧ i ∉ a.applied ∧ i ∉ a.split ∧ s.chain.members = [] ∧ a.split = [] :=
  ⟨({ withFlds [(CHAIN_CFG_DEVICE_ID, 9), (CHAIN_CFG_ROOT_ID, 9), (CHAIN_CTRL_EN, 1), (CHAIN_CTRL_ROOT, 1), (CHAIN_ARM_STATE, 1), (TOP_MODE_MODE, 5)] with chain := { arm := some ⟨6, 77, -65536, [9], [], [], [], true, false, some 3, none⟩ }, tl := { tick := 400003 } }), (⟨6, 77, -65536, [9], [], [], [], true, false, some 3, none⟩), (3), (9), by decide⟩

end Sys2Proof.Tests
end

