-- ==== Sys2Proof/Tests/WitnessPixels.lean ====
section
/-! SUPPORT. For each clause of the camera, stitching, fine, master and scaler statements, a concrete state and operands that meet its
hypotheses together. -/

namespace Sys2Proof.Tests

open Sys2Proof Sys2Proof.Machine

set_option linter.unusedVariables false
set_option maxRecDepth 100000
set_option exponentiation.threshold 400

theorem witness_PacketsAreCheckedDeliveredAndTimedOut_1 : ∃ s : State, ∃ n : Fin 15, ∃ g : Fin 2, ∃ header : BitVec 64, ∃ payload : List (BitVec 64), ∃ trailer : BitVec 64, n.val < 12 ∧ s.groupUp n g = true ∧ (s.grp n g).resync = false ∧ blockCheck header.toNat = bitsAt header.toNat 56 8 ∧ typeLegal n (bitsAt header.toNat 0 8) = true ∧ bitsAt header.toNat 16 16 = payload.length % 65536 ∧ lenLegal (bitsAt header.toNat 0 8) (payload.map (·.toNat)) = true ∧ packetCrc header.toNat (payload.map (·.toNat)) = bitsAt trailer.toNat 0 32 ∧ ((∀ q, (s.grp n g).rxSeq = some q → (q + 1) % 65536 = bitsAt header.toNat 32 16)) :=
  ⟨(withFlds [(ZL_CTRL_EN 3, 1), (ZL_STATUS_UP_B 3, 1)]), (3), (1), (BitVec.ofNat 64 ({ ty := 4, seq := 9, payload := [77] } : Packet).header), ([77]), (BitVec.ofNat 64 ({ ty := 4, seq := 9, payload := [77] } : Packet).trailer), by decide, by decide, by decide, by decide, by decide, by decide, by decide, by decide, noneAll (by decide)⟩

theorem witness_PacketsAreCheckedDeliveredAndTimedOut_2 : ∃ s : State, ∃ n : Fin 15, ∃ header : BitVec 64, ∃ payload : List (BitVec 64), ∃ trailer : BitVec 64, 12 ≤ n.val ∧ s.groupUp n 0 = true ∧ (s.grp n 0).resync = false ∧ blockCheck header.toNat = bitsAt header.toNat 56 8 ∧ typeLegal n (bitsAt header.toNat 0 8) = true ∧ phaseLegal (bitsAt header.toNat 0 8) (payload.map (·.toNat)) = true ∧ bitsAt header.toNat 16 16 = payload.length % 65536 ∧ lenLegal (bitsAt header.toNat 0 8) (payload.map (·.toNat)) = true ∧ packetCrc header.toNat (payload.map (·.toNat)) = bitsAt trailer.toNat 0 32 ∧ bitAt header.toNat 8 = true ∧ bitsAt header.toNat 32 16 = (s.port n).expect :=
  ⟨(withFlds [(ZL_CTRL_EN 14, 1), (ZL_STATUS_UP_A 14, 1)]), (14), (BitVec.ofNat 64 ({ ty := 0x11, seq := 0, replay := true, payload := [1, 2, 3] } : Packet).header), ([1, 2, 3]), (BitVec.ofNat 64 ({ ty := 0x11, seq := 0, replay := true, payload := [1, 2, 3] } : Packet).trailer), by decide⟩

theorem witness_PacketsAreCheckedDeliveredAndTimedOut_3 : ∃ s : State, ∃ n : Fin 15, ∃ g : Fin 2, ∃ header : BitVec 64, ∃ payload : List (BitVec 64), ∃ trailer : BitVec 64, n.val < 12 ∧ s.groupUp n g = true ∧ (s.grp n g).resync = false ∧ s.ctxOf n g = none ∧ blockCheck header.toNat ≠ bitsAt header.toNat 56 8 :=
  ⟨(withFlds [(ZL_CTRL_EN 3, 1), (ZL_STATUS_UP_A 3, 1)]), (3), (0), (1), ([]), (0), by decide⟩

theorem witness_PacketsAreCheckedDeliveredAndTimedOut_4 : ∃ s : State, ∃ n : Fin 12, ∃ g : Fin 2, ∃ c : CtrlOut, ∃ rest : List CtrlOut, (s.grp n g).ctrl = c :: rest ∧ s.rd (ZL_TIMEOUTS_CTRL_TIMEOUT n) ≠ 0 ∧ c.since + s.rd (ZL_TIMEOUTS_CTRL_TIMEOUT n) * 100 * 400 ≤ s.now :=
  ⟨({ withFlds [(ZL_TIMEOUTS_CTRL_TIMEOUT 3, 1), (PIPE_CTRL_EN 3, 1), (PIPE_CTRL_PORT 3, 3)] with tl := { tick := 1000000 }, zl := [(3, { groups := [(0, { ctrl := [⟨5, 6, 0⟩] })] })], pctx := [(6, { mbox := some (5, 6) })] }), (3), (0), (⟨5, 6, 0⟩), ([]), by decide⟩

theorem witness_PacketsAreCheckedDeliveredAndTimedOut_5 : ∃ s : State, ∃ n : Fin 15, ∃ e : ReplayEntry, ∃ rest : List ReplayEntry, (s.port n).replay = e :: rest ∧ s.on (ZL_CTRL_REPLAY_EN n) = true ∧ (s.port n).ackAt + s.rd (ZL_TIMEOUTS_REPLAY_TIMEOUT n) * 400 ≤ s.now ∧ (∀ q ∈ (s.port n).replay, q.sends < 4) :=
  ⟨({ withFlds [(ZL_CTRL_REPLAY_EN 14, 1)] with tl := { tick := 1000000000 }, zl := [(14, { replay := [⟨{ ty := 0x12, seq := 65535 }, 0⟩, ⟨{ ty := 0x12, seq := 0 }, 3⟩] })] }), (14), (⟨{ ty := 0x12, seq := 65535 }, 0⟩), ([⟨{ ty := 0x12, seq := 0 }, 3⟩]), by decide⟩

theorem witness_PacketsAreCheckedDeliveredAndTimedOut_6 : ∃ s : State, ∃ n : Fin 12, ∃ g : Fin 2, ∃ phase : Fin 140, ∃ p : Nat, ∃ x : Nat, ∃ o : OwedLine, ∃ d : Int, s.ctxOf n g = some (p, x) ∧ (s.px p x).owed.find? (·.launched.isNone) = some o ∧ s.groupUp n g = true ∧ d = (s.rd (ZL_GRP_TARGET n g) : Int) - (((s.now : Int) - o.tref) * 140 + phase.val) - (s.grp n g).ow.getD 0 - s.rd (ZL_GRP_CAM_LATENCY n g) ∧ 0 ≤ d :=
  ⟨({ withFlds [(ZL_STATUS_UP_A 3, 1), (ZL_GRP_TARGET 3 0, 5000), (PIPE_CTRL_EN 3, 1), (PIPE_CTRL_PORT 3, 3)] with pctx := [(6, { owed := [⟨8, none, 2, 0, none⟩] })] }), (3), (0), (9), (3), (0), (⟨8, none, 2, 0, none⟩), (4991 - (withFlds []).rd (ZL_GRP_CAM_LATENCY 3 0)), by decide⟩

theorem witness_CameraPacketsReachTheirContext_1 : ∃ s : State, ∃ n : Fin 12, ∃ g : Fin 2, ∃ clk : Nat, ∃ p : Nat, ∃ x : Nat, ∃ pk : Packet, ∃ rest : List Packet, ∃ l : Int, ∃ u : SettingsSet, ∃ b0 : Nat, ∃ b1 : Nat, (s.grp n g).rx = pk :: rest ∧ pk.ty = 0x01 ∧ s.ctxOf n g = some (p, x) ∧ s.unserved p = false ∧ s.sparing p = false ∧ b0 = nth 0 pk.payload 0 ∧ b1 = nth 0 pk.payload 1 ∧ l = signed 48 b0 ∧ s.rdS (PIPE_CTX_LAST_LINE p x) < l ∧ (s.px p x).fifo = [] ∧ (s.pipe p).work = [] ∧ (s.px p x).asm = none ∧ (s.px p x).run = none ∧ (∀ o ∈ (s.px p x).owed, l ≤ o.line) ∧ (s.px p x).commit.setFor l = some u ∧ bitsAt b1 32 2 = u.rd (PIPE_CTX_CFG_DEPTH p x) ∧ bitsAt b1 0 16 = 0 ∧ bitsAt b1 16 16 = u.rd (PIPE_CTX_CFG_PIXELS p x) ∧ bitsAt b0 52 1 = 0 ∧ u.rd (PIPE_CTX_CFG_HDR p x) = 0 ∧ bitsAt b0 48 4 = u.rd (PIPE_CTX_EXPOSURE p x) :=
  ⟨({ withFlds [(PIPE_CTRL_EN 3, 1), (PIPE_CTRL_PORT 3, 3), (PIPE_STATUS_STATE 3, 1)] with zl := [(3, { groups := [(0, { rx := [{ ty := 1, payload := [9, 2 ^ 16, 0xABCDEF] }] })] })], pctx := [(6, { owed := [⟨9, some 0, 0, 0, some 0⟩, ⟨10, some 0, 0, 0, some 0⟩], commit := { active := some { words := (withFlds [(PIPE_CTX_CFG_PIXELS 3 0, 1), (PIPE_CTX_CFG_DEPTH 3 0, 0), (PIPE_CTX_CFG_HDR 3 0, 0), (PIPE_CTX_EXPOSURE 3 0, 0)]).regs, image := [], start := 0, commits := 1 } } })] }), (3), (0), (5), (3), (0), ({ ty := 1, payload := [9, 2 ^ 16, 0xABCDEF] }), ([]), (9), ({ words := (withFlds [(PIPE_CTX_CFG_PIXELS 3 0, 1), (PIPE_CTX_CFG_DEPTH 3 0, 0), (PIPE_CTX_CFG_HDR 3 0, 0), (PIPE_CTX_EXPOSURE 3 0, 0)]).regs, image := [], start := 0, commits := 1 }), (9), (2 ^ 16), by decide⟩

theorem witness_CameraPacketsReachTheirContext_2 : ∃ s : State, ∃ p : Fin 13, ∃ x : Fin 2, ∃ o : OwedLine, ∃ rest : List OwedLine, ∃ t0 : Nat, (s.px p x).owed = o :: rest ∧ o.launched = some t0 ∧ s.rd (PIPE_CTX_LINE_TIMEOUT p x) ≠ 0 ∧ t0 + s.rd (PIPE_CTX_LINE_TIMEOUT p x) * 400 ≤ s.now ∧ (s.px p x).asm = none ∧ (s.px p x).run = none ∧ (s.px p x).stats = [] ∧ s.tl.frames = [] :=
  ⟨({ withFlds [(PIPE_CTX_LINE_TIMEOUT 12 1, 1)] with tl := { tick := 1000000 }, pctx := [(25, { owed := [⟨9, some 0, 0, 0, some 0⟩, ⟨10, some 0, 0, 0, some 0⟩] })] }), (12), (1), (⟨9, some 0, 0, 0, some 0⟩), ([⟨10, some 0, 0, 0, some 0⟩]), (0), by decide⟩

theorem witness_CameraPacketsReachTheirContext_3 : ∃ s : State, ∃ n : Fin 12, ∃ g : Fin 2, ∃ p : Nat, ∃ x : Nat, ∃ pk : Packet, ∃ rest : List Packet, ∃ b : Nat, (s.grp n g).rx = pk :: rest ∧ pk.ty = 0x04 ∧ b = nth 0 pk.payload 0 ∧ bitsAt b 0 16 < 0x8000 ∧ bitsAt b 0 16 ≠ 1 ∧ s.ctxOf n g = some (p, x) ∧ (s.px p x).mbox = some (bitsAt b 0 16, bitsAt b 16 16) :=
  ⟨({ withFlds [(PIPE_CTRL_EN 3, 1), (PIPE_CTRL_PORT 3, 3)] with zl := [(3, { groups := [(0, { rx := [{ ty := 4, payload := [0x0700090005, 55] }] })] })], pctx := [(6, { mbox := some (5, 9) })] }), (3), (0), (3), (0), ({ ty := 4, payload := [0x0700090005, 55] }), ([]), (0x0700090005), by decide⟩

theorem witness_CameraPacketsReachTheirContext_4 : ∃ s : State, ∃ n : Fin 12, ∃ g : Fin 2, ∃ p : Nat, ∃ x : Nat, ∃ pk : Packet, ∃ rest : List Packet, (s.grp n g).rx = pk :: rest ∧ pk.ty = 0x04 ∧ statOp pk = 0x8001 ∧ s.ctxOf n g = some (p, x) ∧ s.unserved p = false ∧ (s.px p x).owed.find? (fun o => o.seq == some (bitsAt (nth 0 pk.payload 1) 0 32 % 65536)) = none :=
  ⟨({ withFlds [(PIPE_CTRL_EN 3, 1), (PIPE_CTRL_PORT 3, 3)] with zl := [(3, { groups := [(0, { rx := [{ ty := 4, payload := [0x8001, 55] }] })] })] }), (3), (0), (3), (0), ({ ty := 4, payload := [0x8001, 55] }), ([]), by decide⟩

theorem witness_CameraPacketsReachTheirContext_5 : ∃ s : State, ∃ n : Fin 12, ∃ g : Fin 2, ∃ p : Nat, ∃ x : Nat, ∃ pk : Packet, ∃ rest : List Packet, ∃ o : OwedLine, (s.grp n g).rx = pk :: rest ∧ pk.ty = 0x04 ∧ statOp pk = 0x8001 ∧ s.ctxOf n g = some (p, x) ∧ s.unserved p = false ∧ (s.px p x).owed.find? (fun o => o.seq == some (bitsAt (nth 0 pk.payload 1) 0 32 % 65536)) = some o :=
  ⟨({ withFlds [(PIPE_CTRL_EN 3, 1), (PIPE_CTRL_PORT 3, 3)] with zl := [(3, { groups := [(0, { rx := [{ ty := 4, payload := [0x8001, 55] }] })] })], pctx := [(6, { owed := [⟨9, some 55, 0, 0, some 0⟩, ⟨10, some 56, 0, 0, some 0⟩] })] }), (3), (0), (3), (0), ({ ty := 4, payload := [0x8001, 55] }), ([]), (⟨9, some 55, 0, 0, some 0⟩), by decide⟩

theorem witness_CameraPacketsReachTheirContext_6 : ∃ s : State, ∃ n : Fin 12, ∃ g : Fin 2, ∃ p : Nat, ∃ x : Nat, ∃ pk : Packet, ∃ rest : List Packet, (s.grp n g).rx = pk :: rest ∧ pk.ty = 0x04 ∧ statOp pk = 0x8002 ∧ s.ctxOf n g = some (p, x) ∧ s.unserved p = false :=
  ⟨({ withFlds [(PIPE_CTRL_EN 3, 1), (PIPE_CTRL_PORT 3, 3)] with zl := [(3, { groups := [(0, { rx := [{ ty := 4, payload := [0x8002, 55] }] })] })] }), (3), (0), (3), (0), ({ ty := 4, payload := [0x8002, 55] }), ([]), by decide⟩

theorem witness_CameraPacketsReachTheirContext_7 : ∃ s : State, ∃ p : Fin 13, ∃ x : Fin 2, s.on (PIPE_CTX_MBOX_CTRL_BUSY p x) = false ∧ s.rd (PIPE_CTX_MBOX_CTRL_BLOCKS p x) ≤ 8 ∧ s.rd (PIPE_CTX_MBOX_CMD_TAG p x) < 0xF000 ∧ s.rd (PIPE_CTRL_PORT p) < 12 :=
  ⟨(withFlds [(PIPE_CTRL_EN 3, 1), (PIPE_CTRL_PORT 3, 3), (PIPE_CTX_MBOX_CTRL_BLOCKS 3 1, 8), (PIPE_CTX_MBOX_CMD_TAG 3 1, 7)]), (3), (1), by decide⟩

theorem witness_PipeCommandsServeCommitAndSpare_1 : ∃ s : State, ∃ p : Fin 13, ∃ en : Bool, ∃ port : Fin 16, p.val ≠ 12 ∧ (port.val < 12 ∨ port.val = 15) ∧ ((∀ q ∈ List.range 13, q ≠ p.val → s.on (PIPE_CTRL_EN q) = true → s.rd (PIPE_CTRL_PORT q) ≠ port.val)) ∧ s.rd (PIPE_STATUS_STATE p) ≠ pipeFailed ∧ s.mode ≠ 7 ∧ s.mode ≠ 8 :=
  ⟨(State.reset), (3), (true), (11), by decide⟩

theorem witness_PipeCommandsServeCommitAndSpare_5 : ∃ s : State, ∃ u : State, ∃ p : Fin 13, ∃ x : Fin 2, ∃ t0 : Nat, ∃ base : Nat, ∃ m : Sparse Nat, (s.px p x).commit.fetch = some (t0, base) ∧ s.fetchTable base (s.rd (PIPE_CTX_CFG_PIXELS p x)) = (.ok m, u) :=
  ⟨({ withFlds [(DRAMC_SIZE, 2 ^ 34)] with pctx := [(6, { commit := { pend := [⟨5⟩], fetch := some (5, 0) } })] }), ((withFlds [(DRAMC_SIZE, 2 ^ 34)] |> (fun s => { s with pctx := [(6, { commit := { pend := [⟨5⟩], fetch := some (5, 0) } })] } |> (fun s => (s.fetchTable 0 0).2)))), (3), (0), (5), (0), ([]), by decide, rfl⟩

theorem witness_PipeCommandsServeCommitAndSpare_6 : ∃ s : State, ∃ p : Fin 13, ∃ clk : Nat, ∃ x : Nat, ∃ a : ArrLine, ∃ u : SettingsSet, (s.pipe p).freeAt ≤ clk ∧ s.pickCtx p clk = some (x, a) ∧ (s.px p x).commit.setFor a.line = some u :=
  ⟨({ withFlds [] with pctx := [(6, { fifo := [⟨9, [1, 2, 3], [], 4⟩], commit := { active := some { words := [], image := [], start := 0, commits := 1 } } })] }), (3), (20), (0), (⟨9, [1, 2, 3], [], 4⟩), ({ words := [], image := [], start := 0, commits := 1 }), by decide⟩

theorem witness_PipeCommandsServeCommitAndSpare_7 : ∃ s : State, ∃ p : Fin 13, ∃ clk : Nat, ∃ w : WorkLine, ∃ rest : List WorkLine, (s.pipe p).work = w :: rest ∧ w.clk + 96 + (w.pixels.length + 7) / 8 ≤ clk + 1 :=
  ⟨({ withFlds [] with pipes := [(3, { work := [⟨0, 9, 4, [(1, 2, 3)], [], []⟩] })] }), (3), (200), (⟨0, 9, 4, [(1, 2, 3)], [], []⟩), ([]), by decide⟩

theorem witness_PipeCommandsServeCommitAndSpare_9 : ∃ s : State, ∃ p : Fin 13, ∃ bank : Fin 3, ∃ off : Nat, s.rd (PIPE_STATUS_STATE p) ≠ pipeServing :=
  ⟨(State.reset), (3), (2), (5), by decide⟩

theorem witness_PipeCommandsServeCommitAndSpare_10 : ∃ s : State, ∃ p : Fin 12, ∃ t0 : Nat, (s.pipe p).failedAt = some t0 ∧ s.mode ≠ 7 ∧ s.mode ≠ 8 ∧ (∀ x ∈ List.range 2, (s.px p x).commit.active = none ∧ (s.px p x).commit.previous = none) :=
  ⟨({ withFlds [(PIPE_CTRL_PORT 3, 7), (PIPE_STATUS_STATE 3, 3)] with pipes := [(3, { failedAt := some 0 })] }), (3), (0), by decide⟩

theorem witness_PipeCommandsServeCommitAndSpare_11 : ∃ s : State, ∃ pass : Bool, s.rd (PIPE_STATUS_STATE 12) = pipeSpareReady :=
  ⟨(withFlds [(PIPE_STATUS_STATE 12, pipeSpareReady)]), (false), by decide⟩

theorem witness_PipeCommandsServeCommitAndSpare_12 : ∃ s : State, ∃ q : Fin 12, ∃ pass : Bool, s.rd (QUILL_STATUS_SPARE_SLOT q) < 17 :=
  ⟨(withFlds [(QUILL_STATUS_SPARE_SLOT 11, 16)]), (11), (false), by decide⟩

theorem witness_StitcherFormsAndAccountsForLines_1 : ∃ s : State, s.on STITCH_CTRL_EN = false ∧ s.layoutCheck = none :=
  ⟨(withFlds [(STITCH_LAYOUT_WIDTH, 8), (STITCH_CAM_CTRL 3, 1), (STITCH_CAM_SPAN_FIRST 3, 0), (STITCH_CAM_SPAN_LAST 3, 7)]), by decide⟩

theorem witness_StitcherFormsAndAccountsForLines_2 : ∃ s : State, ∃ n : Nat, ∃ k : Nat, s.on STITCH_CTRL_EN = false ∧ s.layoutCheck = some (n, k) ∧ n < 8 ∧ k < 24 :=
  ⟨(withFlds [(STITCH_LAYOUT_WIDTH, 8), (STITCH_CAM_CTRL 3, 1), (STITCH_CAM_SPAN_FIRST 3, 0), (STITCH_CAM_SPAN_LAST 3, 8)]), (3), (3), by decide⟩

theorem witness_StitcherFormsAndAccountsForLines_4 : ∃ s : State, ∃ clk : Nat, ∃ n : Int, ∃ u : SettingsSet, s.on STITCH_CTRL_EN = true ∧ s.stitch.commit.active.isSome = true ∧ s.stitch.freeAt ≤ clk ∧ s.stitch.started = some (n - 1) ∧ s.cams.all (fun k => s.camAccounted k (n + 24)) = true ∧ s.stitch.commit.setFor n = some u :=
  ⟨({ withFlds [(STITCH_CTRL_EN, 1), (STITCH_LAYOUT_WIDTH, 8), (STITCH_CAM_CTRL 6, 1), (STITCH_CAM_SPAN_LAST 6, 7), (PIPE_CTRL_EN 3, 1), (PIPE_CTRL_PORT 3, 3), (PIPE_CTX_LAST_LINE 3 0, 33)] with stitch := { started := some 8, commit := { active := some { words := [], image := [], start := 0, commits := 1 } } } }), (9), (9), ({ words := [], image := [], start := 0, commits := 1 }), by decide⟩

theorem witness_StitcherFormsAndAccountsForLines_5 : ∃ s : State, ∃ clk : Nat, ∃ t0 : Nat, ∃ f : FineLine, ∃ rest : List (Nat × FineLine), s.stitch.work = (t0, f) :: rest ∧ t0 + 160 + (f.pixels.length + 47) / 48 ≤ clk + 1 :=
  ⟨({ withFlds [] with stitch := { work := [(5, ⟨7, 0, 0, false, false, 0, [none, none, none, none]⟩)] } }), (165), (5), (⟨7, 0, 0, false, false, 0, [none, none, none, none]⟩), ([]), by decide⟩

theorem witness_StitcherFormsAndAccountsForLines_6 : ∃ s : State, ∃ clk : Nat, ∃ t0 : Nat, ∃ c : FineLine, ∃ rest : List (Nat × FineLine), s.stitch.coarseOut = (t0, c) :: rest ∧ t0 ≤ clk :=
  ⟨({ withFlds [] with stitch := { coarseOut := [(5, ⟨7, 0, 0, false, false, 0, [none]⟩)] } }), (5), (5), (⟨7, 0, 0, false, false, 0, [none]⟩), ([]), by decide⟩

theorem witness_StitcherFormsAndAccountsForLines_7 : ∃ s : State, ∃ u : Int, s.forming = false ∧ s.stitch.unformed = some u ∧ u < ceilDiv s.tl.pos ((2 : Int) ^ 40) - 26 :=
  ⟨({ withFlds [] with tl := { pos := 2 ^ 40 * 100 }, stitch := { unformed := some 70 } }), (70), by decide⟩

theorem witness_StitcherFormsAndAccountsForLines_8 : ∃ s : State, ∃ u : Int, s.forming = false ∧ s.stitch.unformed = some u ∧ ceilDiv s.tl.pos ((2 : Int) ^ 40) - 26 ≤ u :=
  ⟨({ withFlds [] with tl := { pos := 2 ^ 40 * 100 }, stitch := { unformed := some 74 } }), (74), by decide⟩

theorem witness_StitcherFormsAndAccountsForLines_10 : ∃ s : State, ∃ cam : Fin 24, ∃ line : Int, ∃ u : Nat, ∃ n : Nat, ∃ addr : Nat, ∃ x : SeamLine, s.seamOf cam = [x] ∧ x.line = line ∧ s.spanFirst cam ≤ u :=
  ⟨({ withFlds [(STITCH_CAM_SPAN_FIRST 5, 2)] with stitch := { seam := [(5, [⟨4, [], []⟩])] } }), (5), (4), (3), (2), (9), (⟨4, [], []⟩), by decide⟩

theorem witness_FinePathSeedsAndAttributes_4 : ∃ s : State, ∃ clk : Nat, ∃ r : AttrReq, ∃ q : List AttrReq, s.fine.asked = r :: q ∧ s.fine.lastStart = none ∧ (∀ b ∈ List.range 16, s.rd (FINE_BAR_SCALE b) ≠ 0) :=
  ⟨({ withFlds ((List.range 16).map (fun b => (FINE_BAR_SCALE b, 1))) with fine := { asked := [⟨5, 6, 0, false, some 3⟩], reports := [⟨5, 6, 0, true, none⟩] } }), (0), (⟨5, 6, 0, false, some 3⟩), ([]), by decide⟩

theorem witness_FinePathSeedsAndAttributes_5 : ∃ s : State, ∃ clk : Nat, ∃ t0 : Nat, ∃ r : AttrReq, ∃ q : List AttrReq, s.fine.asked = [] ∧ s.fine.reports = r :: q ∧ s.fine.lastStart = some t0 ∧ t0 + 8 ≤ clk :=
  ⟨({ withFlds [(FINE_STATUS_ATTR_QUEUE, 1)] with fine := { lastStart := some 4, reports := [⟨5, 6, 0, true, none⟩] } }), (12), (4), (⟨5, 6, 0, true, none⟩), ([]), by decide⟩

theorem witness_FinePathSeedsAndAttributes_6 : ∃ s : State, ∃ clk : Nat, ∃ t0 : Nat, ∃ r : AttrReq, ∃ a : AttrAns, ∃ rest : List (Nat × AttrReq × AttrAns), s.fine.running = (t0, r, a) :: rest ∧ t0 + 48 ≤ clk ∧ r.tally = none ∧ r.record = false :=
  ⟨({ withFlds [] with fine := { running := [(4, ⟨5, 6, 0, false, none⟩, ⟨false, 0, 0, 0, 0, 0, 0, false, false, 0⟩)] } }), (52), (4), (⟨5, 6, 0, false, none⟩), (⟨false, 0, 0, 0, 0, 0, 0, false, false, 0⟩), ([]), by decide⟩

theorem witness_FinePathSeedsAndAttributes_7 : ∃ s : State, ∃ clk : Nat, ∃ t0 : Nat, ∃ r : AttrReq, ∃ a : AttrAns, ∃ rest : List (Nat × AttrReq × AttrAns), s.fine.running = (t0, r, a) :: rest ∧ t0 + 48 ≤ clk ∧ r.tally = none ∧ r.record = true ∧ s.on FINE_CTRL_ATTR_EN = true ∧ s.rd FINE_NOZ_RING_DEPTH ≠ 0 ∧ ringFull (s.rd FINE_NOZ_RING_WR) (s.rd FINE_NOZ_RD) (s.rd FINE_NOZ_RING_DEPTH) = true :=
  ⟨({ withFlds [(FINE_CTRL_ATTR_EN, 1), (FINE_NOZ_RING_DEPTH, 1)] with fine := { running := [(4, ⟨5, 6, 0, true, none⟩, ⟨false, 0, 0, 0, 0, 0, 0, false, false, 0⟩)] } }), (52), (4), (⟨5, 6, 0, true, none⟩), (⟨false, 0, 0, 0, 0, 0, 0, false, false, 0⟩), ([]), by decide⟩

theorem witness_FinePathSeedsAndAttributes_8 : ∃ s : State, s.on FINE_ATTR_CTRL_BUSY = false :=
  ⟨(withFlds [(FINE_HEAD_PITCH 15 63, 77), (FINE_BAR_CFG_ENABLE 0, 1)]), by decide⟩

theorem witness_FinePathSeedsAndAttributes_9 : ∃ s : State, s.on FINE_ATTR_CTRL_BUSY = true :=
  ⟨(withFlds [(FINE_ATTR_CTRL_BUSY, 1)]), by decide⟩

theorem witness_FinePathSeedsAndAttributes_11 : ∃ s : State, s.on FINE_ATTR_CTRL_BUSY = true ∧ s.fine.bank = [] :=
  ⟨(withFlds [(FINE_ATTR_CTRL_BUSY, 1), (FINE_HEAD_PITCH 15 63, 77)]), by decide⟩

theorem witness_ProfileAndSensorCommandsAct_1 : ∃ s : State, ∃ c : Fin 256, s.on (PROFILE_CH_CTRL_EN c) = false ∧ s.profCheck c = none :=
  ⟨(withFlds [(PROFILE_CH_CIC_K 255, 1), (PROFILE_CH_CIC_D 255, 2), (PROFILE_CH_CIC_NORM_NORM_M 255, 1)]), (255), by decide⟩

theorem witness_ProfileAndSensorCommandsAct_2 : ∃ s : State, ∃ c : Fin 256, ∃ n : Nat, s.on (PROFILE_CH_CTRL_EN c) = false ∧ s.profCheck c = some n ∧ n < 16 :=
  ⟨(withFlds [(PROFILE_CH_CIC_K 255, 1), (PROFILE_CH_CIC_D 255, 0), (PROFILE_CH_CIC_NORM_NORM_M 255, 1)]), (255), (2), by decide⟩

theorem witness_ProfileAndSensorCommandsAct_3 : ∃ s : State, ∃ groups : BitVec 16, ∃ c : Nat, c < 256 ∧ s.on (PROFILE_CH_CTRL_EN c) = true ∧ bitAt groups.toNat (s.rd (PROFILE_CH_CTRL_GROUP c)) = true ∧ spGet (fun _ => 0) s.prof.synced (s.rd (PROFILE_CH_CTRL_GROUP c)) ≠ s.now + 1 :=
  ⟨(withFlds [(PROFILE_CH_CTRL_EN 9, 1), (PROFILE_CH_CTRL_GROUP 9, 15), (PROFILE_CH_CTRL_EN 8, 1), (PROFILE_CH_CTRL_GROUP 8, 2)]), (0x8004), (9), by decide⟩

theorem witness_ProfileAndSensorCommandsAct_5 : ∃ s : State, ∃ e : SchedEntry, ∃ g : Nat, ∃ c : Nat, firstDue s.now s.tl.sched = some e ∧ e.act = .profileSync g ∧ c < 256 ∧ s.on (PROFILE_CH_CTRL_EN c) = true ∧ s.rd (PROFILE_CH_CTRL_GROUP c) = g ∧ spGet (fun _ => 0) s.prof.synced g ≠ s.now + 1 :=
  ⟨({ withFlds [(TIMELINE_CTRL_RUN, 1), (PROFILE_CH_CTRL_EN 9, 1), (PROFILE_CH_CTRL_GROUP 9, 15)] with tl := { tick := 17, sched := [{ slot := 300, act := .profileSync 15, due := some 8 }] } }), ({ slot := 300, act := .profileSync 15, due := some 8 }), (15), (9), by decide⟩

theorem witness_ProfileAndSensorCommandsAct_6 : ∃ s : State, ∃ c : Fin 256, (s.pch c).det.n = 0 :=
  ⟨(withFlds [(PROFILE_CH_DET_MAX 9, 7)]), (9), by decide⟩

theorem witness_ProfileAndSensorCommandsAct_7 : ∃ s : State, ∃ c : Fin 256, ∃ hi : Int, ∃ lo : Int, (s.pch c).det.n ≠ 0 ∧ (s.pch c).det.max = some hi ∧ (s.pch c).det.min = some lo ∧ -2 ^ 31 ≤ lo ∧ lo ≤ hi ∧ hi < 2 ^ 31 :=
  ⟨({ withFlds [(PROFILE_CH_DET_MAX 9, 7)] with prof := { chans := [(9, { det := { max := some 5, min := some (-7), sumsq := 74, n := 2, env := 70000 } })] } }), (9), (5), (-7), by decide⟩

theorem witness_ProfileAndSensorCommandsAct_8 : ∃ s : State, s.on SENSOR_CTRL_EN = true ∧ s.on SENSOR_CTRL_START_SRC = true ∧ s.sens.start = none :=
  ⟨(withFlds [(SENSOR_CTRL_EN, 1), (SENSOR_CTRL_START_SRC, 1)]), by decide⟩

theorem witness_ProfileAndSensorCommandsAct_9 : ∃ s : State, ∃ due : Nat, s.on SENSOR_CTRL_EN = true ∧ s.on SENSOR_CTRL_START_SRC = false ∧ s.rd SENSOR_PERIOD ≠ 0 ∧ s.sens.timer = some due ∧ due ≤ s.now ∧ s.sens.start = none :=
  ⟨({ withFlds [(SENSOR_CTRL_EN, 1), (SENSOR_PERIOD, 10)] with sens := { timer := some 0 } }), (0), by decide⟩

theorem witness_ProfileAndSensorCommandsAct_10 : ∃ s : State, ∃ t0 : Nat, ∃ p : Int, s.on SENSOR_CTRL_EN = true ∧ s.on SENSOR_CTRL_START_SRC = true ∧ s.sens.start = some (t0, p) ∧ t0 ≠ s.now :=
  ⟨({ withFlds [(SENSOR_CTRL_EN, 1), (SENSOR_CTRL_START_SRC, 1)] with sens := { start := some (4, 5) } }), (4), (5), by decide⟩

theorem witness_ProfileAndSensorCommandsAct_11 : ∃ s : State, ∃ raw : List (BitVec 24), ∃ t0 : Nat, ∃ p : Int, s.sens.start = some (t0, p) ∧ t0 + s.sensorTicks ≤ s.now ∧ (∀ c ∈ List.range 256, s.on (PROFILE_CH_CTRL_EN c) = false) :=
  ⟨({ withFlds [(SENSOR_CTRL_CH_EN, 0x81), (SENSOR_CTRL_BITS, 16), (SENSOR_STATUS_BUSY, 1)] with tl := { tick := 100000 }, sens := { start := some (4, 5) } }), ([0xFFFF]), (4), (5), by decide⟩

theorem witness_MasterPathConsumesPlacesAndCompares_1 : ∃ s : State, s.on MASTER_CTRL_EN = false :=
  ⟨(withFlds [(STITCH_LAYOUT_WIDTH, 8)]), by decide⟩

theorem witness_MasterPathConsumesPlacesAndCompares_2 : ∃ s : State, s.mas.runs = [] :=
  ⟨(withFlds [(MASTER_CTRL_EN, 1)]), by decide⟩

theorem witness_MasterPathConsumesPlacesAndCompares_4 : ∃ s : State, ∃ t0 : Nat, ∃ base : Nat, s.mas.commit.fetch = some (t0, base) ∧ s.dramFits base predBytes = true ∧ (s.dramTouch base predBytes clsTable).1 = none :=
  ⟨({ withFlds [(DRAMC_SIZE, 2 ^ 34)] with mas := { commit := { pend := [⟨5⟩], fetch := some (5, 0) } } }), (5), (0), by decide, by decide, touchOk (by decide)⟩

theorem witness_MasterPathConsumesPlacesAndCompares_5 : ∃ s : State, ∃ t0 : Nat, ∃ base : Nat, s.mas.commit.fetch = some (t0, base) ∧ s.dramFits base predBytes = false :=
  ⟨({ withFlds [(DRAMC_SIZE, 7)] with mas := { commit := { pend := [⟨5⟩], fetch := some (5, 0) } } }), (5), (0), by decide⟩

theorem witness_MasterPathConsumesPlacesAndCompares_6 : ∃ s : State, ∃ v : BitVec 32, v.toNat % 65536 < s.rd MASTER_LEDGER_RING_DEPTH :=
  ⟨(withFlds [(MASTER_LEDGER_RING_DEPTH, 5)]), (4), by decide⟩

theorem witness_MasterPathConsumesPlacesAndCompares_7 : ∃ s : State, ∃ v : BitVec 32, s.rd MASTER_LEDGER_RING_DEPTH ≤ v.toNat % 65536 :=
  ⟨(withFlds [(MASTER_LEDGER_RING_DEPTH, 5)]), (5), by decide⟩

theorem witness_MasterPathConsumesPlacesAndCompares_8 : ∃ s : State, ∃ start : Int, ∃ bs : List Nat, s.rd MASTER_LEDGER_RING_DEPTH ≠ 0 ∧ s.rd MASTER_LEDGER_RING_RD ≠ s.rd MASTER_LEDGER_WR ∧ (s.mas.pages.filter (fun p => !p.ended)).length < 16 ∧ bs = (s.dramRead (s.rd MASTER_LEDGER_BASE + 32 * s.rd MASTER_LEDGER_RING_RD) 32 clsMaster).1 ∧ start = signed 64 (ofLeBytes (bs.take 8)) + s.rdS MASTER_PLACE_ACC ∧ ((∀ l, s.mas.lastStart = some l → l < start)) ∧ s.mas.pages = [] :=
  ⟨(withFlds [(MASTER_LEDGER_RING_DEPTH, 2), (MASTER_LEDGER_RING_RD, 1), (MASTER_PLACE_ACC, 77)]), (77), (List.replicate 32 0), by decide, by decide, by decide, by decide, by decide, noneAll (by decide), by decide⟩

theorem witness_MasterPathConsumesPlacesAndCompares_9 : ∃ s : State, ∃ p : Page, s.mas.pages = [p] ∧ p.final = false ∧ p.applied = none ∧ p.start + s.rd MASTER_MARK_MARK_TOL * 65536 ≤ linePos (s.rdS STITCH_FORMED_LINE) ∧ s.markNear p.start = none :=
  ⟨({ withFlds [(MASTER_MARK_MARK_TOL, 2), (STITCH_FORMED_LINE, 12)] with mas := { pages := [{ start := 10 * 65536, entry := 10 * 65536, index := 3, xoff := -2, mark := true, reset := false, final := false, po := 2 }] } }), ({ start := 10 * 65536, entry := 10 * 65536, index := 3, xoff := -2, mark := true, reset := false, final := false, po := 2 }), by decide⟩

theorem witness_MasterPathConsumesPlacesAndCompares_10 : ∃ s : State, ∃ p : Page, ∃ b : Int, s.mas.pages = [p] ∧ p.final = false ∧ p.applied = none ∧ p.start + s.rd MASTER_MARK_MARK_TOL * 65536 ≤ linePos (s.rdS STITCH_FORMED_LINE) ∧ s.markNear p.start = some b ∧ s.on MASTER_CTRL_ADOPT_MARK = true ∧ (linePos b - p.entry).natAbs ≤ s.rd MASTER_MARK_MARK_WARN * 65536 :=
  ⟨({ withFlds [(MASTER_MARK_MARK_TOL, 2), (STITCH_FORMED_LINE, 12), (MASTER_CTRL_ADOPT_MARK, 1), (MASTER_MARK_MARK_WARN, 3)] with tl := { frames := [(0, { starts := [(11, 1)] })] }, mas := { pages := [{ start := 10 * 65536, entry := 9 * 65536, index := 3, xoff := -2, mark := true, reset := false, final := false, po := 2 }] } }), ({ start := 10 * 65536, entry := 9 * 65536, index := 3, xoff := -2, mark := true, reset := false, final := false, po := 2 }), (11), by decide⟩

theorem witness_MasterPathConsumesPlacesAndCompares_11 : ∃ s : State, ∃ p : Page, ∃ v : Int, ∃ bs : List Nat, s.mas.pages = [p] ∧ p.desc = none ∧ p.absent = none ∧ s.newestCoarse = some v ∧ p.po - s.rd MASTER_FETCH_LEAD ≤ v ∧ p.po - 80 ≤ v ∧ bs = (s.dramRead (s.rd MASTER_DESC_BASE + 64 * p.index) 64 clsMaster).1 ∧ bitAt (ofLeBytes ((bs.drop 7).take 1)) 0 = false :=
  ⟨({ withFlds [] with stitch := { coarse := [⟨7, 0, 0, false, false, 0, [none]⟩] }, mas := { pages := [{ start := 10 * 65536, entry := 10 * 65536, index := 3, xoff := -2, mark := true, reset := false, final := true, po := 2 }] } }), ({ start := 10 * 65536, entry := 10 * 65536, index := 3, xoff := -2, mark := true, reset := false, final := true, po := 2 }), (7), (List.replicate 64 0), by decide⟩

theorem witness_MasterPathConsumesPlacesAndCompares_12 : ∃ s : State, ∃ r : Int, ∃ v : Int, s.nextTileRow = some r ∧ s.newestCoarse = some v ∧ s.on MASTER_CTRL_EN = true ∧ 64 * r + 63 ≤ v ∧ s.mas.pages = [] ∧ s.mas.commit.setFor (256 * r) = none ∧ -2 ^ 31 ≤ r ∧ r < 2 ^ 31 :=
  ⟨({ withFlds [(MASTER_CTRL_EN, 1), (STITCH_LAYOUT_WIDTH, 400)] with stitch := { coarse := [⟨63, 0, 0, false, false, 0, [none]⟩] }, mas := { nextRow := some 0 } }), (0), (63), by decide⟩

theorem witness_MasterPathConsumesPlacesAndCompares_13 : ∃ s : State, ∃ v : Int, ∃ n : Int, s.nextDiffLine = some v ∧ s.newestCoarse = some n ∧ s.on MASTER_CTRL_EN = true ∧ v ≤ n ∧ (s.tileRow (v / 64)).isSome = true ∧ masterActs (s.modeOf (4 * v)) = true :=
  ⟨({ withFlds [(MASTER_CTRL_EN, 1), (STITCH_LAYOUT_WIDTH, 4)] with top := { hist := [⟨0, 7, 1⟩] }, stitch := { coarse := [⟨0, 0, 0, false, false, 0, [some (1, 2, 3)]⟩] }, mas := { rows := [⟨0, [(0, 0)], [true], [false]⟩] } }), (0), (0), by decide⟩

theorem witness_ScalerSegmentsLinesAndJudgesDeadlines_1 : ∃ s : State, s.on SCALER_CTRL_EN = false ∧ s.on TOP_STATUS_HELD_VALID = false :=
  ⟨(withFlds []), by decide⟩

theorem witness_ScalerSegmentsLinesAndJudgesDeadlines_3 : ∃ s : State, ∃ f : FineLine, s.on SCALER_CTRL_EN = true ∧ s.stitch.fine = [f] ∧ s.fineReady f.line = true ∧ s.scal.seg = some (f.line - 1) :=
  ⟨({ withFlds [(SCALER_CTRL_EN, 1), (STITCH_LAYOUT_WIDTH, 4)] with stitch := { fine := [⟨7, 0, 0, false, false, 0, [none, none, none, none]⟩] }, scal := { seg := some 6 } }), (⟨7, 0, 0, false, false, 0, [none, none, none, none]⟩), by decide⟩

theorem witness_ScalerSegmentsLinesAndJudgesDeadlines_4 : ∃ s : State, ∃ f : FineLine, ∃ m : Int, s.on SCALER_CTRL_EN = true ∧ s.stitch.fine = [f] ∧ s.scal.seg = some m ∧ f.line ≤ m :=
  ⟨({ withFlds [(SCALER_CTRL_EN, 1), (STITCH_LAYOUT_WIDTH, 4)] with stitch := { fine := [⟨7, 0, 0, false, false, 0, [none, none, none, none]⟩] }, scal := { seg := some 7 } }), (⟨7, 0, 0, false, false, 0, [none, none, none, none]⟩), (7), by decide⟩

theorem witness_ScalerSegmentsLinesAndJudgesDeadlines_5 : ∃ s : State, ∃ d : DiffLine, s.on SCALER_CTRL_EN = true ∧ s.mas.diff = [d] ∧ s.scal.segM = some (d.line - 1) :=
  ⟨({ withFlds [(SCALER_CTRL_EN, 1), (STITCH_LAYOUT_WIDTH, 4)] with mas := { diff := [⟨7, []⟩] }, scal := { segM := some 6 } }), (⟨7, []⟩), by decide⟩

theorem witness_ScalerSegmentsLinesAndJudgesDeadlines_6 : ∃ s : State, ∃ d : Draft, s.scal.drafts = [d] ∧ d.classWait = true ∧ d.since + s.rd SCALER_CLASS_CLASS_TIMEOUT * ticksPerUs ≤ s.now :=
  ⟨({ withFlds [] with tl := { tick := 10 ^ 9 }, scal := { drafts := [{ id := 5, body := tallyOf (List.replicate 64 0), hold := 7, streak := false, classWait := true }] } }), ({ id := 5, body := tallyOf (List.replicate 64 0), hold := 7, streak := false, classWait := true }), by decide⟩

theorem witness_ScalerSegmentsLinesAndJudgesDeadlines_8 : ∃ s : State, ∃ label : Fin 65536, ∃ c : Comp, s.scal.comps = [c] ∧ c.label = label :=
  ⟨({ withFlds [] with scal := { comps := [{ id := 5, label := 65535, plane := 1, first := 3, last := 4, low := 1, high := 2 }] } }), (65535), ({ id := 5, label := 65535, plane := 1, first := 3, last := 4, low := 1, high := 2 }), by decide⟩

theorem witness_ScalerSegmentsLinesAndJudgesDeadlines_9 : ∃ s : State, ∃ e : SchedEntry, ∃ r : Int × Int, firstDue s.now s.tl.sched = some e ∧ e.act = .verdict ∧ s.lateLines (s.rdS SCALER_VERDICT) (s.line - s.rd SCALER_DEADLINE) = [r] :=
  ⟨({ withFlds [(TIMELINE_CTRL_RUN, 1), (SCALER_DEADLINE, 20)] with tl := { tick := 17, pos := 2 ^ 40 * 100, sched := [{ slot := 300, act := .verdict, due := some 8 }] }, top := { hist := [⟨0, 7, 1⟩] }, stitch := { unformed := some 70 } }), ({ slot := 300, act := .verdict, due := some 8 }), ((71, 80)), by decide⟩

theorem witness_RecordsSnippetsAndStripsMove_1 : ∃ s : State, ∃ r : Fin 4, ∃ c : CovEntry, s.ringRoom r ≠ 0 ∧ s.nextCov r = some c ∧ s.summaryFirst r c.body.seq = false ∧ s.permitted reqDma clsMemory true = true ∧ s.on (SCALER_RING_CFG_WB_EN r) = false ∧ s.on (SCALER_RING_CFG_HOST r) = true :=
  ⟨({ withFlds [(SCALER_RING_CFG_DEPTH 3, 4), (SCALER_RING_RD 3, 1), (SCALER_RING_CFG_HOST 3, 1), (SCALER_RING_WR 3, 3), (SCALER_RING_BASE 3, 4096)] with scal := { covQ := [{ body := covOf (List.replicate 64 7), rings := 8 }] } }), (3), ({ body := covOf (List.replicate 64 7), rings := 8 }), by decide⟩

theorem witness_RecordsSnippetsAndStripsMove_2 : ∃ s : State, ∃ r : Fin 4, ∃ e : TallyEntry, s.rd (SCALER_RING_CFG_RESERVE r) < s.ringRoom r ∧ s.nextCov r = none ∧ s.nextTally r = some e ∧ s.summaryFirst r e.body.seq = false :=
  ⟨({ withFlds [(SCALER_RING_CFG_DEPTH 3, 4), (SCALER_RING_CFG_RESERVE 3, 0), (SCALER_RING_RD 3, 1), (SCALER_RING_CFG_HOST 3, 1), (SCALER_RING_WR 3, 3), (SCALER_RING_BASE 3, 4096)] with scal := { talQ := [{ body := tallyOf (List.replicate 64 7), rings := 8, hold := 3 }] } }), (3), ({ body := tallyOf (List.replicate 64 7), rings := 8, hold := 3 }), by decide⟩

theorem witness_RecordsSnippetsAndStripsMove_3 : ∃ s : State, ∃ r : Fin 4, ∃ l : LossSum, s.ringRoom r ≠ 0 ∧ spGet (fun _ => none) s.scal.loss r.val = some l :=
  ⟨({ withFlds [(SCALER_RING_CFG_DEPTH 3, 4), (SCALER_RING_RD 3, 1), (SCALER_RING_WR 3, 3), (DRAMC_SIZE, 2 ^ 34)] with scal := { loss := [(3, some ⟨1, 2, 3, 4, 5, 6⟩)] } }), (3), (⟨1, 2, 3, 4, 5, 6⟩), by decide⟩

theorem witness_RecordsSnippetsAndStripsMove_4 : ∃ s : State, ∃ e : TallyEntry, ∃ j : SnipJob, s.snipEntry (fun i => i.since.isSome) = none ∧ s.snipEntry s.windowFormed = some (e, j) ∧ s.snipChannel = true ∧ s.ringHolds j = true :=
  ⟨({ withFlds [(SCALER_SNIP_SNIP_CHAN, 5), (DMA_CH_CTRL_MODE 5, 1), (DRAMC_IMG_CFG_IMG_EN, 1), (DRAMC_IMG_CFG_LINES, 64), (DRAMC_IMG_NEWEST, 20)] with stitch := { fine := [⟨20, 0, 0, false, false, 0, []⟩] }, scal := { talQ := [{ body := tallyOf (List.replicate 64 7), rings := 8, hold := 3, snip := some { first := 8, col := 2, w := 3, h := 4 } }] } }), ({ body := tallyOf (List.replicate 64 7), rings := 8, hold := 3, snip := some { first := 8, col := 2, w := 3, h := 4 } }), ({ first := 8, col := 2, w := 3, h := 4 }), by decide⟩

theorem witness_RecordsSnippetsAndStripsMove_5 : ∃ s : State, ∃ e : TallyEntry, ∃ j : SnipJob, s.snipEntry (fun i => i.since.isSome) = none ∧ s.snipEntry s.windowFormed = some (e, j) ∧ s.snipChannel = false :=
  ⟨({ withFlds [] with stitch := { fine := [⟨20, 0, 0, false, false, 0, []⟩] }, scal := { talQ := [{ body := tallyOf (List.replicate 64 7), rings := 8, hold := 3, snip := some { first := 8, col := 2, w := 3, h := 4 } }] } }), ({ body := tallyOf (List.replicate 64 7), rings := 8, hold := 3, snip := some { first := 8, col := 2, w := 3, h := 4 } }), ({ first := 8, col := 2, w := 3, h := 4 }), by decide⟩

theorem witness_RecordsSnippetsAndStripsMove_6 : ∃ s : State, ∃ e : TallyEntry, ∃ j : SnipJob, ∃ t0 : Nat, s.scal.talQ = [e] ∧ e.snip = some j ∧ j.since = some t0 ∧ s.now ≤ t0 + s.rd SCALER_SNIP_SLOTS_SNIP_TIMEOUT * ticksPerUs ∧ s.permitted reqDma clsMemory false = true ∧ s.permitted reqDma clsMemory true = true :=
  ⟨({ withFlds [(SCALER_SNIP_SNIP_CHAN, 5), (DMA_CH_CTRL_MODE 5, 1), (DRAMC_SIZE, 2 ^ 34)] with scal := { talQ := [{ body := tallyOf (List.replicate 64 7), rings := 8, hold := 3, snip := some { first := 8, col := 2, w := 3, h := 4, since := some 0 } }] } }), ({ body := tallyOf (List.replicate 64 7), rings := 8, hold := 3, snip := some { first := 8, col := 2, w := 3, h := 4, since := some 0 } }), ({ first := 8, col := 2, w := 3, h := 4, since := some 0 }), (0), by decide⟩

theorem witness_RecordsSnippetsAndStripsMove_7 : ∃ s : State, ∃ reason : Fin 3, ∃ e : TallyEntry, ∃ j : SnipJob, ∃ t0 : Nat, s.scal.talQ = [e] ∧ e.snip = some j ∧ j.since = some t0 ∧ ((reason = 0 → s.ringHolds j = false ∧ s.windowFormed j = true)) ∧ ((reason = 1 → t0 + s.rd SCALER_SNIP_SLOTS_SNIP_TIMEOUT * ticksPerUs < s.now)) :=
  ⟨({ withFlds [] with tl := { tick := 10 ^ 12 }, scal := { talQ := [{ body := tallyOf (List.replicate 64 7), rings := 8, hold := 3, snip := some { first := 8, col := 2, w := 3, h := 4, since := some 0 } }] } }), (1), ({ body := tallyOf (List.replicate 64 7), rings := 8, hold := 3, snip := some { first := 8, col := 2, w := 3, h := 4, since := some 0 } }), ({ first := 8, col := 2, w := 3, h := 4, since := some 0 }), (0), by decide⟩

theorem witness_RecordsSnippetsAndStripsMove_8 : ∃ s : State, ∃ a : Int, ∃ f : Int, s.on SCALER_CTRL_EN = true ∧ s.leftId ≠ 0xFFF ∧ s.scal.stripNext = some a ∧ s.scal.seg = some f ∧ a + s.rd SCALER_STRIP_STRIP_ROWS - 1 ≤ f ∧ s.scal.commit.active = none :=
  ⟨({ withFlds [(SCALER_CTRL_EN, 1), (SCALER_EDGE_LEFT_ID, 5), (SCALER_STRIP_STRIP_ROWS, 4)] with scal := { stripNext := some 8, seg := some 11, col0 := [(0, 9, 77)] } }), (8), (11), by decide⟩

theorem witness_RecordsSnippetsAndStripsMove_9 : ∃ s : State, ∃ k : Fin 3, ∃ p : Packet, ∃ rest : List Packet, ∃ w : Nat, ∃ a : Int, (s.grp (12 + k.val) 0).rx = p :: rest ∧ p.ty = pkStrip ∧ s.member = true ∧ headDst (nth 0 p.payload 0) = s.deviceId ∧ s.deviceId ≠ idAll ∧ s.permitted (reqLp k) clsTally true = true ∧ s.on SCALER_CTRL_EN = true ∧ w = nth 0 p.payload 1 ∧ a = signed 48 w ∧ bitsAt w 48 16 ≠ 0 ∧ bitsAt w 48 16 ≤ 4096 ∧ p.payload.length = bitsAt w 48 16 + 2 ∧ headSrc (nth 0 p.payload 0) = s.rightId ∧ s.scal.rowsTo = some (a - 1) :=
  ⟨({ withFlds [(CHAIN_CTRL_EN, 1), (CHAIN_CFG_DEVICE_ID, 9), (SCALER_CTRL_EN, 1), (SCALER_EDGE_RIGHT_ID, 5)] with zl := [(14, { groups := [(0, { rx := [{ ty := 0x13, payload := [5 + 9 * 4096, 8 + 2 ^ 49, 0, 0] }] })] })], scal := { rowsTo := some 7 } }), (2), ({ ty := 0x13, payload := [5 + 9 * 4096, 8 + 2 ^ 49, 0, 0] }), ([]), (8 + 2 ^ 49), (8), by decide⟩

theorem witness_RecordsSnippetsAndStripsMove_10 : ∃ s : State, ∃ r : Int, ∃ f : Int, s.scal.rowsTo = some r ∧ s.scal.seg = some f ∧ s.rightId ≠ 0xFFF ∧ s.on SCALER_CTRL_EN = true ∧ r + 1 + s.rd SCALER_STRIP_STRIP_TIMEOUT ≤ f :=
  ⟨({ withFlds [(SCALER_CTRL_EN, 1), (SCALER_EDGE_RIGHT_ID, 5), (SCALER_STRIP_STRIP_ROWS, 4), (SCALER_STRIP_STRIP_TIMEOUT, 6)] with scal := { rowsTo := some 8, seg := some 15 } }), (8), (15), by decide⟩

theorem witness_RecordsSnippetsAndStripsMove_11 : ∃ s : State, ∃ k : Fin 3, ∃ p : Packet, ∃ rest : List Packet, ∃ bs : List Nat, (s.grp (12 + k.val) 0).rx = p :: rest ∧ p.ty = pkTally ∧ s.member = true ∧ headDst (nth 0 p.payload 0) = s.deviceId ∧ s.deviceId ≠ idAll ∧ s.permitted (reqLp k) clsTally true = true ∧ bs = (p.payload.drop 1).flatMap (leBytes 8) ∧ nth 0 bs 0 = 0x20 ∧ s.scal.covQ.length < 1024 ∧ s.ringsCov ≠ 0 :=
  ⟨({ withFlds [(CHAIN_CTRL_EN, 1), (CHAIN_CFG_DEVICE_ID, 9), (SCALER_CTRL_EN, 1), (SCALER_RING_CFG_DEPTH 3, 4), (SCALER_RING_RD 3, 1)] with zl := [(14, { groups := [(0, { rx := [{ ty := 0x12, payload := [5 + 9 * 4096, 0x20, 0, 0, 0, 0, 0, 0, 0] }] })] })] }), (2), ({ ty := 0x12, payload := [5 + 9 * 4096, 0x20, 0, 0, 0, 0, 0, 0, 0] }), ([]), ((List.replicate 64 0).set 0 0x20), by decide⟩

end Sys2Proof.Tests
end

