-- ==== Sys2Proof/Tests/WitnessPosition.lean ====
section
/-! SUPPORT. For each clause of the position, strokes and links statements, a concrete state and operands that meet its
hypotheses together. -/

namespace Sys2Proof.Tests

open Sys2Proof Sys2Proof.Machine

set_option linter.unusedVariables false
set_option maxRecDepth 100000
set_option exponentiation.threshold 400

theorem witness_AStepRunsTheFrontCommand_1 : ∃ s : State, ∃ c : Instr, ∃ rest : List Instr, s.pending = c :: rest :=
  ⟨({ withFlds [] with pending := [.por, .preset] }), (.por), ([.preset]), by decide⟩

theorem witness_AStepRunsTheFrontCommand_2 : ∃ s : State, s.pending = [] :=
  ⟨((withFlds [])), by decide⟩

theorem witness_FieldsReadBackAndStandApart_1 : ∃ s : State, ∃ f : Fld, ∃ v : Nat, f.lsb + f.w ≤ 64 :=
  ⟨((withFlds [])), (⟨0x60, 0, 64⟩), (5), by decide⟩

theorem witness_RoundingIsToNearestEven_1 : ∃ n : Int, ∃ d : Int, 0 < d :=
  ⟨(5), (2), by decide⟩

theorem witness_EncoderCommandsCountAndLatch_1 : ∃ s : State, ∃ e : Fin 4, ∃ a : Bool, ∃ b : Bool, ∃ d : Int, d = quadStep (s.rd (TIMELINE_ENC_CTRL_MODE e)) (s.enc e).levelA (s.enc e).levelB a b ∧ d ≠ 0 ∧ ((s.rd (TIMELINE_ENC_CTRL_MODE e) = 4 ∨ ∀ t, (s.enc e).lastStep = some t → t + 4 ≤ s.now)) :=
  ⟨(withFlds [(TIMELINE_ENC_CTRL_MODE 1, 1), (TIMELINE_CTRL_MASTER_SRC, 1), (TIMELINE_CTRL_RUN, 1), (TIMELINE_RATIO, 0x800000)]), (1), (true), (false), (1), by decide, by decide, Or.inr (noneAll (by decide))⟩

theorem witness_EncoderCommandsCountAndLatch_2 : ∃ s : State, ∃ e : Fin 4, s.rd (TIMELINE_ENC_CTRL_MODE e) = 5 ∧ (s.enc e).ssiStart = none :=
  ⟨(withFlds [(TIMELINE_ENC_CTRL_MODE 2, 5)]), (2), by decide⟩

theorem witness_EncoderCommandsCountAndLatch_3 : ∃ s : State, ∃ e : Fin 4, ∃ raw : Nat, ∃ parity : Bool, ∃ t0 : Nat, ∃ prev : Nat, ∃ n : Nat, ∃ d : Nat, (s.enc e).ssiStart = some t0 ∧ (s.enc e).ssiPrev = some prev ∧ n = s.rd (TIMELINE_ENC_SSI_CFG_BITS e) ∧ d = (if s.on (TIMELINE_ENC_SSI_CFG_GRAY e) then grayToBin n (raw % 2 ^ n) else raw % 2 ^ n) ∧ ((s.on (TIMELINE_ENC_SSI_CFG_PARITY e) = false ∨ (popCount n (raw % 2 ^ n) + b2n parity) % 2 = 0)) ∧ (signed n ((d + 2 ^ n - prev % 2 ^ n) % 2 ^ n)).natAbs ≤ 2 ^ (n - 2) :=
  ⟨((withFlds [(TIMELINE_ENC_CTRL_MODE 0, 5), (TIMELINE_ENC_SSI_CFG_BITS 0, 12), (TIMELINE_ENC_SSI_CFG_GRAY 0, 0), (TIMELINE_ENC_CTRL_DIR_INVERT 0, 1)]).setEnc 0 { ssiPrev := some 5, ssiStart := some 0 }), (0), (9), (false), (0), (5), (12), (9), by decide⟩

theorem witness_EncoderCommandsCountAndLatch_4 : ∃ s : State, ∃ e : Fin 4, ∃ rising : Bool, rising ≠ s.on (TIMELINE_ENC_CTRL_Z_INVERT e) :=
  ⟨(withFlds [(TIMELINE_ENC_CTRL_INDEX_MODE 3, 1), (TIMELINE_ENC_COUNT 3, 77)]), (3), (true), by decide⟩

theorem witness_PositionCommandsMoveHoldAndCapture_1 : ∃ s : State, s.rd TIMELINE_STALL ≠ 0 ∧ s.on TIMELINE_STATUS_WEB_STOPPED = false ∧ s.tl.lastMasterStep + s.rd TIMELINE_STALL ≤ s.now :=
  ⟨({ withFlds [(TIMELINE_STALL, 1), (TIMELINE_STATUS_WEB_STOPPED, 0)] with tl := { tick := 9 } }), by decide⟩

theorem witness_PositionCommandsMoveHoldAndCapture_2 : ∃ s : State, s.on TIMELINE_CTRL_RUN = true ∧ s.rd TIMELINE_CTRL_MASTER_SRC = 5 :=
  ⟨({ withFlds [(TIMELINE_CTRL_RUN, 1), (TIMELINE_CTRL_MASTER_SRC, 5)] with tl := { simInc := 7 } }), by decide⟩

theorem witness_PositionCommandsMoveHoldAndCapture_3 : ∃ s : State, ∃ p1 : LatchPair, ∃ p2 : LatchPair, s.extrapolating = some (p1, p2) ∧ p2.fwd = true :=
  ⟨({ withFlds [(TIMELINE_CTRL_RUN, 1), (TIMELINE_RATIO, 0x1000000), (TIMELINE_STATUS_WEB_STOPPED, 0)] with tl := { tick := 30, pos := 12, pairs := [⟨10, 20, true⟩, ⟨0, 10, true⟩] } }), (⟨0, 10, true⟩), (⟨10, 20, true⟩), by decide⟩

theorem witness_PositionCommandsMoveHoldAndCapture_4 : ∃ s : State, s.on TIMELINE_CTRL_RUN = false :=
  ⟨(State.reset), by decide⟩

theorem witness_PositionCommandsMoveHoldAndCapture_6 : ∃ s : State, s.on TIMELINE_CTRL_RUN = false :=
  ⟨(withFlds [(TIMELINE_PRESET, 0x50000)]), by decide⟩

theorem witness_PositionCommandsMoveHoldAndCapture_7 : ∃ s : State, s.on TIMELINE_CTRL_RUN = true :=
  ⟨(withFlds [(TIMELINE_CTRL_RUN, 1)]), by decide⟩

theorem witness_PositionCommandsMoveHoldAndCapture_8 : ∃ s : State, s.tl.xlatchTick ≠ some s.now :=
  ⟨({ withFlds [] with tl := { tick := 9, pos := 0x123456789ABCDEF } }), by decide⟩

theorem witness_ProbesAndComparesLatchAndFire_1 : ∃ s : State, ∃ k : Fin 8, ∃ rising : Bool, s.on (TIMELINE_PRB_CTRL_EN k) = true ∧ edgeSelected (s.rd (TIMELINE_PRB_CTRL_EDGE k)) rising = true ∧ (s.probe k).fifo.length < 16 ∧ ((∀ q, (s.probe k).prevEdge = some q → s.rd (TIMELINE_PRB_LOCKOUT k) ≤ (s.pos16 - q).natAbs)) :=
  ⟨({ withFlds [(TIMELINE_PRB_CTRL_EN 7, 1), (TIMELINE_FRAME_CTRL_SRC 1, 2), (TIMELINE_FRAME_CTRL_PROBE 1, 7), (TIMELINE_CTRL_RUN, 1)] with tl := { tick := 9, pos := 0x123456789ABCDEF } }), (7), (true), by decide, by decide, by decide, noneAll (by decide)⟩

theorem witness_ProbesAndComparesLatchAndFire_2 : ∃ s : State, ∃ k : Fin 8, ∃ e : ProbeEntry, ∃ rest : List ProbeEntry, (s.probe k).fifo = e :: rest :=
  ⟨(State.reset.setProbe 2 { fifo := [⟨-3, 5, true⟩, ⟨4, 6, false⟩] }), (2), (⟨-3, 5, true⟩), ([⟨4, 6, false⟩]), by decide⟩

theorem witness_ProbesAndComparesLatchAndFire_3 : ∃ s : State, ∃ k : Fin 8, (s.probe k).fifo = [] :=
  ⟨(withFlds [(TIMELINE_PRB_POS 2, 5)]), (2), by decide⟩

theorem witness_ProbesAndComparesLatchAndFire_4 : ∃ s : State, ∃ c : Fin 64, s.on TIMELINE_CTRL_RUN = true ∧ s.on (TIMELINE_CMP_CTRL_ENABLE c) = true ∧ s.compareCrossed c = true ∧ spGet (fun _ => none) s.tl.cmpFired c ≠ some s.now :=
  ⟨({ withFlds [(TIMELINE_CTRL_RUN, 1), (TIMELINE_CMP_CTRL_ENABLE 63, 1), (TIMELINE_CMP_CTRL_SINGLE 63, 1), (TIMELINE_CMP_TARGET 63, 0x10000)] with tl := { tick := 9, pos := (2 : Int) ^ 40 } }), (63), by decide⟩

theorem witness_ProbesAndComparesLatchAndFire_5 : ∃ s : State, ∃ c : Fin 64, s.on TIMELINE_CTRL_RUN = false :=
  ⟨(State.reset), (63), by decide⟩

theorem witness_ProbesAndComparesLatchAndFire_6 : ∃ s : State, ∃ c : Fin 64, ∃ target : BitVec 64, (s.on TIMELINE_CTRL_RUN = false ∨ s.on (TIMELINE_CMP_CTRL_ENABLE c) = false) :=
  ⟨(State.reset), (5), (0xFFFFFFFFFFFF0000), by decide⟩

theorem witness_ProbesAndComparesLatchAndFire_7 : ∃ s : State, ∃ c : Fin 64, ∃ target : BitVec 64, s.on TIMELINE_CTRL_RUN = true ∧ s.on (TIMELINE_CMP_CTRL_ENABLE c) = true ∧ s.rd (TIMELINE_CMP_CTRL_DIR c) = 0 ∧ signed 64 target.toNat * (2 : Int) ^ 24 ≤ s.tl.pos ∧ s.on (TIMELINE_CMP_CTRL_LATE_FIRE c) = false :=
  ⟨(withFlds [(TIMELINE_CTRL_RUN, 1), (TIMELINE_CMP_CTRL_ENABLE 9, 1)]), (9), (0), by decide⟩

theorem witness_ScheduledActionsExecuteWhenDue_1 : ∃ s : State, ∃ m : Fin 4, ∃ at48 : BitVec 64, s.markerPending m < 16 ∧ s.schedUsed < 2048 ∧ (s.on TIMELINE_CTRL_RUN = false ∨ s.tl.pos < slotOf (signed 64 at48.toNat) * (2 : Int) ^ 32) :=
  ⟨(withFlds [(TIMELINE_CTRL_RUN, 1)]), (3), (0x20000), by decide⟩

theorem witness_ScheduledActionsExecuteWhenDue_2 : ∃ s : State, ∃ u : State, ∃ m : Fin 4, ∃ e : SchedEntry, s.takeDue (fun a => a == .marker m) = some (e, u) ∧ 0 < s.rd (TIMELINE_MK_CTRL_WIDTH m) :=
  ⟨({ withFlds [(TIMELINE_CTRL_RUN, 1), (TIMELINE_MK_CTRL_WIDTH 1, 5)] with tl := { tick := 17, sched := [⟨0, .marker 1, some 9, false⟩] } }), (withFlds [(TIMELINE_CTRL_RUN, 1), (TIMELINE_MK_CTRL_WIDTH 1, 5)] |> (fun s => { s with tl := { tick := 17 } })), (1), (⟨0, .marker 1, some 9, false⟩), by decide⟩

theorem witness_ScheduledActionsExecuteWhenDue_3 : ∃ s : State, ∃ m : Fin 4, ∃ u : Nat, (s.markerSt m).activeUntil = some u ∧ u ≤ s.now :=
  ⟨(State.reset.setMarkerSt 2 { activeUntil := some 0 }), (2), (0), by decide⟩

theorem witness_ScheduledActionsExecuteWhenDue_4 : ∃ s : State, ∃ l : Int, ∃ rest : List Int, s.tl.waiting = l :: rest ∧ s.on TIMELINE_CTRL_RUN = true ∧ s.triggerFree = true :=
  ⟨({ withFlds [(TIMELINE_CTRL_RUN, 1)] with tl := { waiting := [3, 4] } }), (3), ([4]), by decide⟩

theorem witness_ScheduledActionsExecuteWhenDue_5 : ∃ s : State, ∃ u : State, ∃ e : SchedEntry, ∃ a : Int, ∃ b : Int, s.takeDue isTrigger = some (e, u) ∧ e.act = .trigger a (some b) ∧ a = s.lastTriggered b ∧ s.tl.waiting = [] ∧ s.triggerFree = true :=
  ⟨({ State.reset with tl := { tick := 17, sched := [⟨1280, .trigger 5 (some 5), some 9, false⟩] } }), ({ State.reset with tl := { tick := 17 } }), (⟨1280, .trigger 5 (some 5), some 9, false⟩), (5), (5), by decide⟩

theorem witness_ScheduledActionsExecuteWhenDue_6 : ∃ s : State, ∃ u : State, ∃ e : SchedEntry, ∃ a : Int, ∃ b : Int, s.takeDue isTrigger = some (e, u) ∧ e.act = .trigger a (some b) ∧ s.lastTriggered b < a :=
  ⟨({ withFlds [(TOP_MODE_MODE, 11)] with tl := { tick := 17, sched := [⟨1280, .trigger 5 (some 6), some 9, false⟩] }, top := { haltLine := some 5 } }), ({ withFlds [(TOP_MODE_MODE, 11)] with tl := { tick := 17 }, top := { haltLine := some 5 } }), (⟨1280, .trigger 5 (some 6), some 9, false⟩), (5), (6), by decide⟩

theorem witness_ScheduledActionsExecuteWhenDue_7 : ∃ s : State, ∃ u : State, ∃ e : SchedEntry, ∃ f : Nat, ∃ l : Int, s.takeDue isFrame = some (e, u) ∧ e.act = .frame f l ∧ (∀ w ∈ allUnits, s.boundaryKind w ≠ .frame f) ∧ (∀ w ∈ List.range 26, s.ctxGen (w / 2) (w % 2) ≠ f) :=
  ⟨({ State.reset with tl := { tick := 17, sched := [⟨512, .frame 3 2, some 9, false⟩] } }), ({ State.reset with tl := { tick := 17 } }), (⟨512, .frame 3 2, some 9, false⟩), (3), (2), by decide⟩

theorem witness_ScheduledActionsExecuteWhenDue_8 : ∃ s : State, ∃ f : Fin 4, ∃ q : Int, ∃ l : Int, (s.frameGen f).prev = some q ∧ s.on TIMELINE_CTRL_RUN = true ∧ s.rd (TIMELINE_FRAME_CTRL_SRC f) = 2 ∧ s.rd (TIMELINE_FRAME_GAPS_MAX_GAP f) ≠ 0 ∧ l = q + s.rd (TIMELINE_FRAME_GAPS_MAX_GAP f) ∧ linePos l * (2 : Int) ^ 24 ≤ s.tl.pos ∧ (∀ w ∈ allUnits, s.boundaryKind w ≠ .frame f) ∧ s.schedUsed < 2048 :=
  ⟨({ withFlds [(TIMELINE_CTRL_RUN, 1), (TIMELINE_FRAME_CTRL_SRC 2, 2), (TIMELINE_FRAME_GAPS_MAX_GAP 2, 1)] with tl := { pos := 5 * (2 : Int) ^ 40, frames := [(2, { prev := some 3 })] } }), (2), (3), (4), by decide⟩

theorem witness_ScheduledActionsExecuteWhenDue_9 : ∃ s : State, ∃ v : State, ∃ u : Fin 29, ∃ e : SchedEntry, ∃ l : Int, ∃ bt : Nat, ∃ lo : Nat, ∃ hi : Nat, ∃ m : Sparse Nat, ∃ p : PendCommit, s.takeCommit (unitOf u) = some (e, v) ∧ e.act = .commit (unitOf u) l ∧ bt = e.due.getD s.now ∧ s.boundaryKind (unitOf u) ≠ .page ∧ (s.unitCtx (unitOf u)).eligible bt = some p ∧ (s.unitCtx (unitOf u)).judged = some (bt, 0, m) ∧ unitRange (unitOf u) = (lo, hi) ∧ badField (unitOf u) (s.shadowAt lo hi bt) = none :=
  ⟨({ State.reset with tl := { tick := 17, sched := [⟨512, .commit .stitch 2, some 9, false⟩, ⟨512, .frame 0 2, some 9, false⟩] }, stitch := { commit := { pend := [⟨3⟩], judged := some (9, 0, []) } } }), ({ State.reset with tl := { tick := 17, sched := [⟨512, .frame 0 2, some 9, false⟩] }, stitch := { commit := { pend := [⟨3⟩], judged := some (9, 0, []) } } }), (26), (⟨512, .commit .stitch 2, some 9, false⟩), (2), (9), (0x300000), (0x310000), ([]), (⟨3⟩), by decide⟩

theorem witness_ScheduledActionsExecuteWhenDue_10 : ∃ s : State, ∃ v : State, ∃ u : Fin 29, ∃ e : SchedEntry, ∃ l : Int, ∃ bt : Nat, ∃ why : Nat, ∃ m : Sparse Nat, ∃ p : PendCommit, s.takeCommit (unitOf u) = some (e, v) ∧ e.act = .commit (unitOf u) l ∧ bt = e.due.getD s.now ∧ s.boundaryKind (unitOf u) ≠ .page ∧ (s.unitCtx (unitOf u)).eligible bt = some p ∧ (s.unitCtx (unitOf u)).judged = some (bt, why, m) ∧ why ≠ 0 :=
  ⟨({ State.reset with tl := { tick := 17, sched := [⟨512, .commit (.pipe 0 1) 2, some 9, false⟩] }, pctx := [(1, { commit := { pend := [⟨3⟩], judged := some (9, 2, []) } })] }), ({ State.reset with tl := { tick := 17 }, pctx := [(1, { commit := { pend := [⟨3⟩], judged := some (9, 2, []) } })] }), (1), (⟨512, .commit (.pipe 0 1) 2, some 9, false⟩), (2), (9), (2), ([]), (⟨3⟩), by decide⟩

theorem witness_ScheduledActionsExecuteWhenDue_11 : ∃ s : State, ∃ v : State, ∃ e : SchedEntry, ∃ l : Int, ∃ bt : Nat, ∃ m : Sparse Nat, ∃ p : PendCommit, ∃ g : Page, s.takeCommit .master = some (e, v) ∧ e.act = .commit .master l ∧ e.late = false ∧ bt = e.due.getD s.now ∧ s.boundaryKind .master = .page ∧ s.mas.pages.find? (fun p => p.start == l) = some g ∧ s.mas.commit.eligible bt = some p ∧ s.mas.commit.judged = some (bt, 0, m) :=
  ⟨({ State.reset with tl := { tick := 17, sched := [⟨1024, .commit .master 65536, some 9, false⟩] }, mas := { commit := { pend := [⟨3⟩], judged := some (9, 0, [(0, 1)]) }, pages := [⟨65536, 0, 0, 0, false, false, false, 7, none, none, none, none, none, false, false⟩] } }), ({ State.reset with tl := { tick := 17 }, mas := { commit := { pend := [⟨3⟩], judged := some (9, 0, [(0, 1)]) }, pages := [⟨65536, 0, 0, 0, false, false, false, 7, none, none, none, none, none, false, false⟩] } }), (⟨1024, .commit .master 65536, some 9, false⟩), (65536), (9), ([(0, 1)]), (⟨3⟩), (⟨65536, 0, 0, 0, false, false, false, 7, none, none, none, none, none, false, false⟩), by decide⟩

theorem witness_StrokeCommandsFollowTheSource_1 : ∃ s : State, ∃ k : Fin 8, s.on (STROKE_ST_CTRL_EN k) = true ∧ (s.stroke k).frozen = none :=
  ⟨({ withFlds [(STROKE_ST_CTRL_EN 3, 1), (STROKE_ST_RATIO 3, 0x5555), (STROKE_ST_TRIM_TARGET 3, 0x10000), (STROKE_ST_SLEW 3, 0x100)] with tl := { pos := 987654321987654 } }), (3), by decide⟩

theorem witness_StrokeCommandsFollowTheSource_2 : ∃ s : State, ∃ k : Fin 8, s.on (STROKE_ST_CTRL_EN k) = true ∧ (s.stroke k).frozen = none ∧ s.rd (STROKE_ST_CTRL_FORM k) = 1 ∧ s.rdS (STROKE_ST_COUNT k) < s.limitTarget k (s.rdS (STROKE_ST_TARGET k)) ∧ ((∀ u, (s.stroke k).lastStep = some u → u + s.rd (STROKE_ST_CTRL_PW k) ≤ s.now)) :=
  ⟨(withFlds [(STROKE_ST_CTRL_EN 3, 1), (STROKE_ST_CTRL_FORM 3, 1), (STROKE_ST_TARGET 3, 5)]), (3), by decide, by decide, by decide, by decide, noneAll (by decide)⟩

theorem witness_StrokeCommandsFollowTheSource_3 : ∃ s : State, ∃ k : Fin 8, s.on (STROKE_ST_CTRL_EN k) = true ∧ (s.stroke k).frozen = none ∧ s.rd (STROKE_ST_CTRL_FORM k) ≠ 1 ∧ (s.stroke k).fwd = false ∧ (s.stroke k).dirAt = none ∧ s.limitTarget k (s.rdS (STROKE_ST_TARGET k)) < s.rdS (STROKE_ST_COUNT k) ∧ ((∀ u, (s.stroke k).lastStep = some u → u + 2 * s.rd (STROKE_ST_CTRL_PW k) ≤ s.now)) :=
  ⟨((withFlds [(STROKE_ST_CTRL_EN 3, 1), (STROKE_ST_CTRL_FORM 3, 0), (STROKE_ST_COUNT 3, 5)]).setStroke 3 { fwd := false }), (3), by decide, by decide, by decide, by decide, by decide, by decide, noneAll (by decide)⟩

theorem witness_StrokeCommandsFollowTheSource_4 : ∃ s : State, ∃ k : Fin 8, s.on (STROKE_ST_CTRL_EN k) = false :=
  ⟨({ withFlds [(STROKE_ST_COUNT 3, 5)] with tl := { pos := 987654321987654 } }), (3), by decide⟩

theorem witness_StrokeCommandsFollowTheSource_6 : ∃ s : State, ∃ k : Fin 8, ∃ ratio : BitVec 32, s.on (STROKE_ST_CTRL_EN k) = true :=
  ⟨({ withFlds [(STROKE_ST_CTRL_EN 7, 1), (STROKE_ST_RATIO 7, 5)] with tl := { pos := 987654321987654 } }), (7), (0xFFFFFFF0), by decide⟩

theorem witness_StrokeCommandsFollowTheSource_7 : ∃ s : State, ∃ k : Fin 8, ∃ target : BitVec 32, (s.stroke k).trimAdd = none :=
  ⟨(withFlds [(STROKE_ST_TRIM_LIMIT 0, 5)]), (0), (9), by decide⟩

theorem witness_LaneCommandsTrackLockAndSwaps_1 : ∃ s : State, ∃ n : Fin 15, ∃ l : Fin 5, ∃ w : BitVec 64, ∃ blocks : Nat, ∃ skew : Int, ∃ stuffed : Nat, ∃ eyeH : BitVec 8, ∃ eyeV : BitVec 8, s.on (ZL_CTRL_EN n) = true ∧ markerOk w.toNat = true ∧ bitsAt w.toNat 32 4 = s.rd (rxMapF n l) ∧ bitAt w.toNat 39 = false ∧ l.val ∈ s.activeLanes n (s.groupOfLane n l) ∧ s.groupUp n (s.groupOfLane n l) = false ∧ skew.natAbs ≤ 16 :=
  ⟨((withFlds [(ZL_CTRL_EN 13, 1)]).setLane 13 1 { found := true }), (13), (1), (BitVec.ofNat 64 (withCheck (markerWord 1 1 0 0))), (16384), (-3), (2), (7), (9), by decide⟩

theorem witness_LaneCommandsTrackLockAndSwaps_2 : ∃ s : State, ∃ n : Fin 15, ∃ l : Fin 5, s.on (ZL_CTRL_EN n) = true ∧ s.inGap n l = false ∧ (s.on (ZL_LANE_STATUS_LOCK n l) = false ∨ (s.lane n l).bad = 0) :=
  ⟨(withFlds [(ZL_CTRL_EN 13, 1)]), (13), (1), by decide⟩

theorem witness_LaneCommandsTrackLockAndSwaps_3 : ∃ s : State, ∃ n : Fin 15, ∃ l : Fin 5, s.on (ZL_CTRL_EN n) = true ∧ s.inGap n l = false ∧ s.on (ZL_LANE_STATUS_LOCK n l) = true ∧ 0 < (s.lane n l).bad ∧ s.groupUp n (s.groupOfLane n l) = false :=
  ⟨((withFlds [(ZL_CTRL_EN 2, 1), (ZL_LANE_STATUS_LOCK 2 4, 1), (ZL_LANE_STATUS_ALIGNED 2 4, 1), (ZL_STATUS_SPARE_READY 2, 1)]).setLane 2 4 { found := true, bad := 1 }), (2), (4), by decide⟩

theorem witness_LaneCommandsTrackLockAndSwaps_4 : ∃ s : State, ∃ n : Fin 15, ∃ w : LaneSwap, (s.port n).swapTx = some w ∧ w.since + 400 ≤ s.now ∧ w.dest < 5 ∧ s.mode ≠ 7 ∧ s.mode ≠ 8 :=
  ⟨({ withFlds [(ZL_CTRL_EN 2, 1)] with tl := { tick := 1000 }, zl := [(2, { swapTx := some ⟨0, 3, 4, true, 10⟩ })] }), (2), (⟨0, 3, 4, true, 10⟩), by decide⟩

theorem witness_LaneCommandsTrackLockAndSwaps_5 : ∃ s : State, ∃ n : Fin 15, s.on (ZL_SWAP_DIR n) = true ∧ s.on (ZL_SWAP_RELEASE n) = false ∧ (s.port n).swapTx = none ∧ (s.port n).spareTx = none ∧ s.spareServes n (s.rd (ZL_SWAP_GROUP n)) = true ∧ s.rd (ZL_SWAP_LANE n) < s.logicals n :=
  ⟨(withFlds [(ZL_SWAP_DIR 14, 1), (ZL_SWAP_LANE 14, 1)]), (14), by decide⟩

theorem witness_LaneCommandsTrackLockAndSwaps_6 : ∃ s : State, ∃ n : Fin 15, s.on (ZL_CTRL_EN n) = true ∧ s.on (ZL_CTRL_AUTO_LREF n) = true ∧ s.groupUp n 0 = false ∧ s.groupUp n 1 = false :=
  ⟨(withFlds [(ZL_CTRL_EN 2, 1), (ZL_CTRL_AUTO_LREF 2, 1), (ZL_LANE_STATUS_LOCK 2 4, 1)]), (2), by decide⟩

theorem witness_LaneCommandsTrackLockAndSwaps_7 : ∃ s : State, ∃ n : Fin 15, ∃ g : Fin 2, ∃ lane : Fin 4, ∃ slots : BitVec 16, (s.port n).gapAsked = none :=
  ⟨(State.reset), (0), (0), (3), (350), by decide⟩

theorem witness_LaneCommandsTrackLockAndSwaps_8 : ∃ s : State, ∃ n : Fin 15, ∃ a : Nat, ∃ t0 : Nat, (s.port n).gapAsked = some (a, t0) ∧ t0 + s.rd (ZL_TIMEOUTS_GAP_WAIT n) * 400 ≤ s.now :=
  ⟨({ withFlds [] with tl := { tick := 1000000000 }, zl := [(2, { gapAsked := some (1, 0) })] }), (2), (1), (0), by decide⟩

theorem witness_LinkRequestsAreActedOnOnce_1 : ∃ s : State, ∃ n : Fin 15, ∃ seq : BitVec 16, ∃ id : BitVec 8, spGet (fun _ => none) (s.port n).lastReq 1 ≠ some id.toNat ∧ (s.port n).waiting = [] ∧ ((∃ e ∈ (s.port n).replay, seqAhead e.pkt.seq seq.toNat < 32768)) :=
  ⟨({ State.reset with zl := [(14, { replay := [⟨{ ty := 0x12, seq := 65535 }, 0⟩, ⟨{ ty := 0x12, seq := 0 }, 0⟩, ⟨{ ty := 0x12, seq := 1 }, 0⟩] })] }), (14), (0), (0), by decide, by decide, ⟨_, List.mem_cons_self .., by decide⟩⟩

theorem witness_LinkRequestsAreActedOnOnce_2 : ∃ s : State, ∃ n : Fin 15, ∃ seq : BitVec 16, ∃ id : BitVec 8, spGet (fun _ => none) (s.port n).lastReq 2 ≠ some id.toNat ∧ (∀ e ∈ (s.port n).replay, e.sends < 4) :=
  ⟨({ State.reset with zl := [(14, { replay := [⟨{ ty := 0x12, seq := 65535 }, 0⟩, ⟨{ ty := 0x12, seq := 0 }, 0⟩, ⟨{ ty := 0x12, seq := 1 }, 3⟩] })] }), (14), (65535), (7), by decide⟩

theorem witness_LinkRequestsAreActedOnOnce_3 : ∃ s : State, ∃ n : Fin 15, ∃ g : Fin 2, ∃ lane : Fin 4, ∃ id : BitVec 8, spGet (fun _ => none) (s.port n).lastReq 3 ≠ some id.toNat ∧ (s.port n).swapTx = none ∧ (s.port n).spareTx = none ∧ s.spareServes n g = true ∧ lane.val < s.logicals n :=
  ⟨(State.reset), (14), (0), (1), (0), by decide⟩

theorem witness_LinkRequestsAreActedOnOnce_4 : ∃ s : State, ∃ n : Fin 15, ∃ g : Fin 2, ∃ lane : Fin 4, ∃ id : BitVec 8, ∃ l : Nat, spGet (fun _ => none) (s.port n).lastReq 4 ≠ some id.toNat ∧ (s.port n).swapTx = none ∧ (s.port n).spareTx = some (g.val, lane.val, l) ∧ lane.val < s.logicals n :=
  ⟨({ State.reset with zl := [(14, { spareTx := some (0, 1, 1) })] }), (14), (0), (1), (0), (1), by decide⟩

theorem witness_LinkRequestsAreActedOnOnce_5 : ∃ s : State, ∃ n : Fin 15, ∃ g : Fin 2, ∃ lane : Fin 4, ∃ id : BitVec 8, spGet (fun _ => none) (s.port n).lastReq 5 ≠ some id.toNat :=
  ⟨(State.reset), (0), (0), (1), (255), by decide⟩

theorem witness_LinkRequestsAreActedOnOnce_6 : ∃ s : State, ∃ n : Fin 15, ∃ g : Fin 2, ∃ lane : Fin 4, ∃ seq : BitVec 16, ∃ id : BitVec 8, (∀ k ∈ List.range 6, spGet (fun _ => none) (s.port n).lastReq k = some id.toNat) :=
  ⟨({ State.reset with zl := [(0, { lastReq := [(0, some 9), (1, some 9), (2, some 9), (3, some 9), (4, some 9), (5, some 9)] })] }), (0), (0), (1), (0), (9), by decide⟩

theorem witness_LinkRequestsAreActedOnOnce_8 : ∃ s : State, ∃ n : Fin 15, ∃ g : Fin 2, ∃ slot : Fin 16384, ∃ b : BitVec 64, s.on (ZL_CTRL_EN n) = true ∧ b.toNat % 256 = 0xF0 ∧ bitsAt b.toNat 8 4 = 5 ∧ bitsAt b.toNat 12 4 < 4 :=
  ⟨(withFlds [(ZL_CTRL_EN 1, 1)]), (1), (0), (0), (0x03000025F0), by decide⟩

theorem witness_LinkRequestsAreActedOnOnce_9 : ∃ s : State, ∃ n : Fin 15, ∃ g : Fin 2, ∃ slot : Fin 16384, ∃ b : BitVec 64, s.on (ZL_CTRL_EN n) = true ∧ b.toNat % 256 ≠ 0xF0 ∧ slot.val % 1024 = 1023 :=
  ⟨(withFlds [(ZL_CTRL_EN 1, 1)]), (1), (0), (1023), (0), by decide⟩

theorem witness_PortCommandsIdleTrainEnableAndReset_3 : ∃ s : State, ∃ n : Fin 15, ∃ l : Fin 5, s.top.inQ.length < 64 :=
  ⟨(State.reset), (3), (4), by decide⟩

theorem witness_PortCommandsIdleTrainEnableAndReset_4 : ∃ s : State, ∃ n : Fin 15, s.on (ZL_CTRL_IDLE_REQ n) = false ∧ s.on (ZL_CTRL_EN n) = true :=
  ⟨(withFlds [(ZL_CTRL_EN 1, 1)]), (1), by decide⟩

theorem witness_PortCommandsIdleTrainEnableAndReset_5 : ∃ s : State, ∃ n : Fin 15, s.on (ZL_CTRL_EN n) = true :=
  ⟨(withFlds [(ZL_CTRL_EN 1, 1), (ZL_CTRL_IDLE_REQ 1, 1)]), (1), by decide⟩

theorem witness_PortCommandsIdleTrainEnableAndReset_6 : ∃ s : State, ∃ n : Fin 15, n.val < 12 ∧ s.rd (ZL_CTRL_PORT_MODE n) ≠ 1 ∧ s.groupUp n 0 = true :=
  ⟨(withFlds [(ZL_CTRL_EN 1, 1), (ZL_STATUS_UP_A 1, 1)]), (1), by decide⟩

theorem witness_PortCommandsIdleTrainEnableAndReset_7 : ∃ s : State, ∃ n : Fin 15, ∃ g : Fin 2, ∃ replies : List (Nat × Nat), (s.grp n g).training = true ∧ replies.length = s.rd (ZL_TRAIN_COUNT n) ∧ spread (replies.map (·.1)) ≤ 4 ∧ spread (replies.map (·.2)) ≤ 4 :=
  ⟨({ withFlds [(ZL_TRAIN_COUNT 1, 2)] with zl := [(1, { groups := [(1, { training := true })] })] }), (1), (1), ([(100, 50), (104, 51)]), by decide⟩

theorem witness_PortCommandsIdleTrainEnableAndReset_8 : ∃ s : State, ∃ n : Fin 15, s.on (ZL_CTRL_EN n) = false ∧ s.mode ≠ 7 ∧ s.mode ≠ 8 :=
  ⟨(withFlds [(ZL_STATUS_RX_IDLE 3, 1), (ZL_CTRL_LREF 3, 1)]), (3), by decide⟩

theorem witness_PortCommandsIdleTrainEnableAndReset_9 : ∃ s : State, ∃ n : Fin 15, s.groupUp n 0 = false ∧ s.groupUp n 1 = false :=
  ⟨({ withFlds [] with zl := [(1, { groups := [(1, { ow := some 5 })], replay := [⟨{ ty := 0x12, seq := 65535 }, 0⟩] })] }), (1), by decide⟩

theorem witness_PortCommandsIdleTrainEnableAndReset_10 : ∃ s : State, ∃ n : Fin 15, s.groupUp n 0 = false ∧ s.groupUp n 1 = false :=
  ⟨(withFlds [(ZL_LANE_STATUS_LOCK 2 4, 1)]), (2), by decide⟩

theorem witness_PortCommandsIdleTrainEnableAndReset_11 : ∃ s : State, ∃ n : Fin 15, ∃ v : BitVec 2, v.toNat ≠ 3 ∧ (v.toNat = 0 ∨ s.mode = 10) :=
  ⟨(withFlds [(TOP_MODE_MODE, 10)]), (2), (2), by decide⟩

theorem witness_PortCommandsIdleTrainEnableAndReset_12 : ∃ s : State, ∃ n : Fin 15, ∃ v : BitVec 2, (v.toNat = 3 ∨ (v.toNat ≠ 0 ∧ s.mode ≠ 10)) :=
  ⟨(withFlds [(TOP_MODE_MODE, 7)]), (2), (2), by decide⟩

end Sys2Proof.Tests
end

