-- ==== Sys2Proof/Tests/WitnessPrograms.lean ====
section
/-! SUPPORT. For each clause of the nib, scribe, DMA and event statements, a concrete state and operands that meet its
hypotheses together. -/

namespace Sys2Proof.Tests

open Sys2Proof Sys2Proof.Machine

set_option linter.unusedVariables false
set_option maxRecDepth 100000
set_option exponentiation.threshold 400

theorem witness_ScalarNibInstructionsWriteOneRegister_1 : ∃ s : State, ∃ q : Fin 12, ∃ t : Fin 17, ∃ f : Fin 17, ∃ d : Fin 32, ∃ a : Fin 32, ∃ b : Fin 32, s.nibAt q t (.salu f d a b) :=
  ⟨(withNib (State.reset) 11 16 (.salu 1 31 1 2) { sreg := [(1, 100), (2, 4294967295)], vreg := [(1, lanes (fun i => 3 * i)), (2, lanes (fun i => 65535 - i))], mreg := [(2, 5)] }), (11), (16), (1), (31), (1), (2), by decide⟩

theorem witness_ScalarNibInstructionsWriteOneRegister_2 : ∃ s : State, ∃ q : Fin 12, ∃ t : Fin 17, ∃ d : Fin 32, ∃ a : Fin 32, s.nibAt q t (.clz d a) :=
  ⟨(withNib (State.reset) 11 16 (.clz 31 1) { sreg := [(1, 100), (2, 4294967295)], vreg := [(1, lanes (fun i => 3 * i)), (2, lanes (fun i => 65535 - i))], mreg := [(2, 5)] }), (11), (16), (31), (1), by decide⟩

theorem witness_ScalarNibInstructionsWriteOneRegister_3 : ∃ s : State, ∃ q : Fin 12, ∃ t : Fin 17, ∃ d : Fin 32, ∃ a : Fin 32, ∃ imm : Fin 65536, s.nibAt q t (.saddi d a imm) :=
  ⟨(withNib (State.reset) 11 16 (.saddi 31 1 65535) { sreg := [(1, 100), (2, 4294967295)], vreg := [(1, lanes (fun i => 3 * i)), (2, lanes (fun i => 65535 - i))], mreg := [(2, 5)] }), (11), (16), (31), (1), (65535), by decide⟩

theorem witness_ScalarNibInstructionsWriteOneRegister_4 : ∃ s : State, ∃ q : Fin 12, ∃ t : Fin 17, ∃ d : Fin 32, ∃ a : Fin 32, ∃ imm : Fin 65536, s.nibAt q t (.sandi d a imm) :=
  ⟨(withNib (State.reset) 11 16 (.sandi 31 2 65534) { sreg := [(1, 100), (2, 4294967295)], vreg := [(1, lanes (fun i => 3 * i)), (2, lanes (fun i => 65535 - i))], mreg := [(2, 5)] }), (11), (16), (31), (2), (65534), by decide⟩

theorem witness_ScalarNibInstructionsWriteOneRegister_5 : ∃ s : State, ∃ q : Fin 12, ∃ t : Fin 17, ∃ d : Fin 32, ∃ a : Fin 32, ∃ imm : Fin 65536, s.nibAt q t (.sori d a imm) :=
  ⟨(withNib (State.reset) 11 16 (.sori 31 2 65534) { sreg := [(1, 100), (2, 4294967295)], vreg := [(1, lanes (fun i => 3 * i)), (2, lanes (fun i => 65535 - i))], mreg := [(2, 5)] }), (11), (16), (31), (2), (65534), by decide⟩

theorem witness_ScalarNibInstructionsWriteOneRegister_6 : ∃ s : State, ∃ q : Fin 12, ∃ t : Fin 17, ∃ d : Fin 32, ∃ a : Fin 32, ∃ imm : Fin 65536, s.nibAt q t (.sxori d a imm) :=
  ⟨(withNib (State.reset) 11 16 (.sxori 31 2 65534) { sreg := [(1, 100), (2, 4294967295)], vreg := [(1, lanes (fun i => 3 * i)), (2, lanes (fun i => 65535 - i))], mreg := [(2, 5)] }), (11), (16), (31), (2), (65534), by decide⟩

theorem witness_ScalarNibInstructionsWriteOneRegister_7 : ∃ s : State, ∃ q : Fin 12, ∃ t : Fin 17, ∃ c : Fin 10, ∃ d : Fin 32, ∃ a : Fin 32, ∃ k : Fin 4096, s.nibAt q t (.scmpi c d a k) :=
  ⟨(withNib (State.reset) 11 16 (.scmpi 9 31 2 4095) { sreg := [(1, 100), (2, 4294967295)], vreg := [(1, lanes (fun i => 3 * i)), (2, lanes (fun i => 65535 - i))], mreg := [(2, 5)] }), (11), (16), (9), (31), (2), (4095), by decide⟩

theorem witness_ScalarNibInstructionsWriteOneRegister_8 : ∃ s : State, ∃ q : Fin 12, ∃ t : Fin 17, ∃ d : Fin 32, ∃ a : Fin 32, ∃ imm : Fin 65536, s.nibAt q t (.sinsl d a imm) :=
  ⟨(withNib (State.reset) 11 16 (.sinsl 31 2 7) { sreg := [(1, 100), (2, 4294967295)], vreg := [(1, lanes (fun i => 3 * i)), (2, lanes (fun i => 65535 - i))], mreg := [(2, 5)] }), (11), (16), (31), (2), (7), by decide⟩

theorem witness_ScalarNibInstructionsWriteOneRegister_9 : ∃ s : State, ∃ q : Fin 12, ∃ t : Fin 17, ∃ d : Fin 32, ∃ a : Fin 32, ∃ imm : Fin 65536, s.nibAt q t (.sinsh d a imm) :=
  ⟨(withNib (State.reset) 11 16 (.sinsh 31 2 7) { sreg := [(1, 100), (2, 4294967295)], vreg := [(1, lanes (fun i => 3 * i)), (2, lanes (fun i => 65535 - i))], mreg := [(2, 5)] }), (11), (16), (31), (2), (7), by decide⟩

theorem witness_ScalarNibInstructionsWriteOneRegister_10 : ∃ s : State, ∃ q : Fin 12, ∃ t : Fin 17, ∃ k : Fin 4, ∃ d : Fin 32, ∃ a : Fin 32, ∃ n : Fin 32, s.nibAt q t (.shi k d a n) :=
  ⟨(withNib (State.reset) 11 16 (.shi 3 31 1 0) { sreg := [(1, 100), (2, 4294967295)], vreg := [(1, lanes (fun i => 3 * i)), (2, lanes (fun i => 65535 - i))], mreg := [(2, 5)] }), (11), (16), (3), (31), (1), (0), by decide⟩

theorem witness_ScalarNibInstructionsWriteOneRegister_11 : ∃ s : State, ∃ q : Fin 12, ∃ t : Fin 17, ∃ d : Fin 32, ∃ a : Fin 32, ∃ b : Fin 32, ∃ sh : Fin 64, ∃ sat : Bool, ∃ tr : Bool, s.nibAt q t (.mulsr d a b sh sat tr) :=
  ⟨(withNib (State.reset) 11 16 (.mulsr 31 1 2 3 true false) { sreg := [(1, 100), (2, 4294967295)], vreg := [(1, lanes (fun i => 3 * i)), (2, lanes (fun i => 65535 - i))], mreg := [(2, 5)] }), (11), (16), (31), (1), (2), (3), (true), (false), by decide⟩

theorem witness_ScalarNibInstructionsWriteOneRegister_12 : ∃ s : State, ∃ q : Fin 12, ∃ t : Fin 17, ∃ d : Fin 32, ∃ a : Fin 32, ∃ b : Fin 32, ∃ sh : Fin 64, ∃ sat : Bool, ∃ tr : Bool, s.nibAt q t (.mulsru d a b sh sat tr) :=
  ⟨(withNib (State.reset) 11 16 (.mulsru 31 1 2 3 true false) { sreg := [(1, 100), (2, 4294967295)], vreg := [(1, lanes (fun i => 3 * i)), (2, lanes (fun i => 65535 - i))], mreg := [(2, 5)] }), (11), (16), (31), (1), (2), (3), (true), (false), by decide⟩

theorem witness_ScalarNibInstructionsWriteOneRegister_13 : ∃ s : State, ∃ q : Fin 12, ∃ t : Fin 17, ∃ d : Fin 32, ∃ k : Fin 14, s.nibAt q t (.getsr d k) ∧ k ≠ 11 :=
  ⟨(withNib (State.reset) 11 16 (.getsr 31 13) { sreg := [(1, 100), (2, 4294967295)], vreg := [(1, lanes (fun i => 3 * i)), (2, lanes (fun i => 65535 - i))], mreg := [(2, 5)] }), (11), (16), (31), (13), by decide⟩

theorem witness_ScalarNibInstructionsWriteOneRegister_14 : ∃ s : State, ∃ q : Fin 12, ∃ t : Fin 17, ∃ d : Fin 32, ∃ h : Nat, s.nibAt q t (.getsr d 11) ∧ (s.nib q t).ev = some h ∧ d ≠ 0 :=
  ⟨(withNib (State.reset) 11 16 (.getsr 31 11) { ev := some 3 }), (11), (16), (31), (3), by decide⟩

theorem witness_VectorNibInstructionsWriteUnderTheirMask_1 : ∃ s : State, ∃ q : Fin 12, ∃ t : Fin 17, ∃ f : Fin 19, ∃ d : Fin 32, ∃ a : Fin 32, ∃ b : Fin 32, ∃ m : Fin 8, s.nibAt q t (.valu f d a b m) :=
  ⟨(withNib (State.reset) 11 16 (.valu 0 31 1 2 2) { sreg := [(1, 100), (2, 4294967295)], vreg := [(1, lanes (fun i => 3 * i)), (2, lanes (fun i => 65535 - i))], mreg := [(2, 5)] }), (11), (16), (0), (31), (1), (2), (2), by decide⟩

theorem witness_VectorNibInstructionsWriteUnderTheirMask_2 : ∃ s : State, ∃ q : Fin 12, ∃ t : Fin 17, ∃ f : Fin 19, ∃ d : Fin 32, ∃ a : Fin 32, ∃ b : Fin 32, ∃ m : Fin 8, s.nibAt q t (.valus f d a b m) :=
  ⟨(withNib (State.reset) 11 16 (.valus 18 31 1 2 2) { sreg := [(1, 100), (2, 4294967295)], vreg := [(1, lanes (fun i => 3 * i)), (2, lanes (fun i => 65535 - i))], mreg := [(2, 5)] }), (11), (16), (18), (31), (1), (2), (2), by decide⟩

theorem witness_VectorNibInstructionsWriteUnderTheirMask_3 : ∃ s : State, ∃ q : Fin 12, ∃ t : Fin 17, ∃ d : Fin 32, ∃ a : Fin 32, ∃ m : Fin 8, s.nibAt q t (.vmov d a m) :=
  ⟨(withNib (State.reset) 11 16 (.vmov 31 1 2) { sreg := [(1, 100), (2, 4294967295)], vreg := [(1, lanes (fun i => 3 * i)), (2, lanes (fun i => 65535 - i))], mreg := [(2, 5)] }), (11), (16), (31), (1), (2), by decide⟩

theorem witness_VectorNibInstructionsWriteUnderTheirMask_4 : ∃ s : State, ∃ q : Fin 12, ∃ t : Fin 17, ∃ d : Fin 32, ∃ a : Fin 32, ∃ b : Fin 32, ∃ m : Fin 8, ∃ sh : Fin 32, ∃ us : Bool, ∃ sat : Bool, ∃ tr : Bool, s.nibAt q t (.vmul d a b m sh us sat tr) :=
  ⟨(withNib (State.reset) 11 16 (.vmul 31 1 2 2 3 false true false) { sreg := [(1, 100), (2, 4294967295)], vreg := [(1, lanes (fun i => 3 * i)), (2, lanes (fun i => 65535 - i))], mreg := [(2, 5)] }), (11), (16), (31), (1), (2), (2), (3), (false), (true), (false), by decide⟩

theorem witness_VectorNibInstructionsWriteUnderTheirMask_5 : ∃ s : State, ∃ q : Fin 12, ∃ t : Fin 17, ∃ d : Fin 32, ∃ a : Fin 32, ∃ b : Fin 32, ∃ m : Fin 8, ∃ sh : Fin 32, ∃ us : Bool, ∃ sat : Bool, ∃ tr : Bool, s.nibAt q t (.vmuls d a b m sh us sat tr) :=
  ⟨(withNib (State.reset) 11 16 (.vmuls 31 1 2 2 3 false true false) { sreg := [(1, 100), (2, 4294967295)], vreg := [(1, lanes (fun i => 3 * i)), (2, lanes (fun i => 65535 - i))], mreg := [(2, 5)] }), (11), (16), (31), (1), (2), (2), (3), (false), (true), (false), by decide⟩

theorem witness_VectorNibInstructionsWriteUnderTheirMask_6 : ∃ s : State, ∃ q : Fin 12, ∃ t : Fin 17, ∃ k : Fin 16, ∃ a : Fin 32, ∃ b : Fin 32, ∃ m : Fin 8, ∃ sub : Bool, ∃ us : Bool, ∃ sat : Bool, s.nibAt q t (.vmac k a b m sub false us sat) :=
  ⟨(withNib (State.reset) 11 16 (.vmac 15 1 2 2 true false false true) { sreg := [(1, 100), (2, 4294967295)], vreg := [(1, lanes (fun i => 3 * i)), (2, lanes (fun i => 65535 - i))], mreg := [(2, 5)] }), (11), (16), (15), (1), (2), (2), (true), (false), (true), by decide⟩

theorem witness_VectorNibInstructionsWriteUnderTheirMask_7 : ∃ s : State, ∃ q : Fin 12, ∃ t : Fin 17, ∃ d : Fin 32, ∃ k : Fin 16, ∃ m : Fin 8, ∃ sh : Fin 32, ∃ us : Bool, ∃ sat : Bool, ∃ tr : Bool, s.nibAt q t (.vnar d k m sh us sat tr) :=
  ⟨(withNib (State.reset) 11 16 (.vnar 31 1 2 3 false true false) { sreg := [(1, 100), (2, 4294967295)], vreg := [(1, lanes (fun i => 3 * i)), (2, lanes (fun i => 65535 - i))], mreg := [(2, 5)] }), (11), (16), (31), (1), (2), (3), (false), (true), (false), by decide⟩

theorem witness_VectorNibInstructionsWriteUnderTheirMask_8 : ∃ s : State, ∃ q : Fin 12, ∃ t : Fin 17, ∃ c : Fin 10, ∃ d : Fin 7, ∃ a : Fin 32, ∃ b : Fin 32, ∃ m : Fin 8, s.nibAt q t (.vcmp c d a b m) :=
  ⟨(withNib (State.reset) 11 16 (.vcmp 2 6 1 2 2) { sreg := [(1, 100), (2, 4294967295)], vreg := [(1, lanes (fun i => 3 * i)), (2, lanes (fun i => 65535 - i))], mreg := [(2, 5)] }), (11), (16), (2), (6), (1), (2), (2), by decide⟩

theorem witness_VectorNibInstructionsWriteUnderTheirMask_9 : ∃ s : State, ∃ q : Fin 12, ∃ t : Fin 17, ∃ c : Fin 10, ∃ d : Fin 7, ∃ a : Fin 32, ∃ b : Fin 32, ∃ m : Fin 8, s.nibAt q t (.vcmps c d a b m) :=
  ⟨(withNib (State.reset) 11 16 (.vcmps 3 6 1 2 2) { sreg := [(1, 100), (2, 4294967295)], vreg := [(1, lanes (fun i => 3 * i)), (2, lanes (fun i => 65535 - i))], mreg := [(2, 5)] }), (11), (16), (3), (6), (1), (2), (2), by decide⟩

theorem witness_VectorNibInstructionsWriteUnderTheirMask_10 : ∃ s : State, ∃ q : Fin 12, ∃ t : Fin 17, ∃ d : Fin 32, ∃ a : Fin 32, ∃ b : Fin 32, ∃ m : Fin 8, s.nibAt q t (.vsel d a b m) :=
  ⟨(withNib (State.reset) 11 16 (.vsel 31 1 2 2) { sreg := [(1, 100), (2, 4294967295)], vreg := [(1, lanes (fun i => 3 * i)), (2, lanes (fun i => 65535 - i))], mreg := [(2, 5)] }), (11), (16), (31), (1), (2), (2), by decide⟩

theorem witness_VectorNibInstructionsWriteUnderTheirMask_11 : ∃ s : State, ∃ q : Fin 12, ∃ t : Fin 17, ∃ f : Fin 4, ∃ d : Fin 7, ∃ a : Fin 8, ∃ b : Fin 8, s.nibAt q t (.vmaskLogic f d a b) :=
  ⟨(withNib (State.reset) 11 16 (.vmaskLogic 3 6 0 2) { sreg := [(1, 100), (2, 4294967295)], vreg := [(1, lanes (fun i => 3 * i)), (2, lanes (fun i => 65535 - i))], mreg := [(2, 5)] }), (11), (16), (3), (6), (0), (2), by decide⟩

theorem witness_VectorNibInstructionsWriteUnderTheirMask_12 : ∃ s : State, ∃ q : Fin 12, ∃ t : Fin 17, ∃ d : Fin 7, ∃ a : Fin 32, ∃ b : Fin 32, s.nibAt q t (.vmaskSet d a b) :=
  ⟨(withNib (State.reset) 11 16 (.vmaskSet 6 1 2) { sreg := [(1, 100), (2, 4294967295)], vreg := [(1, lanes (fun i => 3 * i)), (2, lanes (fun i => 65535 - i))], mreg := [(2, 5)] }), (11), (16), (6), (1), (2), by decide⟩

theorem witness_VectorNibInstructionsWriteUnderTheirMask_13 : ∃ s : State, ∃ q : Fin 12, ∃ t : Fin 17, ∃ f : Fin 4, ∃ d : Fin 32, ∃ a : Fin 8, s.nibAt q t (.vmaskRead f d a) :=
  ⟨(withNib (State.reset) 11 16 (.vmaskRead 0 31 2) { sreg := [(1, 100), (2, 4294967295)], vreg := [(1, lanes (fun i => 3 * i)), (2, lanes (fun i => 65535 - i))], mreg := [(2, 5)] }), (11), (16), (0), (31), (2), by decide⟩

theorem witness_VectorNibInstructionsWriteUnderTheirMask_14 : ∃ s : State, ∃ q : Fin 12, ∃ t : Fin 17, ∃ f : Fin 8, ∃ d : Fin 32, ∃ a : Fin 32, ∃ m : Fin 8, s.nibAt q t (.vred f d a m) :=
  ⟨(withNib (State.reset) 11 16 (.vred 0 31 2 2) { sreg := [(1, 100), (2, 4294967295)], vreg := [(1, lanes (fun i => 3 * i)), (2, lanes (fun i => 65535 - i))], mreg := [(2, 5)] }), (11), (16), (0), (31), (2), (2), by decide⟩

theorem witness_VectorNibInstructionsWriteUnderTheirMask_15 : ∃ s : State, ∃ q : Fin 12, ∃ t : Fin 17, ∃ up : Bool, ∃ d : Fin 32, ∃ a : Fin 32, ∃ b : Fin 32, ∃ m : Fin 8, ∃ k : Fin 64, s.nibAt q t (.vslide up d a b m k) :=
  ⟨(withNib (State.reset) 11 16 (.vslide true 31 1 2 0 63) { sreg := [(1, 100), (2, 4294967295)], vreg := [(1, lanes (fun i => 3 * i)), (2, lanes (fun i => 65535 - i))], mreg := [(2, 5)] }), (11), (16), (true), (31), (1), (2), (0), (63), by decide⟩

theorem witness_VectorNibInstructionsWriteUnderTheirMask_16 : ∃ s : State, ∃ q : Fin 12, ∃ t : Fin 17, ∃ d : Fin 32, ∃ a : Fin 32, ∃ m : Fin 8, s.nibAt q t (.vsplat d a m) :=
  ⟨(withNib (State.reset) 11 16 (.vsplat 31 1 2) { sreg := [(1, 100), (2, 4294967295)], vreg := [(1, lanes (fun i => 3 * i)), (2, lanes (fun i => 65535 - i))], mreg := [(2, 5)] }), (11), (16), (31), (1), (2), by decide⟩

theorem witness_VectorNibInstructionsWriteUnderTheirMask_17 : ∃ s : State, ∃ q : Fin 12, ∃ t : Fin 17, ∃ d : Fin 32, ∃ a : Fin 32, ∃ b : Fin 32, ∃ x : Bool, s.nibAt q t (.vext d a b x) :=
  ⟨(withNib (State.reset) 11 16 (.vext 31 2 1 true) { sreg := [(1, 100), (2, 4294967295)], vreg := [(1, lanes (fun i => 3 * i)), (2, lanes (fun i => 65535 - i))], mreg := [(2, 5)] }), (11), (16), (31), (2), (1), (true), by decide⟩

theorem witness_NibLoadsAndStoresMoveAlignedBytes_1 : ∃ s : State, ∃ q : Fin 12, ∃ t : Fin 17, ∃ d : Fin 32, ∃ a : Fin 32, ∃ o : Fin 65536, s.nibAt q t (.lw d a o) ∧ (s.nib q t).ea a o % 4 = 0 ∧ (s.nib q t).ea a o + 4 ≤ 0x40000 :=
  ⟨(withNib (State.reset) 11 16 (.lw 31 1 0) { sreg := [(1, 128), (2, 0x01000080)], mem := [(128, 7), (129, 8), (131, 9)], vreg := [(1, lanes (fun i => 3 * i))], mreg := [(2, 5)] }), (11), (16), (31), (1), (0), by decide⟩

theorem witness_NibLoadsAndStoresMoveAlignedBytes_2 : ∃ s : State, ∃ q : Fin 12, ∃ t : Fin 17, ∃ d : Fin 32, ∃ a : Fin 32, ∃ o : Fin 65536, s.nibAt q t (.lhu d a o) ∧ (s.nib q t).ea a o % 2 = 0 ∧ (s.nib q t).ea a o + 2 ≤ 0x40000 :=
  ⟨(withNib (State.reset) 11 16 (.lhu 31 1 2) { sreg := [(1, 128), (2, 0x01000080)], mem := [(128, 7), (129, 8), (131, 9)], vreg := [(1, lanes (fun i => 3 * i))], mreg := [(2, 5)] }), (11), (16), (31), (1), (2), by decide⟩

theorem witness_NibLoadsAndStoresMoveAlignedBytes_3 : ∃ s : State, ∃ q : Fin 12, ∃ t : Fin 17, ∃ d : Fin 32, ∃ a : Fin 32, ∃ o : Fin 65536, s.nibAt q t (.vld d a o) ∧ (s.nib q t).ea a o % 128 = 0 ∧ (s.nib q t).ea a o + 128 ≤ 0x40000 :=
  ⟨(withNib (State.reset) 11 16 (.vld 31 1 0) { sreg := [(1, 128), (2, 0x01000080)], mem := [(128, 7), (129, 8), (131, 9)], vreg := [(1, lanes (fun i => 3 * i))], mreg := [(2, 5)] }), (11), (16), (31), (1), (0), by decide⟩

theorem witness_NibLoadsAndStoresMoveAlignedBytes_4 : ∃ s : State, ∃ q : Fin 12, ∃ t : Fin 17, ∃ d : Fin 7, ∃ a : Fin 32, ∃ o : Fin 65536, s.nibAt q t (.vldm d a o) ∧ (s.nib q t).ea a o % 8 = 0 ∧ (s.nib q t).ea a o + 8 ≤ 0x40000 :=
  ⟨(withNib (State.reset) 11 16 (.vldm 6 1 0) { sreg := [(1, 128), (2, 0x01000080)], mem := [(128, 7), (129, 8), (131, 9)], vreg := [(1, lanes (fun i => 3 * i))], mreg := [(2, 5)] }), (11), (16), (6), (1), (0), by decide⟩

theorem witness_NibLoadsAndStoresMoveAlignedBytes_5 : ∃ s : State, ∃ q : Fin 12, ∃ t : Fin 17, ∃ d : Fin 32, ∃ a : Fin 32, ∃ o : Fin 65536, s.nibAt q t (.sw d a o) ∧ (s.nib q t).ea a o % 4 = 0 ∧ (s.nib q t).ea a o + 4 ≤ 0x40000 :=
  ⟨(withNib (State.reset) 11 16 (.sw 1 1 65532) { sreg := [(1, 128), (2, 0x01000080)], mem := [(128, 7), (129, 8), (131, 9)], vreg := [(1, lanes (fun i => 3 * i))], mreg := [(2, 5)] }), (11), (16), (1), (1), (65532), by decide⟩

theorem witness_NibLoadsAndStoresMoveAlignedBytes_6 : ∃ s : State, ∃ q : Fin 12, ∃ t : Fin 17, ∃ d : Fin 32, ∃ a : Fin 32, ∃ o : Fin 65536, s.nibAt q t (.sh d a o) ∧ (s.nib q t).ea a o % 2 = 0 ∧ (s.nib q t).ea a o + 2 ≤ 0x40000 :=
  ⟨(withNib (State.reset) 11 16 (.sh 1 1 65534) { sreg := [(1, 128), (2, 0x01000080)], mem := [(128, 7), (129, 8), (131, 9)], vreg := [(1, lanes (fun i => 3 * i))], mreg := [(2, 5)] }), (11), (16), (1), (1), (65534), by decide⟩

theorem witness_NibLoadsAndStoresMoveAlignedBytes_7 : ∃ s : State, ∃ q : Fin 12, ∃ t : Fin 17, ∃ d : Fin 32, ∃ a : Fin 32, ∃ o : Fin 65536, s.nibAt q t (.vst d a o) ∧ (s.nib q t).ea a o % 128 = 0 ∧ (s.nib q t).ea a o + 128 ≤ 0x40000 :=
  ⟨(withNib (State.reset) 11 16 (.vst 1 1 0) { sreg := [(1, 128), (2, 0x01000080)], mem := [(128, 7), (129, 8), (131, 9)], vreg := [(1, lanes (fun i => 3 * i))], mreg := [(2, 5)] }), (11), (16), (1), (1), (0), by decide⟩

theorem witness_NibLoadsAndStoresMoveAlignedBytes_8 : ∃ s : State, ∃ q : Fin 12, ∃ t : Fin 17, ∃ d : Fin 32, ∃ a : Fin 32, ∃ o : Fin 65536, s.nibAt q t (.vstb d a o) ∧ (s.nib q t).ea a o % 64 = 0 ∧ (s.nib q t).ea a o + 64 ≤ 0x40000 :=
  ⟨(withNib (State.reset) 11 16 (.vstb 1 1 64) { sreg := [(1, 128), (2, 0x01000080)], mem := [(128, 7), (129, 8), (131, 9)], vreg := [(1, lanes (fun i => 3 * i))], mreg := [(2, 5)] }), (11), (16), (1), (1), (64), by decide⟩

theorem witness_NibLoadsAndStoresMoveAlignedBytes_9 : ∃ s : State, ∃ q : Fin 12, ∃ t : Fin 17, ∃ d : Fin 32, ∃ a : Fin 32, ∃ o : Fin 65536, s.nibAt q t (.sw d a o) ∧ (s.nib q t).ea a o % 4 = 0 ∧ 0x01000000 ≤ (s.nib q t).ea a o ∧ (s.nib q t).ea a o + 4 ≤ 0x013FF000 :=
  ⟨(withNib (State.reset) 11 16 (.sw 1 2 4) { sreg := [(1, 128), (2, 0x01000080)], mem := [(128, 7), (129, 8), (131, 9)], vreg := [(1, lanes (fun i => 3 * i))], mreg := [(2, 5)] }), (11), (16), (1), (2), (4), by decide⟩

theorem witness_NibLoadsAndStoresMoveAlignedBytes_10 : ∃ s : State, ∃ q : Fin 12, ∃ t : Fin 17, ∃ d : Fin 32, ∃ a : Fin 32, ∃ o : Fin 65536, s.nibAt q t (.lw d a o) ∧ d ≠ 0 ∧ (s.nib q t).ea a o % 4 = 0 ∧ 0x01000000 ≤ (s.nib q t).ea a o ∧ (s.nib q t).ea a o + 4 ≤ 0x013FF000 ∧ (s.quillAt q).stores = [] :=
  ⟨(withNib (State.reset) 11 16 (.lw 31 2 0) { sreg := [(1, 128), (2, 0x01000080)], mem := [(128, 7), (129, 8), (131, 9)], vreg := [(1, lanes (fun i => 3 * i))], mreg := [(2, 5)] }), (11), (16), (31), (2), (0), by decide⟩

theorem witness_NibLoadsAndStoresMoveAlignedBytes_11 : ∃ s : State, ∃ q : Fin 12, ∃ t : Fin 17, ∃ d : Fin 32, ∃ a : Fin 32, ∃ b : Fin 32, ∃ m : Fin 8, s.nibAt q t (.vgath d a b m) ∧ (s.nib q t).sr b % 2 = 0 ∧ (s.nib q t).sr b + 2 * 65536 ≤ 0x40000 ∧ (∀ i ∈ List.range 64, nth 0 ((s.nib q t).vr a) i < 65536) :=
  ⟨(withNib (State.reset) 11 16 (.vgath 31 1 3 2) { sreg := [(3, 130)], mem := [(130, 7), (131, 8)], vreg := [(1, lanes (fun i => 3 * i))], mreg := [(2, 5)] }), (11), (16), (31), (1), (3), (2), by decide⟩

theorem witness_NibBranchesAndLoopsSetThePc_1 : ∃ s : State, ∃ q : Fin 12, ∃ t : Fin 17, ∃ a : Fin 32, ∃ o : Fin 2097152, ∃ p : Nat, s.nibAt q t (.beqz a o) ∧ (s.nib q t).loops = [] ∧ ((s.nib q t).pc : Int) + 4 * signed 21 o = p ∧ p < 16384 :=
  ⟨(withNib (State.reset) 11 16 (.beqz 2 7) { sreg := [(1, 100), (2, 4294967295)], vreg := [(1, lanes (fun i => 3 * i)), (2, lanes (fun i => 65535 - i))], mreg := [(2, 5)] }), (11), (16), (2), (7), (28), by decide⟩

theorem witness_NibBranchesAndLoopsSetThePc_2 : ∃ s : State, ∃ q : Fin 12, ∃ t : Fin 17, ∃ a : Fin 32, ∃ o : Fin 2097152, ∃ p : Nat, s.nibAt q t (.bnez a o) ∧ (s.nib q t).loops = [] ∧ ((s.nib q t).pc : Int) + 4 * signed 21 o = p ∧ p < 16384 :=
  ⟨(withNib (State.reset) 11 16 (.bnez 2 7) { sreg := [(1, 100), (2, 4294967295)], vreg := [(1, lanes (fun i => 3 * i)), (2, lanes (fun i => 65535 - i))], mreg := [(2, 5)] }), (11), (16), (2), (7), (28), by decide⟩

theorem witness_NibBranchesAndLoopsSetThePc_3 : ∃ s : State, ∃ q : Fin 12, ∃ t : Fin 17, ∃ a : Fin 32, ∃ o : Fin 2097152, ∃ p : Nat, s.nibAt q t (.bltz a o) ∧ (s.nib q t).loops = [] ∧ ((s.nib q t).pc : Int) + 4 * signed 21 o = p ∧ p < 16384 :=
  ⟨(withNib (State.reset) 11 16 (.bltz 2 7) { sreg := [(1, 100), (2, 4294967295)], vreg := [(1, lanes (fun i => 3 * i)), (2, lanes (fun i => 65535 - i))], mreg := [(2, 5)] }), (11), (16), (2), (7), (28), by decide⟩

theorem witness_NibBranchesAndLoopsSetThePc_4 : ∃ s : State, ∃ q : Fin 12, ∃ t : Fin 17, ∃ a : Fin 32, ∃ o : Fin 2097152, ∃ p : Nat, s.nibAt q t (.bgez a o) ∧ (s.nib q t).loops = [] ∧ ((s.nib q t).pc : Int) + 4 * signed 21 o = p ∧ p < 16384 :=
  ⟨(withNib (State.reset) 11 16 (.bgez 2 7) { sreg := [(1, 100), (2, 4294967295)], vreg := [(1, lanes (fun i => 3 * i)), (2, lanes (fun i => 65535 - i))], mreg := [(2, 5)] }), (11), (16), (2), (7), (28), by decide⟩

theorem witness_NibBranchesAndLoopsSetThePc_5 : ∃ s : State, ∃ q : Fin 12, ∃ t : Fin 17, ∃ a : Fin 32, ∃ o : Fin 2097152, ∃ p : Nat, s.nibAt q t (.jal a o) ∧ ((s.nib q t).pc : Int) + 4 * signed 21 o = p ∧ p < 16384 :=
  ⟨(withNib (State.reset) 11 16 (.jal 31 7) { sreg := [(1, 100), (2, 4294967295)], vreg := [(1, lanes (fun i => 3 * i)), (2, lanes (fun i => 65535 - i))], mreg := [(2, 5)] }), (11), (16), (31), (7), (28), by decide⟩

theorem witness_NibBranchesAndLoopsSetThePc_6 : ∃ s : State, ∃ q : Fin 12, ∃ t : Fin 17, ∃ a : Fin 32, s.nibAt q t (.jr a) ∧ (s.nib q t).sr a % 4 = 0 ∧ (s.nib q t).sr a < 16384 :=
  ⟨(withNib (State.reset) 11 16 (.jr 1) { sreg := [(1, 100), (2, 4294967295)], vreg := [(1, lanes (fun i => 3 * i)), (2, lanes (fun i => 65535 - i))], mreg := [(2, 5)] }), (11), (16), (1), by decide⟩

theorem witness_NibBranchesAndLoopsSetThePc_7 : ∃ s : State, ∃ q : Fin 12, ∃ t : Fin 17, ∃ a : Fin 32, ∃ k : Fin 4095, s.nibAt q t (.loop a k) ∧ (s.nib q t).sr a ≠ 0 ∧ (s.nib q t).loops.length < 4 :=
  ⟨(withNib (State.reset) 11 16 (.loop 1 4094) { sreg := [(1, 100), (2, 4294967295)], vreg := [(1, lanes (fun i => 3 * i)), (2, lanes (fun i => 65535 - i))], mreg := [(2, 5)] }), (11), (16), (1), (4094), by decide⟩

theorem witness_NibBranchesAndLoopsSetThePc_8 : ∃ s : State, ∃ q : Fin 12, ∃ t : Fin 17, ∃ a : Fin 32, ∃ k : Fin 4095, s.nibAt q t (.loop a k) ∧ (s.nib q t).sr a = 0 ∧ (s.nib q t).loops = [] ∧ (s.nib q t).pc + 4 + 4 * (k.val + 1) < 16384 :=
  ⟨(withNib (State.reset) 11 16 (.loop 0 3) { sreg := [(1, 100), (2, 4294967295)], vreg := [(1, lanes (fun i => 3 * i)), (2, lanes (fun i => 65535 - i))], mreg := [(2, 5)] }), (11), (16), (0), (3), by decide⟩

theorem witness_NibBranchesAndLoopsSetThePc_9 : ∃ s : State, ∃ q : Fin 12, ∃ t : Fin 17, ∃ d : Fin 32, ∃ a : Fin 32, ∃ imm : Fin 65536, ∃ l : LoopLevel, ∃ ls : List LoopLevel, (s.nib q t).run.isSome = true ∧ s.overBudget q t = false ∧ decodeNib (s.nibWord q t) = some (.saddi d a imm) ∧ (s.nib q t).loops = l :: ls ∧ l.last = (s.nib q t).pc ∧ 1 < l.left ∧ l.first < 16384 :=
  ⟨(withNib (State.reset) 11 16 (.saddi 1 1 65535) { sreg := [(1, 100)], loops := [⟨0, 0, 2⟩] }), (11), (16), (1), (1), (65535), (⟨0, 0, 2⟩), ([]), by decide⟩

theorem witness_NibInstructionsReportRetireAndFault_1 : ∃ s : State, ∃ q : Fin 12, ∃ t : Fin 17, ∃ l : Int, s.nibAt q t .retire ∧ (s.nib q t).run = some (.line l) ∧ (s.nib q t).job < 4 ∧ s.on (QUILL_JOB_CTRL_OUT_EN q (s.nib q t).job) = false :=
  ⟨(withNib (State.reset) 11 16 (.retire) { store := none, line := 7 }), (11), (16), (7), by decide⟩

theorem witness_NibInstructionsReportRetireAndFault_2 : ∃ s : State, ∃ q : Fin 12, ∃ t : Fin 17, ∃ rc : Bool, ∃ a : Fin 32, ∃ b : Fin 32, ∃ ink : Fin 256, s.nibAt q t (.srep rc a b ink) ∧ s.fine.reports.length < 64 :=
  ⟨(withNib (State.reset) 11 16 (.srep true 1 2 255) { sreg := [(1, 100), (2, 4294967295)], vreg := [(1, lanes (fun i => 3 * i)), (2, lanes (fun i => 65535 - i))], mreg := [(2, 5)] }), (11), (16), (true), (1), (2), (255), by decide⟩

theorem witness_NibInstructionsReportRetireAndFault_3 : ∃ s : State, ∃ q : Fin 12, ∃ t : Fin 17, ∃ rc : Bool, ∃ a : Fin 32, ∃ b : Fin 32, ∃ ink : Fin 256, s.nibAt q t (.srep rc a b ink) ∧ 64 ≤ s.fine.reports.length :=
  ⟨({ withNib State.reset 11 16 (.srep true 1 2 255) {} with fine := { reports := List.replicate 64 ⟨1, 2, 3, true, none⟩ } }), (11), (16), (true), (1), (2), (255), by decide⟩

theorem witness_NibInstructionsReportRetireAndFault_4 : ∃ s : State, ∃ q : Fin 12, ∃ t : Fin 17, ∃ a : Fin 32, s.nibAt q t (.temit a) ∧ (s.nib q t).sr a % 64 = 0 ∧ (s.nib q t).sr a + 64 ≤ 0x40000 ∧ Memory.byte (s.nib q t).mem ((s.nib q t).sr a) = 0x10 ∧ s.scal.talQ.length < 8192 :=
  ⟨(withNib (State.reset) 11 16 (.temit 1) { sreg := [(1, 128)], mem := [(128, 0x10)] }), (11), (16), (1), by decide⟩

theorem witness_NibInstructionsReportRetireAndFault_5 : ∃ s : State, ∃ q : Fin 12, ∃ t : Fin 17, ∃ d : Fin 32, s.nibAt q t (.tget d) ∧ d ≠ 0 ∧ s.oldestDraft q = none :=
  ⟨(withNib (State.reset) 11 16 (.tget 31) { sreg := [(1, 100), (2, 4294967295)], vreg := [(1, lanes (fun i => 3 * i)), (2, lanes (fun i => 65535 - i))], mreg := [(2, 5)] }), (11), (16), (31), by decide⟩

theorem witness_NibInstructionsReportRetireAndFault_6 : ∃ s : State, ∃ q : Fin 12, ∃ t : Fin 17, ∃ d : Fin 32, ∃ k : Nat, s.nibAt q t (.tget d) ∧ d ≠ 0 ∧ s.oldestDraft q = some k :=
  ⟨(withNib (State.reset.setQuill 11 { fq := [(5, { full := true, gen := 9, draft := 77, bytes := [], claimed := false, order := 3 })] }) 11 16 (.tget 31) {}), (11), (16), (31), (5), by decide⟩

theorem witness_NibInstructionsReportRetireAndFault_7 : ∃ s : State, ∃ q : Fin 12, ∃ t : Fin 17, ∃ a : Fin 32, ∃ b : Fin 32, ∃ k : Nat, ∃ f : FqSlot, s.nibAt q t (.tans a b) ∧ (s.nib q t).sr b < 512 ∧ k = (s.nib q t).sr a % 64 ∧ f = s.fqSlot q k ∧ f.full = true ∧ f.claimed = true ∧ f.gen % 2 ^ 26 = (s.nib q t).sr a / 64 :=
  ⟨(withNib (State.reset.setQuill 11 { fq := [(5, { full := true, gen := 9, draft := 77, bytes := [], claimed := true, order := 3 })] }) 11 16 (.tans 1 2) { sreg := [(1, 5 + 9 * 64), (2, 256)] }), (11), (16), (1), (2), (5), ({ full := true, gen := 9, draft := 77, bytes := [], claimed := true, order := 3 }), by decide⟩

theorem witness_NibInstructionsReportRetireAndFault_8 : ∃ s : State, ∃ q : Fin 12, ∃ t : Fin 17, ∃ a : Fin 32, ∃ b : Fin 32, s.nibAt q t (.tans a b) ∧ (s.nib q t).sr b < 512 ∧ (s.fqSlot q ((s.nib q t).sr a % 64)).full = false :=
  ⟨(withNib (State.reset) 11 16 (.tans 1 0) { sreg := [(1, 100), (2, 4294967295)], vreg := [(1, lanes (fun i => 3 * i)), (2, lanes (fun i => 65535 - i))], mreg := [(2, 5)] }), (11), (16), (1), (0), by decide⟩

theorem witness_NibInstructionsReportRetireAndFault_9 : ∃ s : State, ∃ q : Fin 12, ∃ t : Fin 17, ∃ c : Fin 256, s.nibAt q t (.event c) :=
  ⟨(withNib (State.reset) 11 16 (.event 255) { sreg := [(1, 100), (2, 4294967295)], vreg := [(1, lanes (fun i => 3 * i)), (2, lanes (fun i => 65535 - i))], mreg := [(2, 5)] }), (11), (16), (255), by decide⟩

theorem witness_NibInstructionsReportRetireAndFault_10 : ∃ s : State, ∃ q : Fin 12, ∃ t : Fin 17, s.nibAt q t .fence ∧ (s.nib q t).store = none :=
  ⟨(withNib (State.reset.setQuill 11 { stores := [⟨3, 4, [5]⟩, ⟨16, 4, [5]⟩] }) 11 16 .fence {}), (11), (16), by decide⟩

theorem witness_NibInstructionsReportRetireAndFault_11 : ∃ s : State, ∃ q : Fin 12, ∃ t : Fin 17, ∃ imm : Fin 65536, s.nibAt q t (.stop imm) ∧ (s.nib q t).job < 4 ∧ s.rd (QUILL_JOB_CTRL_FAULT_POLICY q (s.nib q t).job) ≠ 0 :=
  ⟨(withNib (withFlds [(QUILL_JOB_CTRL_FAULT_POLICY 11 3, 1)]) 11 16 (.stop 65535) { job := 3 }), (11), (16), (65535), by decide⟩

theorem witness_NibInstructionsReportRetireAndFault_12 : ∃ s : State, ∃ q : Fin 12, ∃ t : Fin 17, (s.nib q t).run.isSome = true ∧ s.overBudget q t = false ∧ decodeNib (s.nibWord q t) = none ∧ s.nibWord q t < 2 ^ 32 ∧ (s.nib q t).pc < 2 ^ 14 ∧ (s.nib q t).job < 4 ∧ s.rd (QUILL_JOB_CTRL_FAULT_POLICY q (s.nib q t).job) ≠ 0 :=
  ⟨((withFlds [(QUILL_JOB_CTRL_FAULT_POLICY 11 3, 1)]).setNib 11 16 { job := 3, run := some (.line 7), code := [(0, 0xFFFFFFFF)] }), (11), (16), by decide⟩

theorem witness_NibInstructionsReportRetireAndFault_13 : ∃ s : State, ∃ q : Fin 12, ∃ t : Fin 17, (s.nib q t).run.isSome = true ∧ s.overBudget q t = true ∧ (s.nib q t).pc < 2 ^ 14 ∧ (s.nib q t).job < 4 ∧ s.rd (QUILL_JOB_CTRL_FAULT_POLICY q (s.nib q t).job) ≠ 0 :=
  ⟨((withFlds [(QUILL_JOB_CTRL_FAULT_POLICY 11 3, 1), (QUILL_JOB_BUDGET 11 3, 10)]).setNib 11 16 { job := 3, run := some (.line 7), cycle := 10 }), (11), (16), by decide⟩

theorem witness_QuillCommandsRunItsJobs_1 : ∃ s : State, ∃ q : Fin 12, ∃ j : Fin 4, s.jobOn q j = false ∧ (s.updPitch q j).jobCheck q j = none :=
  ⟨((withFlds [(QUILL_JOB_STRIPE_SW 11 3, 64), (QUILL_JOB_NIBS 11 3, 0x8000), (QUILL_JOB_WIN_CFG_SRC 11 3 2, 1), (QUILL_JOB_WIN_CFG_ROWS 11 3 2, 4), (QUILL_SLOT_STATUS_ROLE 11 15, 15), (QUILL_SLOT_STATUS_IMAGE_VALID 11 15, 1)]).setNib 11 15 { words := 9 }), (11), (3), by decide⟩

theorem witness_QuillCommandsRunItsJobs_2 : ∃ s : State, ∃ q : Fin 12, ∃ j : Fin 4, ∃ c : Nat, s.jobOn q j = false ∧ (s.updPitch q j).jobCheck q j = some c ∧ c < 16 :=
  ⟨((withFlds [(QUILL_JOB_STRIPE_SW 11 3, 64), (QUILL_JOB_NIBS 11 3, 0x8000), (QUILL_JOB_WIN_CFG_SRC 11 3 2, 1), (QUILL_JOB_WIN_CFG_ROWS 11 3 2, 4), (QUILL_SLOT_STATUS_ROLE 11 15, 15), (QUILL_SLOT_STATUS_IMAGE_VALID 11 15, 1)]).setNib 11 15 { words := 0 }), (11), (3), (8), by decide⟩

theorem witness_QuillCommandsRunItsJobs_3 : ∃ s : State, ∃ q : Fin 12, ∃ j : Fin 4, s.jobOn q j = true ∧ (s.job q j).init = true ∧ (∀ t ∈ s.jobSlots q j, (s.nib q t).run = none) :=
  ⟨((withFlds [(QUILL_JOB_STRIPE_SW 11 3, 64), (QUILL_JOB_NIBS 11 3, 0x8000), (QUILL_JOB_WIN_CFG_SRC 11 3 2, 1), (QUILL_JOB_WIN_CFG_ROWS 11 3 2, 4), (QUILL_SLOT_STATUS_ROLE 11 15, 15), (QUILL_SLOT_STATUS_IMAGE_VALID 11 15, 1), (QUILL_JOB_CTRL_EN 11 3, 1)]).setJob 11 3 { init := true }), (11), (3), by decide⟩

theorem witness_QuillCommandsRunItsJobs_4 : ∃ s : State, ∃ q : Fin 12, ∃ k : Fin 17, ∃ j : Nat, ∃ w : Nat, ∃ cur : Int, ∃ f : Int, s.jobOfSlot q k = some j ∧ (s.quillAt q).hand = none ∧ (s.nib q k).current = some cur ∧ (s.nib q k).behalf = false ∧ (s.nib q k).resume = false ∧ s.jobQueue q j = false ∧ (s.job q j).l0.isSome = true ∧ s.winsOn q j = [w] ∧ s.newestRow (s.winSrc q j w) = some f ∧ spGet (fun _ => 0) (s.nib q k).fill w = f ∧ f - s.winRows q j w < winIndex (s.winSrc q j w) cur - s.winHist q j w :=
  ⟨({ ((withFlds [(QUILL_JOB_STRIPE_SW 11 3, 64), (QUILL_JOB_NIBS 11 3, 0x8000), (QUILL_JOB_WIN_CFG_SRC 11 3 2, 1), (QUILL_JOB_WIN_CFG_ROWS 11 3 2, 4), (QUILL_SLOT_STATUS_ROLE 11 15, 15), (QUILL_SLOT_STATUS_IMAGE_VALID 11 15, 1), (QUILL_JOB_CTRL_EN 11 3, 1)]).setJob 11 3 { l0 := some 5 }).setNib 11 15 { next := some 6, fill := [(2, 6)] } with stitch := { fine := [⟨6, 0, 0, false, false, 0, [none]⟩] } }), (11), (15), (3), (2), (6), (6), by decide⟩

theorem witness_QuillCommandsRunItsJobs_5 : ∃ s : State, ∃ q : Fin 12, ∃ t : Fin 17, ∃ j : Nat, ∃ l : Int, s.jobOfSlot q t = some j ∧ s.nextInvoked q j (s.nib q t) = some l ∧ (s.quillAt q).hand = none ∧ (∀ w ∈ s.winsOn q j, winIndex (s.winSrc q j w) l + s.winAhead q j w < spGet (fun _ => 0) (s.nib q t).fill w) ∧ s.jobQueue q j = false ∧ (s.job q j).l0.isSome = true ∧ (s.nib q t).run = none ∧ (s.nib q t).behalf = false ∧ (s.nib q t).resume = false ∧ s.slotState q t = slotIdle ∧ s.mode ≠ 11 ∧ (s.nib q t).next = some l ∧ (s.nib q t).lost = none ∧ s.on (QUILL_JOB_CTRL_OUT_EN q j) = false :=
  ⟨({ ((withFlds [(QUILL_JOB_STRIPE_SW 11 3, 64), (QUILL_JOB_NIBS 11 3, 0x8000), (QUILL_JOB_WIN_CFG_SRC 11 3 2, 1), (QUILL_JOB_WIN_CFG_ROWS 11 3 2, 4), (QUILL_SLOT_STATUS_ROLE 11 15, 15), (QUILL_SLOT_STATUS_IMAGE_VALID 11 15, 1), (QUILL_JOB_CTRL_EN 11 3, 1)]).setJob 11 3 { l0 := some 5 }).setNib 11 15 { next := some 6, fill := [(2, 7)] } with stitch := { fine := [⟨6, 0, 0, false, false, 0, [none]⟩] } }), (11), (15), (3), (6), by decide⟩

theorem witness_QuillCommandsRunItsJobs_6 : ∃ s : State, ∃ q : Fin 12, ∃ t : Nat, ∃ j : Nat, (s.oldestDraft q).isSome = true ∧ s.slotFor q 0 = some t ∧ s.jobOfNib q 0 = some j ∧ s.jobQueue q j = true ∧ (s.job q j).init = false ∧ (s.nib q t).run = none ∧ s.slotState q t = slotIdle ∧ s.mode ≠ 11 :=
  ⟨((withFlds [(QUILL_JOB_CTRL_EN 11 3, 1), (QUILL_JOB_CTRL_MODE 11 3, 1), (QUILL_JOB_NIBS 11 3, 1)]).setQuill 11 { fq := [(5, { full := true, gen := 9, draft := 77, bytes := [], claimed := false, order := 3 })] }), (11), (0), (3), by decide⟩

theorem witness_QuillCommandsRunItsJobs_7 : ∃ s : State, ∃ q : Fin 12, ∃ t : Fin 17, ∃ j : Nat, s.slotState q t = slotStopped ∧ s.jobOfSlot q t = some j :=
  ⟨(withFlds [(QUILL_JOB_STRIPE_SW 11 3, 64), (QUILL_JOB_NIBS 11 3, 0x8000), (QUILL_JOB_WIN_CFG_SRC 11 3 2, 1), (QUILL_JOB_WIN_CFG_ROWS 11 3 2, 4), (QUILL_SLOT_STATUS_ROLE 11 15, 15), (QUILL_SLOT_STATUS_IMAGE_VALID 11 15, 1), (QUILL_JOB_CTRL_EN 11 3, 1), (QUILL_SLOT_STATUS_STATE 11 15, slotStopped), (QUILL_JOB_INIT_PC 11 3, 8)]), (11), (15), (3), by decide⟩

theorem witness_QuillCommandsRunItsJobs_8 : ∃ s : State, ∃ q : Fin 12, ∃ t : Fin 17, ∃ readable : Bool, s.rd TOP_WEAR_NIB_CE = 0 :=
  ⟨(withFlds [(TOP_WEAR_NIB_CE, 0)]), (11), (16), (false), by decide⟩

theorem witness_QuillCommandsRunItsJobs_9 : ∃ s : State, ∃ q : Fin 12, ∃ t : Fin 17, ∃ readable : Bool, s.jobOfSlot q t = none ∧ s.roleOf q t ≠ 16 :=
  ⟨(State.reset), (11), (15), (false), by decide⟩

theorem witness_QuillCommandsRunItsJobs_10 : ∃ s : State, ∃ q : Fin 12, ∃ h : Handover, (s.quillAt q).hand = some h ∧ h.planned = false ∧ h.copied = false ∧ (s.nib q h.to_).run = none ∧ (s.nib q h.to_).resume = false ∧ (s.nib q h.to_).behalf = false ∧ h.to_ < 17 ∧ (s.jobOfNib q h.logical).isSome = true :=
  ⟨(((withFlds [(QUILL_JOB_STRIPE_SW 11 3, 64), (QUILL_JOB_NIBS 11 3, 0x8000), (QUILL_JOB_WIN_CFG_SRC 11 3 2, 1), (QUILL_JOB_WIN_CFG_ROWS 11 3 2, 4), (QUILL_SLOT_STATUS_ROLE 11 15, 15), (QUILL_SLOT_STATUS_IMAGE_VALID 11 15, 1), (QUILL_JOB_CTRL_EN 11 3, 1)]).setNib 11 16 {}).setQuill 11 { hand := some ⟨15, 16, 15, false, 0, false⟩ }), (11), (⟨15, 16, 15, false, 0, false⟩), by decide⟩

theorem witness_QuillCommandsRunItsJobs_11 : ∃ s : State, ∃ q : Fin 12, ∃ t : Fin 17, ∃ j : Nat, ∃ sp : Nat, s.jobOfSlot q t = some j ∧ s.readySpare q = some sp ∧ (s.quillAt q).hand = none ∧ s.slotState q t ≠ slotFailed ∧ (s.job q j).l0.isSome = true :=
  ⟨((withFlds [(QUILL_JOB_STRIPE_SW 11 3, 64), (QUILL_JOB_NIBS 11 3, 0x8000), (QUILL_JOB_WIN_CFG_SRC 11 3 2, 1), (QUILL_JOB_WIN_CFG_ROWS 11 3 2, 4), (QUILL_SLOT_STATUS_ROLE 11 15, 15), (QUILL_SLOT_STATUS_IMAGE_VALID 11 15, 1), (QUILL_JOB_CTRL_EN 11 3, 1), (QUILL_STATUS_SPARE_SLOT 11, 16), (QUILL_SLOT_STATUS_STATE 11 16, slotSpareReady), (DRAMC_SIZE, 2 ^ 34)]).setJob 11 3 { l0 := some 5 }), (11), (15), (3), (16), by decide⟩

theorem witness_QuillCommandsRunItsJobs_12 : ∃ s : State, ∃ q : Fin 12, ∃ h : Handover, ∃ j : Nat, ∃ l : Int, (s.quillAt q).hand = some h ∧ h.planned = true ∧ h.from_ ≠ h.to_ ∧ h.to_ < 17 ∧ h.from_ < 17 ∧ h.logical < 17 ∧ s.jobOfSlot q h.from_ = some j ∧ (s.nib q h.from_).next = some l ∧ (s.nib q h.from_).run = none ∧ (s.nib q h.to_).run = none ∧ (∀ w ∈ s.winsOn q j, winIndex (s.winSrc q j w) ((s.nib q h.to_).next.getD 0) + s.winRows q j w ≤ spGet (fun _ => 0) (s.nib q h.to_).fill w ∧ winIndex (s.winSrc q j w) ((s.nib q h.to_).next.getD 0) ≤ winIndex (s.winSrc q j w) l - s.winHist q j w) :=
  ⟨((withFlds [(QUILL_JOB_STRIPE_SW 11 3, 64), (QUILL_JOB_NIBS 11 3, 0x8000), (QUILL_JOB_WIN_CFG_SRC 11 3 2, 1), (QUILL_JOB_WIN_CFG_ROWS 11 3 2, 4), (QUILL_SLOT_STATUS_ROLE 11 15, 15), (QUILL_SLOT_STATUS_IMAGE_VALID 11 15, 1), (QUILL_JOB_CTRL_EN 11 3, 1), (QUILL_SLOT_STATUS_STATE 11 15, slotIdle)]).setQuill 11 { hand := some ⟨15, 16, 15, true, 0, true⟩, nibs := [(15, { next := some 9 }), (16, { next := some 5, fill := [(2, 9)] })] }), (11), (⟨15, 16, 15, true, 0, true⟩), (3), (9), by decide⟩

theorem witness_QuillCommandsRunItsJobs_13 : ∃ s : State, ∃ q : Fin 12, s.on (QUILL_LOAD_BUSY q) = false ∧ (∀ j ∈ List.range 4, s.jobOn q j = false) :=
  ⟨(State.reset), (11), by decide⟩

theorem witness_QuillCommandsRunItsJobs_14 : ∃ s : State, ∃ q : Fin 12, ∃ j : Nat, j < 4 ∧ s.jobOn q j = true ∧ andNat 16 (s.rd (QUILL_LOAD_MASK q)) (s.rd (QUILL_JOB_NIBS q j)) ≠ 0 :=
  ⟨(withFlds [(QUILL_JOB_STRIPE_SW 11 3, 64), (QUILL_JOB_NIBS 11 3, 0x8000), (QUILL_JOB_WIN_CFG_SRC 11 3 2, 1), (QUILL_JOB_WIN_CFG_ROWS 11 3 2, 4), (QUILL_SLOT_STATUS_ROLE 11 15, 15), (QUILL_SLOT_STATUS_IMAGE_VALID 11 15, 1), (QUILL_JOB_CTRL_EN 11 3, 1), (QUILL_LOAD_MASK 11, 0x8000)]), (11), (3), by decide⟩

theorem witness_QuillCommandsRunItsJobs_15 : ∃ s : State, ∃ q : Fin 12, ∃ id : Nat, ∃ ws : List Nat, s.on (QUILL_LOAD_BUSY q) = true ∧ (s.kernelImage (s.rd (QUILL_LOAD_SRC q))).1.toOption = some (id, ws) :=
  ⟨({ withFlds [(QUILL_LOAD_BUSY 11, 1), (QUILL_LOAD_MASK 11, 0x8000), (DRAMC_SIZE, 2 ^ 34)] with dram := { mem := Memory.put [] 0 (leBytes 4 0x3142494E ++ leBytes 4 77 ++ leBytes 4 1 ++ leBytes 4 0 ++ leBytes 4 (crc32 [1, 2, 3, 4]) ++ List.replicate 44 0 ++ [1, 2, 3, 4]) } }), (11), (77), ([0x04030201]), by decide⟩

theorem witness_QuillCommandsRunItsJobs_16 : ∃ s : State, ∃ q : Fin 12, s.on (QUILL_LOAD_BUSY q) = true ∧ s.dramFits (s.rd (QUILL_LOAD_SRC q)) 64 = false :=
  ⟨(withFlds [(QUILL_LOAD_BUSY 11, 1), (QUILL_LOAD_MASK 11, 0x8000), (DRAMC_SIZE, 63)]), (11), by decide⟩

theorem witness_QueuesStartStopFetchAndFail_1 : ∃ s : State, ∃ q : Fin 8, 1 < s.mode ∧ s.qAtRest q = true :=
  ⟨(withFlds [(TOP_MODE_MODE, 3), (SCRIBE_Q_BASE 7, 4096), (SCRIBE_Q_SIZE 7, 4096), (SCRIBE_Q_HEAD 7, 64), (SCRIBE_Q_TAIL 7, 80)]), (7), by decide⟩

theorem witness_QueuesStartStopFetchAndFail_2 : ∃ s : State, ∃ q : Fin 8, s.mode ≤ 1 :=
  ⟨(withFlds [(TOP_MODE_MODE, 1)]), (7), by decide⟩

theorem witness_QueuesStartStopFetchAndFail_3 : ∃ s : State, ∃ q : Fin 8, 1 < s.mode ∧ s.qAtRest q = false :=
  ⟨(setFlds (withCmd 7 []) [(TOP_MODE_MODE, 3)]), (7), by decide⟩

theorem witness_QueuesStartStopFetchAndFail_4 : ∃ s : State, ∃ q : Fin 8, s.qAtRest q = false :=
  ⟨(setFlds (withCmd 7 [0]) [(SCRIBE_Q_STATUS_STATE 7, 2)]), (7), by decide⟩

theorem witness_QueuesStartStopFetchAndFail_5 : ∃ s : State, ∃ q : Fin 8, s.qAtRest q = true :=
  ⟨(State.reset), (7), by decide⟩

theorem witness_QueuesStartStopFetchAndFail_6 : ∃ s : State, ∃ q : Fin 8, ∃ v : BitVec 32, v.toNat < 2 ^ 24 ∧ v.toNat % 8 = 0 ∧ v.toNat < s.rd (SCRIBE_Q_SIZE q) :=
  ⟨(withCmd 7 []), (7), (4088), by decide⟩

theorem witness_QueuesStartStopFetchAndFail_7 : ∃ s : State, ∃ q : Fin 8, ∃ v : BitVec 32, v.toNat < 2 ^ 24 ∧ (v.toNat % 8 ≠ 0 ∨ s.rd (SCRIBE_Q_SIZE q) ≤ v.toNat) :=
  ⟨(withCmd 7 []), (7), (4096), by decide⟩

theorem witness_QueuesStartStopFetchAndFail_8 : ∃ s : State, ∃ u : State, ∃ q : Fin 8, ∃ host : List (BitVec 64), ∃ ws : List Nat, s.qAtRest q = false ∧ (State.fetchWords (s.fetchRoom q) s q (s.scq q).words (host.map (·.toNat))).1 = none ∧ ws = (State.fetchWords (s.fetchRoom q) s q (s.scq q).words (host.map (·.toNat))).2.1 ∧ u = (State.fetchWords (s.fetchRoom q) s q (s.scq q).words (host.map (·.toNat))).2.2 ∧ (s.scq q).skip = 0 :=
  ⟨(setFlds (withCmd 7 []) [(SCRIBE_Q_BASE 7, 2 ^ 42), (SCRIBE_Q_PC 7, 2 ^ 42 + 4088)]), (setFlds (withCmd 7 []) [(SCRIBE_Q_BASE 7, 2 ^ 42), (SCRIBE_Q_PC 7, 2 ^ 42 + 4088)]), (7), ([5]), ([5]), by decide⟩

theorem witness_QueuesStartStopFetchAndFail_9 : ∃ s : State, ∃ u : State, ∃ q : Fin 8, ∃ host : List (BitVec 64), ∃ x : Nat, ∃ a : Nat, s.qAtRest q = false ∧ (State.fetchWords (s.fetchRoom q) s q (s.scq q).words (host.map (·.toNat))).1 = some (.failed x, a) ∧ short (State.fetchWords (s.fetchRoom q) s q (s.scq q).words (host.map (·.toNat))).2.1 = true ∧ u = (State.fetchWords (s.fetchRoom q) s q (s.scq q).words (host.map (·.toNat))).2.2 :=
  ⟨(setFlds (withCmd 7 []) [(SCRIBE_Q_BASE 7, 2 ^ 42), (SCRIBE_Q_PC 7, 2 ^ 42 + 4088)]), ((State.fetchWords ((setFlds (withCmd 7 []) [(SCRIBE_Q_BASE 7, 2 ^ 42), (SCRIBE_Q_PC 7, 2 ^ 42 + 4088)]).fetchRoom 7) (setFlds (withCmd 7 []) [(SCRIBE_Q_BASE 7, 2 ^ 42), (SCRIBE_Q_PC 7, 2 ^ 42 + 4088)]) 7 ((setFlds (withCmd 7 []) [(SCRIBE_Q_BASE 7, 2 ^ 42), (SCRIBE_Q_PC 7, 2 ^ 42 + 4088)]).scq 7).words []).2.2), (7), ([]), (2 ^ 42 + 4088), (2 ^ 42 + 4088), by decide, by decide, by decide, rfl⟩

theorem witness_QueuesStartStopFetchAndFail_10 : ∃ s : State, ∃ q : Fin 8, ∃ w : Nat, ∃ ws : List Nat, s.pick = some q.val ∧ (s.scq q).blocks = [] ∧ s.nextCmd q = some (w :: ws) ∧ legalCmd (w :: ws) = false :=
  ⟨(withCmd 7 [0x13 * 2 ^ 56]), (7), (0x13 * 2 ^ 56), ([]), by decide⟩

theorem witness_QueuesStartStopFetchAndFail_11 : ∃ s : State, ∃ q : Fin 8, ∃ k : ScWait, ∃ d : Nat, (s.scq q).wait = some k ∧ (s.scq q).deadline = some d ∧ d ≤ s.now ∧ (s.scq q).cont = true :=
  ⟨((withCmd 7 [4 * 2 ^ 56, 9]).setScq 7 { words := [4 * 2 ^ 56, 9], wait := some .pos, deadline := some 0, cont := true }), (7), (.pos), (0), by decide⟩

theorem witness_QueuesStartStopFetchAndFail_12 : ∃ s : State, ∃ q : Fin 8, ∃ k : ScWait, ∃ d : Nat, (s.scq q).wait = some k ∧ (s.scq q).deadline = some d ∧ d ≤ s.now ∧ (s.scq q).cont = false :=
  ⟨((withCmd 7 [4 * 2 ^ 56, 9]).setScq 7 { words := [4 * 2 ^ 56, 9], wait := some .pos, deadline := some 0, cont := false }), (7), (.pos), (0), by decide⟩

theorem witness_QueueCommandsIssueAccesses_1 : ∃ s : State, ∃ q : Fin 8, s.cmdAt q 0 [] :=
  ⟨(withCmd 7 [0]), (7), by decide⟩

theorem witness_QueueCommandsIssueAccesses_2 : ∃ s : State, ∃ q : Fin 8, ∃ host : Option (BitVec 32), ∃ w : Nat, ∃ d : Nat, ∃ a : Nat, s.cmdAt q w [d] ∧ cmdOp w = 0x01 ∧ bitAt (cmdFlags w) 0 = false ∧ a = bitsAt w 0 44 ∧ (s.accCheck reqScribe a true).1 = none :=
  ⟨(withCmd 7 [2 ^ 56 + 3 * 2 ^ 42 + 0x40008, 9]), (7), (none), (2 ^ 56 + 3 * 2 ^ 42 + 0x40008), (9), (3 * 2 ^ 42 + 0x40008), by decide⟩

theorem witness_QueueCommandsIssueAccesses_3 : ∃ s : State, ∃ q : Fin 8, ∃ host : Option (BitVec 32), ∃ w : Nat, ∃ d : Nat, ∃ a : Nat, s.cmdAt q w [d] ∧ cmdOp w = 0x01 ∧ bitAt (cmdFlags w) 0 = true ∧ a = bitsAt w 0 44 ∧ (s.accCheck reqScribe a false).1 = none ∧ (s.accCheck reqScribe a true).1 = none :=
  ⟨(withCmd 7 [2 ^ 56 + 2 ^ 48 + 3 * 2 ^ 42 + 0x40008, 9]), (7), (none), (2 ^ 56 + 2 ^ 48 + 3 * 2 ^ 42 + 0x40008), (9), (3 * 2 ^ 42 + 0x40008), by decide⟩

theorem witness_QueueCommandsIssueAccesses_4 : ∃ s : State, ∃ q : Fin 8, ∃ host : Option (BitVec 32), ∃ w : Nat, ∃ d : Nat, s.cmdAt q w [d] ∧ cmdOp w = 0x01 ∧ bitAt (cmdFlags w) 0 = false ∧ (s.accCheck reqScribe (bitsAt w 0 44) true).1 = some 0x8002 :=
  ⟨(withCmd 7 [2 ^ 56 + 3 * 2 ^ 42 + 0x40009, 9]), (7), (none), (2 ^ 56 + 3 * 2 ^ 42 + 0x40009), (9), by decide⟩

theorem witness_QueueCommandsIssueAccesses_5 : ∃ s : State, ∃ q : Fin 8, ∃ w : Nat, ∃ n : Nat, ∃ ws : List Nat, s.cmdAt q w ws ∧ cmdOp w = 0x02 ∧ n = cmdFlags w ∧ (∀ i ∈ List.range n, (s.accCheck reqScribe (bitsAt w 0 44 + 4 * i) true).1 = none) :=
  ⟨(withCmd 7 [2 * 2 ^ 56 + 3 * 2 ^ 48 + 2 ^ 42, 9 + 8 * 2 ^ 32, 7]), (7), (2 * 2 ^ 56 + 3 * 2 ^ 48 + 2 ^ 42), (3), ([9 + 8 * 2 ^ 32, 7]), by decide⟩

theorem witness_QueueCommandsIssueAccesses_6 : ∃ s : State, ∃ q : Fin 8, ∃ host : Option (BitVec 32), ∃ w : Nat, ∃ d : Nat, ∃ a : Nat, s.cmdAt q w [d] ∧ cmdOp w = 0x03 ∧ a = bitsAt w 0 44 ∧ (s.accCheck reqScribe a false).1 = none ∧ (s.accCheck reqScribe (bitsAt d 0 44) true).1 = none :=
  ⟨(withCmd 7 [3 * 2 ^ 56 + 2 ^ 42, 2 ^ 42 + 64]), (7), (some 4), (3 * 2 ^ 56 + 2 ^ 42), (2 ^ 42 + 64), (2 ^ 42), by decide⟩

theorem witness_QueueCommandsIssueAccesses_7 : ∃ s : State, ∃ q : Fin 8, ∃ w : Nat, s.cmdAt q w [] ∧ cmdOp w = 0x07 ∧ s.qQuiet q = true :=
  ⟨(withCmd 7 [7 * 2 ^ 56 + 3 * 2 ^ 48 + 5 * 2 ^ 16 + 63]), (7), (7 * 2 ^ 56 + 3 * 2 ^ 48 + 5 * 2 ^ 16 + 63), by decide⟩

theorem witness_QueueCommandsIssueAccesses_8 : ∃ s : State, ∃ q : Fin 8, ∃ w : Nat, s.cmdAt q w [] ∧ cmdOp w = 0x07 ∧ s.qQuiet q = false :=
  ⟨({ withCmd 7 [7 * 2 ^ 56 + 3 * 2 ^ 48 + 5 * 2 ^ 16 + 63] with scribe := { qs := (withCmd 7 [7 * 2 ^ 56 + 3 * 2 ^ 48 + 5 * 2 ^ 16 + 63]).scribe.qs, posted := [⟨6, 7, 6, 0, .write 0 0 none none⟩] } }), (7), (7 * 2 ^ 56 + 3 * 2 ^ 48 + 5 * 2 ^ 16 + 63), by decide⟩

theorem witness_QueueCommandsIssueAccesses_9 : ∃ s : State, ∃ q : Fin 8, ∃ w : Nat, s.cmdAt q w [] ∧ cmdOp w = 0x09 :=
  ⟨(withCmd 7 [9 * 2 ^ 56 + 2 ^ 48 + 5]), (7), (9 * 2 ^ 56 + 2 ^ 48 + 5), by decide⟩

theorem witness_QueueCommandsIssueAccesses_10 : ∃ s : State, ∃ q : Fin 8, ∃ w : Nat, s.cmdAt q w [] ∧ cmdOp w = 0x10 ∧ s.qQuiet q = true :=
  ⟨(withCmd 7 [16 * 2 ^ 56]), (7), (16 * 2 ^ 56), by decide⟩

theorem witness_QueueCommandsIssueAccesses_11 : ∃ s : State, ∃ q : Fin 8, ∃ w : Nat, s.cmdAt q w [] ∧ cmdOp w = 0x10 ∧ s.qQuiet q = false :=
  ⟨({ withCmd 7 [16 * 2 ^ 56] with scribe := { qs := (withCmd 7 [16 * 2 ^ 56]).scribe.qs, posted := [⟨6, 7, 6, 0, .write 0 0 none none⟩] } }), (7), (16 * 2 ^ 56), by decide⟩

theorem witness_QueueCommandsIssueAccesses_12 : ∃ s : State, ∃ q : Fin 8, ∃ w : Nat, s.cmdAt q w [] ∧ cmdOp w = 0x11 ∧ bitAt (cmdFlags w) 0 = true :=
  ⟨(withCmd 7 [17 * 2 ^ 56 + 2 ^ 48]), (7), (17 * 2 ^ 56 + 2 ^ 48), by decide⟩

theorem witness_QueueCommandsIssueAccesses_13 : ∃ s : State, ∃ q : Fin 8, ∃ w : Nat, s.cmdAt q w [] ∧ cmdOp w = 0x11 ∧ bitAt (cmdFlags w) 0 = false :=
  ⟨(withCmd 7 [17 * 2 ^ 56]), (7), (17 * 2 ^ 56), by decide⟩

theorem witness_QueueCommandsIssueAccesses_14 : ∃ s : State, ∃ q : Fin 8, ∃ w : Nat, s.cmdAt q w [] ∧ cmdOp w = 0x12 :=
  ⟨(withCmd 7 [18 * 2 ^ 56]), (7), (18 * 2 ^ 56), by decide⟩

theorem witness_QueueLoopsAndJumpsSetThePc_1 : ∃ s : State, ∃ q : Fin 8, ∃ w : Nat, s.cmdAt q w [] ∧ cmdOp w = 0x0B ∧ (s.scq q).loops.length < 4 ∧ (bitAt (cmdFlags w) 0 = true ∨ bitsAt w 0 32 ≠ 0) :=
  ⟨(withCmd 7 [11 * 2 ^ 56 + 3]), (7), (11 * 2 ^ 56 + 3), by decide⟩

theorem witness_QueueLoopsAndJumpsSetThePc_2 : ∃ s : State, ∃ q : Fin 8, ∃ w : Nat, s.cmdAt q w [] ∧ cmdOp w = 0x0B ∧ bitAt (cmdFlags w) 0 = false ∧ bitsAt w 0 32 = 0 ∧ (s.scq q).words = [w] :=
  ⟨(withCmd 7 [11 * 2 ^ 56]), (7), (11 * 2 ^ 56), by decide⟩

theorem witness_QueueLoopsAndJumpsSetThePc_3 : ∃ s : State, ∃ q : Fin 8, ∃ w : Nat, s.cmdAt q w [] ∧ cmdOp w = 0x0B ∧ 4 ≤ (s.scq q).loops.length ∧ (bitAt (cmdFlags w) 0 = true ∨ bitsAt w 0 32 ≠ 0) :=
  ⟨((withCmd 7 []).setScq 7 { words := [11 * 2 ^ 56 + 3], loops := List.replicate 4 ⟨4096, 4104, true, none⟩ }), (7), (11 * 2 ^ 56 + 3), by decide⟩

theorem witness_QueueLoopsAndJumpsSetThePc_4 : ∃ s : State, ∃ q : Fin 8, ∃ w : Nat, ∃ l : ScLoop, ∃ ls : List ScLoop, s.cmdAt q w [] ∧ cmdOp w = 0x0C ∧ (s.scq q).loops = l :: ls ∧ l.left = none :=
  ⟨((withCmd 7 []).setScq 7 { words := [12 * 2 ^ 56], loops := [⟨5000, 5008, true, none⟩] }), (7), (12 * 2 ^ 56), (⟨5000, 5008, true, none⟩), ([]), by decide⟩

theorem witness_QueueLoopsAndJumpsSetThePc_5 : ∃ s : State, ∃ q : Fin 8, ∃ w : Nat, ∃ n : Nat, ∃ l : ScLoop, ∃ ls : List ScLoop, s.cmdAt q w [] ∧ cmdOp w = 0x0C ∧ (s.scq q).loops = l :: ls ∧ l.left = some n ∧ 1 < n :=
  ⟨((withCmd 7 []).setScq 7 { words := [12 * 2 ^ 56], loops := [⟨5000, 5008, true, some 2⟩] }), (7), (12 * 2 ^ 56), (2), (⟨5000, 5008, true, some 2⟩), ([]), by decide⟩

theorem witness_QueueLoopsAndJumpsSetThePc_6 : ∃ s : State, ∃ q : Fin 8, ∃ w : Nat, ∃ n : Nat, ∃ l : ScLoop, ∃ ls : List ScLoop, s.cmdAt q w [] ∧ cmdOp w = 0x0C ∧ (s.scq q).loops = l :: ls ∧ l.left = some n ∧ n ≤ 1 :=
  ⟨((withCmd 7 [0]).setScq 7 { words := [12 * 2 ^ 56], loops := [⟨5000, 5008, true, some 1⟩] }), (7), (12 * 2 ^ 56), (1), (⟨5000, 5008, true, some 1⟩), ([]), by decide⟩

theorem witness_QueueLoopsAndJumpsSetThePc_7 : ∃ s : State, ∃ q : Fin 8, ∃ w : Nat, s.cmdAt q w [] ∧ cmdOp w = 0x0C ∧ (s.scq q).loops = [] :=
  ⟨(withCmd 7 [12 * 2 ^ 56]), (7), (12 * 2 ^ 56), by decide⟩

theorem witness_QueueLoopsAndJumpsSetThePc_8 : ∃ s : State, ∃ q : Fin 8, ∃ w : Nat, s.cmdAt q w [] ∧ cmdOp w = 0x0D ∧ s.taken q w = false :=
  ⟨(withCmd 7 [13 * 2 ^ 56 + 2 ^ 48 + 64]), (7), (13 * 2 ^ 56 + 2 ^ 48 + 64), by decide⟩

theorem witness_QueueLoopsAndJumpsSetThePc_9 : ∃ s : State, ∃ q : Fin 8, ∃ w : Nat, ∃ a : Nat, s.cmdAt q w [] ∧ cmdOp w = 0x0D ∧ s.taken q w = true ∧ a = jumpTarget (s.rd (SCRIBE_Q_PC q)) w ∧ s.badTarget q a = false :=
  ⟨((withCmd 7 []).setScq 7 { words := [13 * 2 ^ 56 + 2 * 2 ^ 48 + 64], loops := [⟨5000, 5008, true, none⟩] }), (7), (13 * 2 ^ 56 + 2 * 2 ^ 48 + 64), (64), by decide⟩

theorem witness_QueueLoopsAndJumpsSetThePc_10 : ∃ s : State, ∃ q : Fin 8, ∃ w : Nat, ∃ a : Nat, s.cmdAt q w [] ∧ cmdOp w = 0x0D ∧ s.taken q w = true ∧ a = jumpTarget (s.rd (SCRIBE_Q_PC q)) w ∧ s.badTarget q a = true :=
  ⟨(withCmd 7 [13 * 2 ^ 56 + 65]), (7), (13 * 2 ^ 56 + 65), (65), by decide⟩

theorem witness_QueueLoopsAndJumpsSetThePc_11 : ∃ s : State, ∃ q : Fin 8, ∃ w : Nat, s.cmdAt q w [] ∧ cmdOp w = 0x0E ∧ s.taken q w = false :=
  ⟨(withCmd 7 [14 * 2 ^ 56 + 2 ^ 48 + 64]), (7), (14 * 2 ^ 56 + 2 ^ 48 + 64), by decide⟩

theorem witness_QueueLoopsAndJumpsSetThePc_12 : ∃ s : State, ∃ q : Fin 8, ∃ w : Nat, ∃ a : Nat, s.cmdAt q w [] ∧ cmdOp w = 0x0E ∧ s.taken q w = true ∧ a = jumpTarget (s.rd (SCRIBE_Q_PC q)) w ∧ s.badTarget q a = false ∧ (s.scq q).calls.length < 8 :=
  ⟨(withCmd 7 [14 * 2 ^ 56 + 4 * 2 ^ 48 + 2000]), (7), (14 * 2 ^ 56 + 4 * 2 ^ 48 + 2000), (20096), by decide⟩

theorem witness_QueueLoopsAndJumpsSetThePc_13 : ∃ s : State, ∃ q : Fin 8, ∃ w : Nat, ∃ a : Nat, s.cmdAt q w [] ∧ cmdOp w = 0x0E ∧ s.taken q w = true ∧ a = jumpTarget (s.rd (SCRIBE_Q_PC q)) w ∧ s.badTarget q a = false ∧ 8 ≤ (s.scq q).calls.length :=
  ⟨((withCmd 7 []).setScq 7 { words := [14 * 2 ^ 56 + 64], calls := [1, 2, 3, 4, 5, 6, 7, 8] }), (7), (14 * 2 ^ 56 + 64), (64), by decide⟩

theorem witness_QueueLoopsAndJumpsSetThePc_14 : ∃ s : State, ∃ q : Fin 8, ∃ w : Nat, ∃ a : Nat, ∃ cs : List Nat, s.cmdAt q w [] ∧ cmdOp w = 0x0F ∧ (s.scq q).calls = a :: cs :=
  ⟨((withCmd 7 []).setScq 7 { words := [15 * 2 ^ 56, 0], calls := [72, 80] }), (7), (15 * 2 ^ 56), (72), ([80]), by decide⟩

theorem witness_QueueLoopsAndJumpsSetThePc_15 : ∃ s : State, ∃ q : Fin 8, ∃ w : Nat, s.cmdAt q w [] ∧ cmdOp w = 0x0F ∧ (s.scq q).calls = [] :=
  ⟨(withCmd 7 [15 * 2 ^ 56]), (7), (15 * 2 ^ 56), by decide⟩

theorem witness_QueueWaitsEndAsTheyShould_1 : ∃ s : State, ∃ q : Fin 8, ∃ w : Nat, ∃ d : Nat, ∃ p : Int, s.cmdAt q w [d] ∧ cmdOp w = 0x04 ∧ p = signed 64 d + (if bitAt (cmdFlags w) 1 then s.pos16 else 0) ∧ s.tl.pos < slotOf p * (2 : Int) ^ 32 ∧ s.tl.pos < p * (2 : Int) ^ 24 ∧ s.schedUsed < 2048 :=
  ⟨(withCmd 7 [4 * 2 ^ 56 + 5 * 2 ^ 48 + 10, 65536]), (7), (4 * 2 ^ 56 + 5 * 2 ^ 48 + 10), (65536), (65536), by decide⟩

theorem witness_QueueWaitsEndAsTheyShould_2 : ∃ s : State, ∃ q : Fin 8, ∃ w : Nat, ∃ d : Nat, ∃ p : Int, s.cmdAt q w [d] ∧ cmdOp w = 0x04 ∧ p = signed 64 d + (if bitAt (cmdFlags w) 1 then s.pos16 else 0) ∧ bitAt (cmdFlags w) 0 = true ∧ p * (2 : Int) ^ 24 ≤ s.tl.pos :=
  ⟨(withCmd 7 [4 * 2 ^ 56 + 3 * 2 ^ 48 + 10, 2 ^ 64 - 1]), (7), (4 * 2 ^ 56 + 3 * 2 ^ 48 + 10), (2 ^ 64 - 1), (-1), by decide⟩

theorem witness_QueueWaitsEndAsTheyShould_3 : ∃ s : State, ∃ q : Fin 8, ∃ w : Nat, ∃ d : Nat, s.cmdAt q w [d] ∧ cmdOp w = 0x04 ∧ bitAt (cmdFlags w) 0 = false ∧ 2048 ≤ s.schedUsed :=
  ⟨({ withCmd 7 [4 * 2 ^ 56, 65536] with tl := { sched := List.replicate 2048 ⟨512, .frame 0 2, none, false⟩ } }), (7), (4 * 2 ^ 56), (65536), by decide⟩

theorem witness_QueueWaitsEndAsTheyShould_4 : ∃ s : State, ∃ q : Fin 8, ∃ e : SchedEntry, firstDue s.now s.tl.sched = some e ∧ e.act = .waitpos q ∧ (s.scq q).inBlock = false :=
  ⟨({ setFlds (withCmd 7 [4 * 2 ^ 56, 9]) [(TIMELINE_CTRL_RUN, 1)] with tl := { tick := 17, sched := [⟨512, .waitpos 7, some 9, true⟩] } }), (7), (⟨512, .waitpos 7, some 9, true⟩), by decide⟩

theorem witness_QueueWaitsEndAsTheyShould_5 : ∃ s : State, ∃ q : Fin 8, ∃ w : Nat, ∃ d : Nat, ∃ k : Nat, s.cmdAt q w [d] ∧ cmdOp w = 0x05 ∧ k = (d % 2 ^ 48 + (if bitAt (cmdFlags w) 1 then s.ptp48 else 0)) % 2 ^ 48 ∧ aheadOf k s.ptp48 = true :=
  ⟨(withCmd 7 [5 * 2 ^ 56 + 10, 65536]), (7), (5 * 2 ^ 56 + 10), (65536), (65536), by decide⟩

theorem witness_QueueWaitsEndAsTheyShould_6 : ∃ s : State, ∃ q : Fin 8, ∃ w : Nat, ∃ d : Nat, ∃ k : Nat, s.cmdAt q w [d] ∧ cmdOp w = 0x05 ∧ k = (d % 2 ^ 48 + (if bitAt (cmdFlags w) 1 then s.ptp48 else 0)) % 2 ^ 48 ∧ aheadOf k s.ptp48 = false :=
  ⟨(withCmd 7 [5 * 2 ^ 56 + 10, 0]), (7), (5 * 2 ^ 56 + 10), (0), (0), by decide⟩

theorem witness_QueueWaitsEndAsTheyShould_7 : ∃ s : State, ∃ q : Fin 8, ∃ k : Nat, (s.scq q).wait = some (.time k) ∧ aheadOf k s.ptp48 = false ∧ (s.scq q).inBlock = false :=
  ⟨((withCmd 7 []).setScq 7 { words := [5 * 2 ^ 56, 0], wait := some (.time 0) }), (7), (0), by decide⟩

theorem witness_QueueWaitsEndAsTheyShould_8 : ∃ s : State, ∃ q : Fin 8, ∃ k : Nat, (s.scq q).wait = some (.time k) ∧ aheadOf k s.ptp48 = true :=
  ⟨((withCmd 7 []).setScq 7 { words := [5 * 2 ^ 56, 5], wait := some (.time 5) }), (7), (5), by decide⟩

theorem witness_QueueWaitsEndAsTheyShould_9 : ∃ s : State, ∃ q : Fin 8, ∃ w : Nat, s.cmdAt q w [] ∧ cmdOp w = 0x06 ∧ bitsAt w 32 8 ≠ 0 ∧ (bitAt (cmdFlags w) 0 = true ∨ s.on (SCRIBE_Q_STATUS_EV_LATCH q) = false) :=
  ⟨(withCmd 7 [6 * 2 ^ 56 + 2 ^ 48 + 255 * 2 ^ 32 + 10]), (7), (6 * 2 ^ 56 + 2 ^ 48 + 255 * 2 ^ 32 + 10), by decide⟩

theorem witness_QueueWaitsEndAsTheyShould_10 : ∃ s : State, ∃ q : Fin 8, ∃ w : Nat, s.cmdAt q w [] ∧ cmdOp w = 0x06 ∧ bitsAt w 32 8 = 1 ∧ bitAt (cmdFlags w) 0 = false ∧ s.on (SCRIBE_Q_STATUS_EV_LATCH q) = true :=
  ⟨(setFlds (withCmd 7 [6 * 2 ^ 56 + 2 ^ 32]) [(SCRIBE_Q_STATUS_EV_LATCH 7, 1)]), (7), (6 * 2 ^ 56 + 2 ^ 32), by decide⟩

theorem witness_QueueWaitsEndAsTheyShould_11 : ∃ s : State, ∃ q : Fin 8, ∃ w : Nat, s.cmdAt q w [] ∧ cmdOp w = 0x06 ∧ bitsAt w 32 8 = 0 :=
  ⟨(withCmd 7 [6 * 2 ^ 56]), (7), (6 * 2 ^ 56), by decide⟩

theorem witness_DmaProgramsCopyLoopAndWait_1 : ∃ s : State, ∃ c : Fin 32, 1 < s.mode ∧ s.dAtRest c = true ∧ s.on (DMA_CH_CTRL_MODE c) = false ∧ s.bufUsed + s.rd (DMA_CH_CTRL_BUF c) ≤ 60 :=
  ⟨(withFlds [(TOP_MODE_MODE, 3), (DMA_CH_CTRL_BUF 31, 15)]), (31), by decide⟩

theorem witness_DmaProgramsCopyLoopAndWait_2 : ∃ s : State, ∃ c : Fin 32, 1 < s.mode ∧ 60 < s.bufUsed + s.rd (DMA_CH_CTRL_BUF c) :=
  ⟨(withFlds ((TOP_MODE_MODE, 3) :: (DMA_CH_CTRL_BUF 31, 1) :: (List.range 4).flatMap (fun i => [(DMA_CH_CTRL_BUF i, 15), (DMA_CH_STATUS_STATE i, 1)]))), (31), by decide⟩

theorem witness_DmaProgramsCopyLoopAndWait_3 : ∃ s : State, ∃ c : Fin 32, s.mode ≤ 1 :=
  ⟨(State.reset), (31), by decide⟩

theorem witness_DmaProgramsCopyLoopAndWait_4 : ∃ s : State, ∃ c : Fin 32, ∃ got : Nat, s.on (DMA_CH_CTRL_MODE c) = false ∧ s.dAtRest c = false ∧ (s.dch c).moves = [] :=
  ⟨(withFlds [(TOP_MODE_MODE, 3), (DMA_CH_STATUS_STATE 31, 1), (DMA_CH_PROG_PC 31, 2 ^ 42 + 32)]), (31), (0), by decide⟩

theorem witness_DmaProgramsCopyLoopAndWait_5 : ∃ s : State, ∃ c : Fin 32, ∃ got : Nat, ∃ m : DmaMove, s.on (DMA_CH_CTRL_MODE c) = false ∧ s.dAtRest c = false ∧ (s.dch c).moves = [m] :=
  ⟨((withFlds [(TOP_MODE_MODE, 3), (DMA_CH_STATUS_STATE 31, 1), (DMA_CH_PROG_PC 31, 2 ^ 42 + 32)]).setDch 31 { moves := [⟨64, 128, false, 8, [1, 2, 3, 4, 5, 6, 7, 8], none⟩] }), (31), (4), (⟨64, 128, false, 8, [1, 2, 3, 4, 5, 6, 7, 8], none⟩), by decide⟩

theorem witness_DmaProgramsCopyLoopAndWait_6 : ∃ s : State, ∃ c : Fin 32, ∃ host : Option (BitVec 128), ∃ data : List (BitVec 8), ∃ w : Nat, ∃ src : Nat, ∃ dst : Nat, ∃ len : Nat, s.dmaAt c host w ∧ dmaOp w = 1 ∧ (bitAt w 6 = false ∨ ((s.fetched c host).dch c).moves = []) ∧ src = effAddr (bitsAt w 8 44) ((((s.fetched c host).dch c).loops.map (fun l => l.so)).foldl (· + ·) 0) ∧ dst = effAddr (bitsAt w 52 44) ((((s.fetched c host).dch c).loops.map (fun l => l.dofs)).foldl (· + ·) 0) ∧ len = bitsAt w 96 32 ∧ misaligned (bitAt w 4) src len = false ∧ misaligned (bitAt w 5) dst len = false ∧ len ≠ 0 ∧ (devSpace src ≠ devSpace dst ∨ dst ≤ src ∨ src + len ≤ dst) ∧ (s.fetched c host).inSelfRefresh = false :=
  ⟨(withFlds [(TOP_MODE_MODE, 3), (DMA_CH_STATUS_STATE 31, 1), (DMA_CH_PROG_PC 31, 2 ^ 42 + 32)]), (31), (some (1 + 2 ^ 42 * 2 ^ 8 + 128 * 2 ^ 52 + 8 * 2 ^ 96)), ([1, 2, 3, 4, 5, 6, 7, 8]), (1 + 2 ^ 42 * 2 ^ 8 + 128 * 2 ^ 52 + 8 * 2 ^ 96), (2 ^ 42), (128), (8), by decide⟩

theorem witness_DmaProgramsCopyLoopAndWait_7 : ∃ s : State, ∃ c : Fin 32, ∃ host : Option (BitVec 128), ∃ data : List (BitVec 8), ∃ w : Nat, ∃ src : Nat, ∃ len : Nat, s.dmaAt c host w ∧ dmaOp w = 1 ∧ bitAt w 6 = false ∧ src = effAddr (bitsAt w 8 44) ((((s.fetched c host).dch c).loops.map (fun l => l.so)).foldl (· + ·) 0) ∧ len = bitsAt w 96 32 ∧ misaligned (bitAt w 4) src len = true :=
  ⟨(withFlds [(TOP_MODE_MODE, 3), (DMA_CH_STATUS_STATE 31, 1), (DMA_CH_PROG_PC 31, 2 ^ 42 + 32)]), (31), (some (1 + 2 ^ 4 + 2 ^ 42 * 2 ^ 8 + (2 ^ 42 + 128) * 2 ^ 52 + 7 * 2 ^ 96)), ([]), (1 + 2 ^ 4 + 2 ^ 42 * 2 ^ 8 + (2 ^ 42 + 128) * 2 ^ 52 + 7 * 2 ^ 96), (2 ^ 42), (7), by decide⟩

theorem witness_DmaProgramsCopyLoopAndWait_8 : ∃ s : State, ∃ c : Fin 32, ∃ m : DmaMove, ∃ rest : List DmaMove, (s.dch c).moves = m :: rest ∧ (devSpace m.dst ≠ 0 ∨ s.inSelfRefresh = false) ∧ m.err = none ∧ (s.dch c).stopAt = none ∧ (State.moveWrite (m.len / 4 + 2) s (s.rd (DMA_CH_HOST_BASE c)) m.fixed m.dst m.data 0).2.1 = none :=
  ⟨((withFlds [(TOP_MODE_MODE, 3), (DMA_CH_STATUS_STATE 31, 1), (DMA_CH_PROG_PC 31, 2 ^ 42 + 32)]).setDch 31 { moves := [⟨64, 2 ^ 42 + 600, false, 8, [1, 2, 3, 4, 5, 6, 7, 8], none⟩, ⟨64, 128, false, 8, [1, 2, 3, 4, 5, 6, 7, 8], none⟩] }), (31), (⟨64, 2 ^ 42 + 600, false, 8, [1, 2, 3, 4, 5, 6, 7, 8], none⟩), ([⟨64, 128, false, 8, [1, 2, 3, 4, 5, 6, 7, 8], none⟩]), by decide⟩

theorem witness_DmaProgramsCopyLoopAndWait_9 : ∃ s : State, ∃ c : Fin 32, ∃ m : DmaMove, ∃ rest : List DmaMove, ∃ e : Nat × Nat, (s.dch c).moves = m :: rest ∧ m.data = [] ∧ m.err = some e ∧ e.1 < 2 ^ 16 :=
  ⟨((withFlds [(TOP_MODE_MODE, 3), (DMA_CH_STATUS_STATE 31, 1), (DMA_CH_PROG_PC 31, 2 ^ 42 + 32)]).setDch 31 { moves := [⟨64, 128, false, 8, [], some (0x8044, 77)⟩, ⟨64, 128, false, 8, [1, 2, 3, 4, 5, 6, 7, 8], none⟩] }), (31), (⟨64, 128, false, 8, [], some (0x8044, 77)⟩), ([⟨64, 128, false, 8, [1, 2, 3, 4, 5, 6, 7, 8], none⟩]), ((0x8044, 77)), by decide⟩

theorem witness_DmaProgramsCopyLoopAndWait_10 : ∃ s : State, ∃ c : Fin 32, ∃ host : Option (BitVec 128), ∃ w : Nat, s.dmaAt c host w ∧ dmaOp w = 2 ∧ (bitAt w 4 = true ∨ bitsAt w 32 32 ≠ 0) ∧ ((s.fetched c host).dch c).loops.length < 4 :=
  ⟨(withFlds [(TOP_MODE_MODE, 3), (DMA_CH_STATUS_STATE 31, 1), (DMA_CH_PROG_PC 31, 2 ^ 42 + 32)]), (31), (some (2 + 3 * 2 ^ 32 + 64 * 2 ^ 64 + (2 ^ 32 - 64) * 2 ^ 96)), (2 + 3 * 2 ^ 32 + 64 * 2 ^ 64 + (2 ^ 32 - 64) * 2 ^ 96), by decide⟩

theorem witness_DmaProgramsCopyLoopAndWait_11 : ∃ s : State, ∃ c : Fin 32, ∃ host : Option (BitVec 128), ∃ w : Nat, s.dmaAt c host w ∧ dmaOp w = 2 ∧ bitAt w 4 = false ∧ bitsAt w 32 32 = 0 :=
  ⟨(withFlds [(TOP_MODE_MODE, 3), (DMA_CH_STATUS_STATE 31, 1), (DMA_CH_PROG_PC 31, 2 ^ 42 + 32)]), (31), (some (2 + 64 * 2 ^ 64)), (2 + 64 * 2 ^ 64), by decide⟩

theorem witness_DmaProgramsCopyLoopAndWait_12 : ∃ s : State, ∃ c : Fin 32, ∃ host : Option (BitVec 128), ∃ w : Nat, ∃ l : DmaLoop, ∃ ls : List DmaLoop, s.dmaAt c host w ∧ dmaOp w = 3 ∧ ((s.fetched c host).dch c).loops = l :: ls ∧ ls.length < 4 ∧ 1 < l.left.getD 2 :=
  ⟨((withFlds [(TOP_MODE_MODE, 3), (DMA_CH_STATUS_STATE 31, 1), (DMA_CH_PROG_PC 31, 2 ^ 42 + 32)]).setDch 31 { loops := [⟨4096, some 3, 0, 0, 64, -64⟩] }), (31), (some 3), (3), (⟨4096, some 3, 0, 0, 64, -64⟩), ([]), by decide⟩

theorem witness_DmaProgramsCopyLoopAndWait_13 : ∃ s : State, ∃ c : Fin 32, ∃ host : Option (BitVec 128), ∃ w : Nat, ∃ n : Nat, ∃ l : DmaLoop, ∃ ls : List DmaLoop, s.dmaAt c host w ∧ dmaOp w = 3 ∧ ((s.fetched c host).dch c).loops = l :: ls ∧ l.left = some n ∧ n ≤ 1 :=
  ⟨((withFlds [(TOP_MODE_MODE, 3), (DMA_CH_STATUS_STATE 31, 1), (DMA_CH_PROG_PC 31, 2 ^ 42 + 32)]).setDch 31 { loops := [⟨4096, some 1, 0, 0, 64, -64⟩] }), (31), (some 3), (3), (1), (⟨4096, some 1, 0, 0, 64, -64⟩), ([]), by decide⟩

theorem witness_DmaProgramsCopyLoopAndWait_14 : ∃ s : State, ∃ c : Fin 32, ∃ host : Option (BitVec 128), ∃ w : Nat, s.dmaAt c host w ∧ dmaOp w = 3 ∧ ((s.fetched c host).dch c).loops = [] ∧ ((s.fetched c host).dch c).moves = [] :=
  ⟨(withFlds [(TOP_MODE_MODE, 3), (DMA_CH_STATUS_STATE 31, 1), (DMA_CH_PROG_PC 31, 2 ^ 42 + 32)]), (31), (some 3), (3), by decide⟩

theorem witness_DmaProgramsCopyLoopAndWait_15 : ∃ s : State, ∃ c : Fin 32, ∃ host : Option (BitVec 128), ∃ w : Nat, s.dmaAt c host w ∧ s.dMay c true = true ∧ dmaOp w = 4 ∧ bitsAt w 32 32 ≠ 0 ∧ (bitAt w 4 = true ∨ (s.fetched c host).on (DMA_CH_STATUS_EV_LATCH c) = false) :=
  ⟨(withFlds [(TOP_MODE_MODE, 3), (DMA_CH_STATUS_STATE 31, 1), (DMA_CH_PROG_PC 31, 2 ^ 42 + 32)]), (31), (some (4 + 3 * 2 ^ 4 + 5 * 2 ^ 32 + 9 * 2 ^ 64)), (4 + 3 * 2 ^ 4 + 5 * 2 ^ 32 + 9 * 2 ^ 64), by decide⟩

theorem witness_DmaProgramsCopyLoopAndWait_16 : ∃ s : State, ∃ c : Fin 32, ∃ host : Option (BitVec 128), ∃ w : Nat, s.dmaAt c host w ∧ s.dMay c true = true ∧ dmaOp w = 4 ∧ bitsAt w 32 32 = 0 :=
  ⟨(withFlds [(TOP_MODE_MODE, 3), (DMA_CH_STATUS_STATE 31, 1), (DMA_CH_PROG_PC 31, 2 ^ 42 + 32)]), (31), (some 4), (4), by decide⟩

theorem witness_DmaProgramsCopyLoopAndWait_17 : ∃ s : State, ∃ c : Fin 32, ∃ d : Nat, (s.dch c).waiting = true ∧ (s.dch c).deadline = some d ∧ d ≤ s.now ∧ (s.dch c).cont = true :=
  ⟨((withFlds [(DMA_CH_STATUS_STATE 31, 2), (DMA_CH_PROG_PC 31, 64)]).setDch 31 { waiting := true, deadline := some 0, cont := true }), (31), (0), by decide⟩

theorem witness_DmaProgramsCopyLoopAndWait_18 : ∃ s : State, ∃ c : Fin 32, ∃ d : Nat, (s.dch c).waiting = true ∧ (s.dch c).deadline = some d ∧ d ≤ s.now ∧ (s.dch c).cont = false :=
  ⟨((withFlds [(DMA_CH_STATUS_STATE 31, 2), (DMA_CH_PROG_PC 31, 64)]).setDch 31 { waiting := true, deadline := some 0 }), (31), (0), by decide⟩

theorem witness_DmaProgramsCopyLoopAndWait_19 : ∃ s : State, ∃ c : Fin 32, ∃ host : Option (BitVec 128), ∃ w : Nat, s.dmaAt c host w ∧ s.dMay c true = true ∧ dmaOp w = 5 ∧ bitAt w 6 = false :=
  ⟨((withFlds [(TOP_MODE_MODE, 3), (DMA_CH_STATUS_STATE 31, 1), (DMA_CH_PROG_PC 31, 2 ^ 42 + 32)]).setDch 31 { hop := some 2 }), (31), (some (5 + 3 * 2 ^ 4 + 63 * 2 ^ 8 + 7 * 2 ^ 16)), (5 + 3 * 2 ^ 4 + 63 * 2 ^ 8 + 7 * 2 ^ 16), by decide⟩

theorem witness_DmaProgramsCopyLoopAndWait_20 : ∃ s : State, ∃ c : Fin 32, ∃ host : Option (BitVec 128), ∃ w : Nat, s.dmaAt c host w ∧ s.dMay c true = true ∧ dmaOp w = 5 ∧ bitAt w 6 = true ∧ bitAt w 4 = false ∧ bitAt w 5 = false ∧ bitsAt w 64 44 % 4 = 0 ∧ devSpace (bitsAt w 64 44) = 1 ∧ (s.fetched c host).permitted reqDma clsMemory true = true ∧ devOff (bitsAt w 64 44) + 4 ≤ 2 ^ 42 :=
  ⟨(withFlds [(TOP_MODE_MODE, 3), (DMA_CH_STATUS_STATE 31, 1), (DMA_CH_PROG_PC 31, 2 ^ 42 + 32)]), (31), (some (5 + 4 * 2 ^ 4 + 77 * 2 ^ 32 + (2 ^ 42 + 12) * 2 ^ 64)), (5 + 4 * 2 ^ 4 + 77 * 2 ^ 32 + (2 ^ 42 + 12) * 2 ^ 64), by decide⟩

theorem witness_DmaProgramsCopyLoopAndWait_21 : ∃ s : State, ∃ c : Fin 32, ∃ host : Option (BitVec 128), ∃ w : Nat, s.dmaAt c host w ∧ s.dMay c true = true ∧ dmaOp w = 6 :=
  ⟨(withFlds [(TOP_MODE_MODE, 3), (DMA_CH_STATUS_STATE 31, 1), (DMA_CH_PROG_PC 31, 2 ^ 42 + 32)]), (31), (some 6), (6), by decide⟩

theorem witness_DmaProgramsCopyLoopAndWait_22 : ∃ s : State, ∃ c : Fin 32, ∃ host : Option (BitVec 128), ∃ w : Nat, s.dMay c true = true ∧ (s.dFetch c host).1 = .word w ∧ legalDma w = false :=
  ⟨(withFlds [(TOP_MODE_MODE, 3), (DMA_CH_STATUS_STATE 31, 1), (DMA_CH_PROG_PC 31, 2 ^ 42 + 32)]), (31), (some 7), (7), by decide⟩

theorem witness_EventsEnterAreGatedAndDelivered_1 : ∃ s : State, ∃ c : Fin 64, ∃ o : Occurrence, ∃ os : List Occurrence, ∃ h : Nat, s.entering c = o :: os ∧ h = (o :: os).foldl (fun (m : Nat) (p : Occurrence) => max m p.hop) 0 ∧ h + 1 < 8 ∧ s.gateOpen c = true :=
  ⟨({ withFlds [(EVENT_CH_CTRL_IRQ_EN 63, 1), (SEC_PCIE_MSIX_EN, 1)] with ev := { waiting := [⟨250, 63, 6, 8⟩, ⟨3, 63, 1, 8⟩, ⟨3, 5, 1, 8⟩] }, tl := { tick := 9 } }), (63), (⟨250, 63, 6, 8⟩), ([⟨3, 63, 1, 8⟩]), (6), by decide⟩

theorem witness_EventsEnterAreGatedAndDelivered_2 : ∃ s : State, ∃ c : Fin 64, ∃ o : Occurrence, ∃ os : List Occurrence, ∃ h : Nat, s.entering c = o :: os ∧ h = (o :: os).foldl (fun (m : Nat) (p : Occurrence) => max m p.hop) 0 ∧ h + 1 < 8 ∧ s.gateOpen c = false :=
  ⟨({ withFlds [(EVENT_CH_CTRL_GATE 63, 3)] with ev := { waiting := [⟨250, 63, 6, 8⟩] }, tl := { tick := 9 } }), (63), (⟨250, 63, 6, 8⟩), ([]), (6), by decide⟩

theorem witness_EventsEnterAreGatedAndDelivered_3 : ∃ s : State, ∃ c : Fin 64, ∃ o : Occurrence, ∃ os : List Occurrence, ∃ h : Nat, s.entering c = o :: os ∧ h = (o :: os).foldl (fun (m : Nat) (p : Occurrence) => max m p.hop) 0 ∧ 8 ≤ h + 1 :=
  ⟨({ withFlds [] with ev := { waiting := [⟨250, 63, 7, 8⟩] }, tl := { tick := 9 } }), (63), (⟨250, 63, 7, 8⟩), ([]), (7), by decide⟩

theorem witness_EventsEnterAreGatedAndDelivered_4 : ∃ s : State, ∃ c : Fin 64, ∃ f : EventFlight, s.ev.flight.find? (fun (f : EventFlight) => f.channel == c.val && decide (f.deliver ≤ s.now)) = some f ∧ ((∀ i ∈ List.range 158, s.on (EVENT_CONS_CFG_EN i) = false ∨ s.rd (EVENT_CONS_CFG_CHANNEL i) ≠ c)) :=
  ⟨({ withFlds [(EVENT_CONS_CFG_EN 5, 1)] with ev := { flight := [⟨63, 3, false, 9⟩] }, tl := { tick := 9 } }), (63), (⟨63, 3, false, 9⟩), by decide⟩

theorem witness_EventsEnterAreGatedAndDelivered_5 : ∃ s : State, ∃ c : Fin 64, ∃ f : EventFlight, ∃ q : Fin 8, s.ev.flight.find? (fun (f : EventFlight) => f.channel == c.val && decide (f.deliver ≤ s.now)) = some f ∧ ((∀ i ∈ List.range 158, i = 16 + q.val ∨ s.on (EVENT_CONS_CFG_EN i) = false ∨ s.rd (EVENT_CONS_CFG_CHANNEL i) ≠ c)) ∧ s.on (EVENT_CONS_CFG_EN (16 + q.val)) = true ∧ s.rd (EVENT_CONS_CFG_CHANNEL (16 + q.val)) = c ∧ s.on (SCRIBE_Q_STATUS_EV_LATCH q) = false ∧ (s.scq q).wait = none ∧ f.coincident = false :=
  ⟨({ withFlds [(EVENT_CONS_CFG_EN 23, 1), (EVENT_CONS_CFG_CHANNEL 23, 63)] with ev := { flight := [⟨63, 3, false, 9⟩] }, tl := { tick := 9 } }), (63), (⟨63, 3, false, 9⟩), (7), by decide⟩

theorem witness_EventsEnterAreGatedAndDelivered_6 : ∃ s : State, ∃ c : Fin 64, ∃ f : EventFlight, ∃ n : Fin 16, s.ev.flight.find? (fun (f : EventFlight) => f.channel == c.val && decide (f.deliver ≤ s.now)) = some f ∧ ((∀ i ∈ List.range 158, i = n.val ∨ s.on (EVENT_CONS_CFG_EN i) = false ∨ s.rd (EVENT_CONS_CFG_CHANNEL i) ≠ c)) ∧ s.on (EVENT_CONS_CFG_EN n) = true ∧ s.rd (EVENT_CONS_CFG_CHANNEL n) = c ∧ s.on (EVENT_PIN_CTRL_DIR n) = true ∧ s.on (EVENT_PIN_CTRL_OUT_MODE n) = false ∧ spGet (fun _ => 0) s.ev.pulseUntil n ≤ s.now ∧ f.coincident = false :=
  ⟨({ withFlds [(EVENT_CONS_CFG_EN 15, 1), (EVENT_CONS_CFG_CHANNEL 15, 63), (EVENT_PIN_CTRL_DIR 15, 1), (EVENT_PIN_WIDTH 15, 5)] with ev := { flight := [⟨63, 3, false, 9⟩] }, tl := { tick := 9 } }), (63), (⟨63, 3, false, 9⟩), (15), by decide⟩

theorem witness_EventsEnterAreGatedAndDelivered_7 : ∃ s : State, ∃ c : Fin 64, ∃ f : EventFlight, ∃ q : Fin 8, s.ev.flight.find? (fun (f : EventFlight) => f.channel == c.val && decide (f.deliver ≤ s.now)) = some f ∧ ((∀ i ∈ List.range 158, i = 16 + q.val ∨ s.on (EVENT_CONS_CFG_EN i) = false ∨ s.rd (EVENT_CONS_CFG_CHANNEL i) ≠ c)) ∧ s.on (EVENT_CONS_CFG_EN (16 + q.val)) = true ∧ s.rd (EVENT_CONS_CFG_CHANNEL (16 + q.val)) = c ∧ s.on (SCRIBE_Q_STATUS_EV_LATCH q) = true ∧ f.coincident = false :=
  ⟨({ withFlds [(EVENT_CONS_CFG_EN 23, 1), (EVENT_CONS_CFG_CHANNEL 23, 63), (SCRIBE_Q_STATUS_EV_LATCH 7, 1)] with ev := { flight := [⟨63, 3, false, 9⟩] }, tl := { tick := 9 } }), (63), (⟨63, 3, false, 9⟩), (7), by decide⟩

theorem witness_EventsEnterAreGatedAndDelivered_9 : ∃ s : State, ∃ n : Fin 16, ∃ level : Bool, s.on (EVENT_PIN_CTRL_DIR n) = false ∧ s.on ⟨EVENT_PINLVL.off, n, 1⟩ ≠ level ∧ s.on (EVENT_PIN_CTRL_IN_EN n) = true ∧ (s.rd (EVENT_PIN_CTRL_EDGE n) = 2 ∨ s.rd (EVENT_PIN_CTRL_EDGE n) = b2n (!level)) :=
  ⟨(withFlds [(EVENT_PIN_CTRL_IN_EN 15, 1), (EVENT_PIN_CTRL_EDGE 15, 2), (EVENT_PIN_CTRL_CHANNEL 15, 63)]), (15), (true), by decide⟩

theorem witness_EventsEnterAreGatedAndDelivered_10 : ∃ s : State, ∃ n : Fin 16, ∃ level : Bool, s.on (EVENT_PIN_CTRL_DIR n) = false ∧ s.on ⟨EVENT_PINLVL.off, n, 1⟩ ≠ level ∧ (s.on (EVENT_PIN_CTRL_IN_EN n) = false ∨ (s.rd (EVENT_PIN_CTRL_EDGE n) ≠ 2 ∧ s.rd (EVENT_PIN_CTRL_EDGE n) ≠ b2n (!level))) :=
  ⟨(withFlds [(EVENT_PIN_CTRL_IN_EN 15, 1), (EVENT_PIN_CTRL_EDGE 15, 1), (EVENT_PIN_CTRL_CHANNEL 15, 63)]), (15), (true), by decide⟩

theorem witness_EventsEnterAreGatedAndDelivered_11 : ∃ s : State, ∃ n : Fin 16, ∃ k : Nat, spGet (fun _ => 0) s.ev.pulseUntil n = k ∧ k ≠ 0 ∧ k ≤ s.now ∧ s.on (EVENT_PIN_CTRL_OUT_MODE n) = false :=
  ⟨({ withFlds [(EVENT_PIN_CTRL_DIR 15, 1)] with ev := { pulseUntil := [(15, 9)] }, tl := { tick := 9 } }), (15), (9), by decide⟩

end Sys2Proof.Tests
end

