-- ==== Sys2Proof/Tests/WitnessSystem.lean ====
section
/-! SUPPORT. For each clause of the fault, reset, thermal, boot and host statements, a concrete state and operands that meet its
hypotheses together. -/

namespace Sys2Proof.Tests

open Sys2Proof Sys2Proof.Machine

set_option linter.unusedVariables false
set_option maxRecDepth 100000
set_option exponentiation.threshold 400

theorem witness_FaultsAreLoggedCopiedAndActedOn_1 : ∃ s : State, s.top.inQ = [] :=
  ⟨((withFlds [])), by decide⟩

theorem witness_FaultsAreLoggedCopiedAndActedOn_2 : ∃ s : State, ∃ f : FaultRec, ∃ rest : List FaultRec, ∃ a : Nat, ∃ b : Nat, ∃ ws : List Nat, s.top.inQ = f :: rest ∧ s.top.logAt ≤ s.now ∧ f.slots = [a, b] ∧ f.code < 65536 ∧ f.source < 256 ∧ f.opens = none ∧ s.rd TOP_FAULT_RING_DEPTH < 2 ∧ s.on TOP_FAULT_IRQ_IRQ_EN = false ∧ bitAt (s.rd TOP_FAULT_POLICY_ALERT_MASK) (f.code / 4096) = false ∧ bitAt (s.rd TOP_FAULT_POLICY_HALT_MASK) (f.code / 4096) = false ∧ f.code ≠ 0xA011 ∧ ws = [f.code + f.source * 2 ^ 16, f.epoch, toBits 64 f.pos % 2 ^ 32, toBits 64 f.pos / 2 ^ 32, f.ptpNs, f.ptpWrap % 2 ^ 16 + f.seq % 2 ^ 16 * 2 ^ 16, a, b] :=
  ⟨({ withFlds [(TOP_FAULT_LOG_WR, 255), (EVENT_PROD_EN 254, 1), (EVENT_PROD_CHANNEL 254, 3)] with top := { inQ := [⟨4097, 16, 9, 6, -65536, 77, 5, [3, 4], 0⟩], logFull := true } }), (⟨4097, 16, 9, 6, -65536, 77, 5, [3, 4], 0⟩), ([]), (3), (4), ([1052673, 6, toBits 64 (-65536) % 2 ^ 32, toBits 64 (-65536) / 2 ^ 32, 77, 5 + 9 * 2 ^ 16, 3, 4]), by decide⟩

theorem witness_FaultsAreLoggedCopiedAndActedOn_3 : ∃ s : State, ∃ f : FaultRec, ∃ rest : List FaultRec, ∃ d : Nat, s.top.inQ = f :: rest ∧ s.top.logAt ≤ s.now ∧ f.slots.length ≤ 2 ∧ d = s.rd TOP_FAULT_RING_DEPTH ∧ 2 ≤ d ∧ (s.rd TOP_FAULT_RING_WR + 1) % d = s.rd TOP_FAULT_RD ∧ bitAt (s.rd TOP_FAULT_POLICY_HALT_MASK) f.cls = false :=
  ⟨({ withFlds [(TOP_FAULT_RING_DEPTH, 2), (TOP_FAULT_RING_WR, 1)] with top := { inQ := [⟨4097, 16, 9, 6, -65536, 77, 5, [3, 4], 0⟩] } }), (⟨4097, 16, 9, 6, -65536, 77, 5, [3, 4], 0⟩), ([]), (2), by decide⟩

theorem witness_FaultsAreLoggedCopiedAndActedOn_4 : ∃ s : State, ∃ f : FaultRec, ∃ rest : List FaultRec, ∃ d : Nat, ∃ a : Nat, s.top.inQ = f :: rest ∧ s.top.logAt ≤ s.now ∧ f.slots.length ≤ 2 ∧ d = s.rd TOP_FAULT_RING_DEPTH ∧ 2 ≤ d ∧ (s.rd TOP_FAULT_RING_WR + 1) % d ≠ s.rd TOP_FAULT_RD ∧ a = s.rd TOP_FAULT_RING_BASE + 32 * s.rd TOP_FAULT_RING_WR ∧ devSpace a = 1 ∧ devOff a + 32 ≤ 2 ^ 42 ∧ s.permitted reqRanger clsMemory true = true ∧ s.sec.perst = true ∧ bitAt (s.rd TOP_FAULT_POLICY_HALT_MASK) f.cls = false :=
  ⟨({ withFlds [(TOP_FAULT_RING_DEPTH, 2), (TOP_FAULT_RING_WR, 1), (TOP_FAULT_RD, 1), (TOP_FAULT_RING_BASE, 2 ^ 42 + 64)] with top := { inQ := [⟨4097, 16, 9, 6, -65536, 77, 5, [3, 4], 0⟩] } }), (⟨4097, 16, 9, 6, -65536, 77, 5, [3, 4], 0⟩), ([]), (2), (2 ^ 42 + 96), by decide⟩

theorem witness_FaultsAreLoggedCopiedAndActedOn_5 : ∃ s : State, ∃ f : FaultRec, ∃ rest : List FaultRec, s.top.inQ = f :: rest ∧ s.top.logAt ≤ s.now ∧ bitAt (s.rd TOP_FAULT_POLICY_ALERT_MASK) (f.code / 4096) = true ∧ bitAt (s.rd TOP_FAULT_POLICY_HALT_MASK) (f.code / 4096) = false ∧ s.rd TOP_FAULT_RING_DEPTH < 2 :=
  ⟨({ withFlds [(TOP_FAULT_POLICY_ALERT_MASK, 0x8000)] with top := { inQ := [⟨61441, 16, 9, 6, -65536, 77, 5, [3, 4], 0⟩] } }), (⟨61441, 16, 9, 6, -65536, 77, 5, [3, 4], 0⟩), ([]), by decide⟩

theorem witness_FaultsAreLoggedCopiedAndActedOn_6 : ∃ s : State, ∃ f : FaultRec, ∃ rest : List FaultRec, s.top.inQ = f :: rest ∧ s.top.logAt ≤ s.now ∧ bitAt (s.rd TOP_FAULT_POLICY_HALT_MASK) (f.code / 4096) = true ∧ s.rd TOP_FAULT_RING_DEPTH < 2 ∧ s.mode ≠ 0 ∧ s.mode ≠ 11 ∧ f.code < 65536 :=
  ⟨({ withFlds [(TOP_FAULT_POLICY_HALT_MASK, 0x8000)] with top := { inQ := [⟨65535, 16, 9, 6, -65536, 77, 5, [3, 4], 0⟩] } }), (⟨65535, 16, 9, 6, -65536, 77, 5, [3, 4], 0⟩), ([]), by decide⟩

theorem witness_FaultsAreLoggedCopiedAndActedOn_7 : ∃ s : State, 64 ≤ s.top.inQ.length :=
  ⟨({ withFlds [(TOP_FAULT_SEQ, 2 ^ 32 - 1), (TOP_FAULT_LOST, 2 ^ 32 - 1)] with top := { inQ := List.replicate 64 ⟨4097, 16, 9, 6, -65536, 77, 5, [3, 4], 0⟩ } }), by decide⟩

theorem witness_FaultsAreLoggedCopiedAndActedOn_8 : ∃ s : State, s.top.inQ.length < 64 :=
  ⟨({ withFlds [] with top := { inQ := List.replicate 63 ⟨4097, 16, 9, 6, -65536, 77, 5, [3, 4], 0⟩ } }), by decide⟩

theorem witness_FaultsAreLoggedCopiedAndActedOn_9 : ∃ s : State, ∃ r : Fin 5, ∃ n : Nat, ∃ v : Nat, r.val = 4 ∧ s.top.ringHoldUntil = some n ∧ n ≤ s.now ∧ s.top.ringMoved = true ∧ s.on TOP_FAULT_IRQ_IRQ_EN = true ∧ v = s.rd TOP_FAULT_IRQ_VECTOR ∧ v < 256 ∧ s.msixOpen v = true ∧ s.sec.perst = true :=
  ⟨({ withFlds [(TOP_FAULT_IRQ_IRQ_EN, 1), (TOP_FAULT_IRQ_VECTOR, 255), (SEC_PCIE_MSIX_EN, 1), (SEC_MSIX_CTRL 255, 0)] with top := { ringHoldUntil := some 0, ringMoved := true }, sec := { perst := true } }), (4), (0), (255), by decide⟩

theorem witness_FaultsAreLoggedCopiedAndActedOn_10 : ∃ s : State, ∃ r : Fin 5, ∃ n : Nat, r.val = 4 ∧ s.top.ringHoldUntil = some n ∧ n ≤ s.now ∧ s.top.ringMoved = false :=
  ⟨({ withFlds [] with top := { ringHoldUntil := some 0 } }), (4), (0), by decide⟩

theorem witness_FaultsAreLoggedCopiedAndActedOn_11 : ∃ s : State, ∃ r : Fin 5, ∃ e : Nat, ∃ n : Nat, ∃ v : Nat, r.val = 2 * e ∧ e < 2 ∧ (s.np e).rxHold = some n ∧ n ≤ s.now ∧ (s.np e).rxMoved = true ∧ v = s.rd (NET_E_IRQ_RX_VECTOR e) ∧ v < 256 ∧ s.msixOpen v = true ∧ s.sec.perst = true :=
  ⟨((withFlds [(NET_E_IRQ_RX_VECTOR 1, 255), (SEC_PCIE_MSIX_EN, 1), (SEC_MSIX_CTRL 255, 0)]).setNp 1 { rxHold := some 0, rxMoved := true }), (2), (1), (0), (255), by decide⟩

theorem witness_FaultsAreLoggedCopiedAndActedOn_12 : ∃ s : State, ∃ r : Fin 5, ∃ e : Nat, ∃ n : Nat, ∃ v : Nat, r.val = 2 * e + 1 ∧ e < 2 ∧ (s.np e).txHold = some n ∧ n ≤ s.now ∧ (s.np e).txMoved = true ∧ v = s.rd (NET_E_IRQ_TX_VECTOR e) ∧ v < 256 ∧ s.msixOpen v = true ∧ s.sec.perst = true :=
  ⟨((withFlds [(NET_E_IRQ_TX_VECTOR 1, 255), (SEC_PCIE_MSIX_EN, 1), (SEC_MSIX_CTRL 255, 0)]).setNp 1 { txHold := some 0, txMoved := true }), (3), (1), (0), (255), by decide⟩

theorem witness_FaultsAreLoggedCopiedAndActedOn_13 : ∃ s : State, ∃ a : Fin 16, s.rd (TOP_SRAM_SPARE_LEFT a) ≠ 0 ∧ s.rangerUp = true :=
  ⟨((withFlds [])), (15), by decide⟩

theorem witness_FaultsAreLoggedCopiedAndActedOn_14 : ∃ s : State, ∃ a : Fin 16, s.rd (TOP_SRAM_SPARE_LEFT a) = 0 :=
  ⟨((withFlds [(TOP_SRAM_SPARE_LEFT 15, 0)])), (15), by decide⟩

theorem witness_FaultsAreLoggedCopiedAndActedOn_15 : ∃ s : State, ∃ n : Fin 15, ∃ l : Fin 5, ∃ k : Nat, ∃ lg : Nat, (s.lane n l).eyeLowSince = some k ∧ k + 400000000 ≤ s.now ∧ s.rangerUp = true ∧ s.groupsOf n = [0] ∧ lg < s.logicals n ∧ s.rxLane n 0 lg = l ∧ (∀ j ∈ List.range lg, s.rxLane n 0 j ≠ l) ∧ (s.port n).spareRx = none ∧ (s.port n).swapRx = none ∧ s.on (ZL_STATUS_SPARE_READY n) = true ∧ s.spareServes n 0 = true :=
  ⟨({ (withFlds [(ZL_STATUS_SPARE_READY 11, 1)]).setLane 11 3 { eyeLowSince := some 0 } with tl := { tick := 400000000 } }), (11), (3), (0), (3), by decide⟩

theorem witness_FaultsAreLoggedCopiedAndActedOn_16 : ∃ s : State, ∃ n : Fin 15, ∃ l : Fin 5, (s.lane n l).eyeLowSince = none :=
  ⟨((withFlds [])), (14), (4), by decide⟩

theorem witness_SummariesAreTakenAndTheMachineHalts_1 : ∃ s : State, s.top.sumTaken = none :=
  ⟨((withFlds [])), by decide⟩

theorem witness_SummariesAreTakenAndTheMachineHalts_2 : ∃ s : State, ∃ n : Nat, ∃ bs : List Nat, s.top.sumTaken = some (n, bs) ∧ n ≠ s.now ∧ s.top.sumReq = [] :=
  ⟨({ withFlds [(TOP_STATUS_SUM_BUSY, 1)] with top := { sumTaken := some (7, [1, 2]) } }), (7), ([1, 2]), by decide⟩

theorem witness_SummariesAreTakenAndTheMachineHalts_3 : ∃ s : State, s.top.sumTaken = none :=
  ⟨((withFlds [])), by decide⟩

theorem witness_SummariesAreTakenAndTheMachineHalts_4 : ∃ s : State, ∃ n : Nat, ∃ bs : List Nat, s.top.sumTaken = some (n, bs) ∧ s.top.sumReq = [] ∧ s.rd TOP_SUMMARY_DEST = 0 ∧ s.member = false ∧ (∀ q ∈ List.range 8, (s.scq q).wait = none) :=
  ⟨({ withFlds [(TOP_SUMMARY_COUNT, 2 ^ 32 - 1)] with top := { sumTaken := some (7, List.replicate 4096 5) } }), (7), (List.replicate 4096 5), by decide⟩

theorem witness_SummariesAreTakenAndTheMachineHalts_5 : ∃ s : State, ∃ n : Nat, ∃ a : Nat, ∃ bs : List Nat, s.top.sumTaken = some (n, bs) ∧ s.top.sumReq = [] ∧ a = s.rd TOP_SUMMARY_DEST ∧ devSpace a = 1 ∧ bs.length = 4096 ∧ devOff a + 4096 ≤ 2 ^ 42 ∧ s.permitted reqRanger clsMemory true = true ∧ s.member = false :=
  ⟨({ withFlds [(TOP_SUMMARY_DEST, 2 ^ 43 - 4096)] with top := { sumTaken := some (7, List.replicate 4096 5) } }), (7), (2 ^ 43 - 4096), (List.replicate 4096 5), by decide⟩

theorem witness_SummariesAreTakenAndTheMachineHalts_6 : ∃ s : State, ∃ n : Nat, ∃ bs : List Nat, ∃ q : Fin 8, ∃ r : Nat, s.top.sumTaken = some (n, bs) ∧ s.rd TOP_SUMMARY_DEST = 0 ∧ s.member = false ∧ (s.scq q).wait = some (.resync r) ∧ r ≤ n :=
  ⟨({ (withFlds []).setScq 7 { wait := some (.resync 7) } with top := { sumTaken := some (7, [1, 2]) } }), (7), ([1, 2]), (7), (7), by decide⟩

theorem witness_SummariesAreTakenAndTheMachineHalts_7 : ∃ s : State, s.mode ≠ 0 ∧ s.mode ≠ 11 :=
  ⟨((withFlds [(TOP_MODE_MODE, 10), (TOP_EPOCH, 3)])), by decide⟩

theorem witness_SummariesAreTakenAndTheMachineHalts_8 : ∃ s : State, (s.mode = 0 ∨ s.mode = 11) :=
  ⟨((withFlds [(TOP_MODE_MODE, 11)])), by decide⟩

theorem witness_SummariesAreTakenAndTheMachineHalts_9 : ∃ s : State, s.top.stop = [] :=
  ⟨((withFlds [])), by decide⟩

theorem witness_SummariesAreTakenAndTheMachineHalts_10 : ∃ s : State, ∃ rest : List StopStep, s.top.stop = .quiesce :: rest ∧ s.nibsBusy = true :=
  ⟨({ (withFlds []).setNib 11 16 { run := some (.line 5) } with top := { stop := [.quiesce, .alert] } }), ([.alert]), by decide⟩

theorem witness_SummariesAreTakenAndTheMachineHalts_11 : ∃ s : State, ∃ rest : List StopStep, s.top.stop = .quiesce :: rest ∧ s.nibsBusy = false ∧ (∀ q ∈ List.range 12, ∀ j ∈ List.range 4, s.jobOn q j = false) :=
  ⟨({ withFlds [] with top := { stop := [.quiesce, .alert] } }), ([.alert]), by decide⟩

theorem witness_SummariesAreTakenAndTheMachineHalts_12 : ∃ s : State, ∃ rest : List StopStep, ∃ v : Int, s.top.stop = .cover :: rest ∧ s.scalerBusy = false ∧ s.top.haltLow = none ∧ v = s.rdS SCALER_VERDICT ∧ inspecting (s.modeOf v) = true ∧ s.on SCALER_CTRL_EN = false ∧ s.on TOP_STATUS_HELD_VALID = false :=
  ⟨({ withFlds [(SCALER_VERDICT, 2 ^ 64 - 3)] with top := { stop := [.cover, .alert], hist := [⟨-100, 7, 1⟩] } }), ([.alert]), (-3), by decide⟩

theorem witness_SummariesAreTakenAndTheMachineHalts_13 : ∃ s : State, ∃ rest : List StopStep, ∃ v : Int, ∃ l : Int, s.top.stop = .cover :: rest ∧ s.scalerBusy = false ∧ s.top.haltLow = some l ∧ v = min (s.rdS SCALER_VERDICT) l ∧ inspecting (s.modeOf v) = false :=
  ⟨({ withFlds [] with top := { stop := [.cover, .alert], haltLow := some (-5) } }), ([.alert]), (-5), (-5), by decide⟩

theorem witness_SummariesAreTakenAndTheMachineHalts_14 : ∃ s : State, ∃ rest : List StopStep, s.top.stop = .summary :: rest ∧ s.on TOP_CTRL_AUTO_SUM_HALT = false :=
  ⟨({ withFlds [(TOP_CTRL_AUTO_SUM_HALT, 0)] with top := { stop := [.summary, .alert] } }), ([.alert]), by decide⟩

theorem witness_SummariesAreTakenAndTheMachineHalts_15 : ∃ s : State, ∃ rest : List StopStep, s.top.stop = .summary :: rest ∧ s.on TOP_CTRL_AUTO_SUM_HALT = true ∧ s.top.sumTaken = none :=
  ⟨({ withFlds [(TOP_CTRL_AUTO_SUM_HALT, 1)] with top := { stop := [.summary, .alert] } }), ([.alert]), by decide⟩

theorem witness_SummariesAreTakenAndTheMachineHalts_16 : ∃ s : State, ∃ rest : List StopStep, s.top.stop = .selfRefresh :: rest ∧ s.top.sumTaken = none ∧ s.top.sumReq = [] ∧ s.on DRAMC_SR_SR_AUTO = true ∧ s.rd DRAMC_STATUS_SR_STATE = 0 :=
  ⟨({ withFlds [(DRAMC_SR_SR_AUTO, 1)] with top := { stop := [.selfRefresh, .alert] } }), ([.alert]), by decide⟩

theorem witness_SummariesAreTakenAndTheMachineHalts_17 : ∃ s : State, ∃ rest : List StopStep, s.top.stop = .selfRefresh :: rest ∧ s.top.sumTaken.isSome = true :=
  ⟨({ withFlds [(DRAMC_SR_SR_AUTO, 1)] with top := { stop := [.selfRefresh, .alert], sumTaken := some (0, []) } }), ([.alert]), by decide⟩

theorem witness_SummariesAreTakenAndTheMachineHalts_18 : ∃ s : State, ∃ rest : List StopStep, s.top.stop = .idle :: rest :=
  ⟨({ withFlds [] with top := { stop := [.idle, .alert] } }), ([.alert]), by decide⟩

theorem witness_SummariesAreTakenAndTheMachineHalts_19 : ∃ s : State, ∃ rest : List StopStep, s.top.stop = .alert :: rest :=
  ⟨({ withFlds [(TOP_MODE_STOPPING, 1)] with top := { stop := [.alert] } }), ([]), by decide⟩

theorem witness_ResetsKeepWhatTheirKindKeeps_1 : ∃ s : State, s.wf = true :=
  ⟨({ withFlds [(SEC_FUSE 127, 77), (TOP_RESET_INFO_LAST, 2), (TOP_FAULT_SEQ, 9), (SCALER_SEQ_NEXT, 4)] with pending := [.por] }), by decide⟩

theorem witness_ResetsKeepWhatTheirKindKeeps_3 : ∃ s : State, s.wf = true ∧ s.therm.tripped = false ∧ s.on SEC_STRAPS_RETAIN = false :=
  ⟨((withFlds [(SEC_FUSE 127, 77), (TOP_MODE_MODE, 5), (TOP_RESET_INFO_PIN_COUNT, 65535), (DRAMC_CFG, 5)])), by decide⟩

theorem witness_ResetsKeepWhatTheirKindKeeps_4 : ∃ s : State, s.wf = true ∧ s.therm.tripped = false ∧ s.on SEC_STRAPS_RETAIN = true ∧ s.rd DRAMC_STATUS_SR_STATE = 2 :=
  ⟨({ withFlds [(SEC_STRAPS_RETAIN, 1), (DRAMC_STATUS_SR_STATE, 2)] with dram := { (withFlds []).dram with mem := [(5, 6)] } }), by decide⟩

theorem witness_ResetsKeepWhatTheirKindKeeps_5 : ∃ s : State, s.therm.tripped = false ∧ s.on SEC_STRAPS_RETAIN = true ∧ s.rd DRAMC_STATUS_SR_STATE ≠ 2 :=
  ⟨((withFlds [(SEC_STRAPS_RETAIN, 1), (DRAMC_STATUS_SR_STATE, 1)])), by decide⟩

theorem witness_ResetsKeepWhatTheirKindKeeps_6 : ∃ s : State, s.on SEC_STRAPS_RETAIN = true ∧ s.therm.tripped = false ∧ s.mode ≠ 0 ∧ s.rd DRAMC_STATUS_SR_STATE = 0 :=
  ⟨((withFlds [(SEC_STRAPS_RETAIN, 1), (TOP_MODE_MODE, 7)])), by decide⟩

theorem witness_ResetsKeepWhatTheirKindKeeps_7 : ∃ s : State, s.on SEC_STRAPS_RETAIN = false :=
  ⟨((withFlds [(SEC_STRAPS_RETAIN, 0)])), by decide⟩

theorem witness_ResetsKeepWhatTheirKindKeeps_8 : ∃ s : State, ∃ src : Bool, ∃ hold : Bool, ∃ retain : Bool, ∃ bar2 : Fin 8, ∃ dev : Fin 4, ∃ ranks : Fin 4, ∃ i2c : Fin 4, s.mode = 0 ∧ s.therm.tripped = false ∧ bar2.val < 5 ∧ dev.val ≠ 3 :=
  ⟨((withFlds [(TOP_MODE_MODE, 0), (SEC_FUSE 14, 3), (EVENT_PROD_EN 253, 1)])), (true), (false), (true), (4), (2), (3), (3), by decide⟩

theorem witness_ResetsKeepWhatTheirKindKeeps_9 : ∃ s : State, ∃ src : Bool, ∃ hold : Bool, ∃ retain : Bool, ∃ bar2 : Fin 8, ∃ dev : Fin 4, ∃ ranks : Fin 4, ∃ i2c : Fin 4, s.mode = 0 ∧ s.therm.tripped = false ∧ 5 ≤ bar2.val ∧ dev.val ≠ 3 ∧ s.top.inQ = [] :=
  ⟨((withFlds [(TOP_MODE_MODE, 0)])), (true), (false), (true), (5), (2), (3), (3), by decide⟩

theorem witness_ResetsKeepWhatTheirKindKeeps_10 : ∃ s : State, ∃ src : Bool, ∃ hold : Bool, ∃ retain : Bool, ∃ bar2 : Fin 8, ∃ dev : Fin 4, ∃ ranks : Fin 4, ∃ i2c : Fin 4, s.mode ≠ 0 :=
  ⟨((withFlds [(TOP_MODE_MODE, 1)])), (true), (false), (true), (7), (2), (3), (3), by decide⟩

theorem witness_ResetsKeepWhatTheirKindKeeps_11 : ∃ s : State, 2 ≤ s.mode ∧ s.mode ≤ 11 ∧ s.top.warmTrain = false :=
  ⟨((withFlds [(TOP_MODE_MODE, 11), (TOP_RESET_INFO_WARM_COUNT, 255), (TOP_EPOCH, 5)])), by decide⟩

theorem witness_ResetsKeepWhatTheirKindKeeps_12 : ∃ s : State, inspecting s.mode = true ∧ s.top.warmTrain = false ∧ s.on TOP_STATUS_HELD_VALID = false :=
  ⟨((withFlds [(TOP_MODE_MODE, 8), (SCALER_VERDICT, 2 ^ 64 - 3)])), by decide⟩

theorem witness_ResetsKeepWhatTheirKindKeeps_13 : ∃ s : State, (s.mode = 0 ∨ s.top.warmTrain = true) :=
  ⟨({ withFlds [(TOP_MODE_MODE, 2)] with top := { warmTrain := true } }), by decide⟩

theorem witness_ResetsKeepWhatTheirKindKeeps_14 : ∃ s : State, ∃ n : Nat, s.top.warmAt = some n ∧ s.mode = 2 ∧ s.dram.needInit = false ∧ (s.groupsUp = true ∨ n + 800000 ≤ s.now) ∧ s.on TOP_CTRL_AUTO_SUM_WARM = false :=
  ⟨({ withFlds [(TOP_MODE_MODE, 2), (TOP_CTRL_AUTO_SUM_WARM, 0), (ZL_CTRL_EN 3, 1)] with top := { warmAt := some 0 }, tl := { tick := 800000 }, dram := { (withFlds []).dram with needInit := false } }), (0), by decide⟩

theorem witness_ResetsKeepWhatTheirKindKeeps_15 : ∃ s : State, ∃ n : Nat, s.top.warmAt = some n ∧ s.mode = 2 ∧ s.dram.needInit = false ∧ (s.groupsUp = true ∨ n + 800000 ≤ s.now) ∧ s.on TOP_CTRL_AUTO_SUM_WARM = true ∧ s.top.warmTrain = true ∧ s.top.sumTaken = none :=
  ⟨({ withFlds [(TOP_MODE_MODE, 2), (TOP_CTRL_AUTO_SUM_WARM, 1)] with top := { warmAt := some 0, warmTrain := true }, dram := { (withFlds []).dram with needInit := false } }), (0), by decide⟩

theorem witness_ResetsKeepWhatTheirKindKeeps_16 : ∃ s : State, ∃ n : Nat, s.top.warmAt = some n ∧ s.groupsUp = false ∧ s.now < n + 800000 :=
  ⟨({ withFlds [(TOP_MODE_MODE, 2), (ZL_CTRL_EN 3, 1)] with top := { warmAt := some 0 }, tl := { tick := 799999 } }), (0), by decide⟩

theorem witness_ResetsKeepWhatTheirKindKeeps_17 : ∃ s : State, ∃ source : BitVec 8, s.wf = true ∧ (source = 0x32 ∨ source = 0x0D) :=
  ⟨((withFlds [(SENSOR_CTRL, 3), (FINE_CTRL_COL_EN, 1), (FINE_STATUS, 7)])), (0x32), by decide⟩

theorem witness_ResetsKeepWhatTheirKindKeeps_18 : ∃ s : State, ∃ source : BitVec 8, s.mode ≠ 7 ∧ s.mode ≠ 8 :=
  ⟨((withFlds [(TOP_MODE_MODE, 6)])), (0x40), by decide⟩

theorem witness_SensorsVoteWarnStopAndTrip_1 : ∃ s : State, ∃ done : BitVec 24, ∃ stuck : BitVec 24, ∃ comps : BitVec 24, ∃ rs : BitVec 384, ∃ i : Fin 24, ∃ v : Int, bitAt done.toNat i = true ∧ bitAt stuck.toNat i = false ∧ s.sensBroken i = false ∧ v = signed 16 (bitsAt rs.toNat (16 * i) 16) ∧ -640 ≤ v ∧ v ≤ 2400 :=
  ⟨((withFlds [])), (2 ^ 23), (0), (2 ^ 23), (2400 * 2 ^ 368), (23), (2400), by decide⟩

theorem witness_SensorsVoteWarnStopAndTrip_2 : ∃ s : State, ∃ done : BitVec 24, ∃ stuck : BitVec 24, ∃ comps : BitVec 24, ∃ rs : BitVec 384, ∃ i : Fin 24, ∃ v : Int, bitAt done.toNat i = true ∧ s.sensBroken i = false ∧ v = signed 16 (bitsAt rs.toNat (16 * i) 16) ∧ (v < -640 ∨ 2400 < v) :=
  ⟨((withFlds [])), (2 ^ 23), (0), (2 ^ 23), (2401 * 2 ^ 368), (23), (2401), by decide⟩

theorem witness_SensorsVoteWarnStopAndTrip_3 : ∃ s : State, ∃ done : BitVec 24, ∃ stuck : BitVec 24, ∃ comps : BitVec 24, ∃ rs : BitVec 384, ∃ i : Fin 24, ∃ v : Int, bitAt done.toNat i = true ∧ bitAt stuck.toNat i = true ∧ s.sensBroken i = false ∧ (s.tsens i).stuck = 15 ∧ v = signed 16 (bitsAt rs.toNat (16 * i) 16) ∧ -640 ≤ v ∧ v ≤ 2400 :=
  ⟨((withFlds []).setTsens 23 { stuck := 15 }), (2 ^ 23), (2 ^ 23), (0), (0), (23), (0), by decide⟩

theorem witness_SensorsVoteWarnStopAndTrip_4 : ∃ s : State, ∃ done : BitVec 24, ∃ stuck : BitVec 24, ∃ comps : BitVec 24, ∃ rs : BitVec 384, ∃ i : Fin 24, bitAt done.toNat i = false ∧ s.sensBroken i = false ∧ (s.tsens i).last + 400000 ≤ s.now :=
  ⟨({ withFlds [] with tl := { tick := 400000 } }), (0), (0), (0), (0), (23), by decide⟩

theorem witness_SensorsVoteWarnStopAndTrip_5 : ∃ s : State, ∃ done : BitVec 24, ∃ stuck : BitVec 24, ∃ comps : BitVec 24, ∃ rs : BitVec 384, ∃ r : Fin 8, ∃ i : Nat, ∃ v : Int, s.voter r = some i ∧ bitAt done.toNat i = true ∧ bitAt stuck.toNat i = false ∧ s.sensBroken i = false ∧ v = signed 16 (bitsAt rs.toNat (16 * i) 16) ∧ -640 ≤ v ∧ v ≤ 2400 :=
  ⟨((withFlds [])), (2 ^ 21), (0), (0), ((65536 - 640) * 2 ^ 336), (7), (21), (-640), by decide⟩

theorem witness_SensorsVoteWarnStopAndTrip_6 : ∃ s : State, ∃ done : BitVec 24, ∃ stuck : BitVec 24, ∃ comps : BitVec 24, ∃ rs : BitVec 384, ∃ r : Fin 8, ∃ i : Nat, ∃ v : Int, s.voter r = some i ∧ bitAt done.toNat i = true ∧ bitAt stuck.toNat i = false ∧ s.sensBroken i = false ∧ v = signed 16 (bitsAt rs.toNat (16 * i) 16) ∧ (s.rd THERM_LIMITS_WARN : Int) * 16 ≤ v ∧ -640 ≤ v ∧ v ≤ 2400 ∧ s.mode ≠ 0 ∧ (s.treg r).warn = 3 :=
  ⟨((withFlds []).setTreg 7 { warn := 3 }), (2 ^ 21), (0), (0), (1600 * 2 ^ 336), (7), (21), (1600), by decide⟩

theorem witness_SensorsVoteWarnStopAndTrip_7 : ∃ s : State, ∃ done : BitVec 24, ∃ stuck : BitVec 24, ∃ comps : BitVec 24, ∃ rs : BitVec 384, ∃ r : Fin 8, ∃ i : Nat, ∃ v : Int, s.voter r = some i ∧ bitAt done.toNat i = true ∧ bitAt stuck.toNat i = false ∧ s.sensBroken i = false ∧ v = signed 16 (bitsAt rs.toNat (16 * i) 16) ∧ (s.rd THERM_LIMITS_CRIT : Int) * 16 ≤ v ∧ -640 ≤ v ∧ v ≤ 2400 ∧ s.mode ≠ 0 ∧ s.mode ≠ 11 ∧ (s.treg r).crit = 3 ∧ s.on ⟨THERM_STATUS.off, 8 + r, 1⟩ = false :=
  ⟨((withFlds []).setTreg 7 { crit := 3 }), (2 ^ 21), (0), (0), (1760 * 2 ^ 336), (7), (21), (1760), by decide⟩

theorem witness_SensorsVoteWarnStopAndTrip_8 : ∃ s : State, ∃ done : BitVec 24, ∃ stuck : BitVec 24, ∃ comps : BitVec 24, ∃ rs : BitVec 384, ∃ r : Fin 8, ∃ i : Nat, ∃ v : Int, s.voter r = some i ∧ bitAt done.toNat i = true ∧ bitAt stuck.toNat i = false ∧ s.sensBroken i = false ∧ v = signed 16 (bitsAt rs.toNat (16 * i) 16) ∧ -640 ≤ v ∧ v ≤ 2400 ∧ s.on THERM_CTRL_TABLE_EN = true ∧ s.on THERM_LIMITS_XO_SRC = false ∧ s.rd THERM_LIMITS_XO_REGION = r ∧ s.rangerUp = true ∧ s.tabLen = 2 ∧ s.tabTemp 0 ≤ v ∧ v < s.tabTemp 1 ∧ (s.treg r).disagree < 399 :=
  ⟨((withFlds [(THERM_CTRL_TABLE_EN, 1), (THERM_LIMITS_XO_REGION, 7), (THERM_TABLE_ENTRY0_VALID 0, 1), (THERM_TABLE_ENTRY0_VALID 1, 1), (THERM_TABLE_ENTRY0_TEMP 0, 400), (THERM_TABLE_ENTRY0_TEMP 1, 0x0460), (THERM_TABLE_ENTRY1 1, 0xFFFFFFBD)])), (2 ^ 21), (0), (0), (760 * 2 ^ 336), (7), (21), (760), by decide⟩

theorem witness_SensorsVoteWarnStopAndTrip_9 : ∃ s : State, ∃ stuck : BitVec 24, ∃ rs : BitVec 384, s.on THERM_CTRL_TABLE_EN = false ∧ (∀ i ∈ List.range 24, s.sensBroken i = false ∧ s.now < (s.tsens i).last + 400000) :=
  ⟨((withFlds [])), (1), (5), by decide⟩

theorem witness_SensorsVoteWarnStopAndTrip_10 : ∃ s : State, ∃ i : Fin 24, (s.sensBroken i = false ∨ s.sensRole i = 2) :=
  ⟨((withFlds [])), (23), by decide⟩

theorem witness_SensorsVoteWarnStopAndTrip_11 : ∃ s : State, ∃ i : Fin 24, s.sensBroken i = true ∧ s.sensRole i = 0 ∧ s.sparesOf (i / 3) = [] :=
  ⟨((withFlds [(THERM_SENSOR_STATE_BROKEN 21, 1), (THERM_SENSOR_STATE_ROLE 22, 2), (THERM_SENSOR_STATE_ROLE 23, 2)])), (21), by decide⟩

theorem witness_SensorsVoteWarnStopAndTrip_12 : ∃ s : State, ∃ i : Fin 24, ∃ j : Nat, s.sensBroken i = true ∧ s.sensRole i = 0 ∧ s.sparesOf (i / 3) = [j] ∧ s.rangerUp = true ∧ s.top.inQ = [] :=
  ⟨((withFlds [(THERM_SENSOR_STATE_BROKEN 21, 1), (THERM_SENSOR_STATE_REASON 21, 2), (THERM_SENSOR_STATE_ROLE 22, 2), (THERM_REGION_STATUS_SPARES 7, 1)])), (21), (23), by decide⟩

theorem witness_SensorsVoteWarnStopAndTrip_13 : ∃ s : State, ∃ i : Fin 24, ∃ j : Nat, s.sensBroken i = true ∧ s.sensRole i = 1 ∧ j ≠ i ∧ (s.sparesOf (i / 3) = [i.val, j] ∨ s.sparesOf (i / 3) = [j, i.val]) ∧ s.rangerUp = true ∧ s.top.inQ = [] :=
  ⟨((withFlds [(THERM_SENSOR_STATE_BROKEN 23, 1), (THERM_SENSOR_STATE_REASON 23, 2)])), (23), (22), by decide⟩

theorem witness_SensorsVoteWarnStopAndTrip_14 : ∃ s : State, ∃ comps : BitVec 24, ∃ r : Fin 8, ∃ a : Nat, ∃ b : Nat, a ∈ regionSensors r ∧ b ∈ regionSensors r ∧ a ≠ b ∧ s.sensRole a ≠ 2 ∧ s.sensRole b ≠ 2 ∧ (bitAt comps.toNat a = true ∨ s.sensBroken a = true) ∧ (bitAt comps.toNat b = true ∨ s.sensBroken b = true) :=
  ⟨((withFlds [(THERM_SENSOR_STATE_BROKEN 23, 1)])), (2 ^ 21), (7), (21), (23), by decide⟩

theorem witness_SensorsVoteWarnStopAndTrip_15 : ∃ s : State, ∃ comps : BitVec 24, ∃ r : Fin 8, ∃ a : Nat, ∃ b : Nat, ∃ c : Nat, (regionSensors r = [a, b, c] ∨ regionSensors r = [b, a, c] ∨ regionSensors r = [b, c, a]) ∧ s.sensRole b = 2 ∧ s.sensRole c = 2 ∧ (s.sensRole a = 2 ∨ bitAt comps.toNat a = true ∨ s.sensBroken a = true) :=
  ⟨((withFlds [(THERM_SENSOR_STATE_ROLE 21, 2), (THERM_SENSOR_STATE_ROLE 22, 2)])), (2 ^ 23), (7), (23), (21), (22), by decide⟩

theorem witness_SensorsVoteWarnStopAndTrip_16 : ∃ s : State, (∀ i ∈ List.range 24, s.sensRole i ≠ 2 ∧ s.sensBroken i = false) :=
  ⟨((withFlds [(THERM_SENSOR_STATE_COMPARATOR 5, 1)])), by decide⟩

theorem witness_CalibrationMeasuresStepsAndChecks_1 : ∃ s : State, s.mode < 2 :=
  ⟨((withFlds [(TOP_MODE_MODE, 1)])), by decide⟩

theorem witness_CalibrationMeasuresStepsAndChecks_2 : ∃ s : State, ∃ r : Fin 8, 2 ≤ s.mode ∧ s.therm.run = none ∧ s.therm.pend = [] ∧ s.rangerUp = true ∧ s.rd THERM_CTRL_CAL_REGIONS = 2 ^ r.val :=
  ⟨({ withFlds [(TOP_MODE_MODE, 2), (THERM_CTRL_CAL_REGIONS, 128)] with therm := { pend := [] } }), (7), by decide⟩

theorem witness_CalibrationMeasuresStepsAndChecks_3 : ∃ s : State, ∃ r : Fin 8, ∃ c : CalRun, 2 ≤ s.mode ∧ s.therm.run = some c ∧ c.region = r.val ∧ c.measuring = true ∧ s.rd THERM_CTRL_CAL_REGIONS = 2 ^ r.val :=
  ⟨({ withFlds [(TOP_MODE_MODE, 2), (THERM_CTRL_CAL_REGIONS, 128)] with therm := { run := some ⟨7, 0, 0, true, false, false⟩ } }), (7), (⟨7, 0, 0, true, false, false⟩), by decide⟩

theorem witness_CalibrationMeasuresStepsAndChecks_4 : ∃ s : State, ∃ ohms : BitVec 32, ∃ ts : List (Nat × Int), s.therm.run = none :=
  ⟨((withFlds [])), (2000), ([(5, 6)]), by decide⟩

theorem witness_CalibrationMeasuresStepsAndChecks_5 : ∃ s : State, ∃ ohms : BitVec 32, ∃ ts : List (Nat × Int), ∃ c : CalRun, s.therm.run = some c ∧ c.measuring = true ∧ s.now < c.start + 80000 :=
  ⟨({ withFlds [] with therm := { run := some ⟨7, 0, 0, true, false, false⟩ }, tl := { tick := 79999 } }), (2000), ([(5, 6)]), (⟨7, 0, 0, true, false, false⟩), by decide⟩

theorem witness_CalibrationMeasuresStepsAndChecks_6 : ∃ s : State, ∃ ohms : BitVec 32, ∃ c : CalRun, ∃ key : Nat, ∃ v : Int, s.therm.run = some c ∧ c.measuring = true ∧ c.again = false ∧ c.start + 80000 ≤ s.now ∧ s.rangerUp = true ∧ 1900 ≤ ohms.toNat ∧ ohms.toNat ≤ 2100 ∧ s.on THERM_CTRL_CAL_RESTORE = false ∧ c.region < 8 ∧ key ∈ regionCodes c.region ∧ key ≠ 4 * 104 ∧ key ≠ 4 * 104 + 1 ∧ key ≠ 4 * 105 ∧ key ≠ 4 * 105 + 1 ∧ (codeRange (key / 4)).1 ≤ v ∧ v ≤ (codeRange (key / 4)).2 ∧ v ≠ s.code key :=
  ⟨({ withFlds [(THERM_REGION_TEMP_TEMP 7, 99)] with therm := { run := some ⟨7, 0, 0, true, false, false⟩, codes := [(4 * 103 + 2, 3)] }, tl := { tick := 80000 } }), (2100), (⟨7, 0, 0, true, false, false⟩), (4 * 103 + 2), (-128), by decide⟩

theorem witness_CalibrationMeasuresStepsAndChecks_7 : ∃ s : State, ∃ ohms : BitVec 32, ∃ c : CalRun, ∃ key : Nat, ∃ v : Int, s.therm.run = some c ∧ c.measuring = true ∧ c.start + 80000 ≤ s.now ∧ s.rangerUp = true ∧ 1900 ≤ ohms.toNat ∧ ohms.toNat ≤ 2100 ∧ s.on THERM_CTRL_CAL_RESTORE = false ∧ c.region < 8 ∧ key ∈ regionCodes c.region ∧ (codeRange (key / 4)).2 < v :=
  ⟨({ withFlds [] with therm := { run := some ⟨2, 0, 0, true, false, false⟩ }, tl := { tick := 80000 } }), (1900), (⟨2, 0, 0, true, false, false⟩), (4 * 105 + 1), (64), by decide⟩

theorem witness_CalibrationMeasuresStepsAndChecks_8 : ∃ s : State, ∃ ohms : BitVec 32, ∃ ts : List (Nat × Int), ∃ c : CalRun, s.therm.run = some c ∧ c.measuring = true ∧ c.start + 80000 ≤ s.now ∧ s.rangerUp = true ∧ (ohms.toNat < 1900 ∨ 2100 < ohms.toNat) ∧ c.region < 8 :=
  ⟨({ withFlds [] with therm := { run := some ⟨2, 0, 0, true, false, false⟩ }, tl := { tick := 80000 } }), (2101), ([(1, 2)]), (⟨2, 0, 0, true, false, false⟩), by decide⟩

theorem witness_CalibrationMeasuresStepsAndChecks_9 : ∃ s : State, ∃ key : Fin 2048, ∃ c : CalRun, s.therm.run = some c ∧ c.measuring = false ∧ key.val = 4 * (96 + c.region) ∧ c.region < 8 ∧ s.trimBoundary = true ∧ s.code key < s.codeTarget key - 1 :=
  ⟨({ withFlds [(TOP_MODE_MODE, 11)] with therm := { run := some ⟨7, 0, 0, false, false, false⟩, codes := [(4 * 103, -128)], targets := [(4 * 103, some 5)] } }), (4 * 103), (⟨7, 0, 0, false, false, false⟩), by decide⟩

theorem witness_CalibrationMeasuresStepsAndChecks_10 : ∃ s : State, ∃ key : Fin 2048, ∃ c : CalRun, s.therm.run = some c ∧ key.val / 4 ≠ 511 ∧ (c.measuring = true ∨ s.code key = s.codeTarget key ∨ (s.stepAllowed (key / 4)).1 = false) :=
  ⟨({ withFlds [] with therm := { run := some ⟨7, 0, 0, true, false, false⟩ } }), (4 * 103), (⟨7, 0, 0, true, false, false⟩), by decide⟩

theorem witness_CalibrationMeasuresStepsAndChecks_11 : ∃ s : State, ∃ key : Fin 2048, s.therm.run = none ∧ key.val / 4 ≠ 511 :=
  ⟨((withFlds [])), (2043), by decide⟩

theorem witness_CalibrationMeasuresStepsAndChecks_12 : ∃ s : State, ∃ key : Fin 2048, key.val / 4 = 511 ∧ s.trimBoundary = true ∧ -128 ≤ s.therm.ref ∧ s.therm.ref < 128 :=
  ⟨({ withFlds [(THERM_REF_TRIM, 128)] with therm := { ref := 127 } }), (2044), by decide⟩

theorem witness_CalibrationMeasuresStepsAndChecks_13 : ∃ s : State, ∃ c : CalRun, s.therm.run = some c ∧ c.slow = false ∧ c.since + 40000000 ≤ s.now :=
  ⟨({ withFlds [] with therm := { run := some ⟨7, 0, 0, true, false, false⟩ }, tl := { tick := 40000000 } }), (⟨7, 0, 0, true, false, false⟩), by decide⟩

theorem witness_CalibrationMeasuresStepsAndChecks_14 : ∃ s : State, ∃ c : CalRun, s.therm.run = some c ∧ (c.slow = true ∨ s.now < c.since + 40000000) :=
  ⟨({ withFlds [] with therm := { run := some ⟨7, 0, 0, true, false, false⟩ }, tl := { tick := 39999999 } }), (⟨7, 0, 0, true, false, false⟩), by decide⟩

theorem witness_CalibrationMeasuresStepsAndChecks_15 : ∃ s : State, ∃ r : Fin 8, ∃ ppm : BitVec 32, s.rangerUp = true ∧ s.rd THERM_AGE_WARN ≠ 0 ∧ s.rd THERM_AGE_WARN < ppm.toNat ∧ (s.treg r).aged = false :=
  ⟨((withFlds [(THERM_AGE_WARN, 20000)])), (7), (20001), by decide⟩

theorem witness_CalibrationMeasuresStepsAndChecks_16 : ∃ s : State, ∃ r : Fin 8, ∃ ppm : BitVec 32, s.rangerUp = true ∧ (s.rd THERM_AGE_WARN = 0 ∨ ppm.toNat ≤ s.rd THERM_AGE_WARN ∨ (s.treg r).aged = true) :=
  ⟨((withFlds [(THERM_AGE_WARN, 20000)])), (7), (20000), by decide⟩

theorem witness_CalibrationMeasuresStepsAndChecks_17 : ∃ s : State, ∃ n : Nat, s.on THERM_CTRL_TABLE_EN = false ∧ 2 ≤ n ∧ n ≤ 16 ∧ (∀ k ∈ List.range 16, s.tabValid k = decide (k < n)) ∧ ((∀ k ∈ List.range 15, k + 1 < n → s.tabTemp k < s.tabTemp (k + 1))) :=
  ⟨((withFlds [(THERM_TABLE_ENTRY0_VALID 0, 1), (THERM_TABLE_ENTRY0_VALID 1, 1), (THERM_TABLE_ENTRY0_TEMP 0, 0x8000), (THERM_TABLE_ENTRY0_TEMP 1, 0x7FFF)])), (2), by decide⟩

theorem witness_CalibrationMeasuresStepsAndChecks_18 : ∃ s : State, s.on THERM_CTRL_TABLE_EN = false ∧ s.tabValid 0 = true ∧ s.tabValid 1 = true ∧ s.tabTemp 1 ≤ s.tabTemp 0 :=
  ⟨((withFlds [(THERM_TABLE_ENTRY0_VALID 0, 1), (THERM_TABLE_ENTRY0_VALID 1, 1)])), by decide⟩

theorem witness_EndpointAndInterruptsFollowTheLink_1 : ∃ s : State, s.wf = true :=
  ⟨((withFlds [(SEC_PCIE_WIDTH, 16), (SEC_PCIE_LINK_UP, 1), (SEC_PCIE_BME, 1), (SEC_PCIE_MSIX_EN, 1), (SEC_MSIX_CTRL 255, 0), (msixPba 255, 1), (SEC_PCIE_PERST_SEEN, 1)])), by decide⟩

theorem witness_EndpointAndInterruptsFollowTheLink_2 : ∃ s : State, s.wf = true :=
  ⟨({ withFlds [(SEC_PCIE_WIDTH, 16), (SEC_PCIE_LINK_UP, 1), (SEC_PCIE_BME, 1), (SEC_PCIE_MSIX_EN, 1), (SEC_MSIX_CTRL 255, 0), (msixPba 255, 1), (SEC_PCIE_PERST_SEEN, 1)] with sec := { perst := false } }), by decide⟩

theorem witness_EndpointAndInterruptsFollowTheLink_3 : ∃ s : State, ∃ w : Fin 32, ∃ sp : Fin 8, s.sec.perst = true ∧ s.on SEC_PCIE_LINK_UP = false ∧ 16 ≤ w.val ∧ 5 ≤ sp.val :=
  ⟨((withFlds [])), (16), (5), by decide⟩

theorem witness_EndpointAndInterruptsFollowTheLink_4 : ∃ s : State, ∃ w : Fin 32, ∃ sp : Fin 8, s.sec.perst = true ∧ s.on SEC_PCIE_LINK_UP = false ∧ (w.val < 16 ∨ sp.val < 5) :=
  ⟨((withFlds [])), (31), (4), by decide⟩

theorem witness_EndpointAndInterruptsFollowTheLink_5 : ∃ s : State, ∃ w : Fin 32, ∃ sp : Fin 8, (s.sec.perst = false ∨ s.on SEC_PCIE_LINK_UP = true) :=
  ⟨((withFlds [(SEC_PCIE_WIDTH, 16), (SEC_PCIE_LINK_UP, 1), (SEC_PCIE_BME, 1), (SEC_PCIE_MSIX_EN, 1), (SEC_MSIX_CTRL 255, 0), (msixPba 255, 1), (SEC_PCIE_PERST_SEEN, 1)])), (31), (4), by decide⟩

theorem witness_EndpointAndInterruptsFollowTheLink_6 : ∃ s : State, s.sec.perst = true ∧ s.on SEC_PCIE_LINK_UP = true :=
  ⟨((withFlds [(SEC_PCIE_WIDTH, 16), (SEC_PCIE_LINK_UP, 1), (SEC_PCIE_BME, 1), (SEC_PCIE_MSIX_EN, 1), (SEC_MSIX_CTRL 255, 0), (msixPba 255, 1), (SEC_PCIE_PERST_SEEN, 1)])), by decide⟩

theorem witness_EndpointAndInterruptsFollowTheLink_7 : ∃ s : State, (s.sec.perst = false ∨ s.on SEC_PCIE_LINK_UP = false) :=
  ⟨({ withFlds [(SEC_PCIE_WIDTH, 16), (SEC_PCIE_LINK_UP, 1), (SEC_PCIE_BME, 1), (SEC_PCIE_MSIX_EN, 1), (SEC_MSIX_CTRL 255, 0), (msixPba 255, 1), (SEC_PCIE_PERST_SEEN, 1)] with sec := { perst := false } }), by decide⟩

theorem witness_EndpointAndInterruptsFollowTheLink_8 : ∃ s : State, ∃ v : BitVec 8, s.on SEC_PCIE_MSIX_EN = false :=
  ⟨((withFlds [(SEC_MSIX_LOST, 2 ^ 32 - 1)])), (255), by decide⟩

theorem witness_EndpointAndInterruptsFollowTheLink_9 : ∃ s : State, ∃ v : BitVec 8, s.on SEC_PCIE_MSIX_EN = true ∧ (s.on SEC_PCIE_FUNC_MASK = true ∨ s.on (SEC_MSIX_CTRL v.toNat) = true) :=
  ⟨((withFlds [(SEC_PCIE_MSIX_EN, 1)])), (255), by decide⟩

theorem witness_EndpointAndInterruptsFollowTheLink_10 : ∃ s : State, ∃ v : BitVec 8, s.on SEC_PCIE_MSIX_EN = true ∧ s.on SEC_PCIE_FUNC_MASK = false ∧ s.on (SEC_MSIX_CTRL v.toNat) = false :=
  ⟨((withFlds [(SEC_PCIE_MSIX_EN, 1), (SEC_MSIX_CTRL 255, 0)])), (255), by decide⟩

theorem witness_EndpointAndInterruptsFollowTheLink_11 : ∃ s : State, ∃ bme : Bool, ∃ vs : List Nat, s.sec.perst = true ∧ vs = (List.range 256).filter (fun v => s.on (msixPba v) && !s.on (SEC_MSIX_CTRL v)) :=
  ⟨((withFlds [(SEC_MSIX_CTRL 255, 0), (msixPba 255, 1), (msixPba 7, 1)])), (true), ([255]), by decide⟩

theorem witness_EndpointAndInterruptsFollowTheLink_12 : ∃ s : State, ∃ bme : Bool, ∃ en : Bool, ∃ mask : Bool, s.sec.perst = true ∧ (en = false ∨ mask = true) :=
  ⟨((withFlds [(SEC_MSIX_CTRL 255, 0), (msixPba 255, 1)])), (true), (true), (true), by decide⟩

theorem witness_EndpointAndInterruptsFollowTheLink_13 : ∃ s : State, ∃ bme : Bool, ∃ en : Bool, ∃ mask : Bool, s.sec.perst = false :=
  ⟨({ withFlds [] with sec := { perst := false } }), (true), (true), (true), by decide⟩

theorem witness_BootRunsOnlyAcceptedImages_1 : ∃ s : State, ∃ src : Fin 3, ∃ img : List (BitVec 8), ∃ ok : Bool, ∃ dir : Bool, s.bootTakes src = false :=
  ⟨((withFlds [])), (2), ([]), (true), (true), by decide⟩

theorem witness_BootRunsOnlyAcceptedImages_2 : ∃ s : State, ∃ src : Fin 3, ∃ img : List (BitVec 8), ∃ ok : Bool, ∃ dir : Bool, ∃ xs : List Nat, s.bootTakes src = true ∧ src.val ≠ 2 ∧ xs = img.map (fun b => b.toNat) ∧ s.sec.tried = 0 :=
  ⟨((withFlds [(SEC_BOOT_STATUS_STATE, 1)])), (1), ([1, 2]), (true), (true), ([1, 2]), by decide⟩

theorem witness_BootRunsOnlyAcceptedImages_3 : ∃ s : State, ∃ img : List (BitVec 8), ∃ ok : Bool, ∃ dir : Bool, s.bootTakes 1 = true ∧ s.sec.tried = 1 ∧ imgWord (img.map (fun b => b.toNat)) 0 ≠ 0x524E4752 :=
  ⟨({ withFlds [(SEC_BOOT_STATUS_STATE, 1)] with sec := { tried := 1 } }), ([]), (true), (true), by decide⟩

theorem witness_BootRunsOnlyAcceptedImages_4 : ∃ s : State, ∃ img : List (BitVec 8), ∃ ok : Bool, ∃ dir : Bool, s.bootTakes 2 = true ∧ imgWord (img.map (fun b => b.toNat)) 0 = 0x524E4752 ∧ imgWord (img.map (fun b => b.toNat)) 4 = 1 ∧ s.rd SEC_HOST_IMAGE_LEN < 512 + imgBodyLen (img.map (fun b => b.toNat)) :=
  ⟨({ withFlds [(SEC_BOOT_STATUS_STATE, 1), (SEC_PCIE_BME, 1), (SEC_HOST_IMAGE_LEN, 511)] with sec := { hostBoot := true } }), ([0x52, 0x47, 0x4E, 0x52, 1, 0, 0, 0]), (true), (true), by decide⟩

theorem witness_BootRunsOnlyAcceptedImages_5 : ∃ s : State, s.on SEC_LOCK_STATE_HOST_BOOT_DIS = true :=
  ⟨((withFlds [(SEC_LOCK_STATE_HOST_BOOT_DIS, 1)])), by decide⟩

theorem witness_BootRunsOnlyAcceptedImages_6 : ∃ s : State, s.on SEC_LOCK_STATE_HOST_BOOT_DIS = false ∧ s.mode = 1 ∧ (s.rd SEC_BOOT_STATUS_STATE = 6 ∨ s.rd SEC_BOOT_STATUS_STATE = 5) :=
  ⟨((withFlds [(SEC_BOOT_STATUS_STATE, 5)])), by decide⟩

theorem witness_BootRunsOnlyAcceptedImages_7 : ∃ s : State, s.mode = 1 ∧ s.rd SEC_BOOT_STATUS_STATE = 3 :=
  ⟨((withFlds [(SEC_BOOT_STATUS_STATE, 3)])), by decide⟩

theorem witness_BootRunsOnlyAcceptedImages_8 : ∃ s : State, (s.mode ≠ 1 ∨ s.rd SEC_BOOT_STATUS_STATE ≠ 3) :=
  ⟨((withFlds [(SEC_BOOT_STATUS_STATE, 4)])), by decide⟩

theorem witness_MailboxOperationsAnswer_1 : ∃ s : State, s.mboxWaits 0x0001 = true :=
  ⟨((withFlds [(SEC_MBOX_CTRL_BUSY, 1), (SEC_MBOX_CMD_OP, 1), (SEC_FW_INFO, 77)])), by decide⟩

theorem witness_MailboxOperationsAnswer_2 : ∃ s : State, s.mboxWaits 0x0001 = false :=
  ⟨((withFlds [(SEC_MBOX_CTRL_BUSY, 1), (SEC_MBOX_CMD_OP, 2)])), by decide⟩

theorem witness_MailboxOperationsAnswer_3 : ∃ s : State, ∃ f : BitVec 32, s.mboxWaits 0x0002 = true ∧ s.mode = 10 ∧ (s.mboxArg 0 ≤ 12 ∨ (0x100 ≤ s.mboxArg 0 ∧ s.mboxArg 0 < 0x10C) ∨ s.mboxArg 0 = 0x200) :=
  ⟨((withFlds [(SEC_MBOX_CTRL_BUSY, 1), (SEC_MBOX_CMD_OP, 2), (TOP_MODE_MODE, 10), (SEC_MBOX_DATA 0, 0x10B)])), (77), by decide⟩

theorem witness_MailboxOperationsAnswer_4 : ∃ s : State, ∃ f : BitVec 32, s.mboxWaits 0x0002 = true ∧ s.mode = 10 ∧ 12 < s.mboxArg 0 ∧ (s.mboxArg 0 < 0x100 ∨ (0x10C ≤ s.mboxArg 0 ∧ s.mboxArg 0 ≠ 0x200)) :=
  ⟨((withFlds [(SEC_MBOX_CTRL_BUSY, 1), (SEC_MBOX_CMD_OP, 2), (TOP_MODE_MODE, 10), (SEC_MBOX_DATA 0, 0x10C)])), (77), by decide⟩

theorem witness_MailboxOperationsAnswer_5 : ∃ s : State, ∃ f : BitVec 32, s.mboxWaits 0x0002 = true ∧ s.mode ≠ 10 :=
  ⟨((withFlds [(SEC_MBOX_CTRL_BUSY, 1), (SEC_MBOX_CMD_OP, 2)])), (77), by decide⟩

theorem witness_MailboxOperationsAnswer_6 : ∃ s : State, ∃ w : Nat, ∃ bits : Nat, s.mboxWaits 0x0010 = true ∧ s.permitted s.sec.mboxReq clsSecurity true = true ∧ s.on SEC_LOCK_STATE_LOCK = false ∧ s.mode = 3 ∧ w = s.mboxArg 0 ∧ bits = s.mboxArg 1 ∧ 15 ≤ w ∧ w ≤ 18 :=
  ⟨((withFlds [(SEC_MBOX_CTRL_BUSY, 1), (SEC_MBOX_CMD_OP, 16), (TOP_MODE_MODE, 3), (SEC_MBOX_DATA 0, 18), (SEC_MBOX_DATA 1, 0x80000001), (SEC_FUSE 18, 4)])), (18), (0x80000001), by decide⟩

theorem witness_MailboxOperationsAnswer_7 : ∃ s : State, ∃ took : BitVec 32, ∃ w : Nat, ∃ k : Nat, k < 32 ∧ w < 128 ∧ bitAt (s.rd (SEC_FUSE w)) k = true :=
  ⟨((withFlds [(SEC_MBOX_CTRL_BUSY, 1), (SEC_MBOX_CMD_OP, 16), (TOP_MODE_MODE, 3), (SEC_MBOX_DATA 0, 18), (SEC_FUSE 18, 0x80000000)])), (5), (18), (31), by decide⟩

theorem witness_MailboxOperationsAnswer_8 : ∃ s : State, ∃ took : BitVec 32, s.mboxWaits 0x0010 = true ∧ s.permitted s.sec.mboxReq clsSecurity true = true ∧ s.on SEC_LOCK_STATE_LOCK = true :=
  ⟨((withFlds [(SEC_MBOX_CTRL_BUSY, 1), (SEC_MBOX_CMD_OP, 16), (SEC_LOCK_STATE_LOCK, 1), (SEC_FUSE 16, 2 ^ 11)])), (5), by decide⟩

theorem witness_MailboxOperationsAnswer_9 : ∃ s : State, ∃ took : BitVec 32, ∃ w : Nat, ∃ bits : Nat, s.mboxWaits 0x0010 = true ∧ s.permitted s.sec.mboxReq clsSecurity true = true ∧ s.on SEC_LOCK_STATE_LOCK = false ∧ s.mode = 3 ∧ w = s.mboxArg 0 ∧ bits = s.mboxArg 1 ∧ bits ≠ 0 ∧ (w < 14 ∨ 18 < w) :=
  ⟨((withFlds [(SEC_MBOX_CTRL_BUSY, 1), (SEC_MBOX_CMD_OP, 16), (TOP_MODE_MODE, 3), (SEC_MBOX_DATA 0, 19), (SEC_MBOX_DATA 1, 1)])), (5), (19), (1), by decide⟩

theorem witness_MailboxOperationsAnswer_10 : ∃ s : State, s.mboxWaits 0x0011 = true ∧ s.permitted s.sec.mboxReq clsSecurity true = true ∧ s.on SEC_LOCK_STATE_LOCK = false ∧ s.mode = 3 ∧ s.lockable = true ∧ s.rd (SEC_FUSE 14) = 0 :=
  ⟨((withFlds [(SEC_MBOX_CTRL_BUSY, 1), (SEC_MBOX_CMD_OP, 17), (TOP_MODE_MODE, 3), (SEC_FUSE 16, 0xFFF)])), by decide⟩

theorem witness_MailboxOperationsAnswer_11 : ∃ s : State, s.mboxWaits 0x0011 = true ∧ s.permitted s.sec.mboxReq clsSecurity true = true ∧ s.on SEC_LOCK_STATE_LOCK = false ∧ s.mode = 3 ∧ s.lockable = false :=
  ⟨((withFlds [(SEC_MBOX_CTRL_BUSY, 1), (SEC_MBOX_CMD_OP, 17), (TOP_MODE_MODE, 3), (SEC_FUSE 16, 0x7F7)])), by decide⟩

theorem witness_MailboxOperationsAnswer_12 : ∃ s : State, s.mboxWaits 0x0012 = true ∧ s.permitted s.sec.mboxReq clsSecurity true = true ∧ s.mode = 3 ∧ s.rd (SEC_FUSE 14) = 4 :=
  ⟨((withFlds [(SEC_MBOX_CTRL_BUSY, 1), (SEC_MBOX_CMD_OP, 18), (TOP_MODE_MODE, 3), (SEC_FUSE 14, 4)])), by decide⟩

theorem witness_MailboxOperationsAnswer_13 : ∃ s : State, s.permitted s.sec.mboxReq clsSecurity true = false ∧ s.mboxWaits 0x0012 = true :=
  ⟨({ (withFlds [(SEC_MBOX_CTRL_BUSY, 1), (SEC_MBOX_CMD_OP, 18), (TOP_MODE_MODE, 3)]) with sec := { mboxReq := 6 } }), by decide⟩

theorem witness_MailboxOperationsAnswer_14 : ∃ s : State, s.permitted s.sec.mboxReq clsSecurity true = false ∧ s.mboxWaits 0x0013 = true :=
  ⟨({ (withFlds [(SEC_MBOX_CTRL_BUSY, 1), (SEC_MBOX_CMD_OP, 19), (TOP_MODE_MODE, 3)]) with sec := { mboxReq := 6 } }), by decide⟩

theorem witness_MailboxOperationsAnswer_15 : ∃ s : State, ∃ n : Nat, s.mboxWaits 0x0013 = true ∧ s.permitted s.sec.mboxReq clsSecurity true = true ∧ s.mode = 3 ∧ n = max s.svnMin (s.rd SEC_FW_SVN_SVN) :=
  ⟨((withFlds [(SEC_MBOX_CTRL_BUSY, 1), (SEC_MBOX_CMD_OP, 19), (TOP_MODE_MODE, 3), (SEC_FUSE 12, 0x80000001), (SEC_FW_SVN_SVN, 63)])), (63), by decide⟩

theorem witness_MailboxOperationsAnswer_16 : ∃ s : State, ∃ v : Bool, s.mboxWaits 0x0020 = true ∧ s.mode = 3 ∧ s.dramFits (s.mboxArg 0 + s.mboxArg 1 * 2 ^ 32) (s.mboxArg 2) = false :=
  ⟨((withFlds [(SEC_MBOX_CTRL_BUSY, 1), (SEC_MBOX_CMD_OP, 32), (TOP_MODE_MODE, 3), (SEC_MBOX_DATA 1, 1), (SEC_MBOX_DATA 2, 5)])), (true), by decide⟩

theorem witness_MailboxOperationsAnswer_17 : ∃ s : State, ∃ v : Bool, s.mboxWaits 0x0020 = true ∧ s.mode = 3 ∧ s.dramFits (s.mboxArg 0 + s.mboxArg 1 * 2 ^ 32) (s.mboxArg 2) = true ∧ s.mboxArg 2 < 4608 :=
  ⟨((withFlds [(SEC_MBOX_CTRL_BUSY, 1), (SEC_MBOX_CMD_OP, 32), (TOP_MODE_MODE, 3), (SEC_MBOX_DATA 0, 0), (SEC_MBOX_DATA 2, 4607), (DRAMC_SIZE, 2 ^ 36)])), (true), by decide⟩

theorem witness_MailboxOperationsAnswer_18 : ∃ s : State, ∃ v : Bool, ∃ bs : List Nat, ∃ a : Nat, ∃ n : Nat, ∃ c : Nat, s.mboxWaits 0x0020 = true ∧ s.mode = 3 ∧ a = s.mboxArg 0 + s.mboxArg 1 * 2 ^ 32 ∧ n = s.mboxArg 2 ∧ s.dramFits a n = true ∧ n ≤ 1049088 ∧ bs = (s.dramRead a n clsMaint).1 ∧ (s.dramRead a n clsMaint).2.1 = none ∧ c = (if s.rd SEC_BOOT_STATUS_SOURCE = 0 then 1 else 0) :=
  ⟨((withFlds [(SEC_MBOX_CTRL_BUSY, 1), (SEC_MBOX_CMD_OP, 32), (TOP_MODE_MODE, 3), (SEC_MBOX_DATA 0, 0), (SEC_MBOX_DATA 2, 64), (DRAMC_SIZE, 2 ^ 36), (DRAMC_STATUS_TRAINED, 1)])), (true), (List.replicate 64 0), (0), (64), (0), by decide⟩

theorem witness_MailboxOperationsAnswer_19 : ∃ s : State, ∃ v : Bool, s.mboxWaits 0x0020 = false :=
  ⟨((withFlds [(SEC_MBOX_CTRL_BUSY, 1), (SEC_MBOX_CMD_OP, 16)])), (true), by decide⟩

theorem witness_MailboxOperationsAnswer_20 : ∃ s : State, ∃ r : Nat, ∃ ws : List Nat, s.on SEC_MBOX_CTRL_BUSY = true ∧ s.rangerUp = true ∧ s.sec.answer = some (r, ws) ∧ r < 16 ∧ ws.length ≤ 16 ∧ s.on SEC_MBOX_CTRL_IRQ_EN = false :=
  ⟨({ (withFlds [(SEC_MBOX_CTRL_BUSY, 1), (SEC_MBOX_CMD_OP, 1)]) with sec := { answer := some (15, List.replicate 16 77) } }), (15), (List.replicate 16 77), by decide⟩

theorem witness_MailboxOperationsAnswer_21 : ∃ s : State, s.on SEC_MBOX_CTRL_BUSY = true ∧ s.rangerUp = true ∧ s.sec.answer = none ∧ s.rd SEC_MBOX_CMD_OP ∉ mailboxOps ∧ s.on SEC_MBOX_CTRL_IRQ_EN = false :=
  ⟨((withFlds [(SEC_MBOX_CTRL_BUSY, 1), (SEC_MBOX_CMD_OP, 65535)])), by decide⟩

theorem witness_MailboxOperationsAnswer_22 : ∃ s : State, s.on SEC_MBOX_CTRL_BUSY = true ∧ s.sec.mboxAt + 24000000000 ≤ s.now :=
  ⟨({ (withFlds [(SEC_MBOX_CTRL_BUSY, 1), (SEC_MBOX_CMD_OP, 7)]) with tl := { tick := 24000000000 } }), by decide⟩

theorem witness_MailboxOperationsAnswer_23 : ∃ s : State, (s.on SEC_MBOX_CTRL_BUSY = false ∨ s.now < s.sec.mboxAt + 24000000000) :=
  ⟨({ (withFlds [(SEC_MBOX_CTRL_BUSY, 1), (SEC_MBOX_CMD_OP, 7)]) with tl := { tick := 23999999999 } }), by decide⟩

theorem witness_HostRequestsReachRegistersAndDram_1 : ∃ s : State, ∃ a : BitVec 26, ∃ n : Nat, ∃ be : BitVec 8, ∃ d : BitVec 64, (s.sec.perst = false ∨ s.mode = 0) :=
  ⟨({ withFlds [] with sec := { perst := false } }), (0x18), (4), (15), (0x123456789ABCDEF0), by decide⟩

theorem witness_HostRequestsReachRegistersAndDram_2 : ∃ s : State, ∃ a : BitVec 26, ∃ n : Nat, ∃ be : BitVec 8, (s.sec.perst = false ∨ s.mode = 0) :=
  ⟨((withFlds [(TOP_MODE_MODE, 0)])), (0x18), (4), (15), by decide⟩

theorem witness_HostRequestsReachRegistersAndDram_3 : ∃ s : State, ∃ a : BitVec 26, ∃ n : Nat, ∃ be : BitVec 8, ∃ d : BitVec 64, s.barOpen = true ∧ (8 < n ∨ (n = 8 ∧ be = 255 ∧ a.toNat % 8 ≠ 0)) :=
  ⟨((withFlds [])), (4), (8), (255), (0x123456789ABCDEF0), by decide⟩

theorem witness_HostRequestsReachRegistersAndDram_4 : ∃ s : State, ∃ a : BitVec 26, ∃ n : Nat, ∃ be : BitVec 8, s.barOpen = true ∧ (512 < n ∨ (8 < n ∧ (a.toNat < 0x4000 ∨ 0x9000 ≤ a.toNat ∨ a.toNat % 4 ≠ 0)) ∨ (n = 8 ∧ be = 255 ∧ a.toNat % 8 ≠ 0)) :=
  ⟨((withFlds [])), (0x9000), (512), (255), by decide⟩

theorem witness_HostRequestsReachRegistersAndDram_5 : ∃ s : State, ∃ a : BitVec 26, ∃ d : BitVec 64, ∃ row : RegRow, ∃ i : Nat, s.barOpen = true ∧ a.toNat % 4 = 0 ∧ a.toNat < 0x10000 ∧ a.toNat ≠ TOP_CTRL.off ∧ regRow a.toNat = some (row, i, false) ∧ row.pair = false ∧ s.permitted reqHost (regClass a.toNat true) true = true ∧ s.resetNow 0 = false :=
  ⟨((withFlds [])), (0x70), (0x123456789ABCDEF0), (((regRow 0x70).getD (⟨0, [], false, []⟩, 0, false)).1), (0), by decide⟩

theorem witness_HostRequestsReachRegistersAndDram_6 : ∃ s : State, ∃ d : BitVec 64, s.barOpen = true ∧ s.permitted reqHost clsConfig true = true ∧ s.resetNow 0 = false :=
  ⟨((withFlds [])), (0x123456789ABCDEF0), by decide⟩

theorem witness_HostRequestsReachRegistersAndDram_7 : ∃ s : State, ∃ d : BitVec 64, s.barOpen = true ∧ s.permitted reqHost clsConfig true = true ∧ s.resetNow 0 = false :=
  ⟨((withFlds [(TOP_SUMMARY_DEST, 4096)])), (0x123456789ABCDEF0), by decide⟩

theorem witness_HostRequestsReachRegistersAndDram_8 : ∃ s : State, ∃ d : BitVec 64, s.barOpen = true ∧ s.permitted reqHost clsConfig true = true ∧ s.resetNow 0 = false :=
  ⟨((withFlds [])), (0x123456789ABCDEF0), by decide⟩

theorem witness_HostRequestsReachRegistersAndDram_9 : ∃ s : State, ∃ d : BitVec 64, ∃ lo : Word, s.barOpen = true ∧ s.permitted reqHost clsConfig true = true ∧ s.resetNow 0 = false ∧ spGet (fun _ => none) s.stageLo 0x44 = some lo :=
  ⟨({ withFlds [(TOP_SUMMARY_DEST, 4096)] with stageLo := [(0x44, some 0xFFFFFFFF)] }), (0x123456789ABCDEF0), (0xFFFFFFFF), by decide⟩

theorem witness_HostRequestsReachRegistersAndDram_10 : ∃ s : State, ∃ a : BitVec 26, ∃ n : Nat, ∃ be : BitVec 8, ∃ d : BitVec 64, s.barOpen = true ∧ a.toNat % 4 = 0 ∧ n ≤ 4 ∧ (be.toNat % 16 ≠ 15 ∨ n < 4) :=
  ⟨((withFlds [])), (0x18), (3), (15), (0x123456789ABCDEF0), by decide⟩

theorem witness_HostRequestsReachRegistersAndDram_11 : ∃ s : State, ∃ a : BitVec 26, ∃ d : BitVec 64, s.barOpen = true ∧ a.toNat % 4 = 0 ∧ s.permitted reqHost (regClass a.toNat true) true = false :=
  ⟨((withFlds [(SEC_LOCK_STATE_LOCK, 1)])), (0x70200), (0x123456789ABCDEF0), by decide⟩

theorem witness_HostRequestsReachRegistersAndDram_12 : ∃ s : State, ∃ a : BitVec 26, ∃ d : BitVec 64, s.barOpen = true ∧ a.toNat % 4 = 0 ∧ s.answers a.toNat = false ∧ s.permitted reqHost (regClass a.toNat true) true = true :=
  ⟨((withFlds [(TOP_MODE_MODE, 1)])), (0x10000), (0x123456789ABCDEF0), by decide⟩

theorem witness_HostRequestsReachRegistersAndDram_13 : ∃ s : State, ∃ a : BitVec 26, ∃ d : BitVec 64, s.barOpen = true ∧ a.toNat % 4 = 0 ∧ regRow a.toNat = none ∧ a.toNat < 0x10000 ∧ s.permitted reqHost (regClass a.toNat true) true = true :=
  ⟨((withFlds [])), (0xFFFC), (0x123456789ABCDEF0), by decide⟩

theorem witness_HostRequestsReachRegistersAndDram_14 : ∃ s : State, ∃ a : BitVec 26, ∃ be : BitVec 8, s.barOpen = true ∧ a.toNat % 4 = 0 ∧ s.answers a.toNat = false ∧ s.permitted reqHost (regClass a.toNat false) false = true :=
  ⟨((withFlds [(TOP_MODE_MODE, 1)])), (0x10000), (1), by decide⟩

theorem witness_HostRequestsReachRegistersAndDram_15 : ∃ s : State, ∃ a : BitVec 26, ∃ be : BitVec 8, s.barOpen = true ∧ a.toNat % 4 = 0 ∧ s.permitted reqHost (regClass a.toNat false) false = false :=
  ⟨((withFlds [(SEC_LOCK_STATE_LOCK, 1)])), (0x18), (1), by decide⟩

theorem witness_HostRequestsReachRegistersAndDram_16 : ∃ s : State, ∃ a : BitVec 26, ∃ row : RegRow, ∃ i : Nat, s.barOpen = true ∧ a.toNat % 4 = 0 ∧ a.toNat < 0x10000 ∧ regRow a.toNat = some (row, i, false) ∧ row.pair = false ∧ (row.fields.any (fun f => decide (f.acc = Access.rc))) = false ∧ s.permitted reqHost clsStatus false = true :=
  ⟨((withFlds [(TOP_WEAR_NIB_CE, 77)])), (0x70), (((regRow 0x70).getD (⟨0, [], false, []⟩, 0, false)).1), (0), by decide⟩

theorem witness_HostRequestsReachRegistersAndDram_17 : ∃ s : State, s.barOpen = true ∧ s.permitted reqHost clsStatus false = true :=
  ⟨((withFlds [(SEC_DENIED, 77)])), by decide⟩

theorem witness_HostRequestsReachRegistersAndDram_18 : ∃ s : State, ∃ v : Nat, s.barOpen = true ∧ s.permitted reqHost clsStatus false = true ∧ s.mode ≠ 1 ∧ v = toBits 64 s.pos16 :=
  ⟨({ withFlds [(TOP_MODE_MODE, 3)] with tl := { pos := -5 * 2 ^ 40 - 77 } }), (toBits 64 (-5 * 65536 - 1)), by decide⟩

theorem witness_HostRequestsReachRegistersAndDram_19 : ∃ s : State, ∃ w : Word, s.barOpen = true ∧ s.permitted reqHost clsStatus false = true ∧ s.mode ≠ 1 ∧ spGet (fun _ => none) s.latchHi 0x10014 = some w :=
  ⟨({ withFlds [(TOP_MODE_MODE, 3)] with latchHi := [(0x10014, some 77)] }), (77), by decide⟩

theorem witness_HostRequestsReachRegistersAndDram_20 : ∃ s : State, s.barOpen = true ∧ s.permitted reqHost clsStatus false = true :=
  ⟨({ withFlds [] with top := { log := [(0, 5), (7, 6)] } }), by decide⟩

theorem witness_HostRequestsReachRegistersAndDram_21 : ∃ s : State, ∃ w : Bool, ∃ a : BitVec 40, ∃ bs : List (BitVec 8), ∃ n : Nat, ∃ m : Nat, ∃ es : List (Nat × Nat), m = (if w then bs.length else n) ∧ (s.sec.perst = false ∨ s.mode = 0 ∨ bar2Size (s.rd SEC_STRAPS_BAR2_SZ) < a.toNat + m) :=
  ⟨((withFlds [(SEC_STRAPS_BAR2_SZ, 1), (DRAMC_STATUS_TRAINED, 1), (DRAMC_SIZE, 2 ^ 33)])), (false), (2 ^ 34 - 3), ([]), (4), (4), ([]), by decide⟩

theorem witness_HostRequestsReachRegistersAndDram_22 : ∃ s : State, ∃ w : Bool, ∃ a : BitVec 40, ∃ bs : List (BitVec 8), ∃ n : Nat, ∃ m : Nat, ∃ es : List (Nat × Nat), m = (if w then bs.length else n) ∧ s.barOpen = true ∧ a.toNat + m ≤ bar2Size (s.rd SEC_STRAPS_BAR2_SZ) ∧ s.on DRAMC_STATUS_TRAINED = false :=
  ⟨((withFlds [(SEC_STRAPS_BAR2_SZ, 4)])), (true), (2 ^ 40 - 1), ([7]), (4), (1), ([]), by decide⟩

theorem witness_HostRequestsReachRegistersAndDram_23 : ∃ s : State, ∃ w : Bool, ∃ a : BitVec 40, ∃ bs : List (BitVec 8), ∃ n : Nat, ∃ m : Nat, ∃ es : List (Nat × Nat), m = (if w then bs.length else n) ∧ s.barOpen = true ∧ a.toNat + m ≤ bar2Size (s.rd SEC_STRAPS_BAR2_SZ) ∧ s.on DRAMC_STATUS_TRAINED = true ∧ s.rd DRAMC_SIZE < a.toNat + m :=
  ⟨((withFlds [(SEC_STRAPS_BAR2_SZ, 1), (DRAMC_STATUS_TRAINED, 1), (DRAMC_SIZE, 2 ^ 33)])), (false), (2 ^ 33 - 3), ([]), (4), (4), ([]), by decide⟩

theorem witness_HostRequestsReachRegistersAndDram_24 : ∃ s : State, ∃ a : BitVec 40, ∃ bs : List (BitVec 8), ∃ n : Nat, s.barOpen = true ∧ a.toNat + bs.length ≤ bar2Size (s.rd SEC_STRAPS_BAR2_SZ) ∧ s.on DRAMC_STATUS_TRAINED = true ∧ a.toNat + bs.length ≤ s.rd DRAMC_SIZE ∧ s.permitted reqHost clsMemory true = true ∧ s.inSelfRefresh = false ∧ s.flippedIn a.toNat bs.length = [] :=
  ⟨((withFlds [(SEC_STRAPS_BAR2_SZ, 1), (DRAMC_STATUS_TRAINED, 1), (DRAMC_SIZE, 2 ^ 33)])), (2 ^ 33 - 3), ([1, 2, 3]), (4), by decide⟩

theorem witness_HostRequestsReachRegistersAndDram_25 : ∃ s : State, ∃ a : BitVec 40, ∃ bs : List (BitVec 8), ∃ n : Nat, s.barOpen = true ∧ a.toNat + n ≤ bar2Size (s.rd SEC_STRAPS_BAR2_SZ) ∧ s.on DRAMC_STATUS_TRAINED = true ∧ a.toNat + n ≤ s.rd DRAMC_SIZE ∧ s.permitted reqHost clsMemory false = true ∧ s.inSelfRefresh = false ∧ s.flippedIn a.toNat n = [] :=
  ⟨({ (withFlds [(SEC_STRAPS_BAR2_SZ, 1), (DRAMC_STATUS_TRAINED, 1), (DRAMC_SIZE, 2 ^ 33)]) with dram := { mem := [(2 ^ 33 - 2, 9)] } }), (2 ^ 33 - 3), ([]), (3), by decide⟩

theorem witness_HostRequestsReachRegistersAndDram_26 : ∃ s : State, ∃ a : BitVec 40, ∃ bs : List (BitVec 8), ∃ n : Nat, ∃ b : Nat, s.barOpen = true ∧ a.toNat + n ≤ bar2Size (s.rd SEC_STRAPS_BAR2_SZ) ∧ s.on DRAMC_STATUS_TRAINED = true ∧ a.toNat + n ≤ s.rd DRAMC_SIZE ∧ s.permitted reqHost clsMemory false = true ∧ s.inSelfRefresh = false ∧ s.flippedIn a.toNat n = [b] ∧ (s.readBeat b).1 = .uncorrectable :=
  ⟨({ (withFlds [(SEC_STRAPS_BAR2_SZ, 1), (DRAMC_STATUS_TRAINED, 1), (DRAMC_SIZE, 2 ^ 33)]) with dram := { flips := [(2, 7 * 2 ^ 64)] } }), (16), ([]), (3), (2), by decide⟩

theorem witness_TestPortAndManagementTarget_1 : ∃ s : State, ∃ a : BitVec 7, s.mgmtAnswers a.toNat = false :=
  ⟨((withFlds [])), (0x49), by decide⟩

theorem witness_TestPortAndManagementTarget_2 : ∃ s : State, ∃ a : BitVec 7, ∃ bs : List (BitVec 8), s.mgmtAnswers a.toNat = false :=
  ⟨((withFlds [])), (0x49), ([1]), by decide⟩

theorem witness_TestPortAndManagementTarget_3 : ∃ s : State, ∃ a : BitVec 7, ∃ v : Nat, s.mgmtAnswers a.toNat = true ∧ ((s.jtag.pointer = 0 ∧ v = s.view TOP_ID) ∨ (s.jtag.pointer = 1 ∧ v = s.view TOP_MODE) ∨ (s.jtag.pointer = 2 ∧ v = s.view TOP_STATUS) ∨ (s.jtag.pointer = 3 ∧ v = s.view THERM_STATUS) ∨ (16 ≤ s.jtag.pointer ∧ s.jtag.pointer ≤ 23 ∧ v = s.view (THERM_REGION_TEMP (s.jtag.pointer - 16))) ∨ (((3 < s.jtag.pointer ∧ s.jtag.pointer < 16) ∨ 23 < s.jtag.pointer) ∧ v = 0)) :=
  ⟨({ withFlds [] with jtag := { pointer := 23 } }), (0x48), ((withFlds []).view (THERM_REGION_TEMP 7)), by decide⟩

theorem witness_TestPortAndManagementTarget_4 : ∃ s : State, ∃ a : BitVec 7, ∃ p : BitVec 8, ∃ bs : List (BitVec 8), s.mgmtAnswers a.toNat = true :=
  ⟨((withFlds [])), (0x48), (255), ([1, 2]), by decide⟩

theorem witness_TestPortAndManagementTarget_11 : ∃ s : State, s.on SEC_LOCK_STATE_DEBUG_LOCK = true :=
  ⟨((withFlds [(SEC_LOCK_STATE_DEBUG_LOCK, 1)])), by decide⟩

theorem witness_TestPortAndManagementTarget_12 : ∃ s : State, s.on SEC_LOCK_STATE_DEBUG_LOCK = true :=
  ⟨((withFlds [(SEC_LOCK_STATE_DEBUG_LOCK, 1)])), by decide⟩

theorem witness_TestPortAndManagementTarget_13 : ∃ s : State, ∃ v : BitVec 78, ∃ h : Option (BitVec 32), s.on SEC_LOCK_STATE_DEBUG_LOCK = true :=
  ⟨((withFlds [(SEC_LOCK_STATE_DEBUG_LOCK, 1)])), (2 ^ 77), (none), by decide⟩

theorem witness_TestPortAndManagementTarget_14 : ∃ s : State, s.on SEC_LOCK_STATE_DEBUG_LOCK = false :=
  ⟨((withFlds [])), by decide⟩

theorem witness_TestPortAndManagementTarget_15 : ∃ s : State, s.on SEC_LOCK_STATE_DEBUG_LOCK = false :=
  ⟨((withFlds [])), by decide⟩

theorem witness_TestPortAndManagementTarget_16 : ∃ s : State, ∃ v : BitVec 78, ∃ h : Option (BitVec 32), s.on SEC_LOCK_STATE_DEBUG_LOCK = false ∧ bitAt v.toNat 77 = false :=
  ⟨((withFlds [])), (2 ^ 76), (none), by decide⟩

theorem witness_TestPortAndManagementTarget_17 : ∃ s : State, ∃ v : BitVec 78, ∃ h : Option (BitVec 32), ∃ a : Nat, s.on SEC_LOCK_STATE_DEBUG_LOCK = false ∧ bitAt v.toNat 77 = true ∧ bitAt v.toNat 76 = true ∧ a = bitsAt v.toNat 0 44 ∧ devSpace a = 1 ∧ devOff a + 4 ≤ 2 ^ 42 ∧ s.mode ≠ 0 ∧ s.therm.tripped = false ∧ s.sec.perst = true :=
  ⟨((withFlds [])), (2 ^ 77 + 2 ^ 76 + 0x12345678 * 2 ^ 44 + 2 ^ 43 - 4), (none), (2 ^ 43 - 4), by decide⟩

theorem witness_TestPortAndManagementTarget_18 : ∃ s : State, ∃ v : BitVec 78, ∃ w : BitVec 32, ∃ a : Nat, s.on SEC_LOCK_STATE_DEBUG_LOCK = false ∧ bitAt v.toNat 77 = true ∧ bitAt v.toNat 76 = false ∧ a = bitsAt v.toNat 0 44 ∧ devSpace a = 1 ∧ devOff a + 4 ≤ 2 ^ 42 ∧ s.mode ≠ 0 ∧ s.therm.tripped = false :=
  ⟨((withFlds [])), (2 ^ 77 + 2 ^ 43 - 4), (0x12345678), (2 ^ 43 - 4), by decide⟩

theorem witness_PositionReadsTruncated_1 : ∃ s : State, ∃ v : Int, s.barOpen = true ∧ s.mode ≠ 1 ∧ s.permitted reqHost clsStatus false = true ∧ v = s.tl.pos / 2 ^ 24 :=
  ⟨({ withFlds [(TOP_MODE_MODE, 3)] with tl := { pos := -5 * 2 ^ 40 - 77 } }), (-5 * 65536 - 1), by decide⟩

theorem witness_DeltaEIsTheNearestRoot_1 : ∃ t : SettingsSet, ∃ a : Nat × Nat × Nat, ∃ b : Nat × Nat × Nat, ∃ x : Nat, ∃ r : Nat, r = deltaE t a b ∧ x = ((labOf t a).1 - (labOf t b).1).natAbs ^ 2 + ((labOf t a).2.1 - (labOf t b).2.1).natAbs ^ 2 + ((labOf t a).2.2 - (labOf t b).2.2).natAbs ^ 2 :=
  ⟨(⟨[], [], 0, 0, false⟩), ((1, 2, 3)), ((60000, 5, 6)), (((labOf ⟨[], [], 0, 0, false⟩ (1, 2, 3)).1 - (labOf ⟨[], [], 0, 0, false⟩ (60000, 5, 6)).1).natAbs ^ 2 + ((labOf ⟨[], [], 0, 0, false⟩ (1, 2, 3)).2.1 - (labOf ⟨[], [], 0, 0, false⟩ (60000, 5, 6)).2.1).natAbs ^ 2 + ((labOf ⟨[], [], 0, 0, false⟩ (1, 2, 3)).2.2 - (labOf ⟨[], [], 0, 0, false⟩ (60000, 5, 6)).2.2).natAbs ^ 2), (deltaE ⟨[], [], 0, 0, false⟩ (1, 2, 3) (60000, 5, 6)), rfl, rfl⟩

theorem witness_PoisonIsRecognisedAndReplaced_2 : ∃ s : State, ∃ b : BitVec 39, ∃ bs : List (BitVec 8), ∃ c : Fin 6, s.dramFits (8 * b.toNat) 8 = true ∧ s.inSelfRefresh = false ∧ bs.length = 8 ∧ (s.readBeat b.toNat).1 = .poison :=
  ⟨({ (withFlds [(DRAMC_SIZE, 2 ^ 40)]) with dram := { flips := [(5, 7)] } }), (5), ([1, 2, 3, 4, 5, 6, 7, 8]), (5), by decide⟩

theorem witness_TargetsBeyondTheRangeAreClamped_1 : ∃ s : State, ∃ ohms : BitVec 32, ∃ c : CalRun, ∃ key : Nat, ∃ v : Int, ∃ lo : Int, ∃ hi : Int, s.therm.run = some c ∧ c.measuring = true ∧ c.start + 80000 ≤ s.now ∧ s.rangerUp = true ∧ 1900 ≤ ohms.toNat ∧ ohms.toNat ≤ 2100 ∧ s.on THERM_CTRL_CAL_RESTORE = false ∧ c.region < 8 ∧ key ∈ regionCodes c.region ∧ (lo, hi) = codeRange (key / 4) ∧ (v < lo ∨ hi < v) :=
  ⟨({ withFlds [] with therm := { run := some ⟨7, 0, 0, true, false, false⟩ }, tl := { tick := 80000 } }), (1900), (⟨7, 0, 0, true, false, false⟩), (4 * 103 + 2), (-129), (-128), (127), by decide⟩

theorem witness_TheVoterGivesTheRegionTemperature_1 : ∃ s : State, ∃ done : BitVec 24, ∃ stuck : BitVec 24, ∃ comps : BitVec 24, ∃ rs : BitVec 384, ∃ r : Fin 8, ∃ i : Nat, s.voter r = some i ∧ bitAt done.toNat i = true :=
  ⟨((withFlds [])), (2 ^ 21), (0), (0), (2401 * 2 ^ 336), (7), (21), by decide⟩

end Sys2Proof.Tests
end

section
namespace Sys2Proof.Machine
open Sys2Proof

/-! ## Rounding -/

/-- `rneDiv` takes the floor of the quotient or the integer above it, and the remainder says which. -/
theorem rneDiv_spec (n : Int) {d : Int} (hd : 0 < d) :
    ∃ q r, n = d * q + r ∧ 0 ≤ r ∧ r < d ∧
      ((rneDiv n d = q ∧ 2 * r ≤ d ∧ (2 * r = d → q % 2 = 0)) ∨
        (rneDiv n d = q + 1 ∧ d ≤ 2 * r ∧ (2 * r = d → (q + 1) % 2 = 0))) := by
  refine ⟨n / d, n % d, (Int.mul_ediv_add_emod n d).symm, Int.emod_nonneg n hd.ne', Int.emod_lt_of_pos n hd, ?_⟩
  unfold rneDiv
  extract_lets q r
  split_ifs with hlt hgt heven
  · exact .inl ⟨rfl, by omega, by omega⟩
  · exact .inr ⟨rfl, by omega, by omega⟩
  · exact .inl ⟨rfl, by omega, fun _ => heven⟩
  · exact .inr ⟨rfl, by omega, by omega⟩

/-- Settles O6: of the floor and the integer above it, the remainder against half the divisor picks the nearer. -/
theorem roundingIsToNearestEven : Obligations.RoundingIsToNearestEven := by
  intro n d hd
  obtain ⟨q, r, hn, hr, hrd, ⟨h, hle, heven⟩ | ⟨h, hle, heven⟩⟩ := rneDiv_spec n hd
  · rw [h, hn]
    exact ⟨by omega, by omega, by omega⟩
  · rw [h, hn, mul_add, mul_one]
    exact ⟨by omega, by omega, by omega⟩

end Sys2Proof.Machine
end

section
namespace Sys2Proof.Machine
open Sys2Proof

/-- The stores of a state are in canonical form: `State.wf` by its parts. -/
structure State.Canon (s : State) : Prop where
  regsWf : spWf resetWord s.regs = true
  dramWf : Memory.wf s.dram.mem = true
  quillWf : ∀ e ∈ s.quill, Memory.wf e.2.mem = true

theorem State.wf_iff_canon (s : State) : s.wf = true ↔ s.Canon := by
  simp only [State.wf, Bool.and_eq_true, List.all_eq_true]
  exact ⟨fun ⟨⟨hr, hm⟩, hq⟩ => ⟨hr, hm, hq⟩, fun ⟨hr, hm, hq⟩ => ⟨⟨hr, hm⟩, hq⟩⟩

/-- A command answers a next state, and one whose stores are in canonical form. -/
def Canonical (o : Host.Outcome State Fault Refusal) : Prop := ∃ t, o = .next t ∧ t.Canon

namespace State.Canon

variable {s t : State}

theorem next (h : s.Canon) : Canonical (.next s) := ⟨s, rfl, h⟩

/-- An update that leaves the three stores alone keeps them canonical. -/
theorem frame {pending latchHi stageLo shOld tl st zl pctx pipes stitch fine prof sens mas scal scores scribe dma ev net
    chain top therm sec jtag out freeCount} (h : s.Canon) :
    (State.mk pending s.regs latchHi stageLo shOld tl st zl pctx pipes stitch fine prof sens mas scal s.quill scores
      scribe dma ev s.dram net chain top therm sec jtag out freeCount).Canon :=
  ⟨h.regsWf, h.dramWf, h.quillWf⟩

/-- An update of the DRAM beside its memory. -/
theorem frameDram {pending latchHi stageLo shOld tl st zl pctx pipes stitch fine prof sens mas scal scores
    scribe dma ev net chain top therm sec jtag out freeCount flips mig tgtPoison held ueAt ceAt ceHour alerts
    pwrDown lastCmd hot needInit genWr genRd playNext playAt playRun imgDropRun imgOpen} (h : s.Canon) :
    (State.mk pending s.regs latchHi stageLo shOld tl st zl pctx pipes stitch fine prof sens mas scal s.quill scores
      scribe dma ev (Dram.mk s.dram.mem flips mig tgtPoison held ueAt ceAt ceHour alerts pwrDown lastCmd hot needInit
        genWr genRd playNext playAt playRun imgDropRun imgOpen) net chain top therm sec jtag out freeCount).Canon :=
  ⟨h.regsWf, h.dramWf, h.quillWf⟩

/-- An update that leaves the registers and the quills alone and puts a canonical memory in the DRAM. -/
theorem putMem {pending latchHi stageLo shOld tl st zl pctx pipes stitch fine prof sens mas scal scores
    scribe dma ev net chain top therm sec jtag out freeCount dram}
    (h : s.Canon) (hd : Memory.wf dram.mem = true) :
    (State.mk pending s.regs latchHi stageLo shOld tl st zl pctx pipes stitch fine prof sens mas scal s.quill scores
      scribe dma ev dram net chain top therm sec jtag out freeCount).Canon :=
  ⟨h.regsWf, hd, h.quillWf⟩

theorem ite {c : Prop} {_ : Decidable c} (hs : s.Canon) (ht : t.Canon) : (if c then s else t).Canon := by
  split
  · exact hs
  · exact ht

theorem iteSnd {α : Type} {c : Prop} {_ : Decidable c} {x y : α × State} (hx : x.2.Canon) (hy : y.2.Canon) :
    (if c then x else y).2.Canon := by
  split
  · exact hx
  · exact hy

/-- A step may be followed by any argument that needs no more than the canonical form. -/
theorem bind {p : Prop} (h : s.Canon) (k : s.Canon → p) : p := k h

theorem ofEq {α : Type} {x : α × State} {a : α} (h : x.2.Canon) (e : x = (a, t)) : t.Canon := by
  subst e
  exact h

theorem pair {α : Type} {a : α} (h : s.Canon) : (a, s).2.Canon := h

theorem pair₂ {α β : Type} {a : α} {b : β} (h : s.Canon) : (a, b, s).2.2.Canon := h

theorem foldl {α : Type} {l : List α} {f : State → α → State} (h : s.Canon)
    (hf : ∀ s a, s.Canon → (f s a).Canon) : (l.foldl f s).Canon :=
  List.foldlRecOn l f h fun s hs a _ => hf s a hs

theorem foldlSnd {α β : Type} {l : List α} {f : β × State → α → β × State} {r : β × State} (h : r.2.Canon)
    (hf : ∀ r a, r.2.Canon → (f r a).2.Canon) : (l.foldl f r).2.Canon :=
  List.foldlRecOn l f (motive := fun r => r.2.Canon) h fun r hr a _ => hf r a hr

end State.Canon

theorem Canonical.ite {c : Prop} {_ : Decidable c} {o p : Host.Outcome State Fault Refusal} (ho : Canonical o)
    (hp : Canonical p) : Canonical (if c then o else p) := by
  split
  · exact ho
  · exact hp

/-! ### Registers and fields -/

variable {s t : State}

/-- A write of a field changes the registers alone. -/
theorem wr_frame (f : Fld) (v : Nat) : s.wr f v = { s with regs := (s.wr f v).regs } := by
  unfold State.wr
  split <;> rfl

theorem State.Canon.setReg (h : s.Canon) {off v} : (s.setReg off v).Canon :=
  ⟨setReg_wf off v h.regsWf, h.dramWf, h.quillWf⟩

theorem State.Canon.wr (h : s.Canon) {f v} : (s.wr f v).Canon := by
  unfold State.wr
  exact h.setReg.ite h.setReg.setReg

/-- Settles O5, from the rules for reading a field after a write of the same field and of one apart from it. -/
theorem fieldsReadBackAndStandApart : Obligations.FieldsReadBackAndStandApart := by
  intro s f v h
  exact ⟨rd_wr_same s f v h, fun g hg => rd_wr_apart s f g v hg,
    fun hwf => State.wf_iff_canon _ |>.2 ((State.wf_iff_canon s).1 hwf).wr, wr_frame f v⟩

end Sys2Proof.Machine
end

section
namespace Sys2Proof.Machine
open Sys2Proof
variable {s t : State}

/-! ## Every operation keeps the stores canonical

One lemma per operation of the model, in the order of the model's files: `State.Canon.f` for an operation
`State.f`, `execF_canonical` for the effect of an instruction. A proof follows its operation: a chain of the
lemmas of what is done in turn, `ite` where the operation branches, and `frame` for a record update that leaves
the three stores alone.

A `match` on the answer of a long operation makes the kernel evaluate that operation. Such a proof first puts
a variable in its place (`exists_eq'`): of the answer only its canonical form counts. -/

/-! ### Machine/Ops -/

theorem State.Canon.wrS (h : s.Canon) {f v} : (s.wrS f v).Canon :=
  h.wr

theorem State.Canon.set1 (h : s.Canon) {f} : (s.set1 f).Canon :=
  h.wr

theorem State.Canon.bump (h : s.Canon) {f n} : (s.bump f n).Canon :=
  h.wr

theorem State.Canon.bumpSat (h : s.Canon) {f n} : (s.bumpSat f n).Canon :=
  h.wr

theorem State.Canon.fault (h : s.Canon) {source code slots} : (s.fault source code slots).Canon :=
  h.wr.bind fun h₁ => h₁.frame.ite h₁.bump.set1

theorem State.Canon.reject (h : s.Canon) {flag source off v} : (s.reject flag source off v).Canon :=
  h.set1.fault

theorem State.Canon.occurOn (h : s.Canon) {producer channel hop} : (s.occurOn producer channel hop).Canon :=
  h.frame

theorem State.Canon.occur (h : s.Canon) {producer hop} : (s.occur producer hop).Canon :=
  h.occurOn.ite h

theorem State.Canon.msixSend (h : s.Canon) {v} : (s.msixSend v).Canon :=
  h.wr.bind fun h₁ => h₁.frame.ite h₁

theorem State.Canon.msix (h : s.Canon) {v} : (s.msix v).Canon :=
  h.set1.bump.ite (h.set1.bind fun h₁ => h₁.msixSend.ite h₁)

theorem State.Canon.free (h : s.Canon) {w} : (s.free w).2.Canon :=
  h.frame.pair

theorem State.Canon.hostPut (h : s.Canon) {a bs} : (s.hostPut a bs).Canon :=
  h.frame.ite h

/-! ### Machine/Dram -/

theorem State.Canon.putBeat (h : s.Canon) {b d} : (s.putBeat b d).Canon :=
  h.putMem (Memory.wf_put _ _ h.dramWf)

theorem State.Canon.putPoison (h : s.Canon) {b} : (s.putPoison b).Canon :=
  h.putBeat.frameDram

theorem State.Canon.migrate (h : s.Canon) {ch src cause} : (s.migrate ch src cause).Canon := by
  unfold State.migrate
  refine h.ite ?_
  split
  · exact h.set1.fault
  · exact h.wr.wr.set1.set1.wr.frameDram.fault

theorem State.Canon.rankPolicy (h : s.Canon) {ch rank cause} : (s.rankPolicy ch rank cause).Canon :=
  h.migrate.ite h

theorem State.Canon.noteCe (h : s.Canon) {ch rank a} : (s.noteCe ch rank a).Canon := by
  unfold State.noteCe
  refine State.Canon.bind ?_ fun h₂ => h₂.frameDram.fault.migrate.ite h₂.frameDram
  split
  · exact h.set1.bump.frameDram.fault.ite h.set1.bump
  · exact h.set1.bump.frameDram.fault

theorem State.Canon.noteUe (h : s.Canon) {k ch rank a cls syn} : (s.noteUe k ch rank a cls syn).Canon := by
  unfold State.noteUe
  dsimp only
  split
  · exact (h.set1.bump.set1.ite h.set1.bump).wr.wr.wr.wr.wr.wr.fault
  · exact (h.set1.bump.set1.ite h.set1.bump).wr.wr.wr.wr.wr.wr.fault
  · exact (h.set1.bump.set1.ite h.set1.bump).wr.wr.wr.wr.wr.wr.frameDram.fault.ite
      (h.set1.bump.set1.ite h.set1.bump).wr.wr.wr.wr.wr.wr

theorem State.Canon.rankCmd (h : s.Canon) {a} : (s.rankCmd a).Canon :=
  h.frameDram

theorem State.Canon.noteBeat (h : s.Canon) {b cls} : (s.noteBeat b cls).2.Canon := by
  unfold State.noteBeat
  dsimp only
  split
  · exact h.pair
  · exact h.noteCe.bind fun h₁ => (h₁.putBeat.ite h₁).pair
  · exact h.noteUe.pair
  · exact h.noteUe.rankPolicy.pair

theorem State.Canon.dramTouch (h : s.Canon) {a n cls} : (s.dramTouch a n cls).2.Canon :=
  h.rankCmd.pair.foldlSnd (fun _ _ h₁ => h₁.noteBeat.pair)

theorem State.Canon.dramRead (h : s.Canon) {a n cls} : (s.dramRead a n cls).2.2.Canon :=
  h.dramTouch.pair₂

theorem State.Canon.partialBeat (h : s.Canon) {b cls} : (s.partialBeat b cls).2.Canon := by
  unfold State.partialBeat
  dsimp only
  split
  · exact h.noteUe.putPoison.pair
  · exact (h.noteCe.ite h).putBeat.pair

theorem State.Canon.storeBytes (h : s.Canon) {a bs poisoned} : (s.storeBytes a bs poisoned).Canon :=
  (h.putMem (Memory.wf_put _ _ h.dramWf)).foldl fun _ _ h => h.putPoison

theorem State.Canon.dramWriteNow (h : s.Canon) {a bs cls} : (s.dramWriteNow a bs cls).2.Canon := by
  unfold State.dramWriteNow
  dsimp only
  split
  · exact h.pair
  · exact (h.rankCmd.pair.foldlSnd (fun _ _ h₁ => h₁.partialBeat.pair)).storeBytes.pair

theorem State.Canon.dramWrite (h : s.Canon) {a bs cls} : (s.dramWrite a bs cls).2.Canon := by
  unfold State.dramWrite
  split
  · exact h.frameDram.pair
  · exact h.dramWriteNow

theorem State.Canon.dramPut (h : s.Canon) {a bs cls} : (s.dramPut a bs cls).Canon :=
  h.dramWrite

theorem State.Canon.addFlips (h : s.Canon) {errs} : (s.addFlips errs).Canon :=
  h.foldl (fun _ _ h₁ => h₁.frameDram)

theorem State.Canon.migReq (h : s.Canon) : s.migReq.Canon :=
  h.migrate

theorem execMigrateCopyLine_canonical (h : s.Canon) {errs} : Canonical (execMigrateCopyLine errs s) := by
  unfold execMigrateCopyLine
  split
  · exact h.next
  · refine h.next.ite ?_
    dsimp only
    split
    · exact h.wr.next
    · refine Canonical.ite (State.Canon.next (.wr (.fault (.bump ?_)))) (State.Canon.next (.wr ?_)) <;>
        refine State.Canon.foldlSnd (r := (false, _)) h.addFlips fun r b hr => ?_ <;>
        split
      · exact hr
      · exact hr.noteCe.bind fun h => h.putBeat.ite h
      · exact hr.frameDram
      · exact hr
      · exact hr.noteCe.bind fun h => h.putBeat.ite h
      · exact hr.frameDram

theorem execRankPowerDown_canonical (h : s.Canon) {ch rank} : Canonical (execRankPowerDown ch rank s) :=
  h.frameDram.next.ite h.next

theorem State.Canon.srBegin (h : s.Canon) : s.srBegin.Canon :=
  h.wr.ite h

theorem State.Canon.srEnter (h : s.Canon) : s.srEnter.Canon :=
  h.srBegin.ite h.reject

theorem execSrEnter_canonical (h : s.Canon) : Canonical (execSrEnter s) :=
  h.srEnter.next

theorem execSrEntryDone_canonical (h : s.Canon) : Canonical (execSrEntryDone s) :=
  h.wr.next.ite h.next

theorem State.Canon.heldNow (h : s.Canon) {h'} : (s.heldNow h').Canon := by
  unfold State.heldNow
  split
  · exact h.dramWriteNow
  · exact h.dramRead.bind fun h₁ => h₁.frame.ite h₁.frame

theorem State.Canon.srExit (h : s.Canon) : s.srExit.Canon :=
  h.ite (h.wr.frameDram.foldl (fun _ _ h₃ => h₃.heldNow))

theorem execSrExit_canonical (h : s.Canon) : Canonical (execSrExit s) :=
  h.srExit.next

theorem execSrTimeout_canonical (h : s.Canon) : Canonical (execSrTimeout s) := by
  unfold execSrTimeout
  split
  · exact h.next.ite h.frameDram.frameDram.set1.fault.next
  · exact h.next

theorem execRefreshRateCheck_canonical (h : s.Canon) {ch rank above85} :
    Canonical (execRefreshRateCheck ch rank above85 s) :=
  h.frameDram.next

theorem State.Canon.shareWrite (h : s.Canon) {v} : (s.shareWrite v).Canon :=
  h.wr.wr.ite h.reject

theorem execShareWrite_canonical (h : s.Canon) {v} : Canonical (execShareWrite v s) :=
  h.shareWrite.next

theorem State.Canon.trainGo (h : s.Canon) {ch cmd act} (hact : ∀ s1, s1.Canon → (act s1).Canon) :
    (s.trainGo ch cmd act).Canon :=
  h.ite ((hact _ h).ite h.reject)

theorem State.Canon.trainSend (h : s.Canon) {ch cmd} : (s.trainSend ch cmd).Canon :=
  h.frame

theorem State.Canon.trainWrite (h : s.Canon) {ch} : (s.trainWrite ch).Canon :=
  h.trainSend.frameDram

theorem State.Canon.trainCompare (h : s.Canon) {ch beats} : (s.trainCompare ch beats).Canon :=
  h.frameDram.trainSend.foldl (fun _ _ h₂ => h₂.ite h₂.wr.wr.wr.bump)

theorem execTrainMrw_canonical (h : s.Canon) {ch} : Canonical (execTrainMrw ch s) :=
  (h.trainGo (fun _ h₁ => h₁.trainSend)).next

theorem execTrainMrr_canonical (h : s.Canon) {ch result} : Canonical (execTrainMrr ch result s) :=
  (h.trainGo (fun _ h₁ => h₁.trainSend.wr)).next

theorem execTrainMpc_canonical (h : s.Canon) {ch} : Canonical (execTrainMpc ch s) :=
  (h.trainGo (fun _ h₁ => h₁.trainSend)).next

theorem execTrainAct_canonical (h : s.Canon) {ch} : Canonical (execTrainAct ch s) :=
  (h.trainGo (fun _ h₁ => h₁.trainSend)).next

theorem execTrainPre_canonical (h : s.Canon) {ch} : Canonical (execTrainPre ch s) :=
  (h.trainGo (fun _ h₁ => h₁.trainSend)).next

theorem execTrainRef_canonical (h : s.Canon) {ch} : Canonical (execTrainRef ch s) :=
  (h.trainGo (fun _ h₁ => h₁.trainSend)).next

theorem State.Canon.trainPairs (h : s.Canon) {ch reads} : (s.trainPairs ch reads).Canon :=
  h.foldl (fun _ _ h₁ => h₁.trainWrite.trainCompare)

theorem execTrainWr_canonical (h : s.Canon) {ch} : Canonical (execTrainWr ch s) :=
  (h.trainGo (fun _ h₁ => h₁.trainWrite)).next

theorem execTrainRd_canonical (h : s.Canon) {ch reads} : Canonical (execTrainRd ch reads s) :=
  (h.trainGo (fun _ h₁ => h₁.trainCompare.ite h₁.trainPairs)).next

/-! ### Machine/Commit -/

theorem State.Canon.setShadow (h : s.Canon) {off v} : (s.setShadow off v).Canon :=
  h.setReg.frame

theorem State.Canon.setFrameGen (h : s.Canon) {f x} : (s.setFrameGen f x).Canon :=
  h.frame

theorem State.Canon.passLines (h : s.Canon) {b} : (s.passLines b).Canon :=
  h.frame

theorem State.Canon.setPx (h : s.Canon) {p x c} : (s.setPx p x c).Canon :=
  h.frame

/-! ### Machine/Peer -/

theorem State.Canon.setPort (h : s.Canon) {n z} : (s.setPort n z).Canon :=
  h.frame

theorem State.Canon.setGrp (h : s.Canon) {n g x} : (s.setGrp n g x).Canon :=
  h.setPort

theorem State.Canon.setLane (h : s.Canon) {n l x} : (s.setLane n l x).Canon :=
  h.setPort

theorem State.Canon.emitPacket (h : s.Canon) {n g p} : (s.emitPacket n g p).Canon :=
  h.bump.frame

theorem State.Canon.sendCam (h : s.Canon) {n g ty payload} : (s.sendCam n g ty payload).2.Canon :=
  h.setGrp.emitPacket.pair

theorem State.Canon.sendReplay (h : s.Canon) {n p} : (s.sendReplay n p).Canon :=
  (h.wr.bind fun h₁ => (h₁.setPort.ite h₁).emitPacket).ite h.setPort

theorem State.Canon.sendPeer (h : s.Canon) {n p} : (s.sendPeer n p).Canon :=
  h.ite (h.emitPacket.ite h.sendReplay)

theorem State.Canon.drainWaiting {k n} (h : s.Canon) : (State.drainWaiting k n s).Canon := by
  induction k generalizing s with
  | zero => exact h
  | succ k ih =>
    unfold State.drainWaiting
    dsimp only
    split
    · exact h
    · exact .ite (ih h.setPort.sendReplay.setPort) h

theorem State.Canon.setLp (h : s.Canon) {k x} : (s.setLp k x).Canon :=
  h.frame

theorem State.Canon.updRoles (h : s.Canon) : s.updRoles.Canon :=
  h.foldl (fun _ _ h₁ => h₁.wr.wr)

theorem State.Canon.setParent (h : s.Canon) {p} : (s.setParent p).Canon :=
  h.wr.updRoles

theorem State.Canon.sendChildren (h : s.Canon) {p} : (s.sendChildren p).Canon :=
  h.foldl (fun _ _ h₁ => h₁.sendPeer.ite h₁)

theorem State.Canon.sendTo (h : s.Canon) {dst p} : (s.sendTo dst p).Canon := by
  unfold State.sendTo
  split
  · exact h.sendPeer
  · split
    · exact h.ite h.sendPeer
    · exact h.bump.bind fun h₁ => h₁.ite h₁.frame.fault

theorem State.Canon.showSpan (h : s.Canon) : s.showSpan.Canon :=
  h.wr.wr

theorem State.Canon.parentChange (h : s.Canon) {k} : (s.parentChange k).Canon := by
  unfold State.parentChange
  refine State.Canon.ite ?_ h
  dsimp only
  split
  · exact h.setParent.showSpan.sendPeer.fault
  · exact h.setParent

theorem State.Canon.probeNow (h : s.Canon) {k} : (s.probeNow k).Canon :=
  h.frame

theorem State.Canon.reportRoot (h : s.Canon) {phase target epoch pos} :
    (s.reportRoot phase target epoch pos).Canon :=
  h.sendTo.ite h

/-! ### Machine/Permit -/

theorem State.Canon.deny (h : s.Canon) {r k w addr} : (s.deny r k w addr).Canon :=
  h.set1.bump.wr.wr.wr.wr.bind fun h₃ => h₃.ite h₃.frame.fault

theorem State.Canon.permit (h : s.Canon) {r k w addr} : (s.permit r k w addr).2.Canon := by
  unfold State.permit
  split
  · exact h.pair
  · exact h.deny.pair

/-! ### Machine/Emit -/

theorem State.Canon.netRecord (h : s.Canon) {bs} : (s.netRecord bs).Canon := by
  unfold State.netRecord
  dsimp only
  split
  · exact h.frame
  · exact h.bump.set1.frame.bind fun h₂ => h₂.ite h₂.fault

theorem State.Canon.sendRecord (h : s.Canon) {dst bs} : (s.sendRecord dst bs).Canon :=
  h.sendTo

theorem State.Canon.chainRecord (h : s.Canon) {bs} : (s.chainRecord bs).Canon :=
  h.sendRecord.ite h.bump

theorem State.Canon.deliverRecord (h : s.Canon) {net chain bs} : (s.deliverRecord net chain bs).Canon :=
  (h.netRecord.ite h).bind fun h₁ => h₁.chainRecord.ite h₁

theorem State.Canon.deliverTally (h : s.Canon) {t bs} : (s.deliverTally t bs).Canon :=
  h.deliverRecord

theorem State.Canon.deliverCov (h : s.Canon) {bs} : (s.deliverCov bs).Canon :=
  h.deliverRecord

theorem State.Canon.takeSeq (h : s.Canon) : s.takeSeq.2.Canon := h.wr.pair

theorem State.Canon.endMerging (h : s.Canon) : s.endMerging.Canon := by
  unfold State.endMerging
  split
  · exact h.frame.fault.ite h
  · exact h

theorem State.Canon.enterCov (h : s.Canon) {c front} : (s.enterCov c front).Canon :=
  (h.frame.ite h).bind fun h₁ => (h₁.takeSeq.bind fun h₂ => (h₂.ite h₂.frame).deliverCov).ite h₁.frame

theorem State.Canon.enqueueCov (h : s.Canon) {c} : (s.enqueueCov c).Canon :=
  h.enterCov

theorem State.Canon.cover (h : s.Canon) {a b left right cause source detail detail2 page} :
    (s.cover a b left right cause source detail detail2 page).Canon :=
  h.foldl (fun _ _ h₁ => h₁.enqueueCov)

theorem State.Canon.coverFull (h : s.Canon) {a b cause source detail detail2} :
    (s.coverFull a b cause source detail detail2).Canon :=
  h.cover

theorem State.Canon.loseTally (h : s.Canon) {t seq rings} : (s.loseTally t seq rings).Canon :=
  (h.set1.bump.foldl (fun _ _ h₂ => h₂.bump.frame.ite h₂)).frame.occur.bind fun h₃ => h₃.ite h₃.fault

theorem State.Canon.enterTally (h : s.Canon) {t snip hold} : (s.enterTally t snip hold).Canon :=
  h.takeSeq.bind fun h₁ => h₁.loseTally.ite (h₁.frame.bump.bind fun h₃ =>
    h₃.frame.ite (h₃.ite h₃.frame).deliverTally)

theorem State.Canon.enterForeign (h : s.Canon) {bs} : (s.enterForeign bs).Canon :=
  ((h.ite h.frame).deliverCov.ite h.frame).ite (h.loseTally.ite (h.ite h.frame).deliverTally)

theorem State.Canon.countRead (h : s.Canon) {n} : (s.countRead n).Canon :=
  h.frame.wr

theorem State.Canon.countWritten (h : s.Canon) {n} : (s.countWritten n).Canon :=
  h.frame.wr

theorem State.Canon.ringPut (h : s.Canon) {r a bs} : (s.ringPut r a bs).Canon :=
  h.permit.bind fun h₁ => h₁.ite (h₁.countWritten.bind fun h₂ => h₂.hostPut.ite h₂.dramPut)

theorem State.Canon.ringWrite (h : s.Canon) {r seq bs cov} : (s.ringWrite r seq bs cov).Canon :=
  h.ringPut.bind fun h₁ => (h₁.frame.ite h₁).wr.bind fun h₃ => (h₃.ringPut.ite h₃).occur

theorem State.Canon.freeEntries (h : s.Canon) : s.freeEntries.Canon :=
  h.frame.endMerging

theorem execRingRecordWrite_canonical (h : s.Canon) {r} : Canonical (execRingRecordWrite r s) := by
  unfold execRingRecordWrite
  refine h.next.ite ?_
  split
  · exact h.next.ite h.frame.ringWrite.freeEntries.next
  · split
    · exact h.next.ite h.frame.ringWrite.freeEntries.next
    · exact h.next

theorem execLossSummaryWrite_canonical (h : s.Canon) {r} : Canonical (execLossSummaryWrite r s) := by
  unfold execLossSummaryWrite
  dsimp only
  split
  · exact h.next.ite h.takeSeq.frame.ringWrite.next
  · exact h.next

theorem State.Canon.ringRd (h : s.Canon) {r v} : (s.ringRd r v).Canon :=
  h.wr.bind fun h₁ => h₁.wr.ite h₁

/-! ### Machine/Sched -/

theorem State.Canon.notePeak (h : s.Canon) : s.notePeak.Canon :=
  h.wr

theorem State.Canon.addEntry (h : s.Canon) {e} : (s.addEntry e).Canon :=
  h.frame.notePeak

theorem State.Canon.markerSkipped (h : s.Canon) {m slot} : (s.markerSkipped m slot).Canon :=
  h.set1.set1.fault

theorem State.Canon.missedSlot (h : s.Canon) {act slot} : (s.missedSlot act slot).Canon :=
  h.set1.fault

theorem State.Canon.offer (h : s.Canon) {act slot} : (s.offer act slot).1.Canon := by
  unfold State.offer
  split
  · exact h.set1.fault
  · split
    · split
      · exact h.markerSkipped
      · exact h.missedSlot.addEntry
    · exact h.addEntry

theorem State.Canon.offer' (h : s.Canon) {act slot} : (s.offer' act slot).Canon :=
  h.offer

theorem State.Canon.withdraw (h : s.Canon) {p} : (s.withdraw p).Canon :=
  h.frame

theorem State.Canon.withdrawOpen (h : s.Canon) {p} : (s.withdrawOpen p).Canon :=
  h.frame

theorem State.Canon.takeDue (h : s.Canon) {p r} (e : s.takeDue p = some r) : r.2.Canon := by
  unfold State.takeDue at e
  split at e
  · split at e
    · cases e
      exact h.frame
    · cases e
  · cases e

theorem State.Canon.dueNow (h : s.Canon) {act slot} : (s.dueNow act slot).Canon :=
  h.set1.fault.ite h.addEntry

theorem State.Canon.takeCommit (h : s.Canon) {u r} (e : s.takeCommit u = some r) : r.2.Canon := by
  unfold State.takeCommit at e
  split at e
  · split at e
    · cases e
      exact h.frame
    · cases e
  · cases e

theorem State.Canon.offerCommit (h : s.Canon) {u} : (s.offerCommit u).Canon := by
  unfold State.offerCommit
  refine h.ite (h.ite ?_)
  dsimp only
  split
  · exact h.withdrawOpen.offer'
  · exact h.withdrawOpen

theorem State.Canon.offerCommits (h : s.Canon) : s.offerCommits.Canon :=
  h.foldl (fun _ _ h₁ => h₁.offerCommit)

theorem State.Canon.armTrigger (h : s.Canon) : s.armTrigger.Canon :=
  h.withdrawOpen.bind fun h₁ => (h₁.offer'.ite h₁).offerCommits

theorem State.Canon.notThisLine (h : s.Canon) {u} : (s.notThisLine u).Canon :=
  h.withdraw.ite h

theorem State.Canon.trigDue (h : s.Canon) : s.trigDue.Canon := by
  unfold State.trigDue
  split
  · split
    · exact (h.frame.foldl (fun _ _ h₂ => h₂.notThisLine)).armTrigger
    · exact h
  · exact h

theorem State.Canon.offerFrame (h : s.Canon) {f l} : (s.offerFrame f l).Canon :=
  h.setFrameGen.offer'.offerCommits

theorem State.Canon.frameDue (h : s.Canon) {f} : (s.frameDue f).Canon := by
  unfold State.frameDue
  dsimp only
  split
  · exact h.offerFrame.ite h
  · exact h

theorem State.Canon.fallDue (h : s.Canon) : s.fallDue.Canon :=
  ((h.frame.ite h).foldl (fun _ _ h₂ => h₂.frameDue)).trigDue

theorem State.Canon.vlimHit (h : s.Canon) {which} : (s.vlimHit which).Canon :=
  h.set1.occur.fault

theorem State.Canon.testVlim (h : s.Canon) : s.testVlim.Canon :=
  ((h.vlimHit.ite h).bind fun h₁ => (h₁.vlimHit.ite h₁).frame).ite h

theorem State.Canon.moveTo (h : s.Canon) {p} : (s.moveTo p).Canon :=
  h.frame.testVlim.fallDue

theorem State.Canon.updVelocity (h : s.Canon) : s.updVelocity.Canon :=
  h.wrS

theorem State.Canon.masterActive (h : s.Canon) : s.masterActive.Canon :=
  h.frame.bind fun h₁ => h₁.wr.occur.ite h₁

theorem State.Canon.posFit (h : s.Canon) {p} : (s.posFit p).2.Canon := by
  unfold State.posFit
  split
  · exact h.pair
  · exact h.free.pair

theorem State.Canon.latchPair (h : s.Canon) {p t fwd} : (s.latchPair p t fwd).Canon :=
  h.frame.wr.moveTo.updVelocity

theorem State.Canon.extrapolate (h : s.Canon) : s.extrapolate.Canon := by
  unfold State.extrapolate
  split
  · exact h.updVelocity
  · exact h.posFit.moveTo.updVelocity

theorem State.Canon.formSim (h : s.Canon) : s.formSim.Canon :=
  h.frame.bind fun h₁ => (h₁.wr.ite h₁).updVelocity

/-! ### Machine/ScribeBase -/

theorem State.Canon.setScq (h : s.Canon) {q x} : (s.setScq q x).Canon :=
  h.frame

theorem State.Canon.setQState (h : s.Canon) {q v} : (s.setQState q v).Canon :=
  h.wr.wr.wr

theorem State.Canon.qPass (h : s.Canon) {q} : (s.qPass q).Canon := by
  unfold State.qPass
  dsimp only
  split
  · split
    · split
      · exact h.setScq
      · exact h.setScq
    · exact h
  · split
    · exact h
    · exact h.setScq.wr

theorem State.Canon.qShow (h : s.Canon) {q} : (s.qShow q).Canon := by
  unfold State.qShow
  refine State.Canon.bind ?_ fun h₃ => (h₃.setQState.ite h₃).wr
  split
  · exact h.wr.wr.wr.ite h.wr.wr.wr.wr
  · exact h.wr.wr.wr.wr.ite h.wr.wr.wr

theorem State.Canon.qDropWait (h : s.Canon) {q} : (s.qDropWait q).Canon := by
  unfold State.qDropWait
  exact h.setScq.wr.withdraw

theorem State.Canon.qWake (h : s.Canon) {q c hop} : (s.qWake q c hop).Canon := by
  unfold State.qWake
  refine State.Canon.bind ?_ fun h₃ => h₃.setQState.qShow
  split
  · exact h.qDropWait.qPass.setScq.wr
  · exact h.qDropWait.qPass.setScq

theorem State.Canon.qRest (h : s.Canon) {q v} : (s.qRest q v).Canon :=
  h.qDropWait.setScq.setQState.qShow

theorem State.Canon.qFault (h : s.Canon) {q code slots} : (s.qFault q code slots).Canon :=
  h.wr.bumpSat.qRest.fault

theorem State.Canon.qStart (h : s.Canon) {q v} : (s.qStart q v).Canon :=
  h.ite (h.reject.ite h.setScq.wr.wr.setQState.qShow)

theorem State.Canon.qStop (h : s.Canon) {q} : (s.qStop q).Canon :=
  h.ite h.qRest

theorem State.Canon.qTail (h : s.Canon) {q v} : (s.qTail q v).Canon :=
  h.wr.qShow.ite h.reject

theorem State.Canon.haltQueues (h : s.Canon) : s.haltQueues.Canon :=
  h.foldl (fun _ _ h₁ => h₁.qStop.ite h₁)

theorem State.Canon.modeDone (h : s.Canon) {q c} : (s.modeDone q c).Canon := by
  unfold State.modeDone
  split
  · exact h.qWake
  · exact h

theorem State.Canon.resyncDone (h : s.Canon) {t} : (s.resyncDone t).Canon := by
  unfold State.resyncDone
  refine h.foldl (fun _ _ h₁ => ?_)
  split
  · exact h₁.qWake.ite h₁
  · exact h₁

theorem State.Canon.qTake (h : s.Canon) {q} : (s.qTake q).Canon :=
  h.ite (h.wr.bind fun h₁ => h₁.qWake.ite h₁.wr)

theorem State.Canon.qEvent (h : s.Canon) {q hop coincident} : (s.qEvent q hop coincident).2.Canon := by
  unfold State.qEvent
  refine (h.set1.ite h).bind fun h => .iteSnd h.set1.pair ?_
  dsimp only
  split
  · exact h.set1.setScq.qTake
  · exact h.set1.setScq

theorem State.Canon.scribeStop (h : s.Canon) : s.scribeStop.Canon :=
  h.withdraw.frame

theorem State.Canon.setDch (h : s.Canon) {c x} : (s.setDch c x).Canon :=
  h.frame

theorem State.Canon.setDState (h : s.Canon) {c v} : (s.setDState c v).Canon :=
  h.wr.wr.wr.wr

theorem State.Canon.dRest (h : s.Canon) {c v} : (s.dRest c v).Canon :=
  h.setDch.wr.setDState

theorem State.Canon.dFault (h : s.Canon) {c code addr slots} : (s.dFault c code addr slots).Canon :=
  h.wr.bumpSat.wr.set1.dRest.fault

theorem State.Canon.dStart (h : s.Canon) {c v} : (s.dStart c v).Canon :=
  h.ite (h.reject.ite h.setDch.wr.setDState)

theorem State.Canon.dStop (h : s.Canon) {c got v} : (s.dStop c got v).Canon := by
  unfold State.dStop
  refine h.reject.ite (h.ite ?_)
  split
  · exact h.dRest
  · exact h.setDch

theorem State.Canon.dNext (h : s.Canon) {c} : (s.dNext c).Canon :=
  h.wr

theorem State.Canon.dWake (h : s.Canon) {c hop} : (s.dWake c hop).Canon :=
  h.dNext.setDch.wr.setDState

theorem State.Canon.dTake (h : s.Canon) {c} : (s.dTake c).Canon :=
  h.ite (h.wr.bind fun h₁ => h₁.dWake.ite h₁.wr)

theorem State.Canon.dEvent (h : s.Canon) {c hop coincident} : (s.dEvent c hop coincident).2.Canon :=
  (h.set1.ite h).bind fun h => .iteSnd h.set1.pair (h.set1.setDch.bind fun h => (h.dTake.ite h).pair)

theorem State.Canon.dmaStop (h : s.Canon) : s.dmaStop.Canon :=
  h.frame

theorem execQueueStart_canonical (h : s.Canon) {q} : Canonical (execQueueStart q s) :=
  h.qStart.next

theorem execQueueStop_canonical (h : s.Canon) {q} : Canonical (execQueueStop q s) :=
  h.qStop.next

theorem execQueueTailWrite_canonical (h : s.Canon) {q v} : Canonical (execQueueTailWrite q v s) :=
  h.qTail.next

theorem execDmaStart_canonical (h : s.Canon) {c} : Canonical (execDmaStart c s) :=
  h.dStart.next

theorem execDmaStop_canonical (h : s.Canon) {c got} : Canonical (execDmaStop c got s) :=
  h.dStop.next

/-! ### Machine/Stroke -/

theorem State.Canon.setStroke (h : s.Canon) {k x} : (s.setStroke k x).Canon :=
  h.frame

theorem State.Canon.strokeReject (h : s.Canon) {k off v} : (s.strokeReject k off v).Canon :=
  h.reject

theorem State.Canon.strokeEnable (h : s.Canon) {k} : (s.strokeEnable k).Canon :=
  h.ite h.set1.set1.wr.wr.setStroke

theorem State.Canon.strokeDisable (h : s.Canon) {k} : (s.strokeDisable k).Canon :=
  h.wr.wr

theorem execStrokeEnable_canonical (h : s.Canon) {k} : Canonical (execStrokeEnable k s) :=
  h.strokeEnable.next

theorem State.Canon.strokeStart (h : s.Canon) {mask} : (s.strokeStart mask).Canon :=
  h.foldl (fun _ _ h₁ => h₁.strokeEnable.ite h₁)

theorem execStrokeStart_canonical (h : s.Canon) {mask} : Canonical (execStrokeStart mask s) :=
  h.strokeStart.next

theorem State.Canon.strokeLag (h : s.Canon) {k n} : (s.strokeLag k n).Canon :=
  h.wrS.bind fun h₁ => (h₁.set1.occur.fault.ite h₁).setStroke

theorem State.Canon.strokeVlim (h : s.Canon) {k n lim} : (s.strokeVlim k n lim).Canon :=
  (h.set1.occur.fault.ite h).bump.setStroke

theorem execStrokePhaseUpdate_canonical (h : s.Canon) {k} : Canonical (execStrokePhaseUpdate k s) :=
  (h.setStroke.wrS.bind fun h₂ => (h₂.set1.occur.ite h₂).wrS.strokeVlim.strokeLag.next).ite h.next

theorem execStrokeStep_canonical (h : s.Canon) {k} : Canonical (execStrokeStep k s) :=
  (h.next.ite (h.setStroke.next.ite (h.next.ite h.wrS.setStroke.next))).ite h.next

theorem State.Canon.strokeRatio (h : s.Canon) {k v} : (s.strokeRatio k v).Canon :=
  (h.setStroke.ite h).wr

theorem execStrokeRatioWrite_canonical (h : s.Canon) {k ratio} : Canonical (execStrokeRatioWrite k ratio s) :=
  h.strokeRatio.next

theorem State.Canon.trimTarget (h : s.Canon) {k v} : (s.trimTarget k v).Canon :=
  (h.set1.fault.ite h).wrS.wr

theorem State.Canon.writeTrim (h : s.Canon) {k v} : (s.writeTrim k v).Canon :=
  h.trimTarget

theorem execTrimTargetWrite_canonical (h : s.Canon) {k target} : Canonical (execTrimTargetWrite k target s) :=
  h.writeTrim.next

theorem State.Canon.addTrim (h : s.Canon) {k a} : (s.addTrim k a).Canon :=
  h.setStroke.trimTarget

theorem execTrimAdd_canonical (h : s.Canon) {k add} : Canonical (execTrimAdd k add s) :=
  h.addTrim.next

theorem State.Canon.strokesHalt (h : s.Canon) : s.strokesHalt.Canon :=
  h.foldl (fun _ _ h₁ => h₁.wr.setStroke.ite h₁)

theorem State.Canon.strokesResume (h : s.Canon) : s.strokesResume.Canon := by
  unfold State.strokesResume
  refine h.foldl (fun _ _ h₁ => ?_)
  dsimp only
  split
  · exact h₁.set1.setStroke
  · exact h₁

/-! ### Machine/Mode -/

theorem State.Canon.pushSpan (h : s.Canon) {line m e} : (s.pushSpan line m e).Canon :=
  h.frame

theorem State.Canon.holdCov (h : s.Canon) {c} : (s.holdCov c).Canon :=
  h.wrS.wrS.set1

theorem State.Canon.coverMode (h : s.Canon) {c} : (s.coverMode c).Canon :=
  h.enqueueCov.ite h.holdCov

theorem State.Canon.playRunEnd (h : s.Canon) : s.playRunEnd.Canon := by
  unfold State.playRunEnd
  split
  · exact h
  · exact h.frameDram.enqueueCov

theorem State.Canon.stopPlay (h : s.Canon) : s.stopPlay.Canon :=
  h.wr.frameDram.playRunEnd

theorem State.Canon.idleCameras (h : s.Canon) {idle} : (s.idleCameras idle).Canon :=
  h.foldl (fun _ _ h₁ => h₁.wr)

theorem State.Canon.resumeTriggers (h : s.Canon) : s.resumeTriggers.Canon :=
  (h.passLines.ite h).armTrigger

theorem State.Canon.leaveHalt (h : s.Canon) : s.leaveHalt.Canon := by
  unfold State.leaveHalt
  dsimp only
  split
  · exact h.strokesResume.resumeTriggers.idleCameras.frame.wr.frame.coverMode
  · exact h.strokesResume.resumeTriggers.idleCameras.frame.wr

theorem State.Canon.enterHalt (h : s.Canon) {line} : (s.enterHalt line).Canon :=
  h.strokesHalt.haltQueues.set1.frame.armTrigger

theorem State.Canon.setMode (h : s.Canon) {m line e} : (s.setMode m line e).Canon :=
  h.wr.wr.wr.wr.pushSpan.occur.bind fun h₃ => (h₃.stopPlay.ite h₃).bind fun h₄ =>
    (h₄.ite h₄.srExit).bind fun h₅ => (h₅.leaveHalt.ite h₅).bind fun h₆ =>
    (h₆.enterHalt.ite h₆).bind fun h₇ => h₇.reportRoot.ite h₇

theorem State.Canon.recheck (h : s.Canon) : s.recheck.Canon :=
  h.setMode.ite (h.setMode.ite h)

theorem State.Canon.beginDegrade (h : s.Canon) {key} : (s.beginDegrade key).Canon :=
  h.frame.recheck

theorem State.Canon.endDegrade (h : s.Canon) {key} : (s.endDegrade key).Canon :=
  h.frame.recheck

/-! ### Machine/Timeline -/

theorem State.Canon.setEnc (h : s.Canon) {e x} : (s.setEnc e x).Canon :=
  h.frame

theorem State.Canon.setProbe (h : s.Canon) {k x} : (s.setProbe k x).Canon :=
  h.frame

theorem State.Canon.setMarkerSt (h : s.Canon) {m x} : (s.setMarkerSt m x).Canon :=
  h.frame

theorem State.Canon.tlReject (h : s.Canon) {off v} : (s.tlReject off v).Canon :=
  h.reject

theorem State.Canon.showEdge (h : s.Canon) {e p t} : (s.showEdge e p t).Canon :=
  h.wrS.wr

theorem State.Canon.countSteps (h : s.Canon) {e n t} : (s.countSteps e n t).Canon :=
  h.setEnc.wrS.bind fun h₂ => ((h₂.ite h₂.masterActive).bind fun h₃ =>
    h₃.posFit.latchPair.showEdge.ite h₃.showEdge).ite h₂.showEdge

theorem execEncoderStep_canonical (h : s.Canon) {e a b} : Canonical (execEncoderStep e a b s) :=
  h.setEnc.bind fun h₁ => h₁.set1.fault.next.ite (h₁.next.ite (h₁.set1.fault.next.ite h₁.countSteps.next))

theorem execSsiTransferStart_canonical (h : s.Canon) {e} : Canonical (execSsiTransferStart e s) :=
  h.setEnc.next.ite h.next

theorem execSsiSample_canonical (h : s.Canon) {e raw parity} : Canonical (execSsiSample e raw parity s) := by
  unfold execSsiSample
  dsimp only
  split
  · exact h.next
  · refine h.setEnc.bind fun h₁ => h₁.set1.fault.next.ite ?_
    split
    · exact h₁.setEnc.next
    · exact h₁.set1.fault.next.ite h₁.setEnc.countSteps.next

theorem execIndexEdge_canonical (h : s.Canon) {e rising} : Canonical (execIndexEdge e rising s) :=
  h.next.ite (h.wrS.wr.occur.bind fun h₃ => ((h₃.set1.wrS.fault.ite h₃).setEnc.bind fun h₅ =>
    h₅.wr.next.ite (h₅.wr.wr.next.ite h₅.next)).ite h₃.next)

theorem execWebStopped_canonical (h : s.Canon) : Canonical (execWebStopped s) :=
  h.set1.occur.updVelocity.next.ite h.next

theorem execSimIncrement_canonical (h : s.Canon) : Canonical (execSimIncrement s) :=
  (h.posFit.bind fun h₁ => (h₁.ite h₁.masterActive).frame.moveTo.updVelocity.next).ite h.next

theorem execExtrapolation_canonical (h : s.Canon) : Canonical (execExtrapolation s) :=
  h.extrapolate.next

theorem State.Canon.crossLatch (h : s.Canon) : s.crossLatch.Canon :=
  h.ite h.wrS.wr.wr.wr.frame

theorem execCrossLatch_canonical (h : s.Canon) : Canonical (execCrossLatch s) :=
  h.crossLatch.next

theorem State.Canon.compareFires (h : s.Canon) {c} : (s.compareFires c).Canon :=
  h.occur.set1.wr.frame.bind fun h₃ => ((h₃.wrS.bind fun h₄ => h₄.ite h₄.bump.set1).ite h₃).bind fun h₄ =>
    h₄.wr.ite h₄

theorem execCompareFire_canonical (h : s.Canon) {c} : Canonical (execCompareFire c s) :=
  h.compareFires.next.ite h.next

theorem State.Canon.compareTest (h : s.Canon) {c} : (s.compareTest c).Canon :=
  (h.set1.compareFires.ite h.set1).ite h

theorem State.Canon.compareEnable (h : s.Canon) {c} : (s.compareEnable c).Canon :=
  h.ite (h.set1.bind fun h₁ => h₁.compareTest.ite h₁)

theorem execCompareEnable_canonical (h : s.Canon) {c} : Canonical (execCompareEnable c s) :=
  h.compareEnable.next

theorem State.Canon.compareTarget (h : s.Canon) {c v} : (s.compareTarget c v).Canon :=
  h.wr.bind fun h₁ => h₁.compareTest.ite h₁

theorem execCompareTargetWrite_canonical (h : s.Canon) {c target} :
    Canonical (execCompareTargetWrite c target s) :=
  h.compareTarget.next

theorem State.Canon.chooseGenerated (h : s.Canon) {f} : (s.chooseGenerated f).Canon :=
  h.withdrawOpen.bind fun h₁ => h₁.offerFrame.ite h₁.offerCommits

theorem State.Canon.sensedMark (h : s.Canon) {f p} : (s.sensedMark f p).Canon :=
  h.set1.fault.ite h.setFrameGen.offerFrame

theorem State.Canon.frameStep (h : s.Canon) {f l} : (s.frameStep f l).Canon :=
  h.bump.occur.setFrameGen

theorem execProbeEdge_canonical (h : s.Canon) {k rising} : Canonical (execProbeEdge k rising s) :=
  h.wr.bind fun h₁ => h₁.next.ite (h₁.set1.next.ite
    (h₁.setProbe.set1.fault.next.ite (h₁.setProbe.occur.foldl (fun _ _ h₄ => h₄.sensedMark.ite h₄)).next))

theorem State.Canon.popProbe (h : s.Canon) {k} : (s.popProbe k).Canon := by
  unfold State.popProbe
  dsimp only
  split
  · exact h.wr.wr
  · exact h.setProbe.wrS.wr.wr.set1

theorem execProbePop_canonical (h : s.Canon) {k} : Canonical (execProbePop k s) :=
  h.popProbe.next

theorem State.Canon.markerQueue (h : s.Canon) {m at16} : (s.markerQueue m at16).Canon :=
  h.set1.fault.ite h.offer'

theorem execMarkerQueue_canonical (h : s.Canon) {m at48} : Canonical (execMarkerQueue m at48 s) :=
  h.markerQueue.next

theorem execMarkerFire_canonical (h : s.Canon) {m} : Canonical (execMarkerFire m s) := by
  unfold execMarkerFire
  dsimp only
  split
  · exact h.next
  · rename_i e
    exact (h.takeDue e).occur.setMarkerSt.bind fun h₂ => h₂.next.ite (h₂.set1.ite h₂).setMarkerSt.next

theorem execMarkerPulseEnd_canonical (h : s.Canon) {m} : Canonical (execMarkerPulseEnd m s) := by
  unfold execMarkerPulseEnd
  dsimp only
  split
  · exact h.setMarkerSt.next.ite h.next
  · exact h.next

theorem State.Canon.lateEntries (h : s.Canon) : s.lateEntries.Canon := by
  unfold State.lateEntries
  refine h.foldl (fun _ _ h₁ => ?_)
  dsimp only
  split
  · exact h₁.frame.markerSkipped
  · exact h₁.frame.missedSlot.addEntry

theorem State.Canon.runStart (h : s.Canon) : s.runStart.Canon :=
  h.ite (((h.set1.frame.foldl (fun _ _ h₃ => h₃.setEnc)).foldl (fun _ _ h₄ =>
    h₄.chooseGenerated.ite h₄)).lateEntries.foldl (fun _ _ h₆ => h₆.compareTest.ite h₆)).updVelocity

theorem State.Canon.runStop (h : s.Canon) : s.runStop.Canon :=
  h.wr.frame.updVelocity

theorem State.Canon.preset (h : s.Canon) : s.preset.Canon :=
  h.tlReject.ite h.frame

theorem execRunStart_canonical (h : s.Canon) : Canonical (execRunStart s) :=
  h.runStart.next

theorem execRunStop_canonical (h : s.Canon) : Canonical (execRunStop s) :=
  h.runStop.next

theorem execPreset_canonical (h : s.Canon) : Canonical (execPreset s) :=
  h.preset.next

theorem State.Canon.markMissing (h : s.Canon) {f r} (e : s.markMissing f = some r) : r.2.Canon := by
  unfold State.markMissing at e
  dsimp only at e
  split at e
  · split at e
    · cases e
      exact h.set1.fault
    · cases e
  · cases e

/-! ### Machine/Intake -/

theorem State.Canon.setPipe (h : s.Canon) {p x} : (s.setPipe p x).Canon :=
  h.frame

theorem State.Canon.closeFrame (h : s.Canon) {p x f} : (s.closeFrame p x f).Canon :=
  (h.ite (h.bump.ite h.dramPut.wr)).occur

theorem State.Canon.closeStats (h : s.Canon) {p x} : (s.closeStats p x).Canon :=
  h.foldl (fun _ _ h₁ => h₁.setPx.closeFrame.ite h₁)

theorem State.Canon.coverCamera (h : s.Canon) {k a b reason detail} :
    (s.coverCamera k a b reason detail).Canon :=
  (h.foldl (fun _ _ h₁ => h₁.enqueueCov)).ite h

theorem State.Canon.flushRun (h : s.Canon) {p x cover} : (s.flushRun p x cover).Canon := by
  unfold State.flushRun
  dsimp only
  split
  · exact h
  · exact h.setPx.fault.bump.set1.bind fun h₄ => h₄.coverCamera.ite h₄

theorem State.Canon.settle (h : s.Canon) {p x l} : (s.settle p x l).Canon :=
  h.wrS.ite h

theorem State.Canon.lostLine (h : s.Canon) {p x l reason cover} : (s.lostLine p x l reason cover).Canon :=
  h.setPx.bind fun h₁ => (h₁.setPx.ite h₁.flushRun.setPx).settle.closeStats

theorem State.Canon.owedLost (h : s.Canon) {p x reason} : (s.owedLost p x reason).Canon :=
  h.foldl (fun _ _ h₁ => h₁.lostLine)

theorem State.Canon.owe (h : s.Canon) {p x n l} : (s.owe p x n l).Canon :=
  h.ite (h.lostLine.ite (h.lostLine.ite h.setPx))

/-! ### Machine/Resets -/

/-- Replacing or dropping entries keeps a store canonical while no replacement holds its key's default. -/
theorem spWfFrom_filterMap {α : Type} [DecidableEq α] {d : Nat → α} {f : Nat × α → Option (Nat × α)}
    (hf : ∀ e e', e.2 ≠ d e.1 → f e = some e' → e'.1 = e.1 ∧ e'.2 ≠ d e'.1) (m : Sparse α) :
    ∀ lo, spWfFrom d lo m = true → spWfFrom d lo (m.filterMap f) = true := by
  induction m with
  | nil => exact fun _ h => h
  | cons e m ih =>
    intro lo h
    simp only [spWfFrom, Bool.and_eq_true, decide_eq_true_eq] at h
    obtain ⟨⟨hlo, hd⟩, hm⟩ := h
    cases he : f e with
    | none =>
      rw [List.filterMap_cons_none he]
      refine ih lo ?_
      cases lo with
      | none => exact spWfFrom_none hm
      | some l => exact spWfFrom_mono (le_of_lt (by simpa using hlo)) hm
    | some e' =>
      obtain ⟨hkey, hd'⟩ := hf e e' hd he
      rw [List.filterMap_cons_some he]
      simp only [spWfFrom, Bool.and_eq_true, decide_eq_true_eq]
      exact ⟨⟨hkey ▸ hlo, hd'⟩, hkey ▸ ih _ hm⟩

theorem State.Canon.resetRegs (h : s.Canon) {keep lo hi} : (s.resetRegs keep lo hi).Canon := by
  refine ⟨spWfFrom_filterMap ?_ _ none h.regsWf, h.dramWf, h.quillWf⟩
  intro e e' hd he
  dsimp only at he
  split at he
  · split at he
    · cases he
    · rename_i hne
      cases he
      exact ⟨rfl, hne⟩
  · cases he
    exact ⟨rfl, hd⟩

theorem State.Canon.markReset (h : s.Canon) {block} : (s.markReset block).Canon :=
  h.frame

/-! ### Machine/Zl -/

theorem State.Canon.resetMaps (h : s.Canon) {n} : (s.resetMaps n).Canon :=
  h.wr.wr

theorem State.Canon.request (h : s.Canon) {n kind lane seq} : (s.request n kind lane seq).Canon :=
  h.frame

theorem State.Canon.zlReject (h : s.Canon) {n off v} : (s.zlReject n off v).Canon :=
  h.reject

theorem State.Canon.updTrained (h : s.Canon) {n} : (s.updTrained n).Canon :=
  h.wr.wr

theorem State.Canon.sendCtrl (h : s.Canon) {n g op tag arg data} : (s.sendCtrl n g op tag arg data).Canon :=
  h.sendCam.setGrp

theorem State.Canon.trainStart (h : s.Canon) {n g} : (s.trainStart n g).Canon :=
  h.ite (h.setGrp.foldl (fun _ _ h₂ => h₂.sendCtrl)).updTrained

theorem State.Canon.trainGoPort (h : s.Canon) {n} : (s.trainGoPort n).Canon :=
  h.foldl (fun _ _ h₁ => h₁.trainStart.ite h₁)

theorem execTrainGo_canonical (h : s.Canon) {n} : Canonical (execTrainGo n s) :=
  h.trainGoPort.next

theorem execTrainDone_canonical (h : s.Canon) {n g replies} : Canonical (execTrainDone n g replies s) :=
  h.next.ite (h.setGrp.bind fun h₁ => h₁.setGrp.wrS.wrS.updTrained.next.ite h₁.set1.fault.updTrained.next)

theorem State.Canon.dropReplay (h : s.Canon) {n} : (s.dropReplay n).Canon :=
  h.setPort.wr

theorem State.Canon.groupRise (h : s.Canon) {n g} : (s.groupRise n g).Canon :=
  h.set1.occur.wr.trainStart.bind fun h₃ => (h₃.probeNow.updRoles.ite h₃).updTrained.recheck

theorem State.Canon.groupDown (h : s.Canon) {n g cause} : (s.groupDown n g cause).Canon := by
  unfold State.groupDown
  refine h.ite (State.Canon.bind ?_ fun h₄ => (h₄.dropReplay.parentChange.updRoles.ite h₄).updTrained.recheck)
  split
  · exact h.wr.occur.fault.setGrp.ite h.wr.occur.fault.setGrp.owedLost
  · exact h.wr.occur.fault.setGrp

theorem State.Canon.evalGroup (h : s.Canon) {n g} : (s.evalGroup n g).Canon :=
  h.ite ((h.ite h.groupDown).ite (h.groupRise.ite h))

theorem State.Canon.askSpare (h : s.Canon) {n g lg dest planned} : (s.askSpare n g lg dest planned).Canon :=
  h.setPort.request.recheck

theorem State.Canon.laneLost (h : s.Canon) {n l} : (s.laneLost n l).Canon := by
  unfold State.laneLost
  dsimp only
  split
  · exact h.wr.wr.setLane.fault.ite (h.wr.wr.setLane.fault.askSpare.ite
      (h.wr.wr.setLane.fault.groupDown.ite h.wr.wr.setLane.fault.fault.groupDown))
  · exact h.wr.wr.setLane.fault.wr.ite h.wr.wr.setLane.fault

theorem State.Canon.markerBad (h : s.Canon) {n l} : (s.markerBad n l).Canon :=
  h.setLane.bind fun h₁ => h₁.laneLost.ite h₁

theorem execMarkerMissing_canonical (h : s.Canon) {n l} : Canonical (execMarkerMissing n l s) :=
  h.next.ite h.markerBad.next

theorem State.Canon.periodChecks (h : s.Canon) {n l stuffed viol rail eyeH eyeV} :
    (s.periodChecks n l stuffed viol rail eyeH eyeV).Canon := by
  unfold State.periodChecks
  refine State.Canon.bind ?_ fun h₃ => h₃.wr.wr.setLane
  split
  · exact (h.bump.ite h.bump.set1.bump.fault).set1.fault
  · exact h.bump.ite h.bump.set1.bump.fault

theorem State.Canon.markerGood (h : s.Canon) {n l w blocks skew} : (s.markerGood n l w blocks skew).Canon :=
  h.wr.wr.wr.wr.wrS.bind fun h₅ => (h₅.set1.fault.ite h₅).setLane.bind fun h₇ => h₇.wr.ite h₇

theorem State.Canon.periodStart (h : s.Canon) {n g w} : (s.periodStart n g w).Canon :=
  h.setGrp

theorem execLaneMarkerRx_canonical (h : s.Canon) {n l w blocks skew stuffed viol rail eyeH eyeV} :
    Canonical (execLaneMarkerRx n l w blocks skew stuffed viol rail eyeH eyeV s) :=
  h.next.ite (h.periodChecks.bind fun h₁ => (h₁.markerGood.bind fun h₂ =>
    (h₂.periodStart.ite h₂).evalGroup.next).ite (h₁.set1.bump.bind fun h₂ =>
    (h₂.fault.ite h₂).markerBad.next))

theorem execSpareSwitch_canonical (h : s.Canon) {n tx} : Canonical (execSpareSwitch n tx s) := by
  unfold execSpareSwitch
  dsimp only
  split
  · exact h.next
  · exact h.next.ite (h.wr.wr.setPort.wr.bind fun h₃ => (h₃.ite h₃.wr.wr.wr.setGrp).fault.bind fun h₅ =>
      (h₅.fault.ite h₅).occur.bind fun h₇ => (h₇.ite h₇.evalGroup).recheck.next)

theorem State.Canon.startSwap (h : s.Canon) {n g lg tx release planned} :
    (s.startSwap n g lg tx release planned).Canon :=
  h.ite (h.setPort.ite (h.setPort.request.ite h.askSpare))

theorem State.Canon.plannedSwap (h : s.Canon) {n} : (s.plannedSwap n).Canon :=
  h.startSwap

theorem execPlannedSwap_canonical (h : s.Canon) {n} : Canonical (execPlannedSwap n s) :=
  h.plannedSwap.next

theorem State.Canon.ackUpTo (h : s.Canon) {n seq} : (s.ackUpTo n seq).Canon :=
  h.ite h.setPort.wr.drainWaiting

theorem State.Canon.portReset (h : s.Canon) {n cause} : (s.portReset n cause).Canon := by
  unfold State.portReset
  refine (((h.foldl (fun _ _ h₁ => h₁.groupDown)).setPort.foldl (fun _ _ h₃ => ?_)).foldl (fun _ _ h₄ =>
    h₄.setLane)).resetRegs.resetMaps.wr.bind fun h₇ => h₇.wr.wr.ite h₇
  split
  · exact h₃.setGrp
  · exact h₃

theorem State.Canon.replayFail (h : s.Canon) {n seq} : (s.replayFail n seq).Canon :=
  h.fault.portReset.set1

theorem State.Canon.resendFrom (h : s.Canon) {n last} : (s.resendFrom n last).Canon := by
  unfold State.resendFrom
  dsimp only
  split
  · exact h.replayFail
  · exact h.setPort.foldl (fun _ _ h₂ => h₂.bump.emitPacket)

theorem execReplayTimeout_canonical (h : s.Canon) {n} : Canonical (execReplayTimeout n s) := by
  unfold execReplayTimeout
  dsimp only
  split
  · exact h.setPort.resendFrom.next.ite h.next
  · exact h.next

theorem State.Canon.linkReq (h : s.Canon) {n g kind lane seq id} : (s.linkReq n g kind lane seq id).Canon :=
  h.ite (h.bump.ite (h.ite (h.setPort.bind fun h₁ =>
    h₁.ackUpTo.ite (h₁.resendFrom.ite (h₁.startSwap.ite (h₁.startSwap.ite h₁.request))))))

theorem execLinkReqAck_canonical (h : s.Canon) {n seq id} : Canonical (execLinkReqAck n seq id s) :=
  h.linkReq.next

theorem execLinkReqNak_canonical (h : s.Canon) {n seq id} : Canonical (execLinkReqNak n seq id s) :=
  h.linkReq.next

theorem execLinkReqSpare_canonical (h : s.Canon) {n g lane id} : Canonical (execLinkReqSpare n g lane id s) :=
  h.linkReq.next

theorem execLinkReqRelease_canonical (h : s.Canon) {n g lane id} :
    Canonical (execLinkReqRelease n g lane id s) :=
  h.linkReq.next

theorem execLinkReqGap_canonical (h : s.Canon) {n g lane id} : Canonical (execLinkReqGap n g lane id s) :=
  h.linkReq.next

theorem execLinkReqReserved_canonical (h : s.Canon) {n req} : Canonical (execLinkReqReserved n req s) :=
  h.linkReq.next

theorem execFillRowRx_canonical (h : s.Canon) {n g slot blocks} :
    Canonical (execFillRowRx n g slot blocks s) :=
  h.next.ite ((h.foldl (fun _ _ h₁ => h₁.linkReq)).next.ite (h.set1.fault.next.ite h.next))

theorem execGapRowRx_canonical (h : s.Canon) {n g lane slots} :
    Canonical (execGapRowRx n g lane slots s) := by
  unfold execGapRowRx
  dsimp only
  split
  · exact h.setLane.setPort.next.ite h.setLane.next
  · exact h.setLane.next

theorem execGapTimeout_canonical (h : s.Canon) {n} : Canonical (execGapTimeout n s) := by
  unfold execGapTimeout
  dsimp only
  split
  · exact h.setPort.fault.next.ite h.next
  · exact h.next

theorem execIdleEnterRx_canonical (h : s.Canon) {n} : Canonical (execIdleEnterRx n s) :=
  h.set1.next

theorem execIdleExit_canonical (h : s.Canon) {n} : Canonical (execIdleExit n s) :=
  h.wr.next

theorem execIdleExitSlow_canonical (h : s.Canon) {n l} : Canonical (execIdleExitSlow n l s) :=
  h.fault.next

theorem State.Canon.idleReq (h : s.Canon) {n v} : (s.idleReq n v).Canon :=
  (h.request.ite h).wr.wr

theorem execIdleReqWrite_canonical (h : s.Canon) {n v} : Canonical (execIdleReqWrite n v s) :=
  h.idleReq.next

theorem State.Canon.unlockPort (h : s.Canon) {n} : (s.unlockPort n).Canon :=
  (h.foldl (fun _ _ h₁ => h₁.wr.wr.setLane)).wr

theorem execLrefSwitch_canonical (h : s.Canon) {n} : Canonical (execLrefSwitch n s) :=
  (h.wr.fault.unlockPort.foldl (fun _ _ h₃ => h₃.groupDown)).next.ite h.next

theorem State.Canon.portEnable (h : s.Canon) {n} : (s.portEnable n).Canon :=
  h.ite h.set1.unlockPort.wr.wr.wr.resetMaps.recheck

theorem execPortEnable_canonical (h : s.Canon) {n} : Canonical (execPortEnable n s) :=
  h.portEnable.next

theorem State.Canon.portDisable (h : s.Canon) {n} : (s.portDisable n).Canon :=
  (h.foldl (fun _ _ h₁ => h₁.groupDown)).wr.unlockPort.set1.set1.recheck

theorem execLinkReset_canonical (h : s.Canon) {n} : Canonical (execLinkReset n s) :=
  h.portReset.markReset.next

theorem State.Canon.retrain (h : s.Canon) {n} : (s.retrain n).Canon :=
  (h.unlockPort.foldl (fun _ _ h₂ => h₂.groupDown)).foldl (fun _ _ h₃ => h₃.foldl (fun _ _ h₄ => h₄.setReg))

theorem execRetrain_canonical (h : s.Canon) {n} : Canonical (execRetrain n s) :=
  h.retrain.next

theorem State.Canon.loopback (h : s.Canon) {n v} : (s.loopback n v).Canon :=
  h.zlReject.ite h.wr

theorem execLoopbackWrite_canonical (h : s.Canon) {n v} : Canonical (execLoopbackWrite n v s) :=
  h.loopback.next

theorem State.Canon.loopbackOff (h : s.Canon) : s.loopbackOff.Canon :=
  h.foldl (fun _ _ h₁ => h₁.wr.portReset.ite h₁)

theorem State.Canon.changeMode (h : s.Canon) {m line e} : (s.changeMode m line e).Canon :=
  h.setMode.bind fun h₁ => (h₁.loopbackOff.ite h₁).recheck

theorem State.Canon.changeModeNow (h : s.Canon) {m} : (s.changeModeNow m).Canon :=
  h.changeMode

theorem State.Canon.linkError (h : s.Canon) {n g named} : (s.linkError n g named).Canon := by
  unfold State.linkError
  split
  · exact h
  · refine h.ite ?_
    dsimp only
    split
    · exact h.lostLine
    · exact h

theorem State.Canon.sendNak (h : s.Canon) {n} : (s.sendNak n).Canon :=
  h.ite h.setPort.request

theorem State.Canon.countSeq (h : s.Canon) {n g seq} : (s.countSeq n g seq).Canon := by
  unfold State.countSeq
  dsimp only
  split
  · exact h.setGrp.ite h.setGrp.set1.bump.fault
  · exact h.setGrp

theorem State.Canon.deliver (h : s.Canon) {n g p} : (s.deliver n g p).Canon :=
  h.bump.setGrp

theorem State.Canon.deliverReplay (h : s.Canon) {n p} : (s.deliverReplay n p).Canon :=
  h.setPort.request.deliver.ite (h.sendNak.ite h.request)

theorem execPacketHeaderRx_canonical (h : s.Canon) {n g header payload trailer} :
    Canonical (execPacketHeaderRx n g header payload trailer s) :=
  h.next.ite ((h.set1.bump.fault.setGrp.bind fun h₂ =>
    (h₂.sendNak.ite h₂.linkError).next).ite ((h.ite h.countSeq).bind fun h₁ =>
    h₁.set1.fault.next.ite ((h₁.set1.fault.setGrp.bind fun h₃ =>
    (h₃.linkError.ite h₃).next).ite ((h₁.set1.bump.fault.setGrp.bind fun h₃ =>
    (h₃.occur.ite h₃).bind fun h₄ => (h₄.sendNak.ite (h₄.linkError.ite h₄)).next).ite
    (h₁.deliverReplay.ite h₁.deliver).next))))

theorem State.Canon.takeRx (h : s.Canon) {n g ok r} (e : s.takeRx n g ok = some r) : r.2.Canon := by
  unfold State.takeRx at e
  dsimp only at e
  split at e
  · split at e
    · cases e
      exact h.setGrp
    · cases e
  · cases e

theorem execCtrlTimeout_canonical (h : s.Canon) {n g} : Canonical (execCtrlTimeout n g s) := by
  unfold execCtrlTimeout
  dsimp only
  split
  · refine Canonical.ite ?_ h.next
    split
    · exact h.setGrp.fault.setPx.wr.set1.next.ite h.setGrp.fault.next
    · exact h.setGrp.fault.next
  · exact h.next

theorem execTrigLaunch_canonical (h : s.Canon) {n g phase} : Canonical (execTrigLaunch n g phase s) := by
  unfold execTrigLaunch
  dsimp only
  split
  · exact h.next
  · split
    · exact h.next
    · exact h.next.ite (h.set1.fault.ite h).sendCam.setPx.next

/-! ### Machine/StitchCore -/

theorem State.Canon.storeSeam (h : s.Canon) {k x} : (s.storeSeam k x).Canon :=
  h.frame.bind fun h₁ => h₁.frame.ite h₁

theorem State.Canon.unstage (h : s.Canon) {k} : (s.unstage k).Canon :=
  h.frame.wr.foldl (fun _ _ h₃ => h₃.storeSeam)

theorem State.Canon.seamArrive (h : s.Canon) {k l px} : (s.seamArrive k l px).Canon := by
  unfold State.seamArrive
  refine h.ite ?_
  split
  · exact h
  · exact (h.set1.ite h).bind fun h₁ => h₁.storeSeam.ite (h₁.frame.set1.fault.ite h₁.frame.wr)

theorem State.Canon.coverStitch (h : s.Canon) {a b low high cause detail} :
    (s.coverStitch a b low high cause detail).Canon :=
  h.foldl (fun _ _ h₁ => h₁.enqueueCov.occur)

theorem State.Canon.endRun (h : s.Canon) {r} : (s.endRun r).Canon :=
  h.coverStitch

theorem State.Canon.endRuns (h : s.Canon) : s.endRuns.Canon :=
  h.frame.foldl (fun _ _ h₁ => h₁.endRun)

theorem State.Canon.updRuns (h : s.Canon) {n bad} : (s.updRuns n bad).Canon :=
  (h.frame.foldl (fun _ _ h₂ => h₂.endRun)).foldl (fun _ _ h₃ => h₃.fault.ite h₃)

theorem State.Canon.flushNot (h : s.Canon) : s.flushNot.Canon := by
  unfold State.flushNot
  split
  · exact h
  · exact h.frame.coverStitch

theorem State.Canon.addNot {k a b} (h : s.Canon) : (State.addNot k a b s).Canon := by
  induction k generalizing s a with
  | zero => exact h
  | succ k ih =>
    unfold State.addNot
    refine h.ite ?_
    split
    · exact .ite (ih h.frame) (ih h.flushNot)
    · exact ih h.frame

theorem State.Canon.notFormedTo (h : s.Canon) {b} : (s.notFormedTo b).Canon :=
  h.ite (h.foldl (fun _ _ h₁ => h₁.addNot)).frame

/-! ### Machine/Pipe -/

theorem State.Canon.updCtx (h : s.Canon) {p x} : (s.updCtx p x).Canon :=
  h.wr.wr.wr.wr

theorem State.Canon.ctxCommit (h : s.Canon) {p x} : (s.ctxCommit p x).Canon :=
  h.setPx.updCtx.offerCommit

theorem State.Canon.ctxCancel (h : s.Canon) {p x} : (s.ctxCancel p x).Canon :=
  h.setPx.updCtx.offerCommit

theorem execCtxCommit_canonical (h : s.Canon) {p x} : Canonical (execCtxCommit p x s) :=
  h.ctxCommit.next

theorem execCtxCancel_canonical (h : s.Canon) {p x} : Canonical (execCtxCancel p x s) :=
  h.ctxCancel.next

theorem State.Canon.fetchTable (h : s.Canon) {base pixels} : (s.fetchTable base pixels).2.Canon := by
  unfold State.fetchTable
  split
  · exact h.pair
  · dsimp only
    split
    · exact h.dramTouch.pair
    · split
      · exact h.dramTouch.pair
      · exact h.dramTouch.pair

theorem execTableFetchDone_canonical (h : s.Canon) {p x} : Canonical (execTableFetchDone p x s) := by
  have hf := fun a n => h.fetchTable (base := a) (pixels := n)
  unfold execTableFetchDone
  obtain ⟨F, hF⟩ := exists_eq' (a' := State.fetchTable)
  rw [hF] at hf ⊢
  dsimp only
  split
  · exact h.next
  · split
    · exact (hf _ _).setPx.updCtx.next
    · exact (hf _ _).setPx.updCtx.offerCommit.set1.fault.recheck.next

theorem State.Canon.addLineStats (h : s.Canon) {p x w} : (s.addLineStats p x w).Canon := by
  unfold State.addLineStats
  dsimp only
  split
  · exact h
  · exact h.setPx

theorem State.Canon.arrive (h : s.Canon) {p x a} : (s.arrive p x a).Canon :=
  h.flushRun.setPx.bind fun h₂ => h₂.set1.bump.fault.lostLine.ite h₂.setPx.updCtx

theorem State.Canon.takeSamples (h : s.Canon) {p x t m expIdx smp clk} :
    (s.takeSamples p x t m expIdx smp clk).Canon :=
  h.setPx.bind fun h₁ => h₁.arrive.ite h₁

theorem State.Canon.expMismatch (h : s.Canon) {p x l got used} : (s.expMismatch p x l got used).Canon :=
  h.set1.fault

theorem State.Canon.linePacket (h : s.Canon) {p x pl clk} : (s.linePacket p x pl clk).Canon := by
  unfold State.linePacket
  refine h.ite (h.set1.fault.ite ((h.foldl (fun _ _ h₁ => h₁.lostLine)).bind fun h₁ => h₁.lostLine.ite ?_))
  split
  · exact h₁.lostLine
  · exact h₁.set1.lostLine.ite (h₁.expMismatch.ite h₁).takeSamples

theorem execLinePacketRx_canonical (h : s.Canon) {n g clk} : Canonical (execLinePacketRx n g clk s) := by
  unfold execLinePacketRx
  split
  · exact h.next
  · rename_i e
    split
    · exact (h.takeRx e).linePacket.next
    · exact (h.takeRx e).next

theorem execLineTimeout_canonical (h : s.Canon) {p x} : Canonical (execLineTimeout p x s) := by
  unfold execLineTimeout
  dsimp only
  split
  · exact h.next.ite h.lostLine.next
  · exact h.next

theorem execPipeLineStart_canonical (h : s.Canon) {p clk} : Canonical (execPipeLineStart p clk s) := by
  unfold execPipeLineStart
  refine h.next.ite ?_
  split
  · exact h.next
  · dsimp only
    split
    · exact h.setPx.updCtx.lostLine.next
    · exact h.setPx.updCtx.setPipe.next

theorem execPipeLineDone_canonical (h : s.Canon) {p clk} : Canonical (execPipeLineDone p clk s) := by
  unfold execPipeLineDone
  dsimp only
  split
  · exact h.next
  · exact h.next.ite h.addLineStats.setPipe.settle.closeStats.seamArrive.next

theorem State.Canon.mboxSend (h : s.Canon) {p x} : (s.mboxSend p x).Canon :=
  h.reject.ite (h.setPx.set1.bind fun h₂ => h₂.sendCtrl.ite h₂)

theorem execMboxSend_canonical (h : s.Canon) {p x} : Canonical (execMboxSend p x s) :=
  h.mboxSend.next

theorem State.Canon.mboxReply (h : s.Canon) {p x result data} : (s.mboxReply p x result data).Canon :=
  (h.setPx.foldl (fun _ _ h₂ => h₂.wr)).wr.wr.wr.set1

theorem execStatReplyRx_canonical (h : s.Canon) {n g} : Canonical (execStatReplyRx n g s) := by
  unfold execStatReplyRx
  dsimp only
  split
  · exact h.next
  · rename_i e
    split
    · exact ((h.takeRx e).setGrp.wr.ite (h.takeRx e).setGrp).mboxReply.next.ite
        ((h.takeRx e).setGrp.wr.ite (h.takeRx e).setGrp).next
    · exact ((h.takeRx e).setGrp.wr.ite (h.takeRx e).setGrp).next

theorem State.Canon.report (h : s.Canon) {p x op data} : (s.report p x op data).Canon :=
  h.wr.wr.fault

theorem execTrigErrorReport_canonical (h : s.Canon) {n g} : Canonical (execTrigErrorReport n g s) := by
  unfold execTrigErrorReport
  dsimp only
  split
  · exact h.next
  · rename_i e
    split
    · exact (h.takeRx e).next
    · refine (h.takeRx e).next.ite ?_
      split
      · exact (h.takeRx e).report.lostLine.next
      · exact (h.takeRx e).report.next

theorem execCamFaultReport_canonical (h : s.Canon) {n g} : Canonical (execCamFaultReport n g s) := by
  unfold execCamFaultReport
  split
  · exact h.next
  · rename_i e
    split
    · exact (h.takeRx e).next
    · exact (h.takeRx e).next.ite (h.takeRx e).report.next

theorem State.Canon.updPipeSpare (h : s.Canon) : s.updPipeSpare.Canon :=
  h.wr

theorem State.Canon.loseHeld (h : s.Canon) {p x reason} : (s.loseHeld p x reason).Canon :=
  h.setPipe.setPx.updCtx.foldl (fun _ _ h₃ => h₃.lostLine)

theorem State.Canon.pipeFail (h : s.Canon) {p} : (s.pipeFail p).Canon :=
  h.wr.bind fun h₁ => (h₁.setPipe.foldl (fun _ _ h₃ =>
    h₃.loseHeld)).recheck.ite (h₁.fault.foldl (fun _ _ h₃ => h₃.loseHeld.owedLost)).updPipeSpare.recheck

theorem execPipeSram_canonical (h : s.Canon) {p uncorrected bank off} :
    Canonical (execPipeSram p uncorrected bank off s) :=
  h.set1.fault.bind fun h₂ => h₂.next.ite (h₂.pipeFail.next.ite (h₂.next.ite h₂.wr.updPipeSpare.next))

theorem State.Canon.refetch (h : s.Canon) {x t'} : (s.refetch x t').2.Canon := by
  have hf := fun a n => h.fetchTable (base := a) (pixels := n)
  unfold State.refetch
  obtain ⟨F, hF⟩ := exists_eq' (a' := State.fetchTable)
  rw [hF] at hf ⊢
  dsimp only
  split
  · exact h
  · split
    · exact hf _ _
    · exact (hf _ _).set1.fault

/-- Forgetting registers keeps the stores canonical. -/
theorem State.Canon.filterRegs (h : s.Canon) {p : Nat × Word → Bool} : State.Canon { s with regs := s.regs.filter p } :=
  ⟨spWfFrom_filter p _ none h.regsWf, h.dramWf, h.quillWf⟩

theorem State.Canon.takeCtx (h : s.Canon) {p x} : (s.takeCtx p x).Canon :=
  (h.filterRegs.foldl fun _ _ h => h.setReg).refetch.refetch.setPx.frame.setPx.updCtx

theorem execPipeSpared_canonical (h : s.Canon) {p} : Canonical (execPipeSpared p s) := by
  unfold execPipeSpared
  dsimp only
  split
  · exact h.next
  · exact (h.setPipe.wr.set1.wr.wr.foldl (fun _ _ h₄ => h₄.takeCtx)).updPipeSpare.fault.recheck.next

theorem State.Canon.pipeCtrl (h : s.Canon) {p en port} : (s.pipeCtrl p en port).Canon :=
  h.reject.ite (h.wr.wr.bind fun h₁ => (h₁.pipeFail.ite h₁.recheck).ite h₁.wr.recheck)

theorem execPipeCtrlWrite_canonical (h : s.Canon) {p en port} : Canonical (execPipeCtrlWrite p en port s) :=
  h.pipeCtrl.next

theorem execSpareSelfTest_canonical (h : s.Canon) {quill pass} :
    Canonical (execSpareSelfTest quill pass s) := by
  unfold execSpareSelfTest
  split
  · exact h.wr.updPipeSpare.next.ite h.next
  · exact h.wr.wr.next.ite h.next

theorem State.Canon.pipeReset (h : s.Canon) {p cover} : (s.pipeReset p cover).Canon :=
  (h.foldl (fun _ _ h₁ => (h₁.setPipe.setPx.foldl (fun _ _ h₄ =>
    h₄.lostLine)).flushRun.setPx.withdraw)).setPipe.resetRegs

/-! ### Machine/Fine -/

theorem State.Canon.seedCols (h : s.Canon) : s.seedCols.Canon :=
  h.frame

theorem State.Canon.updateCols (h : s.Canon) {f} : (s.updateCols f).Canon :=
  (h.seedCols.ite h).bind fun h₁ => h₁.frame.ite h₁.frame

theorem State.Canon.takeSeed (h : s.Canon) {n} : (s.takeSeed n).2.Canon := by
  unfold State.takeSeed
  split
  · exact h.frame.wrS.pair
  · exact h.pair

theorem State.Canon.seedOnSet (h : s.Canon) {l} : (s.seedOnSet l).Canon :=
  h.frame.ite h

theorem State.Canon.seedWrite (h : s.Canon) : s.seedWrite.Canon :=
  h.frame

theorem execSeed_canonical (h : s.Canon) : Canonical (execSeed s) :=
  h.seedWrite.next

theorem execColumnSram_canonical (h : s.Canon) {uncorrected column} :
    Canonical (execColumnSram uncorrected column s) :=
  h.set1.fault.bind fun h₂ => h₂.frame.next.ite h₂.next

theorem State.Canon.snapSegments {k f} (h : s.Canon) : (State.snapSegments k f s).Canon := by
  induction k generalizing s with
  | zero => exact h
  | succ k ih =>
    unfold State.snapSegments
    split
    · exact h
    · exact h.ite (h.dramPut.frame.wr.occur.ite (ih h.dramPut.frame))

theorem State.Canon.snapLine (h : s.Canon) {f} : (s.snapLine f).Canon :=
  (h.ite (h.bump.set1.fault.ite h.dramPut.frame)).snapSegments

theorem State.Canon.streakReport (h : s.Canon) {r nib l} : (s.streakReport r nib l).Canon :=
  h.set1.fault.ite h.frame.wr

theorem State.Canon.nozzleX (h : s.Canon) {c} : (s.nozzleX c).2.Canon := by
  unfold State.nozzleX
  dsimp only
  split
  · exact h.free
  · exact h.pair

/-- The attribution unit (R165): of the candidates the nearest, if there is one. -/
theorem State.Canon.attribution (h : s.Canon) {x ink a₀} {a : Cand → AttrAns} :
    (match minBy (fun (c : Cand) => (c.r.natAbs : Int)) (if s.on FINE_CTRL_ATTR_EN then s.cands x ink else []) with
      | none => (a₀, s)
      | some c => (a c, (s.nozzleX c).2)).2.Canon := by
  split
  · exact h.pair
  · exact h.nozzleX.pair

theorem execAttrRequest_canonical (h : s.Canon) {clk} : Canonical (execAttrRequest clk s) := by
  unfold execAttrRequest
  refine h.next.ite ?_
  dsimp only
  split
  · exact h.frame.attribution.bump.frame.next
  · exact h.frame.wr.attribution.bump.frame.next
  · exact h.next

theorem State.Canon.writeNozzle (h : s.Canon) {r a} : (s.writeNozzle r a).Canon :=
  h.ite (h.bump.set1.fault.ite h.dramPut.frame.wr.occur)

theorem State.Canon.fineReject (h : s.Canon) {off v} : (s.fineReject off v).Canon :=
  h.reject

theorem State.Canon.attrSwap (h : s.Canon) : s.attrSwap.Canon :=
  h.fineReject.ite (h.filterRegs.foldl fun _ _ h => h.setReg).frame.wr

theorem execAttrSwap_canonical (h : s.Canon) : Canonical (execAttrSwap s) :=
  h.attrSwap.next

theorem execAttrCopy_canonical (h : s.Canon) : Canonical (execAttrCopy s) :=
  h.set1.next

theorem execAttrCopyDone_canonical (h : s.Canon) : Canonical (execAttrCopyDone s) :=
  (h.filterRegs.foldl fun _ _ h => h.setReg).wr.next.ite h.next

theorem State.Canon.imgWrite (h : s.Canon) {f taken} : (s.imgWrite f taken).Canon :=
  (h.dramPut.dramPut.wrS.bind fun h₃ => (h₃.bump.frameDram.bind fun h₅ => h₅.ite h₅.fault).ite h₃.frameDram).ite h

/-! ### Machine/QuillBase -/

theorem mem_spErase {α : Type} {m : Sparse α} {i : Nat} {e : Nat × α} (h : e ∈ spErase m i) : e ∈ m := by
  induction m with
  | nil => exact h
  | cons x m ih =>
    simp only [spErase] at h
    split at h
    · exact List.mem_cons_of_mem _ (ih h)
    · rcases List.mem_cons.1 h with rfl | h
      · exact List.mem_cons_self
      · exact List.mem_cons_of_mem _ (ih h)

theorem mem_spInsert {α : Type} {m : Sparse α} {i : Nat} {v : α} {e : Nat × α} (h : e ∈ spInsert m i v) :
    e = (i, v) ∨ e ∈ m := by
  induction m with
  | nil => exact .inl (List.mem_singleton.1 h)
  | cons x m ih =>
    simp only [spInsert] at h
    split at h
    · exact List.mem_cons.1 h
    · split at h
      · exact (List.mem_cons.1 h).imp_right (List.mem_cons_of_mem _)
      · rcases List.mem_cons.1 h with rfl | h
        · exact .inr List.mem_cons_self
        · exact (ih h).imp_right (List.mem_cons_of_mem _)

/-- What a store lists after a write of a key: the new entry, or what it listed before. -/
theorem mem_spSet {α : Type} [DecidableEq α] {d : Nat → α} {m : Sparse α} {i : Nat} {v : α} {e : Nat × α}
    (h : e ∈ spSet d m i v) : e = (i, v) ∨ e ∈ m := by
  unfold spSet at h
  split at h
  · exact .inr (mem_spErase h)
  · exact mem_spInsert h

theorem spFind_mem {α : Type} {m : Sparse α} {i : Nat} {v : α} (h : spFind m i = some v) : (i, v) ∈ m := by
  induction m with
  | nil => cases h
  | cons e m ih =>
    simp only [spFind] at h
    split at h
    · rename_i hk
      cases h
      exact hk ▸ List.mem_cons_self
    · exact List.mem_cons_of_mem _ (ih h)

theorem State.Canon.quillAtWf (h : s.Canon) (q : Nat) : Memory.wf (s.quillAt q).mem = true := by
  unfold State.quillAt spGet
  cases hq : spFind s.quill q with
  | none => rfl
  | some u => exact h.quillWf _ (spFind_mem hq)

/-- A quill whose memory is canonical may stand for any other. -/
theorem State.Canon.putQuill (h : s.Canon) {q x} (hx : Memory.wf x.mem = true) : (s.setQuill q x).Canon := by
  refine ⟨h.regsWf, h.dramWf, fun e he => ?_⟩
  rcases mem_spSet (show e ∈ spSet (fun _ => {}) s.quill q x from he) with rfl | he
  · exact hx
  · exact h.quillWf e he

/-- An update of a quill beside its memory. -/
theorem State.Canon.setQuill (h : s.Canon) {q stores fq fqNext nibs jobs hand} :
    (s.setQuill q ⟨(s.quillAt q).mem, stores, fq, fqNext, nibs, jobs, hand⟩).Canon := h.putQuill (h.quillAtWf q)

theorem State.Canon.setNib (h : s.Canon) {q t n} : (s.setNib q t n).Canon :=
  h.setQuill

theorem State.Canon.setJob (h : s.Canon) {q j x} : (s.setJob q j x).Canon :=
  h.setQuill

theorem State.Canon.quillReject (h : s.Canon) {q off v} : (s.quillReject q off v).Canon :=
  h.reject

theorem State.Canon.setSlotState (h : s.Canon) {q t v} : (s.setSlotState q t v).Canon :=
  h.wr

theorem State.Canon.updPitch (h : s.Canon) {q j} : (s.updPitch q j).Canon :=
  h.foldl (fun _ _ h₁ => h₁.wr)

theorem State.Canon.updRetired (h : s.Canon) {q j} : (s.updRetired q j).Canon := by
  unfold State.updRetired
  dsimp only
  split
  · exact h.wrS
  · exact h

theorem State.Canon.coverNib (h : s.Canon) {q j l a b detail x w} : (s.coverNib q j l a b detail x w).Canon :=
  h.foldl (fun _ _ h₁ => h₁.cover.ite h₁.cover)

theorem State.Canon.endLost (h : s.Canon) {q t} : (s.endLost q t).Canon := by
  unfold State.endLost
  dsimp only
  split
  · exact h.setNib.coverNib
  · exact h

theorem State.Canon.retireBehalf (h : s.Canon) {q j t n cover} : (s.retireBehalf q j t n cover).Canon := by
  unfold State.retireBehalf
  refine h.ite ?_
  dsimp only
  split
  · exact h.bump.setNib.endLost.ite h.bump.setNib
  · exact h.bump.setNib

theorem State.Canon.quillLine (h : s.Canon) {coarse n} : (s.quillLine coarse n).Canon :=
  h.foldl (fun _ _ h₁ => h₁.foldl (fun _ _ h₂ => (h₂.foldl (fun _ _ h₃ =>
    (h₃.retireBehalf.ite h₃).endLost.setNib.ite (h₃.retireBehalf.ite h₃))).updRetired.ite h₂))

theorem State.Canon.jobStarts (h : s.Canon) {coarse n} : (s.jobStarts coarse n).Canon :=
  h.foldl (fun _ _ h₁ => h₁.foldl (fun _ _ h₂ => (h₂.setJob.bind fun h₃ => (h₃.setJob.wrS.bind fun h₅ =>
    (h₅.coverNib.ite h₅).foldl (fun _ _ h₇ => h₇.setNib)).ite h₃).ite h₂))

theorem State.Canon.quillHalt (h : s.Canon) {fine coarse} : (s.quillHalt fine coarse).2.Canon := by
  unfold State.quillHalt
  refine h.pair.foldlSnd (fun _ _ h₁ => h₁.foldlSnd (fun _ _ h₂ => ?_))
  dsimp only
  split
  · split
    · exact (h₂.foldl (fun _ _ h₃ => h₃.retireBehalf)).updRetired.pair
    · exact h₂
  · exact h₂

/-! ### Machine/Profile -/

theorem State.Canon.setPch (h : s.Canon) {c x} : (s.setPch c x).Canon :=
  h.frame

theorem State.Canon.profReject (h : s.Canon) {off v} : (s.profReject off v).Canon :=
  h.reject

theorem State.Canon.detClose (h : s.Canon) {c} : (s.detClose c).Canon :=
  h.setPch.bind fun h₁ => h₁.wr.wr.wr.wr.wr.ite h₁.wrS.wrS.wr.wr.wr

theorem State.Canon.testLimits (h : s.Canon) {c x} : (s.testLimits c x).Canon :=
  h.setPch.bind fun h₁ => (h₁.set1.ite h₁).bind fun h₂ => (h₂.set1.ite h₂).bind fun h₃ => h₃.occur.ite h₃

theorem State.Canon.profRecord (h : s.Canon) {c flags idx v pos} : (s.profRecord c flags idx v pos).Canon :=
  h.ite ((h.bump.set1.bind fun h₁ => h₁.ite h₁.fault).ite h.dramPut.wr)

theorem State.Canon.profOutput (h : s.Canon) {c v pos} : (s.profOutput c v pos).Canon :=
  h.setPch.bind fun h₁ => (h₁.ite (h₁.setPch.testLimits.bind fun h₃ =>
    h₃.detClose.ite h₃)).wrS.wrS.wr.wr.profRecord

theorem State.Canon.profSat (h : s.Canon) {c stage} : (s.profSat c stage).Canon :=
  h.setPch.bind fun h₁ => h₁.ite h₁.set1.fault

theorem State.Canon.profInput {k c x pos} (h : s.Canon) : (State.profInput k c x pos s).Canon := by
  induction k generalizing s c x pos with
  | zero => exact h
  | succ k ih =>
    unfold State.profInput
    have hs : ((s.chain1 c x).2.2.foldl (fun s st => s.profSat c st)
        (s.setPch c { (s.chain1 c x).1 with prevIn := x })).Canon := h.setPch.foldl fun _ _ h => h.profSat
    dsimp only
    split
    · exact hs
    · exact hs.profOutput.foldl fun _ _ h => .ite (ih h) h

theorem State.Canon.profLine (h : s.Canon) {src line px} : (s.profLine src line px).Canon := by
  unfold State.profLine
  refine h.foldl (fun _ _ h₁ => h₁.ite ?_)
  split
  · exact h₁.profInput
  · exact h₁.set1.bump.bind fun h₂ => (h₂.ite h₂.fault).setPch.profInput

theorem State.Canon.profEnable (h : s.Canon) {c} : (s.profEnable c).Canon := by
  unfold State.profEnable
  refine h.ite ?_
  split
  · exact h.set1.wr.fault
  · exact h.set1.set1.wr.wr.wr.wr.setPch

theorem State.Canon.profDisable (h : s.Canon) {c} : (s.profDisable c).Canon :=
  h.wr.wr

theorem execProfileEnable_canonical (h : s.Canon) {c} : Canonical (execProfileEnable c s) :=
  h.profEnable.next

theorem State.Canon.profSync (h : s.Canon) {g line} : (s.profSync g line).Canon :=
  h.ite (h.frame.foldl (fun _ _ h₂ => h₂.setPch.wr.wr.ite h₂)).bump.occur

theorem State.Canon.profSyncMask (h : s.Canon) {groups} : (s.profSyncMask groups).Canon :=
  h.foldl (fun _ _ h₁ => h₁.profSync.ite h₁)

theorem execProfileSync_canonical (h : s.Canon) {groups} : Canonical (execProfileSync groups s) :=
  h.profSyncMask.next

theorem State.Canon.profSyncAt (h : s.Canon) {g at64} : (s.profSyncAt g at64).Canon :=
  h.offer'

theorem execProfileSyncAt_canonical (h : s.Canon) {g at64} : Canonical (execProfileSyncAt g at64 s) :=
  h.profSyncAt.next

theorem execProfileSyncAction_canonical (h : s.Canon) : Canonical (execProfileSyncAction s) := by
  unfold execProfileSyncAction
  split
  · rename_i e
    split
    · exact (h.takeDue e).profSync.next
    · exact (h.takeDue e).next
  · exact h.next

theorem execDetLatch_canonical (h : s.Canon) {c} : Canonical (execDetLatch c s) :=
  h.detClose.next

theorem State.Canon.sensorStart (h : s.Canon) : s.sensorStart.Canon := by
  unfold State.sensorStart
  split
  · exact h.ite (h.bump.set1.bind fun h₁ => h₁.ite h₁.fault)
  · exact h.frame.set1

theorem State.Canon.sensorEvent (h : s.Canon) : s.sensorEvent.Canon :=
  h.sensorStart.ite h

theorem State.Canon.sensorTimer (h : s.Canon) : s.sensorTimer.Canon := by
  unfold State.sensorTimer
  dsimp only
  split
  · exact h.frame.sensorStart.ite h
  · exact h

theorem execSensorStart_canonical (h : s.Canon) {byEvent} : Canonical (execSensorStart byEvent s) :=
  (h.sensorEvent.ite h.sensorTimer).next

theorem State.Canon.sensorEn (h : s.Canon) {en} : (s.sensorEn en).Canon :=
  h.frame.set1.ite h.wr

theorem execSensorTransferDone_canonical (h : s.Canon) {raw} : Canonical (execSensorTransferDone raw s) := by
  unfold execSensorTransferDone
  split
  · exact h.next
  · exact h.next.ite (h.frame.wr.wr.wrS.bump.foldl (fun _ _ h₃ => (h₃.wrS.foldl (fun _ _ h₅ =>
      h₅.profInput.ite h₅)).ite h₃)).next

/-! ### Machine/Stitch -/

theorem State.Canon.stitchReject (h : s.Canon) {off v} : (s.stitchReject off v).Canon :=
  h.reject

theorem State.Canon.stitchEnable (h : s.Canon) : s.stitchEnable.Canon := by
  unfold State.stitchEnable
  refine h.ite ?_
  split
  · exact h.set1.wr.wr.fault
  · exact h.set1.frame

theorem State.Canon.stitchDisable (h : s.Canon) : s.stitchDisable.Canon :=
  h.endRuns.frame.wr.wr

theorem execStitchEnable_canonical (h : s.Canon) : Canonical (execStitchEnable s) :=
  h.stitchEnable.next

theorem State.Canon.updStitch (h : s.Canon) : s.updStitch.Canon :=
  h.wr.wr

theorem State.Canon.stitchCommit (h : s.Canon) {cancel} : (s.stitchCommit cancel).Canon :=
  h.frame.updStitch.offerCommit

theorem execStitchCommit_canonical (h : s.Canon) {cancel} : Canonical (execStitchCommit cancel s) :=
  h.stitchCommit.next

theorem State.Canon.stitchApplied (h : s.Canon) {t} : (s.stitchApplied t).Canon :=
  (h.foldl (fun _ _ h₁ => h₁.wrS.wrS.bind fun h₂ => h₂.set1.fault.ite h₂)).seedOnSet

theorem State.Canon.addKerf (h : s.Canon) {c} : (s.addKerf c).Canon := by
  unfold State.addKerf
  split
  · split
    · exact h.frame
    · exact h
  · exact h

theorem State.Canon.closeKerfs (h : s.Canon) {frame} : (s.closeKerfs frame).Canon :=
  (h.foldl (fun _ _ h₁ => h₁.ite h₁.wr.wr.wr.wr.wr.wr)).frame.occur

theorem State.Canon.kerfFrameStep (h : s.Canon) {f} : (s.kerfFrameStep f).Canon := by
  unfold State.kerfFrameStep
  refine State.Canon.bind ?_ fun h₁ => h₁.frame
  split
  · exact h.ite h.closeKerfs
  · exact h

theorem State.Canon.recordForced (h : s.Canon) {n} : (s.recordForced n).Canon := by
  unfold State.recordForced
  refine h.bump.foldl (fun _ _ h₁ => ?_)
  split
  · exact h₁.set1.fault
  · exact h₁

theorem State.Canon.formLine (h : s.Canon) {t n forced clk} : (s.formLine t n forced clk).Canon :=
  (h.notFormedTo.flushNot.ite h).bind fun h₁ => (h₁.ite h₁.endRuns).updRuns.bind fun h₃ =>
    ((h₃.bump.ite h₃).kerfFrameStep.foldl (fun _ _ h₆ =>
    h₆.addKerf)).takeSeed.frame.set1.jobStarts.bind fun h₁₀ => (h₁₀.jobStarts.ite h₁₀).foldl (fun _ _ h₁₂ =>
    h₁₂.unstage)

theorem execStitchLineStart_canonical (h : s.Canon) {clk} : Canonical (execStitchLineStart clk s) := by
  unfold execStitchLineStart
  refine h.next.ite ?_
  split
  · exact h.next
  · refine Canonical.ite ?_ h.next
    split
    · exact h.notFormedTo.next
    · exact (h.recordForced.ite h).formLine.next

theorem State.Canon.planeLine (h : s.Canon) {f out} : (s.planeLine f out).Canon :=
  h.updateCols.snapLine.profLine.frame.quillLine.bind fun h₅ => h₅.frame.ite h₅

theorem execStitchLineDone_canonical (h : s.Canon) {clk taken} :
    Canonical (execStitchLineDone clk taken s) := by
  unfold execStitchLineDone
  split
  · exact h.next
  · exact h.next.ite (h.frame.wrS.bind fun h₂ => (h₂.occur.ite h₂).imgWrite.planeLine.next)

theorem execCoarseLineOut_canonical (h : s.Canon) {clk} : Canonical (execCoarseLineOut clk s) := by
  unfold execCoarseLineOut
  split
  · exact h.next
  · exact h.next.ite h.frame.quillLine.profLine.next

theorem execNotFormed_canonical (h : s.Canon) : Canonical (execNotFormed s) :=
  h.next.ite h.notFormedTo.next

theorem execSeamSram_canonical (h : s.Canon) {uncorrected cam line u n addr} :
    Canonical (execSeamSram uncorrected cam line u n addr s) :=
  h.set1.fault.bind fun h₂ => h₂.frame.next.ite h₂.next

theorem State.Canon.stitchReset (h : s.Canon) {cover} : (s.stitchReset cover).Canon :=
  (h.endRuns.flushNot.ite h).frame.withdraw.resetRegs

/-! ### Machine/Master -/

theorem State.Canon.masReject (h : s.Canon) {off v} : (s.masReject off v).Canon :=
  h.reject

theorem State.Canon.updMaster (h : s.Canon) : s.updMaster.Canon :=
  h.wr.wr.wr.wr

theorem State.Canon.masterCommit (h : s.Canon) {cancel} : (s.masterCommit cancel).Canon :=
  h.frame.updMaster.offerCommit

theorem execMasterCommit_canonical (h : s.Canon) {cancel} : Canonical (execMasterCommit cancel s) :=
  h.masterCommit.next

theorem execPredFetchDone_canonical (h : s.Canon) : Canonical (execPredFetchDone s) := by
  unfold execPredFetchDone
  dsimp only
  split
  · exact h.next
  · refine h.frame.updMaster.offerCommit.fault.next.ite ?_
    split
    · exact h.dramTouch.frame.updMaster.offerCommit.fault.next
    · exact h.dramTouch.frame.updMaster.next

theorem State.Canon.endMasterRuns (h : s.Canon) : s.endMasterRuns.Canon :=
  h.frame.foldl (fun _ _ h₁ => h₁.enqueueCov)

theorem State.Canon.masterEn (h : s.Canon) {en} : (s.masterEn en).Canon :=
  h.ite (h.frame.set1.ite h.endMasterRuns.wr)

theorem execMasterEnable_canonical (h : s.Canon) {en} : Canonical (execMasterEnable en s) :=
  h.masterEn.next

theorem State.Canon.setPage (h : s.Canon) {p} : (s.setPage p).Canon :=
  h.frame

theorem State.Canon.checkTrunc {ps} (h : s.Canon) : (State.checkTrunc ps s).Canon := by
  induction ps with
  | nil => exact h
  | cons p ps ih =>
    cases ps with
    | nil => exact h
    | cons q rest =>
      unfold State.checkTrunc
      dsimp only
      split
      · exact ih.setPage.set1.fault.ite ih
      · exact ih

theorem State.Canon.ledgerWr (h : s.Canon) {v} : (s.ledgerWr v).Canon :=
  h.masReject.ite h.wr

theorem execLedgerWrWrite_canonical (h : s.Canon) {v} : Canonical (execLedgerWrWrite v s) :=
  h.ledgerWr.next

theorem State.Canon.queuePage (h : s.Canon) {p} : (s.queuePage p).Canon := by
  unfold State.queuePage
  refine State.Canon.bind ?_ fun h₂ => (h₂.offer'.ite h₂).checkTrunc.updMaster
  split
  · exact h.frame.set1.fault
  · exact h.frame

theorem execLedgerConsume_canonical (h : s.Canon) : Canonical (execLedgerConsume s) :=
  h.next.ite (h.dramRead.wr.bind fun h₂ => h₂.set1.fault.next.ite h₂.queuePage.next)

theorem State.Canon.placePage (h : s.Canon) {p at16} : (s.placePage p at16).Canon := by
  unfold State.placePage
  refine State.Canon.bind ?_ fun h₂ => h₂.checkTrunc
  split
  · exact h.setPage.frame.wrS.ite h.setPage
  · exact h.setPage

theorem execPlacementFinal_canonical (h : s.Canon) : Canonical (execPlacementFinal s) := by
  unfold execPlacementFinal
  split
  · exact h.next
  · refine h.next.ite ?_
    split
    · exact (h.wrS.placePage.ite h.wrS.placePage).bind fun h₁ => h₁.set1.fault.next.ite h₁.next
    · exact h.placePage.set1.fault.next

theorem execDescriptorRead_canonical (h : s.Canon) : Canonical (execDescriptorRead s) := by
  unfold execDescriptorRead
  split
  · refine h.next.ite (h.dramRead.bind fun h₁ => (h₁.setPage.fault.next.ite h₁.next).ite ?_)
    dsimp only
    split
    · exact h₁.dramRead.setPage.fault.next
    · exact h₁.dramRead.setPage.checkTrunc.next
  · exact h.next

theorem State.Canon.masterRecord (h : s.Canon) {field build} : (s.masterRecord field build).Canon :=
  h.ite (h.bump.set1.fault.ite (h.dramPut.wr.bind fun h₂ => (h₂.frame.ite h₂.frame).occur))

theorem State.Canon.meanOr (h : s.Canon) {num den} : (s.meanOr num den).2.Canon := by
  unfold State.meanOr
  split
  · exact h.free.pair
  · exact h.pair

theorem State.Canon.fieldSummary (h : s.Canon) {row reset} : (s.fieldSummary row reset).Canon := by
  unfold State.fieldSummary
  exact h.meanOr.meanOr.meanOr.masterRecord

theorem State.Canon.pushRow (h : s.Canon) {row} : (s.pushRow row).Canon :=
  h.frame.wrS

theorem execTileRowEstimate_canonical (h : s.Canon) : Canonical (execTileRowEstimate s) := by
  unfold execTileRowEstimate
  split
  · refine h.next.ite ?_
    extract_lets n zero reset prior
    split
    · exact h.pushRow.next
    · refine h.pushRow.next.ite ?_
      extract_lets ms fs range row s₁ s₂ s₃ s₄ s₅
      have h₂ : s₂.Canon := h.bump.bump
      have h₃ : s₃.Canon := by
        unfold s₃
        split
        · exact h₂.set1.fault
        · exact h₂
      clear_value s₃
      have h₄ : s₄.Canon := by
        unfold s₄
        split
        · exact h₃.set1.fault
        · exact h₃
      exact (h₄.pushRow.fieldSummary.ite h₄.pushRow).next
  · exact h.next

theorem State.Canon.updMasterRuns (h : s.Canon) {v px} : (s.updMasterRuns v px).Canon :=
  h.frame.endMasterRuns.frame.bind fun h₂ => h₂.ite h₂.bump

theorem State.Canon.regRecord (h : s.Canon) {p d i w} : (s.regRecord p d i w).Canon := by
  unfold State.regRecord
  dsimp only
  split
  · exact h
  · refine State.Canon.bind ?_ fun h₁ => h₁.masterRecord
    split
    · exact h.free
    · exact h.pair

theorem State.Canon.regWindows (h : s.Canon) {v} : (s.regWindows v).Canon := by
  unfold State.regWindows
  refine h.ite (h.foldl (fun _ _ h₁ => ?_))
  split
  · exact h₁.foldl (fun _ _ h₂ => h₂.regRecord.ite h₂)
  · exact h₁

theorem State.Canon.writeGolden (h : s.Canon) {v0 lo hi w} : (s.writeGolden v0 lo hi w).Canon :=
  h.foldl (fun _ _ h₁ => h₁.dramPut)

theorem State.Canon.goldenReady (h : s.Canon) : s.goldenReady.Canon :=
  h.ite (h.set1.occur.ite h)

theorem State.Canon.goldenMerge (h : s.Canon) {v} : (s.goldenMerge v).Canon := by
  unfold State.goldenMerge
  split
  · exact h
  · exact h.ite ((h.writeGolden.frame.goldenReady.ite (h.writeGolden.frame.goldenReady.ite h.bump)).ite
      (h.writeGolden.ite h))

theorem State.Canon.assertReady (h : s.Canon) : s.assertReady.Canon :=
  h.frame.set1

theorem execAssertReady_canonical (h : s.Canon) : Canonical (execAssertReady s) :=
  h.assertReady.next

theorem State.Canon.relearn (h : s.Canon) : s.relearn.Canon :=
  h.frame.wr

theorem execRelearn_canonical (h : s.Canon) : Canonical (execRelearn s) :=
  h.relearn.next

theorem State.Canon.noteShort (h : s.Canon) {v} : (s.noteShort v).Canon := by
  unfold State.noteShort
  split
  · exact h.frame.fault.ite h
  · exact h

theorem State.Canon.pageSteps (h : s.Canon) {v} : (s.pageSteps v).Canon :=
  ((h.foldl (fun _ _ h₁ => h₁.setPage.bump.occur.ite h₁)).foldl (fun _ _ h₂ =>
    h₂.frame)).frame.updMaster.bind fun h₄ => h₄.occur.ite h₄

theorem State.Canon.showPage (h : s.Canon) {v} : (s.showPage v).Canon := by
  unfold State.showPage
  dsimp only
  split
  · exact h.wr.wrS
  · exact h.wr

theorem State.Canon.touchRows (h : s.Canon) {v} : (s.touchRows v).Canon := by
  unfold State.touchRows
  refine State.Canon.ite ?_ (h.foldl (fun _ _ h₁ => ?_))
  · split
    · exact h.dramTouch.ite h
    · exact h
  · split
    · exact h₁.dramTouch.ite h₁
    · exact h₁

theorem State.Canon.updLag (h : s.Canon) {v} : (s.updLag v).Canon := by
  unfold State.updLag
  split
  · exact h.wr
  · exact h

theorem execDifferenceLine_canonical (h : s.Canon) : Canonical (execDifferenceLine s) := by
  unfold execDifferenceLine
  split
  · refine h.next.ite (h.endMasterRuns.frame.updLag.next.ite (State.Canon.bind ?_ fun h₃ =>
      (h₃.updMasterRuns.ite h₃.endMasterRuns).noteShort.regWindows.bind fun h₆ =>
      (h₆.goldenMerge.ite h₆).showPage.pageSteps.frame.updLag.next))
    split
    · exact h.touchRows.frame.fault
    · exact h.touchRows.frame
  · exact h.next

theorem execPredSram_canonical (h : s.Canon) {uncorrected node} :
    Canonical (execPredSram uncorrected node s) :=
  h.frame.fault.next.ite h.set1.next

theorem State.Canon.masterReset (h : s.Canon) : s.masterReset.Canon :=
  h.frame.withdraw.resetRegs

/-! ### Machine/Scaler -/

theorem State.Canon.scalerReject (h : s.Canon) {off v} : (s.scalerReject off v).Canon :=
  h.reject

theorem State.Canon.setScal (h : s.Canon) {f} : (s.setScal f).Canon :=
  h.frame

theorem State.Canon.setSeg (h : s.Canon) {pl n} : (s.setSeg pl n).Canon :=
  h.setScal

theorem State.Canon.armVerdict (h : s.Canon) : s.armVerdict.Canon :=
  h.withdraw.bind fun h₁ => h₁.offer'.ite h₁

theorem State.Canon.updVerdict (h : s.Canon) : s.updVerdict.Canon :=
  h.ite h.wrS.armVerdict

theorem State.Canon.updOpen (h : s.Canon) : s.updOpen.Canon :=
  h.wr.wr

theorem State.Canon.setFq (h : s.Canon) {q i x} : (s.setFq q i x).Canon :=
  h.setQuill.wr.wr

theorem State.Canon.finishDraft (h : s.Canon) {d} : (s.finishDraft d).Canon :=
  (h.occur.ite h).enterTally.updVerdict

theorem State.Canon.classFailed (h : s.Canon) {d} : (s.classFailed d).Canon :=
  h.set1.setScal.bind fun h₁ => (h₁.fault.ite h₁).finishDraft

theorem State.Canon.endFqRun (h : s.Canon) : s.endFqRun.Canon := by
  unfold State.endFqRun
  split
  · exact h.setScal.fault
  · exact h

theorem State.Canon.classify (h : s.Canon) {d} : (s.classify d).Canon := by
  unfold State.classify
  refine h.finishDraft.ite ?_
  dsimp only
  split
  · exact h.set1.setScal.classFailed
  · exact h.endFqRun.setQuill.setFq.setScal

theorem State.Canon.startDraft (h : s.Canon) {t r hold} : (s.startDraft t r hold).Canon :=
  h.setScal.bind fun h₁ => h₁.frame.setScal.ite h₁.classify

theorem State.Canon.takeDraft (h : s.Canon) {id r} (e : s.takeDraft id = some r) : r.2.Canon := by
  unfold State.takeDraft at e
  split at e
  · cases e
    exact h.setScal.pair
  · cases e

theorem execAttrResult_canonical (h : s.Canon) {clk} : Canonical (execAttrResult clk s) := by
  unfold execAttrResult
  split
  · exact h.next
  · refine h.next.ite ?_
    dsimp only
    split
    · exact (h.frame.writeNozzle.ite h.frame).next
    · split
      · rename_i e
        exact (h.frame.takeDraft e).classify.next
      · exact h.frame.next

theorem State.Canon.freeFq (h : s.Canon) {q i} : (s.freeFq q i).Canon :=
  h.setFq

theorem execClassTimeout_canonical (h : s.Canon) : Canonical (execClassTimeout s) := by
  unfold execClassTimeout
  dsimp only
  split
  · exact h.next
  · split
    · rename_i e
      exact ((h.takeDraft e).freeFq.ite (h.takeDraft e)).classFailed.next
    · exact h.next

theorem State.Canon.sendPartial (h : s.Canon) {t r hot label hold} :
    (s.sendPartial t r hot label hold).Canon :=
  h.sendRecord.ite (h.fault.bind fun h₁ => h₁.startDraft.ite h₁.bump)

theorem State.Canon.leaveRight (h : s.Canon) {t e} : (s.leaveRight t e).Canon :=
  h.sendPartial.ite (h.startDraft.ite h.bump)

theorem State.Canon.emitUnion (h : s.Canon) {t pl u} : (s.emitUnion t pl u).Canon := by
  unfold State.emitUnion
  dsimp only
  split
  · exact h.setScal
  · exact h.setScal.leaveRight

theorem State.Canon.resolvePlane {pl k} (h : s.Canon) : (s.resolvePlane pl k).Canon := by
  induction k generalizing s with
  | zero => exact h
  | succ k ih =>
    unfold State.resolvePlane
    dsimp only
    split
    · exact h
    · split
      · exact ih h.emitUnion
      · exact h

theorem State.Canon.pruneRows (h : s.Canon) : s.pruneRows.Canon := by
  unfold State.pruneRows
  exact h.setScal

theorem State.Canon.resolveEdges (h : s.Canon) : s.resolveEdges.Canon :=
  h.resolvePlane.resolvePlane.pruneRows

theorem State.Canon.endComp (h : s.Canon) {c flags} : (s.endComp c flags).Canon := by
  unfold State.endComp
  split
  · exact h.bump
  · exact h.setScal.ite h.leaveRight

theorem State.Canon.closeComps (h : s.Canon) {p} : (s.closeComps p).Canon :=
  h.setScal.foldl (fun _ _ h₂ => h₂.endComp)

theorem State.Canon.splitComp (h : s.Canon) {c n} : (s.splitComp c n).2.Canon := by
  unfold State.splitComp
  split
  · exact h.pair
  · exact h.endComp.pair

theorem State.Canon.noteFull (h : s.Canon) {pl n a b} : (s.noteFull pl n a b).Canon := by
  unfold State.noteFull
  split
  · exact h.setScal
  · exact h.set1.fault.setScal

theorem State.Canon.endFull (h : s.Canon) {pl n} : (s.endFull pl n).Canon := by
  unfold State.endFull
  split
  · exact h.setScal.cover.ite h
  · exact h

theorem State.Canon.joinRun (h : s.Canon) {t pl n px r} : (s.joinRun t pl n px r).Canon := by
  unfold State.joinRun
  dsimp only
  split
  · exact (h.pair.foldlSnd (fun _ _ h₁ => h₁.splitComp.pair)).noteFull.ite (h.pair.foldlSnd (fun _ _ h₁ =>
      h₁.splitComp.pair)).setScal
  · exact (h.pair.foldlSnd (fun _ _ h₁ => h₁.splitComp.pair)).setScal

theorem State.Canon.endLine (h : s.Canon) {pl n} : (s.endLine pl n).Canon := by
  unfold State.endLine
  exact h.closeComps.setScal

theorem State.Canon.openTallies (h : s.Canon) {t pl n} : (s.openTallies t pl n).Canon :=
  h.ite (h.foldl (fun _ _ h₁ => (h₁.setScal.startDraft.ite h₁.setScal).ite h₁))

theorem State.Canon.noteCol0 (h : s.Canon) {pl n} : (s.noteCol0 pl n).Canon := by
  unfold State.noteCol0
  refine h.ite ?_
  split
  · exact h.setScal
  · exact h

theorem State.Canon.segmentLine (h : s.Canon) {t pl n px} : (s.segmentLine t pl n px).Canon :=
  (h.foldl (fun _ _ h₁ => h₁.joinRun)).endLine.endFull.openTallies.noteCol0

theorem State.Canon.passLine (h : s.Canon) {pl n} : (s.passLine pl n).Canon :=
  h.closeComps.endFull

theorem execSegmentLine_canonical (h : s.Canon) {master} : Canonical (execSegmentLine master s) := by
  unfold execSegmentLine
  refine h.next.ite ?_
  dsimp only
  split
  · exact h.next
  · refine (h.passLine.ite h).bind fun h₁ => (h₁.passLine.ite
      ?_).setSeg.frame.resolveEdges.updOpen.updVerdict.next
    split
    · exact h₁.passLine.setScal
    · exact h₁.segmentLine.ite h₁.passLine

theorem State.Canon.releaseHeld (h : s.Canon) : s.releaseHeld.Canon :=
  h.wr.enterCov.ite h

theorem State.Canon.scalerEnable (h : s.Canon) : s.scalerEnable.Canon :=
  h.ite h.set1.releaseHeld.setScal.updVerdict

theorem execScalerEnable_canonical (h : s.Canon) : Canonical (execScalerEnable s) :=
  h.scalerEnable.next

theorem State.Canon.scalerDisable (h : s.Canon) : s.scalerDisable.Canon :=
  h.endFull.endFull.setScal.wr.updOpen

theorem State.Canon.updScaler (h : s.Canon) : s.updScaler.Canon :=
  h.wr.wr

theorem State.Canon.scalerCommit (h : s.Canon) {cancel} : (s.scalerCommit cancel).Canon :=
  h.setScal.updScaler.offerCommit

theorem execScalerCommit_canonical (h : s.Canon) {cancel} : Canonical (execScalerCommit cancel s) :=
  h.scalerCommit.next

theorem State.Canon.scalerReset (h : s.Canon) : s.scalerReset.Canon :=
  h.withdraw.resetRegs.frame.foldl (fun _ _ h₃ => h₃.foldl (fun _ _ h₄ => h₄.freeFq.ite h₄))

theorem execScalerSram_canonical (h : s.Canon) {uncorrected label} :
    Canonical (execScalerSram uncorrected label s) := by
  unfold execScalerSram
  refine h.set1.fault.next.ite ?_
  dsimp only
  split
  · exact h.fault.next
  · exact h.fault.setScal.cover.updOpen.updVerdict.next

theorem State.Canon.updSnip (h : s.Canon) : s.updSnip.Canon :=
  h.wr

theorem State.Canon.letGo (h : s.Canon) {e snippet} : (s.letGo e snippet).Canon :=
  h.setScal.deliverTally.freeEntries.updVerdict

theorem State.Canon.snipLost (h : s.Canon) {e reason} : (s.snipLost e reason).Canon :=
  h.set1.fault.letGo

theorem execSnippetStart_canonical (h : s.Canon) : Canonical (execSnippetStart s) := by
  unfold execSnippetStart
  refine h.next.ite ?_
  split
  · exact h.next
  · exact h.snipLost.next.ite (h.snipLost.next.ite h.setScal.next)

theorem State.Canon.snipDenied (h : s.Canon) {e c} : (s.snipDenied e c).Canon :=
  h.wr.bumpSat.set1.wr.fault.snipLost

theorem execSnippetDone_canonical (h : s.Canon) : Canonical (execSnippetDone s) := by
  unfold execSnippetDone
  split
  · exact h.next
  · exact h.next.ite (h.permit.permit.bind fun h₂ =>
      h₂.snipDenied.next.ite h₂.dramPut.countWritten.countRead.wr.wr.letGo.next)

theorem execSnippetLost_canonical (h : s.Canon) {reason} : Canonical (execSnippetLost reason s) := by
  unfold execSnippetLost
  dsimp only
  split
  · exact h.next
  · exact h.snipLost.next

theorem State.Canon.routePeer (h : s.Canon) {k p} : (s.routePeer k p).2.Canon := by
  unfold State.routePeer
  dsimp only
  split
  · exact h.pair
  · split
    · exact (h.sendChildren.ite h).pair
    · split
      · exact h.pair
      · exact h.sendTo.pair

theorem State.Canon.takePeerIf (h : s.Canon) {k ok} : (s.takePeerIf k ok).2.Canon := by
  unfold State.takePeerIf
  split
  · exact h.pair
  · rename_i e
    exact (h.takeRx e).routePeer

theorem State.Canon.takePeer (h : s.Canon) {k ty} : (s.takePeer k ty).2.Canon := by
  unfold State.takePeer
  split
  · rename_i e
    exact (h.takePeerIf.ofEq e).pair
  · rename_i e
    exact (h.takePeerIf.ofEq e).permit.pair

theorem execStripSend_canonical (h : s.Canon) : Canonical (execStripSend s) := by
  unfold execStripSend
  dsimp only
  split
  · exact h.next.ite h.setScal.sendTo.next
  · exact h.next

theorem State.Canon.lateRows (h : s.Canon) {a b} : (s.lateRows a b).Canon := by
  unfold State.lateRows
  exact h.setScal

theorem execStripRx_canonical (h : s.Canon) {k} : Canonical (execStripRx k s) := by
  unfold execStripRx
  split
  · rename_i e
    exact (h.takePeer.ofEq e).next
  · rename_i e
    refine (h.takePeer.ofEq e).next.ite ((h.takePeer.ofEq e).set1.fault.next.ite ?_)
    split
    · exact (h.takePeer.ofEq e).next.ite
        ((h.takePeer.ofEq e).set1.fault.lateRows.resolveEdges.updVerdict.next.ite (h.takePeer.ofEq e).setScal.resolveEdges.updVerdict.next)
    · exact (h.takePeer.ofEq e).setScal.resolveEdges.updVerdict.next

theorem execStripLate_canonical (h : s.Canon) : Canonical (execStripLate s) := by
  unfold execStripLate
  split
  · exact h.next.ite h.set1.fault.lateRows.resolveEdges.updVerdict.next
  · exact h.next

theorem execTallyPacketRx_canonical (h : s.Canon) {k} : Canonical (execTallyPacketRx k s) := by
  unfold execTallyPacketRx
  split
  · rename_i e
    exact (h.takePeer.ofEq e).next
  · rename_i e
    exact (h.takePeer.ofEq e).enterForeign.next.ite
      (((h.takePeer.ofEq e).next.ite (h.takePeer.ofEq e).setScal.resolveEdges.updVerdict.next).ite
      (h.takePeer.ofEq e).fault.next)

theorem State.Canon.lateRun (h : s.Canon) {r} : (s.lateRun r).Canon := by
  unfold State.lateRun
  exact h.fault.set1.bump.occur.coverFull.setScal

theorem execVerdictDeadlineCheck_canonical (h : s.Canon) : Canonical (execVerdictDeadlineCheck s) := by
  unfold execVerdictDeadlineCheck
  split
  · exact h.next
  · rename_i e
    exact ((h.takeDue e).foldl (fun _ _ h₁ => h₁.lateRun)).wrS.wrS.armVerdict.next

/-! ### Machine/Nib -/

theorem State.Canon.startInit (h : s.Canon) {q t j again} : (s.startInit q t j again).Canon :=
  h.free.setNib.setSlotState

theorem State.Canon.endRun' (h : s.Canon) {q t} : (s.endRun' q t).Canon :=
  h.setNib.setQuill.wr.wr

theorem State.Canon.nibRestart (h : s.Canon) {q t} : (s.nibRestart q t).Canon := by
  unfold State.nibRestart
  split
  · exact h.startInit
  · exact h.setSlotState

theorem State.Canon.nibStops (h : s.Canon) {q t} : (s.nibStops q t).Canon := by
  unfold State.nibStops
  dsimp only
  split
  · split
    · exact h.endRun'.setNib.retireBehalf.updRetired.ite h.endRun'.setNib
    · exact h.endRun'.setNib
  · exact h.endRun'.setNib

theorem State.Canon.kernelFault (h : s.Canon) {q t code pc arg} : (s.kernelFault q t code pc arg).Canon :=
  h.wr.bumpSat.wr.wr.bump.fault.nibStops.bind fun h₅ => h₅.nibRestart.ite h₅.setSlotState

theorem State.Canon.qByte (h : s.Canon) {q who a} : (s.qByte q who a).2.Canon := by
  unfold State.qByte
  refine h.pair.foldlSnd (fun _ _ h₁ => ?_)
  split
  · dsimp only
    split
    · exact h₁.free.pair
    · exact h₁.free.pair
  · exact h₁

theorem State.Canon.qRead (h : s.Canon) {q who a n} : (s.qRead q who a n).2.Canon :=
  h.pair.foldlSnd (fun _ _ h₁ => h₁.qByte.pair)

theorem State.Canon.qWrite (h : s.Canon) {q a bs} : (s.qWrite q a bs).Canon :=
  h.putQuill (Memory.wf_put _ _ (h.quillAtWf q))

theorem State.Canon.qStore (h : s.Canon) {q t a bs} : (s.qStore q t a bs).Canon :=
  h.putQuill (Memory.wf_put _ _ (h.quillAtWf q))

theorem State.Canon.fqRead (h : s.Canon) {q off n} : (s.fqRead q off n).2.Canon := by
  unfold State.fqRead
  dsimp only
  split
  · exact h.pair
  · exact h.pair.foldlSnd (fun _ _ h₁ => h₁.free.pair)

theorem State.Canon.latency (h : s.Canon) {lo hi} : (s.latency lo hi).2.Canon :=
  h.free (w := 32)

theorem State.Canon.nibLoad (h : s.Canon) {q t' a len align r} (e : s.nibLoad q t' a len align = .ok r) :
    r.2.2.Canon := by
  unfold State.nibLoad at e
  split at e
  · cases e
  · split at e <;> cases e
    · exact h
    · exact h.qRead
    · exact h.fqRead

theorem State.Canon.nibStore (h : s.Canon) {q t' n a align at_ bs r}
    (e : s.nibStore q t' n a align at_ bs = .ok r) : r.2.Canon := by
  unfold State.nibStore at e
  split at e
  · cases e
  · split at e <;> cases e
    · exact h
    · exact h.qStore

theorem State.Canon.nibRetire (h : s.Canon) {q t} : (s.nibRetire q t).Canon := by
  unfold State.nibRetire
  dsimp only
  split
  · split
    · exact h.endRun'.setSlotState.ite h.endRun'.setSlotState.setNib
    · exact h.endRun'.setSlotState.setNib
    · exact h.endRun'.setSlotState.setNib
  · exact h.endRun'.setSlotState
  · exact h.endRun'.setSlotState.setNib.bind fun h₃ => (h₃.frame.ite h₃).updRetired
  · exact h.endRun'.setSlotState.setNib
  · exact h.endRun'.setSlotState

theorem State.Canon.nibFinish (h : s.Canon) {q t' pc r} (hr : r.st.Canon) : (s.nibFinish q t' pc r).Canon := by
  unfold State.nibFinish
  dsimp only
  split
  · exact hr.setNib.kernelFault.ite hr.setNib
  · exact hr.setNib
  · exact hr.setNib.nibRetire
  · exact h.setNib.kernelFault

theorem State.Canon.nibIssue (h : s.Canon) {q t' sel}
    (hsel : ∀ i act, sel i = some act → ∀ n s, s.Canon → (act n s).st.Canon) : (s.nibIssue q t' sel).Canon :=
      by
  unfold State.nibIssue
  refine h.ite ?_
  split
  · exact h
  · split
    · exact h
    · rename_i act hact
      exact h.kernelFault.ite (h.nibFinish (hsel _ act hact _ s h))

theorem execSalu_canonical (h : s.Canon) {q t} : Canonical (execSalu q t s) := by
  refine (h.nibIssue fun i act hi n s hs => ?_).next
  split at hi <;> cases hi
  · exact hs
  · exact hs

theorem execSaddi_canonical (h : s.Canon) {q t} : Canonical (execSaddi q t s) := by
  refine (h.nibIssue fun i act hi n s hs => ?_).next
  split at hi <;> cases hi
  exact hs

theorem execSandi_canonical (h : s.Canon) {q t} : Canonical (execSandi q t s) := by
  refine (h.nibIssue fun i act hi n s hs => ?_).next
  split at hi <;> cases hi
  exact hs

theorem execSori_canonical (h : s.Canon) {q t} : Canonical (execSori q t s) := by
  refine (h.nibIssue fun i act hi n s hs => ?_).next
  split at hi <;> cases hi
  exact hs

theorem execSxori_canonical (h : s.Canon) {q t} : Canonical (execSxori q t s) := by
  refine (h.nibIssue fun i act hi n s hs => ?_).next
  split at hi <;> cases hi
  exact hs

theorem execScmpi_canonical (h : s.Canon) {q t} : Canonical (execScmpi q t s) := by
  refine (h.nibIssue fun i act hi n s hs => ?_).next
  split at hi <;> cases hi
  exact hs

theorem execSinsl_canonical (h : s.Canon) {q t} : Canonical (execSinsl q t s) := by
  refine (h.nibIssue fun i act hi n s hs => ?_).next
  split at hi <;> cases hi
  exact hs

theorem execSinsh_canonical (h : s.Canon) {q t} : Canonical (execSinsh q t s) := by
  refine (h.nibIssue fun i act hi n s hs => ?_).next
  split at hi <;> cases hi
  exact hs

theorem execShi_canonical (h : s.Canon) {q t} : Canonical (execShi q t s) := by
  refine (h.nibIssue fun i act hi n s hs => ?_).next
  split at hi <;> cases hi
  exact hs

theorem execMulsr_canonical (h : s.Canon) {q t} : Canonical (execMulsr q t s) := by
  refine (h.nibIssue fun i act hi n s hs => ?_).next
  split at hi <;> cases hi
  exact hs

theorem execMulsru_canonical (h : s.Canon) {q t} : Canonical (execMulsru q t s) := by
  refine (h.nibIssue fun i act hi n s hs => ?_).next
  split at hi <;> cases hi
  exact hs

theorem execGetsr_canonical (h : s.Canon) {q t} : Canonical (execGetsr q t s) := by
  refine (h.nibIssue fun i act hi n s hs => ?_).next
  split at hi <;> cases hi
  exact hs

theorem execValu_canonical (h : s.Canon) {q t} : Canonical (execValu q t s) := by
  refine (h.nibIssue fun i act hi n s hs => ?_).next
  split at hi <;> cases hi
  · exact hs
  · exact hs

theorem execValus_canonical (h : s.Canon) {q t} : Canonical (execValus q t s) := by
  refine (h.nibIssue fun i act hi n s hs => ?_).next
  split at hi <;> cases hi
  · exact hs
  · exact hs

theorem execVmul_canonical (h : s.Canon) {q t} : Canonical (execVmul q t s) := by
  refine (h.nibIssue fun i act hi n s hs => ?_).next
  split at hi <;> cases hi
  exact hs

theorem execVmuls_canonical (h : s.Canon) {q t} : Canonical (execVmuls q t s) := by
  refine (h.nibIssue fun i act hi n s hs => ?_).next
  split at hi <;> cases hi
  exact hs

theorem execVmac_canonical (h : s.Canon) {q t} : Canonical (execVmac q t s) := by
  refine (h.nibIssue fun i act hi n s hs => ?_).next
  split at hi <;> cases hi
  exact hs

theorem execVnar_canonical (h : s.Canon) {q t} : Canonical (execVnar q t s) := by
  refine (h.nibIssue fun i act hi n s hs => ?_).next
  split at hi <;> cases hi
  exact hs

theorem execVcmp_canonical (h : s.Canon) {q t} : Canonical (execVcmp q t s) := by
  refine (h.nibIssue fun i act hi n s hs => ?_).next
  split at hi <;> cases hi
  exact hs

theorem execVcmps_canonical (h : s.Canon) {q t} : Canonical (execVcmps q t s) := by
  refine (h.nibIssue fun i act hi n s hs => ?_).next
  split at hi <;> cases hi
  exact hs

theorem execVsel_canonical (h : s.Canon) {q t} : Canonical (execVsel q t s) := by
  refine (h.nibIssue fun i act hi n s hs => ?_).next
  split at hi <;> cases hi
  exact hs

theorem execVmask_canonical (h : s.Canon) {q t} : Canonical (execVmask q t s) := by
  refine (h.nibIssue fun i act hi n s hs => ?_).next
  split at hi <;> cases hi
  · exact hs
  · exact hs
  · exact hs
  · exact hs

theorem execVred_canonical (h : s.Canon) {q t} : Canonical (execVred q t s) := by
  refine (h.nibIssue fun i act hi n s hs => ?_).next
  split at hi <;> cases hi
  · exact hs
  · exact hs

theorem execVperm_canonical (h : s.Canon) {q t} : Canonical (execVperm q t s) := by
  refine (h.nibIssue fun i act hi n s hs => ?_).next
  split at hi <;> cases hi
  · exact hs
  · exact hs

theorem execVsplat_canonical (h : s.Canon) {q t} : Canonical (execVsplat q t s) := by
  refine (h.nibIssue fun i act hi n s hs => ?_).next
  split at hi <;> cases hi
  exact hs

theorem execVext_canonical (h : s.Canon) {q t} : Canonical (execVext q t s) := by
  refine (h.nibIssue fun i act hi n s hs => ?_).next
  split at hi <;> cases hi
  exact hs

theorem execVgath_canonical (h : s.Canon) {q t} : Canonical (execVgath q t s) := by
  refine (h.nibIssue fun i act hi n s hs => ?_).next
  split at hi <;> cases hi
  dsimp only
  split
  · exact hs
  · exact hs

theorem nibLd_canon (h : s.Canon) {q t len base off lat lo slow put n} :
    (nibLd q t len base off lat lo slow put n s).st.Canon := by
  unfold nibLd
  dsimp only
  split
  · exact h
  · rename_i e
    have hl := h.nibLoad e
    split
    · exact hl.free (w := 32)
    · exact hl

theorem nibSt_canon (h : s.Canon) {q t align base off src bytes n} :
    (nibSt q t align base off src bytes n s).st.Canon := by
  unfold nibSt
  dsimp only
  split
  · exact h
  · rename_i e
    exact h.nibStore e

theorem execLw_canonical (h : s.Canon) {q t} : Canonical (execLw q t s) := by
  refine (h.nibIssue fun i act hi n s hs => ?_).next
  split at hi <;> cases hi
  exact nibLd_canon hs

theorem execSw_canonical (h : s.Canon) {q t} : Canonical (execSw q t s) := by
  refine (h.nibIssue fun i act hi n s hs => ?_).next
  split at hi <;> cases hi
  exact nibSt_canon hs

theorem execLhu_canonical (h : s.Canon) {q t} : Canonical (execLhu q t s) := by
  refine (h.nibIssue fun i act hi n s hs => ?_).next
  split at hi <;> cases hi
  exact nibLd_canon hs

theorem execSh_canonical (h : s.Canon) {q t} : Canonical (execSh q t s) := by
  refine (h.nibIssue fun i act hi n s hs => ?_).next
  split at hi <;> cases hi
  exact nibSt_canon hs

theorem execVld_canonical (h : s.Canon) {q t} : Canonical (execVld q t s) := by
  refine (h.nibIssue fun i act hi n s hs => ?_).next
  split at hi <;> cases hi
  exact nibLd_canon hs

theorem execVst_canonical (h : s.Canon) {q t} : Canonical (execVst q t s) := by
  refine (h.nibIssue fun i act hi n s hs => ?_).next
  split at hi <;> cases hi
  exact nibSt_canon hs

theorem execVstb_canonical (h : s.Canon) {q t} : Canonical (execVstb q t s) := by
  refine (h.nibIssue fun i act hi n s hs => ?_).next
  split at hi <;> cases hi
  exact nibSt_canon hs

theorem execVldm_canonical (h : s.Canon) {q t} : Canonical (execVldm q t s) := by
  refine (h.nibIssue fun i act hi n s hs => ?_).next
  split at hi <;> cases hi
  exact nibLd_canon hs

theorem State.Canon.visibleAt (h : s.Canon) {n c} : (s.visibleAt n c).2.Canon := by
  unfold State.visibleAt
  split
  · exact h.latency.pair
  · exact h.pair

theorem State.Canon.clearStores (h : s.Canon) {q t} : (s.clearStores q t).Canon :=
  h.setQuill

theorem execRetire_canonical (h : s.Canon) {q t} : Canonical (execRetire q t s) := by
  refine (h.nibIssue fun i act hi n s hs => ?_).next
  split at hi <;> cases hi
  exact hs.visibleAt.clearStores

theorem execFence_canonical (h : s.Canon) {q t} : Canonical (execFence q t s) := by
  refine (h.nibIssue fun i act hi n s hs => ?_).next
  split at hi <;> cases hi
  exact hs.visibleAt.clearStores

theorem execSrep_canonical (h : s.Canon) {q t} : Canonical (execSrep q t s) := by
  refine (h.nibIssue fun i act hi n s hs => ?_).next
  split at hi <;> cases hi
  exact hs.streakReport

theorem State.Canon.kernelTally (h : s.Canon) {bs} : (s.kernelTally bs).Canon :=
  h.enterTally

theorem execTemit_canonical (h : s.Canon) {q t} : Canonical (execTemit q t s) := by
  refine (h.nibIssue fun i act hi n s hs => ?_).next
  split at hi <;> cases hi
  dsimp only
  split
  · exact hs
  · split
    · exact hs
    · split
      · exact hs.kernelTally
      · exact hs

theorem execTget_canonical (h : s.Canon) {q t} : Canonical (execTget q t s) := by
  refine (h.nibIssue fun i act hi n s hs => ?_).next
  split at hi <;> cases hi
  have hl := hs.latency (lo := 4) (hi := 40)
  dsimp only
  split
  · exact hl
  · exact hl.setFq

theorem State.Canon.answerDraft (h : s.Canon) {q k verdict} : (s.answerDraft q k verdict).Canon := by
  unfold State.answerDraft
  dsimp only
  split
  · exact h.freeFq
  · rename_i e
    exact (h.freeFq.takeDraft e).updVerdict.ite (h.freeFq.takeDraft e).finishDraft

theorem execTans_canonical (h : s.Canon) {q t} : Canonical (execTans q t s) := by
  refine (h.nibIssue fun i act hi n s hs => ?_).next
  split at hi <;> cases hi
  dsimp only
  split
  · exact hs
  · split
    · exact hs.answerDraft
    · dsimp only
      exact hs.bump

theorem execEvent_canonical (h : s.Canon) {q t} : Canonical (execEvent q t s) := by
  refine (h.nibIssue fun i act hi n s hs => ?_).next
  split at hi <;> cases hi
  exact hs.wr.wr.occur

theorem nibJump_st {n s c a} : (nibJump n s c a).st = s := by
  unfold nibJump
  split <;> rfl

theorem nibBranch_st {a off p n s} : (nibBranch a off p n s).st = s := by
  unfold nibBranch
  dsimp only
  split
  · exact nibJump_st
  · rfl

theorem execBeqz_canonical (h : s.Canon) {q t} : Canonical (execBeqz q t s) := by
  refine (h.nibIssue fun i act hi n s hs => ?_).next
  split at hi <;> cases hi
  exact nibBranch_st ▸ hs

theorem execBnez_canonical (h : s.Canon) {q t} : Canonical (execBnez q t s) := by
  refine (h.nibIssue fun i act hi n s hs => ?_).next
  split at hi <;> cases hi
  exact nibBranch_st ▸ hs

theorem execBltz_canonical (h : s.Canon) {q t} : Canonical (execBltz q t s) := by
  refine (h.nibIssue fun i act hi n s hs => ?_).next
  split at hi <;> cases hi
  exact nibBranch_st ▸ hs

theorem execBgez_canonical (h : s.Canon) {q t} : Canonical (execBgez q t s) := by
  refine (h.nibIssue fun i act hi n s hs => ?_).next
  split at hi <;> cases hi
  exact nibBranch_st ▸ hs

theorem execJal_canonical (h : s.Canon) {q t} : Canonical (execJal q t s) := by
  refine (h.nibIssue fun i act hi n s hs => ?_).next
  split at hi <;> cases hi
  exact nibJump_st ▸ hs

theorem execJr_canonical (h : s.Canon) {q t} : Canonical (execJr q t s) := by
  refine (h.nibIssue fun i act hi n s hs => ?_).next
  split at hi <;> cases hi
  dsimp only
  split
  · exact hs
  · exact nibJump_st ▸ hs

theorem execLoop_canonical (h : s.Canon) {q t} : Canonical (execLoop q t s) := by
  refine (h.nibIssue fun i act hi n s hs => ?_).next
  split at hi <;> cases hi
  dsimp only
  split
  · split
    · exact hs
    · exact hs
  · split
    · exact hs
    · exact hs

theorem execStop_canonical (h : s.Canon) {q t} : Canonical (execStop q t s) := by
  refine (h.nibIssue fun i act hi n s hs => ?_).next
  split at hi <;> cases hi
  exact hs

theorem execIllegalInstruction_canonical (h : s.Canon) {q t} : Canonical (execIllegalInstruction q t s) :=
  h.next.ite h.kernelFault.next

theorem execKernelTimeout_canonical (h : s.Canon) {q t} : Canonical (execKernelTimeout q t s) :=
  h.kernelFault.next.ite h.next

/-! ### Machine/Access -/

theorem State.Canon.spanRead {k off n} (h : s.Canon) : (State.spanRead k s off n).2.Canon := by
  induction k generalizing s off n with
  | zero => exact h
  | succ k ih =>
    unfold State.spanRead
    dsimp only
    split
    · exact h.qRead
    · exact ih h.qRead

theorem State.Canon.spanWrite {k off bs} (h : s.Canon) : (State.spanWrite k s off bs).Canon := by
  induction k generalizing s off bs with
  | zero => exact h
  | succ k ih =>
    unfold State.spanWrite
    exact h.qWrite.ite (ih h.qWrite)

theorem State.Canon.devRead (h : s.Canon) {r cls a n host} : (s.devRead r cls a n host).2.Canon := by
  unfold State.devRead
  split
  · exact h.pair
  · dsimp only
    split
    · exact h.permit.pair
    · split
      · split
        · exact h.pair
        · split
          · exact h.dramRead.pair
          · exact h.dramRead.pair
      · split
        · exact h.pair
        · exact h.pair
      · exact h.spanRead.pair

theorem State.Canon.devWrite (h : s.Canon) {r cls hb a bs} : (s.devWrite r cls hb a bs).2.Canon := by
  unfold State.devWrite
  split
  · exact h.pair
  · dsimp only
    split
    · exact h.permit.pair
    · split
      · split
        · exact h.dramWrite.pair
        · exact h.dramWrite.pair
      · exact h.hostPut.pair
      · exact h.spanWrite.pair

/-! ### Machine/Boundary -/

theorem State.Canon.setUnitCtx (h : s.Canon) {u c} : (s.setUnitCtx u c).Canon := by
  unfold State.setUnitCtx
  split
  · exact h.setPx.updCtx
  · exact h.frame.updStitch
  · exact h.frame.updMaster
  · exact h.setScal.updScaler

theorem State.Canon.carry (h : s.Canon) {u why} : (s.carry u why).Canon := by
  unfold State.carry
  split
  · exact h.set1.wr
  · exact h.set1.wr
  · exact h.set1.wr
  · exact h.set1.wr

theorem State.Canon.showApplied (h : s.Canon) {u t late} : (s.showApplied u t late).Canon := by
  unfold State.showApplied
  split
  · exact h.wrS.wr.wr.bind fun h₂ => (h₂.set1.ite h₂).setPx.occur
  · exact h.wrS.wr.stitchApplied.occur
  · exact h.wrS.wr.frame.occur
  · exact h.occur

theorem State.Canon.judge (h : s.Canon) {u} : (s.judge u).Canon :=
  h.setUnitCtx

theorem State.Canon.judgeDue (h : s.Canon) : s.judgeDue.Canon :=
  h.foldl (fun _ _ h₁ => h₁.judge.ite h₁)

theorem State.Canon.noteVerdict (h : s.Canon) : s.noteVerdict.Canon :=
  h.frame.ite h

theorem State.Canon.carryLater (h : s.Canon) {u bt} : (s.carryLater u bt).Canon :=
  h.carry.ite h

theorem State.Canon.commitAt (h : s.Canon) {u start bt late} : (s.commitAt u start bt late).2.Canon := by
  unfold State.commitAt
  dsimp only
  split
  · exact h.carryLater.offerCommit.pair
  · split
    · exact h.carry.offerCommit.pair
    · split
      · exact h.setUnitCtx.carryLater.reject.offerCommit.pair
      · exact h.setUnitCtx.showApplied.carryLater.offerCommit.pair

theorem State.Canon.pageBoundary (h : s.Canon) {start bt late} : (s.pageBoundary start bt late).Canon := by
  unfold State.pageBoundary
  split
  · exact h
  · dsimp only
    split
    · exact h.commitAt.setPage
    · exact h.commitAt

theorem State.Canon.commitBoundary (h : s.Canon) {u} : (s.commitBoundary u).Canon := by
  unfold State.commitBoundary
  split
  · rename_i e
    dsimp only
    split
    · exact (h.takeCommit e).pageBoundary.ite (h.takeCommit e).commitAt
    · exact h.takeCommit e
  · exact h

theorem execCommitBoundary_canonical (h : s.Canon) {u} : Canonical (execCommitBoundary u s) :=
  h.commitBoundary.next

theorem State.Canon.frameBoundary (h : s.Canon) {f l bt} : (s.frameBoundary f l bt).Canon :=
  (h.foldl (fun _ _ h₁ => h₁.carryLater.ite h₁)).frameStep.foldl (fun _ _ h₃ => h₃.closeStats.ite h₃)

theorem execFrameBoundary_canonical (h : s.Canon) : Canonical (execFrameBoundary s) := by
  unfold execFrameBoundary
  split
  · rename_i e
    split
    · exact (h.takeDue e).frameBoundary.next
    · exact (h.takeDue e).next
  · exact h.next

theorem State.Canon.insertFrame (h : s.Canon) {f l} : (s.insertFrame f l).Canon :=
  (h.setFrameGen.foldl (fun _ _ h₂ => h₂.withdrawOpen.dueNow.ite h₂)).dueNow

theorem execFrameMarkMissing_canonical (h : s.Canon) {f} : Canonical (execFrameMarkMissing f s) := by
  unfold execFrameMarkMissing
  split
  · rename_i e
    exact (h.markMissing e).insertFrame.next
  · exact h.next

theorem State.Canon.issueTrigger (h : s.Canon) {l} : (s.issueTrigger l).Canon := by
  unfold State.issueTrigger
  refine h.frame.wrS.occur.foldl (fun _ _ h₃ => ?_)
  split
  · exact h₃.foldl (fun _ _ h₄ => h₄.owe)
  · exact h₃

theorem State.Canon.skipLines (h : s.Canon) {a b} : (s.skipLines a b).Canon :=
  h.set1.fault.coverFull

theorem State.Canon.backlog (h : s.Canon) {a b} : (s.backlog a b).Canon :=
  h.frame.bind fun h₁ => h₁.skipLines.ite h₁

theorem State.Canon.issueHead (h : s.Canon) : s.issueHead.Canon := by
  unfold State.issueHead
  split
  · exact h.frame.issueTrigger.ite h
  · exact h

theorem State.Canon.triggerLines (h : s.Canon) {a b} : (s.triggerLines a b).Canon :=
  (h.frame.foldl (fun _ _ h₁ => h₁.issueTrigger)).ite (h.issueHead.bind fun h₁ =>
    (h₁.issueTrigger.bind fun h₂ => h₂.backlog.ite h₂).ite h₁.backlog)

theorem execLineTrigger_canonical (h : s.Canon) : Canonical (execLineTrigger s) := by
  unfold execLineTrigger
  split
  · rename_i e
    split
    · exact ((h.takeDue e).triggerLines.ite (h.takeDue e)).next
    · exact (h.takeDue e).next
  · exact h.next

theorem execTriggerIssue_canonical (h : s.Canon) : Canonical (execTriggerIssue s) :=
  (h.issueHead.ite h).next

/-! ### Machine/Quill -/

theorem State.Canon.jobEnable (h : s.Canon) {q j} : (s.jobEnable q j).Canon := by
  unfold State.jobEnable
  refine h.ite ?_
  dsimp only
  split
  · exact h.updPitch.set1.wr.fault
  · exact h.updPitch.set1.set1.wr.setJob.foldl (fun _ _ h₅ => h₅.setNib.wr.bind fun h₇ => h₇.ite h₇.startInit)

theorem execJobEnable_canonical (h : s.Canon) {q j} : Canonical (execJobEnable q j s) :=
  h.jobEnable.next

theorem State.Canon.jobDisable (h : s.Canon) {q j} : (s.jobDisable q j).Canon :=
  h.ite (h.foldl (fun _ _ h₁ => h₁.endLost.endRun'.setNib.bind fun h₃ => h₃.ite h₃.setSlotState)).setJob.wr.wr

theorem execInitRunDone_canonical (h : s.Canon) {q j} : Canonical (execInitRunDone q j s) :=
  h.next.ite h.setJob.next

theorem State.Canon.fillWindow {q t' j l w cur free k} (h : s.Canon) : (s.fillWindow q t' j l w cur free k).Canon := by
  induction k generalizing s with
  | zero => exact h
  | succ k ih =>
    unfold State.fillWindow
    dsimp only
    split
    · exact .ite (ih h.setNib) h
    · exact h

theorem execWindowFill_canonical (h : s.Canon) {q t} : Canonical (execWindowFill q t s) := by
  unfold execWindowFill
  split
  · exact h.next
  · dsimp only
    split
    · exact h.next.ite ((h.foldl (fun _ _ h₁ => h₁.fillWindow)).bind fun h₁ =>
        h₁.kernelFault.next.ite h₁.next)
    · exact h.next

theorem State.Canon.startRun (h : s.Canon) {q t j run line pos} : (s.startRun q t j run line pos).Canon :=
  h.setNib.wr.setSlotState

theorem execNibInvoke_canonical (h : s.Canon) {q t} : Canonical (execNibInvoke q t s) := by
  unfold execNibInvoke
  split
  · exact h.next
  · dsimp only
    split
    · exact h.next
    · exact h.next.ite h.setNib.endLost.setNib.startRun.next

theorem execQueueInvoke_canonical (h : s.Canon) {q} : Canonical (execQueueInvoke q s) := by
  unfold execQueueInvoke
  refine h.next.ite ?_
  dsimp only
  split
  · exact h.next
  · exact h.free.startRun.next

theorem State.Canon.nibRestartReq (h : s.Canon) {q t} : (s.nibRestartReq q t).Canon :=
  h.nibRestart.ite h

theorem execNibRestart_canonical (h : s.Canon) {q t} : Canonical (execNibRestart q t s) :=
  h.nibRestartReq.next

theorem State.Canon.kernelImage (h : s.Canon) {a} : (s.kernelImage a).2.Canon := by
  unfold State.kernelImage
  split
  · exact h.pair
  · dsimp only
    split
    · exact h.dramRead.pair
    · split
      · exact h.dramRead.pair
      · split
        · exact h.dramRead.pair
        · split
          · exact h.dramRead.pair
          · split
            · exact h.dramRead.dramRead.pair
            · split
              · exact h.dramRead.dramRead.pair
              · exact h.dramRead.dramRead.pair

theorem State.Canon.loadCode (h : s.Canon) {q t ws} : (s.loadCode q t ws).Canon :=
  h.setNib.set1

theorem State.Canon.kernelLoadGo (h : s.Canon) {q} : (s.kernelLoadGo q).Canon := by
  unfold State.kernelLoadGo
  refine h.quillReject.ite (h.set1.foldl (fun _ _ h₂ => ?_))
  split
  · exact h₂.setSlotState.ite h₂
  · exact h₂

theorem execKernelLoadGo_canonical (h : s.Canon) {q} : Canonical (execKernelLoadGo q s) :=
  h.kernelLoadGo.next

theorem execKernelLoadDone_canonical (h : s.Canon) {q} : Canonical (execKernelLoadDone q s) := by
  have hk := fun (s : State) a (h : s.Canon) => h.kernelImage (a := a)
  unfold execKernelLoadDone
  obtain ⟨K, hK⟩ := exists_eq' (a' := State.kernelImage)
  rw [hK] at hk ⊢
  refine h.next.ite ?_
  dsimp only
  split <;> rename_i e
  · exact ((hk _ _ (h.wr.foldl fun _ _ h => h.setSlotState.ite h)).ofEq e).wr.foldl (fun _ _ h =>
      h.loadCode) |>.next
  · exact ((hk _ _ (h.wr.foldl fun _ _ h => h.setSlotState.ite h)).ofEq e).foldl (fun _ _ h =>
      h.wr) |>.set1.fault.next

theorem State.Canon.spareCode (h : s.Canon) {q t} : (s.spareCode q t).Canon := by
  have hk := fun a => h.kernelImage (a := a)
  obtain ⟨K, hK⟩ := exists_eq' (a' := State.kernelImage)
  obtain ⟨C, hC⟩ := exists_eq' (a' := State.spareCode)
  rw [hC]
  delta State.spareCode at hC
  rw [hK] at hk hC
  subst hC
  beta_reduce
  split <;> rename_i e
  · exact ((hk _).ofEq e).loadCode
  · exact (hk _).ofEq e

theorem State.Canon.beginSpare (h : s.Canon) {q t sp j readable} :
    (s.beginSpare q t sp j readable).Canon := by
  have hc := fun (s : State) q t (h : s.Canon) => h.spareCode (q := q) (t := t)
  unfold State.beginSpare
  obtain ⟨C, hC⟩ := exists_eq' (a' := State.spareCode)
  rw [hC] at hc ⊢
  exact (hc _ _ _ h.wr.wr.wr).setNib.setNib.setQuill.wr.startInit.beginDegrade

theorem State.Canon.nibFails (h : s.Canon) {q t readable} : (s.nibFails q t readable).Canon := by
  unfold State.nibFails
  dsimp only
  split
  · exact h.endRun'.setNib.setSlotState.beginSpare.ite h.nibStops.setSlotState.recheck
  · exact h.nibStops.setSlotState.fault.recheck
  · exact h.setSlotState.bind fun h₁ => h₁.wr.ite (h₁.fault.ite h₁)

theorem State.Canon.spareNow (h : s.Canon) {q t} : (s.spareNow q t).Canon := by
  have hc := fun q t => h.spareCode (q := q) (t := t)
  unfold State.spareNow
  obtain ⟨C, hC⟩ := exists_eq' (a' := State.spareCode)
  rw [hC] at hc ⊢
  split
  · exact h.ite (hc _ _).setNib.setQuill.startInit
  · exact h

theorem execSpareNow_canonical (h : s.Canon) {q t} : Canonical (execSpareNow q t s) :=
  h.spareNow.next

theorem execNibSram_canonical (h : s.Canon) {q t kind mem readable} :
    Canonical (execNibSram q t kind mem readable s) := by
  unfold execNibSram
  dsimp only
  split
  · exact h.set1.fault.bind fun h₁ => h₁.next.ite (h₁.set1.bump.setNib.bind fun h₃ =>
      (h₃.spareNow.ite h₃).next)
  · exact (h.fault.next.ite (h.setNib.fault.wr.bumpSat.wr.bump.nibStops.bind fun h₃ =>
      (h₃.nibRestart.ite h₃.setSlotState).next)).ite h.set1.fault.nibFails.next
  · exact h.fault.nibFails.next

theorem State.Canon.recordSpared (h : s.Canon) {q h'} : (s.recordSpared q h').Canon :=
  h.fault

theorem execNibSpared_canonical (h : s.Canon) {q} : Canonical (execNibSpared q s) := by
  unfold execNibSpared
  split
  · exact h.next
  · refine h.next.ite ?_
    split
    · exact h.setQuill.endDegrade.next
    · exact ((h.retireBehalf.ite h).endLost.setNib.updRetired.ite
        h).setSlotState.setQuill.recordSpared.endDegrade.next

theorem execPlannedNibTakeover_canonical (h : s.Canon) {q} : Canonical (execPlannedNibTakeover q s) := by
  unfold execPlannedNibTakeover
  split
  · exact h.next
  · dsimp only
    split
    · exact h.next.ite h.wr.wr.wr.wr.setSlotState.setSlotState.setNib.setNib.setQuill.recordSpared.next
    · exact h.next

theorem State.Canon.quillEvent (h : s.Canon) {q hop} : (s.quillEvent q hop).2.Canon := by
  unfold State.quillEvent
  refine h.pair.foldlSnd (fun _ _ h₁ => ?_)
  dsimp only
  split
  · exact h₁
  · split
    · exact h₁.pair
    · exact h₁.setNib.pair

theorem State.Canon.quillReset (h : s.Canon) {q} : (s.quillReset q).Canon :=
  (h.resetRegs.setQuill.foldl (fun _ _ h₃ => h₃.setSlotState)).frame

/-! ### Machine/Event -/

theorem State.Canon.evShow (h : s.Canon) : s.evShow.Canon :=
  h.wr.wr

theorem State.Canon.routeEvent (h : s.Canon) {c os} : (s.routeEvent c os).Canon :=
  (h.set1.bumpSat.evShow.bind fun h₁ => h₁.ite h₁.fault).ite (h.bumpSat.ite (h.set1.bump.bind fun h₁ =>
    (h₁.msix.ite h₁).frame))

theorem execEventEnter_canonical (h : s.Canon) {c} : Canonical (execEventEnter c s) := by
  unfold execEventEnter
  split
  · exact h.next
  · exact h.frame.routeEvent.next

theorem State.Canon.pinPulseEnd (h : s.Canon) {n} : (s.pinPulseEnd n).Canon :=
  h.frame

theorem State.Canon.pinEvent (h : s.Canon) {n} : (s.pinEvent n).2.Canon := by
  unfold State.pinEvent
  split
  · exact h.pair
  · split
    · exact h.frame.pair
    · split
      · exact h.pair
      · exact h.frame.pair

theorem execEventPinEdge_canonical (h : s.Canon) {n level} : Canonical (execEventPinEdge n level s) :=
  h.next.ite (h.wr.bind fun h₁ => h₁.occurOn.next.ite h₁.next)

theorem execEventPinPulseEnd_canonical (h : s.Canon) {n} : Canonical (execEventPinPulseEnd n s) :=
  h.pinPulseEnd.next.ite h.next

theorem State.Canon.consume (h : s.Canon) {i hop coincident} : (s.consume i hop coincident).2.Canon := by
  unfold State.consume
  split
  · exact h.pinEvent
  · split
    · exact h.qEvent
    · split
      · exact h.dEvent
      · split
        · exact h.quillEvent
        · split
          · exact h.profSync.pair
          · split
            · exact h.sensorEvent.pair
            · split
              · exact h.crossLatch.pair
              · split
                · exact h.compareEnable.pair
                · split
                  · exact h.strokeEnable.pair
                  · exact h.pair

theorem State.Canon.deliverAt (h : s.Canon) {f i} : (s.deliverAt f i).Canon :=
  h.ite ((h.set1.ite h).consume.bind fun h₂ => h₂.ite (h₂.set1.bumpSat.bind fun h₃ => h₃.ite h₃.fault))

theorem execEventDeliver_canonical (h : s.Canon) {c} : Canonical (execEventDeliver c s) := by
  unfold execEventDeliver
  split
  · exact h.next
  · exact (h.frame.foldl (fun _ _ h₂ => h₂.deliverAt)).evShow.next

theorem State.Canon.eventSoft (h : s.Canon) {mask} : (s.eventSoft mask).Canon :=
  h.foldl (fun _ _ h₁ => h₁.occurOn.ite h₁)

theorem execEventSoft_canonical (h : s.Canon) {mask} : Canonical (execEventSoft mask s) :=
  h.eventSoft.next

theorem State.Canon.writeFlags (h : s.Canon) {v} : (s.writeFlags v).Canon :=
  h.foldl (fun _ _ h₁ => h₁.wr.frame.ite h₁)

theorem State.Canon.eventReset (h : s.Canon) : s.eventReset.Canon :=
  h.resetRegs.frame

/-! ### Machine/Net -/

theorem State.Canon.setCounter (h : s.Canon) {c} : (s.setCounter c).Canon :=
  h.frame.wr

theorem State.Canon.setAhead (h : s.Canon) {u b} : (s.setAhead u b).Canon :=
  h.frame

theorem State.Canon.noteAhead (h : s.Canon) : s.noteAhead.Canon :=
  h.foldl (fun _ _ h₁ => h₁.setAhead.ite h₁)

theorem State.Canon.timeChanged (h : s.Canon) {before after} : (s.timeChanged before after).Canon :=
  h.fault

theorem State.Canon.ptpTick (h : s.Canon) : s.ptpTick.Canon := by
  unfold State.ptpTick
  extract_lets before s₁ was s₂
  have h₁ : s₁.Canon := by
    unfold s₁
    split
    · exact h.setCounter.frame.timeChanged
    · exact h.setCounter
  have h₂ : s₂.Canon := by
    unfold s₂
    split
    · exact h₁.setCounter.frame.timeChanged
    · exact h₁
  exact h₂.noteAhead

theorem execPtpCounterTick_canonical (h : s.Canon) : Canonical (execPtpCounterTick s) :=
  h.ptpTick.next

theorem State.Canon.netReject (h : s.Canon) {off v} : (s.netReject off v).Canon :=
  h.reject

theorem State.Canon.ptpIncr (h : s.Canon) {v} : (s.ptpIncr v).Canon :=
  h.netReject.ite h.wr

theorem execPtpIncrWrite_canonical (h : s.Canon) {v} : Canonical (execPtpIncrWrite v s) :=
  h.ptpIncr.next

theorem State.Canon.ptpSet (h : s.Canon) {v} : (s.ptpSet v).Canon :=
  h.frame

theorem execPtpSet_canonical (h : s.Canon) {v} : Canonical (execPtpSet v s) :=
  h.ptpSet.next

theorem State.Canon.ptpAdj (h : s.Canon) {v} : (s.ptpAdj v).Canon :=
  h.frame

theorem execPtpAdj_canonical (h : s.Canon) {v} : Canonical (execPtpAdj v s) :=
  h.ptpAdj.next

theorem execTcorrStep_canonical (h : s.Canon) : Canonical (execTcorrStep s) :=
  h.next.ite h.frame.wrS.next

theorem State.Canon.tcorrEn (h : s.Canon) {en} : (s.tcorrEn en).Canon :=
  h.wr.bind fun h₁ => h₁.ite h₁.wr

theorem State.Canon.tcFires (h : s.Canon) {u} : (s.tcFires u).Canon :=
  h.set1.wr.occurOn.setAhead.bind fun h₃ => (h₃.ite (h₃.wr.setAhead.bind fun h₄ =>
    h₄.ite h₄.bump.set1)).bind fun h₄ => h₄.wr.ite h₄

theorem execTimeCompareFire_canonical (h : s.Canon) {u} : Canonical (execTimeCompareFire u s) :=
  h.tcFires.next.ite h.next

theorem State.Canon.tcTest (h : s.Canon) {u} : (s.tcTest u).Canon :=
  h.setAhead.ite (h.setAhead.bind fun h₁ => h₁.set1.tcFires.ite h₁.set1)

theorem State.Canon.tcEnable (h : s.Canon) {u} : (s.tcEnable u).Canon :=
  h.ite h.set1.tcTest

theorem State.Canon.tcTarget (h : s.Canon) {u v} : (s.tcTarget u v).Canon :=
  h.wr.bind fun h₁ => h₁.tcTest.ite h₁

theorem execTimeCompareEnable_canonical (h : s.Canon) {u target} :
    Canonical (execTimeCompareEnable u target s) := by
  unfold execTimeCompareEnable
  split
  · exact h.tcEnable.next
  · exact h.tcTarget.next

theorem State.Canon.setNp (h : s.Canon) {e x} : (s.setNp e x).Canon :=
  h.frame

theorem execEthLinkDown_canonical (h : s.Canon) {e} : Canonical (execEthLinkDown e s) :=
  h.next.ite h.wr.set1.fault.next

theorem execEthLinkUp_canonical (h : s.Canon) {e} : Canonical (execEthLinkUp e s) :=
  h.set1.next.ite h.next

theorem State.Canon.ringMessage (h : s.Canon) {e tx} : (s.ringMessage e tx).Canon :=
  (h.setNp.msix.ite h.setNp).ite (h.setNp.msix.ite h.setNp)

theorem State.Canon.ringStop (h : s.Canon) {e tx addr} : (s.ringStop e tx addr).Canon :=
  h.setNp.set1.fault

theorem State.Canon.ethRead (h : s.Canon) {e a n host} : (s.ethRead e a n host).2.Canon :=
  h.devRead

theorem State.Canon.ethWrite (h : s.Canon) {e a bs} : (s.ethWrite e a bs).2.Canon :=
  h.devWrite

/-- Both answers of an access of an Ethernet port hold a state with canonical stores. -/
def CanonExcept {α : Type} : Except State (α × State) → Prop
  | .error s => s.Canon
  | .ok r => r.2.Canon

theorem CanonExcept.bind {α β : Type} {r : Except State (α × State)} {k : α × State → Except State (β × State)}
    (h : CanonExcept r) (hk : ∀ a, a.2.Canon → CanonExcept (k a)) : CanonExcept (r >>= k) := by
  cases r with
  | error s => exact h
  | ok a => exact hk a h

theorem State.Canon.orStop {r : AccRes × State} (h : r.2.Canon) {e tx addr} :
    CanonExcept (State.orStop r e tx addr) := by
  unfold State.orStop
  split
  · exact h
  · exact h.ringStop
  · exact h.ringStop

theorem State.Canon.rxDrop (h : s.Canon) {e} : (s.rxDrop e).Canon :=
  h.setNp.bump.set1.bind fun h₂ => h₂.fault.ite h₂

theorem State.Canon.rxDeliver (h : s.Canon) {e f ts host} : (s.rxDeliver e f ts host).Canon := by
  unfold State.rxDeliver
  refine h.rxDrop.ite ?_
  extract_lets d r
  have hr : CanonExcept r := h.ethRead.orStop.bind fun _ h => h.ethWrite.orStop.bind fun _ h =>
    h.ethWrite.orStop
  clear_value r
  rcases r with s' | ⟨x, s'⟩
  · exact hr
  · exact State.Canon.ringMessage (.wr (.setNp hr))

theorem State.Canon.fwdEnter (h : s.Canon) {e f ts} : (s.fwdEnter e f ts).Canon :=
  h.setNp.ite (h.setNp.bump.set1.bind fun h₂ => h₂.fault.ite h₂)

theorem State.Canon.rxFrame (h : s.Canon) {e f ts host} : (s.rxFrame e f ts host).Canon :=
  h.bump.bind fun h₁ => h₁.ite (h₁.fwdEnter.ite ((h₁.fwdEnter.ite h₁).bind fun h₂ => h₂.rxDeliver.ite h₂))

theorem execEthFrameRx_canonical (h : s.Canon) {e frame fcsOk ingress host} :
    Canonical (execEthFrameRx e frame fcsOk ingress host s) := by
  unfold execEthFrameRx
  refine h.next.ite (Canonical.ite ?_ (h.bump.next.ite (h.bump.next.ite (h.next.ite h.rxFrame.next))))
  split
  · exact h.next
  · exact h.setNp.rxFrame.next

theorem State.Canon.ethSend (h : s.Canon) {e f} : (s.ethSend e f).Canon :=
  h.bump.bind fun h₁ => h₁.setNp.ite h₁.frame

theorem State.Canon.txDone (h : s.Canon) {e d ts status} : (s.txDone e d ts status).Canon := by
  unfold State.txDone
  have hr := h.ethWrite (e := e) (a := d + 24) (bs := leBytes 6 (ts.getD 0) ++ [status, 0])
    |>.orStop (e := e) (tx := true) (addr := d + 24)
  dsimp only
  split <;> rename_i heq <;> rw [heq] at hr
  · exact hr
  · exact hr.setNp.wr.ringMessage

theorem State.Canon.txSend (h : s.Canon) {e d desc host late} : (s.txSend e d desc host late).Canon := by
  unfold State.txSend
  have hr := h.ethRead (e := e) (a := ofLeBytes (desc.take 8) % 2 ^ 44) (n := ofLeBytes (slice desc 8 2))
    (host := host)
    |>.orStop (e := e) (tx := true) (addr := ofLeBytes (desc.take 8) % 2 ^ 44)
  dsimp only
  split <;> rename_i heq <;> rw [heq] at hr
  · exact hr
  · exact (hr.ethSend.set1.fault.ite hr.ethSend).txDone

theorem execEthFrameTx_canonical (h : s.Canon) {e desc buffer} : Canonical (execEthFrameTx e desc buffer s) := by
  have hr := fun e a n host tx addr => h.ethRead (e := e) (a := a) (n := n) (host := host) |>.orStop (e := e)
    (tx := tx) (addr := addr)
  unfold execEthFrameTx
  obtain ⟨R, hR⟩ := exists_eq' (a' := State.ethRead)
  rw [hR] at hr ⊢
  refine h.next.ite ?_
  dsimp only
  split <;> rename_i e₁
  · have hs := e₁ ▸ hr _ _ _ _ _ _
    exact hs.next
  · have hs := e₁ ▸ hr _ _ _ _ _ _
    exact hs.fault.txDone.next.ite (hs.txDone.next.ite (hs.setNp.next.ite hs.txSend.next))

theorem execLaunchTimeReached_canonical (h : s.Canon) {e desc buffer} :
    Canonical (execLaunchTimeReached e desc buffer s) := by
  unfold execLaunchTimeReached
  refine h.next.ite ?_
  have hr := h.ethRead (e := e) (a := s.rd (NET_E_TX_BASE e) + 32 * s.rd (NET_E_TX_HEAD e)) (n := 32)
      (host := desc.map (fun b => b.toNat))
    |>.orStop (e := e) (tx := true) (addr := s.rd (NET_E_TX_BASE e) + 32 * s.rd (NET_E_TX_HEAD e))
  dsimp only
  split <;> rename_i heq <;> rw [heq] at hr
  · exact hr.next
  · exact hr.txDone.next.ite (hr.next.ite hr.txSend.next)

theorem execEthTailWrite_canonical (h : s.Canon) {e tx v} : Canonical (execEthTailWrite e tx v s) :=
  h.wr.next

theorem State.Canon.corrected (h : s.Canon) {e g} : (s.corrected e g).2.Canon := by
  unfold State.corrected
  split
  · split
    · exact h.pair
    · exact h.bump.bind fun h₁ => (h₁.set1.fault.ite h₁).pair
  · exact h.pair

theorem execForwardSend_canonical (h : s.Canon) {e} : Canonical (execForwardSend e s) := by
  unfold execForwardSend
  dsimp only
  split
  · exact h.next
  · exact h.next.ite h.setNp.corrected.bump.ethSend.next

theorem State.Canon.holdoffEnd (h : s.Canon) {e tx} : (s.holdoffEnd e tx).Canon := by
  unfold State.holdoffEnd
  dsimp only
  split
  · exact h.ite (h.setNp.bind fun h₁ => h₁.ringMessage.ite h₁)
  · exact h

theorem State.Canon.datagram (h : s.Canon) {e pl} : (s.datagram e pl).2.Canon := by
  unfold State.datagram
  dsimp only
  split
  · exact h.free.pair
  · exact h.free.free.pair

theorem execDatagramSend_canonical (h : s.Canon) : Canonical (execDatagramSend s) := by
  unfold execDatagramSend
  dsimp only
  split
  · exact h.next
  · exact h.next.ite h.datagram.frame.ethSend.next

theorem State.Canon.leaveDiagnose (h : s.Canon) : s.leaveDiagnose.Canon :=
  h.foldl (fun _ _ h₁ => h₁.wr.wr.setNp.ite h₁)

theorem State.Canon.netReset (h : s.Canon) : s.netReset.Canon :=
  h.resetRegs.frame

/-! ### Machine/ModeReq -/

theorem State.Canon.applyMode (h : s.Canon) {m line e} : (s.applyMode m line e).Canon :=
  (h.leaveDiagnose.ite h).changeMode.updVerdict

theorem State.Canon.modeNow (h : s.Canon) {m} : (s.modeNow m).Canon :=
  h.applyMode

theorem State.Canon.haltFor (h : s.Canon) {cause cls code} : (s.haltFor cause cls code).Canon :=
  h.ite h.wr.wr.wr.modeNow

theorem State.Canon.retrainAll (h : s.Canon) : s.retrainAll.Canon :=
  (h.foldl (fun _ _ h₁ => h₁.portReset.ite h₁)).frame

theorem State.Canon.modeRequest (h : s.Canon) {t} : (s.modeRequest t).2.Canon := by
  unfold State.modeRequest
  dsimp only
  split
  · exact h.pair
  · split
    · exact h.haltFor.pair
    · exact h.modeNow.bind fun h₁ => (h₁.retrainAll.ite h₁).pair

theorem State.Canon.setArm (h : s.Canon) {a} : (s.setArm a).Canon :=
  h.frame

theorem State.Canon.armOver (h : s.Canon) {a c} : (s.armOver a c).Canon := by
  unfold State.armOver
  dsimp only
  split
  · exact h.wr.modeDone
  · exact h.wr

theorem State.Canon.armWithdraw (h : s.Canon) : s.armWithdraw.Canon :=
  h.withdraw

theorem State.Canon.armCancel (h : s.Canon) {a missing} : (s.armCancel a missing).Canon :=
  h.armWithdraw.setArm.wr.wr.fault.bind fun h₃ => (h₃.sendChildren.ite h₃).armOver

theorem State.Canon.armRequest (h : s.Canon) {t c queue} : (s.armRequest t c queue).2.Canon := by
  unfold State.armRequest
  dsimp only
  split
  · exact h.pair
  · split
    · exact h.pair
    · split
      · exact h.pair
      · split
        · exact h.pair
        · exact h.offer.offer.setArm.wr.wrS.wr.wr.wr.bind fun h₅ => (h₅.sendChildren.ite h₅).bind fun h₆ =>
            (h₆.ite h₆.armCancel).pair

theorem execModeAckSend_canonical (h : s.Canon) : Canonical (execModeAckSend s) := by
  unfold execModeAckSend
  split
  · exact h.next
  · exact h.next.ite (h.setArm.next.ite h.setArm.reportRoot.next)

theorem execModeDecision_canonical (h : s.Canon) : Canonical (execModeDecision s) := by
  unfold execModeDecision
  split
  · exact h.next
  · rename_i e
    split
    · exact (h.takeDue e).next
    · exact (h.takeDue e).wr.next.ite (h.takeDue e).armCancel.next

theorem State.Canon.armReports (h : s.Canon) {a} : (s.armReports a).Canon :=
  h.setArm.wr.ite h.setArm

theorem State.Canon.coverPipe (h : s.Canon) {p a b cause source detail} :
    (s.coverPipe p a b cause source detail).Canon :=
  h.foldl (fun _ _ h₁ => h₁.cover.ite h₁)

theorem State.Canon.modeSplit (h : s.Canon) {a line} : (s.modeSplit a line).Canon :=
  h.fault.bind fun h₁ => ((h₁.applyMode.ite h₁).foldl (fun _ _ h₃ => h₃.coverPipe)).reportRoot.bind fun h₄ =>
    h₄.armReports.armOver.ite h₄.setArm.wr.armOver

theorem execModeChangeApply_canonical (h : s.Canon) : Canonical (execModeChangeApply s) := by
  unfold execModeChangeApply
  split
  · split
    · exact h.frame.modeSplit.next.ite h.next
    · exact h.next
  · rename_i e
    split
    · exact (h.takeDue e).next
    · exact (h.takeDue e).modeSplit.next.ite ((h.takeDue e).applyMode.reportRoot.bind fun h₂ =>
        h₂.armReports.armOver.next.ite h₂.setArm.wr.armOver.next)

/-! ### Machine/Chain -/

theorem State.Canon.setChain (h : s.Canon) {f} : (s.setChain f).Canon :=
  h.frame

theorem State.Canon.showMember (h : s.Canon) {id live} : (s.showMember id live).Canon :=
  h.wr

theorem State.Canon.chainEnable (h : s.Canon) {en} : (s.chainEnable en).Canon :=
  h.reject.ite (h.ite (h.set1.setChain.updRoles.ite (h.foldl (fun _ _ h₁ =>
    h₁.showMember)).wr.wr.wr.setChain.setParent.recheck))

theorem execChainEnable_canonical (h : s.Canon) {en} : Canonical (execChainEnable en s) :=
  h.chainEnable.next

theorem State.Canon.dupId (h : s.Canon) {k} : (s.dupId k).Canon :=
  h.set1.setChain.fault

theorem State.Canon.rootConflict (h : s.Canon) {src} : (s.rootConflict src).Canon :=
  h.fault

theorem State.Canon.probeFailed (h : s.Canon) {k} : (s.probeFailed k).Canon :=
  h.setLp.bump.bind fun h₂ => h₂.fault.ite h₂

theorem State.Canon.probeExpire (h : s.Canon) {k} : (s.probeExpire k).Canon := by
  unfold State.probeExpire
  split
  · exact h.probeFailed.ite h
  · exact h

theorem execDelayProbeSend_canonical (h : s.Canon) {k} : Canonical (execDelayProbeSend k s) :=
  h.next.ite h.probeExpire.setLp.setChain.sendPeer.next

theorem execDelayProbeRx_canonical (h : s.Canon) {k turn} : Canonical (execDelayProbeRx k turn s) := by
  unfold execDelayProbeRx
  dsimp only
  split
  · exact h.next
  · rename_i e
    exact (h.takeRx e).probeExpire.sendPeer.next

theorem execProbeReplyRx_canonical (h : s.Canon) {k rtt} : Canonical (execProbeReplyRx k rtt s) := by
  unfold execProbeReplyRx
  dsimp only
  split
  · exact h.next
  · rename_i e
    exact ((h.takeRx e).dupId.ite (h.takeRx e)).bind fun h₁ =>
      h₁.next.ite (h₁.probeFailed.next.ite h₁.setLp.wr.wr.wr.next)

theorem execPosSend_canonical (h : s.Canon) {acc accTime} : Canonical (execPosSend acc accTime s) :=
  h.next.ite ((h.foldl (fun _ _ h₁ => h₁.sendPeer)).setChain.bind fun h₂ => h₂.sendChildren.next.ite h₂.next)

theorem State.Canon.posBack (h : s.Canon) {p} : (s.posBack p).Canon := by
  unfold State.posBack
  dsimp only
  split
  · exact h.setChain.set1.recheck
  · exact h.setChain.set1.setChain.bind fun h₂ => (h₂.passLines.armTrigger.fault.ite h₂).coverFull.recheck

theorem State.Canon.posLatch (h : s.Canon) {pos16 v delay phi} : (s.posLatch pos16 v delay phi).Canon :=
  h.posFit.bind fun h₁ => (h₁.posBack.ite h₁).bind fun h₂ => (h₂.wrS.bind fun h₃ =>
    (h₃.masterActive.ite h₃).bind fun h₄ => h₄.latchPair.ite h₄).ite h₂

theorem State.Canon.posEpoch (h : s.Canon) {e} : (s.posEpoch e).Canon :=
  h.setChain.ite (h.ite h.set1.setChain.fault)

theorem execPosRx_canonical (h : s.Canon) {k residence phi} : Canonical (execPosRx k residence phi s) := by
  unfold execPosRx
  dsimp only
  split
  · exact h.next
  · rename_i e
    exact (h.takeRx e).next.ite (((h.takeRx e).set1.bind fun h₁ =>
      h₁.next.ite h₁.setChain.rootConflict.next).ite ((h.takeRx e).setLp.setChain.set1.bind fun h₃ =>
      (h₃.ite h₃.setParent).posEpoch.bind fun h₅ => h₅.next.ite (h₅.foldl (fun _ _ h₆ =>
      h₆.ite h₆.sendPeer)).wr.wr.posLatch.next))

theorem execPosLost_canonical (h : s.Canon) : Canonical (execPosLost s) := by
  unfold execPosLost
  split
  · exact h.next
  · exact h.next.ite (h.set1.wr.fault.setChain.bind fun h₃ =>
      h₃.frame.setChain.coverFull.updVelocity.recheck.next.ite h₃.recheck.next)

theorem execHeartbeatSend_canonical (h : s.Canon) : Canonical (execHeartbeatSend s) :=
  h.next.ite h.setChain.showSpan.sendTo.next

theorem State.Canon.coverGone (h : s.Canon) {g b} : (s.coverGone g b).Canon :=
  h.cover.ite h

theorem State.Canon.goneRuns (h : s.Canon) : s.goneRuns.Canon :=
  h.foldl (fun _ _ h₁ => h₁.coverGone.setChain.ite h₁)

theorem State.Canon.memberBack (h : s.Canon) {id} : (s.memberBack id).Canon := by
  unfold State.memberBack
  split
  · exact h.coverGone.setChain
  · exact h

theorem State.Canon.memberLost (h : s.Canon) {m} : (s.memberLost m).Canon :=
  h.showMember.fault.bind fun h₂ => h₂.ite h₂.setChain

theorem execHeartbeatRx_canonical (h : s.Canon) {k} : Canonical (execHeartbeatRx k s) := by
  unfold execHeartbeatRx
  dsimp only
  split
  · exact h.next
  · rename_i e
    exact (h.takeRx e).next.ite ((h.takeRx e).dupId.next.ite
      (((h.takeRx e).setChain.updRoles.ite (h.takeRx e)).bind fun h₁ =>
      (h₁.showMember.memberBack.next.ite h₁.next).ite h₁.routePeer.next))

theorem execLiveTimeout_canonical (h : s.Canon) : Canonical (execLiveTimeout s) :=
  h.setChain.bind fun h₁ => ((h₁.foldl (fun _ _ h₂ => h₂.memberLost)).ite h₁).bind fun h₂ =>
    (h₂.ite h₂.updRoles).goneRuns.next

theorem execTimeBroadcastRx_canonical (h : s.Canon) {k residence} :
    Canonical (execTimeBroadcastRx k residence s) := by
  unfold execTimeBroadcastRx
  dsimp only
  split
  · exact h.next
  · rename_i e
    exact (h.takeRx e).next.ite ((h.takeRx e).wr.wr.bind fun h₂ => h₂.sendChildren.next.ite h₂.next)

theorem State.Canon.qInterrupt (h : s.Canon) {q} : (s.qInterrupt q).Canon := by
  unfold State.qInterrupt
  refine h.ite ?_
  split
  · exact h.qDropWait.setScq.setQState
  · exact h.qDropWait.setScq.setQState
  · exact h.qDropWait.setScq.setQState
  · exact h

theorem execCmdRx_canonical (h : s.Canon) {k} : Canonical (execCmdRx k s) := by
  unfold execCmdRx
  dsimp only
  split
  · rename_i e
    exact (h.takePeerIf.ofEq e).next
  · rename_i e
    exact (h.takePeerIf.ofEq e).next.ite ((h.takePeerIf.ofEq e).permit.next.ite
      ((h.takePeerIf.ofEq e).fault.next.ite ((h.takePeerIf.ofEq e).fault.next.ite
      ((h.takePeerIf.ofEq e).fault.next.ite (h.takePeerIf.ofEq e).qInterrupt.setScq.qShow.next))))

theorem execSummaryRx_canonical (h : s.Canon) {k} : Canonical (execSummaryRx k s) := by
  unfold execSummaryRx
  dsimp only
  split
  · rename_i e
    exact (h.takePeerIf.ofEq e).next
  · rename_i e
    exact (h.takePeerIf.ofEq e).next.ite (h.takePeerIf.ofEq e).devWrite.next

theorem execModeArmRx_canonical (h : s.Canon) {k} : Canonical (execModeArmRx k s) := by
  unfold execModeArmRx
  dsimp only
  split
  · exact h.next
  · rename_i e
    refine (h.takeRx e).next.ite ((h.takeRx e).rootConflict.next.ite ?_)
    split <;> rename_i e₁
    · exact ((h.takeRx e).routePeer.ofEq e₁).next
    · exact ((h.takeRx e).routePeer.ofEq e₁).armWithdraw.offer.setArm.wr.wrS.wr.wr.wr.next

theorem State.Canon.armReport (h : s.Canon) {k phase f} (hf : ∀ x0 x1 s3, s3.Canon → (f x0 x1 s3).Canon) :
    (s.armReport k phase f).Canon := by
  unfold State.armReport
  split
  · rename_i e
    exact h.takePeerIf.ofEq e
  · rename_i e
    split
    · exact (hf _ _ _ (h.takePeerIf.ofEq e)).ite (h.takePeerIf.ofEq e)
    · exact h.takePeerIf.ofEq e

theorem execModeAckRx_canonical (h : s.Canon) {k} : Canonical (execModeAckRx k s) :=
  (h.armReport (fun _ _ _ h₁ => h₁.setArm.ite h₁)).next

theorem execModeCancelRx_canonical (h : s.Canon) {k} : Canonical (execModeCancelRx k s) := by
  unfold execModeCancelRx
  split
  · rename_i e
    exact (h.takePeerIf.ofEq e).next
  · rename_i e
    refine (h.takePeerIf.ofEq e).next.ite ?_
    split
    · exact (h.takePeerIf.ofEq e).armWithdraw.setArm.wr.armOver.next.ite (h.takePeerIf.ofEq e).next
    · exact (h.takePeerIf.ofEq e).fault.next.ite (h.takePeerIf.ofEq e).next

theorem execModeAppliedRx_canonical (h : s.Canon) {k} : Canonical (execModeAppliedRx k s) :=
  (h.armReport (fun _ _ _ h₁ => h₁.armReports)).next

theorem execModeSplitRx_canonical (h : s.Canon) {k} : Canonical (execModeSplitRx k s) :=
  (h.armReport (fun _ _ _ h₁ => h₁.armReports)).next

theorem execApplyMissing_canonical (h : s.Canon) : Canonical (execApplyMissing s) := by
  unfold execApplyMissing
  split
  · exact h.next
  · split
    · exact h.next
    · refine h.next.ite (h.foldl (fun _ _ h₁ => ?_)).updRoles.setArm.wr.next
      dsimp only
      split
      · exact h₁.fault.setChain.memberLost
      · exact h₁.fault

theorem State.Canon.chainReset (h : s.Canon) : s.chainReset.Canon :=
  h.armWithdraw.wr.resetRegs.frame.updRoles.recheck

/-! ### Machine/Therm -/

theorem State.Canon.setTherm (h : s.Canon) {f} : (s.setTherm f).Canon :=
  h.frame

theorem State.Canon.setTsens (h : s.Canon) {i x} : (s.setTsens i x).Canon :=
  h.setTherm

theorem State.Canon.setTreg (h : s.Canon) {r x} : (s.setTreg r x).Canon :=
  h.setTherm

theorem State.Canon.thermReject (h : s.Canon) {off v} : (s.thermReject off v).Canon :=
  h.reject

theorem State.Canon.setCode (h : s.Canon) {key v} : (s.setCode key v).Canon :=
  h.setTherm

theorem State.Canon.setTarget (h : s.Canon) {key v} : (s.setTarget key v).Canon :=
  h.setTherm

theorem State.Canon.calvWrite (h : s.Canon) {i v} : (s.calvWrite i v).Canon :=
  h.setTherm.ite h.thermReject

theorem State.Canon.showRun (h : s.Canon) : s.showRun.Canon :=
  (h.foldl (fun _ _ h₁ => h₁.wr)).wr

theorem State.Canon.calStart (h : s.Canon) : s.calStart.Canon := by
  unfold State.calStart
  refine h.ite ?_
  split
  · exact h
  · exact h.setTherm.showRun

theorem State.Canon.calTrigger (h : s.Canon) {r} : (s.calTrigger r).Canon := by
  unfold State.calTrigger
  refine h.ite ?_
  split
  · exact h.setTherm.showRun.ite (h.ite h.setTherm)
  · exact (h.ite h.setTherm).calStart

theorem State.Canon.calAll (h : s.Canon) : s.calAll.Canon :=
  h.setTherm.showRun

theorem State.Canon.calSettle (h : s.Canon) : s.calSettle.Canon := by
  unfold State.calSettle
  split
  · exact h.setTherm.showRun.calStart.ite h
  · exact h

theorem State.Canon.calGo (h : s.Canon) : s.calGo.Canon :=
  h.foldl (fun _ _ h₁ => h₁.calTrigger.ite h₁)

theorem execCalGo_canonical (h : s.Canon) : Canonical (execCalGo s) :=
  h.calGo.next

theorem State.Canon.takeTarget (h : s.Canon) {r key v} : (s.takeTarget r key v).Canon :=
  h.setTarget.bind fun h₁ => h₁.ite h₁.set1.fault

theorem State.Canon.calvReject (h : s.Canon) {why word} : (s.calvReject why word).Canon :=
  h.setTherm.set1.fault

theorem State.Canon.restoreCheck (h : s.Canon) {r} : (s.restoreCheck r).Canon := by
  unfold State.restoreCheck
  refine h.ite ?_
  split
  · exact h.calvReject
  · split
    · exact h.calvReject
    · exact h.foldl (fun _ _ h₁ => h₁.setCode)

theorem State.Canon.lanesMeasured (h : s.Canon) {r} : (s.lanesMeasured r).Canon :=
  h.foldl (fun _ _ h₁ => h₁.setLane.ite h₁)

theorem execCalMeasureDone_canonical (h : s.Canon) {ohms targets} :
    Canonical (execCalMeasureDone ohms targets s) := by
  unfold execCalMeasureDone
  split
  · exact h.next
  · exact h.next.ite ((h.set1.fault.bind fun h₁ => h₁.set1.ite h₁).ite (h.wr.foldl (fun _ _ h₂ =>
      h₂.takeTarget.ite h₂)).restoreCheck).setTherm.wr.setTreg.lanesMeasured.setTherm.showRun.calSettle.next

theorem execCalCodeStep_canonical (h : s.Canon) {key} : Canonical (execCalCodeStep key s) := by
  unfold execCalCodeStep
  refine (h.wrS.next.ite h.next).ite ?_
  split
  · exact h.next
  · refine h.next.ite (State.Canon.bind ?_ fun h₃ => h₃.calSettle.next)
    split
    · exact h.setCode.bump.setTherm
    · exact h.setCode.bump

theorem execCalSlow_canonical (h : s.Canon) : Canonical (execCalSlow s) := by
  unfold execCalSlow
  split
  · exact h.next.ite h.setTherm.fault.next
  · exact h.next

theorem State.Canon.takeRole (h : s.Canon) {i role} : (s.takeRole i role).Canon :=
  h.wr.fault.wr

theorem State.Canon.retireVoter (h : s.Canon) {i} : (s.retireVoter i).Canon := by
  unfold State.retireVoter
  dsimp only
  split
  · exact h
  · exact h.takeRole.takeRole.setTreg.bind fun h₂ => h₂.fault.ite h₂

theorem execSensorRole_canonical (h : s.Canon) {i} : Canonical (execSensorRole i s) :=
  h.next.ite (h.next.ite (h.fault.bind fun h₁ => h₁.retireVoter.next.ite (h₁.takeRole.bind fun h₂ =>
    (h₂.fault.ite h₂).next)))

theorem State.Canon.takeComparators (h : s.Canon) {comps} : (s.takeComparators comps).Canon :=
  (h.foldl (fun _ _ h₁ => h₁.wr)).foldl (fun _ _ h₂ => h₂.wr)

theorem execThermalTrip_canonical (h : s.Canon) {comps} : Canonical (execThermalTrip comps s) :=
  h.takeComparators.bind fun h₁ => h₁.setTherm.next.ite h₁.next

theorem State.Canon.sensorBreaks (h : s.Canon) {i reason} : (s.sensorBreaks i reason).Canon :=
  h.set1.wr.wr.set1

theorem State.Canon.convert (h : s.Canon) {i done stuck raw} : (s.convert i done stuck raw).Canon :=
  h.ite ((h.sensorBreaks.ite h).ite (h.setTsens.bind fun h₁ =>
    h₁.sensorBreaks.ite (h₁.sensorBreaks.ite h₁.wr)))

theorem State.Canon.regionTests (h : s.Canon) {r v} : (s.regionTests r v).Canon :=
  h.wrS.bind fun h₁ => (h₁.wrS.ite h₁).setTreg.bind fun h₃ =>
    h₃.ite ((h₃.set1.fault.occur.ite (h₃.wr.ite h₃)).bind fun h₄ => h₄.set1.fault.haltFor.ite (h₄.wr.ite h₄))

theorem State.Canon.disagreement (h : s.Canon) {r v} : (s.disagreement r v).Canon :=
  h.ite h.retireVoter.fault

theorem State.Canon.calDrift (h : s.Canon) {r v} : (s.calDrift r v).Canon :=
  h.ite (h.calTrigger.ite h)

theorem State.Canon.setCorr (h : s.Canon) {corr ref} : (s.setCorr corr ref).Canon :=
  h.wrS.setTherm.frame

theorem State.Canon.xoUpdate (h : s.Canon) : s.xoUpdate.Canon :=
  h.ite (h.ite h.setCorr)

theorem State.Canon.tableEnable (h : s.Canon) {en} : (s.tableEnable en).Canon := by
  unfold State.tableEnable
  refine h.wr.setCorr.ite (h.ite ?_)
  split
  · exact h.set1.fault
  · exact h.set1

theorem execTableEnable_canonical (h : s.Canon) : Canonical (execTableEnable s) :=
  h.tableEnable.next

theorem execSensorConversion_canonical (h : s.Canon) {done stuck comps readings} :
    Canonical (execSensorConversion done stuck comps readings s) := by
  unfold execSensorConversion
  refine ((h.foldl (fun _ _ h₁ => h₁.convert)).takeComparators.foldl (fun _ _ h₃ => ?_)).bind fun h₃ =>
    (h₃.ite h₃.xoUpdate).next
  split
  · exact h₃.regionTests.disagreement.calDrift.ite h₃
  · exact h₃

theorem execAgeingMeasure_canonical (h : s.Canon) {r ppm} : Canonical (execAgeingMeasure r ppm s) :=
  h.next.ite (h.wr.bind fun h₁ => h₁.setTreg.fault.next.ite h₁.next)

theorem State.Canon.thermReset (h : s.Canon) : s.thermReset.Canon :=
  h.resetRegs.setTherm.calAll.xoUpdate

/-! ### Machine/Sec -/

theorem State.Canon.setSec (h : s.Canon) {f} : (s.setSec f).Canon :=
  h.frame

theorem State.Canon.secReject (h : s.Canon) {off v} : (s.secReject off v).Canon :=
  h.reject

theorem State.Canon.endpointReset (h : s.Canon) : s.endpointReset.Canon :=
  h.resetRegs.wr.wr.wr.wr.wr.wr

theorem execPerstFall_canonical (h : s.Canon) : Canonical (execPerstFall s) :=
  h.setSec.endpointReset.next

theorem execPerstRise_canonical (h : s.Canon) : Canonical (execPerstRise s) :=
  h.setSec.endpointReset.set1.next

theorem execPcieLinkUp_canonical (h : s.Canon) {width speed} : Canonical (execPcieLinkUp width speed s) :=
  h.next.ite (h.wr.wr.set1.bind fun h₁ => h₁.fault.next.ite h₁.next)

theorem execPcieLinkDown_canonical (h : s.Canon) : Canonical (execPcieLinkDown s) :=
  h.next.ite h.wr.wr.wr.fault.next

theorem State.Canon.msixSweep (h : s.Canon) : s.msixSweep.Canon :=
  h.foldl (fun _ _ h₁ => h₁.msixSend.ite h₁)

theorem execMsixRequest_canonical (h : s.Canon) {v} : Canonical (execMsixRequest v s) :=
  h.msix.next

theorem execConfigRequest_canonical (h : s.Canon) {bme msixEn mask} :
    Canonical (execConfigRequest bme msixEn mask s) :=
  h.next.ite h.wr.wr.wr.msixSweep.next

theorem State.Canon.setBoot (h : s.Canon) {v} : (s.setBoot v).Canon :=
  h.wr

theorem State.Canon.bootRun (h : s.Canon) : s.bootRun.Canon :=
  h.setBoot.modeNow.calStart

theorem State.Canon.bootAccept (h : s.Canon) {source img} : (s.bootAccept source img).Canon :=
  h.wr.wr.wr.wr.bind fun h₂ => (h₂.set1.fault.ite h₂).setSec.bind fun h₄ => h₄.setBoot.ite h₄.bootRun

theorem State.Canon.bootRejected (h : s.Canon) {source reason} : (s.bootRejected source reason).Canon :=
  h.wr.fault.setSec.bind fun h₃ => h₃.setBoot.set1.fault.ite h₃.setBoot

theorem execBootImageCheck_canonical (h : s.Canon) {source image readOk dirOk} :
    Canonical (execBootImageCheck source image readOk dirOk s) := by
  unfold execBootImageCheck
  refine h.next.ite ?_
  dsimp only
  split
  · exact h.bootRejected.next
  · exact h.bootAccept.next

theorem State.Canon.hostGo (h : s.Canon) : s.hostGo.Canon :=
  h.secReject.ite (h.setBoot.setSec.ite h)

theorem execHostGo_canonical (h : s.Canon) : Canonical (execHostGo s) :=
  h.hostGo.next

theorem State.Canon.bootRelease (h : s.Canon) : s.bootRelease.Canon :=
  h.bootRun.ite h.secReject

theorem execBootRelease_canonical (h : s.Canon) : Canonical (execBootRelease s) :=
  h.bootRelease.next

theorem State.Canon.showFuses (h : s.Canon) : s.showFuses.Canon :=
  h.wr.wr.wr.wr.wr.wr

theorem State.Canon.blow (h : s.Canon) {w bits} : (s.blow w bits).Canon :=
  h.wr.showFuses

theorem State.Canon.mboxGo (h : s.Canon) {r} : (s.mboxGo r).Canon :=
  h.secReject.ite h.set1.setSec

theorem State.Canon.rangerReply (h : s.Canon) {result reply} : (s.rangerReply result reply).Canon :=
  h.setSec

theorem State.Canon.mboxNotAllowed (h : s.Canon) : s.mboxNotAllowed.Canon :=
  h.free.rangerReply

theorem execFwInfo_canonical (h : s.Canon) : Canonical (execFwInfo s) :=
  h.next.ite h.rangerReply.next

theorem execSelfTest_canonical (h : s.Canon) {failing} : Canonical (execSelfTest failing s) :=
  h.next.ite (h.mboxNotAllowed.next.ite (h.rangerReply.next.ite h.rangerReply.next))

theorem State.Canon.fuseAllowed (h : s.Canon) : (s.fuseAllowed).2.Canon :=
  h.permit

theorem execFuseProgram_canonical (h : s.Canon) {took} : Canonical (execFuseProgram took s) :=
  h.next.ite (h.fuseAllowed.bind fun h₁ => h₁.rangerReply.next.ite
    (h₁.fault.rangerReply.next.ite (h₁.mboxNotAllowed.next.ite
    (h₁.rangerReply.next.ite (h₁.blow.bind fun h₂ => h₂.rangerReply.next.ite h₂.fault.rangerReply.next)))))

theorem execLock_canonical (h : s.Canon) : Canonical (execLock s) :=
  h.next.ite (h.fuseAllowed.bind fun h₁ => h₁.rangerReply.next.ite
    (h₁.fault.rangerReply.next.ite (h₁.mboxNotAllowed.next.ite
    (h₁.rangerReply.next.ite h₁.blow.rangerReply.next))))

theorem execDebugLock_canonical (h : s.Canon) : Canonical (execDebugLock s) :=
  h.next.ite (h.fuseAllowed.bind fun h₁ => h₁.rangerReply.next.ite
    (h₁.mboxNotAllowed.next.ite h₁.blow.rangerReply.next))

theorem State.Canon.blowSvn {k n} (h : s.Canon) : (State.blowSvn k n s).Canon := by
  induction k generalizing s n with
  | zero => exact h
  | succ k ih =>
    unfold State.blowSvn
    exact h.ite (.ite (ih h) (ih h.blow))

theorem execSvnCommit_canonical (h : s.Canon) : Canonical (execSvnCommit s) :=
  h.next.ite (h.fuseAllowed.bind fun h₁ => h₁.rangerReply.next.ite
    (h₁.mboxNotAllowed.next.ite h₁.blowSvn.rangerReply.next))

theorem execFlashUpdate_canonical (h : s.Canon) {verified} : Canonical (execFlashUpdate verified s) := by
  unfold execFlashUpdate
  refine h.next.ite (h.mboxNotAllowed.next.ite (h.rangerReply.next.ite ?_))
  dsimp only
  split
  · exact h.dramRead.rangerReply.next
  · exact h.dramRead.frame.bind fun h₂ => (h₂.rangerReply.ite h₂.rangerReply).next

theorem execMboxAnswer_canonical (h : s.Canon) : Canonical (execMboxAnswer s) := by
  unfold execMboxAnswer
  refine h.next.ite ?_
  dsimp only
  split
  · exact h.next
  · exact (h.foldl (fun _ _ h₁ => h₁.wr)).wr.wr.set1.setSec.bind fun h₃ => (h₃.msix.ite h₃).next

theorem execMboxTimeout_canonical (h : s.Canon) : Canonical (execMboxTimeout s) :=
  h.next.ite h.wr.set1.setSec.fault.next

theorem State.Canon.secReset (h : s.Canon) : s.secReset.Canon := by
  unfold State.secReset
  exact h.resetRegs.setSec

/-! ### Machine/Recorder -/

theorem State.Canon.noteOpen (h : s.Canon) {k f} : (s.noteOpen k f).Canon :=
  h.frame

theorem State.Canon.logEntry (h : s.Canon) {ws} : (s.logEntry ws).Canon :=
  (h.set1.ite h).frame.wr

theorem State.Canon.faultRingEntry (h : s.Canon) {ws} : (s.faultRingEntry ws).Canon :=
  h.ite (h.set1.bump.ite h.devWrite.wr)

theorem State.Canon.faultMessage (h : s.Canon) : s.faultMessage.Canon :=
  h.ite (h.frame.msix.ite h.frame)

theorem State.Canon.faultPolicy (h : s.Canon) {f} : (s.faultPolicy f).Canon :=
  (h.set1.noteOpen.ite h).bind fun h₁ => h₁.noteOpen.haltFor.ite (h₁.noteOpen.ite h₁)

theorem execFaultRecord_canonical (h : s.Canon) : Canonical (execFaultRecord s) := by
  unfold execFaultRecord
  split
  · exact h.next
  · refine h.next.ite (State.Canon.bind ?_ fun h₃ => h₃.occur.faultMessage.faultPolicy.next)
    split
    · exact (h.frame.foldl (fun _ _ h₂ => h₂.logEntry.faultRingEntry)).noteOpen
    · exact h.frame.foldl (fun _ _ h₂ => h₂.logEntry.faultRingEntry)

theorem execFaultLost_canonical (h : s.Canon) : Canonical (execFaultLost s) :=
  h.next.ite h.bump.bump.set1.next

theorem execRingHoldoffEnd_canonical (h : s.Canon) {r} : Canonical (execRingHoldoffEnd r s) := by
  unfold execRingHoldoffEnd
  refine h.holdoffEnd.next.ite ?_
  split
  · exact h.next.ite (h.frame.bind fun h₁ => (h₁.faultMessage.ite h₁).next)
  · exact h.next

theorem execSramRowRemap_canonical (h : s.Canon) {a} : Canonical (execSramRowRemap a s) :=
  h.next.ite h.wr.bumpSat.next

theorem execWearEyeSwap_canonical (h : s.Canon) {n l} : Canonical (execWearEyeSwap n l s) := by
  unfold execWearEyeSwap
  dsimp only
  split
  · refine h.next.ite ?_
    split
    · exact h.startSwap.next
    · exact h.next
  · exact h.next

/-! ### Machine/Summary -/

theorem State.Canon.showSum (h : s.Canon) : s.showSum.Canon :=
  h.wr.wr

theorem State.Canon.sumTake (h : s.Canon) {flags} : (s.sumTake flags).Canon :=
  h.wr.frame.showSum

theorem State.Canon.sumRequest (h : s.Canon) {flags} : (s.sumRequest flags).Canon := by
  unfold State.sumRequest
  split
  · exact h.sumTake
  · exact h.frame.ite h.frame.showSum

theorem execResync_canonical (h : s.Canon) : Canonical (execResync s) :=
  h.sumRequest.next

theorem execSummaryWritten_canonical (h : s.Canon) : Canonical (execSummaryWritten s) := by
  have hr := fun (s : State) t (h : s.Canon) => h.resyncDone (t := t)
  unfold execSummaryWritten
  obtain ⟨R, hR⟩ := exists_eq' (a' := State.resyncDone)
  rw [hR] at hr ⊢
  split
  · exact h.next
  · extract_lets dest s₁ words top s₂ s₃ to_ blocks s₄ s₅
    have h₁ : s₁.Canon := h.ite h.devWrite
    have h₃ : s₃.Canon := h₁.frame.bump.showSum
    have h₅ : s₅.Canon := hr _ _ (h₃.ite h₃.sendTo)
    clear_value s₅
    split
    · exact h₅.frame.sumTake.next
    · exact h₅.next

/-! ### Machine/Top -/

theorem execHaltReq_canonical (h : s.Canon) : Canonical (execHaltReq s) :=
  h.haltFor.next

theorem State.Canon.setStop (h : s.Canon) {rest} : (s.setStop rest).Canon :=
  h.frame

theorem execHaltEntry_canonical (h : s.Canon) : Canonical (execHaltEntry s) := by
  unfold execHaltEntry
  split
  · exact h.next
  · exact h.next.ite h.quillHalt.setStop.frame.next
  · exact h.next.ite (h.setStop.bind fun h₁ => h₁.frame.coverMode.next.ite h₁.next)
  · exact h.setStop.bind fun h₁ => (h₁.sumRequest.ite h₁).next
  · exact h.next.ite (h.setStop.bind fun h₁ => (h₁.srBegin.ite h₁).next)
  · exact h.idleCameras.setStop.next
  · exact h.set1.wr.setStop.next

theorem State.Canon.timelineReset (h : s.Canon) : s.timelineReset.Canon :=
  (h.resetRegs.frame.foldl (fun _ _ h₃ => h₃.chooseGenerated.ite h₃)).armTrigger.formSim

theorem State.Canon.strokeReset (h : s.Canon) : s.strokeReset.Canon :=
  h.frame.resetRegs

theorem State.Canon.scribeReset (h : s.Canon) : s.scribeReset.Canon :=
  h.scribeStop.resetRegs

theorem State.Canon.dmaReset (h : s.Canon) : s.dmaReset.Canon :=
  h.dmaStop.resetRegs.foldl (fun _ _ h₁ => h₁.setDState.ite h₁)

theorem State.Canon.fineReset (h : s.Canon) : s.fineReset.Canon :=
  h.frame.resetRegs

theorem State.Canon.profileReset (h : s.Canon) : s.profileReset.Canon :=
  h.frame.withdraw.resetRegs

theorem State.Canon.sensorReset (h : s.Canon) : s.sensorReset.Canon :=
  h.frame.resetRegs

theorem State.Canon.resetBlock (h : s.Canon) {src} : (s.resetBlock src).Canon :=
  h.eventReset.ite (h.scribeReset.ite (h.dmaReset.ite
    (h.netReset.ite (h.chainReset.ite (h.profileReset.ite
    (h.sensorReset.ite (h.pipeReset.ite (h.stitchReset.ite
    (h.masterReset.ite (h.fineReset.ite (h.scalerReset.ite (h.quillReset.endDegrade.ite h))))))))))))

theorem State.Canon.blockReset (h : s.Canon) {src} : (s.blockReset src).Canon :=
  h.resetBlock.markReset

theorem execBlockReset_canonical (h : s.Canon) {source} : Canonical (execBlockReset source s) :=
  h.blockReset.recheck.next

theorem State.Canon.topReset (h : s.Canon) : s.topReset.Canon :=
  h.resetRegs.wr.wr.frame

theorem State.Canon.warmBlocks (h : s.Canon) : s.warmBlocks.Canon :=
  (((h.chainReset.scribeReset.dmaReset.foldl (fun _ _ h₂ => h₂.portReset)).foldl (fun _ _ h₃ =>
    h₃.pipeReset)).stitchReset.masterReset.fineReset.profileReset.sensorReset.scalerReset.foldl (fun _ _ h₅ =>
    h₅.quillReset)).eventReset.strokeReset.netReset.thermReset.secReset.topReset.timelineReset

theorem State.Canon.warmReset (h : s.Canon) : s.warmReset.Canon :=
  h.ite (h.reject.ite (h.holdCov.ite h).frame.warmBlocks.wr.bumpSat.modeNow.calStart.markReset)

theorem execWarmReset_canonical (h : s.Canon) : Canonical (execWarmReset s) :=
  h.warmReset.next

theorem execWarmTrainDone_canonical (h : s.Canon) : Canonical (execWarmTrainDone s) := by
  unfold execWarmTrainDone
  split
  · exact h.next
  · exact h.next.ite (h.frame.modeNow.bind fun h₁ => (h₁.sumRequest.ite h₁).next)

theorem State.Canon.coldReset (h : s.Canon) {keep} : (s.coldReset keep).Canon := by
  have hr := h.resetRegs (keep := keep) (lo := 0) (hi := 0x8000000)
  unfold State.coldReset
  extract_lets r fresh s'
  have hs : s'.Canon := ⟨hr.regsWf, rfl, fun _ he => absurd he List.not_mem_nil⟩
  exact hs.wr

theorem State.Canon.powerOn (h : s.Canon) : s.powerOn.Canon :=
  h.coldReset

theorem execPor_canonical (h : s.Canon) : Canonical (execPor s) :=
  h.powerOn.next

theorem execXoLoss_canonical (h : s.Canon) : Canonical (execXoLoss s) :=
  h.powerOn.next

theorem execResetNRetainFall_canonical (h : s.Canon) : Canonical (execResetNRetainFall s) :=
  h.frame.srBegin.next.ite h.next

theorem State.Canon.pinReset (h : s.Canon) {retain} : (s.pinReset retain).Canon := by
  unfold State.pinReset
  extract_lets d inst boundary s₁ s₂ s₃ kept
  have h₂ : s₂.Canon := h.coldReset.bumpSat.wr.wr
  have h₃ : s₃.Canon := h₂.frame
  exact State.Canon.ite (State.Canon.wr (h₃.putMem (dram := kept) h.dramWf)) h₃.wr

theorem execPinReset_canonical (h : s.Canon) : Canonical (execPinReset s) :=
  h.next.ite ((h.pinReset.next.ite h.next).ite h.pinReset.next)

theorem execResetRelease_canonical (h : s.Canon) {bootSrc hold retain bar2 mdDev mdRanks i2c} :
    Canonical (execResetRelease bootSrc hold retain bar2 mdDev mdRanks i2c s) :=
  h.next.ite (h.wr.wr.wr.wr.setSec.showFuses.wr.wr.pushSpan.occur.bind fun h₆ =>
    (h₆.ite h₆.fault).bind fun h₇ => (h₇.fault.ite h₇).setBoot.next)

/-! ### Machine/Play -/

theorem State.Canon.playGo (h : s.Canon) : s.playGo.Canon :=
  h.reject.ite h.set1.frameDram.frameDram.frameDram

theorem execPlayGo_canonical (h : s.Canon) : Canonical (execPlayGo s) :=
  h.playGo.next

theorem State.Canon.playRead (h : s.Canon) {l} : (s.playRead l).2.Canon := by
  have hr := fun a n => h.dramRead (a := a) (n := n) (cls := clsImage)
  unfold State.playRead
  obtain ⟨R, hR⟩ := exists_eq' (a' := State.dramRead)
  obtain ⟨F, hF⟩ := exists_eq' (a' := State.dramFits)
  rw [hF, hR]
  rw [hR] at hr
  refine .iteSnd h ?_
  extract_lets slot n r s' hd flags
  have hs : s'.Canon := by
    unfold s' r
    split
    · exact hr _ _
    · exact h
  split
  · exact hs
  · exact .iteSnd hs hs

theorem State.Canon.unplayable (h : s.Canon) {l rank} : (s.unplayable l rank).Canon := by
  unfold State.unplayable
  dsimp only
  split
  · exact h.bump.frameDram.ite h.bump.playRunEnd.frameDram
  · exact h.bump.frameDram

theorem State.Canon.playLine (h : s.Canon) {l} : (s.playLine l).Canon := by
  have hp := h.playRead (l := l)
  unfold State.playLine
  obtain ⟨P, hP⟩ := exists_eq' (a' := State.playRead)
  rw [hP] at hp ⊢
  extract_lets r src dram s₁ t s₂ s₃
  have h₁ : s₁.Canon := hp.frameDram
  have ht : t.2.Canon := by
    unfold t
    split
    · exact h₁.playRunEnd
    · exact h₁.unplayable
  exact (ht.jobStarts.jobStarts.ite ht.jobStarts).planeLine

theorem execPlayLine_canonical (h : s.Canon) : Canonical (execPlayLine s) := by
  unfold execPlayLine
  split
  · exact h.next
  · exact h.next.ite ((h.playLine.ite h).bind fun h₁ => (h₁.stopPlay.ite h₁).next)

theorem State.Canon.trainFail (h : s.Canon) {e} : (s.trainFail e).Canon :=
  h.fault

theorem State.Canon.dramTrained (h : s.Canon) {failed} : (s.dramTrained failed).Canon :=
  (h.foldl fun _ _ h => h.foldl fun _ _ h => h.wr).bind fun h =>
    h.ite (State.Canon.ite (h.wr.putMem rfl) h.wr).set1

theorem execDramInitDone_canonical (h : s.Canon) {restored failed} :
    Canonical (execDramInitDone restored failed s) :=
  h.next.ite (h.trainFail.next.ite ((((h.foldl (fun _ _ h₁ => h₁.trainFail)).ite h).foldl (fun _ _ h₂ =>
    h₂.trainFail)).srExit.dramTrained.bind fun h₃ => (h₃.modeNow.ite h₃).next))

theorem State.Canon.complete (h : s.Canon) {c} : (s.complete c).Canon :=
  h.frame

theorem State.Canon.bar2Serve (h : s.Canon) {write a bytes len} : (s.bar2Serve write a bytes len).Canon :=
  h.permit.bind fun h₁ => (h₁.ite h₁.complete).ite
    (h₁.dramPut.complete.ite (h₁.frameDram.ite h₁.dramRead.complete))

theorem execBar2Access_canonical (h : s.Canon) {write addr bytes len errs} :
    Canonical (execBar2Access write addr bytes len errs s) :=
  h.next.ite (h.complete.fault.next.ite (h.complete.fault.next.ite (h.ite h.addFlips).bar2Serve.recheck.next))

/-! ### Machine/RegPort -/

theorem State.Canon.putWord (h : s.Canon) {shadow off v} : (s.putWord shadow off v).Canon :=
  h.setShadow.ite h.setReg

theorem State.Canon.store (h : s.Canon) {off v} : (s.store off v).Canon := by
  unfold State.store
  split
  · exact h.putWord.putWord.ite h.putWord
  · exact h

/-! ### Machine/WriteWeb -/

theorem State.Canon.writeTop (h : s.Canon) {off v} : (s.writeTop off v).Canon :=
  h.store.bind fun h₁ => ((h₁.sumRequest.ite h₁).bind fun h₂ => (h₂.haltFor.ite h₂).bind fun h₃ =>
    h₃.warmReset.ite h₃).ite h₁

theorem State.Canon.writeTlCtrl (h : s.Canon) {v} : (s.writeTlCtrl v).Canon :=
  h.tlReject.ite (h.wr.wr.bind fun h₁ => (h₁.preset.ite h₁).formSim.bind fun h₃ =>
    (h₃.runStart.ite (h₃.runStop.ite h₃)).bind fun h₄ => h₄.crossLatch.ite h₄)

theorem State.Canon.writeEnc (h : s.Canon) {e off v} : (s.writeEnc e off v).Canon :=
  h.store.bind fun h₁ => (h.tlReject.ite (h₁.set1.ite h₁).setEnc).ite ((h.tlReject.ite h₁).ite h₁)

theorem State.Canon.writeFrameGen (h : s.Canon) {f off v} : (s.writeFrameGen f off v).Canon :=
  h.store.bind fun h₁ => (h.tlReject.ite (h₁.ite
    (h₁.chooseGenerated.ite (h₁.withdrawOpen.offerCommits.ite h₁)))).ite ((h₁.chooseGenerated.ite h₁).ite h₁)

theorem State.Canon.writeCompare (h : s.Canon) {c off v} : (s.writeCompare c off v).Canon :=
  h.store.bind fun h₁ => (h.tlReject.ite (h₁.wr.compareEnable.ite h₁)).ite
    (h.compareTarget.ite ((h.tlReject.ite h₁).ite h₁))

theorem State.Canon.writeTimeline (h : s.Canon) {off v} : (s.writeTimeline off v).Canon := by
  unfold State.writeTimeline
  refine h.store.bind fun h₁ => h.writeTlCtrl.ite
    ((h.tlReject.ite h₁).ite (h₁.formSim.ite (h₁.updVelocity.ite
    ((h.tlReject.ite (h₁.ite h₁.armTrigger)).ite ?_))))
  split
  · exact h.writeEnc
  · split
    · exact h.writeFrameGen
    · split
      · exact h.tlReject.ite h₁
      · split
        · exact h.writeCompare
        · split
          · exact h.markerQueue.ite h₁
          · exact h₁

theorem State.Canon.writeStrokeCtrl (h : s.Canon) {k v} : (s.writeStrokeCtrl k v).Canon :=
  h.strokeReject.ite (h.store.wr.bind fun h₁ => h₁.strokeEnable.ite (h₁.strokeDisable.ite h₁))

theorem State.Canon.writeStrokeReg (h : s.Canon) {k off v} : (s.writeStrokeReg k off v).Canon :=
  h.store.bind fun h₁ => h.writeStrokeCtrl.ite
    (h.strokeRatio.ite ((h.strokeReject.ite h₁).ite
    (h.writeTrim.ite (h.addTrim.ite ((h.strokeReject.ite h₁).ite h₁)))))

theorem State.Canon.writeStroke (h : s.Canon) {off v} : (s.writeStroke off v).Canon := by
  unfold State.writeStroke
  refine h.strokeStart.ite ?_
  split
  · exact h.writeStrokeReg
  · exact h

theorem State.Canon.eventReject (h : s.Canon) {off v} : (s.eventReject off v).Canon :=
  h.reject

theorem State.Canon.writePinCtrl (h : s.Canon) {n v} : (s.writePinCtrl n v).Canon :=
  h.eventReject.ite (h.store.bind fun h₁ => h₁.ite h₁.pinPulseEnd)

theorem State.Canon.writeEvent (h : s.Canon) {off v} : (s.writeEvent off v).Canon := by
  unfold State.writeEvent
  refine h.store.bind fun h₁ => (h.blockReset.ite h₁).ite
    (h.eventSoft.ite (h.writeFlags.ite (h₁.evShow.ite ?_)))
  split
  · exact h.eventReject.ite h₁
  · split
    · exact h₁.evShow
    · split
      · exact h.writePinCtrl.ite (h.eventReject.ite h₁)
      · exact h₁

/-! ### Machine/WriteLine -/

theorem State.Canon.writeZlCtrl (h : s.Canon) {n v} : (s.writeZlCtrl n v).Canon :=
  h.zlReject.ite (h.portReset.markReset.ite (h.store.wr.wr.bind fun h₁ =>
    (h₁.ite h₁.resetMaps).wr.bind fun h₃ => (h₃.ite h₃.idleReq).bind fun h₄ =>
    (h₄.ite (h₄.portDisable.ite h₄.portEnable)).bind fun h₅ => h₅.retrain.ite h₅))

theorem State.Canon.writeZlLane (h : s.Canon) {n l off v} : (s.writeZlLane n l off v).Canon :=
  h.zlReject.ite (h.zlReject.ite h.store)

theorem State.Canon.writeZl (h : s.Canon) {off v} : (s.writeZl off v).Canon := by
  unfold State.writeZl
  refine h.store.bind fun h₁ => h.writeZlCtrl.ite
    ((h₁.plannedSwap.ite h₁).ite ((h.zlReject.ite (h₁.trainGoPort.ite h₁)).ite ?_))
  split
  · exact h.writeZlLane
  · exact h₁

theorem State.Canon.writeCtx (h : s.Canon) {p x off v} : (s.writeCtx p x off v).Canon := by
  unfold State.writeCtx
  refine h.store.bind fun h₁ => h.reject.bind fun h₂ =>
    (h₂.ite h₁.offerCommit).ite (State.Canon.ite ?_
    ((h₂.ite h₁).ite ((h₂.ite h₁).ite (h₁.setPx.updCtx.ite ((h₂.ite h₁).ite ((h₁.mboxSend.ite h₁).ite h₁))))))
  split
  · exact h.ctxCommit
  · exact h.ctxCancel
  · exact h₂
  · exact h

theorem State.Canon.writePipe (h : s.Canon) {off v} : (s.writePipe off v).Canon := by
  unfold State.writePipe
  refine (h.blockReset.ite h.pipeCtrl).ite ?_
  split
  · exact h.writeCtx
  · exact h.store

theorem State.Canon.widthChanged (h : s.Canon) : s.widthChanged.Canon :=
  h.wr.wr

theorem State.Canon.writeStitch (h : s.Canon) {off v} : (s.writeStitch off v).Canon := by
  unfold State.writeStitch
  refine h.store.bind fun h₁ => (h.blockReset.ite (h.stitchEnable.ite (h.stitchDisable.ite h))).ite
    (State.Canon.ite ?_ ((h.stitchReject.ite h₁.widthChanged).ite (h₁.offerCommit.ite ?_)))
  · split
    · exact h.stitchCommit
    · exact h.stitchCommit
    · exact h.stitchReject
    · exact h
  · split
    · exact h.stitchReject.ite h₁
    · exact h₁

theorem State.Canon.writeFine (h : s.Canon) {off v} : (s.writeFine off v).Canon := by
  unfold State.writeFine
  refine h.store.bind fun h₁ => (h.blockReset.ite (h₁.seedWrite.ite h₁)).ite
    ((h.fineReject.ite h₁).ite ((h.fineReject.ite ((h₁.attrSwap.ite h₁).bind fun h₂ =>
    h₂.set1.ite h₂)).ite ((h.fineReject.ite ?_).ite h₁)))
  split
  · exact h.fineReject.ite h₁
  · exact h.fineReject.ite h₁
  · exact h₁

theorem State.Canon.writeProfCh (h : s.Canon) {c r off v} : (s.writeProfCh c r off v).Canon :=
  h.store.bind fun h₁ => (h.profReject.ite (h₁.wr.bind fun h₂ =>
    h₂.profEnable.ite (h₂.profDisable.ite h₂))).ite (h.profReject.ite ((h₁.detClose.ite h₁).ite h₁))

theorem State.Canon.writeProfile (h : s.Canon) {off v} : (s.writeProfile off v).Canon := by
  unfold State.writeProfile
  refine h.store.bind fun h₁ => (h.blockReset.ite h₁).ite (h.profSyncMask.ite ?_)
  split
  · exact h.profSyncAt
  · split
    · exact h.profReject.ite h₁
    · split
      · exact h.profReject.ite h₁
      · split
        · exact h.writeProfCh
        · exact h₁

theorem State.Canon.writeSensor (h : s.Canon) {off v} : (s.writeSensor off v).Canon :=
  h.store.bind fun h₁ => h.reject.bind fun h₂ =>
    (h₂.ite (h.blockReset.ite h₁.wr.sensorEn)).ite ((h₂.ite h₁).ite h₁)

theorem State.Canon.writeMaster (h : s.Canon) {off v} : (s.writeMaster off v).Canon := by
  unfold State.writeMaster
  refine h.store.bind fun h₁ => h.masReject.ite
    ((h.blockReset.ite (h.masReject.ite h₁.wr.masterEn)).ite
    (State.Canon.ite ?_ (h₁.frame.updMaster.ite
    (h₁.offerCommit.ite (h.ledgerWr.ite (((h₁.relearn.ite h₁).bind fun h₂ =>
    h₂.assertReady.ite h₂).ite h₁))))))
  split
  · exact h.masterCommit
  · exact h.masterCommit
  · exact h.masReject
  · exact h

theorem State.Canon.writeScaler (h : s.Canon) {off v} : (s.writeScaler off v).Canon := by
  unfold State.writeScaler
  refine h.store.bind fun h₁ => h.scalerReject.ite ((h.blockReset.ite (h₁.wr.bind fun h₂ =>
    h₂.scalerEnable.ite (h₂.scalerDisable.ite h₂))).ite
    (State.Canon.ite ?_ (h₁.offerCommit.ite (h₁.armVerdict.ite (h₁.updSnip.ite ?_)))))
  · split
    · exact h.scalerCommit
    · exact h.scalerCommit
    · exact h.scalerReject
    · exact h
  · split
    · exact h.ringRd.ite h₁
    · exact h₁

theorem State.Canon.writeJob (h : s.Canon) {q j off v} : (s.writeJob q j off v).Canon :=
  h.store.bind fun h₁ => (h.quillReject.ite (h₁.wr.bind fun h₂ =>
    h₂.jobEnable.ite (h₂.jobDisable.ite h₂))).ite (h.quillReject.ite h₁.updPitch)

theorem State.Canon.writeQuill (h : s.Canon) {off v} : (s.writeQuill off v).Canon := by
  unfold State.writeQuill
  obtain ⟨A, hA⟩ := exists_eq' (a' := arr)
  rw [hA]
  extract_lets q p
  have hp : p.Canon := h.store
  refine h.qWrite.ite ((h.blockReset.ite hp).ite ((hp.kernelLoadGo.ite hp).ite ?_))
  split
  · exact h.writeJob
  · split
    · exact (hp.nibRestartReq.ite hp).bind fun h₂ => h₂.spareNow.ite h₂
    · exact hp

/-! ### Machine/WriteSystem -/

theorem State.Canon.writeQueue (h : s.Canon) {q r off v} : (s.writeQueue q r off v).Canon :=
  h.store.bind fun h₁ => h.reject.bind fun h₂ => ((h₁.qStop.ite h₁).bind fun h₃ =>
    h₃.qStart.ite h₃).ite ((h₂.ite h₁.qShow).ite ((h₂.ite h₁.qShow).ite ((h₁.ite h₂).ite (h.qTail.ite h₁))))

theorem State.Canon.writeScribe (h : s.Canon) {off v} : (s.writeScribe off v).Canon := by
  unfold State.writeScribe
  refine (h.blockReset.ite h).ite ?_
  split
  · exact h.writeQueue
  · exact h.store

theorem State.Canon.writeDmaCtrl (h : s.Canon) {c v} : (s.writeDmaCtrl c v).Canon :=
  h.reject.ite (h.store.wr.bind fun h₂ => (h₂.setDState.ite h₂).bind fun h₃ =>
    (h₃.dStop.ite h₃).bind fun h₄ => h₄.dStart.ite h₄)

theorem State.Canon.writeDma (h : s.Canon) {off v} : (s.writeDma off v).Canon := by
  unfold State.writeDma
  refine (h.blockReset.ite h).ite ?_
  split
  · exact h.writeDmaCtrl
  · exact h.reject.ite h.store
  · exact h.store

theorem State.Canon.writeTherm (h : s.Canon) {off v} : (s.writeTherm off v).Canon := by
  unfold State.writeTherm
  refine h.store.bind fun h₁ => (h₁.wr.wr.tableEnable.bind fun h₃ =>
    h₃.calGo.ite h₃).ite ((h.thermReject.ite h₁).ite
    ((h.thermReject.ite h₁.xoUpdate).ite (h₁.xoUpdate.ite ?_)))
  split
  · exact h.thermReject.ite h₁
  · split
    · exact h.calvWrite
    · exact h₁

theorem State.Canon.writeSec (h : s.Canon) {r off v} : (s.writeSec r off v).Canon :=
  h.store.bind fun h₁ => ((h.hostGo.ite h).bind fun h₂ =>
    h₂.bootRelease.ite h₂).ite ((h₁.mboxGo.ite h₁).ite (h.setReg.msixSweep.ite h₁))

theorem State.Canon.writeTcmp (h : s.Canon) {u r off v} : (s.writeTcmp u r off v).Canon :=
  h.store.bind fun h₁ => (h₁.wr.tcEnable.ite h₁).ite (h.tcTarget.ite ((h.netReject.ite h₁).ite h₁))

theorem State.Canon.writeEth (h : s.Canon) {e r off v} : (s.writeEth e r off v).Canon :=
  h.store.bind fun h₁ => (h.netReject.ite h₁).ite ((h.netReject.ite h₁).ite h₁)

theorem State.Canon.writeNet (h : s.Canon) {off v} : (s.writeNet off v).Canon := by
  unfold State.writeNet
  refine (h.blockReset.ite h.tcorrEn).ite (h.ptpIncr.ite
    (h.ptpSet.ite (h.ptpAdj.ite ((h.netReject.ite h.store).ite ?_))))
  split
  · exact h.writeTcmp
  · split
    · exact h.writeEth
    · exact h.store

theorem State.Canon.writeChain (h : s.Canon) {off v} : (s.writeChain off v).Canon :=
  h.store.bind fun h₁ => h.reject.bind fun h₂ =>
    (h.blockReset.ite (h.ite (h₂.ite h.wr)).chainEnable).ite
    ((h₂.ite h₁).ite ((h₂.ite h₁).ite ((h₂.ite h₁).ite ((h₂.ite h₁).ite h₁))))

theorem State.Canon.dramReject (h : s.Canon) {off v} : (s.dramReject off v).Canon :=
  h.reject

theorem State.Canon.writeDramCfg (h : s.Canon) {v} : (s.writeDramCfg v).Canon :=
  h.store.bind fun h₁ => h.dramReject.ite (h₁.ite ((h₁.foldl (fun _ _ h₂ => h₂.wr)).bind fun h₂ =>
    h₂.dramReject.ite h₂))

theorem State.Canon.trainIssue (h : s.Canon) {ch} : (s.trainIssue ch).Canon := by
  unfold State.trainIssue
  dsimp only
  exact h.trainGo (fun _ h₁ => h₁.free.trainSend.wr.ite (h₁.trainWrite.ite (((h₁.pair.foldlSnd (fun _ _ h₂ =>
    (h₂.pair.foldlSnd (fun _ _ h₃ => h₃.free.pair)).pair)).bind fun h₂ =>
    h₂.trainCompare.ite h₂.trainPairs).ite h₁.trainSend)))

theorem State.Canon.writeDramCh (h : s.Canon) {ch r off v} : (s.writeDramCh ch r off v).Canon :=
  h.store.bind fun h₁ => (h.dramReject.ite (h₁.ite h.dramReject)).ite
    ((h₁.ite h.dramReject).ite ((h.dramReject.ite (h₁.trainIssue.ite h₁)).ite h₁))

theorem State.Canon.writeDram (h : s.Canon) {off v} : (s.writeDram off v).Canon := by
  unfold State.writeDram
  refine h.store.bind fun h₁ => h.writeDramCfg.ite (((h₁.srEnter.ite h₁).bind fun h₂ =>
    h₂.srExit.ite h₂).ite (h.shareWrite.ite ((h.dramReject.ite h₁).ite
    ((h₁.migReq.recheck.ite h₁).ite ((h.dramReject.ite h₁.wr.updSnip).ite ((h₁.playGo.ite h₁).ite ?_))))))
  split
  · exact h.writeDramCh
  · exact h₁

theorem State.Canon.writeAt (h : s.Canon) {r off v} : (s.writeAt r off v).Canon := by
  unfold State.writeAt
  split
  · exact h.writeTop
  · exact h.writeTimeline
  · exact h.writeStroke
  · exact h.writeEvent
  · exact h.writeScribe
  · exact h.writeDma
  · exact h.writeTherm
  · exact h.writeSec
  · exact h.writeNet
  · exact h.writeChain
  · exact h.writeProfile
  · exact h.writeSensor
  · exact h.writeStitch
  · exact h.writeMaster
  · exact h.writeFine
  · exact h.writeScaler
  · exact h.writeDram.ite (h.writeZl.ite (h.writePipe.ite (h.writeQuill.ite h)))

/-! ### Machine/Bus -/

theorem State.Canon.writeWord (h : s.Canon) {r off v} : (s.writeWord r off v).Canon :=
  h.ite (h.frame.ite ((h.frame.bind fun h₁ => h₁.writeAt.writeAt.ite h₁.writeAt).ite h.writeAt))

theorem State.Canon.readClear (h : s.Canon) {off half} : (s.readClear off half).Canon := by
  unfold State.readClear
  split
  · exact h.ite ((h.ite h.setReg).bind fun h₁ => (h₁.setReg.ite h₁).bind fun h₂ => h₂.evShow.ite h₂)
  · exact h

theorem State.Canon.readWord (h : s.Canon) {off} : (s.readWord off).2.Canon := by
  unfold State.readWord
  refine .iteSnd h (.iteSnd h.qRead ?_)
  extract_lets s'
  have hs : s'.Canon := by
    unfold s'
    split
    · exact h.popProbe
    · exact h
  clear_value s'
  refine .iteSnd hs.frame.readClear (.iteSnd ?_ hs.readClear)
  split
  · exact hs.frame
  · exact hs.readClear

theorem State.Canon.busRead (h : s.Canon) {r off addr} : (s.busRead r off addr).2.Canon := by
  unfold State.busRead
  dsimp only
  split
  · exact h.permit.readWord.pair
  · exact h.permit.pair

theorem State.Canon.busWrite (h : s.Canon) {r off addr v} : (s.busWrite r off addr v).2.Canon := by
  unfold State.busWrite
  dsimp only
  split
  · exact h.permit.writeWord.pair
  · exact h.permit.pair

theorem State.Canon.accRead (h : s.Canon) {r cls a n host} : (s.accRead r cls a n host).2.Canon := by
  unfold State.accRead
  refine .iteSnd (.iteSnd h ?_) h.devRead
  extract_lets t
  have ht : t.2.Canon := State.Canon.foldlSnd (r := (some [], s)) h fun x i hx => by
    split
    · exact hx
    · exact hx.busRead
  clear_value t
  split
  · exact ht
  · exact ht

theorem State.Canon.accWrite (h : s.Canon) {r cls hb a bs} : (s.accWrite r cls hb a bs).2.Canon := by
  unfold State.accWrite
  split
  · split
    · exact h.pair
    · refine (h.pair.foldlSnd (fun _ _ h₁ => ?_)).pair
      split
      · exact h₁
      · exact h₁.busWrite
  · exact h.devWrite

theorem State.Canon.hostWord (h : s.Canon) {addr be data off} : (s.hostWord addr be data off).Canon :=
  h.busWrite.ite h

theorem execRegisterWrite_canonical (h : s.Canon) {addr len be data} :
    Canonical (execRegisterWrite addr len be data s) := by
  unfold execRegisterWrite
  refine h.next.ite (h.complete.next.ite ?_)
  split
  · exact h.complete.next
  · exact (h.foldl (fun _ _ h₁ => h₁.hostWord)).recheck.next

theorem execRegisterRead_canonical (h : s.Canon) {addr len be} :
    Canonical (execRegisterRead addr len be s) := by
  unfold execRegisterRead
  refine h.next.ite ?_
  dsimp only
  split
  · exact h.complete.next
  · refine (h.pair.foldlSnd (fun _ _ h₁ => ?_)).complete.next
    split
    · exact h₁
    · exact h₁.busRead.pair

/-! ### Machine/Scribe -/

theorem State.Canon.qBegin (h : s.Canon) {q} : (s.qBegin q).Canon :=
  h.frame.setScq.bump

theorem State.Canon.runCmd (h : s.Canon) {q op act} (hact : ∀ x0 x1 s3, s3.Canon → (act x0 x1 s3).Canon) :
    (s.runCmd q op act).Canon := by
  unfold State.runCmd
  refine State.Canon.ite ?_ h
  split
  · exact (hact _ _ _ h.qBegin).qShow.ite h
  · exact h

theorem State.Canon.qWait (h : s.Canon) {q w us cont} : (s.qWait q w us cont).Canon :=
  h.setScq.setQState

theorem State.Canon.qDone (h : s.Canon) {q c} : (s.qDone q c).Canon := by
  unfold State.qDone
  refine State.Canon.bind ?_ fun h₁ => h₁.qPass
  split
  · exact h.setScq.wr
  · exact h

theorem State.Canon.accCheck (h : s.Canon) {r a write} : (s.accCheck r a write).2.Canon :=
  .iteSnd h h.permit

theorem State.Canon.qCheck (h : s.Canon) {q as_} : (s.qCheck q as_).2.Canon := by
  unfold State.qCheck
  refine h.pair.foldlSnd (fun _ _ h₁ => ?_)
  split
  · exact h₁
  · dsimp only
    split
    · exact h₁.accCheck.pair
    · exact h₁.accCheck.qFault.pair

theorem State.Canon.qPost (h : s.Canon) {q delay act} : (s.qPost q delay act).Canon :=
  h.frame

theorem State.Canon.postFault (h : s.Canon) {p code addr} : (s.postFault p code addr).Canon :=
  h.qFault

theorem State.Canon.postEnd (h : s.Canon) {p a r good} (hgood : ∀ x0, (good x0).Canon) :
    (s.postEnd p a r good).Canon := by
  unfold State.postEnd
  split
  · exact hgood _
  · exact h.postFault
  · exact h.postFault
  · exact h.postFault
  · exact h

theorem State.Canon.commitMask (h : s.Canon) {mask cancel} : (s.commitMask mask cancel).Canon := by
  unfold State.commitMask
  refine (h.foldl (fun _ _ h₁ => State.Canon.ite ?_ h₁)).bind fun h₁ =>
    (h₁.stitchCommit.ite h₁).bind fun h₂ => (h₂.masterCommit.ite h₂).bind fun h₃ => h₃.scalerCommit.ite h₃
  split
  · exact h₁.ctxCancel.ite h₁.ctxCommit
  · exact h₁.set1

theorem State.Canon.postApply (h : s.Canon) {p} : (s.postApply p).Canon := by
  unfold State.postApply
  dsimp only
  split
  · exact h.commitMask
  · exact h.accWrite.bind fun h₁ => h₁.postEnd (fun _ => h₁)
  · exact h.accRead.bind fun h₁ => h₁.postEnd (fun _ => h₁.accWrite.bind fun h₂ => h₂.postEnd (fun _ => h₂))
  · exact h.accRead.bind fun h₁ => h₁.postEnd (fun _ => h₁.accWrite.bind fun h₂ => h₂.postEnd (fun _ =>
      h₂.wr.bind fun h₃ => h₃.qWake.ite h₃))

theorem State.Canon.postTick (h : s.Canon) : s.postTick.Canon :=
  h.frame.foldl (fun _ _ h₂ => h₂.frame.ite ((h₂.postFault.ite h₂.frame).ite h₂.postApply))

theorem State.Canon.signal (h : s.Canon) {producer hop ev irq ch vec} :
    (s.signal producer hop ev irq ch vec).Canon :=
  (h.occurOn.ite h).bind fun h₁ => h₁.msix.ite h₁

theorem State.Canon.fenceTick (h : s.Canon) : s.fenceTick.Canon := by
  unfold State.fenceTick
  refine h.foldl (fun _ _ h₁ => h₁.ite ?_)
  dsimp only
  split
  · exact h₁.qWake
  · exact h₁.signal.qWake
  · exact h₁

theorem execCmdNop_canonical (h : s.Canon) {q} : Canonical (execCmdNop q s) :=
  (h.runCmd (fun _ _ _ h₁ => h₁.qDone)).next

theorem execCmdWrite_canonical (h : s.Canon) {q host} : Canonical (execCmdWrite q host s) :=
  (h.runCmd (fun _ _ _ h₁ => h₁.qCheck.bind fun h₂ => h₂.ite h₂.qPost.qDone)).next

theorem State.Canon.issueMany {q base i vs} (h : s.Canon) : (s.issueMany q base i vs).2.Canon := by
  induction vs generalizing s i with
  | nil => exact h
  | cons v vs ih =>
    unfold State.issueMany
    dsimp only
    split
    · exact h.qCheck
    · exact ih h.qCheck.qPost

theorem execCmdWritem_canonical (h : s.Canon) {q} : Canonical (execCmdWritem q s) :=
  (h.runCmd (fun _ _ _ h₁ => h₁.issueMany.bind fun h₂ => h₂.ite h₂.setScq.qDone)).next

theorem execCmdRead_canonical (h : s.Canon) {q host} : Canonical (execCmdRead q host s) :=
  (h.runCmd (fun _ _ _ h₁ => h₁.qCheck.bind fun h₂ => h₂.ite h₂.qPost.qWait)).next

theorem execCmdWaitpos_canonical (h : s.Canon) {q} : Canonical (execCmdWaitpos q s) :=
  (h.runCmd (fun _ _ _ h₁ => h₁.set1.qDone.ite (h₁.offer.bind fun h₂ => h₂.qWait.ite h₂.qFault))).next

theorem execWaitposWake_canonical (h : s.Canon) : Canonical (execWaitposWake s) := by
  unfold execWaitposWake
  split
  · exact h.next
  · rename_i e
    split
    · exact ((h.takeDue e).set1.ite (h.takeDue e)).qWake.next
    · exact (h.takeDue e).next

theorem execCmdWaittime_canonical (h : s.Canon) {q} : Canonical (execCmdWaittime q s) :=
  (h.runCmd (fun _ _ _ h₁ => h₁.qWait.ite (h₁.set1.bind fun h₂ => (h₂.ite h₂.fault).qDone))).next

theorem execWaittimeReached_canonical (h : s.Canon) {q} : Canonical (execWaittimeReached q s) := by
  unfold execWaittimeReached
  split
  · exact (h.ite h.qWake).next
  · exact h.next

theorem execCmdWaitev_canonical (h : s.Canon) {q} : Canonical (execCmdWaitev q s) :=
  (h.runCmd (fun _ _ _ h₁ => (h₁.wr.ite h₁).bind fun h₂ => h₂.qDone.ite h₂.qWait.wr.qTake)).next

theorem execCmdWaitTimeout_canonical (h : s.Canon) {q} : Canonical (execCmdWaitTimeout q s) := by
  unfold execCmdWaitTimeout
  dsimp only
  split
  · exact h.next.ite (h.fault.set1.bind fun h₂ => h₂.qWake.next.ite h₂.wr.bumpSat.qRest.next)
  · exact h.next

theorem execCmdSignal_canonical (h : s.Canon) {q} : Canonical (execCmdSignal q s) :=
  (h.runCmd (fun _ _ _ h₁ => h₁.signal.qDone.ite h₁.qWait)).next

theorem execCmdArm_canonical (h : s.Canon) {q} : Canonical (execCmdArm q s) := by
  unfold execCmdArm
  refine (h.runCmd (fun _ _ _ h₁ => ?_)).next
  dsimp only
  split
  · exact h₁.qFault
  · exact (h₁.qWait.ite h₁).armRequest.ite (h₁.qWait.ite h₁).armRequest.setScq.wr.qPass

theorem execCmdCommit_canonical (h : s.Canon) {q} : Canonical (execCmdCommit q s) :=
  (h.runCmd (fun _ _ _ h₁ => h₁.qPost.qDone)).next

theorem execCmdMode_canonical (h : s.Canon) {q} : Canonical (execCmdMode q s) := by
  unfold execCmdMode
  refine (h.runCmd (fun _ _ _ h₁ => ?_)).next
  dsimp only
  split
  · exact h₁.qFault
  · exact h₁.qDone.modeRequest

theorem State.Canon.qSkip {n q} (h : s.Canon) : (State.qSkip n q s).Canon := by
  induction n generalizing s with
  | zero => exact h
  | succ n ih =>
    unfold State.qSkip
    dsimp only
    split
    · exact h
    · exact h.ite (ih h.setScq.qPass)

theorem execCmdLoop_canonical (h : s.Canon) {q} : Canonical (execCmdLoop q s) :=
  (h.runCmd (fun _ _ _ h₁ => h₁.qPass.setScq.qSkip.ite (h₁.qFault.ite h₁.setScq.qPass))).next

theorem State.Canon.qGoto (h : s.Canon) {q a} : (s.qGoto q a).Canon :=
  h.setScq.wr

theorem execCmdEndloop_canonical (h : s.Canon) {q} : Canonical (execCmdEndloop q s) := by
  unfold execCmdEndloop
  refine (h.runCmd (fun _ _ _ h₁ => ?_)).next
  dsimp only
  split
  · exact h₁.qFault
  · split
    · exact h₁.qGoto
    · exact h₁.setScq.qPass.ite h₁.setScq.qGoto

theorem State.Canon.leaveRing (h : s.Canon) {q pc} : (s.leaveRing q pc).Canon :=
  h.setScq.wr.ite h

theorem execCmdJump_canonical (h : s.Canon) {q} : Canonical (execCmdJump q s) :=
  (h.runCmd (fun _ _ _ h₁ => h₁.qPass.ite (h₁.qFault.ite h₁.leaveRing.qGoto))).next

theorem execCmdCall_canonical (h : s.Canon) {q} : Canonical (execCmdCall q s) :=
  (h.runCmd (fun _ _ _ h₁ => h₁.qPass.ite (h₁.qFault.ite (h₁.qFault.ite h₁.setScq.leaveRing.qGoto)))).next

theorem execCmdRet_canonical (h : s.Canon) {q} : Canonical (execCmdRet q s) := by
  unfold execCmdRet
  refine (h.runCmd (fun _ _ _ h₁ => ?_)).next
  dsimp only
  split
  · exact h₁.qFault
  · exact h₁.setScq.qGoto

theorem execCmdFence_canonical (h : s.Canon) {q} : Canonical (execCmdFence q s) :=
  (h.runCmd (fun _ _ _ h₁ => h₁.qDone.ite h₁.qWait)).next

theorem execCmdResync_canonical (h : s.Canon) {q} : Canonical (execCmdResync q s) :=
  (h.runCmd (fun _ _ _ h₁ => h₁.qWait.sumRequest.ite h₁.qDone.sumRequest)).next

theorem execCmdHalt_canonical (h : s.Canon) {q} : Canonical (execCmdHalt q s) :=
  (h.runCmd (fun _ _ _ h₁ => h₁.qPass.qShow.qRest)).next

theorem execCmdIllegal_canonical (h : s.Canon) {q} : Canonical (execCmdIllegal q s) := by
  unfold execCmdIllegal
  refine Canonical.ite ?_ h.next
  split
  · exact h.next.ite h.qBegin.qFault.next
  · exact h.next

theorem fetchWords_succ {n q ws host} : State.fetchWords (n+1) s q ws host =
    (let a := s.wordAfter q (s.qPc q) ws.length
    let t := s.accRead reqScribe clsDma a 8 (match host with
      | [] => []
      | h :: _ => leBytes 8 h)
    match t.1 with
    | .ok bs => State.fetchWords n t.2 q (ws ++ [ofLeBytes bs]) (if devSpace a = 1 then host.drop 1 else host)
    | r => (some (r, a), ws, t.2)) := by
  obtain ⟨A, hA⟩ := exists_eq' (a' := State.accRead)
  obtain ⟨D, hD⟩ := exists_eq' (a' := State.fetchWords)
  rw [hD, hA]
  delta State.fetchWords State.fetchWords._f at hD
  rw [hA] at hD
  subst hD
  rfl

theorem State.Canon.fetchWords {n q ws host} (h : s.Canon) : (State.fetchWords n s q ws host).2.2.Canon := by
  have ha := fun (s : State) r cls a n host (h : s.Canon) =>
    h.accRead (r := r) (cls := cls) (a := a) (n := n) (host := host)
  induction n generalizing s ws host with
  | zero => exact h
  | succ n ih =>
    rw [fetchWords_succ]
    obtain ⟨A, hA⟩ := exists_eq' (a' := State.accRead)
    rw [hA] at ha ⊢
    dsimp only
    split
    · exact ih (ha _ _ _ _ _ _ h)
    · exact ha _ _ _ _ _ _ h

theorem execCmdFetch_canonical (h : s.Canon) {q host} : Canonical (execCmdFetch q host s) := by
  unfold execCmdFetch
  refine h.next.ite ?_
  dsimp only
  split
  · exact h.fetchWords.setScq.qSkip.qShow.next
  · refine h.fetchWords.setScq.qSkip.qShow.next.ite ?_
    split
    · exact h.fetchWords.setScq.qFault.next
    · exact h.fetchWords.setScq.qFault.next
    · exact h.fetchWords.setScq.qFault.next
    · exact h.fetchWords.setScq.qFault.next.ite h.fetchWords.setScq.setScq.qSkip.qShow.next
    · exact h.fetchWords.setScq.qSkip.qShow.next

/-! ### Machine/Dma -/

theorem State.Canon.dHold (h : s.Canon) {c} : (s.dHold c).Canon :=
  h.setDch

theorem State.Canon.dFree (h : s.Canon) {c} : (s.dFree c).Canon :=
  h.setDch

theorem State.Canon.dFetch (h : s.Canon) {c host} : (s.dFetch c host).2.Canon := by
  have ha := fun a n host => h.accRead (r := reqDma) (cls := clsDma) (a := a) (n := n) (host := host)
  obtain ⟨A, hA⟩ := exists_eq' (a' := State.accRead)
  obtain ⟨D, hD⟩ := exists_eq' (a' := State.dFetch)
  rw [hD]
  delta State.dFetch at hD
  rw [hA] at ha hD
  subst hD
  dsimp only
  split
  · exact State.Canon.dFree (ha _ _ _)
  · exact ha _ _ _
  · exact ha _ _ _
  · exact ha _ _ _
  · split
    · exact ha _ _ _
    · exact State.Canon.dHold (ha _ _ _)

theorem State.Canon.dErr (h : s.Canon) {c code addr slots} : (s.dErr c code addr slots).Canon :=
  h.dFault

theorem State.Canon.dRun (h : s.Canon) {c op host act} (hact : ∀ w s, s.Canon → (act w s).Canon) :
    (s.dRun c op host act).Canon := by
  have hf := fun c host => h.dFetch (c := c) (host := host)
  unfold State.dRun
  obtain ⟨D, hD⟩ := exists_eq' (a' := State.dFetch)
  rw [hD] at hf ⊢
  refine h.ite ?_
  dsimp only
  split
  · exact hf _ _
  · exact h.ite ((hf _ _).dFault.ite (hf _ _).dErr)
  · exact h.ite ((hf _ _).setDch.dNext.ite (hact _ _ (hf _ _)))

theorem State.Canon.moveRead {k fixed a left host acc} (h : s.Canon) :
    (State.moveRead k s fixed a left host acc).2.2.Canon := by
  induction k generalizing s a left host acc with
  | zero => exact h
  | succ k ih =>
    unfold State.moveRead
    dsimp only
    split
    · exact h
    · split
      · exact ih h.accRead
      · exact h.accRead
      · exact h.accRead
      · exact h.accRead
      · exact h.accRead

theorem execDmaMove_canonical (h : s.Canon) {c host data} : Canonical (execDmaMove c host data s) :=
  (h.dRun (fun _ _ h₁ => h₁.ite (h₁.setDch.dNext.ite
    (h₁.setDch.dNext.ite (h₁.setDch.dNext.ite
    (h₁.setDch.dNext.ite (h₁.dHold.ite h₁.moveRead.countRead.setDch.dNext))))))).next

theorem State.Canon.moveWrite {k hb fixed a bs done} (h : s.Canon) :
    (State.moveWrite k s hb fixed a bs done).2.2.Canon := by
  induction k generalizing s a bs done with
  | zero => exact h
  | succ k ih =>
    unfold State.moveWrite
    dsimp only
    split
    · exact h
    · split
      · exact ih h.accWrite
      · exact h.accWrite
      · exact h.accWrite
      · exact h.accWrite
      · exact h.accWrite

theorem State.Canon.moveErr (h : s.Canon) {c m e} : (s.moveErr c m e).Canon :=
  (h.set1.ite h).dFault

theorem execDmaMoveComplete_canonical (h : s.Canon) {c} : Canonical (execDmaMoveComplete c s) := by
  unfold execDmaMoveComplete
  dsimp only
  split
  · exact h.next
  · refine h.dHold.next.ite (h.moveErr.next.ite ?_)
    split
    · exact h.moveWrite.countWritten.wr.moveErr.next
    · exact h.moveWrite.countWritten.wr.moveErr.next
    · split
      · exact ((h.moveWrite.countWritten.wr.setDch.bump.ite h.moveWrite.countWritten.wr.setDch).wr.dRest.ite
          (h.moveWrite.countWritten.wr.setDch.bump.ite h.moveWrite.countWritten.wr.setDch)).next
      · exact (h.moveWrite.countWritten.wr.setDch.bump.ite h.moveWrite.countWritten.wr.setDch).next

theorem State.Canon.setLoops (h : s.Canon) {c ls} : (s.setLoops c ls).Canon :=
  h.setDch.wr

theorem execDmaLoop_canonical (h : s.Canon) {c host} : Canonical (execDmaLoop c host s) :=
  (h.dRun (fun _ _ h₁ => h₁.setDch.dNext.ite ((h₁.dErr.ite h₁).ite h₁.setLoops.dNext))).next

theorem execDmaEndloop_canonical (h : s.Canon) {c host} : Canonical (execDmaEndloop c host s) := by
  unfold execDmaEndloop
  refine (h.dRun (fun _ _ h₁ => ?_)).next
  dsimp only
  split
  · exact h₁.dErr.ite h₁
  · split
    · exact h₁.setLoops.wr
    · exact h₁.setLoops.dNext.ite h₁.setLoops.wr

theorem execDmaWait_canonical (h : s.Canon) {c host} : Canonical (execDmaWait c host s) :=
  h.next.ite (h.dRun (fun _ _ h₁ => (h₁.wr.ite h₁).bind fun h₂ =>
    h₂.setDch.dNext.ite h₂.setDch.wr.setDState.dTake)).next

theorem execDmaWaitTimeout_canonical (h : s.Canon) {c} : Canonical (execDmaWaitTimeout c s) := by
  unfold execDmaWaitTimeout
  dsimp only
  split
  · exact h.next.ite (h.set1.bind fun h₁ => h₁.fault.dWake.next.ite h₁.dErr.next)
  · exact h.next

theorem execDmaSignal_canonical (h : s.Canon) {c host} : Canonical (execDmaSignal c host s) := by
  unfold execDmaSignal
  refine h.next.ite (h.dRun (fun _ _ h₁ => h₁.signal.dNext.ite
    (h₁.dErr.ite ((h₁.dErr.ite h₁.dHold).ite ?_)))).next
  dsimp only
  split
  · exact h₁.accWrite.dFree.countWritten.signal.dNext
  · exact h₁.accWrite.dErr
  · exact h₁.accWrite.dErr
  · exact h₁.accWrite.dErr
  · exact h₁

theorem execDmaEnd_canonical (h : s.Canon) {c host} : Canonical (execDmaEnd c host s) :=
  h.next.ite (h.dRun (fun _ _ h₁ => h₁.dNext.dRest)).next

theorem execDmaIllegal_canonical (h : s.Canon) {c host} : Canonical (execDmaIllegal c host s) := by
  unfold execDmaIllegal
  refine h.next.ite ?_
  dsimp only
  split
  · exact (h.ite h.dFetch.dErr).next
  · exact h.next

/-! ### Machine/DramRows -/

theorem execDramRead_canonical (h : s.Canon) {addr len cls errs} :
    Canonical (execDramRead addr len cls errs s) :=
  h.next.ite (h.frameDram.next.ite h.addFlips.dramRead.frameDram.recheck.next)

theorem execDramWrite_canonical (h : s.Canon) {addr bytes cls errs} :
    Canonical (execDramWrite addr bytes cls errs s) :=
  h.next.ite (h.ite h.addFlips).dramWrite.frame.recheck.next

theorem execMigReq_canonical (h : s.Canon) : Canonical (execMigReq s) :=
  h.migReq.recheck.next

theorem execMigrateDone_canonical (h : s.Canon) : Canonical (execMigrateDone s) := by
  unfold execMigrateDone
  split
  · exact h.next
  · refine h.next.ite (State.Canon.bind ?_ fun h₃ => h₃.wr.wr.wr.wr.fault.recheck.next)
    split
    · exact (h.frameDram.foldl (fun _ _ h₂ => h₂.putPoison)).wr
    · exact h.frameDram.foldl (fun _ _ h₂ => h₂.putPoison)

theorem execScrubStep_canonical (h : s.Canon) {errs} : Canonical (execScrubStep errs s) := by
  unfold execScrubStep
  refine h.next.ite (h.wr.recheck.next.ite ?_)
  split
  · refine (h.foldl (fun _ _ h₁ => ?_)).wr.recheck.next
    split
    · exact h₁
    · exact h₁.noteCe
    · exact h₁
    · exact h₁.bump.fault
  · refine (h.addFlips.foldl (fun _ _ h₂ => ?_)).wr.recheck.next
    dsimp only
    split
    · exact h₂
    · exact h₂.noteCe.putBeat
    · exact h₂
    · exact h₂.set1.bump.fault.rankPolicy

theorem execDramCmdError_canonical (h : s.Canon) {ch rank inFlight} :
    Canonical (execDramCmdError ch rank inFlight s) :=
  h.frameDram.next.ite h.frameDram.set1.wr.wr.wr.fault.frameDram.rankPolicy.recheck.next

/-! ### Machine/Pins -/

theorem State.Canon.setJtag (h : s.Canon) {f} : (s.setJtag f).Canon :=
  h.frame

theorem execMgmtRead_canonical (h : s.Canon) {addr} : Canonical (execMgmtRead addr s) :=
  h.frame.next.ite h.next

theorem execMgmtPointerWrite_canonical (h : s.Canon) {addr bytes} :
    Canonical (execMgmtPointerWrite addr bytes s) := by
  unfold execMgmtPointerWrite
  refine Canonical.ite ?_ h.next
  split
  · exact h.next
  · exact h.setJtag.next

theorem State.Canon.testScan (h : s.Canon) {inst shifted} : (s.testScan inst shifted).Canon :=
  h.setJtag.frame

theorem State.Canon.testBypass (h : s.Canon) : s.testBypass.Canon :=
  h.testScan

theorem State.Canon.testPrivate (h : s.Canon) {act} (hact : ∀ s1, s1.Canon → (act s1).Canon) :
    (s.testPrivate act).Canon :=
  h.testBypass.ite (hact _ h)

theorem execExtest_canonical (h : s.Canon) {captured shifted} : Canonical (execExtest captured shifted s) :=
  h.testScan.setJtag.next

theorem execIdcode_canonical (h : s.Canon) : Canonical (execIdcode s) :=
  h.testScan.next

theorem execSamplePreload_canonical (h : s.Canon) {captured shifted} :
    Canonical (execSamplePreload captured shifted s) :=
  h.testScan.setJtag.next

theorem execHighz_canonical (h : s.Canon) : Canonical (execHighz s) :=
  h.testScan.next

theorem execClamp_canonical (h : s.Canon) : Canonical (execClamp s) :=
  h.testScan.next

theorem execBypass_canonical (h : s.Canon) : Canonical (execBypass s) :=
  h.testBypass.next

theorem execRangerHalt_canonical (h : s.Canon) : Canonical (execRangerHalt s) :=
  (h.testPrivate (fun _ h₁ => h₁.setJtag)).next

theorem execRangerRun_canonical (h : s.Canon) : Canonical (execRangerRun s) :=
  (h.testPrivate (fun _ h₁ => h₁.setJtag)).next

theorem State.Canon.memAccess (h : s.Canon) {v host} : (s.memAccess v host).Canon := by
  unfold State.memAccess
  refine h.ite (h.accWrite.ite (State.Canon.bind ?_ fun h₂ => h₂.setJtag))
  split
  · exact h.accRead.pair
  · exact h.accRead.free

theorem execMemAccess_canonical (h : s.Canon) {v host} : Canonical (execMemAccess v host s) :=
  (h.testPrivate (fun _ h₁ => h₁.testScan.setJtag.memAccess)).next

/-! ### Machine/Tick -/

theorem State.Canon.nextTick (h : s.Canon) : s.nextTick.Canon :=
  h.judgeDue.noteVerdict.frame.fallDue

theorem State.Canon.tick (h : s.Canon) : s.tick.Canon :=
  h.nextTick.postTick.fenceTick.goneRuns

/-! ### Machine/Step -/

theorem State.Canon.withFetchWord (h : s.Canon) {nbits w} : (s.withFetchWord nbits w).Canon := by
  unfold State.withFetchWord
  split
  · exact h.frame
  · exact h

/-! ### Every instruction and every step -/

theorem Canonical.of_eq {o p : Host.Outcome State Fault Refusal} (e : o = p) (h : Canonical p) : Canonical o := e ▸ h

/-- Every instruction answers a next state, and keeps the stores canonical. -/
theorem exec_canonical (h : s.Canon) (i : Instr) : Canonical (exec i s) := by
  cases i with
  | registerWrite => exact .of_eq (exec_registerWrite ..) (execRegisterWrite_canonical h)
  | bar2Access => exact .of_eq (exec_bar2Access ..) (execBar2Access_canonical h)
  | encoderStep => exact .of_eq (exec_encoderStep ..) (execEncoderStep_canonical h)
  | ssiTransferStart => exact .of_eq (exec_ssiTransferStart ..) (execSsiTransferStart_canonical h)
  | ssiSample => exact .of_eq (exec_ssiSample ..) (execSsiSample_canonical h)
  | indexEdge => exact .of_eq (exec_indexEdge ..) (execIndexEdge_canonical h)
  | webStopped => exact .of_eq (exec_webStopped ..) (execWebStopped_canonical h)
  | simIncrement => exact .of_eq (exec_simIncrement ..) (execSimIncrement_canonical h)
  | runStart => exact .of_eq (exec_runStart ..) (execRunStart_canonical h)
  | runStop => exact .of_eq (exec_runStop ..) (execRunStop_canonical h)
  | preset => exact .of_eq (exec_preset ..) (execPreset_canonical h)
  | crossLatch => exact .of_eq (exec_crossLatch ..) (execCrossLatch_canonical h)
  | probeEdge => exact .of_eq (exec_probeEdge ..) (execProbeEdge_canonical h)
  | probePop => exact .of_eq (exec_probePop ..) (execProbePop_canonical h)
  | frameMarkMissing => exact .of_eq (exec_frameMarkMissing ..) (execFrameMarkMissing_canonical h)
  | compareFire => exact .of_eq (exec_compareFire ..) (execCompareFire_canonical h)
  | compareEnable => exact .of_eq (exec_compareEnable ..) (execCompareEnable_canonical h)
  | compareTargetWrite => exact .of_eq (exec_compareTargetWrite ..) (execCompareTargetWrite_canonical h)
  | modeChangeApply => exact .of_eq (exec_modeChangeApply ..) (execModeChangeApply_canonical h)
  | commitBoundary => exact .of_eq (exec_commitBoundary ..) (execCommitBoundary_canonical h)
  | frameBoundary => exact .of_eq (exec_frameBoundary ..) (execFrameBoundary_canonical h)
  | lineTrigger => exact .of_eq (exec_lineTrigger ..) (execLineTrigger_canonical h)
  | triggerIssue => exact .of_eq (exec_triggerIssue ..) (execTriggerIssue_canonical h)
  | profileSyncAction => exact .of_eq (exec_profileSyncAction ..) (execProfileSyncAction_canonical h)
  | markerQueue => exact .of_eq (exec_markerQueue ..) (execMarkerQueue_canonical h)
  | markerFire => exact .of_eq (exec_markerFire ..) (execMarkerFire_canonical h)
  | markerPulseEnd => exact .of_eq (exec_markerPulseEnd ..) (execMarkerPulseEnd_canonical h)
  | verdictDeadlineCheck => exact .of_eq (exec_verdictDeadlineCheck ..) (execVerdictDeadlineCheck_canonical h)
  | waitposWake => exact .of_eq (exec_waitposWake ..) (execWaitposWake_canonical h)
  | strokePhaseUpdate => exact .of_eq (exec_strokePhaseUpdate ..) (execStrokePhaseUpdate_canonical h)
  | strokeStep => exact .of_eq (exec_strokeStep ..) (execStrokeStep_canonical h)
  | strokeEnable => exact .of_eq (exec_strokeEnable ..) (execStrokeEnable_canonical h)
  | strokeStart => exact .of_eq (exec_strokeStart ..) (execStrokeStart_canonical h)
  | strokeRatioWrite => exact .of_eq (exec_strokeRatioWrite ..) (execStrokeRatioWrite_canonical h)
  | trimTargetWrite => exact .of_eq (exec_trimTargetWrite ..) (execTrimTargetWrite_canonical h)
  | trimAdd => exact .of_eq (exec_trimAdd ..) (execTrimAdd_canonical h)
  | laneMarkerRx => exact .of_eq (exec_laneMarkerRx ..) (execLaneMarkerRx_canonical h)
  | fillRowRx => exact .of_eq (exec_fillRowRx ..) (execFillRowRx_canonical h)
  | linkReqAck => exact .of_eq (exec_linkReqAck ..) (execLinkReqAck_canonical h)
  | linkReqNak => exact .of_eq (exec_linkReqNak ..) (execLinkReqNak_canonical h)
  | linkReqSpare => exact .of_eq (exec_linkReqSpare ..) (execLinkReqSpare_canonical h)
  | linkReqRelease => exact .of_eq (exec_linkReqRelease ..) (execLinkReqRelease_canonical h)
  | linkReqGap => exact .of_eq (exec_linkReqGap ..) (execLinkReqGap_canonical h)
  | linkReqReserved => exact .of_eq (exec_linkReqReserved ..) (execLinkReqReserved_canonical h)
  | gapRowRx => exact .of_eq (exec_gapRowRx ..) (execGapRowRx_canonical h)
  | idleEnterRx => exact .of_eq (exec_idleEnterRx ..) (execIdleEnterRx_canonical h)
  | idleExit => exact .of_eq (exec_idleExit ..) (execIdleExit_canonical h)
  | idleExitSlow => exact .of_eq (exec_idleExitSlow ..) (execIdleExitSlow_canonical h)
  | gapTimeout => exact .of_eq (exec_gapTimeout ..) (execGapTimeout_canonical h)
  | spareSwitch => exact .of_eq (exec_spareSwitch ..) (execSpareSwitch_canonical h)
  | plannedSwap => exact .of_eq (exec_plannedSwap ..) (execPlannedSwap_canonical h)
  | lrefSwitch => exact .of_eq (exec_lrefSwitch ..) (execLrefSwitch_canonical h)
  | packetHeaderRx => exact .of_eq (exec_packetHeaderRx ..) (execPacketHeaderRx_canonical h)
  | linePacketRx => exact .of_eq (exec_linePacketRx ..) (execLinePacketRx_canonical h)
  | lineTimeout => exact .of_eq (exec_lineTimeout ..) (execLineTimeout_canonical h)
  | trigLaunch => exact .of_eq (exec_trigLaunch ..) (execTrigLaunch_canonical h)
  | statReplyRx => exact .of_eq (exec_statReplyRx ..) (execStatReplyRx_canonical h)
  | trigErrorReport => exact .of_eq (exec_trigErrorReport ..) (execTrigErrorReport_canonical h)
  | camFaultReport => exact .of_eq (exec_camFaultReport ..) (execCamFaultReport_canonical h)
  | ctrlTimeout => exact .of_eq (exec_ctrlTimeout ..) (execCtrlTimeout_canonical h)
  | mboxSend => exact .of_eq (exec_mboxSend ..) (execMboxSend_canonical h)
  | trainGo => exact .of_eq (exec_trainGo ..) (execTrainGo_canonical h)
  | trainDone => exact .of_eq (exec_trainDone ..) (execTrainDone_canonical h)
  | replayTimeout => exact .of_eq (exec_replayTimeout ..) (execReplayTimeout_canonical h)
  | portEnable => exact .of_eq (exec_portEnable ..) (execPortEnable_canonical h)
  | linkReset => exact .of_eq (exec_linkReset ..) (execLinkReset_canonical h)
  | retrain => exact .of_eq (exec_retrain ..) (execRetrain_canonical h)
  | loopbackWrite => exact .of_eq (exec_loopbackWrite ..) (execLoopbackWrite_canonical h)
  | idleReqWrite => exact .of_eq (exec_idleReqWrite ..) (execIdleReqWrite_canonical h)
  | pipeCtrlWrite => exact .of_eq (exec_pipeCtrlWrite ..) (execPipeCtrlWrite_canonical h)
  | ctxCommit => exact .of_eq (exec_ctxCommit ..) (execCtxCommit_canonical h)
  | ctxCancel => exact .of_eq (exec_ctxCancel ..) (execCtxCancel_canonical h)
  | tableFetchDone => exact .of_eq (exec_tableFetchDone ..) (execTableFetchDone_canonical h)
  | pipeLineStart => exact .of_eq (exec_pipeLineStart ..) (execPipeLineStart_canonical h)
  | pipeLineDone => exact .of_eq (exec_pipeLineDone ..) (execPipeLineDone_canonical h)
  | pipeSram => exact .of_eq (exec_pipeSram ..) (execPipeSram_canonical h)
  | pipeSpared => exact .of_eq (exec_pipeSpared ..) (execPipeSpared_canonical h)
  | spareSelfTest => exact .of_eq (exec_spareSelfTest ..) (execSpareSelfTest_canonical h)
  | stitchEnable => exact .of_eq (exec_stitchEnable ..) (execStitchEnable_canonical h)
  | stitchCommit => exact .of_eq (exec_stitchCommit ..) (execStitchCommit_canonical h)
  | stitchLineStart => exact .of_eq (exec_stitchLineStart ..) (execStitchLineStart_canonical h)
  | stitchLineDone => exact .of_eq (exec_stitchLineDone ..) (execStitchLineDone_canonical h)
  | coarseLineOut => exact .of_eq (exec_coarseLineOut ..) (execCoarseLineOut_canonical h)
  | notFormed => exact .of_eq (exec_notFormed ..) (execNotFormed_canonical h)
  | seamSram => exact .of_eq (exec_seamSram ..) (execSeamSram_canonical h)
  | seed => exact .of_eq (exec_seed ..) (execSeed_canonical h)
  | columnSram => exact .of_eq (exec_columnSram ..) (execColumnSram_canonical h)
  | attrRequest => exact .of_eq (exec_attrRequest ..) (execAttrRequest_canonical h)
  | attrResult => exact .of_eq (exec_attrResult ..) (execAttrResult_canonical h)
  | attrSwap => exact .of_eq (exec_attrSwap ..) (execAttrSwap_canonical h)
  | attrCopy => exact .of_eq (exec_attrCopy ..) (execAttrCopy_canonical h)
  | attrCopyDone => exact .of_eq (exec_attrCopyDone ..) (execAttrCopyDone_canonical h)
  | profileEnable => exact .of_eq (exec_profileEnable ..) (execProfileEnable_canonical h)
  | profileSync => exact .of_eq (exec_profileSync ..) (execProfileSync_canonical h)
  | profileSyncAt => exact .of_eq (exec_profileSyncAt ..) (execProfileSyncAt_canonical h)
  | detLatch => exact .of_eq (exec_detLatch ..) (execDetLatch_canonical h)
  | sensorStart => exact .of_eq (exec_sensorStart ..) (execSensorStart_canonical h)
  | sensorTransferDone => exact .of_eq (exec_sensorTransferDone ..) (execSensorTransferDone_canonical h)
  | masterEnable => exact .of_eq (exec_masterEnable ..) (execMasterEnable_canonical h)
  | masterCommit => exact .of_eq (exec_masterCommit ..) (execMasterCommit_canonical h)
  | predFetchDone => exact .of_eq (exec_predFetchDone ..) (execPredFetchDone_canonical h)
  | ledgerWrWrite => exact .of_eq (exec_ledgerWrWrite ..) (execLedgerWrWrite_canonical h)
  | ledgerConsume => exact .of_eq (exec_ledgerConsume ..) (execLedgerConsume_canonical h)
  | placementFinal => exact .of_eq (exec_placementFinal ..) (execPlacementFinal_canonical h)
  | descriptorRead => exact .of_eq (exec_descriptorRead ..) (execDescriptorRead_canonical h)
  | tileRowEstimate => exact .of_eq (exec_tileRowEstimate ..) (execTileRowEstimate_canonical h)
  | differenceLine => exact .of_eq (exec_differenceLine ..) (execDifferenceLine_canonical h)
  | predSram => exact .of_eq (exec_predSram ..) (execPredSram_canonical h)
  | assertReady => exact .of_eq (exec_assertReady ..) (execAssertReady_canonical h)
  | relearn => exact .of_eq (exec_relearn ..) (execRelearn_canonical h)
  | scalerEnable => exact .of_eq (exec_scalerEnable ..) (execScalerEnable_canonical h)
  | scalerCommit => exact .of_eq (exec_scalerCommit ..) (execScalerCommit_canonical h)
  | segmentLine => exact .of_eq (exec_segmentLine ..) (execSegmentLine_canonical h)
  | classTimeout => exact .of_eq (exec_classTimeout ..) (execClassTimeout_canonical h)
  | ringRecordWrite => exact .of_eq (exec_ringRecordWrite ..) (execRingRecordWrite_canonical h)
  | lossSummaryWrite => exact .of_eq (exec_lossSummaryWrite ..) (execLossSummaryWrite_canonical h)
  | snippetStart => exact .of_eq (exec_snippetStart ..) (execSnippetStart_canonical h)
  | snippetDone => exact .of_eq (exec_snippetDone ..) (execSnippetDone_canonical h)
  | snippetLost => exact .of_eq (exec_snippetLost ..) (execSnippetLost_canonical h)
  | stripSend => exact .of_eq (exec_stripSend ..) (execStripSend_canonical h)
  | stripRx => exact .of_eq (exec_stripRx ..) (execStripRx_canonical h)
  | stripLate => exact .of_eq (exec_stripLate ..) (execStripLate_canonical h)
  | tallyPacketRx => exact .of_eq (exec_tallyPacketRx ..) (execTallyPacketRx_canonical h)
  | scalerSram => exact .of_eq (exec_scalerSram ..) (execScalerSram_canonical h)
  | datagramSend => exact .of_eq (exec_datagramSend ..) (execDatagramSend_canonical h)
  | jobEnable => exact .of_eq (exec_jobEnable ..) (execJobEnable_canonical h)
  | initRunDone => exact .of_eq (exec_initRunDone ..) (execInitRunDone_canonical h)
  | windowFill => exact .of_eq (exec_windowFill ..) (execWindowFill_canonical h)
  | nibInvoke => exact .of_eq (exec_nibInvoke ..) (execNibInvoke_canonical h)
  | queueInvoke => exact .of_eq (exec_queueInvoke ..) (execQueueInvoke_canonical h)
  | salu => exact .of_eq (exec_salu ..) (execSalu_canonical h)
  | saddi => exact .of_eq (exec_saddi ..) (execSaddi_canonical h)
  | sandi => exact .of_eq (exec_sandi ..) (execSandi_canonical h)
  | sori => exact .of_eq (exec_sori ..) (execSori_canonical h)
  | sxori => exact .of_eq (exec_sxori ..) (execSxori_canonical h)
  | scmpi => exact .of_eq (exec_scmpi ..) (execScmpi_canonical h)
  | sinsl => exact .of_eq (exec_sinsl ..) (execSinsl_canonical h)
  | sinsh => exact .of_eq (exec_sinsh ..) (execSinsh_canonical h)
  | shi => exact .of_eq (exec_shi ..) (execShi_canonical h)
  | mulsr => exact .of_eq (exec_mulsr ..) (execMulsr_canonical h)
  | mulsru => exact .of_eq (exec_mulsru ..) (execMulsru_canonical h)
  | getsr => exact .of_eq (exec_getsr ..) (execGetsr_canonical h)
  | valu => exact .of_eq (exec_valu ..) (execValu_canonical h)
  | valus => exact .of_eq (exec_valus ..) (execValus_canonical h)
  | vmul => exact .of_eq (exec_vmul ..) (execVmul_canonical h)
  | vmuls => exact .of_eq (exec_vmuls ..) (execVmuls_canonical h)
  | vmac => exact .of_eq (exec_vmac ..) (execVmac_canonical h)
  | vnar => exact .of_eq (exec_vnar ..) (execVnar_canonical h)
  | vcmp => exact .of_eq (exec_vcmp ..) (execVcmp_canonical h)
  | vcmps => exact .of_eq (exec_vcmps ..) (execVcmps_canonical h)
  | vsel => exact .of_eq (exec_vsel ..) (execVsel_canonical h)
  | vmask => exact .of_eq (exec_vmask ..) (execVmask_canonical h)
  | vred => exact .of_eq (exec_vred ..) (execVred_canonical h)
  | vperm => exact .of_eq (exec_vperm ..) (execVperm_canonical h)
  | vsplat => exact .of_eq (exec_vsplat ..) (execVsplat_canonical h)
  | vext => exact .of_eq (exec_vext ..) (execVext_canonical h)
  | vgath => exact .of_eq (exec_vgath ..) (execVgath_canonical h)
  | lw => exact .of_eq (exec_lw ..) (execLw_canonical h)
  | sw => exact .of_eq (exec_sw ..) (execSw_canonical h)
  | lhu => exact .of_eq (exec_lhu ..) (execLhu_canonical h)
  | sh => exact .of_eq (exec_sh ..) (execSh_canonical h)
  | vld => exact .of_eq (exec_vld ..) (execVld_canonical h)
  | vst => exact .of_eq (exec_vst ..) (execVst_canonical h)
  | vstb => exact .of_eq (exec_vstb ..) (execVstb_canonical h)
  | vldm => exact .of_eq (exec_vldm ..) (execVldm_canonical h)
  | retire => exact .of_eq (exec_retire ..) (execRetire_canonical h)
  | srep => exact .of_eq (exec_srep ..) (execSrep_canonical h)
  | temit => exact .of_eq (exec_temit ..) (execTemit_canonical h)
  | tget => exact .of_eq (exec_tget ..) (execTget_canonical h)
  | tans => exact .of_eq (exec_tans ..) (execTans_canonical h)
  | event => exact .of_eq (exec_event ..) (execEvent_canonical h)
  | fence => exact .of_eq (exec_fence ..) (execFence_canonical h)
  | beqz => exact .of_eq (exec_beqz ..) (execBeqz_canonical h)
  | bnez => exact .of_eq (exec_bnez ..) (execBnez_canonical h)
  | bltz => exact .of_eq (exec_bltz ..) (execBltz_canonical h)
  | bgez => exact .of_eq (exec_bgez ..) (execBgez_canonical h)
  | jal => exact .of_eq (exec_jal ..) (execJal_canonical h)
  | jr => exact .of_eq (exec_jr ..) (execJr_canonical h)
  | loop => exact .of_eq (exec_loop ..) (execLoop_canonical h)
  | stop => exact .of_eq (exec_stop ..) (execStop_canonical h)
  | kernelTimeout => exact .of_eq (exec_kernelTimeout ..) (execKernelTimeout_canonical h)
  | nibRestart => exact .of_eq (exec_nibRestart ..) (execNibRestart_canonical h)
  | nibSram => exact .of_eq (exec_nibSram ..) (execNibSram_canonical h)
  | nibSpared => exact .of_eq (exec_nibSpared ..) (execNibSpared_canonical h)
  | spareNow => exact .of_eq (exec_spareNow ..) (execSpareNow_canonical h)
  | plannedNibTakeover => exact .of_eq (exec_plannedNibTakeover ..) (execPlannedNibTakeover_canonical h)
  | kernelLoadGo => exact .of_eq (exec_kernelLoadGo ..) (execKernelLoadGo_canonical h)
  | kernelLoadDone => exact .of_eq (exec_kernelLoadDone ..) (execKernelLoadDone_canonical h)
  | cmdNop => exact .of_eq (exec_cmdNop ..) (execCmdNop_canonical h)
  | cmdWrite => exact .of_eq (exec_cmdWrite ..) (execCmdWrite_canonical h)
  | cmdWritem => exact .of_eq (exec_cmdWritem ..) (execCmdWritem_canonical h)
  | cmdRead => exact .of_eq (exec_cmdRead ..) (execCmdRead_canonical h)
  | cmdWaitpos => exact .of_eq (exec_cmdWaitpos ..) (execCmdWaitpos_canonical h)
  | cmdWaittime => exact .of_eq (exec_cmdWaittime ..) (execCmdWaittime_canonical h)
  | waittimeReached => exact .of_eq (exec_waittimeReached ..) (execWaittimeReached_canonical h)
  | cmdWaitev => exact .of_eq (exec_cmdWaitev ..) (execCmdWaitev_canonical h)
  | cmdSignal => exact .of_eq (exec_cmdSignal ..) (execCmdSignal_canonical h)
  | cmdArm => exact .of_eq (exec_cmdArm ..) (execCmdArm_canonical h)
  | cmdCommit => exact .of_eq (exec_cmdCommit ..) (execCmdCommit_canonical h)
  | cmdMode => exact .of_eq (exec_cmdMode ..) (execCmdMode_canonical h)
  | cmdLoop => exact .of_eq (exec_cmdLoop ..) (execCmdLoop_canonical h)
  | cmdEndloop => exact .of_eq (exec_cmdEndloop ..) (execCmdEndloop_canonical h)
  | cmdJump => exact .of_eq (exec_cmdJump ..) (execCmdJump_canonical h)
  | cmdCall => exact .of_eq (exec_cmdCall ..) (execCmdCall_canonical h)
  | cmdRet => exact .of_eq (exec_cmdRet ..) (execCmdRet_canonical h)
  | cmdFence => exact .of_eq (exec_cmdFence ..) (execCmdFence_canonical h)
  | cmdResync => exact .of_eq (exec_cmdResync ..) (execCmdResync_canonical h)
  | cmdHalt => exact .of_eq (exec_cmdHalt ..) (execCmdHalt_canonical h)
  | cmdFetch => exact .of_eq (exec_cmdFetch ..) (execCmdFetch_canonical h)
  | cmdWaitTimeout => exact .of_eq (exec_cmdWaitTimeout ..) (execCmdWaitTimeout_canonical h)
  | queueStart => exact .of_eq (exec_queueStart ..) (execQueueStart_canonical h)
  | queueStop => exact .of_eq (exec_queueStop ..) (execQueueStop_canonical h)
  | queueTailWrite => exact .of_eq (exec_queueTailWrite ..) (execQueueTailWrite_canonical h)
  | dmaMove => exact .of_eq (exec_dmaMove ..) (execDmaMove_canonical h)
  | dmaMoveComplete => exact .of_eq (exec_dmaMoveComplete ..) (execDmaMoveComplete_canonical h)
  | dmaLoop => exact .of_eq (exec_dmaLoop ..) (execDmaLoop_canonical h)
  | dmaEndloop => exact .of_eq (exec_dmaEndloop ..) (execDmaEndloop_canonical h)
  | dmaWait => exact .of_eq (exec_dmaWait ..) (execDmaWait_canonical h)
  | dmaSignal => exact .of_eq (exec_dmaSignal ..) (execDmaSignal_canonical h)
  | dmaEnd => exact .of_eq (exec_dmaEnd ..) (execDmaEnd_canonical h)
  | dmaWaitTimeout => exact .of_eq (exec_dmaWaitTimeout ..) (execDmaWaitTimeout_canonical h)
  | dmaStart => exact .of_eq (exec_dmaStart ..) (execDmaStart_canonical h)
  | dmaStop => exact .of_eq (exec_dmaStop ..) (execDmaStop_canonical h)
  | eventEnter => exact .of_eq (exec_eventEnter ..) (execEventEnter_canonical h)
  | eventDeliver => exact .of_eq (exec_eventDeliver ..) (execEventDeliver_canonical h)
  | eventSoft => exact .of_eq (exec_eventSoft ..) (execEventSoft_canonical h)
  | eventPinEdge => exact .of_eq (exec_eventPinEdge ..) (execEventPinEdge_canonical h)
  | eventPinPulseEnd => exact .of_eq (exec_eventPinPulseEnd ..) (execEventPinPulseEnd_canonical h)
  | dramRead => exact .of_eq (exec_dramRead ..) (execDramRead_canonical h)
  | dramWrite => exact .of_eq (exec_dramWrite ..) (execDramWrite_canonical h)
  | playGo => exact .of_eq (exec_playGo ..) (execPlayGo_canonical h)
  | playLine => exact .of_eq (exec_playLine ..) (execPlayLine_canonical h)
  | scrubStep => exact .of_eq (exec_scrubStep ..) (execScrubStep_canonical h)
  | migReq => exact .of_eq (exec_migReq ..) (execMigReq_canonical h)
  | migrateCopyLine => exact .of_eq (exec_migrateCopyLine ..) (execMigrateCopyLine_canonical h)
  | migrateDone => exact .of_eq (exec_migrateDone ..) (execMigrateDone_canonical h)
  | dramCmdError => exact .of_eq (exec_dramCmdError ..) (execDramCmdError_canonical h)
  | rankPowerDown => exact .of_eq (exec_rankPowerDown ..) (execRankPowerDown_canonical h)
  | srEnter => exact .of_eq (exec_srEnter ..) (execSrEnter_canonical h)
  | srEntryDone => exact .of_eq (exec_srEntryDone ..) (execSrEntryDone_canonical h)
  | srExit => exact .of_eq (exec_srExit ..) (execSrExit_canonical h)
  | srTimeout => exact .of_eq (exec_srTimeout ..) (execSrTimeout_canonical h)
  | refreshRateCheck => exact .of_eq (exec_refreshRateCheck ..) (execRefreshRateCheck_canonical h)
  | shareWrite => exact .of_eq (exec_shareWrite ..) (execShareWrite_canonical h)
  | trainMrw => exact .of_eq (exec_trainMrw ..) (execTrainMrw_canonical h)
  | trainMrr => exact .of_eq (exec_trainMrr ..) (execTrainMrr_canonical h)
  | trainMpc => exact .of_eq (exec_trainMpc ..) (execTrainMpc_canonical h)
  | trainAct => exact .of_eq (exec_trainAct ..) (execTrainAct_canonical h)
  | trainPre => exact .of_eq (exec_trainPre ..) (execTrainPre_canonical h)
  | trainRef => exact .of_eq (exec_trainRef ..) (execTrainRef_canonical h)
  | trainWr => exact .of_eq (exec_trainWr ..) (execTrainWr_canonical h)
  | trainRd => exact .of_eq (exec_trainRd ..) (execTrainRd_canonical h)
  | dramInitDone => exact .of_eq (exec_dramInitDone ..) (execDramInitDone_canonical h)
  | ethFrameRx => exact .of_eq (exec_ethFrameRx ..) (execEthFrameRx_canonical h)
  | forwardSend => exact .of_eq (exec_forwardSend ..) (execForwardSend_canonical h)
  | ethTailWrite => exact .of_eq (exec_ethTailWrite ..) (execEthTailWrite_canonical h)
  | ethFrameTx => exact .of_eq (exec_ethFrameTx ..) (execEthFrameTx_canonical h)
  | launchTimeReached => exact .of_eq (exec_launchTimeReached ..) (execLaunchTimeReached_canonical h)
  | ringHoldoffEnd => exact .of_eq (exec_ringHoldoffEnd ..) (execRingHoldoffEnd_canonical h)
  | ethLinkDown => exact .of_eq (exec_ethLinkDown ..) (execEthLinkDown_canonical h)
  | ptpIncrWrite => exact .of_eq (exec_ptpIncrWrite ..) (execPtpIncrWrite_canonical h)
  | ptpSet => exact .of_eq (exec_ptpSet ..) (execPtpSet_canonical h)
  | ptpAdj => exact .of_eq (exec_ptpAdj ..) (execPtpAdj_canonical h)
  | tcorrStep => exact .of_eq (exec_tcorrStep ..) (execTcorrStep_canonical h)
  | timeCompareFire => exact .of_eq (exec_timeCompareFire ..) (execTimeCompareFire_canonical h)
  | timeCompareEnable => exact .of_eq (exec_timeCompareEnable ..) (execTimeCompareEnable_canonical h)
  | chainEnable => exact .of_eq (exec_chainEnable ..) (execChainEnable_canonical h)
  | delayProbeSend => exact .of_eq (exec_delayProbeSend ..) (execDelayProbeSend_canonical h)
  | delayProbeRx => exact .of_eq (exec_delayProbeRx ..) (execDelayProbeRx_canonical h)
  | probeReplyRx => exact .of_eq (exec_probeReplyRx ..) (execProbeReplyRx_canonical h)
  | posSend => exact .of_eq (exec_posSend ..) (execPosSend_canonical h)
  | posRx => exact .of_eq (exec_posRx ..) (execPosRx_canonical h)
  | posLost => exact .of_eq (exec_posLost ..) (execPosLost_canonical h)
  | heartbeatSend => exact .of_eq (exec_heartbeatSend ..) (execHeartbeatSend_canonical h)
  | heartbeatRx => exact .of_eq (exec_heartbeatRx ..) (execHeartbeatRx_canonical h)
  | liveTimeout => exact .of_eq (exec_liveTimeout ..) (execLiveTimeout_canonical h)
  | timeBroadcastRx => exact .of_eq (exec_timeBroadcastRx ..) (execTimeBroadcastRx_canonical h)
  | cmdRx => exact .of_eq (exec_cmdRx ..) (execCmdRx_canonical h)
  | summaryRx => exact .of_eq (exec_summaryRx ..) (execSummaryRx_canonical h)
  | modeArmRx => exact .of_eq (exec_modeArmRx ..) (execModeArmRx_canonical h)
  | modeAckSend => exact .of_eq (exec_modeAckSend ..) (execModeAckSend_canonical h)
  | modeAckRx => exact .of_eq (exec_modeAckRx ..) (execModeAckRx_canonical h)
  | modeDecision => exact .of_eq (exec_modeDecision ..) (execModeDecision_canonical h)
  | modeCancelRx => exact .of_eq (exec_modeCancelRx ..) (execModeCancelRx_canonical h)
  | modeAppliedRx => exact .of_eq (exec_modeAppliedRx ..) (execModeAppliedRx_canonical h)
  | modeSplitRx => exact .of_eq (exec_modeSplitRx ..) (execModeSplitRx_canonical h)
  | applyMissing => exact .of_eq (exec_applyMissing ..) (execApplyMissing_canonical h)
  | haltReq => exact .of_eq (exec_haltReq ..) (execHaltReq_canonical h)
  | haltEntry => exact .of_eq (exec_haltEntry ..) (execHaltEntry_canonical h)
  | warmReset => exact .of_eq (exec_warmReset ..) (execWarmReset_canonical h)
  | warmTrainDone => exact .of_eq (exec_warmTrainDone ..) (execWarmTrainDone_canonical h)
  | blockReset => exact .of_eq (exec_blockReset ..) (execBlockReset_canonical h)
  | pinReset => exact .of_eq (exec_pinReset ..) (execPinReset_canonical h)
  | resetNRetainFall => exact .of_eq (exec_resetNRetainFall ..) (execResetNRetainFall_canonical h)
  | resetRelease => exact .of_eq (exec_resetRelease ..) (execResetRelease_canonical h)
  | por => exact .of_eq (exec_por ..) (execPor_canonical h)
  | xoLoss => exact .of_eq (exec_xoLoss ..) (execXoLoss_canonical h)
  | faultRecord => exact .of_eq (exec_faultRecord ..) (execFaultRecord_canonical h)
  | faultLost => exact .of_eq (exec_faultLost ..) (execFaultLost_canonical h)
  | resync => exact .of_eq (exec_resync ..) (execResync_canonical h)
  | summaryWritten => exact .of_eq (exec_summaryWritten ..) (execSummaryWritten_canonical h)
  | sramRowRemap => exact .of_eq (exec_sramRowRemap ..) (execSramRowRemap_canonical h)
  | wearEyeSwap => exact .of_eq (exec_wearEyeSwap ..) (execWearEyeSwap_canonical h)
  | sensorConversion => exact .of_eq (exec_sensorConversion ..) (execSensorConversion_canonical h)
  | sensorRole => exact .of_eq (exec_sensorRole ..) (execSensorRole_canonical h)
  | thermalTrip => exact .of_eq (exec_thermalTrip ..) (execThermalTrip_canonical h)
  | tableEnable => exact .of_eq (exec_tableEnable ..) (execTableEnable_canonical h)
  | calGo => exact .of_eq (exec_calGo ..) (execCalGo_canonical h)
  | calMeasureDone => exact .of_eq (exec_calMeasureDone ..) (execCalMeasureDone_canonical h)
  | calCodeStep => exact .of_eq (exec_calCodeStep ..) (execCalCodeStep_canonical h)
  | calSlow => exact .of_eq (exec_calSlow ..) (execCalSlow_canonical h)
  | ageingMeasure => exact .of_eq (exec_ageingMeasure ..) (execAgeingMeasure_canonical h)
  | perstRise => exact .of_eq (exec_perstRise ..) (execPerstRise_canonical h)
  | msixRequest => exact .of_eq (exec_msixRequest ..) (execMsixRequest_canonical h)
  | bootImageCheck => exact .of_eq (exec_bootImageCheck ..) (execBootImageCheck_canonical h)
  | hostGo => exact .of_eq (exec_hostGo ..) (execHostGo_canonical h)
  | bootRelease => exact .of_eq (exec_bootRelease ..) (execBootRelease_canonical h)
  | fwInfo => exact .of_eq (exec_fwInfo ..) (execFwInfo_canonical h)
  | selfTest => exact .of_eq (exec_selfTest ..) (execSelfTest_canonical h)
  | fuseProgram => exact .of_eq (exec_fuseProgram ..) (execFuseProgram_canonical h)
  | lock => exact .of_eq (exec_lock ..) (execLock_canonical h)
  | debugLock => exact .of_eq (exec_debugLock ..) (execDebugLock_canonical h)
  | svnCommit => exact .of_eq (exec_svnCommit ..) (execSvnCommit_canonical h)
  | flashUpdate => exact .of_eq (exec_flashUpdate ..) (execFlashUpdate_canonical h)
  | mboxAnswer => exact .of_eq (exec_mboxAnswer ..) (execMboxAnswer_canonical h)
  | mboxTimeout => exact .of_eq (exec_mboxTimeout ..) (execMboxTimeout_canonical h)
  | mgmtRead => exact .of_eq (exec_mgmtRead ..) (execMgmtRead_canonical h)
  | extest => exact .of_eq (exec_extest ..) (execExtest_canonical h)
  | idcode => exact .of_eq (exec_idcode ..) (execIdcode_canonical h)
  | samplePreload => exact .of_eq (exec_samplePreload ..) (execSamplePreload_canonical h)
  | highz => exact .of_eq (exec_highz ..) (execHighz_canonical h)
  | clamp => exact .of_eq (exec_clamp ..) (execClamp_canonical h)
  | bypass => exact .of_eq (exec_bypass ..) (execBypass_canonical h)
  | rangerHalt => exact .of_eq (exec_rangerHalt ..) (execRangerHalt_canonical h)
  | rangerRun => exact .of_eq (exec_rangerRun ..) (execRangerRun_canonical h)
  | memAccess => exact .of_eq (exec_memAccess ..) (execMemAccess_canonical h)
  | markerMissing => exact .of_eq (exec_markerMissing ..) (execMarkerMissing_canonical h)
  | extrapolation => exact .of_eq (exec_extrapolation ..) (execExtrapolation_canonical h)
  | ptpCounterTick => exact .of_eq (exec_ptpCounterTick ..) (execPtpCounterTick_canonical h)
  | registerRead => exact .of_eq (exec_registerRead ..) (execRegisterRead_canonical h)
  | illegalInstruction => exact .of_eq (exec_illegalInstruction ..) (execIllegalInstruction_canonical h)
  | cmdIllegal => exact .of_eq (exec_cmdIllegal ..) (execCmdIllegal_canonical h)
  | dmaIllegal => exact .of_eq (exec_dmaIllegal ..) (execDmaIllegal_canonical h)
  | ethLinkUp => exact .of_eq (exec_ethLinkUp ..) (execEthLinkUp_canonical h)
  | pcieLinkDown => exact .of_eq (exec_pcieLinkDown ..) (execPcieLinkDown_canonical h)
  | pcieLinkUp => exact .of_eq (exec_pcieLinkUp ..) (execPcieLinkUp_canonical h)
  | perstFall => exact .of_eq (exec_perstFall ..) (execPerstFall_canonical h)
  | configRequest => exact .of_eq (exec_configRequest ..) (execConfigRequest_canonical h)
  | mgmtPointerWrite => exact .of_eq (exec_mgmtPointerWrite ..) (execMgmtPointerWrite_canonical h)

theorem step_canonical (h : s.Canon) : Canonical (step s) := by
  unfold step
  split
  · exact h.tick.next
  · exact exec_canonical h.frame _

/-- Settles O4: canonical stores are what every operation of the state keeps, and so every instruction. -/
theorem everyStepKeepsTheStoresCanonical : Obligations.EveryStepKeepsTheStoresCanonical := by
  intro s hwf
  obtain ⟨t, ht, hc⟩ := step_canonical ((State.wf_iff_canon s).1 hwf)
  exact ⟨t, ht, (State.wf_iff_canon t).2 hc⟩

end Sys2Proof.Machine
end

section
namespace Sys2Proof.Machine
open Sys2Proof

variable {s t : State} {a n : Nat}

/-! ## Host requests

### The words a request reaches (R9) -/

theorem reqWords_word {on : Nat → Bool} (ha : a % 4 = 0) (hn : n ≤ 4) : reqWords a n on = some [a] := by
  have hw : ∀ i ∈ (List.range n).filter on, (a + i) / 4 * 4 = a := fun i hi => by
    have := List.mem_range.1 (List.mem_filter.1 hi).1
    omega
  have ha' : a / 4 * 4 = a := by omega
  unfold reqWords
  cases hl : (List.range n).filter on with
  | nil => simp [ha']
  | cons i l =>
    rw [hl] at hw
    have hi := hw i List.mem_cons_self
    have hall : ∀ j ∈ l, (a + j) / 4 * 4 = a := fun j hj => hw j (List.mem_cons_of_mem _ hj)
    simpa [hi] using hall

theorem reqWords_misaligned {on : Nat → Bool} (ha : a % 8 ≠ 0) (hon : ∀ i < 8, on i = true) :
    reqWords a 8 on = none := by
  have hl : (List.range 8).filter on = [0, 1, 2, 3, 4, 5, 6, 7] :=
    List.filter_eq_self.2 fun i hi => hon i (List.mem_range.1 hi)
  have h4 : (a / 4 + 1) * 4 ≠ a / 4 * 4 := by omega
  unfold reqWords
  simp only [hl]
  simp [ha, h4]

/-! ### Writes -/

theorem barClosed (h : s.sec.perst = false ∨ s.mode = 0) : s.barOpen = false := by
  unfold State.barOpen
  obtain h | h := h <;> simp [h]

theorem hostWord_eq_busWrite {off : Nat} {be : Nat → Bool} {d : Nat}
    (h : ∀ i < 4, a ≤ off + i ∧ be (off + i - a) = true) :
    s.hostWord a be d off = (s.busWrite reqHost off off (bitsAt d (8 * (off - a)) 32)).2 := by
  unfold State.hostWord
  rw [if_pos (by simpa using h)]

theorem hostWord_partial {be : Nat → Bool} {d i : Nat} (hi : i < 4) (h : be i = false) : s.hostWord a be d a = s := by
  unfold State.hostWord
  rw [if_neg]
  intro hall
  have := List.all_eq_true.1 hall i (List.mem_range.2 hi)
  simp [h] at this

theorem busWrite_permitted {r off addr v : Nat} (h : s.permitted r (regClass off true) true = true) :
    s.busWrite r off addr v = (true, s.writeWord r off v) := by
  simp [State.busWrite, State.permit, h]

theorem busWrite_denied {r off addr v : Nat} (h : s.permitted r (regClass off true) true = false) :
    s.busWrite r off addr v = (false, s.deny r (regClass off true) true addr) := by
  simp [State.busWrite, State.permit, h]

theorem hostWord_permitted {off : Nat} {be : Nat → Bool} {d : Nat}
    (hp : s.permitted reqHost (regClass off true) true = true) (h : ∀ i < 4, a ≤ off + i ∧ be (off + i - a) = true) :
    s.hostWord a be d off = s.writeWord reqHost off (bitsAt d (8 * (off - a)) 32) := by
  rw [hostWord_eq_busWrite h, busWrite_permitted hp]

theorem registerWrite_word {a : BitVec 26} {n : Nat} {be : BitVec 8} {d : BitVec 64} (ho : s.barOpen = true)
    (ha : a.toNat % 4 = 0) (hn : n ≤ 4) :
    exec (.registerWrite a n be d) s =
      .next (s.hostWord a.toNat (fun i => decide (i < n) && bitAt be.toNat i) d.toNat a.toNat).recheck := by
  simp [execRegisterWrite, ho, reqWords_word ha hn, show ¬ 8 < n by omega]

/-- A write of a whole word: what the bus does with it. -/
theorem registerWrite_full {a : BitVec 26} {d : BitVec 64} (ho : s.barOpen = true) (ha : a.toNat % 4 = 0) :
    exec (.registerWrite a 4 15 d) s =
      .next (s.busWrite reqHost a.toNat a.toNat (d.toNat % 2 ^ 32)).2.recheck := by
  have hon : ∀ i < 4, a.toNat ≤ a.toNat + i ∧
      (decide (a.toNat + i - a.toNat < 4) && bitAt (15 : BitVec 8).toNat (a.toNat + i - a.toNat)) = true := by
    simp only [Nat.add_sub_cancel_left, Nat.le_add_right, true_and]
    decide
  rw [registerWrite_word ho ha le_rfl, hostWord_eq_busWrite hon]
  simp [bitsAt]

theorem registerWrite_permitted {a : BitVec 26} {d : BitVec 64} (ho : s.barOpen = true) (ha : a.toNat % 4 = 0)
    (hp : s.permitted reqHost (regClass a.toNat true) true = true) :
    exec (.registerWrite a 4 15 d) s = .next (s.writeWord reqHost a.toNat (d.toNat % 2 ^ 32)).recheck := by
  rw [registerWrite_full ho ha, busWrite_permitted hp]

theorem registerWrite_unsupported {a : BitVec 26} {n : Nat} {be : BitVec 8} {d : BitVec 64} (ho : s.barOpen = true)
    (h : 8 < n ∨ (n = 8 ∧ be = 255 ∧ a.toNat % 8 ≠ 0)) :
    exec (.registerWrite a n be d) s = .next (s.complete .unsupported) := by
  obtain hn | ⟨rfl, rfl, ha⟩ := h
  · simp [execRegisterWrite, ho, hn]
  · simp [execRegisterWrite, ho, reqWords_misaligned ha (on := fun i => decide (i < 8) && bitAt 255 i) (by decide)]

theorem registerWrite_partial {a : BitVec 26} {n : Nat} {be : BitVec 8} {d : BitVec 64} (ho : s.barOpen = true)
    (ha : a.toNat % 4 = 0) (hn : n ≤ 4) (hbe : be.toNat % 16 ≠ 15 ∨ n < 4) :
    exec (.registerWrite a n be d) s = .next s.recheck := by
  rw [registerWrite_word ho ha hn]
  obtain ⟨i, hi, hoff⟩ : ∃ i < 4, (decide (i < n) && bitAt be.toNat i) = false := by
    by_contra hall
    push Not at hall
    have h0 := hall 0 (by omega)
    have h1 := hall 1 (by omega)
    have h2 := hall 2 (by omega)
    have h3 := hall 3 (by omega)
    simp [bitAt] at h0 h1 h2 h3
    omega
  rw [hostWord_partial hi hoff]

/-! ### A word written -/

theorem writeWord_silent {r off v : Nat} (h : s.answers off = false) : s.writeWord r off v = s := by
  simp [State.writeWord, h]

theorem writeWord_plain {r off v : Nat} (ha : s.answers off = true) (hr : s.resetNow (blockOf off) = false)
    (hlo : pairLo off = false) (hhi : pairHi off = false) : s.writeWord r off v = s.writeAt r off v := by
  simp [State.writeWord, ha, hr, hlo, hhi]

theorem writeWord_lo {r off v : Nat} (ha : s.answers off = true) (hr : s.resetNow (blockOf off) = false)
    (hlo : pairLo off = true) :
    s.writeWord r off v =
      { s with stageLo := spSet (fun _ => none) s.stageLo (off + 4) (some (BitVec.ofNat 32 v)) } := by
  simp [State.writeWord, ha, hr, hlo]

/-- A write of HI takes the staged LO with it. -/
theorem writeWord_hi {r off v : Nat} {w : Word} (ha : s.answers off = true) (hr : s.resetNow (blockOf off) = false)
    (hlo : pairLo off = false) (hhi : pairHi off = true) (hb : barPair off = false)
    (hs : spGet (fun _ => none) s.stageLo off = some w) :
    s.writeWord r off v =
      State.writeAt { s with stageLo := spSet (fun _ => none) s.stageLo off none } r (off - 4)
        (w.toNat + v * 2 ^ 32) := by
  simp [State.writeWord, ha, hr, hlo, hhi, hb, hs]

/-! ### The TOP block -/

theorem answers_top {off : Nat} (h : off < 0x10000) : s.answers off = true := by
  have hb : off / 0x10000 = 0 := by omega
  have hr : ¬ 0xA5000 ≤ off := by omega
  simp [State.answers, State.reservedReg, hb, hr]

theorem blockOf_top {off : Nat} (h : off < 0x10000) : blockOf off = 0 := by
  have hb : off / 0x10000 = 0 := by omega
  simp [blockOf, hb]

theorem noPlainPair_top {off : Nat} (h : off < 0x10000) : barPair off = false ∧ msixTable off = false := by
  simp [barPair, msixTable]
  omega

theorem pairLo_of_regRow {off i : Nat} {row : RegRow} {hi : Bool} (h : barPair off = false ∧ msixTable off = false)
    (hrow : regRow off = some (row, i, hi)) : pairLo off = (row.pair && !hi) := by
  simp [pairLo, h, hrow]

theorem pairHi_of_regRow {off i : Nat} {row : RegRow} {hi : Bool} (h : barPair off = false ∧ msixTable off = false)
    (hrow : regRow off = some (row, i, hi)) : pairHi off = hi := by
  simp [pairHi, h, hrow]

theorem noPair_of_regRow_none {off : Nat} (h : barPair off = false ∧ msixTable off = false)
    (hrow : regRow off = none) : pairLo off = false ∧ pairHi off = false := by
  simp [pairLo, pairHi, h, hrow]

theorem writeAt_top {r off v : Nat} (h : off < 0x10000) (hc : off ≠ TOP_CTRL.off) : s.writeAt r off v = s.store off v := by
  have hb : off / 0x10000 = 0 := by omega
  simp [State.writeAt, hb, State.writeTop, hc]

theorem store_none {off v : Nat} (h : regRow off = none) : s.store off v = s := by
  simp [State.store, h]

theorem store_word {off v i : Nat} {row : RegRow} (h : regRow off = some (row, i, false)) (hp : row.pair = false) :
    s.store off v = s.putWord row.shadow off (BitVec.ofNat 32 (row.merge (s.reg off).toNat v)) := by
  simp [State.store, h, hp]

/-- A word of the TOP block that is no half of a pair stores what its access codes allow. -/
theorem writeWord_top {off v i : Nat} {row : RegRow} {r : Nat} (h : off < 0x10000) (hc : off ≠ TOP_CTRL.off)
    (hrow : regRow off = some (row, i, false)) (hp : row.pair = false) (hr : s.resetNow 0 = false) :
    s.writeWord r off v = s.putWord row.shadow off (BitVec.ofNat 32 (row.merge (s.reg off).toNat v)) := by
  rw [writeWord_plain (answers_top h) (by rw [blockOf_top h, hr]) (by simp [pairLo_of_regRow (noPlainPair_top h) hrow, hp])
    (pairHi_of_regRow (noPlainPair_top h) hrow), writeAt_top h hc, store_word hrow hp]

theorem writeWord_top_none {r off v : Nat} (h : off < 0x10000) (hrow : regRow off = none) :
    s.writeWord r off v = s := by
  have hc : off ≠ TOP_CTRL.off := by
    rintro rfl
    revert hrow
    decide
  unfold State.writeWord
  split
  · rfl
  · simp [noPair_of_regRow_none (noPlainPair_top h) hrow, writeAt_top h hc, store_none hrow]

/-! ### FAULT_POLICY and SUMMARY_DEST -/

/-- Two states whose registers answer alike read alike. -/
theorem rd_of_reg (h : ∀ o, s.reg o = t.reg o) (f : Fld) : s.rd f = t.rd f := by
  simp [State.rd, State.fieldReg, h]

theorem keeps_of_reg {fs : List Fld} {u : State} (h : ∀ o, t.reg o = u.reg o) (hk : s.keeps t fs) : s.keeps u fs :=
  fun g hg => (rd_of_reg h g).symm.trans (hk g hg)

theorem wr_word {f : Fld} {v : Nat} (h : f.lsb + f.w ≤ 32) :
    s.wr f v = s.setReg f.off (BitVec.ofNat 32 (putBits (s.reg f.off).toNat f.lsb f.w v)) := by
  unfold State.wr
  rw [if_pos h]

theorem reg_wr_word {f : Fld} {v : Nat} (h : f.lsb + f.w ≤ 32) (o : Nat) :
    (s.wr f v).reg o = if f.off = o then BitVec.ofNat 32 (putBits (s.reg f.off).toNat f.lsb f.w v) else s.reg o := by
  rw [wr_word h, reg_setReg]

theorem regRow_faultPolicy : regRow 0x18 = some (⟨0x18, [], false,
    [⟨0, 16, .rw, 0x400, 0, .warm⟩, ⟨16, 16, .rw, 0, 0, .warm⟩]⟩, 0, false) := by decide

theorem regRow_summaryDest : regRow 0x40 = some (⟨0x40, [], true, [⟨0, 44, .rw, 0, 0, .warm⟩]⟩, 0, false) := by
  decide

theorem putBits_mod {m l w v : Nat} : putBits m l w (v % 2 ^ w) = putBits m l w v := by
  simp [putBits]

/-- A write of the pair stores all of SUMMARY_DEST but the bits below 4 KiB. -/
theorem store_summaryDest (v : Nat) : s.store 0x40 v = s.wr TOP_SUMMARY_DEST (v / 4096 * 4096) := by
  have hl : lowReserved 0x40 = 12 := by decide
  simp only [State.store, regRow_summaryDest, hl, if_true]
  simp [RegRow.merge, FieldRow.merge, RegRow.shadow, State.putWord, State.wr, TOP_SUMMARY_DEST, State.fieldReg,
    State.pairAt, bitsAt, putBits]

theorem putWord_plain {off : Nat} {v : Word} : s.putWord false off v = s.setReg off v := rfl

/-- A write of FAULT_POLICY stores its two masks. -/
theorem reg_store_faultPolicy (v o : Nat) :
    (s.store 0x18 v).reg o =
      ((s.wr TOP_FAULT_POLICY_ALERT_MASK v).wr TOP_FAULT_POLICY_HALT_MASK (v / 65536)).reg o := by
  rw [store_word regRow_faultPolicy rfl]
  rw [reg_wr_word (by decide), reg_wr_word (by decide), reg_wr_word (by decide)]
  have hlt : putBits (s.reg 0x18).toNat 0 16 v < 4294967296 :=
    putBits_lt (k := 32) (s.reg 0x18).isLt (by omega)
  simp [RegRow.merge, FieldRow.merge, RegRow.shadow, putWord_plain, reg_setReg, TOP_FAULT_POLICY_ALERT_MASK,
    TOP_FAULT_POLICY_HALT_MASK, Nat.mod_eq_of_lt hlt, bitsAt, putBits_mod]
  split_ifs with h
  · rfl
  · simp [h]

/-! ### Reads -/

theorem busRead_permitted {r off addr : Nat} (h : s.permitted r (regClass off false) false = true) :
    s.busRead r off addr = (some (s.readWord off).1, (s.readWord off).2) := by
  simp [State.busRead, State.permit, h]

theorem busRead_denied {r off addr : Nat} (h : s.permitted r (regClass off false) false = false) :
    s.busRead r off addr = (none, s.deny r (regClass off false) false addr) := by
  simp [State.busRead, State.permit, h]

theorem registerRead_permitted {a : BitVec 26} {be : BitVec 8} (ho : s.barOpen = true) (ha : a.toNat % 4 = 0)
    (hp : s.permitted reqHost (regClass a.toNat false) false = true) :
    exec (.registerRead a 4 be) s =
      .next ((s.readWord a.toNat).2.complete (.data (leBytes 4 (s.readWord a.toNat).1))) := by
  simp [execRegisterRead, ho, reqWords_word ha, busRead_permitted hp]

theorem registerRead_denied {a : BitVec 26} {be : BitVec 8} (ho : s.barOpen = true) (ha : a.toNat % 4 = 0)
    (hp : s.permitted reqHost (regClass a.toNat false) false = false) :
    exec (.registerRead a 4 be) s =
      .next ((s.deny reqHost (regClass a.toNat false) false a.toNat).complete .unsupported) := by
  simp [execRegisterRead, ho, reqWords_word ha, busRead_denied hp]

theorem registerRead_unsupported {a : BitVec 26} {n : Nat} {be : BitVec 8} (ho : s.barOpen = true)
    (h : 512 < n ∨ (8 < n ∧ (a.toNat < 0x4000 ∨ 0x9000 ≤ a.toNat ∨ a.toNat % 4 ≠ 0)) ∨
      (n = 8 ∧ be = 255 ∧ a.toNat % 8 ≠ 0)) :
    exec (.registerRead a n be) s = .next (s.complete .unsupported) := by
  have hlong : 8 < n → longRead a.toNat n = false →
      exec (.registerRead a n be) s = .next (s.complete .unsupported) := fun hn hl => by
    simp [execRegisterRead, ho, hn, hl]
  obtain hn | ⟨hn, ha⟩ | ⟨rfl, rfl, ha⟩ := h
  · exact hlong (by omega) (by simp [longRead]; omega)
  · exact hlong hn (by simp [longRead]; omega)
  · simp [execRegisterRead, ho, reqWords_misaligned ha (on := fun i => bitAt 255 i) (by decide)]

theorem readWord_silent {off : Nat} (h : s.answers off = false) : s.readWord off = (0, s) := by
  simp [State.readWord, h]

/-- Is the word at an offset neither in a quill's memory window nor the entry of a probe? -/
def plainWord (off : Nat) : Bool :=
  decide (off < 0x400000) && (arr off (TIMELINE_PRB_POS 0).off 0x20 8).isNone

theorem readWord_plain {off : Nat} (ha : s.answers off = true) (hw : plainWord off = true) (hlo : pairLo off = false)
    (hhi : pairHi off = false) : s.readWord off = ((s.viewReg off).toNat, s.readClear off true) := by
  simp only [plainWord, Bool.and_eq_true, decide_eq_true_eq, Option.isNone_iff_eq_none] at hw
  obtain ⟨hq, hprb⟩ := hw
  simp [State.readWord, ha, hprb, hlo, hhi, show ¬ 0x400000 ≤ off by omega]

theorem readWord_lo {off : Nat} (ha : s.answers off = true) (hw : plainWord off = true) (hlo : pairLo off = true) :
    s.readWord off = ((s.viewReg off).toNat, State.readClear
      { s with latchHi := spSet (fun _ => none) s.latchHi (off + 4) (some (s.viewReg (off + 4))) } off false) := by
  simp only [plainWord, Bool.and_eq_true, decide_eq_true_eq, Option.isNone_iff_eq_none] at hw
  obtain ⟨hq, hprb⟩ := hw
  simp [State.readWord, ha, hprb, hlo, show ¬ 0x400000 ≤ off by omega]

theorem readWord_hi {off : Nat} {w : Word} (ha : s.answers off = true) (hw : plainWord off = true)
    (hlo : pairLo off = false) (hhi : pairHi off = true) (hs : spGet (fun _ => none) s.latchHi off = some w) :
    s.readWord off = (w.toNat, { s with latchHi := spSet (fun _ => none) s.latchHi off none }) := by
  simp only [plainWord, Bool.and_eq_true, decide_eq_true_eq, Option.isNone_iff_eq_none] at hw
  obtain ⟨hq, hprb⟩ := hw
  simp [State.readWord, ha, hprb, hlo, hhi, hs, show ¬ 0x400000 ≤ off by omega]

theorem readClear_none {off : Nat} {b : Bool} (h : regRow off = none) : s.readClear off b = s := by
  simp [State.readClear, h]

theorem readClear_keeps {off i : Nat} {row : RegRow} {hi b : Bool} (h : regRow off = some (row, i, hi))
    (hrc : row.fields.any (fun f => decide (f.acc = Access.rc)) = false) : s.readClear off b = s := by
  simp only [State.readClear, h]
  rw [if_pos]
  simp only [List.any_eq_false, decide_eq_true_eq] at hrc
  simp only [Bool.not_eq_true', List.any_eq_false]
  intro f hf
  have := hrc f hf
  cases hacc : f.acc <;> simp_all

theorem plainWord_top {off : Nat} (h : off < 0x10000) : plainWord off = true := by
  have hb : (TIMELINE_PRB_POS 0).off = 0x10308 := rfl
  simp [plainWord, arr, hb]
  omega

/-! ### Writes of registers by name -/

theorem registerWrite_faultPolicy {d : BitVec 64} (ho : s.barOpen = true)
    (hp : s.permitted reqHost clsConfig true = true) (hr : s.resetNow 0 = false) :
    ∃ u : State, exec (.registerWrite 0x18 4 15 d) s = .next u.recheck ∧
      u.rd TOP_FAULT_POLICY_ALERT_MASK = d.toNat % 65536 ∧
      u.rd TOP_FAULT_POLICY_HALT_MASK = d.toNat / 65536 % 65536 ∧
      s.keeps u [TOP_FAULT_POLICY_ALERT_MASK, TOP_FAULT_POLICY_HALT_MASK] ∧ u = { s with regs := u.regs } := by
  have hw : s.writeWord reqHost 0x18 (d.toNat % 2 ^ 32) = s.store 0x18 (d.toNat % 2 ^ 32) := by
    rw [writeWord_top (by omega) (by decide) regRow_faultPolicy rfl hr, store_word regRow_faultPolicy rfl]
  have hreg := reg_store_faultPolicy (s := s) (d.toNat % 2 ^ 32)
  refine ⟨s.store 0x18 (d.toNat % 2 ^ 32), ?_, ?_, ?_, ?_, ?_⟩
  · rw [← hw]
    exact registerWrite_permitted (a := 0x18) ho rfl hp
  · rw [rd_of_reg hreg, rd_wr_apart _ _ _ _ (by decide), rd_wr_same _ _ _ (by decide)]
    simp only [TOP_FAULT_POLICY_ALERT_MASK]
    omega
  · rw [rd_of_reg hreg, rd_wr_same _ _ _ (by decide)]
    simp only [TOP_FAULT_POLICY_HALT_MASK]
    omega
  · exact keeps_of_reg (fun o => (hreg o).symm)
      (State.keeps_wr (State.keeps_wr (State.keeps_refl _ _) _ _ (by simp)) _ _ (by simp))
  · rw [store_word regRow_faultPolicy rfl]
    rfl

section SummaryDest

variable {d : BitVec 64} (ho : s.barOpen = true) (hp : s.permitted reqHost clsConfig true = true)
  (hr : s.resetNow 0 = false)
include hr

theorem writeWord_summaryDest_lo (v : Nat) :
    s.writeWord reqHost 0x40 v =
      { s with stageLo := spSet (fun _ => none) s.stageLo 0x44 (some (BitVec.ofNat 32 v)) } :=
  writeWord_lo (answers_top (by omega)) hr (by decide)

theorem writeWord_summaryDest_hi {lo : Word} (v : Nat) (hs : spGet (fun _ => none) s.stageLo 0x44 = some lo) :
    s.writeWord reqHost 0x44 v =
      State.wr { s with stageLo := spSet (fun _ => none) s.stageLo 0x44 none } TOP_SUMMARY_DEST
        ((lo.toNat + v * 2 ^ 32) / 4096 * 4096) := by
  rw [writeWord_hi (answers_top (by omega)) hr (by decide) (by decide) (by decide) hs,
    writeAt_top (by omega) (by decide), store_summaryDest]

include ho hp

theorem registerWrite_summaryDest_lo :
    ∃ u : State, exec (.registerWrite 0x40 4 15 d) s = .next u.recheck ∧
      spGet (fun _ => none) u.stageLo 0x44 = some (BitVec.ofNat 32 d.toNat) ∧ u = { s with stageLo := u.stageLo } := by
  refine ⟨_, registerWrite_permitted (a := 0x40) ho rfl hp, ?_, ?_⟩
  · have hd : BitVec.ofNat 32 (d.toNat % 2 ^ 32) = BitVec.ofNat 32 d.toNat := by
      apply BitVec.eq_of_toNat_eq
      simp
    rw [show (0x40 : BitVec 26).toNat = 0x40 from rfl, writeWord_summaryDest_lo hr, hd]
    simp
  · rw [show (0x40 : BitVec 26).toNat = 0x40 from rfl, writeWord_summaryDest_lo hr]

theorem registerWrite_summaryDest_hi {lo : Word} (hs : spGet (fun _ => none) s.stageLo 0x44 = some lo) :
    ∃ u : State, exec (.registerWrite 0x44 4 15 d) s = .next u.recheck ∧
      u.rd TOP_SUMMARY_DEST = (lo.toNat / 4096 * 4096 + d.toNat % 2 ^ 12 * 2 ^ 32) ∧ s.keeps u [TOP_SUMMARY_DEST] := by
  refine ⟨_, registerWrite_permitted (a := 0x44) ho rfl hp, ?_⟩
  rw [show (0x44 : BitVec 26).toNat = 0x44 from rfl, writeWord_summaryDest_hi hr _ hs]
  constructor
  · rw [rd_wr_same _ _ _ (by decide)]
    simp only [TOP_SUMMARY_DEST]
    have := lo.isLt
    omega
  · exact State.keeps_wr (State.keeps_of_regs rfl _) _ _ (by simp)

theorem registerWrite_summaryDest :
    ∃ u : State, exec (.registerWrite 0x40 8 255 d) s = .next u.recheck ∧
      u.rd TOP_SUMMARY_DEST = d.toNat / 4096 * 4096 % 2 ^ 44 ∧ s.keeps u [TOP_SUMMARY_DEST] ∧
      spGet (fun _ => none) u.stageLo 0x44 = none ∧ u = { s with regs := u.regs, stageLo := u.stageLo } := by
  have hclass : regClass 0x40 true = clsConfig ∧ regClass 0x44 true = clsConfig := by decide
  have hlo := hostWord_permitted (s := s) (a := 0x40) (off := 0x40) (be := fun i => decide (i < 8) && bitAt 255 i)
    (d := d.toNat) (hclass.1 ▸ hp) (by decide)
  rw [writeWord_summaryDest_lo hr] at hlo
  obtain ⟨s₁, hs₁⟩ := exists_eq' (a' := { s with
    stageLo := spSet (fun _ => none) s.stageLo 0x44 (some (BitVec.ofNat 32 (bitsAt d.toNat 0 32))) })
  have hp₁ : s₁.permitted reqHost clsConfig true = true := by rw [← hs₁]; exact hp
  have hr₁ : s₁.resetNow 0 = false := by rw [← hs₁]; exact hr
  have hhi := hostWord_permitted (s := s₁) (a := 0x40) (off := 0x44) (be := fun i => decide (i < 8) && bitAt 255 i)
    (d := d.toNat) (hclass.2 ▸ hp₁) (by decide)
  have hv : (BitVec.ofNat 32 (bitsAt d.toNat 0 32)).toNat + bitsAt d.toNat 32 32 * 2 ^ 32 = d.toNat := by
    have := d.isLt
    simp [bitsAt]
    omega
  rw [writeWord_summaryDest_hi hr₁ _ (lo := BitVec.ofNat 32 (bitsAt d.toNat 0 32)) (by simp [← hs₁]), hv] at hhi
  have hex : exec (.registerWrite 0x40 8 255 d) s =
      .next (s₁.hostWord 0x40 (fun i => decide (i < 8) && bitAt 255 i) d.toNat 0x44).recheck := by
    have hw : reqWords 0x40 8 (fun i => decide (i < 8) && bitAt 255 i) = some [0x40, 0x44] := rfl
    simp [execRegisterWrite, ho, hw, hlo, ← hs₁]
  rw [hhi] at hex
  refine ⟨_, hex, rd_wr_same _ _ _ (by decide), ?_, by simp, ?_⟩
  · exact State.keeps_wr (State.keeps_of_regs (by rw [← hs₁]) _) _ _ (by simp)
  · rw [← hs₁, wr_stageLo]
    exact wr_frame _ _

end SummaryDest

/-! ### Reads of registers by name -/

theorem regClass_status {off : Nat} (h : off < 0x70200) : regClass off false = clsStatus := by
  simp [regClass]
  omega

theorem registerRead_silent {a : BitVec 26} {be : BitVec 8} (ho : s.barOpen = true) (ha : a.toNat % 4 = 0)
    (hn : s.answers a.toNat = false) (hp : s.permitted reqHost (regClass a.toNat false) false = true) :
    exec (.registerRead a 4 be) s = .next (s.complete (.data [0, 0, 0, 0])) := by
  rw [registerRead_permitted ho ha hp, readWord_silent hn]
  simp [leBytes]

/-- A word of the TOP block that is no half of a pair and holds no field of code RC reads as it is shown. -/
theorem registerRead_top {a : BitVec 26} {row : RegRow} {i : Nat} (ho : s.barOpen = true) (ha : a.toNat % 4 = 0)
    (hoff : a.toNat < 0x10000) (hrow : regRow a.toNat = some (row, i, false)) (hpair : row.pair = false)
    (hrc : row.fields.any (fun f => decide (f.acc = Access.rc)) = false)
    (hp : s.permitted reqHost clsStatus false = true) :
    exec (.registerRead a 4 15) s = .next (s.complete (.data (leBytes 4 (s.viewReg a.toNat).toNat))) := by
  rw [registerRead_permitted ho ha (by rwa [regClass_status (by omega)]),
    readWord_plain (answers_top hoff) (plainWord_top hoff)
      (by simp [pairLo_of_regRow (noPlainPair_top hoff) hrow, hpair]) (pairHi_of_regRow (noPlainPair_top hoff) hrow),
    readClear_keeps hrow hrc]

theorem ofNat_putBits_zero (n : Nat) : BitVec.ofNat 32 (putBits n 0 32 0) = 0 := by
  apply BitVec.eq_of_toNat_eq
  have h := bitsAt_putBits_same n 0 32 0
  rw [bitsAt, Nat.pow_zero, Nat.div_one] at h
  rw [BitVec.toNat_ofNat, h]
  rfl

theorem regRow_denied : regRow 0x70034 = some (⟨0x70034, [], false, [⟨0, 32, .rc, 0, 0, .none⟩]⟩, 0, false) := by
  decide

/-- A read with side effects of a word that is no half of a pair. -/
theorem readClear_word {off i : Nat} {row : RegRow} (hrow : regRow off = some (row, i, false))
    (hrc : row.fields.any (fun f => decide (f.acc = Access.rc)) = true) (hp : row.pair = false) (he : 0x40000 ≤ off) :
    s.readClear off true = s.setReg off (BitVec.ofNat 32 (row.cleared i (s.pairAt off))) := by
  obtain ⟨f, hf, hacc⟩ := List.any_eq_true.1 hrc
  simp only [State.readClear, hrow]
  rw [if_neg]
  · simp [hp, show ¬ off < 0x40000 by omega]
  · rw [Bool.not_eq_true', Bool.not_eq_false]
    exact List.any_eq_true.2 ⟨f, hf, by rw [of_decide_eq_true hacc]⟩

theorem cleared_rc (off lsb w reset step i cur : Nat) (dims : List (Nat × Nat)) (pair : Bool) (kept : Kept) :
    RegRow.cleared ⟨off, dims, pair, [⟨lsb, w, .rc, reset, step, kept⟩]⟩ i cur = putBits cur lsb w (reset + step * i) :=
  rfl

theorem readClear_denied : s.readClear 0x70034 true = s.wr SEC_DENIED 0 := by
  rw [readClear_word regRow_denied rfl rfl (by omega), cleared_rc, wr_word (by decide), Nat.zero_mul, Nat.add_zero,
    ofNat_putBits_zero]
  exact congrArg (s.setReg 0x70034) (ofNat_putBits_zero _).symm

theorem regRow_pos : regRow 0x10010 = some (⟨0x10010, [], true, [⟨0, 64, .ro, 0, 0, .warm⟩]⟩, 0, false) := by
  decide

theorem answers_denied : s.answers 0x70034 = true := by simp [State.answers, State.reservedReg]

theorem answers_timeline {off : Nat} (hb : off / 0x10000 = 1) (hm : s.mode ≠ 1) : s.answers off = true := by
  have hr : ¬ 0xA5000 ≤ off := by omega
  simp [State.answers, State.reservedReg, hb, hm, hr]

theorem viewReg_denied : (s.viewReg 0x70034).toNat = s.rd SEC_DENIED := by
  have h : ¬ SEC_MATRIX0.off ≤ 0x70034 := by decide
  have hlt : (s.reg 0x70034).toNat % 4294967296 = (s.reg 0x70034).toNat := Nat.mod_eq_of_lt (s.reg 0x70034).isLt
  simp [State.viewReg, State.viewSec, State.rd, State.fieldReg, SEC_DENIED, bitsAt, h, hlt]

theorem viewReg_pos_lo : (s.viewReg 0x10010).toNat = toBits 64 s.pos16 % 2 ^ 32 := by
  simp [State.viewReg, State.viewTimeline, TIMELINE_TICK, TIMELINE_POS, half]

theorem viewReg_pos_hi : s.viewReg 0x10014 = BitVec.ofNat 32 (toBits 64 s.pos16 / 2 ^ 32) := by
  apply BitVec.eq_of_toNat_eq
  simp [State.viewReg, State.viewTimeline, TIMELINE_TICK, TIMELINE_POS, half]

theorem registerRead_denied_count (ho : s.barOpen = true) (hp : s.permitted reqHost clsStatus false = true) :
    ∃ t, exec (.registerRead 0x70034 4 15) s = .next t ∧
      t.out.bar = s.out.bar ++ [.data (leBytes 4 (s.rd SEC_DENIED))] ∧ t.rd SEC_DENIED = 0 ∧
      s.keeps t [SEC_DENIED] ∧ t = { s with regs := t.regs, out := t.out } := by
  have hw : s.readWord 0x70034 = (s.rd SEC_DENIED, s.wr SEC_DENIED 0) := by
    rw [readWord_plain answers_denied (by decide) (by decide) (by decide), readClear_denied, viewReg_denied]
  have hex := registerRead_permitted (a := 0x70034) (be := 15) ho rfl hp
  rw [show (0x70034 : BitVec 26).toNat = 0x70034 from rfl, hw] at hex
  refine ⟨_, hex, ?_, ?_, ?_, ?_⟩
  · simp [State.complete]
  · exact rd_wr_same _ SEC_DENIED 0 (by decide)
  · exact State.keeps_wr (State.keeps_refl _ _) _ _ (by simp)
  · rw [wr_frame]
    rfl

theorem registerRead_pos_lo (v : Nat) (ho : s.barOpen = true) (hp : s.permitted reqHost clsStatus false = true)
    (hm : s.mode ≠ 1) (hv : v = toBits 64 s.pos16) :
    ∃ t, exec (.registerRead 0x10010 4 15) s = .next t ∧
      t.out.bar = s.out.bar ++ [.data (leBytes 4 (v % 2 ^ 32))] ∧
      spGet (fun _ => none) t.latchHi 0x10014 = some (BitVec.ofNat 32 (v / 2 ^ 32)) ∧
      t = { s with latchHi := t.latchHi, out := t.out } := by
  have hw : s.readWord 0x10010 = (v % 2 ^ 32, { s with
      latchHi := spSet (fun _ => none) s.latchHi 0x10014 (some (BitVec.ofNat 32 (v / 2 ^ 32))) }) := by
    rw [readWord_lo (answers_timeline rfl hm) (by decide) (by decide), readClear_keeps regRow_pos rfl,
      viewReg_pos_lo, viewReg_pos_hi, hv]
  have hex := registerRead_permitted (a := 0x10010) (be := 15) ho rfl hp
  rw [show (0x10010 : BitVec 26).toNat = 0x10010 from rfl, hw] at hex
  exact ⟨_, hex, rfl, by simp [State.complete], rfl⟩

theorem registerRead_pos_hi (w : Word) (ho : s.barOpen = true) (hp : s.permitted reqHost clsStatus false = true)
    (hm : s.mode ≠ 1) (hl : spGet (fun _ => none) s.latchHi 0x10014 = some w) :
    ∃ t, exec (.registerRead 0x10014 4 15) s = .next t ∧ t.out.bar = s.out.bar ++ [.data (leBytes 4 w.toNat)] ∧
      spGet (fun _ => none) t.latchHi 0x10014 = none ∧ t = { s with latchHi := t.latchHi, out := t.out } := by
  have hex := registerRead_permitted (a := 0x10014) (be := 15) ho rfl hp
  rw [show (0x10014 : BitVec 26).toNat = 0x10014 from rfl,
    readWord_hi (answers_timeline rfl hm) (by decide) (by decide) (by decide) hl] at hex
  exact ⟨_, hex, rfl, by simp [State.complete], rfl⟩

/-! ### Long reads (R487) -/

/-- What a read request has so far, after one more word of those it covers. -/
def readMore (x : Option (List Nat) × State) (w : Nat) : Option (List Nat) × State :=
  match x.1 with
  | none => x
  | some bs => ((x.2.busRead reqHost w w).1.map (fun v => bs ++ leBytes 4 v), (x.2.busRead reqHost w w).2)

theorem foldl_readMore {f : Nat → Nat} (ws : List Nat) (h : ∀ w ∈ ws, s.busRead reqHost w w = (some (f w), s)) :
    ∀ bs, ws.foldl readMore (some bs, s) = (some (bs ++ ws.flatMap fun w => leBytes 4 (f w)), s) := by
  induction ws with
  | nil => simp
  | cons w ws ih =>
    intro bs
    have hw : readMore (some bs, s) w = (some (bs ++ leBytes 4 (f w)), s) := by
      simp [readMore, h w List.mem_cons_self]
    rw [List.foldl_cons, hw, ih fun w' hw' => h w' (List.mem_cons_of_mem _ hw')]
    simp

theorem registerRead_long {a : BitVec 26} {n : Nat} {be : BitVec 8} {bs : List Nat} (ho : s.barOpen = true) (hn : 8 < n)
    (hl : longRead a.toNat n = true)
    (hws : ((List.range ((n + 3) / 4)).map (fun i => a.toNat + 4 * i)).foldl readMore (some [], s) = (some bs, s)) :
    exec (.registerRead a n be) s = .next (s.complete (.data bs)) := by
  simp only [exec_registerRead, execRegisterRead, ho, hn, hl, if_true, Bool.not_true, Bool.false_eq_true, if_false]
  exact congrArg (fun t : Option (List Nat) × State => Host.Outcome.next (t.2.complete (match t.1 with
    | some bs => .data bs
    | none => .unsupported))) hws

theorem viewReg_log {i : Nat} (hi : i < 2048) :
    (s.viewReg (0x4000 + 4 * i)).toNat = (spGet (fun _ => 0) s.top.log i).toNat := by
  have hspares : 0x4000 + 4 * i ≠ TOP_SPARES.off := by
    have : TOP_SPARES.off < 0x4000 := by decide
    omega
  have hoff : 0x4000 + 4 * i < 0x10000 := by omega
  have hlog : 0x4000 + 4 * i < 0x6000 := by omega
  simp [State.viewReg, State.viewTop, hspares, hoff, hlog]

theorem registerRead_log (ho : s.barOpen = true) (hp : s.permitted reqHost clsStatus false = true) :
    exec (.registerRead 0x4000 32 255) s = .next (s.complete (.data ((List.range 8).flatMap (fun i =>
      leBytes 4 (spGet (fun _ => 0) s.top.log i).toNat)))) := by
  have hrow : ∀ i < 8, regRow (0x4000 + 4 * i) = none := by decide
  have hbus : ∀ w ∈ (List.range 8).map (fun i => 0x4000 + 4 * i),
      s.busRead reqHost w w = (some (spGet (fun _ => 0) s.top.log ((w - 0x4000) / 4)).toNat, s) := by
    intro w hw
    obtain ⟨i, hi, rfl⟩ := List.mem_map.1 hw
    have hi8 := List.mem_range.1 hi
    have hoff : 0x4000 + 4 * i < 0x10000 := by omega
    obtain ⟨hlo, hhi⟩ := noPair_of_regRow_none (noPlainPair_top hoff) (hrow i hi8)
    rw [busRead_permitted (by rwa [regClass_status (by omega)]),
      readWord_plain (answers_top hoff) (plainWord_top hoff) hlo hhi, readClear_none (hrow i hi8)]
    rw [viewReg_log (by omega), show (0x4000 + 4 * i - 0x4000) / 4 = i by omega]
  refine registerRead_long ho (by omega) rfl ?_
  refine (foldl_readMore _ hbus []).trans ?_
  simp [List.flatMap_map]

/-! ### BAR2 (R488) -/

theorem bar2_out_of_reach {w : Bool} {a : BitVec 40} {bs : List (BitVec 8)} {n m : Nat} {es : List (Nat × Nat)}
    (hm : m = (if w then bs.length else n))
    (h : s.sec.perst = false ∨ s.mode = 0 ∨ bar2Size (s.rd SEC_STRAPS_BAR2_SZ) < a.toNat + m) :
    exec (.bar2Access w a bs n es) s = .next s := by
  subst hm
  obtain h | h | h := h <;> simp [execBar2Access, h]

/-- What an open BAR2 does with a request inside it. -/
theorem bar2_open {w : Bool} {a : BitVec 40} {bs : List (BitVec 8)} {n m : Nat} {es : List (Nat × Nat)}
    (hm : m = (if w then bs.length else n)) (ho : s.barOpen = true)
    (hfit : a.toNat + m ≤ bar2Size (s.rd SEC_STRAPS_BAR2_SZ)) :
    exec (.bar2Access w a bs n es) s =
      if s.on DRAMC_STATUS_TRAINED = false then
        .next ((s.complete .unsupported).fault srcSec 0xB010 (slot2 a.toNat ++ slot1 0))
      else if s.dramFits a.toNat m = false then
        .next ((s.complete .unsupported).fault srcSec 0xB010 (slot2 a.toNat ++ slot1 1))
      else .next (State.bar2Serve (if s.inSelfRefresh then s else s.addFlips es) w a.toNat (bs.map (·.toNat)) n).recheck := by
  subst hm
  simp only [State.barOpen, Bool.and_eq_true, bne_iff_ne, Bool.not_eq_true'] at ho
  obtain ⟨⟨hperst, hmode⟩, htrip⟩ := ho
  simp [execBar2Access, hperst, hmode, htrip, Nat.not_lt.2 hfit]

theorem bar2_served {w : Bool} {a : BitVec 40} {bs : List (BitVec 8)} {n m : Nat}
    (hm : m = (if w then bs.length else n)) (ho : s.barOpen = true)
    (hfit : a.toNat + m ≤ bar2Size (s.rd SEC_STRAPS_BAR2_SZ)) (htr : s.on DRAMC_STATUS_TRAINED = true)
    (hsz : a.toNat + m ≤ s.rd DRAMC_SIZE) :
    exec (.bar2Access w a bs n []) s = .next (s.bar2Serve w a.toNat (bs.map (·.toNat)) n).recheck := by
  rw [bar2_open hm ho hfit]
  simp [htr, State.dramFits, hsz, State.addFlips]

theorem bar2Serve_write {bs : List Nat} {n : Nat} (hp : s.permitted reqHost clsMemory true = true)
    (hsr : s.inSelfRefresh = false) :
    s.bar2Serve true a bs n = (s.dramWriteNow a bs clsHost).2.complete .written := by
  simp [State.bar2Serve, State.permit, hp, State.dramPut, State.dramWrite, hsr]

theorem bar2Serve_read {bs : List Nat} {n : Nat} (hp : s.permitted reqHost clsMemory false = true)
    (hsr : s.inSelfRefresh = false) :
    s.bar2Serve false a bs n = (s.dramTouch a n clsHost).2.complete
      (if (s.dramTouch a n clsHost).1.isSome then .aborted else .data (s.dramBytes a n)) := by
  simp [State.bar2Serve, State.permit, hp, State.dramRead, hsr]

/-! ### Clean beats (R366 to R368) -/

theorem flips_of_flippedIn_nil {b : Nat} (h : s.flippedIn a n = []) (hlo : a / 8 ≤ b) (hhi : 8 * b < a + n) :
    spGet (fun _ => 0) s.dram.flips b = 0 := by
  unfold spGet
  cases hf : spFind s.dram.flips b with
  | none => rfl
  | some v =>
    have hmem : b ∈ s.flippedIn a n :=
      List.mem_map.2 ⟨_, List.mem_filter.2 ⟨spFind_mem hf, by simp [hlo, hhi]⟩, rfl⟩
    rw [h] at hmem
    cases hmem

theorem readBeat_clean {b : Nat} (h : spGet (fun _ => 0) s.dram.flips b = 0) : s.readBeat b = (.clean, s.beatData b, 0) := by
  simp [State.readBeat, h]

theorem partialBeat_clean {b cls : Nat} (h : spGet (fun _ => 0) s.dram.flips b = 0) :
    s.partialBeat b cls = (false, s.putBeat b (s.beatData b)) := by
  simp [State.partialBeat, readBeat_clean h, ReadKind.bad]

/-- The bytes of a number made of bytes are those bytes. -/
theorem leBytes_ofLeBytes (bs : List Nat) (h : ∀ b ∈ bs, b < 256) : leBytes bs.length (ofLeBytes bs) = bs := by
  induction bs with
  | nil => rfl
  | cons b bs ih =>
    have hb := h b List.mem_cons_self
    rw [List.length_cons, ofLeBytes, leBytes, Nat.mod_eq_of_lt hb, show (b + 256 * ofLeBytes bs) % 256 = b by omega,
      show (b + 256 * ofLeBytes bs) / 256 = ofLeBytes bs by omega, ih fun c hc => h c (List.mem_cons_of_mem _ hc)]

theorem leBytes_length (k n : Nat) : (leBytes k n).length = k := by
  induction k generalizing n with
  | zero => rfl
  | succ k ih => rw [leBytes, List.length_cons, ih]

theorem Memory.bytes_eq_map (m : Memory) (a n : Nat) : m.bytes a n = (List.range n).map fun i => m.byte (a + i) := by
  simp [Memory.bytes, spGetMany, tabulate, Memory.byte]

/-- Writing back what a beat holds changes no byte. -/
theorem dramByte_putBeat_beatData (b x : Nat) : (s.putBeat b (s.beatData b)).dramByte x = s.dramByte x := by
  have hlen : (Memory.bytes s.dram.mem (8 * b) 8).length = 8 := by simp [Memory.bytes_eq_map]
  have hle : leBytes 8 (s.beatData b) = Memory.bytes s.dram.mem (8 * b) 8 := by
    have := leBytes_ofLeBytes (Memory.bytes s.dram.mem (8 * b) 8) (by
      intro c hc
      rw [Memory.bytes_eq_map] at hc
      obtain ⟨i, -, rfl⟩ := List.mem_map.1 hc
      exact BitVec.isLt _)
    rwa [hlen] at this
  simp only [State.dramByte, State.putBeat, hle]
  by_cases hx : 8 * b ≤ x ∧ x < 8 * b + 8
  · rw [Memory.byte_put_inside _ _ _ _ hx.1 (by omega)]
    simp only [Memory.bytes_eq_map, List.getElem_map, List.getElem_range]
    rw [show 8 * b + (x - 8 * b) = x by omega]
    exact Nat.mod_eq_of_lt (BitVec.isLt _)
  · rw [Memory.byte_put_outside _ _ _ _ (by omega)]

/-- `t` differs from `s` in its DRAM alone, holds the same bytes there, and its beats of a range are clean. -/
structure State.SameBytes (s t : State) (a n : Nat) : Prop where
  frame : t = { s with dram := t.dram }
  bytes : ∀ x, t.dramByte x = s.dramByte x
  clean : ∀ b, a / 8 ≤ b → 8 * b < a + n → spGet (fun _ => 0) t.dram.flips b = 0

theorem State.SameBytes.rankCmd (h : s.SameBytes t a n) {x : Nat} : s.SameBytes (t.rankCmd x) a n :=
  ⟨by rw [State.rankCmd, h.frame], h.bytes, h.clean⟩

theorem State.SameBytes.putBeat {b : Nat} (h : s.SameBytes t a n) : s.SameBytes (t.putBeat b (t.beatData b)) a n := by
  refine ⟨by rw [State.putBeat, h.frame], fun x => (dramByte_putBeat_beatData b x).trans (h.bytes x), fun c hlo hhi => ?_⟩
  simp only [State.putBeat, spGet_spSet]
  split
  · rfl
  · exact h.clean c hlo hhi

/-- The bytes of a clean range are those last written. -/
theorem dramBytes_clean (h : s.flippedIn a n = []) :
    s.dramBytes a n = (List.range n).map (fun i => s.dramByte (a + i)) := by
  unfold State.dramBytes tabulate
  refine List.map_congr_left fun i hi => ?_
  have hi := List.mem_range.1 hi
  exact if_pos (flips_of_flippedIn_nil h (by omega) (by omega))

theorem dramTouch_clean {cls : Nat} (h : s.flippedIn a n = []) : s.dramTouch a n cls = (none, s.rankCmd a) := by
  simp [State.dramTouch, h]

theorem nth_eq_getElem {d : Nat} : ∀ {l : List Nat} {i : Nat} (h : i < l.length), nth d l i = l[i]
  | _ :: _, 0, _ => rfl
  | _ :: _, _ + 1, h => nth_eq_getElem (Nat.lt_of_succ_lt_succ h)

/-- The bytes after a write to a range whose beats are clean. -/
structure State.Written (s u : State) (a : Nat) (bs : List Nat) : Prop where
  frame : u = { s with dram := u.dram }
  inside : ∀ i < bs.length, u.dramByte (a + i) = nth 0 bs i % 256
  outside : ∀ x, x < a ∨ a + bs.length ≤ x → u.dramByte x = s.dramByte x

theorem State.SameBytes.storeBytes {bs : List Nat} (h : s.SameBytes t a n) : s.Written (t.storeBytes a bs []) a bs := by
  refine ⟨?_, fun i hi => ?_, fun x hx => ?_⟩
  · rw [State.storeBytes, h.frame]
    rfl
  · have hb := Memory.byte_put_inside t.dram.mem a (a + i) bs (by omega) (by omega)
    simp only [Nat.add_sub_cancel_left] at hb
    rw [nth_eq_getElem hi]
    exact hb
  · exact (Memory.byte_put_outside t.dram.mem a x bs hx).trans (h.bytes x)

theorem dramWriteNow_clean {bs : List Nat} {cls : Nat} (h : s.flippedIn a bs.length = []) :
    s.Written (s.dramWriteNow a bs cls).2 a bs := by
  have hs : s.SameBytes s a bs.length := ⟨rfl, fun _ => rfl, fun _ => flips_of_flippedIn_nil h⟩
  unfold State.dramWriteNow
  extract_lets n ends r
  split
  · exact ⟨rfl, fun i hi => by omega, fun _ _ => rfl⟩
  · have hends : ∀ b ∈ ends, a / 8 ≤ b ∧ 8 * b < a + bs.length := by
      intro b hb
      obtain hb | hb := List.mem_append.1 hb <;> split at hb
      · cases hb
      · rw [List.mem_singleton.1 hb]
        omega
      · cases hb
      · rename_i hend
        simp only [Bool.or_eq_true, decide_eq_true_eq] at hend
        rw [List.mem_singleton.1 hb]
        omega
    have hr : r.1 = [] ∧ s.SameBytes r.2 a bs.length := by
      refine List.foldlRecOn ends _ (motive := fun (r : List Nat × State) => r.1 = [] ∧ s.SameBytes r.2 a bs.length) ⟨rfl, hs.rankCmd⟩ ?_
      intro r ⟨hnil, hsame⟩ b hb
      obtain ⟨hlo, hhi⟩ := hends b hb
      rw [partialBeat_clean (hsame.clean b hlo hhi)]
      exact ⟨hnil, hsame.putBeat⟩
    rw [hr.1]
    exact hr.2.storeBytes

theorem bar2_write {a : BitVec 40} {bs : List (BitVec 8)} {n : Nat} (ho : s.barOpen = true)
    (hfit : a.toNat + bs.length ≤ bar2Size (s.rd SEC_STRAPS_BAR2_SZ)) (htr : s.on DRAMC_STATUS_TRAINED = true)
    (hsz : a.toNat + bs.length ≤ s.rd DRAMC_SIZE) (hp : s.permitted reqHost clsMemory true = true)
    (hsr : s.inSelfRefresh = false) (hc : s.flippedIn a.toNat bs.length = []) :
    ∃ u : State, exec (.bar2Access true a bs n []) s = .next u.recheck ∧
      (∀ i ∈ List.range bs.length, u.dramByte (a.toNat + i) = nth 0 (bs.map (·.toNat)) i) ∧
      (∀ x, x < a.toNat ∨ a.toNat + bs.length ≤ x → u.dramByte x = s.dramByte x) ∧
      u.out = { s.out with bar := s.out.bar ++ [.written] } ∧ u = { s with dram := u.dram, out := u.out } := by
  have hw := dramWriteNow_clean (s := s) (a := a.toNat) (bs := bs.map (·.toNat)) (cls := clsHost) (by simpa using hc)
  obtain ⟨u, hu⟩ := exists_eq' (a' := (s.dramWriteNow a.toNat (bs.map (·.toNat)) clsHost).2)
  rw [hu] at hw
  obtain ⟨hframe, hin, hout⟩ := hw
  have hex := bar2_served (bs := bs) (n := n) (m := bs.length) (w := true) rfl ho hfit htr hsz
  rw [bar2Serve_write hp hsr, hu] at hex
  refine ⟨_, hex, fun i hi => ?_, fun x hx => hout x (by simpa using hx), ?_, ?_⟩
  · have hi := List.mem_range.1 hi
    refine (hin i (by simpa using hi)).trans (Nat.mod_eq_of_lt ?_)
    rw [nth_eq_getElem (by simpa using hi), List.getElem_map]
    exact BitVec.isLt _
  · rw [hframe]
    rfl
  · rw [State.complete, hframe]

theorem bar2_read {a : BitVec 40} {bs : List (BitVec 8)} {n : Nat} (ho : s.barOpen = true)
    (hfit : a.toNat + n ≤ bar2Size (s.rd SEC_STRAPS_BAR2_SZ)) (htr : s.on DRAMC_STATUS_TRAINED = true)
    (hsz : a.toNat + n ≤ s.rd DRAMC_SIZE) (hp : s.permitted reqHost clsMemory false = true)
    (hsr : s.inSelfRefresh = false) (hc : s.flippedIn a.toNat n = []) :
    ∃ u : State, exec (.bar2Access false a bs n []) s = .next u.recheck ∧
      u.out.bar = s.out.bar ++ [.data ((List.range n).map (fun i => s.dramByte (a.toNat + i)))] ∧
      u.dram.mem = s.dram.mem := by
  have hex := bar2_served (bs := bs) (n := n) (m := n) (w := false) rfl ho hfit htr hsz
  rw [bar2Serve_read hp hsr, dramTouch_clean hc, dramBytes_clean hc] at hex
  exact ⟨_, hex, rfl, rfl⟩

/-! ### An uncorrectable beat (R373, R374) -/

theorem migrate_out {ch src cause : Nat} : (s.migrate ch src cause).out = s.out := by
  unfold State.migrate
  split
  · rfl
  · split <;> simp

theorem rankPolicy_out {ch rank cause : Nat} : (s.rankPolicy ch rank cause).out = s.out := by
  unfold State.rankPolicy
  split
  · exact migrate_out
  · rfl

theorem noteUe_out {ch rank a cls syn : Nat} : (s.noteUe .uncorrectable ch rank a cls syn).out = s.out := by
  unfold State.noteUe
  extract_lets s₁ s₂ kind s₃ s₄ s₅ det key due
  have h₅ : s₅.out = s.out := by simp [s₅, s₄, s₃, s₂, s₁]
  dsimp only
  split
  · rw [fault_out, ← h₅]
  · exact h₅

theorem dramTouch_uncorrectable {b cls : Nat} (hc : s.flippedIn a n = [b]) (hb : (s.readBeat b).1 = .uncorrectable) :
    (s.dramTouch a n cls).1 = some (8 * b) ∧ (s.dramTouch a n cls).2.out = s.out := by
  have hr : ((s.rankCmd a).readBeat b).1 = .uncorrectable := hb
  simp [State.dramTouch, hc, State.noteBeat, hr, rankPolicy_out, noteUe_out]
  rfl

theorem bar2_read_uncorrectable {a : BitVec 40} {bs : List (BitVec 8)} {n b : Nat} (ho : s.barOpen = true)
    (hfit : a.toNat + n ≤ bar2Size (s.rd SEC_STRAPS_BAR2_SZ)) (htr : s.on DRAMC_STATUS_TRAINED = true)
    (hsz : a.toNat + n ≤ s.rd DRAMC_SIZE) (hp : s.permitted reqHost clsMemory false = true)
    (hsr : s.inSelfRefresh = false) (hc : s.flippedIn a.toNat n = [b]) (hb : (s.readBeat b).1 = .uncorrectable) :
    ∃ u : State, exec (.bar2Access false a bs n []) s = .next u.recheck ∧ u.out.bar = s.out.bar ++ [.aborted] := by
  obtain ⟨hfail, hout⟩ := dramTouch_uncorrectable (cls := clsHost) hc hb
  have hex := bar2_served (bs := bs) (n := n) (m := n) (w := false) rfl ho hfit htr hsz
  rw [bar2Serve_read hp hsr, hfail] at hex
  exact ⟨_, hex, by simp [State.complete, hout]⟩

/-- Settles O54: the words a request reaches, then the rules of the bus for one word, then BAR2. -/
theorem hostRequestsReachRegistersAndDram : Obligations.HostRequestsReachRegistersAndDram := by
  refine ⟨?_, ?_, ?_, ?_, ?_, ?_, ?_, ?_, ?_, ?_, ?_, ?_, ?_, ?_, ?_, ?_, ?_, ?_, ?_, ?_, ?_, ?_, ?_, ?_, ?_, ?_⟩
  · intro s a n be d h
    simp [execRegisterWrite, barClosed h]
  · intro s a n be h
    simp [execRegisterRead, barClosed h]
  · exact fun s a n be d ho h => registerWrite_unsupported ho h
  · exact fun s a n be ho h => registerRead_unsupported ho h
  · intro s a d row i ho ha hoff hc hrow hpair hp hr
    rw [registerWrite_permitted ho ha hp, writeWord_top hoff hc hrow hpair hr]
  · exact fun s d ho hp hr => registerWrite_faultPolicy ho hp hr
  · exact fun s d ho hp hr => registerWrite_summaryDest ho hp hr
  · exact fun s d ho hp hr => registerWrite_summaryDest_lo ho hp hr
  · exact fun s d lo ho hp hr hs => registerWrite_summaryDest_hi ho hp hr hs
  · exact fun s a n be d ho ha hn hbe => registerWrite_partial ho ha hn hbe
  · intro s a d ho ha hp
    rw [registerWrite_full ho ha, busWrite_denied hp]
  · intro s a d ho ha hn hp
    rw [registerWrite_permitted ho ha hp, writeWord_silent hn]
  · intro s a d ho ha hrow hoff hp
    rw [registerWrite_permitted ho ha hp, writeWord_top_none hoff hrow]
  · exact fun s a be ho ha hn hp => registerRead_silent ho ha hn hp
  · exact fun s a be ho ha hp => registerRead_denied ho ha hp
  · exact fun s a row i ho ha hoff hrow hpair hrc hp => registerRead_top ho ha hoff hrow hpair hrc hp
  · exact fun s ho hp => registerRead_denied_count ho hp
  · exact fun s v ho hp hm hv => registerRead_pos_lo v ho hp hm hv
  · exact fun s w ho hp hm hl => registerRead_pos_hi w ho hp hm hl
  · exact fun s ho hp => registerRead_log ho hp
  · exact fun s w a bs n m es hm h => bar2_out_of_reach hm h
  · intro s w a bs n m es hm ho hfit htr
    rw [bar2_open hm ho hfit, if_pos htr]
  · intro s w a bs n m es hm ho hfit htr hsz
    rw [bar2_open hm ho hfit, if_neg (by simp [htr]), if_pos (by simpa [State.dramFits] using hsz)]
  · exact fun s a bs n ho hfit htr hsz hp hsr hc => bar2_write ho hfit htr hsz hp hsr hc
  · exact fun s a bs n ho hfit htr hsz hp hsr hc => bar2_read ho hfit htr hsz hp hsr hc
  · exact fun s a bs n b ho hfit htr hsz hp hsr hc hb => bar2_read_uncorrectable ho hfit htr hsz hp hsr hc hb

end Sys2Proof.Machine
end

section
namespace Sys2Proof.Machine
open Sys2Proof

variable {s t u : State}

/-! ## Web position

### What follows a movement of web position (R17, R34, R36)

A movement makes scheduler entries fall due, generators and units offer their next actions, and compare units,
virtual limits and late entries act. `State.Follows s t` bounds all of that at once. -/

/-- A field that lies in the bytes of BAR0 from `lo` to `hi - 1`. -/
abbrev Fld.within (f : Fld) (lo hi : Nat) : Prop := lo * 8 ≤ f.off * 8 + f.lsb ∧ f.off * 8 + f.lsb + f.w ≤ hi * 8

/-- A field with no bit in those bytes. -/
abbrev Fld.clearOf (f : Fld) (lo hi : Nat) : Prop := f.off * 8 + f.lsb + f.w ≤ lo * 8 ∨ hi * 8 ≤ f.off * 8 + f.lsb

/-- A field of TIMELINE_CTRL, of TIMELINE_RATIO or of an encoder. -/
abbrev Fld.held (f : Fld) : Prop := f.within 0x10000 0x10004 ∨ f.within 0x10020 0x10024 ∨ f.within 0x10100 0x10200

/-- A field that shares no bit with any of those. -/
abbrev Fld.beside (f : Fld) : Prop :=
  f.clearOf 0x10000 0x10004 ∧ f.clearOf 0x10020 0x10024 ∧ f.clearOf 0x10100 0x10200

/-- A field of an encoder. -/
theorem Fld.held_encoder {base e lsb w : Nat} (he : e < 4)
    (h : 0x10100 ≤ base ∧ base * 8 + lsb + w ≤ 0x10140 * 8 := by decide) :
    Fld.held ⟨base + 0x40 * e, lsb, w⟩ := by
  refine .inr (.inr ?_)
  dsimp only [Fld.within]
  omega

theorem Fld.beside.apart {f g : Fld} (hf : f.beside) (hg : g.held) : f.apart g := by
  unfold Fld.apart
  omega

theorem Fld.apart.symm {f g : Fld} (h : f.apart g) : g.apart f := Or.symm h

/-- Fields of one element of an array of registers. -/
theorem Fld.apart_element {base stride i lsb w base' lsb' w' : Nat}
    (h : base * 8 + lsb + w ≤ base' * 8 + lsb' ∨ base' * 8 + lsb' + w' ≤ base * 8 + lsb := by decide) :
    Fld.apart ⟨base + stride * i, lsb, w⟩ ⟨base' + stride * i, lsb', w'⟩ := by
  unfold Fld.apart
  dsimp only
  omega

/-- A field of an array of registers, and one below the array. -/
theorem Fld.apart_below {f : Fld} {base stride i lsb w : Nat} (h : f.off * 8 + f.lsb + f.w ≤ base * 8 + lsb := by decide) :
    Fld.apart ⟨base + stride * i, lsb, w⟩ f := by
  unfold Fld.apart
  dsimp only
  omega

/-- The recorder's fields lie below every array. -/
theorem faultFlds_apart_array {base stride i lsb w : Nat} (h : 0x28 ≤ base) :
    ∀ g ∈ faultFlds, g.apart ⟨base + stride * i, lsb, w⟩ := by
  intro g hg
  have hoff : g.off * 8 + g.lsb + g.w ≤ 0x28 * 8 := by
    revert g
    decide
  exact Fld.apart.symm (Fld.apart_below (by omega))

/-- A field of an array of registers that lies above the encoders. -/
theorem Fld.beside_array (base stride i lsb w : Nat) (h : 0x10200 ≤ base := by decide) :
    Fld.beside ⟨base + stride * i, lsb, w⟩ := by
  refine ⟨.inr ?_, .inr ?_, .inr ?_⟩ <;> dsimp only <;> omega

/-- A timeline with what a movement may change replaced. -/
abbrev Timeline.pace (x : Timeline) (sched : List SchedEntry) (frames : Sparse FrameGen) (mark : Option Int)
    (cmpFired : Sparse (Option Nat)) (low high : Bool) : Timeline :=
  { x with
    sched := sched, frames := frames, mark := mark, cmpFired := cmpFired, vlimLowOut := low, vlimHighOut := high }

/-- `s` with what follows a movement taken from `t`. -/
def State.paced (s t : State) : State :=
  { s with
    regs := t.regs
    ev := t.ev
    top := t.top
    tl := s.tl.pace t.tl.sched t.tl.frames t.tl.mark t.tl.cmpFired t.tl.vlimLowOut t.tl.vlimHighOut }

/-- `t` differs from `s` by no more than what follows a movement: the control and encoder registers, the position,
its latches, encoders, probes and waiting triggers are the same. -/
structure State.Follows (s t : State) : Prop where
  rd : ∀ g : Fld, g.held → t.rd g = s.rd g
  frame : t = s.paced t

namespace State.Follows

theorem refl (s : State) : s.Follows s := ⟨fun _ _ => rfl, rfl⟩

theorem trans (h : s.Follows t) (h' : t.Follows u) : s.Follows u where
  rd g hg := (h'.rd g hg).trans (h.rd g hg)
  frame := calc
    u = t.paced u := h'.frame
    _ = (s.paced t).paced u := by rw [← h.frame]
    _ = s.paced u := rfl

/-- An update of what `State.paced` lets differ, but the registers. -/
theorem update {ev top sched frames mark cmpFired low high} (h : s.Follows t) :
    s.Follows { t with ev := ev, top := top, tl := t.tl.pace sched frames mark cmpFired low high } :=
  h.trans ⟨fun _ _ => rfl, rfl⟩

theorem wr (h : s.Follows t) {f : Fld} {v : Nat} (hf : f.beside := by decide) : s.Follows (t.wr f v) :=
  h.trans ⟨fun g hg => rd_wr_apart t f g v (hf.apart hg), by rw [wr_frame]; rfl⟩

theorem wrS (h : s.Follows t) {f : Fld} {v : Int} (hf : f.beside := by decide) : s.Follows (t.wrS f v) := h.wr hf

theorem set1 (h : s.Follows t) {f : Fld} (hf : f.beside := by decide) : s.Follows (t.set1 f) := h.wr hf

theorem bump (h : s.Follows t) {f : Fld} {n : Nat} (hf : f.beside := by decide) : s.Follows (t.bump f n) := h.wr hf

theorem ite {c : Prop} {_ : Decidable c} (h : s.Follows t) (h' : s.Follows u) : s.Follows (if c then t else u) := by
  split
  · exact h
  · exact h'

/-- A step may be followed by any argument that needs no more than the bound. -/
theorem bind {p : Prop} (h : s.Follows t) (k : s.Follows t → p) : p := k h

theorem foldl {α : Type} {l : List α} {f : State → α → State} (h : s.Follows t)
    (hf : ∀ t a, s.Follows t → s.Follows (f t a)) : s.Follows (l.foldl f t) :=
  List.foldlRecOn l f h fun t ht a _ => hf t a ht

theorem fault (h : s.Follows t) {source code : Nat} {slots : List Nat} : s.Follows (t.fault source code slots) :=
  h.wr.bind fun h₁ => h₁.update.ite h₁.bump.set1

theorem occurOn (h : s.Follows t) {producer channel hop : Nat} : s.Follows (t.occurOn producer channel hop) :=
  h.update

theorem occur (h : s.Follows t) {producer hop : Nat} : s.Follows (t.occur producer hop) := h.occurOn.ite h

theorem notePeak (h : s.Follows t) : s.Follows t.notePeak := h.wr

theorem addEntry (h : s.Follows t) {e : SchedEntry} : s.Follows (t.addEntry e) := h.update.notePeak

theorem markerSkipped (h : s.Follows t) {m : Nat} {slot : Int} : s.Follows (t.markerSkipped m slot) :=
  (h.set1.set1 (Fld.beside_array 0x10c04 0x10 m 9 1)).fault

theorem missedSlot (h : s.Follows t) {act : Action} {slot : Int} : s.Follows (t.missedSlot act slot) := h.set1.fault

theorem offer (h : s.Follows t) {act : Action} {slot : Int} : s.Follows (t.offer act slot).1 := by
  unfold State.offer
  split
  · exact h.set1.fault
  · split
    · split
      · exact h.markerSkipped
      · exact h.missedSlot.addEntry
    · exact h.addEntry

theorem offer' (h : s.Follows t) {act : Action} {slot : Int} : s.Follows (t.offer' act slot) := h.offer

theorem withdraw (h : s.Follows t) {p : Action → Bool} : s.Follows (t.withdraw p) := h.update

theorem withdrawOpen (h : s.Follows t) {p : Action → Bool} : s.Follows (t.withdrawOpen p) := h.update

theorem offerCommit (h : s.Follows t) {w : CommitUnit} : s.Follows (t.offerCommit w) := by
  unfold State.offerCommit
  refine h.ite (h.ite ?_)
  dsimp only
  split
  · exact h.withdrawOpen.offer'
  · exact h.withdrawOpen

theorem offerCommits (h : s.Follows t) : s.Follows t.offerCommits := h.foldl fun _ _ h₁ => h₁.offerCommit

theorem armTrigger (h : s.Follows t) : s.Follows t.armTrigger :=
  h.withdrawOpen.bind fun h₁ => (h₁.offer'.ite h₁).offerCommits

theorem notThisLine (h : s.Follows t) {w : CommitUnit} : s.Follows (t.notThisLine w) := h.withdraw.ite h

theorem trigDue (h : s.Follows t) : s.Follows t.trigDue := by
  unfold State.trigDue
  split
  · split
    · exact (h.update.foldl fun _ _ h₁ => h₁.notThisLine).armTrigger
    · exact h
  · exact h

theorem setFrameGen (h : s.Follows t) {f : Nat} {x : FrameGen} : s.Follows (t.setFrameGen f x) := h.update

theorem offerFrame (h : s.Follows t) {f : Nat} {l : Int} : s.Follows (t.offerFrame f l) :=
  h.setFrameGen.offer'.offerCommits

theorem frameDue (h : s.Follows t) {f : Nat} : s.Follows (t.frameDue f) := by
  unfold State.frameDue
  dsimp only
  split
  · exact h.offerFrame.ite h
  · exact h

theorem fallDue (h : s.Follows t) : s.Follows t.fallDue :=
  ((h.update.ite h).foldl fun _ _ h₁ => h₁.frameDue).trigDue

theorem vlimHit (h : s.Follows t) {which : Nat} : s.Follows (t.vlimHit which) :=
  (h.set1 (by split <;> decide)).occur.fault

theorem testVlim (h : s.Follows t) : s.Follows t.testVlim :=
  ((h.vlimHit.ite h).bind fun h₁ => (h₁.vlimHit.ite h₁).update).ite h

/-- Where a step sets the position and its latches, what follows it is bounded as before. -/
theorem both (h : s.Follows t) (freeCount : Nat) (pos latched : Int) (pairs : List LatchPair) :
    State.Follows
      { s with freeCount := freeCount, tl := { s.tl with pos := pos, latched := latched, pairs := pairs } }
      { t with freeCount := freeCount, tl := { t.tl with pos := pos, latched := latched, pairs := pairs } } where
  rd := h.rd
  frame := by
    conv_lhs => rw [h.frame]
    rfl

/-- A movement of both, and what follows it in one. -/
theorem moveTo (h : s.Follows t) {p : Int} : State.Follows { s with tl := { s.tl with pos := p } } (t.moveTo p) :=
  State.Follows.fallDue (State.Follows.testVlim ⟨h.rd, by
    conv_lhs => rw [h.frame]
    rfl⟩)

theorem updVelocity (h : s.Follows t) : s.Follows t.updVelocity := h.wrS

theorem chooseGenerated (h : s.Follows t) {f : Nat} : s.Follows (t.chooseGenerated f) :=
  h.withdrawOpen.bind fun h₁ => h₁.offerFrame.ite h₁.offerCommits

theorem sensedMark (h : s.Follows t) {f : Nat} {p : Int} : s.Follows (t.sensedMark f p) :=
  (h.set1 (Fld.beside_array 0x10200 0x20 f 9 1)).fault.ite h.setFrameGen.offerFrame

theorem lateEntries (h : s.Follows t) : s.Follows t.lateEntries := by
  unfold State.lateEntries
  refine h.foldl fun u e h₁ => ?_
  dsimp only
  split
  · exact State.Follows.markerSkipped h₁.update
  · exact (State.Follows.missedSlot h₁.update).addEntry

theorem compareFires (h : s.Follows t) {c : Nat} : s.Follows (t.compareFires c) :=
  ((h.occur.set1 (Fld.beside_array 0x10404 0x20 c 0 1)).wr (Fld.beside_array 0x10418 0x20 c 0 64)).update.bind fun h₃ =>
    ((h₃.wrS (Fld.beside_array 0x10408 0x20 c 0 64)).bind fun h₄ => h₄.ite
      ((h₄.bump (Fld.beside_array 0x10414 0x20 c 0 32)).set1 (Fld.beside_array 0x10404 0x20 c 3 1))).ite h₃ |>.bind fun h₄ =>
    (h₄.wr (Fld.beside_array 0x10400 0x20 c 0 1)).ite h₄

theorem compareTest (h : s.Follows t) {c : Nat} : s.Follows (t.compareTest c) :=
  ((h.set1 (Fld.beside_array 0x10404 0x20 c 2 1)).compareFires.ite (h.set1 (Fld.beside_array 0x10404 0x20 c 1 1))).ite h

end State.Follows

end Sys2Proof.Machine
end

section
namespace Sys2Proof.Machine
open Sys2Proof

variable {s t u c b : State}

/-! ### The part of a state that the web reaches -/

/-- `t` differs from `s` at most in its registers, timeline, events, recorder and count of free values. -/
def State.InWeb (s t : State) : Prop :=
  t = { s with regs := t.regs, tl := t.tl, ev := t.ev, top := t.top, freeCount := t.freeCount }

namespace State.InWeb

theorem refl (s : State) : s.InWeb s := rfl

theorem trans (h : s.InWeb t) (h' : t.InWeb u) : s.InWeb u := by
  unfold State.InWeb at h h' ⊢
  rw [h', h]

theorem update {tl ev top freeCount} (h : s.InWeb t) :
    s.InWeb { t with tl := tl, ev := ev, top := top, freeCount := freeCount } := h.trans rfl

theorem wr (h : s.InWeb t) {f : Fld} {v : Nat} : s.InWeb (t.wr f v) :=
  h.trans (by unfold State.InWeb; rw [wr_frame])

theorem follows (h : s.InWeb t) (h' : t.Follows u) : s.InWeb u :=
  h.trans (by unfold State.InWeb; rw [h'.frame]; rfl)

theorem occur (h : s.InWeb t) {producer hop : Nat} : s.InWeb (t.occur producer hop) :=
  h.trans (by unfold State.InWeb State.occur; split <;> rfl)

theorem fault (h : s.InWeb t) {source code : Nat} {slots : List Nat} : s.InWeb (t.fault source code slots) :=
  h.follows (State.Follows.refl t).fault

theorem setEnc (h : s.InWeb t) {e : Nat} {x : Encoder} : s.InWeb (t.setEnc e x) := h.update

/-- Without a free value, that count is the same. -/
theorem frame (h : s.InWeb t) (hf : t.freeCount = s.freeCount) :
    t = { s with regs := t.regs, tl := t.tl, ev := t.ev, top := t.top } := by
  conv_lhs => rw [h, hf]

end State.InWeb

/-! ### Free values of position (R6, R15) -/

/-- What a sum of positions is read as depends on the count of free values alone. -/
theorem posFit_eq (h : t.freeCount = s.freeCount) (p : Int) :
    t.posFit p = ((s.posFit p).1, { t with freeCount := (s.posFit p).2.freeCount }) := by
  unfold State.posFit State.free
  split
  · exact congrArg (fun n => (p, { t with freeCount := n })) h
  · rw [h]

theorem posFit_transfer {p q : Int} {n : Nat} (h : t.freeCount = s.freeCount)
    (hp : s.posFit p = (q, { s with freeCount := n })) : t.posFit p = (q, { t with freeCount := n }) := by
  rw [posFit_eq h, hp]

theorem posFit_snd (s : State) (p : Int) : (s.posFit p).2 = { s with freeCount := (s.posFit p).2.freeCount } :=
  congrArg Prod.snd (posFit_eq rfl p)

/-! ### The web master moves (R16, R25, R27) -/

/-- `c` with what a step of the web master may change taken from `b`. -/
def State.tracked (c b : State) : State :=
  { c with
    freeCount := b.freeCount
    tl := { c.tl with
      pos := b.tl.pos, latched := b.tl.latched, pairs := b.tl.pairs, lastMasterStep := b.tl.lastMasterStep } }

/-- `b` differs from `c` by a step of the web master and what follows it. -/
def State.Tracks (c b : State) : Prop := (c.tracked b).Follows b

theorem State.Tracks.inWeb (h : c.Tracks b) : c.InWeb b := (show c.InWeb (c.tracked b) from rfl).follows h

theorem State.Tracks.rd (h : c.Tracks b) {g : Fld} (hg : g.held) : b.rd g = c.rd g :=
  (State.Follows.rd h g hg).trans (rd_congr rfl g)

theorem State.Tracks.encs (h : c.Tracks b) : b.tl.encs = c.tl.encs := by
  rw [State.Follows.frame h]
  rfl

theorem State.Follows.tracks {a : State} (h : a.Follows b) (ha : a = c.tracked a) : c.Tracks b := by
  have hb : c.tracked b = a := by
    rw [h.frame]
    exact ha.symm
  unfold State.Tracks
  rw [hb]
  exact h

theorem tracks_refl (c : State) : c.Tracks c := (State.Follows.refl c).tracks rfl

/-- A latch pair of the web master: the position it is shown at is for R26 to say. -/
theorem latchPair_follows (s : State) (p : Int) (k : Nat) (fwd : Bool) : ∃ q,
    State.Follows { s with tl := { s.tl with pairs := ⟨p, k, fwd⟩ :: s.tl.pairs.take 1, latched := p, pos := q } }
      (s.latchPair p k fwd) := by
  refine ⟨_, State.Follows.updVelocity (State.Follows.moveTo (s := { s with tl := { s.tl with
    pairs := ⟨p, k, fwd⟩ :: s.tl.pairs.take 1, latched := p } }) ?_)⟩
  exact (State.Follows.refl _).wr

/-! ### Counted steps (R16, R25) -/

/-- The state in which encoder e has counted `n` steps, stamped with tick `k`. -/
def State.counted (s : State) (e : Nat) (n : Int) (k : Nat) : State :=
  (s.setEnc e { s.enc e with since := (s.enc e).since + n, lastStep := some k }).wrS (TIMELINE_ENC_COUNT e)
    (s.rdS (TIMELINE_ENC_COUNT e) + n)

/-- The control fields of the timeline lie below the encoders. -/
theorem rd_counted {f : Fld} (s : State) (e : Nat) (n : Int) (k : Nat) (hf : f.off * 8 + f.lsb + f.w ≤ 0x10100 * 8) :
    (s.counted e n k).rd f = s.rd f :=
  rd_wr_apart _ _ f _ (.inr (by dsimp only [TIMELINE_ENC_COUNT]; omega))

@[simp] theorem counted_freeCount (s : State) (e : Nat) (n : Int) (k : Nat) :
    (s.counted e n k).freeCount = s.freeCount := wrS_freeCount _ _ _

theorem counted_tl (s : State) (e : Nat) (n : Int) (k : Nat) :
    (s.counted e n k).tl = (s.setEnc e { s.enc e with since := (s.enc e).since + n, lastStep := some k }).tl :=
  wrS_tl _ _ _

/-- What steps do once they are counted: the web master takes them, and the edge is shown. -/
def State.showSteps (s : State) (e : Nat) (n : Int) (k : Nat) : State :=
  if s.isMaster e then
    let s := if n = 0 then s else s.masterActive
    if s.on TIMELINE_CTRL_RUN then
      let q := s.posFit (s.tl.latched + n * s.ratio40)
      let fwd := if n = 0 then (match q.2.tl.pairs with
        | p :: _ => p.fwd
        | [] => true) else decide (0 < n)
      (q.2.latchPair q.1 k fwd).showEdge e q.1 k
    else s.showEdge e s.tl.pos s.now
  else s.showEdge e s.tl.pos s.now

theorem countSteps_eq (s : State) (e : Nat) (n : Int) (k : Nat) :
    s.countSteps e n k = (s.counted e n k).showSteps e n k := rfl

theorem masterActive_follows (s : State) :
    State.Follows { s with tl := { s.tl with lastMasterStep := s.now } } s.masterActive :=
  (State.Follows.refl _).bind fun h => h.wr.occur.ite h

/-- A master's steps restart its stall count. -/
theorem stepped_follows (c : State) (n : Int) : ∃ k,
    State.Follows { c with tl := { c.tl with lastMasterStep := k } } (if n = 0 then c else c.masterActive) := by
  split
  · exact ⟨c.tl.lastMasterStep, .refl c⟩
  · exact ⟨c.now, masterActive_follows c⟩

theorem showSteps_other {e k : Nat} {n : Int} (h : c.isMaster e = false) :
    c.showSteps e n k = c.showEdge e c.tl.pos c.now := by simp [State.showSteps, h]

/-- While RUN is 0 the master's latch and position stay. -/
theorem showSteps_held {e k : Nat} {n : Int} (hm : c.isMaster e = true) (hr : c.on TIMELINE_CTRL_RUN = false) :
    ∃ b j, c.showSteps e n k = b.showEdge e b.tl.pos b.now ∧
      State.Follows { c with tl := { c.tl with lastMasterStep := j } } b := by
  obtain ⟨j, hj⟩ := stepped_follows c n
  refine ⟨_, j, ?_, hj⟩
  unfold State.showSteps
  rw [if_pos hm]
  dsimp only
  rw [if_neg]
  rw [State.on, hj.rd _ (by decide)]
  simpa [State.on] using hr

/-- While RUN is 1 the master's latch moves by its steps. -/
theorem showSteps_run {e k : Nat} {n : Int} (hm : c.isMaster e = true) (hr : c.on TIMELINE_CTRL_RUN = true) :
    ∃ b, c.showSteps e n k = b.showEdge e b.tl.latched k ∧ c.Tracks b ∧
      c.posFit (c.tl.latched + n * c.ratio40) = (b.tl.latched, { c with freeCount := b.freeCount }) := by
  obtain ⟨j, hj⟩ := stepped_follows c n
  unfold State.showSteps
  rw [if_pos hm]
  generalize (if n = 0 then c else c.masterActive) = m at hj ⊢
  have hon : m.on TIMELINE_CTRL_RUN = true := by rwa [State.on, hj.rd _ (by decide)]
  have hratio : m.ratio40 = c.ratio40 := congrArg (fun r : Nat => (r : Int) * 65536) (hj.rd TIMELINE_RATIO (by decide))
  have hlatched : m.tl.latched = c.tl.latched := by rw [hj.frame]; rfl
  have hfree : m.freeCount = c.freeCount := by rw [hj.frame]; rfl
  dsimp only
  rw [if_pos hon, hratio, hlatched, posFit_eq hfree]
  dsimp only
  generalize (if n = 0 then _ else decide (0 < n)) = fwd
  generalize hp : c.posFit (c.tl.latched + n * c.ratio40) = p
  obtain ⟨pos, hpos⟩ := latchPair_follows { m with freeCount := p.2.freeCount } p.1 k fwd
  have hb := (hj.both p.2.freeCount pos p.1 (⟨p.1, k, fwd⟩ :: m.tl.pairs.take 1)).trans hpos
  generalize State.latchPair _ _ _ _ = b at hb ⊢
  have h₁ : b.tl.latched = p.1 := by rw [hb.frame]; rfl
  have h₂ : b.freeCount = p.2.freeCount := by rw [hb.frame]; rfl
  refine ⟨b, by rw [h₁], hb.tracks rfl, ?_⟩
  rw [h₁, h₂, ← hp, ← posFit_snd]

theorem isMaster_counted (s : State) (e : Nat) (n : Int) (k : Nat) :
    (s.counted e n k).isMaster e = s.isMaster e :=
  congrArg (· == e) (rd_counted s e n k (by decide))

theorem on_counted_run (s : State) (e : Nat) (n : Int) (k : Nat) :
    (s.counted e n k).on TIMELINE_CTRL_RUN = s.on TIMELINE_CTRL_RUN :=
  congrArg (· != 0) (rd_counted s e n k (by decide))

/-- In every case the steps are counted, the master may move, and the edge is shown. -/
theorem countSteps_shows (s : State) (e : Nat) (n : Int) (k : Nat) : ∃ b p j,
    s.countSteps e n k = b.showEdge e p j ∧ (s.counted e n k).Tracks b := by
  rw [countSteps_eq]
  cases hm : (s.counted e n k).isMaster e with
  | false => exact ⟨_, _, _, showSteps_other hm, tracks_refl _⟩
  | true =>
    cases hr : (s.counted e n k).on TIMELINE_CTRL_RUN with
    | false =>
      obtain ⟨b, j, hb, hf⟩ := showSteps_held (k := k) (n := n) hm hr
      exact ⟨b, _, _, hb, hf.tracks rfl⟩
    | true =>
      obtain ⟨b, hb, hf, -⟩ := showSteps_run (k := k) (n := n) hm hr
      exact ⟨b, _, _, hb, hf⟩

theorem showEdge_tl (b : State) (e : Nat) (p : Int) (j : Nat) : (b.showEdge e p j).tl = b.tl := by
  simp [State.showEdge]

theorem toBits_mod (w : Nat) (i : Int) : toBits w i % 2 ^ w = toBits w i := by
  refine Nat.mod_eq_of_lt ?_
  have h := Int.emod_lt_of_pos i (show (0 : Int) < 2 ^ w by positivity)
  have h' := Int.emod_nonneg i (show (2 : Int) ^ w ≠ 0 by positivity)
  unfold toBits
  zify
  rwa [Int.toNat_of_nonneg h']

theorem rd_wrS_same (s : State) (f : Fld) (v : Int) (h : f.lsb + f.w ≤ 64) : (s.wrS f v).rd f = toBits f.w v := by
  rw [State.wrS, rd_wr_same _ _ _ h, toBits_mod]

theorem rd_counted_count (s : State) (e : Nat) (n : Int) (k : Nat) :
    (s.counted e n k).rd (TIMELINE_ENC_COUNT e) = toBits 32 (s.rdS (TIMELINE_ENC_COUNT e) + n) := by
  unfold State.counted
  rw [rd_wrS_same _ _ _ (by simp [TIMELINE_ENC_COUNT])]
  simp [TIMELINE_ENC_COUNT]

theorem countSteps_count {e : Nat} (he : e < 4) (s : State) (n : Int) (k : Nat) :
    (s.countSteps e n k).rd (TIMELINE_ENC_COUNT e) = toBits 32 (s.rdS (TIMELINE_ENC_COUNT e) + n) := by
  obtain ⟨b, p, j, ht, hb⟩ := countSteps_shows s e n k
  have hshow : (b.showEdge e p j).rd (TIMELINE_ENC_COUNT e) = b.rd (TIMELINE_ENC_COUNT e) :=
    (rd_wr_apart _ _ _ _ Fld.apart_element).trans (rd_wr_apart _ _ _ _ Fld.apart_element)
  rw [ht, hshow, hb.rd (show (TIMELINE_ENC_COUNT e).held from Fld.held_encoder he), rd_counted_count]

@[simp] theorem enc_setEnc_same (s : State) (e : Nat) (x : Encoder) : (s.setEnc e x).enc e = x := spGet_spSet_same ..

theorem countSteps_enc (s : State) (e : Nat) (n : Int) (k : Nat) :
    (s.countSteps e n k).enc e = { s.enc e with since := (s.enc e).since + n, lastStep := some k } := by
  obtain ⟨b, p, j, ht, hb⟩ := countSteps_shows s e n k
  rw [ht, State.enc, showEdge_tl, hb.encs, counted_tl]
  exact spGet_spSet_same ..

theorem countSteps_inWeb (s : State) (e : Nat) (n : Int) (k : Nat) : s.InWeb (s.countSteps e n k) := by
  obtain ⟨b, p, j, ht, hb⟩ := countSteps_shows s e n k
  have hc : s.InWeb (s.counted e n k) := by
    unfold State.counted State.wrS
    exact (State.InWeb.refl s).setEnc.wr
  rw [ht]
  exact (hc.trans hb.inWeb).wr.wr

theorem countSteps_master {e : Nat} (s : State) (n : Int) (k : Nat) (hm : s.isMaster e = true)
    (hr : s.on TIMELINE_CTRL_RUN = true) :
    s.posFit (s.tl.latched + n * s.ratio40) =
      ((s.countSteps e n k).tl.latched, { s with freeCount := (s.countSteps e n k).freeCount }) := by
  rw [← isMaster_counted s e n k] at hm
  rw [← on_counted_run s e n k] at hr
  obtain ⟨b, hb, -, hp⟩ := showSteps_run (k := k) (n := n) hm hr
  have hratio : (s.counted e n k).ratio40 = s.ratio40 :=
    congrArg (fun r : Nat => (r : Int) * 65536) (rd_counted s e n k (by decide))
  have hlatched : (s.counted e n k).tl.latched = s.tl.latched := by rw [counted_tl]; rfl
  rw [hratio, hlatched] at hp
  rw [countSteps_eq, hb, posFit_eq (counted_freeCount s e n k).symm, hp, showEdge_tl]
  simp [State.showEdge]

theorem countSteps_held {e : Nat} (s : State) (n : Int) (k : Nat)
    (h : s.isMaster e = false ∨ s.on TIMELINE_CTRL_RUN = false) :
    (s.countSteps e n k).tl.latched = s.tl.latched ∧ (s.countSteps e n k).tl.pos = s.tl.pos ∧
      (s.countSteps e n k).freeCount = s.freeCount := by
  rw [← isMaster_counted s e n k, ← on_counted_run s e n k] at h
  obtain ⟨b, p, j, i, ht, hb⟩ : ∃ b p j i, s.countSteps e n k = b.showEdge e p j ∧
      State.Follows { s.counted e n k with tl := { (s.counted e n k).tl with lastMasterStep := i } } b := by
    rw [countSteps_eq]
    cases hm : (s.counted e n k).isMaster e with
    | false => exact ⟨_, _, _, (s.counted e n k).tl.lastMasterStep, showSteps_other hm, .refl _⟩
    | true =>
      obtain ⟨b, j, hb, hf⟩ := showSteps_held (k := k) (n := n) hm (h.resolve_left (by simp [hm]))
      exact ⟨b, _, _, j, hb, hf⟩
  have hfree : (b.showEdge e p j).freeCount = b.freeCount := by simp [State.showEdge]
  have hlatched : (s.counted e n k).tl.latched = s.tl.latched := by rw [counted_tl]; rfl
  have hpos : (s.counted e n k).tl.pos = s.tl.pos := by rw [counted_tl]; rfl
  rw [ht, showEdge_tl, hfree, ← hlatched, ← hpos, ← counted_freeCount s e n k, hb.frame]
  exact ⟨rfl, rfl, rfl⟩

/-- What `t` has of `n` counted steps of encoder e in state s, which leave the encoder as `y`. -/
structure State.Counts (s : State) (e : Nat) (n : Int) (y : Encoder) (t : State) : Prop where
  count : t.rd (TIMELINE_ENC_COUNT e) = toBits 32 (s.rdS (TIMELINE_ENC_COUNT e) + n)
  enc : t.enc e = y
  master : s.isMaster e = true → s.on TIMELINE_CTRL_RUN = true →
    s.posFit (s.tl.latched + n * s.ratio40) = (t.tl.latched, { s with freeCount := t.freeCount })
  held : s.isMaster e = false ∨ s.on TIMELINE_CTRL_RUN = false →
    t.tl.latched = s.tl.latched ∧ t.tl.pos = s.tl.pos ∧ t.freeCount = s.freeCount
  frame : s.InWeb t

theorem countSteps_counts {e : Nat} (he : e < 4) (s : State) (y : Encoder) (n : Int) (k : Nat) :
    s.Counts e n { y with since := y.since + n, lastStep := some k } ((s.setEnc e y).countSteps e n k) where
  count := countSteps_count he _ _ _
  enc := by rw [countSteps_enc, enc_setEnc_same]
  master hm hr := posFit_transfer (s := s.setEnc e y) rfl (countSteps_master (s.setEnc e y) n k hm hr)
  held h := countSteps_held (s.setEnc e y) n k h
  frame := (State.InWeb.refl s).setEnc.trans (countSteps_inWeb _ _ _ _)

/-! ### The encoder commands -/

theorem quadStep_both {mode : Nat} {oa ob a b : Bool} (ha : oa ≠ a) (hb : ob ≠ b) : quadStep mode oa ob a b = 0 := by
  simp [quadStep, ha, hb]

/-- What DIR_INVERT makes of a step. -/
def State.directed (s : State) (e : Nat) (d : Int) : Int :=
  if s.on (TIMELINE_ENC_CTRL_DIR_INVERT e) then -d else d

theorem encoderStep_accepted (e : Fin 4) (a b : Bool) {d : Int}
    (hd : d = quadStep (s.rd (TIMELINE_ENC_CTRL_MODE e)) (s.enc e).levelA (s.enc e).levelB a b) (hne : d ≠ 0)
    (hslow : s.rd (TIMELINE_ENC_CTRL_MODE e) = 4 ∨ ∀ k, (s.enc e).lastStep = some k → k + 4 ≤ s.now) :
    exec (.encoderStep e a b) s = .next ((s.setEnc e { s.enc e with levelA := a, levelB := b }).countSteps e
      (s.directed e d) s.now) := by
  have hone : ¬ ((s.enc e).levelA ≠ a ∧ (s.enc e).levelB ≠ b) := fun h =>
    hne (hd.trans (quadStep_both h.1 h.2))
  rw [exec_encoderStep]
  unfold execEncoderStep
  extract_lets i x mode quad u d' n fast
  have hfast : ¬ (quad && fast) = true := by
    obtain hmode | hlast := hslow
    · simp [quad, mode, i, hmode]
    · have : fast = false := by
        simp only [fast]
        split
        · next k hk => exact decide_eq_false (Nat.not_lt.2 (hlast k hk))
        · rfl
      simp [this]
  rw [if_neg (by simpa [x] using fun _ h h' => hone ⟨h, h'⟩), if_neg (by rwa [← show d = d' from hd]), if_neg hfast,
    show n = s.directed e d by subst hd; rfl]
  rfl

/-- The SSI sample's difference from the reference, modulo its width (R21). -/
def ssiDelta (n d prev : Nat) : Int := signed n ((d + 2 ^ n - prev % 2 ^ n) % 2 ^ n)

theorem ssiSample_counts (e : Fin 4) (raw : Nat) (parity : Bool) {t0 prev n d : Nat}
    (hs : (s.enc e).ssiStart = some t0) (hp : (s.enc e).ssiPrev = some prev)
    (hn : n = s.rd (TIMELINE_ENC_SSI_CFG_BITS e))
    (hd : d = (if s.on (TIMELINE_ENC_SSI_CFG_GRAY e) then grayToBin n (raw % 2 ^ n) else raw % 2 ^ n))
    (hpar : s.on (TIMELINE_ENC_SSI_CFG_PARITY e) = false ∨ (popCount n (raw % 2 ^ n) + b2n parity) % 2 = 0)
    (hjump : (ssiDelta n d prev).natAbs ≤ 2 ^ (n - 2)) :
    ∃ y k, exec (.ssiSample e raw parity) s = .next (State.countSteps
      ((s.setEnc e y).setEnc e { s.enc e with ssiStart := none, ssiPrev := some d }) e
      (s.directed e (ssiDelta n d prev)) k) := by
  rw [exec_ssiSample]
  unfold execSsiSample
  extract_lets i x u n' d' v y u'
  have hn' : n' = n := hn.symm
  have hv : v = d := by rw [hd, ← hn']; rfl
  have heven : ¬ (u.on (TIMELINE_ENC_SSI_CFG_PARITY e) && (popCount n' d' + b2n parity) % 2 == 1) = true := by
    intro hodd
    simp only [Bool.and_eq_true, beq_iff_eq] at hodd
    obtain hoff | hsum := hpar
    · exact absurd (hodd.1.symm.trans hoff) (by simp)
    · rw [← hn'] at hsum
      exact absurd (hodd.2.symm.trans hsum) (by simp)
  split
  · next h => exact absurd (h.symm.trans hs) (by simp)
  next t h =>
  rw [if_neg heven]
  split
  · next h => exact absurd (h.symm.trans hp) (by simp)
  next prev' h' =>
  obtain rfl : prev' = prev := Option.some.inj (h'.symm.trans hp)
  extract_lets k delta m
  have hdelta : delta = ssiDelta n d prev' := by rw [← hn', ← hv]; rfl
  rw [if_neg (by rw [hdelta, hn']; omega)]
  have hy : y = { s.enc e with ssiStart := none } := enc_setEnc_same ..
  have hu : u' = u.setEnc e { s.enc e with ssiStart := none, ssiPrev := some v } :=
    congrArg (fun z : Encoder => u.setEnc e { z with ssiPrev := some v }) hy
  refine ⟨{ x with ssiStart := none }, k, ?_⟩
  rw [← hdelta, ← hv]
  exact congrArg (fun z : State => Host.Outcome.next (z.countSteps e m k)) hu

end Sys2Proof.Machine
end

section
namespace Sys2Proof.Machine
open Sys2Proof

variable {s t u c b : State}

/-- An index edge first latches (R22), then compares the count with INDEX_EXPECT and clears it (R23, R24). -/
def State.indexLatched (s : State) (e : Nat) : State :=
  let s := s.wrS (TIMELINE_ENC_INDEX_POS e) s.pos16
  (s.wr (TIMELINE_ENC_INDEX_TICK e) s.now).occur (72 + e)

/-- What `t` has of an index edge of encoder e in state s. -/
structure State.Indexed (s : State) (e : Nat) (t : State) : Prop where
  pos : t.rd (TIMELINE_ENC_INDEX_POS e) = toBits 64 s.pos16
  tick : t.rd (TIMELINE_ENC_INDEX_TICK e) = s.now % 2 ^ 64
  tlPos : t.tl.pos = s.tl.pos
  web : s.InWeb t
  free : t.freeCount = s.freeCount

namespace State.Indexed

variable {e : Nat}

theorem latched (s : State) (e : Nat) : s.Indexed e (s.indexLatched e) where
  pos := (rd_occur _ _ _ _).trans ((rd_wr_apart _ _ _ _ Fld.apart_element).trans
    (rd_wrS_same _ (TIMELINE_ENC_INDEX_POS e) _ (Nat.le_refl 64)))
  tick := (rd_occur _ _ _ _).trans ((rd_wr_same _ (TIMELINE_ENC_INDEX_TICK e) _ (Nat.le_refl 64)).trans
    (congrArg (fun x : Timeline => x.tick % 2 ^ 64) (wrS_tl _ _ _)))
  tlPos := by simp [State.indexLatched]
  web := (State.InWeb.refl s).wr.wr.occur
  free := by simp [State.indexLatched]

theorem wr (h : s.Indexed e t) {f : Fld} {v : Nat} (hp : f.apart (TIMELINE_ENC_INDEX_POS e))
    (ht : f.apart (TIMELINE_ENC_INDEX_TICK e)) : s.Indexed e (t.wr f v) where
  pos := (rd_wr_apart _ _ _ _ hp).trans h.pos
  tick := (rd_wr_apart _ _ _ _ ht).trans h.tick
  tlPos := (congrArg Timeline.pos (wr_tl t f v)).trans h.tlPos
  web := h.web.wr
  free := (wr_freeCount t f v).trans h.free

theorem fault (h : s.Indexed e t) {source code : Nat} {slots : List Nat} :
    s.Indexed e (t.fault source code slots) where
  pos := (rd_fault _ _ _ _ _ (faultFlds_apart_array (by decide))).trans h.pos
  tick := (rd_fault _ _ _ _ _ (faultFlds_apart_array (by decide))).trans h.tick
  tlPos := (congrArg Timeline.pos (fault_tl t source code slots)).trans h.tlPos
  web := h.web.fault
  free := (fault_freeCount t source code slots).trans h.free

theorem setEnc (h : s.Indexed e t) {i : Nat} {x : Encoder} : s.Indexed e (t.setEnc i x) where
  pos := (rd_congr rfl _).trans h.pos
  tick := (rd_congr rfl _).trans h.tick
  tlPos := h.tlPos
  web := h.web.setEnc
  free := h.free

end State.Indexed

theorem rd_indexLatched_mode (s : State) (e : Nat) :
    (s.indexLatched e).rd (TIMELINE_ENC_CTRL_INDEX_MODE e) = s.rd (TIMELINE_ENC_CTRL_INDEX_MODE e) :=
  (rd_occur _ _ _ _).trans ((rd_wr_apart _ _ _ _ Fld.apart_element).trans (rd_wr_apart _ _ _ _ Fld.apart_element))

theorem indexEdge_indexed (e : Fin 4) (rising : Bool) (h : rising ≠ s.on (TIMELINE_ENC_CTRL_Z_INVERT e)) :
    ∃ t, exec (.indexEdge e rising) s = .next t ∧ s.Indexed e t ∧
      (s.rd (TIMELINE_ENC_CTRL_INDEX_MODE e) = 1 → t.rd (TIMELINE_ENC_COUNT e) = 0) := by
  rw [exec_indexEdge]
  unfold execIndexEdge
  extract_lets i u₁ u₂ u mode x expect seen off slip u₃ u₄
  rw [if_neg (by simpa using h)]
  have hu : s.Indexed e u := .latched s e
  have hmode : mode = s.rd (TIMELINE_ENC_CTRL_INDEX_MODE e) := rd_indexLatched_mode s e
  have hslip : s.Indexed e u₃ := by
    dsimp only [u₃]
    split
    · exact ((hu.wr Fld.apart_element Fld.apart_element).wr Fld.apart_element Fld.apart_element).fault
    · exact hu
  have hseen : s.Indexed e u₄ := hslip.setEnc
  clear_value u₄ u mode
  rw [← hmode]
  split
  · split
    · exact ⟨_, rfl, hseen.wr Fld.apart_element Fld.apart_element, fun _ =>
        rd_wr_same _ _ _ (by simp [TIMELINE_ENC_COUNT])⟩
    · next h₁ =>
      split
      · exact ⟨_, rfl, (hseen.wr Fld.apart_element Fld.apart_element).wr Fld.apart_element Fld.apart_element,
          fun h' => absurd h' h₁⟩
      · exact ⟨_, rfl, hseen, fun h' => absurd h' h₁⟩
  · next h₀ => exact ⟨_, rfl, hu, fun h' => absurd (by simp [h']) h₀⟩

/-- Settles O9: an accepted step and an SSI sample both end in `countSteps`; an index latches before it clears. -/
theorem encoderCommandsCountAndLatch : Obligations.EncoderCommandsCountAndLatch := by
  refine ⟨?_, ?_, ?_, ?_⟩
  · intro s e a b d hd hne hslow
    have h := countSteps_counts e.isLt s { s.enc e with levelA := a, levelB := b } (s.directed e d) s.now
    exact ⟨_, encoderStep_accepted e a b hd hne hslow, h.count, by rw [h.enc], by rw [h.enc], by rw [h.enc], h.master,
      h.held, h.frame⟩
  · intro s e hmode hstart
    simp [execSsiTransferStart, hmode, hstart]
  · intro s e raw parity t0 prev n d hs hp hn hd hpar hjump
    obtain ⟨y, k, hex⟩ := ssiSample_counts e raw parity hs hp hn hd hpar hjump
    have h := countSteps_counts e.isLt (s.setEnc e y) { s.enc e with ssiStart := none, ssiPrev := some d }
      (s.directed e (ssiDelta n d prev)) k
    exact ⟨_, hex, h.count, by rw [h.enc], by rw [h.enc], (State.InWeb.refl s).setEnc.trans h.frame⟩
  · intro s e rising hne
    obtain ⟨t, hex, h, hcount⟩ := indexEdge_indexed e rising hne
    exact ⟨t, hex, h.pos, h.tick, hcount, h.tlPos, h.web.frame h.free⟩

end Sys2Proof.Machine
end

section
namespace Sys2Proof.Machine
open Sys2Proof

variable {s t u c b : State}

/-! ### The commands that move, hold, start and stop (R18, R25 to R27, R539) -/

theorem State.InWeb.set1 (h : s.InWeb t) {f : Fld} : s.InWeb (t.set1 f) := h.wr

theorem State.InWeb.wrS (h : s.InWeb t) {f : Fld} {v : Int} : s.InWeb (t.wrS f v) := h.wr

theorem State.InWeb.frame_top (h : s.InWeb t) (hf : t.freeCount = s.freeCount) (ht : t.top = s.top) :
    t = { s with regs := t.regs, tl := t.tl, ev := t.ev } := by
  conv_lhs => rw [h, hf, ht]

theorem State.InWeb.frame_ev (h : s.InWeb t) (hf : t.freeCount = s.freeCount) (ht : t.top = s.top)
    (he : t.ev = s.ev) : t = { s with regs := t.regs, tl := t.tl } := by
  conv_lhs => rw [h, hf, ht, he]

theorem State.InWeb.frame_tl (h : s.InWeb t) (hf : t.freeCount = s.freeCount) (ht : t.top = s.top)
    (hl : t.tl = s.tl) : t = { s with regs := t.regs, ev := t.ev } := by
  conv_lhs => rw [h, hf, ht, hl]

theorem updVelocity_rd (s : State) {f : Fld} (h : TIMELINE_VELOCITY.apart f) : s.updVelocity.rd f = s.rd f :=
  rd_wr_apart _ _ _ _ h

theorem State.keeps_set1 {fs : List Fld} (h : s.keeps t fs) {f : Fld} (hf : f ∈ fs) : s.keeps (t.set1 f) fs :=
  State.keeps_wr h _ _ hf

theorem State.keeps_updVelocity {fs : List Fld} (h : s.keeps t fs) (hf : TIMELINE_VELOCITY ∈ fs) :
    s.keeps t.updVelocity fs :=
  State.keeps_wr h _ _ hf

theorem State.keeps_wrS {fs : List Fld} (h : s.keeps t fs) {f : Fld} {v : Int} (hf : f ∈ fs) :
    s.keeps (t.wrS f v) fs :=
  State.keeps_wr h _ _ hf

/-- A declared stall: the flag, the event and the velocity. -/
theorem webStopped_stops (hs : s.rd TIMELINE_STALL ≠ 0) (hw : s.on TIMELINE_STATUS_WEB_STOPPED = false)
    (hlate : s.tl.lastMasterStep + s.rd TIMELINE_STALL ≤ s.now) :
    exec .webStopped s = .next ((s.set1 TIMELINE_STATUS_WEB_STOPPED).occur 82).updVelocity := by
  simp [execWebStopped, hs, hw, hlate]

/-- The position fits where no free value is taken. -/
theorem posFit_fits {p : Int} (h : (s.posFit p).2.freeCount = s.freeCount) : (s.posFit p).1 = p := by
  unfold State.posFit State.free at h ⊢
  split
  · rfl
  · next hn =>
    rw [if_neg hn] at h
    simp at h

theorem simIncrement_moves (hr : s.on TIMELINE_CTRL_RUN = true) (hm : s.rd TIMELINE_CTRL_MASTER_SRC = 5) :
    ∃ t, exec .simIncrement s = .next t ∧
      s.posFit (s.tl.pos + s.tl.simInc) = (t.tl.pos, { s with freeCount := t.freeCount }) ∧
      t.tl.latched = t.tl.pos ∧ s.InWeb t := by
  have hsrc : (s.rd TIMELINE_CTRL_MASTER_SRC == srcSim) = true := by simp [hm, srcSim]
  rw [exec_simIncrement]
  unfold execSimIncrement
  extract_lets q p u v x w
  rw [if_pos (by simp [hr, hsrc])]
  obtain ⟨k, hv⟩ : ∃ k, State.Follows { u with tl := { u.tl with lastMasterStep := k } } v :=
    stepped_follows u u.tl.simInc
  have hfree : v.freeCount = u.freeCount := by rw [hv.frame]; rfl
  have hu : u = { s with freeCount := u.freeCount } := posFit_snd s _
  have hweb : s.InWeb u := by rw [hu]; rfl
  have ht := ((hv.both v.freeCount v.tl.pos p v.tl.pairs).moveTo (p := p)).updVelocity
  refine ⟨_, rfl, ?_⟩
  change State.Follows _ (w.moveTo p).updVelocity at ht
  generalize (w.moveTo p).updVelocity = t at ht ⊢
  have hpos : t.tl.pos = p := by rw [ht.frame]; rfl
  have hlatched : t.tl.latched = p := by rw [ht.frame]; rfl
  have hcount : t.freeCount = u.freeCount := by rw [ht.frame]; exact hfree
  exact ⟨by rw [hpos, hcount]; exact Prod.ext rfl hu, by rw [hpos, hlatched], hweb.update.follows ht⟩

theorem extrapolation_moves {p1 p2 : LatchPair} (h : s.extrapolating = some (p1, p2)) (hf : p2.fwd = true) : ∃ q t,
    exec .extrapolation s = .next t ∧ t.tl.pos = (s.posFit (max s.tl.pos q)).1 ∧
      t.freeCount = (s.posFit (max s.tl.pos q)).2.freeCount ∧ t.tl.pairs = s.tl.pairs ∧
      t.tl.latched = s.tl.latched ∧ s.InWeb t := by
  have hex : ∃ q, s.extrapolate = ((s.posFit (max s.tl.pos q)).2.moveTo (s.posFit (max s.tl.pos q)).1).updVelocity := by
    unfold State.extrapolate
    rw [h]
    simp only [hf, if_true]
    exact ⟨_, rfl⟩
  obtain ⟨q, hq⟩ := hex
  have hu := posFit_snd s (max s.tl.pos q)
  have hweb : s.InWeb (s.posFit (max s.tl.pos q)).2 := by rw [hu]; rfl
  have ht := ((State.Follows.refl (s.posFit (max s.tl.pos q)).2).moveTo (p := (s.posFit (max s.tl.pos q)).1)).updVelocity
  refine ⟨q, s.extrapolate, rfl, ?_⟩
  rw [hq]
  generalize State.updVelocity _ = t at ht ⊢
  generalize s.posFit (max s.tl.pos q) = r at *
  obtain ⟨pos, u⟩ := r
  dsimp only at *
  refine ⟨by rw [ht.frame]; rfl, by rw [ht.frame]; rfl, ?_, ?_, hweb.update.follows ht⟩
  · rw [ht.frame, hu]; rfl
  · rw [ht.frame, hu]; rfl

/-- RUN changes to 1 before the generators, the late entries and the compare units act. -/
theorem runStart_starts (hr : s.on TIMELINE_CTRL_RUN = false) : ∃ b : State, b.Follows s.runStart ∧
    b = { s.set1 TIMELINE_CTRL_RUN with tl := b.tl } ∧ b.tl.pos = s.tl.pos ∧ b.tl.pairs = [] := by
  unfold State.runStart
  rw [if_neg (by simp [hr])]
  extract_lets u x v w w₁ w₂ w₃
  have hpos : v.tl.pos = s.tl.pos := by
    change (s.set1 TIMELINE_CTRL_RUN).tl.pos = s.tl.pos
    rw [set1_tl]
  have hw : w = { u with tl := w.tl } ∧ w.tl.pos = s.tl.pos ∧ w.tl.pairs = [] := by
    refine List.foldlRecOn (List.range 4) _ (motive := fun w : State => w = { u with tl := w.tl } ∧ w.tl.pos = s.tl.pos ∧
      w.tl.pairs = []) ⟨rfl, hpos, rfl⟩ ?_
    rintro x ⟨hx, hxpos, hpairs⟩ e -
    refine ⟨?_, hxpos, hpairs⟩
    conv_lhs => rw [hx]
    rfl
  refine ⟨w, ?_, hw⟩
  exact ((((State.Follows.refl w).foldl fun _ _ h => h.chooseGenerated.ite h).lateEntries).foldl
    fun _ _ h => h.compareTest.ite h).updVelocity

theorem runStart_run (hr : s.on TIMELINE_CTRL_RUN = false) : s.runStart.rd TIMELINE_CTRL_RUN = 1 := by
  obtain ⟨b, hb, hs, -⟩ := runStart_starts hr
  calc s.runStart.rd TIMELINE_CTRL_RUN
    _ = b.rd TIMELINE_CTRL_RUN := hb.rd _ (by decide)
    _ = (s.set1 TIMELINE_CTRL_RUN).rd TIMELINE_CTRL_RUN := rd_congr (congrArg State.regs hs) _
    _ = 1 := rd_wr_same s TIMELINE_CTRL_RUN 1 (by decide)

theorem runStop_frame (s : State) : s.InWeb s.runStop := by
  unfold State.runStop State.updVelocity
  exact ((State.InWeb.refl s).wr.update).wrS

/-- The registers that a cross-latch writes. -/
def State.xlatched (s : State) : State :=
  let s := s.wrS TIMELINE_XLATCH_POS s.pos16
  let s := s.wr TIMELINE_XLATCH_TICK s.now
  let s := s.wr TIMELINE_XLATCH_PTP_NS s.net.ptpNs
  s.wr TIMELINE_XLATCH_PTP_WRAP s.net.ptpWrap

@[simp] theorem xlatched_tl (s : State) : s.xlatched.tl = s.tl := by simp [State.xlatched]

/-- The cross-latch of a tick is remembered. -/
def State.crossLatched (u : State) : State := { u with tl := { u.tl with xlatchTick := some u.now } }

theorem crossLatch_eq (h : s.tl.xlatchTick ≠ some s.now) : s.crossLatch = s.xlatched.crossLatched := by
  unfold State.crossLatch
  rw [if_neg h]
  rfl

theorem crossLatched_tl (h : u.tl = s.tl) :
    u.crossLatched.tl = { s.tl with xlatchTick := some s.now } := by
  unfold State.crossLatched State.now
  rw [h]

theorem crossLatched_inWeb (h : s.InWeb u) : s.InWeb u.crossLatched := h.update

theorem rd_crossLatched (u : State) (g : Fld) : u.crossLatched.rd g = u.rd g := rd_congr rfl g

theorem rd_xlatched_pos (s : State) : s.xlatched.rd TIMELINE_XLATCH_POS = toBits 64 s.pos16 := by
  unfold State.xlatched
  rw [rd_wr_apart _ _ _ _ (by decide), rd_wr_apart _ _ _ _ (by decide), rd_wr_apart _ _ _ _ (by decide)]
  exact rd_wrS_same s TIMELINE_XLATCH_POS _ (by decide)

theorem rd_xlatched_tick (s : State) : s.xlatched.rd TIMELINE_XLATCH_TICK = s.now % 2 ^ 64 := by
  unfold State.xlatched
  rw [rd_wr_apart _ _ _ _ (by decide), rd_wr_apart _ _ _ _ (by decide), rd_wr_same _ TIMELINE_XLATCH_TICK _ (by decide),
    State.now, wrS_tl]
  rfl

theorem rd_xlatched_ptpNs (s : State) : s.xlatched.rd TIMELINE_XLATCH_PTP_NS = s.net.ptpNs % 2 ^ 32 := by
  unfold State.xlatched
  rw [rd_wr_apart _ _ _ _ (by decide), rd_wr_same _ TIMELINE_XLATCH_PTP_NS _ (by decide), wr_net, wrS_net]
  rfl

theorem keeps_xlatched (s : State) : s.keeps s.xlatched
    [TIMELINE_XLATCH_POS, TIMELINE_XLATCH_TICK, TIMELINE_XLATCH_PTP_NS, TIMELINE_XLATCH_PTP_WRAP] := by
  unfold State.xlatched
  exact State.keeps_wr (State.keeps_wr (State.keeps_wr (State.keeps_wrS (State.keeps_refl s _) (by simp)) _ _ (by simp))
    _ _ (by simp)) _ _ (by simp)

theorem xlatched_inWeb (s : State) : s.InWeb s.xlatched := (State.InWeb.refl s).wrS.wr.wr.wr

theorem exec_crossLatch_latches (h : s.tl.xlatchTick ≠ some s.now) :
    ∃ t, exec .crossLatch s = .next t ∧ t.rd TIMELINE_XLATCH_POS = toBits 64 s.pos16 ∧
      t.rd TIMELINE_XLATCH_TICK = s.now % 2 ^ 64 ∧ t.rd TIMELINE_XLATCH_PTP_NS = s.net.ptpNs % 2 ^ 32 ∧
      t.tl = { s.tl with xlatchTick := some s.now } ∧
      s.keeps t [TIMELINE_XLATCH_POS, TIMELINE_XLATCH_TICK, TIMELINE_XLATCH_PTP_NS, TIMELINE_XLATCH_PTP_WRAP] ∧
      t = { s with regs := t.regs, tl := t.tl } := by
  have htl := xlatched_tl s
  refine ⟨s.xlatched.crossLatched, by rw [exec_crossLatch, execCrossLatch, crossLatch_eq h], ?_⟩
  rw [rd_crossLatched, rd_crossLatched, rd_crossLatched]
  refine ⟨rd_xlatched_pos s, rd_xlatched_tick s, rd_xlatched_ptpNs s, crossLatched_tl htl,
    fun g hg => (rd_crossLatched _ g).trans (keeps_xlatched s g hg),
    (crossLatched_inWeb (xlatched_inWeb s)).frame_ev ?_ ?_ ?_⟩
  all_goals simp [State.crossLatched, State.xlatched]

/-- Settles O10: position moves by what `posFit` reads, and what follows a movement is bounded by `State.Follows`. -/
theorem positionCommandsMoveHoldAndCapture : Obligations.PositionCommandsMoveHoldAndCapture := by
  refine ⟨?_, ?_, ?_, ?_, ?_, ?_, ?_, ?_⟩
  · intro s hs hw hlate
    refine ⟨_, webStopped_stops hs hw hlate, ?_, ?_, ?_, ?_⟩
    · rw [updVelocity_rd _ (by decide), rd_occur]
      exact rd_wr_same _ _ _ (by decide)
    · simp [State.updVelocity]
    · exact State.keeps_updVelocity (State.keeps_occur (State.keeps_set1 (State.keeps_refl _ _) (by simp)) _ _) (by simp)
    · refine State.InWeb.frame_tl (State.InWeb.refl s).set1.occur.wrS ?_ ?_ ?_
      all_goals simp [State.updVelocity]
  · intro s hr hm
    exact simIncrement_moves hr hm
  · intro s p1 p2 h hf
    obtain ⟨q, t, hex, hpos, hfree, hpairs, hlatched, hweb⟩ := extrapolation_moves h hf
    refine ⟨t, hex, fun hn => ?_, hpairs, hlatched, hweb⟩
    rw [hpos, posFit_fits (hfree.symm.trans hn)]
    exact le_max_left _ _
  · intro s hr
    obtain ⟨b, hb, hs, hpos, hpairs⟩ := runStart_starts hr
    have hweb : s.InWeb b := hs ▸ (State.InWeb.refl s).set1.update
    refine ⟨_, rfl, runStart_run hr, ?_, ?_, (hweb.follows hb).frame ?_⟩
    · rw [hb.frame, ← hpos]
      rfl
    · rw [hb.frame, ← hpairs]
      rfl
    · rw [hb.frame]
      exact (congrArg State.freeCount hs).trans (set1_freeCount s _)
  · intro s
    refine ⟨_, rfl, ?_, ?_, ?_, (runStop_frame s).frame_ev ?_ ?_ ?_⟩
    · exact (updVelocity_rd _ (by decide)).trans (rd_wr_same s TIMELINE_CTRL_RUN 0 (by decide))
    · simp [State.runStop, State.updVelocity]
    · have hkeeps : s.keeps (s.wr TIMELINE_CTRL_RUN 0) [TIMELINE_CTRL_RUN, TIMELINE_VELOCITY] :=
        State.keeps_wr (State.keeps_refl s _) _ _ (by simp)
      exact State.keeps_updVelocity (t := { s.wr TIMELINE_CTRL_RUN 0 with tl := _ })
        (fun g hg => (rd_congr rfl g).trans (hkeeps g hg)) (by simp)
    all_goals simp [State.runStop, State.updVelocity]
  · intro s hr
    simp [execPreset, State.preset, hr]
  · intro s hr
    simp [execPreset, State.preset, hr, State.tlReject]
  · intro s h
    exact exec_crossLatch_latches h

end Sys2Proof.Machine
end

section
namespace Sys2Proof.Machine
open Sys2Proof

variable {s t u b : State}

/-! ### Probes (R28, R29) -/

theorem probe_of_tl (h : t.tl = s.tl) (k : Nat) : t.probe k = s.probe k := by rw [State.probe, h, State.probe]

theorem pos16_of_tl (h : t.tl = s.tl) : t.pos16 = s.pos16 := by rw [State.pos16, h, State.pos16]

theorem now_of_tl (h : t.tl = s.tl) : t.now = s.now := by rw [State.now, h, State.now]

@[simp] theorem probe_setProbe_same (s : State) (k : Nat) (x : Probe) : (s.setProbe k x).probe k = x := spGet_spSet_same ..

theorem State.InWeb.setProbe (h : s.InWeb t) {k : Nat} {x : Probe} : s.InWeb (t.setProbe k x) := h.update

theorem State.Follows.probe (h : s.Follows t) (k : Nat) : t.probe k = s.probe k := by
  rw [h.frame]
  rfl

theorem State.Follows.pos (h : s.Follows t) : t.tl.pos = s.tl.pos := by
  rw [h.frame]
  rfl

theorem State.Follows.freeCount (h : s.Follows t) : t.freeCount = s.freeCount := by
  rw [h.frame]
  rfl

/-- An accepted edge enters the FIFO and occurs; the marks it gives the frame generators follow. -/
theorem probeEdge_accepted (k : Fin 8) (rising : Bool) (hen : s.on (TIMELINE_PRB_CTRL_EN k) = true)
    (hedge : edgeSelected (s.rd (TIMELINE_PRB_CTRL_EDGE k)) rising = true) (hroom : (s.probe k).fifo.length < 16)
    (hfar : ∀ q, (s.probe k).prevEdge = some q → s.rd (TIMELINE_PRB_LOCKOUT k) ≤ (s.pos16 - q).natAbs) :
    ∃ t, exec (.probeEdge k rising) s = .next t ∧ State.Follows
      (((s.wr (TIMELINE_PRB_STATUS_LEVEL k) (b2n rising)).setProbe k
        ⟨(s.probe k).fifo ++ [⟨s.pos16, s.now, rising⟩], some s.pos16⟩).occur (64 + k)) t := by
  rw [exec_probeEdge]
  unfold execProbeEdge
  extract_lets i u x near v entry v' v'' p
  have hu : u.tl = s.tl := wr_tl _ _ _
  have hrd : ∀ f : Fld, (TIMELINE_PRB_STATUS_LEVEL k).apart f → u.rd f = s.rd f := fun f => rd_wr_apart _ _ _ _
  have hx : x = s.probe k := probe_of_tl hu k
  have hpos : u.pos16 = s.pos16 := pos16_of_tl hu
  have hon : u.on (TIMELINE_PRB_CTRL_EN i) = true := (congrArg (· != 0) (hrd _ Fld.apart_element)).trans hen
  have hsel : edgeSelected (u.rd (TIMELINE_PRB_CTRL_EDGE i)) rising = true := by
    rw [hrd (TIMELINE_PRB_CTRL_EDGE k) Fld.apart_element, hedge]
  have hnear : ¬ near = true := by
    dsimp only [near]
    rw [hx, hpos, hrd (TIMELINE_PRB_LOCKOUT k) Fld.apart_element]
    split
    · next q hq => simpa using hfar q hq
    · simp
  rw [if_neg (by simp [hon, hsel]), if_neg hnear, if_neg (by rw [hx]; omega)]
  refine ⟨_, rfl, ?_⟩
  have hentry : v' = u.setProbe k ⟨(s.probe k).fifo ++ [⟨s.pos16, s.now, rising⟩], some s.pos16⟩ := by
    dsimp only [v', entry]
    rw [hx, hpos, now_of_tl hu]
  rw [← hentry]
  exact (State.Follows.refl v'').foldl fun _ _ h => h.sensedMark.ite h

/-- The registers that a pop writes. -/
def prbFlds (k : Nat) : List Fld :=
  [TIMELINE_PRB_POS k, TIMELINE_PRB_TICK k, TIMELINE_PRB_EDGE_RISING k, TIMELINE_PRB_EDGE_VALID k]

/-- The oldest entry shown. -/
def State.showProbe (s : State) (k : Nat) (e : ProbeEntry) : State :=
  let s := s.wrS (TIMELINE_PRB_POS k) e.pos
  let s := s.wr (TIMELINE_PRB_TICK k) e.tick
  (s.wr (TIMELINE_PRB_EDGE_RISING k) (b2n e.rising)).set1 (TIMELINE_PRB_EDGE_VALID k)

@[simp] theorem showProbe_tl (s : State) (k : Nat) (e : ProbeEntry) : (s.showProbe k e).tl = s.tl := by
  simp [State.showProbe]

theorem popProbe_cons {k : Nat} {e : ProbeEntry} {rest : List ProbeEntry} (h : (s.probe k).fifo = e :: rest) :
    s.popProbe k = (s.setProbe k { s.probe k with fifo := rest }).showProbe k e := by
  unfold State.popProbe
  extract_lets x
  split
  · next h' => exact absurd (h'.symm.trans h) (by simp)
  · next e' rest' h' =>
    obtain ⟨rfl, rfl⟩ := List.cons.inj (h'.symm.trans h)
    rfl

theorem popProbe_nil {k : Nat} (h : (s.probe k).fifo = []) :
    s.popProbe k = (s.wr (TIMELINE_PRB_POS k) 0).wr (TIMELINE_PRB_EDGE_VALID k) 0 := by
  unfold State.popProbe
  extract_lets x
  split
  · rfl
  · next e' rest' h' => exact absurd (h'.symm.trans h) (by simp)

theorem rd_showProbe_pos (s : State) (k : Nat) (e : ProbeEntry) :
    (s.showProbe k e).rd (TIMELINE_PRB_POS k) = toBits 64 e.pos :=
  (rd_wr_apart _ _ _ _ Fld.apart_element).trans ((rd_wr_apart _ _ _ _ Fld.apart_element).trans
    ((rd_wr_apart _ _ _ _ Fld.apart_element).trans (rd_wrS_same s (TIMELINE_PRB_POS k) _ (Nat.le_refl 64))))

theorem rd_showProbe_tick (s : State) (k : Nat) (e : ProbeEntry) :
    (s.showProbe k e).rd (TIMELINE_PRB_TICK k) = e.tick % 2 ^ 64 :=
  (rd_wr_apart _ _ _ _ Fld.apart_element).trans ((rd_wr_apart _ _ _ _ Fld.apart_element).trans
    (rd_wr_same _ (TIMELINE_PRB_TICK k) _ (Nat.le_refl 64)))

theorem rd_showProbe_rising (s : State) (k : Nat) (e : ProbeEntry) :
    (s.showProbe k e).rd (TIMELINE_PRB_EDGE_RISING k) = b2n e.rising :=
  (rd_wr_apart _ _ _ _ Fld.apart_element).trans
    ((rd_wr_same _ (TIMELINE_PRB_EDGE_RISING k) _ (by simp [TIMELINE_PRB_EDGE_RISING])).trans (by cases e.rising <;> rfl))

theorem rd_showProbe_valid (s : State) (k : Nat) (e : ProbeEntry) :
    (s.showProbe k e).rd (TIMELINE_PRB_EDGE_VALID k) = 1 :=
  rd_wr_same _ (TIMELINE_PRB_EDGE_VALID k) 1 (by simp [TIMELINE_PRB_EDGE_VALID])

theorem keeps_showProbe {k : Nat} (h : s.keeps t (prbFlds k)) (e : ProbeEntry) : s.keeps (t.showProbe k e) (prbFlds k) := by
  unfold State.showProbe
  exact State.keeps_set1 (State.keeps_wr (State.keeps_wr (State.keeps_wrS h (by simp [prbFlds])) _ _ (by simp [prbFlds])) _ _
    (by simp [prbFlds])) (by simp [prbFlds])

theorem State.InWeb.showProbe (h : s.InWeb t) {k : Nat} {e : ProbeEntry} : s.InWeb (t.showProbe k e) := h.wrS.wr.wr.set1

/-! ### Compare units (R31 to R33) -/

/-- The registers that a firing of compare unit c writes. -/
def cmpFlds (c : Nat) : List Fld :=
  [TIMELINE_CMP_STATUS_FIRED c, TIMELINE_CMP_FIRE_TICK c, TIMELINE_CMP_TARGET c, TIMELINE_CMP_SKIPPED c,
    TIMELINE_CMP_STATUS_COMPARE_MULTI c, TIMELINE_CMP_CTRL_ENABLE c]

/-- What `t` has of a firing of compare unit c in state s. -/
structure State.Fired (s : State) (c : Nat) (t : State) : Prop where
  fired : t.rd (TIMELINE_CMP_STATUS_FIRED c) = 1
  tick : t.rd (TIMELINE_CMP_FIRE_TICK c) = s.now % 2 ^ 64
  keeps : s.keeps t (cmpFlds c)
  web : s.InWeb t
  free : t.freeCount = s.freeCount
  top : t.top = s.top

namespace State.Fired

variable {c : Nat}

theorem wr (h : s.Fired c t) {f : Fld} {v : Nat} (hf : f.apart (TIMELINE_CMP_STATUS_FIRED c))
    (ht : f.apart (TIMELINE_CMP_FIRE_TICK c)) (hk : f ∈ cmpFlds c) : s.Fired c (t.wr f v) where
  fired := (rd_wr_apart _ _ _ _ hf).trans h.fired
  tick := (rd_wr_apart _ _ _ _ ht).trans h.tick
  keeps := State.keeps_wr h.keeps _ _ hk
  web := h.web.wr
  free := (wr_freeCount t f v).trans h.free
  top := (wr_top t f v).trans h.top

theorem update (h : s.Fired c t) {tl : Timeline} : s.Fired c { t with tl := tl } where
  fired := (rd_congr rfl _).trans h.fired
  tick := (rd_congr rfl _).trans h.tick
  keeps := fun g hg => (rd_congr rfl g).trans (h.keeps g hg)
  web := h.web.update
  free := h.free
  top := h.top

/-- FIRED and FIRE_TICK are written. -/
theorem shown (s : State) (c : Nat) :
    s.Fired c (let u := (s.occur c).set1 (TIMELINE_CMP_STATUS_FIRED c); u.wr (TIMELINE_CMP_FIRE_TICK c) u.now) where
  fired := (rd_wr_apart _ _ _ _ Fld.apart_element).trans
    (rd_wr_same _ (TIMELINE_CMP_STATUS_FIRED c) 1 (by simp [TIMELINE_CMP_STATUS_FIRED]))
  tick := (rd_wr_same _ (TIMELINE_CMP_FIRE_TICK c) _ (Nat.le_refl 64)).trans
    (congrArg (· % 2 ^ 64) (now_of_tl (by simp)))
  keeps := State.keeps_wr (State.keeps_set1 (State.keeps_occur (State.keeps_refl s _) _ _) (by simp [cmpFlds])) _ _
    (by simp [cmpFlds])
  web := (State.InWeb.refl s).occur.set1.wr
  free := by simp
  top := by simp

end State.Fired

/-- A firing of a SINGLE unit disables it. -/
theorem compareFires_fired (s : State) (c : Nat) : s.Fired c (s.compareFires c) ∧
    (s.on (TIMELINE_CMP_CTRL_SINGLE c) = true → (s.compareFires c).rd (TIMELINE_CMP_CTRL_ENABLE c) = 0) := by
  unfold State.compareFires
  extract_lets u₁ u₂ x u₃ period dir m u₄ u₅
  have h₃ : s.Fired c u₃ := (State.Fired.shown s c).update
  have h₅ : s.Fired c u₅ := by
    have h₄ : s.Fired c u₄ := h₃.wr Fld.apart_element Fld.apart_element (by simp [cmpFlds])
    dsimp only [u₅]
    split
    · split
      · exact h₄
      · have hskip : s.Fired c (u₄.bump (TIMELINE_CMP_SKIPPED c) m.2) :=
          h₄.wr Fld.apart_element Fld.apart_element (by simp [cmpFlds])
        exact hskip.wr Fld.apart_element Fld.apart_element (by simp [cmpFlds])
    · exact h₃
  have hsingle : u₅.on (TIMELINE_CMP_CTRL_SINGLE c) = s.on (TIMELINE_CMP_CTRL_SINGLE c) := by
    refine congrArg (· != 0) (h₅.keeps _ ?_)
    intro f hf
    simp only [cmpFlds, List.mem_cons, List.not_mem_nil, or_false] at hf
    obtain rfl | rfl | rfl | rfl | rfl | rfl := hf
    all_goals exact Fld.apart_element
  clear_value u₅
  rw [hsingle]
  split
  · exact ⟨h₅.wr Fld.apart_element Fld.apart_element (by simp [cmpFlds]), fun _ =>
      rd_wr_same _ (TIMELINE_CMP_CTRL_ENABLE c) 0 (by simp [TIMELINE_CMP_CTRL_ENABLE])⟩
  · next hn => exact ⟨h₅, fun h => absurd h hn⟩

theorem on_of_apart {f g : Fld} (s : State) (v : Nat) (h : f.apart g) : (s.wr f v).on g = s.on g :=
  congrArg (· != 0) (rd_wr_apart s f g v h)

theorem compareTarget_held {c v : Nat}
    (h : s.on TIMELINE_CTRL_RUN = false ∨ s.on (TIMELINE_CMP_CTRL_ENABLE c) = false) :
    s.compareTarget c v = s.wr (TIMELINE_CMP_TARGET c) v := by
  unfold State.compareTarget
  dsimp only
  have hrun : (s.wr (TIMELINE_CMP_TARGET c) v).on TIMELINE_CTRL_RUN = s.on TIMELINE_CTRL_RUN :=
    on_of_apart s v Fld.apart_below
  have hen : (s.wr (TIMELINE_CMP_TARGET c) v).on (TIMELINE_CMP_CTRL_ENABLE c) = s.on (TIMELINE_CMP_CTRL_ENABLE c) :=
    on_of_apart s v Fld.apart_element
  rw [hrun, hen, if_neg]
  obtain h | h := h
  all_goals simp [h]

/-- A target at or behind the position, to be reached upward, is reported. -/
theorem compareTarget_behind {c v : Nat} (hr : s.on TIMELINE_CTRL_RUN = true)
    (he : s.on (TIMELINE_CMP_CTRL_ENABLE c) = true) (hd : s.rd (TIMELINE_CMP_CTRL_DIR c) = 0)
    (hv : signed 64 (v % 2 ^ 64) ≤ s.pos16) (hl : s.on (TIMELINE_CMP_CTRL_LATE_FIRE c) = false) :
    s.compareTarget c v = (s.wr (TIMELINE_CMP_TARGET c) v).set1 (TIMELINE_CMP_STATUS_COMPARE_BEHIND c) := by
  unfold State.compareTarget
  extract_lets u
  have hrun : u.on TIMELINE_CTRL_RUN = true := (on_of_apart s v Fld.apart_below).trans hr
  have hen : u.on (TIMELINE_CMP_CTRL_ENABLE c) = true := (on_of_apart s v Fld.apart_element).trans he
  have hlate : u.on (TIMELINE_CMP_CTRL_LATE_FIRE c) = false := (on_of_apart s v Fld.apart_element).trans hl
  have hdir : u.rd (TIMELINE_CMP_CTRL_DIR c) = 0 := (rd_wr_apart _ _ _ _ Fld.apart_element).trans hd
  have ht : u.rdS (TIMELINE_CMP_TARGET c) = signed 64 (v % 2 ^ 64) :=
    congrArg (signed 64) (rd_wr_same s (TIMELINE_CMP_TARGET c) v (Nat.le_refl 64))
  have hpos : u.pos16 = s.pos16 := pos16_of_tl (wr_tl _ _ _)
  rw [if_pos (by simp [hrun, hen])]
  unfold State.compareTest
  dsimp only
  rw [hdir, ht, hpos, decide_eq_true hv, if_pos (by simp), if_neg (by simp [hlate])]

/-- Two writes change the registers alone. -/
theorem wr_wr_frame (s : State) (f g : Fld) (v w : Nat) :
    (s.wr f v).wr g w = { s with regs := ((s.wr f v).wr g w).regs } := by
  have ht := wr_frame (s := s) f v
  generalize s.wr f v = t at ht ⊢
  have hu := wr_frame (s := t) g w
  generalize t.wr g w = u at hu ⊢
  conv_lhs => rw [hu, ht]

/-- Settles O11: an accepted edge is followed by the marks it gives; a firing writes the registers of its unit alone. -/
theorem probesAndComparesLatchAndFire : Obligations.ProbesAndComparesLatchAndFire := by
  refine ⟨?_, ?_, ?_, ?_, ?_, ?_, ?_⟩
  · intro s k rising hen hedge hroom hfar
    obtain ⟨t, hex, ht⟩ := probeEdge_accepted k rising hen hedge hroom hfar
    have hprobe := ht.probe k
    rw [probe_of_tl (occur_tl _ _ _), probe_setProbe_same] at hprobe
    refine ⟨t, hex, by rw [hprobe], by rw [hprobe], ?_, ((State.InWeb.refl s).wr.setProbe.occur.follows ht).frame ?_⟩
    · rw [ht.pos, occur_tl]
      change (s.wr _ _).tl.pos = s.tl.pos
      rw [wr_tl]
    · rw [ht.freeCount, occur_freeCount]
      exact wr_freeCount s _ _
  · intro s k e rest h
    have hpop : exec (.probePop k) s = .next (s.popProbe k) := rfl
    rw [popProbe_cons h] at hpop
    have hprobe : (s.setProbe k { s.probe k with fifo := rest }).probe k = { s.probe k with fifo := rest } :=
      probe_setProbe_same ..
    have hframe : s.setProbe k { s.probe k with fifo := rest } =
      { s with tl := (s.setProbe k { s.probe k with fifo := rest }).tl } := rfl
    generalize s.setProbe k { s.probe k with fifo := rest } = v at *
    have hweb : s.InWeb v := hframe ▸ (State.InWeb.refl s).update
    refine ⟨_, hpop, ?_, rd_showProbe_pos .., rd_showProbe_tick .., rd_showProbe_rising .., rd_showProbe_valid ..,
      keeps_showProbe (State.keeps_of_regs (congrArg State.regs hframe) _) e, hweb.showProbe.frame_ev ?_ ?_ ?_⟩
    · rw [probe_of_tl (showProbe_tl _ _ _), hprobe]
    all_goals rw [hframe]; simp [State.showProbe]
  · intro s k h
    refine ⟨_, congrArg Host.Outcome.next (popProbe_nil h), ?_, ?_, ?_, ?_⟩
    · exact (rd_wr_apart _ _ _ _ Fld.apart_element).trans (rd_wr_same s (TIMELINE_PRB_POS k) 0 (Nat.le_refl 64))
    · exact rd_wr_same _ (TIMELINE_PRB_EDGE_VALID k) 0 (by simp [TIMELINE_PRB_EDGE_VALID])
    · exact State.keeps_wr (State.keeps_wr (State.keeps_refl s _) _ _ (by simp)) _ _ (by simp)
    · exact wr_wr_frame ..
  · intro s c hr he hc hf
    obtain ⟨h, hsingle⟩ := compareFires_fired s c
    refine ⟨s.compareFires c, ?_, h.fired, h.tick, hsingle, h.keeps, h.web.frame_top h.free h.top⟩
    simp [execCompareFire, hr, he, hc, hf]
  · intro s c hr
    cases he : s.on (TIMELINE_CMP_CTRL_ENABLE c) with
    | true => exact ⟨s, by simp [execCompareEnable, State.compareEnable, he], he, State.keeps_refl s _, rfl⟩
    | false =>
      have hrun : (s.set1 (TIMELINE_CMP_CTRL_ENABLE c)).on TIMELINE_CTRL_RUN = false :=
        (on_of_apart s 1 Fld.apart_below).trans hr
      refine ⟨s.set1 (TIMELINE_CMP_CTRL_ENABLE c), by simp [execCompareEnable, State.compareEnable, he, hrun], ?_,
        State.keeps_set1 (State.keeps_refl s _) (by simp), wr_frame _ _⟩
      exact congrArg (· != 0) (rd_wr_same s (TIMELINE_CMP_CTRL_ENABLE c) 1 (by simp [TIMELINE_CMP_CTRL_ENABLE]))
  · intro s c target h
    refine ⟨_, congrArg Host.Outcome.next (compareTarget_held h), ?_, State.keeps_wr (State.keeps_refl s _) _ _ (by simp),
      wr_frame _ _⟩
    exact (rd_wr_same s (TIMELINE_CMP_TARGET c) _ (Nat.le_refl 64)).trans (Nat.mod_eq_of_lt target.isLt)
  · intro s c target hr he hd hv hl
    have hmod : target.toNat % 2 ^ 64 = target.toNat := Nat.mod_eq_of_lt target.isLt
    have hbehind : signed 64 (target.toNat % 2 ^ 64) ≤ s.pos16 := by
      rw [hmod]
      exact (Int.le_ediv_iff_mul_le (by decide)).2 hv
    refine ⟨_, congrArg Host.Outcome.next (compareTarget_behind hr he hd hbehind hl), ?_, ?_, ?_, ?_⟩
    · exact (rd_wr_apart _ _ _ _ Fld.apart_element).trans
        ((rd_wr_same s (TIMELINE_CMP_TARGET c) _ (Nat.le_refl 64)).trans hmod)
    · exact rd_wr_same _ (TIMELINE_CMP_STATUS_COMPARE_BEHIND c) 1 (by simp [TIMELINE_CMP_STATUS_COMPARE_BEHIND])
    · exact State.keeps_set1 (State.keeps_wr (State.keeps_refl s _) _ _ (by simp)) (by simp)
    · exact wr_wr_frame ..

end Sys2Proof.Machine
end

section
namespace Sys2Proof.Machine
open Sys2Proof

variable {s t u v : State}

/-! ### What leaves the timeline alone (R101, R123)

A trigger owes a line to every served camera. A line that cannot be owed is lost, which reaches statistics in
DRAM, the coverage queue, the network and the chain, but nothing of the timeline. -/

/-- `x` is the timeline of s. -/
structure State.TlIs (s : State) (x : Timeline) : Prop where
  eq : s.tl = x

namespace State.TlIs

variable {x : Timeline}

theorem frame {pending regs latchHi stageLo shOld st zl pctx pipes stitch fine prof sens mas scal quill scores scribe dma
    ev dram net chain top therm sec jtag out freeCount} (h : s.TlIs x) :
    (State.mk pending regs latchHi stageLo shOld s.tl st zl pctx pipes stitch fine prof sens mas scal quill scores
      scribe dma ev dram net chain top therm sec jtag out freeCount).TlIs x := ⟨h.eq⟩

theorem wr (h : s.TlIs x) {f v} : (s.wr f v).TlIs x := ⟨(wr_tl s f v).trans h.eq⟩

theorem wrS (h : s.TlIs x) {f v} : (s.wrS f v).TlIs x := h.wr

theorem set1 (h : s.TlIs x) {f} : (s.set1 f).TlIs x := h.wr

theorem bump (h : s.TlIs x) {f n} : (s.bump f n).TlIs x := h.wr

theorem fault (h : s.TlIs x) {source code slots} : (s.fault source code slots).TlIs x :=
  ⟨(fault_tl ..).trans h.eq⟩

theorem occur (h : s.TlIs x) {producer hop} : (s.occur producer hop).TlIs x := ⟨(occur_tl ..).trans h.eq⟩

theorem ite {c : Prop} {_ : Decidable c} (h : s.TlIs x) (h' : t.TlIs x) : (if c then s else t).TlIs x := by
  split
  · exact h
  · exact h'

theorem bind {p : Prop} (h : s.TlIs x) (k : s.TlIs x → p) : p := k h

theorem pair {α : Type} {a : α} (h : s.TlIs x) : (a, s).2.TlIs x := h

theorem foldl {α : Type} {l : List α} {f : State → α → State} (h : s.TlIs x)
    (hf : ∀ s a, s.TlIs x → (f s a).TlIs x) : (l.foldl f s).TlIs x :=
  List.foldlRecOn l f h fun s hs a _ => hf s a hs

theorem foldlSnd {α β : Type} {l : List α} {f : β × State → α → β × State} {r : β × State} (h : r.2.TlIs x)
    (hf : ∀ r a, r.2.TlIs x → (f r a).2.TlIs x) : (l.foldl f r).2.TlIs x :=
  List.foldlRecOn l f (motive := fun r => r.2.TlIs x) h fun r hr a _ => hf r a hr

/-! DRAM -/

theorem putPoison (h : s.TlIs x) {b} : (s.putPoison b).TlIs x := h.frame.frame

theorem migrate (h : s.TlIs x) {ch src cause} : (s.migrate ch src cause).TlIs x := by
  unfold State.migrate
  refine h.ite ?_
  split
  · exact h.set1.fault
  · exact h.wr.wr.set1.set1.wr.frame.fault

theorem noteCe (h : s.TlIs x) {ch rank a} : (s.noteCe ch rank a).TlIs x := by
  unfold State.noteCe
  extract_lets key s₁ d₁ s₂ hour lim d₂ s₃
  have h₁ : s₁.TlIs x := h.set1.bump
  have h₂ : s₂.TlIs x := by
    dsimp only [s₂]
    split
    · exact h₁.frame.fault.ite h₁
    · exact h₁.frame.fault
  clear_value s₂
  exact h₂.frame.fault.migrate.ite h₂.frame

theorem noteUe (h : s.TlIs x) {k ch rank a cls syn} : (s.noteUe k ch rank a cls syn).TlIs x := by
  unfold State.noteUe
  extract_lets s₁ s₂ kind s₃ s₄ s₅ det key due d
  have h₁ : s₁.TlIs x := h.set1.bump
  have h₅ : s₅.TlIs x := (h₁.set1.ite h₁).wr.wr.wr.wr.wr.wr
  clear_value s₅
  split
  · exact h₅.fault
  · exact h₅.fault
  · exact h₅.frame.fault.ite h₅

theorem partialBeat (h : s.TlIs x) {b cls} : (s.partialBeat b cls).2.TlIs x := by
  unfold State.partialBeat
  dsimp only
  split
  · exact h.noteUe.putPoison.pair
  · exact (h.noteCe.ite h).frame.pair

theorem storeBytes (h : s.TlIs x) {a bs poisoned} : (s.storeBytes a bs poisoned).TlIs x :=
  h.frame.foldl fun _ _ h => h.putPoison

theorem dramWriteNow (h : s.TlIs x) {a bs cls} : (s.dramWriteNow a bs cls).2.TlIs x := by
  unfold State.dramWriteNow
  dsimp only
  split
  · exact h.pair
  · exact (h.frame.pair.foldlSnd fun _ _ h₁ => h₁.partialBeat.pair).storeBytes.pair

theorem dramPut (h : s.TlIs x) {a bs cls} : (s.dramPut a bs cls).TlIs x := by
  unfold State.dramPut State.dramWrite
  split
  · exact h.frame.pair
  · exact h.dramWriteNow

/-! Records and coverage -/

theorem emitPacket (h : s.TlIs x) {n g p} : (s.emitPacket n g p).TlIs x := h.bump.frame

theorem sendReplay (h : s.TlIs x) {n p} : (s.sendReplay n p).TlIs x :=
  (h.wr.bind fun h₁ => (h₁.frame.ite h₁).emitPacket).ite h.frame

theorem sendPeer (h : s.TlIs x) {n p} : (s.sendPeer n p).TlIs x := h.ite (h.emitPacket.ite h.sendReplay)

theorem sendTo (h : s.TlIs x) {dst p} : (s.sendTo dst p).TlIs x := by
  unfold State.sendTo
  split
  · exact h.sendPeer
  · split
    · exact h.ite h.sendPeer
    · exact h.bump.bind fun h₁ => h₁.ite h₁.frame.fault

theorem netRecord (h : s.TlIs x) {bs} : (s.netRecord bs).TlIs x := by
  unfold State.netRecord
  dsimp only
  split
  · exact h.frame
  · exact h.bump.set1.frame.bind fun h₂ => h₂.ite h₂.fault

theorem chainRecord (h : s.TlIs x) {bs} : (s.chainRecord bs).TlIs x := h.sendTo.ite h.bump

theorem deliverCov (h : s.TlIs x) {bs} : (s.deliverCov bs).TlIs x :=
  (h.netRecord.ite h).bind fun h₁ => h₁.chainRecord.ite h₁

theorem enqueueCov (h : s.TlIs x) {c} : (s.enqueueCov c).TlIs x :=
  (h.frame.ite h).bind fun h₁ => (h₁.wr.bind fun h₂ => (h₂.ite h₂.frame).deliverCov).ite h₁.frame

/-! The intake -/

theorem setPx (h : s.TlIs x) {p n c} : (s.setPx p n c).TlIs x := h.frame

theorem closeFrame (h : s.TlIs x) {p n f} : (s.closeFrame p n f).TlIs x :=
  (h.ite (h.bump.ite h.dramPut.wr)).occur

theorem closeStats (h : s.TlIs x) {p n} : (s.closeStats p n).TlIs x :=
  h.foldl fun _ _ h₁ => h₁.setPx.closeFrame.ite h₁

theorem coverCamera (h : s.TlIs x) {k a b reason detail} : (s.coverCamera k a b reason detail).TlIs x :=
  (h.foldl fun _ _ h₁ => h₁.enqueueCov).ite h

theorem flushRun (h : s.TlIs x) {p n cover} : (s.flushRun p n cover).TlIs x := by
  unfold State.flushRun
  dsimp only
  split
  · exact h
  · exact h.setPx.fault.bump.set1.bind fun h₄ => h₄.coverCamera.ite h₄

theorem lostLine (h : s.TlIs x) {p n l reason cover} : (s.lostLine p n l reason cover).TlIs x :=
  h.setPx.bind fun h₁ => ((h₁.setPx.ite h₁.flushRun.setPx).bind fun h₂ => h₂.wrS.ite h₂).closeStats

theorem owe (h : s.TlIs x) {p n g l} : (s.owe p n g l).TlIs x := h.ite (h.lostLine.ite (h.lostLine.ite h.setPx))

end State.TlIs

/-- A trigger that is issued leaves of the timeline all but the tick of the last issue (R41). -/
theorem issueTrigger_tl (s : State) (l : Int) : (s.issueTrigger l).tl = { s.tl with lastIssue := some s.now } := by
  refine State.TlIs.eq (State.TlIs.foldl (State.TlIs.occur (State.TlIs.wrS ⟨rfl⟩)) ?_)
  intro t n ht
  split
  · exact ht.foldl fun _ _ h => h.owe
  · exact ht

end Sys2Proof.Machine
end

section
namespace Sys2Proof.Machine
open Sys2Proof

variable {s t u v : State}

/-! ### The scheduler (R36 to R39) -/

/-- A step that does nothing for any entry of the list. -/
theorem foldl_eq_self {α β : Type} {l : List α} {f : β → α → β} {b : β} (h : ∀ a ∈ l, f b a = b) : l.foldl f b = b :=
  List.foldlRecOn l f (motive := (· = b)) rfl fun _ hc a ha => hc ▸ h a ha

theorem addEntry_tl (s : State) (e : SchedEntry) : (s.addEntry e).tl = { s.tl with sched := s.tl.sched ++ [e] } := by
  simp [State.addEntry, State.notePeak]

theorem State.keeps_update {fs : List Fld} {tl : Timeline} (h : s.keeps t fs) : s.keeps { t with tl := tl } fs :=
  fun g hg => (rd_congr rfl g).trans (h g hg)

theorem keeps_notePeak {fs : List Fld} (h : s.keeps t fs) (hf : TIMELINE_SCHED_STATUS_PEAK ∈ fs) :
    s.keeps t.notePeak fs :=
  State.keeps_wr h _ _ hf

theorem keeps_addEntry {fs : List Fld} (h : s.keeps t fs) (hf : TIMELINE_SCHED_STATUS_PEAK ∈ fs) (e : SchedEntry) :
    s.keeps (t.addEntry e) fs :=
  keeps_notePeak (State.keeps_update h) hf

theorem State.InWeb.addEntry (h : s.InWeb t) {e : SchedEntry} : s.InWeb (t.addEntry e) :=
  h.follows (State.Follows.refl t).addEntry

theorem schedUsed_of_tl (h : t.tl = s.tl) : t.schedUsed = s.schedUsed := by
  rw [State.schedUsed, now_of_tl h, h, State.schedUsed]

/-- With room and the slot ahead, an action is taken. -/
theorem offer'_takes {act : Action} {slot : Int} (hroom : s.schedUsed < 2048)
    (hahead : s.on TIMELINE_CTRL_RUN = false ∨ s.tl.pos < slot * (2 : Int) ^ 32) :
    s.offer' act slot = s.addEntry ⟨slot, act, none, false⟩ := by
  have hpast : ¬ (s.on TIMELINE_CTRL_RUN && slotPassed slot s.tl.pos) = true := by
    obtain h | h := hahead
    · simp [h]
    · simp only [slotPassed, decide_eq_false (Int.not_le.2 h), Bool.and_false, Bool.false_eq_true, not_false_eq_true]
  unfold State.offer' State.offer
  rw [if_neg (by omega), if_neg hpast]

theorem dueNow_takes {act : Action} {slot : Int} (hroom : s.schedUsed < 2048) :
    s.dueNow act slot = s.addEntry ⟨slot, act, some s.now, false⟩ := by
  unfold State.dueNow
  rw [if_neg (by omega)]

/-- The entry taken is dropped, and nothing else changes. -/
theorem takeDue_drops {p : Action → Bool} {e : SchedEntry} (h : s.takeDue p = some (e, u)) :
    u = { s with tl := { s.tl with sched := dropEntry e s.tl.sched } } := by
  unfold State.takeDue at h
  split at h
  · split at h
    · cases h
      rfl
    · cases h
  · cases h

/-! ### Markers (R42, R43) -/

theorem markerQueue_takes {m : Nat} {at16 : Int} (hpend : s.markerPending m < 16) (hroom : s.schedUsed < 2048)
    (hahead : s.on TIMELINE_CTRL_RUN = false ∨ s.tl.pos < slotOf at16 * (2 : Int) ^ 32) :
    s.markerQueue m at16 = s.addEntry ⟨slotOf at16, .marker m, none, false⟩ := by
  unfold State.markerQueue
  rw [if_neg (by omega), offer'_takes hroom hahead]

@[simp] theorem markerSt_setMarkerSt_same (s : State) (m : Nat) (x : Marker) : (s.setMarkerSt m x).markerSt m = x :=
  spGet_spSet_same ..

/-- What `t` has of a firing of marker m in state s. -/
structure State.Marked (s : State) (m : Nat) (t : State) : Prop where
  sched : t.tl.sched = s.tl.sched
  active : (t.markerSt m).activeUntil = some (s.now + s.rd (TIMELINE_MK_CTRL_WIDTH m) * 400)
  fired : (t.markerSt m).fired = (s.markerSt m).fired + 1
  keeps : s.keeps t [TIMELINE_MK_STATUS_RETRIGGER m]
  web : s.InWeb t
  free : t.freeCount = s.freeCount
  top : t.top = s.top

/-- The pulse is set last. -/
theorem setMarkerSt_marked {m w : Nat} (hsched : u.tl.sched = s.tl.sched) (hnow : u.now = s.now)
    (hw : w = s.rd (TIMELINE_MK_CTRL_WIDTH m)) (hfired : (u.markerSt m).fired = (s.markerSt m).fired + 1)
    (hk : s.keeps u [TIMELINE_MK_STATUS_RETRIGGER m]) (hweb : s.InWeb u) (hfree : u.freeCount = s.freeCount)
    (htop : u.top = s.top) : s.Marked m (u.setMarkerSt m { u.markerSt m with
      activeUntil := some (u.now + w * 400), lastFire := some u.now }) where
  sched := hsched
  active := by rw [markerSt_setMarkerSt_same, hnow, hw]
  fired := by rw [markerSt_setMarkerSt_same, hfired]
  keeps := State.keeps_update hk
  web := hweb.update
  free := hfree
  top := htop

theorem markerFire_marked {m : Fin 4} {e : SchedEntry} (h : s.takeDue (fun a => a == .marker m) = some (e, u))
    (hw : 0 < s.rd (TIMELINE_MK_CTRL_WIDTH m)) : ∃ t, exec (.markerFire m) s = .next t ∧ u.Marked m t := by
  have hu : u.rd (TIMELINE_MK_CTRL_WIDTH m) = s.rd (TIMELINE_MK_CTRL_WIDTH m) := by
    rw [takeDue_drops h]
    exact rd_congr rfl _
  rw [exec_markerFire]
  unfold execMarkerFire
  extract_lets k
  have h' : s.takeDue (fun a => a == .marker k) = some (e, u) := h
  split
  · next hn => exact absurd (hn.symm.trans h') (by simp)
  next e' u' hs =>
  obtain ⟨rfl, rfl⟩ := Prod.mk.inj (Option.some.inj (hs.symm.trans h'))
  extract_lets x u₁ w u₂ active same u₃
  have hw₁ : w = u'.rd (TIMELINE_MK_CTRL_WIDTH m) := rd_occur ..
  rw [if_neg (by omega)]
  have hset : u₃.tl = u₂.tl ∧ u'.keeps u₃ [TIMELINE_MK_STATUS_RETRIGGER m] ∧ u'.InWeb u₃ ∧
      u₃.freeCount = u'.freeCount ∧ u₃.top = u'.top := by
    have hk : u'.keeps u₂ [TIMELINE_MK_STATUS_RETRIGGER m] :=
      State.keeps_update (State.keeps_occur (State.keeps_refl _ _) _ _)
    have hweb : u'.InWeb u₂ := (State.InWeb.refl u').occur.update
    have hfree : u₂.freeCount = u'.freeCount := occur_freeCount ..
    have htop : u₂.top = u'.top := occur_top ..
    clear_value u₂
    dsimp only [u₃]
    split
    · exact ⟨set1_tl .., State.keeps_set1 hk (by simp [k]), hweb.set1, (set1_freeCount ..).trans hfree,
        (set1_top ..).trans htop⟩
    · exact ⟨rfl, hk, hweb, hfree, htop⟩
  obtain ⟨htl, hk, hweb, hfree, htop⟩ := hset
  have htl₁ : u₁.tl = u'.tl := occur_tl ..
  have hmark : u₂.markerSt m = { x with fired := x.fired + 1 } := markerSt_setMarkerSt_same ..
  refine ⟨_, rfl, setMarkerSt_marked ?_ ?_ hw₁ ?_ hk hweb hfree htop⟩
  · rw [htl]
    change u₁.tl.sched = u'.tl.sched
    rw [htl₁]
  · exact (now_of_tl htl).trans (now_of_tl (t := u₁) htl₁)
  · rw [State.markerSt, htl]
    exact congrArg Marker.fired hmark

/-! ### Triggers (R40, R41) -/

theorem triggerIssue_issues {l : Int} {rest : List Int} (hw : s.tl.waiting = l :: rest)
    (hr : s.on TIMELINE_CTRL_RUN = true) (hf : s.triggerFree = true) :
    exec .triggerIssue s = .next (({ s with tl := { s.tl with waiting := rest } }).issueTrigger l) := by
  have hhead : s.issueHead = ({ s with tl := { s.tl with waiting := rest } }).issueTrigger l := by
    unfold State.issueHead
    split
    · next l' rest' h' =>
      obtain ⟨rfl, rfl⟩ := List.cons.inj (h'.symm.trans hw)
      rw [if_pos hf]
    · next h' => exact absurd (h'.symm.trans hw) (by simp)
  rw [exec_triggerIssue, execTriggerIssue, if_pos hr, hhead]

theorem issueHead_none (h : s.tl.waiting = []) : s.issueHead = s := by
  unfold State.issueHead
  split
  · next h' => exact absurd (h'.symm.trans h) (by simp)
  · rfl

theorem update_waiting_nil (h : s.tl.waiting = []) : ({ s with tl := { s.tl with waiting := [] } } : State) = s := by
  rw [← h]

/-- A single line that may be issued is issued at once, whatever MIN_GAP is. -/
theorem triggerLines_single {a : Int} (hw : s.tl.waiting = []) (hf : s.triggerFree = true) :
    s.triggerLines a a = s.issueTrigger a := by
  have hone : s.tl.waiting ++ tabulate (a - a + 1).toNat (fun (i : Nat) => a + (i : Int)) = [a] := by
    simp [hw, tabulate]
  unfold State.triggerLines
  rw [hone, update_waiting_nil hw, issueHead_none hw]
  extract_lets all u
  have hu : u.tl.waiting.isEmpty = true ∧ u.triggerFree = true := ⟨by rw [show u.tl.waiting = [] from hw]; rfl, hf⟩
  split
  · rw [List.foldl_cons, List.foldl_nil]
  · rw [if_pos (by simp [hu]), if_neg (lt_irrefl a)]

theorem lastTriggered_takeDue {p : Action → Bool} {e : SchedEntry} (h : s.takeDue p = some (e, u)) (b : Int) :
    u.lastTriggered b = s.lastTriggered b := by
  rw [takeDue_drops h]
  rfl

theorem lineTrigger_takes {e : SchedEntry} {a b : Int} (h : s.takeDue isTrigger = some (e, u))
    (he : e.act = .trigger a (some b)) : exec .lineTrigger s =
      .next (if a ≤ s.lastTriggered b then u.triggerLines a (s.lastTriggered b) else u) := by
  rw [exec_lineTrigger]
  unfold execLineTrigger
  rw [h]
  dsimp only
  rw [he]
  dsimp only
  rw [lastTriggered_takeDue h]

theorem triggerFree_takeDue {p : Action → Bool} {e : SchedEntry} (h : s.takeDue p = some (e, u)) :
    u.triggerFree = s.triggerFree := by
  rw [takeDue_drops h]
  rfl

/-! ### Frame boundaries (R44, R45) -/

theorem State.InWeb.pctx (h : s.InWeb t) : t.pctx = s.pctx := by
  conv_lhs => rw [h]

/-- Where a unit's boundaries lie is read above the timeline's registers. -/
theorem boundaryKind_congr (hctx : ∀ w, t.unitCtx w = s.unitCtx w)
    (hrd : ∀ g : Fld, 0x200000 ≤ g.off → t.rd g = s.rd g) (w : CommitUnit) :
    t.boundaryKind w = s.boundaryKind w := by
  have hforce : ∀ (w : CommitUnit) (g : Fld), 0x200000 ≤ g.off → t.inForce w g = s.inForce w g := fun w g hg => by
    unfold State.inForce
    rw [hctx, hrd g hg]
  unfold State.boundaryKind
  cases w with
  | pipe p x =>
    dsimp only
    rw [hforce _ (PIPE_CTX_CFG_BOUNDARY p x) (by dsimp only [PIPE_CTX_CFG_BOUNDARY]; omega),
      hforce _ (PIPE_CTX_CFG_FRAME_GEN p x) (by dsimp only [PIPE_CTX_CFG_FRAME_GEN]; omega)]
  | stitch =>
    dsimp only
    rw [hforce _ STITCH_CFG_BOUNDARY (by decide), hforce _ STITCH_CFG_FRAME_GEN (by decide)]
  | master =>
    dsimp only
    rw [hforce _ MASTER_CFG_BOUNDARY (by decide), hforce _ MASTER_CFG_FRAME_GEN (by decide)]
  | scaler =>
    dsimp only
    rw [hforce _ SCALER_CFG_BOUNDARY (by decide), hforce _ SCALER_CFG_FRAME_GEN (by decide)]

@[simp] theorem frameGen_setFrameGen_same (s : State) (f : Nat) (x : FrameGen) : (s.setFrameGen f x).frameGen f = x :=
  spGet_spSet_same ..

/-- What `t` has of a boundary of generator f at line l in state s. -/
structure State.Framed (s : State) (f : Nat) (l : Int) (t : State) : Prop where
  number : t.rd (TIMELINE_FRAME_NUMBER f) = (s.rd (TIMELINE_FRAME_NUMBER f) + 1) % 2 ^ 32
  sched : t.tl.sched = s.tl.sched
  starts : (t.frameGen f).starts.head? = some (l, t.rd (TIMELINE_FRAME_NUMBER f))
  keeps : s.keeps t [TIMELINE_FRAME_NUMBER f]
  web : s.InWeb t
  free : t.freeCount = s.freeCount
  top : t.top = s.top

theorem frameStep_framed (s : State) (f : Nat) (l : Int) : s.Framed f l (s.frameStep f l) := by
  unfold State.frameStep
  extract_lets b g
  have hb : b.tl = s.tl := (occur_tl ..).trans (bump_tl ..)
  have hn : b.rd (TIMELINE_FRAME_NUMBER f) = (s.rd (TIMELINE_FRAME_NUMBER f) + 1) % 2 ^ 32 :=
    (rd_occur _ _ _ _).trans (rd_wr_same s (TIMELINE_FRAME_NUMBER f) _ (by simp [TIMELINE_FRAME_NUMBER]))
  have hk : s.keeps b [TIMELINE_FRAME_NUMBER f] :=
    State.keeps_occur (State.keeps_wr (State.keeps_refl s _) _ _ (by simp)) _ _
  have hweb : s.InWeb b := (State.InWeb.refl s).wr.occur
  have hfree : b.freeCount = s.freeCount := (occur_freeCount ..).trans (bump_freeCount ..)
  have htop : b.top = s.top := (occur_top ..).trans (bump_top ..)
  clear_value b
  refine ⟨(rd_congr rfl _).trans hn, ?_, ?_, State.keeps_update hk, hweb.update, hfree, htop⟩
  · change b.tl.sched = s.tl.sched
    rw [hb]
  · rw [frameGen_setFrameGen_same]
    exact congrArg (fun n => some (l, n)) (rd_congr rfl _)

/-- A boundary leaves the generator a context follows as it was: FRAME_NUMBER of a generator that a context can
follow is no register of a context. -/
theorem ctxGen_frameStep {f : Nat} {l : Int} {p x : Nat} (h : s.ctxGen p x ≠ f) : (s.frameStep f l).ctxGen p x ≠ f := by
  have hpx : (s.frameStep f l).px p x = s.px p x := by
    have hp := (frameStep_framed s f l).web.pctx
    unfold State.px
    rw [hp]
  unfold State.ctxGen at h ⊢
  rw [hpx]
  split
  · next hc => simpa [hc] using h
  · next hc =>
    rw [hc] at h
    dsimp only at h
    by_cases hf : f < 4
    · rw [(frameStep_framed s f l).keeps]
      · exact h
      · intro g hg
        obtain rfl := List.mem_singleton.1 hg
        refine .inl ?_
        dsimp only [TIMELINE_FRAME_NUMBER, PIPE_CTX_CFG_FRAME_GEN]
        omega
    · have := rd_lt (s.frameStep f l) (PIPE_CTX_CFG_FRAME_GEN p x)
      dsimp only [PIPE_CTX_CFG_FRAME_GEN] at this ⊢
      omega

theorem frameBoundary_step {f : Nat} {l : Int} {bt : Nat} (hunit : ∀ w ∈ allUnits, s.boundaryKind w ≠ .frame f)
    (hgen : ∀ w ∈ List.range 26, s.ctxGen (w / 2) (w % 2) ≠ f) : s.frameBoundary f l bt = s.frameStep f l := by
  unfold State.frameBoundary
  rw [foldl_eq_self fun w hw => if_neg (hunit w hw)]
  exact foldl_eq_self fun w hw => if_neg (ctxGen_frameStep (hgen w hw))

/-! ### A missing mark (R45) -/

/-- The generator notes that a mark is missing. -/
def State.markMissed (s : State) (f : Nat) (l : Int) : State :=
  (s.set1 (TIMELINE_FRAME_CTRL_MISSING f)).fault srcTimeline 0x7011 (slot1 f ++ slotLine l)

theorem markMissing_late {f : Nat} {q l : Int} (hq : (s.frameGen f).prev = some q) (hr : s.on TIMELINE_CTRL_RUN = true)
    (hsrc : s.rd (TIMELINE_FRAME_CTRL_SRC f) = 2) (hgap : s.rd (TIMELINE_FRAME_GAPS_MAX_GAP f) ≠ 0)
    (hl : l = q + s.rd (TIMELINE_FRAME_GAPS_MAX_GAP f)) (hpos : linePos l * (2 : Int) ^ 24 ≤ s.tl.pos) :
    s.markMissing f = some (l, s.markMissed f l) := by
  unfold State.markMissing
  extract_lets gap
  have hcond : (s.on TIMELINE_CTRL_RUN && s.rd (TIMELINE_FRAME_CTRL_SRC f) == 2 && gap != 0
      && decide (linePos (q + gap) * (2 : Int) ^ 24 ≤ s.tl.pos)) = true := by
    rw [hr, hsrc, decide_eq_true (hl ▸ hpos)]
    simpa [gap] using hgap
  split
  · next q' hq' =>
    obtain rfl := Option.some.inj (hq'.symm.trans hq)
    rw [if_pos hcond, hl]
    rfl
  · next hn => exact absurd (hn.symm.trans hq) (by simp)

theorem markMissed_tl (s : State) (f : Nat) (l : Int) : (s.markMissed f l).tl = s.tl :=
  (fault_tl ..).trans (set1_tl ..)

theorem keeps_markMissed (s : State) (f : Nat) (l : Int) :
    s.keeps (s.markMissed f l) (TIMELINE_FRAME_CTRL_MISSING f :: faultFlds) :=
  State.keeps_fault (State.keeps_set1 (State.keeps_refl s _) (by simp)) _ _ _ fun _ hg => List.mem_cons_of_mem _ hg

theorem rd_markMissed_missing (s : State) (f : Nat) (l : Int) :
    (s.markMissed f l).rd (TIMELINE_FRAME_CTRL_MISSING f) = 1 :=
  (rd_fault _ _ _ _ _ (faultFlds_apart_array (by decide))).trans
    (rd_wr_same s (TIMELINE_FRAME_CTRL_MISSING f) 1 (by simp [TIMELINE_FRAME_CTRL_MISSING]))

theorem markMissed_inWeb (s : State) (f : Nat) (l : Int) : s.InWeb (s.markMissed f l) := (State.InWeb.refl s).set1.fault

/-- The units and their settings are not the web's. -/
theorem State.InWeb.unitCtx (h : s.InWeb t) (w : CommitUnit) : t.unitCtx w = s.unitCtx w := by
  rw [h]
  rfl

/-- Where no unit's boundaries follow the generator, only its own action falls due. -/
theorem insertFrame_takes {f : Nat} {l : Int} (hunit : ∀ w ∈ allUnits, s.boundaryKind w ≠ .frame f)
    (hroom : s.schedUsed < 2048) : s.insertFrame f l =
      (s.setFrameGen f { s.frameGen f with prev := some l }).addEntry ⟨lineSlot l, .frame f l, some s.now, false⟩ := by
  unfold State.insertFrame
  extract_lets g u v
  have hkind : ∀ w, u.boundaryKind w = s.boundaryKind w :=
    boundaryKind_congr (fun w => by cases w <;> rfl) fun g _ => rd_congr rfl g
  have hv : v = u := foldl_eq_self fun w hw => if_neg (by simp [hkind, hunit w hw])
  rw [hv]
  exact dueNow_takes (s := u) hroom

/-- What `t` has of a frame boundary of generator f that is inserted at line l in state s. -/
structure State.Inserted (s : State) (f : Nat) (l : Int) (t : State) : Prop where
  sched : t.tl.sched = s.tl.sched ++ [⟨lineSlot l, .frame f l, some s.now, false⟩]
  prev : (t.frameGen f).prev = some l
  keeps : s.keeps t [TIMELINE_SCHED_STATUS_PEAK]
  web : s.InWeb t
  free : t.freeCount = s.freeCount
  top : t.top = s.top
  ev : t.ev = s.ev

theorem insertFrame_inserted {f : Nat} {l : Int} (hunit : ∀ w ∈ allUnits, s.boundaryKind w ≠ .frame f)
    (hroom : s.schedUsed < 2048) : s.Inserted f l (s.insertFrame f l) := by
  rw [insertFrame_takes hunit hroom]
  have hprev : (s.setFrameGen f { s.frameGen f with prev := some l }).frameGen f = _ := frameGen_setFrameGen_same ..
  have hweb : s.InWeb (s.setFrameGen f { s.frameGen f with prev := some l }) := rfl
  have hk : s.keeps (s.setFrameGen f { s.frameGen f with prev := some l }) [TIMELINE_SCHED_STATUS_PEAK] :=
    State.keeps_of_regs rfl _
  have hsched : (s.setFrameGen f { s.frameGen f with prev := some l }).tl.sched = s.tl.sched := rfl
  have hframe : (s.setFrameGen f { s.frameGen f with prev := some l }) =
    { s with tl := (s.setFrameGen f { s.frameGen f with prev := some l }).tl } := rfl
  generalize s.setFrameGen f { s.frameGen f with prev := some l } = u at *
  exact {
    sched := by rw [addEntry_tl, ← hsched]
    prev := by rw [State.frameGen, addEntry_tl]; exact congrArg FrameGen.prev hprev
    keeps := keeps_addEntry hk (by simp) _
    web := hweb.addEntry
    free := by rw [hframe]; simp [State.addEntry, State.notePeak]
    top := by rw [hframe]; simp [State.addEntry, State.notePeak]
    ev := by rw [hframe]; simp [State.addEntry, State.notePeak] }

end Sys2Proof.Machine
end

section
namespace Sys2Proof.Machine
open Sys2Proof

variable {s t u v : State}

/-! ### The units' settings (R107 to R111) -/

/-- The units of `t` are those of s. -/
structure State.KeepsUnits (s t : State) : Prop where
  pctx : t.pctx = s.pctx
  stitch : t.stitch = s.stitch
  mas : t.mas = s.mas
  scal : t.scal = s.scal

namespace State.KeepsUnits

theorem refl (s : State) : s.KeepsUnits s := ⟨rfl, rfl, rfl, rfl⟩

theorem trans (h : s.KeepsUnits t) (h' : t.KeepsUnits u) : s.KeepsUnits u :=
  ⟨h'.pctx.trans h.pctx, h'.stitch.trans h.stitch, h'.mas.trans h.mas, h'.scal.trans h.scal⟩

theorem wr (h : s.KeepsUnits t) {f v} : s.KeepsUnits (t.wr f v) :=
  h.trans ⟨wr_pctx .., wr_stitch .., wr_mas .., wr_scal ..⟩

theorem wrS (h : s.KeepsUnits t) {f v} : s.KeepsUnits (t.wrS f v) := h.wr

theorem set1 (h : s.KeepsUnits t) {f} : s.KeepsUnits (t.set1 f) := h.wr

theorem fault (h : s.KeepsUnits t) {source code slots} : s.KeepsUnits (t.fault source code slots) :=
  h.trans ⟨fault_pctx .., fault_stitch .., fault_mas .., fault_scal ..⟩

theorem occur (h : s.KeepsUnits t) {producer hop} : s.KeepsUnits (t.occur producer hop) :=
  h.trans ⟨occur_pctx .., occur_stitch .., occur_mas .., occur_scal ..⟩

theorem ite {c : Prop} {_ : Decidable c} (h : s.KeepsUnits t) (h' : s.KeepsUnits u) :
    s.KeepsUnits (if c then t else u) := by
  split
  · exact h
  · exact h'

theorem foldl {α : Type} {l : List α} {f : State → α → State} (h : s.KeepsUnits t)
    (hf : ∀ t a, s.KeepsUnits t → s.KeepsUnits (f t a)) : s.KeepsUnits (l.foldl f t) :=
  List.foldlRecOn l f h fun t ht a _ => hf t a ht

theorem follows (h : s.KeepsUnits t) (h' : t.Follows u) : s.KeepsUnits u :=
  h.trans (by rw [h'.frame]; exact ⟨rfl, rfl, rfl, rfl⟩)

theorem carry (h : s.KeepsUnits t) {w : CommitUnit} {why : Nat} : s.KeepsUnits (t.carry w why) := by
  cases w with
  | pipe p x => exact h.set1.wr
  | stitch => exact h.set1.wr
  | master => exact h.set1.wr
  | scaler => exact h.set1.wr

theorem carryLater (h : s.KeepsUnits t) {w : CommitUnit} {bt : Nat} : s.KeepsUnits (t.carryLater w bt) := h.carry.ite h

theorem offerCommit (h : s.KeepsUnits t) {w : CommitUnit} : s.KeepsUnits (t.offerCommit w) :=
  h.follows (State.Follows.refl t).offerCommit

theorem seedOnSet (h : s.KeepsUnits t) {l : Int} : s.KeepsUnits (t.seedOnSet l) :=
  State.KeepsUnits.ite ⟨h.pctx, h.stitch, h.mas, h.scal⟩ h

theorem stitchApplied (h : s.KeepsUnits t) {a : SettingsSet} : s.KeepsUnits (t.stitchApplied a) :=
  State.KeepsUnits.seedOnSet (h.foldl fun _ _ hu => hu.wrS.wrS.set1.fault.ite hu.wrS.wrS)

theorem updCtx (h : s.KeepsUnits t) {p x : Nat} : s.KeepsUnits (t.updCtx p x) := h.wr.wr.wr.wr

theorem updStitch (h : s.KeepsUnits t) : s.KeepsUnits t.updStitch := h.wr.wr

theorem updMaster (h : s.KeepsUnits t) : s.KeepsUnits t.updMaster := h.wr.wr.wr.wr

theorem updScaler (h : s.KeepsUnits t) : s.KeepsUnits t.updScaler := h.wr.wr

theorem unitCtx (h : s.KeepsUnits t) (w : CommitUnit) : t.unitCtx w = s.unitCtx w := by
  cases w with
  | pipe p x => exact congrArg PipeCtx.commit (by rw [State.px, h.pctx, State.px])
  | stitch => exact congrArg (·.commit) h.stitch
  | master => exact congrArg (·.commit) h.mas
  | scaler => exact congrArg (·.commit) h.scal

end State.KeepsUnits

@[simp] theorem px_setPx_same (s : State) (p x : Nat) (c : PipeCtx) : (s.setPx p x c).px p x = c := spGet_spSet_same ..

theorem unitCtx_setUnitCtx (s : State) (w : CommitUnit) (c : CommitCtx) : (s.setUnitCtx w c).unitCtx w = c := by
  cases w with
  | pipe p x =>
    refine ((State.KeepsUnits.refl _).updCtx.unitCtx (.pipe p x)).trans ?_
    exact congrArg PipeCtx.commit (px_setPx_same ..)
  | stitch => exact (State.KeepsUnits.refl _).updStitch.unitCtx .stitch
  | master => exact (State.KeepsUnits.refl _).updMaster.unitCtx .master
  | scaler => exact (State.KeepsUnits.refl _).updScaler.unitCtx .scaler

theorem unitCtx_setPx {p x : Nat} {c : PipeCtx} (h : c.commit = (s.px p x).commit) :
    (s.setPx p x c).unitCtx (.pipe p x) = s.unitCtx (.pipe p x) :=
  (congrArg PipeCtx.commit (px_setPx_same ..)).trans h

theorem unitCtx_occur (s : State) (producer hop : Nat) (w : CommitUnit) :
    (s.occur producer hop).unitCtx w = s.unitCtx w :=
  ((State.KeepsUnits.refl s).occur).unitCtx w

theorem unitCtx_bad (s : State) (bad : List Nat) :
    ({ s with mas := { s.mas with bad := bad } } : State).unitCtx .master = s.unitCtx .master := rfl

/-- What is shown of a set does not change it. -/
theorem unitCtx_showApplied (s : State) (w : CommitUnit) (a : SettingsSet) (late : Bool) :
    (s.showApplied w a late).unitCtx w = s.unitCtx w := by
  cases w with
  | pipe p x =>
    dsimp -zeta only [State.showApplied]
    extract_lets s₁ s₂ s₃ tag
    have h₂ : s.KeepsUnits s₂ := (State.KeepsUnits.refl s).wrS.wr.wr
    have h₃ : s.KeepsUnits s₃ := h₂.set1.ite h₂
    clear_value s₃
    rw [unitCtx_occur]
    refine (unitCtx_setPx ?_).trans (h₃.unitCtx _)
    rfl
  | stitch =>
    have h : s.KeepsUnits (((s.wrS STITCH_APPLIED_LINE a.start).wr STITCH_INFO_COMMITS a.commits).stitchApplied a) :=
      (State.KeepsUnits.refl s).wrS.wr.stitchApplied
    dsimp only [State.showApplied]
    rw [unitCtx_occur, h.unitCtx]
  | master =>
    dsimp -zeta only [State.showApplied]
    extract_lets s₁ d
    have h₁ : s.KeepsUnits s₁ := (State.KeepsUnits.refl s).wrS.wr
    clear_value s₁
    rw [unitCtx_occur]
    exact (unitCtx_bad s₁ []).trans (h₁.unitCtx .master)
  | scaler => exact unitCtx_occur ..

/-! ### A commit boundary is applied or carried (R107, R108) -/

/-- The set that a boundary applies, judged with image `m`. -/
def State.settings (s : State) (w : CommitUnit) (start : Int) (bt : Nat) (late : Bool) (m : Sparse Nat) : SettingsSet :=
  { words := s.shadowAt (unitRange w).1 (unitRange w).2 bt, image := m
    start := if late then max start s.lowestUntriggered else start, commits := (s.commitsOf w + 1) % 65536 }

theorem commitAt_applies {w : CommitUnit} {start : Int} {bt : Nat} {late : Bool} {p : PendCommit} {m : Sparse Nat}
    (he : (s.unitCtx w).eligible bt = some p) (hj : (s.unitCtx w).judged = some (bt, 0, m))
    (hb : badField w (s.shadowAt (unitRange w).1 (unitRange w).2 bt) = none) : ∃ l,
    s.commitAt w start bt late = (some ((s.commitsOf w + 1) % 65536),
      ((((s.setUnitCtx w ((s.unitCtx w).apply bt (s.settings w start bt late m))).showApplied w
        (s.settings w start bt late m) l).carryLater w bt).offerCommit w)) := by
  have hjudged : s.judgedAt w bt = (0, m) := by
    unfold State.judgedAt
    rw [hj]
    exact if_pos rfl
  refine ⟨decide (start < if late then max start s.lowestUntriggered else start), ?_⟩
  unfold State.commitAt
  extract_lets c j r words carried line n a u
  rw [if_neg (by simp [c, he]), if_neg (by simp [j, hjudged])]
  split
  · next h => exact absurd (h.symm.trans hb) (by simp)
  · have ha : a = s.settings w start bt late m := by
      dsimp only [a, j]
      rw [hjudged]
      rfl
    rw [← ha]

theorem commitAt_carries {w : CommitUnit} {start : Int} {bt why : Nat} {late : Bool} {p : PendCommit} {m : Sparse Nat}
    (he : (s.unitCtx w).eligible bt = some p) (hj : (s.unitCtx w).judged = some (bt, why, m)) (hwhy : why ≠ 0) :
    s.commitAt w start bt late = (none, (s.carry w why).offerCommit w) := by
  have hjudged : s.judgedAt w bt = (why, m) := by
    unfold State.judgedAt
    rw [hj]
    exact if_pos rfl
  unfold State.commitAt
  rw [if_neg (by simp [he]), hjudged]
  exact if_pos (by simpa using hwhy)

/-- What `t` has of a set `a` that is applied to unit w in state s. -/
structure State.Applies (s : State) (w : CommitUnit) (bt : Nat) (a : SettingsSet) (t : State) : Prop where
  active : (t.unitCtx w).active = some a
  previous : (t.unitCtx w).previous = (s.unitCtx w).active
  pend : (t.unitCtx w).pend = (s.unitCtx w).later bt

theorem commitAt_applied {w : CommitUnit} {start : Int} {bt : Nat} {late : Bool} {p : PendCommit} {m : Sparse Nat}
    (he : (s.unitCtx w).eligible bt = some p) (hj : (s.unitCtx w).judged = some (bt, 0, m))
    (hb : badField w (s.shadowAt (unitRange w).1 (unitRange w).2 bt) = none) :
    (s.commitAt w start bt late).1 = some ((s.commitsOf w + 1) % 65536) ∧
      s.Applies w bt (s.settings w start bt late m) (s.commitAt w start bt late).2 := by
  obtain ⟨l, hc⟩ := commitAt_applies (start := start) (late := late) he hj hb
  rw [hc]
  have hctx : ∀ (c : CommitCtx) (a : SettingsSet),
      (((((s.setUnitCtx w c).showApplied w a l).carryLater w bt).offerCommit w).unitCtx w) = c := fun c a => by
    rw [((State.KeepsUnits.refl _).carryLater.offerCommit).unitCtx, unitCtx_showApplied, unitCtx_setUnitCtx]
  exact ⟨rfl, by rw [hctx]; rfl, by rw [hctx]; rfl, by rw [hctx]; rfl⟩

theorem takeCommit_drops {w : CommitUnit} {e : SchedEntry} (h : s.takeCommit w = some (e, v)) :
    v = { s with tl := { s.tl with sched := dropEntry e s.tl.sched } } := by
  unfold State.takeCommit at h
  split at h
  · split at h
    · cases h
      rfl
    · cases h
  · cases h

/-- The boundary that is taken is applied at its line, or at the page that starts there. -/
theorem commitBoundary_takes {w w' : CommitUnit} {e : SchedEntry} {l : Int} (h : s.takeCommit w = some (e, v))
    (he : e.act = .commit w' l) : s.commitBoundary w =
      if v.boundaryKind w = .page then v.pageBoundary l (e.due.getD v.now) e.late
      else (v.commitAt w l (e.due.getD v.now) e.late).2 := by
  unfold State.commitBoundary
  split
  · next e' v' h' =>
    obtain ⟨rfl, rfl⟩ := Prod.mk.inj (Option.some.inj (h'.symm.trans h))
    extract_lets bt
    rw [he]
  · next h' => exact absurd (h'.symm.trans h) (by simp)

/-- What is read of a state for a commit boundary, its taken entry aside. -/
structure State.Offers (s v : State) : Prop where
  now : v.now = s.now
  kind : ∀ w, v.boundaryKind w = s.boundaryKind w
  ctx : ∀ w, v.unitCtx w = s.unitCtx w
  pages : v.mas.pages = s.mas.pages
  settings : ∀ w start bt late m, v.settings w start bt late m = s.settings w start bt late m

theorem settings_update (s : State) (tl : Timeline) (w : CommitUnit) (start : Int) (bt : Nat) (late : Bool)
    (m : Sparse Nat) : State.settings { s with tl := tl } w start bt late m = s.settings w start bt late m := by
  cases w <;> rfl

theorem takeCommit_offers {w : CommitUnit} {e : SchedEntry} (h : s.takeCommit w = some (e, v)) : s.Offers v := by
  have hctx : ∀ (tl : Timeline) (w : CommitUnit), State.unitCtx { s with tl := tl } w = s.unitCtx w := fun _ w => by
    cases w <;> rfl
  rw [takeCommit_drops h]
  exact ⟨rfl, boundaryKind_congr (hctx _) fun g _ => rd_congr rfl g, hctx _, rfl, settings_update s _⟩

theorem applies_of_offers {w : CommitUnit} {bt : Nat} {a : SettingsSet} (ho : s.Offers v) (h : v.Applies w bt a t) :
    s.Applies w bt a t :=
  ⟨h.active, by rw [h.previous, ho.ctx], by rw [h.pend, ho.ctx]⟩

theorem commitBoundary_applies {w : CommitUnit} {e : SchedEntry} {l : Int} {bt : Nat} {m : Sparse Nat} {p : PendCommit}
    (h : s.takeCommit w = some (e, v)) (he : e.act = .commit w l) (hbt : bt = e.due.getD s.now)
    (hkind : s.boundaryKind w ≠ .page) (hp : (s.unitCtx w).eligible bt = some p)
    (hj : (s.unitCtx w).judged = some (bt, 0, m))
    (hb : badField w (s.shadowAt (unitRange w).1 (unitRange w).2 bt) = none) :
    s.Applies w bt (s.settings w l bt e.late m) (s.commitBoundary w) := by
  have ho := takeCommit_offers h
  have hwords : v.shadowAt (unitRange w).1 (unitRange w).2 bt = s.shadowAt (unitRange w).1 (unitRange w).2 bt :=
    congrArg SettingsSet.words (ho.settings w l bt e.late m)
  rw [commitBoundary_takes h he, ho.kind, if_neg hkind, ho.now, ← hbt, ← ho.settings]
  rw [← ho.ctx] at hp hj
  rw [← hwords] at hb
  exact applies_of_offers ho (commitAt_applied hp hj hb).2

theorem commitBoundary_carries {w : CommitUnit} {e : SchedEntry} {l : Int} {bt why : Nat} {m : Sparse Nat}
    {p : PendCommit} (h : s.takeCommit w = some (e, v)) (he : e.act = .commit w l) (hbt : bt = e.due.getD s.now)
    (hkind : s.boundaryKind w ≠ .page) (hp : (s.unitCtx w).eligible bt = some p)
    (hj : (s.unitCtx w).judged = some (bt, why, m)) (hwhy : why ≠ 0) :
    s.commitBoundary w = (v.carry w why).offerCommit w ∧
      ((v.carry w why).offerCommit w).unitCtx w = s.unitCtx w := by
  have ho := takeCommit_offers h
  have hctx := ((State.KeepsUnits.refl v).carry (w := w) (why := why)).offerCommit (w := w)
  rw [← ho.ctx] at hp hj
  rw [commitBoundary_takes h he, ho.kind, if_neg hkind, ho.now, ← hbt, commitAt_carries hp hj hwhy]
  exact ⟨rfl, (hctx.unitCtx w).trans (ho.ctx w)⟩

/-- At a page, the set governs from the page's first line. -/
theorem commitBoundary_page {e : SchedEntry} {l : Int} {bt : Nat} {m : Sparse Nat} {p : PendCommit} {g : Page}
    (h : s.takeCommit .master = some (e, v)) (he : e.act = .commit .master l) (hlate : e.late = false)
    (hbt : bt = e.due.getD s.now) (hkind : s.boundaryKind .master = .page)
    (hg : s.mas.pages.find? (fun p => p.start == l) = some g) (hp : s.mas.commit.eligible bt = some p)
    (hj : s.mas.commit.judged = some (bt, 0, m)) :
    s.Applies .master bt (s.settings .master (4 * g.po) bt false m) (s.commitBoundary .master) := by
  have ho := takeCommit_offers h
  have hp' : (v.unitCtx .master).eligible bt = some p := by rw [ho.ctx]; exact hp
  have hj' : (v.unitCtx .master).judged = some (bt, 0, m) := by rw [ho.ctx]; exact hj
  obtain ⟨hn, ha⟩ := commitAt_applied (start := 4 * g.po) (late := false) hp' hj' rfl
  rw [commitBoundary_takes h he, ho.kind, if_pos hkind, ho.now, ← hbt, hlate, ← ho.settings]
  rw [← ho.pages] at hg
  unfold State.pageBoundary
  split
  · next hnone => exact absurd (hnone.symm.trans hg) (by simp)
  next g' hg' =>
  obtain rfl : g' = g := Option.some.inj (hg'.symm.trans hg)
  extract_lets r
  have hr : r.1 = some _ := hn
  have happ : s.Applies .master bt (v.settings .master (4 * g'.po) bt false m) r.2 := applies_of_offers ho ha
  clear_value r
  rw [hr]
  exact ⟨happ.active, happ.previous, happ.pend⟩

theorem State.InWeb.frame_recorded (h : s.InWeb t) (hf : t.freeCount = s.freeCount) (he : t.ev = s.ev) :
    t = { s with regs := t.regs, tl := t.tl, top := t.top } := by
  conv_lhs => rw [h, hf, he]

/-- The boundary that is taken begins a frame. -/
theorem frameBoundary_takes {e : SchedEntry} {f : Nat} {l : Int} (h : s.takeDue isFrame = some (e, u))
    (he : e.act = .frame f l) (hunit : ∀ w ∈ allUnits, s.boundaryKind w ≠ .frame f)
    (hgen : ∀ w ∈ List.range 26, s.ctxGen (w / 2) (w % 2) ≠ f) :
    exec .frameBoundary s = .next (u.frameStep f l) := by
  have hkind : ∀ w, u.boundaryKind w = s.boundaryKind w := by
    rw [takeDue_drops h]
    exact boundaryKind_congr (fun w => by cases w <;> rfl) fun g _ => rd_congr rfl g
  have hctx : ∀ p x, u.ctxGen p x = s.ctxGen p x := by
    rw [takeDue_drops h]
    exact fun _ _ => rfl
  rw [exec_frameBoundary]
  unfold execFrameBoundary
  rw [h]
  dsimp only
  rw [he]
  dsimp only
  rw [frameBoundary_step (by simpa [hkind] using hunit) (by simpa [hctx] using hgen)]

/-- The recorder's fields lie below the units' registers. -/
theorem faultFlds_low : ∀ g ∈ faultFlds, g.off * 8 + g.lsb + g.w ≤ 0x200000 * 8 := by decide

/-- The boundary that is missing is inserted. -/
theorem frameMarkMissing_inserts {f : Fin 4} {q l : Int} (hq : (s.frameGen f).prev = some q)
    (hr : s.on TIMELINE_CTRL_RUN = true) (hsrc : s.rd (TIMELINE_FRAME_CTRL_SRC f) = 2)
    (hgap : s.rd (TIMELINE_FRAME_GAPS_MAX_GAP f) ≠ 0) (hl : l = q + s.rd (TIMELINE_FRAME_GAPS_MAX_GAP f))
    (hpos : linePos l * (2 : Int) ^ 24 ≤ s.tl.pos) (hunit : ∀ w ∈ allUnits, s.boundaryKind w ≠ .frame f)
    (hroom : s.schedUsed < 2048) :
    exec (.frameMarkMissing f) s = .next ((s.markMissed f l).insertFrame f l) ∧
      (s.markMissed f l).Inserted f l ((s.markMissed f l).insertFrame f l) := by
  have habove : ∀ g : Fld, 0x200000 ≤ g.off → (s.markMissed f l).rd g = s.rd g := fun g hg => by
    refine keeps_markMissed s f l g fun g' hg' => ?_
    have hlow : g'.off * 8 + g'.lsb + g'.w ≤ 0x200000 * 8 := by
      obtain rfl | hg' := List.mem_cons.1 hg'
      · dsimp only [TIMELINE_FRAME_CTRL_MISSING]
        omega
      · exact faultFlds_low g' hg'
    exact .inl (by omega)
  have hkind := boundaryKind_congr (fun w => (markMissed_inWeb s f l).unitCtx w) habove
  refine ⟨?_, insertFrame_inserted (by simpa [hkind] using hunit) ?_⟩
  · rw [exec_frameMarkMissing]
    unfold execFrameMarkMissing
    rw [markMissing_late hq hr hsrc hgap hl hpos]
  · rw [schedUsed_of_tl (markMissed_tl s f l)]
    exact hroom

/-- Settles O12: each command takes the entry that is due, and does with it what one lemma above says. -/
theorem scheduledActionsExecuteWhenDue : Obligations.ScheduledActionsExecuteWhenDue := by
  refine ⟨?_, ?_, ?_, ?_, ?_, ?_, ?_, ?_, ?_, ?_, ?_⟩
  · intro s m at48 hpend hroom hahead
    refine ⟨_, congrArg Host.Outcome.next (markerQueue_takes hpend hroom hahead), addEntry_tl _ _,
      keeps_addEntry (State.keeps_refl s _) (by simp) _, (State.InWeb.refl s).addEntry.frame_ev ?_ ?_ ?_⟩
    all_goals simp [State.addEntry, State.notePeak]
  · intro s u m e h hw
    obtain ⟨t, hex, ht⟩ := markerFire_marked h hw
    obtain rfl := takeDue_drops h
    exact ⟨t, hex, ht.sched, ht.active.trans (by rw [rd_with_tl]; rfl), ht.fired,
      fun g hg => (ht.keeps g hg).trans (rd_congr rfl g),
      State.InWeb.frame_top ((State.InWeb.refl s).update.trans ht.web) ht.free ht.top⟩
  · intro s m u h hle
    simp [execMarkerPulseEnd, h, hle]
  · intro s l rest hw hr hf
    exact ⟨_, triggerIssue_issues hw hr hf, by rw [issueTrigger_tl], by rw [issueTrigger_tl]; rfl⟩
  · intro s u e a b h he ha hw hf
    have hwu : u.tl.waiting = [] := by rw [takeDue_drops h]; exact hw
    rw [lineTrigger_takes h he, ← ha, if_pos le_rfl, triggerLines_single hwu ((triggerFree_takeDue h).trans hf)]
  · intro s u e a b h he hlt
    rw [lineTrigger_takes h he, if_neg (Int.not_le.2 hlt)]
  · intro s u e f l h he hunit hgen
    have hex := frameBoundary_takes h he hunit hgen
    have ht := frameStep_framed u f l
    obtain rfl := takeDue_drops h
    exact ⟨_, hex, ht.number.trans (by rw [rd_with_tl]), ht.sched, ht.starts,
      fun g hg => (ht.keeps g hg).trans (rd_congr rfl g),
      State.InWeb.frame_top ((State.InWeb.refl s).update.trans ht.web) ht.free ht.top⟩
  · intro s f q l hq hr hsrc hgap hl hpos hunit hroom
    obtain ⟨hex, ht⟩ := frameMarkMissing_inserts hq hr hsrc hgap hl hpos hunit hroom
    have htl := markMissed_tl s f l
    refine ⟨_, hex, ?_, ?_, ht.prev, ht.top, ?_, ?_⟩
    · exact (ht.keeps _ fun g hg => (List.mem_singleton.1 hg).symm ▸ Fld.apart.symm Fld.apart_below).trans
        (rd_markMissed_missing s f l)
    · rw [ht.sched, htl, now_of_tl htl]
    · exact State.keeps_mono (State.keeps_trans (keeps_markMissed s f l) ht.keeps) (by simp; tauto)
    · exact ((markMissed_inWeb s f l).trans ht.web).frame_recorded (ht.free.trans (by simp [State.markMissed]))
        (ht.ev.trans (by simp [State.markMissed]))
  · intro s v u e l bt lo hi m p h he hbt hkind hp hj hr hb
    have hlo : lo = (unitRange (unitOf u)).1 := by rw [hr]
    have hhi : hi = (unitRange (unitOf u)).2 := by rw [hr]
    subst hlo hhi
    have ht := commitBoundary_applies h he hbt hkind hp hj hb
    exact ⟨_, _, rfl, ht.active, rfl, rfl, rfl, rfl, ht.previous, ht.pend⟩
  · intro s v u e l bt why m p h he hbt hkind hp hj hwhy
    obtain ⟨ht, hctx⟩ := commitBoundary_carries h he hbt hkind hp hj hwhy
    exact ⟨_, congrArg Host.Outcome.next ht, rfl, by rw [hctx], by rw [hctx]⟩
  · intro s v e l bt m p g h he hlate hbt hkind hg hp hj
    have ht := commitBoundary_page h he hlate hbt hkind hg hp hj
    exact ⟨_, _, rfl, ht.active, rfl, rfl, rfl, ht.previous, ht.pend⟩

end Sys2Proof.Machine
end

section
namespace Sys2Proof.Machine
open Sys2Proof Sys2Proof.Tests

/-! ## A tick in which a write of the scribe lands (R18, R312) -/

/-- In M3 IDLE with RUN at 0, the scribe has issued a WRITE of TIMELINE_CTRL with PRESET, due in the next tick;
TIMELINE_PRESET is line 1. -/
def presetIssued : State :=
  { withFlds [(TOP_MODE_MODE, 3), (TIMELINE_PRESET, 0x10000)] with
    tl := { tick := 5 }
    scribe := { posted := [⟨6, 0, reqScribe, 0, .write (regAddr TIMELINE_CTRL.off) 16 none none⟩] } }

set_option maxRecDepth 100000 in
/-- The tick in which the WRITE takes effect loads the preset. -/
theorem presetIssued_tick_pos : presetIssued.tick.tl.pos = (2 : Int) ^ 40 := by decide

/-- Refutes O1: with no command waiting, a tick moves web position when a PRESET that the scribe has issued takes
effect in it (R312). -/
theorem not_aStepRunsTheFrontCommand : ¬ Obligations.AStepRunsTheFrontCommand := by
  intro ⟨_, hidle, _⟩
  obtain ⟨t, hstep, -, hpos, -⟩ := hidle presetIssued rfl
  have ht : presetIssued.tick = t := Host.Outcome.next.inj hstep
  have hmoved : t.tl.pos = (2 : Int) ^ 40 := ht ▸ presetIssued_tick_pos
  have hstill : presetIssued.tl.pos = 0 := rfl
  rw [hmoved, hstill] at hpos
  exact absurd hpos (by decide)

end Sys2Proof.Machine
end

section
namespace Sys2Proof.Machine
open Sys2Proof

variable {s : State}

/-! ## A read of web position (R15, R487) -/

theorem leBytes_mod (k n : Nat) : leBytes k (n % 256 ^ k) = leBytes k n := by
  induction k generalizing n with
  | zero => rfl
  | succ k ih =>
    have hlow : n % 256 ^ (k + 1) % 256 = n % 256 := Nat.mod_mod_of_dvd n (dvd_pow_self 256 (by omega))
    have hhigh : n % 256 ^ (k + 1) / 256 = n / 256 % 256 ^ k := by rw [pow_succ', Nat.mod_mul_right_div_self]
    simp only [leBytes, hlow, hhigh, ih]

theorem leBytes_append (j k n : Nat) : leBytes j n ++ leBytes k (n / 256 ^ j) = leBytes (j + k) n := by
  induction j generalizing n with
  | zero => simp [leBytes]
  | succ j ih =>
    rw [show j + 1 + k = j + k + 1 by omega]
    simp only [leBytes, List.cons_append, ← ih, pow_succ', Nat.div_div_eq_div_mul]

theorem readWord_pos_lo (hm : s.mode ≠ 1) :
    s.readWord 0x10010 = (toBits 64 s.pos16 % 2 ^ 32, { s with
      latchHi := spSet (fun _ => none) s.latchHi 0x10014 (some (BitVec.ofNat 32 (toBits 64 s.pos16 / 2 ^ 32))) }) := by
  rw [readWord_lo (answers_timeline rfl hm) (by decide) (by decide), readClear_keeps regRow_pos rfl,
    viewReg_pos_lo, viewReg_pos_hi]

/-- HI after LO: what LO latched, whatever the position is by then. -/
theorem readWord_pos_hi {w : Word} (hm : s.mode ≠ 1) (hl : spGet (fun _ => none) s.latchHi 0x10014 = some w) :
    s.readWord 0x10014 = (w.toNat, { s with latchHi := spSet (fun _ => none) s.latchHi 0x10014 none }) :=
  readWord_hi (answers_timeline rfl hm) (by decide) (by decide) (by decide) hl

theorem registerRead_pos (ho : s.barOpen = true) (hm : s.mode ≠ 1) (hp : s.permitted reqHost clsStatus false = true) :
    ∃ t, exec (.registerRead 0x10010 8 255) s = .next t ∧
      t.out.bar = s.out.bar ++ [.data (leBytes 8 (toBits 64 s.pos16))] ∧ t.tl = s.tl := by
  obtain ⟨s₁, hs₁⟩ := exists_eq' (a' := { s with
    latchHi := spSet (fun _ => none) s.latchHi 0x10014 (some (BitVec.ofNat 32 (toBits 64 s.pos16 / 2 ^ 32))) })
  have hlo : s.busRead reqHost 0x10010 0x10010 = (some (toBits 64 s.pos16 % 2 ^ 32), s₁) := by
    rw [busRead_permitted (by rwa [regClass_status (by omega)]), readWord_pos_lo hm, ← hs₁]
  have hm₁ : s₁.mode ≠ 1 := by rwa [← hs₁]
  have hp₁ : s₁.permitted reqHost clsStatus false = true := by rwa [← hs₁]
  have hhi : s₁.busRead reqHost 0x10014 0x10014 = (some (toBits 64 s.pos16 / 2 ^ 32 % 2 ^ 32),
      { s₁ with latchHi := spSet (fun _ => none) s₁.latchHi 0x10014 none }) := by
    have hl : spGet (fun _ => none) s₁.latchHi 0x10014 = some (BitVec.ofNat 32 (toBits 64 s.pos16 / 2 ^ 32)) := by
      simp [← hs₁]
    rw [busRead_permitted (by rwa [regClass_status (by omega)]), readWord_pos_hi hm₁ hl, BitVec.toNat_ofNat]
  have hw : reqWords 0x10010 8 (fun i => bitAt 255 i) = some [0x10010, 0x10014] := rfl
  refine ⟨_, by simp [execRegisterRead, ho, hw, hlo, hhi]; rfl, ?_, ?_⟩
  · have h₁ := leBytes_mod 4 (toBits 64 s.pos16)
    have h₂ := leBytes_mod 4 (toBits 64 s.pos16 / 2 ^ 32)
    have h₃ := leBytes_append 4 4 (toBits 64 s.pos16)
    norm_num at h₁ h₂ h₃
    simp [State.complete, ← hs₁, h₁, h₂, h₃]
  · simp [State.complete, ← hs₁]

/-- The line holds the position: R15's integer part. -/
theorem line_bounds (s : State) : s.line * 2 ^ 40 ≤ s.tl.pos ∧ s.tl.pos < (s.line + 1) * 2 ^ 40 :=
  ⟨Int.ediv_mul_le _ (by decide), Int.lt_ediv_add_one_mul_self _ (by decide)⟩

/-- Settles O56: the LO half latches the HI half, so that the two words read are one position. -/
theorem positionReadsTruncated : Obligations.PositionReadsTruncated := by
  intro s v ho hm hp hv
  obtain ⟨t, hex, hbar, htl⟩ := registerRead_pos ho hm hp
  have hv' : s.pos16 = v := hv.symm
  exact ⟨t, hex, by rw [hbar, hv'], hv', (line_bounds s).1, (line_bounds s).2, htl⟩

end Sys2Proof.Machine
end

section
namespace Sys2Proof.Machine
open Sys2Proof Sys2Proof.Tests

/-! ## The width of a stroke's count (R46, R50)

STROKEk_COUNT holds the emitted count C and STROKEk_TARGET the target count N, each signed in a 64-bit pair. -/

@[simp] theorem rd_setStroke (s : State) (k : Nat) (x : Stroke) (f : Fld) : (s.setStroke k x).rd f = s.rd f :=
  rd_congr rfl f

/-- A step of QUAD toward a higher target leaves the 64-bit code of the next count in STROKEk_COUNT. -/
theorem strokeStep_counts_up {s : State} {k : Fin 8} (hen : s.on (STROKE_ST_CTRL_EN k) = true)
    (hrun : (s.stroke k).frozen = none) (hform : s.rd (STROKE_ST_CTRL_FORM k) = 1)
    (hlow : s.rdS (STROKE_ST_COUNT k) < s.limitTarget k (s.rdS (STROKE_ST_TARGET k)))
    (hgap : ∀ u, (s.stroke k).lastStep = some u → u + s.rd (STROKE_ST_CTRL_PW k) ≤ s.now) :
    ∃ t, exec (.strokeStep k) s = .next t ∧
      t.rd (STROKE_ST_COUNT k) = toBits 64 (s.rdS (STROKE_ST_COUNT k) + 1) := by
  rw [exec_strokeStep]
  unfold execStrokeStep
  extract_lets i x c lim pw quad gap spaced fwd setUp u up
  have hquad : quad = true := beq_iff_eq.2 hform
  have hfwd : fwd = true := decide_eq_true hlow
  have hspaced : spaced = true := by
    have hpw : gap = pw := if_pos hquad
    dsimp only [spaced]
    split
    · next v hv => exact decide_eq_true (hpw ▸ hgap v hv)
    · rfl
  have hset : setUp = true := by
    dsimp only [setUp]
    split
    · simp [hquad]
    · rfl
  have hgo : (s.on (STROKE_ST_CTRL_EN i) && x.frozen.isNone && c != lim) = true := by
    have hne : c ≠ lim := ne_of_lt hlow
    simp [i, x, hen, hrun, hne]
  rw [if_pos hgo, if_neg (by simp [hspaced]), if_neg (by simp [hquad]), if_neg (by simp [hset])]
  refine ⟨_, rfl, ?_⟩
  have hu : u = s.wrS (STROKE_ST_COUNT k) (s.rdS (STROKE_ST_COUNT k) + 1) := by
    dsimp only [u]
    rw [hfwd, if_pos rfl]
  rw [rd_setStroke, hu]
  exact rd_wrS_same s (STROKE_ST_COUNT k) _ (Nat.le_refl 64)

/-- Stroke 3 runs in QUAD two steps below its target of 0. -/
def strokeBelowZero : State :=
  withFlds [(STROKE_ST_CTRL_EN 3, 1), (STROKE_ST_CTRL_FORM 3, 1), (STROKE_ST_COUNT 3, 2 ^ 64 - 2)]

theorem rdS_count_strokeBelowZero : strokeBelowZero.rdS (STROKE_ST_COUNT (3 : Fin 8)) = -2 := by decide

/-- Refutes O13: a step from count -2 to -1 leaves the 64-bit code of -1 in STROKEk_COUNT; the statement asks for the
32-bit code, which is the count 2^32 - 1. -/
theorem not_strokeCommandsFollowTheSource : ¬ Obligations.StrokeCommandsFollowTheSource := by
  intro ⟨_, hstep, _⟩
  have hen : strokeBelowZero.on (STROKE_ST_CTRL_EN 3) = true := by decide
  have hrun : (strokeBelowZero.stroke 3).frozen = none := rfl
  have hform : strokeBelowZero.rd (STROKE_ST_CTRL_FORM 3) = 1 := by decide
  have hlow : strokeBelowZero.rdS (STROKE_ST_COUNT 3) <
      strokeBelowZero.limitTarget 3 (strokeBelowZero.rdS (STROKE_ST_TARGET 3)) := by decide
  have hgap : ∀ u, (strokeBelowZero.stroke 3).lastStep = some u →
      u + strokeBelowZero.rd (STROKE_ST_CTRL_PW 3) ≤ strokeBelowZero.now := nofun
  obtain ⟨t, hex, hclaim, -⟩ := hstep strokeBelowZero 3 hen hrun hform hlow hgap
  obtain ⟨t', hex', hcount⟩ := strokeStep_counts_up (k := 3) hen hrun hform hlow hgap
  obtain rfl : t' = t := Host.Outcome.next.inj (hex'.symm.trans hex)
  rw [hcount, rdS_count_strokeBelowZero] at hclaim
  exact absurd hclaim (by decide)

end Sys2Proof.Machine
end

section
namespace Sys2Proof.Machine
open Sys2Proof

variable {s t u : State} {fs : List Fld} {n l g : Nat}

/-! ## The Zhevlis link

### Ports, groups and lanes (R61) -/

theorem port_of_zl (h : t.zl = s.zl) (n : Nat) : t.port n = s.port n := by rw [State.port, h, State.port]

theorem lane_of_zl (h : t.zl = s.zl) (n l : Nat) : t.lane n l = s.lane n l := by
  rw [State.lane, port_of_zl h, State.lane]

@[simp] theorem port_setPort_same (s : State) (n : Nat) (z : Zl) : (s.setPort n z).port n = z := spGet_spSet_same ..

@[simp] theorem lane_setLane_same (s : State) (n l : Nat) (x : ZlLane) : (s.setLane n l x).lane n l = x := by
  simp [State.lane, State.setLane]

@[simp] theorem lane_setGrp (s : State) (n g l : Nat) (x : ZlGroup) : (s.setGrp n g x).lane n l = s.lane n l := by
  simp [State.lane, State.setGrp]

theorem spareRx_setLane (s : State) (n l : Nat) (x : ZlLane) :
    ((s.setLane n l x).port n).spareRx = (s.port n).spareRx := by
  simp [State.setLane]

theorem spareRx_setGrp (s : State) (n g : Nat) (x : ZlGroup) :
    ((s.setGrp n g x).port n).spareRx = (s.port n).spareRx := by
  simp [State.setGrp]

/-- The group of a lane is that of the mode and of what the spare carries. -/
theorem groupOfLane_congr (hspare : (t.port n).spareRx = (s.port n).spareRx)
    (hmode : t.rd (ZL_CTRL_PORT_MODE n) = s.rd (ZL_CTRL_PORT_MODE n)) (l : Nat) :
    t.groupOfLane n l = s.groupOfLane n l := by
  simp only [State.groupOfLane, hspare, hmode]

theorem activeLanes_congr (hspare : (t.port n).spareRx = (s.port n).spareRx)
    (hmode : t.rd (ZL_CTRL_PORT_MODE n) = s.rd (ZL_CTRL_PORT_MODE n)) (g : Nat) :
    t.activeLanes n g = s.activeLanes n g := by
  have hlane : t.rxLane n g = s.rxLane n g := funext fun lg => by
    simp only [State.rxLane, State.homeLane, hspare, hmode]
  simp only [State.activeLanes, State.logicals, hlane, hmode]

/-! ### Fields of a port -/

/-- A field of a port's own registers, and one of its lanes that lies above it. -/
theorem Fld.apart_port_lane {base n lsb w base' l lsb' w' : Nat}
    (h : base * 8 + lsb + w ≤ base' * 8 + lsb' := by decide) :
    Fld.apart ⟨base + 0x10000 * n, lsb, w⟩ ⟨base' + 0x10000 * n + 0x40 * l, lsb', w'⟩ := by
  unfold Fld.apart
  dsimp only
  omega

/-- Two fields of one lane. -/
theorem Fld.apart_lane {base n l lsb w base' lsb' w' : Nat}
    (h : base * 8 + lsb + w ≤ base' * 8 + lsb' ∨ base' * 8 + lsb' + w' ≤ base * 8 + lsb := by decide) :
    Fld.apart ⟨base + 0x10000 * n + 0x40 * l, lsb, w⟩ ⟨base' + 0x10000 * n + 0x40 * l, lsb', w'⟩ := by
  unfold Fld.apart
  dsimp only
  omega

theorem on_of_rd {f : Fld} (h : t.rd f = s.rd f) : t.on f = s.on f := congrArg (· != 0) h

theorem on_false_of_rd {f : Fld} (h : s.rd f = 0) : s.on f = false := by simp [State.on, h]

theorem b2n_mod_two (b : Bool) : b2n b % 2 = b2n b := by cases b <;> rfl

/-- A flag reads back. -/
theorem rd_wr_flag (s : State) (off lsb : Nat) (b : Bool) (h : lsb < 32 := by decide) :
    (s.wr ⟨off, lsb, 1⟩ (b2n b)).rd ⟨off, lsb, 1⟩ = b2n b :=
  (rd_wr_same s ⟨off, lsb, 1⟩ (b2n b) (show lsb + 1 ≤ 64 by omega)).trans (b2n_mod_two b)

/-- What is held beside the registers does not show in a field. -/
theorem State.keeps_zl {zl : Sparse Zl} (h : s.keeps t fs) : s.keeps { t with zl := zl } fs :=
  fun g hg => (rd_congr rfl g).trans (h g hg)

/-! ### The part of a state that a port reaches -/

/-- `t` differs from `s` at most in its registers and links. -/
def State.InPort (s t : State) : Prop := t = { s with regs := t.regs, zl := t.zl }

namespace State.InPort

theorem refl (s : State) : s.InPort s := rfl

theorem trans (h : s.InPort t) (h' : t.InPort u) : s.InPort u := by
  unfold State.InPort at h h' ⊢
  rw [h', h]

theorem update {zl} (h : s.InPort t) : s.InPort { t with zl := zl } := h.trans rfl

theorem wr (h : s.InPort t) {f v} : s.InPort (t.wr f v) := h.trans (by unfold State.InPort; rw [wr_frame])

theorem foldl {α : Type} {l : List α} {f : State → α → State} (h : s.InPort t)
    (hf : ∀ t a, s.InPort t → s.InPort (f t a)) : s.InPort (l.foldl f t) :=
  List.foldlRecOn l f h fun t ht a _ => hf t a ht

theorem ev (h : s.InPort t) : t.ev = s.ev := by
  unfold State.InPort at h
  exact (congrArg State.ev h).trans rfl

end State.InPort

/-- `t` differs from `s` at most in its registers, links, events and recorder. -/
def State.InLink (s t : State) : Prop := t = { s with regs := t.regs, zl := t.zl, ev := t.ev, top := t.top }

namespace State.InLink

theorem refl (s : State) : s.InLink s := rfl

theorem trans (h : s.InLink t) (h' : t.InLink u) : s.InLink u := by
  unfold State.InLink at h h' ⊢
  rw [h', h]

theorem port (h : s.InLink t) (h' : t.InPort u) : s.InLink u :=
  h.trans (by unfold State.InLink; rw [show u = _ from h'])

theorem fault (h : s.InLink t) {source code slots} : s.InLink (t.fault source code slots) :=
  h.trans (by
    unfold State.InLink
    rw [(State.InWeb.refl t).fault.frame_recorded (fault_freeCount ..) (fault_ev ..)]
    simp)

theorem occur (h : s.InLink t) {producer hop} : s.InLink (t.occur producer hop) :=
  h.trans (by unfold State.InLink State.occur; split <;> rfl)

theorem frame_ev (h : s.InLink t) (he : t.ev = s.ev) : t = { s with regs := t.regs, zl := t.zl, top := t.top } := by
  conv_lhs => rw [h, he]

end State.InLink

/-! ### Link requests (R69, R95) -/

/-- The REQ_ID of a request of a kind is noted as the last one acted on. -/
def State.noteReq (s : State) (n kind id : Nat) : State :=
  s.setPort n { s.port n with lastReq := spSet (fun _ => none) (s.port n).lastReq kind (some id) }

/-- What a request of a kind does. -/
def State.actOn (s : State) (n g kind lane seq : Nat) : State :=
  if kind = reqAck then s.ackUpTo n seq
  else if kind = reqNak then s.resendFrom n seq
  else if kind = reqSpare then s.startSwap n g lane true false false
  else if kind = reqRelease then s.startSwap n g lane true true false
  else s.request n 0xF1 lane 350

/-- A request with a new REQ_ID is noted and acted on. -/
theorem linkReq_new {kind lane seq id : Nat} (hk : 0 < kind ∧ kind < 6)
    (h : spGet (fun _ => none) (s.port n).lastReq kind ≠ some id) :
    s.linkReq n g kind lane seq id = (s.noteReq n kind id).actOn n g kind lane seq := by
  unfold State.linkReq
  rw [if_neg (by omega), if_neg (by omega), if_neg h]
  rfl

/-- A request with the REQ_ID last acted on changes nothing. -/
theorem linkReq_again {kind lane seq id : Nat} (hk : kind < 6)
    (h : spGet (fun _ => none) (s.port n).lastReq kind = some id) : s.linkReq n g kind lane seq id = s := by
  unfold State.linkReq
  rw [if_neg (by omega : ¬ 6 ≤ kind), if_pos h, ite_self]

/-- A GAP request does not use its SEQ. -/
theorem linkReq_gap_seq (s : State) (n g lane seq id : Nat) :
    s.linkReq n g reqGap lane seq id = s.linkReq n g reqGap lane 0 id := by
  by_cases h : spGet (fun _ => none) (s.port n).lastReq reqGap = some id
  · rw [linkReq_again (by decide) h, linkReq_again (by decide) h]
  · rw [linkReq_new (by decide) h, linkReq_new (by decide) h]
    simp [State.actOn, reqAck, reqNak, reqSpare, reqRelease, reqGap]

theorem port_noteReq (s : State) (n kind id : Nat) : (s.noteReq n kind id).port n =
    { s.port n with lastReq := spSet (fun _ => none) (s.port n).lastReq kind (some id) } :=
  port_setPort_same ..

theorem lastReq_noteReq (s : State) (n kind id : Nat) :
    spGet (fun _ => none) ((s.noteReq n kind id).port n).lastReq kind = some id := by
  simp [port_noteReq]

/-- An ACK that covers a packet, while none waits. -/
theorem ackUpTo_covers {seq : Nat} (hw : (s.port n).waiting = [])
    (hcov : ∃ e ∈ (s.port n).replay, seqAhead e.pkt.seq seq < 32768) :
    s.ackUpTo n seq = (s.setPort n { s.port n with
      replay := (s.port n).replay.filter (fun e => decide (32768 ≤ seqAhead e.pkt.seq seq)), ackAt := s.now }).wr
        (ZL_REPLAY_STATUS_ACKED_SEQ n) seq := by
  obtain ⟨e, he, hlt⟩ := hcov
  have hlen : ((s.port n).replay.filter (fun e => decide (32768 ≤ seqAhead e.pkt.seq seq))).length ≠
      (s.port n).replay.length := fun h => by
    have := List.length_filter_eq_length_iff.1 h e he
    simp at this
    omega
  unfold State.ackUpTo
  rw [if_neg hlen, List.length_eq_zero_iff.2 hw]
  rfl

/-- A swap to the spare in the transmit direction begins, while the spare carries nothing. -/
theorem startSwap_toSpare {lg : Nat} {planned : Bool} (hswap : (s.port n).swapTx = none)
    (hspare : (s.port n).spareTx = none) (hserves : s.spareServes n g = true) (hlg : lg < s.logicals n) :
    s.startSwap n g lg true false planned =
      s.setPort n { s.port n with swapTx := some ⟨g, lg, spareLane n, planned, s.now⟩ } := by
  simp [State.startSwap, hswap, hspare, hserves, hlg]

/-- A swap back to the lane's own place in the transmit direction begins, while the spare carries the lane. -/
theorem startSwap_home {lg l : Nat} {planned : Bool} (hswap : (s.port n).swapTx = none)
    (hspare : (s.port n).spareTx = some (g, lg, l)) (hlg : lg < s.logicals n) :
    s.startSwap n g lg true true planned =
      s.setPort n { s.port n with swapTx := some ⟨g, lg, s.homeLane n g lg, planned, s.now⟩ } := by
  simp [State.startSwap, hswap, hspare, hlg]

/-! #### Packets sent again (R95) -/

/-- Does a resend from SEQ `last` take an entry of the replay buffer? -/
def again (last : Nat) (e : ReplayEntry) : Bool := decide (seqAhead last e.pkt.seq < 32768) && e.pkt.seq != last

/-- The entry after a resend from SEQ `last`. -/
def resent (last : Nat) (e : ReplayEntry) : ReplayEntry :=
  if again last e then { e with sends := e.sends + 1, pkt := { e.pkt with retx := true } } else e

/-- A packet of the buffer leaves once more and is counted. -/
def State.sendAgain (s : State) (n : Nat) (e : ReplayEntry) : State :=
  (s.bump (ZL_CNT_REPLAY n)).emitPacket n 0 e.pkt

theorem resendFrom_sends {last : Nat} (h : ∀ e ∈ (s.port n).replay, e.sends < 4) :
    s.resendFrom n last = (((s.port n).replay.map (resent last)).filter (again last)).foldl (·.sendAgain n)
      (s.setPort n { s.port n with replay := (s.port n).replay.map (resent last) }) := by
  have hnone : (s.port n).replay.find? (fun e => again last e && decide (4 ≤ e.sends)) = none :=
    List.find?_eq_none.2 fun e he => by simp [h e he]
  unfold State.resendFrom
  dsimp only
  split
  · next e he => exact absurd (he.symm.trans hnone) (by simp)
  · rfl

/-- What sending packets again changes. -/
structure State.Resends (s : State) (n : Nat) (t : State) : Prop where
  zl : t.zl = s.zl
  keeps : s.keeps t [ZL_CNT_REPLAY n, ZL_CNT_PKT_TX n]
  frame : t = { s with regs := t.regs, out := t.out }

theorem rd_sendAgain (s : State) (n : Nat) (e : ReplayEntry) (f : Fld) :
    (s.sendAgain n e).rd f = ((s.bump (ZL_CNT_REPLAY n)).bump (ZL_CNT_PKT_TX n)).rd f := by
  unfold State.sendAgain State.emitPacket
  exact rd_with_out ..

theorem sendAgain_frame (s : State) (n : Nat) (e : ReplayEntry) :
    s.sendAgain n e = { s with regs := (s.sendAgain n e).regs, out := (s.sendAgain n e).out } := by
  unfold State.sendAgain State.emitPacket State.bump
  dsimp only
  rw [wr_wr_frame]

theorem State.Resends.sendAgain (h : s.Resends n t) (e : ReplayEntry) : s.Resends n (t.sendAgain n e) where
  zl := by simpa [State.sendAgain, State.emitPacket] using h.zl
  keeps := by
    have hcount : s.keeps (t.bump (ZL_CNT_REPLAY n)) [ZL_CNT_REPLAY n, ZL_CNT_PKT_TX n] :=
      State.keeps_wr h.keeps _ _ (by simp)
    have hsent : s.keeps ((t.bump (ZL_CNT_REPLAY n)).bump (ZL_CNT_PKT_TX n)) [ZL_CNT_REPLAY n, ZL_CNT_PKT_TX n] :=
      State.keeps_wr hcount _ _ (by simp)
    exact fun g hg => (rd_sendAgain t n e g).trans (hsent g hg)
  frame := by
    have hsent := sendAgain_frame t n e
    generalize t.sendAgain n e = u at hsent ⊢
    conv_lhs => rw [hsent, h.frame]

theorem resends_foldl (s : State) (n : Nat) (es : List ReplayEntry) : s.Resends n (es.foldl (·.sendAgain n) s) :=
  List.foldlRecOn es _ ⟨rfl, State.keeps_refl s _, rfl⟩ fun _ ht e _ => ht.sendAgain e

/-- A FILL block of a row of one is a request (R69). -/
theorem fillRowRx_single {n : Fin 15} {g : Fin 2} {slot : Fin 16384} {b : BitVec 64}
    (hen : s.on (ZL_CTRL_EN n) = true) (hb : b.toNat % 256 = 0xF0) :
    exec (.fillRowRx n g slot [b]) s = .next (s.linkReq n g (bitsAt b.toNat 8 4) (bitsAt b.toNat 12 4)
      (bitsAt b.toNat 16 16) (bitsAt b.toNat 32 8)) := by
  rw [exec_fillRowRx]
  unfold execFillRowRx
  simp [hen, hb]

theorem fillRowRx_missing {n : Fin 15} {g : Fin 2} {slot : Fin 16384} {b : BitVec 64}
    (hen : s.on (ZL_CTRL_EN n) = true) (hb : b.toNat % 256 ≠ 0xF0) (hslot : slot.val % 1024 = 1023) :
    exec (.fillRowRx n g slot [b]) s = .next ((s.set1 (ZL_STATUS_FILL_MISSING n)).fault (srcZl n) 0x1006
      (slot1 n ++ slot1 g ++ slot1 slot)) := by
  rw [exec_fillRowRx]
  unfold execFillRowRx
  simp [hen, hb, hslot]

/-- Settles O15: a request with a new REQ_ID is noted, and then does what the lemma of its kind says. -/
theorem linkRequestsAreActedOnOnce : Obligations.LinkRequestsAreActedOnOnce := by
  refine ⟨?_, ?_, ?_, ?_, ?_, ?_, ?_, ?_, ?_⟩
  · intro s n seq id hnew hw hcov
    have hport := port_noteReq s n reqAck id.toNat
    have hack := ackUpTo_covers (s := s.noteReq n reqAck id.toNat) (n := n) (seq := seq.toNat)
      (by rw [hport]; exact hw) (by rw [hport]; exact hcov)
    rw [hport] at hack
    refine ⟨_, congrArg Host.Outcome.next ((linkReq_new (by decide) hnew).trans hack), ?_, ?_, ?_, ?_, ?_⟩
    · rw [port_of_zl (wr_zl ..), port_setPort_same]
    · rw [port_of_zl (wr_zl ..), port_setPort_same]
      rfl
    · exact (rd_wr_same _ (ZL_REPLAY_STATUS_ACKED_SEQ n) _ (by simp [ZL_REPLAY_STATUS_ACKED_SEQ])).trans
        (Nat.mod_eq_of_lt seq.isLt)
    · exact State.keeps_wr (State.keeps_of_regs rfl _) _ _ (by simp)
    · exact (State.InPort.refl s).update.update.wr
  · intro s n seq id hnew hsends
    have hport := port_noteReq s n reqNak id.toNat
    have hsend := resendFrom_sends (s := s.noteReq n reqNak id.toNat) (n := n) (last := seq.toNat)
      (by rw [hport]; exact hsends)
    rw [hport] at hsend
    have ht := resends_foldl ((s.noteReq n reqNak id.toNat).setPort n { (s.noteReq n reqNak id.toNat).port n with
      replay := (s.port n).replay.map (resent seq.toNat) }) n
        (((s.port n).replay.map (resent seq.toNat)).filter (again seq.toNat))
    rw [hport] at ht
    refine ⟨_, congrArg Host.Outcome.next ((linkReq_new (by decide) hnew).trans hsend), ?_, ?_, ?_⟩
    · rw [port_of_zl ht.zl, port_setPort_same]
      simp [resent, again]
    · exact fun g hg => (ht.keeps g hg).trans (rd_congr rfl g)
    · conv_lhs => rw [ht.frame]
      rw [ht.zl]
      rfl
  · intro s n g lane id hnew hswap hspare hserves hlane
    have hport := port_noteReq s n reqSpare id.toNat
    have hstart := startSwap_toSpare (s := s.noteReq n reqSpare id.toNat) (n := n) (g := g) (lg := lane)
      (planned := false) (by rw [hport]; exact hswap) (by rw [hport]; exact hspare) hserves hlane
    refine ⟨_, congrArg Host.Outcome.next ((linkReq_new (by decide) hnew).trans hstart), ?_, rfl⟩
    rw [port_setPort_same]
    rfl
  · intro s n g lane id l hnew hswap hspare hlane
    have hport := port_noteReq s n reqRelease id.toNat
    have hstart := startSwap_home (s := s.noteReq n reqRelease id.toNat) (n := n) (g := g) (lg := lane) (l := l)
      (planned := false) (by rw [hport]; exact hswap) (by rw [hport]; exact hspare) hlane
    refine ⟨_, congrArg Host.Outcome.next ((linkReq_new (by decide) hnew).trans hstart), ?_, rfl⟩
    rw [port_setPort_same]
    rfl
  · intro s n g lane id hnew
    refine ⟨_, congrArg Host.Outcome.next (linkReq_new (by decide) hnew), rfl, ?_, rfl⟩
    have hzl : ((s.noteReq n reqGap id.toNat).actOn n g reqGap lane 0).zl = (s.noteReq n reqGap id.toNat).zl := rfl
    rw [port_of_zl hzl]
    exact lastReq_noteReq ..
  · intro s n g lane seq id hlast
    exact ⟨congrArg Host.Outcome.next (linkReq_again (by decide) (hlast reqAck (by decide))),
      congrArg Host.Outcome.next (linkReq_again (by decide) (hlast reqNak (by decide))),
      congrArg Host.Outcome.next (linkReq_again (by decide) (hlast reqSpare (by decide))),
      congrArg Host.Outcome.next (linkReq_again (by decide) (hlast reqRelease (by decide))),
      congrArg Host.Outcome.next (linkReq_again (by decide) (hlast reqGap (by decide)))⟩
  · intro s n req
    refine congrArg Host.Outcome.next ?_
    unfold State.linkReq
    rw [if_neg (by omega), if_pos (by omega)]
  · intro s n g slot b hen hb hkind hlane
    have hid : (BitVec.ofNat 8 (bitsAt b.toNat 32 8)).toNat = bitsAt b.toNat 32 8 :=
      Nat.mod_eq_of_lt (Nat.mod_lt _ (by decide))
    have hgap : ∀ (lane : Fin 4) (id : BitVec 8), exec (.linkReqGap n g lane id) s =
        .next (s.linkReq n g reqGap lane 0 id.toNat) := fun _ _ => rfl
    rw [fillRowRx_single hen hb, hgap, hkind, hid]
    dsimp only
    rw [Nat.mod_eq_of_lt hlane]
    exact congrArg Host.Outcome.next (linkReq_gap_seq ..)
  · intro s n g slot b hen hb hslot
    exact fillRowRx_missing hen hb hslot

end Sys2Proof.Machine
end

section
namespace Sys2Proof.Machine
open Sys2Proof

variable {s t u : State} {fs : List Fld} {n l g : Nat}

/-! ### Lane markers (R65, R70, R71, R86) -/

/-- What a lane's marker leaves alone: all but registers and links, the fields that are not listed, and what the spare
carries. -/
structure State.OnLane (s : State) (n : Nat) (fs : List Fld) (t : State) : Prop where
  frame : s.InPort t
  keeps : s.keeps t fs
  spareRx : (t.port n).spareRx = (s.port n).spareRx

namespace State.OnLane

theorem refl (s : State) (n : Nat) (fs : List Fld) : s.OnLane n fs s := ⟨.refl s, State.keeps_refl s fs, rfl⟩

theorem trans {gs : List Fld} (h : s.OnLane n fs t) (h' : t.OnLane n gs u) : s.OnLane n (fs ++ gs) u :=
  ⟨h.frame.trans h'.frame, State.keeps_trans h.keeps h'.keeps, h'.spareRx.trans h.spareRx⟩

theorem wr (h : s.OnLane n fs t) {f v} (hf : f ∈ fs) : s.OnLane n fs (t.wr f v) :=
  ⟨h.frame.wr, State.keeps_wr h.keeps f v hf, (congrArg Zl.spareRx (port_of_zl (wr_zl t f v) n)).trans h.spareRx⟩

theorem setLane (h : s.OnLane n fs t) {l x} : s.OnLane n fs (t.setLane n l x) :=
  ⟨h.frame.update, State.keeps_zl h.keeps, (spareRx_setLane t n l x).trans h.spareRx⟩

theorem setGrp (h : s.OnLane n fs t) {g x} : s.OnLane n fs (t.setGrp n g x) :=
  ⟨h.frame.update, State.keeps_zl h.keeps, (spareRx_setGrp t n g x).trans h.spareRx⟩

end State.OnLane

/-- The fields that a marker period without violations writes. -/
def periodFlds (n l : Nat) : List Fld := [ZL_CNT_STUFF n, ZL_LANE_EYE_EYE_H n l, ZL_LANE_EYE_EYE_V n l]

/-- The fields that a valid marker writes. -/
def statusFlds (n l : Nat) : List Fld :=
  [ZL_LANE_STATUS_LOCK n l, ZL_LANE_STATUS_ALIGNED n l, ZL_LANE_STATUS_LOGICAL n l, ZL_LANE_STATUS_FAR_RX_READY n l,
    ZL_LANE_STATUS_SKEW n l, ZL_STATUS_SPARE_READY n]

/-- A field that ends with the up flags of port n or below them, as those of ZLn_CTRL do. -/
abbrev Fld.lowIn (f : Fld) (n : Nat) : Prop := f.off * 8 + f.lsb + f.w ≤ (0x100004 + 0x10000 * n) * 8 + 2

/-- Such a field lies below all that a marker writes. -/
theorem markerFlds_apart {f : Fld} (h : f.lowIn n) : ∀ g ∈ periodFlds n l ++ statusFlds n l, g.apart f := by
  intro g hg
  simp only [periodFlds, statusFlds, List.cons_append, List.nil_append, List.mem_cons, List.not_mem_nil, or_false] at hg
  refine .inr (h.trans ?_)
  obtain rfl | rfl | rfl | rfl | rfl | rfl | rfl | rfl | rfl := hg
  all_goals
    simp only [ZL_CNT_STUFF, ZL_LANE_EYE_EYE_H, ZL_LANE_EYE_EYE_V, ZL_LANE_STATUS_LOCK, ZL_LANE_STATUS_ALIGNED,
      ZL_LANE_STATUS_LOGICAL, ZL_LANE_STATUS_FAR_RX_READY, ZL_LANE_STATUS_SKEW, ZL_STATUS_SPARE_READY]
    omega

theorem upF_eq (n g : Nat) : upF n g = ⟨0x100004 + 0x10000 * n, if g = 0 then 0 else 1, 1⟩ := by
  unfold upF
  split <;> rfl

theorem upF_low (n g : Nat) : (upF n g).lowIn n := by
  rw [upF_eq]
  dsimp only [Fld.lowIn]
  split <;> omega

theorem upF_above (n g : Nat) : 0x28 ≤ (upF n g).off := by
  rw [upF_eq]
  dsimp only
  omega

theorem portMode_low (n : Nat) : (ZL_CTRL_PORT_MODE n).lowIn n := by
  simp only [ZL_CTRL_PORT_MODE, Fld.lowIn]
  omega

/-- The maps lie below what a marker period writes. -/
theorem periodFlds_apart_rxMap (hl : l < 5) : ∀ g ∈ periodFlds n l, g.apart (rxMapF n l) := by
  intro g hg
  simp only [periodFlds, List.mem_cons, List.not_mem_nil, or_false] at hg
  refine .inr ?_
  obtain rfl | rfl | rfl := hg
  all_goals
    simp only [rxMapF, ZL_RX_MAP, ZL_CNT_STUFF, ZL_LANE_EYE_EYE_H, ZL_LANE_EYE_EYE_V]
    omega

/-- A marker period without violations and with no tap at its rail. -/
theorem periodChecks_clean (s : State) (n l stuffed eyeH eyeV : Nat) :
    s.OnLane n (periodFlds n l) (s.periodChecks n l stuffed 0 none eyeH eyeV) ∧
      (s.periodChecks n l stuffed 0 none eyeH eyeV).rd (ZL_LANE_EYE_EYE_H n l) = eyeH % 2 ^ 8 ∧
      ((s.periodChecks n l stuffed 0 none eyeH eyeV).lane n l).found = (s.lane n l).found := by
  unfold State.periodChecks
  extract_lets u₁ u₂ u₃ v x low
  have hv : s.OnLane n (periodFlds n l) v :=
    (((State.OnLane.refl s n _).wr (f := ZL_CNT_STUFF n) (by simp [periodFlds])).wr (by simp [periodFlds])).wr
      (by simp [periodFlds])
  refine ⟨hv.setLane, ?_, ?_⟩
  · have heye : v.rd (ZL_LANE_EYE_EYE_H n l) = eyeH % 2 ^ 8 :=
      (rd_wr_apart _ _ _ _ Fld.apart_lane).trans (rd_wr_same u₃ (ZL_LANE_EYE_EYE_H n l) _ (by simp [ZL_LANE_EYE_EYE_H]))
    exact heye
  · rw [lane_setLane_same]
    have hzl : v.zl = s.zl := by simp [v, u₃, u₂, u₁]
    change x.found = _
    rw [show x = s.lane n l from lane_of_zl hzl n l]

/-- What lane l's status shows after a marker. -/
structure State.Shows (t : State) (n l : Nat) (on : Bool) (logical far : Nat) : Prop where
  lock : t.rd (ZL_LANE_STATUS_LOCK n l) = b2n on
  aligned : t.rd (ZL_LANE_STATUS_ALIGNED n l) = b2n on
  logical : t.rd (ZL_LANE_STATUS_LOGICAL n l) = logical
  far : t.rd (ZL_LANE_STATUS_FAR_RX_READY n l) = far

namespace State.Shows

variable {on : Bool} {logical far : Nat}

theorem wr (h : t.Shows n l on logical far) {f v} (hlock : f.apart (ZL_LANE_STATUS_LOCK n l))
    (haligned : f.apart (ZL_LANE_STATUS_ALIGNED n l)) (hlogical : f.apart (ZL_LANE_STATUS_LOGICAL n l))
    (hfar : f.apart (ZL_LANE_STATUS_FAR_RX_READY n l)) : (t.wr f v).Shows n l on logical far where
  lock := (rd_wr_apart t f _ v hlock).trans h.lock
  aligned := (rd_wr_apart t f _ v haligned).trans h.aligned
  logical := (rd_wr_apart t f _ v hlogical).trans h.logical
  far := (rd_wr_apart t f _ v hfar).trans h.far

theorem update (h : t.Shows n l on logical far) {zl} : ({ t with zl := zl } : State).Shows n l on logical far :=
  ⟨(rd_congr rfl _).trans h.lock, (rd_congr rfl _).trans h.aligned, (rd_congr rfl _).trans h.logical,
    (rd_congr rfl _).trans h.far⟩

/-- The four fields are written one after the other. -/
theorem written (s : State) (n l w : Nat) (on : Bool) :
    ((((s.wr (ZL_LANE_STATUS_LOCK n l) (b2n on)).wr (ZL_LANE_STATUS_ALIGNED n l) (b2n on)).wr
      (ZL_LANE_STATUS_LOGICAL n l) (bitsAt w 32 4)).wr (ZL_LANE_STATUS_FAR_RX_READY n l) (bitsAt w 39 1)).Shows n l on
        (bitsAt w 32 4) (bitsAt w 39 1) where
  lock := (rd_wr_apart _ _ _ _ Fld.apart_lane).trans ((rd_wr_apart _ _ _ _ Fld.apart_lane).trans
    ((rd_wr_apart _ _ _ _ Fld.apart_lane).trans (rd_wr_flag s _ _ on)))
  aligned := (rd_wr_apart _ _ _ _ Fld.apart_lane).trans ((rd_wr_apart _ _ _ _ Fld.apart_lane).trans
    (rd_wr_flag _ _ _ on))
  logical := (rd_wr_apart _ _ _ _ Fld.apart_lane).trans ((rd_wr_same _ (ZL_LANE_STATUS_LOGICAL n l) _
    (by simp [ZL_LANE_STATUS_LOGICAL])).trans (Nat.mod_mod ..))
  far := (rd_wr_same _ (ZL_LANE_STATUS_FAR_RX_READY n l) _ (by simp [ZL_LANE_STATUS_FAR_RX_READY])).trans
    (Nat.mod_mod ..)

end State.Shows

/-- What a valid marker with its skew in range leaves: `on` says whether the lane is locked after it. -/
structure State.Recognised (s : State) (n l w : Nat) (on : Bool) (t : State) : Prop where
  shows : t.Shows n l on (bitsAt w 32 4) (bitsAt w 39 1)
  bad : (t.lane n l).bad = 0
  found : (t.lane n l).found = true
  onLane : s.OnLane n (statusFlds n l) t

theorem markerGood_inRange {w blocks : Nat} {skew : Int} (hskew : skew.natAbs ≤ 16) :
    s.Recognised n l w (s.on (ZL_LANE_STATUS_LOCK n l) || ((s.lane n l).found && blocks == 16384))
      (s.markerGood n l w blocks skew) := by
  unfold State.markerGood
  extract_lets x lock inRange u₁ u₂ u₃ u₄ u₅ u₆ y u₇
  have hin : inRange = true := decide_eq_true hskew
  have h₄ : u₄.Shows n l lock (bitsAt w 32 4) (bitsAt w 39 1) := by
    dsimp only [u₄, u₃, u₂, u₁]
    rw [hin, Bool.and_true]
    exact State.Shows.written s n l w lock
  have hsame : u₆ = u₅ := if_neg (by simp [hin])
  have h₅ : u₅.Shows n l lock (bitsAt w 32 4) (bitsAt w 39 1) :=
    h₄.wr Fld.apart_lane Fld.apart_lane Fld.apart_lane Fld.apart_lane
  have hlane : u₇.lane n l = { y with bad := 0, found := true, skewSeen := !inRange } := lane_setLane_same ..
  have honLane : s.OnLane n (statusFlds n l) u₅ :=
    (((((State.OnLane.refl s n _).wr (by simp [statusFlds])).wr (by simp [statusFlds])).wr (by simp [statusFlds])).wr
      (by simp [statusFlds])).wr (by simp [statusFlds])
  rw [← hsame] at h₅ honLane
  have h₇ : s.Recognised n l w lock u₇ := ⟨h₅.update, by rw [hlane], by rw [hlane], honLane.setLane⟩
  split
  · have hready : (u₇.wr (ZL_STATUS_SPARE_READY n) (b2n lock)).lane n l = u₇.lane n l := lane_of_zl (wr_zl ..) n l
    exact ⟨h₇.shows.wr Fld.apart_port_lane Fld.apart_port_lane Fld.apart_port_lane Fld.apart_port_lane,
      by rw [hready, h₇.bad], by rw [hready, h₇.found], h₇.onLane.wr (by simp [statusFlds])⟩
  · exact h₇

theorem State.Recognised.periodStart {w : Nat} {on : Bool} (h : s.Recognised n l w on t) (g w' : Nat) :
    s.Recognised n l w on (t.periodStart n g w') :=
  ⟨h.shows.update, (congrArg ZlLane.bad (lane_setGrp ..)).trans h.bad,
    (congrArg ZlLane.found (lane_setGrp ..)).trans h.found, h.onLane.setGrp⟩

/-- A group that is not up stays so while the far receiver of one of its lanes is not ready. -/
theorem evalGroup_waits (hup : s.groupUp n g = false) (hl : l ∈ s.activeLanes n g)
    (hfar : s.rd (ZL_LANE_STATUS_FAR_RX_READY n l) = 0) : s.evalGroup n g = s := by
  have hready : s.lanesReady n g = false := by
    refine List.all_eq_false.2 ⟨l, hl, ?_⟩
    simp [on_false_of_rd hfar]
  simp [State.evalGroup, hup, hready]

/-- A valid marker of the lane's own logical number. -/
theorem laneMarkerRx_valid {n : Fin 15} {l : Fin 5} {w : BitVec 64} {blocks : Nat} {skew : Int} {stuffed : Nat}
    {eyeH eyeV : BitVec 8} (hen : s.on (ZL_CTRL_EN n) = true) (hok : markerOk w.toNat = true)
    (hu : u = s.periodChecks n l stuffed 0 none eyeH.toNat eyeV.toNat)
    (hmap : bitsAt w.toNat 32 4 = u.rd (rxMapF n l)) (ht : t = u.markerGood n l w.toNat blocks skew) :
    exec (.laneMarkerRx n l w blocks skew stuffed 0 none eyeH eyeV) s = .next
      ((if bitsAt w.toNat 32 4 = 0 then t.periodStart n (u.groupOfLane n l) w.toNat else t).evalGroup n
        (u.groupOfLane n l)) := by
  subst ht hu
  rw [exec_laneMarkerRx]
  unfold execLaneMarkerRx
  simp [hen, hok, hmap]

/-! ### Missing markers (R70) -/

theorem markerMissing_bad {n : Fin 15} {l : Fin 5} (hen : s.on (ZL_CTRL_EN n) = true) (hgap : s.inGap n l = false) :
    exec (.markerMissing n l) s = .next (s.markerBad n l) := by
  rw [exec_markerMissing]
  unfold execMarkerMissing
  simp [hen, hgap]

/-- One marker is missing. -/
theorem markerBad_counts (h : s.on (ZL_LANE_STATUS_LOCK n l) = false ∨ (s.lane n l).bad = 0) :
    s.markerBad n l = s.setLane n l { s.lane n l with bad := (s.lane n l).bad + 1 } := by
  have hlock : ∀ x, (s.setLane n l x).on (ZL_LANE_STATUS_LOCK n l) = s.on (ZL_LANE_STATUS_LOCK n l) := fun _ => rfl
  unfold State.markerBad
  dsimp only
  rw [hlock, if_neg]
  obtain h | h := h
  all_goals simp [h]

/-- Two in a row lose the lock. -/
theorem markerBad_loses (hlock : s.on (ZL_LANE_STATUS_LOCK n l) = true) (hbad : 0 < (s.lane n l).bad) :
    s.markerBad n l = (s.setLane n l { s.lane n l with bad := (s.lane n l).bad + 1 }).laneLost n l := by
  have hlock' : ∀ x, (s.setLane n l x).on (ZL_LANE_STATUS_LOCK n l) = s.on (ZL_LANE_STATUS_LOCK n l) := fun _ => rfl
  unfold State.markerBad
  dsimp only
  rw [hlock', if_pos]
  simp only [hlock, Bool.true_and, decide_eq_true_eq]
  omega

/-- Lane l loses its lock and its alignment, and looks for a marker anew. -/
def State.unlockLane (s : State) (n l : Nat) : State :=
  let u := (s.wr (ZL_LANE_STATUS_LOCK n l) 0).wr (ZL_LANE_STATUS_ALIGNED n l) 0
  u.setLane n l { u.lane n l with bad := 0, found := false }

theorem rd_setLane (s : State) (n l : Nat) (x : ZlLane) (f : Fld) : (s.setLane n l x).rd f = s.rd f := by
  unfold State.setLane State.setPort
  exact rd_with_zl ..

theorem rd_unlockLane_wr (s : State) (n l : Nat) (f : Fld) : (s.unlockLane n l).rd f =
    ((s.wr (ZL_LANE_STATUS_LOCK n l) 0).wr (ZL_LANE_STATUS_ALIGNED n l) 0).rd f := by
  unfold State.unlockLane
  exact rd_setLane ..

theorem rd_unlockLane_lock (s : State) (n l l' : Nat) : (s.unlockLane n l).rd (ZL_LANE_STATUS_LOCK n l') =
    if l' = l then 0 else s.rd (ZL_LANE_STATUS_LOCK n l') := by
  have haligned : Fld.apart (ZL_LANE_STATUS_ALIGNED n l) (ZL_LANE_STATUS_LOCK n l') := by
    simp only [Fld.apart, ZL_LANE_STATUS_LOCK, ZL_LANE_STATUS_ALIGNED]
    omega
  rw [rd_unlockLane_wr, rd_wr_apart _ _ _ _ haligned]
  split
  · next h =>
    subst h
    exact rd_wr_flag s _ _ false
  · refine rd_wr_apart s _ _ _ ?_
    simp only [Fld.apart, ZL_LANE_STATUS_LOCK]
    omega

theorem rd_unlockLane_aligned (s : State) (n l : Nat) : (s.unlockLane n l).rd (ZL_LANE_STATUS_ALIGNED n l) = 0 :=
  (rd_unlockLane_wr ..).trans (rd_wr_flag _ _ _ false)

theorem unlockLane_zl (s : State) (n l : Nat) :
    (s.unlockLane n l).zl = (s.setLane n l { s.lane n l with bad := 0, found := false }).zl := by
  have hzl : ((s.wr (ZL_LANE_STATUS_LOCK n l) 0).wr (ZL_LANE_STATUS_ALIGNED n l) 0).zl = s.zl := by simp
  unfold State.unlockLane State.setLane State.setPort
  dsimp only
  rw [lane_of_zl hzl, port_of_zl hzl, hzl]

/-- The recorder's fields lie below every field of a port. -/
theorem faultFlds_apart {f : Fld} (h : 0x28 ≤ f.off) : ∀ g ∈ faultFlds, g.apart f :=
  faultFlds_apart_array (base := f.off) (stride := 0) (i := 0) h

/-- The fields that a loss of lock may write while the lane's group is not up. -/
def lostFlds (n l : Nat) : List Fld :=
  [ZL_LANE_STATUS_LOCK n l, ZL_LANE_STATUS_ALIGNED n l, ZL_STATUS_SPARE_READY n] ++ faultFlds

theorem lostFlds_apart {f : Fld} (h : 0x28 ≤ f.off) (hlow : f.lowIn n) : ∀ g ∈ lostFlds n l, g.apart f := by
  intro g hg
  obtain hg | hg := List.mem_append.1 hg
  · refine markerFlds_apart (n := n) (l := l) hlow g (List.mem_append_right _ ?_)
    simp only [List.mem_cons, List.not_mem_nil, or_false] at hg
    obtain rfl | rfl | rfl := hg
    all_goals simp [statusFlds]
  · exact faultFlds_apart h g hg

/-- What `t` has of lane l's loss of lock in state s. -/
structure State.LostLock (s : State) (n l : Nat) (t : State) : Prop where
  lock : t.rd (ZL_LANE_STATUS_LOCK n l) = 0
  aligned : t.rd (ZL_LANE_STATUS_ALIGNED n l) = 0
  found : (t.lane n l).found = false
  keeps : s.keeps t (lostFlds n l)
  link : s.InLink t
  ev : t.ev = s.ev
  spareRx : (t.port n).spareRx = (s.port n).spareRx

/-- Lane l has lost its lock, and the fault that says so is recorded. -/
def State.unlocked (s : State) (n l : Nat) : State :=
  (s.unlockLane n l).fault (srcZl n) 0x1001 (slot1 n ++ slot1 l)

theorem unlocked_lostLock (s : State) (n l : Nat) : s.LostLock n l (s.unlocked n l) := by
  have hzl : (s.unlocked n l).zl = (s.setLane n l { s.lane n l with bad := 0, found := false }).zl :=
    (fault_zl ..).trans (unlockLane_zl ..)
  have hport : s.InPort (s.unlockLane n l) := (State.InPort.refl s).wr.wr.update
  have hwritten : s.keeps ((s.wr (ZL_LANE_STATUS_LOCK n l) 0).wr (ZL_LANE_STATUS_ALIGNED n l) 0) (lostFlds n l) :=
    State.keeps_wr (State.keeps_wr (State.keeps_refl s _) _ _ (by simp [lostFlds])) _ _ (by simp [lostFlds])
  have hkeeps : s.keeps (s.unlockLane n l) (lostFlds n l) := fun f hf =>
    (rd_unlockLane_wr ..).trans (hwritten f hf)
  exact {
    lock := calc
      _ = _ := rd_fault _ _ _ _ _ (faultFlds_apart (by simp only [ZL_LANE_STATUS_LOCK]; omega))
      _ = _ := rd_unlockLane_lock ..
      _ = 0 := if_pos rfl
    aligned := (rd_fault _ _ _ _ _ (faultFlds_apart (by simp only [ZL_LANE_STATUS_ALIGNED]; omega))).trans
      (rd_unlockLane_aligned ..)
    found := by rw [lane_of_zl hzl, lane_setLane_same]
    keeps := State.keeps_fault hkeeps _ _ _ fun f hf => List.mem_append_right _ hf
    link := ((State.InLink.refl s).port hport).fault
    ev := (fault_ev ..).trans hport.ev
    spareRx := by rw [port_of_zl hzl, spareRx_setLane] }

/-- While its group is not up, a lane that loses its lock does no more than that. -/
theorem laneLost_lostLock (hup : s.groupUp n (s.groupOfLane n l) = false) : s.LostLock n l (s.laneLost n l) := by
  have h := unlocked_lostLock s n l
  have hmode : (s.unlocked n l).rd (ZL_CTRL_PORT_MODE n) = s.rd (ZL_CTRL_PORT_MODE n) :=
    h.keeps _ (lostFlds_apart (by simp [ZL_CTRL_PORT_MODE]; omega) (portMode_low n))
  have hgroup := groupOfLane_congr h.spareRx hmode l
  have hdown : (s.unlocked n l).groupUp n ((s.unlocked n l).groupOfLane n l) = false := by
    rw [hgroup]
    exact (on_of_rd (h.keeps _ (lostFlds_apart (upF_above ..) (upF_low ..)))).trans hup
  have hlost : s.laneLost n l = s.unlocked n l ∨
      s.laneLost n l = (s.unlocked n l).wr (ZL_STATUS_SPARE_READY n) 0 := by
    unfold State.laneLost
    extract_lets u x v w g
    have hdown' : (!w.groupUp n g) = true := congrArg (!·) hdown
    cases firstIdx (w.logicals n) (fun lg => w.rxLane n g lg == l) with
    | some lg => exact .inl (if_pos hdown')
    | none =>
      by_cases hl : l = spareLane n
      · exact .inr (if_pos hl)
      · exact .inl (if_neg hl)
  obtain hlost | hlost := hlost
  · rw [hlost]
    exact h
  · rw [hlost]
    exact {
      lock := (rd_wr_apart _ _ _ _ Fld.apart_port_lane).trans h.lock
      aligned := (rd_wr_apart _ _ _ _ Fld.apart_port_lane).trans h.aligned
      found := (congrArg ZlLane.found (lane_of_zl (wr_zl ..) n l)).trans h.found
      keeps := State.keeps_wr h.keeps _ _ (by simp [lostFlds])
      link := h.link.port (State.InPort.refl _).wr
      ev := (wr_ev ..).trans h.ev
      spareRx := (congrArg Zl.spareRx (port_of_zl (wr_zl ..) n)).trans h.spareRx }

/-! ### Lane swaps (R91 to R93) -/

theorem recheck_elsewhere (h7 : s.mode ≠ 7) (h8 : s.mode ≠ 8) : s.recheck = s := by
  simp [State.recheck, h7, h8]

/-- What `t` has of the swap `w` that has been made in the transmit direction in state s. -/
structure State.SwitchedTx (s : State) (n : Nat) (w : LaneSwap) (t : State) : Prop where
  swapTx : (t.port n).swapTx = none
  map : t.rd (txMapF n w.dest) = w.logical % 16
  mode : t.mode = s.mode
  link : s.InLink t

namespace State.SwitchedTx

variable {w : LaneSwap}

theorem fault (h : s.SwitchedTx n w t) {source code slots} : s.SwitchedTx n w (t.fault source code slots) where
  swapTx := (congrArg Zl.swapTx (port_of_zl (fault_zl ..) n)).trans h.swapTx
  map := (rd_fault _ _ _ _ _ (faultFlds_apart (by simp [txMapF, ZL_TX_MAP]; omega))).trans h.map
  mode := (rd_fault _ _ _ _ _ (by decide)).trans h.mode
  link := h.link.fault

theorem occur (h : s.SwitchedTx n w t) {producer hop} : s.SwitchedTx n w (t.occur producer hop) where
  swapTx := (congrArg Zl.swapTx (port_of_zl (occur_zl ..) n)).trans h.swapTx
  map := (rd_occur ..).trans h.map
  mode := (rd_occur ..).trans h.mode
  link := h.link.occur

theorem ite {c : Prop} {_ : Decidable c} (h : s.SwitchedTx n w t) (h' : s.SwitchedTx n w u) :
    s.SwitchedTx n w (if c then t else u) := by
  split
  · exact h
  · exact h'

end State.SwitchedTx

/-- The fields of a port lie above TOP_MODE. -/
theorem rd_mode_wr (s : State) (f : Fld) (v : Nat) (h : 0x100000 ≤ f.off) : (s.wr f v).mode = s.mode :=
  rd_wr_apart s f TOP_MODE_MODE v (.inr (by simp only [TOP_MODE_MODE]; omega))

theorem spareSwitch_tx {n : Fin 15} {w : LaneSwap} (hw : (s.port n).swapTx = some w) (hsince : w.since + 400 ≤ s.now)
    (hdest : w.dest < 5) (h7 : s.mode ≠ 7) (h8 : s.mode ≠ 8) :
    ∃ t, exec (.spareSwitch n true) s = .next t ∧ s.SwitchedTx n w t := by
  rw [exec_spareSwitch]
  unfold execSpareSwitch
  extract_lets m z map
  split
  · next hnone => exact absurd (hw.symm.trans hnone) (by simp)
  next w' hw' =>
  obtain rfl : w' = w := Option.some.inj (hw'.symm.trans hw)
  have hnow : ¬ s.now < w'.since + ticksPerUs := by
    simp only [ticksPerUs]
    omega
  rw [if_neg (by simp [hnow])]
  extract_lets toSpare src u₁ carried z₁ u₂ z₂ u₃ v₁ v₂ x u₄ us u₅ u₆ u₇
  have hmap₁ : u₁.rd (txMapF n w'.dest) = w'.logical % 16 :=
    rd_wr_same _ (txMapF n w'.dest) _ (by simp only [txMapF]; omega)
  have hmap₃ : u₃.rd (txMapF n w'.dest) = u₁.rd (txMapF n w'.dest) :=
    rd_wr_apart _ _ _ _ (.inl (by simp only [ZL_STATUS_SPARE_IN_USE, txMapF, ZL_TX_MAP]; omega))
  have hport : u₂.port n = { z₁ with swapTx := none, spareTx := carried } := port_setPort_same ..
  have hmode : u₃.mode = s.mode :=
    (rd_mode_wr _ _ _ (by simp only [ZL_STATUS_SPARE_IN_USE]; omega)).trans
      ((rd_mode_wr _ _ _ (show 0x100000 ≤ 0x10000c + 0x10000 * n.val by omega)).trans
        (rd_mode_wr _ _ _ (show 0x100000 ≤ 0x10000c + 0x10000 * n.val by omega)))
  have h₃ : s.SwitchedTx n w' u₃ := ⟨by rw [port_of_zl (wr_zl ..), hport], hmap₃.trans hmap₁, hmode,
    (State.InLink.refl s).port (State.InPort.refl s).wr.wr.update.wr⟩
  have h₄ : s.SwitchedTx n w' u₄ := h₃
  have h₇ : s.SwitchedTx n w' u₇ := (h₄.fault.fault.ite h₄.fault).occur
  have hrest : (if true = true then u₇ else u₇.evalGroup m w'.group).recheck = u₇ := by
    rw [if_pos rfl]
    exact recheck_elsewhere (h₇.mode ▸ h7) (h₇.mode ▸ h8)
  rw [hrest]
  exact ⟨_, rfl, h₇⟩

/-! ### The reference (R94) -/

theorem unlockPort_eq (s : State) (n : Nat) :
    s.unlockPort n = ((List.range 5).foldl (·.unlockLane n) s).wr (ZL_STATUS_SPARE_READY n) 0 := rfl

/-- A field below the lanes of its port is not theirs. -/
theorem rd_unlockLane {f : Fld} (h : f.off * 8 + f.lsb + f.w ≤ (0x100100 + 0x10000 * n) * 8) :
    (s.unlockLane n l).rd f = s.rd f := by
  have hlane : ∀ lsb, Fld.apart ⟨0x100100 + 0x10000 * n + 0x40 * l, lsb, 1⟩ f := fun lsb =>
    .inr (by dsimp only; omega)
  rw [rd_unlockLane_wr]
  exact (rd_wr_apart _ _ _ _ (hlane 1)).trans (rd_wr_apart _ _ _ _ (hlane 0))

theorem rd_foldl_unlockLane_lock (ls : List Nat) (s : State) (n l : Nat) :
    (ls.foldl (·.unlockLane n) s).rd (ZL_LANE_STATUS_LOCK n l) =
      if l ∈ ls then 0 else s.rd (ZL_LANE_STATUS_LOCK n l) := by
  induction ls generalizing s with
  | nil => simp
  | cons a ls ih =>
    rw [List.foldl_cons, ih, rd_unlockLane_lock]
    by_cases hmem : l ∈ ls
    · simp [hmem]
    · by_cases ha : l = a
      · simp [ha]
      · simp [hmem, ha]

theorem unlockPort_lock (s : State) (n : Nat) :
    ∀ l ∈ List.range 5, (s.unlockPort n).rd (ZL_LANE_STATUS_LOCK n l) = 0 := by
  intro l hl
  rw [unlockPort_eq]
  exact (rd_wr_apart _ _ _ _ Fld.apart_port_lane).trans ((rd_foldl_unlockLane_lock ..).trans (if_pos hl))

theorem rd_unlockPort {f : Fld} (h : f.off * 8 + f.lsb + f.w ≤ (0x100100 + 0x10000 * n) * 8)
    (hspare : Fld.apart (ZL_STATUS_SPARE_READY n) f) : (s.unlockPort n).rd f = s.rd f := by
  rw [unlockPort_eq]
  refine (rd_wr_apart _ _ _ _ hspare).trans ?_
  exact List.foldlRecOn (List.range 5) _ (motive := fun (t : State) => t.rd f = s.rd f) rfl
    fun t ht l _ => (rd_unlockLane h).trans ht

theorem unlockPort_inPort (s : State) (n : Nat) : s.InPort (s.unlockPort n) :=
  ((State.InPort.refl s).foldl fun _ _ ht => ht.wr.wr.update).wr

theorem groupDown_down {cause : Nat} (h : s.groupUp n g = false) : s.groupDown n g cause = s := by
  simp [State.groupDown, h]

/-- Where no group is up, the other reference is selected and the lanes train again. -/
theorem lrefSwitch_down {n : Fin 15} {a : Nat} (hen : s.on (ZL_CTRL_EN n) = true)
    (hauto : s.on (ZL_CTRL_AUTO_LREF n) = true) (ha : a = s.rd (ZL_STATUS_LREF_ACTIVE n))
    (hup : ∀ g, s.groupUp n g = false) :
    exec (.lrefSwitch n) s = .next (((s.wr (ZL_STATUS_LREF_ACTIVE n) (1 - a)).fault (srcZl n) 0x1040
      (slot1 n ++ slot1 a ++ slot1 (1 - a))).unlockPort n) := by
  subst ha
  rw [exec_lrefSwitch]
  unfold execLrefSwitch
  rw [if_pos (by simp [hen, hauto])]
  extract_lets a u v
  have hdown : ∀ g, v.groupUp n g = false := fun g => by
    have hlow := upF_low n g
    have hspare : Fld.apart (ZL_STATUS_SPARE_READY n) (upF n g) := .inr (by simp only [ZL_STATUS_SPARE_READY]; omega)
    have hlref : Fld.apart (ZL_STATUS_LREF_ACTIVE n) (upF n g) := .inr (by simp only [ZL_STATUS_LREF_ACTIVE]; omega)
    have hrd : v.rd (upF n g) = s.rd (upF n g) := calc
      _ = _ := rd_unlockPort (by omega) hspare
      _ = _ := rd_fault _ _ _ _ _ (faultFlds_apart (upF_above ..))
      _ = _ := rd_wr_apart _ _ _ _ hlref
    exact (on_of_rd hrd).trans (hup g)
  rw [List.foldl_cons, List.foldl_cons, List.foldl_nil, groupDown_down (hdown 0), groupDown_down (hdown 1)]

/-! ### Gaps (R90) -/

theorem gapTimeout_over {n : Fin 15} {a t₀ : Nat} (hgap : (s.port n).gapAsked = some (a, t₀))
    (hover : t₀ + s.rd (ZL_TIMEOUTS_GAP_WAIT n) * 400 ≤ s.now) :
    exec (.gapTimeout n) s = .next
      ((s.setPort n { s.port n with gapAsked := none }).fault (srcZl n) 0x1030 (slot1 n ++ slot1 a)) := by
  rw [exec_gapTimeout]
  unfold execGapTimeout
  dsimp only
  rw [hgap]
  exact if_pos hover

theorem gapRowRx_unasked {n : Fin 15} {g : Fin 2} {lane : Fin 4} {slots : BitVec 16}
    (hgap : (s.port n).gapAsked = none) :
    exec (.gapRowRx n g lane slots) s = .next (s.setLane n (s.rxLane n g lane)
      { s.lane n (s.rxLane n g lane) with gapUntil := some (s.now + slots.toNat * 64 / 140) }) := by
  have hsame : ∀ x, ((s.setLane n (s.rxLane n g lane) x).port n).gapAsked = none := fun x => by
    simp [State.setLane, hgap]
  rw [exec_gapRowRx]
  unfold execGapRowRx
  dsimp only
  rw [hsame]

/-! ### The commands of a lane -/

theorem periodFlds_apart_lock : ∀ f ∈ periodFlds n l, f.apart (ZL_LANE_STATUS_LOCK n l) := by
  simp only [periodFlds, List.forall_mem_cons]
  exact ⟨Fld.apart_port_lane, Fld.apart_lane, Fld.apart_lane, List.forall_mem_nil _⟩

theorem statusFlds_apart_eye : ∀ f ∈ statusFlds n l, f.apart (ZL_LANE_EYE_EYE_H n l) := by
  simp only [statusFlds, List.forall_mem_cons]
  exact ⟨Fld.apart_lane, Fld.apart_lane, Fld.apart_lane, Fld.apart_lane, Fld.apart_lane, Fld.apart_port_lane,
    List.forall_mem_nil _⟩

/-- A valid marker while the far receiver is not ready: the lane shows it, and its group stays down. -/
theorem laneMarkerRx_recognised {n : Fin 15} {l : Fin 5} {w : BitVec 64} {blocks : Nat} {skew : Int} {stuffed : Nat}
    {eyeH eyeV : BitVec 8} (hen : s.on (ZL_CTRL_EN n) = true) (hok : markerOk w.toNat = true)
    (hmap : bitsAt w.toNat 32 4 = s.rd (rxMapF n l)) (hfar : bitsAt w.toNat 39 1 = 0)
    (hl : l.val ∈ s.activeLanes n (s.groupOfLane n l)) (hup : s.groupUp n (s.groupOfLane n l) = false)
    (hskew : skew.natAbs ≤ 16) (hu : u = s.periodChecks n l stuffed 0 none eyeH.toNat eyeV.toNat) :
    ∃ t, exec (.laneMarkerRx n l w blocks skew stuffed 0 none eyeH eyeV) s = .next t ∧
      u.Recognised n l w.toNat (u.on (ZL_LANE_STATUS_LOCK n l) || ((u.lane n l).found && blocks == 16384)) t := by
  have hp : s.OnLane n (periodFlds n l) u := hu ▸ (periodChecks_clean s n l stuffed eyeH.toNat eyeV.toNat).1
  have hmap' : bitsAt w.toNat 32 4 = u.rd (rxMapF n l) :=
    hmap.trans (hp.keeps _ (periodFlds_apart_rxMap l.isLt)).symm
  have hex := laneMarkerRx_valid (blocks := blocks) (skew := skew) hen hok hu hmap' rfl
  have hgood := markerGood_inRange (s := u) (n := n) (l := l) (w := w.toNat) (blocks := blocks) hskew
  have hgroup : u.groupOfLane n l = s.groupOfLane n l := groupOfLane_congr hp.spareRx
    (hp.keeps _ fun f hf => markerFlds_apart (portMode_low n) f (List.mem_append_left _ hf)) l
  rw [hgroup] at hex
  generalize (u.on (ZL_LANE_STATUS_LOCK n l) || ((u.lane n l).found && blocks == 16384)) = on at hgood ⊢
  generalize hv : (if bitsAt w.toNat 32 4 = 0 then _ else _) = v at hex
  have hseen : u.Recognised n l w.toNat on v := by
    rw [← hv]
    split
    · exact hgood.periodStart ..
    · exact hgood
  have hon := hp.trans hseen.onLane
  have hlow : ∀ f : Fld, f.lowIn n → v.rd f = s.rd f := fun f hf => hon.keeps f (markerFlds_apart hf)
  have hlanes := activeLanes_congr hon.spareRx (hlow _ (portMode_low n)) (s.groupOfLane n l)
  have hwait : v.evalGroup n (s.groupOfLane n l) = v :=
    evalGroup_waits ((on_of_rd (hlow _ (upF_low ..))).trans hup) (hlanes ▸ hl) (hseen.shows.far.trans hfar)
  exact ⟨v, hex.trans (congrArg Host.Outcome.next hwait), hseen⟩

/-- Settles O14: what a marker leaves and what a loss of lock leaves are structures above; a swap and the reference
have a lemma each. -/
theorem laneCommandsTrackLockAndSwaps : Obligations.LaneCommandsTrackLockAndSwaps := by
  refine ⟨?_, ?_, ?_, ?_, ?_, ?_, ?_, ?_⟩
  · intro s n l w blocks skew stuffed eyeH eyeV hen hok hmap hbit hl hup hskew
    have hfar : bitsAt w.toNat 39 1 = 0 := by
      simp only [bitAt, beq_eq_false_iff_ne] at hbit
      simp only [bitsAt]
      omega
    obtain ⟨hp, heye, hfound⟩ := periodChecks_clean s n l stuffed eyeH.toNat eyeV.toNat
    obtain ⟨t, hex, ht⟩ := laneMarkerRx_recognised (blocks := blocks) (stuffed := stuffed) (eyeH := eyeH)
      (eyeV := eyeV) hen hok hmap hfar hl hup hskew rfl
    rw [hfound, on_of_rd (hp.keeps _ periodFlds_apart_lock)] at ht
    refine ⟨t, hex, ht.shows.lock, ht.shows.aligned.trans ht.shows.lock.symm, ht.shows.logical, ht.shows.far.trans hfar,
      ?_, ht.bad, ht.found, hp.frame.trans ht.onLane.frame⟩
    exact (ht.onLane.keeps _ statusFlds_apart_eye).trans (heye.trans (Nat.mod_eq_of_lt eyeH.isLt))
  · intro s n l hen hgap h
    exact (markerMissing_bad hen hgap).trans (congrArg Host.Outcome.next (markerBad_counts h))
  · intro s n l hen hgap hlock hbad hup
    have hex := (markerMissing_bad hen hgap).trans (congrArg Host.Outcome.next (markerBad_loses hlock hbad))
    generalize hu : s.setLane n l { s.lane n l with bad := (s.lane n l).bad + 1 } = u at hex
    have hrd : ∀ f, u.rd f = s.rd f := fun f => hu ▸ rd_setLane ..
    have hspare : (u.port n).spareRx = (s.port n).spareRx := hu ▸ spareRx_setLane ..
    have hport : s.InPort u := hu ▸ (State.InPort.refl s).update
    have hdown : u.groupUp n (u.groupOfLane n l) = false := by
      rw [groupOfLane_congr hspare (hrd _)]
      exact (on_of_rd (hrd _)).trans hup
    have ht := laneLost_lostLock hdown
    exact ⟨_, hex, ht.lock, ht.aligned, ht.found, fun f hf => (ht.keeps f hf).trans (hrd f),
      (((State.InLink.refl s).port hport).trans ht.link).frame_ev (ht.ev.trans hport.ev)⟩
  · intro s n w hw hsince hdest h7 h8
    obtain ⟨t, hex, ht⟩ := spareSwitch_tx hw hsince hdest h7 h8
    exact ⟨t, hex, ht.swapTx, ht.map, ht.link⟩
  · intro s n hdir hrel hswap hspare hserves hlane
    refine congrArg Host.Outcome.next ?_
    unfold State.plannedSwap
    rw [hdir, hrel]
    exact startSwap_toSpare hswap hspare hserves hlane
  · intro s n hen hauto hA hB
    have hup : ∀ g, s.groupUp n g = false := fun g => by
      by_cases hg : g = 0
      · exact hg ▸ hA
      · rw [← hB]
        exact congrArg s.on (show upF n g = upF n 1 by simp [upF, hg])
    refine ⟨_, lrefSwitch_down hen hauto rfl hup, ?_, unlockPort_lock _ _, ?_⟩
    · have hlt : 1 - s.rd (ZL_STATUS_LREF_ACTIVE n) < 2 ^ 1 := Nat.lt_of_le_of_lt (Nat.sub_le ..) (by decide)
      calc _ = _ := rd_unlockPort (by dsimp only; omega) Fld.apart_element
        _ = _ := rd_fault _ _ _ _ _ (faultFlds_apart (by dsimp only; omega))
        _ = _ := rd_wr_same s (ZL_STATUS_LREF_ACTIVE n) _ (by simp [ZL_STATUS_LREF_ACTIVE])
        _ = _ := Nat.mod_eq_of_lt hlt
    · exact (((State.InLink.refl s).port (State.InPort.refl s).wr).fault.port (unlockPort_inPort ..)).frame_ev
        ((unlockPort_inPort ..).ev.trans ((fault_ev ..).trans (wr_ev ..)))
  · intro s n g lane slots hgap
    exact gapRowRx_unasked hgap
  · intro s n a t₀ hgap hover
    exact gapTimeout_over hgap hover

/-! ### Training (R82) -/

theorem rd_setGrp (s : State) (n g : Nat) (x : ZlGroup) (f : Fld) : (s.setGrp n g x).rd f = s.rd f := by
  unfold State.setGrp State.setPort
  exact rd_with_zl ..

theorem rd_updTrained {f : Fld} (htrained : Fld.apart (ZL_STATUS_TRAINED n) f) (hbusy : Fld.apart (ZL_TRAIN_BUSY n) f) :
    (s.updTrained n).rd f = s.rd f := by
  unfold State.updTrained
  exact (rd_wr_apart _ _ _ _ hbusy).trans (rd_wr_apart _ _ _ _ htrained)

end Sys2Proof.Machine
end

section
namespace Sys2Proof.Machine
open Sys2Proof Sys2Proof.Tests

/-! ## The width of a round trip (R82)

ZLn_GRP_RTT is a field of 20 bits, and the number of UI that an ECHO reply took is not bounded. -/

/-- A training that succeeds shows the low 20 bits of the mean round trip. -/
theorem trainDone_rtt {s : State} {n : Fin 15} {g : Fin 2} {replies : List (Nat × Nat)}
    (htrain : (s.grp n g).training = true) (hcount : replies.length = s.rd (ZL_TRAIN_COUNT n))
    (hrtt : spread (replies.map (·.1)) ≤ 4) (hturn : spread (replies.map (·.2)) ≤ 4) :
    ∃ t, exec (.trainDone n g replies) s = .next t ∧
      t.rd (ZL_GRP_RTT n g) = toBits 20 (rneDiv ((replies.map (·.1)).sum : Nat) replies.length) := by
  rw [exec_trainDone]
  unfold execTrainDone
  extract_lets i j x k rtts turns u ow y v w
  have hok : (decide (k = u.rd (ZL_TRAIN_COUNT i)) && decide (spread rtts ≤ 4) && decide (spread turns ≤ 4)) =
      true := by
    have hu : u.rd (ZL_TRAIN_COUNT i) = s.rd (ZL_TRAIN_COUNT i) := rd_setGrp ..
    simp [hu, k, i, hcount, rtts, turns, hrtt, hturn]
  rw [if_neg (by simp [x, i, j, htrain]), if_pos hok]
  have hg := g.isLt
  have hturns : Fld.apart (ZL_GRP_TURN i j) (ZL_GRP_RTT i j) := .inr (by simp only [ZL_GRP_TURN, ZL_GRP_RTT]; omega)
  have htrained : Fld.apart (ZL_STATUS_TRAINED i) (ZL_GRP_RTT i j) :=
    .inl (by simp only [ZL_STATUS_TRAINED, ZL_GRP_RTT]; omega)
  have hbusy : Fld.apart (ZL_TRAIN_BUSY i) (ZL_GRP_RTT i j) := .inr (by simp only [ZL_TRAIN_BUSY, ZL_GRP_RTT, j]; omega)
  refine ⟨_, rfl, ?_⟩
  rw [rd_updTrained htrained hbusy, State.wrS, rd_wr_apart _ _ _ _ hturns]
  exact (rd_wr_same v (ZL_GRP_RTT i j) _ (by simp [ZL_GRP_RTT])).trans (toBits_mod ..)

/-- One ECHO of port 0's first group is out. -/
def oneEchoOut : State := (withFlds [(ZL_TRAIN_COUNT 0, 1)]).setGrp 0 0 { training := true }

/-- Refutes O16: a round trip of 2^20 UI leaves 0 in the 20 bits of ZLn_GRP_RTT; the statement asks for its 32-bit
code, which is 2^20. -/
theorem not_portCommandsIdleTrainEnableAndReset : ¬ Obligations.PortCommandsIdleTrainEnableAndReset := by
  intro ⟨_, _, _, _, _, _, hdone, _⟩
  have htrain : (oneEchoOut.grp (0 : Fin 15) (0 : Fin 2)).training = true := by decide
  have hcount : [(2 ^ 20, 0)].length = oneEchoOut.rd (ZL_TRAIN_COUNT (0 : Fin 15)) := by decide
  have hrtt : spread ([(2 ^ 20, 0)].map (·.1)) ≤ 4 := by decide
  have hturn : spread ([(2 ^ 20, 0)].map (·.2)) ≤ 4 := by decide
  obtain ⟨t, hex, -, -, hclaim, -⟩ := hdone oneEchoOut 0 0 [(2 ^ 20, 0)] htrain hcount hrtt hturn
  obtain ⟨t', hex', hshown⟩ := trainDone_rtt htrain hcount hrtt hturn
  obtain rfl : t' = t := Host.Outcome.next.inj (hex'.symm.trans hex)
  rw [hshown] at hclaim
  exact absurd hclaim (by decide)

end Sys2Proof.Machine
end

section
namespace Sys2Proof.Machine
open Sys2Proof

variable {s t u : State}

/-! ## The camera intake

### What records and images reach (R125, R137, R239, R366)

Frame statistics go to a ring in DRAM and lost lines to coverage records, which leave by the network and the chain;
a corrected line goes to the stitcher. None of that reaches the contexts or the pipes. -/

/-- `t` differs from `s` at most in what a record, its delivery, a write of DRAM or a line for the stitcher reaches. -/
def State.InRecords (s t : State) : Prop :=
  t = { s with regs := t.regs, zl := t.zl, stitch := t.stitch, scal := t.scal, ev := t.ev, dram := t.dram, net := t.net,
               chain := t.chain, top := t.top, out := t.out }

namespace State.InRecords

theorem refl (s : State) : s.InRecords s := rfl

theorem trans (h : s.InRecords t) (h' : t.InRecords u) : s.InRecords u := by
  unfold State.InRecords at h h' ⊢
  rw [h', h]

theorem update {zl stitch scal ev dram net chain top out} (h : s.InRecords t) :
    s.InRecords { t with zl := zl, stitch := stitch, scal := scal, ev := ev, dram := dram, net := net, chain := chain,
                         top := top, out := out } := h.trans rfl

theorem link (h : s.InRecords t) (h' : t.InLink u) : s.InRecords u :=
  h.trans (by unfold State.InRecords; rw [show u = _ from h'])

theorem wr (h : s.InRecords t) {f v} : s.InRecords (t.wr f v) := h.link (.port (.refl t) (State.InPort.refl t).wr)

theorem set1 (h : s.InRecords t) {f} : s.InRecords (t.set1 f) := h.wr

theorem bump (h : s.InRecords t) {f n} : s.InRecords (t.bump f n) := h.wr

theorem fault (h : s.InRecords t) {source code slots} : s.InRecords (t.fault source code slots) :=
  h.link (State.InLink.refl t).fault

theorem occur (h : s.InRecords t) {producer hop} : s.InRecords (t.occur producer hop) :=
  h.link (State.InLink.refl t).occur

theorem ite {c : Prop} {_ : Decidable c} (h : s.InRecords t) (h' : s.InRecords u) :
    s.InRecords (if c then t else u) := by
  split
  · exact h
  · exact h'

/-- A step may be followed by any argument that needs no more than the bound. -/
theorem bind {p : Prop} (h : s.InRecords t) (k : s.InRecords t → p) : p := k h

theorem pair {α : Type} {a : α} (h : s.InRecords t) : s.InRecords (a, t).2 := h

theorem foldl {α : Type} {l : List α} {f : State → α → State} (h : s.InRecords t)
    (hf : ∀ t a, s.InRecords t → s.InRecords (f t a)) : s.InRecords (l.foldl f t) :=
  List.foldlRecOn l f h fun t ht a _ => hf t a ht

theorem foldlSnd {α β : Type} {l : List α} {f : β × State → α → β × State} {r : β × State} (h : s.InRecords r.2)
    (hf : ∀ r a, s.InRecords r.2 → s.InRecords (f r a).2) : s.InRecords (l.foldl f r).2 :=
  List.foldlRecOn l f (motive := fun r => s.InRecords r.2) h fun r hr a _ => hf r a hr

/-! DRAM -/

theorem putPoison (h : s.InRecords t) {b} : s.InRecords (t.putPoison b) := h.update.update

theorem migrate (h : s.InRecords t) {ch src cause} : s.InRecords (t.migrate ch src cause) := by
  unfold State.migrate
  refine h.ite ?_
  split
  · exact h.set1.fault
  · exact h.wr.wr.set1.set1.wr.update.fault

theorem noteCe (h : s.InRecords t) {ch rank a} : s.InRecords (t.noteCe ch rank a) := by
  unfold State.noteCe
  extract_lets key t₁ d₁ t₂ hour lim d₂ t₃
  have h₁ : s.InRecords t₁ := h.set1.bump
  have h₂ : s.InRecords t₂ := by
    dsimp only [t₂]
    split
    · exact h₁.update.fault.ite h₁
    · exact h₁.update.fault
  clear_value t₂
  exact h₂.update.fault.migrate.ite h₂.update

theorem noteUe (h : s.InRecords t) {k ch rank a cls syn} : s.InRecords (t.noteUe k ch rank a cls syn) := by
  unfold State.noteUe
  extract_lets t₁ t₂ kind t₃ t₄ t₅ det key due d
  have h₁ : s.InRecords t₁ := h.set1.bump
  have h₅ : s.InRecords t₅ := (h₁.set1.ite h₁).wr.wr.wr.wr.wr.wr
  clear_value t₅
  split
  · exact h₅.fault
  · exact h₅.fault
  · exact h₅.update.fault.ite h₅

theorem partialBeat (h : s.InRecords t) {b cls} : s.InRecords (t.partialBeat b cls).2 := by
  unfold State.partialBeat
  dsimp only
  split
  · exact h.noteUe.putPoison.pair
  · exact (h.noteCe.ite h).update.pair

theorem storeBytes (h : s.InRecords t) {a bs poisoned} : s.InRecords (t.storeBytes a bs poisoned) :=
  h.update.foldl fun _ _ h => h.putPoison

theorem dramPut (h : s.InRecords t) {a bs cls} : s.InRecords (t.dramPut a bs cls) := by
  unfold State.dramPut State.dramWrite
  split
  · exact h.update.pair
  · unfold State.dramWriteNow
    dsimp only
    split
    · exact h.pair
    · exact (h.update.pair.foldlSnd fun _ _ h₁ => h₁.partialBeat.pair).storeBytes.pair

/-! Coverage -/

theorem sendReplay (h : s.InRecords t) {n p} : s.InRecords (t.sendReplay n p) :=
  (h.wr.bind fun h₁ => (h₁.update.ite h₁).bump.update).ite h.update

theorem sendPeer (h : s.InRecords t) {n p} : s.InRecords (t.sendPeer n p) := h.ite (h.bump.update.ite h.sendReplay)

theorem sendTo (h : s.InRecords t) {dst p} : s.InRecords (t.sendTo dst p) := by
  unfold State.sendTo
  split
  · exact h.sendPeer
  · split
    · exact h.ite h.sendPeer
    · exact h.bump.bind fun h₁ => h₁.ite h₁.update.fault

theorem netRecord (h : s.InRecords t) {bs} : s.InRecords (t.netRecord bs) := by
  unfold State.netRecord
  dsimp only
  split
  · exact h.update
  · exact h.bump.set1.update.bind fun h₂ => h₂.ite h₂.fault

theorem deliverCov (h : s.InRecords t) {bs} : s.InRecords (t.deliverCov bs) :=
  (h.netRecord.ite h).bind fun h₁ => (h₁.sendTo.ite h₁.bump).ite h₁

theorem enqueueCov (h : s.InRecords t) {c} : s.InRecords (t.enqueueCov c) :=
  (h.update.ite h).bind fun h₁ => (h₁.wr.bind fun h₂ => (h₂.ite h₂.update).deliverCov).ite h₁.update

theorem coverCamera (h : s.InRecords t) {k a b reason detail} : s.InRecords (t.coverCamera k a b reason detail) :=
  (h.foldl fun _ _ h₁ => h₁.enqueueCov).ite h

/-! Frame statistics and the seam buffer -/

theorem closeFrame (h : s.InRecords t) {p x f} : s.InRecords (t.closeFrame p x f) :=
  (h.ite (h.bump.ite h.dramPut.wr)).occur

theorem storeSeam (h : s.InRecords t) {k x} : s.InRecords (t.storeSeam k x) :=
  h.update.bind fun h₁ => h₁.update.ite h₁

theorem seamArrive (h : s.InRecords t) {k l px} : s.InRecords (t.seamArrive k l px) := by
  unfold State.seamArrive
  refine h.ite ?_
  split
  · exact h
  · exact (h.set1.ite h).bind fun h₁ => h₁.storeSeam.ite (h₁.update.set1.fault.ite h₁.update.wr)

theorem pctx (h : s.InRecords t) : t.pctx = s.pctx := by
  unfold State.InRecords at h
  exact (congrArg State.pctx h).trans rfl

theorem pipes (h : s.InRecords t) : t.pipes = s.pipes := by
  unfold State.InRecords at h
  exact (congrArg State.pipes h).trans rfl

end State.InRecords

end Sys2Proof.Machine
end

section
namespace Sys2Proof.Machine
open Sys2Proof

variable {s t u : State} {fs : List Fld} {p x n g : Nat}

/-! ### Contexts, pipes and groups -/

theorem px_of_pctx (h : t.pctx = s.pctx) (p x : Nat) : t.px p x = s.px p x := by rw [State.px, h, State.px]

theorem pipe_of_pipes (h : t.pipes = s.pipes) (p : Nat) : t.pipe p = s.pipe p := by rw [State.pipe, h, State.pipe]

theorem grp_of_zl (h : t.zl = s.zl) (n g : Nat) : t.grp n g = s.grp n g := by rw [State.grp, port_of_zl h, State.grp]

@[simp] theorem pipe_setPipe_same (s : State) (p : Nat) (k : Pipe) : (s.setPipe p k).pipe p = k := spGet_spSet_same ..

@[simp] theorem grp_setGrp_same (s : State) (n g : Nat) (y : ZlGroup) : (s.setGrp n g y).grp n g = y := by
  simp [State.grp, State.setGrp]

theorem px_setPx_ne {q y : Nat} (c : PipeCtx) (h : 2 * p + x ≠ 2 * q + y) : (s.setPx p x c).px q y = s.px q y :=
  spGet_spSet_ne _ _ _ h

/-- A field of a context, and one of the same context. -/
theorem Fld.apart_ctx {base base' lsb lsb' w w' : Nat}
    (h : base * 8 + lsb + w ≤ base' * 8 + lsb' ∨ base' * 8 + lsb' + w' ≤ base * 8 + lsb := by decide) :
    Fld.apart ⟨base + 0x10000 * p + 0x200 * x, lsb, w⟩ ⟨base' + 0x10000 * p + 0x200 * x, lsb', w'⟩ := by
  unfold Fld.apart
  dsimp only
  omega

theorem bitsAt_mod (m l w : Nat) : bitsAt m l w % 2 ^ w = bitsAt m l w := Nat.mod_mod ..

/-- The state with only `rest` left of what a group has received. -/
abbrev State.rxRest (s : State) (n g : Nat) (rest : List Packet) : State :=
  s.setGrp n g { s.grp n g with rx := rest }

/-- The first packet of a group is taken off when it satisfies the test. -/
theorem takeRx_front {pk : Packet} {rest : List Packet} {ok : Packet → Bool} (h : (s.grp n g).rx = pk :: rest)
    (hok : ok pk = true) : s.takeRx n g ok = some (pk, s.rxRest n g rest) := by
  simp [State.takeRx, h, hok]

/-! ### What an operation leaves alone -/

theorem fault_frame (s : State) (source code : Nat) (slots : List Nat) : s.fault source code slots =
    { s with regs := (s.fault source code slots).regs, top := (s.fault source code slots).top } := by
  conv_lhs => rw [(State.InWeb.refl s).fault.frame_recorded (fault_freeCount ..) (fault_ev ..), fault_tl]

/-- `t` differs from `s` at most in its registers. -/
def State.InRegs (s t : State) : Prop := t = { s with regs := t.regs }

namespace State.InRegs

theorem refl (s : State) : s.InRegs s := rfl

theorem trans (h : s.InRegs t) (h' : t.InRegs u) : s.InRegs u := by
  unfold State.InRegs at h h' ⊢
  rw [h', h]

theorem wr (h : s.InRegs t) {f v} : s.InRegs (t.wr f v) := h.trans (wr_frame ..)

theorem foldl {α : Type} {l : List α} {f : State → α → State} (h : s.InRegs t)
    (hf : ∀ t a, s.InRegs t → s.InRegs (f t a)) : s.InRegs (l.foldl f t) :=
  List.foldlRecOn l f h fun t ht a _ => hf t a ht

theorem eq (h : s.InRegs t) : t = { s with regs := t.regs } := h

theorem px (h : s.InRegs t) (p x : Nat) : t.px p x = s.px p x := by
  rw [h.eq]
  rfl

theorem zl (h : s.InRegs t) : t.zl = s.zl := by rw [h.eq]

/-- After a change of the contexts, the registers and the contexts make the difference. -/
theorem after_ctx (h : u.InRegs t) (hu : u = { s with pctx := u.pctx }) :
    t = { s with regs := t.regs, pctx := t.pctx } := by
  rw [h.eq, hu]

end State.InRegs

/-- `t` differs from `s` at most in its registers and recorder. -/
def State.InLog (s t : State) : Prop := t = { s with regs := t.regs, top := t.top }

namespace State.InLog

theorem refl (s : State) : s.InLog s := rfl

theorem trans (h : s.InLog t) (h' : t.InLog u) : s.InLog u := by
  unfold State.InLog at h h' ⊢
  rw [h', h]

theorem wr (h : s.InLog t) {f v} : s.InLog (t.wr f v) := h.trans (by unfold State.InLog; rw [wr_frame])

theorem fault (h : s.InLog t) {source code slots} : s.InLog (t.fault source code slots) := h.trans (fault_frame ..)

theorem eq (h : s.InLog t) : t = { s with regs := t.regs, top := t.top } := h

theorem px (h : s.InLog t) (p x : Nat) : t.px p x = s.px p x := by
  rw [h.eq]
  rfl

theorem grp (h : s.InLog t) (n g : Nat) : t.grp n g = s.grp n g := by
  rw [h.eq]
  rfl

end State.InLog

/-! ### What is shown of a context -/

theorem updCtx_inRegs (s : State) (p x : Nat) : s.InRegs (s.updCtx p x) := (State.InRegs.refl s).wr.wr.wr.wr

/-- The status fields that follow a context. -/
def ctxFlds (p x : Nat) : List Fld :=
  [PIPE_CTX_STATUS_SET_VALID p x, PIPE_CTX_STATUS_COMMIT_PENDING p x, PIPE_CTX_STATUS_TABLE_PENDING p x,
   PIPE_CTX_STATUS_FIFO_DEPTH p x]

theorem State.keeps_updCtx (h : s.keeps t fs) (hf : ∀ f ∈ ctxFlds p x, f ∈ fs) : s.keeps (t.updCtx p x) fs := by
  simp only [ctxFlds, List.forall_mem_cons] at hf
  obtain ⟨hvalid, hpending, htable, hfifo, -⟩ := hf
  exact State.keeps_wr (State.keeps_wr (State.keeps_wr (State.keeps_wr h _ _ hvalid) _ _ hpending) _ _ htable) _ _ hfifo

/-- COMMIT_PENDING shows whether a COMMIT waits. -/
theorem rd_updCtx_pending (s : State) (p x : Nat) :
    (s.updCtx p x).rd (PIPE_CTX_STATUS_COMMIT_PENDING p x) = b2n (!(s.px p x).commit.pend.isEmpty) := by
  unfold State.updCtx
  extract_lets c s₁ s₂ s₃
  calc
    _ = s₃.rd (PIPE_CTX_STATUS_COMMIT_PENDING p x) := rd_wr_apart _ _ _ _ Fld.apart_ctx
    _ = s₂.rd (PIPE_CTX_STATUS_COMMIT_PENDING p x) := rd_wr_apart _ _ _ _ Fld.apart_ctx
    _ = _ := rd_wr_flag s₁ _ 1 _

end Sys2Proof.Machine
end

section
namespace Sys2Proof.Machine
open Sys2Proof

variable {s t u : State} {fs : List Fld} {p x n g : Nat}

/-! ### A LINE packet (R100) -/

/-- What `t` has of the line `a` that has entered its FIFO in state s. -/
structure State.Entered (s : State) (p x : Nat) (a : ArrLine) (t : State) : Prop where
  fifo : (t.px p x).fifo = (s.px p x).fifo ++ [a]
  owed : (t.px p x).owed = (s.px p x).owed.filter (·.line != a.line)
  asm : (t.px p x).asm = none
  zl : t.zl = s.zl
  frame : t = { s with regs := t.regs, pctx := t.pctx }

/-- Other parts of the context may have been replaced before the line enters. -/
theorem State.Entered.of_setPx {a : ArrLine} {c : PipeCtx} (h : (s.setPx p x c).Entered p x a t)
    (hfifo : c.fifo = (s.px p x).fifo) (howed : c.owed = (s.px p x).owed) : s.Entered p x a t where
  fifo := by rw [h.fifo, px_setPx_same, hfifo]
  owed := by rw [h.owed, px_setPx_same, howed]
  asm := h.asm
  zl := h.zl
  frame := by
    rw [h.frame]
    rfl

/-- A line arrives that ends no run of lost lines, while its FIFO has room. -/
theorem arrive_entered {a : ArrLine} (hrun : (s.px p x).run = none) (hfifo : (s.px p x).fifo.length < 2) :
    s.Entered p x a (s.arrive p x a) := by
  have hflush : s.flushRun p x = s := by simp [State.flushRun, hrun]
  have heq : ∃ c d, s.arrive p x a = ((s.setPx p x c).setPx p x d).updCtx p x ∧ d = { s.px p x with
      asm := none, owed := (s.px p x).owed.filter (·.line != a.line), fifo := (s.px p x).fifo ++ [a] } := by
    unfold State.arrive
    rw [hflush]
    simp only [px_setPx_same, Nat.not_le.2 hfifo, if_false]
    exact ⟨_, _, rfl, rfl⟩
  obtain ⟨c, d, heq, rfl⟩ := heq
  have hshown := updCtx_inRegs ((s.setPx p x c).setPx p x { s.px p x with
    asm := none, owed := (s.px p x).owed.filter (·.line != a.line), fifo := (s.px p x).fifo ++ [a] }) p x
  rw [heq]
  have hpx := (hshown.px p x).trans (px_setPx_same ..)
  exact ⟨congrArg PipeCtx.fifo hpx, congrArg PipeCtx.owed hpx, congrArg PipeCtx.asm hpx, hshown.zl,
    hshown.after_ctx rfl⟩

/-- The packet that completes a line of one exposure. -/
theorem takeSamples_completes {a : SettingsSet} {m : LineAsm} {smp : List Nat} {clk : Nat}
    (hhdr : a.rd (PIPE_CTX_CFG_HDR p x) = 0) (hlen : (m.short ++ smp).length = 3 * a.rd (PIPE_CTX_CFG_PIXELS p x)) :
    s.takeSamples p x a m 0 smp clk = (s.setPx p x { s.px p x with asm := some { m with short := m.short ++ smp } }).arrive
      p x ⟨m.line, m.short ++ smp, m.long, clk⟩ := by
  unfold State.takeSamples
  simp only [↓reduceIte, hlen, hhdr]
  rfl

/-- A line in one packet enters its FIFO. -/
theorem takeSamples_entered {a : SettingsSet} {l : Int} {smp : List Nat} {clk : Nat}
    (hhdr : a.rd (PIPE_CTX_CFG_HDR p x) = 0) (hlen : smp.length = 3 * a.rd (PIPE_CTX_CFG_PIXELS p x))
    (hrun : (s.px p x).run = none) (hfifo : (s.px p x).fifo.length < 2) :
    s.Entered p x ⟨l, smp, [], clk⟩ (s.takeSamples p x a ⟨l, [], [], false⟩ 0 smp clk) := by
  rw [takeSamples_completes (m := ⟨l, [], [], false⟩) hhdr hlen]
  exact (arrive_entered (by simpa using hrun) (by simpa using hfifo)).of_setPx rfl rfl

/-- A line's only packet, no line before it being owed. -/
theorem linePacket_whole {pl : List Nat} {clk : Nat} {l : Int} {a : SettingsSet} {b0 b1 : Nat}
    (hserved : s.unserved p = false) (hspare : s.sparing p = false) (hb0 : b0 = nth 0 pl 0) (hb1 : b1 = nth 0 pl 1)
    (hl : l = signed 48 b0) (hlast : s.rdS (PIPE_CTX_LAST_LINE p x) < l) (hfifo : (s.px p x).fifo = [])
    (hwork : (s.pipe p).work = []) (hasm : (s.px p x).asm = none) (howed : ∀ o ∈ (s.px p x).owed, l ≤ o.line)
    (hset : (s.px p x).commit.setFor l = some a) (hdepth : bitsAt b1 32 2 = a.rd (PIPE_CTX_CFG_DEPTH p x))
    (hfirst : bitsAt b1 0 16 = 0) (hpixels : bitsAt b1 16 16 = a.rd (PIPE_CTX_CFG_PIXELS p x))
    (hexp : bitsAt b0 52 1 = 0) (hused : bitsAt b0 48 4 = a.rd (PIPE_CTX_EXPOSURE p x)) :
    s.linePacket p x pl clk = s.takeSamples p x a ⟨l, [], [], false⟩ 0
      (tabulate (3 * bitsAt b1 16 16) (sampleAt (pl.drop 2) (depthBits (bitsAt b1 32 2)))) clk := by
  have hearlier : ((s.px p x).owed.map (·.line)).eraseDups.filter (fun e => decide (e < l)) = [] := by
    refine List.filter_eq_nil_iff.2 fun e he => ?_
    obtain ⟨o, ho, rfl⟩ := List.mem_map.1 (List.mem_eraseDups.1 he)
    simpa using howed o ho
  subst hb0 hb1 hl
  unfold State.linePacket
  simp [hserved, hfifo, hwork, hasm, hearlier, hspare, hset, hdepth, hfirst, hpixels, hexp, hused,
    Int.not_le.2 hlast]

end Sys2Proof.Machine
end

section
namespace Sys2Proof.Machine
open Sys2Proof

variable {s t u : State} {fs : List Fld} {p x n g : Nat}

/-! ### Lines lost (R101 to R103) -/

/-- `t` owes context x of pipe p the lines that `s` owes it, and has its pipes. -/
structure State.OwesAs (s : State) (p x : Nat) (t : State) : Prop where
  owed : (t.px p x).owed = (s.px p x).owed
  pipes : t.pipes = s.pipes

namespace State.OwesAs

theorem refl (s : State) (p x : Nat) : s.OwesAs p x s := ⟨rfl, rfl⟩

theorem records (h : s.OwesAs p x t) (h' : t.InRecords u) : s.OwesAs p x u :=
  ⟨(congrArg PipeCtx.owed (px_of_pctx h'.pctx p x)).trans h.owed, h'.pipes.trans h.pipes⟩

theorem setPx (h : s.OwesAs p x t) {c : PipeCtx} (hc : c.owed = (t.px p x).owed := by rfl) :
    s.OwesAs p x (t.setPx p x c) :=
  ⟨(congrArg PipeCtx.owed (px_setPx_same ..)).trans (hc.trans h.owed), h.pipes⟩

theorem ite {c : Prop} {_ : Decidable c} (h : s.OwesAs p x t) (h' : s.OwesAs p x u) :
    s.OwesAs p x (if c then t else u) := by
  split
  · exact h
  · exact h'

theorem bind {q : Prop} (h : s.OwesAs p x t) (k : s.OwesAs p x t → q) : q := k h

theorem foldl {α : Type} {l : List α} {f : State → α → State} (h : s.OwesAs p x t)
    (hf : ∀ t a, s.OwesAs p x t → s.OwesAs p x (f t a)) : s.OwesAs p x (l.foldl f t) :=
  List.foldlRecOn l f h fun t ht a _ => hf t a ht

theorem wr (h : s.OwesAs p x t) {f v} : s.OwesAs p x (t.wr f v) := h.records (State.InRecords.refl t).wr

theorem fault (h : s.OwesAs p x t) {source code slots} : s.OwesAs p x (t.fault source code slots) :=
  h.records (State.InRecords.refl t).fault

theorem coverCamera (h : s.OwesAs p x t) {k a b reason detail} :
    s.OwesAs p x (t.coverCamera k a b reason detail) := h.records (State.InRecords.refl t).coverCamera

theorem closeFrame (h : s.OwesAs p x t) {f} : s.OwesAs p x (t.closeFrame p x f) :=
  h.records (State.InRecords.refl t).closeFrame

theorem flushRun (h : s.OwesAs p x t) {cover} : s.OwesAs p x (t.flushRun p x cover) := by
  unfold State.flushRun
  dsimp only
  split
  · exact h
  · exact h.setPx.fault.wr.wr.bind fun h₁ => h₁.coverCamera.ite h₁

theorem settle (h : s.OwesAs p x t) {l} : s.OwesAs p x (t.settle p x l) :=
  h.wr.ite h

theorem closeStats (h : s.OwesAs p x t) : s.OwesAs p x (t.closeStats p x) :=
  h.foldl fun _ _ h₁ => h₁.setPx.closeFrame.ite h₁

end State.OwesAs

/-- A lost line is owed no more; the others stay owed. -/
theorem lostLine_owed (s : State) (p x : Nat) (l : Int) (reason : Nat) :
    ((s.lostLine p x l reason).px p x).owed = (s.px p x).owed.filter (·.line != l) := by
  unfold State.lostLine
  extract_lets c tag asm stats u joins cu w cw v
  have hu : (u.px p x).owed = c.owed.filter (·.line != l) := congrArg PipeCtx.owed (px_setPx_same ..)
  have hv : u.OwesAs p x v := (State.OwesAs.refl u p x).setPx.ite (State.OwesAs.refl u p x).flushRun.setPx
  exact hv.settle.closeStats.owed.trans hu

/-- Before any frame boundary no frame's statistics close. -/
theorem closeStats_unframed (h : s.tl.frames = []) : s.closeStats p x = s := by
  have hdone : ∀ f, s.frameDone p x f = false := fun f => by
    simp [State.frameDone, State.nextBoundary, State.frameGen, h]
  unfold State.closeStats
  refine List.foldlRecOn _ _ (motive := fun u => u = s) rfl fun u hu f _ => ?_
  subst hu
  simp [hdone]

theorem settle_inRegs (s : State) (p x : Nat) (l : Int) : s.InRegs (s.settle p x l) := by
  unfold State.settle
  split
  · exact (State.InRegs.refl s).wr
  · exact State.InRegs.refl s

theorem State.keeps_settle {l : Int} (h : s.keeps t fs) (hf : PIPE_CTX_LAST_LINE p x ∈ fs) :
    s.keeps (t.settle p x l) fs := by
  unfold State.settle
  split
  · exact State.keeps_wrS h hf
  · exact h

/-- A lost line that joins no run starts one; while there is no frame boundary nothing else follows. -/
theorem lostLine_startsRun {l : Int} {reason : Nat} (hrun : (s.px p x).run = none) (hframes : s.tl.frames = []) :
    ∃ c d, s.lostLine p x l reason = ((s.setPx p x c).setPx p x d).settle p x l ∧
      d.owed = (s.px p x).owed.filter (·.line != l) ∧ d.run = some ⟨l, l, reason⟩ := by
  unfold State.lostLine
  extract_lets c tag asm stats u joins cu w cw v
  have hu : u.px p x = { c with owed := c.owed.filter (·.line != l), asm := asm, stats := stats } := px_setPx_same ..
  have hw : w = u := by simp [w, State.flushRun, hu, c, hrun]
  have hv : v = u.setPx p x { u.px p x with run := some ⟨l, l, reason⟩ } := by
    simp only [v, cw, joins, c, hrun, hw]
    rfl
  have hclose : (v.settle p x l).closeStats p x = v.settle p x l := closeStats_unframed (by
    rw [(settle_inRegs v p x l).eq, hv]
    exact hframes)
  exact ⟨_, { u.px p x with run := some ⟨l, l, reason⟩ }, hclose.trans (congrArg (·.settle p x l) hv),
    congrArg PipeCtx.owed hu, rfl⟩

end Sys2Proof.Machine
end

section
namespace Sys2Proof.Machine
open Sys2Proof

variable {s t u : State} {fs : List Fld} {p x n g : Nat}

/-! ### The mailbox and the reports (R126, R127) -/

/-- What `t` has of the answer to the mailbox's CTRL in state s. -/
structure State.Replied (s : State) (p x result : Nat) (t : State) : Prop where
  mbox : (t.px p x).mbox = none
  result : t.rd (PIPE_CTX_MBOX_CTRL_RESULT p x) = result % 2 ^ 8
  busy : t.rd (PIPE_CTX_MBOX_CTRL_BUSY p x) = 0
  done : t.rd (PIPE_CTX_MBOX_CTRL_DONE p x) = 1
  zl : t.zl = s.zl
  frame : t = { s with regs := t.regs, pctx := t.pctx }

theorem mboxReply_replied (s : State) (p x result : Nat) (data : List Nat) :
    s.Replied p x result (s.mboxReply p x result data) := by
  unfold State.mboxReply
  extract_lets c u v w y
  have hframe : u.InRegs ((y.wr (PIPE_CTX_MBOX_CTRL_BUSY p x) 0).set1 (PIPE_CTX_MBOX_CTRL_DONE p x)) :=
    ((State.InRegs.refl u).foldl fun _ _ h => h.wr).wr.wr.wr.wr
  refine ⟨?_, ?_, rd_wr_apart _ _ _ _ Fld.apart_ctx |>.trans (rd_wr_flag y _ 9 false), rd_wr_flag _ _ 10 true,
    hframe.zl, hframe.after_ctx rfl⟩
  · rw [hframe.px, px_setPx_same]
  · calc
      _ = _ := rd_wr_apart _ _ _ _ Fld.apart_ctx
      _ = _ := rd_wr_apart _ _ _ _ Fld.apart_ctx
      _ = _ := rd_wr_apart _ _ _ _ Fld.apart_ctx
      _ = _ := rd_wr_same v (PIPE_CTX_MBOX_CTRL_RESULT p x) _ (by simp [PIPE_CTX_MBOX_CTRL_RESULT])

/-- A group's first packet is gone, and with it the CTRLs that it answers. -/
def State.answered (s : State) (n g : Nat) (rest : List Packet) (op tag : Nat) : State :=
  let t := s.rxRest n g rest
  t.setGrp n g { t.grp n g with ctrl := (t.grp n g).ctrl.filter (fun c => !(c.op == op && c.tag == tag)) }

theorem rx_answered (s : State) (n g : Nat) (rest : List Packet) (op tag : Nat) :
    ((s.answered n g rest op tag).grp n g).rx = rest := by
  simp [State.answered]

/-- The answer to the mailbox's CTRL, which is not that to an ECHO. -/
theorem statReplyRx_mailbox {n : Fin 12} {g : Fin 2} {pk : Packet} {rest : List Packet} {b : Nat}
    (hrx : (s.grp n g).rx = pk :: rest) (hty : pk.ty = 0x04) (hb : b = nth 0 pk.payload 0) (hop : bitsAt b 0 16 < 0x8000)
    (hecho : bitsAt b 0 16 ≠ 1) (hctx : s.ctxOf n g = some (p, x))
    (hmbox : (s.px p x).mbox = some (bitsAt b 0 16, bitsAt b 16 16)) :
    exec (.statReplyRx n g) s = .next ((s.answered n g rest (bitsAt b 0 16) (bitsAt b 16 16)).mboxReply p x
      (bitsAt b 32 8) (pk.payload.drop 1)) := by
  subst hb
  rw [exec_statReplyRx]
  unfold execStatReplyRx
  dsimp only
  rw [takeRx_front hrx (by simp [hty, pkStat, statOp, hop])]
  dsimp only
  rw [if_neg (by simp [hecho])]
  rw [show ∀ y z, ((s.setGrp n g y).setGrp n g z).ctxOf n g = some (p, x) from fun _ _ => hctx]
  exact if_pos hmbox

/-- A report keeps all but the mailbox's report fields and the recorder. -/
theorem keeps_report (s : State) (p x op data : Nat) : s.keeps (s.report p x op data)
    ([PIPE_CTX_MBOX_REPORT_OP p x, PIPE_CTX_MBOX_REPORT_DATA p x] ++ faultFlds) :=
  State.keeps_fault (State.keeps_wr (State.keeps_wr (State.keeps_refl s _) _ _ (by simp)) _ _ (by simp)) _ _ _
    fun _ hf => List.mem_append_right _ hf

theorem report_inLog (s : State) (p x op data : Nat) : s.InLog (s.report p x op data) :=
  (State.InLog.refl s).wr.wr.fault

theorem rd_report_op (s : State) (p x op data : Nat) :
    (s.report p x op data).rd (PIPE_CTX_MBOX_REPORT_OP p x) = op % 2 ^ 16 := calc
  _ = _ := rd_fault _ _ _ _ _ (faultFlds_apart (show 0x28 ≤ 0x2001cc + 0x10000 * p + 0x200 * x by omega))
  _ = _ := rd_wr_apart _ _ _ _ Fld.apart_ctx
  _ = _ := rd_wr_same _ (PIPE_CTX_MBOX_REPORT_OP p x) _ (by simp [PIPE_CTX_MBOX_REPORT_OP])

theorem rd_report_data (s : State) (p x op data : Nat) :
    (s.report p x op data).rd (PIPE_CTX_MBOX_REPORT_DATA p x) = data % 2 ^ 32 := calc
  _ = _ := rd_fault _ _ _ _ _ (faultFlds_apart (show 0x28 ≤ 0x2001d0 + 0x10000 * p + 0x200 * x by omega))
  _ = _ := rd_wr_same _ (PIPE_CTX_MBOX_REPORT_DATA p x) _ (by simp [PIPE_CTX_MBOX_REPORT_DATA])

/-- A report of a damaged TRIG. -/
theorem trigErrorReport_served {n : Fin 12} {g : Fin 2} {pk : Packet} {rest : List Packet} {d : Nat}
    (hrx : (s.grp n g).rx = pk :: rest) (hty : pk.ty = 0x04) (hop : statOp pk = 0x8001)
    (hctx : s.ctxOf n g = some (p, x)) (hserved : s.unserved p = false) (hd : d = bitsAt (nth 0 pk.payload 1) 0 32)
    (hu : u = (s.rxRest n g rest).report p x 0x8001 d) :
    exec (.trigErrorReport n g) s = .next (((s.px p x).owed.find? (fun o => o.seq == some (d % 65536))).elim u
      fun o => u.lostLine p x o.line lostCamera) := by
  subst hd hu
  rw [exec_trigErrorReport]
  unfold execTrigErrorReport
  dsimp only
  rw [takeRx_front hrx (by simp [hty, pkStat, hop])]
  dsimp only
  rw [show ∀ y, (s.setGrp n g y).ctxOf n g = some (p, x) from fun _ => hctx]
  dsimp only
  rw [show ∀ y, (s.setGrp n g y).unserved p = false from fun _ => hserved, if_neg (by simp)]
  rw [show ∀ y op d, ((s.setGrp n g y).report p x op d).px p x = s.px p x from fun _ _ _ => (report_inLog ..).px p x]
  cases (s.px p x).owed.find? _ <;> rfl

theorem camFaultReport_served {n : Fin 12} {g : Fin 2} {pk : Packet} {rest : List Packet}
    (hrx : (s.grp n g).rx = pk :: rest) (hty : pk.ty = 0x04) (hop : statOp pk = 0x8002)
    (hctx : s.ctxOf n g = some (p, x)) (hserved : s.unserved p = false) :
    exec (.camFaultReport n g) s = .next ((s.rxRest n g rest).report p x 0x8002
      (bitsAt (nth 0 pk.payload 1) 0 32)) := by
  rw [exec_camFaultReport]
  unfold execCamFaultReport
  rw [takeRx_front hrx (by simp [hty, pkStat, hop])]
  dsimp only
  rw [show ∀ y, (s.setGrp n g y).ctxOf n g = some (p, x) from fun _ => hctx]
  dsimp only
  rw [show ∀ y, (s.setGrp n g y).unserved p = false from fun _ => hserved, if_neg (by simp)]

/-- The mailbox waits for the answer to its CTRL. -/
def State.asked (s : State) (p x : Nat) : State :=
  (s.setPx p x { s.px p x with
    mbox := some (s.rd (PIPE_CTX_MBOX_CMD_OP p x), s.rd (PIPE_CTX_MBOX_CMD_TAG p x)) }).set1 (PIPE_CTX_MBOX_CTRL_BUSY p x)

/-- A CTRL leaves with what the mailbox holds. -/
theorem mboxSend_sends (hidle : s.on (PIPE_CTX_MBOX_CTRL_BUSY p x) = false)
    (hblocks : s.rd (PIPE_CTX_MBOX_CTRL_BLOCKS p x) ≤ 8) (htag : s.rd (PIPE_CTX_MBOX_CMD_TAG p x) < 0xF000)
    (hport : s.rd (PIPE_CTRL_PORT p) < 12) : ∃ op tag arg data,
    s.mboxSend p x = (s.asked p x).sendCtrl (s.rd (PIPE_CTRL_PORT p)) x op tag arg data := by
  unfold State.mboxSend
  dsimp only
  rw [if_neg (by simp [hidle]; omega)]
  exact ⟨_, _, _, _, if_pos hport⟩

/-- What `t` has of the mailbox of context x of pipe p that waits for an answer in state s. -/
structure State.Asked (s : State) (p x : Nat) (t : State) : Prop where
  mbox : (t.px p x).mbox = some (s.rd (PIPE_CTX_MBOX_CMD_OP p x), s.rd (PIPE_CTX_MBOX_CMD_TAG p x))
  busy : t.rd (PIPE_CTX_MBOX_CTRL_BUSY p x) = 1
  keeps : s.keeps t [PIPE_CTX_MBOX_CTRL_BUSY p x]
  frame : t = { s with regs := t.regs, pctx := t.pctx }

theorem asked_asked (s : State) (p x : Nat) : s.Asked p x (s.asked p x) := by
  unfold State.asked
  refine ⟨?_, rd_wr_flag _ _ 9 true, State.keeps_set1 (State.keeps_of_regs rfl _) (by simp),
    (State.InRegs.refl _).wr.after_ctx rfl⟩
  exact congrArg PipeCtx.mbox (((State.InRegs.refl _).wr.px p x).trans (px_setPx_same ..))

/-- What `t` has of a packet that has left on port n in state s. -/
structure State.Sent (s : State) (n : Nat) (t : State) : Prop where
  keeps : s.keeps t [ZL_CNT_PKT_TX n]
  packets : t.out.packets.length = s.out.packets.length + 1
  frame : t = { s with regs := t.regs, zl := t.zl, out := t.out }

theorem sendCtrl_sent (s : State) (n g op tag arg : Nat) (data : List Nat) :
    s.Sent n (s.sendCtrl n g op tag arg data) := by
  unfold State.sendCtrl State.sendCam State.emitPacket
  dsimp only
  refine ⟨?_, by simp [State.setGrp, State.setPort], ?_⟩
  · have hgrp : s.keeps (s.setGrp n g { s.grp n g with txSeq := ((s.grp n g).txSeq + 1) % 2 ^ 16 })
        [ZL_CNT_PKT_TX n] := State.keeps_of_regs rfl _
    exact keeps_of_reg (fun _ => rfl) (State.keeps_wr hgrp (ZL_CNT_PKT_TX n) _ (by simp))
  · rw [State.bump, wr_frame]
    rfl

end Sys2Proof.Machine
end

section
namespace Sys2Proof.Machine
open Sys2Proof

variable {s t u : State} {fs : List Fld} {p x n g : Nat}

/-! ### Packets at their context -/

/-- A LINE packet is taken off and reaches its context. -/
theorem linePacketRx_context {n : Fin 12} {g : Fin 2} {clk : Nat} {pk : Packet} {rest : List Packet}
    (hrx : (s.grp n g).rx = pk :: rest) (hty : pk.ty = 0x01) (hctx : s.ctxOf n g = some (p, x)) :
    exec (.linePacketRx n g clk) s = .next ((s.rxRest n g rest).linePacket p x pk.payload clk) := by
  rw [exec_linePacketRx]
  unfold execLinePacketRx
  rw [takeRx_front hrx (by simp [hty, pkLine])]
  dsimp only
  rw [show (s.rxRest n g rest).ctxOf n g = some (p, x) from hctx]

/-- What `t` has of a report that context x of pipe p got in state s, taken off what its group had received. -/
structure State.Reported (s : State) (n g p x : Nat) (rest : List Packet) (op data : Nat) (t : State) : Prop where
  rx : (t.grp n g).rx = rest
  op : t.rd (PIPE_CTX_MBOX_REPORT_OP p x) = op % 2 ^ 16
  data : t.rd (PIPE_CTX_MBOX_REPORT_DATA p x) = data % 2 ^ 32
  keeps : s.keeps t ([PIPE_CTX_MBOX_REPORT_OP p x, PIPE_CTX_MBOX_REPORT_DATA p x] ++ faultFlds)
  frame : t = { s with regs := t.regs, zl := t.zl, top := t.top }

theorem report_reported (s : State) (n g p x : Nat) (rest : List Packet) (op data : Nat) :
    s.Reported n g p x rest op data ((s.rxRest n g rest).report p x op data) where
  rx := by rw [(report_inLog ..).grp, grp_setGrp_same]
  op := rd_report_op ..
  data := rd_report_data ..
  keeps := keeps_report (s.rxRest n g rest) p x op data
  frame := by
    rw [(report_inLog ..).eq]
    rfl

/-- A line whose TRIG was launched LINE_TIMEOUT µs ago and which nothing of has arrived is lost (R101 reason 4). -/
theorem lineTimeout_lost {p : Fin 13} {x : Fin 2} {o : OwedLine} {rest : List OwedLine} {t₀ : Nat}
    (howed : (s.px p x).owed = o :: rest) (hlaunch : o.launched = some t₀)
    (hlim : s.rd (PIPE_CTX_LINE_TIMEOUT p x) ≠ 0) (hlate : t₀ + s.rd (PIPE_CTX_LINE_TIMEOUT p x) * 400 ≤ s.now)
    (hasm : (s.px p x).asm = none) : exec (.lineTimeout p x) s = .next (s.lostLine p x o.line 4) := by
  rw [exec_lineTimeout]
  unfold execLineTimeout
  simp only [howed, List.find?_cons, hlaunch, ticksPerUs, hlate, decide_true, hlim, if_false, State.overtaken, hasm,
    lostTimeout]

/-- Settles O18: the packet is taken off, and what is done with it is a lemma of its own above. -/
theorem cameraPacketsReachTheirContext : Obligations.CameraPacketsReachTheirContext := by
  refine ⟨?_, ?_, ?_, ?_, ?_, ?_, ?_⟩
  · intro s n g clk p x pk rest l a b0 b1 hrx hty hctx hserved hspare hb0 hb1 hl hlast hfifo hwork hasm hrun howed hset
      hdepth hfirst hpixels hexp hhdr hused
    have hex := linePacketRx_context (clk := clk) hrx hty hctx
    have hempty : ((s.rxRest n g rest).px p x).fifo = [] := hfifo
    rw [linePacket_whole (s := s.rxRest n g rest) hserved hspare hb0 hb1 hl hlast hfifo hwork hasm howed hset hdepth
      hfirst hpixels hexp hused] at hex
    have ht := takeSamples_entered (s := s.rxRest n g rest) (l := l) (clk := clk)
      (smp := tabulate (3 * bitsAt b1 16 16) (sampleAt (pk.payload.drop 2) (depthBits (bitsAt b1 32 2)))) hhdr
      (by simp [tabulate, hpixels]) hrun (by simp [hempty])
    generalize (s.rxRest n g rest).takeSamples p x a _ 0 _ clk = t at hex ht
    refine ⟨t, hex, ?_, ht.fifo.trans (congrArg (· ++ _) hempty), ht.owed, ht.asm, ?_⟩
    · rw [grp_of_zl ht.zl, grp_setGrp_same]
    · rw [ht.frame]
      rfl
  · intro s p x o rest t₀ howed hlaunch hlim hlate hasm hrun hstats hframes
    obtain ⟨c, d, heq, hd, hdrun⟩ := lostLine_startsRun (l := o.line) (reason := 4) hrun hframes
    have hex := lineTimeout_lost howed hlaunch hlim hlate hasm
    rw [heq] at hex
    have hsettle := settle_inRegs ((s.setPx p x c).setPx p x d) p x o.line
    refine ⟨_, hex, ?_, ?_, ?_, ?_⟩
    · rw [hsettle.px, px_setPx_same, hd, howed]
    · rw [hsettle.px, px_setPx_same, hdrun]
    · exact State.keeps_settle (State.keeps_of_regs rfl _) (by simp)
    · rw [hsettle.eq]
      rfl
  · intro s n g p x pk rest b hrx hty hb hop hecho hctx hmbox
    have hex := statReplyRx_mailbox hrx hty hb hop hecho hctx hmbox
    have ht := mboxReply_replied (s.answered n g rest (bitsAt b 0 16) (bitsAt b 16 16)) p x (bitsAt b 32 8)
      (pk.payload.drop 1)
    generalize (s.answered n g rest _ _).mboxReply p x _ _ = t at hex ht
    refine ⟨t, hex, ?_, ht.mbox, ht.result.trans (bitsAt_mod ..), ht.busy, ht.done, ?_⟩
    · rw [grp_of_zl ht.zl, rx_answered]
    · rw [ht.frame]
      rfl
  · intro s n g p x pk rest hrx hty hop hctx hserved hnone
    have hex := trigErrorReport_served hrx hty hop hctx hserved rfl rfl
    rw [hnone] at hex
    have ht := report_reported s n g p x rest 0x8001 (bitsAt (nth 0 pk.payload 1) 0 32)
    exact ⟨_, hex, ht.rx, ht.op, ht.data.trans (bitsAt_mod ..), ht.keeps, ht.frame⟩
  · intro s n g p x pk rest o hrx hty hop hctx hserved ho
    have hex := trigErrorReport_served hrx hty hop hctx hserved rfl rfl
    rw [ho] at hex
    refine ⟨_, hex, (lostLine_owed ..).trans ?_⟩
    rw [(report_inLog ..).px]
    rfl
  · intro s n g p x pk rest hrx hty hop hctx hserved
    have ht := report_reported s n g p x rest 0x8002 (bitsAt (nth 0 pk.payload 1) 0 32)
    exact ⟨_, camFaultReport_served hrx hty hop hctx hserved, ht.rx, ht.op, ht.data.trans (bitsAt_mod ..), ht.keeps,
      ht.frame⟩
  · intro s p x hidle hblocks htag hport
    obtain ⟨op, tag, arg, data, heq⟩ := mboxSend_sends hidle hblocks htag hport
    have hex : exec (.mboxSend p x) s = .next (s.mboxSend p x) := rfl
    rw [heq] at hex
    have hu := asked_asked s p x
    have ht := sendCtrl_sent (s.asked p x) (s.rd (PIPE_CTRL_PORT p)) x op tag arg data
    generalize (s.asked p x).sendCtrl _ _ _ _ _ _ = t at hex ht
    generalize s.asked p x = u at hu ht
    refine ⟨t, hex, ?_, ?_, ?_, State.keeps_trans hu.keeps ht.keeps, ?_⟩
    · refine (ht.keeps _ ?_).trans hu.busy
      rw [List.forall_mem_singleton]
      refine .inl ?_
      simp only [ZL_CNT_PKT_TX, PIPE_CTX_MBOX_CTRL_BUSY]
      omega
    · rw [← hu.mbox, ht.frame]
      rfl
    · rw [ht.packets, hu.frame]
    · rw [ht.frame, hu.frame]

end Sys2Proof.Machine
end

section
namespace Sys2Proof.Machine
open Sys2Proof

variable {s t u : State} {fs : List Fld} {p x : Nat}

/-! ## The pixel pipes

### COMMIT and CANCEL of a context (R105, R110) -/

/-- The fields that the scheduler may write as it takes an action of a unit. -/
def offerFlds : List Fld :=
  [TIMELINE_SCHED_STATUS_PEAK, TIMELINE_STATUS_SCHED_FULL, TIMELINE_STATUS_MISSED_SLOT] ++ faultFlds

/-- `t` differs from `s` at most in the scheduler's entries of a unit's commits, its flags and the recorder. -/
structure State.Reoffers (s : State) (w : CommitUnit) (t : State) : Prop where
  keeps : s.keeps t offerFlds
  others : t.tl.sched.filter (fun e => !isCommitOf w e.act) = s.tl.sched.filter (fun e => !isCommitOf w e.act)
  tl : t.tl = { s.tl with sched := t.tl.sched }
  frame : t = { s with regs := t.regs, tl := t.tl, top := t.top }

namespace State.Reoffers

variable {w : CommitUnit}

theorem refl (s : State) (w : CommitUnit) : s.Reoffers w s := ⟨State.keeps_refl s _, rfl, rfl, rfl⟩

theorem log (h : s.Reoffers w t) (hk : s.keeps u offerFlds) (hu : t.InLog u) : s.Reoffers w u where
  keeps := hk
  others := by rw [hu.eq, ← h.others]
  tl := by rw [hu.eq, ← h.tl]
  frame := by
    conv_lhs => rw [hu.eq, h.frame]
    rw [hu.eq]

theorem wr (h : s.Reoffers w t) {f v} (hf : f ∈ offerFlds) : s.Reoffers w (t.wr f v) :=
  h.log (State.keeps_wr h.keeps f v hf) (State.InLog.refl t).wr

theorem fault (h : s.Reoffers w t) {source code slots} : s.Reoffers w (t.fault source code slots) :=
  h.log (State.keeps_fault h.keeps _ _ _ fun _ hf => List.mem_append_right _ hf) (State.InLog.refl t).fault

theorem ite {c : Prop} {_ : Decidable c} (h : s.Reoffers w t) (h' : s.Reoffers w u) :
    s.Reoffers w (if c then t else u) := by
  split
  · exact h
  · exact h'

theorem resched (h : s.Reoffers w t) {es : List SchedEntry}
    (hes : es.filter (fun e => !isCommitOf w e.act) = t.tl.sched.filter (fun e => !isCommitOf w e.act)) :
    s.Reoffers w { t with tl := { t.tl with sched := es } } where
  keeps := State.keeps_update h.keeps
  others := hes.trans h.others
  tl := by rw [h.tl]
  frame := by
    conv_lhs => rw [h.frame]

theorem withdrawOpen (h : s.Reoffers w t) : s.Reoffers w (t.withdrawOpen (isCommitOf w)) :=
  h.resched (by
    rw [List.filter_filter]
    refine List.filter_congr fun e _ => ?_
    cases isCommitOf w e.act <;> rfl)

theorem addEntry (h : s.Reoffers w t) {e : SchedEntry} (he : isCommitOf w e.act = true) : s.Reoffers w (t.addEntry e) := by
  unfold State.addEntry State.notePeak
  exact (h.resched (es := t.tl.sched ++ [e]) (by simp [he])).wr (by simp [offerFlds])

theorem offer' (h : s.Reoffers w t) {l slot : Int} : s.Reoffers w (t.offer' (.commit w l) slot) := by
  have hmine : ∀ due late, isCommitOf w (SchedEntry.mk slot (.commit w l) due late).act = true := fun _ _ => by
    simp [isCommitOf]
  unfold State.offer' State.offer
  split
  · exact (h.wr (by simp [offerFlds])).fault
  · split
    · exact State.Reoffers.addEntry (State.Reoffers.fault (h.wr (by simp [offerFlds]))) (hmine ..)
    · exact h.addEntry (hmine ..)

theorem offerCommit (h : s.Reoffers w t) : s.Reoffers w (t.offerCommit w) := by
  unfold State.offerCommit
  refine h.ite (h.ite ?_)
  dsimp only
  split
  · exact h.withdrawOpen.offer'
  · exact h.withdrawOpen

theorem px (h : s.Reoffers w t) (p x : Nat) : t.px p x = s.px p x := px_of_pctx (by rw [h.frame]) p x

end State.Reoffers

theorem withdrawOpen_none {q : Action → Bool} (h : ∀ e ∈ s.tl.sched, (q e.act && e.isOpen s.now) = false) :
    s.withdrawOpen q = s := by
  have hall : s.tl.sched.filter (fun e => !(q e.act && e.isOpen s.now)) = s.tl.sched :=
    List.filter_eq_self.2 fun e he => by simp [h e he]
  unfold State.withdrawOpen
  rw [hall]

/-- Without a COMMIT that waits, the entries of a unit that have not fallen due go. -/
theorem offerCommit_withdraws {w : CommitUnit} (hpend : (s.unitCtx w).pend = []) (hkind : s.boundaryKind w ≠ .page) :
    s.offerCommit w = s.withdrawOpen (isCommitOf w) := by
  unfold State.offerCommit
  simp only [hpend, List.isEmpty_nil, Bool.and_true, Bool.true_or, if_true, Option.map_none, Option.toList_none]
  split
  case isTrue h =>
    have hmine : s.tl.sched.filter (fun e => isCommitOf w e.act) = [] := by simpa [hkind] using h
    refine (withdrawOpen_none fun e he => ?_).symm
    simp [List.filter_eq_nil_iff.1 hmine e he]
  case isFalse h =>
    split
    case isTrue hopen =>
      refine (withdrawOpen_none fun e he => ?_).symm
      have := List.filter_eq_nil_iff.1 (List.map_eq_nil_iff.1 hopen) e
      simpa [he] using this
    case isFalse hopen => rfl

theorem boundaryKind_pipe (s : State) (p x : Nat) : s.boundaryKind (.pipe p x) ≠ .page := by
  unfold State.boundaryKind
  dsimp only
  split <;> simp

end Sys2Proof.Machine
end

section
namespace Sys2Proof.Machine
open Sys2Proof

variable {s t u : State} {fs : List Fld} {p x : Nat}

/-- The commit state of a context is replaced, and what is shown of it. -/
def State.recommit (s : State) (p x : Nat) (c : CommitCtx) : State :=
  (s.setPx p x { s.px p x with commit := c }).updCtx p x

theorem px_recommit (s : State) (p x : Nat) (c : CommitCtx) :
    (s.recommit p x c).px p x = { s.px p x with commit := c } :=
  ((updCtx_inRegs ..).px p x).trans (px_setPx_same ..)

theorem keeps_recommit (s : State) (p x : Nat) (c : CommitCtx) : s.keeps (s.recommit p x c) (ctxFlds p x) :=
  State.keeps_updCtx (State.keeps_of_regs rfl _) fun _ hf => hf

theorem rd_recommit_pending (s : State) (p x : Nat) (c : CommitCtx) :
    (s.recommit p x c).rd (PIPE_CTX_STATUS_COMMIT_PENDING p x) = b2n (!c.pend.isEmpty) := by
  unfold State.recommit
  rw [rd_updCtx_pending, px_setPx_same]

theorem recommit_frame (s : State) (p x : Nat) (c : CommitCtx) : s.recommit p x c =
    { s with regs := (s.recommit p x c).regs, pctx := (s.recommit p x c).pctx } :=
  (updCtx_inRegs ..).after_ctx rfl

/-- The scheduler writes no field of a context. -/
theorem offerFlds_apart {f : Fld} (h : 0x200000 ≤ f.off) : ∀ g ∈ offerFlds, g.apart f := by
  intro g hg
  have hlow : g.off * 8 + g.lsb + g.w ≤ 0x200000 * 8 := by
    revert g
    decide
  exact .inl (by omega)

/-- The newest COMMIT is recorded last. -/
theorem record_pend (c : CommitCtx) (tick : Nat) (base : Option Nat) :
    (c.record tick base).pend.getLast? = some ⟨tick⟩ := by
  simp [CommitCtx.record]

theorem ctxCommit_eq (s : State) (p x : Nat) : s.ctxCommit p x = (s.recommit p x ((s.px p x).commit.record s.now
    (some (s.rd (PIPE_CTX_TABLE_BASE p x))))).offerCommit (.pipe p x) := rfl

theorem ctxCancel_eq (s : State) (p x : Nat) : s.ctxCancel p x =
    (s.recommit p x (s.px p x).commit.cancel).withdrawOpen (isCommitOf (.pipe p x)) := by
  refine (offerCommit_withdraws ?_ (boundaryKind_pipe _ p x) : (s.recommit p x _).offerCommit _ = _)
  exact congrArg (fun c : PipeCtx => c.commit.pend) (px_recommit ..)

/-! ### Lines through a pipe (R113, R120) -/

/-- A free pipe starts the line that arrived first, with the set that is in force for it. -/
theorem pipeLineStart_starts {p : Fin 13} {clk : Nat} {a : ArrLine} {m : SettingsSet} (hfree : (s.pipe p).freeAt ≤ clk)
    (hpick : s.pickCtx p clk = some (x, a)) (hset : (s.px p x).commit.setFor a.line = some m) :
    ∃ (c : PipeCtx) (k : Pipe), exec (.pipeLineStart p clk) s = .next (((s.setPx p x c).updCtx p x).setPipe p k) ∧
      c.fifo = (s.px p x).fifo.drop 1 ∧
      (∃ st sat, k.work = (s.pipe p).work ++ [⟨x, a.line, clk, (correctLine m p x a).2, st, sat⟩]) ∧
      k.freeAt = clk + (m.rd (PIPE_CTX_CFG_PIXELS p x) + 7) / 8 := by
  rw [exec_pipeLineStart]
  unfold execPipeLineStart
  dsimp only
  rw [if_neg (Nat.not_lt.2 hfree), hpick]
  dsimp only
  rw [hset]
  exact ⟨_, _, rfl, rfl, ⟨_, _, rfl⟩, rfl⟩

/-- The last pixels of the oldest line leave for the stitcher. -/
theorem pipeLineDone_leaves {p : Fin 13} {clk : Nat} {w : WorkLine} {rest : List WorkLine}
    (hwork : (s.pipe p).work = w :: rest) (hclk : w.clk + 96 + (w.pixels.length + 7) / 8 ≤ clk + 1) :
    ∃ (u : State) (k : Nat) (l : Int) (px : List (Nat × Nat × Nat)),
      exec (.pipeLineDone p clk) s = .next ((((u.setPipe p { s.pipe p with work := rest }).settle p w.ctx
      w.line).closeStats p w.ctx).seamArrive k l px) := by
  rw [exec_pipeLineDone]
  unfold execPipeLineDone
  dsimp only
  rw [hwork]
  dsimp only
  rw [if_neg (by omega)]
  exact ⟨_, _, _, _, rfl⟩

/-! ### Enabling (R99) -/

/-- A write of PIPEp_CTRL that is not rejected, of a pipe that has not failed. -/
theorem pipeCtrl_accepted {en : Bool} {port : Nat} (hspare : p ≠ 12) (hport : port < 12 ∨ port = 15)
    (hfree : ∀ q ∈ List.range 13, q ≠ p → s.on (PIPE_CTRL_EN q) = true → s.rd (PIPE_CTRL_PORT q) ≠ port)
    (hstate : s.rd (PIPE_STATUS_STATE p) ≠ pipeFailed) (h7 : s.mode ≠ 7) (h8 : s.mode ≠ 8) :
    s.pipeCtrl p en port = ((s.wr (PIPE_CTRL_EN p) (b2n en)).wr (PIPE_CTRL_PORT p) port).wr (PIPE_STATUS_STATE p)
      (if en then pipeServing else pipeIdle) := by
  have htaken : ((List.range 13).any fun q =>
      q != p && s.on (PIPE_CTRL_EN q) && s.rd (PIPE_CTRL_PORT q) == port && decide (port < 12)) = false := by
    refine List.any_eq_false.2 fun q hq => ?_
    by_cases hqp : q = p
    · simp [hqp]
    · by_cases hen : s.on (PIPE_CTRL_EN q) = true
      · simp [hfree q hq hqp hen]
      · simp [hen]
  have hshown : ((s.wr (PIPE_CTRL_EN p) (b2n en)).wr (PIPE_CTRL_PORT p) port).rd (PIPE_STATUS_STATE p) =
      s.rd (PIPE_STATUS_STATE p) :=
    (rd_wr_apart _ _ _ _ Fld.apart_element).trans (rd_wr_apart _ _ _ _ Fld.apart_element)
  have hreserved : (decide (12 ≤ port) && decide (port ≤ 14)) = false := by
    simp only [Bool.and_eq_false_iff, decide_eq_false_iff_not]
    omega
  have hmode : ∀ v, (((s.wr (PIPE_CTRL_EN p) (b2n en)).wr (PIPE_CTRL_PORT p) port).wr (PIPE_STATUS_STATE p) v).mode =
      s.mode := fun v =>
    (rd_mode_wr _ _ _ (show 0x100000 ≤ 0x200004 + 0x10000 * p by omega)).trans
      ((rd_mode_wr _ _ _ (show 0x100000 ≤ 0x200000 + 0x10000 * p by omega)).trans
        (rd_mode_wr _ _ _ (show 0x100000 ≤ 0x200000 + 0x10000 * p by omega)))
  unfold State.pipeCtrl
  dsimp only
  rw [htaken, hreserved, if_neg (by simp [hspare]), hshown, if_neg hstate, recheck_elsewhere (by rw [hmode]; exact h7)
    (by rw [hmode]; exact h8)]

theorem pipeCtrl_spare (s : State) (en : Bool) (port : Nat) : s.pipeCtrl 12 en port =
    s.reject (PIPE_STATUS_CFG_REJECT 12) (srcPipe 12) (PIPE_CTRL 12).off (b2n en + port * 2) := by
  simp [State.pipeCtrl]

/-! ### Memory errors (R129) -/

/-- A memory error is flagged and recorded. -/
def State.memError (s : State) (p : Nat) (f : Fld) (slots : List Nat) : State :=
  (s.set1 f).fault (srcPipe p) 0x2010 slots

theorem pipeSram_corrected (s : State) (p : Fin 13) (bank : Fin 3) (off : Nat) : ∃ slots,
    exec (.pipeSram p false bank off) s = .next (s.memError p (PIPE_STATUS_SRAM_CORR p) slots) := ⟨_, rfl⟩

theorem keeps_memError (s : State) (p : Nat) (f : Fld) (slots : List Nat) :
    s.keeps (s.memError p f slots) (f :: faultFlds) :=
  State.keeps_fault (State.keeps_set1 (State.keeps_refl s _) (by simp)) _ _ _ fun _ hf => List.mem_cons_of_mem _ hf

theorem memError_inLog (s : State) (p : Nat) (f : Fld) (slots : List Nat) : s.InLog (s.memError p f slots) :=
  (State.InLog.refl s).wr.fault

/-- A flag of a pipe's status reads back. -/
theorem rd_memError_flag (s : State) (p lsb : Nat) (slots : List Nat) (h : lsb < 32 := by decide) :
    (s.memError p ⟨0x200004 + 0x10000 * p, lsb, 1⟩ slots).rd ⟨0x200004 + 0x10000 * p, lsb, 1⟩ = 1 :=
  (rd_fault _ _ _ _ _ (faultFlds_apart (by dsimp only; omega))).trans (rd_wr_flag _ _ lsb true h)

/-- What `t` has of an uncorrected error of pipe p in state s that leaves it failed. -/
structure State.FailedPipe (s : State) (p : Nat) (t : State) : Prop where
  flag : t.rd (PIPE_STATUS_SRAM_UNCORR p) = 1
  state : t.rd (PIPE_STATUS_STATE p) = pipeFailed
  log : s.InLog t

/-- A pipe that is not in service fails without a handover. -/
theorem pipeSram_fails {p : Fin 13} (hstate : s.rd (PIPE_STATUS_STATE p) ≠ pipeServing) (bank : Fin 3) (off : Nat) :
    ∃ t, exec (.pipeSram p true bank off) s = .next t ∧ s.FailedPipe p t := by
  obtain ⟨slots, hslots⟩ : ∃ slots, slots = slot1 p ++ slot1 (b2n true) ++ slot1 bank.val ++ slot1 off := ⟨_, rfl⟩
  have hshown : (s.memError p (PIPE_STATUS_SRAM_UNCORR p) slots).rd (PIPE_STATUS_STATE p) =
      s.rd (PIPE_STATUS_STATE p) := by
    refine keeps_memError _ _ _ _ _ (List.forall_mem_cons.2 ⟨Fld.apart_element, faultFlds_apart ?_⟩)
    simp only [PIPE_STATUS_STATE]
    omega
  have hflag : (s.memError p (PIPE_STATUS_SRAM_UNCORR p) slots).rd (PIPE_STATUS_SRAM_UNCORR p) = 1 :=
    rd_memError_flag s p 3 slots
  have hlog := memError_inLog s p (PIPE_STATUS_SRAM_UNCORR p) slots
  have hex : exec (.pipeSram p true bank off) s =
      if (s.memError p (PIPE_STATUS_SRAM_UNCORR p) slots).rd (PIPE_STATUS_STATE p) = pipeServing then
        .next ((s.memError p (PIPE_STATUS_SRAM_UNCORR p) slots).pipeFail p)
      else if (s.memError p (PIPE_STATUS_SRAM_UNCORR p) slots).rd (PIPE_STATUS_STATE p) = pipeFailed then
        .next (s.memError p (PIPE_STATUS_SRAM_UNCORR p) slots)
      else .next ((s.memError p (PIPE_STATUS_SRAM_UNCORR p) slots).wr (PIPE_STATUS_STATE p) pipeFailed).updPipeSpare :=
    hslots ▸ rfl
  rw [hshown, if_neg hstate] at hex
  rw [← hshown] at hex
  generalize s.memError p (PIPE_STATUS_SRAM_UNCORR p) slots = u at hex hflag hlog
  by_cases hfailed : u.rd (PIPE_STATUS_STATE p) = pipeFailed
  · exact ⟨u, hex.trans (if_pos hfailed), hflag, hfailed, hlog⟩
  · refine ⟨_, hex.trans (if_neg hfailed), ?_, ?_, hlog.wr.wr⟩
    · calc
        _ = _ := rd_wr_apart _ _ _ _ (Fld.apart.symm Fld.apart_below)
        _ = _ := rd_wr_apart _ _ _ _ Fld.apart_element
        _ = 1 := hflag
    · calc
        _ = _ := rd_wr_apart _ _ _ _ (Fld.apart.symm Fld.apart_below)
        _ = _ := rd_wr_same u (PIPE_STATUS_STATE p) pipeFailed (by simp [PIPE_STATUS_STATE])

/-! ### Self-tests (R128, R295) -/

theorem spareSelfTest_pipe {pass : Bool} (h : s.rd (PIPE_STATUS_STATE 12) = pipeSpareReady) :
    exec (.spareSelfTest none pass) s =
      .next (s.wr (PIPE_STATUS_STATE 12) (if pass then pipeSpareReady else pipeFailed)).updPipeSpare := by
  rw [exec_spareSelfTest]
  simp [execSpareSelfTest, h]

theorem spareSelfTest_nib {q : Fin 12} {pass : Bool} (h : s.rd (QUILL_STATUS_SPARE_SLOT q) < 17) : ∃ v,
    exec (.spareSelfTest (some q) pass) s =
      .next ((s.wr (QUILL_SLOT_STATUS_STATE q (s.rd (QUILL_STATUS_SPARE_SLOT q))) v).wr (quillSpareF q) (b2n pass)) := by
  rw [exec_spareSelfTest]
  exact ⟨_, if_pos h⟩

end Sys2Proof.Machine
end

section
namespace Sys2Proof.Machine
open Sys2Proof

variable {s t u : State} {fs : List Fld} {p x : Nat}

/-! ### The handover to pipe 12 (R128) -/

/-- Every register below `lo` or from `hi` on reads in `t` as in `s`. -/
def State.KeepsOutside (s : State) (lo hi : Nat) (t : State) : Prop := ∀ o, o < lo ∨ hi ≤ o → t.reg o = s.reg o

namespace State.KeepsOutside

variable {lo hi : Nat}

theorem refl (s : State) (lo hi : Nat) : s.KeepsOutside lo hi s := fun _ _ => rfl

theorem trans (h : s.KeepsOutside lo hi t) (h' : t.KeepsOutside lo hi u) : s.KeepsOutside lo hi u :=
  fun o ho => (h' o ho).trans (h o ho)

theorem setReg (h : s.KeepsOutside lo hi t) {off : Nat} {v : Word} (hoff : lo ≤ off ∧ off < hi) :
    s.KeepsOutside lo hi (t.setReg off v) := h.trans fun o ho => by
  rw [reg_setReg, if_neg (by omega)]

theorem wr (h : s.KeepsOutside lo hi t) {f v} (hoff : lo ≤ f.off ∧ f.off < hi) (hw : f.lsb + f.w ≤ 32) :
    s.KeepsOutside lo hi (t.wr f v) := h.trans fun o ho => reg_wr_ne t f v o (by omega) (.inl hw)

/-- A field of one register outside. -/
theorem rd (h : s.KeepsOutside lo hi t) {f : Fld} (hoff : f.off < lo ∨ hi ≤ f.off) (hw : f.lsb + f.w ≤ 32) :
    t.rd f = s.rd f := by
  simp only [State.rd, State.fieldReg, hw, if_true, h f.off hoff]

end State.KeepsOutside

theorem spFind_filter {α : Type} {q : Nat → Bool} {j : Nat} (hq : q j = true) (m : Sparse α) :
    spFind (m.filter fun e => q e.1) j = spFind m j := by
  induction m with
  | nil => rfl
  | cons e m ih =>
    obtain ⟨k, v⟩ := e
    by_cases hk : q k = true
    · rw [List.filter_cons_of_pos (by exact hk)]
      simp only [spFind, ih]
    · have hne : k ≠ j := fun h => hk (h ▸ hq)
      rw [List.filter_cons_of_neg (by exact hk), ih]
      simp [spFind, hne]

theorem spGet_spClear {α : Type} [DecidableEq α] (d : Nat → α) (m : Sparse α) {lo hi j : Nat} (h : j < lo ∨ hi ≤ j) :
    spGet d (spClear m lo hi) j = spGet d m j := by
  unfold spGet spClear
  rw [spFind_filter (q := fun k => decide (k < lo) || decide (hi ≤ k)) (by simpa using h)]

/-- The offset of the registers of context x of pipe 12. -/
def spareCtx (x : Nat) : Nat := 0x2C0100 + 0x200 * x

/-- What pipe 12's taking over context x of pipe p, which holds no set, changes. -/
structure State.Took (s : State) (p x : Nat) (t : State) : Prop where
  regs : s.KeepsOutside (spareCtx x) (spareCtx x + 0x200) t
  other : ∀ y < 2, x ≠ y → t.px p y = s.px p y
  frame : t = { s with regs := t.regs, pctx := t.pctx, tl := t.tl }

theorem updCtx_keepsOutside (s : State) (x : Nat) :
    s.KeepsOutside (spareCtx x) (spareCtx x + 0x200) (s.updCtx 12 x) := by
  have hoff : spareCtx x ≤ 0x200108 + 0x10000 * 12 + 0x200 * x ∧
      0x200108 + 0x10000 * 12 + 0x200 * x < spareCtx x + 0x200 := by
    unfold spareCtx
    omega
  have hw : ∀ lsb w : Nat, lsb + w ≤ 15 → lsb + w ≤ 32 := fun _ _ h => by omega
  exact ((((State.KeepsOutside.refl s _ _).wr hoff (hw 0 1 (by decide))).wr hoff (hw 1 1 (by decide))).wr hoff
    (hw 2 1 (by decide))).wr hoff (hw 13 2 (by decide))

/-- The registers of context x of pipe 12 become those of pipe p's. -/
def State.moveCtx (s : State) (p x : Nat) : State :=
  (s.regs.filter fun e => decide ((PIPE_CTX_CFG p x).off ≤ e.1) && decide (e.1 < (PIPE_CTX_CFG p x).off + 0x200)).foldl
    (fun s e => s.setReg (e.1 + (12 - p) * 0x10000) e.2)
    { s with regs := spClear s.regs ((PIPE_CTX_CFG p x).off + (12 - p) * 0x10000)
                       ((PIPE_CTX_CFG p x).off + (12 - p) * 0x10000 + 0x200) }

theorem moveCtx_inRegs (s : State) (p x : Nat) : s.InRegs (s.moveCtx p x) :=
  State.InRegs.foldl (show s.InRegs { s with regs := _ } from rfl) fun _ _ h => h.trans rfl

theorem moveCtx_keepsOutside (s : State) (x : Nat) (hp : p ≤ 12) :
    s.KeepsOutside (spareCtx x) (spareCtx x + 0x200) (s.moveCtx p x) := by
  have hlo : (PIPE_CTX_CFG p x).off + (12 - p) * 0x10000 = spareCtx x := by
    simp only [PIPE_CTX_CFG, spareCtx]
    omega
  unfold State.moveCtx
  rw [hlo]
  refine List.foldlRecOn _ _ (motive := fun u => s.KeepsOutside (spareCtx x) (spareCtx x + 0x200) u)
    (fun o ho => spGet_spClear _ _ ho) fun u hu e he => hu.setReg ?_
  have hin := (List.mem_filter.1 he).2
  simp only [Bool.and_eq_true, decide_eq_true_eq] at hin
  omega

/-- The sets of context x of pipe p, of which there are none, and its commits' entries go to pipe 12. -/
def State.moveSets (s : State) (p x : Nat) (c : PipeCtx) (tl : Timeline) : State :=
  ({ s.setPx 12 x c with tl := tl } : State).setPx p x {}

theorem refetch_none (s : State) (x : Nat) : s.refetch x none = (none, s) := rfl

theorem takeCtx_eq (hactive : (s.px p x).commit.active = none) (hprevious : (s.px p x).commit.previous = none) :
    ∃ c tl, s.takeCtx p x = ((s.moveCtx p x).moveSets p x c tl).updCtx 12 x := by
  have hpx : (s.moveCtx p x).px p x = s.px p x := (moveCtx_inRegs s p x).px p x
  have hactive' : ((s.moveCtx p x).px p x).commit.active.map (moveSet p) = none := by rw [hpx, hactive, Option.map_none]
  have hprevious' : ((s.moveCtx p x).px p x).commit.previous.map (moveSet p) = none := by
    rw [hpx, hprevious, Option.map_none]
  unfold State.takeCtx
  extract_lets lo mine s₁ s₂ c a b
  have ha : a = (none, s.moveCtx p x) := (congrArg ((s.moveCtx p x).refetch x) hactive').trans (refetch_none ..)
  have hb : b = a.2.refetch x none := congrArg (a.2.refetch x) hprevious'
  clear_value a b
  subst ha hb
  exact ⟨_, _, rfl⟩

theorem takeCtx_took (hp : p < 12) (hx : x < 2) (hactive : (s.px p x).commit.active = none)
    (hprevious : (s.px p x).commit.previous = none) : s.Took p x (s.takeCtx p x) := by
  obtain ⟨c, tl, heq⟩ := takeCtx_eq hactive hprevious
  have hmoved := moveCtx_inRegs s p x
  have hout := moveCtx_keepsOutside s x (Nat.le_of_lt hp)
  rw [heq]
  generalize s.moveCtx p x = v at hmoved hout
  have hshown := updCtx_inRegs (v.moveSets p x c tl) 12 x
  have hkept := updCtx_keepsOutside (v.moveSets p x c tl) x
  have hsets : v.KeepsOutside (spareCtx x) (spareCtx x + 0x200) (v.moveSets p x c tl) := fun _ _ => rfl
  refine ⟨(hout.trans hsets).trans hkept, fun y hy hne => ?_, ?_⟩
  · have hother : (v.moveSets p x c tl).px p y = v.px p y :=
      (px_setPx_ne _ (by omega)).trans (px_setPx_ne c (by omega))
    rw [hshown.px, hother, hmoved.px]
  · have hframe : v.moveSets p x c tl = { v with pctx := (v.moveSets p x c tl).pctx, tl := (v.moveSets p x c tl).tl } :=
      rfl
    generalize v.moveSets p x c tl = w at hshown hframe
    rw [hshown.eq, hframe, hmoved.eq]

end Sys2Proof.Machine
end

section
namespace Sys2Proof.Machine
open Sys2Proof

variable {s t u : State} {fs : List Fld} {p x : Nat}

theorem State.KeepsOutside.mono {lo hi lo' hi' : Nat} (h : s.KeepsOutside lo hi t) (hlo : lo' ≤ lo) (hhi : hi ≤ hi') :
    s.KeepsOutside lo' hi' t := fun o ho => h o (by omega)

/-- What pipe 12's taking over both contexts of pipe p, which hold no set, changes. -/
structure State.TookBoth (s t : State) : Prop where
  regs : s.KeepsOutside 0x2C0100 0x2C0500 t
  frame : t = { s with regs := t.regs, pctx := t.pctx, tl := t.tl }

theorem takeCtx_both (hp : p < 12)
    (hsets : ∀ x ∈ List.range 2, (s.px p x).commit.active = none ∧ (s.px p x).commit.previous = none) :
    s.TookBoth ([0, 1].foldl (fun s x => s.takeCtx p x) s) := by
  obtain ⟨hactive₀, hprevious₀⟩ := hsets 0 (by decide)
  obtain ⟨hactive₁, hprevious₁⟩ := hsets 1 (by decide)
  have h₀ := takeCtx_took hp (by decide : 0 < 2) hactive₀ hprevious₀
  have hpx := h₀.other 1 (by decide) (by decide)
  rw [List.foldl_cons, List.foldl_cons, List.foldl_nil]
  generalize s.takeCtx p 0 = v at h₀ hpx
  have h₁ := takeCtx_took (s := v) hp (by decide : 1 < 2) (hpx ▸ hactive₁) (hpx ▸ hprevious₁)
  generalize v.takeCtx p 1 = w at h₁
  refine ⟨(h₀.regs.mono (by decide) (by decide)).trans (h₁.regs.mono (by decide) (by decide)), ?_⟩
  rw [h₁.frame, h₀.frame]

/-- Pipe 12 shows that it serves the port of pipe p, which is done with. -/
def State.spareIn (s : State) (p : Nat) : State :=
  (((((s.setPipe p {}).wr (PIPE_CTRL_PORT 12) (s.rd (PIPE_CTRL_PORT p))).wr (PIPE_CTRL_EN 12) 1).wr
    (PIPE_STATUS_SPARED_FROM 12) p).wr (PIPE_STATUS_STATE 12) pipeServing)

theorem spareIn_inRegs (s : State) (p : Nat) : (s.setPipe p {}).InRegs (s.spareIn p) :=
  (State.InRegs.refl (s.setPipe p {})).wr.wr.wr.wr

theorem pipeSpared_hands {p : Fin 12} {t₀ : Nat} (h : (s.pipe p).failedAt = some t₀) : ∃ slots,
    exec (.pipeSpared p) s = .next ((([0, 1].foldl (fun s x => s.takeCtx p x) (s.spareIn p)).updPipeSpare.fault
      (srcPipe p) 0x2011 slots).recheck) := by
  rw [exec_pipeSpared]
  unfold execPipeSpared
  dsimp only
  rw [h]
  exact ⟨_, rfl⟩

/-- What `t` has of the handover of pipe p to pipe 12 in state s. -/
structure State.HandedOver (s : State) (p : Nat) (t : State) : Prop where
  port : t.rd (PIPE_CTRL_PORT 12) = s.rd (PIPE_CTRL_PORT p)
  en : t.rd (PIPE_CTRL_EN 12) = 1
  state : t.rd (PIPE_STATUS_STATE 12) = pipeServing
  sparedFrom : t.rd (PIPE_STATUS_SPARED_FROM 12) = p
  failedAt : (t.pipe p).failedAt = none
  mode : t.mode = s.mode
  frame : t = { s with regs := t.regs, pctx := t.pctx, pipes := t.pipes, top := t.top, tl := t.tl }

theorem spareIn_handedOver (hp : p < 12) : s.HandedOver p (s.spareIn p) := by
  have hregs := spareIn_inRegs s p
  refine ⟨?_, ?_, ?_, ?_, ?_, ?_, ?_⟩
  · unfold State.spareIn
    rw [rd_wr_apart _ _ _ _ (by decide), rd_wr_apart _ _ _ _ (by decide), rd_wr_apart _ _ _ _ (by decide),
      rd_wr_same _ _ _ (by decide)]
    exact Nat.mod_eq_of_lt (rd_lt s (PIPE_CTRL_PORT p))
  · unfold State.spareIn
    rw [rd_wr_apart _ _ _ _ (by decide), rd_wr_apart _ _ _ _ (by decide), rd_wr_same _ _ _ (by decide)]
    decide
  · unfold State.spareIn
    rw [rd_wr_same _ _ _ (by decide)]
    decide
  · unfold State.spareIn
    rw [rd_wr_apart _ _ _ _ (by decide), rd_wr_same _ _ _ (by decide)]
    exact Nat.mod_eq_of_lt (show p < 16 by omega)
  · rw [hregs.eq]
    exact congrArg Pipe.failedAt (pipe_setPipe_same s p {})
  · unfold State.spareIn
    rw [rd_mode_wr _ _ _ (by decide), rd_mode_wr _ _ _ (by decide), rd_mode_wr _ _ _ (by decide),
      rd_mode_wr _ _ _ (by decide)]
    rfl
  · rw [hregs.eq]
    rfl

namespace State.HandedOver

/-- Where the fields that the handover shows and the mode stay, so does the rest. -/
theorem keeps (h : s.HandedOver p t) (hrd : ∀ f ∈ [PIPE_CTRL_PORT 12, PIPE_CTRL_EN 12, PIPE_STATUS_STATE 12,
    PIPE_STATUS_SPARED_FROM 12, TOP_MODE_MODE], u.rd f = t.rd f)
    (hframe : u = { t with regs := u.regs, pctx := u.pctx, top := u.top, tl := u.tl }) : s.HandedOver p u := by
  simp only [List.forall_mem_cons] at hrd
  obtain ⟨hport, hen, hstate, hfrom, hmode, -⟩ := hrd
  refine ⟨hport.trans h.port, hen.trans h.en, hstate.trans h.state, hfrom.trans h.sparedFrom, ?_, hmode.trans h.mode, ?_⟩
  · rw [pipe_of_pipes (by rw [hframe])]
    exact h.failedAt
  · rw [hframe, h.frame]

theorem tookBoth (h : s.HandedOver p t) (hu : t.TookBoth u) : s.HandedOver p u :=
  h.keeps (fun f hf => hu.regs.rd (by revert f; decide) (by revert f; decide)) (by rw [hu.frame])

theorem log (h : s.HandedOver p t) (hu : t.InLog u) (hrd : ∀ f ∈ [PIPE_CTRL_PORT 12, PIPE_CTRL_EN 12,
    PIPE_STATUS_STATE 12, PIPE_STATUS_SPARED_FROM 12, TOP_MODE_MODE], u.rd f = t.rd f) : s.HandedOver p u :=
  h.keeps hrd (by rw [hu.eq])

theorem updPipeSpare (h : s.HandedOver p t) : s.HandedOver p t.updPipeSpare :=
  h.log (State.InLog.refl t).wr fun f hf => rd_wr_apart _ _ _ _ (by revert f; decide)

theorem fault (h : s.HandedOver p t) {source code slots} : s.HandedOver p (t.fault source code slots) :=
  h.log (State.InLog.refl t).fault fun f hf => rd_fault _ _ _ _ _ (by revert f; decide)

end State.HandedOver

/-- The handover of pipe p completes outside the modes that follow R438. -/
theorem pipeSpared_handedOver {p : Fin 12} {t₀ : Nat} (hfailed : (s.pipe p).failedAt = some t₀) (h7 : s.mode ≠ 7)
    (h8 : s.mode ≠ 8)
    (hsets : ∀ x ∈ List.range 2, (s.px p x).commit.active = none ∧ (s.px p x).commit.previous = none) :
    ∃ t, exec (.pipeSpared p) s = .next t ∧ s.HandedOver p t := by
  obtain ⟨slots, hex⟩ := pipeSpared_hands hfailed
  have hin : s.HandedOver p (s.spareIn p) := spareIn_handedOver p.isLt
  have hsets' : ∀ x ∈ List.range 2, ((s.spareIn p).px p x).commit.active = none ∧
      ((s.spareIn p).px p x).commit.previous = none := fun x hx => (spareIn_inRegs s p).px p x ▸ hsets x hx
  have ht : s.HandedOver p _ := ((hin.tookBoth (takeCtx_both p.isLt hsets')).updPipeSpare.fault
    (source := srcPipe p) (code := 0x2011) (slots := slots))
  rw [recheck_elsewhere (by rw [ht.mode]; exact h7) (by rw [ht.mode]; exact h8)] at hex
  exact ⟨_, hex, ht⟩

end Sys2Proof.Machine
end

section
namespace Sys2Proof.Machine
open Sys2Proof

variable {s t u : State} {fs : List Fld} {p x : Nat}

/-! ### What the commands of a pipe serve -/

/-- What `t` has of a COMMIT of context x of pipe p in state s. -/
structure State.Committed (s : State) (p x : Nat) (t : State) : Prop where
  pend : (t.px p x).commit.pend.getLast? = some ⟨s.now⟩
  fetch : (t.px p x).commit.fetch = some (s.now, s.rd (PIPE_CTX_TABLE_BASE p x))
  active : (t.px p x).commit.active = (s.px p x).commit.active
  pending : t.rd (PIPE_CTX_STATUS_COMMIT_PENDING p x) = 1
  keeps : s.keeps t (ctxFlds p x ++ offerFlds)
  tl : t.tl = { s.tl with sched := t.tl.sched }
  others : t.tl.sched.filter (fun e => !isCommitOf (.pipe p x) e.act) =
    s.tl.sched.filter (fun e => !isCommitOf (.pipe p x) e.act)
  frame : t = { s with regs := t.regs, pctx := t.pctx, tl := t.tl, top := t.top }

theorem pending_above (p x : Nat) : 0x200000 ≤ (PIPE_CTX_STATUS_COMMIT_PENDING p x).off := by
  simp only [PIPE_CTX_STATUS_COMMIT_PENDING]
  omega

theorem ctxCommit_committed (s : State) (p x : Nat) : s.Committed p x (s.ctxCommit p x) := by
  obtain ⟨c, hc⟩ : ∃ c, c = (s.px p x).commit.record s.now (some (s.rd (PIPE_CTX_TABLE_BASE p x))) := ⟨_, rfl⟩
  have hlast : c.pend.getLast? = some ⟨s.now⟩ := hc ▸ record_pend ..
  have hne : c.pend.isEmpty = false := by
    cases hpend : c.pend with
    | nil => simp [hpend] at hlast
    | cons _ _ => rfl
  have hpx := px_recommit s p x c
  have hkept := keeps_recommit s p x c
  have hpending := rd_recommit_pending s p x c
  have hframe := recommit_frame s p x c
  have ht := (State.Reoffers.refl (s.recommit p x c) (.pipe p x)).offerCommit
  rw [ctxCommit_eq, ← hc]
  generalize s.recommit p x c = u at hpx hkept hpending hframe ht
  generalize u.offerCommit (.pipe p x) = t at ht
  have hctx := (ht.px p x).trans hpx
  refine ⟨?_, ?_, ?_, ?_, State.keeps_trans hkept ht.keeps, ?_, ?_, ?_⟩
  · rw [hctx]
    exact hlast
  · rw [hctx, hc]
    rfl
  · rw [hctx, hc]
    rfl
  · rw [ht.keeps _ (offerFlds_apart (pending_above p x)), hpending, hne]
    rfl
  · rw [ht.tl, hframe]
  · rw [ht.others, hframe]
  · rw [ht.frame, hframe]

/-- What `t` has of a CANCEL of context x of pipe p in state s. -/
structure State.Cancelled (s : State) (p x : Nat) (t : State) : Prop where
  commit : (t.px p x).commit = (s.px p x).commit.cancel
  pending : t.rd (PIPE_CTX_STATUS_COMMIT_PENDING p x) = 0
  tl : t.tl = { s.tl with sched := s.tl.sched.filter (fun e => !(isCommitOf (.pipe p x) e.act && e.isOpen s.now)) }
  frame : t = { s with regs := t.regs, pctx := t.pctx, tl := t.tl }

theorem ctxCancel_cancelled (s : State) (p x : Nat) : s.Cancelled p x (s.ctxCancel p x) := by
  have hpx := px_recommit s p x (s.px p x).commit.cancel
  have hpending := rd_recommit_pending s p x (s.px p x).commit.cancel
  have hframe := recommit_frame s p x (s.px p x).commit.cancel
  rw [ctxCancel_eq]
  generalize s.recommit p x (s.px p x).commit.cancel = u at hpx hpending hframe
  refine ⟨congrArg PipeCtx.commit hpx, hpending, ?_, ?_⟩
  · rw [hframe]
    rfl
  · rw [hframe]
    rfl

/-- A table image that passes its checks waits for its COMMIT's boundary. -/
theorem tableFetchDone_completes {p : Fin 13} {x : Fin 2} {t₀ base : Nat} {m : Sparse Nat}
    (hfetch : (s.px p x).commit.fetch = some (t₀, base))
    (htable : s.fetchTable base (s.rd (PIPE_CTX_CFG_PIXELS p x)) = (.ok m, u)) : ∃ c : PipeCtx,
    exec (.tableFetchDone p x) s = .next ((u.setPx p x c).updCtx p x) ∧ c.commit.image = some (t₀, m) ∧
      c.commit.fetch = none := by
  refine ⟨{ s.px p x with commit := { (s.px p x).commit with fetch := none, image := some (t₀, m) } }, ?_, rfl, rfl⟩
  rw [exec_tableFetchDone]
  unfold execTableFetchDone
  obtain ⟨F, hF⟩ := exists_eq' (a' := State.fetchTable)
  rw [hF] at htable ⊢
  dsimp only
  rw [hfetch]
  dsimp only
  rw [htable]

/-- Settles O19: commits, fetches, lines, errors, the handover and the self-tests have a lemma each above. -/
theorem pipeCommandsServeCommitAndSpare : Obligations.PipeCommandsServeCommitAndSpare := by
  refine ⟨?_, ?_, ?_, ?_, ?_, ?_, ?_, ?_, ?_, ?_, ?_, ?_⟩
  · intro s p en port hspare hport hfree hstate h7 h8
    refine ⟨_, congrArg Host.Outcome.next (pipeCtrl_accepted hspare hport hfree hstate h7 h8), ?_, ?_, ?_, ?_, ?_⟩
    · calc
        _ = _ := rd_wr_apart _ _ _ _ Fld.apart_element
        _ = _ := rd_wr_apart _ _ _ _ Fld.apart_element
        _ = _ := rd_wr_flag s _ 0 en
    · calc
        _ = _ := rd_wr_apart _ _ _ _ Fld.apart_element
        _ = _ := rd_wr_same _ (PIPE_CTRL_PORT p) _ (by simp [PIPE_CTRL_PORT])
        _ = _ := Nat.mod_eq_of_lt port.isLt
    · refine (rd_wr_same _ (PIPE_STATUS_STATE p) _ (by simp [PIPE_STATUS_STATE])).trans ?_
      cases en <;> rfl
    · exact State.keeps_wr (State.keeps_wr (State.keeps_wr (State.keeps_refl s _) _ _ (by simp)) _ _ (by simp)) _ _
        (by simp)
    · exact (State.InRegs.refl s).wr.wr.wr
  · exact fun s en port => congrArg Host.Outcome.next (pipeCtrl_spare s en port)
  · intro s p x
    have hex : exec (.ctxCommit p x) s = .next (s.ctxCommit p x) := rfl
    have ht := ctxCommit_committed s p x
    generalize s.ctxCommit p x = t at hex ht
    exact ⟨t, hex, ht.pend, ht.fetch, ht.active, ht.pending, ht.keeps, ht.tl, ht.others, ht.frame⟩
  · intro s p x
    have hex : exec (.ctxCancel p x) s = .next (s.ctxCancel p x) := rfl
    have ht := ctxCancel_cancelled s p x
    generalize s.ctxCancel p x = t at hex ht
    refine ⟨t, hex, ?_, ?_, ?_, ?_, ht.pending, ht.tl, ht.frame⟩ <;> rw [ht.commit] <;> rfl
  · intro s u p x t₀ base m hfetch htable
    obtain ⟨c, hex, himage, hfetched⟩ := tableFetchDone_completes hfetch htable
    have hshown := updCtx_inRegs (u.setPx p x c) p x
    have hpx := (hshown.px p x).trans (px_setPx_same ..)
    generalize (u.setPx p x c).updCtx p x = t at hex hshown hpx
    refine ⟨t, hex, ?_, ?_, hshown.after_ctx rfl⟩
    · rw [hpx, himage]
    · rw [hpx, hfetched]
  · intro s p clk x a m hfree hpick hset
    obtain ⟨c, k, hex, hfifo, hwork, hnext⟩ := pipeLineStart_starts hfree hpick hset
    have hshown := updCtx_inRegs (s.setPx p x c) p x
    generalize (s.setPx p x c).updCtx p x = u at hex hshown
    refine ⟨u.setPipe p k, hex, ?_, ?_, ?_, ?_⟩
    · exact (congrArg PipeCtx.fifo ((hshown.px p x).trans (px_setPx_same ..))).trans hfifo
    · rw [pipe_setPipe_same]
      exact hwork
    · rw [pipe_setPipe_same, hnext]
    · rw [hshown.eq]
      rfl
  · intro s p clk w rest hwork hclk
    obtain ⟨u, k, l, px, hex⟩ := pipeLineDone_leaves hwork hclk
    refine ⟨_, hex, ?_⟩
    have hdone := (State.OwesAs.refl (u.setPipe p { s.pipe p with work := rest }) p w.ctx).settle
      (l := w.line) |>.closeStats
    have hpipes := ((State.InRecords.refl _).seamArrive (k := k) (l := l) (px := px)).pipes.trans hdone.pipes
    rw [pipe_of_pipes hpipes, pipe_setPipe_same]
  · intro s p bank off
    obtain ⟨slots, hex⟩ := pipeSram_corrected s p bank off
    exact ⟨_, hex, rd_memError_flag s p 2 slots, keeps_memError s p _ slots, memError_inLog ..⟩
  · intro s p bank off hstate
    obtain ⟨t, hex, ht⟩ := pipeSram_fails hstate bank off
    exact ⟨t, hex, ht.flag, ht.state, ht.log⟩
  · intro s p t₀ hfailed h7 h8 hsets
    obtain ⟨t, hex, ht⟩ := pipeSpared_handedOver hfailed h7 h8 hsets
    exact ⟨t, hex, ht.port, ht.en, ht.state, ht.sparedFrom, ht.failedAt, ht.frame⟩
  · intro s pass hready
    refine ⟨_, spareSelfTest_pipe hready, ?_, ?_, ?_, (State.InRegs.refl s).wr.wr⟩
    · refine (rd_wr_apart _ _ _ _ (by decide)).trans ((rd_wr_same _ (PIPE_STATUS_STATE 12) _ (by decide)).trans ?_)
      cases pass <;> rfl
    · unfold State.updPipeSpare
      rw [rd_wr_same s (PIPE_STATUS_STATE 12) _ (by decide)]
      refine (rd_wr_flag _ _ 0 _).trans ?_
      cases pass <;> rfl
    · exact State.keeps_wr (State.keeps_wr (State.keeps_refl s _) _ _ (by simp)) _ _ (by simp)
  · intro s q pass hslot
    obtain ⟨v, hex⟩ := spareSelfTest_nib hslot
    refine ⟨_, hex, rd_wr_flag _ _ (1 + q) pass (by omega), ?_, (State.InRegs.refl s).wr.wr⟩
    exact State.keeps_wr (State.keeps_wr (State.keeps_refl s _) _ _ (by simp)) _ _ (by simp)

end Sys2Proof.Machine
end

section
namespace Sys2Proof.Machine
open Sys2Proof

variable {s t u : State} {gs : List Fld}

/-! ## The stitcher

### What leaves the stitcher alone (R147, R239, R273, R293)

Coverage records, job starts, profiles, snapshots and ring lines follow the lines that the stitcher forms. None of
that reaches what the stitcher holds, nor its registers STATUS to LAYOUT, which say that it forms and how wide. -/

/-- `t` holds the stitcher of `s` and reads the fields of `gs`, all between STATUS and LAYOUT, alike. -/
structure State.SameStitch (s : State) (gs : List Fld) (t : State) : Prop where
  stitch : t.stitch = s.stitch
  rd : ∀ g ∈ gs, t.rd g = s.rd g
  within : ∀ g ∈ gs, g.within 0x300004 0x300010

namespace State.SameStitch

theorem refl (s : State) (hgs : ∀ g ∈ gs, g.within 0x300004 0x300010 := by decide) : s.SameStitch gs s :=
  ⟨rfl, fun _ _ => rfl, hgs⟩

theorem update {zl fine prof scal quill ev dram net chain top out} (h : s.SameStitch gs t) :
    s.SameStitch gs { t with zl := zl, fine := fine, prof := prof, scal := scal, quill := quill, ev := ev,
                             dram := dram, net := net, chain := chain, top := top, out := out } :=
  ⟨h.stitch, fun g hg => (rd_congr rfl g).trans (h.rd g hg), h.within⟩

/-- A write beside STATUS to LAYOUT. -/
theorem wr (h : s.SameStitch gs t) {f v} (hf : f.clearOf 0x300004 0x300010) : s.SameStitch gs (t.wr f v) :=
  ⟨(wr_stitch ..).trans h.stitch, fun g hg => (rd_wr_apart t f g v (by
    have := h.within g hg
    unfold Fld.apart
    omega)).trans (h.rd g hg), h.within⟩

theorem fault (h : s.SameStitch gs t) {source code slots} : s.SameStitch gs (t.fault source code slots) :=
  ⟨(fault_stitch ..).trans h.stitch, fun g hg => (rd_fault t _ _ _ g fun f hf => .inl (by
    have := h.within g hg
    have := faultFlds_low f hf
    omega)).trans (h.rd g hg), h.within⟩

theorem occur (h : s.SameStitch gs t) {producer hop} : s.SameStitch gs (t.occur producer hop) :=
  ⟨(occur_stitch ..).trans h.stitch, fun g hg => (rd_occur ..).trans (h.rd g hg), h.within⟩

theorem ite {c : Prop} {_ : Decidable c} (h : s.SameStitch gs t) (h' : s.SameStitch gs u) :
    s.SameStitch gs (if c then t else u) := by
  split
  · exact h
  · exact h'

/-- A step may be followed by any argument that needs no more than the relation. -/
theorem bind {p : Prop} (h : s.SameStitch gs t) (k : s.SameStitch gs t → p) : p := k h

theorem pair {α : Type} {a : α} (h : s.SameStitch gs t) : s.SameStitch gs (a, t).2 := h

theorem foldl {α : Type} {l : List α} {f : State → α → State} (h : s.SameStitch gs t)
    (hf : ∀ t a, s.SameStitch gs t → s.SameStitch gs (f t a)) : s.SameStitch gs (l.foldl f t) :=
  List.foldlRecOn l f h fun t ht a _ => hf t a ht

theorem foldlSnd {α β : Type} {l : List α} {f : β × State → α → β × State} {r : β × State}
    (h : s.SameStitch gs r.2) (hf : ∀ r a, s.SameStitch gs r.2 → s.SameStitch gs (f r a).2) :
    s.SameStitch gs (l.foldl f r).2 :=
  List.foldlRecOn l f (motive := fun r => s.SameStitch gs r.2) h fun r hr a _ => hf r a hr

/-! Coverage records -/

theorem emitPacket (h : s.SameStitch gs t) {n g p} : s.SameStitch gs (t.emitPacket n g p) :=
  State.SameStitch.update (h.wr (by simp only [Fld.clearOf, ZL_CNT_PKT_TX]; omega))

theorem sendReplay (h : s.SameStitch gs t) {n p} : s.SameStitch gs (t.sendReplay n p) :=
  ((h.wr (by simp only [Fld.clearOf, ZL_REPLAY_STATUS_NEXT_SEQ]; omega)).bind fun h₁ =>
    (h₁.update.ite h₁).emitPacket).ite h.update

theorem sendPeer (h : s.SameStitch gs t) {n p} : s.SameStitch gs (t.sendPeer n p) :=
  h.ite (h.emitPacket.ite h.sendReplay)

theorem sendTo (h : s.SameStitch gs t) {dst p} : s.SameStitch gs (t.sendTo dst p) := by
  unfold State.sendTo
  split
  · exact h.sendPeer
  · split
    · exact h.ite h.sendPeer
    · exact State.SameStitch.bind (h.wr (by decide)) fun h₁ => h₁.ite h₁.update.fault

theorem netRecord (h : s.SameStitch gs t) {bs} : s.SameStitch gs (t.netRecord bs) := by
  unfold State.netRecord
  dsimp only
  split
  · exact h.update
  · exact ((State.SameStitch.wr (h.wr (by decide)) (by decide)).update).bind fun h₂ => h₂.ite h₂.fault

theorem chainRecord (h : s.SameStitch gs t) {bs} : s.SameStitch gs (t.chainRecord bs) :=
  h.sendTo.ite (h.wr (by decide))

theorem deliverCov (h : s.SameStitch gs t) {bs} : s.SameStitch gs (t.deliverCov bs) :=
  (h.netRecord.ite h).bind fun h₁ => h₁.chainRecord.ite h₁

theorem enqueueCov (h : s.SameStitch gs t) {c} : s.SameStitch gs (t.enqueueCov c) :=
  (h.update.ite h).bind fun h₁ =>
    ((h₁.wr (f := SCALER_SEQ_NEXT) (by decide)).bind fun h₂ => (h₂.ite h₂.update).deliverCov).ite h₁.update

theorem cover (h : s.SameStitch gs t) {a b left right cause source detail detail2 page} :
    s.SameStitch gs (t.cover a b left right cause source detail detail2 page) :=
  h.foldl fun _ _ h₁ => h₁.enqueueCov

theorem endRun (h : s.SameStitch gs t) {r} : s.SameStitch gs (t.endRun r) :=
  h.foldl fun _ _ h₁ => h₁.enqueueCov.occur

/-! Jobs -/

theorem setNib (h : s.SameStitch gs t) {q n x} : s.SameStitch gs (t.setNib q n x) := h.update

theorem setJob (h : s.SameStitch gs t) {q j x} : s.SameStitch gs (t.setJob q j x) := h.update

theorem coverNib (h : s.SameStitch gs t) {q j l a b detail x w} :
    s.SameStitch gs (t.coverNib q j l a b detail x w) :=
  h.foldl fun _ _ h₁ => h₁.cover.ite h₁.cover

theorem jobStarts (h : s.SameStitch gs t) {coarse n} : s.SameStitch gs (t.jobStarts coarse n) :=
  h.foldl fun _ _ h₁ => h₁.foldl fun _ _ h₂ => (h₂.setJob.bind fun h₃ =>
    ((h₃.setJob.wr (f := QUILL_JOB_START_LINE _ _) (by simp only [Fld.clearOf, QUILL_JOB_START_LINE]; omega)).bind
      fun h₅ => (h₅.coverNib.ite h₅).foldl fun _ _ h₇ => h₇.setNib).ite h₃).ite h₂

end State.SameStitch

end Sys2Proof.Machine
end

section
namespace Sys2Proof.Machine
open Sys2Proof

variable {s t u : State}

/-! ### What leaves the stitcher alone, whatever it writes (R152, R156, R159, R169, R359, R366)

A fine line that leaves reaches columns, snapshots, channels, jobs and the image ring, and their records DRAM. -/

namespace State.SameStitch

theorem wrAny (h : s.SameStitch [] t) {f v} : s.SameStitch [] (t.wr f v) :=
  ⟨(wr_stitch ..).trans h.stitch, fun _ hg => absurd hg List.not_mem_nil, h.within⟩

/-! DRAM -/

theorem putPoison (h : s.SameStitch [] t) {b} : s.SameStitch [] (t.putPoison b) := h.update.update

theorem migrate (h : s.SameStitch [] t) {ch src cause} : s.SameStitch [] (t.migrate ch src cause) := by
  unfold State.migrate
  refine h.ite ?_
  split
  · exact h.wrAny.fault
  · exact h.wrAny.wrAny.wrAny.wrAny.wrAny.update.fault

theorem noteCe (h : s.SameStitch [] t) {ch rank a} : s.SameStitch [] (t.noteCe ch rank a) := by
  unfold State.noteCe
  refine State.SameStitch.bind ?_ fun h₂ => h₂.update.fault.migrate.ite h₂.update
  split
  · exact h.wrAny.wrAny.update.fault.ite h.wrAny.wrAny
  · exact h.wrAny.wrAny.update.fault

theorem noteUe (h : s.SameStitch [] t) {k ch rank a cls syn} : s.SameStitch [] (t.noteUe k ch rank a cls syn) := by
  unfold State.noteUe
  extract_lets t₁ t₂ kind t₃ t₄ t₅ det key due d
  have h₁ : s.SameStitch [] t₁ := h.wrAny.wrAny
  have h₅ : s.SameStitch [] t₅ := (h₁.wrAny.ite h₁).wrAny.wrAny.wrAny.wrAny.wrAny.wrAny
  clear_value t₅
  split
  · exact h₅.fault
  · exact h₅.fault
  · exact h₅.update.fault.ite h₅

theorem partialBeat (h : s.SameStitch [] t) {b cls} : s.SameStitch [] (t.partialBeat b cls).2 := by
  unfold State.partialBeat
  dsimp only
  split
  · exact h.noteUe.putPoison.pair
  · exact (h.noteCe.ite h).update.pair

theorem storeBytes (h : s.SameStitch [] t) {a bs poisoned} : s.SameStitch [] (t.storeBytes a bs poisoned) :=
  h.update.foldl fun _ _ h => h.putPoison

theorem dramPut (h : s.SameStitch [] t) {a bs cls} : s.SameStitch [] (t.dramPut a bs cls) := by
  unfold State.dramPut State.dramWrite
  split
  · exact h.update.pair
  · unfold State.dramWriteNow
    dsimp only
    split
    · exact h.pair
    · exact (h.update.pair.foldlSnd fun _ _ h₁ => h₁.partialBeat.pair).storeBytes.pair

/-! Columns, snapshots and the image ring -/

theorem updateCols (h : s.SameStitch [] t) {f} : s.SameStitch [] (t.updateCols f) :=
  (h.update.ite h).bind fun h₁ => h₁.update.ite h₁.update

theorem snapSegments {k f} (h : s.SameStitch [] t) : s.SameStitch [] (State.snapSegments k f t) := by
  induction k generalizing t with
  | zero => exact h
  | succ k ih =>
    unfold State.snapSegments
    split
    · exact h
    · exact h.ite (h.dramPut.update.wrAny.occur.ite (ih h.dramPut.update))

theorem snapLine (h : s.SameStitch [] t) {f} : s.SameStitch [] (t.snapLine f) :=
  (h.ite (h.wrAny.wrAny.fault.ite h.dramPut.update)).snapSegments

theorem imgWrite (h : s.SameStitch [] t) {f taken} : s.SameStitch [] (t.imgWrite f taken) :=
  (h.dramPut.dramPut.wrAny.bind fun h₃ =>
    (h₃.wrAny.update.bind fun h₅ => h₅.ite h₅.fault).ite h₃.update).ite h

/-! Channels -/

theorem setPch (h : s.SameStitch [] t) {c x} : s.SameStitch [] (t.setPch c x) := h.update

theorem detClose (h : s.SameStitch [] t) {c} : s.SameStitch [] (t.detClose c) :=
  h.setPch.bind fun h₁ => h₁.wrAny.wrAny.wrAny.wrAny.wrAny.ite h₁.wrAny.wrAny.wrAny.wrAny.wrAny

theorem testLimits (h : s.SameStitch [] t) {c x} : s.SameStitch [] (t.testLimits c x) :=
  h.setPch.bind fun h₁ => (h₁.wrAny.ite h₁).bind fun h₂ => (h₂.wrAny.ite h₂).bind fun h₃ => h₃.occur.ite h₃

theorem profRecord (h : s.SameStitch [] t) {c flags idx v pos} :
    s.SameStitch [] (t.profRecord c flags idx v pos) :=
  h.ite ((h.wrAny.wrAny.bind fun h₁ => h₁.ite h₁.fault).ite h.dramPut.wrAny)

theorem profOutput (h : s.SameStitch [] t) {c v pos} : s.SameStitch [] (t.profOutput c v pos) :=
  h.setPch.bind fun h₁ => (h₁.ite (h₁.setPch.testLimits.bind fun h₃ =>
    h₃.detClose.ite h₃)).wrAny.wrAny.wrAny.wrAny.profRecord

theorem profSat (h : s.SameStitch [] t) {c stage} : s.SameStitch [] (t.profSat c stage) :=
  h.setPch.bind fun h₁ => h₁.ite h₁.wrAny.fault

theorem profInput {k c x pos} (h : s.SameStitch [] t) : s.SameStitch [] (State.profInput k c x pos t) := by
  induction k generalizing t c x pos with
  | zero => exact h
  | succ k ih =>
    unfold State.profInput
    have ht : s.SameStitch [] ((t.chain1 c x).2.2.foldl (fun t st => t.profSat c st)
        (t.setPch c { (t.chain1 c x).1 with prevIn := x })) := h.setPch.foldl fun _ _ h => h.profSat
    dsimp only
    split
    · exact ht
    · exact ht.profOutput.foldl fun _ _ h => .ite (ih h) h

theorem profLine (h : s.SameStitch [] t) {src line px} : s.SameStitch [] (t.profLine src line px) := by
  unfold State.profLine
  refine h.foldl fun _ _ h₁ => h₁.ite ?_
  split
  · exact h₁.profInput
  · exact h₁.wrAny.wrAny.bind fun h₂ => (h₂.ite h₂.fault).setPch.profInput

/-! Lines retired on a nib's behalf -/

theorem updRetired (h : s.SameStitch [] t) {q j} : s.SameStitch [] (t.updRetired q j) := by
  unfold State.updRetired
  dsimp only
  split
  · exact h.wrAny
  · exact h

theorem endLost (h : s.SameStitch [] t) {q n} : s.SameStitch [] (t.endLost q n) := by
  unfold State.endLost
  dsimp only
  split
  · exact h.setNib.coverNib
  · exact h

theorem retireBehalf (h : s.SameStitch [] t) {q j n l cover} : s.SameStitch [] (t.retireBehalf q j n l cover) := by
  unfold State.retireBehalf
  refine h.ite ?_
  dsimp only
  split
  · exact h.wrAny.setNib.endLost.ite h.wrAny.setNib
  · exact h.wrAny.setNib

theorem quillLine (h : s.SameStitch [] t) {coarse n} : s.SameStitch [] (t.quillLine coarse n) :=
  h.foldl fun _ _ h₁ => h₁.foldl fun _ _ h₂ => (h₂.foldl fun _ _ h₃ =>
    (h₃.retireBehalf.ite h₃).endLost.setNib.ite (h₃.retireBehalf.ite h₃)).updRetired.ite h₂

end State.SameStitch

end Sys2Proof.Machine
end

section
namespace Sys2Proof.Machine
open Sys2Proof

variable {s t u : State} {n : Int} {e clk : Nat} {m : SettingsSet}

/-! ### A line that starts (R144, R146, R150, R151, R157) -/

theorem State.SameStitch.width (h : s.SameStitch [STITCH_LAYOUT_WIDTH] t) : t.width = s.width :=
  h.rd _ (List.mem_singleton_self _)

/-- A write beside LAYOUT. -/
theorem width_wr {f : Fld} {v : Nat} (h : f.apart STITCH_LAYOUT_WIDTH) : (s.wr f v).width = s.width :=
  rd_wr_apart _ _ _ _ h

theorem width_endRuns (s : State) : s.endRuns.width = s.width :=
  State.SameStitch.width (s := { s with stitch := { s.stitch with runs := [] } })
    ((State.SameStitch.refl _).foldl fun _ _ h => h.endRun)

theorem width_updRuns (s : State) (n : Int) (bad : List SeamRun) : (s.updRuns n bad).width = s.width := by
  unfold State.updRuns
  extract_lets rs same goes ended kept fresh stitch s₁ s₂
  have h₂ : s₁.SameStitch [STITCH_LAYOUT_WIDTH] s₂ := (State.SameStitch.refl _).foldl fun _ _ h => h.endRun
  exact (h₂.foldl fun _ _ h => h.fault.ite h).width

theorem width_closeKerf (s : State) (j a b c d e f : Nat) :
    ((((((s.wr (STITCH_KERF_CAMS j) a).wr (STITCH_KERF_MEAN_R j) b).wr (STITCH_KERF_MEAN_G j) c).wr
      (STITCH_KERF_MEAN_B j) d).wr (STITCH_KERF_FRAME j) e).wr (STITCH_KERF_SAMPLES j) f).width = s.width :=
  calc
    _ = _ := width_wr Fld.apart_below
    _ = _ := width_wr Fld.apart_below
    _ = _ := width_wr Fld.apart_below
    _ = _ := width_wr Fld.apart_below
    _ = _ := width_wr Fld.apart_below
    _ = _ := width_wr Fld.apart_below

theorem width_closeKerfs (s : State) (frame : Nat) : (s.closeKerfs frame).width = s.width := by
  unfold State.closeKerfs
  refine (rd_occur ..).trans ?_
  refine List.foldlRecOn s.kerfs _ (motive := fun (t : State) => t.width = s.width) rfl fun t ht e _ => ?_
  dsimp only
  split
  · exact ht
  · exact (width_closeKerf t ..).trans ht

theorem width_kerfFrameStep (s : State) (f : Int × Nat) : (s.kerfFrameStep f).width = s.width := by
  unfold State.kerfFrameStep
  extract_lets s₁
  have h₁ : s₁.width = s.width := by
    dsimp only [s₁]
    split
    · split
      · rfl
      · exact width_closeKerfs ..
    · rfl
  exact (rd_congr rfl _).trans h₁

theorem width_addKerf (s : State) (c : FormedCol) : (s.addKerf c).width = s.width := by
  unfold State.addKerf
  split
  · split
    · exact rd_congr rfl _
    · rfl
  · rfl

theorem width_takeSeed (s : State) (n : Int) : (s.takeSeed n).2.width = s.width := by
  unfold State.takeSeed
  split
  · exact (rd_wr_apart _ _ _ _ (by decide)).trans (rd_congr rfl _)
  · rfl

/-- What `t` has of stitched line n, after which the next may start in clock e. -/
structure State.Formed (n : Int) (e : Nat) (t : State) : Prop where
  started : t.stitch.started = some n
  freeAt : t.stitch.freeAt = e
  forming : t.rd STITCH_STATUS_FORMING = 1

namespace State.Formed

theorem same (h : State.Formed n e t) (h' : t.SameStitch [STITCH_STATUS_FORMING] u) : State.Formed n e u :=
  ⟨by rw [h'.stitch, h.started], by rw [h'.stitch, h.freeAt], (h'.rd _ (List.mem_singleton_self _)).trans h.forming⟩

theorem jobStarts (h : State.Formed n e t) {coarse l} : State.Formed n e (t.jobStarts coarse l) :=
  h.same (State.SameStitch.refl t).jobStarts

theorem storeSeam (h : State.Formed n e t) {k x} : State.Formed n e (t.storeSeam k x) := by
  unfold State.storeSeam
  dsimp only
  split
  · exact ⟨h.started, h.freeAt, (rd_congr rfl _).trans h.forming⟩
  · exact ⟨h.started, h.freeAt, (rd_congr rfl _).trans h.forming⟩

theorem unstage (h : State.Formed n e t) {k} : State.Formed n e (t.unstage k) := by
  have hu : State.Formed n e { t with stitch := { t.stitch with
      staging := spSet (fun _ => []) t.stitch.staging k ((t.stagedOf k).filter fun x => !t.slotFree x.line) } } :=
    ⟨h.started, h.freeAt, (rd_congr rfl _).trans h.forming⟩
  refine List.foldlRecOn _ _ (hu.same ((State.SameStitch.refl _).wr ?_)) fun _ h₁ _ _ => h₁.storeSeam
  simp only [Fld.clearOf, STITCH_CAM_STATUS_STAGED]
  omega

end State.Formed

/-- The line takes the width that LAYOUT gives at its start. -/
theorem formLine_formed (hstarted : s.stitch.started.isNone = false) (m : SettingsSet) (n : Int) (forced : Bool)
    (clk : Nat) : State.Formed n (clk + (s.width + 47) / 48) (s.formLine m n forced clk) := by
  unfold State.formLine
  rw [hstarted]
  extract_lets s₀ late cols bad before s₁ s₂ s₃ f s₄ s₅ seed s₆ l stitch s₇ s₈ s₉ s₁₀
  have hw₁ : s₁.width = s.width := by
    dsimp only [s₁]
    split
    · rfl
    · exact width_endRuns s
  have hw₂ : s₂.width = s.width := (width_updRuns ..).trans hw₁
  have hw₃ : s₃.width = s.width := by
    dsimp only [s₃]
    split
    · exact (width_wr (by decide)).trans hw₂
    · exact hw₂
  have hw₅ : s₅.width = s.width := List.foldlRecOn _ _ (motive := fun (t : State) => t.width = s.width)
    ((width_kerfFrameStep ..).trans hw₃) fun t ht c _ => (width_addKerf t c).trans ht
  have hw₆ : s₆.width = s.width := (width_takeSeed ..).trans hw₅
  clear_value s₆
  have h₈ : State.Formed n (clk + (s.width + 47) / 48) s₈ :=
    ⟨congrArg Stitch.started (set1_stitch s₇ _), (congrArg Stitch.freeAt (set1_stitch s₇ _)).trans (by rw [← hw₆]),
      rd_wr_flag s₇ _ 9 true⟩
  clear_value s₈
  have h₁₀ : State.Formed n (clk + (s.width + 47) / 48) s₁₀ := by
    dsimp only [s₁₀]
    split
    · exact h₈.jobStarts.jobStarts
    · exact h₈.jobStarts
  exact List.foldlRecOn _ _ h₁₀ fun _ h _ _ => h.unstage

/-- The line above the one started last is due, and every camera has accounted for its window. -/
theorem stitchLineStart_forms (hen : s.on STITCH_CTRL_EN = true) (hactive : s.stitch.commit.active.isSome = true)
    (hfree : s.stitch.freeAt ≤ clk) (hstarted : s.stitch.started = some (n - 1))
    (hall : s.cams.all (fun k => s.camAccounted k (n + 24)) = true) (hset : s.stitch.commit.setFor n = some m) :
    exec (.stitchLineStart clk) s = .next (s.formLine m n false clk) := by
  have hnone : s.stitch.commit.active.isNone = false := by simpa using hactive
  have hnext : s.nextForm = some n := by
    unfold State.nextForm
    rw [hstarted]
    exact congrArg some (by omega)
  rw [exec_stitchLineStart]
  unfold execStitchLineStart
  rw [if_neg (by simp [hen, hnone, Nat.not_lt.2 hfree]), hnext]
  dsimp only
  rw [hall, hset]
  rfl

/-! ### A line that leaves (R146, R152) -/

/-- What `t` has of fine line f that has left the stitcher of state s, its coarse line leaving in clock `out`. -/
structure State.Left (s : State) (f : FineLine) (out : Nat) (t : State) : Prop where
  work : t.stitch.work = s.stitch.work
  fine : t.stitch.fine.head? = some f
  coarse : f.line % 4 = 3 → t.stitch.quad = [] ∧
    t.stitch.coarseOut.getLast?.map (fun e => (e.1, e.2.line)) = some (out, f.line / 4)

theorem planeLine_left (s : State) (f : FineLine) (out : Nat) : s.Left f out (s.planeLine f out) := by
  unfold State.planeLine
  extract_lets s₁ s₂ s₃ v quad stitch₃ s₄ s₅ c
  have h₃ : s.SameStitch [] s₃ := (State.SameStitch.refl s).updateCols.snapLine.profLine
  clear_value s₃
  have h₅ : s₄.SameStitch [] s₅ := (State.SameStitch.refl s₄).quillLine
  have hwork : s₅.stitch.work = s.stitch.work := by
    rw [h₅.stitch]
    change s₃.stitch.work = s.stitch.work
    rw [h₃.stitch]
  have hfine : s₅.stitch.fine.head? = some f := by
    rw [h₅.stitch]
    rfl
  clear_value s₅
  split
  · exact ⟨hwork, hfine, fun _ => ⟨rfl, by simp [c, coarseOf, v]⟩⟩
  · next hv => exact ⟨hwork, hfine, fun h => absurd h hv⟩

/-- The oldest line in work leaves. -/
theorem stitchLineDone_leaves {t₀ : Nat} {f : FineLine} {rest : List (Nat × FineLine)} (taken : Option (Fin 180224))
    (hwork : s.stitch.work = (t₀, f) :: rest) (hclk : t₀ + 160 + (f.pixels.length + 47) / 48 ≤ clk + 1) :
    ∃ u : State, u.stitch.work = rest ∧
      exec (.stitchLineDone clk taken) s = .next (u.planeLine f (clk + 64)) := by
  rw [exec_stitchLineDone]
  unfold execStitchLineDone
  rw [hwork]
  dsimp only
  rw [if_neg (Nat.not_lt.2 hclk)]
  refine ⟨_, congrArg Stitch.work (State.SameStitch.stitch (gs := [])
    (s := { s with stitch := { s.stitch with work := rest } }) ?_), rfl⟩
  exact State.SameStitch.imgWrite ((State.SameStitch.refl _).wrAny.bind fun h => h.occur.ite h)

theorem coarseLineOut_leaves {t₀ : Nat} {c : FineLine} {rest : List (Nat × FineLine)}
    (hout : s.stitch.coarseOut = (t₀, c) :: rest) (hclk : t₀ ≤ clk) :
    ∃ t, exec (.coarseLineOut clk) s = .next t ∧ t.stitch = { s.stitch with
      coarseOut := rest, coarse := c :: s.stitch.coarse.take (keptLines - 1) } := by
  rw [exec_coarseLineOut]
  unfold execCoarseLineOut
  rw [hout]
  dsimp only
  rw [if_neg (Nat.not_lt.2 hclk)]
  exact ⟨_, rfl, (State.SameStitch.refl (gs := []) _).quillLine.profLine.stitch⟩

end Sys2Proof.Machine
end

section
namespace Sys2Proof.Machine
open Sys2Proof

variable {s t u : State}

/-! ### Lines not formed (R147) -/

theorem notFormedTo_counts {a b : Int} (h : s.stitch.unformed = some a) (hab : a < b) :
    (s.notFormedTo b).stitch.unformed = some b := by
  unfold State.notFormedTo
  extract_lets first stitch t
  have hfirst : first = a + 1 := by
    dsimp only [first]
    rw [h]
  rw [if_neg (by omega)]

theorem notFormedTo_self {a b : Int} (h : s.stitch.unformed = some a) (hab : b ≤ a) : s.notFormedTo b = s := by
  unfold State.notFormedTo
  rw [h]
  exact if_pos (by dsimp only; omega)

theorem notFormed_counts (h : s.forming = false) :
    exec .notFormed s = .next (s.notFormedTo (ceilDiv s.tl.pos ((2 : Int) ^ 40) - 26)) := by
  rw [exec_notFormed]
  unfold execNotFormed
  rw [if_neg (by simp [h])]

/-! ### The layout (R134, R147) -/

/-- What `t` has of an enabled stitcher with the layout of state s, its seam buffer empty. -/
structure State.Enabled (s t : State) : Prop where
  en : t.rd STITCH_CTRL_EN = 1
  seam : t.stitch.seam = []
  staging : t.stitch.staging = []
  firstAll : t.stitch.firstAll = none
  keeps : s.keeps t [STITCH_CTRL_EN]
  frame : t = { s with regs := t.regs, stitch := t.stitch }

theorem stitchEnable_enabled (hoff : s.on STITCH_CTRL_EN = false) (hlayout : s.layoutCheck = none) :
    s.Enabled s.stitchEnable := by
  have hstart : s.stitchEnable = { s.set1 STITCH_CTRL_EN with stitch := { (s.set1 STITCH_CTRL_EN).stitch with
      seam := [], staging := [], overrun := [], firstAll := none } } := by
    unfold State.stitchEnable
    rw [if_neg (by simp [hoff]), hlayout]
  have hset : s.InRegs (s.set1 STITCH_CTRL_EN) := (State.InRegs.refl s).wr
  rw [hstart]
  refine ⟨(rd_congr rfl _).trans (rd_wr_flag s _ 0 true), rfl, rfl, rfl, fun g hg => (rd_congr rfl g).trans
    (State.keeps_set1 (State.keeps_refl s _) (List.mem_singleton_self _) g hg), ?_⟩
  generalize s.set1 STITCH_CTRL_EN = u at hset
  rw [hset.eq]

/-- A layout check n that camera k fails is shown and recorded. -/
def State.geomError (s : State) (n k : Nat) : State :=
  (((s.set1 STITCH_STATUS_GEOM_ERR).wr STITCH_INFO_CHECK n).wr STITCH_INFO_CHECK_CAM k).fault srcStitch 0x3004
    (slot1 n ++ slot1 k)

theorem stitchEnable_fails {n k : Nat} (hoff : s.on STITCH_CTRL_EN = false) (hlayout : s.layoutCheck = some (n, k)) :
    s.stitchEnable = s.geomError n k := by
  unfold State.stitchEnable
  rw [if_neg (by simp [hoff]), hlayout]
  rfl

theorem geomError_inLog (s : State) (n k : Nat) : s.InLog (s.geomError n k) := (State.InLog.refl s).wr.wr.wr.fault

theorem keeps_geomError (s : State) (n k : Nat) : s.keeps (s.geomError n k)
    ([STITCH_STATUS_GEOM_ERR, STITCH_INFO_CHECK, STITCH_INFO_CHECK_CAM] ++ faultFlds) :=
  State.keeps_fault (State.keeps_wr (State.keeps_wr (State.keeps_set1 (State.keeps_refl s _) (by simp)) _ _ (by simp))
    _ _ (by simp)) _ _ _ fun _ hf => List.mem_append_right _ hf

theorem rd_geomError_flag (s : State) (n k : Nat) : (s.geomError n k).rd STITCH_STATUS_GEOM_ERR = 1 :=
  calc
    _ = _ := rd_fault _ _ _ _ _ (faultFlds_apart (by decide))
    _ = _ := rd_wr_apart _ _ _ _ (by decide)
    _ = _ := rd_wr_apart _ _ _ _ (by decide)
    _ = 1 := rd_wr_flag s _ 5 true

theorem rd_geomError_check {n : Nat} (s : State) (k : Nat) (hn : n < 8) :
    (s.geomError n k).rd STITCH_INFO_CHECK = n :=
  calc
    _ = _ := rd_fault _ _ _ _ _ (faultFlds_apart (by decide))
    _ = _ := rd_wr_apart _ _ _ _ (by decide)
    _ = n % 2 ^ 8 := rd_wr_same _ STITCH_INFO_CHECK n (by decide)
    _ = n := by omega

theorem rd_geomError_cam {k : Nat} (s : State) (n : Nat) (hk : k < 24) :
    (s.geomError n k).rd STITCH_INFO_CHECK_CAM = k :=
  calc
    _ = _ := rd_fault _ _ _ _ _ (faultFlds_apart (by decide))
    _ = k % 2 ^ 5 := rd_wr_same _ STITCH_INFO_CHECK_CAM k (by decide)
    _ = k := by omega

/-! ### Commits (R105, R140) -/

/-- The commit state of the stitcher is replaced, and what is shown of it. -/
def State.recommitStitch (s : State) (c : CommitCtx) : State :=
  ({ s with stitch := { s.stitch with commit := c } }).updStitch

/-- What the stitcher's commit state becomes. -/
def State.stitchCtx (s : State) (cancel : Bool) : CommitCtx :=
  if cancel then s.stitch.commit.cancel else s.stitch.commit.record s.now none

theorem stitchCommit_eq (s : State) (cancel : Bool) :
    s.stitchCommit cancel = (s.recommitStitch (s.stitchCtx cancel)).offerCommit .stitch := rfl

theorem stitchCtx_active (s : State) (cancel : Bool) : (s.stitchCtx cancel).active = s.stitch.commit.active := by
  cases cancel <;> rfl

theorem stitchCtx_last (s : State) (cancel : Bool) :
    (s.stitchCtx cancel).pend.getLast? = if cancel then none else some ⟨s.now⟩ := by
  cases cancel
  · exact record_pend s.stitch.commit s.now none
  · rfl

theorem stitchCtx_isEmpty (s : State) (cancel : Bool) : (s.stitchCtx cancel).pend.isEmpty = cancel := by
  cases cancel
  · simp [State.stitchCtx, CommitCtx.record]
  · rfl

theorem updStitch_inRegs (s : State) : s.InRegs s.updStitch := (State.InRegs.refl s).wr.wr

theorem recommitStitch_inRegs (s : State) (c : CommitCtx) :
    State.InRegs { s with stitch := { s.stitch with commit := c } } (s.recommitStitch c) :=
  updStitch_inRegs _

theorem keeps_recommitStitch (s : State) (c : CommitCtx) :
    s.keeps (s.recommitStitch c) [STITCH_STATUS_COMMIT_PENDING, STITCH_STATUS_SET_VALID] :=
  State.keeps_wr (State.keeps_wr (State.keeps_of_regs rfl _) _ _ (by simp)) _ _ (by simp)

theorem rd_recommitStitch_pending (s : State) (c : CommitCtx) :
    (s.recommitStitch c).rd STITCH_STATUS_COMMIT_PENDING = b2n (!c.pend.isEmpty) :=
  rd_wr_flag _ _ 1 _

theorem rd_recommitStitch_valid (s : State) (c : CommitCtx) :
    (s.recommitStitch c).rd STITCH_STATUS_SET_VALID = b2n c.active.isSome :=
  (rd_wr_apart _ _ _ _ (by decide)).trans (rd_wr_flag _ _ 0 _)

/-- What `t` has of a COMMIT or CANCEL of the stitcher in state s. -/
structure State.CommitsStitch (s : State) (cancel : Bool) (t : State) : Prop where
  active : t.stitch.commit.active = s.stitch.commit.active
  last : t.stitch.commit.pend.getLast? = if cancel then none else some ⟨s.now⟩
  pending : t.rd STITCH_STATUS_COMMIT_PENDING = b2n (!cancel)
  valid : t.rd STITCH_STATUS_SET_VALID = b2n s.stitch.commit.active.isSome
  keeps : s.keeps t ([STITCH_STATUS_COMMIT_PENDING, STITCH_STATUS_SET_VALID] ++ offerFlds)
  tl : t.tl = { s.tl with sched := t.tl.sched }
  others : t.tl.sched.filter (fun e => !isCommitOf .stitch e.act) =
    s.tl.sched.filter (fun e => !isCommitOf .stitch e.act)
  frame : t = { s with regs := t.regs, stitch := t.stitch, tl := t.tl, top := t.top }

theorem stitchCommit_commits (s : State) (cancel : Bool) : s.CommitsStitch cancel (s.stitchCommit cancel) := by
  have hframe := (recommitStitch_inRegs s (s.stitchCtx cancel)).eq
  have hkept := keeps_recommitStitch s (s.stitchCtx cancel)
  have hpending := rd_recommitStitch_pending s (s.stitchCtx cancel)
  have hvalid := rd_recommitStitch_valid s (s.stitchCtx cancel)
  have ht := (State.Reoffers.refl (s.recommitStitch (s.stitchCtx cancel)) .stitch).offerCommit
  rw [stitchCommit_eq]
  generalize s.recommitStitch (s.stitchCtx cancel) = u at hframe hkept hpending hvalid ht
  generalize u.offerCommit .stitch = t at ht
  have hcommit : t.stitch.commit = s.stitchCtx cancel := by rw [ht.frame, hframe]
  refine ⟨?_, ?_, ?_, ?_, State.keeps_trans hkept ht.keeps, ?_, ?_, ?_⟩
  · rw [hcommit, stitchCtx_active]
  · rw [hcommit, stitchCtx_last]
  · rw [ht.keeps _ (offerFlds_apart (by decide)), hpending, stitchCtx_isEmpty]
  · rw [ht.keeps _ (offerFlds_apart (by decide)), hvalid, stitchCtx_active]
  · rw [ht.tl, hframe]
  · rw [ht.others, hframe]
  · conv_lhs => rw [ht.frame, hframe]
    rw [ht.frame, hframe]

/-! ### Errors of the seam buffer (R153) -/

/-- An error of the seam buffer is flagged and recorded. -/
def State.seamError (s : State) (lsb : Nat) (slots : List Nat) : State :=
  (s.set1 ⟨0x300004, lsb, 1⟩).fault srcStitch 0x3007 slots

theorem seamError_inLog (s : State) (lsb : Nat) (slots : List Nat) : s.InLog (s.seamError lsb slots) :=
  (State.InLog.refl s).wr.fault

theorem keeps_seamError (s : State) (lsb : Nat) (slots : List Nat) :
    s.keeps (s.seamError lsb slots) (⟨0x300004, lsb, 1⟩ :: faultFlds) :=
  State.keeps_fault (State.keeps_set1 (State.keeps_refl s _) (by simp)) _ _ _ fun _ hf => List.mem_cons_of_mem _ hf

theorem rd_seamError_flag (s : State) (lsb : Nat) (slots : List Nat) (h : lsb < 32 := by decide) :
    (s.seamError lsb slots).rd ⟨0x300004, lsb, 1⟩ = 1 :=
  (rd_fault _ _ _ _ _ (faultFlds_apart (show 0x28 ≤ 0x300004 by decide))).trans (rd_wr_flag _ _ lsb true h)

theorem spanFirst_seamError (s : State) {lsb : Nat} (slots : List Nat) (k : Nat) (h : lsb < 32 := by decide) :
    (s.seamError lsb slots).spanFirst k = s.spanFirst k := by
  refine keeps_seamError s lsb slots _ (List.forall_mem_cons.2 ⟨?_, faultFlds_apart ?_⟩)
  · simp only [Fld.apart, STITCH_CAM_SPAN_FIRST]
    omega
  · simp only [STITCH_CAM_SPAN_FIRST]
    omega

theorem seamSram_corrected (s : State) (cam : Fin 24) (line : Int) (u n addr : Nat) : ∃ slots,
    exec (.seamSram false cam line u n addr) s = .next (s.seamError 6 slots) := ⟨_, rfl⟩

/-- The seam lines of camera k are replaced. -/
def State.setSeam (s : State) (k : Nat) (q : List SeamLine) : State :=
  { s with stitch := { s.stitch with seam := spSet (fun _ => []) s.stitch.seam k q } }

@[simp] theorem seamOf_setSeam_same (s : State) (k : Nat) (q : List SeamLine) : (s.setSeam k q).seamOf k = q :=
  spGet_spSet_same ..

theorem State.InLog.setSeam_frame (h : s.InLog t) {k : Nat} {q : List SeamLine} :
    t.setSeam k q = { s with regs := (t.setSeam k q).regs, stitch := (t.setSeam k q).stitch,
                             top := (t.setSeam k q).top } := by
  rw [h.eq]
  rfl

/-- A line of a camera whose span begins at column f, with the samples of n columns from u on made absent. -/
def SeamLine.lose (x : SeamLine) (f u n : Nat) : SeamLine :=
  { x with bad := x.bad ++ ((tabulate n (fun i => u + i)).filter (fun c => decide (f ≤ c))).map (fun c => c - f) }

/-- Columns from one of the span on are all of the span. -/
theorem SeamLine.lose_inside {f u : Nat} (h : f ≤ u) (x : SeamLine) (n : Nat) :
    x.lose f u n = { x with bad := x.bad ++ tabulate n (fun i => u + i - f) } := by
  unfold SeamLine.lose
  rw [List.filter_eq_self.2]
  · simp [tabulate]
  · intro c hc
    simp only [tabulate, List.mem_map] at hc
    obtain ⟨i, -, rfl⟩ := hc
    exact decide_eq_true (by omega)

theorem seamSram_uncorrected {cam : Fin 24} {line : Int} {u : Nat} {x : SeamLine} (n addr : Nat)
    (hseam : s.seamOf cam = [x]) (hline : x.line = line) (hspan : s.spanFirst cam ≤ u) : ∃ slots,
    exec (.seamSram true cam line u n addr) s = .next ((s.seamError 7 slots).setSeam cam
      [{ x with bad := x.bad ++ tabulate n (fun i => u + i - s.spanFirst cam) }]) := by
  obtain ⟨slots, hslots⟩ : ∃ slots, slots = slot1 (b2n true) ++ slot2 addr := ⟨_, rfl⟩
  have hof : (s.seamError 7 slots).seamOf cam = [x] := by
    rw [(seamError_inLog s 7 slots).eq]
    exact hseam
  have hfirst := spanFirst_seamError s (lsb := 7) slots cam
  have hex : exec (.seamSram true cam line u n addr) s = .next ((s.seamError 7 slots).setSeam cam
      (((s.seamError 7 slots).seamOf cam).map fun x =>
        if x.line = line then x.lose ((s.seamError 7 slots).spanFirst cam) u n else x)) := hslots ▸ rfl
  rw [hof, hfirst, List.map_singleton, if_pos hline, SeamLine.lose_inside hspan] at hex
  exact ⟨slots, hex⟩

/-- Settles O20: what is formed, what leaves and what an error takes away have a lemma each above. -/
theorem stitcherFormsAndAccountsForLines : Obligations.StitcherFormsAndAccountsForLines := by
  refine ⟨?_, ?_, ?_, ?_, ?_, ?_, ?_, ?_, ?_, ?_⟩
  · intro s hoff hlayout
    have ht := stitchEnable_enabled hoff hlayout
    exact ⟨_, rfl, ht.en, ht.seam, ht.staging, ht.firstAll, ht.keeps, ht.frame⟩
  · intro s n k hoff hlayout hn hk
    have hex : exec .stitchEnable s = .next (s.geomError n k) :=
      congrArg Host.Outcome.next (stitchEnable_fails hoff hlayout)
    have hkept := keeps_geomError s n k
    have hen : (s.geomError n k).on STITCH_CTRL_EN = s.on STITCH_CTRL_EN := on_of_rd (hkept _ (by decide))
    exact ⟨_, hex, hen.trans hoff, rd_geomError_flag s n k, rd_geomError_check s k hn, rd_geomError_cam s n hk, hkept,
      geomError_inLog s n k⟩
  · intro s cancel
    have hex : exec (.stitchCommit cancel) s = .next (s.stitchCommit cancel) := rfl
    have ht := stitchCommit_commits s cancel
    generalize s.stitchCommit cancel = t at hex ht
    exact ⟨t, hex, ht.active, ht.last, ht.pending, ht.valid, ht.keeps, ht.tl, ht.others, ht.frame⟩
  · intro s clk n m hen hactive hfree hstarted hall hset
    have ht := formLine_formed (by rw [hstarted]; rfl) m n false clk
    exact ⟨_, stitchLineStart_forms hen hactive hfree hstarted hall hset, ht.started, ht.freeAt, ht.forming⟩
  · intro s clk t₀ f rest hwork hclk
    obtain ⟨u, hrest, hex⟩ := stitchLineDone_leaves none hwork hclk
    have ht := planeLine_left u f (clk + 64)
    exact ⟨_, hex, ht.work.trans hrest, ht.fine, ht.coarse⟩
  · intro s clk t₀ c rest hout hclk
    obtain ⟨t, hex, ht⟩ := coarseLineOut_leaves hout hclk
    exact ⟨t, hex, by rw [ht], by rw [ht]; rfl⟩
  · intro s a hforming hunformed hbehind
    exact ⟨_, notFormed_counts hforming, notFormedTo_counts hunformed hbehind⟩
  · intro s a hforming hunformed hahead
    rw [notFormed_counts hforming, notFormedTo_self hunformed hahead]
  · intro s cam line u n addr
    obtain ⟨slots, hex⟩ := seamSram_corrected s cam line u n addr
    exact ⟨_, hex, rd_seamError_flag s 6 slots, keeps_seamError s 6 slots, seamError_inLog s 6 slots⟩
  · intro s cam line u n addr x hseam hline hspan
    obtain ⟨slots, hex⟩ := seamSram_uncorrected n addr hseam hline hspan
    exact ⟨_, hex, rd_seamError_flag s 7 slots, seamOf_setSeam_same .., keeps_seamError s 7 slots,
      (seamError_inLog s 7 slots).setSeam_frame⟩

end Sys2Proof.Machine
end

section
namespace Sys2Proof.Machine
open Sys2Proof

/-! ## The banks of the head tables (R168)

SWAP puts the words of the inactive bank among the registers, and then shows the other number in ATTR_BANK. -/

/-- The registers once the words of the inactive bank have taken the place of the active bank's. -/
def State.withBank (s : State) : State :=
  s.fine.bank.foldl (fun s e => s.setReg e.1 e.2) { s with regs := s.regs.filter (fun e => !bankWord e.1) }

/-- SWAP turns ATTR_BANK over as it reads once the words of the inactive bank are in place. -/
theorem attrSwap_bank {s : State} (h : s.on FINE_ATTR_CTRL_BUSY = false) : ∃ t, exec .attrSwap s = .next t ∧
    t.rd FINE_STATUS_ATTR_BANK = (1 - s.withBank.rd FINE_STATUS_ATTR_BANK) % 2 := by
  refine ⟨s.attrSwap, rfl, ?_⟩
  unfold State.attrSwap
  rw [if_neg (by simp [h])]
  exact rd_wr_same _ FINE_STATUS_ATTR_BANK _ (by decide)

/-- After reset, but the inactive bank holds one word: that of FINE_STATUS, with ATTR_BANK 1. -/
def bankHoldsStatus : State := { State.reset with fine := { bank := [(FINE_STATUS.off, 0x40)] } }

/-- Refutes O21: a state is not held to a bank of bank words alone (R168). Where the inactive bank holds a word for
FINE_STATUS with ATTR_BANK 1, SWAP from bank 0 leaves ATTR_BANK 0; the statement asks for 1. -/
theorem not_finePathSeedsAndAttributes : ¬ Obligations.FinePathSeedsAndAttributes := by
  intro ⟨_, _, _, _, _, _, _, hswap, _⟩
  have hbusy : bankHoldsStatus.on FINE_ATTR_CTRL_BUSY = false := by decide
  have hbank : bankHoldsStatus.rd FINE_STATUS_ATTR_BANK = 0 := by decide
  have hloaded : bankHoldsStatus.withBank.rd FINE_STATUS_ATTR_BANK = 1 := by decide
  obtain ⟨t, hex, -, hclaim, -⟩ := hswap bankHoldsStatus hbusy
  obtain ⟨t', hex', hshown⟩ := attrSwap_bank hbusy
  obtain rfl : t' = t := Host.Outcome.next.inj (hex'.symm.trans hex)
  rw [hshown, hloaded, hbank] at hclaim
  exact absurd hclaim (by decide)

end Sys2Proof.Machine
end

section
namespace Sys2Proof.Machine
open Sys2Proof

variable {s t u : State} {c g : Nat} {line : Int}

/-! ## Profile channels (R175 to R180)

### Numbers and lists -/

theorem signed_toBits {w : Nat} {i : Int} (hlo : -2 ^ w ≤ i) (hhi : i < 2 ^ w) :
    signed (w + 1) (toBits (w + 1) i) = i := by
  have hpow : (2 : Int) ^ (w + 1) = 2 * 2 ^ w := pow_succ' ..
  have hcode : ((toBits (w + 1) i : Nat) : Int) = if 0 ≤ i then i else i + 2 ^ (w + 1) := by
    unfold toBits
    rw [Int.toNat_of_nonneg (Int.emod_nonneg _ (by positivity))]
    split
    · exact Int.emod_eq_of_lt ‹_› (by omega)
    · rw [← Int.add_emod_right]
      exact Int.emod_eq_of_lt (by omega) (by omega)
  unfold signed
  rw [toBits_mod, Nat.add_sub_cancel]
  have hcast : ((2 ^ w : Nat) : Int) = 2 ^ w := by push_cast; rfl
  dsimp only
  split at hcode <;> split <;> omega

theorem signed_toNat (v : BitVec 64) : signed 64 v.toNat = v.toInt := by
  rw [BitVec.toInt_eq_toNat_cond]
  have := v.isLt
  unfold signed
  dsimp only
  split <;> split <;> omega

/-- One element of a list without repetitions makes of `P` a `Q`; the others keep both. -/
theorem foldl_once {α β : Type} {l : List α} {f : β → α → β} {P Q : β → Prop} {a : α} {b : β} (hl : l.Nodup)
    (ha : a ∈ l) (hb : P b) (hP : ∀ b, ∀ x ∈ l, x ≠ a → P b → P (f b x)) (hPQ : ∀ b, P b → Q (f b a))
    (hQ : ∀ b, ∀ x ∈ l, x ≠ a → Q b → Q (f b x)) : Q (l.foldl f b) := by
  obtain ⟨before, after, rfl⟩ := List.append_of_mem ha
  rw [List.nodup_append, List.nodup_cons] at hl
  obtain ⟨-, ⟨hafter, -⟩, hbefore⟩ := hl
  rw [List.foldl_append, List.foldl_cons]
  have hmid : P (before.foldl f b) := List.foldlRecOn _ _ hb fun b hb x hx =>
    hP b x (List.mem_append_left _ hx) (hbefore x hx a (List.mem_cons_self ..)) hb
  exact List.foldlRecOn _ _ (hPQ _ hmid) fun b hb x hx =>
    hQ b x (List.mem_append_right _ (List.mem_cons_of_mem _ hx)) (fun h => hafter (h ▸ hx)) hb

/-! ### The part of a state that a channel reaches -/

@[simp] theorem pch_setPch_same (s : State) (c : Nat) (x : ProfCh) : (s.setPch c x).pch c = x := spGet_spSet_same ..

@[simp] theorem rd_setPch (s : State) (c : Nat) (x : ProfCh) (f : Fld) : (s.setPch c x).rd f = s.rd f :=
  rd_congr rfl f

theorem pch_of_prof (h : t.prof = s.prof) (c : Nat) : t.pch c = s.pch c := by rw [State.pch, h, State.pch]

theorem State.InRegs.prof (h : s.InRegs t) : t.prof = s.prof := by rw [h.eq]

/-- `t` differs from `s` at most in its registers, profile channels and events. -/
def State.InProf (s t : State) : Prop := t = { s with regs := t.regs, prof := t.prof, ev := t.ev }

namespace State.InProf

theorem refl (s : State) : s.InProf s := rfl

theorem trans (h : s.InProf t) (h' : t.InProf u) : s.InProf u := by
  unfold State.InProf at h h' ⊢
  rw [h', h]

theorem wr (h : s.InProf t) {f v} : s.InProf (t.wr f v) := h.trans (by unfold State.InProf; rw [wr_frame])

theorem update {prof} (h : s.InProf t) : s.InProf { t with prof := prof } := h.trans rfl

theorem occur (h : s.InProf t) {producer hop} : s.InProf (t.occur producer hop) :=
  h.trans (by unfold State.InProf State.occur; split <;> rfl)

theorem tl (h : s.InProf t) : t.tl = s.tl := by rw [show t = _ from h]

end State.InProf

/-! ### Enabling (R175) -/

/-- The registers of a channel that starts. -/
def State.showChannel (s : State) (c : Nat) : State :=
  (((((s.set1 (PROFILE_CH_CTRL_EN c)).set1 (PROFILE_CH_STATUS_RUNNING c)).wr (PROFILE_CH_DELAY c)
    (((s.set1 (PROFILE_CH_CTRL_EN c)).set1 (PROFILE_CH_STATUS_RUNNING c)).profDelay c)).wr (PROFILE_CH_UNSETTLED c)
    (s.profU c)).wr (PROFILE_CH_OUT_COUNT c) 0).wr (PROFILE_CH_STATUS_SETTLED c) (b2n (s.profU c == 0))

theorem profEnable_starts (hoff : s.on (PROFILE_CH_CTRL_EN c) = false) (hcheck : s.profCheck c = none) :
    s.profEnable c = (s.showChannel c).setPch c {} := by
  unfold State.profEnable
  rw [if_neg (by simp [hoff]), hcheck]
  rfl

theorem showChannel_inRegs (s : State) (c : Nat) : s.InRegs (s.showChannel c) :=
  (State.InRegs.refl s).wr.wr.wr.wr.wr.wr

theorem keeps_showChannel (s : State) (c : Nat) : s.keeps (s.showChannel c)
    [PROFILE_CH_CTRL_EN c, PROFILE_CH_STATUS_RUNNING c, PROFILE_CH_STATUS_SETTLED c, PROFILE_CH_DELAY c,
      PROFILE_CH_UNSETTLED c, PROFILE_CH_OUT_COUNT c] :=
  State.keeps_wr (State.keeps_wr (State.keeps_wr (State.keeps_wr (State.keeps_set1 (State.keeps_set1
    (State.keeps_refl s _) (by simp)) (by simp)) _ _ (by simp)) _ _ (by simp)) _ _ (by simp)) _ _ (by simp)

theorem rd_showChannel_en (s : State) (c : Nat) : (s.showChannel c).rd (PROFILE_CH_CTRL_EN c) = 1 :=
  calc
    _ = _ := rd_wr_apart _ _ _ _ Fld.apart_element
    _ = _ := rd_wr_apart _ _ _ _ Fld.apart_element
    _ = _ := rd_wr_apart _ _ _ _ Fld.apart_element
    _ = _ := rd_wr_apart _ _ _ _ Fld.apart_element
    _ = _ := rd_wr_apart _ _ _ _ Fld.apart_element
    _ = 1 := rd_wr_flag s _ 0 true

theorem rd_showChannel_running (s : State) (c : Nat) : (s.showChannel c).rd (PROFILE_CH_STATUS_RUNNING c) = 1 :=
  calc
    _ = _ := rd_wr_apart _ _ _ _ Fld.apart_element
    _ = _ := rd_wr_apart _ _ _ _ Fld.apart_element
    _ = _ := rd_wr_apart _ _ _ _ Fld.apart_element
    _ = _ := rd_wr_apart _ _ _ _ Fld.apart_element
    _ = 1 := rd_wr_flag _ _ 0 true

theorem rd_showChannel_count (s : State) (c : Nat) : (s.showChannel c).rd (PROFILE_CH_OUT_COUNT c) = 0 :=
  calc
    _ = _ := rd_wr_apart _ _ _ _ Fld.apart_element
    _ = 0 := rd_wr_same _ (PROFILE_CH_OUT_COUNT c) 0 (by simp [PROFILE_CH_OUT_COUNT])

/-- A check n that the channel fails is shown and recorded. -/
def State.configError (s : State) (c n : Nat) : State :=
  ((s.set1 (PROFILE_CH_STATUS_CONFIG_ERR c)).wr (PROFILE_CH_STATUS_CHECK c) n).fault srcProfile 0x3140
    (slot1 c ++ slot1 n)

theorem profEnable_fails {n : Nat} (hoff : s.on (PROFILE_CH_CTRL_EN c) = false) (hcheck : s.profCheck c = some n) :
    s.profEnable c = s.configError c n := by
  unfold State.profEnable
  rw [if_neg (by simp [hoff]), hcheck]
  rfl

theorem configError_inLog (s : State) (c n : Nat) : s.InLog (s.configError c n) := (State.InLog.refl s).wr.wr.fault

theorem keeps_configError (s : State) (c n : Nat) : s.keeps (s.configError c n)
    ([PROFILE_CH_STATUS_CONFIG_ERR c, PROFILE_CH_STATUS_CHECK c] ++ faultFlds) :=
  State.keeps_fault (State.keeps_wr (State.keeps_set1 (State.keeps_refl s _) (by simp)) _ _ (by simp)) _ _ _
    fun _ hf => List.mem_append_right _ hf

theorem rd_configError_en (s : State) (c n : Nat) :
    (s.configError c n).rd (PROFILE_CH_CTRL_EN c) = s.rd (PROFILE_CH_CTRL_EN c) :=
  calc
    _ = _ := rd_fault _ _ _ _ _ (faultFlds_apart_array (by decide))
    _ = _ := rd_wr_apart _ _ _ _ Fld.apart_element
    _ = _ := rd_wr_apart _ _ _ _ Fld.apart_element

theorem rd_configError_flag (s : State) (c n : Nat) : (s.configError c n).rd (PROFILE_CH_STATUS_CONFIG_ERR c) = 1 :=
  calc
    _ = _ := rd_fault _ _ _ _ _ (faultFlds_apart_array (by decide))
    _ = _ := rd_wr_apart _ _ _ _ Fld.apart_element
    _ = 1 := rd_wr_flag s _ 1 true

theorem rd_configError_check {n : Nat} (s : State) (c : Nat) (hn : n < 16) :
    (s.configError c n).rd (PROFILE_CH_STATUS_CHECK c) = n :=
  calc
    _ = _ := rd_fault _ _ _ _ _ (faultFlds_apart_array (by decide))
    _ = n % 2 ^ 5 := rd_wr_same _ (PROFILE_CH_STATUS_CHECK c) n (by simp [PROFILE_CH_STATUS_CHECK])
    _ = n := by omega

/-! ### Syncs (R178, R179) -/

/-- The registers of channel c. -/
abbrev Fld.ofChannel (f : Fld) (c : Nat) : Prop := f.within (0xC8000 + 0x80 * c) (0xC8080 + 0x80 * c)

theorem Fld.ofChannel_own {base lsb w : Nat}
    (h : 0xC8000 * 8 ≤ base * 8 + lsb ∧ base * 8 + lsb + w ≤ 0xC8080 * 8 := by decide) :
    Fld.ofChannel ⟨base + 0x80 * c, lsb, w⟩ c := by
  unfold Fld.ofChannel Fld.within
  dsimp only
  omega

theorem Fld.clearOf_channel {base lsb w d : Nat} (hd : d ≠ c)
    (h : 0xC8000 * 8 ≤ base * 8 + lsb ∧ base * 8 + lsb + w ≤ 0xC8080 * 8 := by decide) :
    Fld.clearOf ⟨base + 0x80 * d, lsb, w⟩ (0xC8000 + 0x80 * c) (0xC8080 + 0x80 * c) := by
  unfold Fld.clearOf
  dsimp only
  omega

/-- `t` has channel c as `s` has it. -/
structure State.SameChannel (s : State) (c : Nat) (t : State) : Prop where
  chan : t.pch c = s.pch c
  rd : ∀ f : Fld, f.ofChannel c → t.rd f = s.rd f
  frame : s.InProf t

/-- What `t` has of a sync of channel c in state s. -/
structure State.Synced (s : State) (c : Nat) (line : Int) (t : State) : Prop where
  chan : t.pch c = { syncLine := some line, syncTick := some s.now }
  count : t.rd (PROFILE_CH_OUT_COUNT c) = 0
  settled : t.rd (PROFILE_CH_STATUS_SETTLED c) = b2n (s.rd (PROFILE_CH_UNSETTLED c) == 0)
  group : t.rd (PROFILE_CH_CTRL_GROUP c) = s.rd (PROFILE_CH_CTRL_GROUP c)
  frame : s.InProf t

/-- What a sync of group g with a sync line makes of channel c. -/
def State.syncChannel (s : State) (g : Nat) (line : Int) (c : Nat) : State :=
  if s.on (PROFILE_CH_CTRL_EN c) && s.rd (PROFILE_CH_CTRL_GROUP c) == g then
    let s := s.setPch c { syncLine := some line, syncTick := some s.now }
    (s.wr (PROFILE_CH_OUT_COUNT c) 0).wr (PROFILE_CH_STATUS_SETTLED c) (b2n (s.rd (PROFILE_CH_UNSETTLED c) == 0))
  else s

/-- Group g has had its sync of this tick. -/
def State.noteSync (s : State) (g : Nat) : State :=
  { s with prof := { s.prof with synced := spSet (fun _ => 0) s.prof.synced g (s.now + 1) } }

theorem profSync_eq (h : spGet (fun _ => 0) s.prof.synced g ≠ s.now + 1) : s.profSync g line =
    (((List.range 256).foldl (fun s c => s.syncChannel g line c) (s.noteSync g)).bump (PROFILE_SYNC_COUNT g)).occur
      224 := by
  unfold State.profSync
  rw [if_neg h]
  rfl

theorem profSync_again (h : spGet (fun _ => 0) s.prof.synced g = s.now + 1) : s.profSync g line = s := if_pos h

namespace State.SameChannel

theorem refl (s : State) (c : Nat) : s.SameChannel c s := ⟨rfl, fun _ _ => rfl, .refl s⟩

theorem group (h : s.SameChannel c t) : t.rd (PROFILE_CH_CTRL_GROUP c) = s.rd (PROFILE_CH_CTRL_GROUP c) :=
  h.rd _ Fld.ofChannel_own

theorem unsettled (h : s.SameChannel c t) : t.rd (PROFILE_CH_UNSETTLED c) = s.rd (PROFILE_CH_UNSETTLED c) :=
  h.rd _ Fld.ofChannel_own

theorem en (h : s.SameChannel c t) : t.on (PROFILE_CH_CTRL_EN c) = s.on (PROFILE_CH_CTRL_EN c) :=
  on_of_rd (h.rd _ Fld.ofChannel_own)

theorem trans (h : s.SameChannel c t) (h' : t.SameChannel c u) : s.SameChannel c u :=
  ⟨h'.chan.trans h.chan, fun f hf => (h'.rd f hf).trans (h.rd f hf), h.frame.trans h'.frame⟩

/-- A write beside the registers of channel c. -/
theorem wr (h : s.SameChannel c t) {f v} (hf : f.clearOf (0xC8000 + 0x80 * c) (0xC8080 + 0x80 * c)) :
    s.SameChannel c (t.wr f v) :=
  ⟨(pch_of_prof (wr_prof ..) c).trans h.chan, fun k hk => (rd_wr_apart t f k v (by
    unfold Fld.apart
    omega)).trans (h.rd k hk), h.frame.wr⟩

theorem occur (h : s.SameChannel c t) {producer hop} : s.SameChannel c (t.occur producer hop) :=
  ⟨(pch_of_prof (occur_prof ..) c).trans h.chan, fun k hk => (rd_occur ..).trans (h.rd k hk), h.frame.occur⟩

theorem setPch (h : s.SameChannel c t) {d x} (hd : d ≠ c) : s.SameChannel c (t.setPch d x) :=
  ⟨(spGet_spSet_ne _ _ _ hd).trans h.chan, fun k hk => (rd_setPch ..).trans (h.rd k hk), h.frame.update⟩

/-- A sync reaches no channel of another group, and of its own group no other channel. -/
theorem syncChannel (h : s.SameChannel c t) {d} (hd : d ≠ c ∨ s.rd (PROFILE_CH_CTRL_GROUP c) ≠ g) :
    s.SameChannel c (t.syncChannel g line d) := by
  unfold State.syncChannel
  split
  · next hin =>
    have hdc : d ≠ c := by
      rintro rfl
      rw [h.group] at hin
      simp_all
    exact ((h.setPch hdc).wr (Fld.clearOf_channel hdc)).wr (Fld.clearOf_channel hdc)
  · exact h

end State.SameChannel

theorem noteSync_sameChannel (s : State) (g c : Nat) : s.SameChannel c (s.noteSync g) :=
  ⟨rfl, fun f _ => rd_congr rfl f, (State.InProf.refl s).update⟩

/-- A sync leaves a channel of another group as it was. -/
theorem profSync_other (hg : g < 16) (h : s.rd (PROFILE_CH_CTRL_GROUP c) ≠ g) :
    s.SameChannel c (s.profSync g line) := by
  by_cases hagain : spGet (fun _ => 0) s.prof.synced g = s.now + 1
  · rw [profSync_again hagain]
    exact .refl s c
  · rw [profSync_eq hagain]
    refine State.SameChannel.occur (State.SameChannel.wr ?_ (by simp only [Fld.clearOf, PROFILE_SYNC_COUNT]; omega))
    exact List.foldlRecOn _ _ (noteSync_sameChannel s g c) fun t ht d _ => ht.syncChannel (.inr h)

theorem syncChannel_prof_synced (s : State) (g : Nat) (line : Int) (c : Nat) :
    (s.syncChannel g line c).prof.synced = s.prof.synced := by
  unfold State.syncChannel
  split
  · rw [wr_prof, wr_prof]
    rfl
  · rfl

/-- A sync of one group is not one of another. -/
theorem profSync_prof_synced {k : Nat} (h : g ≠ k) :
    spGet (fun _ => 0) (s.profSync g line).prof.synced k = spGet (fun _ => 0) s.prof.synced k := by
  by_cases hagain : spGet (fun _ => 0) s.prof.synced g = s.now + 1
  · rw [profSync_again hagain]
  · have hall : ((List.range 256).foldl (fun s c => s.syncChannel g line c) (s.noteSync g)).prof.synced =
        (s.noteSync g).prof.synced :=
      List.foldlRecOn _ _ (motive := fun t => t.prof.synced = (s.noteSync g).prof.synced) rfl
        fun t ht d _ => (syncChannel_prof_synced t g line d).trans ht
    rw [profSync_eq hagain, occur_prof, bump_prof, hall]
    exact spGet_spSet_ne _ s.prof.synced (s.now + 1) h

theorem State.Synced.same (h : s.Synced c line t) (h' : t.SameChannel c u) : s.Synced c line u where
  chan := h'.chan.trans h.chan
  count := (h'.rd _ Fld.ofChannel_own).trans h.count
  settled := (h'.rd _ Fld.ofChannel_own).trans h.settled
  group := h'.group.trans h.group
  frame := h.frame.trans h'.frame

/-- A sync of what a state has come to since is a sync of that state. -/
theorem State.Synced.since (h : s.SameChannel c t) (h' : t.Synced c line u) : s.Synced c line u where
  chan := h'.chan.trans (by rw [now_of_tl h.frame.tl])
  count := h'.count
  settled := h'.settled.trans (by rw [h.unsettled])
  group := h'.group.trans h.group
  frame := h.frame.trans h'.frame

theorem syncChannel_synced (hen : s.on (PROFILE_CH_CTRL_EN c) = true) (hg : s.rd (PROFILE_CH_CTRL_GROUP c) = g) :
    s.Synced c line (s.syncChannel g line c) := by
  unfold State.syncChannel
  rw [if_pos (by simp [hen, hg])]
  refine ⟨?_, ?_, ?_, ?_, (State.InProf.refl s).update.wr.wr⟩
  · exact (pch_of_prof ((wr_prof ..).trans (wr_prof ..)) c).trans (pch_setPch_same ..)
  · exact (rd_wr_apart _ _ _ _ Fld.apart_element).trans
      (rd_wr_same _ (PROFILE_CH_OUT_COUNT c) 0 (by simp [PROFILE_CH_OUT_COUNT]))
  · exact rd_wr_flag _ _ 11 _
  · exact (rd_wr_apart _ _ _ _ Fld.apart_element).trans ((rd_wr_apart _ _ _ _ Fld.apart_element).trans (rd_congr rfl _))

/-- A sync of the group of an enabled channel is applied to the channel. -/
theorem profSync_synced (hc : c < 256) (hen : s.on (PROFILE_CH_CTRL_EN c) = true)
    (hg : s.rd (PROFILE_CH_CTRL_GROUP c) = g) (hfirst : spGet (fun _ => 0) s.prof.synced g ≠ s.now + 1) :
    s.Synced c line (s.profSync g line) := by
  have hgroup : g < 2 ^ 4 := hg ▸ rd_lt s (PROFILE_CH_CTRL_GROUP c)
  have hall : s.Synced c line ((List.range 256).foldl (fun s c => s.syncChannel g line c) (s.noteSync g)) := by
    refine foldl_once List.nodup_range (List.mem_range.2 hc) (noteSync_sameChannel s g c) (fun t d _ hd ht => ?_)
      (fun t ht => ?_) (fun t d _ hd ht => ?_)
    · exact ht.syncChannel (.inl hd)
    · exact .since ht (syncChannel_synced (ht.en.trans hen) (ht.group.trans hg))
    · exact ht.same ((State.SameChannel.refl t c).syncChannel (.inl hd))
  rw [profSync_eq hfirst]
  exact hall.same (((State.SameChannel.refl _ c).wr (by simp only [Fld.clearOf, PROFILE_SYNC_COUNT]; omega)).occur)

/-- A write of PROFILE_SYNC applies one sync to each enabled channel of the groups it names. -/
theorem profileSync_synced {groups : BitVec 16} (hc : c < 256) (hen : s.on (PROFILE_CH_CTRL_EN c) = true)
    (hin : bitAt groups.toNat (s.rd (PROFILE_CH_CTRL_GROUP c)) = true)
    (hfirst : spGet (fun _ => 0) s.prof.synced (s.rd (PROFILE_CH_CTRL_GROUP c)) ≠ s.now + 1) : ∃ t,
    exec (.profileSync groups) s = .next t ∧ s.Synced c (s.line + 1) t := by
  refine ⟨_, rfl, ?_⟩
  refine foldl_once (f := fun s g => if bitAt groups.toNat g then s.profSync g (s.line + 1) else s)
    (P := fun t => s.SameChannel c t ∧ spGet (fun _ => 0) t.prof.synced (s.rd (PROFILE_CH_CTRL_GROUP c)) =
      spGet (fun _ => 0) s.prof.synced (s.rd (PROFILE_CH_CTRL_GROUP c))) List.nodup_range
    (List.mem_range.2 (rd_lt s (PROFILE_CH_CTRL_GROUP c))) ⟨.refl s c, rfl⟩ (fun t g hg hne ht => ?_) (fun t ht => ?_)
    (fun t g hg hne ht => ?_)
  · obtain ⟨hsame, hsync⟩ := ht
    split
    · exact ⟨hsame.trans (profSync_other (List.mem_range.1 hg) (hsame.group ▸ hne.symm)),
        (profSync_prof_synced hne).trans hsync⟩
    · exact ⟨hsame, hsync⟩
  · obtain ⟨hsame, hsync⟩ := ht
    have hline : t.line = s.line := by rw [State.line, hsame.frame.tl, State.line]
    have hnow : t.now = s.now := now_of_tl hsame.frame.tl
    rw [if_pos hin, hline]
    exact .since hsame (profSync_synced hc (hsame.en.trans hen) hsame.group (by rw [hsync, hnow]; exact hfirst))
  · split
    · exact ht.same (profSync_other (List.mem_range.1 hg) (ht.group ▸ hne.symm))
    · exact ht

theorem profileSyncAt_offers (s : State) (g : Fin 16) (at64 : BitVec 64) :
    exec (.profileSyncAt g at64) s = .next (s.offer' (.profileSync g) (slotOf at64.toInt)) := by
  rw [← signed_toNat]
  rfl

/-- The entry that is due first is taken when it satisfies the test. -/
theorem takeDue_takes {p : Action → Bool} {e : SchedEntry} (hdue : firstDue s.now s.tl.sched = some e)
    (hp : p e.act = true) :
    s.takeDue p = some (e, { s with tl := { s.tl with sched := dropEntry e s.tl.sched } }) := by
  unfold State.takeDue
  rw [hdue]
  exact if_pos hp

theorem profileSyncAction_syncs {e : SchedEntry} (hdue : firstDue s.now s.tl.sched = some e)
    (hact : e.act = .profileSync g) : exec .profileSyncAction s =
      .next (({ s with tl := { s.tl with sched := dropEntry e s.tl.sched } } : State).profSync g
        (ceilDiv e.slot 256)) := by
  rw [exec_profileSyncAction]
  unfold execProfileSyncAction
  rw [takeDue_takes hdue (by rw [hact])]
  dsimp only
  rw [hact]

/-! ### Detector windows (R180) -/

/-- The registers that the close of a detector window writes. -/
def detFlds (c : Nat) : List Fld :=
  [PROFILE_CH_DET_MAX c, PROFILE_CH_DET_MIN c, PROFILE_CH_DET_RMS c, PROFILE_CH_DET_ENV c, PROFILE_CH_DET_N c]

/-- A detector window is shown. -/
def State.showDet (s : State) (c hi lo rms env n : Nat) : State :=
  ((((s.wr (PROFILE_CH_DET_MAX c) hi).wr (PROFILE_CH_DET_MIN c) lo).wr (PROFILE_CH_DET_RMS c) rms).wr
    (PROFILE_CH_DET_ENV c) env).wr (PROFILE_CH_DET_N c) n

/-- What `t` has of the close of channel c's detector window in state s. -/
structure State.DetShown (s : State) (c hi lo rms env n : Nat) (t : State) : Prop where
  max : t.rd (PROFILE_CH_DET_MAX c) = hi % 2 ^ 32
  min : t.rd (PROFILE_CH_DET_MIN c) = lo % 2 ^ 32
  rms : t.rd (PROFILE_CH_DET_RMS c) = rms % 2 ^ 32
  env : t.rd (PROFILE_CH_DET_ENV c) = env % 2 ^ 32
  n : t.rd (PROFILE_CH_DET_N c) = n % 2 ^ 32
  det : (t.pch c).det = { env := (s.pch c).det.env }
  keeps : s.keeps t (detFlds c)
  frame : t = { s with regs := t.regs, prof := t.prof }

/-- A new detector window opens with the envelope of the last. -/
def State.openDet (s : State) (c : Nat) : State :=
  s.setPch c { s.pch c with det := { env := (s.pch c).det.env } }

theorem showDet_shown (s : State) (c hi lo rms env n : Nat) :
    s.DetShown c hi lo rms env n ((s.openDet c).showDet c hi lo rms env n) := by
  have hw : ∀ base, (⟨base + 0x80 * c, 0, 32⟩ : Fld).lsb + (⟨base + 0x80 * c, 0, 32⟩ : Fld).w ≤ 64 := fun _ =>
    show 0 + 32 ≤ 64 by decide
  have hregs : (s.openDet c).InRegs ((s.openDet c).showDet c hi lo rms env n) :=
    (State.InRegs.refl _).wr.wr.wr.wr.wr
  refine ⟨?_, ?_, ?_, ?_, rd_wr_same _ (PROFILE_CH_DET_N c) n (hw _), ?_, ?_, ?_⟩
  · calc
      _ = _ := rd_wr_apart _ _ _ _ Fld.apart_element
      _ = _ := rd_wr_apart _ _ _ _ Fld.apart_element
      _ = _ := rd_wr_apart _ _ _ _ Fld.apart_element
      _ = _ := rd_wr_apart _ _ _ _ Fld.apart_element
      _ = _ := rd_wr_same _ (PROFILE_CH_DET_MAX c) hi (hw _)
  · calc
      _ = _ := rd_wr_apart _ _ _ _ Fld.apart_element
      _ = _ := rd_wr_apart _ _ _ _ Fld.apart_element
      _ = _ := rd_wr_apart _ _ _ _ Fld.apart_element
      _ = _ := rd_wr_same _ (PROFILE_CH_DET_MIN c) lo (hw _)
  · calc
      _ = _ := rd_wr_apart _ _ _ _ Fld.apart_element
      _ = _ := rd_wr_apart _ _ _ _ Fld.apart_element
      _ = _ := rd_wr_same _ (PROFILE_CH_DET_RMS c) rms (hw _)
  · exact (rd_wr_apart _ _ _ _ Fld.apart_element).trans (rd_wr_same _ (PROFILE_CH_DET_ENV c) env (hw _))
  · rw [pch_of_prof hregs.prof]
    exact congrArg ProfCh.det (pch_setPch_same ..)
  · have hopen : s.keeps (s.openDet c) (detFlds c) := State.keeps_of_regs rfl _
    exact State.keeps_wr (State.keeps_wr (State.keeps_wr (State.keeps_wr (State.keeps_wr hopen _ _ (by simp [detFlds]))
      _ _ (by simp [detFlds])) _ _ (by simp [detFlds])) _ _ (by simp [detFlds])) _ _ (by simp [detFlds])
  · rw [hregs.eq]
    rfl

/-- A window without an output shows 0. -/
theorem detClose_empty (h : (s.pch c).det.n = 0) : s.detClose c = (s.openDet c).showDet c 0 0 0 0 0 := if_pos h

theorem detClose_shows {hi lo : Int} (h : (s.pch c).det.n ≠ 0) (hmax : (s.pch c).det.max = some hi)
    (hmin : (s.pch c).det.min = some lo) : s.detClose c = (s.openDet c).showDet c (toBits 32 hi) (toBits 32 lo)
      (rmsOf (s.pch c).det.sumsq (s.pch c).det.n) (rneShift (s.pch c).det.env 16).toNat (s.pch c).det.n := by
  unfold State.detClose
  extract_lets x d u
  rw [if_neg h, hmax, hmin]
  rfl

/-- A 32-bit field that holds the code of a number reads as the number. -/
theorem rdS_of_toBits {off : Nat} {i : Int} (h : t.rd ⟨off, 0, 32⟩ = toBits 32 i % 2 ^ 32) (hlo : -2 ^ 31 ≤ i)
    (hhi : i < 2 ^ 31) : t.rdS ⟨off, 0, 32⟩ = i := by
  rw [State.rdS, h, toBits_mod]
  exact signed_toBits hlo hhi

/-! ## The sensor port (R183, R184) -/

/-- The port takes a sample of the present tick and position. -/
def State.startSample (s : State) : State :=
  ({ s with sens := { s.sens with start := some (s.now, s.pos16) } }).set1 SENSOR_STATUS_BUSY

theorem sensorStart_idle (h : s.sens.start = none) : s.sensorStart = s.startSample := by
  unfold State.sensorStart
  rw [h]
  rfl

theorem keeps_startSample (s : State) : s.keeps s.startSample [SENSOR_STATUS_BUSY] :=
  State.keeps_set1 (State.keeps_of_regs rfl _) (by simp)

theorem rd_startSample_busy (s : State) : s.startSample.rd SENSOR_STATUS_BUSY = 1 := rd_wr_flag _ _ 0 true

theorem startSample_frame (s : State) : s.startSample = { s with
    regs := s.startSample.regs, sens := { s.sens with start := some (s.now, s.pos16) } } :=
  wr_frame SENSOR_STATUS_BUSY 1

/-- A start while a transfer is in progress is counted and flagged. -/
def State.skipSample (s : State) : State := (s.bump SENSOR_SKIPPED).set1 SENSOR_STATUS_OVERRUN

/-- The first overrun is recorded. -/
def State.overrun (s : State) : State :=
  if s.on SENSOR_STATUS_OVERRUN then s.skipSample else s.skipSample.fault srcSensor 0x3150 (slot2 s.skipSample.now)

theorem sensorStart_busy {t₀ : Nat} {p : Int} (h : s.sens.start = some (t₀, p)) (hlate : t₀ ≠ s.now) :
    s.sensorStart = s.overrun := by
  unfold State.sensorStart
  rw [h]
  exact if_neg hlate

theorem State.InLog.set1 (h : s.InLog t) {f} : s.InLog (t.set1 f) := h.wr

theorem State.InLog.bump (h : s.InLog t) {f n} : s.InLog (t.bump f n) := h.wr

theorem overrun_inLog (s : State) : s.InLog s.overrun := by
  have hskip : s.InLog s.skipSample := (State.InLog.refl s).bump.set1
  unfold State.overrun
  split
  · exact hskip
  · exact hskip.fault

theorem keeps_overrun (s : State) : s.keeps s.overrun ([SENSOR_SKIPPED, SENSOR_STATUS_OVERRUN] ++ faultFlds) := by
  have hskip : s.keeps s.skipSample ([SENSOR_SKIPPED, SENSOR_STATUS_OVERRUN] ++ faultFlds) :=
    State.keeps_set1 (State.keeps_wr (State.keeps_refl s _) _ _ (by simp)) (by simp)
  unfold State.overrun
  split
  · exact hskip
  · exact State.keeps_fault hskip _ _ _ fun _ hf => List.mem_append_right _ hf

theorem rd_overrun_flag (s : State) : s.overrun.rd SENSOR_STATUS_OVERRUN = 1 := by
  have hskip : s.skipSample.rd SENSOR_STATUS_OVERRUN = 1 := rd_wr_flag _ _ 1 true
  unfold State.overrun
  split
  · exact hskip
  · exact (rd_fault _ _ _ _ _ (faultFlds_apart (by decide))).trans hskip

theorem sensorTimer_starts {due : Nat} (hen : s.on SENSOR_CTRL_EN = true) (hsrc : s.on SENSOR_CTRL_START_SRC = false)
    (hperiod : s.rd SENSOR_PERIOD ≠ 0) (htimer : s.sens.timer = some due) (hdue : due ≤ s.now) : s.sensorTimer =
      ({ s with sens := { s.sens with timer := some (due + s.rd SENSOR_PERIOD) } } : State).sensorStart := by
  unfold State.sensorTimer
  rw [htimer]
  exact if_pos (by simp [hen, hsrc, hperiod, hdue])

/-! ### The end of a transfer (R183) -/

/-- The value that the transfer in state s gave input i. -/
def State.sampled (s : State) (raw : List (BitVec 24)) (i : Nat) : Int :=
  sensorValue (s.rd SENSOR_CTRL_BITS) (s.rd SENSOR_CTRL_FORMAT) (nth 0 raw i).toNat

/-- Channel c takes a value of input i when it has no later sync. -/
def State.feedChannel (s : State) (t : Nat) (p : Int) (i : Nat) (v : Int) (c : Nat) : State :=
  let late := match (s.pch c).syncTick with
    | some q => decide (t ≤ q)
    | none => false
  if s.on (PROFILE_CH_CTRL_EN c) && s.rd (PROFILE_CH_CTRL_SRC c) == profSensor && s.rd (PROFILE_CH_ARG0 c) == i
      && !late then
    State.profInput 256 c (v * 256) p s
  else s

/-- Input i is shown and goes to the channels that take it. -/
def State.showInput (s : State) (raw : List (BitVec 24)) (t : Nat) (p : Int) (i : Nat) : State :=
  if bitAt (s.rd SENSOR_CTRL_CH_EN) i then
    (List.range 256).foldl (fun u c => u.feedChannel t p i (s.sampled raw i) c)
      (s.wrS (SENSOR_CH i) (s.sampled raw i))
  else s

/-- The port is idle and shows the tick and position of its sample. -/
def State.endSample (s : State) (t : Nat) (p : Int) : State :=
  (((({ s with sens := { s.sens with start := none } } : State).wr SENSOR_STATUS_BUSY 0).wr SENSOR_SAMPLE_TICK t).wrS
    SENSOR_SAMPLE_POS p).bump SENSOR_COUNT

theorem sensorTransferDone_shows {raw : List (BitVec 24)} {t₀ : Nat} {p : Int} (hstart : s.sens.start = some (t₀, p))
    (hdone : t₀ + s.sensorTicks ≤ s.now) : exec (.sensorTransferDone raw) s =
      .next ((List.range 8).foldl (fun s i => s.showInput raw t₀ p i) (s.endSample t₀ p)) := by
  rw [exec_sensorTransferDone]
  unfold execSensorTransferDone
  rw [hstart]
  dsimp only
  rw [if_neg (Nat.not_lt.2 hdone)]
  rfl

theorem rd_endSample {f : Fld} (h : f.off * 8 + f.lsb + f.w ≤ 0xD000C * 8) (t₀ : Nat) (p : Int) :
    (s.endSample t₀ p).rd f = s.rd f := by
  have hapart : ∀ g : Fld, 0xD000C ≤ g.off → g.apart f := fun g hg => .inr (by omega)
  calc
    _ = _ := rd_wr_apart _ _ _ _ (hapart SENSOR_COUNT (by decide))
    _ = _ := rd_wr_apart _ _ _ _ (hapart SENSOR_SAMPLE_POS (by decide))
    _ = _ := rd_wr_apart _ _ _ _ (hapart SENSOR_SAMPLE_TICK (by decide))
    _ = _ := rd_wr_apart _ _ _ _ (hapart SENSOR_STATUS_BUSY (by decide))
    _ = s.rd f := rd_congr rfl f

theorem rd_endSample_busy (s : State) (t₀ : Nat) (p : Int) : (s.endSample t₀ p).rd SENSOR_STATUS_BUSY = 0 :=
  calc
    _ = _ := rd_wr_apart _ _ _ _ (by decide)
    _ = _ := rd_wr_apart _ _ _ _ (by decide)
    _ = _ := rd_wr_apart _ _ _ _ (by decide)
    _ = 0 := rd_wr_flag _ _ 0 false

theorem rd_endSample_tick (s : State) (t₀ : Nat) (p : Int) : (s.endSample t₀ p).rd SENSOR_SAMPLE_TICK = t₀ % 2 ^ 64 :=
  calc
    _ = _ := rd_wr_apart _ _ _ _ (by decide)
    _ = _ := rd_wr_apart _ _ _ _ (by decide)
    _ = _ := rd_wr_same _ SENSOR_SAMPLE_TICK t₀ (by decide)

theorem endSample_frame (s : State) (t₀ : Nat) (p : Int) : s.endSample t₀ p = { s with
    regs := (s.endSample t₀ p).regs, sens := { s.sens with start := none } } := by
  have hregs : State.InRegs { s with sens := { s.sens with start := none } } (s.endSample t₀ p) :=
    ((((State.InRegs.refl { s with sens := { s.sens with start := none } }).wr (f := SENSOR_STATUS_BUSY) (v := 0)).wr
      (f := SENSOR_SAMPLE_TICK) (v := t₀)).wr (f := SENSOR_SAMPLE_POS)).wr (f := SENSOR_COUNT)
  exact hregs.eq

/-- `t` differs from `s` at most in the registers from SENSOR_CH0 on. -/
structure State.KeepsBelowInputs (s t : State) : Prop where
  regs : s.InRegs t
  rd : ∀ f : Fld, f.off * 8 + f.lsb + f.w ≤ 0xD0040 * 8 → t.rd f = s.rd f

theorem State.KeepsBelowInputs.wr (h : s.KeepsBelowInputs t) {i v} : s.KeepsBelowInputs (t.wr (SENSOR_CH i) v) :=
  ⟨h.regs.wr, fun f hf => (rd_wr_apart _ _ _ _ (.inr (by simp only [SENSOR_CH]; omega))).trans (h.rd f hf)⟩

section
variable {raw : List (BitVec 24)} {t₀ i : Nat} {p : Int}

/-- No channel is enabled. -/
def State.NoChannel (s : State) : Prop := ∀ c ∈ List.range 256, s.on (PROFILE_CH_CTRL_EN c) = false

theorem State.NoChannel.keeps (h : s.NoChannel) (h' : s.KeepsBelowInputs t) : t.NoChannel := fun c hc =>
  (on_of_rd (h'.rd _ (by
    have := List.mem_range.1 hc
    simp only [PROFILE_CH_CTRL_EN]
    omega))).trans (h c hc)

theorem feedChannel_off {v : Int} (h : s.on (PROFILE_CH_CTRL_EN c) = false) : s.feedChannel t₀ p i v c = s :=
  if_neg (by simp [h])

/-- With no channel enabled an input is shown and goes nowhere. -/
theorem showInput_noChannel (h : s.NoChannel) : s.showInput raw t₀ p i =
    if bitAt (s.rd SENSOR_CTRL_CH_EN) i then s.wrS (SENSOR_CH i) (s.sampled raw i) else s := by
  have hshown : s.KeepsBelowInputs (s.wrS (SENSOR_CH i) (s.sampled raw i)) :=
    State.KeepsBelowInputs.wr ⟨.refl s, fun _ _ => rfl⟩
  unfold State.showInput
  rw [foldl_eq_self fun c hc => feedChannel_off (h.keeps hshown c hc)]

theorem State.KeepsBelowInputs.showInput (h : s.KeepsBelowInputs t) (hoff : s.NoChannel) :
    s.KeepsBelowInputs (t.showInput raw t₀ p i) := by
  rw [showInput_noChannel (hoff.keeps h)]
  split
  · exact h.wr
  · exact h

theorem State.KeepsBelowInputs.sampled (h : s.KeepsBelowInputs t) (raw : List (BitVec 24)) (i : Nat) :
    t.sampled raw i = s.sampled raw i := by
  unfold State.sampled
  rw [h.rd _ (by decide), h.rd _ (by decide)]

/-- Each enabled input shows its value. -/
theorem showInputs_shown (hoff : s.NoChannel) (hi : i < 8) (hen : bitAt (s.rd SENSOR_CTRL_CH_EN) i = true) :
    ((List.range 8).foldl (fun s i => s.showInput raw t₀ p i) s).rd (SENSOR_CH i) = toBits 32 (s.sampled raw i) := by
  refine (foldl_once (P := s.KeepsBelowInputs)
    (Q := fun t => s.KeepsBelowInputs t ∧ t.rd (SENSOR_CH i) = toBits 32 (s.sampled raw i)) List.nodup_range
    (List.mem_range.2 hi) ⟨.refl s, fun _ _ => rfl⟩ (fun t _ _ _ ht => ht.showInput hoff) (fun t ht => ?_)
    (fun t k _ hne ht => ?_)).2
  · refine ⟨ht.showInput hoff, ?_⟩
    rw [showInput_noChannel (hoff.keeps ht), ht.rd _ (by decide), if_pos hen, ht.sampled]
    exact rd_wrS_same t (SENSOR_CH i) _ (by simp [SENSOR_CH])
  · refine ⟨ht.1.showInput hoff, ?_⟩
    rw [showInput_noChannel (hoff.keeps ht.1)]
    split
    · exact (rd_wr_apart _ _ _ _ (by simp only [Fld.apart, SENSOR_CH]; omega)).trans ht.2
    · exact ht.2

end

theorem profileEnable_starts {c : Fin 256} (hoff : s.on (PROFILE_CH_CTRL_EN c) = false)
    (hcheck : s.profCheck c = none) : exec (.profileEnable c) s = .next ((s.showChannel c).setPch c {}) :=
  congrArg Host.Outcome.next (profEnable_starts hoff hcheck)

theorem profileEnable_fails {c : Fin 256} {n : Nat} (hoff : s.on (PROFILE_CH_CTRL_EN c) = false)
    (hcheck : s.profCheck c = some n) : exec (.profileEnable c) s = .next (s.configError c n) :=
  congrArg Host.Outcome.next (profEnable_fails hoff hcheck)

theorem detLatch_shows {c : Fin 256} {hi lo : Int} (hfull : (s.pch c).det.n ≠ 0) (hmax : (s.pch c).det.max = some hi)
    (hmin : (s.pch c).det.min = some lo) (hlo : -2 ^ 31 ≤ lo) (hle : lo ≤ hi) (hhi : hi < 2 ^ 31) : ∃ env t,
    exec (.detLatch c) s = .next t ∧ s.DetShown c (toBits 32 hi) (toBits 32 lo)
      (rmsOf (s.pch c).det.sumsq (s.pch c).det.n) env (s.pch c).det.n t ∧
      t.rdS (PROFILE_CH_DET_MAX c) = hi ∧ t.rdS (PROFILE_CH_DET_MIN c) = lo := by
  have ht := showDet_shown s c (toBits 32 hi) (toBits 32 lo) (rmsOf (s.pch c).det.sumsq (s.pch c).det.n)
    (rneShift (s.pch c).det.env 16).toNat (s.pch c).det.n
  exact ⟨_, _, congrArg Host.Outcome.next (detClose_shows hfull hmax hmin), ht,
    rdS_of_toBits ht.max (hlo.trans hle) hhi, rdS_of_toBits ht.min hlo (hle.trans_lt hhi)⟩

theorem sensorStart_event (hen : s.on SENSOR_CTRL_EN = true) (hsrc : s.on SENSOR_CTRL_START_SRC = true) :
    exec (.sensorStart true) s = .next s.sensorStart := by
  have hevent : s.sensorEvent = s.sensorStart := if_pos (by simp [hen, hsrc])
  exact congrArg Host.Outcome.next hevent

theorem sensorStart_timer {due : Nat} (hen : s.on SENSOR_CTRL_EN = true) (hsrc : s.on SENSOR_CTRL_START_SRC = false)
    (hperiod : s.rd SENSOR_PERIOD ≠ 0) (htimer : s.sens.timer = some due) (hdue : due ≤ s.now) :
    exec (.sensorStart false) s =
      .next ({ s with sens := { s.sens with timer := some (due + s.rd SENSOR_PERIOD) } } : State).sensorStart :=
  congrArg Host.Outcome.next (sensorTimer_starts hen hsrc hperiod htimer hdue)

/-- What `t` has of the end of a transfer, of a sample at tick t₀, in state s with no channel enabled. -/
structure State.Transferred (s : State) (raw : List (BitVec 24)) (t₀ : Nat) (t : State) : Prop where
  start : t.sens.start = none
  busy : t.rd SENSOR_STATUS_BUSY = 0
  tick : t.rd SENSOR_SAMPLE_TICK = t₀ % 2 ^ 64
  inputs : ∀ i ∈ List.range 8, bitAt (s.rd SENSOR_CTRL_CH_EN) i = true →
    t.rd (SENSOR_CH i) = toBits 32 (s.sampled raw i)
  frame : t = { s with regs := t.regs, sens := t.sens }

/-- The inputs are shown after the port has gone idle. -/
theorem showInputs_transferred {raw : List (BitVec 24)} {t₀ : Nat} {p : Int} (hoff : u.NoChannel)
    (hrd : ∀ f : Fld, f.off * 8 + f.lsb + f.w ≤ 0xD000C * 8 → u.rd f = s.rd f) (hbusy : u.rd SENSOR_STATUS_BUSY = 0)
    (htick : u.rd SENSOR_SAMPLE_TICK = t₀ % 2 ^ 64)
    (hframe : u = { s with regs := u.regs, sens := { s.sens with start := none } }) :
    s.Transferred raw t₀ ((List.range 8).foldl (fun s i => s.showInput raw t₀ p i) u) := by
  have hkept : u.KeepsBelowInputs ((List.range 8).foldl (fun s i => s.showInput raw t₀ p i) u) :=
    List.foldlRecOn _ _ ⟨.refl u, fun _ _ => rfl⟩ fun t ht i _ => ht.showInput hoff
  have hsampled : ∀ i, u.sampled raw i = s.sampled raw i := fun i => by
    unfold State.sampled
    rw [hrd SENSOR_CTRL_BITS (by decide), hrd SENSOR_CTRL_FORMAT (by decide)]
  refine ⟨?_, (hkept.rd SENSOR_STATUS_BUSY (by decide)).trans hbusy,
    (hkept.rd SENSOR_SAMPLE_TICK (by decide)).trans htick, fun i hi hen => ?_, ?_⟩
  · rw [hkept.regs.eq, hframe]
  · rw [← hrd SENSOR_CTRL_CH_EN (by decide)] at hen
    rw [showInputs_shown hoff (List.mem_range.1 hi) hen, hsampled]
  · rw [hkept.regs.eq, hframe]

theorem sensorTransferDone_transferred {raw : List (BitVec 24)} {t₀ : Nat} {p : Int}
    (hstart : s.sens.start = some (t₀, p)) (hdone : t₀ + s.sensorTicks ≤ s.now) (hoff : s.NoChannel) : ∃ t,
    exec (.sensorTransferDone raw) s = .next t ∧ s.Transferred raw t₀ t := by
  have hnone : (s.endSample t₀ p).NoChannel := fun c hc => (on_of_rd (rd_endSample (by
    have := List.mem_range.1 hc
    simp only [PROFILE_CH_CTRL_EN]
    omega) t₀ p)).trans (hoff c hc)
  exact ⟨_, sensorTransferDone_shows hstart hdone, showInputs_transferred hnone (fun f hf => rd_endSample hf t₀ p)
    (rd_endSample_busy s t₀ p) (rd_endSample_tick s t₀ p) (endSample_frame s t₀ p)⟩

/-- Settles O22: what a channel's start, sync and window leave, and what a sample leaves, have a lemma each above. -/
theorem profileAndSensorCommandsAct : Obligations.ProfileAndSensorCommandsAct := by
  refine ⟨?_, ?_, ?_, profileSyncAt_offers, ?_, ?_, ?_, ?_, ?_, ?_, ?_⟩
  · intro s c hoff hcheck
    have hregs := showChannel_inRegs s c
    refine ⟨_, profileEnable_starts hoff hcheck, (rd_setPch ..).trans (rd_showChannel_en s c),
      (rd_setPch ..).trans (rd_showChannel_running s c), (rd_setPch ..).trans (rd_showChannel_count s c),
      pch_setPch_same .., fun f hf => (rd_setPch ..).trans (keeps_showChannel s c f hf), ?_⟩
    generalize s.showChannel c = u at hregs
    rw [hregs.eq]
    rfl
  · intro s c n hoff hcheck hn
    exact ⟨_, profileEnable_fails hoff hcheck, (on_of_rd (rd_configError_en s c n)).trans hoff,
      rd_configError_flag s c n, rd_configError_check s c hn, keeps_configError s c n, configError_inLog s c n⟩
  · intro s groups c hc hen hin hfirst
    obtain ⟨t, hex, ht⟩ := profileSync_synced hc hen hin hfirst
    exact ⟨t, hex, ht.chan, ht.count, ht.settled, ht.frame⟩
  · intro s e g c hdue hact hc hen hg hfirst
    have ht := profSync_synced (s := { s with tl := { s.tl with sched := dropEntry e s.tl.sched } })
      (line := ceilDiv e.slot 256) hc hen hg hfirst
    refine ⟨_, profileSyncAction_syncs hdue hact, ht.chan, ht.count, ht.frame.tl, ?_⟩
    generalize State.profSync _ g _ = t at ht
    rw [show t = _ from ht.frame]
  · intro s c hempty
    have ht := showDet_shown s c 0 0 0 0 0
    exact ⟨_, congrArg Host.Outcome.next (detClose_empty hempty), ht.max, ht.min, ht.rms, ht.env, ht.n, ht.keeps,
      ht.frame⟩
  · intro s c hi lo hfull hmax hmin hlo hle hhi
    obtain ⟨_, t, hex, ht, hhigh, hlow⟩ := detLatch_shows hfull hmax hmin hlo hle hhi
    exact ⟨t, hex, hhigh, hlow, ht.rms, ht.n, ht.det, ht.keeps, ht.frame⟩
  · intro s hen hsrc hidle
    have hframe := startSample_frame s
    refine ⟨_, (sensorStart_event hen hsrc).trans (congrArg _ (sensorStart_idle hidle)), ?_, rd_startSample_busy s,
      keeps_startSample s, ?_⟩
    · rw [hframe]
    · rw [hframe]
  · intro s due hen hsrc hperiod htimer hdue hidle
    have hframe := startSample_frame { s with sens := { s.sens with timer := some (due + s.rd SENSOR_PERIOD) } }
    refine ⟨_, (sensorStart_timer hen hsrc hperiod htimer hdue).trans (congrArg _ (sensorStart_idle hidle)), ?_, ?_,
      rd_startSample_busy _, fun f hf => (keeps_startSample _ f hf).trans (rd_with_sens ..), ?_⟩
    · rw [hframe]
      rfl
    · rw [hframe]
    · rw [hframe]
  · intro s t₀ p hen hsrc hstart hlate
    exact ⟨_, (sensorStart_event hen hsrc).trans (congrArg _ (sensorStart_busy hstart hlate)), rd_overrun_flag s,
      keeps_overrun s, overrun_inLog s⟩
  · intro s raw t₀ p hstart hdone hoff
    obtain ⟨t, hex, ht⟩ := sensorTransferDone_transferred (raw := raw) hstart hdone hoff
    exact ⟨t, hex, ht.start, ht.busy, ht.tick, fun i hi hen => congrArg (signed 32) (ht.inputs i hi hen), ht.frame⟩

end Sys2Proof.Machine
end

section
namespace Sys2Proof.Machine
open Sys2Proof

variable {s t u : State} {q k x : Nat} {n : Nib} {i : NibInstr}

/-! ## Nib instructions (chapter 9)

### The nibs of a state -/

@[simp] theorem quillAt_setQuill_same (s : State) (q : Nat) (x : Quill) : (s.setQuill q x).quillAt q = x :=
  spGet_spSet_same ..

@[simp] theorem nib_setNib_same (s : State) (q x : Nat) (n : Nib) : (s.setNib q x n).nib q x = n := by
  unfold State.setNib State.nib
  rw [quillAt_setQuill_same]
  exact spGet_spSet_same ..

theorem quillAt_of_quill (h : t.quill = s.quill) (q : Nat) : t.quillAt q = s.quillAt q := by
  rw [State.quillAt, h, State.quillAt]

theorem nib_of_quill (h : t.quill = s.quill) (q x : Nat) : t.nib q x = s.nib q x := by
  rw [State.nib, quillAt_of_quill h, State.nib]

theorem fqSlot_of_quill (h : t.quill = s.quill) (q k : Nat) : t.fqSlot q k = s.fqSlot q k := by
  rw [State.fqSlot, quillAt_of_quill h, State.fqSlot]

theorem fqSlot_setNib_same (s : State) (q x : Nat) (n : Nib) (k : Nat) :
    (s.setNib q x n).fqSlot q k = s.fqSlot q k := by
  unfold State.setNib State.fqSlot
  rw [quillAt_setQuill_same]

theorem stores_setNib_same (s : State) (q x : Nat) (n : Nib) :
    ((s.setNib q x n).quillAt q).stores = (s.quillAt q).stores := by
  unfold State.setNib
  rw [quillAt_setQuill_same]

@[simp] theorem rd_setNib (s : State) (q x : Nat) (n : Nib) (f : Fld) : (s.setNib q x n).rd f = s.rd f :=
  rd_congr rfl f

@[simp] theorem setNib_scores (s : State) (q x : Nat) (n : Nib) : (s.setNib q x n).scores = s.scores := rfl

theorem State.keeps_setNib {fs : List Fld} (h : s.keeps t fs) : s.keeps (t.setNib q x n) fs :=
  fun f hf => (rd_setNib ..).trans (h f hf)

theorem nib_setQuill_nibs (s : State) (q x : Nat) (b : Quill) (h : b.nibs = (s.quillAt q).nibs) :
    (s.setQuill q b).nib q x = s.nib q x := by
  rw [State.nib, quillAt_setQuill_same, h, State.nib]

/-! ### The next instruction in order (R287, R288) -/

/-- The nib n issued in state s has ended in cycle c, and its next instruction follows in order. -/
def State.nibNext (s : State) (q x : Nat) (n : Nib) (c : Nat) (t : State) : State :=
  t.setNib q x { n with pc := (s.nib q x).pc + 4, cycle := c }

theorem nibNext_nibSeq {c : Nat} (h : n.loops = (s.nib q x).loops) : s.nibSeq (s.nibNext q x n c t) q x := by
  unfold State.nibNext
  rw [State.nibSeq, nib_setNib_same]
  exact ⟨rfl, h⟩

theorem sr_nibNext {c d : Nat} : ((s.nibNext q x n c t).nib q x).sr d = n.sr d := by
  unfold State.nibNext
  rw [nib_setNib_same]
  rfl

theorem rd_nibNext {c : Nat} {f : Fld} : (s.nibNext q x n c t).rd f = t.rd f := rd_setNib ..

/-- No loop ends here. -/
theorem loopBack_next {p : Nat} {ls : List LoopLevel} (h : ∀ l ∈ ls, l.last ≠ p) :
    loopBack (p + 4) ls = (p + 4, ls) := by
  cases ls with
  | nil => rfl
  | cons l ls =>
    have hl := h l (List.mem_cons_self ..)
    exact if_neg (by omega)

theorem nibIssue_runs {sel : NibInstr → Option (Nib → State → NibRes)} {act} (h : s.nibAt q x i)
    (hsel : sel i = some act) :
    s.nibIssue q x sel = s.nibFinish q x (s.nib q x).pc (act (s.nib q x) s) := by
  obtain ⟨hrun, hbudget, hword, hloops, -⟩ := h
  have hbody : (s.nib q x).loops.any (fun l => l.last == (s.nib q x).pc) = false := by
    simpa using hloops
  unfold State.nibIssue
  dsimp only
  rw [if_neg (by rw [hbudget]; simp [Option.isSome_iff_ne_none.1 hrun]), hword]
  dsimp only
  rw [hsel]
  dsimp only
  rw [hbody, Bool.and_false, if_neg Bool.false_ne_true]

theorem nibIssue_seq {sel : NibInstr → Option (Nib → State → NibRes)} {act c} (h : s.nibAt q x i)
    (hsel : sel i = some act) (hact : act (s.nib q x) s = ⟨.seq, c, n, t⟩) (hn : n.loops = (s.nib q x).loops) :
    s.nibIssue q x sel = s.nibNext q x n c t := by
  rw [nibIssue_runs h hsel, hact]
  obtain ⟨-, -, -, hloops, hpc⟩ := h
  unfold State.nibFinish
  dsimp only
  rw [hn, loopBack_next hloops, if_neg (by omega), ← hn]
  rfl

/-! ### Reports (R162, R282) -/

theorem streakReport_queued {r : AttrReq} {nib : Nat} {l : Int} (h : s.fine.reports.length < 64) :
    s.streakReport r nib l = ({ s with fine := { s.fine with reports := s.fine.reports ++ [r] } } : State).wr
      FINE_STATUS_ATTR_QUEUE (s.fine.reports ++ [r]).length := if_neg (by omega)

theorem streakReport_full {r : AttrReq} {nib : Nat} {l : Int} (h : 64 ≤ s.fine.reports.length) :
    s.streakReport r nib l = (s.set1 FINE_STATUS_ATTR_OVERRUN).fault srcFine 0x3110 (slot1 nib ++ slotLine l) :=
  if_pos h

/-- What SREP reports. -/
def State.nibReport (s : State) (n : Nib) (rc : Bool) (a b : Fin 32) (ink : Fin 256) : AttrReq :=
  { x := (n.sr a + 16 * s.rd STITCH_XBASE) % 2 ^ 32, ink := ink, record := rc, tally := none
    pos := n.line * 65536 + signed 32 (n.sr b) }

section
variable {q : Fin 12} {x : Fin 17}

theorem srep_reports {rc : Bool} {a b : Fin 32} {ink : Fin 256} (h : s.nibAt q x (.srep rc a b ink)) :
    exec (.srep q x) s = .next (s.nibNext q x (s.nib q x) ((s.nib q x).issueAt [keyS a, keyS b] + 1)
      (s.streakReport (s.nibReport (s.nib q x) rc a b ink) (q.val * 256 + s.roleOf q x) (s.nib q x).line)) :=
  congrArg Host.Outcome.next (nibIssue_seq h rfl rfl rfl)

/-- SREP with room in the queue of reports. -/
theorem srep_queued {rc : Bool} {a b : Fin 32} {ink : Fin 256} (h : s.nibAt q x (.srep rc a b ink))
    (hroom : s.fine.reports.length < 64) : ∃ u, exec (.srep q x) s = .next u ∧ s.nibSeq u q x ∧
      u.fine.reports = s.fine.reports ++ [s.nibReport (s.nib q x) rc a b ink] ∧ s.keeps u [FINE_STATUS_ATTR_QUEUE] ∧
      u = { s with regs := u.regs, fine := u.fine, quill := u.quill } := by
  refine ⟨_, srep_reports h, nibNext_nibSeq rfl, ?_⟩
  rw [streakReport_queued hroom]
  refine ⟨congrArg Fine.reports (wr_fine ..), State.keeps_setNib (State.keeps_wr (State.keeps_of_regs rfl _) _ _
    (by simp)), ?_⟩
  unfold State.nibNext
  rw [wr_frame]
  rfl

/-- SREP with the queue of reports full. -/
theorem srep_full {rc : Bool} {a b : Fin 32} {ink : Fin 256} (h : s.nibAt q x (.srep rc a b ink))
    (hfull : 64 ≤ s.fine.reports.length) : ∃ u, exec (.srep q x) s = .next u ∧ s.nibSeq u q x ∧
      u.rd FINE_STATUS_ATTR_OVERRUN = 1 ∧ u.fine = s.fine ∧ s.keeps u (FINE_STATUS_ATTR_OVERRUN :: faultFlds) := by
  refine ⟨_, srep_reports h, nibNext_nibSeq rfl, ?_⟩
  rw [streakReport_full hfull]
  refine ⟨?_, (fault_fine ..).trans (wr_fine ..), State.keeps_setNib (State.keeps_fault (State.keeps_set1
    (State.keeps_refl s _) (by simp)) _ _ _ fun _ hf => List.mem_cons_of_mem _ hf)⟩
  calc
    _ = _ := rd_setNib ..
    _ = _ := rd_fault _ _ _ _ _ (faultFlds_apart (by decide))
    _ = 1 := rd_wr_flag s _ 3 true

/-! ### Drafts of the feature queue (R284, R285) -/

theorem loops_putS (n : Nib) (r v at_ : Nat) : (n.putS r v at_).loops = n.loops := by
  unfold Nib.putS
  split <;> rfl

theorem sr_putS_same (n : Nib) (v at_ : Nat) {r : Nat} (hr : r ≠ 0) : (n.putS r v at_).sr r = v % 2 ^ 32 := by
  unfold Nib.putS
  rw [if_neg hr]
  exact (if_neg hr).trans (spGet_spSet_same ..)

theorem fqSlot_setFq_same (s : State) (q k : Nat) (f : FqSlot) : (s.setFq q k f).fqSlot q k = f := by
  unfold State.setFq
  rw [fqSlot_of_quill ((wr_quill ..).trans (wr_quill ..))]
  unfold State.fqSlot
  rw [quillAt_setQuill_same]
  exact spGet_spSet_same ..

theorem keeps_setFq (s : State) (q k : Nat) (f : FqSlot) :
    s.keeps (s.setFq q k f) [QUILL_FQ_QUEUED q, QUILL_FQ_CLAIMED q] :=
  State.keeps_wr (State.keeps_wr (State.keeps_of_regs rfl _) _ _ (by simp)) _ _ (by simp)

theorem tget_none {d : Fin 32} (h : s.nibAt q x (.tget d)) (hnone : s.oldestDraft q = none) :
    exec (.tget q x) s = .next (s.nibNext q x
      ((s.nib q x).putS d 0xFFFFFFFF ((s.nib q x).cycle + (s.latency 24 160).1)) ((s.nib q x).cycle + 1)
      (s.latency 24 160).2) := by
  have hdraft : (s.latency 24 160).2.oldestDraft q = none := hnone
  refine congrArg Host.Outcome.next (nibIssue_seq h rfl ?_ (loops_putS ..))
  dsimp only
  rw [hdraft]

/-- The draft whose ticket TGET answers. -/
theorem tget_some {d : Fin 32} {k : Nat} (h : s.nibAt q x (.tget d)) (hdraft : s.oldestDraft q = some k) :
    exec (.tget q x) s = .next (s.nibNext q x
      ((s.nib q x).putS d (k + (s.fqSlot q k).gen % 2 ^ 26 * 64) ((s.nib q x).cycle + (s.latency 24 160).1))
      ((s.nib q x).cycle + 1)
      ((s.latency 24 160).2.setFq q k { s.fqSlot q k with claimed := true })) := by
  have hlatest : (s.latency 24 160).2.oldestDraft q = some k := hdraft
  refine congrArg Host.Outcome.next (nibIssue_seq h rfl ?_ (loops_putS ..))
  dsimp only
  rw [hlatest]
  rfl

theorem tans_stale {a b : Fin 32} (h : s.nibAt q x (.tans a b)) (hb : (s.nib q x).sr b < 512)
    (hfull : (s.fqSlot q ((s.nib q x).sr a % 64)).full = false) :
    exec (.tans q x) s = .next (s.nibNext q x (s.nib q x) ((s.nib q x).issueAt [keyS a, keyS b] + 1)
      (s.bump (QUILL_FQ_STALE q))) := by
  refine congrArg Host.Outcome.next (nibIssue_seq h rfl ?_ rfl)
  dsimp only
  rw [if_neg (by omega), hfull]
  rfl

theorem tans_answers {a b : Fin 32} {k : Nat} {f : FqSlot} (h : s.nibAt q x (.tans a b))
    (hb : (s.nib q x).sr b < 512) (hk : k = (s.nib q x).sr a % 64) (hf : f = s.fqSlot q k) (hfull : f.full = true)
    (hclaimed : f.claimed = true) (hgen : f.gen % 2 ^ 26 = (s.nib q x).sr a / 64) :
    exec (.tans q x) s = .next (s.nibNext q x (s.nib q x) ((s.nib q x).issueAt [keyS a, keyS b] + 1)
      (s.answerDraft q k ((s.nib q x).sr b))) := by
  refine congrArg Host.Outcome.next (nibIssue_seq h rfl ?_ rfl)
  dsimp only
  rw [if_neg (by omega), ← hk, ← hf, if_pos (by simp only [hfull, hclaimed, hgen, beq_self_eq_true, Bool.and_self])]

/-! ### Events and fences (R286, R290) -/

/-- The hop of an event that the nib makes. -/
def Nib.hop (n : Nib) : Nat := match n.evRead with
  | some h => h + 1
  | none => 0

theorem event_occurs {c : Fin 256} (h : s.nibAt q x (.event c)) :
    exec (.event q x) s = .next (s.nibNext q x (s.nib q x) ((s.nib q x).cycle + 1)
      (((s.wr (QUILL_EV_LAST_CODE q) c).wr (QUILL_EV_LAST_NIB q) (s.roleOf q x)).occur (237 + q.val)
        (s.nib q x).hop)) :=
  congrArg Host.Outcome.next (nibIssue_seq h rfl rfl rfl)

theorem occur_frame (s : State) (producer hop : Nat) :
    s.occur producer hop = { s with ev := (s.occur producer hop).ev } := by
  unfold State.occur
  split <;> rfl

theorem event_shows {c : Fin 256} (h : s.nibAt q x (.event c)) : ∃ u, exec (.event q x) s = .next u ∧
    s.nibSeq u q x ∧ u.rd (QUILL_EV_LAST_CODE q) = c.val ∧ s.keeps u [QUILL_EV_LAST_CODE q, QUILL_EV_LAST_NIB q] ∧
      u = { s with regs := u.regs, quill := u.quill, ev := u.ev } := by
  refine ⟨_, event_occurs h, nibNext_nibSeq rfl, ?_, State.keeps_setNib (State.keeps_occur (State.keeps_wr
    (State.keeps_wr (State.keeps_refl s _) _ _ (by simp)) _ _ (by simp)) _ _), ?_⟩
  · calc
      _ = _ := rd_setNib ..
      _ = _ := rd_occur ..
      _ = _ := rd_wr_apart _ _ _ _ Fld.apart_element
      _ = c.val % 2 ^ 8 := rd_wr_same s (QUILL_EV_LAST_CODE q) c (by simp [QUILL_EV_LAST_CODE])
      _ = c := Nat.mod_eq_of_lt c.isLt
  · unfold State.nibNext
    rw [occur_frame, wr_frame, wr_frame (s := s)]
    rfl

theorem fence_clears (h : s.nibAt q x .fence) (hstore : (s.nib q x).store = none) :
    exec (.fence q x) s = .next (s.nibNext q x { s.nib q x with store := none } ((s.nib q x).cycle + 2)
      (s.clearStores q x)) := by
  refine congrArg Host.Outcome.next (nibIssue_seq h rfl ?_ rfl)
  dsimp only
  unfold State.visibleAt
  rw [hstore]

end

/-! ### What sending a record leaves alone (R75, R241, R419)

A record leaves by the network and the chain. That counts packets and drops, and may record a fault; no quill takes
part, no draft is taken off, and few registers are written, of which those of the ports lie anywhere. -/

/-- The fields that sending a record may write. -/
inductive Fld.Sent : Fld → Prop
  | fault {g : Fld} (h : g ∈ faultFlds) : g.Sent
  | net : NET_STATUS_DGRAM_DROP.Sent
  | netDropped : SCALER_NET_DROPPED_NET.Sent
  | chainDropped : SCALER_NET_DROPPED_CHAIN.Sent
  | route : CHAIN_ROUTE_DROPPED.Sent
  | packet (p : Nat) : (ZL_CNT_PKT_TX p).Sent
  | seq (p : Nat) : (ZL_REPLAY_STATUS_NEXT_SEQ p).Sent

/-- `t` has the quills and drafts of `s` and differs in no field that is apart from those of `W`, among them all that
sending a record may write. -/
structure State.Sends (W : Fld → Prop) (s t : State) : Prop where
  quill : t.quill = s.quill
  drafts : t.scal.drafts = s.scal.drafts
  rd : ∀ f : Fld, (∀ g, W g → g.apart f) → t.rd f = s.rd f
  sent : ∀ g, Fld.Sent g → W g

namespace State.Sends

variable {W : Fld → Prop}

theorem refl (s : State) (hW : ∀ g, Fld.Sent g → W g) : s.Sends W s := ⟨rfl, rfl, fun _ _ => rfl, hW⟩

theorem update {zl fine ev net chain top tl out} (h : s.Sends W t) :
    s.Sends W { t with zl := zl, fine := fine, ev := ev, net := net, chain := chain, top := top, tl := tl,
                       out := out } :=
  ⟨h.quill, h.drafts, fun f hf => (rd_congr rfl f).trans (h.rd f hf), h.sent⟩

theorem scal {x : Scaler} (h : s.Sends W t) (hx : x.drafts = t.scal.drafts) : s.Sends W { t with scal := x } :=
  ⟨h.quill, hx.trans h.drafts, fun f hf => (rd_congr rfl f).trans (h.rd f hf), h.sent⟩

theorem wr (h : s.Sends W t) {g v} (hg : W g) : s.Sends W (t.wr g v) :=
  ⟨(wr_quill ..).trans h.quill, (congrArg Scaler.drafts (wr_scal ..)).trans h.drafts,
    fun f hf => (rd_wr_apart _ _ _ _ (hf g hg)).trans (h.rd f hf), h.sent⟩

theorem fault (h : s.Sends W t) {source code slots} : s.Sends W (t.fault source code slots) :=
  ⟨(fault_quill ..).trans h.quill, (congrArg Scaler.drafts (fault_scal ..)).trans h.drafts,
    fun f hf => (rd_fault _ _ _ _ _ fun g hg => hf g (h.sent g (.fault hg))).trans (h.rd f hf), h.sent⟩

theorem occur (h : s.Sends W t) {producer hop} : s.Sends W (t.occur producer hop) :=
  ⟨(occur_quill ..).trans h.quill, (congrArg Scaler.drafts (occur_scal ..)).trans h.drafts,
    fun f hf => (rd_occur ..).trans (h.rd f hf), h.sent⟩

theorem ite {c : Prop} {_ : Decidable c} (h : s.Sends W t) (h' : s.Sends W u) : s.Sends W (if c then t else u) := by
  split
  · exact h
  · exact h'

/-- A step may be followed by any argument that needs no more than the relation. -/
theorem bind {p : Prop} (h : s.Sends W t) (k : s.Sends W t → p) : p := k h

theorem foldl {α : Type} {l : List α} {f : State → α → State} (h : s.Sends W t)
    (hf : ∀ t a, s.Sends W t → s.Sends W (f t a)) : s.Sends W (l.foldl f t) :=
  List.foldlRecOn l f h fun t ht a _ => hf t a ht

theorem emitPacket (h : s.Sends W t) {p g pk} : s.Sends W (t.emitPacket p g pk) :=
  State.Sends.update (h.wr (h.sent _ (.packet p)))

theorem sendReplay (h : s.Sends W t) {p pk} : s.Sends W (t.sendReplay p pk) :=
  ((h.wr (h.sent _ (.seq p))).bind fun h₁ => (h₁.update.ite h₁).emitPacket).ite h.update

theorem sendPeer (h : s.Sends W t) {p pk} : s.Sends W (t.sendPeer p pk) :=
  h.ite (h.emitPacket.ite h.sendReplay)

theorem sendTo (h : s.Sends W t) {dst pk} : s.Sends W (t.sendTo dst pk) := by
  unfold State.sendTo
  split
  · exact h.sendPeer
  · split
    · exact h.ite h.sendPeer
    · exact (h.wr (h.sent _ .route)).bind fun h₁ => h₁.ite h₁.update.fault

theorem netRecord (h : s.Sends W t) {bs} : s.Sends W (t.netRecord bs) := by
  unfold State.netRecord
  extract_lets up
  split
  · exact h.scal rfl
  · next _ _ t₁ _ t₂ _ _ =>
    have h₁ : s.Sends W t₁ := State.Sends.wr (h.wr (h.sent _ .netDropped)) (h.sent _ .net)
    have h₂ : s.Sends W t₂ := h₁.scal rfl
    exact h₂.ite h₂.fault

theorem chainRecord (h : s.Sends W t) {bs} : s.Sends W (t.chainRecord bs) :=
  h.sendTo.ite (h.wr (h.sent _ .chainDropped))

theorem deliverRecord (h : s.Sends W t) {net chain bs} : s.Sends W (t.deliverRecord net chain bs) :=
  (h.netRecord.ite h).bind fun h₁ => h₁.chainRecord.ite h₁

end State.Sends

/-- Sending writes no field that lies, in its block of 64 KiB, between CNT_PKT_TX and NEXT_SEQ or behind them. -/
theorem Fld.Sent.apart {f g : Fld} (hg : g.Sent) (m : Nat)
    (hf : f.within (0x200028 + 0x10000 * m) (0x200068 + 0x10000 * m) ∨
      f.within (0x200080 + 0x10000 * m) (0x210000 + 0x10000 * m)) : g.apart f := by
  unfold Fld.apart
  unfold Fld.within at hf
  cases hg with
  | fault h =>
    have := faultFlds_low g h
    omega
  | packet p | seq p =>
    simp only [ZL_CNT_PKT_TX, ZL_REPLAY_STATUS_NEXT_SEQ]
    omega
  | net | netDropped | chainDropped | route =>
    simp only [NET_STATUS_DGRAM_DROP, SCALER_NET_DROPPED_NET, SCALER_NET_DROPPED_CHAIN, CHAIN_ROUTE_DROPPED]
    omega

/-! ### Tallies of a kernel (R239, R283) -/

/-- A tally of this device is counted and takes its SEQ. -/
def State.countTally (s : State) : State :=
  ({ s.takeSeq.2 with scal := { s.takeSeq.2.scal with losing := false } } : State).bump SCALER_TALLIES

theorem rd_countTally_seq (s : State) : s.countTally.rd SCALER_SEQ_NEXT = (s.rd SCALER_SEQ_NEXT + 1) % 2 ^ 32 :=
  (rd_wr_apart _ _ _ _ (by decide)).trans ((rd_congr rfl _).trans (rd_wr_same s SCALER_SEQ_NEXT _ (by decide)))

theorem rd_countTally_tallies (s : State) :
    s.countTally.rd SCALER_TALLIES = (s.rd SCALER_TALLIES + 1) % 2 ^ SCALER_TALLIES.w := by
  have hseq : s.takeSeq.2.rd SCALER_TALLIES = s.rd SCALER_TALLIES := rd_wr_apart _ _ _ _ (by decide)
  exact (rd_wr_same _ SCALER_TALLIES _ (by decide)).trans
    (congrArg (fun n => (n + 1) % 2 ^ SCALER_TALLIES.w) ((rd_congr rfl _).trans hseq))

/-- A tally that takes no snippet enters a queue with room. -/
theorem enterTally_counted {r : TallyRec} {hold : Int} (hroom : s.scal.talQ.length < 8192) :
    s.countTally.Sends Fld.Sent (s.enterTally r false hold) := by
  have hlen : ¬ 8192 ≤ s.takeSeq.2.scal.talQ.length := by
    rw [State.takeSeq, wr_scal]
    omega
  have hcount : s.countTally.Sends Fld.Sent s.countTally := .refl _ fun _ hg => hg
  unfold State.enterTally
  extract_lets q t₁ r₁ r₂ rings c₁ t₂ t₃ e c₂ e' t₄
  have h₃ : s.countTally.Sends Fld.Sent t₃ := hcount
  have h₄ : s.countTally.Sends Fld.Sent t₄ := h₃.ite (h₃.scal rfl)
  rw [if_neg hlen, Bool.false_and, if_neg Bool.false_ne_true]
  exact h₄.deliverRecord

section
variable {q : Fin 12} {x : Fin 17}

theorem temit_enters {a : Fin 32} (h : s.nibAt q x (.temit a)) (halign : (s.nib q x).sr a % 64 = 0)
    (hfits : (s.nib q x).sr a + 64 ≤ 0x40000) (hty : Memory.byte (s.nib q x).mem ((s.nib q x).sr a) = 0x10) :
    exec (.temit q x) s = .next (s.nibNext q x (s.nib q x) ((s.nib q x).issueAt [keyS a] + 8)
      (s.kernelTally (Memory.bytes (s.nib q x).mem ((s.nib q x).sr a) 64))) := by
  have hfirst : nth 0 (Memory.bytes (s.nib q x).mem ((s.nib q x).sr a) 64) 0 = 0x10 := hty
  refine congrArg Host.Outcome.next (nibIssue_seq h rfl ?_ rfl)
  dsimp only
  rw [halign, if_neg (by decide), if_neg (by omega), hfirst]
  rfl

theorem temit_counts {a : Fin 32} (h : s.nibAt q x (.temit a)) (halign : (s.nib q x).sr a % 64 = 0)
    (hfits : (s.nib q x).sr a + 64 ≤ 0x40000) (hty : Memory.byte (s.nib q x).mem ((s.nib q x).sr a) = 0x10)
    (hroom : s.scal.talQ.length < 8192) : ∃ u, exec (.temit q x) s = .next u ∧ s.nibSeq u q x ∧
      u.rd SCALER_TALLIES = (s.rd SCALER_TALLIES + 1) % 2 ^ SCALER_TALLIES.w ∧
      u.rd SCALER_SEQ_NEXT = (s.rd SCALER_SEQ_NEXT + 1) % 2 ^ 32 := by
  have hsent : s.countTally.Sends Fld.Sent (s.kernelTally (Memory.bytes (s.nib q x).mem ((s.nib q x).sr a) 64)) :=
    enterTally_counted hroom
  refine ⟨_, temit_enters h halign hfits hty, nibNext_nibSeq rfl, ?_, ?_⟩
  · rw [rd_nibNext, hsent.rd _ fun g hg => hg.apart 0x13 (.inl (by decide)), rd_countTally_tallies]
  · rw [rd_nibNext, hsent.rd _ fun g hg => hg.apart 0x13 (.inl (by decide)), rd_countTally_seq]

end

/-! ### An answered draft (R235, R285) -/

/-- `t` has the quills and drafts of `s`. -/
abbrev State.SameDrafts (s t : State) : Prop := s.Sends (fun _ => True) t

namespace State.SameDrafts

theorem refl (s : State) : s.SameDrafts s := State.Sends.refl s fun _ _ => trivial

theorem wr (h : s.SameDrafts t) {f v} : s.SameDrafts (t.wr f v) := State.Sends.wr h trivial

theorem addEntry (h : s.SameDrafts t) {e} : s.SameDrafts (t.addEntry e) := by
  unfold State.addEntry State.notePeak
  exact State.SameDrafts.wr (State.Sends.update h)

theorem withdraw (h : s.SameDrafts t) {p} : s.SameDrafts (t.withdraw p) := by
  unfold State.withdraw
  exact State.Sends.update h

theorem offer (h : s.SameDrafts t) {act slot} : s.SameDrafts (t.offer' act slot) := by
  unfold State.offer' State.offer
  split
  · exact State.Sends.fault h.wr
  · split
    · split
      · exact State.Sends.fault (State.SameDrafts.wr h.wr)
      · exact State.SameDrafts.addEntry (State.Sends.fault h.wr)
    · exact h.addEntry

theorem armVerdict (h : s.SameDrafts t) : s.SameDrafts t.armVerdict :=
  State.Sends.ite h.withdraw.offer h.withdraw

theorem updVerdict (h : s.SameDrafts t) : s.SameDrafts t.updVerdict := by
  unfold State.updVerdict
  extract_lets v n
  have h₁ : s.SameDrafts (t.wrS SCALER_VERDICT n) := h.wr
  exact State.Sends.ite h h₁.armVerdict

theorem loseTally (h : s.SameDrafts t) {r seq rings} : s.SameDrafts (t.loseTally r seq rings) := by
  unfold State.loseTally
  extract_lets t₁ t₂ was c t₃
  have h₁ : s.SameDrafts t₁ := State.SameDrafts.wr h.wr
  have h₂ : s.SameDrafts t₂ := State.Sends.foldl h₁ fun _ _ h =>
    State.Sends.ite (State.Sends.scal (State.SameDrafts.wr h) rfl) h
  have h₃ : s.SameDrafts t₃ := State.Sends.occur (State.Sends.scal (x := { c with losing := true }) h₂ rfl)
  exact State.Sends.ite h₃ h₃.fault

theorem enterTally (h : s.SameDrafts t) {r snip hold} : s.SameDrafts (t.enterTally r snip hold) := by
  unfold State.enterTally
  extract_lets q t₁ r₁ r₂ rings c₁ t₂ t₃ e c₂ e' t₄
  have h₁ : s.SameDrafts t₁ := h.wr (f := SCALER_SEQ_NEXT)
  have h₂ : s.SameDrafts t₂ := State.Sends.scal h₁ rfl
  have h₃ : s.SameDrafts t₃ := h₂.wr (f := SCALER_TALLIES)
  have h₄ : s.SameDrafts t₄ := State.Sends.ite h₃ (State.Sends.scal h₃ rfl)
  exact State.Sends.ite h₁.loseTally (State.Sends.ite (State.Sends.scal h₃ rfl) h₄.deliverRecord)

theorem finishDraft (h : s.SameDrafts t) {d} : s.SameDrafts (t.finishDraft d) :=
  State.SameDrafts.updVerdict (State.SameDrafts.enterTally (State.Sends.ite (State.Sends.occur h) h))

end State.SameDrafts

theorem takeDraft_none {id : Nat} (h : s.takeDraft id = none) : ∀ d ∈ s.scal.drafts, d.id ≠ id := by
  unfold State.takeDraft at h
  split at h
  · cases h
  · next hfind => simpa using hfind

/-- The draft with the identifier is taken off, and no quill changes. -/
theorem takeDraft_some {id : Nat} {d : Draft} (h : s.takeDraft id = some (d, t)) :
    t.quill = s.quill ∧ ∀ e ∈ t.scal.drafts, e.id ≠ id := by
  unfold State.takeDraft at h
  split at h
  · cases h
    refine ⟨rfl, fun e he => ?_⟩
    simpa using (List.mem_filter.1 he).2
  · cases h

/-- The slot of an answered draft is free, and the draft is gone. -/
theorem answerDraft_frees (s : State) (q k v : Nat) :
    (s.answerDraft q k v).fqSlot q k = { gen := (s.fqSlot q k).gen } ∧
      ∀ d ∈ (s.answerDraft q k v).scal.drafts, d.id ≠ (s.fqSlot q k).draft := by
  have hfree : (s.freeFq q k).fqSlot q k = { gen := (s.fqSlot q k).gen } := fqSlot_setFq_same ..
  unfold State.answerDraft
  dsimp only
  split
  · next hnone => exact ⟨hfree, takeDraft_none hnone⟩
  · next d t hsome =>
    obtain ⟨hquill, hgone⟩ := takeDraft_some hsome
    have hdone : ∀ {u}, t.SameDrafts u → u.fqSlot q k = { gen := (s.fqSlot q k).gen } ∧
        ∀ d ∈ u.scal.drafts, d.id ≠ (s.fqSlot q k).draft := fun hu =>
      ⟨(fqSlot_of_quill (hu.quill.trans hquill) q k).trans hfree, hu.drafts ▸ hgone⟩
    split
    · exact hdone (State.SameDrafts.refl t).updVerdict
    · exact hdone (State.SameDrafts.refl t).finishDraft

/-! ### The end of a run (R288) -/

theorem nib_clearStores (s : State) (q x : Nat) : (s.clearStores q x).nib q x = s.nib q x :=
  nib_setQuill_nibs _ _ _ _ rfl

theorem nib_endRun' (s : State) (q x : Nat) :
    (s.endRun' q x).nib q x = { s.nib q x with run := none, loops := [] } := by
  calc
    _ = _ := nib_of_quill ((wr_quill ..).trans (wr_quill ..)) q x
    _ = _ := nib_clearStores (s.setNib q x { s.nib q x with run := none, loops := [] }) q x
    _ = _ := nib_setNib_same ..

theorem rd_clearStores (s : State) (q x : Nat) (f : Fld) : (s.clearStores q x).rd f = s.rd f := rd_congr rfl f

theorem rd_endRun' {f : Fld} (hc : (QUILL_SLOT_CYCLES q x).apart f) (hm : (QUILL_SLOT_CYCLES_MAX q x).apart f) :
    (s.endRun' q x).rd f = s.rd f :=
  calc
    _ = _ := rd_wr_apart _ _ _ _ hm
    _ = _ := rd_wr_apart _ _ _ _ hc
    _ = _ := rd_clearStores ..
    _ = s.rd f := rd_setNib ..

theorem endRun'_scores (s : State) (q x : Nat) : (s.endRun' q x).scores = s.scores :=
  (wr_scores ..).trans (wr_scores ..)

/-! ### Lines retired on a nib's behalf (R292, R293) -/

/-- The fields, beside those of its fault and state, that the stop of a nib may write. -/
inductive Fld.Stops : Fld → Prop
  | sent {g : Fld} (h : g.Sent) : g.Stops
  | seq : SCALER_SEQ_NEXT.Stops
  | faults (q : Nat) {j : Nat} (h : j < 4) : (QUILL_JOB_FAULTS q j).Stops
  | lost (q : Nat) {j : Nat} (h : j < 4) : (QUILL_JOB_LINES_LOST q j).Stops
  | retired (q : Nat) {j : Nat} (h : j < 4) : (QUILL_JOB_RETIRED q j).Stops
  | cycles (q x : Nat) : (QUILL_SLOT_CYCLES q x).Stops
  | cyclesMax (q x : Nat) : (QUILL_SLOT_CYCLES_MAX q x).Stops

/-- `t` has the run of the nib in slot x of quill q as `s`, and the fields that a stop does not write. -/
structure State.Retires (q x : Nat) (s t : State) : Prop where
  run : (t.nib q x).run = (s.nib q x).run
  rd : ∀ f : Fld, (∀ g : Fld, g.Stops → g.apart f) → t.rd f = s.rd f

namespace State.Sends

variable {W : Fld → Prop}

theorem enqueueCov (h : s.Sends W t) (hseq : W SCALER_SEQ_NEXT) {c} : s.Sends W (t.enqueueCov c) := by
  unfold State.enqueueCov State.enterCov
  extract_lets w c₀ t₁ p t₂ r e c₁ t₃ m c₂
  have h₁ : s.Sends W t₁ := State.Sends.ite (h.scal rfl) h
  have h₂ : s.Sends W t₂ := h₁.wr hseq
  have h₃ : s.Sends W t₃ := h₂.ite (h₂.scal rfl)
  exact h₃.deliverRecord.ite (h₁.scal rfl)

theorem cover (h : s.Sends W t) (hseq : W SCALER_SEQ_NEXT) {a b left right cause source detail detail2 page} :
    s.Sends W (t.cover a b left right cause source detail detail2 page) :=
  h.foldl fun _ _ h₁ => h₁.enqueueCov hseq

theorem coverNib (h : s.Sends W t) (hseq : W SCALER_SEQ_NEXT) {q j l a b detail x w} :
    s.Sends W (t.coverNib q j l a b detail x w) :=
  h.foldl fun _ _ h₁ => (h₁.cover hseq).ite (h₁.cover hseq)

end State.Sends

namespace State.Retires

theorem refl (s : State) : s.Retires q x s := ⟨rfl, fun _ _ => rfl⟩

theorem sends (h : State.Retires q x s t) (h' : t.Sends Fld.Stops u) : State.Retires q x s u :=
  ⟨(congrArg Nib.run (nib_of_quill h'.quill q x)).trans h.run, fun f hf => (h'.rd f hf).trans (h.rd f hf)⟩

theorem wr (h : State.Retires q x s t) {g v} (hg : g.Stops) : State.Retires q x s (t.wr g v) :=
  h.sends (State.Sends.wr (.refl t fun _ => .sent) hg)

theorem setNib (h : State.Retires q x s t) (hn : n.run = (t.nib q x).run) :
    State.Retires q x s (t.setNib q x n) :=
  ⟨(congrArg Nib.run (nib_setNib_same ..)).trans (hn.trans h.run), fun f hf => (rd_setNib ..).trans (h.rd f hf)⟩

theorem endLost (h : State.Retires q x s t) : State.Retires q x s (t.endLost q x) := by
  unfold State.endLost
  dsimp only
  split
  · exact (h.setNib (n := { t.nib q x with lost := none }) rfl).sends
      (State.Sends.coverNib (.refl _ fun _ => Fld.Stops.sent) Fld.Stops.seq)
  · exact h

theorem retireBehalf (h : State.Retires q x s t) {j l cover} (hj : j < 4) :
    State.Retires q x s (t.retireBehalf q j x l cover) := by
  unfold State.retireBehalf
  extract_lets n₀ a t₁ lost t₂
  have hnib : (t₁.nib q x).run = n₀.run := congrArg Nib.run (nib_of_quill (wr_quill ..) q x)
  have h₂ : State.Retires q x s t₂ := State.Retires.setNib (h.wr (.lost q hj)) hnib.symm
  clear_value t₂ lost
  split
  · exact h
  · cases lost with
    | none => exact h₂
    | some r =>
      dsimp only
      split
      · exact h₂.endLost
      · exact h₂

theorem updRetired (h : State.Retires q x s t) {j} (hj : j < 4) : State.Retires q x s (t.updRetired q j) := by
  unfold State.updRetired
  dsimp only
  split
  · exact h.wr (.retired q hj)
  · exact h

end State.Retires

theorem jobOfSlot_lt {j : Nat} (h : s.jobOfSlot q x = some j) : j < 4 := by
  unfold State.jobOfSlot at h
  dsimp only at h
  split at h
  · unfold State.jobOfNib firstIdx at h
    exact List.mem_range.1 (List.mem_of_find?_eq_some h)
  · cases h

/-- After the end of its run, a stop retires lines on the nib's behalf. -/
theorem nibStops_retires (s : State) (q x : Nat) : State.Retires q x (s.endRun' q x) (s.nibStops q x) := by
  have hend := State.Retires.refl (q := q) (x := x) (s.endRun' q x)
  unfold State.nibStops
  extract_lets n₀ next t₁ n₁ t₂
  have h₂ : State.Retires q x t₁ t₂ := hend.setNib rfl
  split
  · next j l hjob _ =>
    have hj := jobOfSlot_lt hjob
    extract_lets newest
    clear_value newest
    cases newest with
    | none => exact h₂
    | some m =>
      dsimp only
      split
      · exact (h₂.retireBehalf hj).updRetired hj
      · exact h₂
  · exact h₂

theorem nibStops_run (s : State) (q x : Nat) : ((s.nibStops q x).nib q x).run = none := by
  rw [(nibStops_retires s q x).run, nib_endRun']

theorem rd_nibStops {f : Fld} (hf : ∀ g : Fld, g.Stops → g.apart f) : (s.nibStops q x).rd f = s.rd f :=
  ((nibStops_retires s q x).rd f hf).trans (rd_endRun' (hf _ (.cycles q x)) (hf _ (.cyclesMax q x)))

/-! ### The registers of a slot and of a job -/

/-- Two fields of one slot. -/
theorem Fld.apart_slot {base lsb w base' lsb' w' : Nat}
    (h : base * 8 + lsb + w ≤ base' * 8 + lsb' ∨ base' * 8 + lsb' + w' ≤ base * 8 + lsb := by decide) :
    Fld.apart ⟨base + 0x40000 * q + 0x20 * x, lsb, w⟩ ⟨base' + 0x40000 * q + 0x20 * x, lsb', w'⟩ := by
  unfold Fld.apart
  dsimp only
  omega

/-- A stop writes neither the registers STATUS to FAULT_ADDR of a slot nor CTRL of a job. -/
theorem Fld.Stops.apart {f g : Fld} (hg : g.Stops) {j : Nat}
    (hf : x < 17 ∧ f.within (0x400400 + 0x40000 * q + 0x20 * x) (0x400414 + 0x40000 * q + 0x20 * x) ∨
      j < 4 ∧ f.within (0x400100 + 0x40000 * q + 0x80 * j) (0x400104 + 0x40000 * q + 0x80 * j)) : g.apart f := by
  unfold Fld.within at hf
  cases hg with
  | sent h => exact h.apart (0x20 + 4 * q) (.inr (by unfold Fld.within; omega))
  | seq =>
    simp only [Fld.apart, SCALER_SEQ_NEXT]
    omega
  | faults _ hj | lost _ hj | retired _ hj =>
    simp only [Fld.apart, QUILL_JOB_FAULTS, QUILL_JOB_LINES_LOST, QUILL_JOB_RETIRED]
    omega
  | cycles | cyclesMax =>
    simp only [Fld.apart, QUILL_SLOT_CYCLES, QUILL_SLOT_CYCLES_MAX]
    omega

theorem Fld.Stops.apart_slot {g : Fld} (hg : g.Stops) (hx : x < 17) {base lsb w : Nat}
    (h : 0x400400 * 8 ≤ base * 8 + lsb ∧ base * 8 + lsb + w ≤ 0x400414 * 8 := by decide) :
    g.apart ⟨base + 0x40000 * q + 0x20 * x, lsb, w⟩ :=
  hg.apart (q := q) (j := 0) (.inl ⟨hx, by unfold Fld.within; dsimp only; omega⟩)

theorem Fld.Stops.apart_ctrl {g : Fld} (hg : g.Stops) {j : Nat} (hj : j < 4) {lsb w : Nat}
    (h : lsb + w ≤ 32 := by decide) : g.apart ⟨0x400100 + 0x40000 * q + 0x80 * j, lsb, w⟩ :=
  hg.apart (q := q) (x := 0) (.inr ⟨hj, by unfold Fld.within; dsimp only; omega⟩)

/-- Nothing of a slot is in CTRL of a job. -/
theorem Fld.slot_apart_ctrl {j : Nat} (hj : j < 4) {base lsb w lsb' w' : Nat}
    (h : 0x400400 * 8 ≤ base * 8 + lsb ∧ base * 8 + lsb + w ≤ 0x400420 * 8 := by decide)
    (h' : lsb' + w' ≤ 32 := by decide) (hx : x < 17) :
    Fld.apart ⟨base + 0x40000 * q + 0x20 * x, lsb, w⟩ ⟨0x400100 + 0x40000 * q + 0x80 * j, lsb', w'⟩ := by
  unfold Fld.apart
  dsimp only
  omega

/-! ### Kernel faults (R292, R294) -/

/-- The fault registers of a slot. -/
def State.showFault (s : State) (q x code pc addr : Nat) : State :=
  (((s.wr (QUILL_SLOT_FAULT_CODE q x) code).bumpSat (QUILL_SLOT_FAULT_COUNT q x)).wr (QUILL_SLOT_FAULT_PC q x) pc).wr
    (QUILL_SLOT_FAULT_ADDR q x) addr

/-- A fault of the nib is shown, counted and recorded, and its lines are retired. -/
def State.faultStops (s : State) (q x code pc addr : Nat) (slots : List Nat) : State :=
  (((s.showFault q x code pc addr).bump (QUILL_JOB_FAULTS q (s.nib q x).job)).fault (srcQuill q) code slots).nibStops
    q x

section
variable {code pc addr : Nat} {slots : List Nat}

/-- Beyond the fault registers a fault writes what a stop does. -/
theorem rd_faultStops (hj : (s.nib q x).job < 4) {f : Fld} (hf : ∀ g : Fld, g.Stops → g.apart f) :
    (s.faultStops q x code pc addr slots).rd f = (s.showFault q x code pc addr).rd f :=
  calc
    _ = _ := rd_nibStops hf
    _ = _ := rd_fault _ _ _ _ _ fun g hg => hf g (.sent (.fault hg))
    _ = _ := rd_wr_apart _ _ _ _ (hf _ (.faults q hj))

theorem rd_showFault_code (hcode : code < 2 ^ 16) :
    (s.showFault q x code pc addr).rd (QUILL_SLOT_FAULT_CODE q x) = code :=
  calc
    _ = _ := rd_wr_apart _ _ _ _ Fld.apart_slot
    _ = _ := rd_wr_apart _ _ _ _ Fld.apart_slot
    _ = _ := rd_wr_apart _ _ _ _ Fld.apart_slot
    _ = code % 2 ^ 16 := rd_wr_same s (QUILL_SLOT_FAULT_CODE q x) code (by simp [QUILL_SLOT_FAULT_CODE])
    _ = code := Nat.mod_eq_of_lt hcode

theorem rd_showFault_pc (hpc : pc < 2 ^ 14) : (s.showFault q x code pc addr).rd (QUILL_SLOT_FAULT_PC q x) = pc :=
  calc
    _ = _ := rd_wr_apart _ _ _ _ Fld.apart_slot
    _ = pc % 2 ^ 14 := rd_wr_same _ (QUILL_SLOT_FAULT_PC q x) pc (by simp [QUILL_SLOT_FAULT_PC])
    _ = pc := Nat.mod_eq_of_lt hpc

theorem rd_showFault_addr (haddr : addr < 2 ^ 32) :
    (s.showFault q x code pc addr).rd (QUILL_SLOT_FAULT_ADDR q x) = addr :=
  (rd_wr_same _ (QUILL_SLOT_FAULT_ADDR q x) addr (by simp [QUILL_SLOT_FAULT_ADDR])).trans (Nat.mod_eq_of_lt haddr)

theorem rd_showFault_policy {j : Nat} (hj : j < 4) (hx : x < 17) :
    (s.showFault q x code pc addr).rd (QUILL_JOB_CTRL_FAULT_POLICY q j) = s.rd (QUILL_JOB_CTRL_FAULT_POLICY q j) :=
  calc
    _ = _ := rd_wr_apart _ _ _ _ (Fld.slot_apart_ctrl hj (hx := hx))
    _ = _ := rd_wr_apart _ _ _ _ (Fld.slot_apart_ctrl hj (hx := hx))
    _ = _ := rd_wr_apart _ _ _ _ (Fld.slot_apart_ctrl hj (hx := hx))
    _ = _ := rd_wr_apart _ _ _ _ (Fld.slot_apart_ctrl hj (hx := hx))

/-- Without FAULT_POLICY RESTART a nib that faults remains stopped. -/
theorem kernelFault_stops (hcode : code ≠ kfOverrun) (hj : (s.nib q x).job < 4) (hx : x < 17)
    (hpolicy : s.rd (QUILL_JOB_CTRL_FAULT_POLICY q (s.nib q x).job) ≠ 0) : ∃ slots,
    s.kernelFault q x code pc addr = (s.faultStops q x code pc addr slots).setSlotState q x slotStopped := by
  unfold State.kernelFault
  extract_lets m l line a t₁ t₂ t₃ t₄ again t₅
  have ha : a = addr := if_neg hcode
  have hstops : t₅ = s.faultStops q x code pc addr (kfSlots q l code pc addr line) :=
    congrArg (fun a => (((t₁.wr (QUILL_SLOT_FAULT_ADDR q x) a).bump (QUILL_JOB_FAULTS q m.job)).fault (srcQuill q)
      code (kfSlots q l code pc addr line)).nibStops q x) ha
  have hkept : t₅.rd (QUILL_JOB_CTRL_FAULT_POLICY q m.job) = s.rd (QUILL_JOB_CTRL_FAULT_POLICY q m.job) := by
    rw [hstops]
    exact (rd_faultStops hj fun g hg => hg.apart_ctrl hj).trans (rd_showFault_policy hj hx)
  refine ⟨kfSlots q l code pc addr line, ?_⟩
  rw [hkept, if_neg (by simp [hpolicy, m]), hstops]

/-- What `t` has of a fault of the nib in slot x of quill q. -/
structure State.Faulted (q x code pc addr : Nat) (t : State) : Prop where
  code : code < 2 ^ 16 → t.rd (QUILL_SLOT_FAULT_CODE q x) = code
  pc : pc < 2 ^ 14 → t.rd (QUILL_SLOT_FAULT_PC q x) = pc
  addr : addr < 2 ^ 32 → t.rd (QUILL_SLOT_FAULT_ADDR q x) = addr
  state : t.slotState q x = slotStopped
  run : (t.nib q x).run = none

theorem kernelFault_faulted (hcode : code ≠ kfOverrun) (hj : (s.nib q x).job < 4) (hx : x < 17)
    (hpolicy : s.rd (QUILL_JOB_CTRL_FAULT_POLICY q (s.nib q x).job) ≠ 0) :
    State.Faulted q x code pc addr (s.kernelFault q x code pc addr) := by
  obtain ⟨slots, hstops⟩ := kernelFault_stops (pc := pc) (addr := addr) hcode hj hx hpolicy
  have hshown : ∀ {base lsb w : Nat},
      (0x400408 * 8 ≤ base * 8 + lsb ∧ base * 8 + lsb + w ≤ 0x400414 * 8) →
      (s.kernelFault q x code pc addr).rd ⟨base + 0x40000 * q + 0x20 * x, lsb, w⟩ =
        (s.showFault q x code pc addr).rd ⟨base + 0x40000 * q + 0x20 * x, lsb, w⟩ := fun h => by
    rw [hstops]
    exact (rd_wr_apart _ _ _ _ (Fld.apart_slot (by omega))).trans
      (rd_faultStops hj fun g hg => hg.apart_slot hx (by omega))
  refine ⟨fun h => (hshown (by decide)).trans (rd_showFault_code h), fun h => (hshown (by decide)).trans
    (rd_showFault_pc h), fun h => (hshown (by decide)).trans (rd_showFault_addr h), ?_, ?_⟩
  · rw [hstops]
    exact rd_wr_same _ (QUILL_SLOT_STATUS_STATE q x) slotStopped (by simp [QUILL_SLOT_STATUS_STATE])
  · rw [hstops]
    exact (congrArg Nib.run (nib_of_quill (wr_quill ..) q x)).trans (nibStops_run ..)

end

/-! ### RETIRE (R273) -/

theorem visibleAt_frame (s : State) (n : Nib) (c : Nat) :
    (s.visibleAt n c).2 = { s with freeCount := (s.visibleAt n c).2.freeCount } := by
  unfold State.visibleAt
  split <;> rfl

theorem State.InRegs.quill (h : s.InRegs t) : t.quill = s.quill := by rw [h.eq]

theorem State.InRegs.scores (h : s.InRegs t) : t.scores = s.scores := by rw [h.eq]

theorem updRetired_inRegs (s : State) (q j : Nat) : s.InRegs (s.updRetired q j) := by
  unfold State.updRetired
  dsimp only
  split
  · exact (State.InRegs.refl s).wr
  · exact .refl s

/-- A nib that has retired line l. -/
def Nib.afterLine (n : Nib) (l : Int) : Nib :=
  { n with run := none, loops := [], retired := some l, next := some (l + 1), prev := some l, skipped := 0
           restart := false }

/-- The run of the nib's line l has ended. -/
def State.nibEndsLine (s : State) (q x : Nat) (l : Int) : State :=
  ((s.endRun' q x).setSlotState q x slotIdle).setNib q x ((s.nib q x).afterLine l)

theorem nibEndsLine_scores (s : State) (q x : Nat) (l : Int) : (s.nibEndsLine q x l).scores = s.scores := by
  unfold State.nibEndsLine State.setSlotState
  rw [setNib_scores, wr_scores, endRun'_scores]

theorem nib_nibEndsLine (s : State) (q x : Nat) (l : Int) : (s.nibEndsLine q x l).nib q x = (s.nib q x).afterLine l :=
  nib_setNib_same ..

theorem nibEndsLine_slotState (s : State) (q x : Nat) (l : Int) : (s.nibEndsLine q x l).slotState q x = slotIdle :=
  (rd_setNib ..).trans (rd_wr_same _ (QUILL_SLOT_STATUS_STATE q x) slotIdle (by simp [QUILL_SLOT_STATUS_STATE]))

/-- Without an output row, a line that the nib retires is shown in the slot and counts for RETIRED. -/
theorem nibRetire_line {l : Int} (hrun : (s.nib q x).run = some (.line l)) (hj : (s.nib q x).job < 4) (hx : x < 17)
    (hout : s.on (QUILL_JOB_CTRL_OUT_EN q (s.nib q x).job) = false) :
    s.nibRetire q x = (s.nibEndsLine q x l).updRetired q (s.nib q x).job := by
  have hkept : ∀ m, (((s.endRun' q x).setSlotState q x slotIdle).setNib q x m).on
      (QUILL_JOB_CTRL_OUT_EN q (s.nib q x).job) = false := fun m =>
    (on_of_rd (calc
      _ = _ := rd_setNib ..
      _ = _ := rd_wr_apart _ _ _ _ (Fld.slot_apart_ctrl hj (hx := hx))
      _ = s.rd (QUILL_JOB_CTRL_OUT_EN q (s.nib q x).job) :=
        rd_endRun' (Fld.slot_apart_ctrl hj (hx := hx)) (Fld.slot_apart_ctrl hj (hx := hx)))).trans hout
  unfold State.nibRetire
  extract_lets m j t₁ m' t₂
  have hended : m' = { s.nib q x with run := none, loops := [] } := nib_endRun' s q x
  dsimp only [m]
  rw [hrun]
  dsimp only
  rw [if_neg fun h => Bool.false_ne_true ((hkept _).symm.trans (Bool.and_eq_true_iff.1 h).1), hended]
  rfl

section
variable {q : Fin 12} {x : Fin 17}

/-- The nib that retires. -/
def State.retiring (s : State) (q x : Nat) : State :=
  ((s.visibleAt (s.nib q x) (s.nib q x).cycle).2.clearStores q x).setNib q x
    { s.nib q x with store := none, cycle := (s.visibleAt (s.nib q x) (s.nib q x).cycle).1 }

theorem retire_ends (h : s.nibAt q x .retire) : exec (.retire q x) s = .next ((s.retiring q x).nibRetire q x) :=
  congrArg Host.Outcome.next ((nibIssue_runs h rfl).trans rfl)

theorem nib_retiring (s : State) (q x : Nat) : (s.retiring q x).nib q x =
    { s.nib q x with store := none, cycle := (s.visibleAt (s.nib q x) (s.nib q x).cycle).1 } := nib_setNib_same ..

theorem rd_retiring (s : State) (q x : Nat) (f : Fld) : (s.retiring q x).rd f = s.rd f := by
  unfold State.retiring
  rw [rd_setNib, rd_clearStores, visibleAt_frame]
  exact rd_congr rfl f

theorem retiring_scores (s : State) (q x : Nat) : (s.retiring q x).scores = s.scores :=
  calc
    _ = (s.visibleAt (s.nib q x) (s.nib q x).cycle).2.scores := rfl
    _ = s.scores := by rw [visibleAt_frame]

theorem retire_shows {l : Int} (h : s.nibAt q x .retire) (hrun : (s.nib q x).run = some (.line l))
    (hj : (s.nib q x).job < 4) (hout : s.on (QUILL_JOB_CTRL_OUT_EN q (s.nib q x).job) = false) : ∃ u,
    exec (.retire q x) s = .next u ∧ u.nib q x = ((s.retiring q x).nib q x).afterLine l ∧
      u.slotState q x = slotIdle ∧ u.scores = s.scores := by
  have hnib := nib_retiring s q x
  have hline := nibRetire_line (s := s.retiring q x) (l := l) (by rw [hnib]; exact hrun) (by rw [hnib]; exact hj) x.isLt
    (by rw [hnib]; exact (on_of_rd (rd_retiring ..)).trans hout)
  refine ⟨_, retire_ends h, ?_⟩
  rw [hline]
  have hregs := updRetired_inRegs ((s.retiring q x).nibEndsLine q x l) q ((s.retiring q x).nib q x).job
  have hkept := (State.Retires.refl (q := q) (x := x) ((s.retiring q x).nibEndsLine q x l)).updRetired
    (j := ((s.retiring q x).nib q x).job) (by rw [hnib]; exact hj)
  exact ⟨(nib_of_quill hregs.quill q x).trans (nib_nibEndsLine ..),
    (hkept.rd (QUILL_SLOT_STATUS_STATE q x) fun g hg => hg.apart_slot x.isLt).trans (nibEndsLine_slotState ..),
    hregs.scores.trans ((nibEndsLine_scores ..).trans (retiring_scores ..))⟩

theorem stop_faults {imm : Fin 65536} (h : s.nibAt q x (.stop imm)) : exec (.stop q x) s =
    .next ((s.setNib q x { s.nib q x with cycle := (s.nib q x).cycle }).kernelFault q x kfStop (s.nib q x).pc imm) :=
  congrArg Host.Outcome.next ((nibIssue_runs h rfl).trans rfl)

theorem illegalInstruction_faults (hrun : (s.nib q x).run.isSome = true) (hbudget : s.overBudget q x = false)
    (hword : decodeNib (s.nibWord q x) = none) : exec (.illegalInstruction q x) s =
      .next (s.kernelFault q x kfIllegal (s.nib q x).pc (s.nibWord q x)) := by
  refine if_neg ?_
  simp [hbudget, hword, Option.isSome_iff_ne_none.1 hrun]

theorem kernelTimeout_faults (hrun : (s.nib q x).run.isSome = true) (hbudget : s.overBudget q x = true) :
    exec (.kernelTimeout q x) s = .next (s.kernelFault q x kfTimeout (s.nib q x).pc
      (s.rd (QUILL_JOB_BUDGET q (s.nib q x).job))) := by
  refine if_pos ?_
  rw [hrun, hbudget, Bool.and_self]

theorem stop_stops {imm : Fin 65536} (h : s.nibAt q x (.stop imm)) (hj : (s.nib q x).job < 4)
    (hpolicy : s.rd (QUILL_JOB_CTRL_FAULT_POLICY q (s.nib q x).job) ≠ 0) : ∃ u, exec (.stop q x) s = .next u ∧
      State.Faulted q x kfStop (s.nib q x).pc imm u := by
  have hnib : (s.setNib q x { s.nib q x with cycle := (s.nib q x).cycle }).nib q x = s.nib q x := nib_setNib_same ..
  exact ⟨_, stop_faults h, kernelFault_faulted (by decide) (by rw [hnib]; exact hj) x.isLt
    (by rw [hnib, rd_setNib]; exact hpolicy)⟩

end

/-- Settles O30: an instruction takes its effect and the nib goes on in order (`nibIssue_seq`), unless it retires or
faults. What a tally, an answer or a stop sets off beside it is bounded by `State.Sends` and `State.Retires`. -/
theorem nibInstructionsReportRetireAndFault : Obligations.NibInstructionsReportRetireAndFault := by
  refine ⟨?_, ?_, ?_, ?_, ?_, ?_, ?_, ?_, ?_, ?_, ?_, ?_, ?_⟩
  · intro s q x l h hrun hj hout
    obtain ⟨u, hex, hnib, hstate, hscores⟩ := retire_shows h hrun hj hout
    exact ⟨u, hex, congrArg Nib.run hnib, congrArg Nib.retired hnib, congrArg Nib.next hnib, hstate,
      by rw [hnib, Nib.afterLine, nib_retiring], hscores⟩
  · intro s q x rc a b ink h hroom
    exact srep_queued h hroom
  · intro s q x rc a b ink h hfull
    exact srep_full h hfull
  · intro s q x a h halign hfits hty hroom
    exact temit_counts h halign hfits hty hroom
  · intro s q x d h hd hnone
    exact ⟨_, tget_none h hnone, nibNext_nibSeq (loops_putS ..),
      sr_nibNext.trans (sr_putS_same _ _ _ (Fin.val_ne_zero_iff.2 hd)), rfl⟩
  · intro s q x d k h hd hsome
    exact ⟨_, tget_some h hsome, nibNext_nibSeq (loops_putS ..),
      sr_nibNext.trans (sr_putS_same _ _ _ (Fin.val_ne_zero_iff.2 hd)),
      congrArg FqSlot.claimed ((fqSlot_setNib_same ..).trans (fqSlot_setFq_same ..)),
      State.keeps_setNib fun g hg => (keeps_setFq (s.latency 24 160).2 q k _ g hg).trans (rd_congr rfl g)⟩
  · intro s q x a b k f h hb hk hf hfull hclaimed hgen
    subst hf
    obtain ⟨hslot, hgone⟩ := answerDraft_frees s q k ((s.nib q x).sr b)
    exact ⟨_, tans_answers h hb hk rfl hfull hclaimed hgen, nibNext_nibSeq rfl,
      (fqSlot_setNib_same ..).trans hslot, hgone⟩
  · intro s q x a b h hb hfree
    refine ⟨_, tans_stale h hb hfree, nibNext_nibSeq rfl,
      State.keeps_setNib (State.keeps_wr (State.keeps_refl s _) _ _ (by simp)),
      rd_nibNext.trans (rd_wr_same s (QUILL_FQ_STALE q) _ (by simp [QUILL_FQ_STALE])), ?_⟩
    unfold State.nibNext State.bump
    rw [wr_frame]
    rfl
  · intro s q x c h
    exact event_shows h
  · intro s q x h hstore
    refine ⟨_, fence_clears h hstore, nibNext_nibSeq rfl, (stores_setNib_same ..).trans
      (congrArg Quill.stores (quillAt_setQuill_same ..)), congrArg Nib.cycle (nib_setNib_same ..), rfl⟩
  · intro s q x imm h hj hpolicy
    obtain ⟨u, hex, hu⟩ := stop_stops h hj hpolicy
    obtain ⟨-, -, -, -, hpc⟩ := h
    exact ⟨u, hex, hu.code (by decide), hu.pc (by omega), hu.addr (by omega), hu.state, hu.run⟩
  · intro s q x hrun hbudget hword hlt hpc hj hpolicy
    have hu := kernelFault_faulted (pc := (s.nib q x).pc) (addr := s.nibWord q x) (code := kfIllegal) (by decide) hj
      x.isLt hpolicy
    exact ⟨_, illegalInstruction_faults hrun hbudget hword, hu.code (by decide), hu.pc hpc, hu.addr hlt, hu.state,
      hu.run⟩
  · intro s q x hrun hbudget hpc hj hpolicy
    have hu := kernelFault_faulted (pc := (s.nib q x).pc) (addr := s.rd (QUILL_JOB_BUDGET q (s.nib q x).job))
      (code := kfTimeout) (by decide) hj x.isLt hpolicy
    exact ⟨_, kernelTimeout_faults hrun hbudget, hu.code (by decide), hu.state, hu.run⟩

end Sys2Proof.Machine
end

section
namespace Sys2Proof.Machine
open Sys2Proof

/-! ## ΔE

The distance of a number from a root turns on the side of the midpoint the root lies on: four times the square of
q + 1/2 is `(2 * q + 1) ^ 2`, one above four times `q * q + q`. -/

theorem odd_sq (q : Nat) : (2 * q + 1) ^ 2 = 4 * (q * q + q) + 1 := by ring

/-- The bisection keeps its invariant, a square at most `n`, and ends with the last such number unless `k` bits were
all taken. -/
theorem isqrtGo_spec {n : Nat} : ∀ (k r : Nat), r * r ≤ n →
    isqrtGo k n r * isqrtGo k n r ≤ n ∧
      (n < (isqrtGo k n r + 1) * (isqrtGo k n r + 1) ∨ isqrtGo k n r + 1 = r + 2 ^ k)
  | 0, _, h => ⟨h, .inr rfl⟩
  | k + 1, r, h => by
    unfold isqrtGo
    dsimp only
    split_ifs with hc
    · obtain ⟨hle, hlt | hall⟩ := isqrtGo_spec k (r + 2 ^ k) hc
      · exact ⟨hle, .inl hlt⟩
      · exact ⟨hle, .inr (by rw [hall]; ring)⟩
    · obtain ⟨hle, hlt | hall⟩ := isqrtGo_spec k r h
      · exact ⟨hle, .inl hlt⟩
      · exact ⟨hle, .inl (by rw [hall]; exact not_le.1 hc)⟩

theorem isqrt_sq_le (n : Nat) : isqrt n * isqrt n ≤ n := (isqrtGo_spec 64 0 n.zero_le).1

theorem lt_succ_isqrt_sq {n : Nat} (h : isqrt n + 1 < 2 ^ 64) : n < (isqrt n + 1) * (isqrt n + 1) :=
  (isqrtGo_spec 64 0 n.zero_le).2.resolve_right fun hall => h.ne (hall.trans (Nat.zero_add _))

/-- The nearest root is the root rounded down or the integer above it, and the midpoint between the two says which. -/
theorem sqrtNear_cases (n : Nat) :
    (sqrtNear n = isqrt n + 1 ∧ isqrt n * isqrt n + isqrt n < n) ∨
      (sqrtNear n = isqrt n ∧ n ≤ isqrt n * isqrt n + isqrt n) := by
  have hle := isqrt_sq_le n
  unfold sqrtNear
  dsimp only
  split_ifs with h
  · exact .inl ⟨rfl, by omega⟩
  · exact .inr ⟨rfl, by omega⟩

/-- The root lies above the midpoint below the nearest integer. -/
theorem sqrtNear_lower (n : Nat) : sqrtNear n = 0 ∨ (2 * sqrtNear n - 1) ^ 2 < 4 * n := by
  obtain ⟨h, hn⟩ | ⟨h, -⟩ := sqrtNear_cases n
  · right
    rw [h, show 2 * (isqrt n + 1) - 1 = 2 * isqrt n + 1 by omega, odd_sq]
    omega
  · have hle := isqrt_sq_le n
    rw [h]
    cases hq : isqrt n with
    | zero => exact .inl rfl
    | succ q =>
      right
      rw [hq] at hle
      rw [show 2 * (q + 1) - 1 = 2 * q + 1 by omega, odd_sq]
      linarith

/-- The root lies below the midpoint above the nearest integer, while that fits the bits of `isqrt`. -/
theorem sqrtNear_upper {n : Nat} (hfit : sqrtNear n + 1 < 2 ^ 64) : 4 * n < (2 * sqrtNear n + 1) ^ 2 := by
  rw [odd_sq]
  obtain ⟨h, -⟩ | ⟨h, hn⟩ := sqrtNear_cases n
  · have hlt := lt_succ_isqrt_sq (n := n) (by omega)
    rw [h]
    omega
  · rw [h]
    omega

theorem deltaE_eq (t : SettingsSet) (a b : Nat × Nat × Nat) :
    deltaE t a b = min 65535 (sqrtNear (((labOf t a).1 - (labOf t b).1).natAbs ^ 2 +
      ((labOf t a).2.1 - (labOf t b).2.1).natAbs ^ 2 + ((labOf t a).2.2 - (labOf t b).2.2).natAbs ^ 2)) := by
  simp only [deltaE, pow_two]

/-- Settles O57: the nearest root has the root between the midpoints on either side of it (`sqrtNear_lower`,
`sqrtNear_upper`), a saturated one keeps the midpoint below, and four times
the square of a midpoint is odd (`odd_sq`). -/
theorem deltaEIsTheNearestRoot : Obligations.DeltaEIsTheNearestRoot := by
  intro t a b x r hr hx
  rw [deltaE_eq, ← hx] at hr
  have hlower := sqrtNear_lower x
  refine ⟨fun hlt => ?_, fun heq => ?_, by omega, fun k => ?_⟩
  · obtain rfl : r = sqrtNear x := by omega
    exact ⟨hlower, sqrtNear_upper (by omega)⟩
  · have hsat : 65535 ≤ sqrtNear x := by omega
    calc (2 * 65535 - 1) ^ 2 ≤ (2 * sqrtNear x - 1) ^ 2 := Nat.pow_le_pow_left (by omega) 2
      _ < 4 * x := hlower.resolve_left (by omega)
  · rw [odd_sq]
    omega

end Sys2Proof.Machine
end

section
namespace Sys2Proof.Machine
open Sys2Proof

/-! ## Words of nib instructions (R274 to R287)

A word is its opcode and the fields of its format. What a word reads in each field says what it decodes to. -/

/-- Word w reads the fields of format A: opcode, d, a, b, m, func. -/
structure ReadsA (w op : Nat) (d a b : Fin 32) (m : Fin 8) (fn : Nat) : Prop where
  op : w / 2 ^ 26 % 64 = op
  d : finAt w 21 32 = d
  a : finAt w 16 32 = a
  b : finAt w 11 32 = b
  m : finAt w 8 8 = m
  fn : w % 256 = fn

/-- Word w reads the fields of formats I and M: opcode, d, a or base, a 16-bit field. -/
structure ReadsI (w op : Nat) (d a : Fin 32) (imm : Fin 65536) : Prop where
  op : w / 2 ^ 26 % 64 = op
  d : finAt w 21 32 = d
  a : finAt w 16 32 = a
  imm : finAt w 0 65536 = imm

/-- Word w reads the fields of format B: opcode, condition register, a 21-bit offset. -/
structure ReadsB (w op : Nat) (d : Fin 32) (off : Fin 2097152) : Prop where
  op : w / 2 ^ 26 % 64 = op
  d : finAt w 21 32 = d
  off : finAt w 0 2097152 = off

theorem fmtA_reads {op fn : Nat} (d a b : Fin 32) (m : Fin 8) (hfn : fn < 256) (hop : op < 64 := by decide) :
    ReadsA (fmtA op d a b m fn) op d a b m fn := by
  constructor
  case op | fn => unfold fmtA; omega
  all_goals
    apply Fin.ext
    dsimp only [finAt, fmtA]
    omega

theorem fmtI_reads {op : Nat} (d a : Fin 32) (imm : Fin 65536) (hop : op < 64 := by decide) :
    ReadsI (fmtI op d a imm) op d a imm := by
  constructor
  case op => unfold fmtI; omega
  all_goals
    apply Fin.ext
    dsimp only [finAt, fmtI]
    omega

theorem fmtB_reads {op : Nat} (d : Fin 32) (off : Fin 2097152) (hop : op < 64 := by decide) :
    ReadsB (fmtB op d off) op d off := by
  constructor
  case op => unfold fmtB; omega
  all_goals
    apply Fin.ext
    dsimp only [finAt, fmtB]
    omega

/-! ### Parts of a field -/

theorem finAt_zero_of_mod {w k n N : Nat} (hn : 0 < n) (h : w % N = k) (hN : n ∣ N) :
    finAt w 0 n hn = ⟨k % n, Nat.mod_lt _ hn⟩ :=
  Fin.ext (by simp only [finAt, ← h, Nat.mod_mod_of_dvd _ hN, pow_zero, Nat.div_one])

@[simp] theorem codeBelow_fin {n : Nat} (f : Fin n) : codeBelow n f = some f := dif_pos f.isLt

theorem codeBelow_none {n c : Nat} (h : n ≤ c) : codeBelow n c = none := dif_neg (by omega)

@[simp] theorem maskDest_succ (d : Fin 7) : maskDest (d + 1) = some d := dif_pos (by omega)

@[simp] theorem maskSrc_fin (a : Fin 8) : maskSrc a = some a := dif_pos a.isLt

@[simp] theorem accReg_even (k : Fin 16) : accReg (2 * k) = some k :=
  (dif_pos (by omega)).trans (congrArg some (Fin.ext (by dsimp only; omega)))

@[simp] theorem guardOpt_true {α : Type} (x : α) : guardOpt true x = some x := rfl

theorem guardOpt_pos {α : Type} {c : Bool} (x : α) (h : c = true) : guardOpt c x = some x := if_pos h

/-- The func field of VMAC (R280). -/
def fnMac (sub sc us sat : Bool) : Nat := b2n sub + b2n sc * 2 + b2n us * 32 + b2n sat * 64

theorem b2n_lt (x : Bool) : b2n x < 2 := by cases x <;> decide

theorem b2n_bit (x : Bool) : (b2n x == 1) = x := by cases x <;> rfl

section
variable {w op fn : Nat} {d a b : Fin 32} {m : Fin 8} {imm : Fin 65536} {us sat tr sub sc : Bool}

theorem ReadsA.low (h : ReadsA w op d a b m fn) {n : Nat} (hn : 0 < n) (hN : n ∣ 256 := by decide) :
    finAt w 0 n hn = ⟨fn % n, Nat.mod_lt _ hn⟩ := finAt_zero_of_mod hn h.fn hN

theorem ReadsI.mod (h : ReadsI w op d a imm) : w % 65536 = imm := by
  simpa [finAt] using congrArg Fin.val h.imm

theorem ReadsI.low (h : ReadsI w op d a imm) {n : Nat} (hn : 0 < n) (hN : n ∣ 65536 := by decide) :
    finAt w 0 n hn = ⟨imm % n, Nat.mod_lt _ hn⟩ := finAt_zero_of_mod hn h.mod hN

/-- What SH and the flags U, SAT and T read of a word whose func field is that of VMUL (R279). -/
theorem ReadsA.narrow {sh : Fin 32} (h : ReadsA w op d a b m (fnNarrow sh us sat tr)) :
    finAt w 0 32 = sh ∧ bitAt w 5 = us ∧ bitAt w 6 = sat ∧ bitAt w 7 = tr := by
  have hfn := h.fn
  have hu := b2n_lt us
  have hs := b2n_lt sat
  have ht := b2n_lt tr
  unfold fnNarrow at hfn
  refine ⟨Fin.ext ?_, ?_, ?_, ?_⟩
  · dsimp only [finAt]
    omega
  · rw [← b2n_bit us, bitAt, show w / 2 ^ 5 % 2 = b2n us by omega]
  · rw [← b2n_bit sat, bitAt, show w / 2 ^ 6 % 2 = b2n sat by omega]
  · rw [← b2n_bit tr, bitAt, show w / 2 ^ 7 % 2 = b2n tr by omega]

theorem ReadsA.mulsrFn {sh : Fin 64} (h : ReadsA w op d a b m (fnMulsr sh sat tr)) :
    finAt w 0 64 = sh ∧ bitAt w 6 = sat ∧ bitAt w 7 = tr := by
  have hfn := h.fn
  have hs := b2n_lt sat
  have ht := b2n_lt tr
  unfold fnMulsr at hfn
  refine ⟨Fin.ext ?_, ?_, ?_⟩
  · dsimp only [finAt]
    omega
  · rw [← b2n_bit sat, bitAt, show w / 2 ^ 6 % 2 = b2n sat by omega]
  · rw [← b2n_bit tr, bitAt, show w / 2 ^ 7 % 2 = b2n tr by omega]

theorem ReadsA.macFn (h : ReadsA w op d a b m (fnMac sub sc us sat)) :
    bitsAt w 2 3 = 0 ∧ bitAt w 7 = false ∧ bitAt w 0 = sub ∧ bitAt w 1 = sc ∧ bitAt w 5 = us ∧ bitAt w 6 = sat := by
  have hfn := h.fn
  have hsub := b2n_lt sub
  have hsc := b2n_lt sc
  have hu := b2n_lt us
  have hs := b2n_lt sat
  unfold fnMac at hfn
  refine ⟨?_, ?_, ?_, ?_, ?_, ?_⟩
  · unfold bitsAt
    omega
  · rw [bitAt, show w / 2 ^ 7 % 2 = 0 by omega, beq_eq_false_iff_ne]
    decide
  · rw [← b2n_bit sub, bitAt, show w / 2 ^ 0 % 2 = b2n sub by omega]
  · rw [← b2n_bit sc, bitAt, show w / 2 ^ 1 % 2 = b2n sc by omega]
  · rw [← b2n_bit us, bitAt, show w / 2 ^ 5 % 2 = b2n us by omega]
  · rw [← b2n_bit sat, bitAt, show w / 2 ^ 6 % 2 = b2n sat by omega]

theorem fnNarrow_lt {sh : Fin 32} : fnNarrow sh us sat tr < 256 := by
  have := b2n_lt us
  have := b2n_lt sat
  have := b2n_lt tr
  unfold fnNarrow
  omega

theorem fnMulsr_lt {sh : Fin 64} : fnMulsr sh sat tr < 256 := by
  have := b2n_lt sat
  have := b2n_lt tr
  unfold fnMulsr
  omega

theorem fnMac_lt : fnMac sub sc us sat < 256 := by
  have := b2n_lt sub
  have := b2n_lt sc
  have := b2n_lt us
  have := b2n_lt sat
  unfold fnMac
  omega

end

/-! ### What a word decodes to

Instructions that differ in their opcode alone have one lemma, for each opcode `op` and constructor `mk` of theirs. -/

section
variable {w op : Nat} {d a b : Fin 32} {m : Fin 8} {imm : Fin 65536} {us sat tr sub sc : Bool}

/-- The instructions of formats I and M whose operands are the fields as they stand. -/
def plainI : Nat → Option (Fin 32 → Fin 32 → Fin 65536 → NibInstr)
  | 0x01 => some .saddi
  | 0x02 => some .sandi
  | 0x03 => some .sori
  | 0x04 => some .sxori
  | 0x06 => some .sinsl
  | 0x07 => some .sinsh
  | 0x20 => some .lw
  | 0x21 => some .sw
  | 0x22 => some .lhu
  | 0x23 => some .sh
  | 0x24 => some .vld
  | 0x25 => some .vst
  | 0x26 => some .vstb
  | _ => none

theorem ReadsI.plain {mk} (h : ReadsI w op d a imm) (hmk : plainI op = some mk) : decodeNib w = some (mk d a imm) := by
  unfold plainI at hmk
  split at hmk
  case h_14 => cases hmk
  all_goals
    cases hmk
    unfold decodeNib
    rw [h.op]
    simp only [h.d, h.a, h.imm]

/-- The instructions of format B. -/
def plainB : Nat → Option (Fin 32 → Fin 2097152 → NibInstr)
  | 0x30 => some .beqz
  | 0x31 => some .bnez
  | 0x32 => some .bltz
  | 0x33 => some .bgez
  | 0x34 => some .jal
  | _ => none

theorem ReadsB.plain {off mk} (h : ReadsB w op d off) (hmk : plainB op = some mk) : decodeNib w = some (mk d off) := by
  unfold plainB at hmk
  split at hmk
  case h_6 => cases hmk
  all_goals
    cases hmk
    unfold decodeNib
    rw [h.op]
    simp only [h.d, h.off]

/-! Scalar instructions -/

theorem ReadsA.salu {f : Fin 17} (h : ReadsA w 0x00 d a b 0 f) : decodeNib w = some (.salu f d a b) := by
  have hf : f.val ≠ 17 := by omega
  unfold decodeNib
  rw [h.op]
  simp [h.d, h.a, h.b, h.m, h.fn, hf]

theorem ReadsA.clz (h : ReadsA w 0x00 d a 0 0 17) : decodeNib w = some (.clz d a) := by
  unfold decodeNib
  rw [h.op]
  simp [h.d, h.a, h.b, h.m, h.fn]

theorem ReadsI.scmpi {c : Fin 10} {k : Fin 4096} {hk : k.val + c.val * 4096 < 65536}
    (h : ReadsI w 0x05 d a ⟨k + c * 4096, hk⟩) : decodeNib w = some (.scmpi c d a k) := by
  have hc : (k.val + c.val * 4096) / 4096 = c := by omega
  have hlow : (k.val + c.val * 4096) % 4096 = k := by omega
  unfold decodeNib
  rw [h.op]
  simp [h.d, h.a, h.imm, h.low (n := 4096), hc, hlow]

theorem ReadsI.shi {kind : Fin 4} {n : Fin 32} {hk : n.val + kind.val * 32 < 65536}
    (h : ReadsI w 0x08 d a ⟨n + kind * 32, hk⟩) : decodeNib w = some (.shi kind d a n) := by
  have himm := h.mod
  dsimp only at himm
  have hkind : finAt w 5 4 = kind := Fin.ext (by dsimp only [finAt]; omega)
  have hn : finAt w 0 32 = n := Fin.ext (by dsimp only [finAt]; omega)
  have hlt : n.val + kind.val * 32 < 128 := by omega
  unfold decodeNib
  rw [h.op]
  simp [h.d, h.a, h.imm, hkind, hn, hlt]

theorem ReadsA.scalarProduct {sh : Fin 64} {mk}
    (hmk : op = 0x09 ∧ mk = NibInstr.mulsr ∨ op = 0x0A ∧ mk = NibInstr.mulsru)
    (h : ReadsA w op d a b 0 (fnMulsr sh sat tr)) : decodeNib w = some (mk d a b sh sat tr) := by
  obtain ⟨hsh, hs, ht⟩ := h.mulsrFn
  obtain ⟨rfl, rfl⟩ | ⟨rfl, rfl⟩ := hmk
  all_goals
    unfold decodeNib
    rw [h.op]
    simp only [h.d, h.a, h.b, hsh, hs, ht]

theorem ReadsI.getsr {n : Fin 14} (h : ReadsI w 0x0B d 0 (n.castLE (by decide))) : decodeNib w = some (.getsr d n) := by
  unfold decodeNib
  rw [h.op]
  simp [h.d, h.a, h.imm]

/-! Vector instructions -/

theorem ReadsA.valu {f : Fin 19} {mk} (hmk : op = 0x10 ∧ mk = NibInstr.valu ∨ op = 0x11 ∧ mk = NibInstr.valus)
    (h : ReadsA w op d a b m f) : decodeNib w = some (mk f d a b m) := by
  have hf : f.val ≠ 19 := by omega
  obtain ⟨rfl, rfl⟩ | ⟨rfl, rfl⟩ := hmk
  all_goals
    unfold decodeNib
    rw [h.op]
    simp [h.d, h.a, h.b, h.m, h.fn, hf]

theorem ReadsA.vmov {mk} (hmk : op = 0x10 ∧ mk = NibInstr.vmov ∨ op = 0x11 ∧ mk = NibInstr.vmovs)
    (h : ReadsA w op d a 0 m 0x13) : decodeNib w = some (mk d a m) := by
  obtain ⟨rfl, rfl⟩ | ⟨rfl, rfl⟩ := hmk
  all_goals
    unfold decodeNib
    rw [h.op]
    simp [h.d, h.a, h.b, h.m, h.fn]

theorem ReadsA.product {sh : Fin 32} {mk} (hmk : op = 0x12 ∧ mk = NibInstr.vmul ∨ op = 0x13 ∧ mk = NibInstr.vmuls)
    (h : ReadsA w op d a b m (fnNarrow sh us sat tr)) : decodeNib w = some (mk d a b m sh us sat tr) := by
  obtain ⟨hsh, hu, hs, ht⟩ := h.narrow
  obtain ⟨rfl, rfl⟩ | ⟨rfl, rfl⟩ := hmk
  all_goals
    unfold decodeNib
    rw [h.op]
    simp only [h.d, h.a, h.b, h.m, hsh, hu, hs, ht]

theorem ReadsA.vmac {k : Fin 16} (h : ReadsA w 0x14 ⟨2 * k, by omega⟩ a b m (fnMac sub sc us sat)) :
    decodeNib w = some (.vmac k a b m sub sc us sat) := by
  obtain ⟨hrest, htop, hsub, hsc, hu, hs⟩ := h.macFn
  unfold decodeNib
  rw [h.op]
  simp [h.d, h.a, h.b, h.m, hrest, htop, hsub, hsc, hu, hs]

theorem ReadsA.vnar {k : Fin 16} {sh : Fin 32} (h : ReadsA w 0x15 d ⟨2 * k, by omega⟩ 0 m (fnNarrow sh us sat tr)) :
    decodeNib w = some (.vnar d k m sh us sat tr) := by
  obtain ⟨hsh, hu, hs, ht⟩ := h.narrow
  unfold decodeNib
  rw [h.op]
  simp [h.d, h.a, h.m, hsh, hu, hs, ht]

theorem ReadsA.vcmp {c : Fin 10} {e : Fin 7} {mk}
    (hmk : op = 0x16 ∧ mk = NibInstr.vcmp ∨ op = 0x17 ∧ mk = NibInstr.vcmps)
    (h : ReadsA w op ⟨e + 1, by omega⟩ a b m c) : decodeNib w = some (mk c e a b m) := by
  obtain ⟨rfl, rfl⟩ | ⟨rfl, rfl⟩ := hmk
  all_goals
    unfold decodeNib
    rw [h.op]
    simp [h.d, h.a, h.b, h.m, h.fn]

theorem ReadsA.vsel {mk} (hmk : op = 0x18 ∧ mk = NibInstr.vsel ∨ op = 0x1E ∧ mk = NibInstr.vgath)
    (h : ReadsA w op d a b m 0) : decodeNib w = some (mk d a b m) := by
  obtain ⟨rfl, rfl⟩ | ⟨rfl, rfl⟩ := hmk
  all_goals
    unfold decodeNib
    rw [h.op]
    simp [h.d, h.a, h.b, h.m, h.fn]

theorem ReadsA.vred {f : Fin 8} (h : ReadsA w 0x1A d a 0 m f) : decodeNib w = some (.vred f d a m) := by
  have hf : f.val ≠ 8 := by omega
  unfold decodeNib
  rw [h.op]
  simp [h.d, h.a, h.m, h.fn, hf]

theorem ReadsA.vsuma {k : Fin 16} (h : ReadsA w 0x1A d ⟨2 * k, by omega⟩ 0 m 8) :
    decodeNib w = some (.vsuma d k m) := by
  unfold decodeNib
  rw [h.op]
  simp [h.d, h.a, h.m, h.fn]

theorem ReadsA.vslide {up : Bool} {k : Fin 64} (h : ReadsA w 0x1B d a b m (k + b2n up * 64)) :
    decodeNib w = some (.vslide up d a b m k) := by
  have hfn := h.fn
  have hup := b2n_lt up
  have hlt : w % 256 < 128 := by omega
  have hdir : bitAt w 6 = up := by rw [← b2n_bit up, bitAt, show w / 2 ^ 6 % 2 = b2n up by omega]
  have hk : finAt w 0 64 = k := Fin.ext (by dsimp only [finAt]; omega)
  unfold decodeNib
  rw [h.op]
  simp only [h.d, h.a, h.b, h.m, hdir, hk, if_pos hlt]

theorem ReadsA.vbcast {k : Fin 64} (h : ReadsA w 0x1B d a 0 m (k + 128)) : decodeNib w = some (.vbcast d a m k) := by
  have hfn := h.fn
  have hge : ¬ w % 256 < 128 := by omega
  have hlt : w % 256 < 192 := by omega
  have hk : finAt w 0 64 = k := Fin.ext (by dsimp only [finAt]; omega)
  unfold decodeNib
  rw [h.op]
  simp [h.d, h.a, h.b, h.m, hk, if_neg hge, if_pos hlt]

theorem ReadsA.vsplat (h : ReadsA w 0x1C d a 0 m 0) : decodeNib w = some (.vsplat d a m) := by
  unfold decodeNib
  rw [h.op]
  simp [h.d, h.a, h.b, h.m, h.fn]

theorem ReadsA.vext {x : Bool} (h : ReadsA w 0x1D d a b 0 (b2n x)) : decodeNib w = some (.vext d a b x) := by
  have hfn := h.fn
  have hx := b2n_lt x
  have hext : bitAt w 0 = x := by rw [← b2n_bit x, bitAt, show w / 2 ^ 0 % 2 = b2n x by omega]
  unfold decodeNib
  rw [h.op]
  simp only [h.d, h.a, h.b, h.m, hext]
  exact guardOpt_pos _ (by rw [hfn]; simpa using hx)

/-! Mask instructions -/

theorem ReadsA.vmaskLogic {f : Fin 4} {e : Fin 7} {x y : Fin 8}
    (h : ReadsA w 0x19 ⟨e + 1, by omega⟩ (x.castLE (by decide)) (y.castLE (by decide)) 0 f) :
    decodeNib w = some (.vmaskLogic f e x y) := by
  have hset : f.val ≠ 9 := by omega
  have hnot : f.val ≠ 4 := by omega
  unfold decodeNib
  rw [h.op]
  simp [h.d, h.a, h.b, h.m, h.fn, hset, hnot]

theorem ReadsA.vmaskNot {e : Fin 7} {x : Fin 8} (h : ReadsA w 0x19 ⟨e + 1, by omega⟩ (x.castLE (by decide)) 0 0 4) :
    decodeNib w = some (.vmaskNot e x) := by
  unfold decodeNib
  rw [h.op]
  simp [h.d, h.a, h.b, h.m, h.fn]

theorem ReadsA.vmaskRead {f : Fin 4} {x : Fin 8} (h : ReadsA w 0x19 d (x.castLE (by decide)) 0 0 (f + 5)) :
    decodeNib w = some (.vmaskRead f d x) := by
  have hset : f.val + 5 ≠ 9 := by omega
  have hlogic : codeBelow 4 (f.val + 5) = none := codeBelow_none (by omega)
  unfold decodeNib
  rw [h.op]
  simp [h.d, h.a, h.m, h.fn, hset, hlogic]

theorem ReadsA.vmaskSet {e : Fin 7} (h : ReadsA w 0x19 ⟨e + 1, by omega⟩ a b 0 9) :
    decodeNib w = some (.vmaskSet e a b) := by
  unfold decodeNib
  rw [h.op]
  simp [h.d, h.a, h.b, h.m, h.fn]

theorem ReadsI.vldm {e : Fin 7} (h : ReadsI w 0x27 ⟨e + 1, by omega⟩ a imm) : decodeNib w = some (.vldm e a imm) := by
  unfold decodeNib
  rw [h.op]
  simp [h.d, h.a, h.imm]

/-! Reports, tickets, events and control -/

theorem ReadsA.srep {record : Bool} {ink : Fin 256}
    (h : ReadsA w 0x29 ⟨b2n record, (b2n_lt record).trans (by decide)⟩ a b 0 ink) :
    decodeNib w = some (.srep record a b ink) := by
  have hr := b2n_lt record
  have hd : w / 2 ^ 21 % 32 = b2n record := congrArg Fin.val h.d
  have hrec : bitAt w 21 = record := by rw [← b2n_bit record, bitAt, show w / 2 ^ 21 % 2 = b2n record by omega]
  have hink : finAt w 0 256 = ink := by simp [h.low (n := 256), Nat.mod_eq_of_lt ink.isLt]
  unfold decodeNib
  rw [h.op]
  simp only [h.d, h.a, h.b, h.m, hrec, hink]
  exact guardOpt_pos _ (by simpa using hr)

theorem ReadsA.temit (h : ReadsA w 0x2A 0 a 0 0 0) : decodeNib w = some (.temit a) := by
  unfold decodeNib
  rw [h.op]
  simp only [h.a]

theorem ReadsA.tget (h : ReadsA w 0x2B d 0 0 0 0) : decodeNib w = some (.tget d) := by
  unfold decodeNib
  rw [h.op]
  simp only [h.d]

theorem ReadsA.tans (h : ReadsA w 0x2C 0 a b 0 0) : decodeNib w = some (.tans a b) := by
  unfold decodeNib
  rw [h.op]
  simp only [h.a, h.b]

theorem ReadsI.event {c : Fin 256} (h : ReadsI w 0x2D 0 0 (c.castLE (by decide))) : decodeNib w = some (.event c) := by
  have hc : finAt w 0 256 = c := by simp [h.low (n := 256), Nat.mod_eq_of_lt c.isLt]
  unfold decodeNib
  rw [h.op]
  simp only [hc]

theorem ReadsA.jr (h : ReadsA w 0x35 0 a 0 0 0) : decodeNib w = some (.jr a) := by
  unfold decodeNib
  rw [h.op]
  simp [h.d, h.a, h.b, h.m, h.fn]

theorem ReadsI.loop {n : Fin 4095} (h : ReadsI w 0x36 0 a ⟨n + 1, by omega⟩) : decodeNib w = some (.loop a n) := by
  have hn : n.val + 1 ≤ 4095 := by omega
  have hlt : ¬ 4096 ≤ n.val + 1 := by omega
  unfold decodeNib
  rw [h.op]
  simp [h.d, h.a, h.imm, hn, hlt]

theorem ReadsI.stop (h : ReadsI w 0x37 0 0 imm) : decodeNib w = some (.stop imm) := by
  unfold decodeNib
  rw [h.op]
  simp only [h.imm]

end

/-- Settles O7: the word of an instruction reads the fields of its format (`fmtA_reads`, `fmtI_reads`, `fmtB_reads`),
and a word with these fields decodes to it. -/
theorem nibInstructionsSurviveTheirWords : Obligations.NibInstructionsSurviveTheirWords := by
  unfold Obligations.NibInstructionsSurviveTheirWords
  intro i
  cases i with
  | salu f d a b => exact (fmtA_reads d a b 0 (by omega)).salu
  | clz d a => exact (fmtA_reads d a 0 0 (by decide)).clz
  | saddi d a imm | sandi d a imm | sori d a imm | sxori d a imm | sinsl d a imm | sinsh d a imm
  | lw d a imm | sw d a imm | lhu d a imm | sh d a imm | vld d a imm | vst d a imm | vstb d a imm =>
    exact (fmtI_reads d a imm).plain rfl
  | scmpi c d a k => exact (fmtI_reads d a ⟨k + c * 4096, by omega⟩).scmpi
  | shi kind d a n => exact (fmtI_reads d a ⟨n + kind * 32, by omega⟩).shi
  | mulsr d a b sh sat tr => exact (fmtA_reads d a b 0 fnMulsr_lt).scalarProduct (.inl ⟨rfl, rfl⟩)
  | mulsru d a b sh sat tr => exact (fmtA_reads d a b 0 fnMulsr_lt).scalarProduct (.inr ⟨rfl, rfl⟩)
  | getsr d n => exact (fmtI_reads d 0 (n.castLE (by decide))).getsr
  | valu f d a b m => exact (fmtA_reads d a b m (by omega)).valu (.inl ⟨rfl, rfl⟩)
  | valus f d a b m => exact (fmtA_reads d a b m (by omega)).valu (.inr ⟨rfl, rfl⟩)
  | vmov d a m => exact (fmtA_reads d a 0 m (by decide)).vmov (.inl ⟨rfl, rfl⟩)
  | vmovs d a m => exact (fmtA_reads d a 0 m (by decide)).vmov (.inr ⟨rfl, rfl⟩)
  | vmul d a b m sh us sat tr => exact (fmtA_reads d a b m fnNarrow_lt).product (.inl ⟨rfl, rfl⟩)
  | vmuls d a b m sh us sat tr => exact (fmtA_reads d a b m fnNarrow_lt).product (.inr ⟨rfl, rfl⟩)
  | vmac k a b m sub sc us sat => exact (fmtA_reads ⟨2 * k, by omega⟩ a b m fnMac_lt).vmac
  | vnar d k m sh us sat tr => exact (fmtA_reads d ⟨2 * k, by omega⟩ 0 m fnNarrow_lt).vnar
  | vcmp c e a b m => exact (fmtA_reads ⟨e + 1, by omega⟩ a b m (by omega)).vcmp (.inl ⟨rfl, rfl⟩)
  | vcmps c e a b m => exact (fmtA_reads ⟨e + 1, by omega⟩ a b m (by omega)).vcmp (.inr ⟨rfl, rfl⟩)
  | vsel d a b m => exact (fmtA_reads d a b m (by decide)).vsel (.inl ⟨rfl, rfl⟩)
  | vgath d a b m => exact (fmtA_reads d a b m (by decide)).vsel (.inr ⟨rfl, rfl⟩)
  | vmaskLogic f e x y =>
    exact (fmtA_reads ⟨e + 1, by omega⟩ (x.castLE (by decide)) (y.castLE (by decide)) 0 (by omega)).vmaskLogic
  | vmaskNot e x => exact (fmtA_reads ⟨e + 1, by omega⟩ (x.castLE (by decide)) 0 0 (by decide)).vmaskNot
  | vmaskRead f d x => exact (fmtA_reads d (x.castLE (by decide)) 0 0 (by omega)).vmaskRead
  | vmaskSet e a b => exact (fmtA_reads ⟨e + 1, by omega⟩ a b 0 (by decide)).vmaskSet
  | vred f d a m => exact (fmtA_reads d a 0 m (by omega)).vred
  | vsuma d k m => exact (fmtA_reads d ⟨2 * k, by omega⟩ 0 m (by decide)).vsuma
  | vslide up d a b m k => exact (fmtA_reads d a b m (by have := b2n_lt up; omega)).vslide
  | vbcast d a m k => exact (fmtA_reads d a 0 m (by omega)).vbcast
  | vsplat d a m => exact (fmtA_reads d a 0 m (by decide)).vsplat
  | vext d a b x => exact (fmtA_reads d a b 0 ((b2n_lt x).trans (by decide))).vext
  | vldm e a imm => exact (fmtI_reads ⟨e + 1, by omega⟩ a imm).vldm
  | retire | fence => decide
  | srep record a b ink =>
    exact (fmtA_reads ⟨b2n record, (b2n_lt record).trans (by decide)⟩ a b 0 ink.isLt).srep
  | temit a => exact (fmtA_reads 0 a 0 0 (by decide)).temit
  | tget d => exact (fmtA_reads d 0 0 0 (by decide)).tget
  | tans a b => exact (fmtA_reads 0 a b 0 (by decide)).tans
  | event c => exact (fmtI_reads 0 0 (c.castLE (by decide))).event
  | beqz a off | bnez a off | bltz a off | bgez a off | jal a off => exact (fmtB_reads a off).plain rfl
  | jr a => exact (fmtA_reads 0 a 0 0 (by decide)).jr
  | loop a n => exact (fmtI_reads 0 a ⟨n + 1, by omega⟩).loop
  | stop imm => exact (fmtI_reads 0 0 imm).stop

/-- Settles O8: each word is written out, and its decoding computed. -/
theorem nibWordsSpellTheirInstructions : Obligations.NibWordsSpellTheirInstructions := by
  unfold Obligations.NibWordsSpellTheirInstructions
  decide

end Sys2Proof.Machine
end

section
namespace Sys2Proof.Machine
open Sys2Proof

variable {s t : State} {q x : Nat} {n : Nib} {i : NibInstr}

/-! ## Instructions that compute (R274 to R281)

### The registers of a nib (R275) -/

theorem sr_putS (n : Nib) (d v at_ : Nat) : (n.putS d v at_).sr d = if d = 0 then 0 else v % 2 ^ 32 := by
  split
  · next h => exact if_pos h
  · next h => exact sr_putS_same n v at_ h

theorem vr_putV (n : Nib) (d : Nat) (v : List Nat) (at_ : Nat) : (n.putV d v at_).vr d = v := spGet_spSet_same ..

theorem vr_putV_ne (n : Nib) {d r : Nat} (v : List Nat) (at_ : Nat) (h : d ≠ r) : (n.putV d v at_).vr r = n.vr r :=
  spGet_spSet_ne _ _ _ h

theorem mr_putM (n : Nib) (d v at_ : Nat) : (n.putM (d + 1) v at_).mr (d + 1) = v % 2 ^ 64 := by
  unfold Nib.putM Nib.mr
  rw [if_neg d.succ_ne_zero, if_neg d.succ_ne_zero]
  exact spGet_spSet_same ..

/-- A nib keeps all of itself. -/
theorem Nib.keeps_refl (n : Nib) (ds dv dm : List Nat) : n.keeps n ds dv dm :=
  ⟨fun _ _ _ => rfl, fun _ _ _ => rfl, fun _ _ _ => rfl, rfl⟩

theorem Nib.keeps_putS (n : Nib) (d v at_ : Nat) : n.keeps (n.putS d v at_) [d] [] [] := by
  unfold Nib.putS
  split
  · exact Nib.keeps_refl ..
  · refine ⟨fun r _ hr => ?_, fun _ _ _ => rfl, fun _ _ _ => rfl, rfl⟩
    have hne : d ≠ r := fun h => hr (h ▸ List.mem_singleton_self _)
    exact congrArg (fun v => if r = 0 then 0 else v) (spGet_spSet_ne _ _ _ hne)

theorem Nib.keeps_putV (n : Nib) (d : Nat) (v : List Nat) (at_ : Nat) : n.keeps (n.putV d v at_) [] [d] [] :=
  ⟨fun _ _ _ => rfl, fun _ _ hr => vr_putV_ne n v at_ fun h => hr (h ▸ List.mem_singleton_self _),
    fun _ _ _ => rfl, rfl⟩

theorem Nib.keeps_putM (n : Nib) (d v at_ : Nat) : n.keeps (n.putM d v at_) [] [] [d] := by
  unfold Nib.putM
  split
  · exact Nib.keeps_refl ..
  · refine ⟨fun _ _ _ => rfl, fun _ _ _ => rfl, fun r _ hr => ?_, rfl⟩
    have hne : d ≠ r := fun h => hr (h ▸ List.mem_singleton_self _)
    exact congrArg (fun v => if r = 0 then 2 ^ 64 - 1 else v) (spGet_spSet_ne _ _ _ hne)

theorem loops_putM (n : Nib) (d v at_ : Nat) : (n.putM d v at_).loops = n.loops := by
  unfold Nib.putM
  split <;> rfl

/-! ### An instruction that changes its nib alone -/

theorem nib_nibNext {c : Nat} : (s.nibNext q x n c t).nib q x = { n with pc := (s.nib q x).pc + 4, cycle := c } :=
  nib_setNib_same ..

theorem nibNext_only {c : Nat} : s.nibOnly (s.nibNext q x n c s) q x := by
  rw [State.nibOnly, nib_nibNext]
  rfl

/-- What the nib keeps, it keeps with another PC, other loops and another cycle. -/
theorem Nib.keeps_at {m : Nib} {ds dv dm : List Nat} (h : n.keeps m ds dv dm) (pc cycle : Nat)
    (loops : List LoopLevel) : n.keeps { m with pc := pc, loops := loops, cycle := cycle } ds dv dm := by
  obtain ⟨hs, hv, hm, heq⟩ := h
  refine ⟨hs, hv, hm, ?_⟩
  conv_lhs => rw [heq]

theorem nibNext_keeps {c : Nat} {ds dv dm : List Nat} (h : (s.nib q x).keeps n ds dv dm) :
    (s.nib q x).keeps ((s.nibNext q x n c t).nib q x) ds dv dm := by
  rw [nib_nibNext]
  exact Nib.keeps_at h ..

section
variable {q : Fin 12} {x : Fin 17} {sel : NibInstr → Option (Nib → State → NibRes)} {act : Nib → State → NibRes}
  {c d at_ : Nat}

/-- The answer of an instruction whose effect is that nib m in slot x of quill q goes on in order. -/
theorem nibIssue_putS {v w : Nat} (h : s.nibAt q x i) (hsel : sel i = some act)
    (hact : act (s.nib q x) s = ⟨.seq, c, (s.nib q x).putS d v at_, s⟩) (hv : v % 2 ^ 32 = w % 2 ^ 32) :
    s.nibScalar (s.nibIssue q x sel) q x d w := by
  have hloops := loops_putS (s.nib q x) d v at_
  rw [nibIssue_seq h hsel hact hloops]
  exact ⟨by rw [sr_nibNext, sr_putS, hv], nibNext_nibSeq hloops, nibNext_keeps (Nib.keeps_putS ..), nibNext_only⟩

theorem nibIssue_putV {v w : List Nat} (h : s.nibAt q x i) (hsel : sel i = some act)
    (hact : act (s.nib q x) s = ⟨.seq, c, (s.nib q x).putV d v at_, s⟩) (hv : v = w) :
    s.nibVector (s.nibIssue q x sel) q x d w := by
  rw [nibIssue_seq h hsel hact rfl]
  refine ⟨?_, nibNext_nibSeq rfl, nibNext_keeps (Nib.keeps_putV ..), nibNext_only⟩
  rw [nib_nibNext, ← hv]
  exact vr_putV (s.nib q x) d v at_

theorem nibIssue_putM {v : Nat} (h : s.nibAt q x i) (hsel : sel i = some act)
    (hact : act (s.nib q x) s = ⟨.seq, c, (s.nib q x).putM (d + 1) v at_, s⟩) :
    s.nibMask (s.nibIssue q x sel) q x d v := by
  have hloops := loops_putM (s.nib q x) (d + 1) v at_
  rw [nibIssue_seq h hsel hact hloops]
  refine ⟨?_, nibNext_nibSeq hloops, nibNext_keeps (Nib.keeps_putM ..), nibNext_only⟩
  rw [nib_nibNext]
  exact mr_putM (s.nib q x) d v at_

end

/-! ### Scalar instructions (R276 to R278) -/

/-- The constant of SCMPI, as the conditions take it. -/
theorem scmpiConst_eq (c : Fin 10) (k : Nat) : scmpiConst c k =
    if c = 4 ∨ c = 5 ∨ c = 8 ∨ c = 9 then k else toBits 32 (signed 12 k) := by
  unfold scmpiConst sext32
  refine if_congr ?_ rfl rfl
  revert c
  decide

/-- The nib after its read of EVFLAG (R278, R286). -/
def Nib.readEv (n : Nib) : Nib := { n with ev := none, evRead := if n.ev.isSome then n.ev else n.evRead }

theorem ev_putS (n : Nib) (d v at_ : Nat) : (n.putS d v at_).ev = n.ev := by
  unfold Nib.putS
  split <;> rfl

theorem nibSpecial_evFlag {hop at_ : Nat} (h : n.ev = some hop) :
    s.nibSpecial q x n 11 at_ = 1 + min hop 15 * 2 ^ 8 := by
  simp only [State.nibSpecial, h]

/-- A read of EVFLAG writes the register, clears the nib's copy and goes on in order. -/
theorem getsr_evFlag {q : Fin 12} {x : Fin 17} {d : Fin 32} (h : s.nibAt q x (.getsr d 11)) :
    exec (.getsr q x) s = .next (s.nibNext q x ((s.nib q x).readEv.putS d
      (s.nibSpecial q x (s.nib q x) 11 (s.nib q x).cycle) ((s.nib q x).cycle + 1)) ((s.nib q x).cycle + 1) s) :=
  congrArg _ (nibIssue_seq (n := (s.nib q x).readEv.putS d (s.nibSpecial q x (s.nib q x) 11 (s.nib q x).cycle) _)
    h rfl rfl (loops_putS (s.nib q x).readEv ..))

/-- Settles O26: each instruction writes one scalar register and goes on in order (`nibIssue_putS`); a read of EVFLAG
clears it beside. -/
theorem scalarNibInstructionsWriteOneRegister : Obligations.ScalarNibInstructionsWriteOneRegister := by
  refine ⟨?_, ?_, ?_, ?_, ?_, ?_, ?_, ?_, ?_, ?_, ?_, ?_, ?_, ?_⟩
  · intro s q x f d a b h
    exact ⟨_, rfl, nibIssue_putS h rfl rfl rfl⟩
  · intro s q x d a h
    exact ⟨_, rfl, nibIssue_putS h rfl rfl rfl⟩
  · intro s q x d a imm h
    exact ⟨_, rfl, nibIssue_putS h rfl rfl (Nat.mod_mod ..)⟩
  · intro s q x d a imm h
    exact ⟨_, rfl, nibIssue_putS h rfl rfl rfl⟩
  · intro s q x d a imm h
    exact ⟨_, rfl, nibIssue_putS h rfl rfl rfl⟩
  · intro s q x d a imm h
    exact ⟨_, rfl, nibIssue_putS h rfl rfl rfl⟩
  · intro s q x c d a k h
    rw [← scmpiConst_eq]
    exact ⟨_, rfl, nibIssue_putS h rfl rfl rfl⟩
  · intro s q x d a imm h
    exact ⟨_, rfl, nibIssue_putS h rfl rfl rfl⟩
  · intro s q x d a imm h
    exact ⟨_, rfl, nibIssue_putS h rfl rfl rfl⟩
  · intro s q x kind d a m h
    exact ⟨_, rfl, nibIssue_putS h rfl rfl rfl⟩
  · intro s q x d a b sh sat tr h
    exact ⟨_, rfl, nibIssue_putS h rfl rfl rfl⟩
  · intro s q x d a b sh sat tr h
    exact ⟨_, rfl, nibIssue_putS h rfl rfl rfl⟩
  · intro s q x d k h hk
    have hne : k.val ≠ 11 := fun heq => hk (Fin.ext heq)
    refine ⟨_, rfl, nibIssue_putS (c := (s.nib q x).cycle + 1) (at_ := (s.nib q x).cycle + 1) h rfl ?_ rfl⟩
    exact congrArg (fun m : Nib => (⟨.seq, _, m.putS d _ _, s⟩ : NibRes)) (if_neg hne)
  · intro s q x d hop h hev hd
    refine ⟨_, getsr_evFlag h, ?_, ?_, nibNext_nibSeq (loops_putS ..), nibNext_only⟩
    · have hd' : d.val ≠ 0 := fun h0 => hd (Fin.ext h0)
      rw [sr_nibNext, sr_putS_same _ _ _ hd', nibSpecial_evFlag hev, Nat.mod_eq_of_lt (by omega)]
    · rw [nib_nibNext]
      exact ev_putS ..

end Sys2Proof.Machine
end

section
namespace Sys2Proof.Machine
open Sys2Proof

variable {s t : State} {q x : Nat} {n : Nib} {i : NibInstr}

/-! ### Lanes (R275) -/

theorem nth_lanes {f : Nat → Nat} {i : Nat} (h : i < 64) : nth 0 (lanes f) i = f i := by
  have hlen : i < (lanes f).length := by simpa [lanes, tabulate] using h
  rw [nth_eq_getElem hlen]
  simp [lanes, tabulate]

theorem nth_map {g : Nat → Nat} {l : List Nat} {i : Nat} (h : i < l.length) : nth 0 (l.map g) i = g (nth 0 l i) := by
  rw [nth_eq_getElem (by rwa [List.length_map]), nth_eq_getElem h, List.getElem_map]

theorem nth_replicate {v k i : Nat} (h : i < k) : nth 0 (List.replicate k v) i = v := by
  rw [nth_eq_getElem (by rwa [List.length_replicate]), List.getElem_replicate]

theorem length_lanes (f : Nat → Nat) : (lanes f).length = 64 := by
  simp [lanes, tabulate]

theorem lanes_congr {f g : Nat → Nat} (h : ∀ i < 64, f i = g i) : lanes f = lanes g :=
  List.map_congr_left fun i hi => h i (List.mem_range.1 hi)

theorem maskOf_congr {f g : Nat → Bool} (h : ∀ i < 64, f i = g i) : maskOf f = maskOf g := by
  unfold maskOf
  refine List.foldl_ext _ _ _ fun m i hi => ?_
  rw [h i (List.mem_range.1 hi)]

theorem nth_maskMerge {m : Nat} {old new : List Nat} {i : Nat} (h : i < 64) :
    nth 0 (maskMerge m old new) i = if bitAt m i then nth 0 new i else nth 0 old i := nth_lanes h

theorem maskMerge_eq_lanes {m : Nat} {old v : List Nat} {f : Nat → Nat} (h : ∀ i < 64, nth 0 v i = f i) :
    maskMerge m old v = lanes (fun i => if bitAt m i then f i else nth 0 old i) :=
  lanes_congr fun i hi => by rw [h i hi]

/-- A scalar second operand is its low half in every lane. -/
theorem nth_vecB_scalar {b i : Nat} (h : i < 64) : nth 0 (vecB true b n) i = n.sr b % 2 ^ 16 := nth_replicate h

/-- The lanes of a vector operand and a scalar. -/
theorem lanes_vecB_scalar (f : Nat → Nat → Nat) (v : List Nat) (b : Nat) :
    lanes (fun i => f (nth 0 v i) (nth 0 (vecB true b n) i)) = lanes (fun i => f (nth 0 v i) (n.sr b % 2 ^ 16)) :=
  lanes_congr fun i hi => by rw [nth_vecB_scalar hi]

/-! ### Multiply-accumulate (R280) -/

/-- The accumulator pair after VMAC, lane by lane. -/
def Nib.macVec (n : Nib) (k a b : Nat) (sub us sat : Bool) : List Nat :=
  lanes (fun i => macLane (nth 0 (n.acc k) i) (nth 0 (n.vr a) i) (nth 0 (n.vr b) i) sub us sat)

/-- The nib after VMAC: the low halves in the even register of the pair, the high halves in the odd one. -/
def Nib.putMac (n : Nib) (k m : Nat) (r : List Nat) (at_ : Nat) : Nib :=
  let n := n.putV (2 * k) (maskMerge (n.mr m) (n.vr (2 * k)) (r.map (· % 2 ^ 16))) at_
  n.putV (2 * k + 1) (maskMerge (n.mr m) (n.vr (2 * k + 1)) (r.map (· / 2 ^ 16))) at_

theorem length_macVec (n : Nib) (k a b : Nat) (sub us sat : Bool) : (n.macVec k a b sub us sat).length = 64 :=
  length_lanes _

theorem nth_putMac_low {k m i at_ : Nat} {r : List Nat} (hi : i < 64) (hr : r.length = 64) :
    nth 0 ((n.putMac k m r at_).vr (2 * k)) i =
      if bitAt (n.mr m) i then nth 0 r i % 2 ^ 16 else nth 0 (n.vr (2 * k)) i := by
  unfold Nib.putMac
  extract_lets w
  rw [vr_putV_ne w _ _ (by omega), vr_putV, nth_maskMerge hi, nth_map (by omega)]

theorem nth_putMac_high {k m i at_ : Nat} {r : List Nat} (hi : i < 64) (hr : r.length = 64) :
    nth 0 ((n.putMac k m r at_).vr (2 * k + 1)) i =
      if bitAt (n.mr m) i then nth 0 r i / 2 ^ 16 else nth 0 (n.vr (2 * k + 1)) i := by
  unfold Nib.putMac
  extract_lets w
  have hw : w.vr (2 * k + 1) = n.vr (2 * k + 1) := vr_putV_ne _ _ _ (by omega)
  rw [vr_putV, hw, nth_maskMerge hi, nth_map (by omega)]
  rfl

theorem Nib.keeps_putMac (n : Nib) (k m : Nat) (r : List Nat) (at_ : Nat) :
    n.keeps (n.putMac k m r at_) [] [2 * k, 2 * k + 1] [] := by
  refine ⟨fun _ _ _ => rfl, fun v _ hv => ?_, fun _ _ _ => rfl, rfl⟩
  simp only [List.mem_cons, List.not_mem_nil, or_false, not_or] at hv
  exact (vr_putV_ne _ _ _ (Ne.symm hv.2)).trans (vr_putV_ne _ _ _ (Ne.symm hv.1))

theorem vr_nibNext {c r : Nat} : ((s.nibNext q x n c t).nib q x).vr r = n.vr r := by
  rw [nib_nibNext]
  rfl

theorem vmac_runs {q : Fin 12} {x : Fin 17} {k : Fin 16} {a b : Fin 32} {m : Fin 8} {sub us sat : Bool}
    (h : s.nibAt q x (.vmac k a b m sub false us sat)) :
    ∃ c at_, exec (.vmac q x) s =
      .next (s.nibNext q x ((s.nib q x).putMac k m ((s.nib q x).macVec k a b sub us sat) at_) c s) := by
  exact ⟨_, _, congrArg _ (nibIssue_seq (n := (s.nib q x).putMac k m ((s.nib q x).macVec k a b sub us sat) _)
    h rfl rfl rfl)⟩

/-- Settles O27: each instruction writes one register and goes on in order (`nibIssue_putV`, `nibIssue_putM`,
`nibIssue_putS`), VMAC the two of an accumulator. A scalar operand stands in every lane (`nth_vecB_scalar`). -/
theorem vectorNibInstructionsWriteUnderTheirMask : Obligations.VectorNibInstructionsWriteUnderTheirMask := by
  refine ⟨?_, ?_, ?_, ?_, ?_, ?_, ?_, ?_, ?_, ?_, ?_, ?_, ?_, ?_, ?_, ?_, ?_⟩
  · intro s q x f d a b m h
    exact ⟨_, rfl, nibIssue_putV h rfl rfl rfl⟩
  · intro s q x f d a b m h
    exact ⟨_, rfl, nibIssue_putV h rfl rfl (congrArg _ (lanes_vecB_scalar ..))⟩
  · intro s q x d a m h
    exact ⟨_, rfl, nibIssue_putV h rfl rfl rfl⟩
  · intro s q x d a b m sh us sat tr h
    exact ⟨_, rfl, nibIssue_putV h rfl rfl rfl⟩
  · intro s q x d a b m sh us sat tr h
    exact ⟨_, rfl, nibIssue_putV h rfl rfl
      (congrArg _ (lanes_vecB_scalar (fun x y => narrow (laneProduct us x y) sh us sat tr) ..))⟩
  · intro s q x k a b m sub us sat h
    obtain ⟨c, at_, hexec⟩ := vmac_runs h
    have hr := length_macVec (s.nib q x) k a b sub us sat
    refine ⟨_, hexec, fun i hi hm => ?_, fun i hi hm => ?_, nibNext_nibSeq rfl,
      nibNext_keeps (Nib.keeps_putMac ..), nibNext_only⟩
    · have hi := List.mem_range.1 hi
      rw [vr_nibNext, vr_nibNext, nth_putMac_low hi hr, nth_putMac_high hi hr, if_pos hm, if_pos hm,
        Nat.mod_add_div', Nib.macVec, nth_lanes hi]
    · have hi := List.mem_range.1 hi
      rw [vr_nibNext, vr_nibNext, nth_putMac_low hi hr, nth_putMac_high hi hr, hm]
      exact ⟨rfl, rfl⟩
  · intro s q x d k m sh us sat tr h
    exact ⟨_, rfl, nibIssue_putV h rfl rfl rfl⟩
  · intro s q x c d a b m h
    exact ⟨_, rfl, nibIssue_putM h rfl rfl⟩
  · intro s q x c d a b m h
    rw [← maskOf_congr fun i hi => by rw [← nth_vecB_scalar hi]]
    exact ⟨_, rfl, nibIssue_putM h rfl rfl⟩
  · intro s q x d a b m h
    exact ⟨_, rfl, nibIssue_putV h rfl rfl rfl⟩
  · intro s q x f d a b h
    exact ⟨_, rfl, nibIssue_putM h rfl rfl⟩
  · intro s q x d a b h
    exact ⟨_, rfl, nibIssue_putM h rfl rfl⟩
  · intro s q x f d a h
    exact ⟨_, rfl, nibIssue_putS h rfl rfl rfl⟩
  · intro s q x f d a m h
    exact ⟨_, rfl, nibIssue_putS h rfl rfl rfl⟩
  · intro s q x up d a b m k h
    exact ⟨_, rfl, nibIssue_putV h rfl rfl rfl⟩
  · intro s q x d a m h
    exact ⟨_, rfl, nibIssue_putV h rfl rfl (maskMerge_eq_lanes fun i hi => nth_vecB_scalar hi)⟩
  · intro s q x d a b e h
    exact ⟨_, rfl, nibIssue_putS h rfl rfl rfl⟩

end Sys2Proof.Machine
end

section
namespace Sys2Proof.Machine
open Sys2Proof

variable {s t : State} {q x : Nat} {n : Nib} {i : NibInstr}

/-! ## Loads and stores (R260, R281, R289)

### Where an access falls -/

theorem nibPlace_local {a len : Nat} (h : a + len ≤ 0x40000) : nibPlace a len = .loc := if_pos h

theorem nibPlace_quill {a len : Nat} (hlo : 0x01000000 ≤ a) (hhi : a + len ≤ 0x013FF000) :
    nibPlace a len = .quill (a - 0x01000000) := by
  unfold nibPlace
  rw [if_neg (by omega), if_pos (by simp [hlo, hhi])]

theorem aligned_of_mod {a k : Nat} (h : a % k = 0) : ¬ (a % k != 0) = true := by simp [h]

/-! ### Local memory -/

theorem nibLd_local {len base off lat lo slow : Nat} {put : Nib → List Nat → Nat → Nib}
    (halign : (s.nib q x).ea base off % len = 0) (hin : (s.nib q x).ea base off + len ≤ 0x40000) :
    nibLd q x len base off lat lo slow put (s.nib q x) s = ⟨.seq, (s.nib q x).issueAt [keyS base] + 1,
      put (s.nib q x) (Memory.bytes (s.nib q x).mem ((s.nib q x).ea base off) len)
        ((s.nib q x).issueAt [keyS base] + lat), s⟩ := by
  have hload : s.nibLoad q x ((s.nib q x).ea base off) len len =
      .ok (Memory.bytes (s.nib q x).mem ((s.nib q x).ea base off) len, false, s) := by
    rw [State.nibLoad, if_neg (aligned_of_mod halign), nibPlace_local hin]
  unfold nibLd
  dsimp only
  rw [hload]
  rfl

theorem nibSt_local {len base off src : Nat} {bytes : Nib → List Nat} (hlen : (bytes n).length = len)
    (halign : n.ea base off % len = 0) (hin : n.ea base off + len ≤ 0x40000) :
    nibSt q x len base off src bytes n s = ⟨.seq, n.issueAt [keyS base, src] + 1,
      { n with mem := Memory.put n.mem (n.ea base off) (bytes n) }, s⟩ := by
  have hstore : s.nibStore q x n (n.ea base off) len (n.issueAt [keyS base, src]) (bytes n) =
      .ok ({ n with mem := Memory.put n.mem (n.ea base off) (bytes n) }, s) := by
    rw [State.nibStore, if_neg (aligned_of_mod halign), nibPlace_local (by rwa [hlen])]
  unfold nibSt
  dsimp only
  rw [hstore]

theorem length_padTo (d k : Nat) (v : List Nat) : (padTo d k v).length = k := by
  induction k generalizing v with
  | zero => rfl
  | succ k ih => cases v <;> simp [padTo, ih]

theorem length_vecBytes (v : List Nat) : (vecBytes v).length = 128 := by
  simp [vecBytes, List.length_flatMap, leBytes_length, length_padTo]

theorem length_clampBytes (v : List Nat) : (clampBytes v).length = 64 := by
  rw [clampBytes, List.length_map, length_padTo]

/-- A store to local memory changes the bytes it names and no other. -/
theorem nibIssue_stored {q : Fin 12} {x : Fin 17} {sel : NibInstr → Option (Nib → State → NibRes)}
    {len src : Nat} {a : Fin 32} {o : Fin 65536} {bytes : Nib → List Nat} {bs : List Nat}
    (h : s.nibAt q x i) (hsel : sel i = some (nibSt q x len a o src bytes)) (hbs : bytes (s.nib q x) = bs)
    (hlen : bs.length = len)
    (halign : (s.nib q x).ea a o % len = 0) (hin : (s.nib q x).ea a o + len ≤ 0x40000) :
    s.nibStored (s.nibIssue q x sel) q x ((s.nib q x).ea a o) bs ∧
      ∀ y, y < (s.nib q x).ea a o ∨ (s.nib q x).ea a o + len ≤ y →
        Memory.byte ((s.nibIssue q x sel).nib q x).mem y = Memory.byte (s.nib q x).mem y := by
  subst hbs
  rw [nibIssue_seq h hsel (nibSt_local hlen halign hin) rfl]
  refine ⟨⟨?_, nibNext_nibSeq rfl, ?_, nibNext_only⟩, fun y hy => ?_⟩ <;> rw [nib_nibNext]
  · exact Nib.keeps_at (Nib.keeps_refl ..) ..
  · exact Memory.byte_put_outside _ _ _ _ (by rwa [hlen])

/-! ### Quill memory (R290) -/

theorem nibSt_quill {len base off src : Nat} {bytes : Nib → List Nat} (hlen : (bytes n).length = len)
    (halign : n.ea base off % len = 0) (hlo : 0x01000000 ≤ n.ea base off) (hhi : n.ea base off + len ≤ 0x013FF000) :
    nibSt q x len base off src bytes n s = ⟨.seq, n.issueAt [keyS base, src] + 1,
      { n with store := some (n.issueAt [keyS base, src]) },
      s.qStore q x (n.ea base off - 0x01000000) (bytes n)⟩ := by
  have hstore : s.nibStore q x n (n.ea base off) len (n.issueAt [keyS base, src]) (bytes n) =
      .ok ({ n with store := some (n.issueAt [keyS base, src]) },
        s.qStore q x (n.ea base off - 0x01000000) (bytes n)) := by
    rw [State.nibStore, if_neg (aligned_of_mod halign), nibPlace_quill hlo (by rwa [hlen])]
  unfold nibSt
  dsimp only
  rw [hstore]

theorem quillMem_nibNext {c : Nat} : ((s.nibNext q x n c t).quillAt q).mem = (t.quillAt q).mem := by
  unfold State.nibNext State.setNib
  rw [quillAt_setQuill_same]

theorem quillMem_qStore {a : Nat} {bs : List Nat} :
    ((s.qStore q x a bs).quillAt q).mem = Memory.put (s.quillAt q).mem a bs := by
  unfold State.qStore
  rw [quillAt_setQuill_same]

/-- With no store of a nib on its way, quill memory reads as it stands. -/
theorem qRead_of_stores_nil {who : Option Nat} {a len : Nat} (h : (s.quillAt q).stores = []) :
    s.qRead q who a len = (Memory.bytes (s.quillAt q).mem a len, s) := by
  have hbyte (b : Nat) : s.qByte q who b = (Memory.byte (s.quillAt q).mem b, s) := by
    rw [State.qByte, h]
    rfl
  have hfold (l : List Nat) (bs : List Nat) : l.foldl (fun (acc : List Nat × State) i =>
      (acc.1 ++ [(acc.2.qByte q who (a + i)).1], (acc.2.qByte q who (a + i)).2)) (bs, s) =
        (bs ++ l.map fun i => Memory.byte (s.quillAt q).mem (a + i), s) := by
    induction l generalizing bs with
    | nil => simp
    | cons i l ih => simp [hbyte, ih]
  rw [Memory.bytes_eq_map]
  exact hfold ..

theorem nibLd_quill {len base off lat lo slow : Nat} {put : Nib → List Nat → Nat → Nib}
    (halign : n.ea base off % len = 0) (hlo : 0x01000000 ≤ n.ea base off) (hhi : n.ea base off + len ≤ 0x013FF000)
    (hstores : (s.quillAt q).stores = []) :
    nibLd q x len base off lat lo slow put n s = ⟨.seq, n.issueAt [keyS base] + slow,
      put n (Memory.bytes (s.quillAt q).mem (n.ea base off - 0x01000000) len)
        (n.issueAt [keyS base] + (s.latency lo 160).1), (s.latency lo 160).2⟩ := by
  have hload : s.nibLoad q x (n.ea base off) len len =
      .ok (Memory.bytes (s.quillAt q).mem (n.ea base off - 0x01000000) len, true, s) := by
    rw [State.nibLoad, if_neg (aligned_of_mod halign), nibPlace_quill hlo hhi]
    dsimp only
    rw [qRead_of_stores_nil hstores]
  unfold nibLd
  dsimp only
  rw [hload]
  rfl

section
variable {q : Fin 12} {x : Fin 17} {d a : Fin 32} {o : Fin 65536}

theorem sw_quill (h : s.nibAt q x (.sw d a o)) (halign : (s.nib q x).ea a o % 4 = 0)
    (hlo : 0x01000000 ≤ (s.nib q x).ea a o) (hhi : (s.nib q x).ea a o + 4 ≤ 0x013FF000) :
    ∃ at_ c, exec (.sw q x) s = .next (s.nibNext q x { s.nib q x with store := some at_ } c
      (s.qStore q x ((s.nib q x).ea a o - 0x01000000) (leBytes 4 ((s.nib q x).sr d)))) :=
  ⟨_, _, congrArg Host.Outcome.next (nibIssue_seq h rfl
    (nibSt_quill (bytes := fun n => leBytes 4 (n.sr d)) (leBytes_length ..) halign hlo hhi) rfl)⟩

theorem lw_quill (h : s.nibAt q x (.lw d a o)) (halign : (s.nib q x).ea a o % 4 = 0)
    (hlo : 0x01000000 ≤ (s.nib q x).ea a o) (hhi : (s.nib q x).ea a o + 4 ≤ 0x013FF000)
    (hstores : (s.quillAt q).stores = []) :
    ∃ at_ c, exec (.lw q x) s = .next (s.nibNext q x ((s.nib q x).putS d
      (ofLeBytes (Memory.bytes (s.quillAt q).mem ((s.nib q x).ea a o - 0x01000000) 4)) at_) c
      { s with freeCount := s.freeCount + 1 }) :=
  ⟨_, _, congrArg Host.Outcome.next (nibIssue_seq h rfl
    (nibLd_quill (put := fun n bs at_ => n.putS d (ofLeBytes bs) at_) halign hlo hhi hstores) (loops_putS ..))⟩

end

/-! ### Gathers (R275) -/

theorem masked_lt {mask : Nat} {v : List Nat} {e : Nat × Nat} (h : e ∈ masked mask v) :
    e.1 < 64 ∧ e.2 = nth 0 v e.1 := by
  obtain ⟨i, hi, rfl⟩ := List.mem_map.1 h
  exact ⟨List.mem_range.1 (List.mem_of_mem_filter hi), rfl⟩

/-- A gather whose lanes all address aligned halfwords of local memory does not fault. -/
theorem gatherFault_eq_none {mask base : Nat} {v : List Nat} (halign : base % 2 = 0)
    (hin : base + 2 * 65536 ≤ 0x40000) (hidx : ∀ i ∈ List.range 64, nth 0 v i < 65536) :
    gatherFault mask base v = none := by
  have hnone : ((masked mask v).map (fun e => (base + 2 * e.2) % 2 ^ 32)).find?
      (fun a => decide (0x40000 < a + 2)) = none := by
    rw [List.find?_eq_none]
    intro a ha
    obtain ⟨e, he, rfl⟩ := List.mem_map.1 ha
    obtain ⟨hlt, heq⟩ := masked_lt he
    have hb := hidx e.1 (List.mem_range.2 hlt)
    rw [decide_eq_true_eq]
    omega
  unfold gatherFault
  dsimp only
  split
  · rfl
  · next heq =>
    rw [if_neg (by omega), hnone]
    rfl

/-- The halfwords that a gather reads, lane by lane. -/
def Nib.gathered (n : Nib) (a b : Nat) : List Nat :=
  lanes (fun i => ofLeBytes (Memory.bytes n.mem ((n.sr b + 2 * nth 0 (n.vr a) i) % 2 ^ 32) 2))

theorem nth_gathered {a b i : Nat} (hi : i < 64) (h : n.sr b + 2 * nth 0 (n.vr a) i < 2 ^ 32) :
    nth 0 (n.gathered a b) i = ofLeBytes (Memory.bytes n.mem (n.sr b + 2 * nth 0 (n.vr a) i) 2) := by
  rw [Nib.gathered, nth_lanes hi, Nat.mod_eq_of_lt h]

theorem vgath_runs {q : Fin 12} {x : Fin 17} {d a b : Fin 32} {m : Fin 8} (h : s.nibAt q x (.vgath d a b m))
    (halign : (s.nib q x).sr b % 2 = 0) (hin : (s.nib q x).sr b + 2 * 65536 ≤ 0x40000)
    (hidx : ∀ i ∈ List.range 64, nth 0 ((s.nib q x).vr a) i < 65536) :
    ∃ u, exec (.vgath q x) s = .next u ∧ s.nibVector u q x d (lanes (fun i =>
      if bitAt ((s.nib q x).mr m) i then
        ofLeBytes (Memory.bytes (s.nib q x).mem ((s.nib q x).sr b + 2 * nth 0 ((s.nib q x).vr a) i) 2)
      else nth 0 ((s.nib q x).vr d) i)) := by
  have hlanes (i : Nat) (hi : i < 64) := nth_gathered (n := s.nib q x) (a := a) (b := b) hi
    (by have hb := hidx i (List.mem_range.2 hi); omega)
  refine ⟨_, rfl, nibIssue_putV (c := (s.nib q x).issueAt [keyM m, keyV a, keyV d, keyS b] + 16)
    (at_ := (s.nib q x).issueAt [keyM m, keyV a, keyV d, keyS b] + 20) h rfl ?_ (maskMerge_eq_lanes hlanes)⟩
  dsimp only
  rw [gatherFault_eq_none halign hin hidx]
  rfl

/-- Settles O28: a load of local memory writes one register, a store the bytes it names (`nibIssue_stored`); quill
memory is read through the stores on their way (`qRead_of_stores_nil`). -/
theorem nibLoadsAndStoresMoveAlignedBytes : Obligations.NibLoadsAndStoresMoveAlignedBytes := by
  refine ⟨?_, ?_, ?_, ?_, ?_, ?_, ?_, ?_, ?_, ?_, ?_⟩
  · intro s q x d a o h halign hin
    exact ⟨_, rfl, nibIssue_putS h rfl (nibLd_local halign hin) rfl⟩
  · intro s q x d a o h halign hin
    exact ⟨_, rfl, nibIssue_putS h rfl (nibLd_local halign hin) rfl⟩
  · intro s q x d a o h halign hin
    exact ⟨_, rfl, nibIssue_putV h rfl (nibLd_local halign hin) rfl⟩
  · intro s q x d a o h halign hin
    exact ⟨_, rfl, nibIssue_putM h rfl (nibLd_local halign hin)⟩
  · intro s q x d a o h halign hin
    exact ⟨_, rfl, nibIssue_stored h rfl rfl (leBytes_length ..) halign hin⟩
  · intro s q x d a o h halign hin
    exact ⟨_, rfl, nibIssue_stored h rfl rfl (leBytes_length ..) halign hin⟩
  · intro s q x d a o h halign hin
    exact ⟨_, rfl, nibIssue_stored h rfl rfl (length_vecBytes _) halign hin⟩
  · intro s q x d a o h halign hin
    exact ⟨_, rfl, nibIssue_stored h rfl rfl (length_clampBytes _) halign hin⟩
  · intro s q x d a o h halign hlo hhi
    obtain ⟨at_, c, hexec⟩ := sw_quill h halign hlo hhi
    refine ⟨_, hexec, nibNext_nibSeq rfl, ?_, quillMem_nibNext.trans quillMem_qStore, rfl⟩
    rw [nib_nibNext]
  · intro s q x d a o h hd halign hlo hhi hstores
    obtain ⟨at_, c, hexec⟩ := lw_quill h halign hlo hhi hstores
    have hd' : d.val ≠ 0 := fun h0 => hd (Fin.ext h0)
    refine ⟨_, hexec, nibNext_nibSeq (loops_putS ..), ?_, rfl⟩
    rw [sr_nibNext, sr_putS_same _ _ _ hd']
  · intro s q x d a b m h halign hin hidx
    exact vgath_runs h halign hin hidx

end Sys2Proof.Machine
end

section
namespace Sys2Proof.Machine
open Sys2Proof

variable {s t : State} {q x : Nat} {n : Nib} {i : NibInstr}

/-! ## Control instructions (R287) -/

/-- The nib n in slot x of quill q goes on at a PC, in some loops, from cycle c. -/
def State.nibTo (s : State) (q x : Nat) (n : Nib) (pc : Nat) (loops : List LoopLevel) (c : Nat) : State :=
  s.setNib q x { n with pc := pc, loops := loops, cycle := c }

theorem nib_nibTo {pc c : Nat} {loops : List LoopLevel} :
    (s.nibTo q x n pc loops c).nib q x = { n with pc := pc, loops := loops, cycle := c } :=
  nib_setNib_same ..

theorem nibTo_only {pc c : Nat} {loops : List LoopLevel} : s.nibOnly (s.nibTo q x n pc loops c) q x := by
  rw [State.nibOnly, nib_nibTo]
  rfl

theorem nibTo_keeps {pc c : Nat} {loops : List LoopLevel} {ds dv dm : List Nat} (h : (s.nib q x).keeps n ds dv dm) :
    (s.nib q x).keeps ((s.nibTo q x n pc loops c).nib q x) ds dv dm := by
  rw [nib_nibTo]
  exact Nib.keeps_at h ..

theorem pc_nibTo {pc c : Nat} {loops : List LoopLevel} : ((s.nibTo q x n pc loops c).nib q x).pc = pc := by
  rw [nib_nibTo]

theorem loops_nibTo {pc c : Nat} {loops : List LoopLevel} :
    ((s.nibTo q x n pc loops c).nib q x).loops = loops := by
  rw [nib_nibTo]

theorem sr_nibTo {pc c r : Nat} {loops : List LoopLevel} : ((s.nibTo q x n pc loops c).nib q x).sr r = n.sr r := by
  rw [nib_nibTo]
  rfl

/-- An instruction that goes on in order ends the loops whose last instruction it is. -/
theorem nibFinish_seq {pc p c : Nat} {ls : List LoopLevel} (hback : loopBack (pc + 4) n.loops = (p, ls))
    (hp : p < 16384) : s.nibFinish q x pc ⟨.seq, c, n, s⟩ = s.nibTo q x n p ls c := by
  unfold State.nibFinish
  dsimp only
  rw [hback, if_neg (by omega)]
  rfl

/-- An instruction outside the control group runs where a loop ends too. -/
theorem nibIssue_of_endsNoBody {sel : NibInstr → Option (Nib → State → NibRes)} {act}
    (hrun : (s.nib q x).run.isSome = true) (hbudget : s.overBudget q x = false)
    (hword : decodeNib (s.nibWord q x) = some i) (hgroup : endsNoBody i = false) (hsel : sel i = some act) :
    s.nibIssue q x sel = s.nibFinish q x (s.nib q x).pc (act (s.nib q x) s) := by
  unfold State.nibIssue
  dsimp only
  rw [if_neg (by rw [hbudget]; simp [Option.isSome_iff_ne_none.1 hrun]), hword]
  dsimp only
  rw [hsel]
  dsimp only
  rw [hgroup, Bool.false_and, if_neg Bool.false_ne_true]

theorem nibIssue_jump {sel : NibInstr → Option (Nib → State → NibRes)} {act} {a c : Nat} (h : s.nibAt q x i)
    (hsel : sel i = some act) (hact : act (s.nib q x) s = ⟨.jump a, c, n, s⟩) :
    s.nibIssue q x sel = s.nibTo q x n a (leaveLoops a n.loops) c := by
  rw [nibIssue_runs h hsel, hact]
  rfl

theorem nibJump_inside {a c : Nat} (h : a < 16384) : nibJump n s c a = ⟨.jump a, c + 3, n, s⟩ :=
  if_pos (by simp only [Bool.and_eq_true, decide_eq_true_eq]; omega)

/-- A branch goes to its target when its test holds, on to the next instruction otherwise. -/
theorem nibIssue_branch {sel : NibInstr → Option (Nib → State → NibRes)} {a off p tgt : Nat} {test : Int → Bool}
    (h : s.nibAt q x i) (hsel : sel i = some (nibBranch a off test))
    (hp : ((s.nib q x).pc : Int) + 4 * signed 21 off = p) (hlt : p < 16384)
    (htgt : (if test (signed 32 ((s.nib q x).sr a)) then p else (s.nib q x).pc + 4) = tgt) :
    ((s.nibIssue q x sel).nib q x).pc = tgt ∧ (s.nib q x).keeps ((s.nibIssue q x sel).nib q x) [] [] [] ∧
      s.nibOnly (s.nibIssue q x sel) q x := by
  subst htgt
  by_cases htest : test (signed 32 ((s.nib q x).sr a)) = true
  · have hact : nibBranch a off test (s.nib q x) s =
        ⟨.jump p, (s.nib q x).issueAt [keyS a] + 3, s.nib q x, s⟩ := by
      unfold nibBranch
      dsimp only
      rw [if_pos htest, hp, nibJump_inside hlt]
    rw [nibIssue_jump h hsel hact, if_pos htest]
    exact ⟨pc_nibTo, nibTo_keeps (Nib.keeps_refl ..), nibTo_only⟩
  · have hact : nibBranch a off test (s.nib q x) s =
        ⟨.seq, (s.nib q x).issueAt [keyS a] + 1, s.nib q x, s⟩ := if_neg htest
    rw [nibIssue_seq h hsel hact rfl, if_neg htest]
    exact ⟨(nibNext_nibSeq rfl).1, nibNext_keeps (Nib.keeps_refl ..), nibNext_only⟩

section
variable {q : Fin 12} {x : Fin 17} {a : Fin 32}

theorem jal_runs {o : Fin 2097152} {p : Nat} (h : s.nibAt q x (.jal a o))
    (hp : ((s.nib q x).pc : Int) + 4 * signed 21 o = p) (hlt : p < 16384) :
    ∃ at_ c ls, exec (.jal q x) s =
      .next (s.nibTo q x ((s.nib q x).putS a ((s.nib q x).pc + 4) at_) p ls c) := by
  refine ⟨(s.nib q x).cycle + 1, (s.nib q x).cycle + 3, _, congrArg Host.Outcome.next (nibIssue_jump h rfl ?_)⟩
  dsimp only
  rw [hp]
  exact nibJump_inside hlt

theorem jr_runs (h : s.nibAt q x (.jr a)) (halign : (s.nib q x).sr a % 4 = 0) (hlt : (s.nib q x).sr a < 16384) :
    ∃ c ls, exec (.jr q x) s = .next (s.nibTo q x (s.nib q x) ((s.nib q x).sr a) ls c) := by
  refine ⟨(s.nib q x).issueAt [keyS a] + 3, _, congrArg Host.Outcome.next (nibIssue_jump h rfl ?_)⟩
  dsimp only
  rw [if_neg (aligned_of_mod halign)]
  exact nibJump_inside hlt

/-- The innermost loop after LOOP at PC p: its body of k instructions runs `left` times. -/
def loopLevel (p k left : Nat) : LoopLevel := ⟨p + 4, p + 4 * k, left⟩

/-- The nib inside one loop more. -/
def Nib.enter (n : Nib) (l : LoopLevel) : Nib := { n with loops := l :: n.loops }

theorem loop_opens {k : Fin 4095} (h : s.nibAt q x (.loop a k)) (hcount : (s.nib q x).sr a ≠ 0)
    (hdepth : (s.nib q x).loops.length < 4) :
    ∃ c, exec (.loop q x) s = .next (s.nibTo q x (s.nib q x) ((s.nib q x).pc + 4)
      (loopLevel (s.nib q x).pc (k.val + 1) ((s.nib q x).sr a) :: (s.nib q x).loops) c) := by
  obtain ⟨-, -, -, hloops, hpc⟩ := id h
  have hlast : (loopLevel (s.nib q x).pc (k.val + 1) ((s.nib q x).sr a)).last ≠ (s.nib q x).pc := by simp [loopLevel]
  have hback := loopBack_next (List.forall_mem_cons.2 ⟨hlast, hloops⟩)
  refine ⟨(s.nib q x).issueAt [keyS a] + 1, congrArg Host.Outcome.next ((nibIssue_runs h rfl).trans
    (Eq.trans ?_ (nibFinish_seq (n := (s.nib q x).enter (loopLevel (s.nib q x).pc (k.val + 1) _)) hback hpc)))⟩
  dsimp only
  rw [if_neg hcount, if_neg (by omega)]
  rfl

theorem loop_skips {k : Fin 4095} (h : s.nibAt q x (.loop a k)) (hcount : (s.nib q x).sr a = 0)
    (hloops : (s.nib q x).loops = []) (hend : (s.nib q x).pc + 4 + 4 * (k.val + 1) < 16384) :
    ∃ c ls, exec (.loop q x) s =
      .next (s.nibTo q x (s.nib q x) ((s.nib q x).pc + 4 + 4 * (k.val + 1)) ls c) := by
  refine ⟨(s.nib q x).issueAt [keyS a] + 1, _, congrArg Host.Outcome.next
    (nibIssue_jump (n := { s.nib q x with loops := [] }) h rfl ?_)⟩
  dsimp only
  rw [if_pos hcount, hloops]
  exact if_neg (by rw [loopBack]; omega)

/-- The last instruction of a body of which passes are left: the next pass begins. -/
theorem nibFinish_again {d a : Nat} {f : Nat → Nat} {l : LoopLevel} {ls : List LoopLevel}
    (hloops : (s.nib q x).loops = l :: ls) (hlast : l.last = (s.nib q x).pc) (hleft : 1 < l.left)
    (hfirst : l.first < 16384) :
    ∃ n c, s.nibFinish q x (s.nib q x).pc (nibS1 d a f (s.nib q x) s) =
      s.nibTo q x n l.first ({ l with left := l.left - 1 } :: ls) c := by
  refine ⟨_, _, nibFinish_seq ?_ hfirst⟩
  rw [loops_putS, hloops, loopBack, if_pos (by omega), if_pos hleft]

end

/-- Settles O29: a branch by its test (`nibIssue_branch`), a jump where its target lies in the code memory
(`nibJump_inside`), a loop by its count, and the last instruction of a body by `nibFinish_seq`. -/
theorem nibBranchesAndLoopsSetThePc : Obligations.NibBranchesAndLoopsSetThePc := by
  refine ⟨?_, ?_, ?_, ?_, ?_, ?_, ?_, ?_, ?_⟩
  · intro s q x a o p h _ hp hlt
    exact ⟨_, rfl, nibIssue_branch h rfl hp hlt (by simp only [beq_iff_eq])⟩
  · intro s q x a o p h _ hp hlt
    exact ⟨_, rfl, nibIssue_branch h rfl hp hlt (by simp only [bne_iff_ne, ite_not])⟩
  · intro s q x a o p h _ hp hlt
    exact ⟨_, rfl, nibIssue_branch h rfl hp hlt (by simp only [decide_eq_true_eq])⟩
  · intro s q x a o p h _ hp hlt
    exact ⟨_, rfl, nibIssue_branch h rfl hp hlt (by simp only [decide_eq_true_eq, ← Int.not_lt, ite_not])⟩
  · intro s q x a o p h hp hlt
    obtain ⟨at_, c, ls, hexec⟩ := jal_runs h hp hlt
    obtain ⟨-, -, -, -, hpc⟩ := h
    refine ⟨_, hexec, pc_nibTo, ?_, nibTo_keeps (Nib.keeps_putS ..), nibTo_only⟩
    rw [sr_nibTo, sr_putS, Nat.mod_eq_of_lt (by omega)]
    simp only [Fin.ext_iff, Fin.val_zero]
  · intro s q x a h halign hlt
    obtain ⟨c, ls, hexec⟩ := jr_runs h halign hlt
    exact ⟨_, hexec, pc_nibTo, nibTo_keeps (Nib.keeps_refl ..), nibTo_only⟩
  · intro s q x a k h hcount hdepth
    obtain ⟨c, hexec⟩ := loop_opens h hcount hdepth
    exact ⟨_, hexec, pc_nibTo, loops_nibTo, nibTo_keeps (Nib.keeps_refl ..), nibTo_only⟩
  · intro s q x a k h hcount hloops hend
    obtain ⟨c, ls, hexec⟩ := loop_skips h hcount hloops hend
    exact ⟨_, hexec, pc_nibTo, nibTo_keeps (Nib.keeps_refl ..), nibTo_only⟩
  · intro s q x d a imm l ls hrun hbudget hword hloops hlast hleft hfirst
    obtain ⟨n, c, hfinish⟩ := nibFinish_again (d := d) (a := a) (f := fun v => (v + sext32 16 imm) % 2 ^ 32)
      hloops hlast hleft hfirst
    exact ⟨_, congrArg Host.Outcome.next ((nibIssue_of_endsNoBody hrun hbudget hword rfl rfl).trans hfinish),
      pc_nibTo, loops_nibTo⟩

end Sys2Proof.Machine
end

section
namespace Sys2Proof.Machine
open Sys2Proof

variable {s t u : State} {q x j : Nat} {n : Nib}

/-! ## The quills' jobs (R264 to R271, R292 to R300)

### What the state of a quill holds -/

theorem nib_setNib_ne {y : Nat} (s : State) (n : Nib) (h : x ≠ y) : (s.setNib q x n).nib q y = s.nib q y := by
  unfold State.setNib State.nib
  rw [quillAt_setQuill_same]
  exact spGet_spSet_ne _ _ _ h

theorem job_of_quill (h : t.quill = s.quill) (q j : Nat) : t.job q j = s.job q j := by
  rw [State.job, quillAt_of_quill h, State.job]

theorem job_setNib (s : State) (q x : Nat) (n : Nib) (j : Nat) : (s.setNib q x n).job q j = s.job q j := by
  unfold State.setNib State.job
  rw [quillAt_setQuill_same]

theorem job_setJob_same (s : State) (q j : Nat) (y : Job) : (s.setJob q j y).job q j = y := by
  unfold State.setJob State.job
  rw [quillAt_setQuill_same]
  exact spGet_spSet_same ..

theorem hand_setNib (s : State) (q x : Nat) (n : Nib) : ((s.setNib q x n).quillAt q).hand = (s.quillAt q).hand := by
  unfold State.setNib
  rw [quillAt_setQuill_same]

@[simp] theorem rd_setJob (s : State) (q j : Nat) (y : Job) (f : Fld) : (s.setJob q j y).rd f = s.rd f := rd_congr rfl f

/-- What each step keeps, a fold over a list keeps. -/
theorem foldl_eq_of_step {α β : Type} {l : List α} {step : State → α → State} (p : State → β)
    (h : ∀ t a, a ∈ l → p (step t a) = p t) : p (l.foldl step s) = p s :=
  List.foldlRecOn (motive := fun t => p t = p s) l step rfl fun t ht a ha => (h t a ha).trans ht

/-! ### Slots and jobs -/

theorem slotFor_lt {l : Nat} (h : s.slotFor q l = some x) : x < 17 := by
  unfold State.slotFor firstIdx at h
  exact List.mem_range.1 (List.mem_of_find?_eq_some h)

theorem lt_of_mem_jobSlots (h : x ∈ s.jobSlots q j) : x < 17 := by
  obtain ⟨l, -, hl⟩ := List.mem_filterMap.1 h
  exact slotFor_lt hl

/-- Fields of two slots. -/
theorem Fld.slots_apart {y base lsb w base' lsb' w' : Nat} (hne : x ≠ y)
    (h : 0x400400 * 8 ≤ base * 8 + lsb ∧ base * 8 + lsb + w ≤ 0x400420 * 8 := by decide)
    (h' : 0x400400 * 8 ≤ base' * 8 + lsb' ∧ base' * 8 + lsb' + w' ≤ 0x400420 * 8 := by decide) :
    Fld.apart ⟨base + 0x40000 * q + 0x20 * x, lsb, w⟩ ⟨base' + 0x40000 * q + 0x20 * y, lsb', w'⟩ := by
  unfold Fld.apart
  dsimp only
  omega

/-- A field of a slot and one of the quill's first 256 bytes. -/
theorem Fld.slot_apart_quill {base lsb w base' lsb' w' : Nat}
    (h : 0x400400 * 8 ≤ base * 8 + lsb ∧ base * 8 + lsb + w ≤ 0x400420 * 8 := by decide)
    (h' : 0x400000 * 8 ≤ base' * 8 + lsb' ∧ base' * 8 + lsb' + w' ≤ 0x400100 * 8 := by decide) :
    Fld.apart ⟨base + 0x40000 * q + 0x20 * x, lsb, w⟩ ⟨base' + 0x40000 * q, lsb', w'⟩ := by
  unfold Fld.apart
  dsimp only
  omega

/-- Two fields of one job. -/
theorem Fld.apart_job {base lsb w base' lsb' w' : Nat}
    (h : base * 8 + lsb + w ≤ base' * 8 + lsb' ∨ base' * 8 + lsb' + w' ≤ base * 8 + lsb := by decide) :
    Fld.apart ⟨base + 0x40000 * q + 0x80 * j, lsb, w⟩ ⟨base' + 0x40000 * q + 0x80 * j, lsb', w'⟩ := by
  unfold Fld.apart
  dsimp only
  omega

theorem slotState_setSlotState_same {v : Nat} (hv : v < 8) : (s.setSlotState q x v).slotState q x = v :=
  (rd_wr_same s (QUILL_SLOT_STATUS_STATE q x) v (by simp [QUILL_SLOT_STATUS_STATE])).trans (Nat.mod_eq_of_lt hv)

/-! ### INIT runs (R266, R294) -/

/-- The nib at the begin of an INIT run. -/
def State.initNib (s : State) (q x j : Nat) (again : Bool) : Nib :=
  { s.nib q x with
    run := some (.init again), job := j, pc := s.rd (QUILL_JOB_INIT_PC q j), loops := []
    line := if s.jobCoarse q j then (match s.stitch.started with
        | some l => l / 4
        | none => -1)
      else s.stitch.started.getD (-1)
    pos := (s.free 64).1, cycle := 0, ready := [], store := none, evRead := none }

theorem startInit_eq (s : State) (q x j : Nat) (again : Bool) : s.startInit q x j again =
    ((s.free 64).2.setNib q x (s.initNib q x j again)).setSlotState q x slotRunning := rfl

theorem nib_startInit (s : State) (q x j : Nat) (again : Bool) :
    (s.startInit q x j again).nib q x = s.initNib q x j again :=
  (nib_of_quill (wr_quill ..) q x).trans (nib_setNib_same ..)

theorem rd_startInit {again : Bool} {f : Fld} (h : (QUILL_SLOT_STATUS_STATE q x).apart f) :
    (s.startInit q x j again).rd f = s.rd f :=
  (rd_wr_apart _ _ _ _ h).trans ((rd_setNib ..).trans (rd_congr rfl f))

theorem slotState_startInit (s : State) (q x j : Nat) (again : Bool) :
    (s.startInit q x j again).slotState q x = slotRunning := slotState_setSlotState_same (by decide)

theorem job_startInit (s : State) (q x j k : Nat) (again : Bool) :
    (s.startInit q x j again).job q k = s.job q k :=
  (job_of_quill (wr_quill ..) q k).trans (job_setNib ..)

theorem hand_startInit (s : State) (q x j : Nat) (again : Bool) :
    ((s.startInit q x j again).quillAt q).hand = (s.quillAt q).hand :=
  (congrArg Quill.hand (quillAt_of_quill (wr_quill ..) q)).trans (hand_setNib ..)

theorem startInit_frame (s : State) (q x j : Nat) (again : Bool) : s.startInit q x j again =
    { s with regs := (s.startInit q x j again).regs, quill := (s.startInit q x j again).quill
             freeCount := (s.startInit q x j again).freeCount } := by
  rw [startInit_eq, State.setSlotState, wr_frame]
  rfl

/-! ### Enabling a job (R264, R266) -/

theorem rd_updPitch {f : Fld} (h : ∀ w < 4, (QUILL_JOB_WIN_PITCH q j w).apart f) :
    (s.updPitch q j).rd f = s.rd f :=
  foldl_eq_of_step (·.rd f) fun _ w hw => rd_wr_apart _ _ _ _ (h w (List.mem_range.1 hw))

theorem pitch_apart_ctrl {w lsb k : Nat} (h : lsb + k ≤ 32 := by decide) :
    (QUILL_JOB_WIN_PITCH q j w).apart ⟨0x400100 + 0x40000 * q + 0x80 * j, lsb, k⟩ := by
  simp only [Fld.apart, QUILL_JOB_WIN_PITCH]
  omega

theorem updPitch_inRegs (s : State) (q j : Nat) : s.InRegs (s.updPitch q j) :=
  (State.InRegs.refl s).foldl fun _ _ h => h.wr

/-- The nib in slot x begins its job with an INIT run, unless it has failed. -/
def State.enableSlot (q j : Nat) (s : State) (x : Nat) : State :=
  let n := s.nib q x
  let s := s.setNib q x { n with
    behalf := s.slotState q x == slotFailed, lost := none, next := none, retired := none
    prev := none, skipped := 0, restart := true, resume := false, fill := [] }
  let s := s.wr (QUILL_SLOT_STATUS_JOB q x) j
  if s.slotState q x = slotFailed then s else s.startInit q x j false

/-- A job has passed its checks and waits for its INIT runs. -/
def State.enabledJob (s : State) (q j : Nat) : State :=
  ((((s.updPitch q j).set1 (QUILL_JOB_CTRL_EN q j)).set1 (QUILL_JOB_CTRL_RUNNING q j)).wr
    (QUILL_JOB_RETIRED q j) (2 ^ 64 - 1)).setJob q j { init := true }

theorem jobEnable_starts (hoff : s.jobOn q j = false) (hcheck : (s.updPitch q j).jobCheck q j = none) :
    s.jobEnable q j = ((s.enabledJob q j).jobSlots q j).foldl (State.enableSlot q j) (s.enabledJob q j) := by
  unfold State.jobEnable
  rw [hoff, if_neg Bool.false_ne_true]
  dsimp only
  rw [hcheck]
  rfl

theorem jobEnable_fails {c : Nat} (hoff : s.jobOn q j = false) (hcheck : (s.updPitch q j).jobCheck q j = some c) :
    s.jobEnable q j = (((s.updPitch q j).set1 (QUILL_JOB_CTRL_CONFIG_ERR q j)).wr (QUILL_JOB_CTRL_CHECK q j) c).fault
      (srcQuill q) 0x4001 (slot1 q ++ slot1 j ++ slot1 c) := by
  unfold State.jobEnable
  rw [hoff, if_neg Bool.false_ne_true]
  dsimp only
  rw [hcheck]

theorem job_enableSlot (s : State) (q j x k : Nat) : (s.enableSlot q j x).job q k = s.job q k := by
  have hjob (m : Nib) : ((s.setNib q x m).wr (QUILL_SLOT_STATUS_JOB q x) j).job q k = s.job q k :=
    (job_of_quill (wr_quill ..) q k).trans (job_setNib ..)
  unfold State.enableSlot
  dsimp only
  split
  · exact hjob _
  · exact (job_startInit ..).trans (hjob _)

theorem rd_enableSlot {f : Fld} (hjob : (QUILL_SLOT_STATUS_JOB q x).apart f)
    (hstate : (QUILL_SLOT_STATUS_STATE q x).apart f) : (s.enableSlot q j x).rd f = s.rd f := by
  have hrd (m : Nib) : ((s.setNib q x m).wr (QUILL_SLOT_STATUS_JOB q x) j).rd f = s.rd f :=
    (rd_wr_apart _ _ _ _ hjob).trans (rd_setNib ..)
  unfold State.enableSlot
  dsimp only
  split
  · exact hrd _
  · exact (rd_startInit hstate).trans (hrd _)

theorem rd_enabledJob_en (s : State) (q j : Nat) : (s.enabledJob q j).rd (QUILL_JOB_CTRL_EN q j) = 1 :=
  calc
    _ = _ := rd_setJob ..
    _ = _ := rd_wr_apart _ _ _ _ Fld.apart_job
    _ = _ := rd_wr_apart _ _ _ _ Fld.apart_job
    _ = 1 := rd_wr_flag _ _ 0 true

theorem rd_enabledJob_running (s : State) (q j : Nat) : (s.enabledJob q j).rd (QUILL_JOB_CTRL_RUNNING q j) = 1 :=
  calc
    _ = _ := rd_setJob ..
    _ = _ := rd_wr_apart _ _ _ _ Fld.apart_job
    _ = 1 := rd_wr_flag _ _ 5 true

/-- The INIT runs leave CTRL of the job alone. -/
theorem rd_enableSlots_ctrl {lsb w : Nat} (hj : j < 4) (h : lsb + w ≤ 32 := by decide) :
    (((s.enabledJob q j).jobSlots q j).foldl (State.enableSlot q j) (s.enabledJob q j)).rd
      ⟨0x400100 + 0x40000 * q + 0x80 * j, lsb, w⟩ =
        (s.enabledJob q j).rd ⟨0x400100 + 0x40000 * q + 0x80 * j, lsb, w⟩ :=
  foldl_eq_of_step (·.rd _) fun _ _ hx =>
    rd_enableSlot (Fld.slot_apart_ctrl hj (h' := h) (hx := lt_of_mem_jobSlots hx))
      (Fld.slot_apart_ctrl hj (h' := h) (hx := lt_of_mem_jobSlots hx))

theorem jobEnable_enabled (hj : j < 4) (hoff : s.jobOn q j = false)
    (hcheck : (s.updPitch q j).jobCheck q j = none) :
    (s.jobEnable q j).jobOn q j = true ∧ (s.jobEnable q j).rd (QUILL_JOB_CTRL_RUNNING q j) = 1 ∧
      ((s.jobEnable q j).job q j).init = true ∧ ((s.jobEnable q j).job q j).l0 = none := by
  rw [jobEnable_starts hoff hcheck]
  have hjob : (((s.enabledJob q j).jobSlots q j).foldl (State.enableSlot q j) (s.enabledJob q j)).job q j =
      { init := true } :=
    (foldl_eq_of_step (·.job q j) fun t x _ => job_enableSlot t q j x j).trans (job_setJob_same ..)
  refine ⟨?_, (rd_enableSlots_ctrl hj).trans (rd_enabledJob_running ..), by rw [hjob], by rw [hjob]⟩
  exact congrArg (· != 0) ((rd_enableSlots_ctrl hj).trans (rd_enabledJob_en s q j))

theorem jobEnable_refused {c : Nat} (hoff : s.jobOn q j = false)
    (hcheck : (s.updPitch q j).jobCheck q j = some c) (hc : c < 16) :
    (s.jobEnable q j).jobOn q j = false ∧ (s.jobEnable q j).rd (QUILL_JOB_CTRL_CONFIG_ERR q j) = 1 ∧
      (s.jobEnable q j).rd (QUILL_JOB_CTRL_CHECK q j) = c ∧ s.InLog (s.jobEnable q j) := by
  have hlow {lsb w : Nat} : ∀ g ∈ faultFlds, g.apart ⟨0x400100 + 0x40000 * q + 0x80 * j, lsb, w⟩ :=
    faultFlds_apart (by dsimp only; omega)
  rw [jobEnable_fails hoff hcheck]
  refine ⟨?_, ?_, ?_, ?_⟩
  · refine (on_of_rd ?_).trans hoff
    calc
      _ = _ := rd_fault _ _ _ _ _ hlow
      _ = _ := rd_wr_apart _ _ _ _ Fld.apart_job
      _ = _ := rd_wr_apart _ _ _ _ Fld.apart_job
      _ = _ := rd_updPitch fun _ _ => pitch_apart_ctrl
  · calc
      _ = _ := rd_fault _ _ _ _ _ hlow
      _ = _ := rd_wr_apart _ _ _ _ Fld.apart_job
      _ = 1 := rd_wr_flag _ _ 6 true
  · calc
      _ = _ := rd_fault _ _ _ _ _ hlow
      _ = c % 2 ^ 8 := rd_wr_same _ (QUILL_JOB_CTRL_CHECK q j) c (by simp [QUILL_JOB_CTRL_CHECK])
      _ = c := Nat.mod_eq_of_lt (by omega)
  · have hpitch : s.InLog (s.updPitch q j) := by
      rw [(updPitch_inRegs s q j).eq]
      rfl
    exact hpitch.set1.wr.fault

/-! ### The end of the INIT runs (R266) -/

theorem initRunDone_done {q : Fin 12} {j : Fin 4} (hon : s.jobOn q j = true) (hinit : (s.job q j).init = true)
    (hidle : ∀ t ∈ s.jobSlots q j, (s.nib q t).run = none) :
    exec (.initRunDone q j) s = .next (s.setJob q j { s.job q j with
      init := false, waitStart := !s.jobQueue q j }) := by
  refine if_neg ?_
  rw [hon, hinit]
  simp only [Bool.not_true, Bool.false_or, List.any_eq_true, not_exists, not_and]
  intro y hy
  rw [hidle y hy]
  exact Bool.false_ne_true

/-! ### Stripe windows (R268 to R270) -/

/-- The nib after row f of a window has entered its ring. -/
def State.filledNib (s : State) (q x j l w : Nat) (f : Int) : Nib :=
  { s.nib q x with
    mem := Memory.put (s.nib q x).mem (s.winBase q j w + (f % (s.winRows q j w : Int)).toNat * s.pitchOf q j w)
      (s.rowBytes (s.winSrc q j w) (s.rowCols q j) (s.stripeBase q j l) f)
    fill := spSet (fun _ => 0) (s.nib q x).fill w (f + 1) }

theorem fillWindow_room {l w k : Nat} {cur f : Int} {free : Bool} (hnew : s.newestRow (s.winSrc q j w) = some f)
    (hfill : spGet (fun _ => 0) (s.nib q x).fill w = f)
    (hroom : f - s.winRows q j w < winIndex (s.winSrc q j w) cur - s.winHist q j w) :
    s.fillWindow q x j l w cur free (k + 1) =
      (s.setNib q x (s.filledNib q x j l w f)).fillWindow q x j l w cur free k := by
  rw [State.fillWindow]
  dsimp only
  rw [hnew]
  dsimp only
  rw [hfill, if_pos (by simp [hroom])]
  rfl

/-- A window that holds every row formed takes none. -/
theorem fillWindow_full {l w k : Nat} {cur f : Int} {free : Bool} (hnew : s.newestRow (s.winSrc q j w) = some f)
    (hfill : f < spGet (fun _ => 0) (s.nib q x).fill w) : s.fillWindow q x j l w cur free k = s := by
  cases k with
  | zero => rfl
  | succ k =>
    rw [State.fillWindow]
    dsimp only
    rw [hnew]
    dsimp only
    rw [if_neg (by simp [hfill])]

/-- Windows that hold every row formed leave nothing in the fill buffer. -/
theorem bufferedLines_full {w : Nat} {f : Int} (hwins : s.winsOn q j = [w])
    (hnew : s.newestRow (s.winSrc q j w) = some f) (hfill : f < spGet (fun _ => 0) (s.nib q x).fill w) :
    s.bufferedLines q x j = 0 := by
  unfold State.bufferedLines
  rw [hwins, List.filter_singleton]
  cases s.winSrc q j w != 6 with
  | false => rfl
  | true =>
    rw [cond_true, List.foldl_cons, List.foldl_nil, hnew]
    dsimp only
    omega

theorem windowFill_fills {q : Fin 12} {k : Fin 17} {w : Nat} {cur f : Int} (hjob : s.jobOfSlot q k = some j)
    (hhand : (s.quillAt q).hand = none) (hcur : (s.nib q k).current = some cur)
    (hbehalf : (s.nib q k).behalf = false) (hresume : (s.nib q k).resume = false) (hqueue : s.jobQueue q j = false)
    (hl0 : (s.job q j).l0.isSome = true) (hwins : s.winsOn q j = [w])
    (hnew : s.newestRow (s.winSrc q j w) = some f) (hfill : spGet (fun _ => 0) (s.nib q k).fill w = f)
    (hroom : f - s.winRows q j w < winIndex (s.winSrc q j w) cur - s.winHist q j w) :
    exec (.windowFill q k) s = .next (s.setNib q k (s.filledNib q k j (s.roleOf q k) w f)) := by
  have hfillJob : s.fillJob q k = some (j, s.roleOf q k, k.val) := by
    unfold State.fillJob
    rw [hhand, hjob]
    rfl
  obtain ⟨l0, hl0⟩ := Option.isSome_iff_exists.1 hl0
  have hfilled : f < spGet (fun _ => 0)
      ((s.setNib q k (s.filledNib q k j (s.roleOf q k) w f)).nib q k).fill w := by
    rw [nib_setNib_same, State.filledNib, spGet_spSet_same]
    omega
  have hwindow : s.fillWindow q k j (s.roleOf q k) w cur false 4096 =
      s.setNib q k (s.filledNib q k j (s.roleOf q k) w f) :=
    (fillWindow_room (k := 4095) hnew hfill hroom).trans (fillWindow_full hnew hfilled)
  change execWindowFill q k s = _
  unfold execWindowFill
  rw [hfillJob]
  dsimp only
  rw [hcur, hl0]
  dsimp only
  rw [hbehalf, hresume, hqueue, if_neg (by decide), hhand, hwins, List.foldl_cons, List.foldl_nil, hwindow,
    bufferedLines_full (s := s.setNib q k _) hwins hnew hfilled]
  rfl

/-! ### Invocations (R267, R271) -/

/-- The nib at the begin of a run. -/
def State.runNib (s : State) (q x j : Nat) (run : NibRun) (line : Int) (pos : Nat) : Nib :=
  { s.nib q x with
    run := some run, job := j, pc := s.rd (QUILL_JOB_LINE_PC q j), loops := [], line := line, pos := pos
    cycle := 0, ready := [], store := none, evRead := none }

theorem startRun_eq {run : NibRun} {line : Int} {pos : Nat} : s.startRun q x j run line pos =
    ((s.setNib q x (s.runNib q x j run line pos)).wr (QUILL_SLOT_STATUS_JOB q x) j).setSlotState q x slotRunning :=
  rfl

theorem nib_startRun {run : NibRun} {line : Int} {pos : Nat} :
    (s.startRun q x j run line pos).nib q x = s.runNib q x j run line pos :=
  (nib_of_quill ((wr_quill ..).trans (wr_quill ..)) q x).trans (nib_setNib_same ..)

theorem slotState_startRun {run : NibRun} {line : Int} {pos : Nat} :
    (s.startRun q x j run line pos).slotState q x = slotRunning := slotState_setSlotState_same (by decide)

theorem keeps_startRun {run : NibRun} {line : Int} {pos : Nat} : s.keeps (s.startRun q x j run line pos)
    [QUILL_SLOT_STATUS_STATE q x, QUILL_SLOT_STATUS_JOB q x] :=
  State.keeps_wr (State.keeps_wr (State.keeps_setNib (State.keeps_refl s _)) _ _ (by simp)) _ _ (by simp)

theorem startRun_frame {run : NibRun} {line : Int} {pos : Nat} : s.startRun q x j run line pos =
    { s with regs := (s.startRun q x j run line pos).regs, quill := (s.startRun q x j run line pos).quill } := by
  rw [startRun_eq, State.setSlotState, wr_frame, wr_frame (QUILL_SLOT_STATUS_JOB q x)]
  rfl

theorem endLost_none (h : (s.nib q x).lost = none) : s.endLost q x = s := by
  unfold State.endLost
  dsimp only
  rw [h]

/-- The nib takes line l, having missed none. -/
def Nib.takes (n : Nib) (l : Int) : Nib :=
  { n with skipped := n.skipped + (l - n.next.getD l).toNat, retired := some (l - 1), next := some l }

/-- The output row of line l is cleared (R272). -/
def State.clearRow (s : State) (q x j : Nat) (l : Int) : State :=
  s.setNib q x { s.nib q x with
    mem := if s.on (QUILL_JOB_CTRL_OUT_EN q j) then
        spClear (s.nib q x).mem (s.rd (QUILL_JOB_OUT_BASE q j) + (l % 2).toNat * s.stripeW q j)
          (s.rd (QUILL_JOB_OUT_BASE q j) + (l % 2).toNat * s.stripeW q j + s.stripeW q j)
      else (s.nib q x).mem }

/-- The nib that has taken line l is invoked for it. -/
def State.invoke (s : State) (q x j : Nat) (l : Int) : State :=
  (s.clearRow q x j l).startRun q x j (.line l) l
    (toBits 64 ((if s.jobCoarse q j then 4 * (l + s.maxAhead q j) else l + s.maxAhead q j) * 65536))

theorem nibInvoke_runs {q : Fin 12} {x : Fin 17} {l : Int} (hjob : s.jobOfSlot q x = some j)
    (hline : s.nextInvoked q j (s.nib q x) = some l) (hhand : (s.quillAt q).hand = none)
    (hready : ∀ w ∈ s.winsOn q j, winIndex (s.winSrc q j w) l + s.winAhead q j w <
      spGet (fun _ => 0) (s.nib q x).fill w)
    (hqueue : s.jobQueue q j = false) (hl0 : (s.job q j).l0.isSome = true) (hrun : (s.nib q x).run = none)
    (hbehalf : (s.nib q x).behalf = false) (hresume : (s.nib q x).resume = false)
    (hidle : s.slotState q x = slotIdle) (hmode : s.mode ≠ 11) (hlost : (s.nib q x).lost = none) :
    exec (.nibInvoke q x) s = .next ((s.setNib q x ((s.nib q x).takes l)).invoke q x j l) := by
  have hall : (s.winsOn q j).all (fun w => decide (winIndex (s.winSrc q j w) l + s.winAhead q j w <
      spGet (fun _ => 0) (s.nib q x).fill w)) = true := List.all_eq_true.2 fun w hw => decide_eq_true (hready w hw)
  have hallowed : s.invokeAllowed q j l = true := by simp [State.invokeAllowed, hmode]
  have htaken : ((s.setNib q x ((s.nib q x).takes l)).nib q x).lost = none :=
    (congrArg Nib.lost (nib_setNib_same ..)).trans hlost
  change execNibInvoke q x s = _
  unfold execNibInvoke
  rw [hjob]
  dsimp only
  rw [hline]
  dsimp only
  refine (if_neg ?_).trans ?_
  · rw [hall, hqueue, hrun, hbehalf, hresume, hhand, hidle, hallowed, Option.isNone_eq_false_iff.2 hl0]
    simp
  · change Host.Outcome.next (((s.setNib q x ((s.nib q x).takes l)).endLost q x).invoke q x j l) = _
    rw [endLost_none htaken]

theorem invoke_setNib_frame {l : Int} : ∃ quill pos, (s.setNib q x n).invoke q x j l =
    ({ s with quill := quill } : State).startRun q x j (.line l) l pos :=
  ⟨((s.setNib q x n).clearRow q x j l).quill, _, rfl⟩

theorem queueInvoke_runs {q : Fin 12} (hdraft : (s.oldestDraft q).isSome = true) (hslot : s.slotFor q 0 = some x)
    (hjob : s.jobOfNib q 0 = some j) (hqueue : s.jobQueue q j = true) (hinit : (s.job q j).init = false)
    (hrun : (s.nib q x).run = none) (hidle : s.slotState q x = slotIdle) (hmode : s.mode ≠ 11) :
    ∃ line, exec (.queueInvoke q) s =
      .next ((s.free 64).2.startRun q x j .queue line (s.free 64).1) := by
  refine ⟨((s.stitch.fine.head?).map (·.line)).getD (-1), ?_⟩
  change execQueueInvoke q s = _
  unfold execQueueInvoke
  rw [Option.isNone_eq_false_iff.2 hdraft, if_neg Bool.false_ne_true, List.range_succ_eq_map, List.findSome?_cons,
    hslot, hjob]
  dsimp only
  rw [hqueue, hinit, hrun, hidle, if_pos (by simp [hmode])]

theorem freeCount_startRun {run : NibRun} {line : Int} {pos : Nat} :
    (s.startRun q x j run line pos).freeCount = s.freeCount := by
  rw [startRun_frame]

theorem nibRestart_starts {q : Fin 12} {x : Fin 17} (hstopped : s.slotState q x = slotStopped)
    (hjob : s.jobOfSlot q x = some j) : exec (.nibRestart q x) s = .next (s.startInit q x j true) := by
  change Host.Outcome.next (s.nibRestartReq q x) = _
  unfold State.nibRestartReq State.nibRestart
  rw [if_pos hstopped, hjob]

theorem keeps_startInit (s : State) (q x j : Nat) (again : Bool) :
    s.keeps (s.startInit q x j again) [QUILL_SLOT_STATUS_STATE q x] := fun _ hf => rd_startInit (hf _ (by simp))

end Sys2Proof.Machine
end

section
namespace Sys2Proof.Machine
open Sys2Proof

variable {s t u : State} {q x j : Nat} {n : Nib}

/-! ### Memory errors (R292, R295, R455) -/

/-- A corrected error of a nib's memory is recorded and counted. -/
def State.sramCorrected (s : State) (q x mem : Nat) : State :=
  (((s.set1 (QUILL_STATUS_SRAM_CORR q)).fault (srcQuill q) 0x4011
    (slot1 q ++ slot1 x ++ slot1 0 ++ slot1 mem)).set1 (QUILL_SLOT_STATUS_SRAM_CORR q x)).bump
    (QUILL_SLOT_CORR_COUNT q x)

theorem rd_sramCorrected_slot (s : State) (q x mem : Nat) :
    (s.sramCorrected q x mem).rd (QUILL_SLOT_STATUS_SRAM_CORR q x) = 1 :=
  (rd_wr_apart _ _ _ _ Fld.apart_slot).trans (rd_wr_flag _ _ 12 true)

theorem rd_sramCorrected_quill (s : State) (q x mem : Nat) :
    (s.sramCorrected q x mem).rd (QUILL_STATUS_SRAM_CORR q) = 1 :=
  calc
    _ = _ := rd_wr_apart _ _ _ _ Fld.slot_apart_quill
    _ = _ := rd_wr_apart _ _ _ _ Fld.slot_apart_quill
    _ = _ := rd_fault _ _ _ _ _ (faultFlds_apart (by dsimp only; omega))
    _ = 1 := rd_wr_flag _ _ 5 true

theorem keeps_sramCorrected (s : State) (q x mem : Nat) : s.keeps (s.sramCorrected q x mem)
    ([QUILL_SLOT_STATUS_SRAM_CORR q x, QUILL_STATUS_SRAM_CORR q, QUILL_SLOT_CORR_COUNT q x] ++ faultFlds) :=
  State.keeps_wr (State.keeps_set1 (State.keeps_fault (State.keeps_set1 (State.keeps_refl s _) (by simp)) _ _ _
    fun _ h => List.mem_append_right _ h) (by simp)) _ _ (by simp)

/-- With no limit of WEAR a corrected error asks for no spare. -/
theorem nibSram_corrected {q : Fin 12} {x : Fin 17} {readable : Bool} (hlim : s.rd TOP_WEAR_NIB_CE = 0) :
    ∃ n, exec (.nibSram q x 0 1 readable) s = .next ((s.sramCorrected q x 1).setNib q x n) := by
  have hkept : (s.sramCorrected q x 1).rd TOP_WEAR_NIB_CE = 0 := by
    refine (keeps_sramCorrected s q x 1 _ fun g hg => ?_).trans hlim
    simp only [List.cons_append, List.nil_append, List.mem_cons] at hg
    obtain rfl | rfl | rfl | hg := hg
    · simp only [Fld.apart, QUILL_SLOT_STATUS_SRAM_CORR, TOP_WEAR_NIB_CE]
      omega
    · simp only [Fld.apart, QUILL_STATUS_SRAM_CORR, TOP_WEAR_NIB_CE]
      omega
    · simp only [Fld.apart, QUILL_SLOT_CORR_COUNT, TOP_WEAR_NIB_CE]
      omega
    · exact faultFlds_apart (by decide) g hg
  exact ⟨_, congrArg Host.Outcome.next (if_neg fun h =>
    bne_iff_ne.1 (Bool.and_eq_true_iff.1 h).1 ((rd_setNib ..).trans hkept))⟩

theorem firstIdx_congr {k : Nat} {p r : Nat → Bool} (h : ∀ i < k, p i = r i) : firstIdx k p = firstIdx k r :=
  List.find?_congr fun i hi => h i (List.mem_range.1 hi)

theorem jobOfNib_of_rd {l : Nat} (hon : ∀ j < 4, t.jobOn q j = s.jobOn q j)
    (hnibs : ∀ j < 4, t.rd (QUILL_JOB_NIBS q j) = s.rd (QUILL_JOB_NIBS q j)) : t.jobOfNib q l = s.jobOfNib q l :=
  firstIdx_congr fun j hj => by rw [hon j hj, hnibs j hj]

theorem jobOfSlot_of_rd (hrole : t.roleOf q x = s.roleOf q x) (hon : ∀ j < 4, t.jobOn q j = s.jobOn q j)
    (hnibs : ∀ j < 4, t.rd (QUILL_JOB_NIBS q j) = s.rd (QUILL_JOB_NIBS q j)) : t.jobOfSlot q x = s.jobOfSlot q x := by
  unfold State.jobOfSlot
  dsimp only
  rw [hrole, jobOfNib_of_rd hon hnibs]

/-- The failure of a nib without a job shows in its slot alone. -/
theorem nibFails_idle {readable : Bool} (hjob : s.jobOfSlot q x = none) (hrole : s.roleOf q x ≠ 16) :
    s.InLog (s.nibFails q x readable) ∧
      ∀ f : Fld, 0x28 ≤ f.off → (s.nibFails q x readable).rd f = (s.setSlotState q x slotFailed).rd f := by
  have hfailed : s.InLog (s.setSlotState q x slotFailed) := (State.InLog.refl s).wr
  unfold State.nibFails
  dsimp only
  rw [hjob]
  dsimp only
  rw [if_neg (by simpa using hrole)]
  split
  · exact ⟨hfailed.fault, fun f hf => rd_fault _ _ _ _ _ (faultFlds_apart hf)⟩
  · exact ⟨hfailed, fun _ _ => rfl⟩

/-- An uncorrectable error of a nib's memory is recorded. -/
def State.sramUncorrected (s : State) (q x mem : Nat) : State :=
  (s.set1 (QUILL_SLOT_STATUS_SRAM_UNCORR q x)).fault (srcQuill q) 0x4011
    (slot1 q ++ slot1 x ++ slot1 1 ++ slot1 mem)

theorem rd_sramUncorrected {mem : Nat} {f : Fld} (hf : (QUILL_SLOT_STATUS_SRAM_UNCORR q x).apart f)
    (hlow : 0x28 ≤ f.off) : (s.sramUncorrected q x mem).rd f = s.rd f :=
  (rd_fault _ _ _ _ _ (faultFlds_apart hlow)).trans (rd_wr_apart _ _ _ _ hf)

/-- An uncorrectable error of a nib without a job fails its slot. -/
theorem nibSram_fails {q : Fin 12} {x : Fin 17} {readable : Bool} (hjob : s.jobOfSlot q x = none)
    (hrole : s.roleOf q x ≠ 16) : ∃ t, exec (.nibSram q x 1 1 readable) s = .next t ∧
      t.rd (QUILL_SLOT_STATUS_SRAM_UNCORR q x) = 1 ∧ t.slotState q x = slotFailed ∧ s.InLog t := by
  have hrole' : (s.sramUncorrected q x 1).roleOf q x = s.roleOf q x :=
    rd_sramUncorrected Fld.apart_slot (by simp only [QUILL_SLOT_STATUS_ROLE]; omega)
  have hjob' : (s.sramUncorrected q x 1).jobOfSlot q x = none := by
    refine (jobOfSlot_of_rd hrole' (fun j hj => on_of_rd (rd_sramUncorrected ?_ ?_))
      fun j hj => rd_sramUncorrected ?_ ?_).trans hjob
    · exact Fld.slot_apart_ctrl hj (hx := x.isLt)
    · simp only [QUILL_JOB_CTRL_EN]
      omega
    · simp only [Fld.apart, QUILL_SLOT_STATUS_SRAM_UNCORR, QUILL_JOB_NIBS]
      omega
    · simp only [QUILL_JOB_NIBS]
      omega
  obtain ⟨hlog, hrd⟩ := nibFails_idle (readable := readable) hjob' (hrole'.trans_ne hrole)
  refine ⟨_, rfl, ?_, ?_, (State.InLog.refl s).set1.fault.trans hlog⟩
  · calc
      _ = _ := hrd _ (by dsimp only; omega)
      _ = _ := rd_wr_apart _ _ _ _ Fld.apart_slot
      _ = _ := rd_fault _ _ _ _ _ (faultFlds_apart (by dsimp only; omega))
      _ = 1 := rd_wr_flag _ _ 13 true
  · exact (hrd _ (by simp only [QUILL_SLOT_STATUS_STATE]; omega)).trans (slotState_setSlotState_same (by decide))

/-! ### The planned swap (R297) -/

/-- The spare in slot b serves logical nib l, of job j, in place of the nib in slot a. -/
def State.swapped (s : State) (q a b l j : Nat) : State :=
  (((((s.wr (QUILL_SLOT_STATUS_ROLE q b) l).wr (QUILL_SLOT_STATUS_ROLE q a) 31).wr (QUILL_STATUS_SPARE_SLOT q) 31).wr
    (QUILL_SLOT_STATUS_JOB q b) j).setSlotState q b slotIdle).setSlotState q a slotOff

/-- The spare goes on at the next line of the nib that it replaces, which is out of service. -/
def State.swapNibs (s : State) (q a b : Nat) (old : Nib) (l : Int) : State :=
  (s.setNib q b { s.nib q b with
    next := some l, retired := old.retired, prev := old.prev, skipped := old.skipped }).setNib q a
    { old with next := none, retired := none }

/-- The handover is over. -/
def State.dropHand (s : State) (q : Nat) : State := s.setQuill q { s.quillAt q with hand := none }

theorem rd_recordSpared {h : Handover} {f : Fld} (hf : 0x28 ≤ f.off) : (s.recordSpared q h).rd f = s.rd f :=
  rd_fault _ _ _ _ _ (faultFlds_apart hf)

theorem quillAt_recordSpared {h : Handover} : (s.recordSpared q h).quillAt q = s.quillAt q :=
  quillAt_of_quill (fault_quill ..) q

theorem nib_recordSpared {h : Handover} : (s.recordSpared q h).nib q x = s.nib q x :=
  nib_of_quill (fault_quill ..) q x

theorem nib_dropHand (s : State) (q x : Nat) : (s.dropHand q).nib q x = s.nib q x := nib_setQuill_nibs _ _ _ _ rfl

theorem hand_dropHand (s : State) (q : Nat) : ((s.dropHand q).quillAt q).hand = none := by
  unfold State.dropHand
  rw [quillAt_setQuill_same]

theorem rd_dropHand {f : Fld} : (s.dropHand q).rd f = s.rd f := rd_congr rfl f

theorem rd_swapNibs {a b : Nat} {old : Nib} {l : Int} {f : Fld} : (s.swapNibs q a b old l).rd f = s.rd f :=
  (rd_setNib ..).trans (rd_setNib ..)

theorem plannedNibTakeover_swaps {q : Fin 12} {h : Handover} {l : Int} (hhand : (s.quillAt q).hand = some h)
    (hplanned : h.planned = true) (hjob : s.jobOfSlot q h.from_ = some j) (hnext : (s.nib q h.from_).next = some l)
    (hfrom : (s.nib q h.from_).run = none) (hto : (s.nib q h.to_).run = none)
    (hfull : ∀ w ∈ s.winsOn q j,
      winIndex (s.winSrc q j w) ((s.nib q h.to_).next.getD 0) + s.winRows q j w ≤
        spGet (fun _ => 0) (s.nib q h.to_).fill w ∧
      winIndex (s.winSrc q j w) ((s.nib q h.to_).next.getD 0) ≤ winIndex (s.winSrc q j w) l - s.winHist q j w) :
    exec (.plannedNibTakeover q) s = .next ((((s.swapped q h.from_ h.to_ h.logical j).swapNibs q h.from_ h.to_
      (s.nib q h.from_) l).dropHand q).recordSpared q h) := by
  have hall : (s.winsOn q j).all (fun w =>
      decide (winIndex (s.winSrc q j w) ((s.nib q h.to_).next.getD 0) + s.winRows q j w ≤
          spGet (fun _ => 0) (s.nib q h.to_).fill w) &&
        decide (winIndex (s.winSrc q j w) ((s.nib q h.to_).next.getD 0) ≤
          winIndex (s.winSrc q j w) l - s.winHist q j w)) = true :=
    List.all_eq_true.2 fun w hw => by
      obtain ⟨hrows, hhist⟩ := hfull w hw
      rw [decide_eq_true hrows, decide_eq_true hhist, Bool.and_self]
  change execPlannedNibTakeover q s = _
  unfold execPlannedNibTakeover
  rw [hhand]
  dsimp only
  rw [hjob, hnext]
  refine (if_neg ?_).trans ?_
  · rw [hall, hplanned, hfrom, hto]
    decide
  · rfl

/-- A field of a slot is apart from STATUS of the quill. -/
theorem Fld.quill_apart_slot {base lsb w base' lsb' w' : Nat}
    (h : 0x400400 * 8 ≤ base * 8 + lsb ∧ base * 8 + lsb + w ≤ 0x400420 * 8 := by decide)
    (h' : 0x400000 * 8 ≤ base' * 8 + lsb' ∧ base' * 8 + lsb' + w' ≤ 0x400100 * 8 := by decide) :
    Fld.apart ⟨base' + 0x40000 * q, lsb', w'⟩ ⟨base + 0x40000 * q + 0x20 * x, lsb, w⟩ :=
  (Fld.slot_apart_quill h h').symm

theorem roleOf_swapped_to {a b l : Nat} (hab : a ≠ b) (hl : l < 17) : (s.swapped q a b l j).roleOf q b = l :=
  calc
    _ = _ := rd_wr_apart _ _ _ _ (Fld.slots_apart hab)
    _ = _ := rd_wr_apart _ _ _ _ Fld.apart_slot
    _ = _ := rd_wr_apart _ _ _ _ Fld.apart_slot
    _ = _ := rd_wr_apart _ _ _ _ Fld.quill_apart_slot
    _ = _ := rd_wr_apart _ _ _ _ (Fld.slots_apart hab)
    _ = l % 2 ^ 5 := rd_wr_same s (QUILL_SLOT_STATUS_ROLE q b) l (by simp [QUILL_SLOT_STATUS_ROLE])
    _ = l := Nat.mod_eq_of_lt (by omega)

theorem roleOf_swapped_from {a b l : Nat} (hab : a ≠ b) : (s.swapped q a b l j).roleOf q a = 31 :=
  calc
    _ = _ := rd_wr_apart _ _ _ _ Fld.apart_slot
    _ = _ := rd_wr_apart _ _ _ _ (Fld.slots_apart hab.symm)
    _ = _ := rd_wr_apart _ _ _ _ (Fld.slots_apart hab.symm)
    _ = _ := rd_wr_apart _ _ _ _ Fld.quill_apart_slot
    _ = 31 % 2 ^ 5 := rd_wr_same _ (QUILL_SLOT_STATUS_ROLE q a) 31 (by simp [QUILL_SLOT_STATUS_ROLE])

theorem slotState_swapped {a b l : Nat} (hab : a ≠ b) : (s.swapped q a b l j).slotState q b = slotIdle :=
  (rd_wr_apart _ _ _ _ (Fld.slots_apart hab)).trans (slotState_setSlotState_same (by decide))

/-! ### Kernel loads (R299, R300) -/

/-- A slot that the load names shows LOADING, if it is idle (R299). -/
def State.loadingSlot (q : Nat) (s : State) (l : Nat) : State :=
  match s.slotFor q l with
  | some x => if s.slotState q x = slotIdle then s.setSlotState q x slotLoading else s
  | none => s

theorem loadingSlot_inRegs (s : State) (q l : Nat) : s.InRegs (s.loadingSlot q l) := by
  unfold State.loadingSlot
  split
  · split
    · exact (State.InRegs.refl s).wr
    · exact .refl s
  · exact .refl s

theorem rd_loadingSlot {l : Nat} {f : Fld} (hf : ∀ y < 17, (QUILL_SLOT_STATUS_STATE q y).apart f) :
    (s.loadingSlot q l).rd f = s.rd f := by
  unfold State.loadingSlot
  split
  · next y hy =>
    split
    · exact rd_wr_apart _ _ _ _ (hf y (slotFor_lt hy))
    · rfl
  · rfl

/-- Is a logical nib that the load names one of an enabled job? -/
def State.loadUsed (s : State) (q : Nat) : Bool :=
  (List.range 4).any (fun j => s.jobOn q j &&
    andNat 16 (s.rd (QUILL_LOAD_MASK q)) (s.rd (QUILL_JOB_NIBS q j)) != 0)

theorem kernelLoadGo_loads {q : Fin 12} (hbusy : s.on (QUILL_LOAD_BUSY q) = false)
    (hoff : ∀ j ∈ List.range 4, s.jobOn q j = false) :
    ∃ t, exec (.kernelLoadGo q) s = .next t ∧ t.rd (QUILL_LOAD_BUSY q) = 1 ∧ s.InRegs t := by
  have hused : s.loadUsed q = false := List.any_eq_false.2 fun j hj => by simp [hoff j hj]
  have hcond : ¬ (s.on (QUILL_LOAD_BUSY q) || s.loadUsed q) = true := by simp [hbusy, hused]
  refine ⟨((List.range 16).filter (bitAt (s.rd (QUILL_LOAD_MASK q)))).foldl (State.loadingSlot q)
    (s.set1 (QUILL_LOAD_BUSY q)), congrArg Host.Outcome.next (if_neg hcond), ?_,
    (State.InRegs.refl s).wr.foldl fun t l h => h.trans (loadingSlot_inRegs t q l)⟩
  exact (foldl_eq_of_step (·.rd _) fun _ _ _ => rd_loadingSlot fun _ _ => Fld.slot_apart_quill).trans
    (rd_wr_flag s _ 17 true)

theorem kernelLoadGo_rejects {q : Fin 12} (hj : j < 4) (hon : s.jobOn q j = true)
    (hmask : andNat 16 (s.rd (QUILL_LOAD_MASK q)) (s.rd (QUILL_JOB_NIBS q j)) ≠ 0) :
    exec (.kernelLoadGo q) s = .next (s.reject (QUILL_STATUS_CFG_REJECT q) (srcQuill q) (QUILL_LOAD q).off
      (s.rd (QUILL_LOAD_MASK q) + 2 ^ 16)) := by
  have hused : s.loadUsed q = true := List.any_eq_true.2 ⟨j, List.mem_range.2 hj, by simp [hon, hmask]⟩
  have hcond : (s.on (QUILL_LOAD_BUSY q) || s.loadUsed q) = true := by rw [hused, Bool.or_true]
  exact congrArg Host.Outcome.next (if_pos hcond)

end Sys2Proof.Machine
end

section
namespace Sys2Proof.Machine
open Sys2Proof

variable {s t u : State} {q x j : Nat} {n : Nib}

/-! ### What an access of DRAM leaves alone (R369 to R375)

An access of DRAM counts and records its errors in registers below those of the quills and may start a migration. The
quills, their registers and the timeline have no part in it. -/

/-- The field lies below the registers of the quills. -/
abbrev Fld.below (f : Fld) : Prop := f.off * 8 + f.lsb + f.w ≤ 0x400000 * 8

/-- `t` has the quills, their registers and the timeline of `s`. -/
structure State.Aside (s t : State) : Prop where
  quill : t.quill = s.quill
  tl : t.tl = s.tl
  rd : ∀ f : Fld, 0x400000 ≤ f.off → t.rd f = s.rd f

theorem place_ch_lt (s : State) (a : Nat) : (s.place a).ch < 8 := BitVec.isLt _

theorem place_rank_lt (s : State) (a : Nat) : (s.place a).rank < 4 := Nat.mod_lt _ (by decide)

theorem physRank_lt (s : State) (a : Nat) : s.physRank a < 4 := rd_lt s (rankMapF _ _)

theorem firstIdx_lt {k i : Nat} {p : Nat → Bool} (h : firstIdx k p = some i) : i < k :=
  List.mem_range.1 (List.mem_of_find?_eq_some h)

theorem rankStateF_below {ch k : Nat} (hch : ch < 8) (hk : k < 4) : (rankStateF ch k).below := by
  simp only [Fld.below, rankStateF, DRAMC_CH_RANK_STATE]
  omega

theorem chCe_below {ch k : Nat} (hch : ch < 8) (hk : k < 4) : (DRAMC_CH_CE ch k).below := by
  simp only [Fld.below, DRAMC_CH_CE]
  omega

theorem chUe_below {ch k : Nat} (hch : ch < 8) (hk : k < 4) : (DRAMC_CH_UE ch k).below := by
  simp only [Fld.below, DRAMC_CH_UE]
  omega

namespace State.Aside

theorem refl (s : State) : s.Aside s := ⟨rfl, rfl, fun _ _ => rfl⟩

theorem update {dram out} (h : s.Aside t) : s.Aside { t with dram := dram, out := out } :=
  ⟨h.quill, h.tl, fun f hf => (rd_congr rfl f).trans (h.rd f hf)⟩

theorem wr (h : s.Aside t) {g v} (hg : g.below) : s.Aside (t.wr g v) :=
  ⟨(wr_quill ..).trans h.quill, (wr_tl ..).trans h.tl,
    fun f hf => (rd_wr_apart _ _ _ _ (.inl (by omega))).trans (h.rd f hf)⟩

theorem fault (h : s.Aside t) {source code slots} : s.Aside (t.fault source code slots) :=
  ⟨(fault_quill ..).trans h.quill, (fault_tl ..).trans h.tl,
    fun f hf => (rd_fault _ _ _ _ _ (faultFlds_apart (by omega))).trans (h.rd f hf)⟩

theorem ite {c : Prop} {_ : Decidable c} (h : s.Aside t) (h' : s.Aside u) : s.Aside (if c then t else u) := by
  split
  · exact h
  · exact h'

theorem pair {α : Type} {a : α} (h : s.Aside t) : s.Aside (a, t).2 := h

theorem iteSnd {α : Type} {c : Prop} {_ : Decidable c} {a b : α × State} (h : s.Aside a.2) (h' : s.Aside b.2) :
    s.Aside (if c then a else b).2 := by
  split
  · exact h
  · exact h'

theorem foldl {α : Type} {l : List α} {f : State → α → State} (h : s.Aside t)
    (hf : ∀ t a, s.Aside t → s.Aside (f t a)) : s.Aside (l.foldl f t) :=
  List.foldlRecOn l f h fun t ht a _ => hf t a ht

theorem foldlSnd {α β : Type} {l : List α} {f : β × State → α → β × State} {r : β × State} (h : s.Aside r.2)
    (hf : ∀ r a, s.Aside r.2 → s.Aside (f r a).2) : s.Aside (l.foldl f r).2 :=
  List.foldlRecOn l f (motive := fun r => s.Aside r.2) h fun r hr a _ => hf r a hr

theorem migrate (h : s.Aside t) {ch src cause} (hch : ch < 8) (hsrc : src < 4) :
    s.Aside (t.migrate ch src cause) := by
  unfold State.migrate
  refine h.ite ?_
  split
  · exact State.Aside.fault (h.wr (by decide))
  · next k hk =>
    have hk := firstIdx_lt hk
    have h₁ := (h.wr (v := rankMigSource) (rankStateF_below hch hsrc)).wr (v := rankMigTarget) (rankStateF_below hch hk)
    have h₂ := (h₁.wr (g := DRAMC_STATUS_MIGRATING) (v := 1) (by decide)).wr (g := DRAMC_MIG_BUSY) (v := 1) (by decide)
    exact (h₂.wr (g := DRAMC_MIG_PTR) (v := 0) (by decide)).update.fault

theorem noteCe (h : s.Aside t) {ch rank a} (hch : ch < 8) (hrank : rank < 4) : s.Aside (t.noteCe ch rank a) := by
  unfold State.noteCe
  extract_lets key t₁ d₁ t₂ hour lim d₂ t₃
  have h₁ : s.Aside t₁ := State.Aside.wr (h.wr (by decide)) (chCe_below hch hrank)
  have h₂ : s.Aside t₂ := by
    dsimp only [t₂]
    split
    · exact h₁.update.fault.ite h₁
    · exact h₁.update.fault
  clear_value t₂
  exact (h₂.update.fault.migrate hch hrank).ite h₂.update

theorem noteUe (h : s.Aside t) {k ch rank a cls syn} (hch : ch < 8) (hrank : rank < 4) :
    s.Aside (t.noteUe k ch rank a cls syn) := by
  unfold State.noteUe
  extract_lets t₁ t₂ kind t₃ t₄ t₅ det key due d
  have h₁ : s.Aside t₁ := State.Aside.wr (h.wr (by decide)) (chUe_below hch hrank)
  have h₂ : s.Aside t₂ := State.Aside.ite (h₁.wr (by decide)) h₁
  have h₃ : s.Aside t₃ := h₂.wr (by decide)
  have h₄ : s.Aside t₄ := State.Aside.wr (h₃.wr (by decide)) (by decide)
  have h₅ : s.Aside t₅ := State.Aside.wr (State.Aside.wr (h₄.wr (by decide)) (by decide)) (by decide)
  clear_value t₅
  split
  · exact h₅.fault
  · exact h₅.fault
  · exact h₅.update.fault.ite h₅

theorem putPoison (h : s.Aside t) {b} : s.Aside (t.putPoison b) := h.update.update

theorem noteBeat (h : s.Aside t) {b cls} : s.Aside (t.noteBeat b cls).2 := by
  have hch := place_ch_lt t (8 * b)
  have hrank := physRank_lt t (8 * b)
  unfold State.noteBeat
  extract_lets r p rank t₁
  have h₁ : s.Aside t₁ := h.noteCe hch hrank
  split
  · exact h
  · exact h₁.update.ite h₁
  · exact (h.noteUe hch hrank).pair
  · exact State.Aside.ite ((h.noteUe hch hrank).migrate hch hrank) (h.noteUe hch hrank)

theorem dramTouch (h : s.Aside t) {a k cls} : s.Aside (t.dramTouch a k cls).2 :=
  State.Aside.foldlSnd h.update fun _ _ h₁ => h₁.noteBeat

theorem dramRead (h : s.Aside t) {a k cls} : s.Aside (t.dramRead a k cls).2.2 := h.dramTouch

theorem partialBeat (h : s.Aside t) {b cls} : s.Aside (t.partialBeat b cls).2 := by
  have hch := place_ch_lt t (8 * b)
  have hrank := physRank_lt t (8 * b)
  unfold State.partialBeat
  dsimp only
  split
  · exact (h.noteUe hch hrank).putPoison
  · exact ((h.noteCe hch hrank).ite h).update

theorem storeBytes (h : s.Aside t) {a bs poisoned} : s.Aside (t.storeBytes a bs poisoned) :=
  h.update.foldl fun _ _ h₁ => h₁.putPoison

theorem dramWriteNow (h : s.Aside t) {a bs cls} : s.Aside (t.dramWriteNow a bs cls).2 := by
  unfold State.dramWriteNow
  extract_lets k ends r
  split
  · exact h
  · have hr : s.Aside r.2 := State.Aside.foldlSnd h.update fun _ _ h₁ => h₁.partialBeat
    exact hr.storeBytes

theorem heldNow (h : s.Aside t) {a} : s.Aside (t.heldNow a) := by
  unfold State.heldNow
  split
  · exact h.dramWriteNow
  · dsimp only
    split
    · exact h.dramRead.update
    · exact h.dramRead.update

theorem srExit (h : s.Aside t) : s.Aside t.srExit := by
  unfold State.srExit
  refine h.ite ?_
  exact State.Aside.foldl (State.Aside.update (h.wr (by decide))) fun _ _ h₁ => h₁.heldNow

theorem kernelImage (h : s.Aside t) {a} : s.Aside (t.kernelImage a).2 := by
  unfold State.kernelImage
  extract_lets r w t₁ c t₂
  have h₁ : s.Aside t₁ := h.dramRead
  have h₂ : s.Aside t₂ := h₁.dramRead
  clear_value t₁ t₂
  exact h.pair.iteSnd (h₁.pair.iteSnd (h₁.pair.iteSnd (h₁.pair.iteSnd (h₁.pair.iteSnd (h₂.pair.iteSnd
    (h₂.pair.iteSnd h₂.pair))))))

end State.Aside

end Sys2Proof.Machine
end

section
namespace Sys2Proof.Machine
open Sys2Proof

variable {s t u : State} {q x j : Nat} {n : Nib}

/-! ### The end of a handover (R296, R435, R438)

The end of a handover may change the mode between M7 and M8. That leaves self-refresh, where the accesses held back are
made, and reports to the root; the quills and the states of their slots have no part in it. -/

/-- `t` has the quills of `s` and the state of slot x of quill q. -/
structure State.SlotAs (q x : Nat) (s t : State) : Prop where
  quill : t.quill = s.quill
  state : t.slotState q x = s.slotState q x

namespace State.SlotAs

theorem refl (s : State) : s.SlotAs q x s := ⟨rfl, rfl⟩

theorem wr (h : State.SlotAs q x s t) {g v} (hg : g.below) : State.SlotAs q x s (t.wr g v) :=
  ⟨(wr_quill ..).trans h.quill, (rd_wr_apart _ _ _ _ (.inl (by simp only [QUILL_SLOT_STATUS_STATE]; omega))).trans
    h.state⟩

theorem update {top} (h : State.SlotAs q x s t) : State.SlotAs q x s { t with top := top } :=
  ⟨h.quill, (rd_congr rfl _).trans h.state⟩

theorem fault (h : State.SlotAs q x s t) {source code slots} : State.SlotAs q x s (t.fault source code slots) :=
  ⟨(fault_quill ..).trans h.quill, (rd_fault _ _ _ _ _ (faultFlds_apart (by
    simp only [QUILL_SLOT_STATUS_STATE]; omega))).trans h.state⟩

theorem occur (h : State.SlotAs q x s t) {producer hop} : State.SlotAs q x s (t.occur producer hop) :=
  ⟨(occur_quill ..).trans h.quill, (rd_occur ..).trans h.state⟩

theorem aside (h : State.SlotAs q x s t) (h' : t.Aside u) : State.SlotAs q x s u :=
  ⟨h'.quill.trans h.quill, (h'.rd _ (by simp only [QUILL_SLOT_STATUS_STATE]; omega)).trans h.state⟩

theorem sendTo (h : State.SlotAs q x s t) (hx : x < 17) {dst pk} : State.SlotAs q x s (t.sendTo dst pk) := by
  have hsent : t.Sends Fld.Sent (t.sendTo dst pk) := State.Sends.sendTo (.refl t fun _ hg => hg)
  refine ⟨hsent.quill.trans h.quill, (hsent.rd _ fun g hg => hg.apart (0x20 + 4 * q) (.inr ?_)).trans h.state⟩
  simp only [Fld.within, QUILL_SLOT_STATUS_STATE]
  omega

theorem reportRoot (h : State.SlotAs q x s t) (hx : x < 17) {phase target epoch pos} :
    State.SlotAs q x s (t.reportRoot phase target epoch pos) := by
  unfold State.reportRoot
  split
  · exact h.sendTo hx
  · exact h

/-- Between M7 and M8 neither playback nor HALT is left or entered. -/
theorem setMode (h : State.SlotAs q x s t) (hx : x < 17) {m e : Nat} {line : Int} (hold : t.mode = 7 ∨ t.mode = 8)
    (hm : m = 7 ∨ m = 8) : State.SlotAs q x s (t.setMode m line e) := by
  unfold State.setMode
  extract_lets old kept t₁ t₂ t₃ t₄ t₅ t₆ t₇
  have hold : old = 7 ∨ old = 8 := hold
  have h₁ : State.SlotAs q x s t₁ := State.SlotAs.wr (h.wr (by decide)) (by decide)
  have h₂ : State.SlotAs q x s t₂ := State.SlotAs.wr (h₁.wr (by decide)) (by decide)
  have h₃ : State.SlotAs q x s t₃ := State.SlotAs.occur h₂.update
  have h₄ : t₄ = t₃ := if_neg (by simp; omega)
  have h₅ : State.SlotAs q x s t₅ := by
    dsimp only [t₅]
    rw [h₄]
    split
    · exact h₃
    · exact h₃.aside (State.Aside.srExit (.refl _))
  have h₆ : t₆ = t₅ := if_neg (by simp; omega)
  have h₇ : t₇ = t₆ := if_neg (by simp; omega)
  have hlast : State.SlotAs q x s t₇ := by rwa [h₇, h₆]
  split
  · exact hlast.reportRoot hx
  · exact hlast

theorem recheck (h : State.SlotAs q x s t) (hx : x < 17) : State.SlotAs q x s t.recheck := by
  unfold State.recheck
  split
  · next h7 => exact h.setMode hx (.inl (by simpa using (Bool.and_eq_true_iff.1 h7).1)) (.inr rfl)
  · split
    · next h8 => exact h.setMode hx (.inr (by simpa using (Bool.and_eq_true_iff.1 h8).1)) (.inl rfl)
    · exact h

theorem endDegrade (h : State.SlotAs q x s t) (hx : x < 17) {key} : State.SlotAs q x s (t.endDegrade key) :=
  State.SlotAs.recheck h.update hx

end State.SlotAs

/-- An unplanned handover whose spare lost its rows ends with the spare idle. -/
theorem nibSpared_ends {q : Fin 12} {h : Handover} (hhand : (s.quillAt q).hand = some h) (hplanned : h.planned = false)
    (hcopied : h.copied = false) (hrun : (s.nib q h.to_).run = none) (hresume : (s.nib q h.to_).resume = false)
    (hbehalf : (s.nib q h.to_).behalf = false) (hjob : (s.jobOfNib q h.logical).isSome = true) :
    exec (.nibSpared q) s = .next
      ((((s.setSlotState q h.to_ slotIdle).dropHand q).recordSpared q h).endDegrade (degradeQuill q)) := by
  obtain ⟨j, hjob⟩ := Option.isSome_iff_exists.1 hjob
  change execNibSpared q s = _
  unfold execNibSpared
  rw [hhand]
  refine (if_neg ?_).trans ?_
  · rw [hplanned, hrun, hresume, hbehalf]
    simp
  · rw [hjob, hcopied]
    rfl

theorem nibSpared_idle {q : Fin 12} {h : Handover} (hto : h.to_ < 17) :
    let t := (((s.setSlotState q h.to_ slotIdle).dropHand q).recordSpared q h).endDegrade (degradeQuill q)
    (t.quillAt q).hand = none ∧ t.slotState q h.to_ = slotIdle := by
  intro t
  have hdrop := State.SlotAs.refl (q := q) (x := h.to_) ((s.setSlotState q h.to_ slotIdle).dropHand q)
  have hend : State.SlotAs q h.to_ ((s.setSlotState q h.to_ slotIdle).dropHand q) t :=
    State.SlotAs.endDegrade hdrop.fault hto
  constructor
  · rw [quillAt_of_quill hend.quill, hand_dropHand]
  · rw [hend.state]
    exact rd_dropHand.trans (slotState_setSlotState_same (by decide))

/-! ### The start of a planned swap (R297) -/

theorem nib_loadCode (s : State) (q x : Nat) (ws : List Nat) : ((s.loadCode q x ws).nib q x).words = ws.length :=
  (congrArg Nib.words ((nib_of_quill (wr_quill ..) q x).trans (nib_setNib_same ..)))

theorem rd_loadCode {ws : List Nat} {f : Fld} (hf : (QUILL_SLOT_STATUS_IMAGE_VALID q x).apart f) :
    (s.loadCode q x ws).rd f = s.rd f :=
  (rd_wr_apart _ _ _ _ hf).trans (rd_setNib ..)

theorem tl_loadCode {ws : List Nat} : (s.loadCode q x ws).tl = s.tl := wr_tl ..

/-- Fields of STATUS of two slots, or of one. -/
theorem Fld.status_apart {y lsb w lsb' w' : Nat} (h : lsb + w ≤ lsb' ∨ lsb' + w' ≤ lsb := by decide)
    (hw : lsb + w ≤ 32 ∧ lsb' + w' ≤ 32 := by decide) :
    Fld.apart ⟨0x400400 + 0x40000 * q + 0x20 * x, lsb, w⟩ ⟨0x400400 + 0x40000 * q + 0x20 * y, lsb', w'⟩ := by
  unfold Fld.apart
  dsimp only
  omega

/-- The nib in slot x takes the image that a load has found, if it found one. -/
def State.takeImage (q x : Nat) : Except Nat (Nat × List Nat) × State → State
  | (.ok (_, ws), s) => s.loadCode q x ws
  | (.error _, s) => s

/-- The image is held by a name while the definitions unfold: with its own definition in sight the kernel would compute
it. -/
theorem spareCode_eq (s : State) (q x : Nat) :
    s.spareCode q x = State.takeImage q x (s.kernelImage (s.rd (QUILL_LOAD_SRC q))) := by
  obtain ⟨image, himage⟩ := exists_eq' (a' := State.kernelImage)
  obtain ⟨code, hcode⟩ := exists_eq' (a' := State.spareCode)
  rw [hcode, himage]
  delta State.spareCode at hcode
  rw [himage] at hcode
  subst hcode
  rfl

theorem takeImage_keeps {r : Except Nat (Nat × List Nat) × State} (h : s.Aside r.2) (y : Nat) :
    (State.takeImage q x r).roleOf q y = s.roleOf q y ∧ (State.takeImage q x r).now = s.now := by
  obtain ⟨image, t⟩ := r
  have hrole : t.roleOf q y = s.roleOf q y := h.rd _ (by simp only [QUILL_SLOT_STATUS_ROLE]; omega)
  have hnow : t.now = s.now := congrArg Timeline.tick h.tl
  cases image with
  | ok image => exact ⟨(rd_loadCode Fld.status_apart).trans hrole, (congrArg Timeline.tick tl_loadCode).trans hnow⟩
  | error r => exact ⟨hrole, hnow⟩

theorem spareCode_keeps (s : State) (q x y : Nat) :
    (s.spareCode q x).roleOf q y = s.roleOf q y ∧ (s.spareCode q x).now = s.now := by
  rw [spareCode_eq]
  exact takeImage_keeps (State.Aside.kernelImage (.refl s)) y

/-- The windows of the spare begin at the rows that form next. -/
def State.spareNib (s : State) (q x j : Nat) : Nib :=
  { s.nib q x with
    mem := []
    fill := (s.winsOn q j).foldl (fun m w =>
      spSet (fun _ => 0) m w ((s.newestRow (s.winSrc q j w)).getD (-1) + 1)) []
    next := some ((if s.jobCoarse q j then (s.stitch.coarse.head?).map (·.line) else
      (s.stitch.fine.head?).map (·.line)).getD (-1) + 1)
    behalf := false, resume := false, restart := true, lost := none }

/-- The spare in slot x is to take over from the nib in slot y. -/
def State.beginSwap (s : State) (q x y j : Nat) : State :=
  let s := s.setNib q x (s.spareNib q x j)
  s.setQuill q { s.quillAt q with hand := some ⟨y, x, s.roleOf q y, true, s.now, true⟩ }

theorem spareNow_begins {q : Fin 12} {y : Fin 17} (hjob : s.jobOfSlot q y = some j) (hspare : s.readySpare q = some x)
    (hhand : (s.quillAt q).hand = none) (hfailed : s.slotState q y ≠ slotFailed)
    (hl0 : (s.job q j).l0.isSome = true) :
    exec (.spareNow q y) s = .next (((s.spareCode q x).beginSwap q x y j).startInit q x j true) := by
  change Host.Outcome.next (s.spareNow q y) = _
  unfold State.spareNow
  rw [hjob, hspare]
  refine congrArg Host.Outcome.next ((if_neg ?_).trans rfl)
  rw [hhand, Option.isNone_eq_false_iff.2 hl0]
  simpa using hfailed

theorem hand_beginSwap (s : State) (q x y j : Nat) :
    ((s.beginSwap q x y j).quillAt q).hand = some ⟨y, x, s.roleOf q y, true, s.now, true⟩ := by
  unfold State.beginSwap
  rw [quillAt_setQuill_same]
  rfl

end Sys2Proof.Machine
end

section
namespace Sys2Proof.Machine
open Sys2Proof

variable {s t u : State} {q x j : Nat} {n : Nib}

/-! ### A read of DRAM does not see the quills' registers (R299, R369 to R375)

Of two states that differ in the registers of the quills alone, a read of DRAM takes the same bytes and the same effect,
so a load finds the same image in both. -/

/-- `t` differs from `s` at most in the registers of the quills. -/
structure State.Twin (s t : State) : Prop where
  frame : t = { s with regs := t.regs }
  low : ∀ off < 0x400000, t.reg off = s.reg off

/-- The record of a fault. -/
def State.faultRec (s : State) (source code : Nat) (slots : List Nat) (seq : Nat) : FaultRec :=
  { code := code, source := source, seq := seq, epoch := s.rd TOP_EPOCH, pos := s.pos16, ptpNs := s.net.ptpNs
    ptpWrap := s.net.ptpWrap, slots := slots, tick := s.now }

/-- A record enters the recorder's queue, or is lost. -/
def State.logFault (s : State) (r : FaultRec) : State :=
  if s.top.inQ.length < 64 then { s with top := { s.top with inQ := enterFault r s.top.inQ } }
  else (s.bump TOP_FAULT_LOST).set1 TOP_STATUS_FAULT_LOST

theorem fault_eq (s : State) (source code : Nat) (slots : List Nat) : s.fault source code slots =
    (s.wr TOP_FAULT_SEQ (s.rd TOP_FAULT_SEQ + 1)).logFault
      ((s.wr TOP_FAULT_SEQ (s.rd TOP_FAULT_SEQ + 1)).faultRec source code slots (s.rd TOP_FAULT_SEQ)) := rfl

theorem chCeLimit_below {ch : Nat} (hch : ch < 8) : (DRAMC_CH_CE_LIMIT ch).below := by
  simp only [Fld.below, DRAMC_CH_CE_LIMIT]
  omega

theorem rankMapF_below {ch k : Nat} (hch : ch < 8) (hk : k < 4) : (rankMapF ch k).below := by
  simp only [Fld.below, rankMapF, DRAMC_CH_RANK_MAP]
  omega

/-- A corrected error of a rank is recorded once a second (R374). -/
def State.ceReport (s : State) (ch rank a : Nat) : State :=
  let report := ({ s with dram := { s.dram with
    ceAt := spInsert s.dram.ceAt (4 * ch + rank) s.now } }).fault srcDramc 0x6001 (slot1 ch ++ slot1 rank ++ slot2 a)
  match spFind s.dram.ceAt (4 * ch + rank) with
  | some t => if t + ticksPerSec ≤ s.now then report else s
  | none => report

/-- Corrected errors of a rank beyond CE_LIMIT within one hour make it migrate (R374). -/
def State.ceLimit (s : State) (ch rank : Nat) : State :=
  let hour := s.now :: (spGet (fun _ => []) s.dram.ceHour (4 * ch + rank)).filter
    (fun t => decide (s.now < t + ticksPerHour))
  if s.rd (DRAMC_CH_CE_LIMIT ch) != 0 && decide (s.rd (DRAMC_CH_CE_LIMIT ch) < hour.length) then
    (({ s with dram := { s.dram with ceHour := spSet (fun _ => []) s.dram.ceHour (4 * ch + rank) [] } }).fault srcDramc
      0x6041 (slot1 ch ++ slot1 rank ++ slot1 hour.length)).migrate ch rank 2
  else { s with dram := { s.dram with ceHour := spSet (fun _ => []) s.dram.ceHour (4 * ch + rank) hour } }

theorem noteCe_eq (s : State) (ch rank a : Nat) : s.noteCe ch rank a =
    (((s.set1 DRAMC_STATUS_CE).bump (DRAMC_CH_CE ch rank)).ceReport ch rank a).ceLimit ch rank := rfl

/-- The counter and the error log of an uncorrectable error (R373). -/
def State.logUe (s : State) (k : ReadKind) (ch rank a cls syn : Nat) : State :=
  let s := (s.set1 DRAMC_STATUS_UE).bump (DRAMC_CH_UE ch rank)
  let s := if k = .address then s.set1 DRAMC_STATUS_ADDR_ERR else s
  let kind := match k with
    | .address => 1
    | .poison => 2
    | _ => 0
  (((((s.wr DRAMC_ERR_ADDR a).wr DRAMC_ERR_INFO_CH ch).wr DRAMC_ERR_INFO_RANK rank).wr DRAMC_ERR_INFO_KIND kind).wr
    DRAMC_ERR_INFO_CLASS cls).wr DRAMC_ERR_INFO_SYNDROME syn

/-- The fault of an uncorrectable error; those of one line are recorded once a second (R373). -/
def State.ueReport (s : State) (k : ReadKind) (a : Nat) (det : List Nat) : State :=
  match k with
  | .address => s.fault srcDramc 0x6003 det
  | .poison => s.fault srcDramc 0x6005 det
  | _ =>
    let due := match spFind s.dram.ueAt (a / 128) with
      | some t => decide (t + ticksPerSec ≤ s.now)
      | none => true
    if due then
      ({ s with dram := { s.dram with ueAt := spInsert s.dram.ueAt (a / 128) s.now } }).fault srcDramc 0x6002 det
    else s

theorem noteUe_eq (s : State) (k : ReadKind) (ch rank a cls syn : Nat) : s.noteUe k ch rank a cls syn =
    (s.logUe k ch rank a cls syn).ueReport k a (slot1 ch ++ slot1 rank ++ slot2 a ++ slot1 cls) := by
  cases k <;> rfl

/-- The outcome of a beat of which a read returns `r`. -/
def State.noteRead (s : State) (b cls : Nat) (r : ReadKind × Nat × Nat) : Bool × State :=
  let ch := (s.place (8 * b)).ch
  let rank := s.physRank (8 * b)
  match r with
  | (.clean, _) => (false, s)
  | (.corrected, d, _) =>
    let s := s.noteCe ch rank (8 * b)
    (false, if s.on DRAMC_CFG_CE_WRITEBACK then s.putBeat b d else s)
  | (.poison, _, syn) => (true, s.noteUe .poison ch rank (8 * b) cls syn)
  | (k, _, syn) => (true, (s.noteUe k ch rank (8 * b) cls syn).rankPolicy ch rank 0)

/-- What the read returns is held by a name while the definitions unfold, as in `spareCode_eq`. -/
theorem noteBeat_eq (s : State) (b cls : Nat) : s.noteBeat b cls = s.noteRead b cls (s.readBeat b) := by
  obtain ⟨read, hread⟩ := exists_eq' (a' := State.readBeat)
  obtain ⟨note, hnote⟩ := exists_eq' (a' := State.noteBeat)
  rw [hnote, hread]
  delta State.noteBeat at hnote
  rw [hread] at hnote
  subst hnote
  beta_reduce
  generalize read s b = r
  obtain ⟨kind, d, syn⟩ := r
  cases kind <;> rfl

/-- A read passes one more beat that is not clean. -/
def State.noteNext (cls : Nat) (r : Option Nat × State) (b : Nat) : Option Nat × State :=
  (if (r.2.noteBeat b cls).1 && r.1.isNone then some (8 * b) else r.1, (r.2.noteBeat b cls).2)

theorem dramTouch_eq (s : State) (a k cls : Nat) :
    s.dramTouch a k cls = (s.flippedIn a k).foldl (State.noteNext cls) (none, s.rankCmd a) := rfl

theorem fst_ite_congr {α : Type} {c : Prop} {_ : Decidable c} {a a' b b' : α × State} (h : a'.1 = a.1)
    (h' : b'.1 = b.1) : (if c then a' else b').1 = (if c then a else b).1 := by
  split
  · exact h
  · exact h'

namespace State.Twin

theorem refl (s : State) : s.Twin s := ⟨rfl, fun _ _ => rfl⟩

theorem dram (h : s.Twin t) : t.dram = s.dram := by rw [h.frame]

theorem tl (h : s.Twin t) : t.tl = s.tl := by rw [h.frame]

theorem now (h : s.Twin t) : t.now = s.now := congrArg Timeline.tick h.tl

theorem rd (h : s.Twin t) {f : Fld} (hf : f.below) : t.rd f = s.rd f := by
  refine Nat.eq_of_testBit_eq fun i => ?_
  rw [rd_testBit, rd_testBit]
  by_cases hi : i < f.w
  · rw [h.low f.off (by omega)]
    by_cases hword : 32 < f.lsb + f.w
    · rw [h.low (f.off + 4) (by omega)]
    · rw [if_pos (by omega), if_pos (by omega)]
  · rw [decide_eq_false hi, Bool.false_and, Bool.false_and]

theorem on (h : s.Twin t) {f : Fld} (hf : f.below) : t.on f = s.on f := on_of_rd (h.rd hf)

theorem wr (h : s.Twin t) {f : Fld} {v : Nat} : (s.wr f v).Twin (t.wr f v) := by
  refine ⟨?_, fun off hoff => BitVec.eq_of_toNat_eq (Nat.eq_of_testBit_eq fun i => ?_)⟩
  · rw [wr_frame f v (s := t), wr_frame f v (s := s), h.frame]
  · by_cases hi : i < 32
    · rw [reg_wr_testBit _ _ _ _ _ hi, reg_wr_testBit _ _ _ _ _ hi, h.low off hoff]
    · have hlarge (w : Word) : w.toNat.testBit i = false :=
        Nat.testBit_lt_two_pow (w.isLt.trans_le (Nat.pow_le_pow_right (by decide) (by omega)))
      rw [hlarge, hlarge]

/-- A write of a register of the quills is not seen from below. -/
theorem wr_right (h : s.Twin t) {f : Fld} {v : Nat} (hf : 0x400000 ≤ f.off) : s.Twin (t.wr f v) := by
  refine ⟨?_, fun off hoff => (reg_wr_ne t f v off (by omega) (.inr (by omega))).trans (h.low off hoff)⟩
  rw [wr_frame f v (s := t), h.frame]

theorem setDram (h : s.Twin t) {d d'} (hd : d' = d) : ({ s with dram := d } : State).Twin { t with dram := d' } := by
  refine ⟨?_, h.low⟩
  rw [h.frame, hd]

theorem pair (h : s.Twin t) {α : Type} {c : α} : (c, t).1 = (c, s).1 ∧ (c, s).2.Twin (c, t).2 := ⟨rfl, h⟩

theorem setTop (h : s.Twin t) {top} : ({ s with top := top } : State).Twin { t with top := top } := by
  refine ⟨?_, h.low⟩
  rw [h.frame]

theorem ite {c : Prop} {_ : Decidable c} {s' t'} (h : s.Twin t) (h' : State.Twin s' t') :
    State.Twin (if c then s else s') (if c then t else t') := by
  split
  · exact h
  · exact h'

theorem set1 (h : s.Twin t) {f : Fld} : (s.set1 f).Twin (t.set1 f) := h.wr

theorem bump (h : s.Twin t) {f : Fld} (hf : f.below) {k} : (s.bump f k).Twin (t.bump f k) := by
  unfold State.bump
  rw [h.rd hf]
  exact h.wr

theorem logFault (h : s.Twin t) {r} : (s.logFault r).Twin (t.logFault r) := by
  have htop : t.top = s.top := by rw [h.frame]
  unfold State.logFault
  rw [htop]
  exact h.setTop.ite (State.Twin.wr (h.bump (by decide)))

theorem faultRec (h : s.Twin t) {source code seq : Nat} {slots : List Nat} :
    t.faultRec source code slots seq = s.faultRec source code slots seq := by
  rw [State.faultRec, h.rd (by decide : TOP_EPOCH.below), h.now, State.pos16, h.frame]
  rfl

theorem fault (h : s.Twin t) {source code slots} :
    (s.fault source code slots).Twin (t.fault source code slots) := by
  rw [fault_eq, fault_eq, h.rd (by decide : TOP_FAULT_SEQ.below), State.Twin.faultRec h.wr]
  exact State.Twin.logFault h.wr

/-! The effects of a read -/

theorem place (h : s.Twin t) (a : Nat) : t.place a = s.place a := by
  unfold State.place State.nch State.nchLog State.rankLineBits
  rw [h.on (by decide : DRAMC_CFG_CHANNELS.below), h.rd (by decide : DRAMC_CFG_DEVICE.below)]

theorem physRank (h : s.Twin t) (a : Nat) : t.physRank a = s.physRank a := by
  unfold State.physRank
  rw [h.place, h.rd (rankMapF_below (place_ch_lt s a) (place_rank_lt s a))]

theorem migrate (h : s.Twin t) {ch src cause} (hch : ch < 8) :
    (s.migrate ch src cause).Twin (t.migrate ch src cause) := by
  have hspare : firstIdx 4 (fun k => k != src && t.rd (rankStateF ch k) == rankSpareReady) =
      firstIdx 4 (fun k => k != src && s.rd (rankStateF ch k) == rankSpareReady) :=
    firstIdx_congr fun k hk => by rw [h.rd (rankStateF_below hch hk)]
  unfold State.migrate
  rw [hspare, h.dram]
  refine h.ite ?_
  split
  · exact h.set1.fault
  · exact (h.wr.wr.set1.set1.wr.setDram (by simp [h.dram, h.tl, State.now])).fault

theorem ceReport (h : s.Twin t) {ch rank a} : (s.ceReport ch rank a).Twin (t.ceReport ch rank a) := by
  unfold State.ceReport
  rw [h.dram, h.now]
  split
  · exact (State.Twin.fault (h.setDram rfl)).ite h
  · exact State.Twin.fault (h.setDram rfl)

theorem ceLimit (h : s.Twin t) {ch rank} (hch : ch < 8) : (s.ceLimit ch rank).Twin (t.ceLimit ch rank) := by
  unfold State.ceLimit
  rw [h.dram, h.now, h.rd (chCeLimit_below hch)]
  exact (State.Twin.migrate (State.Twin.fault (h.setDram rfl)) hch).ite (h.setDram rfl)

theorem noteCe (h : s.Twin t) {ch rank a} (hch : ch < 8) (hrank : rank < 4) :
    (s.noteCe ch rank a).Twin (t.noteCe ch rank a) := by
  rw [noteCe_eq, noteCe_eq]
  exact State.Twin.ceLimit (State.Twin.ceReport (h.set1.bump (chCe_below hch hrank))) hch

theorem logUe (h : s.Twin t) {k ch rank a cls syn} (hch : ch < 8) (hrank : rank < 4) :
    (s.logUe k ch rank a cls syn).Twin (t.logUe k ch rank a cls syn) := by
  have h₁ := h.set1 (f := DRAMC_STATUS_UE) |>.bump (k := 1) (chUe_below hch hrank)
  exact (h₁.set1.ite h₁).wr.wr.wr.wr.wr.wr

theorem ueReport (h : s.Twin t) {k a det} : (s.ueReport k a det).Twin (t.ueReport k a det) := by
  unfold State.ueReport
  rw [h.dram, h.now]
  split
  · exact h.fault
  · exact h.fault
  · exact (State.Twin.fault (h.setDram rfl)).ite h

theorem noteUe (h : s.Twin t) {k ch rank a cls syn} (hch : ch < 8) (hrank : rank < 4) :
    (s.noteUe k ch rank a cls syn).Twin (t.noteUe k ch rank a cls syn) := by
  rw [noteUe_eq, noteUe_eq]
  exact State.Twin.ueReport (h.logUe hch hrank)

theorem rankPolicy (h : s.Twin t) {ch rank cause} (hch : ch < 8) :
    (s.rankPolicy ch rank cause).Twin (t.rankPolicy ch rank cause) := by
  unfold State.rankPolicy
  rw [h.on (by decide : DRAMC_CFG_RANK_POLICY.below)]
  exact (h.migrate hch).ite h

theorem putBeat (h : s.Twin t) {b d} : (s.putBeat b d).Twin (t.putBeat b d) := by
  unfold State.putBeat
  rw [h.dram]
  exact h.setDram rfl

theorem rankCmd (h : s.Twin t) {a} : (s.rankCmd a).Twin (t.rankCmd a) := by
  unfold State.rankCmd
  rw [h.dram, h.place, h.physRank, h.now]
  exact h.setDram rfl

theorem readBeat (h : s.Twin t) (b : Nat) : t.readBeat b = s.readBeat b := by
  unfold State.readBeat State.beatData
  rw [h.dram, h.place]

theorem noteBeat (h : s.Twin t) {b cls} :
    (t.noteBeat b cls).1 = (s.noteBeat b cls).1 ∧ (s.noteBeat b cls).2.Twin (t.noteBeat b cls).2 := by
  have hch := place_ch_lt s (8 * b)
  have hrank := physRank_lt s (8 * b)
  rw [noteBeat_eq, noteBeat_eq, h.readBeat]
  obtain ⟨kind, d, syn⟩ := s.readBeat b
  unfold State.noteRead
  rw [h.place, h.physRank]
  cases kind with
  | clean => exact ⟨rfl, h⟩
  | corrected =>
    have h₁ := h.noteCe (a := 8 * b) hch hrank
    dsimp only
    rw [h₁.on (by decide : DRAMC_CFG_CE_WRITEBACK.below)]
    exact ⟨rfl, h₁.putBeat.ite h₁⟩
  | poison => exact (h.noteUe hch hrank).pair (c := true)
  | address => exact (State.Twin.rankPolicy (h.noteUe hch hrank) hch).pair (c := true)
  | uncorrectable => exact (State.Twin.rankPolicy (h.noteUe hch hrank) hch).pair (c := true)

/-- A beat that a read passes: the first failing address so far, and the effects. -/
theorem noteBeats (l : List Nat) (cls : Nat) {r r' : Option Nat × State} (h : r.2.Twin r'.2) (hfirst : r'.1 = r.1) :
    (l.foldl (State.noteNext cls) r').1 = (l.foldl (State.noteNext cls) r).1 ∧
      (l.foldl (State.noteNext cls) r).2.Twin (l.foldl (State.noteNext cls) r').2 := by
  induction l generalizing r r' with
  | nil => exact ⟨hfirst, h⟩
  | cons b l ih =>
    obtain ⟨hfailed, hnext⟩ := h.noteBeat (b := b) (cls := cls)
    refine ih (r := State.noteNext cls r b) (r' := State.noteNext cls r' b) hnext ?_
    unfold State.noteNext
    rw [hfailed, hfirst]

theorem dramTouch (h : s.Twin t) {a k cls} :
    (t.dramTouch a k cls).1 = (s.dramTouch a k cls).1 ∧ (s.dramTouch a k cls).2.Twin (t.dramTouch a k cls).2 := by
  rw [dramTouch_eq, dramTouch_eq, State.flippedIn, h.dram]
  exact noteBeats _ cls h.rankCmd rfl

theorem dramBytes (h : s.Twin t) (a k : Nat) : t.dramBytes a k = s.dramBytes a k := by
  unfold State.dramBytes State.dramByte
  simp only [h.dram, h.readBeat]

theorem dramFits (h : s.Twin t) (a k : Nat) : t.dramFits a k = s.dramFits a k := by
  unfold State.dramFits
  rw [h.rd (by decide : DRAMC_SIZE.below)]

theorem dramRead (h : s.Twin t) {a k cls} {bs bs' : List Nat} {err err' : Option Nat} {s₁ t₁ : State}
    (hs : s.dramRead a k cls = (bs, err, s₁)) (ht : t.dramRead a k cls = (bs', err', t₁)) :
    bs' = bs ∧ err' = err ∧ s₁.Twin t₁ := by
  obtain ⟨rfl, rfl, rfl⟩ := Prod.mk.inj hs |>.imp_right Prod.mk.inj
  obtain ⟨rfl, rfl, rfl⟩ := Prod.mk.inj ht |>.imp_right Prod.mk.inj
  exact ⟨h.dramBytes a k, h.dramTouch⟩

theorem kernelImage (h : s.Twin t) (a : Nat) : (t.kernelImage a).1 = (s.kernelImage a).1 := by
  unfold State.kernelImage
  rw [h.dramFits]
  generalize hs : s.dramRead a 64 clsTable = r
  generalize ht : t.dramRead a 64 clsTable = r'
  obtain ⟨bs, err, s₁⟩ := r
  obtain ⟨bs', err', t₁⟩ := r'
  obtain ⟨rfl, rfl, h₁⟩ := h.dramRead hs ht
  dsimp only
  rw [h₁.dramFits]
  generalize hs₁ : s₁.dramRead (a + 64) _ clsTable = r
  generalize ht₁ : t₁.dramRead (a + 64) _ clsTable = r'
  obtain ⟨code, err, s₂⟩ := r
  obtain ⟨code', err', t₂⟩ := r'
  obtain ⟨rfl, rfl, -⟩ := h₁.dramRead hs₁ ht₁
  exact fst_ite_congr rfl (fst_ite_congr rfl (fst_ite_congr rfl (fst_ite_congr rfl (fst_ite_congr rfl
    (fst_ite_congr rfl (fst_ite_congr rfl rfl))))))

end State.Twin

end Sys2Proof.Machine
end

section
namespace Sys2Proof.Machine
open Sys2Proof

variable {s t u : State} {q x j : Nat} {n : Nib}

/-! ### The end of a kernel load (R299, R300) -/

/-- What one element of a list brings about and no element undoes, holds after a fold. -/
theorem foldl_of_mem {α : Type} {l : List α} {a : α} {step : State → α → State} {P : State → Prop} (ha : a ∈ l)
    (hset : ∀ t, P (step t a)) (hkeep : ∀ t b, P t → P (step t b)) : P (l.foldl step s) := by
  induction l generalizing s with
  | nil => exact absurd ha List.not_mem_nil
  | cons b l ih =>
    obtain rfl | ha := List.mem_cons.1 ha
    · exact List.foldlRecOn l step (hset s) fun t ht c _ => hkeep t c ht
    · exact ih ha

/-- The slots whose nibs a load serves. -/
def State.loadSlots (s : State) (q : Nat) : List Nat :=
  ((List.range 16).filter (bitAt (s.rd (QUILL_LOAD_MASK q)))).filterMap (s.slotFor q)

theorem slotFor_of_rd {l : Nat} (h : ∀ y < 17, t.roleOf q y = s.roleOf q y) : t.slotFor q l = s.slotFor q l :=
  firstIdx_congr fun y hy => congrArg (· == l) (h y hy)

theorem loadSlots_busy (s : State) (q v : Nat) : (s.wr (QUILL_LOAD_BUSY q) v).loadSlots q = s.loadSlots q := by
  have hslot : (s.wr (QUILL_LOAD_BUSY q) v).slotFor q = s.slotFor q :=
    funext fun l => slotFor_of_rd fun y _ => rd_wr_apart _ _ _ _ Fld.quill_apart_slot
  have hmask : (s.wr (QUILL_LOAD_BUSY q) v).rd (QUILL_LOAD_MASK q) = s.rd (QUILL_LOAD_MASK q) :=
    rd_wr_apart _ _ _ _ Fld.apart_element
  rw [State.loadSlots, hslot, hmask, State.loadSlots]

/-- The slot is no longer LOADING. -/
def State.loadedSlot (q : Nat) (s : State) (x : Nat) : State :=
  if s.slotState q x = slotLoading then s.setSlotState q x slotIdle else s

/-- The load is no longer in progress. -/
def State.loadEnds (s : State) (q : Nat) : State :=
  ((s.wr (QUILL_LOAD_BUSY q) 0).loadSlots q).foldl (State.loadedSlot q) (s.wr (QUILL_LOAD_BUSY q) 0)

/-- The nibs in some slots take the image that a load has found, or show that there is none. -/
def State.loadResult (q : Nat) (slots : List Nat) : Except Nat (Nat × List Nat) × State → State
  | (.ok (id, ws), s) => slots.foldl (fun s x => s.loadCode q x ws) (s.wr (QUILL_LOAD_INFO q) id)
  | (.error r, s) => ((slots.foldl (fun s x => s.wr (QUILL_SLOT_STATUS_IMAGE_VALID q x) 0) s).set1
      (QUILL_STATUS_LOAD_ERR q)).fault (srcQuill q) 0x4010 (slot1 q ++ slot1 r)

/-- The image is held by a name while the definitions unfold, as in `spareCode_eq`. -/
theorem kernelLoadDone_eq {q : Fin 12} (hbusy : s.on (QUILL_LOAD_BUSY q) = true) :
    exec (.kernelLoadDone q) s = .next (State.loadResult q (s.loadSlots q)
      ((s.loadEnds q).kernelImage ((s.loadEnds q).rd (QUILL_LOAD_SRC q)))) := by
  rw [exec_kernelLoadDone, ← loadSlots_busy s q 0]
  obtain ⟨image, himage⟩ := exists_eq' (a' := State.kernelImage)
  obtain ⟨done, hdone⟩ := exists_eq' (a' := execKernelLoadDone)
  rw [hdone, himage]
  delta execKernelLoadDone at hdone
  rw [himage] at hdone
  subst hdone
  refine (if_neg (by simp [hbusy])).trans ?_
  change (match image (s.loadEnds q) ((s.loadEnds q).rd (QUILL_LOAD_SRC q)) with
    | (.ok (id, ws), t) => _
    | (.error r, t) => _) = _
  generalize image (s.loadEnds q) ((s.loadEnds q).rd (QUILL_LOAD_SRC q)) = r
  obtain ⟨found, t⟩ := r
  cases found <;> rfl

theorem mem_loadSlots {l k : Nat} (hl : l ∈ List.range 16) (hmask : bitAt (s.rd (QUILL_LOAD_MASK q)) l = true)
    (hslot : s.slotFor q l = some k) : k ∈ s.loadSlots q :=
  List.mem_filterMap.2 ⟨l, List.mem_filter.2 ⟨hl, hmask⟩, hslot⟩

theorem rd_loadedSlot {f : Fld} (hf : (QUILL_SLOT_STATUS_STATE q x).apart f) :
    (s.loadedSlot q x).rd f = s.rd f := by
  unfold State.loadedSlot
  split
  · exact rd_wr_apart _ _ _ _ hf
  · rfl

theorem twin_loadedSlot (h : s.Twin t) : s.Twin (t.loadedSlot q x) := by
  unfold State.loadedSlot
  split
  · exact h.wr_right (by simp only [QUILL_SLOT_STATUS_STATE]; omega)
  · exact h

theorem twin_loadEnds (s : State) (q : Nat) : s.Twin (s.loadEnds q) :=
  List.foldlRecOn (motive := s.Twin) _ _
    ((State.Twin.refl s).wr_right (by simp only [QUILL_LOAD_BUSY]; omega)) fun _ h _ _ => twin_loadedSlot h

theorem loadEnds_inLog (s : State) (q : Nat) : s.InLog (s.loadEnds q) := by
  have htop : (s.loadEnds q).top = s.top := by rw [(twin_loadEnds s q).frame]
  rw [State.InLog, htop]
  exact (twin_loadEnds s q).frame

/-- The end of a load writes nothing else of the quill's first 256 bytes. -/
theorem rd_loadEnds {lsb w base : Nat}
    (h : 0x400000 * 8 ≤ base * 8 + lsb ∧ base * 8 + lsb + w ≤ 0x400100 * 8 := by decide) :
    (s.loadEnds q).rd ⟨base + 0x40000 * q, lsb, w⟩ = (s.wr (QUILL_LOAD_BUSY q) 0).rd ⟨base + 0x40000 * q, lsb, w⟩ :=
  foldl_eq_of_step (·.rd _) fun _ _ _ => rd_loadedSlot (Fld.slot_apart_quill (h' := h))

theorem rd_loadEnds_busy (s : State) (q : Nat) : (s.loadEnds q).rd (QUILL_LOAD_BUSY q) = 0 :=
  (rd_loadEnds).trans (rd_wr_flag s _ 17 false)

theorem rd_loadEnds_src (s : State) (q : Nat) : (s.loadEnds q).rd (QUILL_LOAD_SRC q) = s.rd (QUILL_LOAD_SRC q) :=
  (rd_loadEnds).trans (rd_wr_apart _ _ _ _ Fld.apart_element)

/-- A load that is over finds the image that it found in progress. -/
theorem kernelImage_loadEnds (s : State) (q : Nat) :
    ((s.loadEnds q).kernelImage ((s.loadEnds q).rd (QUILL_LOAD_SRC q))).1 =
      (s.kernelImage (s.rd (QUILL_LOAD_SRC q))).1 := by
  rw [rd_loadEnds_src, (twin_loadEnds s q).kernelImage]

theorem kernelImage_unfit {a : Nat} (h : s.dramFits a 64 = false) : s.kernelImage a = (.error 4, s) :=
  if_pos (by rw [h]; rfl)

theorem kernelLoadDone_unfit {q : Fin 12} (hbusy : s.on (QUILL_LOAD_BUSY q) = true)
    (hfits : s.dramFits (s.rd (QUILL_LOAD_SRC q)) 64 = false) : exec (.kernelLoadDone q) s =
      .next (State.loadResult q (s.loadSlots q) (.error 4, s.loadEnds q)) := by
  have hunfit : (s.loadEnds q).dramFits ((s.loadEnds q).rd (QUILL_LOAD_SRC q)) 64 = false := by
    rw [rd_loadEnds_src, (twin_loadEnds s q).dramFits, hfits]
  rw [kernelLoadDone_eq hbusy, kernelImage_unfit hunfit]

/-- The code that a slot has taken. -/
theorem loadCodes_taken {slots : List Nat} {ws : List Nat} (hx : x ∈ slots) :
    (slots.foldl (fun s x => s.loadCode q x ws) s).rd (QUILL_SLOT_STATUS_IMAGE_VALID q x) = 1 ∧
      ((slots.foldl (fun s x => s.loadCode q x ws) s).nib q x).words = ws.length := by
  have hset (t : State) : (t.loadCode q x ws).rd (QUILL_SLOT_STATUS_IMAGE_VALID q x) = 1 ∧
      ((t.loadCode q x ws).nib q x).words = ws.length := ⟨rd_wr_flag _ _ 14 true, nib_loadCode ..⟩
  refine foldl_of_mem (P := fun t => t.rd (QUILL_SLOT_STATUS_IMAGE_VALID q x) = 1 ∧ (t.nib q x).words = ws.length)
    hx hset fun t y ht => ?_
  obtain rfl | hne := eq_or_ne y x
  · exact hset t
  · refine ⟨(rd_loadCode (Fld.slots_apart hne)).trans ht.1, (congrArg Nib.words ?_).trans ht.2⟩
    exact (nib_of_quill (wr_quill ..) q x).trans (nib_setNib_ne _ _ hne)

theorem rd_loadCodes {slots : List Nat} {ws : List Nat} {lsb w base : Nat}
    (h : 0x400000 * 8 ≤ base * 8 + lsb ∧ base * 8 + lsb + w ≤ 0x400100 * 8 := by decide) :
    (slots.foldl (fun s x => s.loadCode q x ws) s).rd ⟨base + 0x40000 * q, lsb, w⟩ =
      s.rd ⟨base + 0x40000 * q, lsb, w⟩ :=
  foldl_eq_of_step (·.rd _) fun _ _ _ => rd_loadCode (Fld.slot_apart_quill (h' := h))

theorem loadResult_ok {slots : List Nat} {id : Nat} {ws : List Nat} {r : Except Nat (Nat × List Nat) × State}
    (hr : r.1 = .ok (id, ws)) (hread : s.Aside r.2) :
    (State.loadResult q slots r).rd (QUILL_LOAD_BUSY q) = s.rd (QUILL_LOAD_BUSY q) ∧
      (State.loadResult q slots r).rd (QUILL_LOAD_INFO q) = id % 2 ^ 32 ∧
      ∀ k ∈ slots, (State.loadResult q slots r).rd (QUILL_SLOT_STATUS_IMAGE_VALID q k) = 1 ∧
        ((State.loadResult q slots r).nib q k).words = ws.length := by
  obtain ⟨found, t⟩ := r
  obtain rfl : found = .ok (id, ws) := hr
  refine ⟨?_, ?_, fun k hk => loadCodes_taken hk⟩
  · calc
      _ = _ := rd_loadCodes
      _ = _ := rd_wr_apart _ _ _ _ Fld.apart_element
      _ = _ := hread.rd _ (by dsimp only; omega)
  · exact (rd_loadCodes).trans (rd_wr_same t (QUILL_LOAD_INFO q) id (by simp [QUILL_LOAD_INFO]))

theorem loadResult_error {slots : List Nat} {r : Nat} :
    (State.loadResult q slots (.error r, s)).rd (QUILL_LOAD_BUSY q) = s.rd (QUILL_LOAD_BUSY q) ∧
      (State.loadResult q slots (.error r, s)).rd (QUILL_STATUS_LOAD_ERR q) = 1 ∧
      (∀ k ∈ slots, (State.loadResult q slots (.error r, s)).rd (QUILL_SLOT_STATUS_IMAGE_VALID q k) = 0) ∧
      s.InLog (State.loadResult q slots (.error r, s)) := by
  have hfault (f : Fld) (hf : 0x28 ≤ f.off) : (State.loadResult q slots (.error r, s)).rd f =
      ((slots.foldl (fun s x => s.wr (QUILL_SLOT_STATUS_IMAGE_VALID q x) 0) s).set1 (QUILL_STATUS_LOAD_ERR q)).rd f :=
    rd_fault _ _ _ _ _ (faultFlds_apart hf)
  refine ⟨?_, ?_, fun k hk => ?_, ?_⟩
  · calc
      _ = _ := hfault _ (by dsimp only; omega)
      _ = _ := rd_wr_apart _ _ _ _ Fld.apart_element
      _ = _ := foldl_eq_of_step (·.rd _) fun _ _ _ => rd_wr_apart _ _ _ _ Fld.slot_apart_quill
  · exact (hfault _ (by simp only [QUILL_STATUS_LOAD_ERR]; omega)).trans (rd_wr_flag _ _ 7 true)
  · have hset (t : State) : (t.wr (QUILL_SLOT_STATUS_IMAGE_VALID q k) 0).rd (QUILL_SLOT_STATUS_IMAGE_VALID q k) = 0 :=
      rd_wr_flag t _ 14 false
    calc
      _ = _ := hfault _ (by dsimp only; omega)
      _ = _ := rd_wr_apart _ _ _ _ Fld.quill_apart_slot
      _ = 0 := foldl_of_mem (P := fun t => t.rd (QUILL_SLOT_STATUS_IMAGE_VALID q k) = 0) hk hset fun t y ht => by
        obtain rfl | hne := eq_or_ne y k
        · exact hset t
        · exact (rd_wr_apart _ _ _ _ (Fld.slots_apart hne)).trans ht
  · have hslots : s.InLog (slots.foldl (fun s x => s.wr (QUILL_SLOT_STATUS_IMAGE_VALID q x) 0) s) :=
      List.foldlRecOn (motive := s.InLog) _ _ (.refl s) fun _ h _ _ => h.wr
    exact hslots.set1.fault

theorem rd_swapped {a b : Nat} {old : Nib} {l : Int} {h : Handover} {f : Fld} (hf : 0x28 ≤ f.off) :
    (((s.swapNibs q a b old l).dropHand q).recordSpared q h).rd f = s.rd f :=
  (rd_recordSpared hf).trans (rd_dropHand.trans rd_swapNibs)

theorem nib_swapNibs_to {a b : Nat} {old : Nib} {l : Int} (hne : a ≠ b) :
    ((s.swapNibs q a b old l).nib q b).next = some l := by
  unfold State.swapNibs
  rw [nib_setNib_ne _ _ hne, nib_setNib_same]

theorem nib_swapNibs_from {a b : Nat} {old : Nib} {l : Int} : ((s.swapNibs q a b old l).nib q a).next = none := by
  unfold State.swapNibs
  rw [nib_setNib_same]

theorem of_toOption {α ε : Type} {r : Except ε α} {a : α} (h : r.toOption = some a) : r = .ok a := by
  cases r with
  | ok b => exact congrArg Except.ok (Option.some.inj h)
  | error e => cases h

/-- Settles O31: each command by what it writes. A planned swap and the end of a load read an image from DRAM, which
leaves the quills alone (`State.Aside.kernelImage`) and does not see their registers (`State.Twin.kernelImage`); the end
of a handover may change the mode (`State.SlotAs.endDegrade`). -/
theorem quillCommandsRunItsJobs : Obligations.QuillCommandsRunItsJobs := by
  refine ⟨?_, ?_, ?_, ?_, ?_, ?_, ?_, ?_, ?_, ?_, ?_, ?_, ?_, ?_, ?_, ?_⟩
  · intro s q j hoff hcheck
    exact ⟨_, rfl, jobEnable_enabled j.isLt hoff hcheck⟩
  · intro s q j c hoff hcheck hc
    exact ⟨_, rfl, jobEnable_refused hoff hcheck hc⟩
  · intro s q j hon hinit hidle
    exact initRunDone_done hon hinit hidle
  · intro s q k j w cur f hjob hhand hcur hbehalf hresume hqueue hl0 hwins hnew hfill hroom
    exact windowFill_fills hjob hhand hcur hbehalf hresume hqueue hl0 hwins hnew hfill hroom
  · intro s q x j l hjob hline hhand hready hqueue hl0 hrun hbehalf hresume hidle hmode _ hlost _
    refine ⟨_, nibInvoke_runs hjob hline hhand hready hqueue hl0 hrun hbehalf hresume hidle hmode hlost, ?_⟩
    obtain ⟨quill, pos, hinvoke⟩ := invoke_setNib_frame (s := s) (q := q) (x := x) (n := (s.nib q x).takes l)
      (j := j) (l := l)
    rw [hinvoke, nib_startRun]
    exact ⟨rfl, rfl, rd_congr rfl _, rfl, slotState_startRun, fun f hf => (keeps_startRun f hf).trans (rd_congr rfl f),
      startRun_frame⟩
  · intro s q x j hdraft hslot hjob hqueue hinit hrun hidle hmode
    obtain ⟨line, hexec⟩ := queueInvoke_runs hdraft hslot hjob hqueue hinit hrun hidle hmode
    refine ⟨_, hexec, ?_, ?_, slotState_startRun, ?_⟩
    · rw [nib_startRun]
      rfl
    · rw [nib_startRun]
      exact rd_congr rfl _
    · rw [freeCount_startRun]
      exact startRun_frame
  · intro s q x j hstopped hjob
    refine ⟨_, nibRestart_starts hstopped hjob, ?_, ?_, slotState_startInit ..,
      keeps_startInit s q x j true, startInit_frame ..⟩
    · rw [nib_startInit]
      rfl
    · rw [nib_startInit]
      rfl
  · intro s q x readable hlim
    obtain ⟨n, hexec⟩ := nibSram_corrected (q := q) (x := x) (readable := readable) hlim
    exact ⟨_, hexec, (rd_setNib ..).trans (rd_sramCorrected_slot ..), (rd_setNib ..).trans (rd_sramCorrected_quill ..),
      State.keeps_setNib (keeps_sramCorrected s q x 1)⟩
  · intro s q x readable hjob hrole
    exact nibSram_fails hjob hrole
  · intro s q h hhand hplanned hcopied hrun hresume hbehalf hto hjob
    exact ⟨_, nibSpared_ends hhand hplanned hcopied hrun hresume hbehalf hjob, nibSpared_idle hto⟩
  · intro s q y j x hjob hspare hhand hfailed hl0
    obtain ⟨hrole, hnow⟩ := spareCode_keeps s q x y
    refine ⟨_, spareNow_begins hjob hspare hhand hfailed hl0, ?_, ?_, slotState_startInit ..⟩
    · rw [nib_startInit]
      rfl
    · rw [hand_startInit, hand_beginSwap, hrole, hnow]
  · intro s q h j l hhand hplanned hne hto _ hlogical hjob hnext hfrom hrun hfull
    refine ⟨_, plannedNibTakeover_swaps hhand hplanned hjob hnext hfrom hrun hfull, ?_, ?_, ?_, ?_, ?_, ?_⟩
    · exact (rd_swapped (by simp only [QUILL_SLOT_STATUS_ROLE]; omega)).trans (roleOf_swapped_to hne hlogical)
    · exact (rd_swapped (by simp only [QUILL_SLOT_STATUS_ROLE]; omega)).trans (roleOf_swapped_from hne)
    · rw [nib_recordSpared, nib_dropHand, nib_swapNibs_to hne]
    · rw [nib_recordSpared, nib_dropHand, nib_swapNibs_from]
    · rw [quillAt_recordSpared, hand_dropHand]
    · exact (rd_swapped (by simp only [QUILL_SLOT_STATUS_STATE]; omega)).trans (slotState_swapped hne)
  · intro s q hbusy hoff
    exact kernelLoadGo_loads hbusy hoff
  · intro s q j hj hon hmask
    exact kernelLoadGo_rejects hj hon hmask
  · intro s q id ws hbusy himage
    have hfound : (s.kernelImage (s.rd (QUILL_LOAD_SRC q))).1 = .ok (id, ws) := of_toOption himage
    obtain ⟨hbusy', hinfo, hcode⟩ := loadResult_ok (q := q) (slots := s.loadSlots q)
      ((kernelImage_loadEnds s q).trans hfound) (State.Aside.kernelImage (.refl _))
    refine ⟨_, kernelLoadDone_eq hbusy, hbusy'.trans (rd_loadEnds_busy ..), hinfo,
      fun l hl hmask k _ hslot => hcode k (mem_loadSlots hl hmask hslot)⟩
  · intro s q hbusy hfits
    obtain ⟨hbusy', herr, hvalid, hlog⟩ := loadResult_error (s := s.loadEnds q) (q := q) (r := 4)
      (slots := s.loadSlots q)
    exact ⟨_, kernelLoadDone_unfit hbusy hfits, hbusy'.trans (rd_loadEnds_busy ..), herr,
      fun l hl hmask k _ hslot => hvalid k (mem_loadSlots hl hmask hslot), (loadEnds_inLog s q).trans hlog⟩

end Sys2Proof.Machine
end
